-- ==== Sys2Proof/Word.lean ====
section
/-!
DEFINITION. The words of the SX9-256: a register is 32 bits wide (R3), a memory cell is one byte.
-/

namespace Sys2Proof

/-- A register value: 32 bits, little-endian (R3). -/
abbrev Word := BitVec 32

/-- One byte of memory. -/
abbrev Byte := BitVec 8

/-- A 64-bit quantity held in a low/high register pair (R4, R5). -/
abbrev DWord := BitVec 64

end Sys2Proof
end

