-- ==== Sys2Proof/Syntax.lean ====
section
/-!
DEFINITION. The commands: one constructor for each row of spec/opcode_table.json, in its order, with the
operands the environment brings: the unit it acts on, the value written or read, the time elapsed, a
reading. A command is data; its meaning is in Machine/.
-/

namespace Sys2Proof

/-- Who makes a register access (R4): the host, a site core, a management core, the REGWR of a DMA
channel, the loader of profile records. -/
inductive Init where
  | host
  | score (n : Nat)
  | mcore (n : Nat)
  | regwr (channel : Nat)
  | profile
  deriving DecidableEq, Repr

/-- A condition of R104: the link is down, PERST# is asserted, Bus Master Enable is clear, the function
is in D3hot. -/
inductive HoldCond where
  | linkDown
  | perst
  | bmeClear
  | d3hot
  deriving DecidableEq, Repr

/-- A new value that a calibration domain has computed for a unit (Table 13.2): the trim of the time base in
ppb, OFS and GAIN of an item of a calibration table, a corrected TDC fine value in 1/16 LSB, OFS and GAIN of
a channel's level correction, its deskew in ET, the tap of a drive or compare residue. -/
inductive CalVal where
  | trim (ppb : Int)
  | table (item : Nat) (ofs gain : Int)
  | fine (code value : Nat)
  | lcal (k : Nat) (ofs gain : Int)
  | skew (dr df cmp : Int)
  | tapD (r tap : Nat)
  | tapS (r tap : Nat)
  deriving DecidableEq, Repr

/-- The readings of a reference check (R330, R331): REFV and REFT present, REFT edges spread over the TCLK
phase, the measured REFV in µV and REFT period in fs. -/
structure RefCheck where
  refv : Bool
  reft : Bool
  spread : Bool
  uv : Int
  fs : Nat
  deriving DecidableEq, Repr

/-- A control word in the stream (R171). -/
inductive Ctl where
  | tset (s : Nat)
  | lset (k : Nat)
  | sig (kind n : Nat)
  deriving DecidableEq, Repr

/-- A vector of the look-ahead or of a link block: its number (given at emission), row (none for a hold
vector) and the row's bytes, the instruction that emitted it, BANK, timing set, the MATCH iterations it lies in
(MATCH and iteration number, innermost first; R174) and the MATCHes of which it begins an iteration, what its number must
be a multiple of (R160), the control words before it and how many of them come before the iteration or wait it follows
(R171), and the SCLK before which it is not emitted (R167; once it is emitted, its result time, R166). -/
structure Vec where
  num : Nat
  row : Option Nat
  bytes : List Byte
  instr : Nat
  bank : Bool
  tset : Nat
  iter : List (Nat × Nat)
  first : List Nat
  align : Nat
  ctl : List Ctl
  pre : Nat
  after : Nat
  deriving DecidableEq, Repr

/-- A request that waits at a GDDR7 channel (R31, R356): its group, whether it is a refill, whether a
DMA channel makes it, its physical address and length within one 64-byte burst, and the bytes of a write. -/
structure MemReq where
  group : Nat
  refill : Bool
  dma : Bool
  addr : Nat
  len : Nat
  data : Option (List Byte)
  deriving DecidableEq, Repr


/-- What a core's access does (R136): a load, an instruction fetch, a store, LR, SC of bytes, or an AMO that writes the bytes
the core has computed. -/
inductive CoreAcc where
  | load
  | fetch
  | store (data : List Byte)
  | lr
  | sc (data : List Byte)
  | amo (data : List Byte)
  deriving DecidableEq, Repr

/-- What a training attempt finds on a lane of the Site Link (R375, R376): its FOM, whether it is received inverted, the
precoding the receiver asks for, and the group and position its markers name. -/
structure LaneRes where
  lane : Nat
  fom : Nat
  inv : Bool
  precode : Bool
  group : Nat
  pos : Nat
  deriving DecidableEq, Repr

/-- A token frame of the partner's pin die (R397): a burst token of a port, the FAIL condition of a vector, a MATCH
iteration judged on selected channels, or the result of a node on a unit of the die. -/
inductive TokenFrame where
  | burst (port die : Nat) (fail : Bool)
  | failed (port vec : Nat)
  | iteration (port mnum it : Nat) (sel : List (Nat × Bool))
  | result (cls unit status : Nat) (value : DWord) (fail : Bool)
  deriving DecidableEq, Repr

/-- A pin-die or H0 control frame: a node dispatched to a unit of the die by the mirror (R397, R399). -/
structure CtlFrame where
  cls : Nat
  unit : Nat
  site : Nat
  slot : Nat
  node : Nat
  args : List Byte
  deriving DecidableEq, Repr

/-- What a frame brings to H0 over either port (R388): a dispatch, or a list entry of a generator. -/
inductive H0Frame where
  | control (f : CtlFrame)
  | entry (gen seg pass : Nat) (desc bytes : List Byte) (last : Bool)
  deriving DecidableEq, Repr

/-- A completion-ring context of this module as the partner's journal gives it back after HANDOVER (R66, R106): the host's
head and the words of HOST_CQn_BASE_LO, BASE_HI, CFG and STATE. -/
structure RingCtx where
  ring : Nat
  head : Nat
  baseLo : Word
  baseHi : Word
  cfg : Word
  state : Word
  deriving DecidableEq, Repr

/-- A queue's binding as the partner's journal gives it back after HANDOVER (R66, R106): the last QUEUE record and
HALT_ON_INVALID. -/
structure QueueCtx where
  queue : Nat
  head : Nat
  tail : Nat
  sizeLog2 : Nat
  cq : Nat
  base : Nat
  halt : Bool
  deriving DecidableEq, Repr

/-- For how long VIN and VAUX have been within their operating ranges, in ms (R36, R37). -/
structure SupplyTimes where
  vin : Nat
  vaux : Nat
  deriving DecidableEq, Repr

/-- What the host sets with Bus Master Enable: Enable Relaxed Ordering and the addresses of the three BARs (R80, R81). -/
structure PcieSet where
  ero : Bool
  bars : List Nat
  deriving DecidableEq, Repr

/-- What a resync brings: the partner's registers, and what its journal held of this module's rings and bindings (R106, R380). -/
structure Baseline where
  regs : List (Nat × Word)
  rings : List RingCtx
  queues : List QueueCtx
  deriving DecidableEq, Repr

/-- Where a forwarded write goes: the group that wrote, and whether to the DDS-list region (R386). -/
structure FwdTo where
  group : Nat
  shadow : Bool
  deriving DecidableEq, Repr

/-- The vectors of a link block and the control words after the last (Table 16.4). -/
structure BlockBody where
  vecs : List Vec
  tail : List Ctl
  deriving DecidableEq, Repr

/-- The commands of the module. -/
inductive Instr where
  /-- MALFORMED_ACCESS (R3): A register access of the wrong width or alignment is discarded on write and returns 0 on read. -/
  | malformedAccess (init : Init) (off : Nat) (width : Nat) (write : Bool)
  /-- PAIR_LOW_READ (R4): A read of the low word of a 64-bit pair latches the high word for the reading initiator. -/
  | pairLowRead (init : Init) (off : Nat)
  /-- PAIR_LOW_WRITE (R5): A write of the low word of a 64-bit pair stages it for the same initiator without visible effect. -/
  | pairLowWrite (init : Init) (off : Nat) (v : Word)
  /-- PAIR_HIGH_WRITE (R5): A write of the high word applies the 64-bit value using that initiator's staged low word. -/
  | pairHighWrite (init : Init) (off : Nat) (v : Word)
  /-- REGISTER_WRITE (R9): A write to a register that has no row of its own takes effect per its While running entry or is refused. -/
  | registerWrite (init : Init) (off : Nat) (v : Word)
  /-- PLINK_BLOCK_RECEIVE (R16): A pin die receives a link block or its replay over PLINK and checks its CRC. -/
  | plinkBlockReceive (n : Nat) (die : Nat) (block : Nat) (ok : Bool)
  /-- REFILL_BLOCK_COMPLETE (R17): A 64 KiB refill block has been wholly written into the prefetch pool and becomes readable. -/
  | refillBlockComplete (n : Nat) (payload : Bool) (host : List Host.Cell)
  /-- LINK_BLOCK_CLOSE (R18): A link block closes when full or 512 SCLK after its first vector. -/
  | linkBlockClose (n : Nat)
  /-- XING_OVF (R26): A crossing FIFO overruns, setting XING_OVF and taking the fatal path or a machine check. -/
  | xingOvf (k : Nat) (unit : Option (Nat × Nat))
  /-- SRAM_UE (R30): An uncorrectable SRAM error met by its owning unit is handled in its region's class. -/
  | sramUe (a : Nat)
  /-- SRAM_CE (R30): A corrected SRAM error is counted and otherwise invisible. -/
  | sramCe (a : Nat)
  /-- HOST_BAR2_READ (R30): A host BAR2 read returns SRAM data, or poisoned 0xFFFF_FFFF on an uncorrectable error. -/
  | hostBar2Read (off : Nat) (len : Nat)
  /-- HOST_BAR2_WRITE (R29): A host BAR2 write is applied or discarded according to the region's write rule. -/
  | hostBar2Write (off : Nat) (data : List (Option Byte))
  /-- FORWARDED_CLOCK_LOSS (R24): A die's forwarded clock stops and it runs on its holdover clock. -/
  | forwardedClockLoss (d : Nat)
  /-- H0_FRAME_RECEIVE (R388): H0 takes a control entry or frame from whichever port delivers it intact first and discards the duplicate. -/
  | h0FrameReceive (seq : Nat) (secondary : Bool) (intact : Bool) (f : H0Frame)
  /-- VIN_TRIP (R36): VIN crosses a trip point; ports stop, HV and AS outputs disconnect, relays open and PWRGOOD falls. -/
  | vinTrip (high : Bool)
  /-- VAUX_TRIP (R37): VAUX crosses a trip point and the module holds itself in cold reset. -/
  | vauxTrip
  /-- HV_SUPPLY (R39): An HV input stays out of its fault window over 20 µs and H0 is treated as lost. -/
  | hvSupply (i : Nat) (us : Nat)
  /-- H0_SOFT_START (R38): Once all three HV inputs are in window, H0 starts its 2 ms soft-start. -/
  | h0SoftStart (ms : Nat)
  /-- HGND_RANGE (R41): The HGND offset exceeds ±105 V for 1 ms and H0 is treated as lost. -/
  | hgndRange (ofs : Int) (us : Nat)
  /-- RAIL_FAULT (R43): An on-module rail leaves its window over 10 µs and its die's rails switch off. -/
  | railFault (r : Nat) (us : Nat)
  /-- DRIVER_DISCONNECT (R44): A pin die's driver rail leaves its window and its drivers and comparators disconnect within 1 µs. -/
  | driverDisconnect (d : Nat)
  /-- TRIP (R46): A temperature sensor reaches its trip point and its die or device is tripped. -/
  | trip (k : Nat) (t : Int)
  /-- GOVERNOR_SAMPLE (R47): Every 10 µs the governor samples VIN current and temperatures. -/
  | governorSample (mv : Nat) (ma10 : Nat) (temps : List (Nat × Int × Bool))
  /-- LEVEL_RISE (R49): The throttle condition has held long enough and LEVEL rises by one. -/
  | levelRise (us : Nat)
  /-- LEVEL_FALL (R49): The clear condition has held 10 ms and LEVEL falls by one. -/
  | levelFall (us : Nat)
  /-- UNIT_START (R52): The next unit of the start order starts its rails with bounded inrush. -/
  | unitStart (u : Nat)
  /-- START_FAIL (R53): A unit's rails miss their window within four ramp times and the unit is left off. -/
  | startFail (u : Nat)
  /-- ORDERLY_POWER_DOWN (R54): On host command the module stops ports, disconnects outputs, writes back the plate and reverses the start order. -/
  | orderlyPowerDown
  /-- COLD_RESET_RELEASE (R55): Cold reset is released, PROF[1:0] are sampled and profile reading begins. -/
  | coldResetRelease (prof : Nat) (ms : SupplyTimes)
  /-- POWER_STAGE_START (R57): At t1 the core rails begin their ramp and the power stage begins. -/
  | powerStageStart (vinMs : Nat)
  /-- TIMEBASE_LOCK (R58): The time-base PLLs lock on the TCXO and TB_LOCK is set. -/
  | timebaseLock
  /-- PCIE_DETECT (R61): The PCIe endpoint enters Detect after PERST# deassertion and core-die reset release. -/
  | pcieDetect
  /-- FLASH_LOAD_COMPLETE (R138): The flash load of firmware, runtime, control store and tables completes and GO bits are set. -/
  | flashLoadComplete
  /-- GDDR7_TRAINING_COMPLETE (R343): GDDR7 channel training completes and devices come into service. -/
  | gddr7TrainingComplete (bad : Nat)
  /-- PLINK_TRAINED (R58): A PLINK finishes training and its pin die's UP bit is set. -/
  | plinkTrained (d : Nat)
  /-- HLINK_TRAINED (R58): HLINK finishes training and H0_UP is set. -/
  | hlinkTrained
  /-- REFIN_QUALIFIED (R62): REFIN passes 16 ms of presence and window and the time base switches to it. -/
  | refinQualified (det : Nat) (ppb : Int)
  /-- APPLY (R76): Once every present unit has started and trained, the profile's register records are applied in order. -/
  | apply (ms : Nat)
  /-- MRST_ASSERT (R65): MRST# held low causes a cold reset. -/
  | mrstAssert (ns : Nat)
  /-- WARM (R67): A WARM request stops ports, writes completions, puts GDDR7 in self-refresh and resets every die. -/
  | warm (init : Init)
  /-- HANDOVER (R70): A WARM with HANDOVER resets only the core die and GDDR7 while the partner's mirror plays on. -/
  | handover (init : Init)
  /-- COLD (R69): A COLD request performs the orderly steps, switches off every rail and restarts from t0. -/
  | cold (init : Init)
  /-- PERST (R105): PERST# resets the PCIe endpoint and link alone and masks every MSI-X entry. -/
  | perst
  /-- PROFILE_SELECT (R74): Profile select causes a warm reset that loads the named profile. -/
  | profileSelect (init : Init) (prof : Nat)
  /-- PROFILE_WRITE (R75): Profile write takes a slot image from GDDR7 and programs the slot not in use. -/
  | profileWrite (init : Init) (prof : Nat)
  /-- PROFILE_WRITE_DONE (R75): The profile write completes and verifies, setting DONE or ERR. -/
  | profileWriteDone (ok : Bool)
  /-- DOORBELL (R89): An 8-byte doorbell is checked whole and applied or discarded whole. -/
  | doorbell (init : Init) (off : Nat) (size : Nat) (full : Bool) (v : DWord)
  /-- DESCRIPTOR_FETCH (R92): With an on-chip slot free and a completion slot reserved, the fabric issues a descriptor read. -/
  | descriptorFetch (q : Nat) (n : Nat)
  /-- DESCRIPTOR_READ_COMPLETE (R93): A descriptor read returns and its descriptors are placed on the queue, or the queue halts on error. -/
  | descriptorReadComplete (q : Nat) (data : Option (List Byte))
  /-- NOP (R99): A NOP descriptor completes with RESULT 0. -/
  | nop (q : Nat) (k : Nat)
  /-- GRAPH_LAUNCH (R107): A graph image is read, checked and launched as an instance. -/
  | graphLaunch (q : Nat) (k : Nat) (host : List Host.Cell)
  /-- GRAPH_ABORT (R95): A graph abort ends its target with ABORTED or completes late with ABORT_LATE. -/
  | graphAbort (q : Nat) (k : Nat)
  /-- TOKEN_INJECT (R112): A token is placed on an external edge after its COND. -/
  | tokenInject (q : Nat) (k : Nat)
  /-- DMA_LIST (R364): A DMA list descriptor runs a list on a DMA channel. -/
  | dmaList (q : Nat) (k : Nat) (host : List Host.Cell)
  /-- NODE_RUN (R108): A single node runs as a one-node graph of its site. -/
  | nodeRun (q : Nat) (k : Nat) (host : List Host.Cell)
  /-- COMPLETION_WRITE (R97): A 16-byte completion record is written at the ring's TAIL and TAIL advances. -/
  | completionWrite (c : Nat)
  /-- MOD_TIME_EXPIRY (R102): MOD_TIME expires and the completion ring's interrupt becomes due. -/
  | modTimeExpiry (c : Nat) (us : Nat)
  /-- MSIX_SEND (R103): A due interrupt on an unmasked vector with Bus Master Enable sends its MSI-X message. -/
  | msixSend (v : Nat)
  /-- HOLD_CONDITION_BEGIN (R104): Link down, PERST#, BME clear or D3hot stops fetching and holds records and interrupts. -/
  | holdConditionBegin (c : HoldCond)
  /-- HOLD_CONDITION_END (R104): The link returns usable and held records are written in order and fetching resumes. -/
  | holdConditionEnd (c : HoldCond) (speed : Nat) (width : Nat) (mps : Nat) (mrrs : Nat) (host : PcieSet)
  /-- LOAD (R87): LOAD copies the selected queue's binding into the staged fields. -/
  | load (init : Init)
  /-- BIND (R87): BIND binds the selected queue to a submission ring and completion ring. -/
  | bind (init : Init)
  /-- UNBIND (R87): UNBIND removes an idle queue's binding. -/
  | unbind (init : Init)
  /-- RESUME (R93): RESUME restarts fetching of a halted queue from HEAD. -/
  | resume (init : Init)
  /-- BAR4_BASE_WRITE (R84): A write of HOST_BAR4_BASE_HI applies a new aperture base or is discarded with BAR4_RANGE. -/
  | bar4BaseWrite (init : Init) (v : Word)
  /-- BAR4_ACCESS (R83): A BAR4 read or write reaches GDDR7 at BASE plus offset, charged to GROUP. -/
  | bar4Access (off : Nat) (len : Nat) (data : Option (List (Option Byte)))
  /-- CQ_ENABLE (R86): Setting a completion ring's ENABLE resets its TAIL, head and PHASE. -/
  | cqEnable (init : Init) (c : Nat) (v : Word)
  /-- INSTANCE_ACCEPT (R108): A launch waiting for an instance slot is accepted when one frees. -/
  | instanceAccept (q : Nat) (k : Nat) (host : List Host.Cell)
  /-- NODE_FETCH (R108): A node missing from the node cache is fetched through the group's context. -/
  | nodeFetch (i : Nat) (node : Nat) (host : List Host.Cell)
  /-- NODE_COMPLETE (R117): A unit reports a node's completion and the group's deficit is corrected. -/
  | nodeComplete (us : Nat)
  /-- TOKEN_RELEASE (R111): SETTLE after completion, the node's output tokens appear on its edges. -/
  | tokenRelease (i : Nat) (node : Nat) (us : Nat)
  /-- ARBITER_DECISION (R116): A class arbiter picks an eligible entry by weighted deficit round robin and dispatches it. -/
  | arbiterDecision (cls : Nat) (host : List Host.Cell)
  /-- NODE_TIMEOUT (R121): A node's TIMEOUT expires and ends the node and its instance early. -/
  | nodeTimeout (i : Nat) (node : Nat) (us : Nat)
  /-- TIMEOUT (R95): A descriptor's TIMEOUT expires and acts as an abort, ending the target with TIMEOUT. -/
  | timeout (i : Nat) (us : Nat)
  /-- PREEMPT_DONE (R124): The core acknowledges pre-emption and Hatch dispatches the waiting step to it. -/
  | preemptDone (core : Nat) (us : Nat) (host : List Host.Cell)
  /-- PREEMPT_TO (R124): No acknowledgement within PREEMPT_WAIT; the request is withdrawn. -/
  | preemptTo (core : Nat) (us : Nat)
  /-- GROUP_DISABLE (R126): Clearing a group's ENABLE stops new dispatch to it. -/
  | groupDisable (init : Init) (g : Nat)
  /-- GROUP_DISABLE_FLUSH (R127): A group disable with FLUSH also removes every queued entry of the group. -/
  | groupDisableFlush (init : Init) (g : Nat) (weight : Nat)
  /-- GROUP_ENABLE (R128): Re-enabling a group makes its entries eligible and resets its deficits. -/
  | groupEnable (init : Init) (g : Nat) (weight : Nat)
  /-- UNIT_DISABLE (R126): HAT_UCMD disable stops new dispatch to the selected unit. -/
  | unitDisable (init : Init)
  /-- UNIT_DISABLE_FLUSH (R127): HAT_UCMD disable with FLUSH also removes entries eligible only for the unit. -/
  | unitDisableFlush (init : Init)
  /-- UNIT_ENABLE (R128): HAT_UCMD enable makes the unit eligible again and releases it from MCHK. -/
  | unitEnable (init : Init)
  /-- PRIV_RECORD_APPEND (R130): A record is appended to a privileged queue or to its spill region. -/
  | privRecordAppend (q : Nat)
  /-- SPILL_REFILL (R130): Hatch refills a privileged queue's on-chip entries from its spill region in order. -/
  | spillRefill (q : Nat) (host : List Host.Cell)
  /-- PRIV_SET (R129): Setting PRIV on a queue, discarded with PRIV_LIMIT beyond 128. -/
  | privSet (init : Init) (q : Nat)
  /-- TRACE_COPY (R134): Decision-trace records are copied from the on-chip ring to the destination. -/
  | traceCopy
  /-- CORE_DEVICE_ACCESS (R136): A core access to the device window is translated by XLT or raises a precise access fault. -/
  | coreDeviceAccess (c : Nat) (a : Nat) (n : Nat) (acc : CoreAcc) (host : List Host.Cell)
  /-- CORE_BOOT (R138): A core in its boot ROM sees GO set and jumps to local address 0x1000. -/
  | coreBoot (c : Nat)
  /-- SCORE_HOLD (R139): Setting HOLD holds a site core in reset so its memory can be loaded. -/
  | scoreHold (init : Init) (n : Nat)
  /-- SCORE_GO (R139): Setting GO with HOLD cleared releases a site core to boot. -/
  | scoreGo (init : Init) (n : Nat)
  /-- EXIT (R141): Step service EXIT ends the step with its value and flags. -/
  | exit (c : Nat) (value : DWord) (flags : Nat)
  /-- BOUNDARY (R141): Step service BOUNDARY returns and the runtime acts on ABORT, PREEMPT or DRAIN. -/
  | boundary (c : Nat)
  /-- INPUT (R141): Step service INPUT returns an input token value. -/
  | inputCall (c : Nat) (i : Nat)
  /-- TTIME (R141): Step service TTIME returns the test-time count. -/
  | ttimeCall (c : Nat)
  /-- DATALOG (R141): Step service DATALOG appends a 64-byte record to a privileged queue of the group. -/
  | datalog (c : Nat) (q : Nat) (a : Nat) (host : List Host.Cell)
  /-- STEP_EXCEPTION (R143): A user-mode exception ends the step with STEP_FAULT or STEP_XLT_FAULT. -/
  | stepException (c : Nat) (xlt : Bool)
  /-- STEP_KILLED (R144): No DONE within KILL_WAIT after ABORT; the core alone is reset. -/
  | stepKilled (c : Nat) (us : Nat)
  /-- STEP_ECC (R144): An uncorrectable local-memory error resets the core and ends its steps with STEP_ECC. -/
  | stepEcc (c : Nat)
  /-- WATCHDOG_EXPIRY (R147): A management core writes no KICK for WDOG_MS and is reset, or held on a second expiry. -/
  | watchdogExpiry (k : Nat)
  /-- KICK (R147): KICK restarts a management core's watchdog period. -/
  | kick (init : Init) (n : Nat)
  /-- MCORE_HOLD (R147): Setting HOLD holds a management core in reset. -/
  | mcoreHold (init : Init) (n : Nat)
  /-- MCORE_GO (R147): GO with HOLD cleared releases a management core. -/
  | mcoreGo (init : Init) (n : Nat)
  /-- MGMT_LOAD_UPDATE (R146): Every 10 ms each management core's load percentage is updated. -/
  | mgmtLoadUpdate (loads : List Nat)
  /-- SHED_RISE (R146): Load at or above SHED_HI for 100 ms raises SHED. -/
  | shedRise (ms : Nat)
  /-- SHED_FALL (R146): Load at or below SHED_LO for 1 s lowers SHED. -/
  | shedFall (ms : Nat)
  /-- MICROWORD_EXECUTE (R148): A sequencer executes one control-store word after its parity and span checks. -/
  | microwordExecute (n : Nat) (k : Nat) (us : Nat)
  /-- SCRUB (R149): The background scrub reads one control-store word and sets SCRUB_ERR on a parity error. -/
  | scrub (w : Nat)
  /-- CHECK (R151): CHECK verifies the control store and computes MCS_CRC. -/
  | check (init : Init)
  /-- RELOAD (R151): RELOAD copies the profile's control-store image and runs the checks. -/
  | reload (init : Init)
  /-- CHECK_COMPLETE (R151): CHECK or RELOAD finishes and LOADED or the BAD flags are set. -/
  | checkComplete
  /-- FIRST_EMISSION (R186): The first vector is emitted once the first blocks are readable and a lane group is ready. -/
  | firstEmission (n : Nat) (ofs : Nat)
  /-- VEC (R162): VEC emits COUNT rows from PP and advances PP. -/
  | vec (n : Nat) (k : Nat)
  /-- RPT (R162): RPT emits row PP COUNT times and advances PP by one. -/
  | rpt (n : Nat) (k : Nat)
  /-- LOOP (R163): LOOP opens a loop level, possibly resident. -/
  | loop (n : Nat)
  /-- ENDL (R163): ENDL closes an iteration, repeats or pops the innermost level. -/
  | endl (n : Nat)
  /-- CALL (R164): CALL pushes a call frame and jumps. -/
  | call (n : Nat)
  /-- RET (R164): RET pops the call frame and restores PC and PP. -/
  | ret (n : Nat)
  /-- JMP (R165): JMP pops POP levels and jumps. -/
  | jmp (n : Nat)
  /-- JCC (R165): JCC tests a condition and jumps when it holds. -/
  | jcc (n : Nat)
  /-- MATCH (R174): MATCH opens a match level and starts iterating its body. -/
  | matchInstr (n : Nat)
  /-- WTRG (R169): WTRG waits for an edge of the selected source. -/
  | wtrg (n : Nat)
  /-- TSET (R171): TSET sends a control word changing the timing set from the next vector. -/
  | tset (n : Nat)
  /-- LSET (R171): LSET sends a control word requesting a level set. -/
  | lset (n : Nat)
  /-- SIG_PULSE (R171): SIG KIND 0 pulses a TRIG line. -/
  | sigPulse (n : Nat)
  /-- SIG_DRIVE_HIGH (R171): SIG KIND 1 drives a TRIG line's static level high. -/
  | sigDriveHigh (n : Nat)
  /-- SIG_DRIVE_LOW (R171): SIG KIND 2 drives a TRIG line's static level low. -/
  | sigDriveLow (n : Nat)
  /-- SIG_ARM_TDC (R322): SIG KIND 3 arms a TDC at the vector's play time. -/
  | sigArmTdc (n : Nat)
  /-- SIG_TRIGGER_AQ (R171): SIG KIND 4 triggers an AQ input. -/
  | sigTriggerAq (n : Nat)
  /-- SIG_SET_FLAG (R171): SIG KIND 5 sets a user flag at the execution stage. -/
  | sigSetFlag (n : Nat)
  /-- SIG_CLEAR_FLAG (R171): SIG KIND 6 clears a user flag at the execution stage. -/
  | sigClearFlag (n : Nat)
  /-- SYNC (R170): SYNC arrives at a barrier and waits for the other members. -/
  | sync (n : Nat)
  /-- HOLD_ON (R172): HOLD with ON opens a HOLD region with a hold vector. -/
  | holdOn (n : Nat)
  /-- HOLD_OFF (R172): HOLD with ON clear closes the HOLD region. -/
  | holdOff (n : Nat)
  /-- END (R173): END completes the burst after its last vector has played. -/
  | endBurst (n : Nat)
  /-- RESULT_WAIT_END (R167): A result wait reaches its latest result time and its decision is taken. -/
  | resultWaitEnd (n : Nat)
  /-- WTRG_TIMEOUT (R169): A WTRG timeout expires, ending the wait or stopping the burst. -/
  | wtrgTimeout (n : Nat) (us : Nat) (ofs : Nat)
  /-- SYNC_TIMEOUT (R170): A barrier member's timeout expires and every waiting member stops. -/
  | syncTimeout (n : Nat) (us : Nat)
  /-- MATCH_EXIT (R175): A met iteration's result time is reached and the MATCH exits MATCHED. -/
  | matchExit (n : Nat)
  /-- LANE_GROUP_EMIT (R159): The emission stage emits one lane group into link blocks. -/
  | laneGroupEmit (n : Nat)
  /-- PAUSE (R187): Setting PAUSE pauses the burst at the next commit point in a HOLD region. -/
  | pause (init : Init) (n : Nat)
  /-- PAUSE_CLEAR (R187): Clearing PAUSE resumes execution or cancels a pending pause. -/
  | pauseClear (init : Init) (n : Nat)
  /-- HALT (R188): HALT stops the burst at the next commit point. -/
  | halt (init : Init) (n : Nat)
  /-- CLR_MCHK (R188): CLR_MCHK returns a sequencer from MCHK to IDLE. -/
  | clrMchk (init : Init) (n : Nat)
  /-- BURST_COMPLETE (R190): The burst's last vector has played and its token reached Proof; it completes. -/
  | burstComplete (n : Nat)
  /-- TPER_WRITE (R195): A period write is copied to both pin dies. -/
  | tperWrite (init : Init) (n : Nat) (k : Nat) (v : Word)
  /-- VECTOR_PLAY (R196): The pin die plays a vector at its cycle start through its timing set. -/
  | vectorPlay (n : Nat) (die : Nat) (samples : List Int)
  /-- STROBE_JUDGEMENT (R213): A strobe or window judges the pin state against the vector's code. -/
  | strobeJudgement (ch : Nat) (obs : List (Int × Nat))
  /-- GAP (R225): Once its buffer has room, the pin die sends a GAP record counting dropped records. -/
  | gap (n : Nat) (die : Nat)
  /-- PROOF_RECORD_RECEIVE (R224): Proof receives a record and writes it into the port's ring in order. -/
  | proofRecordReceive (n : Nat)
  /-- BURST_TOKEN (R220): A burst's pass/fail token reaches Proof after its last record. -/
  | burstToken (n : Nat) (die : Nat)
  /-- SPILL_COPY (R228): In STREAM mode a ring record is copied to the spill region and RD advances on acknowledgement. -/
  | spillCopy (n : Nat)
  /-- TRACE_HEADER_WRITE (R233): After the last sample the pin die writes its trace half header. -/
  | traceHeaderWrite (n : Nat) (die : Nat)
  /-- RD_WRITE (R236): A write of a ring's RD consumes records or is discarded with RD_RANGE. -/
  | rdWrite (init : Init) (n : Nat) (v : Word)
  /-- SRD_WRITE (R236): A write of SRD consumes spilled records and resumes paused spilling. -/
  | srdWrite (init : Init) (n : Nat) (v : Word)
  /-- FCNT_WRITE (R239): A write of CHn_FCNT sets the count at once and resets FFIRST. -/
  | fcntWrite (init : Init) (ch : Nat) (v : Word)
  /-- CAPTURE_RETURN_RECORD (R237): A record from the partner's pin die is stored in a mirror ring. -/
  | captureReturnRecord (n : Nat) (record : List Byte)
  /-- LEVEL_QUEUE_APPLY (R249): At a sample edge a level queue applies up to four due entries. -/
  | levelQueueApply (q : Nat)
  /-- CH_LQCMD (R248): A host write of CH_LQCMD queues a level set for a bank. -/
  | chLqcmd (init : Init) (d : Nat) (v : Word)
  /-- HV_LQCMD (R248): A host write of HV_LQCMD queues an HV set. -/
  | hvLqcmd (init : Init) (v : Word)
  /-- RELAY_LQCMD (R248): HV_LQCMD with RELAY queues a relay set on LQ20. -/
  | relayLqcmd (init : Init) (v : Word)
  /-- LIM (R243): An LV driver, termination or clamp limits for 1 µs and LIM is set. -/
  | lim (ch : Nat) (us : Nat)
  /-- CONN_WRITE (R244): A write of CONN opens or closes the pin switch within 20 µs. -/
  | connWrite (init : Init) (ch : Nat) (on : Bool)
  /-- PMU_MEAS_COMPLETE (R254): The measurement's conversions end and the node completes with its result word. -/
  | pmuMeasComplete (c : Nat) (raws : List Int) (lsb : Nat) (limit : Bool) (ovr : Bool)
  /-- PMU_OFF (R256): PMU_OFF turns a channel's PMU off at once. -/
  | pmuOff (init : Init) (ch : Nat)
  /-- ILIM (R258): An HV output delivers its limit for 1 µs and ILIM is set. -/
  | ilim (h : Nat) (us : Nat)
  /-- LIMOFF_TRIP (R258): With LIMIT_OFF an HV output at its limit for 10 ms is disabled. -/
  | limoffTrip (h : Nat) (us : Nat)
  /-- HV_ENABLE_WRITE (R259): A write of HV EN enables or disables an output, tested against the budget. -/
  | hvEnableWrite (init : Init) (h : Nat) (on : Bool)
  /-- RANGE_CHANGE_END (R261): 12 µs after a range change the new range engages and held entries apply. -/
  | rangeChangeEnd (u : Nat)
  /-- RELAY_OVERCURRENT (R265): A relay line over 100 mA for 10 µs is turned off. -/
  | relayOvercurrent (i : Nat) (us : Nat)
  /-- H0_SILENCE (R267): No valid frame on either H0 control port for 2 ms; H0 acts as lost. -/
  | h0Silence (us : Nat)
  /-- WAVE_START (R274): At t0 the generator generates sample 0 once its start condition is met. -/
  | waveStart (n : Nat)
  /-- LIST_ENTRY_FETCH (R270): A list entry or descriptor is fetched to H0 ahead of generation. -/
  | listEntryFetch (n : Nat)
  /-- PASS_END (R275): A pass through a segment ends and playback repeats, moves to NEXT, jumps or stops. -/
  | passEnd (n : Nat)
  /-- JUMP_GO (R276): GO latches a jump request to segment SEG. -/
  | jumpGo (init : Init) (n : Nat) (v : Word)
  /-- DDS_STOP (R278): STOP requests a stop at the end of the pass in progress. -/
  | ddsStop (init : Init) (n : Nat)
  /-- PLAYBACK_END (R278): The last sample reaches its output instant and the WAVE_PLAY node completes. -/
  | playbackEnd (n : Nat)
  /-- SWTRIG (R274): SWTRIG raises trigger source 0x60 for a generator. -/
  | swtrig (init : Init) (n : Nat)
  /-- AQ_SWTRIG (R291): AQ_SWTRIG raises trigger source 0x60 for the selected AQ inputs. -/
  | aqSwtrig (init : Init) (mask : Nat)
  /-- MARKER_FIRE (R281): A marker fires at its entry's first output instant and pulses its TRIG lines. -/
  | markerFire (n : Nat)
  /-- SYNCIN_EDGE (R282): A SYNCIN rising edge with ARM set establishes epoch 0. -/
  | syncinEdge (ofs : Nat)
  /-- FIRE (R297): FIRE drives a 100 ns pulse on SYNCOUT. -/
  | fire (init : Init)
  /-- AS_CMD (R286): A write of ASn_CMD queues an AS command entry. -/
  | asCmd (init : Init) (n : Nat) (v : Word)
  /-- AS_COMMAND_APPLY (R286): An AS command entry is applied at a level sample edge. -/
  | asCommandApply (n : Nat)
  /-- CLIM (R288): An AS output at its clamp for 1 µs sets CLIM. -/
  | clim (n : Nat) (us : Nat)
  /-- CLIMOFF_TRIP (R288): With CLIM_OFF an AS output at its clamp for 10 ms is disabled. -/
  | climoffTrip (n : Nat) (us : Nat)
  /-- DEV (R289): An AS sense deviation beyond threshold for DEV_US sets DEV. -/
  | dev (n : Nat) (mv : Nat) (us : Nat)
  /-- AQ_WORD (R290): An averaging interval ends and one acquisition word is produced. -/
  | aqWord (n : Nat) (samples : List Int) (ovr : Bool)
  /-- AQ_RECORD_COPY (R292): After the last word the record is copied to DEST and its header written. -/
  | aqRecordCopy (n : Nat) (k : Nat)
  /-- TRIG_EDGE_DETECT (R297): A detected edge on a TRIG, XTRIG or SYNCIN input is delivered to its users. -/
  | trigEdgeDetect (l : Nat) (level : Bool) (ofs : Nat)
  /-- TRIG_SET (R296): TRIG_STATE SET sets a line's static level. -/
  | trigSet (init : Init) (l : Nat)
  /-- TRIG_CLR (R296): TRIG_STATE CLR clears a line's static level. -/
  | trigClr (init : Init) (l : Nat)
  /-- PULSE_END (R296): A SIG or marker pulse reaches its end. -/
  | pulseEnd (l : Nat)
  /-- REFIN_LOSS (R299): Active REFIN loses presence or window and the PLLs enter holdover. -/
  | refinLoss (window : Bool)
  /-- REFIN_REQUALIFY (R300): REFIN qualifies again and the PLLs leave holdover, pulling in slowly. -/
  | refinRequalify (det : Nat) (ppb : Int)
  /-- REF_LOCKED (R300): The PLLs come within 1 ppb of REFIN. -/
  | refLocked
  /-- TIMEBASE_SRC_WRITE (R301): A write of SRC requests a time-base source switch. -/
  | timebaseSrcWrite (init : Init) (refin : Bool)
  /-- TIMEBASE_SWITCH (R301): The pending switch starts when units are idle and the source qualified. -/
  | timebaseSwitch
  /-- TB_TRIM_WRITE (R302): A TB_TRIM write starts a frequency ramp to the new trim. -/
  | tbTrimWrite (init : Init) (v : Word)
  /-- DOMAIN_TICK (R304): At each 4 ns tick every time domain adds its effective increment. -/
  | domainTick (n : Nat)
  /-- INC_WRITE (R305): An INC write is accepted from the next tick or refused with INC_RANGE. -/
  | incWrite (init : Init) (k : Nat) (v : Word)
  /-- ADJ_WRITE (R306): An ADJ high-word write requests a step or slew, or is refused. -/
  | adjWrite (init : Init) (k : Nat) (v : Word)
  /-- TD_SET (R308): SET loads SET_SEC and SET_NS at the next tick and sets RUNNING. -/
  | tdSet (init : Init) (k : Nat)
  /-- TD_CLR (R308): CLR clears RUNNING. -/
  | tdClr (init : Init) (k : Nat)
  /-- FRAC_READ (R309): A read of TDk_FRAC latches NS and SEC for the initiator. -/
  | fracRead (init : Init) (k : Nat)
  /-- SNAPSHOT_GO (R311): GO captures a snapshot or arms one for an edge. -/
  | snapshotGo (init : Init)
  /-- FRAME_RECEIVE (R315): A received frame is filtered, stamped and placed whole in the receive buffer. -/
  | frameReceive (p : Nat) (ps : Nat) (f : List Byte) (fcsOk : Bool)
  /-- RXDATA_READ (R315): A read of RXDATA pops the next receive word. -/
  | rxdataRead (init : Init) (p : Nat)
  /-- RX_FLUSH (R315): RX_FLUSH empties the receive buffer. -/
  | rxFlush (init : Init) (p : Nat)
  /-- TXDATA_WRITE (R316): A TXDATA write adds a header or data word of a frame to transmit. -/
  | txdataWrite (init : Init) (p : Nat) (v : Word)
  /-- FRAME_TRANSMIT (R317): A complete frame is sent and stamped to the queue as requested. -/
  | frameTransmit (p : Nat) (ps : Nat)
  /-- TX_FLUSH (R316): TX_FLUSH discards a partly written frame and resumes TXDATA. -/
  | txFlush (init : Init) (p : Nat)
  /-- TSQ_POP (R317): TSQ_POP removes the head of the transmit-stamp queue. -/
  | tsqPop (init : Init) (p : Nat)
  /-- PORT_MODE_WRITE (R319): A change of MODE or DOMAIN takes effect at the next frame boundary. -/
  | portModeWrite (init : Init) (p : Nat) (v : Word)
  /-- TDC_ARM (R322): The TDC unit is armed 1 µs after dispatch. -/
  | tdcArm (u : Nat)
  /-- TDC_START_EDGE (R323): A start edge is stamped after the arm. -/
  | tdcStartEdge (u : Nat) (coarse : Nat) (fine : Nat)
  /-- TDC_STOP_EDGE (R323): A stop edge is stamped and, at STOP_N, completes the measurement. -/
  | tdcStopEdge (u : Nat) (coarse : Nat) (fine : Nat)
  /-- TDC_WINDOW_EXPIRY (R325): WINDOW passes without start or stop and the measurement ends. -/
  | tdcWindowExpiry (u : Nat)
  /-- CAL_START (R332): START begins a calibration run over the chosen domains and dies. -/
  | calStart (init : Init) (doms : Nat) (scope : Nat) (refs : RefCheck)
  /-- CAL_ABORT (R335): ABORT ends a calibration run early. -/
  | calAbort (init : Init)
  /-- CAL_DOMAIN_COMPLETE (R334): A domain's measurements finish and its corrections are written in one cycle. -/
  | calDomainComplete (vals : List (Nat × List CalVal)) (temp : Word) (refs : RefCheck)
  /-- CAL_REF_LOST (R335): A reference or the calibration plate stops being present and the run ends. -/
  | calRefLost (refs : RefCheck)
  /-- DRIFT_ASSESSMENT (R340): Each second the firmware assesses each calibrated domain and sets or clears DRIFT. -/
  | driftAssessment
  /-- TRACKING_UPDATE (R345): Every RETRAIN_MS a GDDR7 channel repeats its data-eye tracking. -/
  | trackingUpdate (c : Nat) (ended : Bool) (ok : Bool)
  /-- PAGE_IDLE_EXPIRY (R348): A bank's idle timer expires and the bank is precharged. -/
  | pageIdleExpiry (c : Nat) (bank : Nat) (dclk : Nat)
  /-- REFRESH_DUE (R349): A refresh falls due every tREFI and DEBT rises. -/
  | refreshDue (c : Nat)
  /-- OPPORTUNISTIC_REFRESH (R349): An idle channel with debt issues one refresh. -/
  | opportunisticRefresh (c : Nat)
  /-- CATCHUP (R350): A channel granted a slot holds activates and refreshes until DEBT is 0. -/
  | catchup (c : Nat)
  /-- DOUBLED_RATE (R352): A device reading reaches TEMP_2X; DEBT doubles and tREFI halves. -/
  | doubledRate (d : Nat) (temp : Int)
  /-- NORMAL_RATE (R352): Readings fall 5 °C below TEMP_2X; DEBT halves and tREFI returns. -/
  | normalRate (d : Nat) (temp : Int)
  /-- SELF_REFRESH_ENTRY (R354): A device idle for SR_IDLE enters self-refresh. -/
  | selfRefreshEntry (d : Nat) (us : Nat)
  /-- SELF_REFRESH_EXIT (R354): A request makes a device leave self-refresh. -/
  | selfRefreshExit (d : Nat)
  /-- MEMORY_REQUEST (R356): A GDDR7 channel serves its next chosen request. -/
  | memoryRequest (c : Nat) (reqs : List MemReq) (crc : Nat) (ce : Bool) (ue : Bool)
  /-- TABLE_WALK (R360): XLT walks the tables for a device address and returns a translation or a fault. -/
  | tableWalk (ctx : Nat) (va : Nat) (dir : Nat) (req : Nat) (index : Nat)
  /-- XLT_INV_CONTEXT (R362): XLT_INV OP 1 removes one context's cached translations. -/
  | xltInvContext (init : Init) (g : Nat)
  /-- XLT_INV_PAGE (R362): XLT_INV OP 2 removes one page's cached translations. -/
  | xltInvPage (init : Init) (g : Nat)
  /-- XLT_INV_ALL (R362): XLT_INV OP 3 removes every cached translation. -/
  | xltInvAll (init : Init)
  /-- INV_DONE (R362): Walks in progress finish and INV_DONE is set. -/
  | invDone
  /-- FLT_CLEAR (R363): Writing VALID with 1 clears a context's fault latch. -/
  | fltClear (init : Init) (g : Nat)
  /-- CONTEXT_ENABLE (R362): Setting EN enables a context with the root in force. -/
  | contextEnable (init : Init) (g : Nat)
  /-- CONTEXT_DISABLE (R362): Clearing EN disables a context and drops its cached entries. -/
  | contextDisable (init : Init) (g : Nat)
  /-- ROOT_WRITE (R5): A ROOT_HI write applies the staged root while EN is 0. -/
  | rootWrite (init : Init) (g : Nat) (v : Word)
  /-- DMA_DESCRIPTOR_READ (R364): The read engine reaches a descriptor and checks it. -/
  | dmaDescriptorRead (ch : Nat) (host : List Host.Cell)
  /-- COPY (R365): COPY moves LENGTH bytes from source to destination. -/
  | copy (ch : Nat) (n : Nat) (host : List Host.Cell)
  /-- FILL (R364): FILL writes its 8-byte pattern repeated from DST. -/
  | fill (ch : Nat) (n : Nat)
  /-- REGWR (R366): REGWR writes a value to a BAR0 offset as its own initiator. -/
  | regwr (ch : Nat)
  /-- DMA_DESCRIPTOR_COMPLETE (R365): A descriptor's last write is acknowledged and it completes. -/
  | dmaDescriptorComplete (ch : Nat)
  /-- PREQ_ASSERT (R367): A waiting PREQ descriptor's source asserts and its burst starts. -/
  | preqAssert (ch : Nat)
  /-- DMA_STOP (R368): STOP ends the list after the current descriptor. -/
  | dmaStop (init : Init) (ch : Nat)
  /-- DMA_ABORT (R371): ABORT stops both engines at the next beat. -/
  | dmaAbort (init : Init) (ch : Nat)
  /-- DMA_RESUME (R369): RESUME restarts a halted channel from POS. -/
  | dmaResume (init : Init) (ch : Nat)
  /-- ABANDON (R369): ABANDON ends a halted list with its latched code. -/
  | abandon (init : Init) (ch : Nat)
  /-- SWREQ (R367): Setting SWREQ asserts request source 0x30. -/
  | swreq (init : Init) (ch : Nat)
  /-- DMA_TRANSFER_ERROR (R369): A translation, bus or poisoned-data error halts the channel at its offset. -/
  | dmaTransferError (ch : Nat) (kind : Nat) (write : Bool)
  /-- PD_TIMEOUT (R370): No boundary within PD_TIMEOUT; the channel halts with DOMAIN_OFF. -/
  | pdTimeout (ch : Nat) (us : Nat)
  /-- PAIR_EN (R377): PAIR_EN starts lane training or turns the lanes off. -/
  | pairEn (init : Init) (on : Bool)
  /-- RETRY (R377): RETRY starts a pair training attempt. -/
  | retry (init : Init)
  /-- TRAINING_ATTEMPT (R377): A training attempt trains every lane group. -/
  | trainingAttempt (us : Nat) (lanes : List LaneRes)
  /-- ATTEMPT_TIMEOUT (R377): An attempt fails after 50 ms, possibly setting PAIR_ABSENT. -/
  | attemptTimeout (us : Nat) (ms : Nat)
  /-- HANDSHAKE (R378): The modules exchange role, MCS_CRC, time base and versions and form a pair or MISMATCH. -/
  | handshake (role : Nat) (crc : Word) (refin : Bool) (version : BitVec 16) (pcc : Nat) (ms : Nat)
  /-- RESYNC_COMPLETE (R380): Region copies and baselines are acknowledged and the pair becomes ACTIVE. -/
  | resyncComplete (base : Baseline)
  /-- FOM_MEASURE (R375): Each 1 ms a lane's FOM is measured and WEAK or loss judged. -/
  | fomMeasure (k : Nat) (fom : Nat)
  /-- LANE_LOSS (R382): A lane is lost, reported to the sender and its words replayed. -/
  | laneLoss (k : Nat)
  /-- LANE_DISABLE (R382): DISABLE sets a lane LOST at the next block boundary. -/
  | laneDisable (k : Nat)
  /-- RESTRIPE (R383): At the next unit boundary the group re-stripes over its remaining lanes. -/
  | restripe (g : Nat)
  /-- LANE_RETRAIN (R385): A lost lane retrains alone and rejoins at a re-stripe. -/
  | laneRetrain (k : Nat) (fom : Nat) (ms : Nat)
  /-- FORWARDED_WRITE (R386): The partner applies a forwarded mirror-region write at PEER plus offset. -/
  | forwardedWrite (dest : FwdTo) (addr : Nat) (data : List Byte)
  /-- REGION_ENABLE (R386): Setting a mirror region's EN while ACTIVE starts a copy of the region. -/
  | regionEnable (init : Init) (k : Nat)
  /-- REGION_COPY_DONE (R386): A mirror region's copy to the partner ends and COPYING clears. -/
  | regionCopyDone (k : Nat)
  /-- SHADOW_ENABLE (R388): Setting the DDS shadow's EN while ACTIVE starts its copy. -/
  | shadowEnable (init : Init)
  /-- BURST_START (R389): The mirror loads a burst in peer context from a BURST_START journal record. -/
  | burstStart (j : Nat) (port : Nat) (site : Nat) (group : Nat) (node : Nat) (seq : Nat) (args : List Byte) (host : List Host.Cell)
  /-- DECISION (R390): A DECISION journal record reaches the mirror for a decision it will follow. -/
  | decisionRecord (n : Nat) (kind : Nat) (outcome : Nat) (vec : Nat)
  /-- NODE_DISPATCH (R395): A NODE_DISPATCH journal record reaches the partner. -/
  | nodeDispatch (j : Nat) (slot : Nat) (site : Nat) (group : Nat) (node : Nat) (cls : Nat) (unit : Nat)
  /-- NODE_END (R396): A NODE_END journal record reaches the partner and is acknowledged. -/
  | nodeEnd (j : Nat) (own : Bool) (slot : Nat) (site : Nat) (group : Nat) (node : Nat) (status : Nat) (value : DWord) (fail : Bool) (stretch : Nat)
  /-- DESC_A_DESC_B (R395): A journal record carrying an on-chip descriptor reaches the partner. -/
  | descADescB (j : Nat) (q : Nat) (slot : Nat) (second : Bool) (data : List Byte)
  /-- QUEUE (R395): A QUEUE journal record carrying queue state reaches the partner. -/
  | queueRecord (j : Nat) (q : Nat) (head : Nat) (tail : Nat) (bound : Bool) (size : Nat) (cq : Nat) (base : Nat)
  /-- INST_END (R396): An INST_END journal record carrying a completion reaches the partner. -/
  | instEnd (j : Nat) (slot : Nat) (data : List Byte)
  /-- CONSUMED (R237): A CONSUMED journal record lets the partner release shadowed Proof records. -/
  | consumed (j : Nat) (n : Nat) (rd : Nat) (srd : Nat)
  /-- CONFIG (R395): A CONFIG journal record carries an accepted register write to the partner. -/
  | configRecord (j : Nat) (off : Nat) (v : Word)
  /-- CAL (R395): A CAL journal record carries a calibration write to the partner. -/
  | calRecord (j : Nat) (off : Nat) (v : Word)
  /-- TOKEN (R399): A TOKEN journal record carries a token to the partner. -/
  | tokenRecord (j : Nat) (slot : Nat) (site : Nat) (group : Nat) (edge : Nat) (value : DWord) (fail : Bool) (skip : Bool)
  /-- JOURNAL_ACK (R396): The partner's acknowledgement commits journalled node ends and completions. -/
  | journalAck (j : Nat)
  /-- MIRROR_DECISION (R390): 256 SCLK after the primary, the mirror takes a decision by record or its own inputs. -/
  | mirrorDecision (n : Nat) (ofs : Nat)
  /-- BLOCK_DEADLINE (R392): At a block's deadline the pin die chooses the primary or mirror block. -/
  | blockDeadline (n : Nat) (die : Nat)
  /-- PORT_SWITCH (R392): The mirror receives a PORT_SWITCH notice and decides on its own inputs. -/
  | portSwitch (n : Nat)
  /-- TOKEN_FRAME (R397): A token frame from the partner's pin die reaches the core die. -/
  | tokenFrame (f : TokenFrame)
  /-- CONTROL_FRAME (R397): A pin-die control frame from the mirror is accepted after PRIMARY_DOWN. -/
  | controlFrame (d : Nat) (f : CtlFrame)
  /-- PRIMARY_DOWN (R398): PLINK or the forwarded clock has been gone 1 µs; the pin die declares PRIMARY_DOWN. -/
  | primaryDown (d : Nat) (us : Nat)
  /-- TAKEOVER (R399): On the first PRIMARY_DOWN notice the survivor rebuilds and adopts the partner's work. -/
  | takeover (host : List Host.Cell)
  /-- TAKEOVER_END (R402): The survivor sees the rejoining partner's baseline and ends TAKEOVER. -/
  | takeoverEnd
  /-- PLATE_DETECT (R404): DOCK# low for 50 ms detects a plate. -/
  | plateDetect (ms : Nat)
  /-- IDENTITY_READ (R405): The identity block and counter copies are read and STATE set. -/
  | identityRead (data : Option (List Byte × List Byte × List Byte))
  /-- PLATE_REMOVED (R415): DOCK# high for 1 ms detects removal and counting stops. -/
  | plateRemoved (ms : Nat)
  /-- WB (R413): WB starts a write-back of the counter record. -/
  | wb (init : Init)
  /-- UNDOCK (R414): UNDOCK stops counting and starts a write-back. -/
  | undock (init : Init)
  /-- PLATE_RELOAD (R405): RELOAD repeats the identity and counter read. -/
  | plateReload (init : Init)
  /-- WB_DONE (R409): A write-back completes and any pending one starts. -/
  | wbDone (ok : Bool)
  /-- LOGIC_CHECK (R417): Duplicated control logic disagrees and a FATAL event occurs. -/
  | logicCheck (unit : Nat)
  /-- FAULT_RECORD_DELIVERY (R423): The faults block writes the head record to the host event ring. -/
  | faultRecordDelivery
  /-- ERR_RING_ENABLE (R423): Setting the event ring's ENABLE resets TAIL, head and PHASE. -/
  | errRingEnable (init : Init) (size : Nat)
  /-- ERR_RING_HEAD_WRITE (R423): A write of ERR_RING_HEAD consumes records or is discarded. -/
  | errRingHeadWrite (init : Init) (v : Word)
  /-- PROFILE_SLOT_CHECKED (R56): At t0 + 4 ms the CRC-32 check of the selected slot ends and STATE becomes STANDBY or PROFILE_FAIL. -/
  | profileSlotChecked
  /-- FORWARDED_CLOCK_RELOCK (R24): A die in holdover re-locks to the returned forwarded clock or the partner's SYNC-aligned stream and leaves holdover. -/
  | forwardedClockRelock (d : Nat)
  /-- HOLDOVER_EXHAUSTED (R24): A die's TCLK stays lost beyond its holdover and PHASE_LOCK falls. -/
  | holdoverExhausted (d : Nat) (us : Nat)
  /-- BLOCK_LOCK_ACQUIRED (R312): A time port's 10GBASE-R receiver gains clause 49 block lock and BLOCK_LOCK is set. -/
  | blockLockAcquired (p : Nat)
  /-- LINK_DOWN (R312): A time port loses block lock and LINK_DOWN is set. -/
  | linkDown (p : Nat)
  /-- PMU_LIM (R252): A per-pin PMU reaches its current limit for 1 µs and PMU_LIM is set. -/
  | pmuLim (ch : Nat) (us : Nat)
  /-- TDC_RANGE_EXCEEDED (R325): 2^40 coarse counts pass after the start without a stop and the measurement ends with TDC_NO_STOP. -/
  | tdcRangeExceeded (u : Nat)
  /-- MIRROR_BLOCK_RECEIVE (R392): A mirror link block arrives whole at a pin die over the takeover lanes and is buffered, or is discarded and counted in LATE after its deadline. -/
  | mirrorBlockReceive (n : Nat) (die : Nat) (block : Nat) (burst : Nat) (body : BlockBody) (last : Bool) (stop : Bool) (safe : Bool)
  /-- DOCK_EDGE (R404): DOCK# changes level, starting or restarting its debounce interval and entering STATE DEBOUNCE on a fall. -/
  | dockEdge (low : Bool)
  /-- CABLE_RECONNECT (R378): DETECT observes a reconnected Site Link cable after MISMATCH and a new training attempt begins. -/
  | cableReconnect
  /-- PREEMPT_WAIT_EXPIRY (R124): The further PREEMPT_WAIT µs after a withdrawn request elapses and Hatch may request pre-emption of that step again. -/
  | preemptWaitExpiry (i : Nat) (node : Nat) (us : Nat)
  /-- ASSESS_OK_EXPIRY (R341): No drift assessment completes within 2 s and ASSESS_OK falls to 0. -/
  | assessOkExpiry
  deriving DecidableEq, Repr

end Sys2Proof
end

