-- ==== Sys2Proof/Decode.lean ====
section
/-!
DEFINITION. The rows of spec/opcode_table.json give no bits: the module's commands are accesses and events, and no
word spells one.
-/

namespace Sys2Proof

/-- The command that a word of `nbits` bits spells: none, for no row of the table gives an encoding. -/
def decodeTableWord (_nbits _w : Nat) : Option Instr := none

end Sys2Proof
end

