-- ==== Sys2Proof/Config.lean ====
section
/-!
DEFINITION. What one module fixes for itself and the values the manual leaves open. Nothing here has a
value: a statement about the model holds for every value of these constants.
-/

namespace Sys2Proof

/-- A free value: `freeValue k` is the `k`-th value the manual leaves open in a run (assumption 2). -/
opaque Config.freeValue : Nat → BitVec 64

/-- The module serial number of R432, a factory value (assumption 3). -/
opaque Config.serial : BitVec 64

/-- Byte `o` of the factory control-store image and sequencer tables of a factory profile slot
(Table 3.6, offsets 0x1_0000 to 0x8_FFFF); the manual does not give them (assumption 4). -/
opaque Config.factoryImage : Nat → Byte

/-- The code of slot s of the factory's step runtime (index s) and management firmware (index 2 + s) after their slot
headers (R78, R79); the manual does not give it (assumption 4). -/
opaque Config.factoryCode : Nat → List Byte

/-- The bytes that a control word or address mark takes in a link block (R18, R223), by a number that names it; the manual
gives no encoding (assumption 50). -/
opaque Config.ctlBytes : Nat → List Byte

/-- The 56 bits after the type in a start control block of the Site Link; the manual does not give them (assumption 113). -/
opaque Config.startRest : BitVec 56

/-- The 56 bits of an alignment marker for a group, position and marker count (R374); the manual gives no layout
(assumption 113). -/
opaque Config.markerRest : Nat → Nat → Nat → BitVec 56

/-- What fills the last 64-bit word of a unit whose length is no multiple of 8 bytes (assumption 113). -/
opaque Config.padByte : Nat → Byte

/-- What a lane sends between two units whose bytes the manual gives: none stands for an idle control block (assumption
113). -/
opaque Config.gapBlocks : Nat → List (Option (Bool × BitVec 64))

/-- The version of the link-block format that this module's build uses (R378); the manual gives no number
(assumption 5). -/
opaque Config.slProtocol : BitVec 16

end Sys2Proof
end

