-- ==== Sys2Proof/Machine/Bits.lean ====
section
/-!
DEFINITION. Bit fields, sparse maps in one canonical form, byte order and the CRC-32 of R151.
-/

namespace Sys2Proof.Machine

/-- A field of a register: `width` bits whose lowest is bit `lo` (R6). -/
structure Fld where
  lo : Nat
  width : Nat
  deriving DecidableEq, Repr

/-- The value of field `f` of `w`. -/
def fget (f : Fld) (w : Word) : Nat := (w.toNat >>> f.lo) % 2 ^ f.width

/-- The mask of field `f`. -/
def fmask (f : Fld) : Word := BitVec.ofNat 32 ((2 ^ f.width - 1) <<< f.lo)

/-- `w` with field `f` set to `v` modulo its width. -/
def fput (f : Fld) (v : Nat) (w : Word) : Word :=
  (w &&& ~~~(fmask f)) ||| BitVec.ofNat 32 ((v % 2 ^ f.width) <<< f.lo)

/-- Field `f` of a natural number, for records and 64-bit quantities. -/
def nbits (v lo width : Nat) : Nat := (v >>> lo) % 2 ^ width

/-- Bit `i` of `v`. -/
def nbit (v i : Nat) : Bool := v.testBit i

/-- A number as a bit: 1 for true. -/
def b2n (b : Bool) : Nat := if b then 1 else 0

/-- The value of `v`, read in two's complement on `w` bits. -/
def signed (w v : Nat) : Int :=
  if v % 2 ^ w < 2 ^ (w - 1) then (v % 2 ^ w : Nat) else ((v % 2 ^ w : Nat) : Int) - (2 ^ w : Nat)

/-- The two's complement of `i` on `w` bits. -/
def unsign (w : Nat) (i : Int) : Nat := (i % ((2 ^ w : Nat) : Int)).toNat

/-- Addition that stops at the greatest value of `w` bits. -/
def satAdd (w a b : Nat) : Nat := min (2 ^ w - 1) (a + b)

/-! ### Sparse maps -/

/-- A map from numbers to values as a list of entries: keys rise strictly, and no entry equals the
default of its key. -/
abbrev SMap (α : Type) := List (Nat × α)

/-- The entry of key `k`, if there is one. -/
def SMap.find {α : Type} : SMap α → Nat → Option α
  | [], _ => none
  | (a, v) :: t, k => if a = k then some v else SMap.find t k

/-- The value of key `k`; a key without an entry has the value `d k`. -/
def SMap.get {α : Type} (d : Nat → α) (m : SMap α) (k : Nat) : α :=
  match SMap.find m k with
  | some v => v
  | none => d k

/-- `m` without an entry for `k`. -/
def SMap.erase {α : Type} : SMap α → Nat → SMap α
  | [], _ => []
  | (a, v) :: t, k => if a = k then SMap.erase t k else (a, v) :: SMap.erase t k

/-- `m` with the entry `(k, v)`. -/
def SMap.insert {α : Type} : SMap α → Nat → α → SMap α
  | [], k, v => [(k, v)]
  | (a, w) :: t, k, v =>
    if k < a then (k, v) :: (a, w) :: t
    else if a = k then (k, v) :: t
    else (a, w) :: SMap.insert t k v

/-- `m` with the value of `k` set to `v`, in canonical form. -/
def SMap.set {α : Type} [DecidableEq α] (d : Nat → α) (m : SMap α) (k : Nat) (v : α) : SMap α :=
  if v = d k then SMap.erase m k else SMap.insert m k v

/-- Whether the keys of `m` rise strictly from above `b`. -/
def SMap.risesFrom {α : Type} : Nat → SMap α → Bool
  | _, [] => true
  | b, (a, _) :: t => decide (b ≤ a) && SMap.risesFrom (a + 1) t

/-- The canonical form: keys rise strictly and no entry equals its default. -/
def SMap.wf {α : Type} [DecidableEq α] (d : Nat → α) (m : SMap α) : Bool :=
  SMap.risesFrom 0 m && m.all (fun e => decide (e.2 ≠ d e.1))

/-! ### Bytes -/

/-- The `n` low bytes of `v`, least significant first. -/
def leBytes : Nat → Nat → List Byte
  | 0, _ => []
  | n + 1, v => BitVec.ofNat 8 v :: leBytes n (v / 256)

/-- The number that little-endian bytes spell. -/
def ofBytes : List Byte → Nat
  | [] => 0
  | b :: t => b.toNat + 256 * ofBytes t

/-- The number in bytes `o` to `o + n - 1` of a record. -/
def fieldAt (bs : List Byte) (o n : Nat) : Nat := ofBytes ((bs.drop o).take n)

/-- Byte `o` of a record. -/
def byteAt (bs : List Byte) (o : Nat) : Nat := (bs.getD o 0).toNat

/-- Whether every byte of a record from `o`, `n` of them, is 0. -/
def zerosAt (bs : List Byte) (o n : Nat) : Bool := ((bs.drop o).take n).all (fun b => decide (b = 0))

/-- `n` bytes of `0`. -/
def zeroBytes (n : Nat) : List Byte := List.replicate n 0

/-! ### CRC-32 -/

/-- One bit of the reflected CRC-32 of IEEE 802.3 (R151). -/
def crcBit (c : Word) : Word :=
  if c.getLsbD 0 then (c >>> 1) ^^^ 0xEDB88320#32 else c >>> 1

/-- One byte of the CRC-32. -/
def crcByte (c : Word) (b : Byte) : Word :=
  let x := c ^^^ b.setWidth 32
  crcBit (crcBit (crcBit (crcBit (crcBit (crcBit (crcBit (crcBit x)))))))

/-- The CRC-32 of R151 over bytes. -/
def crc32 (bs : List Byte) : Word := ~~~(bs.foldl crcByte 0xFFFFFFFF#32)

/-- The lowest number below `n` that satisfies `p`. -/
def firstBelow (p : Nat → Bool) : Nat → Option Nat
  | 0 => none
  | n + 1 => match firstBelow p n with
    | some k => some k
    | none => if p n then some n else none

/-- The numbers below `n` that satisfy `p`, rising. -/
def allBelow (n : Nat) (p : Nat → Bool) : List Nat := (List.range n).filter p

/-- `f` folded over a list of numbers, from the left. -/
def foldNat {σ : Type} (l : List Nat) (s : σ) (f : σ → Nat → σ) : σ := l.foldl f s

end Sys2Proof.Machine
end

