-- ==== Sys2Proof/Machine/RegTable.lean ====
section
/-!
DEFINITION. The registers of BAR0 as the tables of Chapters 1 to 19 give them: where each lies
(Tables 19.2, 19.4, 19.5), its fields, its reset value and which of its bits software writes.
The fields of register `X` are in the namespace `Fields.X`, its address is `Reg.X`.
-/

namespace Sys2Proof.Machine

/-- The registers of BAR0, an array under one name. -/
inductive RegName where
  | GLB_DIE_STATUS
  | GLB_DIE_ERR
  | GLB_STREAM_LEAD
  | PWR_STATUS
  | PWR_EVENT
  | PWR_GOV_CTRL
  | PWR_TH
  | PWR_VIN_MEAS
  | PWR_HV_MON
  | PWR_TEMP
  | GLB_RST_CTRL
  | GLB_RST_CAUSE
  | GLB_START_STATE
  | GLB_PROF_STATUS
  | GLB_PROF_CMD
  | GLB_FLASH_SRC_LO
  | GLB_FLASH_SRC_HI
  | HOST_CTRL
  | HOST_STATUS
  | HOST_ERR
  | HOST_ERR_INFO
  | HOST_BAR4_BASE_LO
  | HOST_BAR4_BASE_HI
  | HOST_QSEL
  | HOST_QCTX_BASE_LO
  | HOST_QCTX_BASE_HI
  | HOST_QCTX_CFG
  | HOST_QCTX_STATE
  | HOST_QCTX_TAIL
  | HOST_QCMD
  | HOST_EVT_VEC0
  | HOST_EVT_VEC1
  | HOST_CQ_BASE_LO
  | HOST_CQ_BASE_HI
  | HOST_CQ_CFG
  | HOST_CQ_STATE
  | HAT_CTRL
  | HAT_STATUS
  | HAT_ERR
  | HAT_SITE_LOST_LO
  | HAT_SITE_LOST_HI
  | HAT_TRACE_CTRL
  | HAT_TRACE_BASE_LO
  | HAT_TRACE_BASE_HI
  | HAT_TRACE_WR
  | HAT_TRACE_RD
  | HAT_USEL
  | HAT_UCMD
  | HAT_USTATE
  | HAT_GRP_CFG
  | HAT_Q_CFG
  | HAT_SPILL_BASE_LO
  | HAT_SPILL_BASE_HI
  | HAT_SPILL_CFG
  | HAT_SPILL_STATE
  | MCS_CTRL
  | MCS_STATUS
  | MCS_VERSION
  | MCS_CRC
  | MCS_CORE_CFG
  | MCS_SCORE_CTRL
  | MCS_SCORE_STATUS
  | MCS_MCORE_CTRL
  | MCS_MCORE_STATUS
  | MCS_MGMT_LOAD
  | MCS_MGMT_CFG
  | SEQ_CTRL
  | SEQ_STATUS
  | SEQ_CFG
  | SEQ_PF_CFG
  | SEQ_PF_STATUS
  | SEQ_MSTATE
  | SEQ_PC
  | SEQ_LAST
  | SEQ_VCOUNT_LO
  | SEQ_VCOUNT_HI
  | SEQ_STRETCH_LO
  | SEQ_STRETCH_HI
  | SEQ_FLAGS
  | SEQ_PORT
  | SEQ_MMASK
  | SEQ_GRP_RESV
  | SEQ_BAR_MASK
  | SEQ_PF_FREE
  | CH_VMAP
  | CH_VCFG
  | SEQ_TPER
  | CH_TSET_CFG
  | CH_TSET_D0
  | CH_TSET_D1
  | CH_TSET_D2
  | CH_TSET_D3
  | CH_TSET_S0
  | CH_TSET_S1
  | CH_DSK_DR
  | CH_DSK_DF
  | CH_DSK_CMP
  | CH_UOFS
  | CH_LIND
  | CH_LINS
  | CH_TSTAT
  | CH_TFLAG
  | SEQ_PRF_CFG
  | SEQ_PRF_STATUS
  | SEQ_PRF_WR
  | SEQ_PRF_RD
  | SEQ_PRF_SPILL_BASE_LO
  | SEQ_PRF_SPILL_BASE_HI
  | SEQ_PRF_SWR
  | SEQ_PRF_SRD
  | SEQ_PRF_LIMIT
  | SEQ_PRF_FAILS
  | SEQ_PRF_DROPPED
  | SEQ_PRF_TRC_CFG
  | SEQ_PRF_TRC_BASE_LO
  | SEQ_PRF_TRC_BASE_HI
  | SEQ_PRF_TRC_START
  | SEQ_PRF_TRC_LEN
  | SEQ_PRF_SITE_FAIL_LO
  | SEQ_PRF_SITE_FAIL_HI
  | SEQ_PRF_ERR
  | CH_FCNT
  | CH_CCFG
  | CH_FFIRST_LO
  | CH_FFIRST_HI
  | CH_LCTRL
  | CH_LSTAT
  | CH_LVSEL
  | CH_LVDATA0
  | CH_LVDATA1
  | CH_LVDATA2
  | CH_LQCMD
  | CH_LQ_STATUS
  | GLB_LVL_SAMPLE_LO
  | GLB_LVL_SAMPLE_HI
  | HV_CTRL
  | HV_STATE
  | HV_DCFG
  | HV_DTIM
  | HV_SETSEL
  | HV_SETDATA0
  | HV_SETDATA1
  | HV_SETDATA2
  | HV_SETDATA3
  | HV_LQCMD
  | HV_LQ_STATUS
  | RLY_SETSEL
  | RLY_CLOSE_LO
  | RLY_CLOSE_HI
  | RLY_CARE_LO
  | RLY_CARE_HI
  | RLY_STATE_LO
  | RLY_STATE_HI
  | RLY_FLT_LO
  | RLY_FLT_HI
  | RLY_SEQMASK
  | DDS_CTRL
  | DDS_JUMP
  | DDS_STATUS
  | DDS_SAMPLE_LO
  | DDS_SAMPLE_HI
  | DDS_MK
  | AS_CFG
  | AS_CMD
  | AS_STATE
  | AQ_STATUS
  | AQ_SWTRIG
  | TRIG_CFG
  | XTRIG_CFG
  | TRIG_STATE
  | TRIG_EDGE
  | WAVE_SYNC_CTRL
  | WAVE_SYNC_STATUS
  | WAVE_SKEW
  | WAVE_EPOCH_LO
  | WAVE_EPOCH_HI
  | TDC_STATUS
  | TDC_RES_LO
  | TDC_RES_HI
  | TDC_TSTART_LO
  | TDC_TSTART_HI
  | TB_CTRL
  | TB_STATUS
  | TB_TRIM
  | TB_REFMEAS
  | TIME_TTIME_LO
  | TIME_TTIME_HI
  | TIME_EVENT
  | TIME_IRQ_EN
  | TD_CTRL
  | TD_STATUS
  | TD_INC_LO
  | TD_INC_HI
  | TD_ADJ_LO
  | TD_ADJ_HI
  | TD_JUMP_LIMIT
  | TD_REMAIN
  | TD_FRAC
  | TD_NS
  | TD_SEC_LO
  | TD_SEC_HI
  | TD_SET_NS
  | TD_SET_SEC_LO
  | TD_SET_SEC_HI
  | TIME_SNAP_CTRL
  | TIME_SNAP_STATUS
  | TIME_SNAP_TTIME_LO
  | TIME_SNAP_TTIME_HI
  | TIME_SNAP_TD
  | TP_CFG
  | TP_STATUS
  | TP_MAC_LO
  | TP_MAC_HI
  | TP_TX_CORR
  | TP_RX_CORR
  | TP_TXDATA
  | TP_TXSPACE
  | TP_RXDATA
  | TP_RXLEVEL
  | TP_CTRL
  | CAL_CMD
  | CAL_STATUS
  | CAL_REFV
  | CAL_REFT_PER_LO
  | CAL_REFT_PER_HI
  | CAL_REFMEAS_V
  | CAL_REFT_MEAS_LO
  | CAL_REFT_MEAS_HI
  | CAL_REQ
  | CAL_IRQ_EN
  | CAL_FAILMAP
  | CAL_DOM_CFG
  | CAL_DOM_COUNT
  | CAL_DOM_LAST_LO
  | CAL_DOM_LAST_HI
  | CAL_DOM_TEMP
  | CAL_DOM_INFO
  | CAL_TSEL
  | CAL_TDATA
  | CH_LCAL
  | DRC_MAP
  | DRC_PAGE
  | DRC_REF_CFG
  | DRC_PWR_CFG
  | DRC_EVENT
  | DRC_ERR_ADDR_LO
  | DRC_ERR_ADDR_HI
  | DRC_CH_STATUS
  | DRC_CH_ERRCNT
  | DMA_CH_CTRL
  | DMA_CH_STATUS
  | DMA_CH_POS
  | DMA_CH_OFFSET
  | DMA_CH_ERR_ADDR_LO
  | DMA_CH_ERR_ADDR_HI
  | DMA_CH_ERR_INFO
  | DMA_CFG
  | XLT_INV
  | XLT_INV_ADDR_LO
  | XLT_INV_ADDR_HI
  | XLT_FLT_MAP_LO
  | XLT_FLT_MAP_HI
  | XLT_CTX_ROOT_LO
  | XLT_CTX_ROOT_HI
  | XLT_CTX_FLT_ADDR_LO
  | XLT_CTX_FLT_ADDR_HI
  | XLT_CTX_FLT_INFO
  | SL_CTRL
  | SL_STATUS
  | SL_PROT
  | SL_EVENT
  | SL_IRQ_EN
  | SL_CFG
  | SL_PCC_LO
  | SL_PCC_HI
  | SL_JSENT
  | SL_JACK
  | SL_DDS_SHADOW
  | SL_PDIE_STATUS
  | SL_PDIE_MIRPLAY
  | SL_PDIE_LATE
  | SL_PDIE_DIVCNT
  | SL_LANE_STATUS
  | SL_LANE_CFG
  | SL_MRGN_LOCAL
  | SL_MRGN_PEER
  | SL_MRGN_CFG
  | PLT_CTRL
  | PLT_STATUS
  | PLT_EVENT
  | PLT_IRQ_EN
  | PLT_DOCKS
  | PLT_RLY_RATING
  | PLT_DOCK_RATING
  | PLT_WARN_LO
  | PLT_WARN_HI
  | PLT_FAULT_LO
  | PLT_FAULT_HI
  | PLT_PRESENT_LO
  | PLT_PRESENT_HI
  | PLT_SERIAL
  | PLT_RCNT
  | ERR_CFG
  | ERR_STATUS
  | ERR_ACCESS
  | ERR_ACCESS_INFO
  | ERR_MCHK
  | ERR_COUNT
  | ERR_FATAL
  | ERR_XING
  | ERR_SRAM_CE
  | ERR_SEQ
  | ERR_LOST
  | ERR_RING_BASE_LO
  | ERR_RING_BASE_HI
  | ERR_RING_CFG
  | ERR_RING_STATE
  | ERR_RING_HEAD
  | GLB_ID
  | GLB_SERIAL_LO
  | GLB_SERIAL_HI
  | TP_TSQ
  deriving DecidableEq, Repr

/-! ### Addresses -/

/-- GLB_DIE_STATUS (Table 1.8). -/
def Reg.GLB_DIE_STATUS : Nat := 0x100
/-- GLB_DIE_ERR (Table 1.9). -/
def Reg.GLB_DIE_ERR : Nat := 0x104
/-- GLB_STREAM_LEAD (Table 1.10). -/
def Reg.GLB_STREAM_LEAD : Nat := 0x108
/-- PWR_STATUS (Table 2.11). -/
def Reg.PWR_STATUS : Nat := 0x400
/-- PWR_EVENT (Table 2.12). -/
def Reg.PWR_EVENT : Nat := 0x404
/-- PWR_GOV_CTRL (Table 2.13). -/
def Reg.PWR_GOV_CTRL : Nat := 0x408
/-- PWR_TH (Table 2.14). -/
def Reg.PWR_TH : Nat := 0x40C
/-- PWR_VIN_MEAS (Table 2.15). -/
def Reg.PWR_VIN_MEAS : Nat := 0x410
/-- PWR_HV_MON (Table 2.16). -/
def Reg.PWR_HV_MON : Nat := 0x414
/-- PWR_TEMP (Table 2.17). -/
def Reg.PWR_TEMP (i : Nat) : Nat := 0x440 + 0x4 * i
/-- GLB_RST_CTRL (Table 3.8). -/
def Reg.GLB_RST_CTRL : Nat := 0x200
/-- GLB_RST_CAUSE (Table 3.9). -/
def Reg.GLB_RST_CAUSE : Nat := 0x204
/-- GLB_START_STATE (Table 3.10). -/
def Reg.GLB_START_STATE : Nat := 0x208
/-- GLB_PROF_STATUS (Table 3.11). -/
def Reg.GLB_PROF_STATUS : Nat := 0x20C
/-- GLB_PROF_CMD (Table 3.12). -/
def Reg.GLB_PROF_CMD : Nat := 0x210
/-- GLB_FLASH_SRC_LO (Table 3.13). -/
def Reg.GLB_FLASH_SRC_LO : Nat := 0x218
/-- GLB_FLASH_SRC_HI (Table 3.13). -/
def Reg.GLB_FLASH_SRC_HI : Nat := 0x21C
/-- HOST_CTRL (Table 4.10). -/
def Reg.HOST_CTRL : Nat := 0x100000
/-- HOST_STATUS (Table 4.11). -/
def Reg.HOST_STATUS : Nat := 0x100004
/-- HOST_ERR (Table 4.12). -/
def Reg.HOST_ERR : Nat := 0x100008
/-- HOST_ERR_INFO (Table 4.13). -/
def Reg.HOST_ERR_INFO : Nat := 0x10000C
/-- HOST_BAR4_BASE_LO (Table 4.14). -/
def Reg.HOST_BAR4_BASE_LO : Nat := 0x100010
/-- HOST_BAR4_BASE_HI (Table 4.14). -/
def Reg.HOST_BAR4_BASE_HI : Nat := 0x100014
/-- HOST_QSEL (Table 4.15). -/
def Reg.HOST_QSEL : Nat := 0x100020
/-- HOST_QCTX_BASE_LO (Table 4.16). -/
def Reg.HOST_QCTX_BASE_LO : Nat := 0x100024
/-- HOST_QCTX_BASE_HI (Table 4.16). -/
def Reg.HOST_QCTX_BASE_HI : Nat := 0x100028
/-- HOST_QCTX_CFG (Table 4.17). -/
def Reg.HOST_QCTX_CFG : Nat := 0x10002C
/-- HOST_QCTX_STATE (Table 4.18). -/
def Reg.HOST_QCTX_STATE : Nat := 0x100030
/-- HOST_QCTX_TAIL (Table 4.19). -/
def Reg.HOST_QCTX_TAIL : Nat := 0x100034
/-- HOST_QCMD (Table 4.20). -/
def Reg.HOST_QCMD : Nat := 0x100038
/-- HOST_EVT_VEC0 (Table 4.21). -/
def Reg.HOST_EVT_VEC0 : Nat := 0x100040
/-- HOST_EVT_VEC1 (Table 4.21). -/
def Reg.HOST_EVT_VEC1 : Nat := 0x100044
/-- HOST_CQ_BASE_LO (Table 4.22). -/
def Reg.HOST_CQ_BASE_LO (i : Nat) : Nat := 0x101000 + 0x10 * i
/-- HOST_CQ_BASE_HI (Table 4.22). -/
def Reg.HOST_CQ_BASE_HI (i : Nat) : Nat := 0x101004 + 0x10 * i
/-- HOST_CQ_CFG (Table 4.22). -/
def Reg.HOST_CQ_CFG (i : Nat) : Nat := 0x101008 + 0x10 * i
/-- HOST_CQ_STATE (Table 4.22). -/
def Reg.HOST_CQ_STATE (i : Nat) : Nat := 0x10100C + 0x10 * i
/-- HAT_CTRL (Table 5.11). -/
def Reg.HAT_CTRL : Nat := 0x200000
/-- HAT_STATUS (Table 5.12). -/
def Reg.HAT_STATUS : Nat := 0x200004
/-- HAT_ERR (Table 5.12). -/
def Reg.HAT_ERR : Nat := 0x200008
/-- HAT_SITE_LOST_LO (Table 5.13). -/
def Reg.HAT_SITE_LOST_LO : Nat := 0x200010
/-- HAT_SITE_LOST_HI (Table 5.13). -/
def Reg.HAT_SITE_LOST_HI : Nat := 0x200014
/-- HAT_TRACE_CTRL (Table 5.14). -/
def Reg.HAT_TRACE_CTRL : Nat := 0x200020
/-- HAT_TRACE_BASE_LO (Table 5.14). -/
def Reg.HAT_TRACE_BASE_LO : Nat := 0x200024
/-- HAT_TRACE_BASE_HI (Table 5.14). -/
def Reg.HAT_TRACE_BASE_HI : Nat := 0x200028
/-- HAT_TRACE_WR (Table 5.14). -/
def Reg.HAT_TRACE_WR : Nat := 0x20002C
/-- HAT_TRACE_RD (Table 5.14). -/
def Reg.HAT_TRACE_RD : Nat := 0x200030
/-- HAT_USEL (Table 5.15). -/
def Reg.HAT_USEL : Nat := 0x200040
/-- HAT_UCMD (Table 5.15). -/
def Reg.HAT_UCMD : Nat := 0x200044
/-- HAT_USTATE (Table 5.15). -/
def Reg.HAT_USTATE : Nat := 0x200048
/-- HAT_GRP_CFG (Table 5.16). -/
def Reg.HAT_GRP_CFG (i : Nat) : Nat := 0x200100 + 0x4 * i
/-- HAT_Q_CFG (Table 5.17). -/
def Reg.HAT_Q_CFG (i : Nat) : Nat := 0x204000 + 0x4 * i
/-- HAT_SPILL_BASE_LO (Table 5.18). -/
def Reg.HAT_SPILL_BASE_LO (i : Nat) : Nat := 0x208000 + 0x10 * i
/-- HAT_SPILL_BASE_HI (Table 5.18). -/
def Reg.HAT_SPILL_BASE_HI (i : Nat) : Nat := 0x208004 + 0x10 * i
/-- HAT_SPILL_CFG (Table 5.18). -/
def Reg.HAT_SPILL_CFG (i : Nat) : Nat := 0x208008 + 0x10 * i
/-- HAT_SPILL_STATE (Table 5.18). -/
def Reg.HAT_SPILL_STATE (i : Nat) : Nat := 0x20800C + 0x10 * i
/-- MCS_CTRL (Table 6.11). -/
def Reg.MCS_CTRL : Nat := 0x300000
/-- MCS_STATUS (Table 6.12). -/
def Reg.MCS_STATUS : Nat := 0x300004
/-- MCS_VERSION (Table 6.13). -/
def Reg.MCS_VERSION : Nat := 0x300008
/-- MCS_CRC (Table 6.13). -/
def Reg.MCS_CRC : Nat := 0x30000C
/-- MCS_CORE_CFG (Table 6.14). -/
def Reg.MCS_CORE_CFG : Nat := 0x300010
/-- MCS_SCORE_CTRL (Table 6.15). -/
def Reg.MCS_SCORE_CTRL (i : Nat) : Nat := 0x300100 + 0x8 * i
/-- MCS_SCORE_STATUS (Table 6.15). -/
def Reg.MCS_SCORE_STATUS (i : Nat) : Nat := 0x300104 + 0x8 * i
/-- MCS_MCORE_CTRL (Table 6.16). -/
def Reg.MCS_MCORE_CTRL (i : Nat) : Nat := 0x300200 + 0x8 * i
/-- MCS_MCORE_STATUS (Table 6.16). -/
def Reg.MCS_MCORE_STATUS (i : Nat) : Nat := 0x300204 + 0x8 * i
/-- MCS_MGMT_LOAD (Table 6.17). -/
def Reg.MCS_MGMT_LOAD : Nat := 0x300220
/-- MCS_MGMT_CFG (Table 6.18). -/
def Reg.MCS_MGMT_CFG : Nat := 0x300224
/-- SEQ_CTRL (Table 7.12). -/
def Reg.SEQ_CTRL (i : Nat) : Nat := 0x400000 + 0x1000 * i
/-- SEQ_STATUS (Table 7.13). -/
def Reg.SEQ_STATUS (i : Nat) : Nat := 0x400004 + 0x1000 * i
/-- SEQ_CFG (Table 7.14). -/
def Reg.SEQ_CFG (i : Nat) : Nat := 0x400008 + 0x1000 * i
/-- SEQ_PF_CFG (Table 7.15). -/
def Reg.SEQ_PF_CFG (i : Nat) : Nat := 0x40000C + 0x1000 * i
/-- SEQ_PF_STATUS (Table 7.16). -/
def Reg.SEQ_PF_STATUS (i : Nat) : Nat := 0x400010 + 0x1000 * i
/-- SEQ_MSTATE (Table 7.17). -/
def Reg.SEQ_MSTATE (i : Nat) : Nat := 0x400014 + 0x1000 * i
/-- SEQ_PC (Table 7.18). -/
def Reg.SEQ_PC (i : Nat) : Nat := 0x400018 + 0x1000 * i
/-- SEQ_LAST (Table 7.18). -/
def Reg.SEQ_LAST (i : Nat) : Nat := 0x40001C + 0x1000 * i
/-- SEQ_VCOUNT_LO (Table 7.19). -/
def Reg.SEQ_VCOUNT_LO (i : Nat) : Nat := 0x400020 + 0x1000 * i
/-- SEQ_VCOUNT_HI (Table 7.19). -/
def Reg.SEQ_VCOUNT_HI (i : Nat) : Nat := 0x400024 + 0x1000 * i
/-- SEQ_STRETCH_LO (Table 7.19). -/
def Reg.SEQ_STRETCH_LO (i : Nat) : Nat := 0x400028 + 0x1000 * i
/-- SEQ_STRETCH_HI (Table 7.19). -/
def Reg.SEQ_STRETCH_HI (i : Nat) : Nat := 0x40002C + 0x1000 * i
/-- SEQ_FLAGS (Table 7.20). -/
def Reg.SEQ_FLAGS (i : Nat) : Nat := 0x400030 + 0x1000 * i
/-- SEQ_PORT (Table 7.21). -/
def Reg.SEQ_PORT (i j : Nat) : Nat := 0x400040 + 0x1000 * i + 0x4 * j
/-- SEQ_MMASK (Table 7.21). -/
def Reg.SEQ_MMASK (i j : Nat) : Nat := 0x400060 + 0x1000 * i + 0x4 * j
/-- SEQ_GRP_RESV (Table 7.22). -/
def Reg.SEQ_GRP_RESV (i : Nat) : Nat := 0x420000 + 0x4 * i
/-- SEQ_BAR_MASK (Table 7.23). -/
def Reg.SEQ_BAR_MASK (i : Nat) : Nat := 0x420100 + 0x4 * i
/-- SEQ_PF_FREE (Table 7.23). -/
def Reg.SEQ_PF_FREE : Nat := 0x420200
/-- CH_VMAP (Table 7.24). -/
def Reg.CH_VMAP (i j : Nat) : Nat := 0x5000F0 + 0x100000 * i + 0x100 * j
/-- CH_VCFG (Table 7.24). -/
def Reg.CH_VCFG (i j : Nat) : Nat := 0x5000F4 + 0x100000 * i + 0x100 * j
/-- SEQ_TPER (Table 8.4). -/
def Reg.SEQ_TPER (i j : Nat) : Nat := 0x400100 + 0x1000 * i + 0x4 * j
/-- CH_TSET_CFG (Table 8.5). -/
def Reg.CH_TSET_CFG (i j k : Nat) : Nat := 0x540000 + 0x100000 * i + 0x800 * j + 0x20 * k
/-- CH_TSET_D0 (Table 8.5). -/
def Reg.CH_TSET_D0 (i j k : Nat) : Nat := 0x540004 + 0x100000 * i + 0x800 * j + 0x20 * k
/-- CH_TSET_D1 (Table 8.5). -/
def Reg.CH_TSET_D1 (i j k : Nat) : Nat := 0x540008 + 0x100000 * i + 0x800 * j + 0x20 * k
/-- CH_TSET_D2 (Table 8.5). -/
def Reg.CH_TSET_D2 (i j k : Nat) : Nat := 0x54000C + 0x100000 * i + 0x800 * j + 0x20 * k
/-- CH_TSET_D3 (Table 8.5). -/
def Reg.CH_TSET_D3 (i j k : Nat) : Nat := 0x540010 + 0x100000 * i + 0x800 * j + 0x20 * k
/-- CH_TSET_S0 (Table 8.5). -/
def Reg.CH_TSET_S0 (i j k : Nat) : Nat := 0x540014 + 0x100000 * i + 0x800 * j + 0x20 * k
/-- CH_TSET_S1 (Table 8.5). -/
def Reg.CH_TSET_S1 (i j k : Nat) : Nat := 0x540018 + 0x100000 * i + 0x800 * j + 0x20 * k
/-- CH_DSK_DR (Table 8.6). -/
def Reg.CH_DSK_DR (i j : Nat) : Nat := 0x5000C0 + 0x100000 * i + 0x100 * j
/-- CH_DSK_DF (Table 8.6). -/
def Reg.CH_DSK_DF (i j : Nat) : Nat := 0x5000C4 + 0x100000 * i + 0x100 * j
/-- CH_DSK_CMP (Table 8.6). -/
def Reg.CH_DSK_CMP (i j : Nat) : Nat := 0x5000C8 + 0x100000 * i + 0x100 * j
/-- CH_UOFS (Table 8.6). -/
def Reg.CH_UOFS (i j : Nat) : Nat := 0x5000CC + 0x100000 * i + 0x100 * j
/-- CH_LIND (Table 8.7). -/
def Reg.CH_LIND (i j k : Nat) : Nat := 0x5C0000 + 0x100000 * i + 0x400 * j + 0x4 * k
/-- CH_LINS (Table 8.7). -/
def Reg.CH_LINS (i j k : Nat) : Nat := 0x5C0200 + 0x100000 * i + 0x400 * j + 0x4 * k
/-- CH_TSTAT (Table 8.8). -/
def Reg.CH_TSTAT (i j : Nat) : Nat := 0x5000D0 + 0x100000 * i + 0x100 * j
/-- CH_TFLAG (Table 8.9). -/
def Reg.CH_TFLAG (i : Nat) : Nat := 0x5F0000 + 0x100000 * i
/-- SEQ_PRF_CFG (Table 9.5). -/
def Reg.SEQ_PRF_CFG (i : Nat) : Nat := 0x421000 + 0x40 * i
/-- SEQ_PRF_STATUS (Table 9.5). -/
def Reg.SEQ_PRF_STATUS (i : Nat) : Nat := 0x421004 + 0x40 * i
/-- SEQ_PRF_WR (Table 9.6). -/
def Reg.SEQ_PRF_WR (i : Nat) : Nat := 0x421008 + 0x40 * i
/-- SEQ_PRF_RD (Table 9.6). -/
def Reg.SEQ_PRF_RD (i : Nat) : Nat := 0x42100C + 0x40 * i
/-- SEQ_PRF_SPILL_BASE_LO (Table 9.6). -/
def Reg.SEQ_PRF_SPILL_BASE_LO (i : Nat) : Nat := 0x421010 + 0x40 * i
/-- SEQ_PRF_SPILL_BASE_HI (Table 9.6). -/
def Reg.SEQ_PRF_SPILL_BASE_HI (i : Nat) : Nat := 0x421014 + 0x40 * i
/-- SEQ_PRF_SWR (Table 9.6). -/
def Reg.SEQ_PRF_SWR (i : Nat) : Nat := 0x421018 + 0x40 * i
/-- SEQ_PRF_SRD (Table 9.6). -/
def Reg.SEQ_PRF_SRD (i : Nat) : Nat := 0x42101C + 0x40 * i
/-- SEQ_PRF_LIMIT (Table 9.6). -/
def Reg.SEQ_PRF_LIMIT (i : Nat) : Nat := 0x421020 + 0x40 * i
/-- SEQ_PRF_FAILS (Table 9.6). -/
def Reg.SEQ_PRF_FAILS (i : Nat) : Nat := 0x421024 + 0x40 * i
/-- SEQ_PRF_DROPPED (Table 9.6). -/
def Reg.SEQ_PRF_DROPPED (i : Nat) : Nat := 0x421028 + 0x40 * i
/-- SEQ_PRF_TRC_CFG (Table 9.7). -/
def Reg.SEQ_PRF_TRC_CFG (i : Nat) : Nat := 0x42102C + 0x40 * i
/-- SEQ_PRF_TRC_BASE_LO (Table 9.7). -/
def Reg.SEQ_PRF_TRC_BASE_LO (i : Nat) : Nat := 0x421030 + 0x40 * i
/-- SEQ_PRF_TRC_BASE_HI (Table 9.7). -/
def Reg.SEQ_PRF_TRC_BASE_HI (i : Nat) : Nat := 0x421034 + 0x40 * i
/-- SEQ_PRF_TRC_START (Table 9.7). -/
def Reg.SEQ_PRF_TRC_START (i : Nat) : Nat := 0x421038 + 0x40 * i
/-- SEQ_PRF_TRC_LEN (Table 9.7). -/
def Reg.SEQ_PRF_TRC_LEN (i : Nat) : Nat := 0x42103C + 0x40 * i
/-- SEQ_PRF_SITE_FAIL_LO (Table 9.8). -/
def Reg.SEQ_PRF_SITE_FAIL_LO : Nat := 0x420300
/-- SEQ_PRF_SITE_FAIL_HI (Table 9.8). -/
def Reg.SEQ_PRF_SITE_FAIL_HI : Nat := 0x420304
/-- SEQ_PRF_ERR (Table 9.8). -/
def Reg.SEQ_PRF_ERR : Nat := 0x420308
/-- CH_FCNT (Table 9.9). -/
def Reg.CH_FCNT (i j : Nat) : Nat := 0x5000E0 + 0x100000 * i + 0x100 * j
/-- CH_CCFG (Table 9.9). -/
def Reg.CH_CCFG (i j : Nat) : Nat := 0x5000E4 + 0x100000 * i + 0x100 * j
/-- CH_FFIRST_LO (Table 9.9). -/
def Reg.CH_FFIRST_LO (i j : Nat) : Nat := 0x5000E8 + 0x100000 * i + 0x100 * j
/-- CH_FFIRST_HI (Table 9.9). -/
def Reg.CH_FFIRST_HI (i j : Nat) : Nat := 0x5000EC + 0x100000 * i + 0x100 * j
/-- CH_LCTRL (Table 10.8). -/
def Reg.CH_LCTRL (i j : Nat) : Nat := 0x500000 + 0x100000 * i + 0x100 * j
/-- CH_LSTAT (Table 10.8). -/
def Reg.CH_LSTAT (i j : Nat) : Nat := 0x500004 + 0x100000 * i + 0x100 * j
/-- CH_LVSEL (Table 10.10). -/
def Reg.CH_LVSEL (i : Nat) : Nat := 0x5E0000 + 0x100000 * i
/-- CH_LVDATA0 (Table 10.10). -/
def Reg.CH_LVDATA0 (i : Nat) : Nat := 0x5E0004 + 0x100000 * i
/-- CH_LVDATA1 (Table 10.10). -/
def Reg.CH_LVDATA1 (i : Nat) : Nat := 0x5E0008 + 0x100000 * i
/-- CH_LVDATA2 (Table 10.10). -/
def Reg.CH_LVDATA2 (i : Nat) : Nat := 0x5E000C + 0x100000 * i
/-- CH_LQCMD (Table 10.10). -/
def Reg.CH_LQCMD (i : Nat) : Nat := 0x5E0010 + 0x100000 * i
/-- CH_LQ_STATUS (Table 10.10). -/
def Reg.CH_LQ_STATUS (i j : Nat) : Nat := 0x5E0020 + 0x100000 * i + 0x4 * j
/-- GLB_LVL_SAMPLE_LO (Table 10.11). -/
def Reg.GLB_LVL_SAMPLE_LO : Nat := 0x110
/-- GLB_LVL_SAMPLE_HI (Table 10.11). -/
def Reg.GLB_LVL_SAMPLE_HI : Nat := 0x114
/-- HV_CTRL (Table 10.12). -/
def Reg.HV_CTRL (i : Nat) : Nat := 0x700000 + 0x20 * i
/-- HV_STATE (Table 10.12). -/
def Reg.HV_STATE (i : Nat) : Nat := 0x700004 + 0x20 * i
/-- HV_DCFG (Table 10.12). -/
def Reg.HV_DCFG (i : Nat) : Nat := 0x700008 + 0x20 * i
/-- HV_DTIM (Table 10.12). -/
def Reg.HV_DTIM (i : Nat) : Nat := 0x70000C + 0x20 * i
/-- HV_SETSEL (Table 10.13). -/
def Reg.HV_SETSEL : Nat := 0x700400
/-- HV_SETDATA0 (Table 10.13). -/
def Reg.HV_SETDATA0 : Nat := 0x700404
/-- HV_SETDATA1 (Table 10.13). -/
def Reg.HV_SETDATA1 : Nat := 0x700408
/-- HV_SETDATA2 (Table 10.13). -/
def Reg.HV_SETDATA2 : Nat := 0x70040C
/-- HV_SETDATA3 (Table 10.13). -/
def Reg.HV_SETDATA3 : Nat := 0x700410
/-- HV_LQCMD (Table 10.13). -/
def Reg.HV_LQCMD : Nat := 0x700420
/-- HV_LQ_STATUS (Table 10.13). -/
def Reg.HV_LQ_STATUS (i : Nat) : Nat := 0x700430 + 0x4 * i
/-- RLY_SETSEL (Table 10.14). -/
def Reg.RLY_SETSEL : Nat := 0x700500
/-- RLY_CLOSE_LO (Table 10.14). -/
def Reg.RLY_CLOSE_LO : Nat := 0x700504
/-- RLY_CLOSE_HI (Table 10.14). -/
def Reg.RLY_CLOSE_HI : Nat := 0x700508
/-- RLY_CARE_LO (Table 10.14). -/
def Reg.RLY_CARE_LO : Nat := 0x70050C
/-- RLY_CARE_HI (Table 10.14). -/
def Reg.RLY_CARE_HI : Nat := 0x700510
/-- RLY_STATE_LO (Table 10.14). -/
def Reg.RLY_STATE_LO : Nat := 0x700520
/-- RLY_STATE_HI (Table 10.14). -/
def Reg.RLY_STATE_HI : Nat := 0x700524
/-- RLY_FLT_LO (Table 10.14). -/
def Reg.RLY_FLT_LO : Nat := 0x700528
/-- RLY_FLT_HI (Table 10.14). -/
def Reg.RLY_FLT_HI : Nat := 0x70052C
/-- RLY_SEQMASK (Table 10.14). -/
def Reg.RLY_SEQMASK : Nat := 0x700530
/-- DDS_CTRL (Table 11.10). -/
def Reg.DDS_CTRL (i : Nat) : Nat := 0x800000 + 0x40 * i
/-- DDS_JUMP (Table 11.10). -/
def Reg.DDS_JUMP (i : Nat) : Nat := 0x800004 + 0x40 * i
/-- DDS_STATUS (Table 11.10). -/
def Reg.DDS_STATUS (i : Nat) : Nat := 0x800008 + 0x40 * i
/-- DDS_SAMPLE_LO (Table 11.10). -/
def Reg.DDS_SAMPLE_LO (i : Nat) : Nat := 0x80000C + 0x40 * i
/-- DDS_SAMPLE_HI (Table 11.10). -/
def Reg.DDS_SAMPLE_HI (i : Nat) : Nat := 0x800010 + 0x40 * i
/-- DDS_MK (Table 11.10). -/
def Reg.DDS_MK (i : Nat) : Nat := 0x800014 + 0x40 * i
/-- AS_CFG (Table 11.11). -/
def Reg.AS_CFG (i : Nat) : Nat := 0x800400 + 0x20 * i
/-- AS_CMD (Table 11.11). -/
def Reg.AS_CMD (i : Nat) : Nat := 0x800404 + 0x20 * i
/-- AS_STATE (Table 11.11). -/
def Reg.AS_STATE (i : Nat) : Nat := 0x800408 + 0x20 * i
/-- AQ_STATUS (Table 11.12). -/
def Reg.AQ_STATUS (i : Nat) : Nat := 0x800800 + 0x20 * i
/-- AQ_SWTRIG (Table 11.12). -/
def Reg.AQ_SWTRIG : Nat := 0x800900
/-- TRIG_CFG (Table 11.13). -/
def Reg.TRIG_CFG (i : Nat) : Nat := 0x800C00 + 0x4 * i
/-- XTRIG_CFG (Table 11.13). -/
def Reg.XTRIG_CFG (i : Nat) : Nat := 0x800C20 + 0x4 * i
/-- TRIG_STATE (Table 11.13). -/
def Reg.TRIG_STATE : Nat := 0x800C30
/-- TRIG_EDGE (Table 11.13). -/
def Reg.TRIG_EDGE : Nat := 0x800C34
/-- WAVE_SYNC_CTRL (Table 11.14). -/
def Reg.WAVE_SYNC_CTRL : Nat := 0x800D00
/-- WAVE_SYNC_STATUS (Table 11.14). -/
def Reg.WAVE_SYNC_STATUS : Nat := 0x800D04
/-- WAVE_SKEW (Table 11.14). -/
def Reg.WAVE_SKEW : Nat := 0x800D08
/-- WAVE_EPOCH_LO (Table 11.14). -/
def Reg.WAVE_EPOCH_LO : Nat := 0x800D0C
/-- WAVE_EPOCH_HI (Table 11.14). -/
def Reg.WAVE_EPOCH_HI : Nat := 0x800D10
/-- TDC_STATUS (Table 12.7). -/
def Reg.TDC_STATUS (i : Nat) : Nat := 0x900000 + 0x20 * i
/-- TDC_RES_LO (Table 12.7). -/
def Reg.TDC_RES_LO (i : Nat) : Nat := 0x900008 + 0x20 * i
/-- TDC_RES_HI (Table 12.7). -/
def Reg.TDC_RES_HI (i : Nat) : Nat := 0x90000C + 0x20 * i
/-- TDC_TSTART_LO (Table 12.7). -/
def Reg.TDC_TSTART_LO (i : Nat) : Nat := 0x900010 + 0x20 * i
/-- TDC_TSTART_HI (Table 12.7). -/
def Reg.TDC_TSTART_HI (i : Nat) : Nat := 0x900014 + 0x20 * i
/-- TB_CTRL (Table 12.8). -/
def Reg.TB_CTRL : Nat := 0x901000
/-- TB_STATUS (Table 12.8). -/
def Reg.TB_STATUS : Nat := 0x901004
/-- TB_TRIM (Table 12.8). -/
def Reg.TB_TRIM : Nat := 0x901008
/-- TB_REFMEAS (Table 12.8). -/
def Reg.TB_REFMEAS : Nat := 0x90100C
/-- TIME_TTIME_LO (Table 12.8). -/
def Reg.TIME_TTIME_LO : Nat := 0x901010
/-- TIME_TTIME_HI (Table 12.8). -/
def Reg.TIME_TTIME_HI : Nat := 0x901014
/-- TIME_EVENT (Table 12.8). -/
def Reg.TIME_EVENT : Nat := 0x901020
/-- TIME_IRQ_EN (Table 12.8). -/
def Reg.TIME_IRQ_EN : Nat := 0x901024
/-- TD_CTRL (Table 12.9). -/
def Reg.TD_CTRL (i : Nat) : Nat := 0x902000 + 0x40 * i
/-- TD_STATUS (Table 12.9). -/
def Reg.TD_STATUS (i : Nat) : Nat := 0x902004 + 0x40 * i
/-- TD_INC_LO (Table 12.9). -/
def Reg.TD_INC_LO (i : Nat) : Nat := 0x902008 + 0x40 * i
/-- TD_INC_HI (Table 12.9). -/
def Reg.TD_INC_HI (i : Nat) : Nat := 0x90200C + 0x40 * i
/-- TD_ADJ_LO (Table 12.9). -/
def Reg.TD_ADJ_LO (i : Nat) : Nat := 0x902010 + 0x40 * i
/-- TD_ADJ_HI (Table 12.9). -/
def Reg.TD_ADJ_HI (i : Nat) : Nat := 0x902014 + 0x40 * i
/-- TD_JUMP_LIMIT (Table 12.9). -/
def Reg.TD_JUMP_LIMIT (i : Nat) : Nat := 0x902018 + 0x40 * i
/-- TD_REMAIN (Table 12.9). -/
def Reg.TD_REMAIN (i : Nat) : Nat := 0x90201C + 0x40 * i
/-- TD_FRAC (Table 12.9). -/
def Reg.TD_FRAC (i : Nat) : Nat := 0x902020 + 0x40 * i
/-- TD_NS (Table 12.9). -/
def Reg.TD_NS (i : Nat) : Nat := 0x902024 + 0x40 * i
/-- TD_SEC_LO (Table 12.9). -/
def Reg.TD_SEC_LO (i : Nat) : Nat := 0x902028 + 0x40 * i
/-- TD_SEC_HI (Table 12.9). -/
def Reg.TD_SEC_HI (i : Nat) : Nat := 0x90202C + 0x40 * i
/-- TD_SET_NS (Table 12.9). -/
def Reg.TD_SET_NS (i : Nat) : Nat := 0x902030 + 0x40 * i
/-- TD_SET_SEC_LO (Table 12.9). -/
def Reg.TD_SET_SEC_LO (i : Nat) : Nat := 0x902034 + 0x40 * i
/-- TD_SET_SEC_HI (Table 12.9). -/
def Reg.TD_SET_SEC_HI (i : Nat) : Nat := 0x902038 + 0x40 * i
/-- TIME_SNAP_CTRL (Table 12.10). -/
def Reg.TIME_SNAP_CTRL : Nat := 0x903000
/-- TIME_SNAP_STATUS (Table 12.10). -/
def Reg.TIME_SNAP_STATUS : Nat := 0x903004
/-- TIME_SNAP_TTIME_LO (Table 12.10). -/
def Reg.TIME_SNAP_TTIME_LO : Nat := 0x903008
/-- TIME_SNAP_TTIME_HI (Table 12.10). -/
def Reg.TIME_SNAP_TTIME_HI : Nat := 0x90300C
/-- TIME_SNAP_TD (Table 12.10). -/
def Reg.TIME_SNAP_TD (i j : Nat) : Nat := 0x903010 + 0x10 * i + 0x4 * j
/-- TP_CFG (Table 12.11). -/
def Reg.TP_CFG (i : Nat) : Nat := 0x904000 + 0x100 * i
/-- TP_STATUS (Table 12.11). -/
def Reg.TP_STATUS (i : Nat) : Nat := 0x904004 + 0x100 * i
/-- TP_MAC_LO (Table 12.11). -/
def Reg.TP_MAC_LO (i : Nat) : Nat := 0x904008 + 0x100 * i
/-- TP_MAC_HI (Table 12.11). -/
def Reg.TP_MAC_HI (i : Nat) : Nat := 0x90400C + 0x100 * i
/-- TP_TX_CORR (Table 12.11). -/
def Reg.TP_TX_CORR (i : Nat) : Nat := 0x904010 + 0x100 * i
/-- TP_RX_CORR (Table 12.11). -/
def Reg.TP_RX_CORR (i : Nat) : Nat := 0x904014 + 0x100 * i
/-- TP_TXDATA (Table 12.11). -/
def Reg.TP_TXDATA (i : Nat) : Nat := 0x904020 + 0x100 * i
/-- TP_TXSPACE (Table 12.11). -/
def Reg.TP_TXSPACE (i : Nat) : Nat := 0x904024 + 0x100 * i
/-- TP_RXDATA (Table 12.11). -/
def Reg.TP_RXDATA (i : Nat) : Nat := 0x904028 + 0x100 * i
/-- TP_RXLEVEL (Table 12.11). -/
def Reg.TP_RXLEVEL (i : Nat) : Nat := 0x90402C + 0x100 * i
/-- TP_CTRL (Table 12.11). -/
def Reg.TP_CTRL (i : Nat) : Nat := 0x904040 + 0x100 * i
/-- CAL_CMD (Table 13.4). -/
def Reg.CAL_CMD : Nat := 0xA00000
/-- CAL_STATUS (Table 13.4). -/
def Reg.CAL_STATUS : Nat := 0xA00004
/-- CAL_REFV (Table 13.6). -/
def Reg.CAL_REFV : Nat := 0xA00008
/-- CAL_REFT_PER_LO (Table 13.6). -/
def Reg.CAL_REFT_PER_LO : Nat := 0xA0000C
/-- CAL_REFT_PER_HI (Table 13.6). -/
def Reg.CAL_REFT_PER_HI : Nat := 0xA00010
/-- CAL_REFMEAS_V (Table 13.6). -/
def Reg.CAL_REFMEAS_V : Nat := 0xA00014
/-- CAL_REFT_MEAS_LO (Table 13.6). -/
def Reg.CAL_REFT_MEAS_LO : Nat := 0xA00018
/-- CAL_REFT_MEAS_HI (Table 13.6). -/
def Reg.CAL_REFT_MEAS_HI : Nat := 0xA0001C
/-- CAL_REQ (Table 13.6). -/
def Reg.CAL_REQ : Nat := 0xA00020
/-- CAL_IRQ_EN (Table 13.6). -/
def Reg.CAL_IRQ_EN : Nat := 0xA00024
/-- CAL_FAILMAP (Table 13.6). -/
def Reg.CAL_FAILMAP (i : Nat) : Nat := 0xA00040 + 0x4 * i
/-- CAL_DOM_CFG (Table 13.7). -/
def Reg.CAL_DOM_CFG (i : Nat) : Nat := 0xA00100 + 0x20 * i
/-- CAL_DOM_COUNT (Table 13.7). -/
def Reg.CAL_DOM_COUNT (i : Nat) : Nat := 0xA00104 + 0x20 * i
/-- CAL_DOM_LAST_LO (Table 13.7). -/
def Reg.CAL_DOM_LAST_LO (i : Nat) : Nat := 0xA00108 + 0x20 * i
/-- CAL_DOM_LAST_HI (Table 13.7). -/
def Reg.CAL_DOM_LAST_HI (i : Nat) : Nat := 0xA0010C + 0x20 * i
/-- CAL_DOM_TEMP (Table 13.7). -/
def Reg.CAL_DOM_TEMP (i : Nat) : Nat := 0xA00110 + 0x20 * i
/-- CAL_DOM_INFO (Table 13.7). -/
def Reg.CAL_DOM_INFO (i : Nat) : Nat := 0xA00114 + 0x20 * i
/-- CAL_TSEL (Table 13.8). -/
def Reg.CAL_TSEL : Nat := 0xA00080
/-- CAL_TDATA (Table 13.8). -/
def Reg.CAL_TDATA : Nat := 0xA00084
/-- CH_LCAL (Table 13.9). -/
def Reg.CH_LCAL (i j k : Nat) : Nat := 0x500080 + 0x100000 * i + 0x100 * j + 0x4 * k
/-- DRC_MAP (Table 14.5). -/
def Reg.DRC_MAP : Nat := 0xB00000
/-- DRC_PAGE (Table 14.5). -/
def Reg.DRC_PAGE : Nat := 0xB00004
/-- DRC_REF_CFG (Table 14.5). -/
def Reg.DRC_REF_CFG : Nat := 0xB00008
/-- DRC_PWR_CFG (Table 14.5). -/
def Reg.DRC_PWR_CFG : Nat := 0xB0000C
/-- DRC_EVENT (Table 14.6). -/
def Reg.DRC_EVENT : Nat := 0xB00010
/-- DRC_ERR_ADDR_LO (Table 14.6). -/
def Reg.DRC_ERR_ADDR_LO : Nat := 0xB00014
/-- DRC_ERR_ADDR_HI (Table 14.6). -/
def Reg.DRC_ERR_ADDR_HI : Nat := 0xB00018
/-- DRC_CH_STATUS (Table 14.7). -/
def Reg.DRC_CH_STATUS (i : Nat) : Nat := 0xB00100 + 0x8 * i
/-- DRC_CH_ERRCNT (Table 14.7). -/
def Reg.DRC_CH_ERRCNT (i : Nat) : Nat := 0xB00104 + 0x8 * i
/-- DMA_CH_CTRL (Table 15.10). -/
def Reg.DMA_CH_CTRL (i : Nat) : Nat := 0xC00000 + 0x20 * i
/-- DMA_CH_STATUS (Table 15.10). -/
def Reg.DMA_CH_STATUS (i : Nat) : Nat := 0xC00004 + 0x20 * i
/-- DMA_CH_POS (Table 15.10). -/
def Reg.DMA_CH_POS (i : Nat) : Nat := 0xC00008 + 0x20 * i
/-- DMA_CH_OFFSET (Table 15.10). -/
def Reg.DMA_CH_OFFSET (i : Nat) : Nat := 0xC0000C + 0x20 * i
/-- DMA_CH_ERR_ADDR_LO (Table 15.10). -/
def Reg.DMA_CH_ERR_ADDR_LO (i : Nat) : Nat := 0xC00010 + 0x20 * i
/-- DMA_CH_ERR_ADDR_HI (Table 15.10). -/
def Reg.DMA_CH_ERR_ADDR_HI (i : Nat) : Nat := 0xC00014 + 0x20 * i
/-- DMA_CH_ERR_INFO (Table 15.10). -/
def Reg.DMA_CH_ERR_INFO (i : Nat) : Nat := 0xC00018 + 0x20 * i
/-- DMA_CFG (Table 15.11). -/
def Reg.DMA_CFG : Nat := 0xC00800
/-- XLT_INV (Table 15.11). -/
def Reg.XLT_INV : Nat := 0xC00810
/-- XLT_INV_ADDR_LO (Table 15.11). -/
def Reg.XLT_INV_ADDR_LO : Nat := 0xC00814
/-- XLT_INV_ADDR_HI (Table 15.11). -/
def Reg.XLT_INV_ADDR_HI : Nat := 0xC00818
/-- XLT_FLT_MAP_LO (Table 15.11). -/
def Reg.XLT_FLT_MAP_LO : Nat := 0xC00820
/-- XLT_FLT_MAP_HI (Table 15.11). -/
def Reg.XLT_FLT_MAP_HI : Nat := 0xC00824
/-- XLT_CTX_ROOT_LO (Table 15.12). -/
def Reg.XLT_CTX_ROOT_LO (i : Nat) : Nat := 0xC01000 + 0x20 * i
/-- XLT_CTX_ROOT_HI (Table 15.12). -/
def Reg.XLT_CTX_ROOT_HI (i : Nat) : Nat := 0xC01004 + 0x20 * i
/-- XLT_CTX_FLT_ADDR_LO (Table 15.12). -/
def Reg.XLT_CTX_FLT_ADDR_LO (i : Nat) : Nat := 0xC01008 + 0x20 * i
/-- XLT_CTX_FLT_ADDR_HI (Table 15.12). -/
def Reg.XLT_CTX_FLT_ADDR_HI (i : Nat) : Nat := 0xC0100C + 0x20 * i
/-- XLT_CTX_FLT_INFO (Table 15.12). -/
def Reg.XLT_CTX_FLT_INFO (i : Nat) : Nat := 0xC01010 + 0x20 * i
/-- SL_CTRL (Table 16.8). -/
def Reg.SL_CTRL : Nat := 0xD00000
/-- SL_STATUS (Table 16.8). -/
def Reg.SL_STATUS : Nat := 0xD00004
/-- SL_PROT (Table 16.8). -/
def Reg.SL_PROT : Nat := 0xD00008
/-- SL_EVENT (Table 16.9). -/
def Reg.SL_EVENT : Nat := 0xD0000C
/-- SL_IRQ_EN (Table 16.9). -/
def Reg.SL_IRQ_EN : Nat := 0xD00010
/-- SL_CFG (Table 16.9). -/
def Reg.SL_CFG : Nat := 0xD00014
/-- SL_PCC_LO (Table 16.10). -/
def Reg.SL_PCC_LO : Nat := 0xD00018
/-- SL_PCC_HI (Table 16.10). -/
def Reg.SL_PCC_HI : Nat := 0xD0001C
/-- SL_JSENT (Table 16.10). -/
def Reg.SL_JSENT : Nat := 0xD00020
/-- SL_JACK (Table 16.10). -/
def Reg.SL_JACK : Nat := 0xD00024
/-- SL_DDS_SHADOW (Table 16.10). -/
def Reg.SL_DDS_SHADOW : Nat := 0xD00028
/-- SL_PDIE_STATUS (Table 16.11). -/
def Reg.SL_PDIE_STATUS (i : Nat) : Nat := 0xD00040 + 0x10 * i
/-- SL_PDIE_MIRPLAY (Table 16.11). -/
def Reg.SL_PDIE_MIRPLAY (i : Nat) : Nat := 0xD00044 + 0x10 * i
/-- SL_PDIE_LATE (Table 16.11). -/
def Reg.SL_PDIE_LATE (i : Nat) : Nat := 0xD00048 + 0x10 * i
/-- SL_PDIE_DIVCNT (Table 16.11). -/
def Reg.SL_PDIE_DIVCNT (i : Nat) : Nat := 0xD0004C + 0x10 * i
/-- SL_LANE_STATUS (Table 16.12). -/
def Reg.SL_LANE_STATUS (i : Nat) : Nat := 0xD00200 + 0x8 * i
/-- SL_LANE_CFG (Table 16.12). -/
def Reg.SL_LANE_CFG (i : Nat) : Nat := 0xD00204 + 0x8 * i
/-- SL_MRGN_LOCAL (Table 16.13). -/
def Reg.SL_MRGN_LOCAL (i : Nat) : Nat := 0xD01000 + 0x10 * i
/-- SL_MRGN_PEER (Table 16.13). -/
def Reg.SL_MRGN_PEER (i : Nat) : Nat := 0xD01004 + 0x10 * i
/-- SL_MRGN_CFG (Table 16.13). -/
def Reg.SL_MRGN_CFG (i : Nat) : Nat := 0xD01008 + 0x10 * i
/-- PLT_CTRL (Table 17.3). -/
def Reg.PLT_CTRL : Nat := 0xE00000
/-- PLT_STATUS (Table 17.3). -/
def Reg.PLT_STATUS : Nat := 0xE00004
/-- PLT_EVENT (Table 17.3). -/
def Reg.PLT_EVENT : Nat := 0xE00008
/-- PLT_IRQ_EN (Table 17.3). -/
def Reg.PLT_IRQ_EN : Nat := 0xE0000C
/-- PLT_DOCKS (Table 17.4). -/
def Reg.PLT_DOCKS : Nat := 0xE00010
/-- PLT_RLY_RATING (Table 17.4). -/
def Reg.PLT_RLY_RATING : Nat := 0xE00014
/-- PLT_DOCK_RATING (Table 17.4). -/
def Reg.PLT_DOCK_RATING : Nat := 0xE00018
/-- PLT_WARN_LO (Table 17.4). -/
def Reg.PLT_WARN_LO : Nat := 0xE00020
/-- PLT_WARN_HI (Table 17.4). -/
def Reg.PLT_WARN_HI : Nat := 0xE00024
/-- PLT_FAULT_LO (Table 17.4). -/
def Reg.PLT_FAULT_LO : Nat := 0xE00028
/-- PLT_FAULT_HI (Table 17.4). -/
def Reg.PLT_FAULT_HI : Nat := 0xE0002C
/-- PLT_PRESENT_LO (Table 17.4). -/
def Reg.PLT_PRESENT_LO : Nat := 0xE00030
/-- PLT_PRESENT_HI (Table 17.4). -/
def Reg.PLT_PRESENT_HI : Nat := 0xE00034
/-- PLT_SERIAL (Table 17.4). -/
def Reg.PLT_SERIAL (i : Nat) : Nat := 0xE00040 + 0x4 * i
/-- PLT_RCNT (Table 17.4). -/
def Reg.PLT_RCNT (i : Nat) : Nat := 0xE00100 + 0x4 * i
/-- ERR_CFG (Table 18.7). -/
def Reg.ERR_CFG : Nat := 0xF00000
/-- ERR_STATUS (Table 18.7). -/
def Reg.ERR_STATUS : Nat := 0xF00004
/-- ERR_ACCESS (Table 18.7). -/
def Reg.ERR_ACCESS : Nat := 0xF00008
/-- ERR_ACCESS_INFO (Table 18.7). -/
def Reg.ERR_ACCESS_INFO : Nat := 0xF0000C
/-- ERR_MCHK (Table 18.7). -/
def Reg.ERR_MCHK : Nat := 0xF00010
/-- ERR_COUNT (Table 18.7). -/
def Reg.ERR_COUNT : Nat := 0xF00014
/-- ERR_FATAL (Table 18.7). -/
def Reg.ERR_FATAL : Nat := 0xF00018
/-- ERR_XING (Table 18.7). -/
def Reg.ERR_XING : Nat := 0xF0001C
/-- ERR_SRAM_CE (Table 18.7). -/
def Reg.ERR_SRAM_CE : Nat := 0xF00020
/-- ERR_SEQ (Table 18.7). -/
def Reg.ERR_SEQ : Nat := 0xF00024
/-- ERR_LOST (Table 18.7). -/
def Reg.ERR_LOST : Nat := 0xF00028
/-- ERR_RING_BASE_LO (Table 18.7). -/
def Reg.ERR_RING_BASE_LO : Nat := 0xF00030
/-- ERR_RING_BASE_HI (Table 18.7). -/
def Reg.ERR_RING_BASE_HI : Nat := 0xF00034
/-- ERR_RING_CFG (Table 18.7). -/
def Reg.ERR_RING_CFG : Nat := 0xF00038
/-- ERR_RING_STATE (Table 18.7). -/
def Reg.ERR_RING_STATE : Nat := 0xF0003C
/-- ERR_RING_HEAD (Table 18.7). -/
def Reg.ERR_RING_HEAD : Nat := 0xF00040
/-- GLB_ID (Table 19.3). -/
def Reg.GLB_ID : Nat := 0x0
/-- GLB_SERIAL_LO (Table 19.3). -/
def Reg.GLB_SERIAL_LO : Nat := 0x4
/-- GLB_SERIAL_HI (Table 19.3). -/
def Reg.GLB_SERIAL_HI : Nat := 0x8
/-- TP_TSQ (Table 12.11). -/
def Reg.TP_TSQ (i j : Nat) : Nat := 0x904030 + 0x100 * i + 0x4 * j

/-! ### Fields -/

def Fields.GLB_DIE_STATUS.P0_UP : Fld := ⟨0, 1⟩
def Fields.GLB_DIE_STATUS.P1_UP : Fld := ⟨1, 1⟩
def Fields.GLB_DIE_STATUS.H0_UP : Fld := ⟨2, 1⟩
def Fields.GLB_DIE_STATUS.H0_SEC_UP : Fld := ⟨3, 1⟩
def Fields.GLB_DIE_STATUS.TB_LOCK : Fld := ⟨4, 1⟩
def Fields.GLB_DIE_STATUS.P0_HOLDOVER : Fld := ⟨5, 1⟩
def Fields.GLB_DIE_STATUS.P1_HOLDOVER : Fld := ⟨6, 1⟩
def Fields.GLB_DIE_STATUS.H0_HOLDOVER : Fld := ⟨7, 1⟩
def Fields.GLB_DIE_STATUS.GDDR_UP : Fld := ⟨8, 8⟩
def Fields.GLB_DIE_ERR.P0_LINK_ERR : Fld := ⟨0, 1⟩
def Fields.GLB_DIE_ERR.P1_LINK_ERR : Fld := ⟨1, 1⟩
def Fields.GLB_DIE_ERR.H0_LINK_ERR : Fld := ⟨2, 1⟩
def Fields.GLB_DIE_ERR.XING_OVF : Fld := ⟨3, 1⟩
def Fields.GLB_DIE_ERR.BLOCK_LOST : Fld := ⟨4, 1⟩
def Fields.GLB_DIE_ERR.HOLDOVER_SEEN : Fld := ⟨5, 1⟩
def Fields.GLB_STREAM_LEAD.LEAD : Fld := ⟨0, 16⟩
def Fields.PWR_STATUS.VIN_OK : Fld := ⟨0, 1⟩
def Fields.PWR_STATUS.VAUX_OK : Fld := ⟨1, 1⟩
def Fields.PWR_STATUS.VHP_OK : Fld := ⟨2, 1⟩
def Fields.PWR_STATUS.VHN_OK : Fld := ⟨3, 1⟩
def Fields.PWR_STATUS.VHL_OK : Fld := ⟨4, 1⟩
def Fields.PWR_STATUS.CORE_RAILS_OK : Fld := ⟨5, 1⟩
def Fields.PWR_STATUS.P0_RAILS_OK : Fld := ⟨6, 1⟩
def Fields.PWR_STATUS.P1_RAILS_OK : Fld := ⟨7, 1⟩
def Fields.PWR_STATUS.H0_RAILS_OK : Fld := ⟨8, 1⟩
def Fields.PWR_STATUS.GDDR_RAILS_OK : Fld := ⟨9, 8⟩
def Fields.PWR_STATUS.LEVEL : Fld := ⟨17, 3⟩
def Fields.PWR_STATUS.START_DONE : Fld := ⟨20, 1⟩
def Fields.PWR_STATUS.OFF_READY : Fld := ⟨21, 1⟩
def Fields.PWR_STATUS.TRIP_ACTIVE : Fld := ⟨22, 1⟩
def Fields.PWR_EVENT.VIN_UV : Fld := ⟨0, 1⟩
def Fields.PWR_EVENT.VIN_OV : Fld := ⟨1, 1⟩
def Fields.PWR_EVENT.HV_SUPPLY : Fld := ⟨2, 1⟩
def Fields.PWR_EVENT.RAIL_FAULT : Fld := ⟨3, 1⟩
def Fields.PWR_EVENT.TEMP_WARN : Fld := ⟨4, 1⟩
def Fields.PWR_EVENT.THROTTLED : Fld := ⟨5, 1⟩
def Fields.PWR_EVENT.TRIP_CORE : Fld := ⟨6, 1⟩
def Fields.PWR_EVENT.TRIP_P0 : Fld := ⟨7, 1⟩
def Fields.PWR_EVENT.TRIP_P1 : Fld := ⟨8, 1⟩
def Fields.PWR_EVENT.TRIP_H0 : Fld := ⟨9, 1⟩
def Fields.PWR_EVENT.TRIP_GDDR : Fld := ⟨10, 1⟩
def Fields.PWR_EVENT.HV_BUDGET : Fld := ⟨11, 1⟩
def Fields.PWR_EVENT.HGND_RANGE : Fld := ⟨12, 1⟩
def Fields.PWR_EVENT.START_FAIL : Fld := ⟨13, 1⟩
def Fields.PWR_GOV_CTRL.MAX_LEVEL : Fld := ⟨0, 3⟩
def Fields.PWR_GOV_CTRL.FORCE_LEVEL : Fld := ⟨4, 3⟩
def Fields.PWR_TH.TEMP_WARN : Fld := ⟨0, 8⟩
def Fields.PWR_TH.TEMP_THROTTLE : Fld := ⟨8, 8⟩
def Fields.PWR_TH.VIN_ITH : Fld := ⟨16, 12⟩
def Fields.PWR_VIN_MEAS.VOLT : Fld := ⟨0, 16⟩
def Fields.PWR_VIN_MEAS.CURR : Fld := ⟨16, 16⟩
def Fields.PWR_HV_MON.CLAMP_SUM : Fld := ⟨0, 12⟩
def Fields.PWR_HV_MON.HGND_OFS : Fld := ⟨16, 12⟩
def Fields.PWR_TEMP.TEMP : Fld := ⟨0, 12⟩
def Fields.PWR_TEMP.VALID : Fld := ⟨15, 1⟩
def Fields.GLB_RST_CTRL.WARM : Fld := ⟨0, 1⟩
def Fields.GLB_RST_CTRL.HANDOVER : Fld := ⟨1, 1⟩
def Fields.GLB_RST_CTRL.COLD : Fld := ⟨2, 1⟩
def Fields.GLB_RST_CTRL.KEY : Fld := ⟨16, 16⟩
def Fields.GLB_RST_CAUSE.LAST : Fld := ⟨0, 4⟩
def Fields.GLB_RST_CAUSE.WARM_COUNT : Fld := ⟨8, 8⟩
def Fields.GLB_RST_CAUSE.PERST_SEEN : Fld := ⟨16, 1⟩
def Fields.GLB_START_STATE.STATE : Fld := ⟨0, 4⟩
def Fields.GLB_START_STATE.PROFILE : Fld := ⟨4, 2⟩
def Fields.GLB_START_STATE.SLOT : Fld := ⟨6, 1⟩
def Fields.GLB_START_STATE.BY_CMD : Fld := ⟨7, 1⟩
def Fields.GLB_START_STATE.REF_WAITING : Fld := ⟨8, 1⟩
def Fields.GLB_START_STATE.FW_BAD : Fld := ⟨9, 1⟩
def Fields.GLB_START_STATE.MCS_BAD : Fld := ⟨10, 1⟩
def Fields.GLB_START_STATE.PROF_BAD : Fld := ⟨11, 1⟩
def Fields.GLB_START_STATE.REC_SKIPPED : Fld := ⟨12, 1⟩
def Fields.GLB_START_STATE.RT_BAD : Fld := ⟨13, 1⟩
def Fields.GLB_START_STATE.READY_MS : Fld := ⟨16, 16⟩
def Fields.GLB_PROF_STATUS.BUSY : Fld := ⟨0, 1⟩
def Fields.GLB_PROF_STATUS.DONE : Fld := ⟨1, 1⟩
def Fields.GLB_PROF_STATUS.ERR : Fld := ⟨2, 1⟩
def Fields.GLB_PROF_STATUS.ERR_CODE : Fld := ⟨4, 4⟩
def Fields.GLB_PROF_STATUS.SLOT_VALID : Fld := ⟨8, 8⟩
def Fields.GLB_PROF_CMD.OP : Fld := ⟨0, 2⟩
def Fields.GLB_PROF_CMD.PROFILE : Fld := ⟨4, 2⟩
def Fields.GLB_PROF_CMD.KEY : Fld := ⟨16, 16⟩
def Fields.GLB_FLASH_SRC_LO.ADDR_L : Fld := ⟨16, 16⟩
def Fields.GLB_FLASH_SRC_HI.ADDR_H : Fld := ⟨0, 3⟩
def Fields.HOST_CTRL.FETCH_EN : Fld := ⟨0, 1⟩
def Fields.HOST_CTRL.DATA_RO : Fld := ⟨1, 1⟩
def Fields.HOST_STATUS.LINK_UP : Fld := ⟨0, 1⟩
def Fields.HOST_STATUS.SPEED : Fld := ⟨1, 3⟩
def Fields.HOST_STATUS.WIDTH : Fld := ⟨4, 5⟩
def Fields.HOST_STATUS.BME : Fld := ⟨9, 1⟩
def Fields.HOST_STATUS.HOLDING : Fld := ⟨10, 1⟩
def Fields.HOST_ERR.DB_SIZE : Fld := ⟨0, 1⟩
def Fields.HOST_ERR.DB_UNBOUND : Fld := ⟨1, 1⟩
def Fields.HOST_ERR.DB_RANGE : Fld := ⟨2, 1⟩
def Fields.HOST_ERR.DB_BACKWARD : Fld := ⟨3, 1⟩
def Fields.HOST_ERR.FETCH_ERR : Fld := ⟨4, 1⟩
def Fields.HOST_ERR.CTX_REFUSED : Fld := ⟨5, 1⟩
def Fields.HOST_ERR.BAR4_RANGE : Fld := ⟨6, 1⟩
def Fields.HOST_ERR.DESC_INVALID : Fld := ⟨7, 1⟩
def Fields.HOST_ERR_INFO.QUEUE : Fld := ⟨0, 12⟩
def Fields.HOST_ERR_INFO.CQ : Fld := ⟨12, 6⟩
def Fields.HOST_BAR4_BASE_LO.BASE_L : Fld := ⟨16, 16⟩
def Fields.HOST_BAR4_BASE_HI.BASE_H : Fld := ⟨0, 3⟩
def Fields.HOST_BAR4_BASE_HI.GROUP : Fld := ⟨8, 6⟩
def Fields.HOST_QSEL.QUEUE : Fld := ⟨0, 12⟩
def Fields.HOST_QCTX_BASE_LO.BASE_L : Fld := ⟨12, 20⟩
def Fields.HOST_QCTX_BASE_HI.BASE_H : Fld := ⟨0, 32⟩
def Fields.HOST_QCTX_CFG.SIZE_LOG2 : Fld := ⟨0, 5⟩
def Fields.HOST_QCTX_CFG.CQ : Fld := ⟨8, 6⟩
def Fields.HOST_QCTX_CFG.HALT_ON_INVALID : Fld := ⟨16, 1⟩
def Fields.HOST_QCTX_STATE.HEAD : Fld := ⟨0, 16⟩
def Fields.HOST_QCTX_STATE.BOUND : Fld := ⟨16, 1⟩
def Fields.HOST_QCTX_STATE.HALTED : Fld := ⟨17, 1⟩
def Fields.HOST_QCTX_STATE.ONCHIP : Fld := ⟨18, 3⟩
def Fields.HOST_QCTX_TAIL.TAIL : Fld := ⟨0, 16⟩
def Fields.HOST_QCTX_TAIL.OUTSTANDING : Fld := ⟨16, 16⟩
def Fields.HOST_QCMD.OP : Fld := ⟨0, 3⟩
def Fields.HOST_EVT_VEC0.ERR_VEC : Fld := ⟨0, 8⟩
def Fields.HOST_EVT_VEC0.PWR_VEC : Fld := ⟨8, 8⟩
def Fields.HOST_EVT_VEC0.PAIR_VEC : Fld := ⟨16, 8⟩
def Fields.HOST_EVT_VEC0.PLT_VEC : Fld := ⟨24, 8⟩
def Fields.HOST_EVT_VEC1.TIME_VEC : Fld := ⟨0, 8⟩
def Fields.HOST_EVT_VEC1.CAL_VEC : Fld := ⟨8, 8⟩
def Fields.HOST_EVT_VEC1.MGMT_VEC : Fld := ⟨16, 8⟩
def Fields.HOST_EVT_VEC1.SPILL_VEC : Fld := ⟨24, 8⟩
def Fields.HOST_CQ_BASE_LO.BASE_L : Fld := ⟨12, 20⟩
def Fields.HOST_CQ_BASE_HI.BASE_H : Fld := ⟨0, 32⟩
def Fields.HOST_CQ_CFG.ENABLE : Fld := ⟨0, 1⟩
def Fields.HOST_CQ_CFG.SIZE_LOG2 : Fld := ⟨1, 5⟩
def Fields.HOST_CQ_CFG.VEC : Fld := ⟨8, 8⟩
def Fields.HOST_CQ_CFG.MOD_COUNT : Fld := ⟨16, 8⟩
def Fields.HOST_CQ_CFG.MOD_TIME : Fld := ⟨24, 8⟩
def Fields.HOST_CQ_STATE.TAIL : Fld := ⟨0, 16⟩
def Fields.HOST_CQ_STATE.PHASE : Fld := ⟨16, 1⟩
def Fields.HAT_CTRL.DISPATCH_EN : Fld := ⟨0, 1⟩
def Fields.HAT_CTRL.PREEMPT_WAIT : Fld := ⟨8, 8⟩
def Fields.HAT_STATUS.INSTANCES : Fld := ⟨0, 10⟩
def Fields.HAT_STATUS.PRIV_COUNT : Fld := ⟨10, 8⟩
def Fields.HAT_ERR.GRAPH_INVALID : Fld := ⟨0, 1⟩
def Fields.HAT_ERR.PRIV_LIMIT : Fld := ⟨1, 1⟩
def Fields.HAT_ERR.SPILL_FULL : Fld := ⟨2, 1⟩
def Fields.HAT_ERR.TRACE_LOST : Fld := ⟨3, 1⟩
def Fields.HAT_ERR.PREEMPT_TIMEOUT : Fld := ⟨4, 1⟩
def Fields.HAT_ERR.UCMD_REFUSED : Fld := ⟨5, 1⟩
def Fields.HAT_SITE_LOST_LO.SITE_L : Fld := ⟨0, 32⟩
def Fields.HAT_SITE_LOST_HI.SITE_H : Fld := ⟨0, 32⟩
def Fields.HAT_TRACE_CTRL.EN : Fld := ⟨0, 1⟩
def Fields.HAT_TRACE_CTRL.DEST : Fld := ⟨1, 2⟩
def Fields.HAT_TRACE_CTRL.STOP_FULL : Fld := ⟨3, 1⟩
def Fields.HAT_TRACE_CTRL.SIZE_LOG2 : Fld := ⟨8, 5⟩
def Fields.HAT_TRACE_CTRL.GROUP : Fld := ⟨16, 6⟩
def Fields.HAT_TRACE_BASE_LO.BASE_L : Fld := ⟨12, 20⟩
def Fields.HAT_TRACE_BASE_HI.BASE_H : Fld := ⟨0, 32⟩
def Fields.HAT_TRACE_WR.WR : Fld := ⟨0, 32⟩
def Fields.HAT_TRACE_RD.RD : Fld := ⟨0, 32⟩
def Fields.HAT_USEL.CLASS : Fld := ⟨0, 4⟩
def Fields.HAT_USEL.INDEX : Fld := ⟨8, 8⟩
def Fields.HAT_UCMD.OP : Fld := ⟨0, 2⟩
def Fields.HAT_USTATE.ENABLED : Fld := ⟨0, 1⟩
def Fields.HAT_USTATE.BUSY : Fld := ⟨1, 1⟩
def Fields.HAT_USTATE.WAITING : Fld := ⟨16, 16⟩
def Fields.HAT_GRP_CFG.WEIGHT : Fld := ⟨0, 8⟩
def Fields.HAT_GRP_CFG.ENABLE : Fld := ⟨8, 1⟩
def Fields.HAT_GRP_CFG.FLUSH : Fld := ⟨9, 1⟩
def Fields.HAT_Q_CFG.PRIO : Fld := ⟨0, 3⟩
def Fields.HAT_Q_CFG.PRIV : Fld := ⟨3, 1⟩
def Fields.HAT_Q_CFG.SPILL_CTX : Fld := ⟨4, 7⟩
def Fields.HAT_Q_CFG.DEPTH : Fld := ⟨16, 5⟩
def Fields.HAT_SPILL_BASE_LO.BASE_L : Fld := ⟨12, 20⟩
def Fields.HAT_SPILL_BASE_HI.BASE_H : Fld := ⟨0, 16⟩
def Fields.HAT_SPILL_CFG.SIZE_LOG2 : Fld := ⟨0, 5⟩
def Fields.HAT_SPILL_CFG.THRESH : Fld := ⟨8, 8⟩
def Fields.HAT_SPILL_STATE.COUNT : Fld := ⟨0, 25⟩
def Fields.MCS_CTRL.CHECK : Fld := ⟨0, 1⟩
def Fields.MCS_CTRL.RELOAD : Fld := ⟨1, 1⟩
def Fields.MCS_STATUS.LOADED : Fld := ⟨0, 1⟩
def Fields.MCS_STATUS.CHECKING : Fld := ⟨1, 1⟩
def Fields.MCS_STATUS.BAD_MAGIC : Fld := ⟨2, 1⟩
def Fields.MCS_STATUS.BAD_PARITY : Fld := ⟨3, 1⟩
def Fields.MCS_STATUS.BAD_ADDR : Fld := ⟨4, 1⟩
def Fields.MCS_STATUS.BAD_RSVD : Fld := ⟨5, 1⟩
def Fields.MCS_STATUS.SCRUB_ERR : Fld := ⟨6, 1⟩
def Fields.MCS_STATUS.SCRUB_ADDR : Fld := ⟨16, 12⟩
def Fields.MCS_VERSION.VERSION : Fld := ⟨0, 32⟩
def Fields.MCS_CRC.CRC : Fld := ⟨0, 32⟩
def Fields.MCS_CORE_CFG.KILL_WAIT : Fld := ⟨0, 16⟩
def Fields.MCS_SCORE_CTRL.HOLD : Fld := ⟨0, 1⟩
def Fields.MCS_SCORE_CTRL.GO : Fld := ⟨1, 1⟩
def Fields.MCS_SCORE_STATUS.AVAILABLE : Fld := ⟨0, 1⟩
def Fields.MCS_SCORE_STATUS.RUNNING : Fld := ⟨1, 1⟩
def Fields.MCS_SCORE_STATUS.SUSPENDED : Fld := ⟨2, 2⟩
def Fields.MCS_SCORE_STATUS.KILLS : Fld := ⟨16, 8⟩
def Fields.MCS_MCORE_CTRL.HOLD : Fld := ⟨0, 1⟩
def Fields.MCS_MCORE_CTRL.GO : Fld := ⟨1, 1⟩
def Fields.MCS_MCORE_CTRL.WDOG_EN : Fld := ⟨2, 1⟩
def Fields.MCS_MCORE_CTRL.KICK : Fld := ⟨3, 1⟩
def Fields.MCS_MCORE_STATUS.RUNNING : Fld := ⟨0, 1⟩
def Fields.MCS_MCORE_STATUS.FAILED : Fld := ⟨1, 1⟩
def Fields.MCS_MCORE_STATUS.WDOG_COUNT : Fld := ⟨16, 8⟩
def Fields.MCS_MGMT_LOAD.LOAD0 : Fld := ⟨0, 7⟩
def Fields.MCS_MGMT_LOAD.LOAD1 : Fld := ⟨7, 7⟩
def Fields.MCS_MGMT_LOAD.LOAD2 : Fld := ⟨14, 7⟩
def Fields.MCS_MGMT_LOAD.LOAD3 : Fld := ⟨21, 7⟩
def Fields.MCS_MGMT_LOAD.SHED : Fld := ⟨28, 2⟩
def Fields.MCS_MGMT_CFG.SHED_HI : Fld := ⟨0, 7⟩
def Fields.MCS_MGMT_CFG.SHED_LO : Fld := ⟨8, 7⟩
def Fields.MCS_MGMT_CFG.WDOG_MS : Fld := ⟨16, 8⟩
def Fields.MCS_MGMT_CFG.GROUP : Fld := ⟨24, 6⟩
def Fields.SEQ_CTRL.PAUSE : Fld := ⟨0, 1⟩
def Fields.SEQ_CTRL.HALT : Fld := ⟨1, 1⟩
def Fields.SEQ_CTRL.CLR_MCHK : Fld := ⟨2, 1⟩
def Fields.SEQ_STATUS.STATE : Fld := ⟨0, 3⟩
def Fields.SEQ_STATUS.HOLD_ACTIVE : Fld := ⟨3, 1⟩
def Fields.SEQ_STATUS.PAUSE_PENDING : Fld := ⟨4, 1⟩
def Fields.SEQ_STATUS.RESIDENT : Fld := ⟨5, 1⟩
def Fields.SEQ_STATUS.MIRROR : Fld := ⟨6, 1⟩
def Fields.SEQ_STATUS.LW : Fld := ⟨8, 4⟩
def Fields.SEQ_STATUS.TSET : Fld := ⟨12, 6⟩
def Fields.SEQ_STATUS.LOOP_DEPTH : Fld := ⟨18, 4⟩
def Fields.SEQ_STATUS.CALL_DEPTH : Fld := ⟨22, 5⟩
def Fields.SEQ_CFG.MAX_STRETCH : Fld := ⟨0, 24⟩
def Fields.SEQ_PF_CFG.BLOCKS : Fld := ⟨0, 7⟩
def Fields.SEQ_PF_CFG.IBLOCKS : Fld := ⟨8, 7⟩
def Fields.SEQ_PF_STATUS.READABLE : Fld := ⟨0, 7⟩
def Fields.SEQ_PF_STATUS.PINNED : Fld := ⟨8, 7⟩
def Fields.SEQ_PF_STATUS.MISS : Fld := ⟨16, 16⟩
def Fields.SEQ_MSTATE.COMMIT_ADDR : Fld := ⟨0, 12⟩
def Fields.SEQ_MSTATE.EFFECTS : Fld := ⟨16, 8⟩
def Fields.SEQ_MSTATE.CAUSE : Fld := ⟨24, 4⟩
def Fields.SEQ_MSTATE.VALID : Fld := ⟨31, 1⟩
def Fields.SEQ_PC.PC : Fld := ⟨0, 32⟩
def Fields.SEQ_LAST.STATUS : Fld := ⟨0, 8⟩
def Fields.SEQ_LAST.STRETCHED : Fld := ⟨8, 1⟩
def Fields.SEQ_LAST.FAIL : Fld := ⟨9, 1⟩
def Fields.SEQ_LAST.MATCH_NOMATCH : Fld := ⟨16, 16⟩
def Fields.SEQ_VCOUNT_LO.VCOUNT : Fld := ⟨0, 32⟩
def Fields.SEQ_VCOUNT_HI.VCOUNT : Fld := ⟨0, 32⟩
def Fields.SEQ_STRETCH_LO.STRETCH : Fld := ⟨0, 32⟩
def Fields.SEQ_STRETCH_HI.STRETCH : Fld := ⟨0, 32⟩
def Fields.SEQ_FLAGS.USER : Fld := ⟨0, 16⟩
def Fields.SEQ_FLAGS.FAIL : Fld := ⟨16, 1⟩
def Fields.SEQ_FLAGS.MATCHED : Fld := ⟨17, 1⟩
def Fields.SEQ_FLAGS.NOMATCH : Fld := ⟨18, 1⟩
def Fields.SEQ_FLAGS.TRIG_SEEN : Fld := ⟨19, 1⟩
def Fields.SEQ_PORT.CH : Fld := ⟨0, 32⟩
def Fields.SEQ_MMASK.CH : Fld := ⟨0, 32⟩
def Fields.SEQ_GRP_RESV.RESV : Fld := ⟨0, 12⟩
def Fields.SEQ_GRP_RESV.USED : Fld := ⟨16, 12⟩
def Fields.SEQ_BAR_MASK.MEMBERS : Fld := ⟨0, 32⟩
def Fields.SEQ_PF_FREE.LOCAL_FREE : Fld := ⟨0, 7⟩
def Fields.SEQ_PF_FREE.MIRROR_FREE : Fld := ⟨8, 7⟩
def Fields.CH_VMAP.BANK0 : Fld := ⟨0, 16⟩
def Fields.CH_VMAP.BANK1 : Fld := ⟨16, 16⟩
def Fields.CH_VCFG.SAFE : Fld := ⟨0, 4⟩
def Fields.CH_VCFG.F1ROLE : Fld := ⟨4, 1⟩
def Fields.SEQ_TPER.PERIOD : Fld := ⟨0, 27⟩
def Fields.CH_TSET_CFG.FMT : Fld := ⟨0, 3⟩
def Fields.CH_TSET_CFG.SMODE : Fld := ⟨3, 2⟩
def Fields.CH_TSET_CFG.POL : Fld := ⟨5, 1⟩
def Fields.CH_TSET_CFG.PULSE2 : Fld := ⟨6, 1⟩
def Fields.CH_TSET_D0.EDGE : Fld := ⟨0, 29⟩
def Fields.CH_TSET_D1.EDGE : Fld := ⟨0, 29⟩
def Fields.CH_TSET_D2.EDGE : Fld := ⟨0, 29⟩
def Fields.CH_TSET_D3.EDGE : Fld := ⟨0, 29⟩
def Fields.CH_TSET_S0.EDGE : Fld := ⟨0, 29⟩
def Fields.CH_TSET_S1.EDGE : Fld := ⟨0, 29⟩
def Fields.CH_DSK_DR.DSK : Fld := ⟨0, 13⟩
def Fields.CH_DSK_DF.DSK : Fld := ⟨0, 13⟩
def Fields.CH_DSK_CMP.DSK : Fld := ⟨0, 13⟩
def Fields.CH_UOFS.DRV : Fld := ⟨0, 13⟩
def Fields.CH_UOFS.CMP : Fld := ⟨16, 13⟩
def Fields.CH_LIND.TAP_EVEN : Fld := ⟨0, 9⟩
def Fields.CH_LIND.TAP_ODD : Fld := ⟨16, 9⟩
def Fields.CH_LINS.TAP_EVEN : Fld := ⟨0, 9⟩
def Fields.CH_LINS.TAP_ODD : Fld := ⟨16, 9⟩
def Fields.CH_TSTAT.EDGE_CONFLICT : Fld := ⟨0, 1⟩
def Fields.CH_TSTAT.STROBE_CONFLICT : Fld := ⟨1, 1⟩
def Fields.CH_TSTAT.WIN_CONFLICT : Fld := ⟨2, 1⟩
def Fields.CH_TSTAT.EDGE_RANGE : Fld := ⟨3, 1⟩
def Fields.CH_TSTAT.DOWNGRADE : Fld := ⟨4, 1⟩
def Fields.CH_TSTAT.LAST_SET : Fld := ⟨8, 6⟩
def Fields.CH_TFLAG.ANY : Fld := ⟨0, 5⟩
def Fields.CH_TFLAG.PHASE_LOCK : Fld := ⟨8, 1⟩
def Fields.CH_TFLAG.FIRST_CH : Fld := ⟨16, 7⟩
def Fields.SEQ_PRF_CFG.MODE : Fld := ⟨0, 2⟩
def Fields.SEQ_PRF_CFG.FULL_HALT : Fld := ⟨2, 1⟩
def Fields.SEQ_PRF_CFG.COUNT_REC : Fld := ⟨3, 1⟩
def Fields.SEQ_PRF_CFG.HOLD_CMP : Fld := ⟨4, 1⟩
def Fields.SEQ_PRF_CFG.SIZE_LOG2 : Fld := ⟨8, 5⟩
def Fields.SEQ_PRF_STATUS.BURST_SEQ : Fld := ⟨0, 16⟩
def Fields.SEQ_PRF_STATUS.ACTIVE : Fld := ⟨16, 1⟩
def Fields.SEQ_PRF_STATUS.GAP_PENDING : Fld := ⟨17, 1⟩
def Fields.SEQ_PRF_STATUS.OVERWRITE : Fld := ⟨18, 1⟩
def Fields.SEQ_PRF_STATUS.SPILL_FULL : Fld := ⟨19, 1⟩
def Fields.SEQ_PRF_STATUS.LIMIT_STOP : Fld := ⟨20, 1⟩
def Fields.SEQ_PRF_STATUS.TRACE_FULL : Fld := ⟨21, 1⟩
def Fields.SEQ_PRF_STATUS.TRACE_LOST : Fld := ⟨22, 1⟩
def Fields.SEQ_PRF_WR.WR : Fld := ⟨0, 32⟩
def Fields.SEQ_PRF_RD.RD : Fld := ⟨0, 32⟩
def Fields.SEQ_PRF_SPILL_BASE_LO.BASE_L : Fld := ⟨12, 20⟩
def Fields.SEQ_PRF_SPILL_BASE_HI.BASE_H : Fld := ⟨0, 16⟩
def Fields.SEQ_PRF_SWR.SWR : Fld := ⟨0, 32⟩
def Fields.SEQ_PRF_SRD.SRD : Fld := ⟨0, 32⟩
def Fields.SEQ_PRF_LIMIT.LIMIT : Fld := ⟨0, 32⟩
def Fields.SEQ_PRF_FAILS.FAILS : Fld := ⟨0, 32⟩
def Fields.SEQ_PRF_DROPPED.DROPPED : Fld := ⟨0, 32⟩
def Fields.SEQ_PRF_TRC_CFG.EN : Fld := ⟨0, 1⟩
def Fields.SEQ_PRF_TRC_CFG.BITS : Fld := ⟨1, 1⟩
def Fields.SEQ_PRF_TRC_CFG.SIZE_LOG2 : Fld := ⟨8, 5⟩
def Fields.SEQ_PRF_TRC_BASE_LO.BASE_L : Fld := ⟨12, 20⟩
def Fields.SEQ_PRF_TRC_BASE_HI.BASE_H : Fld := ⟨0, 16⟩
def Fields.SEQ_PRF_TRC_START.START : Fld := ⟨0, 32⟩
def Fields.SEQ_PRF_TRC_LEN.LEN : Fld := ⟨0, 32⟩
def Fields.SEQ_PRF_SITE_FAIL_LO.SITE_L : Fld := ⟨0, 32⟩
def Fields.SEQ_PRF_SITE_FAIL_HI.SITE_H : Fld := ⟨0, 32⟩
def Fields.SEQ_PRF_ERR.ECC : Fld := ⟨0, 1⟩
def Fields.SEQ_PRF_ERR.SPILL_XLT : Fld := ⟨1, 1⟩
def Fields.SEQ_PRF_ERR.RD_RANGE : Fld := ⟨2, 1⟩
def Fields.SEQ_PRF_ERR.DIE_DROP : Fld := ⟨3, 1⟩
def Fields.SEQ_PRF_ERR.PORT : Fld := ⟨8, 5⟩
def Fields.CH_FCNT.COUNT : Fld := ⟨0, 32⟩
def Fields.CH_CCFG.MASK : Fld := ⟨0, 1⟩
def Fields.CH_CCFG.TRACE : Fld := ⟨1, 1⟩
def Fields.CH_CCFG.ACCUM : Fld := ⟨2, 1⟩
def Fields.CH_FFIRST_LO.FIRST : Fld := ⟨0, 32⟩
def Fields.CH_FFIRST_HI.FIRST : Fld := ⟨0, 32⟩
def Fields.CH_LCTRL.CONN : Fld := ⟨0, 1⟩
def Fields.CH_LCTRL.CLAMP_EN : Fld := ⟨1, 1⟩
def Fields.CH_LCTRL.PMU_OFF : Fld := ⟨2, 1⟩
def Fields.CH_LSTAT.SET : Fld := ⟨0, 8⟩
def Fields.CH_LSTAT.APPLIED : Fld := ⟨8, 1⟩
def Fields.CH_LSTAT.PMU_ON : Fld := ⟨9, 1⟩
def Fields.CH_LSTAT.LIM : Fld := ⟨10, 1⟩
def Fields.CH_LSTAT.PMU_LIM : Fld := ⟨11, 1⟩
def Fields.CH_LSTAT.SHADOWED : Fld := ⟨12, 1⟩
def Fields.CH_LVSEL.SET : Fld := ⟨0, 8⟩
def Fields.CH_LVSEL.CH : Fld := ⟨8, 7⟩
def Fields.CH_LVDATA0.VIH : Fld := ⟨0, 16⟩
def Fields.CH_LVDATA0.VIL : Fld := ⟨16, 16⟩
def Fields.CH_LVDATA1.VOH : Fld := ⟨0, 16⟩
def Fields.CH_LVDATA1.VOL : Fld := ⟨16, 16⟩
def Fields.CH_LVDATA2.VT : Fld := ⟨0, 16⟩
def Fields.CH_LVDATA2.VCLAMP : Fld := ⟨16, 16⟩
def Fields.CH_LQCMD.SET : Fld := ⟨0, 8⟩
def Fields.CH_LQCMD.BANK : Fld := ⟨8, 3⟩
def Fields.CH_LQCMD.MASK : Fld := ⟨16, 16⟩
def Fields.CH_LQ_STATUS.COUNT : Fld := ⟨0, 5⟩
def Fields.CH_LQ_STATUS.OVF : Fld := ⟨8, 1⟩
def Fields.CH_LQ_STATUS.LATE : Fld := ⟨9, 1⟩
def Fields.CH_LQ_STATUS.CMD_FULL : Fld := ⟨10, 1⟩
def Fields.GLB_LVL_SAMPLE_LO.COUNT : Fld := ⟨0, 32⟩
def Fields.GLB_LVL_SAMPLE_HI.COUNT : Fld := ⟨0, 32⟩
def Fields.HV_CTRL.EN : Fld := ⟨0, 1⟩
def Fields.HV_CTRL.LIMIT_OFF : Fld := ⟨1, 1⟩
def Fields.HV_STATE.MODE : Fld := ⟨0, 3⟩
def Fields.HV_STATE.VRANGE : Fld := ⟨3, 2⟩
def Fields.HV_STATE.IRANGE : Fld := ⟨5, 3⟩
def Fields.HV_STATE.SET : Fld := ⟨8, 8⟩
def Fields.HV_STATE.APPLIED : Fld := ⟨16, 1⟩
def Fields.HV_STATE.RC_ACTIVE : Fld := ⟨17, 1⟩
def Fields.HV_STATE.ILIM : Fld := ⟨18, 1⟩
def Fields.HV_STATE.LIMOFF_TRIP : Fld := ⟨19, 1⟩
def Fields.HV_STATE.HV_RATE : Fld := ⟨20, 1⟩
def Fields.HV_STATE.ICLAMP : Fld := ⟨24, 8⟩
def Fields.HV_DCFG.EN : Fld := ⟨0, 1⟩
def Fields.HV_DCFG.SRC : Fld := ⟨8, 8⟩
def Fields.HV_DTIM.D0 : Fld := ⟨0, 16⟩
def Fields.HV_DTIM.S0 : Fld := ⟨16, 16⟩
def Fields.HV_SETSEL.HV : Fld := ⟨0, 5⟩
def Fields.HV_SETSEL.SET : Fld := ⟨8, 8⟩
def Fields.HV_SETDATA0.FORCE : Fld := ⟨0, 18⟩
def Fields.HV_SETDATA0.MODE : Fld := ⟨20, 3⟩
def Fields.HV_SETDATA0.VRANGE : Fld := ⟨24, 2⟩
def Fields.HV_SETDATA0.IRANGE : Fld := ⟨28, 3⟩
def Fields.HV_SETDATA1.ICLAMP : Fld := ⟨0, 8⟩
def Fields.HV_SETDATA1.OUT : Fld := ⟨8, 2⟩
def Fields.HV_SETDATA1.VCLV : Fld := ⟨16, 16⟩
def Fields.HV_SETDATA2.DIG_HI : Fld := ⟨0, 16⟩
def Fields.HV_SETDATA2.DIG_LO : Fld := ⟨16, 16⟩
def Fields.HV_SETDATA3.VCMP_HI : Fld := ⟨0, 16⟩
def Fields.HV_SETDATA3.VCMP_LO : Fld := ⟨16, 16⟩
def Fields.HV_LQCMD.SET : Fld := ⟨0, 8⟩
def Fields.HV_LQCMD.QUEUE : Fld := ⟨8, 2⟩
def Fields.HV_LQCMD.RELAY : Fld := ⟨10, 1⟩
def Fields.HV_LQCMD.MASK : Fld := ⟨16, 8⟩
def Fields.HV_LQ_STATUS.COUNT : Fld := ⟨0, 5⟩
def Fields.HV_LQ_STATUS.OVF : Fld := ⟨8, 1⟩
def Fields.HV_LQ_STATUS.LATE : Fld := ⟨9, 1⟩
def Fields.HV_LQ_STATUS.CMD_FULL : Fld := ⟨10, 1⟩
def Fields.RLY_SETSEL.SET : Fld := ⟨0, 8⟩
def Fields.RLY_CLOSE_LO.CLOSE : Fld := ⟨0, 32⟩
def Fields.RLY_CLOSE_HI.CLOSE : Fld := ⟨0, 32⟩
def Fields.RLY_CARE_LO.CARE : Fld := ⟨0, 32⟩
def Fields.RLY_CARE_HI.CARE : Fld := ⟨0, 32⟩
def Fields.RLY_STATE_LO.ON : Fld := ⟨0, 32⟩
def Fields.RLY_STATE_HI.ON : Fld := ⟨0, 32⟩
def Fields.RLY_FLT_LO.FLT : Fld := ⟨0, 32⟩
def Fields.RLY_FLT_HI.FLT : Fld := ⟨0, 32⟩
def Fields.RLY_SEQMASK.SEQ : Fld := ⟨0, 32⟩
def Fields.DDS_CTRL.STOP : Fld := ⟨0, 1⟩
def Fields.DDS_CTRL.SWTRIG : Fld := ⟨1, 1⟩
def Fields.DDS_JUMP.SEG : Fld := ⟨0, 8⟩
def Fields.DDS_JUMP.GO : Fld := ⟨8, 1⟩
def Fields.DDS_JUMP.TRIG_EN : Fld := ⟨9, 1⟩
def Fields.DDS_JUMP.JSRC : Fld := ⟨16, 8⟩
def Fields.DDS_STATUS.STATE : Fld := ⟨0, 2⟩
def Fields.DDS_STATUS.JUMP_PENDING : Fld := ⟨2, 1⟩
def Fields.DDS_STATUS.JUMP_WHEN : Fld := ⟨3, 2⟩
def Fields.DDS_STATUS.CLIP : Fld := ⟨5, 1⟩
def Fields.DDS_STATUS.JUMP_BAD : Fld := ⟨6, 1⟩
def Fields.DDS_STATUS.SEG : Fld := ⟨16, 8⟩
def Fields.DDS_SAMPLE_LO.COUNT : Fld := ⟨0, 32⟩
def Fields.DDS_SAMPLE_HI.COUNT : Fld := ⟨0, 32⟩
def Fields.DDS_MK.MK0_TRIG : Fld := ⟨0, 8⟩
def Fields.DDS_MK.MK1_TRIG : Fld := ⟨8, 8⟩
def Fields.DDS_MK.MK_WIDTH : Fld := ⟨16, 16⟩
def Fields.AS_CFG.ZERO_ON_STOP : Fld := ⟨0, 1⟩
def Fields.AS_CFG.REMOTE_SENSE : Fld := ⟨1, 1⟩
def Fields.AS_CFG.CLIM_OFF : Fld := ⟨2, 1⟩
def Fields.AS_CFG.DEV_OFF : Fld := ⟨3, 1⟩
def Fields.AS_CFG.DEV_MV : Fld := ⟨16, 8⟩
def Fields.AS_CFG.DEV_US : Fld := ⟨24, 8⟩
def Fields.AS_CMD.EN : Fld := ⟨0, 2⟩
def Fields.AS_CMD.VRANGE : Fld := ⟨2, 2⟩
def Fields.AS_CMD.ICLAMP : Fld := ⟨8, 8⟩
def Fields.AS_CMD.IC_APPLY : Fld := ⟨16, 1⟩
def Fields.AS_STATE.EN : Fld := ⟨0, 1⟩
def Fields.AS_STATE.VRANGE : Fld := ⟨1, 1⟩
def Fields.AS_STATE.RC_ACTIVE : Fld := ⟨2, 1⟩
def Fields.AS_STATE.CLIM : Fld := ⟨3, 1⟩
def Fields.AS_STATE.CLIMOFF_TRIP : Fld := ⟨4, 1⟩
def Fields.AS_STATE.DEV : Fld := ⟨5, 1⟩
def Fields.AS_STATE.CMD_FULL : Fld := ⟨6, 1⟩
def Fields.AS_STATE.LATE : Fld := ⟨7, 1⟩
def Fields.AS_STATE.RC_REFUSED : Fld := ⟨8, 1⟩
def Fields.AS_STATE.QCOUNT : Fld := ⟨9, 3⟩
def Fields.AS_STATE.ICLAMP : Fld := ⟨16, 8⟩
def Fields.AQ_STATUS.STATE : Fld := ⟨0, 3⟩
def Fields.AQ_STATUS.OVERRANGE : Fld := ⟨3, 1⟩
def Fields.AQ_STATUS.OVERRUN : Fld := ⟨4, 1⟩
def Fields.AQ_SWTRIG.AQ : Fld := ⟨0, 8⟩
def Fields.TRIG_CFG.MODE : Fld := ⟨0, 2⟩
def Fields.TRIG_CFG.INVERT : Fld := ⟨2, 1⟩
def Fields.TRIG_CFG.PULSE_NS : Fld := ⟨16, 16⟩
def Fields.XTRIG_CFG.INVERT : Fld := ⟨2, 1⟩
def Fields.TRIG_STATE.LEVEL : Fld := ⟨0, 8⟩
def Fields.TRIG_STATE.XLEVEL : Fld := ⟨8, 2⟩
def Fields.TRIG_STATE.SET : Fld := ⟨16, 8⟩
def Fields.TRIG_STATE.CLR : Fld := ⟨24, 8⟩
def Fields.TRIG_EDGE.TRIG : Fld := ⟨0, 8⟩
def Fields.TRIG_EDGE.XTRIG : Fld := ⟨8, 2⟩
def Fields.TRIG_EDGE.SYNCIN : Fld := ⟨10, 1⟩
def Fields.WAVE_SYNC_CTRL.ARM : Fld := ⟨0, 1⟩
def Fields.WAVE_SYNC_CTRL.FIRE : Fld := ⟨1, 1⟩
def Fields.WAVE_SYNC_CTRL.OUT_SRC : Fld := ⟨2, 1⟩
def Fields.WAVE_SYNC_CTRL.SYNC_DLY : Fld := ⟨8, 6⟩
def Fields.WAVE_SYNC_STATUS.EPOCH_VALID : Fld := ⟨0, 1⟩
def Fields.WAVE_SYNC_STATUS.SYNC_MARGIN : Fld := ⟨1, 1⟩
def Fields.WAVE_SYNC_STATUS.SYNC_REFUSED : Fld := ⟨2, 1⟩
def Fields.WAVE_SYNC_STATUS.PHASE : Fld := ⟨8, 6⟩
def Fields.WAVE_SKEW.SKEW : Fld := ⟨0, 16⟩
def Fields.WAVE_EPOCH_LO.COUNT : Fld := ⟨0, 32⟩
def Fields.WAVE_EPOCH_HI.COUNT : Fld := ⟨0, 16⟩
def Fields.TDC_STATUS.STATE : Fld := ⟨0, 2⟩
def Fields.TDC_STATUS.ARM_IGNORED : Fld := ⟨2, 1⟩
def Fields.TDC_RES_LO.RESULT : Fld := ⟨0, 32⟩
def Fields.TDC_RES_HI.RESULT : Fld := ⟨0, 32⟩
def Fields.TDC_TSTART_LO.TTIME : Fld := ⟨0, 32⟩
def Fields.TDC_TSTART_HI.TTIME : Fld := ⟨0, 32⟩
def Fields.TB_CTRL.SRC : Fld := ⟨0, 1⟩
def Fields.TB_CTRL.REF_FREQ : Fld := ⟨1, 2⟩
def Fields.TB_STATUS.SRC_ACTIVE : Fld := ⟨0, 1⟩
def Fields.TB_STATUS.REF_PRESENT : Fld := ⟨1, 1⟩
def Fields.TB_STATUS.REF_IN_WINDOW : Fld := ⟨2, 1⟩
def Fields.TB_STATUS.REF_QUALIFIED : Fld := ⟨3, 1⟩
def Fields.TB_STATUS.REF_LOCKED : Fld := ⟨4, 1⟩
def Fields.TB_STATUS.HOLDOVER : Fld := ⟨5, 1⟩
def Fields.TB_STATUS.PENDING : Fld := ⟨6, 1⟩
def Fields.TB_STATUS.REF_DET : Fld := ⟨7, 2⟩
def Fields.TB_TRIM.TRIM : Fld := ⟨0, 16⟩
def Fields.TB_REFMEAS.OFFSET : Fld := ⟨0, 32⟩
def Fields.TIME_TTIME_LO.TTIME : Fld := ⟨0, 32⟩
def Fields.TIME_TTIME_HI.TTIME : Fld := ⟨0, 32⟩
def Fields.TIME_EVENT.REF_LOST : Fld := ⟨0, 1⟩
def Fields.TIME_EVENT.REF_LOCKED : Fld := ⟨1, 1⟩
def Fields.TIME_EVENT.JUMP_REFUSED : Fld := ⟨2, 1⟩
def Fields.TIME_EVENT.TSQ_READY : Fld := ⟨3, 2⟩
def Fields.TIME_EVENT.TSQ_OVF : Fld := ⟨5, 2⟩
def Fields.TIME_EVENT.RX_READY : Fld := ⟨7, 2⟩
def Fields.TIME_EVENT.SNAP_DONE : Fld := ⟨9, 1⟩
def Fields.TIME_IRQ_EN.EN : Fld := ⟨0, 10⟩
def Fields.TD_CTRL.SET : Fld := ⟨0, 1⟩
def Fields.TD_CTRL.CLR : Fld := ⟨1, 1⟩
def Fields.TD_CTRL.SLEW : Fld := ⟨16, 9⟩
def Fields.TD_STATUS.RUNNING : Fld := ⟨0, 1⟩
def Fields.TD_STATUS.SLEWING : Fld := ⟨1, 1⟩
def Fields.TD_STATUS.JUMP_REFUSED : Fld := ⟨2, 1⟩
def Fields.TD_STATUS.INC_RANGE : Fld := ⟨3, 1⟩
def Fields.TD_STATUS.SET_REFUSED : Fld := ⟨4, 1⟩
def Fields.TD_INC_LO.INC : Fld := ⟨0, 32⟩
def Fields.TD_INC_HI.INC : Fld := ⟨0, 32⟩
def Fields.TD_ADJ_LO.ADJ : Fld := ⟨0, 32⟩
def Fields.TD_ADJ_HI.ADJ : Fld := ⟨0, 32⟩
def Fields.TD_JUMP_LIMIT.LIMIT : Fld := ⟨0, 32⟩
def Fields.TD_REMAIN.REMAIN : Fld := ⟨0, 32⟩
def Fields.TD_FRAC.FRAC : Fld := ⟨0, 32⟩
def Fields.TD_NS.NS : Fld := ⟨0, 30⟩
def Fields.TD_SEC_LO.SEC : Fld := ⟨0, 32⟩
def Fields.TD_SEC_HI.SEC : Fld := ⟨0, 32⟩
def Fields.TD_SET_NS.NS : Fld := ⟨0, 30⟩
def Fields.TD_SET_SEC_LO.SEC : Fld := ⟨0, 32⟩
def Fields.TD_SET_SEC_HI.SEC : Fld := ⟨0, 32⟩
def Fields.TIME_SNAP_CTRL.GO : Fld := ⟨0, 1⟩
def Fields.TIME_SNAP_CTRL.SRC : Fld := ⟨8, 8⟩
def Fields.TIME_SNAP_STATUS.DONE : Fld := ⟨0, 1⟩
def Fields.TIME_SNAP_STATUS.ARMED : Fld := ⟨1, 1⟩
def Fields.TIME_SNAP_STATUS.EDGE_OFS : Fld := ⟨2, 2⟩
def Fields.TIME_SNAP_STATUS.UNSET : Fld := ⟨4, 4⟩
def Fields.TIME_SNAP_TTIME_LO.TTIME : Fld := ⟨0, 32⟩
def Fields.TIME_SNAP_TTIME_HI.TTIME : Fld := ⟨0, 32⟩
def Fields.TIME_SNAP_TD.VALUE : Fld := ⟨0, 32⟩
def Fields.TP_CFG.MODE : Fld := ⟨0, 3⟩
def Fields.TP_CFG.DOMAIN : Fld := ⟨4, 2⟩
def Fields.TP_CFG.PROMISC : Fld := ⟨6, 1⟩
def Fields.TP_STATUS.BLOCK_LOCK : Fld := ⟨0, 1⟩
def Fields.TP_STATUS.LINK_DOWN : Fld := ⟨1, 1⟩
def Fields.TP_STATUS.TSQ_OVF : Fld := ⟨2, 1⟩
def Fields.TP_STATUS.RX_DROP : Fld := ⟨3, 1⟩
def Fields.TP_STATUS.TX_DROP : Fld := ⟨4, 1⟩
def Fields.TP_STATUS.FCS_ERR : Fld := ⟨5, 1⟩
def Fields.TP_MAC_LO.MAC : Fld := ⟨0, 32⟩
def Fields.TP_MAC_HI.MAC : Fld := ⟨0, 16⟩
def Fields.TP_TX_CORR.CORR : Fld := ⟨0, 32⟩
def Fields.TP_RX_CORR.CORR : Fld := ⟨0, 32⟩
def Fields.TP_TXDATA.DATA : Fld := ⟨0, 32⟩
def Fields.TP_TXSPACE.SPACE : Fld := ⟨0, 15⟩
def Fields.TP_RXDATA.DATA : Fld := ⟨0, 32⟩
def Fields.TP_RXLEVEL.BYTES : Fld := ⟨0, 16⟩
def Fields.TP_RXLEVEL.FRAMES : Fld := ⟨16, 16⟩
def Fields.TP_CTRL.TSQ_POP : Fld := ⟨0, 1⟩
def Fields.TP_CTRL.TX_FLUSH : Fld := ⟨1, 1⟩
def Fields.TP_CTRL.RX_FLUSH : Fld := ⟨2, 1⟩
def Fields.CAL_CMD.OP : Fld := ⟨0, 2⟩
def Fields.CAL_CMD.DOMAINS : Fld := ⟨8, 7⟩
def Fields.CAL_CMD.SCOPE : Fld := ⟨16, 3⟩
def Fields.CAL_STATUS.STATE : Fld := ⟨0, 2⟩
def Fields.CAL_STATUS.DOMAIN : Fld := ⟨2, 3⟩
def Fields.CAL_STATUS.DONE : Fld := ⟨5, 1⟩
def Fields.CAL_STATUS.ABORT_LATE : Fld := ⟨6, 1⟩
def Fields.CAL_STATUS.REF_SYNC : Fld := ⟨7, 1⟩
def Fields.CAL_STATUS.REFV_OK : Fld := ⟨8, 1⟩
def Fields.CAL_STATUS.REFT_OK : Fld := ⟨9, 1⟩
def Fields.CAL_STATUS.PLATE_OK : Fld := ⟨10, 1⟩
def Fields.CAL_STATUS.ASSESS_OK : Fld := ⟨11, 1⟩
def Fields.CAL_STATUS.RESULT : Fld := ⟨16, 4⟩
def Fields.CAL_STATUS.FAIL_COUNT : Fld := ⟨20, 12⟩
def Fields.CAL_REFV.UV : Fld := ⟨0, 24⟩
def Fields.CAL_REFT_PER_LO.FS : Fld := ⟨0, 32⟩
def Fields.CAL_REFT_PER_HI.FS : Fld := ⟨0, 32⟩
def Fields.CAL_REFMEAS_V.UV : Fld := ⟨0, 32⟩
def Fields.CAL_REFT_MEAS_LO.FS : Fld := ⟨0, 32⟩
def Fields.CAL_REFT_MEAS_HI.FS : Fld := ⟨0, 32⟩
def Fields.CAL_REQ.DRIFT : Fld := ⟨0, 7⟩
def Fields.CAL_REQ.UNCAL : Fld := ⟨8, 7⟩
def Fields.CAL_REQ.REQ : Fld := ⟨16, 7⟩
def Fields.CAL_REQ.CAL_DONE : Fld := ⟨23, 1⟩
def Fields.CAL_IRQ_EN.EN : Fld := ⟨0, 8⟩
def Fields.CAL_FAILMAP.FAIL : Fld := ⟨0, 32⟩
def Fields.CAL_DOM_CFG.TEMP_DELTA : Fld := ⟨0, 8⟩
def Fields.CAL_DOM_CFG.AGE_H : Fld := ⟨16, 16⟩
def Fields.CAL_DOM_COUNT.COUNT : Fld := ⟨0, 32⟩
def Fields.CAL_DOM_LAST_LO.SEC : Fld := ⟨0, 32⟩
def Fields.CAL_DOM_LAST_HI.SEC : Fld := ⟨0, 32⟩
def Fields.CAL_DOM_TEMP.T : Fld := ⟨0, 32⟩
def Fields.CAL_DOM_INFO.LAST_UNSET : Fld := ⟨0, 1⟩
def Fields.CAL_TSEL.TABLE : Fld := ⟨0, 3⟩
def Fields.CAL_TSEL.UNIT : Fld := ⟨8, 6⟩
def Fields.CAL_TSEL.ITEM : Fld := ⟨16, 12⟩
def Fields.CAL_TDATA.OFS_or_LIN : Fld := ⟨0, 16⟩
def Fields.CAL_TDATA.GAIN : Fld := ⟨16, 16⟩
def Fields.CH_LCAL.OFS : Fld := ⟨0, 16⟩
def Fields.CH_LCAL.GAIN : Fld := ⟨16, 16⟩
def Fields.DRC_MAP.GRAIN : Fld := ⟨0, 4⟩
def Fields.DRC_MAP.BANK_HASH : Fld := ⟨4, 1⟩
def Fields.DRC_PAGE.IDLE : Fld := ⟨0, 16⟩
def Fields.DRC_REF_CFG.CATCH_AT : Fld := ⟨0, 4⟩
def Fields.DRC_REF_CFG.TEMP_2X : Fld := ⟨8, 8⟩
def Fields.DRC_REF_CFG.RETRAIN_MS : Fld := ⟨16, 8⟩
def Fields.DRC_REF_CFG.UE_LIMIT : Fld := ⟨24, 8⟩
def Fields.DRC_PWR_CFG.SR_EN : Fld := ⟨0, 1⟩
def Fields.DRC_PWR_CFG.SR_IDLE : Fld := ⟨8, 16⟩
def Fields.DRC_EVENT.REFRESH_ESCALATED : Fld := ⟨0, 1⟩
def Fields.DRC_EVENT.FORCED : Fld := ⟨1, 1⟩
def Fields.DRC_EVENT.CE : Fld := ⟨2, 1⟩
def Fields.DRC_EVENT.UE : Fld := ⟨3, 1⟩
def Fields.DRC_EVENT.CH_OFFLINE : Fld := ⟨4, 1⟩
def Fields.DRC_EVENT.ERR_CH : Fld := ⟨8, 5⟩
def Fields.DRC_ERR_ADDR_LO.PA_L : Fld := ⟨0, 32⟩
def Fields.DRC_ERR_ADDR_HI.PA_H : Fld := ⟨0, 3⟩
def Fields.DRC_ERR_ADDR_HI.WRITE : Fld := ⟨3, 1⟩
def Fields.DRC_ERR_ADDR_HI.GROUP : Fld := ⟨8, 6⟩
def Fields.DRC_CH_STATUS.DEBT : Fld := ⟨0, 5⟩
def Fields.DRC_CH_STATUS.STATE : Fld := ⟨5, 3⟩
def Fields.DRC_CH_STATUS.DOUBLED : Fld := ⟨8, 1⟩
def Fields.DRC_CH_STATUS.FORCED : Fld := ⟨16, 8⟩
def Fields.DRC_CH_ERRCNT.CE : Fld := ⟨0, 16⟩
def Fields.DRC_CH_ERRCNT.UE : Fld := ⟨16, 8⟩
def Fields.DRC_CH_ERRCNT.CRC_RETRY : Fld := ⟨24, 8⟩
def Fields.DMA_CH_CTRL.STOP : Fld := ⟨0, 1⟩
def Fields.DMA_CH_CTRL.ABORT : Fld := ⟨1, 1⟩
def Fields.DMA_CH_CTRL.RESUME : Fld := ⟨2, 1⟩
def Fields.DMA_CH_CTRL.ABANDON : Fld := ⟨3, 1⟩
def Fields.DMA_CH_CTRL.SWREQ : Fld := ⟨4, 1⟩
def Fields.DMA_CH_STATUS.STATE : Fld := ⟨0, 3⟩
def Fields.DMA_CH_STATUS.ABORT_LATE : Fld := ⟨3, 1⟩
def Fields.DMA_CH_STATUS.GROUP : Fld := ⟨16, 6⟩
def Fields.DMA_CH_POS.DESC : Fld := ⟨0, 16⟩
def Fields.DMA_CH_OFFSET.BYTE : Fld := ⟨0, 32⟩
def Fields.DMA_CH_ERR_ADDR_LO.VA : Fld := ⟨0, 32⟩
def Fields.DMA_CH_ERR_ADDR_HI.VA : Fld := ⟨0, 16⟩
def Fields.DMA_CH_ERR_INFO.DIR : Fld := ⟨0, 2⟩
def Fields.DMA_CH_ERR_INFO.CAUSE : Fld := ⟨8, 4⟩
def Fields.DMA_CFG.PD_TIMEOUT : Fld := ⟨0, 16⟩
def Fields.XLT_INV.OP : Fld := ⟨0, 2⟩
def Fields.XLT_INV.CTX : Fld := ⟨8, 6⟩
def Fields.XLT_INV.INV_DONE : Fld := ⟨16, 1⟩
def Fields.XLT_INV_ADDR_LO.VA : Fld := ⟨0, 32⟩
def Fields.XLT_INV_ADDR_HI.VA : Fld := ⟨0, 16⟩
def Fields.XLT_FLT_MAP_LO.CTX : Fld := ⟨0, 32⟩
def Fields.XLT_FLT_MAP_HI.CTX : Fld := ⟨0, 32⟩
def Fields.XLT_CTX_ROOT_LO.EN : Fld := ⟨0, 1⟩
def Fields.XLT_CTX_ROOT_LO.ROOT_L : Fld := ⟨12, 20⟩
def Fields.XLT_CTX_ROOT_HI.ROOT_H : Fld := ⟨0, 3⟩
def Fields.XLT_CTX_FLT_ADDR_LO.VA : Fld := ⟨0, 32⟩
def Fields.XLT_CTX_FLT_ADDR_HI.VA : Fld := ⟨0, 16⟩
def Fields.XLT_CTX_FLT_INFO.VALID : Fld := ⟨0, 1⟩
def Fields.XLT_CTX_FLT_INFO.DIR : Fld := ⟨1, 2⟩
def Fields.XLT_CTX_FLT_INFO.CAUSE : Fld := ⟨3, 3⟩
def Fields.XLT_CTX_FLT_INFO.LEVEL : Fld := ⟨6, 2⟩
def Fields.XLT_CTX_FLT_INFO.REQ : Fld := ⟨8, 4⟩
def Fields.XLT_CTX_FLT_INFO.INDEX : Fld := ⟨12, 6⟩
def Fields.XLT_CTX_FLT_INFO.MORE : Fld := ⟨24, 8⟩
def Fields.SL_CTRL.PAIR_EN : Fld := ⟨0, 1⟩
def Fields.SL_CTRL.RETRY : Fld := ⟨1, 1⟩
def Fields.SL_CTRL.ADOPT_RINGS : Fld := ⟨2, 1⟩
def Fields.SL_CTRL.ADOPT_CQ : Fld := ⟨8, 6⟩
def Fields.SL_STATUS.STATE : Fld := ⟨0, 3⟩
def Fields.SL_STATUS.ROLE : Fld := ⟨3, 2⟩
def Fields.SL_STATUS.ATTEMPT : Fld := ⟨5, 2⟩
def Fields.SL_STATUS.PAIR_ABSENT : Fld := ⟨7, 1⟩
def Fields.SL_STATUS.PARTNER_DOWN : Fld := ⟨8, 1⟩
def Fields.SL_STATUS.MISMATCH : Fld := ⟨9, 3⟩
def Fields.SL_STATUS.ADOPT_HELD : Fld := ⟨12, 1⟩
def Fields.SL_PROT.OWN : Fld := ⟨0, 16⟩
def Fields.SL_PROT.PEER : Fld := ⟨16, 16⟩
def Fields.SL_EVENT.LANE_LOST : Fld := ⟨0, 1⟩
def Fields.SL_EVENT.LANE_WEAK : Fld := ⟨1, 1⟩
def Fields.SL_EVENT.PROT_LOST : Fld := ⟨2, 1⟩
def Fields.SL_EVENT.DIVERGE : Fld := ⟨3, 1⟩
def Fields.SL_EVENT.MIRROR_FAIL : Fld := ⟨4, 1⟩
def Fields.SL_EVENT.PORT_SWITCH : Fld := ⟨5, 1⟩
def Fields.SL_EVENT.PARTNER_DOWN : Fld := ⟨6, 1⟩
def Fields.SL_EVENT.TAKEOVER : Fld := ⟨7, 1⟩
def Fields.SL_EVENT.REJOIN : Fld := ⟨8, 1⟩
def Fields.SL_EVENT.MISWIRE : Fld := ⟨9, 1⟩
def Fields.SL_EVENT.MISMATCH : Fld := ⟨10, 1⟩
def Fields.SL_EVENT.PAIR_ABSENT : Fld := ⟨11, 1⟩
def Fields.SL_EVENT.CR_DEGRADED : Fld := ⟨12, 1⟩
def Fields.SL_IRQ_EN.EN : Fld := ⟨0, 13⟩
def Fields.SL_CFG.FOM_WARN : Fld := ⟨0, 8⟩
def Fields.SL_CFG.FOM_FAIL : Fld := ⟨8, 8⟩
def Fields.SL_CFG.RETRY_S : Fld := ⟨16, 8⟩
def Fields.SL_PCC_LO.PCC : Fld := ⟨0, 32⟩
def Fields.SL_PCC_HI.PCC : Fld := ⟨0, 32⟩
def Fields.SL_JSENT.JSEQ : Fld := ⟨0, 32⟩
def Fields.SL_JACK.JSEQ : Fld := ⟨0, 32⟩
def Fields.SL_DDS_SHADOW.BASE : Fld := ⟨0, 15⟩
def Fields.SL_DDS_SHADOW.EN : Fld := ⟨31, 1⟩
def Fields.SL_PDIE_STATUS.SRC : Fld := ⟨0, 16⟩
def Fields.SL_PDIE_STATUS.PRIMARY_DOWN : Fld := ⟨16, 1⟩
def Fields.SL_PDIE_STATUS.GROUP_OK : Fld := ⟨17, 1⟩
def Fields.SL_PDIE_MIRPLAY.COUNT : Fld := ⟨0, 32⟩
def Fields.SL_PDIE_LATE.COUNT : Fld := ⟨0, 32⟩
def Fields.SL_PDIE_DIVCNT.COUNT : Fld := ⟨0, 32⟩
def Fields.SL_LANE_STATUS.STATE : Fld := ⟨0, 3⟩
def Fields.SL_LANE_STATUS.POL_INV : Fld := ⟨3, 1⟩
def Fields.SL_LANE_STATUS.PRECODE : Fld := ⟨4, 1⟩
def Fields.SL_LANE_STATUS.WEAK : Fld := ⟨5, 1⟩
def Fields.SL_LANE_STATUS.MISWIRE : Fld := ⟨6, 1⟩
def Fields.SL_LANE_STATUS.POSITION : Fld := ⟨8, 4⟩
def Fields.SL_LANE_STATUS.FOM : Fld := ⟨16, 8⟩
def Fields.SL_LANE_STATUS.LOSS_COUNT : Fld := ⟨24, 8⟩
def Fields.SL_LANE_CFG.PRECODE : Fld := ⟨0, 2⟩
def Fields.SL_LANE_CFG.DISABLE : Fld := ⟨2, 1⟩
def Fields.SL_MRGN_LOCAL.BASE : Fld := ⟨0, 14⟩
def Fields.SL_MRGN_PEER.BASE : Fld := ⟨0, 14⟩
def Fields.SL_MRGN_CFG.EN : Fld := ⟨0, 1⟩
def Fields.SL_MRGN_CFG.SIZE : Fld := ⟨16, 15⟩
def Fields.SL_MRGN_CFG.COPYING : Fld := ⟨31, 1⟩
def Fields.PLT_CTRL.WB : Fld := ⟨0, 1⟩
def Fields.PLT_CTRL.UNDOCK : Fld := ⟨1, 1⟩
def Fields.PLT_CTRL.RELOAD : Fld := ⟨2, 1⟩
def Fields.PLT_CTRL.SPEED : Fld := ⟨3, 1⟩
def Fields.PLT_CTRL.WARN_PCT : Fld := ⟨8, 7⟩
def Fields.PLT_STATUS.STATE : Fld := ⟨0, 3⟩
def Fields.PLT_STATUS.WB_BUSY : Fld := ⟨3, 1⟩
def Fields.PLT_STATUS.WB_PENDING : Fld := ⟨4, 1⟩
def Fields.PLT_STATUS.COPY : Fld := ⟨5, 1⟩
def Fields.PLT_STATUS.DOCK_WARN : Fld := ⟨6, 1⟩
def Fields.PLT_STATUS.DOCK_FAULT : Fld := ⟨7, 1⟩
def Fields.PLT_STATUS.TYPE : Fld := ⟨16, 16⟩
def Fields.PLT_EVENT.DOCKED : Fld := ⟨0, 1⟩
def Fields.PLT_EVENT.UNDOCKED : Fld := ⟨1, 1⟩
def Fields.PLT_EVENT.LOST_COUNTS : Fld := ⟨2, 1⟩
def Fields.PLT_EVENT.ID_FAIL : Fld := ⟨3, 1⟩
def Fields.PLT_EVENT.LIFE_WARN : Fld := ⟨4, 1⟩
def Fields.PLT_EVENT.LIFE_FAULT : Fld := ⟨5, 1⟩
def Fields.PLT_EVENT.WB_DONE : Fld := ⟨6, 1⟩
def Fields.PLT_EVENT.WB_FAIL : Fld := ⟨7, 1⟩
def Fields.PLT_EVENT.BUS_ERR : Fld := ⟨8, 1⟩
def Fields.PLT_EVENT.COUNT_GAP : Fld := ⟨9, 1⟩
def Fields.PLT_IRQ_EN.EN : Fld := ⟨0, 10⟩
def Fields.PLT_DOCKS.COUNT : Fld := ⟨0, 32⟩
def Fields.PLT_RLY_RATING.RATING : Fld := ⟨0, 32⟩
def Fields.PLT_DOCK_RATING.RATING : Fld := ⟨0, 32⟩
def Fields.PLT_WARN_LO.LINE : Fld := ⟨0, 32⟩
def Fields.PLT_WARN_HI.LINE : Fld := ⟨0, 32⟩
def Fields.PLT_FAULT_LO.LINE : Fld := ⟨0, 32⟩
def Fields.PLT_FAULT_HI.LINE : Fld := ⟨0, 32⟩
def Fields.PLT_PRESENT_LO.LINE : Fld := ⟨0, 32⟩
def Fields.PLT_PRESENT_HI.LINE : Fld := ⟨0, 32⟩
def Fields.PLT_SERIAL.CHARS : Fld := ⟨0, 32⟩
def Fields.PLT_RCNT.COUNT : Fld := ⟨0, 32⟩
def Fields.ERR_CFG.QUEUE : Fld := ⟨0, 12⟩
def Fields.ERR_CFG.EN : Fld := ⟨16, 1⟩
def Fields.ERR_CFG.FATAL_ACTION : Fld := ⟨17, 1⟩
def Fields.ERR_CFG.ALERT_MCHK : Fld := ⟨18, 1⟩
def Fields.ERR_STATUS.STAGED : Fld := ⟨0, 7⟩
def Fields.ERR_STATUS.MCHK_ANY : Fld := ⟨8, 1⟩
def Fields.ERR_ACCESS.ACCESS_ERR : Fld := ⟨0, 1⟩
def Fields.ERR_ACCESS.WR_REFUSED : Fld := ⟨1, 1⟩
def Fields.ERR_ACCESS.BAR2_WR_DISCARD : Fld := ⟨2, 1⟩
def Fields.ERR_ACCESS_INFO.OFFSET : Fld := ⟨0, 26⟩
def Fields.ERR_ACCESS_INFO.INIT : Fld := ⟨26, 5⟩
def Fields.ERR_MCHK.VALID : Fld := ⟨0, 1⟩
def Fields.ERR_MCHK.SOURCE : Fld := ⟨8, 8⟩
def Fields.ERR_MCHK.INDEX : Fld := ⟨16, 8⟩
def Fields.ERR_MCHK.CAUSE : Fld := ⟨24, 8⟩
def Fields.ERR_COUNT.MCHK : Fld := ⟨0, 16⟩
def Fields.ERR_COUNT.FATAL : Fld := ⟨16, 16⟩
def Fields.ERR_FATAL.VALID : Fld := ⟨0, 1⟩
def Fields.ERR_FATAL.SOURCE : Fld := ⟨8, 8⟩
def Fields.ERR_FATAL.CAUSE : Fld := ⟨24, 8⟩
def Fields.ERR_XING.CROSSING : Fld := ⟨0, 8⟩
def Fields.ERR_XING.VALID : Fld := ⟨8, 1⟩
def Fields.ERR_SRAM_CE.COUNT : Fld := ⟨0, 16⟩
def Fields.ERR_SRAM_CE.REGION : Fld := ⟨16, 3⟩
def Fields.ERR_SEQ.SEQ : Fld := ⟨0, 32⟩
def Fields.ERR_LOST.COUNT : Fld := ⟨0, 32⟩
def Fields.ERR_RING_BASE_LO.BASE_L : Fld := ⟨12, 20⟩
def Fields.ERR_RING_BASE_HI.BASE_H : Fld := ⟨0, 32⟩
def Fields.ERR_RING_CFG.ENABLE : Fld := ⟨0, 1⟩
def Fields.ERR_RING_CFG.SIZE_LOG2 : Fld := ⟨1, 4⟩
def Fields.ERR_RING_STATE.TAIL : Fld := ⟨0, 12⟩
def Fields.ERR_RING_STATE.PHASE : Fld := ⟨12, 1⟩
def Fields.ERR_RING_HEAD.HEAD : Fld := ⟨0, 12⟩
def Fields.GLB_ID.DEVICE : Fld := ⟨0, 16⟩
def Fields.GLB_ID.REV : Fld := ⟨16, 8⟩
def Fields.GLB_SERIAL_LO.SERIAL : Fld := ⟨0, 32⟩
def Fields.GLB_SERIAL_HI.SERIAL : Fld := ⟨0, 32⟩
def Fields.TP_TSQ.ENTRY : Fld := ⟨0, 32⟩

/-! ### The table -/

/-- One register or array of registers: its name, the address of its first member, the stride and
count of each index (largest stride first), the reset value, the bits software may write (RW and
RWS), the W1C bits, the write-only bits and the bits that keep their value through warm reset (RWS). -/
structure RegDesc where
  name : RegName
  base : Nat
  dims : List (Nat × Nat)
  reset : Word
  rw : Word
  w1c : Word
  wo : Word
  sticky : Word
  deriving DecidableEq, Repr

def regBlock0_0 : List RegDesc :=
  [
    ⟨.GLB_DIE_STATUS, 0x100, [], 0x00000000#32, 0x00000000#32, 0x00000000#32, 0x00000000#32, 0x00000000#32⟩,
    ⟨.GLB_DIE_ERR, 0x104, [], 0x00000000#32, 0x00000000#32, 0x0000003F#32, 0x00000000#32, 0x00000000#32⟩,
    ⟨.GLB_STREAM_LEAD, 0x108, [], 0x00000420#32, 0x00000000#32, 0x00000000#32, 0x00000000#32, 0x00000000#32⟩,
    ⟨.PWR_STATUS, 0x400, [], 0x00000000#32, 0x00000000#32, 0x00000000#32, 0x00000000#32, 0x00000000#32⟩,
    ⟨.PWR_EVENT, 0x404, [], 0x00000000#32, 0x00000000#32, 0x00003FFF#32, 0x00000000#32, 0x00000000#32⟩,
    ⟨.PWR_GOV_CTRL, 0x408, [], 0x00000004#32, 0x00000077#32, 0x00000000#32, 0x00000000#32, 0x00000000#32⟩,
    ⟨.PWR_TH, 0x40C, [], 0x01545F5A#32, 0x0FFFFFFF#32, 0x00000000#32, 0x00000000#32, 0x00000000#32⟩,
    ⟨.PWR_VIN_MEAS, 0x410, [], 0x00000000#32, 0x00000000#32, 0x00000000#32, 0x00000000#32, 0x00000000#32⟩,
    ⟨.PWR_HV_MON, 0x414, [], 0x00000000#32, 0x00000000#32, 0x00000000#32, 0x00000000#32, 0x00000000#32⟩,
    ⟨.PWR_TEMP, 0x440, [(0x4, 20)], 0x00000000#32, 0x00000000#32, 0x00000000#32, 0x00000000#32, 0x00000000#32⟩,
    ⟨.GLB_RST_CTRL, 0x200, [], 0x00000000#32, 0x00000000#32, 0x00000000#32, 0xFFFF0007#32, 0x00000000#32⟩,
    ⟨.GLB_RST_CAUSE, 0x204, [], 0x00000001#32, 0x0000FF00#32, 0x00010000#32, 0x00000000#32, 0x0000FF00#32⟩,
    ⟨.GLB_START_STATE, 0x208, [], 0x00000001#32, 0x00000000#32, 0x00001000#32, 0x00000000#32, 0x00000000#32⟩,
    ⟨.GLB_PROF_STATUS, 0x20C, [], 0x00000000#32, 0x00000000#32, 0x00000006#32, 0x00000000#32, 0x00000000#32⟩,
    ⟨.GLB_PROF_CMD, 0x210, [], 0x00000000#32, 0x00000000#32, 0x00000000#32, 0xFFFF0033#32, 0x00000000#32⟩,
    ⟨.GLB_FLASH_SRC_LO, 0x218, [], 0x00000000#32, 0xFFFF0000#32, 0x00000000#32, 0x00000000#32, 0x00000000#32⟩,
    ⟨.GLB_FLASH_SRC_HI, 0x21C, [], 0x00000000#32, 0x00000007#32, 0x00000000#32, 0x00000000#32, 0x00000000#32⟩,
    ⟨.GLB_LVL_SAMPLE_LO, 0x110, [], 0x00000000#32, 0x00000000#32, 0x00000000#32, 0x00000000#32, 0x00000000#32⟩,
    ⟨.GLB_LVL_SAMPLE_HI, 0x114, [], 0x00000000#32, 0x00000000#32, 0x00000000#32, 0x00000000#32, 0x00000000#32⟩,
    ⟨.GLB_ID, 0x0, [], 0x00019256#32, 0x00000000#32, 0x00000000#32, 0x00000000#32, 0x00000000#32⟩,
    ⟨.GLB_SERIAL_LO, 0x4, [], 0x00000000#32, 0x00000000#32, 0x00000000#32, 0x00000000#32, 0x00000000#32⟩,
    ⟨.GLB_SERIAL_HI, 0x8, [], 0x00000000#32, 0x00000000#32, 0x00000000#32, 0x00000000#32, 0x00000000#32⟩]

/-- The registers of BAR0 block 0x000_0000 (Table 19.1). -/
def regBlock0 : List RegDesc := regBlock0_0

def regBlock1_0 : List RegDesc :=
  [
    ⟨.HOST_CTRL, 0x100000, [], 0x00000002#32, 0x00000003#32, 0x00000000#32, 0x00000000#32, 0x00000000#32⟩,
    ⟨.HOST_STATUS, 0x100004, [], 0x00000000#32, 0x00000000#32, 0x00000000#32, 0x00000000#32, 0x00000000#32⟩,
    ⟨.HOST_ERR, 0x100008, [], 0x00000000#32, 0x00000000#32, 0x000000FF#32, 0x00000000#32, 0x00000000#32⟩,
    ⟨.HOST_ERR_INFO, 0x10000C, [], 0x00000000#32, 0x00000000#32, 0x00000000#32, 0x00000000#32, 0x00000000#32⟩,
    ⟨.HOST_BAR4_BASE_LO, 0x100010, [], 0x00000000#32, 0xFFFF0000#32, 0x00000000#32, 0x00000000#32, 0x00000000#32⟩,
    ⟨.HOST_BAR4_BASE_HI, 0x100014, [], 0x00000000#32, 0x00003F07#32, 0x00000000#32, 0x00000000#32, 0x00000000#32⟩,
    ⟨.HOST_QSEL, 0x100020, [], 0x00000000#32, 0x00000FFF#32, 0x00000000#32, 0x00000000#32, 0x00000000#32⟩,
    ⟨.HOST_QCTX_BASE_LO, 0x100024, [], 0x00000000#32, 0xFFFFF000#32, 0x00000000#32, 0x00000000#32, 0x00000000#32⟩,
    ⟨.HOST_QCTX_BASE_HI, 0x100028, [], 0x00000000#32, 0xFFFFFFFF#32, 0x00000000#32, 0x00000000#32, 0x00000000#32⟩,
    ⟨.HOST_QCTX_CFG, 0x10002C, [], 0x00000004#32, 0x00013F1F#32, 0x00000000#32, 0x00000000#32, 0x00000000#32⟩,
    ⟨.HOST_QCTX_STATE, 0x100030, [], 0x00000000#32, 0x00000000#32, 0x00000000#32, 0x00000000#32, 0x00000000#32⟩,
    ⟨.HOST_QCTX_TAIL, 0x100034, [], 0x00000000#32, 0x00000000#32, 0x00000000#32, 0x00000000#32, 0x00000000#32⟩,
    ⟨.HOST_QCMD, 0x100038, [], 0x00000000#32, 0x00000000#32, 0x00000000#32, 0x00000007#32, 0x00000000#32⟩,
    ⟨.HOST_EVT_VEC0, 0x100040, [], 0x43424140#32, 0xFFFFFFFF#32, 0x00000000#32, 0x00000000#32, 0x00000000#32⟩,
    ⟨.HOST_EVT_VEC1, 0x100044, [], 0x47464544#32, 0xFFFFFFFF#32, 0x00000000#32, 0x00000000#32, 0x00000000#32⟩,
    ⟨.HOST_CQ_BASE_LO, 0x101000, [(0x10, 64)], 0x00000000#32, 0xFFFFF000#32, 0x00000000#32, 0x00000000#32, 0x00000000#32⟩,
    ⟨.HOST_CQ_BASE_HI, 0x101004, [(0x10, 64)], 0x00000000#32, 0xFFFFFFFF#32, 0x00000000#32, 0x00000000#32, 0x00000000#32⟩,
    ⟨.HOST_CQ_CFG, 0x101008, [(0x10, 64)], 0x00010008#32, 0xFFFFFF3F#32, 0x00000000#32, 0x00000000#32, 0x00000000#32⟩,
    ⟨.HOST_CQ_STATE, 0x10100C, [(0x10, 64)], 0x00010000#32, 0x00000000#32, 0x00000000#32, 0x00000000#32, 0x00000000#32⟩]

/-- The registers of BAR0 block 0x010_0000 (Table 19.1). -/
def regBlock1 : List RegDesc := regBlock1_0

def regBlock2_0 : List RegDesc :=
  [
    ⟨.HAT_CTRL, 0x200000, [], 0x00001401#32, 0x0000FF01#32, 0x00000000#32, 0x00000000#32, 0x00000000#32⟩,
    ⟨.HAT_STATUS, 0x200004, [], 0x00000000#32, 0x00000000#32, 0x00000000#32, 0x00000000#32, 0x00000000#32⟩,
    ⟨.HAT_ERR, 0x200008, [], 0x00000000#32, 0x00000000#32, 0x0000003F#32, 0x00000000#32, 0x00000000#32⟩,
    ⟨.HAT_SITE_LOST_LO, 0x200010, [], 0x00000000#32, 0x00000000#32, 0xFFFFFFFF#32, 0x00000000#32, 0x00000000#32⟩,
    ⟨.HAT_SITE_LOST_HI, 0x200014, [], 0x00000000#32, 0x00000000#32, 0xFFFFFFFF#32, 0x00000000#32, 0x00000000#32⟩,
    ⟨.HAT_TRACE_CTRL, 0x200020, [], 0x00001000#32, 0x003F1F0F#32, 0x00000000#32, 0x00000000#32, 0x00000000#32⟩,
    ⟨.HAT_TRACE_BASE_LO, 0x200024, [], 0x00000000#32, 0xFFFFF000#32, 0x00000000#32, 0x00000000#32, 0x00000000#32⟩,
    ⟨.HAT_TRACE_BASE_HI, 0x200028, [], 0x00000000#32, 0xFFFFFFFF#32, 0x00000000#32, 0x00000000#32, 0x00000000#32⟩,
    ⟨.HAT_TRACE_WR, 0x20002C, [], 0x00000000#32, 0x00000000#32, 0x00000000#32, 0x00000000#32, 0x00000000#32⟩,
    ⟨.HAT_TRACE_RD, 0x200030, [], 0x00000000#32, 0xFFFFFFFF#32, 0x00000000#32, 0x00000000#32, 0x00000000#32⟩,
    ⟨.HAT_USEL, 0x200040, [], 0x00000001#32, 0x0000FF0F#32, 0x00000000#32, 0x00000000#32, 0x00000000#32⟩,
    ⟨.HAT_UCMD, 0x200044, [], 0x00000000#32, 0x00000000#32, 0x00000000#32, 0x00000003#32, 0x00000000#32⟩,
    ⟨.HAT_USTATE, 0x200048, [], 0x00000001#32, 0x00000000#32, 0x00000000#32, 0x00000000#32, 0x00000000#32⟩,
    ⟨.HAT_GRP_CFG, 0x200100, [(0x4, 64)], 0x00000110#32, 0x000001FF#32, 0x00000000#32, 0x00000200#32, 0x00000000#32⟩,
    ⟨.HAT_Q_CFG, 0x204000, [(0x4, 4096)], 0x00000000#32, 0x000007FF#32, 0x00000000#32, 0x00000000#32, 0x00000000#32⟩,
    ⟨.HAT_SPILL_BASE_LO, 0x208000, [(0x10, 128)], 0x00000000#32, 0xFFFFF000#32, 0x00000000#32, 0x00000000#32, 0x00000000#32⟩,
    ⟨.HAT_SPILL_BASE_HI, 0x208004, [(0x10, 128)], 0x00000000#32, 0x0000FFFF#32, 0x00000000#32, 0x00000000#32, 0x00000000#32⟩,
    ⟨.HAT_SPILL_CFG, 0x208008, [(0x10, 128)], 0x0000C010#32, 0x0000FF1F#32, 0x00000000#32, 0x00000000#32, 0x00000000#32⟩,
    ⟨.HAT_SPILL_STATE, 0x20800C, [(0x10, 128)], 0x00000000#32, 0x00000000#32, 0x00000000#32, 0x00000000#32, 0x00000000#32⟩]

/-- The registers of BAR0 block 0x020_0000 (Table 19.1). -/
def regBlock2 : List RegDesc := regBlock2_0

def regBlock3_0 : List RegDesc :=
  [
    ⟨.MCS_CTRL, 0x300000, [], 0x00000000#32, 0x00000000#32, 0x00000000#32, 0x00000003#32, 0x00000000#32⟩,
    ⟨.MCS_STATUS, 0x300004, [], 0x00000000#32, 0x00000000#32, 0x00000040#32, 0x00000000#32, 0x00000000#32⟩,
    ⟨.MCS_VERSION, 0x300008, [], 0x00000000#32, 0x00000000#32, 0x00000000#32, 0x00000000#32, 0x00000000#32⟩,
    ⟨.MCS_CRC, 0x30000C, [], 0x00000000#32, 0x00000000#32, 0x00000000#32, 0x00000000#32, 0x00000000#32⟩,
    ⟨.MCS_CORE_CFG, 0x300010, [], 0x00000064#32, 0x0000FFFF#32, 0x00000000#32, 0x00000000#32, 0x00000000#32⟩,
    ⟨.MCS_SCORE_CTRL, 0x300100, [(0x8, 16)], 0x00000000#32, 0x00000003#32, 0x00000000#32, 0x00000000#32, 0x00000000#32⟩,
    ⟨.MCS_SCORE_STATUS, 0x300104, [(0x8, 16)], 0x00000000#32, 0x00FF0000#32, 0x00000000#32, 0x00000000#32, 0x00FF0000#32⟩,
    ⟨.MCS_MCORE_CTRL, 0x300200, [(0x8, 4)], 0x00000004#32, 0x00000007#32, 0x00000000#32, 0x00000008#32, 0x00000000#32⟩,
    ⟨.MCS_MCORE_STATUS, 0x300204, [(0x8, 4)], 0x00000000#32, 0x00FF0000#32, 0x00000002#32, 0x00000000#32, 0x00FF0000#32⟩,
    ⟨.MCS_MGMT_LOAD, 0x300220, [], 0x00000000#32, 0x00000000#32, 0x00000000#32, 0x00000000#32, 0x00000000#32⟩,
    ⟨.MCS_MGMT_CFG, 0x300224, [], 0x00643C55#32, 0x3FFF7F7F#32, 0x00000000#32, 0x00000000#32, 0x00000000#32⟩]

/-- The registers of BAR0 block 0x030_0000 (Table 19.1). -/
def regBlock3 : List RegDesc := regBlock3_0

def regBlock4_0 : List RegDesc :=
  [
    ⟨.SEQ_CTRL, 0x400000, [(0x1000, 32)], 0x00000000#32, 0x00000001#32, 0x00000000#32, 0x00000006#32, 0x00000000#32⟩,
    ⟨.SEQ_STATUS, 0x400004, [(0x1000, 32)], 0x00000100#32, 0x00000000#32, 0x00000000#32, 0x00000000#32, 0x00000000#32⟩,
    ⟨.SEQ_CFG, 0x400008, [(0x1000, 32)], 0x00000000#32, 0x00FFFFFF#32, 0x00000000#32, 0x00000000#32, 0x00000000#32⟩,
    ⟨.SEQ_PF_CFG, 0x40000C, [(0x1000, 32)], 0x00000000#32, 0x00007F7F#32, 0x00000000#32, 0x00000000#32, 0x00000000#32⟩,
    ⟨.SEQ_PF_STATUS, 0x400010, [(0x1000, 32)], 0x00000000#32, 0x00000000#32, 0x00000000#32, 0x00000000#32, 0x00000000#32⟩,
    ⟨.SEQ_MSTATE, 0x400014, [(0x1000, 32)], 0x00000000#32, 0x00000000#32, 0x00000000#32, 0x00000000#32, 0x00000000#32⟩,
    ⟨.SEQ_PC, 0x400018, [(0x1000, 32)], 0x00000000#32, 0x00000000#32, 0x00000000#32, 0x00000000#32, 0x00000000#32⟩,
    ⟨.SEQ_LAST, 0x40001C, [(0x1000, 32)], 0x00000000#32, 0x00000000#32, 0x00000000#32, 0x00000000#32, 0x00000000#32⟩,
    ⟨.SEQ_VCOUNT_LO, 0x400020, [(0x1000, 32)], 0x00000000#32, 0x00000000#32, 0x00000000#32, 0x00000000#32, 0x00000000#32⟩,
    ⟨.SEQ_VCOUNT_HI, 0x400024, [(0x1000, 32)], 0x00000000#32, 0x00000000#32, 0x00000000#32, 0x00000000#32, 0x00000000#32⟩,
    ⟨.SEQ_STRETCH_LO, 0x400028, [(0x1000, 32)], 0x00000000#32, 0x00000000#32, 0x00000000#32, 0x00000000#32, 0x00000000#32⟩,
    ⟨.SEQ_STRETCH_HI, 0x40002C, [(0x1000, 32)], 0x00000000#32, 0x00000000#32, 0x00000000#32, 0x00000000#32, 0x00000000#32⟩,
    ⟨.SEQ_FLAGS, 0x400030, [(0x1000, 32)], 0x00000000#32, 0x0000FFFF#32, 0x00000000#32, 0x00000000#32, 0x00000000#32⟩,
    ⟨.SEQ_PORT, 0x400040, [(0x1000, 32), (0x4, 8)], 0x00000000#32, 0xFFFFFFFF#32, 0x00000000#32, 0x00000000#32, 0x00000000#32⟩,
    ⟨.SEQ_MMASK, 0x400060, [(0x1000, 32), (0x4, 8)], 0x00000000#32, 0xFFFFFFFF#32, 0x00000000#32, 0x00000000#32, 0x00000000#32⟩,
    ⟨.SEQ_GRP_RESV, 0x420000, [(0x4, 64)], 0x00000000#32, 0x00000FFF#32, 0x00000000#32, 0x00000000#32, 0x00000000#32⟩,
    ⟨.SEQ_BAR_MASK, 0x420100, [(0x4, 16)], 0x00000000#32, 0xFFFFFFFF#32, 0x00000000#32, 0x00000000#32, 0x00000000#32⟩,
    ⟨.SEQ_PF_FREE, 0x420200, [], 0x00004040#32, 0x00000000#32, 0x00000000#32, 0x00000000#32, 0x00000000#32⟩,
    ⟨.SEQ_TPER, 0x400100, [(0x1000, 32), (0x4, 64)], 0x00000800#32, 0x07FFFFFF#32, 0x00000000#32, 0x00000000#32, 0x00000000#32⟩,
    ⟨.SEQ_PRF_CFG, 0x421000, [(0x40, 32)], 0x00001000#32, 0x00001F1F#32, 0x00000000#32, 0x00000000#32, 0x00000000#32⟩,
    ⟨.SEQ_PRF_STATUS, 0x421004, [(0x40, 32)], 0x00000000#32, 0x00000000#32, 0x006C0000#32, 0x00000000#32, 0x00000000#32⟩,
    ⟨.SEQ_PRF_WR, 0x421008, [(0x40, 32)], 0x00000000#32, 0x00000000#32, 0x00000000#32, 0x00000000#32, 0x00000000#32⟩,
    ⟨.SEQ_PRF_RD, 0x42100C, [(0x40, 32)], 0x00000000#32, 0xFFFFFFFF#32, 0x00000000#32, 0x00000000#32, 0x00000000#32⟩,
    ⟨.SEQ_PRF_SPILL_BASE_LO, 0x421010, [(0x40, 32)], 0x00000000#32, 0xFFFFF000#32, 0x00000000#32, 0x00000000#32, 0x00000000#32⟩]

def regBlock4_1 : List RegDesc :=
  [
    ⟨.SEQ_PRF_SPILL_BASE_HI, 0x421014, [(0x40, 32)], 0x00000000#32, 0x0000FFFF#32, 0x00000000#32, 0x00000000#32, 0x00000000#32⟩,
    ⟨.SEQ_PRF_SWR, 0x421018, [(0x40, 32)], 0x00000000#32, 0x00000000#32, 0x00000000#32, 0x00000000#32, 0x00000000#32⟩,
    ⟨.SEQ_PRF_SRD, 0x42101C, [(0x40, 32)], 0x00000000#32, 0xFFFFFFFF#32, 0x00000000#32, 0x00000000#32, 0x00000000#32⟩,
    ⟨.SEQ_PRF_LIMIT, 0x421020, [(0x40, 32)], 0x00000000#32, 0xFFFFFFFF#32, 0x00000000#32, 0x00000000#32, 0x00000000#32⟩,
    ⟨.SEQ_PRF_FAILS, 0x421024, [(0x40, 32)], 0x00000000#32, 0x00000000#32, 0x00000000#32, 0x00000000#32, 0x00000000#32⟩,
    ⟨.SEQ_PRF_DROPPED, 0x421028, [(0x40, 32)], 0x00000000#32, 0x00000000#32, 0x00000000#32, 0x00000000#32, 0x00000000#32⟩,
    ⟨.SEQ_PRF_TRC_CFG, 0x42102C, [(0x40, 32)], 0x00001000#32, 0x00001F03#32, 0x00000000#32, 0x00000000#32, 0x00000000#32⟩,
    ⟨.SEQ_PRF_TRC_BASE_LO, 0x421030, [(0x40, 32)], 0x00000000#32, 0xFFFFF000#32, 0x00000000#32, 0x00000000#32, 0x00000000#32⟩,
    ⟨.SEQ_PRF_TRC_BASE_HI, 0x421034, [(0x40, 32)], 0x00000000#32, 0x0000FFFF#32, 0x00000000#32, 0x00000000#32, 0x00000000#32⟩,
    ⟨.SEQ_PRF_TRC_START, 0x421038, [(0x40, 32)], 0x00000000#32, 0xFFFFFFFF#32, 0x00000000#32, 0x00000000#32, 0x00000000#32⟩,
    ⟨.SEQ_PRF_TRC_LEN, 0x42103C, [(0x40, 32)], 0x00000000#32, 0xFFFFFFFF#32, 0x00000000#32, 0x00000000#32, 0x00000000#32⟩,
    ⟨.SEQ_PRF_SITE_FAIL_LO, 0x420300, [], 0x00000000#32, 0x00000000#32, 0xFFFFFFFF#32, 0x00000000#32, 0x00000000#32⟩,
    ⟨.SEQ_PRF_SITE_FAIL_HI, 0x420304, [], 0x00000000#32, 0x00000000#32, 0xFFFFFFFF#32, 0x00000000#32, 0x00000000#32⟩,
    ⟨.SEQ_PRF_ERR, 0x420308, [], 0x00000000#32, 0x00000000#32, 0x0000000F#32, 0x00000000#32, 0x00000000#32⟩]

/-- The registers of BAR0 block 0x040_0000 (Table 19.1). -/
def regBlock4 : List RegDesc := regBlock4_0 ++ regBlock4_1

def regBlock5_0 : List RegDesc :=
  [
    ⟨.CH_VMAP, 0x5000F0, [(0x100000, 2), (0x100, 128)], 0x94763210#32, 0xFFFFFFFF#32, 0x00000000#32, 0x00000000#32, 0x00000000#32⟩,
    ⟨.CH_VCFG, 0x5000F4, [(0x100000, 2), (0x100, 128)], 0x00000007#32, 0x0000001F#32, 0x00000000#32, 0x00000000#32, 0x00000000#32⟩,
    ⟨.CH_TSET_CFG, 0x540000, [(0x100000, 2), (0x800, 128), (0x20, 64)], 0x00000020#32, 0x0000007F#32, 0x00000000#32, 0x00000000#32, 0x00000000#32⟩,
    ⟨.CH_TSET_D0, 0x540004, [(0x100000, 2), (0x800, 128), (0x20, 64)], 0x00000000#32, 0x1FFFFFFF#32, 0x00000000#32, 0x00000000#32, 0x00000000#32⟩,
    ⟨.CH_TSET_D1, 0x540008, [(0x100000, 2), (0x800, 128), (0x20, 64)], 0x00000000#32, 0x1FFFFFFF#32, 0x00000000#32, 0x00000000#32, 0x00000000#32⟩,
    ⟨.CH_TSET_D2, 0x54000C, [(0x100000, 2), (0x800, 128), (0x20, 64)], 0x00000000#32, 0x1FFFFFFF#32, 0x00000000#32, 0x00000000#32, 0x00000000#32⟩,
    ⟨.CH_TSET_D3, 0x540010, [(0x100000, 2), (0x800, 128), (0x20, 64)], 0x00000000#32, 0x1FFFFFFF#32, 0x00000000#32, 0x00000000#32, 0x00000000#32⟩,
    ⟨.CH_TSET_S0, 0x540014, [(0x100000, 2), (0x800, 128), (0x20, 64)], 0x00000400#32, 0x1FFFFFFF#32, 0x00000000#32, 0x00000000#32, 0x00000000#32⟩,
    ⟨.CH_TSET_S1, 0x540018, [(0x100000, 2), (0x800, 128), (0x20, 64)], 0x00000400#32, 0x1FFFFFFF#32, 0x00000000#32, 0x00000000#32, 0x00000000#32⟩,
    ⟨.CH_DSK_DR, 0x5000C0, [(0x100000, 2), (0x100, 128)], 0x00000000#32, 0x00001FFF#32, 0x00000000#32, 0x00000000#32, 0x00001FFF#32⟩,
    ⟨.CH_DSK_DF, 0x5000C4, [(0x100000, 2), (0x100, 128)], 0x00000000#32, 0x00001FFF#32, 0x00000000#32, 0x00000000#32, 0x00001FFF#32⟩,
    ⟨.CH_DSK_CMP, 0x5000C8, [(0x100000, 2), (0x100, 128)], 0x00000000#32, 0x00001FFF#32, 0x00000000#32, 0x00000000#32, 0x00001FFF#32⟩,
    ⟨.CH_UOFS, 0x5000CC, [(0x100000, 2), (0x100, 128)], 0x00000000#32, 0x1FFF1FFF#32, 0x00000000#32, 0x00000000#32, 0x00000000#32⟩,
    ⟨.CH_LIND, 0x5C0000, [(0x100000, 2), (0x400, 128), (0x4, 128)], 0x00000000#32, 0x01FF01FF#32, 0x00000000#32, 0x00000000#32, 0x01FF01FF#32⟩,
    ⟨.CH_LINS, 0x5C0200, [(0x100000, 2), (0x400, 128), (0x4, 128)], 0x00000000#32, 0x01FF01FF#32, 0x00000000#32, 0x00000000#32, 0x01FF01FF#32⟩,
    ⟨.CH_TSTAT, 0x5000D0, [(0x100000, 2), (0x100, 128)], 0x00000000#32, 0x00000000#32, 0x0000001F#32, 0x00000000#32, 0x00000000#32⟩,
    ⟨.CH_TFLAG, 0x5F0000, [(0x100000, 2)], 0x00000000#32, 0x00000000#32, 0x00000000#32, 0x00000000#32, 0x00000000#32⟩,
    ⟨.CH_FCNT, 0x5000E0, [(0x100000, 2), (0x100, 128)], 0x00000000#32, 0xFFFFFFFF#32, 0x00000000#32, 0x00000000#32, 0x00000000#32⟩,
    ⟨.CH_CCFG, 0x5000E4, [(0x100000, 2), (0x100, 128)], 0x00000000#32, 0x00000007#32, 0x00000000#32, 0x00000000#32, 0x00000000#32⟩,
    ⟨.CH_FFIRST_LO, 0x5000E8, [(0x100000, 2), (0x100, 128)], 0xFFFFFFFF#32, 0x00000000#32, 0x00000000#32, 0x00000000#32, 0x00000000#32⟩,
    ⟨.CH_FFIRST_HI, 0x5000EC, [(0x100000, 2), (0x100, 128)], 0xFFFFFFFF#32, 0x00000000#32, 0x00000000#32, 0x00000000#32, 0x00000000#32⟩,
    ⟨.CH_LCTRL, 0x500000, [(0x100000, 2), (0x100, 128)], 0x00000000#32, 0x00000003#32, 0x00000000#32, 0x00000004#32, 0x00000000#32⟩,
    ⟨.CH_LSTAT, 0x500004, [(0x100000, 2), (0x100, 128)], 0x00000000#32, 0x00000000#32, 0x00000C00#32, 0x00000000#32, 0x00000000#32⟩,
    ⟨.CH_LVSEL, 0x5E0000, [(0x100000, 2)], 0x00000000#32, 0x00007FFF#32, 0x00000000#32, 0x00000000#32, 0x00000000#32⟩]

def regBlock5_1 : List RegDesc :=
  [
    ⟨.CH_LVDATA0, 0x5E0004, [(0x100000, 2)], 0x80008000#32, 0xFFFFFFFF#32, 0x00000000#32, 0x00000000#32, 0x00000000#32⟩,
    ⟨.CH_LVDATA1, 0x5E0008, [(0x100000, 2)], 0x80008000#32, 0xFFFFFFFF#32, 0x00000000#32, 0x00000000#32, 0x00000000#32⟩,
    ⟨.CH_LVDATA2, 0x5E000C, [(0x100000, 2)], 0x80008000#32, 0xFFFFFFFF#32, 0x00000000#32, 0x00000000#32, 0x00000000#32⟩,
    ⟨.CH_LQCMD, 0x5E0010, [(0x100000, 2)], 0x00000000#32, 0x00000000#32, 0x00000000#32, 0xFFFF07FF#32, 0x00000000#32⟩,
    ⟨.CH_LQ_STATUS, 0x5E0020, [(0x100000, 2), (0x4, 8)], 0x00000000#32, 0x00000000#32, 0x00000700#32, 0x00000000#32, 0x00000000#32⟩,
    ⟨.CH_LCAL, 0x500080, [(0x100000, 2), (0x100, 128), (0x4, 12)], 0x00000000#32, 0xFFFFFFFF#32, 0x00000000#32, 0x00000000#32, 0xFFFFFFFF#32⟩]

/-- The registers of BAR0 block 0x050_0000 (Table 19.1). -/
def regBlock5 : List RegDesc := regBlock5_0 ++ regBlock5_1

def regBlock7_0 : List RegDesc :=
  [
    ⟨.HV_CTRL, 0x700000, [(0x20, 32)], 0x00000000#32, 0x00000003#32, 0x00000000#32, 0x00000000#32, 0x00000000#32⟩,
    ⟨.HV_STATE, 0x700004, [(0x20, 32)], 0x000000B0#32, 0x00000000#32, 0x001C0000#32, 0x00000000#32, 0x00000000#32⟩,
    ⟨.HV_DCFG, 0x700008, [(0x20, 32)], 0x00000000#32, 0x0000FF01#32, 0x00000000#32, 0x00000000#32, 0x00000000#32⟩,
    ⟨.HV_DTIM, 0x70000C, [(0x20, 32)], 0x00190000#32, 0xFFFFFFFF#32, 0x00000000#32, 0x00000000#32, 0x00000000#32⟩,
    ⟨.HV_SETSEL, 0x700400, [], 0x00000000#32, 0x0000FF1F#32, 0x00000000#32, 0x00000000#32, 0x00000000#32⟩,
    ⟨.HV_SETDATA0, 0x700404, [], 0x52000000#32, 0x7373FFFF#32, 0x00000000#32, 0x00000000#32, 0x00000000#32⟩,
    ⟨.HV_SETDATA1, 0x700408, [], 0xFFFF0000#32, 0xFFFF03FF#32, 0x00000000#32, 0x00000000#32, 0x00000000#32⟩,
    ⟨.HV_SETDATA2, 0x70040C, [], 0x00000000#32, 0xFFFFFFFF#32, 0x00000000#32, 0x00000000#32, 0x00000000#32⟩,
    ⟨.HV_SETDATA3, 0x700410, [], 0x00000000#32, 0xFFFFFFFF#32, 0x00000000#32, 0x00000000#32, 0x00000000#32⟩,
    ⟨.HV_LQCMD, 0x700420, [], 0x00000000#32, 0x00000000#32, 0x00000000#32, 0x00FF07FF#32, 0x00000000#32⟩,
    ⟨.HV_LQ_STATUS, 0x700430, [(0x4, 5)], 0x00000000#32, 0x00000000#32, 0x00000700#32, 0x00000000#32, 0x00000000#32⟩,
    ⟨.RLY_SETSEL, 0x700500, [], 0x00000000#32, 0x000000FF#32, 0x00000000#32, 0x00000000#32, 0x00000000#32⟩,
    ⟨.RLY_CLOSE_LO, 0x700504, [], 0x00000000#32, 0xFFFFFFFF#32, 0x00000000#32, 0x00000000#32, 0x00000000#32⟩,
    ⟨.RLY_CLOSE_HI, 0x700508, [], 0x00000000#32, 0xFFFFFFFF#32, 0x00000000#32, 0x00000000#32, 0x00000000#32⟩,
    ⟨.RLY_CARE_LO, 0x70050C, [], 0x00000000#32, 0xFFFFFFFF#32, 0x00000000#32, 0x00000000#32, 0x00000000#32⟩,
    ⟨.RLY_CARE_HI, 0x700510, [], 0x00000000#32, 0xFFFFFFFF#32, 0x00000000#32, 0x00000000#32, 0x00000000#32⟩,
    ⟨.RLY_STATE_LO, 0x700520, [], 0x00000000#32, 0x00000000#32, 0x00000000#32, 0x00000000#32, 0x00000000#32⟩,
    ⟨.RLY_STATE_HI, 0x700524, [], 0x00000000#32, 0x00000000#32, 0x00000000#32, 0x00000000#32, 0x00000000#32⟩,
    ⟨.RLY_FLT_LO, 0x700528, [], 0x00000000#32, 0x00000000#32, 0xFFFFFFFF#32, 0x00000000#32, 0x00000000#32⟩,
    ⟨.RLY_FLT_HI, 0x70052C, [], 0x00000000#32, 0x00000000#32, 0xFFFFFFFF#32, 0x00000000#32, 0x00000000#32⟩,
    ⟨.RLY_SEQMASK, 0x700530, [], 0x00000000#32, 0xFFFFFFFF#32, 0x00000000#32, 0x00000000#32, 0x00000000#32⟩]

/-- The registers of BAR0 block 0x070_0000 (Table 19.1). -/
def regBlock7 : List RegDesc := regBlock7_0

def regBlock8_0 : List RegDesc :=
  [
    ⟨.DDS_CTRL, 0x800000, [(0x40, 8)], 0x00000000#32, 0x00000000#32, 0x00000000#32, 0x00000003#32, 0x00000000#32⟩,
    ⟨.DDS_JUMP, 0x800004, [(0x40, 8)], 0x00000000#32, 0x00FF02FF#32, 0x00000000#32, 0x00000100#32, 0x00000000#32⟩,
    ⟨.DDS_STATUS, 0x800008, [(0x40, 8)], 0x00000000#32, 0x00000000#32, 0x00000060#32, 0x00000000#32, 0x00000000#32⟩,
    ⟨.DDS_SAMPLE_LO, 0x80000C, [(0x40, 8)], 0x00000000#32, 0x00000000#32, 0x00000000#32, 0x00000000#32, 0x00000000#32⟩,
    ⟨.DDS_SAMPLE_HI, 0x800010, [(0x40, 8)], 0x00000000#32, 0x00000000#32, 0x00000000#32, 0x00000000#32, 0x00000000#32⟩,
    ⟨.DDS_MK, 0x800014, [(0x40, 8)], 0x00640000#32, 0xFFFFFFFF#32, 0x00000000#32, 0x00000000#32, 0x00000000#32⟩,
    ⟨.AS_CFG, 0x800400, [(0x20, 8)], 0x0A0A0000#32, 0xFFFF000F#32, 0x00000000#32, 0x00000000#32, 0x00000000#32⟩,
    ⟨.AS_CMD, 0x800404, [(0x20, 8)], 0x00000000#32, 0x00000000#32, 0x00000000#32, 0x0001FF0F#32, 0x00000000#32⟩,
    ⟨.AS_STATE, 0x800408, [(0x20, 8)], 0x00000002#32, 0x00000000#32, 0x000001F8#32, 0x00000000#32, 0x00000000#32⟩,
    ⟨.AQ_STATUS, 0x800800, [(0x20, 8)], 0x00000000#32, 0x00000000#32, 0x00000018#32, 0x00000000#32, 0x00000000#32⟩,
    ⟨.AQ_SWTRIG, 0x800900, [], 0x00000000#32, 0x00000000#32, 0x00000000#32, 0x000000FF#32, 0x00000000#32⟩,
    ⟨.TRIG_CFG, 0x800C00, [(0x4, 8)], 0x00640000#32, 0xFFFF0007#32, 0x00000000#32, 0x00000000#32, 0x00000000#32⟩,
    ⟨.XTRIG_CFG, 0x800C20, [(0x4, 2)], 0x00000000#32, 0x00000004#32, 0x00000000#32, 0x00000000#32, 0x00000000#32⟩,
    ⟨.TRIG_STATE, 0x800C30, [], 0x00000000#32, 0x00000000#32, 0x00000000#32, 0xFFFF0000#32, 0x00000000#32⟩,
    ⟨.TRIG_EDGE, 0x800C34, [], 0x00000000#32, 0x00000000#32, 0x000007FF#32, 0x00000000#32, 0x00000000#32⟩,
    ⟨.WAVE_SYNC_CTRL, 0x800D00, [], 0x00000000#32, 0x00003F05#32, 0x00000000#32, 0x00000002#32, 0x00000000#32⟩,
    ⟨.WAVE_SYNC_STATUS, 0x800D04, [], 0x00000000#32, 0x00000000#32, 0x00000006#32, 0x00000000#32, 0x00000000#32⟩,
    ⟨.WAVE_SKEW, 0x800D08, [], 0x00000000#32, 0x0000FFFF#32, 0x00000000#32, 0x00000000#32, 0x0000FFFF#32⟩,
    ⟨.WAVE_EPOCH_LO, 0x800D0C, [], 0x00000000#32, 0x00000000#32, 0x00000000#32, 0x00000000#32, 0x00000000#32⟩,
    ⟨.WAVE_EPOCH_HI, 0x800D10, [], 0x00000000#32, 0x00000000#32, 0x00000000#32, 0x00000000#32, 0x00000000#32⟩]

/-- The registers of BAR0 block 0x080_0000 (Table 19.1). -/
def regBlock8 : List RegDesc := regBlock8_0

def regBlock9_0 : List RegDesc :=
  [
    ⟨.TDC_STATUS, 0x900000, [(0x20, 36)], 0x00000000#32, 0x00000000#32, 0x00000004#32, 0x00000000#32, 0x00000000#32⟩,
    ⟨.TDC_RES_LO, 0x900008, [(0x20, 36)], 0x00000000#32, 0x00000000#32, 0x00000000#32, 0x00000000#32, 0x00000000#32⟩,
    ⟨.TDC_RES_HI, 0x90000C, [(0x20, 36)], 0x00000000#32, 0x00000000#32, 0x00000000#32, 0x00000000#32, 0x00000000#32⟩,
    ⟨.TDC_TSTART_LO, 0x900010, [(0x20, 36)], 0x00000000#32, 0x00000000#32, 0x00000000#32, 0x00000000#32, 0x00000000#32⟩,
    ⟨.TDC_TSTART_HI, 0x900014, [(0x20, 36)], 0x00000000#32, 0x00000000#32, 0x00000000#32, 0x00000000#32, 0x00000000#32⟩,
    ⟨.TB_CTRL, 0x901000, [], 0x00000000#32, 0x00000007#32, 0x00000000#32, 0x00000000#32, 0x00000000#32⟩,
    ⟨.TB_STATUS, 0x901004, [], 0x00000000#32, 0x00000000#32, 0x00000000#32, 0x00000000#32, 0x00000000#32⟩,
    ⟨.TB_TRIM, 0x901008, [], 0x00000000#32, 0x0000FFFF#32, 0x00000000#32, 0x00000000#32, 0x0000FFFF#32⟩,
    ⟨.TB_REFMEAS, 0x90100C, [], 0x00000000#32, 0x00000000#32, 0x00000000#32, 0x00000000#32, 0x00000000#32⟩,
    ⟨.TIME_TTIME_LO, 0x901010, [], 0x00000000#32, 0x00000000#32, 0x00000000#32, 0x00000000#32, 0x00000000#32⟩,
    ⟨.TIME_TTIME_HI, 0x901014, [], 0x00000000#32, 0x00000000#32, 0x00000000#32, 0x00000000#32, 0x00000000#32⟩,
    ⟨.TIME_EVENT, 0x901020, [], 0x00000000#32, 0x00000000#32, 0x000003FF#32, 0x00000000#32, 0x00000000#32⟩,
    ⟨.TIME_IRQ_EN, 0x901024, [], 0x00000000#32, 0x000003FF#32, 0x00000000#32, 0x00000000#32, 0x00000000#32⟩,
    ⟨.TD_CTRL, 0x902000, [(0x40, 4)], 0x01F40000#32, 0x01FF0000#32, 0x00000000#32, 0x00000003#32, 0x01FF0000#32⟩,
    ⟨.TD_STATUS, 0x902004, [(0x40, 4)], 0x00000000#32, 0x00000000#32, 0x0000001C#32, 0x00000000#32, 0x00000000#32⟩,
    ⟨.TD_INC_LO, 0x902008, [(0x40, 4)], 0x00000000#32, 0xFFFFFFFF#32, 0x00000000#32, 0x00000000#32, 0xFFFFFFFF#32⟩,
    ⟨.TD_INC_HI, 0x90200C, [(0x40, 4)], 0x00000004#32, 0xFFFFFFFF#32, 0x00000000#32, 0x00000000#32, 0xFFFFFFFF#32⟩,
    ⟨.TD_ADJ_LO, 0x902010, [(0x40, 4)], 0x00000000#32, 0x00000000#32, 0x00000000#32, 0xFFFFFFFF#32, 0x00000000#32⟩,
    ⟨.TD_ADJ_HI, 0x902014, [(0x40, 4)], 0x00000000#32, 0x00000000#32, 0x00000000#32, 0xFFFFFFFF#32, 0x00000000#32⟩,
    ⟨.TD_JUMP_LIMIT, 0x902018, [(0x40, 4)], 0x000F4240#32, 0xFFFFFFFF#32, 0x00000000#32, 0x00000000#32, 0xFFFFFFFF#32⟩,
    ⟨.TD_REMAIN, 0x90201C, [(0x40, 4)], 0x00000000#32, 0x00000000#32, 0x00000000#32, 0x00000000#32, 0x00000000#32⟩,
    ⟨.TD_FRAC, 0x902020, [(0x40, 4)], 0x00000000#32, 0x00000000#32, 0x00000000#32, 0x00000000#32, 0x00000000#32⟩,
    ⟨.TD_NS, 0x902024, [(0x40, 4)], 0x00000000#32, 0x00000000#32, 0x00000000#32, 0x00000000#32, 0x00000000#32⟩,
    ⟨.TD_SEC_LO, 0x902028, [(0x40, 4)], 0x00000000#32, 0x00000000#32, 0x00000000#32, 0x00000000#32, 0x00000000#32⟩]

def regBlock9_1 : List RegDesc :=
  [
    ⟨.TD_SEC_HI, 0x90202C, [(0x40, 4)], 0x00000000#32, 0x00000000#32, 0x00000000#32, 0x00000000#32, 0x00000000#32⟩,
    ⟨.TD_SET_NS, 0x902030, [(0x40, 4)], 0x00000000#32, 0x3FFFFFFF#32, 0x00000000#32, 0x00000000#32, 0x00000000#32⟩,
    ⟨.TD_SET_SEC_LO, 0x902034, [(0x40, 4)], 0x00000000#32, 0xFFFFFFFF#32, 0x00000000#32, 0x00000000#32, 0x00000000#32⟩,
    ⟨.TD_SET_SEC_HI, 0x902038, [(0x40, 4)], 0x00000000#32, 0xFFFFFFFF#32, 0x00000000#32, 0x00000000#32, 0x00000000#32⟩,
    ⟨.TIME_SNAP_CTRL, 0x903000, [], 0x00000000#32, 0x0000FF00#32, 0x00000000#32, 0x00000001#32, 0x00000000#32⟩,
    ⟨.TIME_SNAP_STATUS, 0x903004, [], 0x00000000#32, 0x00000000#32, 0x00000001#32, 0x00000000#32, 0x00000000#32⟩,
    ⟨.TIME_SNAP_TTIME_LO, 0x903008, [], 0x00000000#32, 0x00000000#32, 0x00000000#32, 0x00000000#32, 0x00000000#32⟩,
    ⟨.TIME_SNAP_TTIME_HI, 0x90300C, [], 0x00000000#32, 0x00000000#32, 0x00000000#32, 0x00000000#32, 0x00000000#32⟩,
    ⟨.TIME_SNAP_TD, 0x903010, [(0x10, 4), (0x4, 4)], 0x00000000#32, 0x00000000#32, 0x00000000#32, 0x00000000#32, 0x00000000#32⟩,
    ⟨.TP_CFG, 0x904000, [(0x100, 2)], 0x00000000#32, 0x00000077#32, 0x00000000#32, 0x00000000#32, 0x00000000#32⟩,
    ⟨.TP_STATUS, 0x904004, [(0x100, 2)], 0x00000000#32, 0x00000000#32, 0x0000003E#32, 0x00000000#32, 0x00000000#32⟩,
    ⟨.TP_MAC_LO, 0x904008, [(0x100, 2)], 0x00000000#32, 0xFFFFFFFF#32, 0x00000000#32, 0x00000000#32, 0x00000000#32⟩,
    ⟨.TP_MAC_HI, 0x90400C, [(0x100, 2)], 0x00000000#32, 0x0000FFFF#32, 0x00000000#32, 0x00000000#32, 0x00000000#32⟩,
    ⟨.TP_TX_CORR, 0x904010, [(0x100, 2)], 0x00000000#32, 0xFFFFFFFF#32, 0x00000000#32, 0x00000000#32, 0x00000000#32⟩,
    ⟨.TP_RX_CORR, 0x904014, [(0x100, 2)], 0x00000000#32, 0xFFFFFFFF#32, 0x00000000#32, 0x00000000#32, 0x00000000#32⟩,
    ⟨.TP_TXDATA, 0x904020, [(0x100, 2)], 0x00000000#32, 0x00000000#32, 0x00000000#32, 0xFFFFFFFF#32, 0x00000000#32⟩,
    ⟨.TP_TXSPACE, 0x904024, [(0x100, 2)], 0x00004000#32, 0x00000000#32, 0x00000000#32, 0x00000000#32, 0x00000000#32⟩,
    ⟨.TP_RXDATA, 0x904028, [(0x100, 2)], 0x00000000#32, 0x00000000#32, 0x00000000#32, 0x00000000#32, 0x00000000#32⟩,
    ⟨.TP_RXLEVEL, 0x90402C, [(0x100, 2)], 0x00000000#32, 0x00000000#32, 0x00000000#32, 0x00000000#32, 0x00000000#32⟩,
    ⟨.TP_CTRL, 0x904040, [(0x100, 2)], 0x00000000#32, 0x00000000#32, 0x00000000#32, 0x00000007#32, 0x00000000#32⟩,
    ⟨.TP_TSQ, 0x904030, [(0x100, 2), (0x4, 4)], 0x00000000#32, 0x00000000#32, 0x00000000#32, 0x00000000#32, 0x00000000#32⟩]

/-- The registers of BAR0 block 0x090_0000 (Table 19.1). -/
def regBlock9 : List RegDesc := regBlock9_0 ++ regBlock9_1

def regBlockA_0 : List RegDesc :=
  [
    ⟨.CAL_CMD, 0xA00000, [], 0x00000000#32, 0x00000000#32, 0x00000000#32, 0x00077F03#32, 0x00000000#32⟩,
    ⟨.CAL_STATUS, 0xA00004, [], 0x00000000#32, 0x00000000#32, 0x000000E0#32, 0x00000000#32, 0x00000000#32⟩,
    ⟨.CAL_REFV, 0xA00008, [], 0x004C4B40#32, 0x00FFFFFF#32, 0x00000000#32, 0x00000000#32, 0x00000000#32⟩,
    ⟨.CAL_REFT_PER_LO, 0xA0000C, [], 0x00026A9D#32, 0xFFFFFFFF#32, 0x00000000#32, 0x00000000#32, 0x00000000#32⟩,
    ⟨.CAL_REFT_PER_HI, 0xA00010, [], 0x00000000#32, 0xFFFFFFFF#32, 0x00000000#32, 0x00000000#32, 0x00000000#32⟩,
    ⟨.CAL_REFMEAS_V, 0xA00014, [], 0x00000000#32, 0x00000000#32, 0x00000000#32, 0x00000000#32, 0x00000000#32⟩,
    ⟨.CAL_REFT_MEAS_LO, 0xA00018, [], 0x00000000#32, 0x00000000#32, 0x00000000#32, 0x00000000#32, 0x00000000#32⟩,
    ⟨.CAL_REFT_MEAS_HI, 0xA0001C, [], 0x00000000#32, 0x00000000#32, 0x00000000#32, 0x00000000#32, 0x00000000#32⟩,
    ⟨.CAL_REQ, 0xA00020, [], 0x00007F00#32, 0x00000000#32, 0x00FF0000#32, 0x00000000#32, 0x00000000#32⟩,
    ⟨.CAL_IRQ_EN, 0xA00024, [], 0x00000000#32, 0x000000FF#32, 0x00000000#32, 0x00000000#32, 0x00000000#32⟩,
    ⟨.CAL_FAILMAP, 0xA00040, [(0x4, 11)], 0x00000000#32, 0x00000000#32, 0x00000000#32, 0x00000000#32, 0x00000000#32⟩,
    ⟨.CAL_DOM_CFG, 0xA00100, [(0x20, 7)], 0x00000000#32, 0xFFFF00FF#32, 0x00000000#32, 0x00000000#32, 0x00000000#32⟩,
    ⟨.CAL_DOM_COUNT, 0xA00104, [(0x20, 7)], 0x00000000#32, 0xFFFFFFFF#32, 0x00000000#32, 0x00000000#32, 0xFFFFFFFF#32⟩,
    ⟨.CAL_DOM_LAST_LO, 0xA00108, [(0x20, 7)], 0x00000000#32, 0xFFFFFFFF#32, 0x00000000#32, 0x00000000#32, 0xFFFFFFFF#32⟩,
    ⟨.CAL_DOM_LAST_HI, 0xA0010C, [(0x20, 7)], 0x00000000#32, 0xFFFFFFFF#32, 0x00000000#32, 0x00000000#32, 0xFFFFFFFF#32⟩,
    ⟨.CAL_DOM_TEMP, 0xA00110, [(0x20, 7)], 0x00000000#32, 0xFFFFFFFF#32, 0x00000000#32, 0x00000000#32, 0xFFFFFFFF#32⟩,
    ⟨.CAL_DOM_INFO, 0xA00114, [(0x20, 7)], 0x00000000#32, 0x00000001#32, 0x00000000#32, 0x00000000#32, 0x00000001#32⟩,
    ⟨.CAL_TSEL, 0xA00080, [], 0x00000000#32, 0x0FFF3F07#32, 0x00000000#32, 0x00000000#32, 0x00000000#32⟩,
    ⟨.CAL_TDATA, 0xA00084, [], 0x00000000#32, 0xFFFFFFFF#32, 0x00000000#32, 0x00000000#32, 0xFFFFFFFF#32⟩]

/-- The registers of BAR0 block 0x0A0_0000 (Table 19.1). -/
def regBlockA : List RegDesc := regBlockA_0

def regBlockB_0 : List RegDesc :=
  [
    ⟨.DRC_MAP, 0xB00000, [], 0x00000014#32, 0x0000001F#32, 0x00000000#32, 0x00000000#32, 0x0000001F#32⟩,
    ⟨.DRC_PAGE, 0xB00004, [], 0x00000040#32, 0x0000FFFF#32, 0x00000000#32, 0x00000000#32, 0x00000000#32⟩,
    ⟨.DRC_REF_CFG, 0xB00008, [], 0x10645506#32, 0xFFFFFF0F#32, 0x00000000#32, 0x00000000#32, 0x00000000#32⟩,
    ⟨.DRC_PWR_CFG, 0xB0000C, [], 0x00006401#32, 0x00FFFF01#32, 0x00000000#32, 0x00000000#32, 0x00000000#32⟩,
    ⟨.DRC_EVENT, 0xB00010, [], 0x00000000#32, 0x00000000#32, 0x0000001F#32, 0x00000000#32, 0x00000000#32⟩,
    ⟨.DRC_ERR_ADDR_LO, 0xB00014, [], 0x00000000#32, 0x00000000#32, 0x00000000#32, 0x00000000#32, 0x00000000#32⟩,
    ⟨.DRC_ERR_ADDR_HI, 0xB00018, [], 0x00000000#32, 0x00000000#32, 0x00000000#32, 0x00000000#32, 0x00000000#32⟩,
    ⟨.DRC_CH_STATUS, 0xB00100, [(0x8, 32)], 0x00000000#32, 0x00000000#32, 0x00000000#32, 0x00000000#32, 0x00000000#32⟩,
    ⟨.DRC_CH_ERRCNT, 0xB00104, [(0x8, 32)], 0x00000000#32, 0xFFFFFFFF#32, 0x00000000#32, 0x00000000#32, 0xFFFFFFFF#32⟩]

/-- The registers of BAR0 block 0x0B0_0000 (Table 19.1). -/
def regBlockB : List RegDesc := regBlockB_0

def regBlockC_0 : List RegDesc :=
  [
    ⟨.DMA_CH_CTRL, 0xC00000, [(0x20, 32)], 0x00000000#32, 0x00000010#32, 0x00000000#32, 0x0000000F#32, 0x00000000#32⟩,
    ⟨.DMA_CH_STATUS, 0xC00004, [(0x20, 32)], 0x00000000#32, 0x00000000#32, 0x00000008#32, 0x00000000#32, 0x00000000#32⟩,
    ⟨.DMA_CH_POS, 0xC00008, [(0x20, 32)], 0x00000000#32, 0x00000000#32, 0x00000000#32, 0x00000000#32, 0x00000000#32⟩,
    ⟨.DMA_CH_OFFSET, 0xC0000C, [(0x20, 32)], 0x00000000#32, 0x00000000#32, 0x00000000#32, 0x00000000#32, 0x00000000#32⟩,
    ⟨.DMA_CH_ERR_ADDR_LO, 0xC00010, [(0x20, 32)], 0x00000000#32, 0x00000000#32, 0x00000000#32, 0x00000000#32, 0x00000000#32⟩,
    ⟨.DMA_CH_ERR_ADDR_HI, 0xC00014, [(0x20, 32)], 0x00000000#32, 0x00000000#32, 0x00000000#32, 0x00000000#32, 0x00000000#32⟩,
    ⟨.DMA_CH_ERR_INFO, 0xC00018, [(0x20, 32)], 0x00000000#32, 0x00000000#32, 0x00000000#32, 0x00000000#32, 0x00000000#32⟩,
    ⟨.DMA_CFG, 0xC00800, [], 0x000003E8#32, 0x0000FFFF#32, 0x00000000#32, 0x00000000#32, 0x00000000#32⟩,
    ⟨.XLT_INV, 0xC00810, [], 0x00010000#32, 0x00000000#32, 0x00000000#32, 0x00003F03#32, 0x00000000#32⟩,
    ⟨.XLT_INV_ADDR_LO, 0xC00814, [], 0x00000000#32, 0xFFFFFFFF#32, 0x00000000#32, 0x00000000#32, 0x00000000#32⟩,
    ⟨.XLT_INV_ADDR_HI, 0xC00818, [], 0x00000000#32, 0x0000FFFF#32, 0x00000000#32, 0x00000000#32, 0x00000000#32⟩,
    ⟨.XLT_FLT_MAP_LO, 0xC00820, [], 0x00000000#32, 0x00000000#32, 0x00000000#32, 0x00000000#32, 0x00000000#32⟩,
    ⟨.XLT_FLT_MAP_HI, 0xC00824, [], 0x00000000#32, 0x00000000#32, 0x00000000#32, 0x00000000#32, 0x00000000#32⟩,
    ⟨.XLT_CTX_ROOT_LO, 0xC01000, [(0x20, 64)], 0x00000000#32, 0xFFFFF001#32, 0x00000000#32, 0x00000000#32, 0x00000000#32⟩,
    ⟨.XLT_CTX_ROOT_HI, 0xC01004, [(0x20, 64)], 0x00000000#32, 0x00000007#32, 0x00000000#32, 0x00000000#32, 0x00000000#32⟩,
    ⟨.XLT_CTX_FLT_ADDR_LO, 0xC01008, [(0x20, 64)], 0x00000000#32, 0x00000000#32, 0x00000000#32, 0x00000000#32, 0x00000000#32⟩,
    ⟨.XLT_CTX_FLT_ADDR_HI, 0xC0100C, [(0x20, 64)], 0x00000000#32, 0x00000000#32, 0x00000000#32, 0x00000000#32, 0x00000000#32⟩,
    ⟨.XLT_CTX_FLT_INFO, 0xC01010, [(0x20, 64)], 0x00000000#32, 0x00000000#32, 0x00000001#32, 0x00000000#32, 0x00000000#32⟩]

/-- The registers of BAR0 block 0x0C0_0000 (Table 19.1). -/
def regBlockC : List RegDesc := regBlockC_0

def regBlockD_0 : List RegDesc :=
  [
    ⟨.SL_CTRL, 0xD00000, [], 0x00003F04#32, 0x00003F05#32, 0x00000000#32, 0x00000002#32, 0x00000000#32⟩,
    ⟨.SL_STATUS, 0xD00004, [], 0x00000000#32, 0x00000000#32, 0x00000000#32, 0x00000000#32, 0x00000000#32⟩,
    ⟨.SL_PROT, 0xD00008, [], 0x00000000#32, 0x00000000#32, 0x00000000#32, 0x00000000#32, 0x00000000#32⟩,
    ⟨.SL_EVENT, 0xD0000C, [], 0x00000000#32, 0x00000000#32, 0x00001FFF#32, 0x00000000#32, 0x00000000#32⟩,
    ⟨.SL_IRQ_EN, 0xD00010, [], 0x00000000#32, 0x00001FFF#32, 0x00000000#32, 0x00000000#32, 0x00000000#32⟩,
    ⟨.SL_CFG, 0xD00014, [], 0x00012040#32, 0x00FFFFFF#32, 0x00000000#32, 0x00000000#32, 0x00000000#32⟩,
    ⟨.SL_PCC_LO, 0xD00018, [], 0x00000000#32, 0x00000000#32, 0x00000000#32, 0x00000000#32, 0x00000000#32⟩,
    ⟨.SL_PCC_HI, 0xD0001C, [], 0x00000000#32, 0x00000000#32, 0x00000000#32, 0x00000000#32, 0x00000000#32⟩,
    ⟨.SL_JSENT, 0xD00020, [], 0x00000000#32, 0x00000000#32, 0x00000000#32, 0x00000000#32, 0x00000000#32⟩,
    ⟨.SL_JACK, 0xD00024, [], 0x00000000#32, 0x00000000#32, 0x00000000#32, 0x00000000#32, 0x00000000#32⟩,
    ⟨.SL_DDS_SHADOW, 0xD00028, [], 0x00000000#32, 0x80007FFF#32, 0x00000000#32, 0x00000000#32, 0x00000000#32⟩,
    ⟨.SL_PDIE_STATUS, 0xD00040, [(0x10, 2)], 0x00000000#32, 0x00000000#32, 0x00000000#32, 0x00000000#32, 0x00000000#32⟩,
    ⟨.SL_PDIE_MIRPLAY, 0xD00044, [(0x10, 2)], 0x00000000#32, 0xFFFFFFFF#32, 0x00000000#32, 0x00000000#32, 0xFFFFFFFF#32⟩,
    ⟨.SL_PDIE_LATE, 0xD00048, [(0x10, 2)], 0x00000000#32, 0xFFFFFFFF#32, 0x00000000#32, 0x00000000#32, 0xFFFFFFFF#32⟩,
    ⟨.SL_PDIE_DIVCNT, 0xD0004C, [(0x10, 2)], 0x00000000#32, 0xFFFFFFFF#32, 0x00000000#32, 0x00000000#32, 0xFFFFFFFF#32⟩,
    ⟨.SL_LANE_STATUS, 0xD00200, [(0x8, 65)], 0x00000000#32, 0xFF000000#32, 0x00000000#32, 0x00000000#32, 0xFF000000#32⟩,
    ⟨.SL_LANE_CFG, 0xD00204, [(0x8, 65)], 0x00000000#32, 0x00000007#32, 0x00000000#32, 0x00000000#32, 0x00000000#32⟩,
    ⟨.SL_MRGN_LOCAL, 0xD01000, [(0x10, 16)], 0x00000000#32, 0x00003FFF#32, 0x00000000#32, 0x00000000#32, 0x00000000#32⟩,
    ⟨.SL_MRGN_PEER, 0xD01004, [(0x10, 16)], 0x00000000#32, 0x00003FFF#32, 0x00000000#32, 0x00000000#32, 0x00000000#32⟩,
    ⟨.SL_MRGN_CFG, 0xD01008, [(0x10, 16)], 0x00010000#32, 0x7FFF0001#32, 0x00000000#32, 0x00000000#32, 0x00000000#32⟩]

/-- The registers of BAR0 block 0x0D0_0000 (Table 19.1). -/
def regBlockD : List RegDesc := regBlockD_0

def regBlockE_0 : List RegDesc :=
  [
    ⟨.PLT_CTRL, 0xE00000, [], 0x00005A08#32, 0x00007F08#32, 0x00000000#32, 0x00000007#32, 0x00007F08#32⟩,
    ⟨.PLT_STATUS, 0xE00004, [], 0x00000000#32, 0x00000000#32, 0x00000000#32, 0x00000000#32, 0x00000000#32⟩,
    ⟨.PLT_EVENT, 0xE00008, [], 0x00000000#32, 0x00000000#32, 0x000003FF#32, 0x00000000#32, 0x00000000#32⟩,
    ⟨.PLT_IRQ_EN, 0xE0000C, [], 0x00000000#32, 0x000003FF#32, 0x00000000#32, 0x00000000#32, 0x00000000#32⟩,
    ⟨.PLT_DOCKS, 0xE00010, [], 0x00000000#32, 0xFFFFFFFF#32, 0x00000000#32, 0x00000000#32, 0xFFFFFFFF#32⟩,
    ⟨.PLT_RLY_RATING, 0xE00014, [], 0x00000000#32, 0x00000000#32, 0x00000000#32, 0x00000000#32, 0x00000000#32⟩,
    ⟨.PLT_DOCK_RATING, 0xE00018, [], 0x00000000#32, 0x00000000#32, 0x00000000#32, 0x00000000#32, 0x00000000#32⟩,
    ⟨.PLT_WARN_LO, 0xE00020, [], 0x00000000#32, 0x00000000#32, 0x00000000#32, 0x00000000#32, 0x00000000#32⟩,
    ⟨.PLT_WARN_HI, 0xE00024, [], 0x00000000#32, 0x00000000#32, 0x00000000#32, 0x00000000#32, 0x00000000#32⟩,
    ⟨.PLT_FAULT_LO, 0xE00028, [], 0x00000000#32, 0x00000000#32, 0x00000000#32, 0x00000000#32, 0x00000000#32⟩,
    ⟨.PLT_FAULT_HI, 0xE0002C, [], 0x00000000#32, 0x00000000#32, 0x00000000#32, 0x00000000#32, 0x00000000#32⟩,
    ⟨.PLT_PRESENT_LO, 0xE00030, [], 0x00000000#32, 0x00000000#32, 0x00000000#32, 0x00000000#32, 0x00000000#32⟩,
    ⟨.PLT_PRESENT_HI, 0xE00034, [], 0x00000000#32, 0x00000000#32, 0x00000000#32, 0x00000000#32, 0x00000000#32⟩,
    ⟨.PLT_SERIAL, 0xE00040, [(0x4, 4)], 0x00000000#32, 0x00000000#32, 0x00000000#32, 0x00000000#32, 0x00000000#32⟩,
    ⟨.PLT_RCNT, 0xE00100, [(0x4, 64)], 0x00000000#32, 0xFFFFFFFF#32, 0x00000000#32, 0x00000000#32, 0xFFFFFFFF#32⟩]

/-- The registers of BAR0 block 0x0E0_0000 (Table 19.1). -/
def regBlockE : List RegDesc := regBlockE_0

def regBlockF_0 : List RegDesc :=
  [
    ⟨.ERR_CFG, 0xF00000, [], 0x00000000#32, 0x00070FFF#32, 0x00000000#32, 0x00000000#32, 0x00070FFF#32⟩,
    ⟨.ERR_STATUS, 0xF00004, [], 0x00000000#32, 0x00000000#32, 0x00000000#32, 0x00000000#32, 0x00000000#32⟩,
    ⟨.ERR_ACCESS, 0xF00008, [], 0x00000000#32, 0x00000000#32, 0x00000007#32, 0x00000000#32, 0x00000000#32⟩,
    ⟨.ERR_ACCESS_INFO, 0xF0000C, [], 0x00000000#32, 0x00000000#32, 0x00000000#32, 0x00000000#32, 0x00000000#32⟩,
    ⟨.ERR_MCHK, 0xF00010, [], 0x00000000#32, 0x00000000#32, 0x00000001#32, 0x00000000#32, 0x00000000#32⟩,
    ⟨.ERR_COUNT, 0xF00014, [], 0x00000000#32, 0xFFFFFFFF#32, 0x00000000#32, 0x00000000#32, 0xFFFFFFFF#32⟩,
    ⟨.ERR_FATAL, 0xF00018, [], 0x00000000#32, 0x00000000#32, 0x00000001#32, 0x00000000#32, 0x00000000#32⟩,
    ⟨.ERR_XING, 0xF0001C, [], 0x00000000#32, 0x00000000#32, 0x00000100#32, 0x00000000#32, 0x00000000#32⟩,
    ⟨.ERR_SRAM_CE, 0xF00020, [], 0x00000000#32, 0x0000FFFF#32, 0x00000000#32, 0x00000000#32, 0x0000FFFF#32⟩,
    ⟨.ERR_SEQ, 0xF00024, [], 0x00000000#32, 0x00000000#32, 0x00000000#32, 0x00000000#32, 0x00000000#32⟩,
    ⟨.ERR_LOST, 0xF00028, [], 0x00000000#32, 0xFFFFFFFF#32, 0x00000000#32, 0x00000000#32, 0xFFFFFFFF#32⟩,
    ⟨.ERR_RING_BASE_LO, 0xF00030, [], 0x00000000#32, 0xFFFFF000#32, 0x00000000#32, 0x00000000#32, 0xFFFFF000#32⟩,
    ⟨.ERR_RING_BASE_HI, 0xF00034, [], 0x00000000#32, 0xFFFFFFFF#32, 0x00000000#32, 0x00000000#32, 0xFFFFFFFF#32⟩,
    ⟨.ERR_RING_CFG, 0xF00038, [], 0x00000008#32, 0x0000001F#32, 0x00000000#32, 0x00000000#32, 0x0000001F#32⟩,
    ⟨.ERR_RING_STATE, 0xF0003C, [], 0x00001000#32, 0x00001FFF#32, 0x00000000#32, 0x00000000#32, 0x00001FFF#32⟩,
    ⟨.ERR_RING_HEAD, 0xF00040, [], 0x00000000#32, 0x00000FFF#32, 0x00000000#32, 0x00000000#32, 0x00000FFF#32⟩]

/-- The registers of BAR0 block 0x0F0_0000 (Table 19.1). -/
def regBlockF : List RegDesc := regBlockF_0

/-- The registers of the BAR0 block with number `b`, its offset divided by 0x10_0000; P1 (block 6) has
the layout of P0, whose die index is an array index (Table 19.2). -/
def regBlock (b : Nat) : List RegDesc :=
  match b with
  | 0 => regBlock0
  | 1 => regBlock1
  | 2 => regBlock2
  | 3 => regBlock3
  | 4 => regBlock4
  | 5 => regBlock5
  | 6 => regBlock5
  | 7 => regBlock7
  | 8 => regBlock8
  | 9 => regBlock9
  | 10 => regBlockA
  | 11 => regBlockB
  | 12 => regBlockC
  | 13 => regBlockD
  | 14 => regBlockE
  | 15 => regBlockF
  | _ => []

/-- The indices of an offset within an array, if it is a member. -/
def matchDims : List (Nat × Nat) → Nat → Option (List Nat)
  | [], r => if r = 0 then some [] else none
  | (s, c) :: t, r =>
    if r / s < c then
      match matchDims t (r % s) with
      | some l => some (r / s :: l)
      | none => none
    else none

/-- The register of a table at offset `off`, with its indices. -/
def findReg : List RegDesc → Nat → Option (RegDesc × List Nat)
  | [], _ => none
  | d :: t, off =>
    if off < d.base then findReg t off
    else match matchDims d.dims (off - d.base) with
      | some l => some (d, l)
      | none => findReg t off

/-- The register at BAR0 offset `off`, with its indices. -/
def regAt (off : Nat) : Option (RegDesc × List Nat) := findReg (regBlock (off / 0x100000)) off

/-- The low words of the 64-bit pairs (R4, R5); the high word is at the next address. The pairs that
hold a field of its own in each word (HAT_SITE_LOST, SEQ_PRF_SITE_FAIL) and the W1C pair RLY_FLT are not
among them for writing. -/
def pairLows : List RegName :=
  [.GLB_FLASH_SRC_LO, .HOST_BAR4_BASE_LO, .HOST_QCTX_BASE_LO, .HOST_CQ_BASE_LO, .HAT_TRACE_BASE_LO, .HAT_SPILL_BASE_LO, .SEQ_VCOUNT_LO, .SEQ_STRETCH_LO, .SEQ_PRF_SPILL_BASE_LO, .SEQ_PRF_TRC_BASE_LO, .CH_FFIRST_LO, .GLB_LVL_SAMPLE_LO, .RLY_CLOSE_LO, .RLY_CARE_LO, .RLY_STATE_LO, .DDS_SAMPLE_LO, .WAVE_EPOCH_LO, .TDC_RES_LO, .TDC_TSTART_LO, .TIME_TTIME_LO, .TD_INC_LO, .TD_ADJ_LO, .TD_SEC_LO, .TD_SET_SEC_LO, .TIME_SNAP_TTIME_LO, .TP_MAC_LO, .CAL_REFT_PER_LO, .CAL_REFT_MEAS_LO, .CAL_DOM_LAST_LO, .DRC_ERR_ADDR_LO, .DMA_CH_ERR_ADDR_LO, .XLT_INV_ADDR_LO, .XLT_FLT_MAP_LO, .XLT_CTX_ROOT_LO, .XLT_CTX_FLT_ADDR_LO, .SL_PCC_LO, .PLT_WARN_LO, .PLT_FAULT_LO, .PLT_PRESENT_LO, .ERR_RING_BASE_LO, .GLB_SERIAL_LO]

/-- The high words of the same pairs. -/
def pairHighs : List RegName :=
  [.GLB_FLASH_SRC_HI, .HOST_BAR4_BASE_HI, .HOST_QCTX_BASE_HI, .HOST_CQ_BASE_HI, .HAT_TRACE_BASE_HI, .HAT_SPILL_BASE_HI, .SEQ_VCOUNT_HI, .SEQ_STRETCH_HI, .SEQ_PRF_SPILL_BASE_HI, .SEQ_PRF_TRC_BASE_HI, .CH_FFIRST_HI, .GLB_LVL_SAMPLE_HI, .RLY_CLOSE_HI, .RLY_CARE_HI, .RLY_STATE_HI, .DDS_SAMPLE_HI, .WAVE_EPOCH_HI, .TDC_RES_HI, .TDC_TSTART_HI, .TIME_TTIME_HI, .TD_INC_HI, .TD_ADJ_HI, .TD_SEC_HI, .TD_SET_SEC_HI, .TIME_SNAP_TTIME_HI, .TP_MAC_HI, .CAL_REFT_PER_HI, .CAL_REFT_MEAS_HI, .CAL_DOM_LAST_HI, .DRC_ERR_ADDR_HI, .DMA_CH_ERR_ADDR_HI, .XLT_INV_ADDR_HI, .XLT_FLT_MAP_HI, .XLT_CTX_ROOT_HI, .XLT_CTX_FLT_ADDR_HI, .SL_PCC_HI, .PLT_WARN_HI, .PLT_FAULT_HI, .PLT_PRESENT_HI, .ERR_RING_BASE_HI, .GLB_SERIAL_HI]

end Sys2Proof.Machine
end

