-- ==== Sys2Proof/Machine/State.lean ====
section
/-!
DEFINITION. The state of one SX9-256 module, as plain data: the register file, the memories, what stands
behind the registers chapter by chapter, the log of outputs and the queue of waiting commands.
A map is a sparse list of entries (`SMap`), keyed by the unit it names.
-/

namespace Sys2Proof.Machine

/-! ### Outputs: what leaves the module -/

/-- Everything that leaves the module, or leaves one die for another with its delivery modelled as a
later command. The log `Mod.outs` holds them, newest first (assumption 6). -/
inductive Output where
  /-- A write to host memory: address, bytes, Relaxed Ordering (R97, R100). -/
  | hostWrite (addr : Nat) (data : List Byte) (ro : Bool)
  /-- A read request to host memory: address and length (R92). -/
  | hostRead (addr len : Nat)
  /-- An MSI-X message: vector, address and data of its table entry (R103). -/
  | msix (vector : Nat) (addr : Nat) (data : Word)
  /-- The completion of a BAR read: BAR, offset, bytes, EP bit (R30, R83). -/
  | barRead (bar off : Nat) (data : List Byte) (ep : Bool)
  /-- A BAR2 or BAR4 access completed with Completer Abort (R61). -/
  | barAbort (bar off : Nat)
  /-- The value a register read returns to its initiator (R4). -/
  | regRead (init off : Nat) (v : Word)
  /-- The value a core's load or service call returns, or its access fault cause (R136, R141). -/
  | coreValue (core : Nat) (v : DWord)
  | coreFault (core cause : Nat) (addr : Nat)
  /-- A request for one replay of a link block on PLINK (R16). -/
  | replay (die seq block : Nat)
  /-- A link block sent to a pin die by PLINK, or to the partner's pin die by the takeover lanes. -/
  | linkBlock (takeover : Bool) (die seq block : Nat)
  /-- An event at a channel's pin: channel, burst vector, T' (R196), coarse tick, phase, tap (R203), kind. -/
  | pinEvent (ch : Nat) (vec : Nat) (et coarse : Int) (phase tap : Nat) (what : Nat)
  /-- A digital drive or sample of an HV channel (R262). -/
  | hvEvent (hv : Nat) (vec : Nat) (et : Int) (what : Nat)
  /-- A port's pin driven to its safe state (R191). -/
  | pinSafe (ch safe : Nat)
  /-- The logic output of a TRIG line or SYNCOUT changes, at an instant of TTIME (R296, R297). -/
  | trigLevel (line : Nat) (high : Bool) (ns : Nat)
  | syncout (high : Bool) (ns : Nat)
  /-- A unit sent on the Site Link: kind and words (Chapter 16). -/
  | siteLink (kind : Nat) (words : List Nat)
  /-- The symbols of a unit on a lane of the Site Link (R373, R374). -/
  | lane (lane : Nat) (symbols : List Nat)
  /-- A frame sent by a time port: port, bytes (R317). -/
  | frame (port : Nat) (data : List Byte)
  /-- A write to the plate's EEPROM: address and bytes (R409). -/
  | plateWrite (addr : Nat) (data : List Byte)
  /-- A read of the plate's EEPROM: address and length. -/
  | plateRead (addr len : Nat)
  /-- A request that a GDDR7 channel has served: channel, place of the request, data read, poisoned (R357, R358). -/
  | memDone (ch idx : Nat) (data : List Byte) (poison : Bool)
  /-- A DDS output sample: generator, sample number, code (R271). -/
  | dacCode (unit : Nat) (sample : Nat) (code conv : Int)
  deriving DecidableEq, Repr

/-! ### Faults block (Chapter 18) -/

/-- A fault event record (Table 18.3) before it gets its PHASE. -/
structure FaultRec where
  ttime : DWord
  seq : Nat
  cls : Nat
  source : Nat
  index : Nat
  code : Nat
  peer : Bool
  site : Nat
  reg : Nat
  addr : Nat
  value : Word
  deriving DecidableEq, Repr

/-- The faults block behind its registers: SEQ of the next record (R421), the staging buffer and the
records lost since the last OVERFLOW record (R423), the FATAL_ACTION 1 halt and the stop of the core
die's transmission (R419), and the record a warm reset owes at READY (R428). -/
structure Flt where
  seq : Nat
  staging : List FaultRec
  lost : Nat
  halted : Bool
  txStopped : Bool
  resetDue : Bool
  deriving DecidableEq, Repr

/-! ### Supplies and start-up (Chapters 2 and 3) -/

/-- A profile slot of the flash (Table 3.6): its bytes, whether the CRC-32 over offsets 0x10 to
0x8_FFFF holds, and whether its control-store image is the factory's. -/
structure Slot where
  bytes : List Host.Cell
  crcOk : Bool
  factory : Bool
  deriving DecidableEq, Repr

/-- A firmware slot of the flash (R78): whether it is valid, and its GEN; its code is that of the factory
(`Config.factoryCode`), since no command writes one. -/
structure CodeSlot where
  valid : Bool
  gen : Nat
  deriving DecidableEq, Repr

/-- A slot of the step runtime (R79): MAGIC, GEN and LENGTH of its header, whether the CRC-32 over its code holds, and
whether bytes 16 to 63 are 0. Its code is that of the factory. -/
structure RtSlot where
  magic : Nat
  gen : Nat
  length : Nat
  crcOk : Bool
  zeros : Bool
  deriving DecidableEq, Repr

/-- A directory of the profile flash (R56, R75): its generation, and whether its CRC is valid. -/
structure FlashDir where
  gen : Nat
  ok : Bool
  deriving DecidableEq, Repr

/-- How far an orderly power-down has come (R54), or the orderly steps of a COLD request (R69): ports are stopping, or
the plate is being written back. -/
inductive PowerDown where
  | none
  | stopping (cold : Bool)
  | writing (cold : Bool)
  deriving DecidableEq, Repr

/-- Start-up and supplies behind their registers: the flash, the profile in use, the start events seen
so far, lost dies, the trip holds, the governor's computed level, and the reset the module is in. -/
structure Sys where
  slots : List (Nat × Slot)
  firmware : List (Nat × CodeSlot)
  runtime : List (Nat × RtSlot)
  /-- Directories A and B of the profile flash, and which was taken at t0 (0 A, 1 B; R56). -/
  dirA : FlashDir
  dirB : FlashDir
  dirUsed : Nat
  profWrite : Option Nat
  /-- RELOAD, not CHECK, is in progress (R151). -/
  reload : Bool
  /-- Units of the start order that have started, by number in the order of Table 2.10: 0 core rails, 1 to 8 GDDR7,
  9 and 10 the logic rails of P0 and P1, 11 and 12 their driver rails, 13 to 28 the channel banks, 29 H0, 30 to 49
  the cores. -/
  started : List (Nat × Bool)
  leftOff : List (Nat × Bool)
  flashLoaded : Bool
  gddrTrained : Bool
  recordsApplied : Bool
  h0Records : List (Nat × Word)
  pcieDetect : Bool
  /-- The module is held in cold reset until COLD_RESET_RELEASE. -/
  coldHeld : Bool
  vinLatched : Bool
  /-- Dies out of service: 0 core, 1 P0, 2 P1, 3 H0, 8 + k GDDR7 device k; 17 + d: the drivers of pin die d (0 or 1) are
  disconnected (R44). -/
  lost : List (Nat × Bool)
  /-- Trips that hold (R46), by the same numbers. -/
  tripped : List (Nat × Bool)
  /-- The link-error counters of P0 and P1 (R16). -/
  linkErrs : List (Nat × Nat)
  govLevel : Nat
  /-- The throttle condition has already raised LEVEL since it began to hold (R49). -/
  govRose : Bool
  pwrgood : Bool
  orderly : PowerDown
  /-- The time-base source the profile last taken named (true REFIN): a warm reset keeps the time base unless the new
  profile names another (Table 3.4). -/
  tbFrom : Option Bool
  /-- The core die was reset with HANDOVER, and the partner's journal has not yet given back what it held (R66). -/
  rejoin : Bool
  deriving DecidableEq, Repr

/-! ### Queue fabric (Chapter 4) -/

/-- A descriptor on chip: its ring slot, a serial number in fetch order, its 64 bytes, and whether it
waits for an instance slot (R108). -/
structure Desc where
  slot : Nat
  serial : Nat
  bytes : List Byte
  waiting : Bool
  deriving DecidableEq, Repr

/-- A descriptor read in flight: first slot and count (R92). -/
structure Fetch where
  slot : Nat
  count : Nat
  deriving DecidableEq, Repr

/-- A completion waiting to be written (Table 4.7); `serial` is its descriptor's, `fetchErr` marks the
record of R93. -/
structure Comp where
  queue : Nat
  serial : Nat
  tag : Word
  status : Nat
  abortLate : Bool
  stretched : Bool
  fail : Bool
  detail : Bool
  result : Word
  site : Nat
  irqNow : Bool
  deriving DecidableEq, Repr

/-- A ready entry of a queue (R114): the instance slot, the node, and the core a pre-empted step is
bound to (R124). -/
structure Entry where
  inst : Nat
  node : Nat
  core : Option Nat
  deriving DecidableEq, Repr

/-- A record of a privileged queue (R129): its 64 bytes. -/
structure PrivRec where
  bytes : List Byte
  deriving DecidableEq, Repr

/-- One hardware queue: its binding and fetch state (R85 to R94; `kept` counts the reservations that a
condition of R104 left to slots from HEAD on, R93), its descriptors on chip, the serials
of descriptors fetched and not completed in ring order, its ready and held entries (R114), and the
on-chip entries of a privileged queue with the spill read index (R130). A descriptor whose serial is below `ownFrom`
was fetched by the failed module: it holds no slot of ADOPT_CQ (R400). -/
structure Queue where
  bound : Bool
  base : Nat
  sizeLog2 : Nat
  cq : Nat
  haltOnInvalid : Bool
  head : Nat
  tail : Nat
  halted : Bool
  /-- The serial of an invalid descriptor whose record halts the queue once it is written (R94). -/
  halting : Option Nat
  fetches : List Fetch
  kept : Nat
  onchip : List Desc
  nextSerial : Nat
  outstanding : List Nat
  ready : List Entry
  held : List Entry
  priv : List PrivRec
  spillRd : Nat
  ownFrom : Nat
  deriving DecidableEq, Repr

/-- One completion ring behind its registers: the host's head, reservations V (R92), completions in
the order their work completed (R99 item 5), records since the interrupt was last due and whether the
MOD_TIME timer runs (R102). -/
structure Cq where
  head : Nat
  resv : Nat
  waiting : List Comp
  count : Nat
  timer : Bool
  deriving DecidableEq, Repr

/-- The identity of configuration space (Table 4.2), and Interrupt Pin (Table 4.1). -/
structure PcieIdent where
  vendor : Nat
  device : Nat
  revision : Nat
  classCode : Nat
  subVendor : Nat
  subsystem : Nat
  intPin : Nat
  deriving DecidableEq, Repr

/-- PCIe state the module's behaviour depends on: conditions of R104 in force, Max Payload and Max Read
Request Sizes, Enable Relaxed Ordering, and vectors whose interrupt is due and not masked (R103); then the identity, Memory
Space Enable and the three 64-bit BARs with their type bits (R81, R105). -/
structure Pcie where
  linkDown : Bool
  perst : Bool
  d3hot : Bool
  mps : Nat
  mrrs : Nat
  ero : Bool
  due : List Nat
  ident : PcieIdent
  memEn : Bool
  bars : List Nat
  deriving DecidableEq, Repr

/-! ### Hatch (Chapter 5) -/

/-- A token (R109). -/
structure Token where
  value : DWord
  fail : Bool
  skip : Bool
  deriving DecidableEq, Repr

/-- A node descriptor (Table 5.2). -/
structure NodeD where
  cls : Nat
  merge : Bool
  preemptible : Bool
  qsel : Nat
  unit : Nat
  cost : Nat
  settle : Nat
  timeout : Nat
  args : List Byte
  deriving DecidableEq, Repr

/-- An edge descriptor (Table 5.3). -/
structure EdgeD where
  src : Nat
  dst : Nat
  cond : Nat
  imm : Nat
  deriving DecidableEq, Repr

/-- Where a node of an instance stands. `running c u`: dispatched to unit `u` of class `c`;
`settling`: its unit has reported, its tokens appear after SETTLE (R111); `suspended c s`: a pre-empted
step in slot `s` of core `c` (R124). -/
inductive NodeSt where
  | waiting
  | ready
  | held
  | running (cls unit : Nat)
  | settling (tok : Token)
  | suspended (core slot : Nat)
  | done
  | skipped
  deriving DecidableEq, Repr

/-- A running instance (R107 to R113). `quitStatus` is the status first recorded among the events that
end it early and `badNode` the node whose end set it; `image` is the address of its image, and `disp` says, by node,
after how many commands it was dispatched. -/
structure Inst where
  queue : Nat
  serial : Nat
  tag : Word
  site : Nat
  ident : Nat
  nodeRun : Bool
  irqNow : Bool
  quiet : Bool
  paramAddr : Nat
  resultAddr : Nat
  timeout : Nat
  nodes : List NodeD
  edges : List EdgeD
  resultEdge : Nat
  st : List (Nat × NodeSt)
  tokens : List (Nat × Option Token)
  inputs : List (Nat × List (Option DWord))
  quitStatus : Option Nat
  badNode : Nat
  failAny : Bool
  stretch : Nat
  ran : Nat
  skippedN : Nat
  ttimeFirst : Option DWord
  image : Nat
  disp : List (Nat × Nat)
  deriving DecidableEq, Repr

/-- A unit's report of a node's end (R111, R117), waiting for NODE_COMPLETE. -/
structure Report where
  inst : Nat
  node : Nat
  status : Nat
  value : DWord
  fail : Bool
  stretch : Nat
  ran : Bool
  deriving DecidableEq, Repr

/-- A pending pre-emption request (R123): the core, the entry that waits and its queue. -/
structure Preempt where
  queue : Nat
  entry : Entry
  deriving DecidableEq, Repr

/-- A record owed to a privileged queue by its producer (R129): the queue, the record, and the site core whose DATALOG
call it is, if one (R131, R141). -/
structure PrivFeed where
  queue : Nat
  bytes : List Byte
  core : Option Nat
  deriving DecidableEq, Repr

/-- Hatch behind its registers: instance slots, deficits by class and group (key `128 c + g`), the turn
and its freshness by class (R116), the last queue served by group and priority (R115), disabled units
(key `256 c + u`), units in MCHK (key `mchkKey`, R436), unit reports, pre-emption requests by core and
steps not to be asked again (R124), records owed to privileged queues, the decision-trace ring with its
count of records not written, and whether Hatch has stopped new dispatch (R46, R67). -/
structure Hat where
  insts : List (Nat × Option Inst)
  deficit : List (Nat × Int)
  cur : List (Nat × Nat)
  freshTurn : List (Nat × Bool)
  lastServed : List (Nat × Nat)
  backgroundCur : List (Nat × Nat)
  disabled : List (Nat × Bool)
  mchk : List (Nat × Bool)
  reports : List Report
  preempt : List (Nat × Option Preempt)
  noAsk : List (Nat × Bool)
  feeds : List PrivFeed
  traceRing : List (List Byte)
  traceLost : Nat
  stopped : Bool
  deriving DecidableEq, Repr

/-! ### Cores (Chapter 6) -/

/-- A site core: the running step (instance, node) and its context slot, its suspended steps by slot, whether it
is past its boot ROM (R138), what REQ of its frame asks (Table 6.4), whether a DATALOG call holds it (R131), and the value
that the service call of each suspended step has still to return, by slot (R141). -/
structure SCore where
  step : Option (Nat × Nat)
  slot : Nat
  susp : List (Nat × (Nat × Nat))
  booted : Bool
  reqAbort : Bool
  reqDrain : Bool
  reqPreempt : Bool
  logging : Bool
  owed : List (Nat × Option DWord)
  deriving DecidableEq, Repr

/-- The modes of the RISC-V privileged specification (R135). -/
inductive PrivMode where
  | machine | supervisor | user
  deriving DecidableEq, Repr

/-- A core's interrupt controller (R137): priorities by source, enables by `128 × context + source`, thresholds by context
(0 machine, 1 supervisor), sources pending, sources claimed and not completed, and claimed sources whose gateway has seen
a further request. -/
structure Plic where
  prio : List (Nat × Nat)
  enable : List (Nat × Bool)
  threshold : List (Nat × Nat)
  pend : List Nat
  claimed : List Nat
  again : List Nat
  deriving DecidableEq, Repr

/-- A line of a cache (Table 6.1): context, number of the 64-byte line of device addresses, its bytes, and whether the
core has stored to it. -/
structure CLine where
  ctx : Nat
  line : Nat
  bytes : List Byte
  dirty : Bool
  deriving DecidableEq, Repr

/-- What a core holds of the RISC-V privileged specification and Table 6.1: its mode, the cause and value of its last trap
into machine and into supervisor mode, PMP entries (configuration byte and address) by number, mtimecmp, the reservation
of LR (BAR2 offset and bytes), the interrupt controller, and the data and instruction caches, oldest line first. -/
structure Hart where
  mode : PrivMode
  mcause : Nat
  mtval : Nat
  scause : Nat
  stval : Nat
  pmp : List (Nat × (Nat × Nat))
  timecmp : Nat
  resv : Option (Nat × Nat)
  plic : Plic
  dcache : List CLine
  icache : List CLine
  deriving DecidableEq, Repr

/-- A management core: the TTIME at which its watchdog period began and of its last expiry (R147). -/
structure MCore where
  kickAt : Nat
  expiredAt : Option Nat
  deriving DecidableEq, Repr

/-! ### Sequencers (Chapter 7) -/

/-- The Hatch node a unit works for: instance slot, node, group and site; `none` in the slot for work that
belongs to the partner (R389). -/
structure Job where
  inst : Option Nat
  node : Nat
  group : Nat
  site : Nat
  deriving DecidableEq, Repr

/-- What a running burst keeps of its image header (Table 7.1); `ctx` is its translation context. -/
structure Image where
  ctx : Nat
  addr : Nat
  format : Nat
  width : Nat
  instrs : Nat
  rows : Nat
  rowBytes : Nat
  minPeriod : Nat
  instrOff : Nat
  payloadOff : Nat
  deriving DecidableEq, Repr

/-- A 64 KiB block a stream holds or has requested (R179): its number in the stream, its block of the
prefetch pool, whether it is readable (R17) and pinned (R180). -/
structure Blk where
  num : Nat
  pool : Nat
  readable : Bool
  pinned : Bool
  deriving DecidableEq, Repr

/-- A loop or MATCH level (R163, R174): `count` holds the iterations a LOOP has left or a MATCH has begun;
`frames` is the call depth, `mnum` the number of the MATCH in the burst. -/
structure Level where
  isMatch : Bool
  count : Nat
  tgt : Nat
  body : Nat
  pp : Nat
  max : Nat
  mode : Nat
  stop : Bool
  pinned : Bool
  frames : Nat
  mnum : Nat
  deriving DecidableEq, Repr

/-- A call frame (R164). -/
structure Frame where
  pc : Nat
  pp : Nat
  depth : Nat
  deriving DecidableEq, Repr

/-- A link block (Table 16.4): its index, the SCLK of its first vector, its vectors, the control words after them
(R247), its bytes, LAST, STOP and SAFE of an END. -/
structure LinkBlk where
  idx : Nat
  sclk : Nat
  vecs : List Vec
  tail : List Ctl
  bytes : Nat
  last : Bool
  stop : Bool
  safe : Bool
  deriving DecidableEq, Repr

/-- A wait of the execution stage (R167): a result wait of the JCC being executed or of a MATCH that has
begun MAXITER iterations, WTRG on a source and index, SYNC on a barrier, a word with WAITS of a routine (R148). -/
inductive Wait where
  | jcc
  | matchEnd
  | trig (src idx : Nat) (stop : Bool) (us : Nat)
  | sync (k us : Nat)
  | micro
  deriving DecidableEq, Repr

/-- One iteration of a MATCH (R174, R175): the MATCH and iteration numbers, the result time of its last strobed vector, its
vectors placed and not yet emitted, and emitted and not yet judged, whether a strobe fell on a selected pin, whether every
such strobe passed, the pins that passed, whether its ENDL has executed, and PP and the timing set there (R176). -/
structure Iter where
  mnum : Nat
  it : Nat
  res : Nat
  toEmit : Nat
  left : Nat
  strobed : Bool
  ok : Bool
  passed : List Nat
  whole : Bool
  endPp : Nat
  endTset : Nat
  deriving DecidableEq, Repr

/-- An edge of a trigger source on its way to a sequencer (R169): source and index as `16 × source + index`, the module SCLK
at which it arrives, and whether a WTRG without LATCHED has executed since it came to the contact. -/
structure TrigIn where
  key : Nat
  at_ : Nat
  old : Bool
  deriving DecidableEq, Repr

/-- A sequencer behind its registers: the node and image of the burst, its charge (R181), the blocks of
its two streams with the block each requests next, PC, PP and the timing set of the execution stage, open
levels and frames (innermost first), the hold row, its bytes and set (R172), vectors of VEC or RPT still
to place, the look-ahead with the control words and alignment its next vector takes, the next vector's
number and cycle start (R196), END and SAFE, a posted code or accepted stop that takes effect after the
look-ahead, the stop requested and not yet accepted (R188), the code the emission stage stopped with, the
wait in force, the SCLK from which vectors follow a wait (R167), MATCH iterations, the latest result time
(R166), the result time at which the fail limit asks for a stop (R230), trigger latches (R169), link blocks (the open one and those sent), outcomes for the result word
(R191), the micro-word executing (Table 6.8) with the SCLK since its last commit point; the SCLK of vector 0
and of the last group, the arrival at a barrier (R170), MAX_STRETCH and the MATCH pins of this burst,
the code recorded to stand in place of OK (R157, R260; 0 none), the hold vector a wait plays (R167), whether the
mirror finishes the burst (R401), the last commit address (none where the manual does not give it) with the effects since
it (R149), the latest result time of the vectors before a wait (R167), how many of the pending control words come before
the wait or iteration begun last (R171), the codes that K repeats by pin index (R157), trigger edges on their way (R169),
result times at which FAIL is still to be set (R220), and the place of the pending stop request in the order of R189. -/
structure Seq where
  job : Option Job
  img : Image
  charge : Nat
  iblk : List Blk
  pblk : List Blk
  inext : Nat
  pnext : Nat
  pc : Nat
  pp : Nat
  tset : Nat
  lastTset : Nat
  levels : List Level
  frames : List Frame
  hold : Option (Nat × List Byte × Nat)
  run : Nat
  look : List Vec
  ctl : List Ctl
  align : Nat
  iterFirst : List Nat
  num : Nat
  et : Nat
  ended : Bool
  safe : Bool
  post : Option Nat
  request : Option Nat
  stopped : Option Nat
  wait : Option Wait
  resume : Option Nat
  paused : Bool
  iters : List Iter
  mcount : Nat
  lastRes : Nat
  limitAt : Option Nat
  latch : List Nat
  open_ : Option LinkBlk
  sent : List LinkBlk
  blkIdx : Nat
  anyNomatch : Bool
  anyTimeout : Bool
  stretched : Bool
  mirror : Bool
  upc : Option Nat
  span : Nat
  vc : Nat
  failed : List Nat
  tokens : List Nat
  firstFail : Option Nat
  sclk0 : Nat
  lastSclk : Nat
  arrived : Option Nat
  maxStretch : Nat
  sel : List Nat
  note : Nat
  whold : Option (Nat × List Byte × Nat)
  mirrored : Bool
  commitAt : Option Nat
  effects : Nat
  waitRes : Nat
  ctlPre : Nat
  codes : List Nat
  edges : List TrigIn
  failAt : List Nat
  reqRank : Nat
  deriving DecidableEq, Repr

/-! ### Pin dies: playout, Burin and compare (Chapters 7 to 9) -/

/-- What a pin drives (R199, R200). -/
inductive Drive where
  | off
  | term
  | low
  | high
  deriving DecidableEq, Repr

/-- What a nominal drive event does: a level, the driver on at the last driven level (DNRZ), the
termination, the driver off, or the safe state. -/
inductive Act where
  | level (b : Bool)
  | onLast
  | term
  | off
  deriving DecidableEq, Repr

/-- A nominal drive event of R198: time, vector, edge number, timing set and what it does. -/
structure DriveEv where
  t : Nat
  vec : Nat
  edge : Nat
  tset : Nat
  act : Act
  deriving DecidableEq, Repr

/-- A strobe of a vector (R202): its nominal time, or opening and close of a window; the code it judges,
and which strobe it is. `close` is none for an edge strobe; `second` marks S1 of SMODE 1. -/
structure Strobe where
  t : Nat
  close : Option Nat
  vec : Nat
  second : Bool
  tset : Nat
  code : Nat
  lost : Bool
  deriving DecidableEq, Repr

/-- A channel's playout state: what it drives, the last driven level and data level (R199, R200), the
code K repeats, placed time of the last drive event and strobe, closes of the windows in its two trackers
(R204), nominal events not yet placed, placed strobes not yet judged, the state at its last judgement
(R213), and CHn_VMAP and CHn_VCFG as the burst's first vector found them (R192; none before the first burst). -/
structure Pin where
  drive : Drive
  lastHigh : Bool
  data : Option Bool
  code : Nat
  lastDrive : Option Int
  lastStrobe : Option Int
  trackers : List Int
  events : List DriveEv
  strobes : List Strobe
  placed : List Strobe
  seen : Option Nat
  cfg : Option (Word × Word)
  deriving DecidableEq, Repr

/-- The verdict a pin die builds for one vector (R216, R223): strobes not yet judged, failing and captured
pin indices, the vector's result time (R166), the flags of Table 9.2, and what R217 to R219 leave out. -/
structure Verdict where
  vec : Nat
  instr : Nat
  row : Nat
  hold : Bool
  tset : Nat
  iter : List (Nat × Nat)
  left : Nat
  fails : List Nat
  masked : List Nat
  caps : List Nat
  capPins : Nat
  res : Nat
  sel : List (Nat × Bool)
  s0f : Bool
  s1f : Bool
  winc : Bool
  deriving DecidableEq, Repr

/-- How a block stands at a pin die (R16, R392): from PLINK 0 not arrived, 1 intact, 2 in error with its
replay requested, 3 in error after its replay; whether the mirror's has arrived, and its vectors, the control words after
them, LAST, STOP and SAFE. -/
structure DieBlk where
  idx : Nat
  prim : Nat
  mir : Bool
  mvecs : List Vec
  mtail : List Ctl
  mlast : Bool
  mstop : Bool
  msafe : Bool
  deriving DecidableEq, Repr

/-- A port at one pin die: blocks that have arrived and not been chosen, the index of the next block,
vectors chosen and not yet played, whether the last block has been chosen and with a stop, the next cycle
start, verdicts being built, records on their way to Proof, records dropped since the last GAP (R225)
and from the partner's copy alone (R383), whether the burst has ended at the pins, COUNT records built and those not sent
yet, token sent, mirror source and mirror ignored (R392, R393), control words after the last vector (R247), and the raw
trace: bits not yet written, position, vectors traced, the first, its end, and whether its header is due (R233);
then what the burst's first block brings: the TTIME at which vector 0 plays, burst number, site, the channels with their pin indices, format,
periods (R195), HOLD_CMP, COUNT_REC and the channels the trace samples. -/
structure DiePort where
  blks : List DieBlk
  next : Nat
  play : List Vec
  last : Bool
  stop : Bool
  et : Nat
  played : Nat
  verdicts : List Verdict
  recs : List (List Byte)
  dropped : Nat
  copyLost : Nat
  done : Bool
  counted : Bool
  cnts : List (List Byte)
  token : Bool
  mirSrc : Bool
  mirOff : Bool
  tail : List Ctl
  trBits : List Bool
  trPos : Nat
  trVecs : Nat
  trFirst : Nat
  trFull : Bool
  trDue : Bool
  failAny : Bool
  safe : Bool
  t0 : Nat
  burst : Nat
  site : Nat
  chans : List (Nat × Nat)
  format : Nat
  tper : List Nat
  holdCmp : Bool
  countRec : Bool
  traced : List Nat
  trBits2 : Bool
  deriving DecidableEq, Repr

/-! ### Proof (Chapter 9) -/

/-- A ring of Proof behind its registers: records dropped since the last GAP record (R227), the configuration the
burst took at its start, whether its END record is still due, and the context of its group (R228). -/
structure Ring where
  gap : Nat
  mode : Nat
  fullHalt : Bool
  countRec : Bool
  holdCmp : Bool
  limit : Nat
  endDue : Bool
  ctx : Nat
  deriving DecidableEq, Repr

/-! ### Levels, measurement and high voltage (Chapter 10) -/

/-- What a level-queue entry applies (R245): an LV or HV set to a mask of the queue's channels, the entry of a
PMU_MEAS for one HV channel (R254: MODE, VRANGE, IRANGE, FORCE, ICLAMP), or a relay set. -/
inductive LqWhat where
  | lv (set mask : Nat)
  | hv (set mask : Nat)
  | force (hv mode vrange irange value iclamp : Nat)
  | relay (set : Nat)
  deriving DecidableEq, Repr

/-- A level-queue entry: what it applies, the sample edge it is due at, whether a range change held it
(R261), the request of Hatch it belongs to, and the port whose LSET it is. -/
structure LqEntry where
  what : LqWhat
  due : Nat
  held : Bool
  req : Option Nat
  port : Option Nat
  deriving DecidableEq, Repr

/-- A level queue and the last edge at which it applied entries (R249). -/
structure Lq where
  entries : List LqEntry
  lastEdge : Nat
  deriving DecidableEq, Repr

/-- A LEVEL_SET node, or the HV entry of a PMU_MEAS, in progress (R251, R254): entries and range-change
intervals outstanding, the latest edge, and what its result word holds; whether an HV channel was enabled after its entry
(R253); `meas` is the converter of a PMU_MEAS. -/
structure LReq where
  job : Job
  left : Nat
  rcs : Nat
  edge : Nat
  late : Bool
  range : Bool
  budget : Bool
  conn : Bool
  meas : Option Nat
  deriving DecidableEq, Repr

/-- An LV channel behind its registers: the converted codes of its six DACs (R240, R241, R338), its PMU's
mode, range and force code, whether a measurement keeps the driver off (R256), and the thresholds that applied sets have
put in force since the burst's first vector, oldest first: the TTIME of the edge of application, VOH and VOL in units of
2^-15 µV (R212). -/
structure LvLive where
  codes : List Int
  pmu : Option (Nat × Nat × Int)
  driverOff : Bool
  hist : List (Nat × Int × Int)
  deriving DecidableEq, Repr

/-- The live state of an HV channel (R256 to R263): its four set words, the state to take at the end of a
range-change interval with its last edge and request, what it drives in digital mode, and the code its DAC converts (R338). -/
structure HvLive where
  w0 : Word
  w1 : Word
  w2 : Word
  w3 : Word
  rc : Option (Word × Word × Word × Word)
  rcEnd : Nat
  rcReq : Option Nat
  drive : Drive
  data : Option Bool
  code : Nat
  seen : Option Nat
  lastHigh : Bool
  dac : Int
  deriving DecidableEq, Repr

/-- A PMU_MEAS in progress on a converter (R254): node, channel, ARGS, and the instant at which SETTLE_US
begins once it is known. -/
structure Meas where
  job : Job
  chan : Nat
  mode : Nat
  irange : Nat
  vrange : Nat
  release : Bool
  limitEn : Bool
  settle : Nat
  avg : Nat
  lo : Int
  hi : Int
  begin_ : Option Nat
  deriving DecidableEq, Repr

/-! ### Waveforms, acquisition and triggers (Chapter 11) -/

/-- A fetched list entry (R270): its segment, the pass it belongs to, the segment descriptor it was fetched
under, whether it is the first or last entry of its pass, its 16 bytes, and whether it or its descriptor is
invalid. -/
structure WItem where
  seg : Nat
  pass : Nat
  desc : List Byte
  last : Bool
  bytes : List Byte
  bad : Bool
  deriving DecidableEq, Repr

/-- Where the next entry is fetched from (R270): segment and pass, with the descriptor and the entry number
once the descriptor has been read. -/
structure WFetch where
  seg : Nat
  pass : Nat
  at_ : Option (List Byte × Nat)
  deriving DecidableEq, Repr

/-- A latched jump (R276): its segment, n_L, the pass ends left before it applies (0 while the pass in
progress at n_L is not yet known), and whether it is the take-over of R279. -/
structure WJump where
  seg : Nat
  nL : Nat
  ends : Nat
  take : Bool
  deriving DecidableEq, Repr

/-- A generator: the node whose end it owes and its ARGS, the node that takes a running playback over (R279),
the TTIME of dispatch and the instant from which the start is free (none while the AS entry waits), the
accepted trigger instant + 48 ns, RATE, t0, samples generated, the entry playing with its samples done,
acc, A0 and O0 (R271), the last code, clipping, fetched entries and the place of the next, a pending jump, a
stop request, the code the playback ended with (`none` while it plays), and markers not yet fired by
number and sample; jump requests on their way to their latch instants (instant, segment, whether the take-over; R277,
R279), and the codes generated whose output instants have not come (R272, R285), oldest first. -/
structure Wave where
  job : Option Job
  args : List Byte
  take : Option (Job × List Byte)
  disp : Nat
  bound : Option Nat
  trig : Option Nat
  rate : Nat
  t0 : Option Nat
  n : Nat
  cur : Option WItem
  k : Nat
  acc : Nat
  a0 : Int
  o0 : Int
  y : Int
  clip : Bool
  buf : List WItem
  fetch : Option WFetch
  jump : Option WJump
  stop : Bool
  ended : Option Nat
  marks : List (Nat × Nat)
  lats : List (Nat × Nat × Bool)
  outq : List Int
  deriving DecidableEq, Repr

/-- An entry of an AS command queue (R286): what it sets, the sample edge it is due at, whether a range change
held it, and whether a WAVE_PLAY carried it. -/
structure AsEntry where
  en : Nat
  vrange : Nat
  iclamp : Option Nat
  due : Nat
  held : Bool
  play : Bool
  deriving DecidableEq, Repr

/-- An AS output behind its registers: its queue, the DAC code held (before correction) and the code
converted (R338), the range that engages at the end of a range-change interval with its last edge, whether
a WAVE_PLAY carried the entry that began it, the edge at which it last applied an entry, the TTIME of its last enable, and
the DAC clock at which ZERO_ON_STOP takes it to code 0 (R278). -/
structure AsLive where
  queue : List AsEntry
  code : Int
  dac : Int
  rc : Option Nat
  rcEnd : Nat
  rcPlay : Bool
  lastEdge : Nat
  onAt : Nat
  zeroAt : Option Nat
  deriving DecidableEq, Repr

/-- An acquisition (R290 to R294): node and ARGS, the first interval's start, complete words, the newest
131,072 of them (newest first), words of the ring already written, the trigger's word, TRIG_OFS, TRIG_SUB and
instant, triggers ignored, and overrange. -/
structure Acq where
  job : Job
  args : List Byte
  start : Nat
  count : Nat
  words : List Int
  written : Nat
  trig : Option (Nat × Nat × Nat × Nat)
  ignored : Nat
  ovr : Bool
  deriving DecidableEq, Repr

/-- The lines behind their registers (R295 to R297): levels the outside sets on TRIG0 to 7, XTRIG0 and 1 and
SYNCIN (bits 0 to 10), logic levels last seen there, static levels of TRIG0 to 7, pulses in progress by
line with their ends in ns, the last instant at which each line was set (R296), and the TTIME of epoch 0
(R282), on whose lattice DAC and ADC clock edges lie. -/
structure Trg where
  ext : Nat
  seen : Nat
  level : Nat
  pulses : List (Nat × Nat)
  setAt : List (Nat × Nat)
  epoch0 : Nat
  deriving DecidableEq, Repr


/-! ### Time (Chapter 12) -/

/-- A time domain behind its registers (R304 to R308): seconds and the rest of the value in units of 2^-32 ns,
REMAIN in the same units, the step due at the next tick, and a SET (seconds, ns) that waits for it. -/
structure Dom where
  sec : Nat
  sub : Nat
  remain : Nat
  step : Nat
  set : Option (Nat × Nat)
  deriving DecidableEq, Repr

/-- A time port behind its registers: received frames as words left to read (R315), the frame being written
(header words and data), words of a discarded frame still to come, complete frames waiting to be sent (STAMP_REQ,
ID, bytes), whether TXDATA is discarded until TX_FLUSH, and the stamp queue (R317). -/
structure Tport where
  rx : List (List Word)
  txHead : Option Word
  txId : Option Word
  txData : List Word
  txSkip : Nat
  txQueue : List (Bool × Nat × List Byte)
  txDead : Bool
  tsq : List (Word × Word × Word × Word)
  deriving DecidableEq, Repr

/-- A TDC measurement (R321 to R326): node and ARGS, the arm instant in TTIME, the start and the latest stop
before it as coarse and fine counts, stops counted with the last of them, EARLY_STOP seen. -/
structure Tdc where
  job : Job
  args : List Byte
  disp : Nat
  armed : Option Nat
  start : Option (Nat × Nat)
  before : Option (Nat × Nat)
  stops : Nat
  lastStop : Option (Nat × Nat)
  early : Bool
  deriving DecidableEq, Repr

/-- Time behind its registers: the time-base switch that waits (R301), the domains, the time ports and the TDC
measurements in progress. -/
structure Tim where
  switchTo : Option Nat
  /-- The trim in force, in ppb, on its ramp to TB_TRIM (R302). -/
  trim : Int
  doms : List (Nat × Dom)
  ports : List (Nat × Tport)
  tdcs : List (Nat × Option Tdc)
  deriving DecidableEq, Repr


/-! ### Calibration (Chapter 13) -/

/-- A calibration run (R332 to R336): the domain in progress, the domains after it, the scope, whether a unit has
failed in a domain; the TTIME of each domain's last completion or write of COUNT, and of the last
assessment (R340, R341). -/
structure Cal where
  run : Option Nat
  left : List Nat
  scope : Nat
  /-- DOMAINS of the START (R332). -/
  doms : Nat
  failed : Bool
  doneAt : List (Nat × Nat)
  assessed : Nat
  /-- The readings the last check of the references gave (R330, R331). -/
  refs : RefCheck
  deriving DecidableEq, Repr


/-! ### GDDR7 (Chapter 14) -/

/-- The controller behind its registers: open rows by bank (key `16 c + bank`; none for a bank precharged),
channels waiting for a catch-up slot in the order of their requests and those holding one (R350, R353),
reservation buckets by channel and group (key `128 c + g`; R356) as their content in 1/320 byte at an
instant, the instants of uncorrectable errors of each channel within the last second (R359), and whether
a request other than training has been served since cold reset (R347). -/
structure Drc where
  rows : List (Nat × Option Nat)
  waiting : List Nat
  slots : List Nat
  buckets : List (Nat × (Nat × Nat))
  ues : List (Nat × List Nat)
  served : Bool
  deriving DecidableEq, Repr


/-! ### DMA and translation (Chapter 15) -/

/-- A cached translation (R362): context, whether a 2 MiB page, virtual page number, target, frame
address and rights. -/
structure Tlb where
  ctx : Nat
  large : Bool
  page : Nat
  target : Nat
  frame : Nat
  w : Bool
  x : Bool
  deriving DecidableEq, Repr

/-- Who waits for a list (R364, R368): a DMA_LIST descriptor of a queue, or a DMA node. -/
inductive DmaFor where
  | desc (queue serial : Nat) (bytes : List Byte)
  | node (j : Job)
  deriving DecidableEq, Repr

/-- The descriptor a channel is in: its 32 bytes, the source and destination elements as (address, length),
whether it has started (a PREQ descriptor waits, R367), and bytes fetched into the slice. -/
structure DmaDesc where
  bytes : List Byte
  src : List (Nat × Nat)
  dst : List (Nat × Nat)
  started : Bool
  fetched : Nat
  deriving DecidableEq, Repr

/-- A list a channel runs (R364 to R371): who waits for it, its context, address, COUNT and HALT_ON_ERR, the
descriptors completed, the current one, the code a stop, an abort or an early end will give at the next
boundary, the code an error latched, and the domains told to power down (0 the host link, 1 GDDR7; R370). -/
structure DmaRun where
  origin : DmaFor
  ctx : Nat
  addr : Nat
  count : Nat
  haltOnErr : Bool
  done : Nat
  cur : Option DmaDesc
  stop : Option Nat
  error : Nat
  deriving DecidableEq, Repr

/-- DMA behind its registers: runs by channel, domains that are powering down or down, and whether an
invalidation is in progress. -/
structure Dma where
  runs : List (Nat × Option DmaRun)
  quiet : List Nat
  deriving DecidableEq, Repr


/-! ### Site Link and pairing (Chapter 16) -/

/-- What the journal has told of an instance of the partner (R395, R399): its queue, site and descriptor, nodes
dispatched with class and unit, nodes ended with STATUS, token and hold cycles, tokens injected, and its
completion record where INST_END has arrived. -/
structure PeerInst where
  queue : Nat
  site : Nat
  desc : List Byte
  running : List (Nat × (Nat × Nat))
  ends : List (Nat × (Nat × Token × Nat))
  tokens : List (Nat × Token)
  comp : Option Comp
  deriving DecidableEq, Repr

/-- A queue of the partner as its QUEUE records give it: bound, base, size, ring, HEAD and TAIL; and its
descriptors on chip that no instance has taken, by serial. -/
structure PeerQueue where
  bound : Bool
  base : Nat
  sizeLog2 : Nat
  cq : Nat
  head : Nat
  tail : Nat
  descs : List (Nat × List Byte)
  deriving DecidableEq, Repr

/-- A decision record not yet followed (R390): port, kind, outcome, vector number. -/
structure DecRec where
  port : Nat
  kind : Nat
  outcome : Nat
  vec : Nat
  deriving DecidableEq, Repr

/-- A lane's transmitter (R373, R374): the last 58 scrambled bits, newest in bit 0; the last symbol sent; blocks since the
last alignment marker; markers sent. -/
structure LaneTx where
  scr : Nat
  sym : Nat
  blocks : Nat
  markers : Nat
  deriving DecidableEq, Repr

/-- The pair behind its registers: failed attempts of the series, whether PCC counts, JSEQ of the next record and of the next to be
acknowledged; node
ends and completions that wait for the partner's acknowledgement (R396), with the JSEQ of their record;
adopted completions held (R400); what the journal has brought of the partner: registers, correction
writes, queues, instances by slot; PCC of vector 0 by port (R389), decision records, ports whose mirror
decides on its own inputs (R392); adopted work on the partner's units (key `256 class + unit`), and the
sequence numbers of control entries H0 has taken (R388) . -/
structure Pair where
  fails : Nat
  pccOn : Bool
  jseq : Nat
  acked : Nat
  ends : List (Nat × Report)
  comps : List (Nat × (Bool × Comp))
  held : List Comp
  regs : List (Nat × Word)
  cals : List (Nat × Word)
  queues : List (Nat × PeerQueue)
  insts : List (Nat × Option PeerInst)
  starts : List (Nat × Option Nat)
  decs : List DecRec
  switched : List Nat
  away : List (Nat × Option Job)
  frames : List Nat
  /-- Lanes whose last FOM lay below FOM_FAIL (R375), and lanes retrained that rejoin at the next re-stripe (R385). -/
  low : List Nat
  rejoin : List Nat
  /-- The handshake of a rejoining partner has completed while TAKEOVER stands (R402). -/
  shook : Bool
  /-- The transmitter of each lane (R373, R374). -/
  tx : List (Nat × LaneTx)
  deriving DecidableEq, Repr


/-! ### The plate (Chapter 17) -/

/-- The plate behind its registers: the level of DOCK#, whether counting is on, SEQ of the current copy,
warnings and faults already reported since docking (by line, 64 for DOCKS), whether an
undocking is under way, and whether operations may have gone uncounted while another core die worked the lines (R411). -/
structure Plt where
  low : Bool
  counting : Bool
  seq : Nat
  warned : List Nat
  faulted : List Nat
  undocking : Bool
  gap : Bool
  deriving DecidableEq, Repr

/-! ### The module -/

/-- Everything but the queue of commands. -/
structure Mod where
  /-- The register file: BAR0 offset to word; an offset without an entry holds its reset value. Stores
  reached through a window (level sets, HV sets, relay sets, calibration tables) lie at offsets from
  0x400_0000 on. -/
  regs : List (Nat × Word)
  /-- The high word latched by a read of the low word, by initiator and offset (R4). -/
  latch : List (Nat × Word)
  /-- The low word staged by an initiator, by initiator and offset (R5). -/
  stage : List (Nat × Word)
  /-- GDDR7, by physical address. -/
  gddr : List Host.Cell
  /-- Bursts of 64 bytes of GDDR7 that hold an uncorrectable error, by number (R434). -/
  gddrBad : List (Nat × Bool)
  /-- On-chip SRAM, by BAR2 offset. -/
  sram : List Host.Cell
  /-- Units of SRAM that hold an uncorrectable error, by the BAR2 offset of their first byte: 4 bytes in the control store,
  8 elsewhere (R30). -/
  sramBad : List (Nat × Bool)
  /-- Commands run so far: the index of the free values (assumption 2). -/
  cmds : Nat
  /-- Everything that has left the module, newest first (assumption 6). -/
  outs : List Output
  flt : Flt
  sys : Sys
  queues : List (Nat × Queue)
  cqs : List (Nat × Cq)
  pcie : Pcie
  hat : Hat
  scores : List (Nat × SCore)
  mcores : List (Nat × MCore)
  /-- The cores by mhartid: 0 to 15 site cores, 16 to 19 management cores (Table 6.1). -/
  harts : List (Nat × Hart)
  tlb : List Tlb
  seqs : List (Nat × Seq)
  /-- Ports at the pin dies, by `2 n + die`. -/
  dports : List (Nat × DiePort)
  pins : List (Nat × Pin)
  rings : List (Nat × Ring)
  /-- Blocks the core die's send buffer holds for replay, oldest first, by die: sequencer and index (R16). -/
  sendBuf : List (Nat × List (Nat × Nat))
  lqs : List (Nat × Lq)
  lreqs : List (Nat × Option LReq)
  /-- Number of the next request entered into the level queues. -/
  nextReq : Nat
  lvs : List (Nat × LvLive)
  hvs : List (Nat × HvLive)
  meass : List (Nat × Option Meas)
  plt : Plt
  waves : List (Nat × Wave)
  ass : List (Nat × AsLive)
  acqs : List (Nat × Option Acq)
  trg : Trg
  tim : Tim
  cal : Cal
  drc : Drc
  dma : Dma
  pair : Pair
  deriving DecidableEq, Repr

/-! ### Reset values of what stands behind the registers -/

def Flt.fresh : Flt := ⟨0, [], 0, false, false, false⟩

/-- A queue that is not bound and holds nothing (Tables 4.17 to 4.19). -/
def Queue.fresh : Queue := ⟨false, 0, 4, 0, false, 0, 0, false, none, [], 0, [], 0, [], [], [], [], 0, 0⟩

def Cq.fresh : Cq := ⟨0, 0, [], 0, false⟩

/-- PCIe before enumeration: the link is down, and configuration space is at its reset values (R105). -/
def Pcie.fresh : Pcie :=
  { linkDown := true, perst := false, d3hot := false, mps := 128, mrrs := 512, ero := true, due := [],
    ident := ⟨0x1F3A, 0x9256, 0x01, 0x118000, 0x1F3A, 0x0001, 0⟩, memEn := false, bars := [0x4, 0xC, 0xC] }

def Hat.fresh : Hat :=
  ⟨[], [], [], [], [], [], [], [], [], [], [], [], [], 0, false⟩

def SCore.fresh : SCore := ⟨none, 0, [], false, false, false, false, false, []⟩

def MCore.fresh : MCore := ⟨0, none⟩

/-- A core in reset: machine mode, every PMP entry off, the interrupt controller at 0, the caches empty (assumption 64). -/
def Hart.fresh : Hart := ⟨.machine, 0, 0, 0, 0, [], 0, none, ⟨[], [], [], [], [], []⟩, [], []⟩

/-- The header of a factory profile slot (Tables 3.6, 3.7): MAGIC, GEN 0, TB_SRC and PAIR_ROLE. NAME,
the expected version and CRC and the records are empty (assumption 4). -/
def Slot.factoryOf (tbSrc role : Nat) : Slot :=
  ⟨[(0, 0x46#8), (1, 0x50#8), (2, 0x59#8), (3, 0x4C#8)] ++
    (if tbSrc = 0 then [] else [(0x30, BitVec.ofNat 8 tbSrc)]) ++
    (if role = 0 then [] else [(0x32, BitVec.ofNat 8 role)]), true, true⟩

def Slot.blank : Slot := ⟨[], false, false⟩
def CodeSlot.blank : CodeSlot := ⟨false, 0⟩
def RtSlot.blank : RtSlot := ⟨0, 0, 0, false, false⟩

/-- The flash as shipped: profile p in its slot 0 (Table 3.7); firmware and runtime valid in slot 0,
directory A the newer (assumption 4). The module is in cold reset; nothing has started (assumption 1). -/
def Sys.fresh : Sys :=
  { slots := [(0, Slot.factoryOf 0 0), (2, Slot.factoryOf 1 0), (4, Slot.factoryOf 1 1), (6, Slot.factoryOf 1 2)],
    firmware := [(0, ⟨true, 0⟩)], runtime := [(0, ⟨0x53525431, 0, 24576, true, true⟩)],
    dirA := ⟨1, true⟩, dirB := ⟨0, true⟩, dirUsed := 0, profWrite := none, reload := false,
    started := [], leftOff := [], flashLoaded := false, gddrTrained := false,
    recordsApplied := false, h0Records := [], pcieDetect := false, coldHeld := true, vinLatched := false,
    lost := [], tripped := [], linkErrs := [], govLevel := 0, govRose := false, pwrgood := false, orderly := .none, tbFrom := none,
    rejoin := false }

def Image.fresh : Image := ⟨0, 0, 1, 0, 0, 0, 0, 0, 0, 0⟩

/-- A sequencer that runs no burst. -/
def Seq.fresh : Seq :=
  { job := none, img := Image.fresh, charge := 0, iblk := [], pblk := [], inext := 0, pnext := 0, pc := 0, pp := 0,
    tset := 0, lastTset := 0, levels := [], frames := [], hold := none, run := 0, look := [], ctl := [],
    align := 1, iterFirst := [], num := 0, et := 0, ended := false, safe := false, post := none,
    request := none, stopped := none, wait := none, resume := none, paused := false, iters := [], mcount := 0,
    lastRes := 0, limitAt := none, latch := [], open_ := none, sent := [], blkIdx := 0, anyNomatch := false, anyTimeout := false,
    stretched := false, mirror := false, upc := none, span := 0, vc := 0, failed := [],
    tokens := [], firstFail := none, sclk0 := 0,
    lastSclk := 0, arrived := none, maxStretch := 0, sel := [], note := 0, whold := none, mirrored := false,
    commitAt := none, effects := 0, waitRes := 0, ctlPre := 0, codes := [], edges := [], failAt := [], reqRank := 0 }

/-- A channel with its driver off. -/
def Pin.fresh : Pin :=
  { drive := .off, lastHigh := false, data := none, code := 7, lastDrive := none, lastStrobe := none, trackers := [],
    events := [], strobes := [], placed := [], seen := none, cfg := none }

def DiePort.fresh : DiePort :=
  { blks := [], next := 0, play := [], last := false, stop := false, et := 0, played := 0, verdicts := [], recs := [],
    dropped := 0, copyLost := 0, done := false, counted := false, cnts := [], token := false, mirSrc := false, mirOff := false,
    tail := [], trBits := [],
    trPos := 0, trVecs := 0, trFirst := 0, trFull := false, trDue := false, failAny := false, safe := false,
    t0 := 0, burst := 0, site := 0, chans := [], format := 1, tper := [], holdCmp := false, countRec := false, traced := [],
    trBits2 := false }

def Ring.fresh : Ring := ⟨0, 0, false, false, false, 0, false, 0⟩

def Lq.fresh : Lq := ⟨[], 0⟩

/-- Every level DAC at mid-scale (R64, R240), PMU off. -/
def LvLive.fresh : LvLive := ⟨[0x8000, 0x8000, 0x8000, 0x8000, 0x8000, 0x8000], none, false, []⟩

/-- The reset state of an HV channel: that of every HV set (Chapter 10). -/
def HvLive.fresh : HvLive :=
  ⟨0x52000000#32, 0xFFFF0000#32, 0#32, 0#32, none, 0, none, .off, none, 7, none, false, 0⟩

def Plt.fresh : Plt := ⟨false, false, 0, [], [], false, false⟩

/-- A generator that plays nothing. -/
def Wave.fresh : Wave :=
  { job := none, args := [], take := none, disp := 0, bound := none, trig := none, rate := 0, t0 := none, n := 0,
    cur := none, k := 0, acc := 0, a0 := 0, o0 := 0, y := 0, clip := false, buf := [], fetch := none, jump := none,
    stop := false, ended := none, marks := [], lats := [], outq := [] }

/-- An AS output with its DAC at code 0 (R285). -/
def AsLive.fresh : AsLive := ⟨[], 0, 0, none, 0, false, 0, 0, none⟩

/-- Lines that the outside leaves low (assumption 16). -/
def Trg.fresh : Trg := ⟨0, 0, 0, [], [], 0⟩

/-- A domain after cold reset (R308). -/
def Dom.fresh : Dom := ⟨0, 0, 0, 0, none⟩
def Tport.fresh : Tport := ⟨[], none, none, [], 0, [], false, []⟩
def Tim.fresh : Tim := ⟨none, 0, [], [], []⟩
def Cal.fresh : Cal := ⟨none, [], 0, 0, false, [], 0, ⟨false, false, false, 0, 0⟩⟩

/-- Every bank precharged, no slot held, empty buckets, nothing served. -/
def Drc.fresh : Drc := ⟨[], [], [], [], [], false⟩
def Dma.fresh : Dma := ⟨[], []⟩

/-- No pair. -/
def PeerInst.fresh : PeerInst := ⟨0, 0, [], [], [], [], none⟩
def PeerQueue.fresh : PeerQueue := ⟨false, 0, 4, 0, 0, 0, []⟩
def Pair.fresh : Pair := ⟨0, false, 0, 0, [], [], [], [], [], [], [], [], [], [], [], [], [], [], false, []⟩

/-- A lane's transmitter before its first block (R373). -/
def LaneTx.fresh : LaneTx := ⟨0, 0, 0, 0⟩

/-- The module right after reset (assumption 1): every register holds its reset value, the memories hold nothing, and
the release of cold reset (R55) has not been seen. -/
def Mod.reset : Mod :=
  { regs := [], latch := [], stage := [], gddr := [], gddrBad := [], sram := [], sramBad := [], cmds := 0,
    outs := [], flt := Flt.fresh, sys := Sys.fresh, queues := [], cqs := [], pcie := Pcie.fresh,
    hat := Hat.fresh, scores := [], mcores := [], harts := [], tlb := [],
    seqs := [], dports := [], pins := [], rings := [], sendBuf := [],
    lqs := [], lreqs := [], nextReq := 0, lvs := [], hvs := [], meass := [], plt := Plt.fresh,
    waves := [], ass := [], acqs := [], trg := Trg.fresh, tim := Tim.fresh, cal := Cal.fresh,
    drc := Drc.fresh, dma := Dma.fresh, pair := Pair.fresh }

/-- The state: the module and the commands that wait, first in, first out. -/
structure State where
  pending : List Instr
  m : Mod
  deriving DecidableEq, Repr

def State.reset : State := { pending := [], m := Mod.reset }

/-- Why a step stops. -/
inductive Fault where
  /-- Raised by no command: one that names a unit, register, channel or value that the module does not have (`Instr.wf`
  fails) changes nothing (`runAlways`). Safe: no run stops. -/
  | illFormed
  deriving DecidableEq, Repr

/-- Why a command has no meaning. -/
inductive Refusal where
  /-- Raised by `exec` for a command whose meaning is not written yet. Safe: nothing is claimed of it. -/
  | notModelled (mnemonic : String)
  deriving DecidableEq, Repr

end Sys2Proof.Machine
end

