-- ==== Sys2Proof/Machine/Ops.lean ====
section
/-!
DEFINITION. The named operations on the state: registers and their fields, the latches of pairs, the
memories with their ECC, the log of outputs, and the free values.
-/

namespace Sys2Proof.Machine

/-! ### Reset values -/

/-- Base of the level-set store behind CH_LVSEL (R240): three words for each set of each channel. -/
def lvOff (ch set k : Nat) : Nat := 0x4000000 + 16 * (256 * ch + set) + 4 * k

/-- Base of the HV set store behind HV_SETSEL (R257). -/
def hvOff (hv set k : Nat) : Nat := 0x4100000 + 16 * (256 * hv + set) + 4 * k

/-- Base of the relay set store behind RLY_SETSEL (R264). -/
def rlyOff (set k : Nat) : Nat := 0x4200000 + 16 * set + 4 * k

/-- Base of the calibration tables behind CAL_TSEL (Table 13.8). -/
def calOff (table unit item : Nat) : Nat := 0x4300000 + 4 * (4096 * (64 * table + unit) + item)

/-- The nominal entry `r` of a linearisation table (R207): the tap nearest to 250 r / 256. -/
def nominalTap (r : Nat) : Nat := (250 * r + 128) / 256

/-- Two nominal entries as CHn_LINDj and CHn_LINSj pack them (Table 8.7). -/
def nominalPair (j : Nat) : Word := BitVec.ofNat 32 (nominalTap (2 * j) + 0x10000 * nominalTap (2 * j + 1))

/-- The default TEMP_DELTA and AGE_H of domain `k` (Table 13.3), as CAL_DOMk_CFG packs them. -/
def calDomReset (k : Nat) : Word :=
  match k with
  | 0 => 0x02D00014#32
  | 6 => 0x00A80006#32
  | _ => 0x02D0000A#32

/-- The reset value of the word at a BAR0 offset or of a store behind a window. -/
def resetOf (off : Nat) : Word :=
  if off < 0x4000000 then
    match regAt off with
    | some (d, ix) =>
      match d.name with
      | .HOST_CQ_CFG => fput Fields.HOST_CQ_CFG.VEC (ix.getD 0 0) d.reset
      | .CH_LIND => nominalPair (ix.getD 2 0)
      | .CH_LINS => nominalPair (ix.getD 2 0)
      | .CAL_DOM_CFG => calDomReset (ix.getD 0 0)
      | .GLB_SERIAL_LO => Config.serial.truncate 32
      | .GLB_SERIAL_HI => (Config.serial >>> 32).truncate 32
      | _ => d.reset
    | none =>
      -- every MSI-X entry is masked, with address and data 0 (R105)
      if 0x110000 ≤ off ∧ off < 0x111000 ∧ off % 16 = 12 then 1#32 else 0#32
  else if off < 0x4100000 then 0x80008000#32
  else if off < 0x4200000 then
    -- the reset values of HV_SETDATA0 to 3 (Table 10.13)
    match (off % 16) / 4 with
    | 0 => 0x52000000#32
    | 1 => 0xFFFF0000#32
    | _ => 0#32
  else if 0x4300000 + 16384 * 64 * 3 ≤ off ∧ off < 0x4300000 + 16384 * 64 * 4 then
    -- each TDC entry f holds 16 f (R339)
    BitVec.ofNat 32 (16 * ((off - 0x4300000) / 4 % 4096))
  else 0#32

/-! ### Registers -/

/-- The word of the register file at `off`. -/
def Mod.reg (m : Mod) (off : Nat) : Word := SMap.get resetOf m.regs off

/-- `m` with the word at `off` set to `v`. -/
def Mod.setReg (off : Nat) (v : Word) (m : Mod) : Mod := { m with regs := SMap.set resetOf m.regs off v }

/-- Field `f` of the register at `off`. -/
def Mod.rd (m : Mod) (off : Nat) (f : Fld) : Nat := fget f (m.reg off)

/-- `m` with field `f` of the register at `off` set to `v`. -/
def Mod.wr (off : Nat) (f : Fld) (v : Nat) (m : Mod) : Mod := m.setReg off (fput f v (m.reg off))

/-- A one-bit field as a flag. -/
def Mod.flag (m : Mod) (off : Nat) (f : Fld) : Bool := m.rd off f != 0

/-- The 64-bit value of the pair whose low word is at `off`. -/
def Mod.rd64 (m : Mod) (off : Nat) : Nat := (m.reg off).toNat + 0x100000000 * (m.reg (off + 4)).toNat

/-- `m` with the 64-bit value of a pair set. -/
def Mod.wr64 (off v : Nat) (m : Mod) : Mod :=
  (m.setReg off (BitVec.ofNat 32 v)).setReg (off + 4) (BitVec.ofNat 32 (v / 0x100000000))

/-- A counting field, raised by one and stopped at its greatest value. -/
def Mod.bump (off : Nat) (f : Fld) (m : Mod) : Mod := m.wr off f (satAdd f.width (m.rd off f) 1)

/-! ### Free values and outputs -/

/-- The `k`-th free value of this command (assumption 2). -/
def Mod.free (m : Mod) (k : Nat) : DWord := Config.freeValue (4096 * m.cmds + k)

/-- `m` after `o` has left the module. -/
def Mod.emit (o : Output) (m : Mod) : Mod := { m with outs := o :: m.outs }

/-- `m` after `os` have left the module, in their order. -/
def Mod.emits (os : List Output) (m : Mod) : Mod := { m with outs := os.reverse ++ m.outs }

/-- The current test time (R303). -/
def Mod.ttime (m : Mod) : Nat := m.rd64 Reg.TIME_TTIME_LO

/-- `f` applied for every number of a list, from the left. -/
def Mod.each (l : List Nat) (f : Nat → Mod → Mod) (m : Mod) : Mod := l.foldl (fun s k => f k s) m

/-- `f` applied where `b` holds. -/
def Mod.when (b : Bool) (f : Mod → Mod) (m : Mod) : Mod := if b then f m else m

/-! ### Memories -/

/-- Bytes of memory that nothing has written read 0 (assumption 7). -/
def byteDefault (_ : Nat) : Byte := 0

/-- No unit of memory holds an uncorrectable error until one is met (R30, R358). -/
def badDefault (_ : Nat) : Bool := false

/-- One byte of a memory. -/
def memByte (mem : List Host.Cell) (a : Nat) : Byte := SMap.get byteDefault mem a

/-- The canonical form of a memory: addresses rise strictly, and no byte listed is what an unlisted address reads as. -/
def Memory.wf (mem : List Host.Cell) : Bool := SMap.wf byteDefault mem

/-- `n` bytes of a memory from `a`. -/
def memRead (mem : List Host.Cell) (a : Nat) : Nat → List Byte
  | 0 => []
  | n + 1 => memByte mem a :: memRead mem (a + 1) n

/-- A memory with bytes written from `a`. -/
def memWrite (mem : List Host.Cell) (a : Nat) : List Byte → List Host.Cell
  | [] => mem
  | b :: t => memWrite (SMap.set byteDefault mem a b) (a + 1) t

/-- Whether a range meets a unit of `u` bytes that holds an uncorrectable error. -/
def badIn (bad : List (Nat × Bool)) (u a n : Nat) : Bool :=
  n != 0 && (List.range ((a + n - 1) / u - a / u + 1)).any (fun i => SMap.get badDefault bad (a / u + i))

/-- The error map after a write of `[a, a+n)`: a unit that the write covers whole is good again (R434). -/
def badAfterWrite (bad : List (Nat × Bool)) (u a n : Nat) : List (Nat × Bool) :=
  bad.filter (fun e => !(decide (a ≤ u * e.1) && decide (u * e.1 + u ≤ a + n)))

/-- Whether a write of `[a, a+n)` covers only part of a unit that holds an uncorrectable error (R434). -/
def partBad (bad : List (Nat × Bool)) (u a n : Nat) : Bool :=
  n != 0 && ((a % u != 0 && SMap.get badDefault bad (a / u)) ||
    ((a + n) % u != 0 && SMap.get badDefault bad ((a + n - 1) / u)))

/-- The unit of an SRAM byte that carries its own code (R30): 4 bytes with parity in the control store, 8 bytes elsewhere;
named by its first byte. -/
def sramUnit (a : Nat) : Nat := if 0xF80000 ≤ a ∧ a < 0xFA0000 then 4 else 8
def sramKey (a : Nat) : Nat := a / sramUnit a * sramUnit a

/-- Whether a range of SRAM meets a unit with an uncorrectable error. -/
def sramBadIn (bad : List (Nat × Bool)) (a n : Nat) : Bool :=
  n != 0 && (List.range ((a % 4 + n + 3) / 4)).any (fun i => SMap.get badDefault bad (sramKey (a / 4 * 4 + 4 * i)))

/-- The error map of SRAM after a write: a unit that the write covers whole is good again (R434). -/
def sramBadAfter (bad : List (Nat × Bool)) (a n : Nat) : List (Nat × Bool) :=
  bad.filter (fun e => !(decide (a ≤ e.1) && decide (e.1 + sramUnit e.1 ≤ a + n)))

/-- Whether a write covers only part of a unit with an uncorrectable error (R434). -/
def sramPartBad (bad : List (Nat × Bool)) (a n : Nat) : Bool :=
  let part (k : Nat) : Bool := SMap.get badDefault bad k && !(decide (a ≤ k) && decide (k + sramUnit k ≤ a + n))
  n != 0 && (part (sramKey a) || part (sramKey (a + n - 1)))

/-- A write to GDDR7 that meets no bad unit. -/
def Mod.gddrPut (a : Nat) (bs : List Byte) (m : Mod) : Mod :=
  { m with gddr := memWrite m.gddr a bs, gddrBad := badAfterWrite m.gddrBad 64 a bs.length }

/-- A write to SRAM that meets no bad unit. -/
def Mod.sramPut (a : Nat) (bs : List Byte) (m : Mod) : Mod :=
  { m with sram := memWrite m.sram a bs, sramBad := sramBadAfter m.sramBad a bs.length }

/-! ### Entries of the maps -/

def Mod.queue (m : Mod) (q : Nat) : Queue := SMap.get (fun _ => Queue.fresh) m.queues q
def Mod.setQueue (q : Nat) (x : Queue) (m : Mod) : Mod :=
  { m with queues := SMap.set (fun _ => Queue.fresh) m.queues q x }

def Mod.cq (m : Mod) (c : Nat) : Cq := SMap.get (fun _ => Cq.fresh) m.cqs c
def Mod.setCq (c : Nat) (x : Cq) (m : Mod) : Mod := { m with cqs := SMap.set (fun _ => Cq.fresh) m.cqs c x }

def Mod.inst (m : Mod) (i : Nat) : Option Inst := SMap.get (fun _ => none) m.hat.insts i
def Mod.setInst (i : Nat) (x : Option Inst) (m : Mod) : Mod :=
  { m with hat := { m.hat with insts := SMap.set (fun _ => none) m.hat.insts i x } }

def Mod.score (m : Mod) (c : Nat) : SCore := SMap.get (fun _ => SCore.fresh) m.scores c
def Mod.setScore (c : Nat) (x : SCore) (m : Mod) : Mod :=
  { m with scores := SMap.set (fun _ => SCore.fresh) m.scores c x }

def Mod.mcore (m : Mod) (c : Nat) : MCore := SMap.get (fun _ => MCore.fresh) m.mcores c
def Mod.setMcore (c : Nat) (x : MCore) (m : Mod) : Mod :=
  { m with mcores := SMap.set (fun _ => MCore.fresh) m.mcores c x }

def Mod.hart (m : Mod) (c : Nat) : Hart := SMap.get (fun _ => Hart.fresh) m.harts c
def Mod.setHart (c : Nat) (x : Hart) (m : Mod) : Mod := { m with harts := SMap.set (fun _ => Hart.fresh) m.harts c x }

/-- Whether a die (0 core, 1 P0, 2 P1, 3 H0) or GDDR7 device (8 + k) is out of service. -/
def Mod.isLost (m : Mod) (d : Nat) : Bool := SMap.get badDefault m.sys.lost d

/-- Whether a unit of the start order has started (R52). -/
def Mod.unitStarted (m : Mod) (u : Nat) : Bool := SMap.get badDefault m.sys.started u

/-- Whether H0 may connect an HV or AS output or close a relay: its soft-start is over (R38), it is not lost (R39), and no
VIN trip is latched (R36). -/
def Mod.outputsReady (m : Mod) : Bool := m.unitStarted 29 && !m.isLost 3 && !m.sys.vinLatched

/-- The start state (Table 3.10). -/
def Mod.startState (m : Mod) : Nat := m.rd Reg.GLB_START_STATE Fields.GLB_START_STATE.STATE

/-- READY or PROFILE_FAIL: host access is open (R61, R73). -/
def Mod.open (m : Mod) : Bool := m.startState == 6 || m.startState == 7

/-! ### Initiators -/

/-- The INIT code of an initiator (Table 18.7). -/
def initCode : Init → Nat
  | .host => 0
  | .score n => 1 + n
  | .mcore k => 17 + k
  | .regwr _ => 21
  | .profile => 22

/-- The key of an initiator's own latches (R4): REGWR has one for each DMA channel. -/
def initKey : Init → Nat
  | .host => 0
  | .score n => 1 + n
  | .mcore k => 17 + k
  | .regwr c => 32 + c
  | .profile => 22

/-- The key of an initiator's latch of the register at `off`. -/
def latchKey (i : Init) (off : Nat) : Nat := 0x4000000 * initKey i + off

end Sys2Proof.Machine
end

