-- ==== Sys2Proof/Machine/Coding.lean ====
section
/-!
DEFINITION. The line coding of the Site Link (R373) and how a unit is laid over the lanes of a group (R374).
-/

namespace Sys2Proof.Machine

/-! ### Lanes and groups (Table 16.1, Table 16.12) -/

/-- The group of a lane: 0 mirror; 1, 2 takeover to the partner's P0 and P1; 3, 4 capture-return from them; 5, 6 takeover
into the module's own P0 and P1; 7, 8 capture-return from those; 9 the H0 secondary pair. -/
def laneGroup (k : Nat) : Nat :=
  if k < 8 then 0 else if k < 20 then 1 else if k < 32 then 2 else if k < 34 then 3 else if k < 36 then 4
  else if k < 48 then 5 else if k < 50 then 7 else if k < 62 then 6 else if k < 64 then 8 else 9

def groupLanes (g : Nat) : List Nat := allBelow 65 (fun k => laneGroup k == g)

/-- The ACTIVE lanes of a group in ascending logical position (R374). -/
def Mod.activeLanes (m : Mod) (g : Nat) : List Nat :=
  (List.range 16).flatMap (fun p => (groupLanes g).filter (fun k =>
    m.rd (Reg.SL_LANE_STATUS k) Fields.SL_LANE_STATUS.STATE == 5 &&
      m.rd (Reg.SL_LANE_STATUS k) Fields.SL_LANE_STATUS.POSITION == p))

/-! ### Blocks of 64B/66B -/

/-- A block: whether it is a control block, and its 64-bit payload. -/
abbrev LineBlk := Bool × Nat

def dataBlk (w : Nat) : LineBlk := (false, w % 2 ^ 64)

/-- A control block: its type in the first byte, 56 further bits. -/
def ctlBlk (type rest : Nat) : LineBlk := (true, type + 256 * (rest % 2 ^ 56))

/-- The start, terminate and idle control blocks, of the types of IEEE 802.3 clause 49 (PRESUMED: assumption 113), and the
alignment marker of type 0x4B (R374). -/
def startBlk : LineBlk := ctlBlk 0x78 Config.startRest.toNat
def endBlk : LineBlk := ctlBlk 0x87 0
def idleBlk : LineBlk := ctlBlk 0x1E 0
def markerBlk (g pos count : Nat) : LineBlk := ctlBlk 0x4B (Config.markerRest g pos count).toNat

/-! ### Scrambler, symbols and precoder (R373) -/

/-- The self-synchronising scrambler x^58 + x^39 + 1 over bits in transmission order; `s` holds the last 58 scrambled bits,
the newest in bit 0. -/
def scramble : List Bool → Nat → List Bool × Nat
  | [], s => ([], s)
  | b :: t, s =>
    let o := b != (nbit s 38 != nbit s 57)
    let r := scramble t ((2 * s + b2n o) % 2 ^ 58)
    (o :: r.1, r.2)

/-- The receiver's descrambler. -/
def descramble : List Bool → Nat → List Bool × Nat
  | [], s => ([], s)
  | o :: t, s =>
    let r := descramble t ((2 * s + b2n o) % 2 ^ 58)
    ((o != (nbit s 38 != nbit s 57)) :: r.1, r.2)

/-- The payload's bits in transmission order, the least significant first. -/
def payloadBits (w : Nat) : List Bool := (List.range 64).map (nbit w)

/-- The sync header in transmission order, never scrambled: 01 before data, 10 before control. -/
def syncBits (ctl : Bool) : List Bool := [ctl, !ctl]

/-- Gray coding of a pair whose first bit is the more significant: 00, 01, 11, 10 are the symbols 0 to 3. -/
def graySym (a b : Bool) : Nat := 2 * b2n a + b2n (a != b)

/-- The pair of a symbol. -/
def grayPair (s : Nat) : Bool × Bool := (decide (2 ≤ s), decide (s = 1) || decide (s = 2))

/-- The symbols of bits taken in pairs. -/
def symbols : List Bool → List Nat
  | a :: b :: t => graySym a b :: symbols t
  | _ => []

/-- The bits of symbols. -/
def symbolBits (l : List Nat) : List Bool := l.flatMap (fun s => [(grayPair s).1, (grayPair s).2])

/-- The 1/(1+D) mod 4 precoder: p_n = (s_n − p_(n−1)) mod 4, after the symbol `p`. -/
def precode : List Nat → Nat → List Nat
  | [], _ => []
  | s :: t, p => (s + 4 - p) % 4 :: precode t ((s + 4 - p) % 4)

/-- The receiver's recovery: s_n = (p_n + p_(n−1)) mod 4. -/
def unprecode : List Nat → Nat → List Nat
  | [], _ => []
  | p :: t, q => (p + q) % 4 :: unprecode t p

/-! ### A lane's transmitter -/

/-- One block on a lane. -/
def LaneTx.block (pre : Bool) (b : LineBlk) (t : LaneTx) : List Nat × LaneTx :=
  let r := scramble (payloadBits b.2) t.scr
  let s := symbols (syncBits b.1 ++ r.1)
  let out := if pre then precode s t.sym else s
  (out, { t with
    scr := r.2
    sym := out.getLast?.getD t.sym
    blocks := t.blocks + 1 })

/-- Blocks on the lane at position `pos` of group `g`; every 16,384th block is the alignment marker. -/
def LaneTx.send (pre : Bool) (g pos : Nat) : List LineBlk → LaneTx → List Nat × LaneTx
  | [], t => ([], t)
  | b :: rest, t =>
    let mk : List Nat × LaneTx := if t.blocks < 16383 then ([], t) else
      let r := t.block pre (markerBlk g pos t.markers)
      (r.1, { r.2 with
        blocks := 0
        markers := t.markers + 1 })
    let x := mk.2.block pre b
    let y := LaneTx.send pre g pos rest x.2
    (mk.1 ++ x.1 ++ y.1, y.2)

/-! ### Units over a group (R374) -/

/-- The 64-bit words of a unit; what fills its last word is open (assumption 113). -/
def unitWords (bs : List Byte) : List Nat :=
  let full := bs ++ (List.range ((8 - bs.length % 8) % 8)).map Config.padByte
  (List.range (full.length / 8)).map (fun i => fieldAt full (8 * i) 8)

/-- The words that position `i` of `n` carries: dealt round robin from position 0. -/
def dealt (n i : Nat) (ws : List Nat) : List Nat :=
  (List.range ws.length).filterMap (fun j => if j % n = i then ws[j]? else none)

/-- Word `j` of a unit as the receiver takes it from the lanes' words. -/
def collected (n : Nat) (lanes : List (List Nat)) (j : Nat) : Option Nat := (lanes.getD (j % n) [])[j / n]?

/-- The blocks of a unit at position `i` of `n`: start, its words, terminate. -/
def unitBlocks (n i : Nat) (ws : List Nat) : List LineBlk := startBlk :: ((dealt n i ws).map dataBlk ++ [endBlk])

/-- What a lane has sent since the unit before: idle control blocks, and blocks of which the manual gives no layout
(assumption 113). -/
def Mod.gapBlocks (m : Mod) (k : Nat) : List LineBlk :=
  (Config.gapBlocks (128 * m.cmds + k)).map (fun b => match b with
    | some x => (x.1, x.2.toNat)
    | none => idleBlk)

/-- A lane's transmitter. -/
def Mod.laneTx (m : Mod) (k : Nat) : LaneTx := SMap.get (fun _ => LaneTx.fresh) m.pair.tx k

/-- A lane of position `i` among `n` sends its part of a unit. -/
def Mod.laneSend (g n i k : Nat) (ws : List Nat) (m : Mod) : Mod :=
  let st := Reg.SL_LANE_STATUS k
  let r := (m.laneTx k).send (m.flag st Fields.SL_LANE_STATUS.PRECODE) g (m.rd st Fields.SL_LANE_STATUS.POSITION)
    (m.gapBlocks k ++ unitBlocks n i ws)
  ({ m with pair := { m.pair with tx := SMap.set (fun _ => LaneTx.fresh) m.pair.tx k r.2 } } : Mod).emit (.lane k r.1)

/-- A unit is sent over the active lanes of a group. -/
def Mod.sendUnit (g : Nat) (bs : List Byte) (m : Mod) : Mod :=
  let l := m.activeLanes g
  m.each (List.range l.length) (fun i s => match l[i]? with
    | some k => s.laneSend g l.length i k (unitWords bs)
    | none => s)

end Sys2Proof.Machine
end

