-- ==== Sys2Proof/Machine/Plic.lean ====
section
/-!
DEFINITION. A core's interrupt controller after the RISC-V PLIC specification, mtime and mtimecmp (R135, R137, Table 6.2).
The spec gives the window no layout: the offsets here are those of assumption 64.
-/

namespace Sys2Proof.Machine

/-- A request of source `s` at a controller: pending, or kept by the gateway while the source is claimed. -/
def Plic.raise (s : Nat) (p : Plic) : Plic :=
  if p.claimed.contains s then { p with again := if p.again.contains s then p.again else p.again ++ [s] }
  else { p with pend := if p.pend.contains s then p.pend else p.pend ++ [s] }

/-- A source of a core raises its interrupt request. -/
def Mod.irqRaise (c s : Nat) (m : Mod) : Mod :=
  let h := m.hart c
  m.setHart c { h with plic := h.plic.raise s }

def Plic.prioOf (p : Plic) (s : Nat) : Nat := SMap.get (fun _ => 0) p.prio s
def Plic.enabled (p : Plic) (ctx s : Nat) : Bool := SMap.get (fun _ => false) p.enable (128 * ctx + s)
def Plic.thresholdOf (p : Plic) (ctx : Nat) : Nat := SMap.get (fun _ => 0) p.threshold ctx

/-- The source that a claim of a context takes: of the pending enabled sources with a priority above 0 the one with the
highest, of equals the lowest; 0 for none. -/
def Plic.best (p : Plic) (ctx : Nat) : Nat :=
  (allBelow 65 (fun s => p.pend.contains s && p.enabled ctx s && p.prioOf s != 0)).foldl
    (fun b s => if b = 0 ∨ p.prioOf b < p.prioOf s then s else b) 0

/-- A claim: the source is no longer pending. -/
def Plic.claim (ctx : Nat) (p : Plic) : Nat × Plic :=
  let s := p.best ctx
  if s = 0 then (0, p)
  else (s, { p with
    pend := p.pend.filter (fun k => k != s)
    claimed := p.claimed ++ [s] })

/-- A completion by a context that has the source enabled: a request kept by the gateway becomes pending. -/
def Plic.complete (ctx s : Nat) (p : Plic) : Plic :=
  if !p.enabled ctx s || !p.claimed.contains s then p
  else
    let p1 : Plic := { p with
      claimed := p.claimed.filter (fun k => k != s)
      again := p.again.filter (fun k => k != s) }
    if p.again.contains s then { p1 with pend := p1.pend ++ [s] } else p1

/-- Whether the controller asserts the external interrupt of a context (0 machine, 1 supervisor). -/
def Plic.asserts (p : Plic) (ctx : Nat) : Bool :=
  (List.range 65).any (fun s => p.pend.contains s && p.enabled ctx s && decide (p.thresholdOf ctx < p.prioOf s))

/-- 32 flags from source `32 j`, as a word. -/
def wordOf (f : Nat → Bool) (j : Nat) : Nat := (List.range 32).foldl (fun a i => a + (if f (32 * j + i) then 2 ^ i else 0)) 0

/-- A 32-bit read of the controller: the word, and the controller after it. -/
def Plic.read (off : Nat) (p : Plic) : Nat × Plic :=
  let j := off % 0x80 / 4
  let ctx := (off - 0x2000) / 0x80
  if off < 0x1000 then (if off / 4 ≤ 64 then p.prioOf (off / 4) else 0, p)
  else if off < 0x1080 then (wordOf (fun s => p.pend.contains s) j, p)
  else if 0x2000 ≤ off ∧ off < 0x2100 then (wordOf (p.enabled ctx) j, p)
  else if off = 0x8000 ∨ off = 0x9000 then (p.thresholdOf ((off - 0x8000) / 0x1000), p)
  else if off = 0x8004 ∨ off = 0x9004 then p.claim ((off - 0x8000) / 0x1000)
  else (0, p)

/-- The enable bits of context `ctx` after a write of its word `j`; source 0 does not exist. -/
def enableSet (e : List (Nat × Bool)) (ctx j v : Nat) : List (Nat × Bool) :=
  (List.range 32).foldl (fun e i =>
    if 1 ≤ 32 * j + i ∧ 32 * j + i ≤ 64 then SMap.set (fun _ => false) e (128 * ctx + 32 * j + i) (nbit v i) else e) e

/-- A 32-bit write of the controller. -/
def Plic.write (off v : Nat) (p : Plic) : Plic :=
  let j := off % 0x80 / 4
  let ctx := (off - 0x2000) / 0x80
  if off < 0x1000 then
    (if 1 ≤ off / 4 ∧ off / 4 ≤ 64 then { p with prio := SMap.set (fun _ => 0) p.prio (off / 4) (v % 8) } else p)
  else if 0x2000 ≤ off ∧ off < 0x2100 then
    { p with enable := enableSet p.enable ctx j v }
  else if off = 0x8000 ∨ off = 0x9000 then
    { p with threshold := SMap.set (fun _ => 0) p.threshold ((off - 0x8000) / 0x1000) (v % 8) }
  else if off = 0x8004 ∨ off = 0x9004 then p.complete ((off - 0x8000) / 0x1000) (v % 0x100000000)
  else p

/-- mtime: the ticks of 4 ns since cold reset (Table 6.1), which TTIME counts in ns (R303). -/
def Mod.mtime (m : Mod) : Nat := m.ttime / 4

/-- Whether a core's timer interrupt is pending: mtime has reached mtimecmp. -/
def Mod.timerPending (m : Mod) (c : Nat) : Bool := decide ((m.hart c).timecmp ≤ m.mtime)

/-- `n` bytes at offset `i` of a 64-bit number, and the number with them replaced. -/
def partOf (v i n : Nat) : Nat := v / 256 ^ i % 256 ^ n
def partPut (v i n w : Nat) : Nat := v - partOf v i n * 256 ^ i + w % 256 ^ n * 256 ^ i

end Sys2Proof.Machine
end

