-- ==== Sys2Proof/Machine/Flags.lean ====
section
/-!
DEFINITION. Event flags and what raising them does: W1C bits, fault event records and their staging
(R420 to R423), machine checks (R418), access errors (R3, R9, R29) and interrupts (R101 to R103).
-/

namespace Sys2Proof.Machine

/-! ### SOURCE codes (Table 18.4) -/

def srcGLB : Nat := 0x01
def srcPWR : Nat := 0x02
def srcHOST : Nat := 0x03
def srcHAT : Nat := 0x04
def srcMCS : Nat := 0x05
def srcSEQ : Nat := 0x06
def srcPRF : Nat := 0x07
def srcCH : Nat := 0x08
def srcHV : Nat := 0x09
def srcWAVE : Nat := 0x0A
def srcTIME : Nat := 0x0B
def srcCAL : Nat := 0x0C
def srcDRC : Nat := 0x0D
def srcDMA : Nat := 0x0E
def srcSL : Nat := 0x0F
def srcPLT : Nat := 0x10
def srcERR : Nat := 0x11
def srcLQ : Nat := 0x12

/-- SITE of a record that concerns no site (Table 18.3). -/
def noSite : Nat := 0xFF

/-! ### Records -/

/-- A record of a fault event, before it has its SEQ. -/
def Mod.faultRec (m : Mod) (cls source index code : Nat) (peer : Bool) (site reg addr : Nat) : FaultRec :=
  { ttime := BitVec.ofNat 64 m.ttime, seq := 0, cls := cls, source := source, index := index, code := code,
    peer := peer, site := site, reg := reg, addr := addr,
    value := if reg = 0 then 0#32 else m.reg reg }

/-- A record enters staging and takes the next SEQ (R421, R423). -/
def Mod.stageRec (r : FaultRec) (m : Mod) : Mod :=
  let f : Flt := { m.flt with
    seq := (m.flt.seq + 1) % 0x100000000
    staging := m.flt.staging ++ [{ r with seq := m.flt.seq }] }
  ({ m with flt := f } : Mod).setReg Reg.ERR_SEQ (BitVec.ofNat 32 m.flt.seq)

/-- The OVERFLOW record of R423. -/
def Mod.overflowRec (m : Mod) : FaultRec :=
  { ttime := BitVec.ofNat 64 m.ttime, seq := 0, cls := 1, source := srcERR, index := 0, code := 0,
    peer := false, site := noSite, reg := Reg.ERR_LOST, addr := 0, value := BitVec.ofNat 32 m.flt.lost }

/-- A record is posted (R420 to R423): staging holds 64 records and keeps one place for CLASS 4, which is
never counted as lost; a record that finds no place is counted in ERR_LOST, and an OVERFLOW record
precedes the first record after room has returned (assumption 8). A core die without power records nothing (R43). -/
def Mod.postRec (r : FaultRec) (m : Mod) : Mod :=
  let n := m.flt.staging.length
  if m.isLost 0 then m
  else if m.flt.lost = 0 then
    if n < 63 ∨ r.cls = 4 then m.stageRec r
    else { m.bump Reg.ERR_LOST Fields.ERR_LOST.COUNT with flt := { m.flt with lost := 1 } }
  else if n < 62 then
    let m1 := m.stageRec m.overflowRec
    ({ m1 with flt := { m1.flt with lost := 0 } } : Mod).stageRec r
  else if r.cls = 4 then m.stageRec r
  else { m.bump Reg.ERR_LOST Fields.ERR_LOST.COUNT with flt := { m.flt with lost := m.flt.lost + 1 } }

/-- Whether an event concerns the partner's work that this module has adopted (PEER; R427): a mirror sequencer or its
Proof ring, a DMA channel in a peer context, a core with an adopted step. -/
def Mod.peerWork (m : Mod) (source index reg : Nat) : Bool :=
  m.rd Reg.SL_STATUS Fields.SL_STATUS.STATE == 7 &&
    (((source == srcSEQ || source == srcPRF) && decide (16 ≤ index)) ||
    (source == srcDMA && decide (reg < Reg.XLT_INV) && (match SMap.get (fun _ => none) m.dma.runs index with
      | some r => decide (64 ≤ r.ctx)
      | none => false)) ||
    (source == srcMCS && (match (m.score index).step with
      | some (i, _) => (match m.inst i with
        | some x => decide (4096 ≤ x.queue)
        | none => false)
      | none => false)))

/-- A fault event posts one record (R420). -/
def Mod.post (cls source index code site reg addr : Nat) (m : Mod) : Mod :=
  m.postRec (m.faultRec cls source index code (m.peerWork source index reg) site reg addr)

/-- An event bit is set without posting anything. -/
def Mod.mark (reg : Nat) (f : Fld) (m : Mod) : Mod := m.wr reg f 1

/-- An event bit is set; when it goes from 0 to 1 it posts a record of class `cls` (R420). -/
def Mod.raise (cls source index site addr reg : Nat) (f : Fld) (m : Mod) : Mod :=
  if m.flag reg f then m else (m.mark reg f).post cls source index f.lo site reg addr

/-! ### Interrupts -/

/-- The vector-control word of an MSI-X entry masks it when bit 0 is 1. -/
def Mod.vecMasked (m : Mod) (v : Nat) : Bool := (m.reg (0x11000C + 16 * v)).getLsbD 0

/-- Bus Master Enable is set and no condition of R104 holds. -/
def Mod.pcieLive (m : Mod) : Bool :=
  m.flag Reg.HOST_STATUS Fields.HOST_STATUS.BME && !m.flag Reg.HOST_STATUS Fields.HOST_STATUS.HOLDING

/-- The pending bit of a vector. -/
def Mod.vecPending (m : Mod) (v : Nat) : Bool := (m.reg (0x111000 + 4 * (v / 32))).getLsbD (v % 32)

/-- A bit of a pending-bit word set or cleared. -/
def Mod.setPending (v : Nat) (b : Bool) (m : Mod) : Mod :=
  m.wr (0x111000 + 4 * (v / 32)) ⟨v % 32, 1⟩ (b2n b)

/-- A vector's interrupt becomes due (R103): its pending bit is set while the vector is masked or Bus
Master Enable is 0; otherwise its message waits to be sent. With the link down or in D3hot, where R104 says only that the
interrupt is held, the pending bit is set too; and a second interrupt on a vector whose message has not left yet joins it in
one message (DESIGN CHOICE: assumption 110). -/
def Mod.due (v : Nat) (m : Mod) : Mod :=
  if m.vecMasked v || !m.pcieLive then m.setPending v true
  else if m.pcie.due.contains v then m
  else { m with pcie := { m.pcie with due := m.pcie.due ++ [v] } }

/-- The event source, from 1, that a field of HOST_EVT_VEC0 or HOST_EVT_VEC1 assigns a vector (Table 4.9). -/
def evtSource (reg : Nat) (f : Fld) : Nat := (if reg = Reg.HOST_EVT_VEC0 then 1 else 5) + f.lo / 8

/-- An event source's interrupt becomes due: on its vector, and at source 1 to 8 of each management core's interrupt
controller (R101, R137, Table 4.9). -/
def Mod.dueAt (reg : Nat) (f : Fld) (m : Mod) : Mod :=
  (m.each (List.range 4) (fun k s => s.irqRaise (16 + k) (evtSource reg f))).due (m.rd reg f)

/-- A bit of PWR_EVENT rises: its record (class 3 for the events of Table 18.2 that take a die or the
module out of service) and the PWR_VEC interrupt (R101, Table 4.9; assumption 9). -/
def Mod.pwrEvent (cls : Nat) (f : Fld) (m : Mod) : Mod :=
  if m.flag Reg.PWR_EVENT f then m
  else (m.raise cls srcPWR 0 noSite 0 Reg.PWR_EVENT f).dueAt Reg.HOST_EVT_VEC0 Fields.HOST_EVT_VEC0.PWR_VEC

/-- Bit `f` of SL_EVENT is set; its interrupt is due where SL_IRQ_EN enables it, and it posts a record
where `posts` says so (Chapter 16). -/
def Mod.slEvent (posts : Bool) (cls index : Nat) (f : Fld) (m : Mod) : Mod :=
  let rise := !m.flag Reg.SL_EVENT f
  let m1 := if posts then m.raise cls srcSL index noSite 0 Reg.SL_EVENT f else m.mark Reg.SL_EVENT f
  m1.when (rise && (m.reg Reg.SL_IRQ_EN).getLsbD f.lo)
    (Mod.dueAt Reg.HOST_EVT_VEC0 Fields.HOST_EVT_VEC0.PAIR_VEC)

/-- Bit `f` of PLT_EVENT is set; its interrupt is due where PLT_IRQ_EN enables it (Chapter 17). -/
def Mod.pltEvent (posts : Bool) (index : Nat) (f : Fld) (m : Mod) : Mod :=
  let rise := !m.flag Reg.PLT_EVENT f
  let m1 := if posts && rise then (m.mark Reg.PLT_EVENT f).post 1 srcPLT index f.lo noSite Reg.PLT_EVENT 0
    else m.mark Reg.PLT_EVENT f
  m1.when (rise && (m.reg Reg.PLT_IRQ_EN).getLsbD f.lo)
    (Mod.dueAt Reg.HOST_EVT_VEC0 Fields.HOST_EVT_VEC0.PLT_VEC)

/-- Bit `f` of TIME_EVENT is set; TIME_VEC is due where TIME_IRQ_EN enables it, and REF_LOST posts a
record (R328). -/
def Mod.timeEvent (f : Fld) (m : Mod) : Mod :=
  let rise := !m.flag Reg.TIME_EVENT f
  let m1 := if f.lo = 0 then m.raise 1 srcTIME 0 noSite 0 Reg.TIME_EVENT f else m.mark Reg.TIME_EVENT f
  m1.when (rise && (m.reg Reg.TIME_IRQ_EN).getLsbD f.lo)
    (Mod.dueAt Reg.HOST_EVT_VEC1 Fields.HOST_EVT_VEC1.TIME_VEC)

/-! ### Machine checks -/

/-- The key of a unit in MCHK. -/
def mchkKey (source index : Nat) : Nat := 0x10000 * source + index

/-- Whether a unit other than a sequencer is in MCHK (R418). -/
def Mod.inMchk (m : Mod) (source index : Nat) : Bool := SMap.get badDefault m.hat.mchk (mchkKey source index)

def Mod.setMchk (source index : Nat) (b : Bool) (m : Mod) : Mod :=
  { m with hat := { m.hat with mchk := SMap.set badDefault m.hat.mchk (mchkKey source index) b } }

/-- A machine check is recorded (R418, R436): the first is latched in ERR_MCHK, ERR_COUNT counts it, a
record of class 2 is posted, and the unit is withheld. The unit's own work is ended by its chapter. -/
def Mod.machineCheck (source index cause site reg : Nat) (m : Mod) : Mod :=
  let m1 := if m.flag Reg.ERR_MCHK Fields.ERR_MCHK.VALID then m else
    (((m.wr Reg.ERR_MCHK Fields.ERR_MCHK.SOURCE source).wr Reg.ERR_MCHK Fields.ERR_MCHK.INDEX index).wr
      Reg.ERR_MCHK Fields.ERR_MCHK.CAUSE cause).wr Reg.ERR_MCHK Fields.ERR_MCHK.VALID 1
  ((m1.bump Reg.ERR_COUNT Fields.ERR_COUNT.MCHK).setMchk source index true).post 2 source index cause site reg 0

/-! ### Access errors -/

/-- A flag of ERR_ACCESS is set with the offset and initiator of the first event since the register was
all clear latched; each rise posts one record (R3, R9, R29, R420). -/
def Mod.accessFlag (f : Fld) (code off : Nat) (m : Mod) : Mod :=
  let m1 := if m.reg Reg.ERR_ACCESS = 0#32 then
      (m.wr Reg.ERR_ACCESS_INFO Fields.ERR_ACCESS_INFO.OFFSET off).wr Reg.ERR_ACCESS_INFO
        Fields.ERR_ACCESS_INFO.INIT code
    else m
  m1.raise 1 srcERR 0 noSite (m1.rd Reg.ERR_ACCESS_INFO Fields.ERR_ACCESS_INFO.OFFSET) Reg.ERR_ACCESS f

/-- An access of the wrong form or to no block: ACCESS_ERR (R3, R430). -/
def Mod.accessErr (i : Init) (off : Nat) (m : Mod) : Mod :=
  m.accessFlag Fields.ERR_ACCESS.ACCESS_ERR (initCode i) off

/-- A refused write: WR_REFUSED with its offset (R9). -/
def Mod.refuse (i : Init) (off : Nat) (m : Mod) : Mod :=
  m.accessFlag Fields.ERR_ACCESS.WR_REFUSED (initCode i) off

/-- A discarded BAR2 write: BAR2_WR_DISCARD with its offset and INIT code (R29, R361). -/
def Mod.bar2Discard (code off : Nat) (m : Mod) : Mod :=
  m.accessFlag Fields.ERR_ACCESS.BAR2_WR_DISCARD code off

/-- HOST_ERR: a flag is set, and HOST_ERR_INFO takes the queue and ring of the first error since
HOST_ERR was all clear (Tables 4.12, 4.13). -/
def Mod.hostErr (f : Fld) (queue cq : Nat) (m : Mod) : Mod :=
  let m1 := if m.reg Reg.HOST_ERR = 0#32 then
      (m.wr Reg.HOST_ERR_INFO Fields.HOST_ERR_INFO.QUEUE queue).wr Reg.HOST_ERR_INFO Fields.HOST_ERR_INFO.CQ cq
    else m
  m1.mark Reg.HOST_ERR f

/-- CTX_REFUSED: a queue or ring command was refused (R87). -/
def Mod.ctxRefused (queue cq : Nat) (m : Mod) : Mod := m.hostErr Fields.HOST_ERR.CTX_REFUSED queue cq

/-- Whether ALERT# is asserted (Chapter 2, R425). -/
def Mod.alert (m : Mod) : Bool :=
  m.reg Reg.PWR_EVENT != 0#32 || m.flag Reg.ERR_FATAL Fields.ERR_FATAL.VALID ||
    (m.flag Reg.ERR_MCHK Fields.ERR_MCHK.VALID && m.flag Reg.ERR_CFG Fields.ERR_CFG.ALERT_MCHK)

/-! ### The management firmware -/

/-- Whether the management firmware runs: a core past its boot ROM, with firmware that was valid (R79, R146, R341). -/
def Mod.firmwareRuns (m : Mod) : Bool :=
  !m.flag Reg.GLB_START_STATE Fields.GLB_START_STATE.FW_BAD &&
    (List.range 4).any (fun k => m.flag (Reg.MCS_MCORE_STATUS k) Fields.MCS_MCORE_STATUS.RUNNING)

end Sys2Proof.Machine
end

