-- ==== Sys2Proof/Machine/DrcErr.lean ====
section
/-!
DEFINITION. The GDDR7 controller's address mapping, open rows and errors (R344, R346, R348, R358, Table 14.6).
-/

namespace Sys2Proof.Machine

def Mod.setDrc (x : Drc) (m : Mod) : Mod := { m with drc := x }

/-- STATE and DEBT of a channel (Table 14.7). -/
def Mod.chState (m : Mod) (c : Nat) : Nat := m.rd (Reg.DRC_CH_STATUS c) Fields.DRC_CH_STATUS.STATE
def Mod.setChState (c v : Nat) (m : Mod) : Mod := m.wr (Reg.DRC_CH_STATUS c) Fields.DRC_CH_STATUS.STATE v
def Mod.debt (m : Mod) (c : Nat) : Nat := m.rd (Reg.DRC_CH_STATUS c) Fields.DRC_CH_STATUS.DEBT
def Mod.setDebt (c v : Nat) (m : Mod) : Mod := m.wr (Reg.DRC_CH_STATUS c) Fields.DRC_CH_STATUS.DEBT v

/-- log2 of the interleave grain. -/
def Mod.grain (m : Mod) : Nat := 8 + min 8 (m.rd Reg.DRC_MAP Fields.DRC_MAP.GRAIN)
def Mod.channelOf (m : Mod) (pa : Nat) : Nat := pa / 2 ^ m.grain % 32
def Mod.channelAddr (m : Mod) (pa : Nat) : Nat := pa / 2 ^ (m.grain + 5) * 2 ^ m.grain + pa % 2 ^ m.grain

def Mod.setRow (c bank : Nat) (r : Option Nat) (m : Mod) : Mod :=
  m.setDrc { m.drc with rows := SMap.set (fun _ => none) m.drc.rows (16 * c + bank) r }

/-- Every bank of a channel is precharged. -/
def Mod.prechargeAll (c : Nat) (m : Mod) : Mod := m.each (List.range 16) (fun b s => s.setRow c b none)

/-- A bit of DRC_EVENT is set for channel `c`: ERR_CH takes the channel of the first event since EVENT was all
clear, and each rise posts a fault event, but for a corrected error (R420). -/
def Mod.drcEvent (c addr : Nat) (f : Fld) (m : Mod) : Mod :=
  let e := Reg.DRC_EVENT
  let clear := (List.range 5).all (fun i => m.rd e ⟨i, 1⟩ == 0)
  let m1 := m.when clear (Mod.wr e Fields.DRC_EVENT.ERR_CH c)
  if f.lo = 2 then m1.mark e f
  else m1.raise (if f.lo = 4 then 3 else 1) srcDRC c noSite addr e f

/-- A device is out of service (R344, R359): its channels take no requests, and it is lost (Table 1.7). -/
def Mod.offlineDevice (c : Nat) (m : Mod) : Mod :=
  let d := c / 4
  let m1 := m.each (List.range 4) (fun i s => (s.prechargeAll (4 * d + i)).setChState (4 * d + i) 7)
  let gone (l : List Nat) : List Nat := l.filter (fun k => k / 4 != d)
  let m2 := m1.setDrc { m1.drc with waiting := gone m1.drc.waiting, slots := gone m1.drc.slots }
  let m3 := m2.wr Reg.GLB_DIE_STATUS ⟨8 + d, 1⟩ 0
  let m4 : Mod := { m3 with sys := { m3.sys with lost := SMap.set badDefault m3.sys.lost (8 + d) true } }
  m4.drcEvent c 0 Fields.DRC_EVENT.CH_OFFLINE

/-- An uncorrectable error of a channel (R358, R359): more than UE_LIMIT within 1 s take it out of service. -/
def Mod.drcUe (c group addr : Nat) (write : Bool) (m : Mod) : Mod :=
  let first := !m.flag Reg.DRC_EVENT Fields.DRC_EVENT.UE
  let m1 := m.when first (fun s =>
    s.wr64 Reg.DRC_ERR_ADDR_LO (addr % 0x800000000 + 0x800000000 * b2n write + 0x10000000000 * (group % 64)))
  let m2 := (m1.bump (Reg.DRC_CH_ERRCNT c) Fields.DRC_CH_ERRCNT.UE).drcEvent c addr Fields.DRC_EVENT.UE
  let recent := (SMap.get (fun _ => []) m.drc.ues c).filter (fun t => decide (m.ttime < t + 1000000000)) ++ [m.ttime]
  let m3 := m2.setDrc { m2.drc with ues := SMap.set (fun _ => []) m2.drc.ues c recent }
  m3.when (decide (max 1 (m.rd Reg.DRC_REF_CFG Fields.DRC_REF_CFG.UE_LIMIT) < recent.length)) (Mod.offlineDevice c)

end Sys2Proof.Machine
end

