-- ==== Sys2Proof/Machine/Charge.lean ====
section
/-!
DEFINITION. Charges for memory accesses (R31, R132, R356): the deficits of the arbiters of R116, the reservation buckets, and
what one access costs its group at the fabric request ports and at the GDDR7 channels.
-/

namespace Sys2Proof.Machine

/-! ### Registers of groups -/

/-- A register of the partner, as the journal has brought it (R395). -/
def Mod.peerReg (m : Mod) (off : Nat) : Word := SMap.get resetOf m.pair.regs off

/-- HAT_GRPg_CFG of a group, the partner's for a peer group (R399). -/
def Mod.grpCfg (m : Mod) (g : Nat) : Word := if g < 64 then m.reg (Reg.HAT_GRP_CFG g) else m.peerReg (Reg.HAT_GRP_CFG (g - 64))

/-- The weight of a group (R132). -/
def Mod.weight (m : Mod) (g : Nat) : Nat := fget Fields.HAT_GRP_CFG.WEIGHT (m.grpCfg g)

/-- SEQ_GRPg_RESV of a group, the partner's for a peer group. -/
def Mod.grpResv (m : Mod) (g : Nat) : Word :=
  if g < 64 then m.reg (Reg.SEQ_GRP_RESV g) else m.peerReg (Reg.SEQ_GRP_RESV (g - 64))

/-! ### Arbiters (R116)

Classes 0 to 8 are Hatch's, 32 to 63 the GDDR7 channels', 64 and 65 the fabric request ports to SRAM and to the DRC. -/

/-- The deficit of group `g` in class `c`. -/
def Hat.deficitOf (h : Hat) (c g : Nat) : Int := SMap.get (fun _ => (0 : Int)) h.deficit (128 * c + g)
def Hat.setDeficit (c g : Nat) (v : Int) (h : Hat) : Hat :=
  { h with deficit := SMap.set (fun _ => (0 : Int)) h.deficit (128 * c + g) (max (-65535) (min 65535 v)) }

/-- The group that holds the turn, and whether it still awaits its quantum. -/
def Hat.turn (h : Hat) (c : Nat) : Nat := SMap.get (fun _ => 0) h.cur c
def Hat.freshOf (h : Hat) (c : Nat) : Bool := SMap.get (fun _ => true) h.freshTurn c
def Hat.setTurn (c g : Nat) (fresh : Bool) (h : Hat) : Hat :=
  { h with cur := SMap.set (fun _ => 0) h.cur c g, freshTurn := SMap.set (fun _ => true) h.freshTurn c fresh }

/-- What an arbiter does where group `g` alone requests, with a quantum and a charge: the turn comes to the group, the
groups it passes have no entry and lose their deficits (R116), and the turn stays until the charge is met. A background
group is served in its round (R118). -/
def Hat.sole (c g quantum cost : Nat) (h : Hat) : Hat :=
  if quantum = 0 then { h with backgroundCur := SMap.set (fun _ => 0) h.backgroundCur c ((g + 1) % 128) }
  else
    let d := h.deficitOf c g
    let fresh := h.turn c != g || h.freshOf c
    let d1 : Int := if fresh then d + quantum else d
    let short := ((cost : Int) - d1).toNat
    let rounds := (short + quantum - 1) / quantum
    let passed := (g + 128 - h.turn c) % 128
    let keeps (k : Nat) : Bool := k / 128 != c || k % 128 == g ||
      (rounds == 0 && decide (passed ≤ (k % 128 + 128 - h.turn c) % 128))
    let h1 : Hat := { h with deficit := h.deficit.filter (fun e => keeps e.1) }
    (h1.setDeficit c g (d1 + rounds * quantum - cost)).setTurn c g false

/-! ### Reservation buckets (R356) -/

/-- RESV of a group, in 100 MB/s: 1/320 byte a ns at each channel. -/
def Mod.resv (m : Mod) (g : Nat) : Nat := fget Fields.SEQ_GRP_RESV.RESV (m.grpResv g)

/-- What a bucket holds now, in 1/320 byte. -/
def Mod.bucket (m : Mod) (c g : Nat) : Nat :=
  let b := SMap.get (fun _ => (0, 0)) m.drc.buckets (128 * c + g)
  min (320 * 65536) (b.1 + m.resv g * (m.ttime - b.2))

def Mod.setBucket (c g v : Nat) (m : Mod) : Mod :=
  m.setDrc { m.drc with buckets := SMap.set (fun _ => (0, 0)) m.drc.buckets (128 * c + g) (v, m.ttime) }

/-- The buckets of a group are settled before its RESV changes. -/
def Mod.settleBuckets (g : Nat) (m : Mod) : Mod :=
  m.each (List.range 32) (fun c s => s.setBucket c g (s.bucket c g))

/-! ### Charges -/

/-- Who an access is made for: its group, whether it is a refill (item 2 of R356), and whether a DMA channel makes it
(Table 2.9). -/
structure Payer where
  group : Nat
  refill : Bool
  dma : Bool

/-- An access on behalf of a context's group; for the peer contexts a peer group. -/
def payer (ctx : Nat) : Payer := ⟨ctx, false, false⟩

/-- The charge of one burst: a DMA channel is limited to half of its share from throttle level 2 on (Table 2.9). -/
def Mod.burstCost (m : Mod) (dma : Bool) : Nat :=
  if dma && decide (2 ≤ m.rd Reg.PWR_STATUS Fields.PWR_STATUS.LEVEL) then 128 else 64

/-- `n` bursts at channel `c` find no other request there (assumption 59): those of a refill that the group's bucket
covers are taken from it (item 2), the rest are charged under R116 with a quantum of 256 × WEIGHT (item 3). -/
def Mod.chargeChannel (p : Payer) (c n : Nat) (m : Mod) : Mod :=
  let b := m.bucket c p.group
  let two := if p.refill then min n (b / (320 * 64)) else 0
  let m1 := m.when (two != 0) (Mod.setBucket c p.group (b - 320 * 64 * two))
  m1.when (decide (two < n)) (fun s =>
    { s with hat := s.hat.sole (32 + c) p.group (256 * s.weight p.group) (s.burstCost p.dma * (n - two)) })

/-- A range of physical addresses, grain by grain of the interleave (R346). -/
def Mod.chargeBursts (p : Payer) : Nat → Nat → Nat → Mod → Mod
  | 0, _, _, m => m
  | fuel + 1, a, n, m =>
    if n = 0 then m
    else
      let k := min n (2 ^ m.grain - a % 2 ^ m.grain)
      chargeBursts p fuel (a + k) (n - k) (m.chargeChannel p (m.channelOf a) ((a + k - 1) / 64 - a / 64 + 1))

/-- Requests of at most 4,096 bytes pass a fabric request port (Table 5.8): class 64 to SRAM, 65 to the DRC. -/
def Mod.chargePort (p : Payer) (cls : Nat) : Nat → Nat → Mod → Mod
  | 0, _, m => m
  | fuel + 1, n, m =>
    if n = 0 then m
    else chargePort p cls fuel (n - min n 4096)
      { m with hat := m.hat.sole cls p.group (64 * m.weight p.group) (min n 4096) }

/-- An access of `n` bytes of GDDR7 at physical address `a` is charged to its group (R31). -/
def Mod.chargeGddr (p : Payer) (a n : Nat) (m : Mod) : Mod :=
  (m.chargePort p 65 (n / 4096 + 1) n).chargeBursts p (n / 256 + 2) a n

/-- An access of `n` bytes of SRAM is charged to its group. -/
def Mod.chargeSram (p : Payer) (n : Nat) (m : Mod) : Mod := m.chargePort p 64 (n / 4096 + 1) n

end Sys2Proof.Machine
end

