-- ==== Sys2Proof/Machine/Operands.lean ====
section
/-!
DEFINITION. How a command's address operands reach memory: the translation unit XLT (R360 to R363), device
reads and writes of GDDR7, SRAM and host memory, and the rights of the SRAM regions (Table 1.4, R29).
-/

namespace Sys2Proof.Machine

/-! ### SRAM regions (Table 1.4) -/

/-- The row of Table 1.4 that a BAR2 offset lies in, from 0. -/
def sramRegion (a : Nat) : Nat :=
  if a < 0x400000 then 0 else if a < 0x800000 then 1 else if a < 0xA00000 then 2
  else if a < 0xC00000 then 3 else if a < 0xD00000 then 4 else if a < 0xE00000 then 5
  else if a < 0xF80000 then 6 else 7

/-- The core whose local memory holds a BAR2 offset of region 6: its register address and HOLD. -/
def Mod.coreHeld (m : Mod) (a : Nat) : Bool :=
  if a < 0xF00000 then
    m.flag (Reg.MCS_SCORE_CTRL ((a - 0xE00000) / 0x10000)) Fields.MCS_SCORE_CTRL.HOLD
  else m.flag (Reg.MCS_MCORE_CTRL ((a - 0xF00000) / 0x20000)) Fields.MCS_MCORE_CTRL.HOLD

/-- Whether sequencer `n` is running: its STATE is neither IDLE nor MCHK (Table 7.13). -/
def Mod.seqRunning (m : Mod) (n : Nat) : Bool :=
  let st := m.rd (Reg.SEQ_STATUS n) Fields.SEQ_STATUS.STATE
  st != 0 && st != 6

/-- Whether any sequencer is running. -/
def Mod.anySeqRunning (m : Mod) : Bool := (List.range 32).any (fun n => m.seqRunning n)

/-- Whether a write to an SRAM byte from outside its owning unit is applied (Table 1.4, R29, R150). -/
def Mod.sramWritable (m : Mod) (a : Nat) : Bool :=
  match sramRegion a with
  | 4 | 5 => true
  | 6 => m.coreHeld a
  | 7 => !m.anySeqRunning && !m.flag Reg.MCS_STATUS Fields.MCS_STATUS.CHECKING
  | _ => false

/-- What a write to the control store does besides storing: LOADED clears (R150). -/
def Mod.storeWritten (a n : Nat) (m : Mod) : Mod :=
  m.when (decide (n ≠ 0 ∧ a < 0xFA0000 ∧ 0xF80000 < a + n))
    (Mod.wr Reg.MCS_STATUS Fields.MCS_STATUS.LOADED 0)

/-! ### Translation (R360) -/

/-- Where a translated address lies. -/
inductive Place where
  | gddr (pa : Nat)
  | host (addr : Nat)
  | sram (off : Nat)
  deriving DecidableEq, Repr

/-- The direction of an access (Table 15.12). -/
inductive Dir where
  | read | write | fetch
  deriving DecidableEq, Repr

def Dir.code : Dir → Nat
  | .read => 0
  | .write => 1
  | .fetch => 2

/-- The result of a walk: a leaf, or a fault with its cause (Table 15.3) and level. -/
inductive Walk where
  | leaf (t : Tlb)
  | fault (cause level : Nat)
  deriving DecidableEq, Repr

/-- Index of a device address at a level (Table 15.1). -/
def walkIndex (level va : Nat) : Nat :=
  match level with
  | 0 => nbits va 39 9
  | 1 => nbits va 30 9
  | 2 => nbits va 21 9
  | _ => nbits va 16 5

/-- Whether a leaf entry breaks the format of Table 15.2 at its level (cause 3). -/
def leafBad (level e : Nat) : Bool :=
  let addr := e / 256 * 256
  nbits e 6 2 != 0 || decide (level < 2) || nbits e 2 2 == 3 ||
    (if level = 2 then addr % 0x200000 != 0 else addr % 0x10000 != 0)

/-- Whether a table pointer breaks its format (cause 3): reserved bits, level 3, alignment, range. -/
def pointerBad (level e : Nat) : Bool :=
  let addr := e / 256 * 256
  nbits e 2 6 != 0 || decide (level = 3) || decide (0x800000000 ≤ addr) ||
    (if level = 2 then addr % 0x100 != 0 else addr % 0x1000 != 0)

/-- Whether a leaf maps outside its target (cause 4). -/
def leafRange (level e : Nat) : Bool :=
  let addr := e / 256 * 256
  let size := if level = 2 then 0x200000 else 0x10000
  (nbits e 2 2 == 0 && decide (0x800000000 < addr + size)) ||
    (nbits e 2 2 == 2 && decide (0x1000000 < addr + size))

/-- The GDDR7 device that holds a physical address (R346). -/
def Mod.gddrDevice (m : Mod) (a : Nat) : Nat :=
  a / 2 ^ (8 + min 8 (m.rd Reg.DRC_MAP Fields.DRC_MAP.GRAIN)) % 32 / 4

/-- Whether the device of a physical address is out of service (R344, R359). -/
def Mod.gddrOff (m : Mod) (a : Nat) : Bool := m.isLost (8 + m.gddrDevice a)

/-! Contexts 64 to 127 are the peer contexts of R387: context `64 + g` walks the partner's tables of group `g`. -/

/-- A register of a group or context that the partner's journal carries for peer groups. -/
def Mod.ctxReg (m : Mod) (f : Nat → Nat) (ctx : Nat) : Word := if ctx < 64 then m.reg (f ctx) else m.peerReg (f (ctx - 64))

/-- Base and size of a mirror region of the partner: LOCAL, PEER, SIZE in bytes, EN (R386). -/
def Mod.peerRegion (m : Mod) (k : Nat) : Nat × Nat × Nat × Bool :=
  let c := m.peerReg (Reg.SL_MRGN_CFG k)
  (0x200000 * fget Fields.SL_MRGN_LOCAL.BASE (m.peerReg (Reg.SL_MRGN_LOCAL k)),
   0x200000 * fget Fields.SL_MRGN_PEER.BASE (m.peerReg (Reg.SL_MRGN_PEER k)),
   0x200000 * max 1 (fget Fields.SL_MRGN_CFG.SIZE c), fget Fields.SL_MRGN_CFG.EN c == 1)

/-- An address in the partner's GDDR7 mapped through the mirror regions by local base to peer base (R387). -/
def Mod.peerMap (m : Mod) (pa : Nat) : Option Nat :=
  match firstBelow (fun k => match m.peerRegion k with
    | (l, _, s, e) => e && decide (l ≤ pa) && decide (pa < l + s)) 16 with
  | some k => match m.peerRegion k with
    | (l, p, _, _) => some (p + (pa - l))
  | none => none

/-- An address of a walk in a context. -/
def Mod.ctxMap (m : Mod) (ctx pa : Nat) : Option Nat := if ctx < 64 then some pa else m.peerMap pa

/-- What a leaf yields in a context: in a peer context a GDDR7 frame is mapped, and an SRAM leaf or a frame outside
every region faults (R387). -/
def Mod.ctxLeaf (m : Mod) (ctx level : Nat) (t : Tlb) : Walk :=
  if ctx < 64 ∨ t.target = 1 then .leaf t
  else if t.target = 2 then .fault 4 level
  else match m.peerMap t.frame with
    | some a => .leaf { t with frame := a }
    | none => .fault 4 level

/-- The walk of R360 from the table at `table`, for `fuel` levels. -/
def Mod.walkFrom (m : Mod) (ctx va : Nat) : Nat → Nat → Nat → Walk
  | 0, level, _ => .fault 3 level
  | fuel + 1, level, table =>
    match m.ctxMap ctx (table + 8 * walkIndex level va) with
    | none => .fault 4 level
    | some a =>
    if badIn m.gddrBad 64 a 8 || m.gddrOff a then .fault 7 level
    else
      let e := ofBytes (memRead m.gddr a 8)
      if nbits e 0 1 = 0 then .fault 2 level
      else if nbits e 1 1 = 1 then
        if leafBad level e then .fault 3 level
        else if leafRange level e then .fault 4 level
        else
          let page := if level = 2 then va / 0x200000 else va / 0x10000
          m.ctxLeaf ctx level ⟨ctx, level == 2, page, nbits e 2 2, e / 256 * 256, nbit e 4, nbit e 5⟩
      else if pointerBad level e then .fault 3 level
      else m.walkFrom ctx va fuel (level + 1) (e / 256 * 256)

/-- The root of a context (Table 15.12). -/
def Mod.ctxRoot (m : Mod) (ctx : Nat) : Nat :=
  0x1000 * fget Fields.XLT_CTX_ROOT_LO.ROOT_L (m.ctxReg Reg.XLT_CTX_ROOT_LO ctx) +
    0x100000000 * fget Fields.XLT_CTX_ROOT_HI.ROOT_H (m.ctxReg Reg.XLT_CTX_ROOT_HI ctx)

/-- The walk of a device address through the tables as they stand. -/
def Mod.walk (m : Mod) (ctx va : Nat) : Walk :=
  if fget Fields.XLT_CTX_ROOT_LO.EN (m.ctxReg Reg.XLT_CTX_ROOT_LO ctx) = 1 then m.walkFrom ctx va 4 0 (m.ctxRoot ctx)
  else .fault 1 0

/-- The cached translation of an address, if the cache holds one (R362). -/
def Mod.cachedXlt (m : Mod) (ctx va : Nat) : Option Tlb :=
  m.tlb.find? (fun t => t.ctx == ctx && (if t.large then t.page == va / 0x200000 else t.page == va / 0x10000))

/-- The translation in use: a cached entry, unless the cache has evicted it (an order that is not
specified: a free value, assumption 10), or the walk. -/
def Mod.lookup (m : Mod) (ctx va : Nat) : Walk :=
  match m.cachedXlt ctx va with
  | some t => if (m.free (2048 + (va / 0x10000 + ctx) % 2048)).getLsbD 0 then m.walk ctx va else .leaf t
  | none => m.walk ctx va

/-- A leaf with the rights of a direction checked (causes 5 and 6). -/
def checkRights (dir : Dir) : Walk → Walk
  | .fault c l => .fault c l
  | .leaf t =>
    match dir with
    | .write => if t.w then .leaf t else .fault 5 (if t.large then 2 else 3)
    | .fetch => if t.x then .leaf t else .fault 6 (if t.large then 2 else 3)
    | .read => .leaf t

/-- Where an address of a leaf lies. -/
def leafPlace (t : Tlb) (va : Nat) : Place :=
  let a := t.frame + (if t.large then va % 0x200000 else va % 0x10000)
  match t.target with
  | 0 => .gddr a
  | 1 => .host a
  | _ => .sram a

/-- A device address translated for an access: its place, or the fault's cause and level. -/
def Mod.xlate (m : Mod) (ctx va : Nat) (dir : Dir) : Except (Nat × Nat) Place :=
  match checkRights dir (m.lookup ctx va) with
  | .leaf t => .ok (leafPlace t va)
  | .fault c l => .error (c, l)

/-- The table entry at which a walk from `table` meets poisoned data. -/
def Mod.walkPoison (m : Mod) (ctx va : Nat) : Nat → Nat → Nat → Option Nat
  | 0, _, _ => none
  | fuel + 1, level, table =>
    match m.ctxMap ctx (table + 8 * walkIndex level va) with
    | none => none
    | some a =>
      if badIn m.gddrBad 64 a 8 then some a
      else m.walkPoison ctx va fuel (level + 1) (ofBytes (memRead m.gddr a 8) / 256 * 256)

/-- A walk that ends with cause 7 has met poisoned data, where its device is in service: the DRC records the error of
its own read (R358, R360). -/
def Mod.walkUe (ctx va cause : Nat) (m : Mod) : Mod :=
  if cause = 7 then
    match m.walkPoison ctx va 4 0 (m.ctxRoot ctx) with
    | some a => if m.gddrOff a then m else m.drcUe (m.channelOf a) (ctx % 64) a false
    | none => m
  else m

/-- A translation fault is latched in its context (R363): the first is kept, later ones count in MORE,
and XLT_FLT_MAP rising from all zero posts a record. `req` and `index` are those of Table 15.12. -/
def Mod.xltFault (ctx va : Nat) (dir : Dir) (cause level req index : Nat) (m0 : Mod) : Mod :=
  let m := m0.walkUe ctx va cause
  let info := Reg.XLT_CTX_FLT_INFO ctx
  -- a peer context has no latch
  if 64 ≤ ctx then m
  else if m.flag info Fields.XLT_CTX_FLT_INFO.VALID then m.bump info Fields.XLT_CTX_FLT_INFO.MORE
  else
    let m1 := (((((((m.wr64 (Reg.XLT_CTX_FLT_ADDR_LO ctx) va).wr info Fields.XLT_CTX_FLT_INFO.VALID 1).wr info
      Fields.XLT_CTX_FLT_INFO.DIR dir.code).wr info Fields.XLT_CTX_FLT_INFO.CAUSE cause).wr info
      Fields.XLT_CTX_FLT_INFO.LEVEL level).wr info Fields.XLT_CTX_FLT_INFO.REQ req).wr info
      Fields.XLT_CTX_FLT_INFO.INDEX index)
    let m2 := m1.wr (Reg.XLT_FLT_MAP_LO + 4 * (ctx / 32)) ⟨ctx % 32, 1⟩ 1
    m2.when (m.rd64 Reg.XLT_FLT_MAP_LO == 0)
      (Mod.post 1 srcDMA ctx (ctx % 32) noSite (Reg.XLT_FLT_MAP_LO + 4 * (ctx / 32)) va)

/-! ### Reading and writing by device address -/

/-- Why a device read or write ended early: a translation fault, an error of the host (PCIe error
completion or timeout), poisoned data, a GDDR7 device out of service (R344, R359). -/
inductive MemErr where
  | xlt (cause level : Nat)
  | bus
  | poison
  | offline
  deriving DecidableEq, Repr

/-- The byte at a place; host memory is what the command carries (an address it does not list answers
with an error). -/
def Mod.placeByte (m : Mod) (host : List Host.Cell) : Place → Except MemErr Byte
  | .gddr a =>
    if m.gddrOff a then .error .offline
    else if SMap.get badDefault m.gddrBad (a / 64) then .error .poison
    else .ok (memByte m.gddr a)
  | .sram a => if SMap.get badDefault m.sramBad (sramKey a) then .error .poison else .ok (memByte m.sram a)
  | .host a => match SMap.find host a with
    | some b => .ok b
    | none => .error .bus

/-- One byte at a device address. -/
def Mod.devByte (m : Mod) (ctx : Nat) (dir : Dir) (host : List Host.Cell) (va : Nat) : Except MemErr Byte :=
  match m.xlate ctx va dir with
  | .ok p => m.placeByte host p
  | .error (c, l) => .error (.xlt c l)

/-- `n` bytes from a device address; an error comes with the number of bytes read before it. -/
def Mod.devRead (m : Mod) (ctx : Nat) (host : List Host.Cell) (va : Nat) : Nat → Nat → Except (MemErr × Nat) (List Byte)
  | 0, _ => .ok []
  | n + 1, done =>
    match m.devByte ctx .read host va with
    | .error e => .error (e, done)
    | .ok b =>
      match m.devRead ctx host (va + 1) n (done + 1) with
      | .ok t => .ok (b :: t)
      | .error e => .error e

/-- A write that covers a burst with an uncorrectable error only in part, or a read that meets one: the DRC records it
(R358). -/
def Mod.placeUe (ctx : Nat) (write : Bool) (p : Place) (m : Mod) : Mod :=
  match p with
  | .gddr a => m.drcUe (m.channelOf a) (ctx % 64) a write
  | _ => m

/-- The DRC's record of a read that poisoned data ended (R358). -/
def Mod.readUe (ctx va : Nat) (e : MemErr) (m : Mod) : Mod :=
  match e, m.xlate ctx va .read with
  | .poison, .ok (.gddr a) => if SMap.get badDefault m.gddrBad (a / 64) then m.placeUe ctx false (.gddr a) else m
  | _, _ => m

/-- `n` bytes from a device address as a record, from the start. -/
def Mod.devRecord (m : Mod) (ctx : Nat) (host : List Host.Cell) (va n : Nat) : Except (MemErr × Nat) (List Byte) :=
  m.devRead ctx host va n 0

/-- Whether writing `n` bytes at a place meets a unit with an uncorrectable error that it covers only in
part (R434). -/
def Mod.placePartBad (m : Mod) (p : Place) (n : Nat) : Bool :=
  match p with
  | .gddr a => partBad m.gddrBad 64 a n
  | .sram a => sramPartBad m.sramBad a n
  | .host _ => false

/-- Whether a write at a place meets a device out of service. -/
def Mod.placeOff (m : Mod) (p : Place) (n : Nat) : Bool :=
  match p with
  | .gddr a => (List.range ((a % 256 + n + 255) / 256)).any (fun i => m.gddrOff (a + 256 * i))
  | _ => false

/-- Whether the module is in a working pair: the pair's STATE is ACTIVE (R380). -/
def Mod.pairActive (m : Mod) : Bool := m.rd Reg.SL_STATUS Fields.SL_STATUS.STATE == 4

/-- A write into an enabled mirror region is forwarded to the partner (R386): kind 20, the partner's address and
the bytes that lie in the region. A region ends at 2^35. -/
def Mod.forward (pa : Nat) (bs : List Byte) (m : Mod) : Mod :=
  if !m.pairActive then m
  else m.each (List.range 16) (fun k s =>
    let c := Reg.SL_MRGN_CFG k
    let l := 0x200000 * s.rd (Reg.SL_MRGN_LOCAL k) Fields.SL_MRGN_LOCAL.BASE
    let e := min 0x800000000 (l + 0x200000 * max 1 (s.rd c Fields.SL_MRGN_CFG.SIZE))
    let from_ := max l pa
    let to_ := min e (pa + bs.length)
    if s.flag c Fields.SL_MRGN_CFG.EN && decide (from_ < to_) then
      let dst := 0x200000 * s.rd (Reg.SL_MRGN_PEER k) Fields.SL_MRGN_PEER.BASE + (from_ - l)
      s.emit (.siteLink 20 (dst :: (((bs.drop (from_ - pa)).take (to_ - from_)).map BitVec.toNat)))
    else s)

/-- A write into the DDS-list region is forwarded into the partner's shadow (R388): kind 21, the offset within the
region and the bytes. -/
def Mod.forwardList (a : Nat) (bs : List Byte) (m : Mod) : Mod :=
  m.when (m.pairActive && sramRegion a == 4) (Mod.emit (.siteLink 21 ((a - 0xC00000) :: bs.map BitVec.toNat)))

/-- Whether data writes to host memory carry Relaxed Ordering (R100). -/
def Mod.dataRo (m : Mod) : Bool := m.flag Reg.HOST_CTRL Fields.HOST_CTRL.DATA_RO && m.pcie.ero

/-- An access at a place is charged to its group (R31); host memory has no arbiter of Table 5.8. -/
def Mod.chargePlace (w : Payer) (p : Place) (n : Nat) (m : Mod) : Mod :=
  match p with
  | .gddr a => m.chargeGddr w a n
  | .sram _ => m.chargeSram w n
  | .host _ => m

/-- A read of `n` bytes at a device address is charged page by page of 64 KiB. -/
def Mod.chargeRead (w : Payer) (ctx : Nat) : Nat → Nat → Nat → Mod → Mod
  | 0, _, _, m => m
  | fuel + 1, va, n, m =>
    if n = 0 then m
    else
      let k := min n (0x10000 - va % 0x10000)
      let m1 := match m.xlate ctx va .read with
        | .ok p => m.chargePlace w p k
        | .error _ => m
      chargeRead w ctx fuel (va + k) (n - k) m1

/-- A read through context `ctx` for its own group. -/
def Mod.charged (ctx va n : Nat) (m : Mod) : Mod := m.chargeRead (payer ctx) ctx (n / 0x10000 + 2) va n

/-- Bytes written at a place within one page. Writes of cores, REGWR and the DMA write engines (INIT codes up to 23)
are forwarded to the partner of a pair. -/
def Mod.placeWrite (code : Nat) (p : Place) (bs : List Byte) (m : Mod) : Mod :=
  match p with
  | .gddr a => (m.gddrPut a bs).when (decide (code < 24)) (Mod.forward a bs)
  | .sram a =>
    if (List.range bs.length).all (fun i => m.sramWritable (a + i)) then
      ((m.sramPut a bs).storeWritten a bs.length).when (decide (code < 24)) (Mod.forwardList a bs)
    else m.bar2Discard code a
  | .host a => m.emit (.hostWrite a bs m.dataRo)

/-- Bytes written at a device address, page by page of 64 KiB; an error comes with the number of bytes
written before it. -/
def Mod.devWrite (code ctx : Nat) : Nat → Nat → List Byte → Nat → Mod → Except (MemErr × Nat × Mod) Mod
  | 0, _, _, _, m => .ok m
  | fuel + 1, va, bs, done, m =>
    if bs.isEmpty then .ok m
    else
      let n := 0x10000 - va % 0x10000
      let part := bs.take n
      match m.xlate ctx va .write with
      | .error (c, l) => .error (.xlt c l, done, m)
      | .ok p =>
        if m.placeOff p part.length then .error (.offline, done, m)
        else if m.placePartBad p part.length then .error (.poison, done, m.placeUe ctx true p)
        else devWrite code ctx fuel (va + part.length) (bs.drop n) (done + part.length) 
          ((m.chargePlace ⟨ctx, false, code == 23⟩ p part.length).placeWrite code p part)

/-- A record written at a device address. -/
def Mod.devPut (code ctx va : Nat) (bs : List Byte) (m : Mod) : Except (MemErr × Nat × Mod) Mod :=
  Mod.devWrite code ctx (bs.length / 0x10000 + 2) va bs 0 m

end Sys2Proof.Machine
end

