-- ==== Sys2Proof/WellFormed.lean ====
section
/-!
DEFINITION. Which commands are well-formed: their operands name units, registers and values that the
module has. One check for each command that has an operand to check.
-/

namespace Sys2Proof

/-- An initiator of R4. -/
def Init.wf : Init → Bool
  | .host => true
  | .score n => decide (n < 16)
  | .mcore k => decide (k < 4)
  | .regwr c => decide (c < 32)
  | .profile => true

/-- A core's access of `n` bytes. -/
def CoreAcc.wf (n : Nat) : CoreAcc → Bool
  | .load => true
  | .fetch => true
  | .store l => decide (l.length = n)
  | .lr => true
  | .sc l => decide (l.length = n)
  | .amo l => decide (l.length = n)

/-- A token frame of one of the two pin dies, for one of its ports. -/
def TokenFrame.wf : TokenFrame → Bool
  | .burst p d _ => decide (p < 16) && decide (d < 2)
  | .failed p _ => decide (p < 16)
  | .iteration p _ _ sel => decide (p < 16) && sel.all (fun e => decide (e.1 < 256))
  | .result _ _ st _ _ => decide (st < 256)

/-- A control frame: the 48 bytes of ARGS. -/
def CtlFrame.wf (f : CtlFrame) : Bool := decide (f.args.length = 48)

/-- A frame of H0: one of its eight generators, or a control frame. -/
def H0Frame.wf : H0Frame → Bool
  | .control f => f.wf
  | .entry g _ _ _ _ _ => decide (g < 8)

/-- A binding that R87 admits. -/
def QueueCtx.wf (c : QueueCtx) : Bool :=
  decide (c.queue < 4096) && decide (c.cq < 64) && decide (4 ≤ c.sizeLog2) && decide (c.sizeLog2 ≤ 16)

/-- A BAR0 offset: 64 MiB (R81). -/
def offWf (off : Nat) : Bool := decide (off < 0x4000000)


/-- The operands of MALFORMED_ACCESS. -/
def Wf.malformedAccess (init : Init) (off : Nat) (width : Nat) : Bool :=
  init.wf && offWf off && decide (1 ≤ width) && (decide (width ≠ 4) || decide (off % 4 ≠ 0))

/-- The operands of PAIR_LOW_READ. -/
def Wf.pairLowRead (init : Init) (off : Nat) : Bool :=
  init.wf && offWf off

/-- The operands of PAIR_LOW_WRITE. -/
def Wf.pairLowWrite (init : Init) (off : Nat) : Bool :=
  init.wf && offWf off

/-- The operands of PAIR_HIGH_WRITE. -/
def Wf.pairHighWrite (init : Init) (off : Nat) : Bool :=
  init.wf && offWf off

/-- The operands of REGISTER_WRITE. -/
def Wf.registerWrite (init : Init) (off : Nat) : Bool :=
  init.wf && offWf off

/-- The operands of PLINK_BLOCK_RECEIVE. -/
def Wf.plinkBlockReceive (n : Nat) (die : Nat) : Bool :=
  decide (n < 32) && decide (die < 2)

/-- The operands of REFILL_BLOCK_COMPLETE. -/
def Wf.refillBlockComplete (n : Nat) : Bool :=
  decide (n < 32)

/-- The operands of LINK_BLOCK_CLOSE. -/
def Wf.linkBlockClose (n : Nat) : Bool :=
  decide (n < 32)

/-- The operands of XING_OVF. -/
def Wf.xingOvf (k : Nat) (unit : Option (Nat × Nat)) : Bool :=
  decide (k < 256) && unit.all (fun u => decide (u.1 < 16) && decide (u.2 < 64))

/-- The operands of SRAM_UE. -/
def Wf.sramUe (a : Nat) : Bool :=
  decide (a < 0x1000000)

/-- The operands of SRAM_CE. -/
def Wf.sramCe (a : Nat) : Bool :=
  decide (a < 0x1000000)

/-- The operands of HOST_BAR2_READ. -/
def Wf.hostBar2Read (off : Nat) (len : Nat) : Bool :=
  decide (1 ≤ len) && decide (len ≤ 4096) && decide (off + len ≤ 0x1000000)

/-- The operands of HOST_BAR2_WRITE. -/
def Wf.hostBar2Write (off : Nat) (data : List (Option Byte)) : Bool :=
  !data.isEmpty && decide (data.length ≤ 4096) && decide (off + data.length ≤ 0x1000000)

/-- The operands of FORWARDED_CLOCK_LOSS. -/
def Wf.forwardedClockLoss (d : Nat) : Bool :=
  decide (d < 3)

/-- The operands of H0_FRAME_RECEIVE. -/
def Wf.h0FrameReceive (f : H0Frame) : Bool :=
  f.wf

/-- The operands of HV_SUPPLY. -/
def Wf.hvSupply (i : Nat) : Bool :=
  decide (i < 3)

/-- The operands of HGND_RANGE. -/
def Wf.hgndRange (ofs : Int) : Bool :=
  decide (ofs.natAbs < 2048)

/-- The operands of RAIL_FAULT. -/
def Wf.railFault (r : Nat) : Bool :=
  decide (r < 22)

/-- The operands of DRIVER_DISCONNECT. -/
def Wf.driverDisconnect (d : Nat) : Bool :=
  decide (d < 2)

/-- The operands of TRIP. -/
def Wf.trip (k : Nat) (t : Int) : Bool :=
  decide (k < 17) && decide (t.natAbs < 2048)

/-- The operands of GOVERNOR_SAMPLE. -/
def Wf.governorSample (temps : List (Nat × Int × Bool)) : Bool :=
  temps.all (fun x => decide (x.1 < 17) && decide (x.2.1.natAbs < 2048))

/-- The operands of UNIT_START. -/
def Wf.unitStart (u : Nat) : Bool :=
  decide (u < 50) && decide (u ≠ 29)

/-- The operands of START_FAIL. -/
def Wf.startFail (u : Nat) : Bool :=
  decide (u < 30)

/-- The operands of COLD_RESET_RELEASE. -/
def Wf.coldResetRelease (prof : Nat) : Bool :=
  decide (prof < 4)

/-- The operands of GDDR7_TRAINING_COMPLETE. -/
def Wf.gddr7TrainingComplete (bad : Nat) : Bool :=
  decide (bad < 256)

/-- The operands of PLINK_TRAINED. -/
def Wf.plinkTrained (d : Nat) : Bool :=
  decide (d < 2)

/-- The operands of REFIN_QUALIFIED. -/
def Wf.refinQualified (det : Nat) (ppb : Int) : Bool :=
  decide (1 ≤ det) && decide (det ≤ 2) && decide (ppb.natAbs < 0x80000000)

/-- The operands of WARM. -/
def Wf.warm (init : Init) : Bool :=
  init.wf

/-- The operands of HANDOVER. -/
def Wf.handover (init : Init) : Bool :=
  init.wf

/-- The operands of COLD. -/
def Wf.cold (init : Init) : Bool :=
  init.wf

/-- The operands of PROFILE_SELECT. -/
def Wf.profileSelect (init : Init) (prof : Nat) : Bool :=
  init.wf && decide (prof < 4)

/-- The operands of PROFILE_WRITE. -/
def Wf.profileWrite (init : Init) (prof : Nat) : Bool :=
  init.wf && decide (prof < 4)

/-- The operands of DOORBELL. -/
def Wf.doorbell (init : Init) (off : Nat) (size : Nat) : Bool :=
  init.wf && decide (0x1000000 ≤ off) && decide (off < 0x1008000) && decide (1 ≤ size) && decide (size ≤ 64)

/-- The operands of DESCRIPTOR_FETCH. -/
def Wf.descriptorFetch (q : Nat) : Bool :=
  decide (q < 8192)

/-- The operands of DESCRIPTOR_READ_COMPLETE. -/
def Wf.descriptorReadComplete (q : Nat) : Bool :=
  decide (q < 8192)

/-- The operands of NOP. -/
def Wf.nop (q : Nat) : Bool :=
  decide (q < 8192)

/-- The operands of GRAPH_LAUNCH. -/
def Wf.graphLaunch (q : Nat) : Bool :=
  decide (q < 8192)

/-- The operands of GRAPH_ABORT. -/
def Wf.graphAbort (q : Nat) : Bool :=
  decide (q < 8192)

/-- The operands of TOKEN_INJECT. -/
def Wf.tokenInject (q : Nat) : Bool :=
  decide (q < 8192)

/-- The operands of DMA_LIST. -/
def Wf.dmaList (q : Nat) : Bool :=
  decide (q < 8192)

/-- The operands of NODE_RUN. -/
def Wf.nodeRun (q : Nat) : Bool :=
  decide (q < 8192)

/-- The operands of COMPLETION_WRITE. -/
def Wf.completionWrite (c : Nat) : Bool :=
  decide (c < 64)

/-- The operands of MOD_TIME_EXPIRY. -/
def Wf.modTimeExpiry (c : Nat) : Bool :=
  decide (c < 64)

/-- The operands of MSIX_SEND. -/
def Wf.msixSend (v : Nat) : Bool :=
  decide (v < 256)

/-- The operands of HOLD_CONDITION_END. -/
def Wf.holdConditionEnd (c : HoldCond) (speed : Nat) (width : Nat) (mps : Nat) (mrrs : Nat) (host : PcieSet) : Bool :=
  (c != .linkDown || (decide (1 ≤ speed) && decide (speed ≤ 5) && [1, 2, 4, 8, 16].contains width)) && (c != .bmeClear || (host.bars.length == 3 && decide (host.bars.getD 0 0 % 0x4000000 = 0) && decide (host.bars.getD 1 0 % 0x1000000 = 0) && decide (host.bars.getD 2 0 % 0x100000000 = 0))) && [128, 256, 512].contains mps && [128, 256, 512, 1024, 2048, 4096].contains mrrs

/-- The operands of LOAD. -/
def Wf.load (init : Init) : Bool :=
  init.wf

/-- The operands of BIND. -/
def Wf.bind (init : Init) : Bool :=
  init.wf

/-- The operands of UNBIND. -/
def Wf.unbind (init : Init) : Bool :=
  init.wf

/-- The operands of RESUME. -/
def Wf.resume (init : Init) : Bool :=
  init.wf

/-- The operands of BAR4_BASE_WRITE. -/
def Wf.bar4BaseWrite (init : Init) : Bool :=
  init.wf

/-- The operands of BAR4_ACCESS. -/
def Wf.bar4Access (off : Nat) (len : Nat) (data : Option (List (Option Byte))) : Bool :=
  decide (1 ≤ len) && decide (len ≤ 4096) && decide (off + len ≤ 0x100000000) && data.all (fun l => decide (l.length = len))

/-- The operands of CQ_ENABLE. -/
def Wf.cqEnable (init : Init) (c : Nat) : Bool :=
  init.wf && decide (c < 64)

/-- The operands of INSTANCE_ACCEPT. -/
def Wf.instanceAccept (q : Nat) : Bool :=
  decide (q < 8192)

/-- The operands of NODE_FETCH. -/
def Wf.nodeFetch (i : Nat) : Bool :=
  decide (i < 512)

/-- The operands of TOKEN_RELEASE. -/
def Wf.tokenRelease (i : Nat) : Bool :=
  decide (i < 512)

/-- The operands of ARBITER_DECISION. -/
def Wf.arbiterDecision (cls : Nat) : Bool :=
  decide (1 ≤ cls) && decide (cls ≤ 8)

/-- The operands of NODE_TIMEOUT. -/
def Wf.nodeTimeout (i : Nat) : Bool :=
  decide (i < 512)

/-- The operands of TIMEOUT. -/
def Wf.timeout (i : Nat) : Bool :=
  decide (i < 512)

/-- The operands of PREEMPT_DONE. -/
def Wf.preemptDone (core : Nat) : Bool :=
  decide (core < 16)

/-- The operands of PREEMPT_TO. -/
def Wf.preemptTo (core : Nat) : Bool :=
  decide (core < 16)

/-- The operands of GROUP_DISABLE. -/
def Wf.groupDisable (init : Init) (g : Nat) : Bool :=
  init.wf && decide (g < 64)

/-- The operands of GROUP_DISABLE_FLUSH. -/
def Wf.groupDisableFlush (init : Init) (g : Nat) (weight : Nat) : Bool :=
  init.wf && decide (g < 64) && decide (weight < 256)

/-- The operands of GROUP_ENABLE. -/
def Wf.groupEnable (init : Init) (g : Nat) (weight : Nat) : Bool :=
  init.wf && decide (g < 64) && decide (weight < 256)

/-- The operands of UNIT_DISABLE. -/
def Wf.unitDisable (init : Init) : Bool :=
  init.wf

/-- The operands of UNIT_DISABLE_FLUSH. -/
def Wf.unitDisableFlush (init : Init) : Bool :=
  init.wf

/-- The operands of UNIT_ENABLE. -/
def Wf.unitEnable (init : Init) : Bool :=
  init.wf

/-- The operands of PRIV_RECORD_APPEND. -/
def Wf.privRecordAppend (q : Nat) : Bool :=
  decide (q < 4096)

/-- The operands of SPILL_REFILL. -/
def Wf.spillRefill (q : Nat) : Bool :=
  decide (q < 4096)

/-- The operands of PRIV_SET. -/
def Wf.privSet (init : Init) (q : Nat) : Bool :=
  init.wf && decide (q < 4096)

/-- The operands of CORE_DEVICE_ACCESS. -/
def Wf.coreDeviceAccess (c : Nat) (a : Nat) (n : Nat) (acc : CoreAcc) : Bool :=
  decide (c < 20) && [1, 2, 4, 8].contains n && decide (a < 0x10000000000000000) && acc.wf n

/-- The operands of CORE_BOOT. -/
def Wf.coreBoot (c : Nat) : Bool :=
  decide (c < 20)

/-- The operands of SCORE_HOLD. -/
def Wf.scoreHold (init : Init) (n : Nat) : Bool :=
  init.wf && decide (n < 16)

/-- The operands of SCORE_GO. -/
def Wf.scoreGo (init : Init) (n : Nat) : Bool :=
  init.wf && decide (n < 16)

/-- The operands of EXIT. -/
def Wf.exit (c : Nat) (flags : Nat) : Bool :=
  decide (c < 16) && decide (flags < 256)

/-- The operands of BOUNDARY. -/
def Wf.boundary (c : Nat) : Bool :=
  decide (c < 16)

/-- The operands of INPUT. -/
def Wf.inputCall (c : Nat) : Bool :=
  decide (c < 16)

/-- The operands of TTIME. -/
def Wf.ttimeCall (c : Nat) : Bool :=
  decide (c < 16)

/-- The operands of DATALOG. -/
def Wf.datalog (c : Nat) (q : Nat) : Bool :=
  decide (c < 16) && decide (q < 64)

/-- The operands of STEP_EXCEPTION. -/
def Wf.stepException (c : Nat) : Bool :=
  decide (c < 16)

/-- The operands of STEP_KILLED. -/
def Wf.stepKilled (c : Nat) : Bool :=
  decide (c < 16)

/-- The operands of STEP_ECC. -/
def Wf.stepEcc (c : Nat) : Bool :=
  decide (c < 20)

/-- The operands of WATCHDOG_EXPIRY. -/
def Wf.watchdogExpiry (k : Nat) : Bool :=
  decide (k < 4)

/-- The operands of KICK. -/
def Wf.kick (init : Init) (n : Nat) : Bool :=
  init.wf && decide (n < 4)

/-- The operands of MCORE_HOLD. -/
def Wf.mcoreHold (init : Init) (n : Nat) : Bool :=
  init.wf && decide (n < 4)

/-- The operands of MCORE_GO. -/
def Wf.mcoreGo (init : Init) (n : Nat) : Bool :=
  init.wf && decide (n < 4)

/-- The operands of MGMT_LOAD_UPDATE. -/
def Wf.mgmtLoadUpdate (loads : List Nat) : Bool :=
  loads.all (fun l => decide (l ≤ 100))

/-- The operands of MICROWORD_EXECUTE. -/
def Wf.microwordExecute (n : Nat) (k : Nat) : Bool :=
  decide (n < 32) && decide (k ≤ 512)

/-- The operands of SCRUB. -/
def Wf.scrub (w : Nat) : Bool :=
  decide (w < 4096)

/-- The operands of CHECK. -/
def Wf.check (init : Init) : Bool :=
  init.wf

/-- The operands of RELOAD. -/
def Wf.reload (init : Init) : Bool :=
  init.wf

/-- The operands of FIRST_EMISSION. -/
def Wf.firstEmission (n : Nat) (ofs : Nat) : Bool :=
  decide (n < 32) && decide (ofs < 4)

/-- The operands of VEC. -/
def Wf.vec (n : Nat) (k : Nat) : Bool :=
  decide (n < 32) && decide (1 ≤ k) && decide (k ≤ 16)

/-- The operands of RPT. -/
def Wf.rpt (n : Nat) (k : Nat) : Bool :=
  decide (n < 32) && decide (1 ≤ k) && decide (k ≤ 16)

/-- The operands of LOOP. -/
def Wf.loop (n : Nat) : Bool :=
  decide (n < 32)

/-- The operands of ENDL. -/
def Wf.endl (n : Nat) : Bool :=
  decide (n < 32)

/-- The operands of CALL. -/
def Wf.call (n : Nat) : Bool :=
  decide (n < 32)

/-- The operands of RET. -/
def Wf.ret (n : Nat) : Bool :=
  decide (n < 32)

/-- The operands of JMP. -/
def Wf.jmp (n : Nat) : Bool :=
  decide (n < 32)

/-- The operands of JCC. -/
def Wf.jcc (n : Nat) : Bool :=
  decide (n < 32)

/-- The operands of MATCH. -/
def Wf.matchInstr (n : Nat) : Bool :=
  decide (n < 32)

/-- The operands of WTRG. -/
def Wf.wtrg (n : Nat) : Bool :=
  decide (n < 32)

/-- The operands of TSET. -/
def Wf.tset (n : Nat) : Bool :=
  decide (n < 32)

/-- The operands of LSET. -/
def Wf.lset (n : Nat) : Bool :=
  decide (n < 32)

/-- The operands of SIG_PULSE. -/
def Wf.sigPulse (n : Nat) : Bool :=
  decide (n < 32)

/-- The operands of SIG_DRIVE_HIGH. -/
def Wf.sigDriveHigh (n : Nat) : Bool :=
  decide (n < 32)

/-- The operands of SIG_DRIVE_LOW. -/
def Wf.sigDriveLow (n : Nat) : Bool :=
  decide (n < 32)

/-- The operands of SIG_ARM_TDC. -/
def Wf.sigArmTdc (n : Nat) : Bool :=
  decide (n < 32)

/-- The operands of SIG_TRIGGER_AQ. -/
def Wf.sigTriggerAq (n : Nat) : Bool :=
  decide (n < 32)

/-- The operands of SIG_SET_FLAG. -/
def Wf.sigSetFlag (n : Nat) : Bool :=
  decide (n < 32)

/-- The operands of SIG_CLEAR_FLAG. -/
def Wf.sigClearFlag (n : Nat) : Bool :=
  decide (n < 32)

/-- The operands of SYNC. -/
def Wf.sync (n : Nat) : Bool :=
  decide (n < 32)

/-- The operands of HOLD_ON. -/
def Wf.holdOn (n : Nat) : Bool :=
  decide (n < 32)

/-- The operands of HOLD_OFF. -/
def Wf.holdOff (n : Nat) : Bool :=
  decide (n < 32)

/-- The operands of END. -/
def Wf.endBurst (n : Nat) : Bool :=
  decide (n < 32)

/-- The operands of RESULT_WAIT_END. -/
def Wf.resultWaitEnd (n : Nat) : Bool :=
  decide (n < 32)

/-- The operands of WTRG_TIMEOUT. -/
def Wf.wtrgTimeout (n : Nat) (ofs : Nat) : Bool :=
  decide (n < 32) && decide (ofs < 4)

/-- The operands of SYNC_TIMEOUT. -/
def Wf.syncTimeout (n : Nat) : Bool :=
  decide (n < 32)

/-- The operands of MATCH_EXIT. -/
def Wf.matchExit (n : Nat) : Bool :=
  decide (n < 32)

/-- The operands of LANE_GROUP_EMIT. -/
def Wf.laneGroupEmit (n : Nat) : Bool :=
  decide (n < 32)

/-- The operands of PAUSE. -/
def Wf.pause (init : Init) (n : Nat) : Bool :=
  init.wf && decide (n < 32)

/-- The operands of PAUSE_CLEAR. -/
def Wf.pauseClear (init : Init) (n : Nat) : Bool :=
  init.wf && decide (n < 32)

/-- The operands of HALT. -/
def Wf.halt (init : Init) (n : Nat) : Bool :=
  init.wf && decide (n < 32)

/-- The operands of CLR_MCHK. -/
def Wf.clrMchk (init : Init) (n : Nat) : Bool :=
  init.wf && decide (n < 32)

/-- The operands of BURST_COMPLETE. -/
def Wf.burstComplete (n : Nat) : Bool :=
  decide (n < 32)

/-- The operands of TPER_WRITE. -/
def Wf.tperWrite (init : Init) (n : Nat) (k : Nat) : Bool :=
  init.wf && decide (n < 32) && decide (k < 64)

/-- The operands of VECTOR_PLAY. -/
def Wf.vectorPlay (n : Nat) (die : Nat) : Bool :=
  decide (n < 32) && decide (die < 2)

/-- The operands of STROBE_JUDGEMENT. -/
def Wf.strobeJudgement (ch : Nat) (obs : List (Int × Nat)) : Bool :=
  decide (ch < 288) && !obs.isEmpty

/-- The operands of GAP. -/
def Wf.gap (n : Nat) (die : Nat) : Bool :=
  decide (n < 32) && decide (die < 2)

/-- The operands of PROOF_RECORD_RECEIVE. -/
def Wf.proofRecordReceive (n : Nat) : Bool :=
  decide (n < 32)

/-- The operands of BURST_TOKEN. -/
def Wf.burstToken (n : Nat) (die : Nat) : Bool :=
  decide (n < 32) && decide (die < 2)

/-- The operands of SPILL_COPY. -/
def Wf.spillCopy (n : Nat) : Bool :=
  decide (n < 32)

/-- The operands of TRACE_HEADER_WRITE. -/
def Wf.traceHeaderWrite (n : Nat) (die : Nat) : Bool :=
  decide (n < 32) && decide (die < 2)

/-- The operands of RD_WRITE. -/
def Wf.rdWrite (init : Init) (n : Nat) : Bool :=
  init.wf && decide (n < 32)

/-- The operands of SRD_WRITE. -/
def Wf.srdWrite (init : Init) (n : Nat) : Bool :=
  init.wf && decide (n < 32)

/-- The operands of FCNT_WRITE. -/
def Wf.fcntWrite (init : Init) (ch : Nat) : Bool :=
  init.wf && decide (ch < 256)

/-- The operands of CAPTURE_RETURN_RECORD. -/
def Wf.captureReturnRecord (n : Nat) (record : List Byte) : Bool :=
  decide (n < 16) && decide (record.length = 64)

/-- The operands of LEVEL_QUEUE_APPLY. -/
def Wf.levelQueueApply (q : Nat) : Bool :=
  decide (q < 21)

/-- The operands of CH_LQCMD. -/
def Wf.chLqcmd (init : Init) (d : Nat) : Bool :=
  init.wf && decide (d < 2)

/-- The operands of HV_LQCMD. -/
def Wf.hvLqcmd (init : Init) : Bool :=
  init.wf

/-- The operands of RELAY_LQCMD. -/
def Wf.relayLqcmd (init : Init) : Bool :=
  init.wf

/-- The operands of LIM. -/
def Wf.lim (ch : Nat) : Bool :=
  decide (ch < 256)

/-- The operands of CONN_WRITE. -/
def Wf.connWrite (init : Init) (ch : Nat) : Bool :=
  init.wf && decide (ch < 256)

/-- The operands of PMU_MEAS_COMPLETE. -/
def Wf.pmuMeasComplete (c : Nat) (raws : List Int) (lsb : Nat) : Bool :=
  decide (c < 40) && !raws.isEmpty && decide (1 ≤ lsb)

/-- The operands of PMU_OFF. -/
def Wf.pmuOff (init : Init) (ch : Nat) : Bool :=
  init.wf && decide (ch < 256)

/-- The operands of ILIM. -/
def Wf.ilim (h : Nat) : Bool :=
  decide (h < 32)

/-- The operands of LIMOFF_TRIP. -/
def Wf.limoffTrip (h : Nat) : Bool :=
  decide (h < 32)

/-- The operands of HV_ENABLE_WRITE. -/
def Wf.hvEnableWrite (init : Init) (h : Nat) : Bool :=
  init.wf && decide (h < 32)

/-- The operands of RANGE_CHANGE_END. -/
def Wf.rangeChangeEnd (u : Nat) : Bool :=
  decide (u < 40)

/-- The operands of RELAY_OVERCURRENT. -/
def Wf.relayOvercurrent (i : Nat) : Bool :=
  decide (i < 64)

/-- The operands of WAVE_START. -/
def Wf.waveStart (n : Nat) : Bool :=
  decide (n < 8)

/-- The operands of LIST_ENTRY_FETCH. -/
def Wf.listEntryFetch (n : Nat) : Bool :=
  decide (n < 8)

/-- The operands of PASS_END. -/
def Wf.passEnd (n : Nat) : Bool :=
  decide (n < 8)

/-- The operands of JUMP_GO. -/
def Wf.jumpGo (init : Init) (n : Nat) : Bool :=
  init.wf && decide (n < 8)

/-- The operands of DDS_STOP. -/
def Wf.ddsStop (init : Init) (n : Nat) : Bool :=
  init.wf && decide (n < 8)

/-- The operands of PLAYBACK_END. -/
def Wf.playbackEnd (n : Nat) : Bool :=
  decide (n < 8)

/-- The operands of SWTRIG. -/
def Wf.swtrig (init : Init) (n : Nat) : Bool :=
  init.wf && decide (n < 8)

/-- The operands of AQ_SWTRIG. -/
def Wf.aqSwtrig (init : Init) (mask : Nat) : Bool :=
  init.wf && decide (mask < 256)

/-- The operands of MARKER_FIRE. -/
def Wf.markerFire (n : Nat) : Bool :=
  decide (n < 8)

/-- The operands of SYNCIN_EDGE. -/
def Wf.syncinEdge (ofs : Nat) : Bool :=
  decide (ofs < 4)

/-- The operands of FIRE. -/
def Wf.fire (init : Init) : Bool :=
  init.wf

/-- The operands of AS_CMD. -/
def Wf.asCmd (init : Init) (n : Nat) : Bool :=
  init.wf && decide (n < 8)

/-- The operands of AS_COMMAND_APPLY. -/
def Wf.asCommandApply (n : Nat) : Bool :=
  decide (n < 8)

/-- The operands of CLIM. -/
def Wf.clim (n : Nat) : Bool :=
  decide (n < 8)

/-- The operands of CLIMOFF_TRIP. -/
def Wf.climoffTrip (n : Nat) : Bool :=
  decide (n < 8)

/-- The operands of DEV. -/
def Wf.dev (n : Nat) : Bool :=
  decide (n < 8)

/-- The operands of AQ_WORD. -/
def Wf.aqWord (n : Nat) (samples : List Int) : Bool :=
  decide (n < 8) && !samples.isEmpty

/-- The operands of AQ_RECORD_COPY. -/
def Wf.aqRecordCopy (n : Nat) : Bool :=
  decide (n < 8)

/-- The operands of TRIG_EDGE_DETECT. -/
def Wf.trigEdgeDetect (l : Nat) (ofs : Nat) : Bool :=
  decide (l < 11) && decide (ofs < 4)

/-- The operands of TRIG_SET. -/
def Wf.trigSet (init : Init) (l : Nat) : Bool :=
  init.wf && decide (l < 8)

/-- The operands of TRIG_CLR. -/
def Wf.trigClr (init : Init) (l : Nat) : Bool :=
  init.wf && decide (l < 8)

/-- The operands of PULSE_END. -/
def Wf.pulseEnd (l : Nat) : Bool :=
  decide (l < 8)

/-- The operands of REFIN_REQUALIFY. -/
def Wf.refinRequalify (det : Nat) (ppb : Int) : Bool :=
  decide (1 ≤ det) && decide (det ≤ 2) && decide (ppb.natAbs < 0x80000000)

/-- The operands of TIMEBASE_SRC_WRITE. -/
def Wf.timebaseSrcWrite (init : Init) : Bool :=
  init.wf

/-- The operands of TB_TRIM_WRITE. -/
def Wf.tbTrimWrite (init : Init) : Bool :=
  init.wf

/-- The operands of INC_WRITE. -/
def Wf.incWrite (init : Init) (k : Nat) : Bool :=
  init.wf && decide (k < 4)

/-- The operands of ADJ_WRITE. -/
def Wf.adjWrite (init : Init) (k : Nat) : Bool :=
  init.wf && decide (k < 4)

/-- The operands of TD_SET. -/
def Wf.tdSet (init : Init) (k : Nat) : Bool :=
  init.wf && decide (k < 4)

/-- The operands of TD_CLR. -/
def Wf.tdClr (init : Init) (k : Nat) : Bool :=
  init.wf && decide (k < 4)

/-- The operands of FRAC_READ. -/
def Wf.fracRead (init : Init) (k : Nat) : Bool :=
  init.wf && decide (k < 4)

/-- The operands of SNAPSHOT_GO. -/
def Wf.snapshotGo (init : Init) : Bool :=
  init.wf

/-- The operands of FRAME_RECEIVE. -/
def Wf.frameReceive (p : Nat) (ps : Nat) : Bool :=
  decide (p < 2) && decide (ps < 4000)

/-- The operands of RXDATA_READ. -/
def Wf.rxdataRead (init : Init) (p : Nat) : Bool :=
  init.wf && decide (p < 2)

/-- The operands of RX_FLUSH. -/
def Wf.rxFlush (init : Init) (p : Nat) : Bool :=
  init.wf && decide (p < 2)

/-- The operands of TXDATA_WRITE. -/
def Wf.txdataWrite (init : Init) (p : Nat) : Bool :=
  init.wf && decide (p < 2)

/-- The operands of FRAME_TRANSMIT. -/
def Wf.frameTransmit (p : Nat) (ps : Nat) : Bool :=
  decide (p < 2) && decide (ps < 4000)

/-- The operands of TX_FLUSH. -/
def Wf.txFlush (init : Init) (p : Nat) : Bool :=
  init.wf && decide (p < 2)

/-- The operands of TSQ_POP. -/
def Wf.tsqPop (init : Init) (p : Nat) : Bool :=
  init.wf && decide (p < 2)

/-- The operands of PORT_MODE_WRITE. -/
def Wf.portModeWrite (init : Init) (p : Nat) : Bool :=
  init.wf && decide (p < 2)

/-- The operands of TDC_ARM. -/
def Wf.tdcArm (u : Nat) : Bool :=
  decide (u < 36)

/-- The operands of TDC_START_EDGE. -/
def Wf.tdcStartEdge (u : Nat) (fine : Nat) : Bool :=
  decide (u < 36) && decide (fine < 4096)

/-- The operands of TDC_STOP_EDGE. -/
def Wf.tdcStopEdge (u : Nat) (fine : Nat) : Bool :=
  decide (u < 36) && decide (fine < 4096)

/-- The operands of TDC_WINDOW_EXPIRY. -/
def Wf.tdcWindowExpiry (u : Nat) : Bool :=
  decide (u < 36)

/-- The operands of CAL_START. -/
def Wf.calStart (init : Init) (doms : Nat) (scope : Nat) : Bool :=
  init.wf && decide (doms < 128) && decide (scope < 8)

/-- The operands of CAL_ABORT. -/
def Wf.calAbort (init : Init) : Bool :=
  init.wf

/-- The operands of TRACKING_UPDATE. -/
def Wf.trackingUpdate (c : Nat) : Bool :=
  decide (c < 32)

/-- The operands of PAGE_IDLE_EXPIRY. -/
def Wf.pageIdleExpiry (c : Nat) (bank : Nat) : Bool :=
  decide (c < 32) && decide (bank < 16)

/-- The operands of REFRESH_DUE. -/
def Wf.refreshDue (c : Nat) : Bool :=
  decide (c < 32)

/-- The operands of OPPORTUNISTIC_REFRESH. -/
def Wf.opportunisticRefresh (c : Nat) : Bool :=
  decide (c < 32)

/-- The operands of CATCHUP. -/
def Wf.catchup (c : Nat) : Bool :=
  decide (c < 32)

/-- The operands of DOUBLED_RATE. -/
def Wf.doubledRate (d : Nat) : Bool :=
  decide (d < 8)

/-- The operands of NORMAL_RATE. -/
def Wf.normalRate (d : Nat) : Bool :=
  decide (d < 8)

/-- The operands of SELF_REFRESH_ENTRY. -/
def Wf.selfRefreshEntry (d : Nat) : Bool :=
  decide (d < 8)

/-- The operands of SELF_REFRESH_EXIT. -/
def Wf.selfRefreshExit (d : Nat) : Bool :=
  decide (d < 8)

/-- The operands of MEMORY_REQUEST. -/
def Wf.memoryRequest (c : Nat) (reqs : List MemReq) (crc : Nat) : Bool :=
  decide (c < 32) && reqs.all (fun r => decide (r.group < 128) && decide (r.addr % 64 + r.len ≤ 64) && decide (r.addr < 0x800000000)) && decide (crc ≤ 5)

/-- The operands of TABLE_WALK. -/
def Wf.tableWalk (ctx : Nat) (va : Nat) (dir : Nat) (req : Nat) : Bool :=
  decide (ctx < 128) && decide (va < 0x1000000000000) && decide (dir < 3) && decide (req < 16)

/-- The operands of XLT_INV_CONTEXT. -/
def Wf.xltInvContext (init : Init) (g : Nat) : Bool :=
  init.wf && decide (g < 64)

/-- The operands of XLT_INV_PAGE. -/
def Wf.xltInvPage (init : Init) (g : Nat) : Bool :=
  init.wf && decide (g < 64)

/-- The operands of XLT_INV_ALL. -/
def Wf.xltInvAll (init : Init) : Bool :=
  init.wf

/-- The operands of FLT_CLEAR. -/
def Wf.fltClear (init : Init) (g : Nat) : Bool :=
  init.wf && decide (g < 64)

/-- The operands of CONTEXT_ENABLE. -/
def Wf.contextEnable (init : Init) (g : Nat) : Bool :=
  init.wf && decide (g < 64)

/-- The operands of CONTEXT_DISABLE. -/
def Wf.contextDisable (init : Init) (g : Nat) : Bool :=
  init.wf && decide (g < 64)

/-- The operands of ROOT_WRITE. -/
def Wf.rootWrite (init : Init) (g : Nat) : Bool :=
  init.wf && decide (g < 64)

/-- The operands of DMA_DESCRIPTOR_READ. -/
def Wf.dmaDescriptorRead (ch : Nat) : Bool :=
  decide (ch < 32)

/-- The operands of COPY. -/
def Wf.copy (ch : Nat) (n : Nat) : Bool :=
  decide (ch < 32) && decide (n ≤ 4096)

/-- The operands of FILL. -/
def Wf.fill (ch : Nat) (n : Nat) : Bool :=
  decide (ch < 32) && decide (n ≤ 4096)

/-- The operands of REGWR. -/
def Wf.regwr (ch : Nat) : Bool :=
  decide (ch < 32)

/-- The operands of DMA_DESCRIPTOR_COMPLETE. -/
def Wf.dmaDescriptorComplete (ch : Nat) : Bool :=
  decide (ch < 32)

/-- The operands of PREQ_ASSERT. -/
def Wf.preqAssert (ch : Nat) : Bool :=
  decide (ch < 32)

/-- The operands of DMA_STOP. -/
def Wf.dmaStop (init : Init) (ch : Nat) : Bool :=
  init.wf && decide (ch < 32)

/-- The operands of DMA_ABORT. -/
def Wf.dmaAbort (init : Init) (ch : Nat) : Bool :=
  init.wf && decide (ch < 32)

/-- The operands of DMA_RESUME. -/
def Wf.dmaResume (init : Init) (ch : Nat) : Bool :=
  init.wf && decide (ch < 32)

/-- The operands of ABANDON. -/
def Wf.abandon (init : Init) (ch : Nat) : Bool :=
  init.wf && decide (ch < 32)

/-- The operands of SWREQ. -/
def Wf.swreq (init : Init) (ch : Nat) : Bool :=
  init.wf && decide (ch < 32)

/-- The operands of DMA_TRANSFER_ERROR. -/
def Wf.dmaTransferError (ch : Nat) (kind : Nat) : Bool :=
  decide (ch < 32) && decide (kind < 3)

/-- The operands of PD_TIMEOUT. -/
def Wf.pdTimeout (ch : Nat) : Bool :=
  decide (ch < 32)

/-- The operands of PAIR_EN. -/
def Wf.pairEn (init : Init) : Bool :=
  init.wf

/-- The operands of RETRY. -/
def Wf.retry (init : Init) : Bool :=
  init.wf

/-- The operands of TRAINING_ATTEMPT. -/
def Wf.trainingAttempt (lanes : List LaneRes) : Bool :=
  lanes.all (fun r => decide (r.lane < 65) && decide (r.fom < 256) && decide (r.group < 10) && decide (r.pos < 12))

/-- The operands of HANDSHAKE. -/
def Wf.handshake (role : Nat) (pcc : Nat) : Bool :=
  decide (role < 4) && decide (pcc < 0x10000000000000000)

/-- The operands of RESYNC_COMPLETE. -/
def Wf.resyncComplete (base : Baseline) : Bool :=
  base.regs.all (fun e => offWf e.1) && base.rings.all (fun r => decide (r.ring < 64)) && base.queues.all QueueCtx.wf

/-- The operands of FOM_MEASURE. -/
def Wf.fomMeasure (k : Nat) (fom : Nat) : Bool :=
  decide (k < 65) && decide (fom < 256)

/-- The operands of LANE_LOSS. -/
def Wf.laneLoss (k : Nat) : Bool :=
  decide (k < 65)

/-- The operands of LANE_DISABLE. -/
def Wf.laneDisable (k : Nat) : Bool :=
  decide (k < 65)

/-- The operands of RESTRIPE. -/
def Wf.restripe (g : Nat) : Bool :=
  decide (g < 10)

/-- The operands of LANE_RETRAIN. -/
def Wf.laneRetrain (k : Nat) (fom : Nat) : Bool :=
  decide (k < 65) && decide (fom < 256)

/-- The operands of FORWARDED_WRITE. -/
def Wf.forwardedWrite (dest : FwdTo) (addr : Nat) (data : List Byte) : Bool :=
  decide (dest.group < 64) && !data.isEmpty && decide (addr + data.length ≤ 0x800000000)

/-- The operands of REGION_ENABLE. -/
def Wf.regionEnable (init : Init) (k : Nat) : Bool :=
  init.wf && decide (k < 16)

/-- The operands of REGION_COPY_DONE. -/
def Wf.regionCopyDone (k : Nat) : Bool :=
  decide (k < 16)

/-- The operands of SHADOW_ENABLE. -/
def Wf.shadowEnable (init : Init) : Bool :=
  init.wf

/-- The operands of BURST_START. -/
def Wf.burstStart (port : Nat) (site : Nat) (group : Nat) (args : List Byte) : Bool :=
  decide (port < 16) && decide (site < 256) && decide (group < 64) && decide (args.length = 16)

/-- The operands of DECISION. -/
def Wf.decisionRecord (n : Nat) : Bool :=
  decide (n < 16)

/-- The operands of NODE_DISPATCH. -/
def Wf.nodeDispatch (group : Nat) : Bool :=
  decide (group < 64)

/-- The operands of NODE_END. -/
def Wf.nodeEnd (group : Nat) (status : Nat) : Bool :=
  decide (group < 64) && decide (status < 256)

/-- The operands of DESC_A_DESC_B. -/
def Wf.descADescB (q : Nat) (second : Bool) (data : List Byte) : Bool :=
  decide (q < 4096) && decide (data.length = if second then 24 else 40)

/-- The operands of QUEUE. -/
def Wf.queueRecord (q : Nat) (cq : Nat) : Bool :=
  decide (q < 4096) && decide (cq < 64)

/-- The operands of INST_END. -/
def Wf.instEnd (data : List Byte) : Bool :=
  decide (data.length = 16)

/-- The operands of CONSUMED. -/
def Wf.consumed (n : Nat) : Bool :=
  decide (n < 16)

/-- The operands of CONFIG. -/
def Wf.configRecord (off : Nat) : Bool :=
  offWf off

/-- The operands of TOKEN. -/
def Wf.tokenRecord (group : Nat) : Bool :=
  decide (group < 64)

/-- The operands of JOURNAL_ACK. -/
def Wf.journalAck (j : Nat) : Bool :=
  decide (j < 0x100000000)

/-- The operands of MIRROR_DECISION. -/
def Wf.mirrorDecision (n : Nat) : Bool :=
  decide (n < 16)

/-- The operands of BLOCK_DEADLINE. -/
def Wf.blockDeadline (n : Nat) (die : Nat) : Bool :=
  decide (n < 32) && decide (die < 2)

/-- The operands of PORT_SWITCH. -/
def Wf.portSwitch (n : Nat) : Bool :=
  decide (n < 16)

/-- The operands of TOKEN_FRAME. -/
def Wf.tokenFrame (f : TokenFrame) : Bool :=
  f.wf

/-- The operands of CONTROL_FRAME. -/
def Wf.controlFrame (d : Nat) (f : CtlFrame) : Bool :=
  decide (d < 3) && f.wf

/-- The operands of PRIMARY_DOWN. -/
def Wf.primaryDown (d : Nat) : Bool :=
  decide (d < 2)

/-- The operands of WB. -/
def Wf.wb (init : Init) : Bool :=
  init.wf

/-- The operands of UNDOCK. -/
def Wf.undock (init : Init) : Bool :=
  init.wf

/-- The operands of PLATE_RELOAD. -/
def Wf.plateReload (init : Init) : Bool :=
  init.wf

/-- The operands of LOGIC_CHECK. -/
def Wf.logicCheck (unit : Nat) : Bool :=
  decide (unit < 3)

/-- The operands of ERR_RING_ENABLE. -/
def Wf.errRingEnable (init : Init) (size : Nat) : Bool :=
  init.wf && decide (size < 16)

/-- The operands of ERR_RING_HEAD_WRITE. -/
def Wf.errRingHeadWrite (init : Init) : Bool :=
  init.wf

/-- The operands of FORWARDED_CLOCK_RELOCK. -/
def Wf.forwardedClockRelock (d : Nat) : Bool :=
  decide (d < 3)

/-- The operands of HOLDOVER_EXHAUSTED. -/
def Wf.holdoverExhausted (d : Nat) : Bool :=
  decide (d < 3)

/-- The operands of BLOCK_LOCK_ACQUIRED. -/
def Wf.blockLockAcquired (p : Nat) : Bool :=
  decide (p < 2)

/-- The operands of LINK_DOWN. -/
def Wf.linkDown (p : Nat) : Bool :=
  decide (p < 2)

/-- The operands of PMU_LIM. -/
def Wf.pmuLim (ch : Nat) : Bool :=
  decide (ch < 256)

/-- The operands of TDC_RANGE_EXCEEDED. -/
def Wf.tdcRangeExceeded (u : Nat) : Bool :=
  decide (u < 36)

/-- The operands of MIRROR_BLOCK_RECEIVE. -/
def Wf.mirrorBlockReceive (n : Nat) (die : Nat) : Bool :=
  decide (n < 16) && decide (die < 2)

/-- The operands of PREEMPT_WAIT_EXPIRY. -/
def Wf.preemptWaitExpiry (i : Nat) : Bool :=
  decide (i < 512)

/-- The operands of a command name what the module has. -/
def Instr.wf (i : Instr) : Bool :=
  match i with
  | .malformedAccess init off width _ => Wf.malformedAccess init off width
  | .pairLowRead init off => Wf.pairLowRead init off
  | .pairLowWrite init off _ => Wf.pairLowWrite init off
  | .pairHighWrite init off _ => Wf.pairHighWrite init off
  | .registerWrite init off _ => Wf.registerWrite init off
  | .plinkBlockReceive n die _ _ => Wf.plinkBlockReceive n die
  | .refillBlockComplete n _ _ => Wf.refillBlockComplete n
  | .linkBlockClose n => Wf.linkBlockClose n
  | .xingOvf k unit => Wf.xingOvf k unit
  | .sramUe a => Wf.sramUe a
  | .sramCe a => Wf.sramCe a
  | .hostBar2Read off len => Wf.hostBar2Read off len
  | .hostBar2Write off data => Wf.hostBar2Write off data
  | .forwardedClockLoss d => Wf.forwardedClockLoss d
  | .h0FrameReceive _ _ _ f => Wf.h0FrameReceive f
  | .vinTrip _ => true
  | .vauxTrip => true
  | .hvSupply i _ => Wf.hvSupply i
  | .h0SoftStart _ => true
  | .hgndRange ofs _ => Wf.hgndRange ofs
  | .railFault r _ => Wf.railFault r
  | .driverDisconnect d => Wf.driverDisconnect d
  | .trip k t => Wf.trip k t
  | .governorSample _ _ temps => Wf.governorSample temps
  | .levelRise _ => true
  | .levelFall _ => true
  | .unitStart u => Wf.unitStart u
  | .startFail u => Wf.startFail u
  | .orderlyPowerDown => true
  | .coldResetRelease prof _ => Wf.coldResetRelease prof
  | .powerStageStart _ => true
  | .timebaseLock => true
  | .pcieDetect => true
  | .flashLoadComplete => true
  | .gddr7TrainingComplete bad => Wf.gddr7TrainingComplete bad
  | .plinkTrained d => Wf.plinkTrained d
  | .hlinkTrained => true
  | .refinQualified det ppb => Wf.refinQualified det ppb
  | .apply _ => true
  | .mrstAssert _ => true
  | .warm init => Wf.warm init
  | .handover init => Wf.handover init
  | .cold init => Wf.cold init
  | .perst => true
  | .profileSelect init prof => Wf.profileSelect init prof
  | .profileWrite init prof => Wf.profileWrite init prof
  | .profileWriteDone _ => true
  | .doorbell init off size _ _ => Wf.doorbell init off size
  | .descriptorFetch q _ => Wf.descriptorFetch q
  | .descriptorReadComplete q _ => Wf.descriptorReadComplete q
  | .nop q _ => Wf.nop q
  | .graphLaunch q _ _ => Wf.graphLaunch q
  | .graphAbort q _ => Wf.graphAbort q
  | .tokenInject q _ => Wf.tokenInject q
  | .dmaList q _ _ => Wf.dmaList q
  | .nodeRun q _ _ => Wf.nodeRun q
  | .completionWrite c => Wf.completionWrite c
  | .modTimeExpiry c _ => Wf.modTimeExpiry c
  | .msixSend v => Wf.msixSend v
  | .holdConditionBegin _ => true
  | .holdConditionEnd c speed width mps mrrs host => Wf.holdConditionEnd c speed width mps mrrs host
  | .load init => Wf.load init
  | .bind init => Wf.bind init
  | .unbind init => Wf.unbind init
  | .resume init => Wf.resume init
  | .bar4BaseWrite init _ => Wf.bar4BaseWrite init
  | .bar4Access off len data => Wf.bar4Access off len data
  | .cqEnable init c _ => Wf.cqEnable init c
  | .instanceAccept q _ _ => Wf.instanceAccept q
  | .nodeFetch i _ _ => Wf.nodeFetch i
  | .nodeComplete _ => true
  | .tokenRelease i _ _ => Wf.tokenRelease i
  | .arbiterDecision cls _ => Wf.arbiterDecision cls
  | .nodeTimeout i _ _ => Wf.nodeTimeout i
  | .timeout i _ => Wf.timeout i
  | .preemptDone core _ _ => Wf.preemptDone core
  | .preemptTo core _ => Wf.preemptTo core
  | .groupDisable init g => Wf.groupDisable init g
  | .groupDisableFlush init g weight => Wf.groupDisableFlush init g weight
  | .groupEnable init g weight => Wf.groupEnable init g weight
  | .unitDisable init => Wf.unitDisable init
  | .unitDisableFlush init => Wf.unitDisableFlush init
  | .unitEnable init => Wf.unitEnable init
  | .privRecordAppend q => Wf.privRecordAppend q
  | .spillRefill q _ => Wf.spillRefill q
  | .privSet init q => Wf.privSet init q
  | .traceCopy => true
  | .coreDeviceAccess c a n acc _ => Wf.coreDeviceAccess c a n acc
  | .coreBoot c => Wf.coreBoot c
  | .scoreHold init n => Wf.scoreHold init n
  | .scoreGo init n => Wf.scoreGo init n
  | .exit c _ flags => Wf.exit c flags
  | .boundary c => Wf.boundary c
  | .inputCall c _ => Wf.inputCall c
  | .ttimeCall c => Wf.ttimeCall c
  | .datalog c q _ _ => Wf.datalog c q
  | .stepException c _ => Wf.stepException c
  | .stepKilled c _ => Wf.stepKilled c
  | .stepEcc c => Wf.stepEcc c
  | .watchdogExpiry k => Wf.watchdogExpiry k
  | .kick init n => Wf.kick init n
  | .mcoreHold init n => Wf.mcoreHold init n
  | .mcoreGo init n => Wf.mcoreGo init n
  | .mgmtLoadUpdate loads => Wf.mgmtLoadUpdate loads
  | .shedRise _ => true
  | .shedFall _ => true
  | .microwordExecute n k _ => Wf.microwordExecute n k
  | .scrub w => Wf.scrub w
  | .check init => Wf.check init
  | .reload init => Wf.reload init
  | .checkComplete => true
  | .firstEmission n ofs => Wf.firstEmission n ofs
  | .vec n k => Wf.vec n k
  | .rpt n k => Wf.rpt n k
  | .loop n => Wf.loop n
  | .endl n => Wf.endl n
  | .call n => Wf.call n
  | .ret n => Wf.ret n
  | .jmp n => Wf.jmp n
  | .jcc n => Wf.jcc n
  | .matchInstr n => Wf.matchInstr n
  | .wtrg n => Wf.wtrg n
  | .tset n => Wf.tset n
  | .lset n => Wf.lset n
  | .sigPulse n => Wf.sigPulse n
  | .sigDriveHigh n => Wf.sigDriveHigh n
  | .sigDriveLow n => Wf.sigDriveLow n
  | .sigArmTdc n => Wf.sigArmTdc n
  | .sigTriggerAq n => Wf.sigTriggerAq n
  | .sigSetFlag n => Wf.sigSetFlag n
  | .sigClearFlag n => Wf.sigClearFlag n
  | .sync n => Wf.sync n
  | .holdOn n => Wf.holdOn n
  | .holdOff n => Wf.holdOff n
  | .endBurst n => Wf.endBurst n
  | .resultWaitEnd n => Wf.resultWaitEnd n
  | .wtrgTimeout n _ ofs => Wf.wtrgTimeout n ofs
  | .syncTimeout n _ => Wf.syncTimeout n
  | .matchExit n => Wf.matchExit n
  | .laneGroupEmit n => Wf.laneGroupEmit n
  | .pause init n => Wf.pause init n
  | .pauseClear init n => Wf.pauseClear init n
  | .halt init n => Wf.halt init n
  | .clrMchk init n => Wf.clrMchk init n
  | .burstComplete n => Wf.burstComplete n
  | .tperWrite init n k _ => Wf.tperWrite init n k
  | .vectorPlay n die _ => Wf.vectorPlay n die
  | .strobeJudgement ch obs => Wf.strobeJudgement ch obs
  | .gap n die => Wf.gap n die
  | .proofRecordReceive n => Wf.proofRecordReceive n
  | .burstToken n die => Wf.burstToken n die
  | .spillCopy n => Wf.spillCopy n
  | .traceHeaderWrite n die => Wf.traceHeaderWrite n die
  | .rdWrite init n _ => Wf.rdWrite init n
  | .srdWrite init n _ => Wf.srdWrite init n
  | .fcntWrite init ch _ => Wf.fcntWrite init ch
  | .captureReturnRecord n record => Wf.captureReturnRecord n record
  | .levelQueueApply q => Wf.levelQueueApply q
  | .chLqcmd init d _ => Wf.chLqcmd init d
  | .hvLqcmd init _ => Wf.hvLqcmd init
  | .relayLqcmd init _ => Wf.relayLqcmd init
  | .lim ch _ => Wf.lim ch
  | .connWrite init ch _ => Wf.connWrite init ch
  | .pmuMeasComplete c raws lsb _ _ => Wf.pmuMeasComplete c raws lsb
  | .pmuOff init ch => Wf.pmuOff init ch
  | .ilim h _ => Wf.ilim h
  | .limoffTrip h _ => Wf.limoffTrip h
  | .hvEnableWrite init h _ => Wf.hvEnableWrite init h
  | .rangeChangeEnd u => Wf.rangeChangeEnd u
  | .relayOvercurrent i _ => Wf.relayOvercurrent i
  | .h0Silence _ => true
  | .waveStart n => Wf.waveStart n
  | .listEntryFetch n => Wf.listEntryFetch n
  | .passEnd n => Wf.passEnd n
  | .jumpGo init n _ => Wf.jumpGo init n
  | .ddsStop init n => Wf.ddsStop init n
  | .playbackEnd n => Wf.playbackEnd n
  | .swtrig init n => Wf.swtrig init n
  | .aqSwtrig init mask => Wf.aqSwtrig init mask
  | .markerFire n => Wf.markerFire n
  | .syncinEdge ofs => Wf.syncinEdge ofs
  | .fire init => Wf.fire init
  | .asCmd init n _ => Wf.asCmd init n
  | .asCommandApply n => Wf.asCommandApply n
  | .clim n _ => Wf.clim n
  | .climoffTrip n _ => Wf.climoffTrip n
  | .dev n _ _ => Wf.dev n
  | .aqWord n samples _ => Wf.aqWord n samples
  | .aqRecordCopy n _ => Wf.aqRecordCopy n
  | .trigEdgeDetect l _ ofs => Wf.trigEdgeDetect l ofs
  | .trigSet init l => Wf.trigSet init l
  | .trigClr init l => Wf.trigClr init l
  | .pulseEnd l => Wf.pulseEnd l
  | .refinLoss _ => true
  | .refinRequalify det ppb => Wf.refinRequalify det ppb
  | .refLocked => true
  | .timebaseSrcWrite init _ => Wf.timebaseSrcWrite init
  | .timebaseSwitch => true
  | .tbTrimWrite init _ => Wf.tbTrimWrite init
  | .domainTick _ => true
  | .incWrite init k _ => Wf.incWrite init k
  | .adjWrite init k _ => Wf.adjWrite init k
  | .tdSet init k => Wf.tdSet init k
  | .tdClr init k => Wf.tdClr init k
  | .fracRead init k => Wf.fracRead init k
  | .snapshotGo init => Wf.snapshotGo init
  | .frameReceive p ps _ _ => Wf.frameReceive p ps
  | .rxdataRead init p => Wf.rxdataRead init p
  | .rxFlush init p => Wf.rxFlush init p
  | .txdataWrite init p _ => Wf.txdataWrite init p
  | .frameTransmit p ps => Wf.frameTransmit p ps
  | .txFlush init p => Wf.txFlush init p
  | .tsqPop init p => Wf.tsqPop init p
  | .portModeWrite init p _ => Wf.portModeWrite init p
  | .tdcArm u => Wf.tdcArm u
  | .tdcStartEdge u _ fine => Wf.tdcStartEdge u fine
  | .tdcStopEdge u _ fine => Wf.tdcStopEdge u fine
  | .tdcWindowExpiry u => Wf.tdcWindowExpiry u
  | .calStart init doms scope _ => Wf.calStart init doms scope
  | .calAbort init => Wf.calAbort init
  | .calDomainComplete _ _ _ => true
  | .calRefLost _ => true
  | .driftAssessment => true
  | .trackingUpdate c _ _ => Wf.trackingUpdate c
  | .pageIdleExpiry c bank _ => Wf.pageIdleExpiry c bank
  | .refreshDue c => Wf.refreshDue c
  | .opportunisticRefresh c => Wf.opportunisticRefresh c
  | .catchup c => Wf.catchup c
  | .doubledRate d _ => Wf.doubledRate d
  | .normalRate d _ => Wf.normalRate d
  | .selfRefreshEntry d _ => Wf.selfRefreshEntry d
  | .selfRefreshExit d => Wf.selfRefreshExit d
  | .memoryRequest c reqs crc _ _ => Wf.memoryRequest c reqs crc
  | .tableWalk ctx va dir req _ => Wf.tableWalk ctx va dir req
  | .xltInvContext init g => Wf.xltInvContext init g
  | .xltInvPage init g => Wf.xltInvPage init g
  | .xltInvAll init => Wf.xltInvAll init
  | .invDone => true
  | .fltClear init g => Wf.fltClear init g
  | .contextEnable init g => Wf.contextEnable init g
  | .contextDisable init g => Wf.contextDisable init g
  | .rootWrite init g _ => Wf.rootWrite init g
  | .dmaDescriptorRead ch _ => Wf.dmaDescriptorRead ch
  | .copy ch n _ => Wf.copy ch n
  | .fill ch n => Wf.fill ch n
  | .regwr ch => Wf.regwr ch
  | .dmaDescriptorComplete ch => Wf.dmaDescriptorComplete ch
  | .preqAssert ch => Wf.preqAssert ch
  | .dmaStop init ch => Wf.dmaStop init ch
  | .dmaAbort init ch => Wf.dmaAbort init ch
  | .dmaResume init ch => Wf.dmaResume init ch
  | .abandon init ch => Wf.abandon init ch
  | .swreq init ch => Wf.swreq init ch
  | .dmaTransferError ch kind _ => Wf.dmaTransferError ch kind
  | .pdTimeout ch _ => Wf.pdTimeout ch
  | .pairEn init _ => Wf.pairEn init
  | .retry init => Wf.retry init
  | .trainingAttempt _ lanes => Wf.trainingAttempt lanes
  | .attemptTimeout _ _ => true
  | .handshake role _ _ _ pcc _ => Wf.handshake role pcc
  | .resyncComplete base => Wf.resyncComplete base
  | .fomMeasure k fom => Wf.fomMeasure k fom
  | .laneLoss k => Wf.laneLoss k
  | .laneDisable k => Wf.laneDisable k
  | .restripe g => Wf.restripe g
  | .laneRetrain k fom _ => Wf.laneRetrain k fom
  | .forwardedWrite dest addr data => Wf.forwardedWrite dest addr data
  | .regionEnable init k => Wf.regionEnable init k
  | .regionCopyDone k => Wf.regionCopyDone k
  | .shadowEnable init => Wf.shadowEnable init
  | .burstStart _ port site group _ _ args _ => Wf.burstStart port site group args
  | .decisionRecord n _ _ _ => Wf.decisionRecord n
  | .nodeDispatch _ _ _ group _ _ _ => Wf.nodeDispatch group
  | .nodeEnd _ _ _ _ group _ status _ _ _ => Wf.nodeEnd group status
  | .descADescB _ q _ second data => Wf.descADescB q second data
  | .queueRecord _ q _ _ _ _ cq _ => Wf.queueRecord q cq
  | .instEnd _ _ data => Wf.instEnd data
  | .consumed _ n _ _ => Wf.consumed n
  | .configRecord _ off _ => Wf.configRecord off
  | .calRecord _ _ _ => true
  | .tokenRecord _ _ _ group _ _ _ _ => Wf.tokenRecord group
  | .journalAck j => Wf.journalAck j
  | .mirrorDecision n _ => Wf.mirrorDecision n
  | .blockDeadline n die => Wf.blockDeadline n die
  | .portSwitch n => Wf.portSwitch n
  | .tokenFrame f => Wf.tokenFrame f
  | .controlFrame d f => Wf.controlFrame d f
  | .primaryDown d _ => Wf.primaryDown d
  | .takeover _ => true
  | .takeoverEnd => true
  | .plateDetect _ => true
  | .identityRead _ => true
  | .plateRemoved _ => true
  | .wb init => Wf.wb init
  | .undock init => Wf.undock init
  | .plateReload init => Wf.plateReload init
  | .wbDone _ => true
  | .logicCheck unit => Wf.logicCheck unit
  | .faultRecordDelivery => true
  | .errRingEnable init size => Wf.errRingEnable init size
  | .errRingHeadWrite init _ => Wf.errRingHeadWrite init
  | .profileSlotChecked => true
  | .forwardedClockRelock d => Wf.forwardedClockRelock d
  | .holdoverExhausted d _ => Wf.holdoverExhausted d
  | .blockLockAcquired p => Wf.blockLockAcquired p
  | .linkDown p => Wf.linkDown p
  | .pmuLim ch _ => Wf.pmuLim ch
  | .tdcRangeExceeded u => Wf.tdcRangeExceeded u
  | .mirrorBlockReceive n die _ _ _ _ _ _ => Wf.mirrorBlockReceive n die
  | .dockEdge _ => true
  | .cableReconnect => true
  | .preemptWaitExpiry i _ _ => Wf.preemptWaitExpiry i
  | .assessOkExpiry => true

end Sys2Proof
end

