-- ==== Sys2Proof/Machine/Fabric.lean ====
section
/-!
DEFINITION. Host attachment, rings and the queue fabric (Chapter 4): queues and their binding, doorbells,
descriptor fetch, completions, moderation and MSI-X.
-/

namespace Sys2Proof.Machine

/-- One command: its meaning on the module where its operands name hardware that exists (`wf`), else nothing
(assumption 108). The count of commands advances, which gives every command its own free values. -/
def runAlways (wf : Bool) (f : Mod → Mod) (s : State) : Host.Outcome State Fault Refusal :=
  .next { s with m := { (if wf then f s.m else s.m) with cmds := s.m.cmds + 1 } }

/-- One command of the core die or of a pin die: while FATAL_ACTION 1 holds the module it does nothing (R419). -/
def run (wf : Bool) (f : Mod → Mod) (s : State) : Host.Outcome State Fault Refusal :=
  runAlways wf (fun m => if m.flt.halted then m else f m) s

/-! ### Status codes (Table 4.8) -/

def stOK : Nat := 0x00
def stFLUSHED : Nat := 0x01
def stRESET : Nat := 0x02
def stABORTED : Nat := 0x03
def stINVALID_OPCODE : Nat := 0x04
def stINVALID_FIELD : Nat := 0x05
def stFETCH_ERR : Nat := 0x06
def stXLT_FAULT : Nat := 0x07
def stTIMEOUT : Nat := 0x08
def stNO_TARGET : Nat := 0x09
def stSUPPLY_LOSS : Nat := 0x0A
def stTHERMAL_TRIP : Nat := 0x0B
def stPOWER_DOWN : Nat := 0x0C
def stPIN_LOST : Nat := 0x0D
def stBLOCK_LOST : Nat := 0x0E

/-! ### Completion rings -/

def Mod.cqOn (m : Mod) (c : Nat) : Bool := m.flag (Reg.HOST_CQ_CFG c) Fields.HOST_CQ_CFG.ENABLE
def Mod.cqSize (m : Mod) (c : Nat) : Nat := 2 ^ m.rd (Reg.HOST_CQ_CFG c) Fields.HOST_CQ_CFG.SIZE_LOG2
def Mod.cqTail (m : Mod) (c : Nat) : Nat := m.rd (Reg.HOST_CQ_STATE c) Fields.HOST_CQ_STATE.TAIL

/-- W: records written and not yet consumed (R89). -/
def Mod.cqUsed (m : Mod) (c : Nat) : Nat := (m.cqTail c + m.cqSize c - (m.cq c).head) % m.cqSize c

/-- Free slots: size − 1 − W − V (R92). -/
def Mod.cqFree (m : Mod) (c : Nat) : Nat := m.cqSize c - 1 - m.cqUsed c - (m.cq c).resv

/-! ### The journal (R395) -/

/-- A journal record of Table 16.5: 64 bytes. -/
def journalBytes (jseq type unit site group slot node ttime : Nat) (body : List Byte) : List Byte :=
  leBytes 4 jseq ++ leBytes 1 type ++ leBytes 1 unit ++ leBytes 1 site ++ leBytes 1 group ++ leBytes 2 slot ++
    leBytes 2 node ++ zeroBytes 4 ++ leBytes 8 ttime ++ (body ++ zeroBytes 40).take 40

/-- Whether the journal runs: the pair is in RESYNC or ACTIVE (R380, R395). -/
def Mod.journalOn (m : Mod) : Bool :=
  m.rd Reg.SL_STATUS Fields.SL_STATUS.STATE == 3 || m.rd Reg.SL_STATUS Fields.SL_STATUS.STATE == 4

/-- In a pair a journal record is sent over the mirror group (kind 1) and takes the next JSEQ. -/
def Mod.journal (type unit site group slot node : Nat) (body : List Byte) (m : Mod) : Mod :=
  if !m.journalOn then m
  else
    let j := m.pair.jseq
    let r := journalBytes j type unit site group slot node m.ttime body
    ((({ m with pair := { m.pair with jseq := (j + 1) % 0x100000000 } } : Mod).setReg Reg.SL_JSENT (BitVec.ofNat 32 j)).sendUnit 0 r).emit
      (.siteLink 1 (r.map BitVec.toNat))

/-- Journal records not yet acknowledged. -/
def Mod.journalOpen (m : Mod) : Nat :=
  (m.pair.jseq + 0x100000000 - m.pair.acked) % 0x100000000

/-- Whether the journal holds its producers: 4,096 records are unacknowledged (R395). -/
def Mod.journalFull (m : Mod) : Bool := m.pairActive && decide (4096 ≤ m.journalOpen)

/-- A QUEUE record (Table 16.6): number, HEAD, TAIL and binding. -/
def Mod.journalQueue (q : Nat) (m : Mod) : Mod :=
  let x := m.queue q
  m.when (decide (q < 4096)) (Mod.journal 6 0 noSite (q / 64) 0xFFFF 0xFFFF (leBytes 2 q ++ leBytes 2 x.head ++
    leBytes 2 x.tail ++ leBytes 1 (b2n x.bound + 2 * x.sizeLog2) ++ leBytes 1 x.cq ++ leBytes 8 x.base))

/-- The DESC_A and DESC_B records of a descriptor that has come on chip (Table 16.6): the slot and node fields name
its queue and ring slot. -/
def Mod.journalDesc (q slot : Nat) (bs : List Byte) (m : Mod) : Mod :=
  m.when (decide (q < 4096)) (fun s => (s.journal 5 0 (byteAt bs 2 % 64) (q / 64) q slot (bs.take 40)).journal 5 1
    (byteAt bs 2 % 64) (q / 64) q slot (bs.drop 40))

/-! ### Completion rings -/

/-- Reservations of a ring given back. -/
def Mod.unreserve (c n : Nat) (m : Mod) : Mod :=
  let r := m.cq c
  m.setCq c { r with resv := r.resv - n }

/-- A descriptor has completed: it is no longer outstanding (R99 item 2). -/
def Mod.settleSerial (q serial : Nat) (m : Mod) : Mod :=
  let x := m.queue q
  m.setQueue q { x with outstanding := x.outstanding.erase serial }

/-- The ring of adopted completions (R399). -/
def Mod.adoptCq (m : Mod) : Nat := m.rd Reg.SL_CTRL Fields.SL_CTRL.ADOPT_CQ

/-- Whether a completion holds no slot of ADOPT_CQ: its descriptor was fetched by the failed module (R400). -/
def Mod.unreserved (m : Mod) (c : Comp) : Bool := decide (4096 ≤ c.queue) && decide (c.serial < (m.queue c.queue).ownFrom)

/-- Held completions move to ADOPT_CQ in order while it is enabled and has space (R400). -/
def Mod.drainHeld : Nat → Mod → Mod
  | 0, m => m
  | fuel + 1, m =>
    let a := m.adoptCq
    let r := m.cq a
    match m.pair.held with
    | [] => m.wr Reg.SL_STATUS Fields.SL_STATUS.ADOPT_HELD 0
    | c :: rest =>
      let needs := m.unreserved c
      if m.cqOn a && (!needs || decide (0 < m.cqFree a)) then
        drainHeld fuel (({ m with pair := { m.pair with held := rest } } : Mod).setCq a
          { r with waiting := r.waiting ++ [c], resv := r.resv + b2n needs })
      else m

/-- An adopted completion is held, and moves on where ADOPT_CQ takes it (R400). -/
def Mod.adopted (c : Comp) (m : Mod) : Mod :=
  let held := m.pair.held ++ [c]
  (({ m with pair := { m.pair with held := held } } : Mod).wr Reg.SL_STATUS Fields.SL_STATUS.ADOPT_HELD 1).drainHeld
    (held.length + 1)

/-- Work ends with a completion (R97 to R99). Under QUIET an OK record without ABORT_LATE is suppressed
and its reservation released (R92); any other waits in the ring's order to be written. -/
def Mod.complete (quiet : Bool) (c : Comp) (m : Mod) : Mod :=
  let ring := (m.queue c.queue).cq
  if quiet && c.status == 0 && !c.abortLate then
    (m.when (!m.unreserved c) (Mod.unreserve ring 1)).settleSerial c.queue c.serial
  else if 4096 ≤ c.queue then m.adopted c
  else
    let r := m.cq ring
    m.setCq ring { r with waiting := r.waiting ++ [c] }

/-- The header fields of a descriptor (Table 4.5). -/
def descOpcode (bs : List Byte) : Nat := byteAt bs 0
def descFence (bs : List Byte) : Bool := nbit (byteAt bs 1) 0
def descIrqNow (bs : List Byte) : Bool := nbit (byteAt bs 1) 1
def descQuiet (bs : List Byte) : Bool := nbit (byteAt bs 1) 2
def descSite (bs : List Byte) : Nat := byteAt bs 2 % 64
def descTag (bs : List Byte) : Word := BitVec.ofNat 32 (fieldAt bs 4 4)

/-- The completion of a descriptor with a status and a result and no flags. -/
def descComp (q serial : Nat) (bs : List Byte) (status : Nat) (result : Word) : Comp :=
  { queue := q, serial := serial, tag := descTag bs, status := status, abortLate := false,
    stretched := false, fail := false, detail := false, result := result, site := descSite bs,
    irqNow := descIrqNow bs }

/-- A descriptor ends with a status. -/
def Mod.completeDesc (q : Nat) (d : Desc) (status : Nat) (result : Word) (m : Mod) : Mod :=
  m.complete (descQuiet d.bytes) (descComp q d.serial d.bytes status result)

/-- The 16 bytes of a completion record (Table 4.7). -/
def compBytes (c : Comp) (phase : Bool) (head : Nat) : List Byte :=
  leBytes 4 c.tag.toNat ++ leBytes 2 (c.queue % 4096) ++ leBytes 1 c.status ++
    leBytes 1 (b2n phase + 2 * b2n c.abortLate + 4 * b2n c.stretched + 8 * b2n c.fail + 16 * b2n c.detail) ++
    leBytes 4 c.result.toNat ++ leBytes 1 c.site ++ leBytes 1 0 ++ leBytes 2 head

/-- The interrupt of a ring becomes due: its vector, and the count and timer restart (R102). -/
def Mod.cqDue (c : Nat) (m : Mod) : Mod :=
  let r := m.cq c
  (m.setCq c { r with count := 0, timer := false }).due (m.rd (Reg.HOST_CQ_CFG c) Fields.HOST_CQ_CFG.VEC)

/-- MOD_COUNT of a ring; 0 acts as 1 (R102). -/
def Mod.modCount (m : Mod) (c : Nat) : Nat := max 1 (m.rd (Reg.HOST_CQ_CFG c) Fields.HOST_CQ_CFG.MOD_COUNT)

/-- Moderation after a record (R102): due at MOD_COUNT records or at IRQ_NOW; otherwise the time since the first record
runs on. -/
def Mod.cqModerate (c : Nat) (irqNow : Bool) (m : Mod) : Mod :=
  let r := m.cq c
  if irqNow || decide (m.modCount c ≤ r.count + 1) then m.cqDue c
  else m.setCq c { r with count := r.count + 1, timer := true }

/-- MOD_COUNT changes: records already written may now make the interrupt due (R102). -/
def Mod.cqRecount (c : Nat) (m : Mod) : Mod :=
  m.when ((m.cq c).count != 0 && decide (m.modCount c ≤ (m.cq c).count)) (Mod.cqDue c)

/-- The record of an invalid descriptor has been written: its queue halts where HALT_ON_INVALID was set (R94). -/
def Mod.haltAfter (c : Comp) (m : Mod) : Mod :=
  let x := m.queue c.queue
  m.when (x.halting == some c.serial) (Mod.setQueue c.queue { x with halting := none, halted := true })

/-- Completions of one instant are written in ascending queue number and, within one queue, in ring order (R99
item 5). -/
def compBefore (a b : Comp) : Bool := decide (a.queue < b.queue) || (a.queue == b.queue && decide (a.serial ≤ b.serial))

def insertComp (c : Comp) : List Comp → List Comp
  | [] => [c]
  | x :: t => if compBefore x c then x :: insertComp c t else c :: x :: t

def sortComps (l : List Comp) : List Comp := l.foldl (fun a c => insertComp c a) []

/-- What has been added to the rings since `old`, at one instant, takes the order of R99 item 5. -/
def Mod.atOnce (m old : Mod) : Mod :=
  m.each (List.range 64) (fun c s =>
    let r := s.cq c
    let k := (old.cq c).waiting.length
    if decide (k + 2 ≤ r.waiting.length) then s.setCq c { r with waiting := r.waiting.take k ++ sortComps (r.waiting.drop k) }
    else s)

/-- The oldest waiting record of ring `c` is written at TAIL (R97, R99, R100). It is held while a
condition of R104 holds. -/
def Mod.completionWrite (c : Nat) (m : Mod) : Mod :=
  let r := m.cq c
  match r.waiting with
  | [] => m
  | x :: rest =>
    if !m.cqOn c || !m.pcieLive then m
    else
      let tail := m.cqTail c
      let phase := m.flag (Reg.HOST_CQ_STATE c) Fields.HOST_CQ_STATE.PHASE
      let base := m.rd64 (Reg.HOST_CQ_BASE_LO c)
      let m1 := m.emit (.hostWrite (base + 16 * tail) (compBytes x phase (m.queue x.queue).head) false)
      let m2 := m1.setCq c { r with waiting := rest, resv := r.resv - 1 }
      let m3 := (m2.settleSerial x.queue x.serial).haltAfter x
      let wraps := tail + 1 == m.cqSize c
      let m4 := m3.wr (Reg.HOST_CQ_STATE c) Fields.HOST_CQ_STATE.TAIL (if wraps then 0 else tail + 1)
      let m5 := if wraps then m4.wr (Reg.HOST_CQ_STATE c) Fields.HOST_CQ_STATE.PHASE (b2n !phase) else m4
      (m5.cqModerate c x.irqNow).journalQueue x.queue

/-- MOD_TIME µs have passed since the first record after the interrupt was last due (R102). -/
def Mod.modTimeExpiry (c us : Nat) (m : Mod) : Mod :=
  let t := m.rd (Reg.HOST_CQ_CFG c) Fields.HOST_CQ_CFG.MOD_TIME
  if (m.cq c).timer && t != 0 && decide (t ≤ us) then m.cqDue c else m

/-- The message of vector `v` leaves once its interrupt is due, the vector is unmasked and Bus Master
Enable is set (R103). -/
def Mod.msixSend (v : Nat) (m : Mod) : Mod :=
  let asked := m.pcie.due.contains v || m.vecPending v
  if !asked then m
  else
    let m1 := { m with pcie := { m.pcie with due := m.pcie.due.erase v } }
    if m.vecMasked v || !m.pcieLive then m1.setPending v true
    else (m1.setPending v false).emit
      (.msix v (m.rd64 (0x110000 + 16 * v)) (m.reg (0x110008 + 16 * v)))

/-! ### Conditions of R104 -/

/-- HOLDING follows the conditions that stand (Table 4.11). -/
def Mod.updateHolding (m : Mod) : Mod :=
  let p := m.pcie
  m.wr Reg.HOST_STATUS Fields.HOST_STATUS.HOLDING
    (b2n (p.linkDown || p.perst || p.d3hot || !m.flag Reg.HOST_STATUS Fields.HOST_STATUS.BME))

/-- Descriptor reads in flight when a condition begins are not failed reads: their slots keep their
reservations and are fetched again (R93). -/
def Queue.dropFetches (x : Queue) : Queue :=
  { x with kept := x.kept + (x.fetches.map Fetch.count).sum, fetches := [] }

/-- Every queue with reads in flight drops them. -/
def Mod.dropAllFetches (m : Mod) : Mod :=
  m.each (m.queues.map Prod.fst) (fun q s => s.setQueue q (s.queue q).dropFetches)

/-- A condition of R104 begins. -/
def Mod.holdBegin (c : HoldCond) (m : Mod) : Mod :=
  let m1 : Mod := match c with
    | .linkDown => ({ m with pcie := { m.pcie with linkDown := true } } : Mod).wr Reg.HOST_STATUS
        Fields.HOST_STATUS.LINK_UP 0
    | .perst => { m with pcie := { m.pcie with perst := true } }
    | .bmeClear => m.wr Reg.HOST_STATUS Fields.HOST_STATUS.BME 0
    | .d3hot => { m with pcie := { m.pcie with d3hot := true } }
  m1.dropAllFetches.updateHolding

/-- A condition of R104 ends; the link comes up at a speed and width, and the host sets the BARs, the sizes and Enable
Relaxed Ordering with Memory Space and Bus Master Enable. -/
def Mod.holdEnd (c : HoldCond) (speed width mps mrrs : Nat) (ero : Bool) (bars : List Nat) (m : Mod) : Mod :=
  let m1 : Mod := match c with
    | .linkDown =>
      ((({ m with pcie := { m.pcie with linkDown := false } } : Mod).wr Reg.HOST_STATUS
        Fields.HOST_STATUS.LINK_UP 1).wr Reg.HOST_STATUS Fields.HOST_STATUS.SPEED speed).wr Reg.HOST_STATUS
        Fields.HOST_STATUS.WIDTH width
    | .perst => { m with pcie := { m.pcie with perst := false } }
    | .bmeClear =>
      let p := { m.pcie with
        mps := mps
        mrrs := mrrs
        ero := ero
        memEn := true
        bars := List.zipWith (fun a t => a / 16 * 16 + t) bars [0x4, 0xC, 0xC] }
      ({ m with pcie := p } : Mod).wr Reg.HOST_STATUS
        Fields.HOST_STATUS.BME 1
    | .d3hot => { m with pcie := { m.pcie with d3hot := false } }
  m1.updateHolding

/-! ### Queue context window (R87) -/

/-- The queue that HOST_QSEL selects. -/
def Mod.qsel (m : Mod) : Nat := m.rd Reg.HOST_QSEL Fields.HOST_QSEL.QUEUE

/-- LOAD: the selected queue's binding in the staged fields; their reset values where it is not bound. -/
def Mod.qLoad (m : Mod) : Mod :=
  let x := m.queue m.qsel
  let b := x.bound
  let cfg := fput Fields.HOST_QCTX_CFG.SIZE_LOG2 (if b then x.sizeLog2 else 4)
    (fput Fields.HOST_QCTX_CFG.CQ (if b then x.cq else 0)
      (fput Fields.HOST_QCTX_CFG.HALT_ON_INVALID (b2n (b && x.haltOnInvalid)) 0#32))
  (m.wr64 Reg.HOST_QCTX_BASE_LO (if b then x.base else 0)).setReg Reg.HOST_QCTX_CFG cfg

/-- BIND: refused where the queue is bound, SIZE_LOG2 lies outside 4 to 16 or the ring is not enabled. -/
def Mod.qBind (m : Mod) : Mod :=
  let q := m.qsel
  let x := m.queue q
  let sz := m.rd Reg.HOST_QCTX_CFG Fields.HOST_QCTX_CFG.SIZE_LOG2
  let c := m.rd Reg.HOST_QCTX_CFG Fields.HOST_QCTX_CFG.CQ
  if x.bound || decide (sz < 4) || decide (16 < sz) || !m.cqOn c then m.ctxRefused q c
  else
    (m.setQueue q { x with
      bound := true
      base := m.rd64 Reg.HOST_QCTX_BASE_LO
      sizeLog2 := sz
      cq := c
      haltOnInvalid := m.flag Reg.HOST_QCTX_CFG Fields.HOST_QCTX_CFG.HALT_ON_INVALID
      head := 0
      tail := 0
      halted := false
      halting := none }).journalQueue q

/-- UNBIND: refused unless nothing of the queue is on chip, in flight or outstanding (R87). -/
def Mod.qUnbind (m : Mod) : Mod :=
  let q := m.qsel
  let x := m.queue q
  if !x.onchip.isEmpty || !x.outstanding.isEmpty || !x.fetches.isEmpty then m.ctxRefused q x.cq
  else ((m.unreserve x.cq x.kept).setQueue q { x with
    bound := false
    base := 0
    sizeLog2 := 4
    cq := 0
    haltOnInvalid := false
    head := 0
    tail := 0
    halted := false
    halting := none
    kept := 0 }).journalQueue q

/-- RESUME: refused unless the queue is halted; fetching restarts from HEAD. -/
def Mod.qResume (m : Mod) : Mod :=
  let q := m.qsel
  let x := m.queue q
  if x.halted then m.setQueue q { x with halted := false } else m.ctxRefused q x.cq

/-- A write of HOST_QCMD OP. -/
def Mod.qCmd (op : Nat) (m : Mod) : Mod :=
  match op with
  | 1 => m.qLoad
  | 2 => m.qBind
  | 3 => m.qUnbind
  | 4 => m.qResume
  | _ => m

/-! ### Doorbells (R88 to R90) -/

/-- The parts of a doorbell (Table 4.4). -/
def dbTail (v : Nat) : Nat := nbits v 0 16
def dbSqValid (v : Nat) : Bool := nbit v 16
def dbCq (v : Nat) : Nat := nbits v 24 6
def dbCqValid (v : Nat) : Bool := nbit v 31
def dbCqHead (v : Nat) : Nat := nbits v 32 16
def dbReserved (v : Nat) : Bool := nbits v 17 7 != 0 || nbits v 30 1 != 0 || nbits v 48 16 != 0

/-- Case "not bound" of R89 for the SQ part, and case "not enabled" for the CQ part. -/
def Mod.dbUnbound (m : Mod) (q v : Nat) : Bool :=
  (dbSqValid v && !(m.queue q).bound) || (dbCqValid v && !m.cqOn (dbCq v))

/-- The range cases of R89. -/
def Mod.dbRange (m : Mod) (q v : Nat) : Bool :=
  let x := m.queue q
  let c := dbCq v
  dbReserved v ||
    (dbSqValid v && x.bound && decide (2 ^ x.sizeLog2 ≤ dbTail v)) ||
    (dbCqValid v && m.cqOn c && (decide (m.cqSize c ≤ dbCqHead v) ||
      decide (m.cqUsed c < (dbCqHead v + m.cqSize c - (m.cq c).head) % m.cqSize c)))

/-- The backward case of R89. -/
def Mod.dbBackward (m : Mod) (q v : Nat) : Bool :=
  let x := m.queue q
  let s := 2 ^ x.sizeLog2
  dbSqValid v && x.bound && decide ((dbTail v + s - x.head) % s < (x.tail + s - x.head) % s)

/-- A doorbell of queue `q`, checked whole and applied or discarded whole (R89). -/
def Mod.doorbell (q v : Nat) (m : Mod) : Mod :=
  let c := if dbCqValid v then dbCq v else 0
  let u := m.dbUnbound q v
  let r := m.dbRange q v
  let b := m.dbBackward q v
  if u || r || b then
    ((m.when u (Mod.hostErr Fields.HOST_ERR.DB_UNBOUND q c)).when r
      (Mod.hostErr Fields.HOST_ERR.DB_RANGE q c)).when b (Mod.hostErr Fields.HOST_ERR.DB_BACKWARD q c)
  else
    let x := m.queue q
    let m1 := if dbSqValid v then (m.setQueue q { x with tail := dbTail v }).journalQueue q else m
    let k := m1.cq (dbCq v)
    if dbCqValid v then
      (m1.setCq (dbCq v) { k with head := dbCqHead v }).when (dbCq v == m.adoptCq && !m.pair.held.isEmpty)
        (Mod.drainHeld (m.pair.held.length + 1))
    else m1

/-- A write to the doorbell area (R88): one aligned write of 8 bytes with every byte enable, from the
host or a core, after READY; REGWR and any other form is discarded and sets DB_SIZE. -/
def Mod.doorbellWrite (init : Init) (off size : Nat) (full : Bool) (v : Nat) (m : Mod) : Mod :=
  if m.flt.halted || !m.open then m
  else
    let q := (off - 0x1000000) / 8
    let ok := match init with
      | .regwr _ => false
      | .profile => false
      | _ => size == 8 && off % 8 == 0 && full
    if ok then m.doorbell q v else m.hostErr Fields.HOST_ERR.DB_SIZE q 0

/-! ### Descriptor fetch (R92, R93) -/

/-- Slots announced and neither fetched nor in flight. -/
def Queue.announced (x : Queue) : Nat :=
  let s := 2 ^ x.sizeLog2
  (x.tail + s - x.head) % s - (x.fetches.map Fetch.count).sum

/-- The slot the next read starts at. -/
def Queue.nextSlot (x : Queue) : Nat := (x.head + (x.fetches.map Fetch.count).sum) % 2 ^ x.sizeLog2

/-- Non-posted requests of the fabric in flight (R80). -/
def Mod.npOpen (m : Mod) : Nat := (m.queues.map (fun e => e.2.fetches.length)).sum

/-- Whether a read of `n` descriptors of queue `q` may be issued (R92, R104); of an adopted ring, with ADOPT_RINGS
set and ADOPT_CQ enabled (R399, R400). -/
def Mod.mayFetch (m : Mod) (q n : Nat) : Bool :=
  let x := m.queue q
  let inFlight := (x.fetches.map Fetch.count).sum
  x.bound && !x.halted && x.halting.isNone && decide (m.npOpen < 512) && m.flag Reg.HOST_CTRL Fields.HOST_CTRL.FETCH_EN && m.pcieLive && !m.hat.stopped &&
    (decide (q < 4096) || (m.flag Reg.SL_CTRL Fields.SL_CTRL.ADOPT_RINGS && m.cqOn x.cq && m.pair.held.isEmpty)) &&
    n != 0 && decide (n ≤ x.announced) && decide (x.onchip.length + inFlight + n ≤ 4) &&
    decide (n ≤ x.kept + m.cqFree x.cq) && decide (x.nextSlot + n ≤ 2 ^ x.sizeLog2) &&
    decide (64 * n ≤ m.pcie.mrrs)

/-- The fabric issues one descriptor read, reserves its completion slots and charges the read to the queue's group. -/
def Mod.descFetch (q n : Nat) (m : Mod) : Mod :=
  if !m.mayFetch q n then m
  else
    let x := m.queue q
    let fromKept := min x.kept n
    let r := m.cq x.cq
    let m1 := m.setCq x.cq { r with resv := r.resv + (n - fromKept) }
    ((m1.setQueue q { x with
      kept := x.kept - fromKept
      fetches := x.fetches ++ [⟨x.nextSlot, n⟩] }).chargeSram (payer (q / 64)) (64 * n)).emit (.hostRead (x.base + 64 * x.nextSlot) (64 * n))

/-- The status of an invalid descriptor (R94), or none. -/
def descInvalid (bs : List Byte) : Option Nat :=
  let op := descOpcode bs
  let hdr := nbits (byteAt bs 1) 3 5 == 0 && nbits (byteAt bs 2) 6 2 == 0 && byteAt bs 3 == 0
  let body := match op with
    | 0 => zerosAt bs 8 56
    | 1 => zerosAt bs 14 2 && zerosAt bs 22 2 && zerosAt bs 38 26
    | 2 => zerosAt bs 12 52
    | 3 => zerosAt bs 14 2 && zerosAt bs 24 40
    | 4 => zerosAt bs 15 49 && (decide (byteAt bs 14 ≤ 31) || byteAt bs 14 == 0xFF)
    | _ => zerosAt bs 14 2 && zerosAt bs 22 42
  if 5 < op then some stINVALID_OPCODE else if hdr && body then none else some stINVALID_FIELD

/-- One descriptor of a read enters its queue, or completes as invalid; the record of an invalid one halts its queue where
HALT_ON_INVALID is set (R94). -/
def Mod.intake (q : Nat) (bs : List Byte) (m : Mod) : Mod :=
  let x := m.queue q
  let serial := x.nextSerial
  let slot := x.head
  let y : Queue := { x with
    head := (x.head + 1) % 2 ^ x.sizeLog2
    nextSerial := serial + 1
    outstanding := x.outstanding ++ [serial] }
  match descInvalid bs with
  | none => ((m.setQueue q { y with onchip := y.onchip ++ [⟨slot, serial, bs, false⟩] }).journalDesc q slot bs).journalQueue q
  | some st =>
    ((m.setQueue q { y with halting := if y.haltOnInvalid then some serial else none }).hostErr Fields.HOST_ERR.DESC_INVALID q
      x.cq).complete (descQuiet bs) (descComp q serial bs st 0#32)

/-- The descriptors of a read in ring order, until one is to halt its queue; those after it are dropped and
their reservations released (R94). -/
def Mod.intakeAll (q : Nat) : List (List Byte) → Mod → Mod
  | [], m => m
  | bs :: rest, m =>
    if (m.queue q).halted || (m.queue q).halting.isSome then m.unreserve (m.queue q).cq (rest.length + 1)
    else intakeAll q rest (m.intake q bs)

/-- Bytes cut into records of 64. -/
def cut64 : Nat → List Byte → List (List Byte)
  | 0, _ => []
  | n + 1, bs => bs.take 64 :: cut64 n (bs.drop 64)

/-- The reads of a halted queue still in flight are dropped with their reservations. -/
def Mod.dropReads (q : Nat) (m : Mod) : Mod :=
  let x := m.queue q
  (m.unreserve x.cq (x.fetches.map Fetch.count).sum).setQueue q { x with fetches := [] }

/-- The oldest descriptor read of queue `q` returns: its bytes, or an error that halts the queue (R93). -/
def Mod.descReadDone (q : Nat) (data : Option (List Byte)) (m : Mod) : Mod :=
  let x := m.queue q
  match x.fetches with
  | [] => m
  | f :: rest =>
    match data with
    | some bs =>
      let m1 := (m.setQueue q { x with fetches := rest }).intakeAll q (cut64 f.count bs)
      if (m1.queue q).halted || (m1.queue q).halting.isSome then m1.dropReads q else m1
    | none =>
      let m1 := (m.setQueue q { x with fetches := rest, halted := true }).dropReads q
      let m2 := (m1.unreserve x.cq (f.count - 1)).hostErr Fields.HOST_ERR.FETCH_ERR q x.cq
      m2.complete false { queue := q, serial := x.nextSerial + 0x100000000, tag := 0#32, status := stFETCH_ERR,
                          abortLate := false, stretched := false, fail := false, detail := false,
                          result := 0#32, site := 0, irqNow := false }

/-! ### Taking a descriptor -/

/-- HAT_Qq_CFG of a queue, the partner's for an adopted one. -/
def Mod.qCfg (m : Mod) (q : Nat) : Word := if q < 4096 then m.reg (Reg.HAT_Q_CFG q) else m.peerReg (Reg.HAT_Q_CFG (q - 4096))

def Mod.groupOn (m : Mod) (g : Nat) : Bool := fget Fields.HAT_GRP_CFG.ENABLE (m.grpCfg g) != 0

/-- Whether Hatch dispatches at all (Table 5.11, R46, R67). -/
def Mod.dispatchOpen (m : Mod) : Bool := m.flag Reg.HAT_CTRL Fields.HAT_CTRL.DISPATCH_EN && !m.hat.stopped

/-- Whether new dispatch to a group is open (R126, Table 5.11, R46, R67). -/
def Mod.groupOpen (m : Mod) (g : Nat) : Bool := m.groupOn g && m.dispatchOpen

/-- Descriptor `k` on chip of queue `q`, where it has opcode `op` and may be dispatched: a FENCE waits
for every earlier descriptor of its queue (R99 item 2). -/
def Mod.takeable (m : Mod) (q k op : Nat) : Option Desc :=
  let x := m.queue q
  match x.onchip[k]? with
  | none => none
  | some d =>
    if descOpcode d.bytes == op && m.groupOpen (q / 64) &&
        (!descFence d.bytes || x.outstanding.all (fun s => decide (d.serial ≤ s))) then some d
    else none

/-- Descriptor `k` leaves the chip's slots. -/
def Mod.dropDesc (q k : Nat) (m : Mod) : Mod :=
  let x := m.queue q
  m.setQueue q { x with onchip := x.onchip.eraseIdx k }

/-! ### PERST# (R68, R105) -/

/-- PERST# resets the endpoint: every MSI-X entry is masked with address and data 0, and configuration
space returns to its reset values; the rest of the module is unchanged. -/
def Mod.perst (m : Mod) : Mod :=
  let m1 := m.each (List.range 256) (fun v s =>
    ((s.wr64 (0x110000 + 16 * v) 0).setReg (0x110008 + 16 * v) 0#32).setReg (0x11000C + 16 * v) 1#32)
  let m2 : Mod := { m1 with pcie := { Pcie.fresh with perst := true, due := [] } }
  let m3 := m.pcie.due.foldl (fun s v => s.setPending v true) m2
  let m4 := ((m3.wr Reg.HOST_STATUS Fields.HOST_STATUS.BME 0).wr Reg.HOST_STATUS Fields.HOST_STATUS.LINK_UP 0).wr
    Reg.GLB_RST_CAUSE Fields.GLB_RST_CAUSE.PERST_SEEN 1
  m4.dropAllFetches.updateHolding

end Sys2Proof.Machine
end

