-- ==== Sys2Proof/Machine/HatchGraph.lean ====
section
/-!
DEFINITION. Hatch's graphs (Chapter 5, R107 to R114, R134): images and their check, tokens and readiness,
the end of an instance, and the decision trace.
-/

namespace Sys2Proof.Machine

/-! ### Status codes (Tables 5.6, 6.6, 15.9, 14.4) -/

def stGRAPH_INVALID : Nat := 0xC0
def stDUP_INSTANCE : Nat := 0xC1
def stUNIT_UNAVAILABLE : Nat := 0xC2
def stUNIT_DISABLED : Nat := 0xC3
def stNODE_TIMEOUT : Nat := 0xC4
def stTOKEN_FULL : Nat := 0xC5
def stMEM_UE : Nat := 0xB8
def stMEM_OFFLINE : Nat := 0xB9
def stXLT_NOMAP : Nat := 0xA6
def stDMA_BUS : Nat := 0xA2

/-! ### Images -/

/-- A node descriptor read from its 64 bytes (Table 5.2). -/
def NodeD.ofBytes (bs : List Byte) : NodeD :=
  { cls := byteAt bs 0 % 16, merge := nbit (byteAt bs 1) 0, preemptible := nbit (byteAt bs 1) 1,
    qsel := byteAt bs 2 % 64, unit := byteAt bs 3, cost := fieldAt bs 4 2, settle := fieldAt bs 6 2,
    timeout := fieldAt bs 8 4, args := (bs.drop 16).take 48 }

/-- The reserved fields of a node descriptor are 0, and its CLASS is one of Table 5.4. -/
def nodeBytesOk (bs : List Byte) : Bool :=
  nbits (byteAt bs 0) 4 4 == 0 && nbits (byteAt bs 1) 2 6 == 0 && nbits (byteAt bs 2) 6 2 == 0 &&
    zerosAt bs 12 4 && decide (1 ≤ byteAt bs 0 % 16) && decide (byteAt bs 0 % 16 ≤ 9)

/-- An edge descriptor read from its 16 bytes (Table 5.3). -/
def EdgeD.ofBytes (bs : List Byte) : EdgeD :=
  { src := fieldAt bs 0 2, dst := fieldAt bs 2 2, cond := byteAt bs 4, imm := fieldAt bs 8 4 }

/-- The reserved fields of an edge descriptor are 0, and its COND is not reserved. -/
def edgeBytesOk (bs : List Byte) : Bool := zerosAt bs 5 3 && zerosAt bs 12 4 && decide (byteAt bs 4 ≤ 6)

/-- A graph image that has passed the check. -/
structure Graph where
  nodes : List NodeD
  edges : List EdgeD
  resultEdge : Nat
  deriving DecidableEq, Repr

/-- Records of `n` bytes cut from a byte string. -/
def cutRecords (n : Nat) : Nat → List Byte → List (List Byte)
  | 0, _ => []
  | k + 1, bs => bs.take n :: cutRecords n k (bs.drop n)

/-- The header of Table 5.1 is in range: MAGIC, NODE_COUNT, EDGE_COUNT and the reserved fields. -/
def graphHeaderOk (bs : List Byte) : Bool :=
  fieldAt bs 0 4 == 0x48524748 && decide (1 ≤ fieldAt bs 4 2) && decide (fieldAt bs 4 2 ≤ 1024) &&
    decide (fieldAt bs 6 2 ≤ 4096) && zerosAt bs 10 2 && zerosAt bs 16 48

/-- The length of an image by its header. -/
def graphLength (bs : List Byte) : Nat := 64 + 64 * fieldAt bs 4 2 + 16 * fieldAt bs 6 2

/-- The edges of a graph: SRC below DST, DST a node or the result edge's 0xFFFF (R107). -/
def edgeOk (nodes resultEdge j : Nat) (e : EdgeD) : Bool :=
  (e.src == 0xFFFF || decide (e.src < e.dst)) &&
    (decide (e.dst < nodes) || (e.dst == 0xFFFF && j == resultEdge))

/-- A node's degrees: at most 8 input and 8 output edges, and a JOIN has an input (R107). -/
def degreesOk (nodes : List NodeD) (edges : List EdgeD) : Bool :=
  (List.range nodes.length).all (fun k =>
    let i := edges.countP (fun e => e.dst == k)
    let o := edges.countP (fun e => e.src == k)
    decide (i ≤ 8) && decide (o ≤ 8) && !((nodes.getD k (NodeD.ofBytes [])).cls == 9 && i == 0))

/-- The check of R107 over a whole image. -/
def checkGraph (bs : List Byte) : Option Graph :=
  if !graphHeaderOk bs || (crc32 (bs.drop 16)).toNat != fieldAt bs 12 4 then none
  else
    let n := fieldAt bs 4 2
    let e := fieldAt bs 6 2
    let r := fieldAt bs 8 2
    let nb := cutRecords 64 n (bs.drop 64)
    let eb := cutRecords 16 e (bs.drop (64 + 64 * n))
    let nodes := nb.map NodeD.ofBytes
    let edges := eb.map EdgeD.ofBytes
    if nb.all nodeBytesOk && eb.all edgeBytesOk && (r == 0xFFFF || decide (r < e)) &&
        (List.range e).all (fun j => match edges[j]? with
          | some x => edgeOk n r j x
          | none => true) && degreesOk nodes edges
    then some ⟨nodes, edges, r⟩ else none

/-! ### Decision trace (R134) -/

/-- Whether trace records are written: EN, and no throttle (Table 2.9). -/
def Mod.traceOn (m : Mod) : Bool := m.flag Reg.HAT_TRACE_CTRL Fields.HAT_TRACE_CTRL.EN

/-- The destination in force: 3 acts as 0. -/
def Mod.traceDest (m : Mod) : Nat :=
  let d := m.rd Reg.HAT_TRACE_CTRL Fields.HAT_TRACE_CTRL.DEST
  if d = 3 then 0 else d

/-- The 64 KiB on-chip ring holds 4,096 records. -/
def traceRingSize : Nat := 4096

/-- A GAP or TIME record (Table 5.9): the type, a 64-bit count or TTIME, and TTIME bits 31:0. -/
def wideRecord (type v ttime : Nat) : List Byte := leBytes 4 type ++ leBytes 8 v ++ leBytes 4 ttime

/-- The capacity in records of the trace destination, and whether it is full (Table 5.22, R134). -/
def Mod.traceCap (m : Mod) : Nat :=
  let log2 := m.rd Reg.HAT_TRACE_CTRL Fields.HAT_TRACE_CTRL.SIZE_LOG2
  2 ^ ((if 16 ≤ log2 ∧ log2 ≤ 30 then log2 else 16) - 4)
def Mod.traceFull (m : Mod) : Bool :=
  ((m.reg Reg.HAT_TRACE_WR).toNat + 0x100000000 - (m.reg Reg.HAT_TRACE_RD).toNat) % 0x100000000 == m.traceCap

/-- The destination is full and may not be overwritten. -/
def Mod.traceShut (m : Mod) : Bool := m.traceFull && m.flag Reg.HAT_TRACE_CTRL Fields.HAT_TRACE_CTRL.STOP_FULL

/-- A record appended to the on-chip ring; with DEST 0 the ring is overwritten in turn, otherwise a full
ring, or a full destination with STOP_FULL set, counts the record. A count of records not written comes before it as a GAP
record. -/
def Mod.traceAppend (r : List Byte) (m : Mod) : Mod :=
  let put (x : List Byte) (s : Mod) : Mod :=
    let ring := s.hat.traceRing ++ [x]
    let cut := if traceRingSize < ring.length then ring.drop (ring.length - traceRingSize) else ring
    { s with hat := { s.hat with traceRing := cut } }
  let need := if m.hat.traceLost = 0 then 1 else 2
  if m.traceDest != 0 && (m.traceShut || decide (traceRingSize < m.hat.traceRing.length + need)) then
    ({ m with hat := { m.hat with traceLost := m.hat.traceLost + 1 } } : Mod).mark Reg.HAT_ERR Fields.HAT_ERR.TRACE_LOST
  else
    let m1 := if m.hat.traceLost = 0 then m else put (wideRecord 0x0A m.hat.traceLost m.ttime) m
    put r { m1 with hat := { m1.hat with traceLost := 0 } }

/-- A trace record is written; at throttle LEVEL 1 and above it is counted (Table 2.9). -/
def Mod.tracePut (r : List Byte) (m : Mod) : Mod :=
  if !m.traceOn then m
  else if m.rd Reg.PWR_STATUS Fields.PWR_STATUS.LEVEL != 0 then
    ({ m with hat := { m.hat with traceLost := m.hat.traceLost + 1 } } : Mod).mark Reg.HAT_ERR Fields.HAT_ERR.TRACE_LOST
  else m.traceAppend r

/-- The TIME record of a change of TTIME bits 63:32 (Table 5.10). -/
def Mod.traceTime (m : Mod) : Mod := m.tracePut (wideRecord 0x0B m.ttime m.ttime)

/-- A trace record of an event of Table 5.10. -/
def Mod.trace (type cls group queue status slot node unit : Nat) (m : Mod) : Mod :=
    let d := SMap.get (fun _ => (0 : Int)) m.hat.deficit (128 * cls + group)
    m.tracePut (leBytes 1 (type + 16 * cls) ++ leBytes 1 group ++ leBytes 1 (queue % 64) ++ leBytes 1 status ++
      leBytes 2 slot ++ leBytes 2 node ++ leBytes 1 unit ++ leBytes 3 (unsign 24 d) ++ leBytes 4 m.ttime)

/-! ### Tokens and readiness -/

def Inst.nodeSt (x : Inst) (k : Nat) : NodeSt := SMap.get (fun _ => NodeSt.waiting) x.st k
def Inst.setSt (k : Nat) (v : NodeSt) (x : Inst) : Inst :=
  { x with st := SMap.set (fun _ => NodeSt.waiting) x.st k v }
def Inst.token (x : Inst) (j : Nat) : Option Token := SMap.get (fun _ => none) x.tokens j
def Inst.setToken (j : Nat) (t : Option Token) (x : Inst) : Inst :=
  { x with tokens := SMap.set (fun _ => none) x.tokens j t }
def Inst.node (x : Inst) (k : Nat) : NodeD := x.nodes.getD k (NodeD.ofBytes [])
def Inst.edge (x : Inst) (j : Nat) : EdgeD := x.edges.getD j (EdgeD.ofBytes [])

/-- The input edges of node `k`, rising. -/
def Inst.inEdges (x : Inst) (k : Nat) : List Nat := allBelow x.edges.length (fun j => (x.edge j).dst == k)

/-- The output edges of node `k`, rising. -/
def Inst.outEdges (x : Inst) (k : Nat) : List Nat := allBelow x.edges.length (fun j => (x.edge j).src == k)

/-- Whether COND of an edge holds for a token (R110). -/
def condHolds (e : EdgeD) (t : Token) : Bool :=
  let low := t.value.toNat % 0x100000000
  match e.cond with
  | 0 => true
  | 1 => !t.fail
  | 2 => t.fail
  | 3 => low == 0
  | 4 => low != 0
  | 5 => low == e.imm
  | _ => low != e.imm

/-- The SKIP token. -/
def skipToken : Token := ⟨0, false, true⟩

/-- What an edge receives from a token: the token where COND holds, else SKIP. -/
def edgeToken (e : EdgeD) (t : Token) : Token := if !t.skip && condHolds e t then t else skipToken

/-- A node's token on every output edge (R110). -/
def Inst.placeTokens (k : Nat) (t : Token) (x : Inst) : Inst :=
  let y := (x.outEdges k).foldl (fun z j => z.setToken j (some (edgeToken (x.edge j) t))) x
  { y with failAny := y.failAny || (!t.skip && t.fail) }

/-- What becomes of a waiting node (R109). -/
inductive Turn where
  | wait
  | ready
  | skip
  deriving DecidableEq, Repr

/-- Ready, skipped or waiting (R109): complete inputs, all live in ALL mode or one live in MERGE mode. -/
def Inst.turn (x : Inst) (k : Nat) : Turn :=
  let ts := (x.inEdges k).map x.token
  if ts.any Option.isNone then .wait
  else
    let live := ts.map (fun t => match t with
      | some u => !u.skip
      | none => false)
    if live.isEmpty then .ready
    else if (x.node k).merge then (if live.any id then .ready else .skip)
    else (if live.all id then .ready else .skip)

/-- A JOIN's token (R111): VALUE of its lowest live input, FAIL the OR of its live inputs. -/
def Inst.joinToken (x : Inst) (k : Nat) : Token :=
  let ts := ((x.inEdges k).map x.token).filterMap id
  let live := ts.filter (fun t => !t.skip)
  { value := match live with
      | t :: _ => t.value
      | [] => 0
    fail := live.any Token.fail, skip := false }

/-- The group of an instance. -/
def Inst.group (x : Inst) : Nat := x.queue / 64

/-- The queue of a node (Table 5.2). -/
def Inst.queueOf (x : Inst) (k : Nat) : Nat := 64 * x.group + (x.node k).qsel

/-- A ready node enters its queue, or is held where the queue has 16 entries (R114). -/
def Mod.enqueue (slot k : Nat) (x : Inst) (m : Mod) : Mod :=
  let q := x.queueOf k
  let y := m.queue q
  if y.ready.length < 16 ∧ y.held = [] then
    (m.setQueue q { y with ready := y.ready ++ [⟨slot, k, none⟩] }).setInst slot (some (x.setSt k .ready))
  else
    ((m.setQueue q { y with held := y.held ++ [⟨slot, k, none⟩] }).setInst slot (some (x.setSt k .held))).trace
      4 (x.node k).cls x.group q 0 slot k 0

/-- One node of an instance, evaluated (R109 to R111, R114). SETTLE delays the output token of a JOIN as it does any node's
(DEDUCED: assumption 109). -/
def Mod.evalNode (slot k : Nat) (m : Mod) : Mod :=
  match m.inst slot with
  | none => m
  | some x =>
    if x.nodeSt k != .waiting || x.quitStatus.isSome then m
    else match x.turn k with
      | .wait => m
      | .skip =>
        (m.setInst slot (some ({ (x.setSt k .skipped).placeTokens k skipToken with
          skippedN := x.skippedN + 1 }))).trace 3 (x.node k).cls x.group (x.queueOf k) 0 slot k 0
      | .ready =>
        if (x.node k).cls = 9 then
          let t := x.joinToken k
          if (x.node k).settle = 0 then
            m.setInst slot (some { (x.setSt k .done).placeTokens k t with ran := x.ran + 1 })
          else m.setInst slot (some { x.setSt k (.settling t) with ran := x.ran + 1 })
        else m.enqueue slot k x

/-- Every node of an instance evaluated in rising order; edges run from lower to higher nodes (R107), so
one pass reaches every node that a token makes ready. -/
def Mod.evalNodes (slot : Nat) (m : Mod) : Mod :=
  match m.inst slot with
  | none => m
  | some x => m.each (List.range x.nodes.length) (fun k s => s.evalNode slot k)

/-! ### The end of an instance (R113) -/

/-- Whether an operation of the instance is still running or settling. -/
def Inst.busy (x : Inst) : Bool :=
  (List.range x.nodes.length).any (fun k => match x.nodeSt k with
    | .running _ _ => true
    | _ => false)

/-- Whether every node has completed or been skipped. -/
def Inst.finished (x : Inst) : Bool :=
  (List.range x.nodes.length).all (fun k => x.nodeSt k == .done || x.nodeSt k == .skipped)

/-- The token of RESULT_EDGE where it is live. An internal edge whose token a dispatch has consumed is empty (R109), so that
RESULT is 0 and FAIL the OR of R113 (DEDUCED: assumption 109). -/
def Inst.resultToken (x : Inst) : Option Token :=
  match x.token x.resultEdge with
  | some t => if t.skip then none else some t
  | none => none

/-- STATUS, FAIL and VALUE of an instance that ends. -/
def Inst.status (x : Inst) : Nat := x.quitStatus.getD stOK
def Inst.failFlag (x : Inst) : Bool := match x.resultToken with
  | some t => t.fail
  | none => x.failAny
def Inst.value (x : Inst) : DWord := match x.resultToken with
  | some t => t.value
  | none => 0

/-- The result block of Table 5.5. With no node dispatched the TTIME of the first dispatch is 0, and NODES_RUN leaves out a
suspended step that an early end drops (DESIGN CHOICE: assumption 109). -/
def Inst.resultBlock (x : Inst) (ttime : Nat) : List Byte :=
  let skipped := match x.token x.resultEdge with
    | some t => t.skip
    | none => false
  leBytes 8 x.value.toNat ++ leBytes 1 x.status ++
    leBytes 1 (b2n x.failFlag + 2 * b2n (x.stretch != 0) + 4 * b2n skipped) ++ leBytes 2 x.badNode ++
    leBytes 4 x.ran ++ leBytes 4 x.skippedN ++ leBytes 8 x.stretch ++
    leBytes 8 (match x.ttimeFirst with
      | some t => t.toNat
      | none => 0) ++ leBytes 8 ttime ++ zeroBytes 20

/-- A site's bit of HAT_SITE_LOST (R122). -/
def Mod.siteLost (m : Mod) (site : Nat) : Bool :=
  (m.reg (Reg.HAT_SITE_LOST_LO + 4 * (site / 32))).getLsbD (site % 32)
def Mod.markSiteLost (site : Nat) (m : Mod) : Mod :=
  m.wr (Reg.HAT_SITE_LOST_LO + 4 * (site / 32)) ⟨site % 32, 1⟩ 1

/-- An instance ends (R113, R122): its result block is written where RESULT_ADDR is not 0, its completion
is recorded, and its slot frees. A RESULT_ADDR that does not translate turns OK into XLT_FAULT
(assumption 11). In a working pair the completion waits for its INST_END record (R396). -/
def Mod.endInst (slot : Nat) (x : Inst) (m : Mod) : Mod :=
  let wrote : Bool × Mod :=
    if x.resultAddr = 0 then (false, m)
    else match m.devPut 25 x.group x.resultAddr (x.resultBlock m.ttime) with
      | .ok m1 => (true, m1)
      | .error (.xlt c l, k, m1) => (false, m1.xltFault x.group (x.resultAddr + k) .write c l 6 0)
      | .error (_, _, m1) => (false, m1)
  let status := if x.resultAddr != 0 && !wrote.1 && x.status == stOK then stXLT_FAULT else x.status
  let m2 := wrote.2.setInst slot none
  let m3 := m2.when (status == stPIN_LOST) (Mod.markSiteLost x.site)
  let c : Comp :=
    { queue := x.queue, serial := x.serial, tag := x.tag, status := status, abortLate := false,
      stretched := x.stretch != 0, fail := x.failFlag, detail := wrote.1,
      result := x.value.truncate 32, site := x.site, irqNow := x.irqNow }
  let m4 :=
    if m.pairActive && decide (x.queue < 4096) then
      let j := m3.pair.jseq
      let m5 := m3.journal 7 0 x.site x.group slot 0xFFFF (compBytes c false (m3.queue x.queue).head)
      { m5 with pair := { m5.pair with comps := m5.pair.comps ++ [(j, (x.quiet, c))] } }
    else m3.complete x.quiet c
  m4.trace 12 0 x.group x.queue status slot 0 0

/-- The end of an instance is tested: it has ended early and its last operation has stopped, or every node
has completed or been skipped. -/
def Mod.checkEnd (slot : Nat) (m : Mod) : Mod :=
  match m.inst slot with
  | none => m
  | some x => if (x.quitStatus.isSome && !x.busy) || x.finished then m.endInst slot x else m

/-- Held entries enter a queue as its entries free, in the order in which they became ready (R114). -/
def Mod.refillQueue (q : Nat) : Nat → Mod → Mod
  | 0, m => m
  | fuel + 1, m =>
    let y := m.queue q
    match y.held with
    | [] => m
    | e :: rest =>
      if y.ready.length < 16 then
        let m1 := m.setQueue q { y with ready := y.ready ++ [e], held := rest }
        let m2 := match m1.inst e.inst with
          | some x => m1.setInst e.inst (some (x.setSt e.node .ready))
          | none => m1
        refillQueue q fuel m2
      else m

/-- The free instance slot a launch takes (R108). -/
def Mod.freeSlot (m : Mod) : Option Nat := firstBelow (fun i => (m.inst i).isNone) 512

/-- Whether an instance of a site and INSTANCE number runs (R95, R108). -/
def Mod.runningInst (m : Mod) (site ident : Nat) : Option Nat :=
  firstBelow (fun i => match m.inst i with
    | some x => x.site == site && x.ident == ident && !x.nodeRun
    | none => false) 512

/-- Number of instances running (HAT_STATUS INSTANCES). -/
def Mod.instCount (m : Mod) : Nat := (allBelow 512 (fun i => (m.inst i).isSome)).length

/-- The instance of a launch, before its nodes are evaluated (Table 4.6). -/
def newInst (q : Nat) (d : Desc) (g : Graph) (nodeRun : Bool) : Inst :=
  let bs := d.bytes
  { queue := q, serial := d.serial, tag := descTag bs, site := descSite bs,
      ident := if nodeRun then 0 else fieldAt bs 24 4, nodeRun := nodeRun,
      irqNow := descIrqNow bs, quiet := descQuiet bs,
      paramAddr := if nodeRun then 0 else fieldAt bs 16 6,
      resultAddr := if nodeRun then fieldAt bs 16 6 else fieldAt bs 32 6,
      timeout := if nodeRun then 0 else fieldAt bs 28 4,
      nodes := g.nodes, edges := g.edges, resultEdge := g.resultEdge, st := [], tokens := [], inputs := [],
      quitStatus := none, badNode := 0xFFFF, failAny := false, stretch := 0, ran := 0, skippedN := 0,
      ttimeFirst := none, image := fieldAt bs 8 6, disp := [] }

/-- A launch that has passed its check takes a slot and evaluates its nodes (R108, R109). -/
def Mod.acceptInst (slot q : Nat) (d : Desc) (g : Graph) (nodeRun : Bool) (m : Mod) : Mod :=
  ((m.setInst slot (some (newInst q d g nodeRun))).evalNodes slot).checkEnd slot

/-- The status of a failed read of a graph or node image, with the fault latched (Table 15.4, R359); an
error of the host ends the launch with GRAPH_INVALID (assumption 12). -/
def Mod.fetchFailed (ctx va : Nat) (e : MemErr) (m : Mod) : Nat × Mod :=
  match e with
  | .xlt c l => (stXLT_FAULT, m.xltFault ctx va .read c l 6 0)
  | .poison => (stMEM_UE, m.readUe ctx va e)
  | .offline => (stMEM_OFFLINE, m)
  | .bus => (stGRAPH_INVALID, m)

/-- The image of a GRAPH_LAUNCH, read once through XLT and checked (R107): the graph, or the status that
ends the launch. An image that is not 64-byte aligned is no image (DEDUCED: assumption 109). -/
def Mod.readGraph (ctx va : Nat) (host : List Host.Cell) (m : Mod) : Except (Nat × Mod) Graph :=
  let bad := m.mark Reg.HAT_ERR Fields.HAT_ERR.GRAPH_INVALID
  if va % 64 ≠ 0 then .error (stGRAPH_INVALID, bad)
  else match m.devRecord ctx host va 64 with
    | .error (e, k) => .error (m.fetchFailed ctx (va + k) e)
    | .ok hdr =>
      if !graphHeaderOk hdr then .error (stGRAPH_INVALID, bad)
      else match m.devRecord ctx host va (graphLength hdr) with
        | .error (e, k) => .error (m.fetchFailed ctx (va + k) e)
        | .ok bs =>
          match checkGraph bs with
          | some g => .ok g
          | none => .error (stGRAPH_INVALID, bad)

/-- The single node of a NODE_RUN as a graph of one node whose token is the result (Table 4.6); a NODE_ADDR that is not
64-byte aligned is no node (DEDUCED: assumption 109). -/
def Mod.readNode (ctx va : Nat) (host : List Host.Cell) (m : Mod) : Except (Nat × Mod) Graph :=
  let bad := m.mark Reg.HAT_ERR Fields.HAT_ERR.GRAPH_INVALID
  if va % 64 ≠ 0 then .error (stGRAPH_INVALID, bad)
  else match m.devRecord ctx host va 64 with
    | .error (e, k) => .error (m.fetchFailed ctx (va + k) e)
    | .ok bs =>
      if nodeBytesOk bs && (NodeD.ofBytes bs).cls != 9 then
        .ok ⟨[NodeD.ofBytes bs], [⟨0, 0xFFFF, 0, 0⟩], 0⟩
      else .error (stGRAPH_INVALID, bad)

/-- What a launch reads of its image is charged to its group (R31): the header or node, and the rest of a graph whose header
is in order. -/
def Mod.imageCharged (nodeRun : Bool) (ctx va : Nat) (host : List Host.Cell) (m : Mod) : Mod :=
  if va % 64 ≠ 0 then m
  else
    let m1 := m.charged ctx va 64
    if nodeRun then m1
    else match m.devRecord ctx host va 64 with
      | .ok h => m1.when (graphHeaderOk h) (Mod.charged ctx (va + 64) (graphLength h - 64))
      | .error _ => m1

/-- A launch (R107, R108, R122): with all 512 slots in use the descriptor stays on chip, waiting; otherwise PIN_LOST
where the site has lost a die, the status of a failed image, DUP_INSTANCE, or a slot. The order of these checks is the
model's (DESIGN CHOICE: assumption 109). -/
def Mod.launch (nodeRun : Bool) (q k : Nat) (d : Desc) (host : List Host.Cell) (m : Mod) : Mod :=
  let ctx := q / 64
  let va := fieldAt d.bytes 8 6
  if m.freeSlot.isNone then
    let x := m.queue q
    m.setQueue q { x with onchip := x.onchip.set k { d with waiting := true } }
  else if m.siteLost (descSite d.bytes) then (m.dropDesc q k).completeDesc q d stPIN_LOST 0#32
  else
    let end_ (s : Mod) : Mod := s.imageCharged nodeRun ctx va host
    match (if nodeRun then m.readNode ctx va host else m.readGraph ctx va host) with
    | .error (st, m1) => end_ ((m1.dropDesc q k).completeDesc q d st 0#32)
    | .ok g =>
      if !nodeRun && (m.runningInst (descSite d.bytes) (fieldAt d.bytes 24 4)).isSome then
        end_ ((m.dropDesc q k).completeDesc q d stDUP_INSTANCE 0#32)
      else match m.freeSlot with
        | some slot => end_ ((m.dropDesc q k).acceptInst slot q d g nodeRun)
        | none => m

/-- SETTLE µs after its unit reported, a node's tokens appear (R111). -/
def Mod.tokenRelease (slot k us : Nat) (m : Mod) : Mod :=
  match m.inst slot with
  | none => m
  | some x =>
    match x.nodeSt k with
    | .settling t =>
      if (x.node k).settle ≤ us ∧ x.quitStatus = none then
        ((m.setInst slot (some ((x.setSt k .done).placeTokens k t))).evalNodes slot).checkEnd slot
      else m
    | _ => m

/-- Decision-trace records are copied from the on-chip ring to the destination (R134): the oldest record,
unless the destination is full under STOP_FULL. A GDDR7 destination that does not translate counts the
record as not written (Table 15.4). -/
def Mod.traceCopy (m : Mod) : Mod :=
  let wr := (m.reg Reg.HAT_TRACE_WR).toNat
  let addr := m.rd64 Reg.HAT_TRACE_BASE_LO + 16 * (wr % m.traceCap)
  match m.hat.traceRing with
  | [] => m
  | r :: rest =>
    if m.traceDest = 0 || m.traceShut then m
    else
      let m1 : Mod := { m with hat := { m.hat with traceRing := rest } }
      let done (s : Mod) : Mod := s.setReg Reg.HAT_TRACE_WR (BitVec.ofNat 32 (wr + 1))
      if m.traceDest = 2 then done (m1.emit (.hostWrite addr r m1.dataRo))
      else
        let g := m.rd Reg.HAT_TRACE_CTRL Fields.HAT_TRACE_CTRL.GROUP
        match m1.devPut 25 g addr r with
        | .ok m2 => done m2
        | .error (.xlt c l, k, m2) =>
          ({ m2 with hat := { m2.hat with traceLost := m2.hat.traceLost + 1 } } : Mod).xltFault g (addr + k) .write c l 8 0
            |>.mark Reg.HAT_ERR Fields.HAT_ERR.TRACE_LOST
        | .error (_, _, m2) =>
          ({ m2 with hat := { m2.hat with traceLost := m2.hat.traceLost + 1 } } : Mod).mark Reg.HAT_ERR
            Fields.HAT_ERR.TRACE_LOST

end Sys2Proof.Machine
end

