-- ==== Sys2Proof/Machine/Units.lean ====
section
/-!
DEFINITION. What the units share: their entries in the state, ports and channels, and the report of a
node's end to Hatch (R111, R117).
-/

namespace Sys2Proof.Machine

/-! ### Entries -/

def Mod.seq (m : Mod) (n : Nat) : Seq := SMap.get (fun _ => Seq.fresh) m.seqs n
def Mod.setSeq (n : Nat) (x : Seq) (m : Mod) : Mod := { m with seqs := SMap.set (fun _ => Seq.fresh) m.seqs n x }

def Mod.dport (m : Mod) (n die : Nat) : DiePort := SMap.get (fun _ => DiePort.fresh) m.dports (2 * n + die)
def Mod.setDport (n die : Nat) (x : DiePort) (m : Mod) : Mod :=
  { m with dports := SMap.set (fun _ => DiePort.fresh) m.dports (2 * n + die) x }

def Mod.pin (m : Mod) (ch : Nat) : Pin := SMap.get (fun _ => Pin.fresh) m.pins ch
def Mod.setPin (ch : Nat) (x : Pin) (m : Mod) : Mod := { m with pins := SMap.set (fun _ => Pin.fresh) m.pins ch x }

def Mod.ring (m : Mod) (n : Nat) : Ring := SMap.get (fun _ => Ring.fresh) m.rings n
def Mod.setRing (n : Nat) (x : Ring) (m : Mod) : Mod := { m with rings := SMap.set (fun _ => Ring.fresh) m.rings n x }

/-! ### Channels and ports -/

/-- The register of a channel: its die's block, its index on the die. -/
def chReg (f : Nat → Nat → Nat) (ch : Nat) : Nat := f (ch / 128) (ch % 128)

/-- Whether channel `ch` belongs to the port of sequencer `n` (R152). -/
def Mod.inPort (m : Mod) (n ch : Nat) : Bool := (m.reg (Reg.SEQ_PORT n (ch / 32))).getLsbD (ch % 32)

/-- The channels of a port in ascending order; the place in the list is the pin index (R153). -/
def Mod.chans (m : Mod) (n : Nat) : List Nat := allBelow 256 (fun ch => m.inPort n ch)

/-- The channels of a port on a pin die. -/
def Mod.dieChans (m : Mod) (n die : Nat) : List Nat := (m.chans n).filter (fun ch => ch / 128 == die)

/-- Whether the profile in use is a pair profile: PROF 2 or 3 (R154, Table 3.7). -/
def Mod.pairProfile (m : Mod) : Bool := decide (2 ≤ m.rd Reg.GLB_START_STATE Fields.GLB_START_STATE.PROFILE)

/-- The sequencer whose port holds a channel: in a pair profile the ports of SEQ16 to SEQ31 are the partner's (R154). -/
def Mod.ownerOf (m : Mod) (ch : Nat) : Option Nat := firstBelow (fun n => m.inPort n ch) (if m.pairProfile then 16 else 32)

/-- The pin dies a port spans. -/
def Mod.portDies (m : Mod) (n : Nat) : List Nat := allBelow 2 (fun d => !(m.dieChans n d).isEmpty)

/-- Whether the port that owns a channel is running. -/
def Mod.ownerRuns (m : Mod) (ch : Nat) : Bool := match m.ownerOf ch with
  | some n => m.seqRunning n
  | none => false

/-- The state of a sequencer (Table 7.13). -/
def Mod.seqState (m : Mod) (n : Nat) : Nat := m.rd (Reg.SEQ_STATUS n) Fields.SEQ_STATUS.STATE
def Mod.setSeqState (n v : Nat) (m : Mod) : Mod := m.wr (Reg.SEQ_STATUS n) Fields.SEQ_STATUS.STATE v

/-- Whether the port that owns a channel is not IDLE (R210, R253). -/
def Mod.ownerBusy (m : Mod) (ch : Nat) : Bool := match m.ownerOf ch with
  | some n => m.seqState n != 0
  | none => false

/-! ### Reservations (R181, R391) -/

/-- USED of a group's reservation. -/
def Mod.putUsed (g v : Nat) (m : Mod) : Mod :=
  if g < 64 then m.wr (Reg.SEQ_GRP_RESV g) Fields.SEQ_GRP_RESV.USED v
  else
    let w := fput Fields.SEQ_GRP_RESV.USED v (m.grpResv g)
    { m with pair := { m.pair with regs := SMap.set resetOf m.pair.regs (Reg.SEQ_GRP_RESV (g - 64)) w } }

/-! ### Decision records (R390) -/

/-- The pair cycle count (R379). -/
def Mod.pcc (m : Mod) : Nat := m.rd64 Reg.SL_PCC_LO

/-- A decision record of a primary (kind 2): port, kind, outcome, the vector at which it takes effect, PCC. The kinds:
0 START, 1 JCC, 2 MATCH exit, 3 WTRG end, 4 SYNC release, 5 stretch group, 6 pause, 7 its end, 8 stop. -/
def Mod.sendDec (n kind outcome vec : Nat) (m : Mod) : Mod :=
  m.when (m.pairActive && decide (n < 16)) (Mod.emit (.siteLink 2 [n, kind, outcome, vec, m.pcc]))

/-- The record of a decision that mirror sequencer `n` takes, where it has arrived and the port has not switched to
the mirror (R390, R392); `vec` names the vector where the place matters. The record is used up. -/
def Mod.takeDec (n kind : Nat) (vec : Option Nat) (m : Mod) : Option Nat × Mod :=
  if !(m.seq n).mirror || m.pair.switched.contains (n - 16) then (none, m)
  else
    let mine (d : DecRec) : Bool := d.port == n - 16 && d.kind == kind && (vec.isNone || vec == some d.vec)
    match m.pair.decs.find? mine with
    | none => (none, m)
    | some d => (some d.outcome, { m with pair := { m.pair with decs := m.pair.decs.erase d } })

/-! ### Reports -/

/-- The class of a node in an instance slot. -/
def Mod.classOf (m : Mod) (i k : Nat) : Nat := match m.inst i with
  | some x => (x.node k).cls
  | none => 0

/-- A unit reports the end of its node (R111). Work of the partner has no node here: its result goes over the Site
Link (kind 13); so does the result token of a PMU_MEAS or TDC_MEAS in a working pair (kind 14; R397). -/
def Mod.report (j : Job) (status : Nat) (value : DWord) (fail : Bool) (stretch : Nat) (ran : Bool) (m : Mod) : Mod :=
  match j.inst with
  | none => m.emit (.siteLink 13 [j.node, j.site, status, value.toNat, b2n fail, stretch])
  | some i =>
    let c := m.classOf i j.node
    ({ m with hat := { m.hat with
      reports := m.hat.reports ++ [⟨i, j.node, status, value, fail, stretch, ran⟩] } } : Mod).when
      (m.pairActive && (c == 3 || c == 4)) (Mod.emit (.siteLink 14 [i, j.node, j.site, status, value.toNat, b2n fail]))

/-- A unit's node ends with a status and no result. -/
def Mod.reportStatus (j : Job) (status : Nat) (m : Mod) : Mod := m.report j status 0 false 0 true

end Sys2Proof.Machine
end

