-- ==== Sys2Proof/Machine/Plate.lean ====
section
/-!
DEFINITION. The plate (Chapter 17): docking, identity, counting, thresholds and write-back; and the
corrections of R338.
-/

namespace Sys2Proof.Machine

/-! ### Corrections (R338) -/

/-- A level or force correction on code `c` with mid-scale `mid`, limited to `lo` to `hi`. -/
def levelCorr (w : Word) (mid lo hi c : Int) : Int :=
  let ofs := signed 16 (w.toNat % 0x10000)
  let gain := signed 16 (w.toNat / 0x10000)
  max lo (min hi (c + ofs + (c - mid) * gain / 0x1000000))

/-- A measurement correction on a raw value. -/
def measCorr (w : Word) (v : Int) : Int :=
  v + signed 16 (w.toNat % 0x10000) + v * signed 16 (w.toNat / 0x10000) / 0x1000000

/-! ### Counts and thresholds (R411, R412) -/

def Mod.pltState (m : Mod) : Nat := m.rd Reg.PLT_STATUS Fields.PLT_STATUS.STATE
def Mod.setPltState (v : Nat) (m : Mod) : Mod := m.wr Reg.PLT_STATUS Fields.PLT_STATUS.STATE v

/-- WARN_PCT in force. -/
def Mod.warnPct (m : Mod) : Nat := max 1 (min 100 (m.rd Reg.PLT_CTRL Fields.PLT_CTRL.WARN_PCT))

/-- A bit of a 64-bit map held in a pair of registers. -/
def Mod.mapBit (m : Mod) (lo i : Nat) : Bool := (m.reg (lo + 4 * (i / 32))).getLsbD (i % 32)
def Mod.setMapBit (lo i : Nat) (b : Bool) (m : Mod) : Mod := m.wr (lo + 4 * (i / 32)) ⟨i % 32, 1⟩ (b2n b)

/-- Warnings and faults follow the counts; the first since docking sets its event (R412). -/
def Mod.judgeLine (i : Nat) (m : Mod) : Mod :=
  let rating := if i < 64 then (m.reg Reg.PLT_RLY_RATING).toNat else (m.reg Reg.PLT_DOCK_RATING).toNat
  let count := if i < 64 then (m.reg (Reg.PLT_RCNT i)).toNat else (m.reg Reg.PLT_DOCKS).toNat
  let on := m.plt.counting && rating != 0
  let w := on && decide (rating * m.warnPct / 100 ≤ count)
  let f := on && decide (rating ≤ count)
  let m1 := if i < 64 then (m.setMapBit Reg.PLT_WARN_LO i w).setMapBit Reg.PLT_FAULT_LO i f
    else (m.wr Reg.PLT_STATUS Fields.PLT_STATUS.DOCK_WARN (b2n w)).wr Reg.PLT_STATUS Fields.PLT_STATUS.DOCK_FAULT (b2n f)
  let newW := w && !m.plt.warned.contains i
  let newF := f && !m.plt.faulted.contains i
  let p : Plt := { m.plt with
    warned := if newW then i :: m.plt.warned else m.plt.warned
    faulted := if newF then i :: m.plt.faulted else m.plt.faulted }
  let m2 : Mod := { m1 with plt := p }
  let m3 := m2.when newW (fun s => (s.wr Reg.PLT_EVENT Fields.PLT_EVENT.LIFE_WARN 0).pltEvent true (i % 64) Fields.PLT_EVENT.LIFE_WARN)
  m3.when newF (fun s => (s.wr Reg.PLT_EVENT Fields.PLT_EVENT.LIFE_FAULT 0).pltEvent true (i % 64) Fields.PLT_EVENT.LIFE_FAULT)

/-- Every line and DOCKS judged again. -/
def Mod.judgeAll (m : Mod) : Mod := m.each (List.range 65) Mod.judgeLine

/-! ### Write-back (R409, R413) -/

/-- The counter record with its CRC (Table 17.2); lines without a relay are written as 0. -/
def Mod.counterRecord (m : Mod) (seq : Nat) : List Byte :=
  let body := leBytes 4 0x504C4331 ++ leBytes 4 seq ++ leBytes 4 (m.reg Reg.PLT_DOCKS).toNat ++ zeroBytes 4 ++
    (List.range 64).flatMap (fun i =>
      leBytes 4 (if m.mapBit Reg.PLT_PRESENT_LO i then (m.reg (Reg.PLT_RCNT i)).toNat else 0)) ++ zeroBytes 12
  body ++ leBytes 4 (crc32 body).toNat

/-- A write-back starts, or becomes pending while one runs (R413). -/
def Mod.writeBack (m : Mod) : Mod :=
  if m.flag Reg.PLT_STATUS Fields.PLT_STATUS.WB_BUSY then m.wr Reg.PLT_STATUS Fields.PLT_STATUS.WB_PENDING 1
  else
    let other := 1 - m.rd Reg.PLT_STATUS Fields.PLT_STATUS.COPY
    (m.wr Reg.PLT_STATUS Fields.PLT_STATUS.WB_BUSY 1).emit
      (.plateWrite (if other = 0 then 0x100 else 0x300) (m.counterRecord (m.plt.seq + 1)))

/-- A trigger of R413; nothing is written to a plate that is not counted (R406), and an absent plate sets
WB_FAIL where `needed` (an orderly power-down or COLD). -/
def Mod.wbTrigger (needed : Bool) (m : Mod) : Mod :=
  if m.plt.counting then m.writeBack
  else if m.flag Reg.PLT_STATUS Fields.PLT_STATUS.WB_BUSY then m.wr Reg.PLT_STATUS Fields.PLT_STATUS.WB_PENDING 1
  else m.when needed (Mod.pltEvent false 0 Fields.PLT_EVENT.WB_FAIL)

/-- One operation of relay `i` (R411, R413). -/
def Mod.countRelay (i : Nat) (m : Mod) : Mod :=
  if m.plt.counting && m.mapBit Reg.PLT_PRESENT_LO i then
    let c := satAdd 32 (m.reg (Reg.PLT_RCNT i)).toNat 1
    let m1 := (m.setReg (Reg.PLT_RCNT i) (BitVec.ofNat 32 c)).judgeLine i
    m1.when (c % 65536 == 0) (Mod.wbTrigger false)
  else m

/-- UNDOCK (R414). -/
def Mod.undock (m : Mod) : Mod :=
  if m.pltState = 3 ∧ m.plt.undocking = false then
    let m1 := m.writeBack
    { m1 with plt := { m1.plt with counting := false, undocking := true } }
  else m

/-- The write-back in progress ends: `ok`, or failed after three tries (R408, R409, R414). -/
def Mod.wbDone (ok : Bool) (m : Mod) : Mod :=
  let st := Reg.PLT_STATUS
  if !m.flag st Fields.PLT_STATUS.WB_BUSY then m
  else
    let m1 := m.wr st Fields.PLT_STATUS.WB_BUSY 0
    let m2 := if ok then
        let c := 1 - m1.rd st Fields.PLT_STATUS.COPY
        (({ m1 with plt := { m1.plt with seq := m1.plt.seq + 1 } } : Mod).wr st Fields.PLT_STATUS.COPY c).pltEvent
          false 0 Fields.PLT_EVENT.WB_DONE
      else (m1.pltEvent false 0 Fields.PLT_EVENT.BUS_ERR).pltEvent false 0 Fields.PLT_EVENT.WB_FAIL
    if m2.flag st Fields.PLT_STATUS.WB_PENDING then (m2.wr st Fields.PLT_STATUS.WB_PENDING 0).writeBack
    else if m2.plt.undocking && ok then m2.setPltState 7
    else m2

/-! ### Docking (R404, R405, R410, R415) -/

/-- DOCK# changes level: the debounce interval starts again. -/
def Mod.dockEdge (low : Bool) (m : Mod) : Mod :=
  let m1 : Mod := { m with plt := { m.plt with low := low } }
  if low && m.pltState = 0 then m1.setPltState 1
  else if !low && m.pltState = 1 then m1.setPltState 0
  else m1

/-- DOCK# has read low for 50 ms: the plate is detected and the read begins. -/
def Mod.plateDetect (ms : Nat) (m : Mod) : Mod :=
  if m.plt.low && decide (50 ≤ ms) && m.pltState = 1 then
    (m.setPltState 2).emits [.plateRead 0 128, .plateRead 0x100 288, .plateRead 0x300 288]
  else m

/-- Whether the identity block is valid (R410). -/
def identityOk (bs : List Byte) : Bool :=
  fieldAt bs 0 4 == 0x504C4931 && fieldAt bs 4 2 == 1 && fieldAt bs 124 4 == (crc32 (bs.take 124)).toNat

/-- Whether a counter copy is valid (R410). -/
def copyOk (bs : List Byte) : Bool :=
  fieldAt bs 0 4 == 0x504C4331 && fieldAt bs 284 4 == (crc32 (bs.take 284)).toNat

/-- The registers of the identity block. -/
def Mod.takeIdentity (bs : List Byte) (m : Mod) : Mod :=
  let m1 := (((m.wr Reg.PLT_STATUS Fields.PLT_STATUS.TYPE (fieldAt bs 6 2)).setReg Reg.PLT_RLY_RATING
    (BitVec.ofNat 32 (fieldAt bs 56 4))).setReg Reg.PLT_DOCK_RATING (BitVec.ofNat 32 (fieldAt bs 60 4))).wr64
    Reg.PLT_PRESENT_LO (fieldAt bs 64 8)
  m1.each (List.range 4) (fun w s => s.setReg (Reg.PLT_SERIAL w) (BitVec.ofNat 32 (fieldAt bs (8 + 4 * w) 4)))

/-- The read of R405 ends: the bytes of the identity and of both copies, or no acknowledge. -/
def Mod.identityRead (data : Option (List Byte × List Byte × List Byte)) (m : Mod) : Mod :=
  if m.pltState ≠ 2 then m
  else
    let ended (s : Nat) (x : Mod) : Mod :=
      let y := (x.setPltState s).pltEvent false 0 Fields.PLT_EVENT.DOCKED
      y.when (s != 3) (Mod.pltEvent false 0 Fields.PLT_EVENT.ID_FAIL)
    match data with
    | none => ended 4 (m.pltEvent false 0 Fields.PLT_EVENT.BUS_ERR)
    | some (idb, a, b) =>
      if !identityOk idb then ended 5 m
      else
        let ty := fieldAt idb 6 2
        let m1 := m.takeIdentity idb
        if ty ≠ 1 ∧ ty ≠ 2 then ended 6 m1
        else
          let sa := fieldAt a 4 4
          let sb := fieldAt b 4 4
          let useB := copyOk b && (!copyOk a || decide (sa < sb))
          let cur := if useB then b else a
          let any := copyOk a || copyOk b
          let v (o : Nat) : Nat := if any then fieldAt cur o 4 else 0
          let m2 := m1.each (List.range 64) (fun i s =>
            s.setReg (Reg.PLT_RCNT i) (BitVec.ofNat 32 (v (16 + 4 * i))))
          let m3 := (m2.setReg Reg.PLT_DOCKS (BitVec.ofNat 32 (satAdd 32 (v 8) 1))).wr Reg.PLT_STATUS
            Fields.PLT_STATUS.COPY (b2n useB)
          let p : Plt := { m3.plt with
            counting := true
            seq := if any then (if useB then sb else sa) else 0
            warned := []
            faulted := []
            undocking := false }
          (ended 3 { m3 with plt := p }).judgeAll

/-- Counting stops and the counters read 0 (R415). -/
def Mod.plateGone (m : Mod) : Mod :=
  let m1 := m.each (List.range 64) (fun i s => s.setReg (Reg.PLT_RCNT i) 0#32)
  let m2 : Mod := { m1.setReg Reg.PLT_DOCKS 0#32 with plt := { m1.plt with counting := false, undocking := false } }
  m2.judgeAll

/-- DOCK# has read high for 1 ms (R404, R415). -/
def Mod.plateRemoved (ms : Nat) (m : Mod) : Mod :=
  let st := m.pltState
  if m.plt.low || decide (ms < 1) || st = 0 || st = 1 then m
  else
    let lost := st != 7
    let m1 := ((m.wr Reg.PLT_STATUS Fields.PLT_STATUS.WB_BUSY 0).wr Reg.PLT_STATUS Fields.PLT_STATUS.WB_PENDING 0)
    let m2 := (m1.plateGone.setPltState 0).pltEvent false 0 Fields.PLT_EVENT.UNDOCKED
    m2.when lost (Mod.pltEvent false 0 Fields.PLT_EVENT.LOST_COUNTS)

/-- RELOAD (R405): the read is repeated while DOCK# is low. -/
def Mod.plateReload (m : Mod) : Mod :=
  if m.plt.low && !m.flag Reg.PLT_STATUS Fields.PLT_STATUS.WB_BUSY && decide (2 < m.pltState) then
    let m1 : Mod := { m with plt := { m.plt with counting := false } }
    (m1.setPltState 2).emits [.plateRead 0 128, .plateRead 0x100 288, .plateRead 0x300 288]
  else m

/-- A calibration plate is docked (R331, R406). -/
def Mod.calPlate (m : Mod) : Bool :=
  m.pltState == 3 && m.rd Reg.PLT_STATUS Fields.PLT_STATUS.TYPE == 2

end Sys2Proof.Machine
end

