-- ==== Sys2Proof/Machine/SeqCore.lean ====
section
/-!
DEFINITION. The sequencer's execution stage (Chapter 7): streams and their blocks, stops and machine checks,
the instructions of the factory image, conditions and waits.
-/

namespace Sys2Proof.Machine

/-! ### Completion codes (Tables 7.10, 9.4) -/

def stUNDERRUN : Nat := 0x40
def stALIGN : Nat := 0x41
def stFORMAT_RATE : Nat := 0x42
def stRATE_REFUSED : Nat := 0x43
def stRATE_EXCEEDED : Nat := 0x44
def stIMAGE_INVALID : Nat := 0x45
def stSTACK_OVERFLOW : Nat := 0x46
def stBAD_NEST : Nat := 0x47
def stNO_HOLD : Nat := 0x48
def stMATCH_TIMEOUT : Nat := 0x49
def stWTRG_TIMEOUT : Nat := 0x4A
def stSYNC_TIMEOUT : Nat := 0x4B
def stBAD_CODE : Nat := 0x4C
def stSEQ_MCHK : Nat := 0x4D
def stPORT_EMPTY : Nat := 0x4E
def stHALTED : Nat := 0x4F
def stSTRETCH_LIMIT : Nat := 0x50
def stPF_ALLOC : Nat := 0x51
def stSTREAM_END : Nat := 0x52
def stBAD_INSTR : Nat := 0x53
def stMCS_VERSION : Nat := 0x54
def stPROOF_FULL : Nat := 0x60
def stTRACE_RATE : Nat := 0x61
def stPROOF_ERR : Nat := 0x62
def stSPILL_XLT : Nat := 0x63

/-- The place of a stop request in the order of R189. -/
def stopRank (code : Nat) : Nat :=
  if code = stSUPPLY_LOSS ∨ code = stTHERMAL_TRIP ∨ code = stPOWER_DOWN then 1
  else if code = stRESET then 2
  else if code = stUNIT_DISABLED then 4
  else if code = stHALTED then 5
  else if code = stPROOF_FULL then 6
  else if code = stPROOF_ERR ∨ code = stSPILL_XLT then 7
  else if code = stMEM_UE ∨ code = stXLT_NOMAP then 8
  else if code = stUNDERRUN then 9
  else if code = stSTRETCH_LIMIT then 10
  else if stUNDERRUN < code ∧ code < 0x60 then code - 30
  else if code = stOK then 100
  else 3

/-! ### Lane width and periods -/

/-- The lane width of a period (R159). -/
def lanesOf (p : Nat) : Nat := if 2048 ≤ p then 1 else if 1024 ≤ p then 2 else if 512 ≤ p then 4 else 8

/-- The shortest period of a format (Table 7.3). -/
def formatPeriod (f : Nat) : Nat := if f = 4 then 1024 else if f = 2 then 512 else 256

/-- Bits per pin of a format (Table 7.3). -/
def formatBits (f : Nat) : Nat := if f = 4 then 4 else if f = 2 then 2 else 1

/-- The period of timing set `s` of port `n`. -/
def Mod.period (m : Mod) (n s : Nat) : Nat := m.rd (Reg.SEQ_TPER n (s % 64)) Fields.SEQ_TPER.PERIOD

/-! ### The control store -/

/-- BAR2 offset of word `w`. -/
def storeOff (w : Nat) : Nat := 0xF80000 + 32 * w

/-- The 256 bits of word `w`. -/
def Mod.storeWord (m : Mod) (w : Nat) : Nat := ofBytes (memRead m.sram (storeOff w) 32)

/-- Whether a word fails its parity check (R149). -/
def Mod.storeBad (m : Mod) (w : Nat) : Bool := sramBadIn m.sramBad (storeOff w) 32

/-- The dispatch entry of an opcode (Chapter 6): word 0x001 + op / 16. -/
def dispatchWord (op : Nat) : Nat := 1 + op / 16
def Mod.dispatchEntry (m : Mod) (op : Nat) : Nat := nbits (m.storeWord (dispatchWord op)) (16 * (op % 16)) 16

/-! ### The sequencer's entry and its status registers -/

def Blk.blank : Blk := ⟨0, 0, false, false⟩

/-- The sequencer's entry is set and SEQn_STATUS, SEQn_PF_STATUS and SEQn_PC follow it. -/
def Mod.putSeq (n : Nat) (x : Seq) (m : Mod) : Mod :=
  let blks := x.iblk ++ x.pblk
  let st := Reg.SEQ_STATUS n
  let pf := Reg.SEQ_PF_STATUS n
  ((((((((m.setSeq n x).wr st Fields.SEQ_STATUS.HOLD_ACTIVE (b2n x.hold.isSome)).wr st
    Fields.SEQ_STATUS.RESIDENT (b2n (x.levels.any Level.pinned))).wr st
    Fields.SEQ_STATUS.LOOP_DEPTH x.levels.length).wr st
    Fields.SEQ_STATUS.CALL_DEPTH x.frames.length).wr pf
    Fields.SEQ_PF_STATUS.READABLE (blks.countP Blk.readable)).wr pf
    Fields.SEQ_PF_STATUS.PINNED (blks.countP Blk.pinned)).wr (Reg.SEQ_PC n)
    Fields.SEQ_PC.PC x.pc)

/-- The SCLK of the next lane boundary, counted from vector 0. -/
def Seq.sclk (x : Seq) : Nat := x.et / 2048

/-- The SCLK in TTIME that the sequencer is known to have reached. -/
def Mod.seqNow (m : Mod) (n : Nat) : Nat := max m.ttime ((m.seq n).sclk0 + (m.seq n).lastSclk)

/-- The sequencer stands at a commit point (R148): between instructions, or after a word with COMMIT. -/
def Seq.atCommit (x : Seq) : Bool := x.upc.isNone || x.span == 0

/-- The sequencer has a burst that has not been stopped. -/
def Seq.live (x : Seq) : Bool := x.job.isSome && x.stopped.isNone

/-- The sequencer follows a primary (R389): it runs the partner's burst as a mirror, not as adopted work (R399). -/
def Seq.follows (x : Seq) : Bool := x.mirror && (match x.job with
  | some j => j.inst.isNone
  | none => true)

/-! ### Stops -/

/-- A stop is requested with its place in the order of R189 (R188). A request that finds END or a posted code
recorded is late (R189); of two requests the first in that order stands (assumption 14). Answers whether the
request stands. -/
def Mod.requestStop (n code rank : Nat) (m : Mod) : Bool × Mod :=
  let x := m.seq n
  let y : Seq := { x with request := some code, reqRank := rank }
  if !x.live || x.ended || x.post.isSome then (false, m)
  else match x.request with
    | some _ => if x.reqRank ≤ rank then (false, m) else (true, m.setSeq n y)
    | none => (true, m.setSeq n y)

/-- A stop whose code names its place in the order, and whose lateness does not matter to its source. -/
def Mod.stopSeq (n code : Nat) (m : Mod) : Mod := (m.requestStop n code (stopRank code)).2

/-- An early end of an instance (R121): third in the order, whatever its code. -/
def Mod.endSeqEarly (n code : Nat) (m : Mod) : Mod := (m.requestStop n code 3).2

/-- The burst stops with a code at the point execution has reached (R162 to R175): vectors placed before it
are emitted, nothing follows. -/
def Mod.postStop (n code : Nat) (m : Mod) : Mod :=
  let x := m.seq n
  m.putSeq n { x with post := some code, wait := none, run := 0 }

/-- The machine check of a sequencer (R149, R188, R418), with a cause of Table 18.5: execution stops at once,
nothing is rolled back, SEQn_MSTATE is latched (its CAUSE for a control-store error) and the burst ends
with SEQ_MCHK at the next lane boundary. A commit address of the factory image, whose words the manual does not give, and
the effects inside a VEC or RPT of it are free values (assumption 24). -/
def Mod.seqMchk (n cause : Nat) (m : Mod) : Mod :=
  let x := m.seq n
  let ms := Reg.SEQ_MSTATE n
  let at_ := x.commitAt.getD (m.free 3020).toNat
  let eff := if x.run ≠ 0 then (m.free 3021).toNat else x.effects
  let m1 := ((((m.wr ms Fields.SEQ_MSTATE.CAUSE (if 2 ≤ cause ∧ cause ≤ 4 then cause - 1 else 0)).wr ms
    Fields.SEQ_MSTATE.COMMIT_ADDR at_).wr ms Fields.SEQ_MSTATE.EFFECTS eff).wr ms Fields.SEQ_MSTATE.VALID 1).setSeqState n 6
  let site := match x.job with
    | some j => j.site
    | none => noSite
  (m1.machineCheck srcSEQ n cause site ms).setSeq n
    { x with request := none, post := some stSEQ_MCHK, wait := none, look := [], ctl := [], run := 0, upc := none }

/-! ### Streams and blocks (R179, R180) -/

/-- Bytes of a 64 KiB block. -/
def blkSize : Nat := 0x10000

/-- The prefetch-pool half of a sequencer: first block (Table 1.4). -/
def poolBase (n : Nat) : Nat := if n < 16 then 0 else 64

/-- The lowest block of a sequencer's half of the pool that no burst holds (assumption 15). -/
def Mod.freePool (m : Mod) (n : Nat) (x : Seq) : Nat :=
  let used := ((List.range 32).filter (fun k => k != n)).flatMap
    (fun k => ((m.seq k).iblk ++ (m.seq k).pblk).map Blk.pool)
  let mine := (x.iblk ++ x.pblk).map Blk.pool
  poolBase n + (firstBelow (fun b => !(used.contains (poolBase n + b)) && !(mine.contains (poolBase n + b))) 64).getD 0

def Image.ilen (i : Image) : Nat := 16 * i.instrs
def Image.plen (i : Image) : Nat := i.rows * i.rowBytes

/-- Blocks of a length. -/
def blocksOf (len : Nat) : Nat := (len + blkSize - 1) / blkSize

/-- The allocation of a sequencer: instruction blocks and payload blocks (R178). -/
def Mod.iblocks (m : Mod) (n : Nat) : Nat := m.rd (Reg.SEQ_PF_CFG n) Fields.SEQ_PF_CFG.IBLOCKS
def Mod.pblocks (m : Mod) (n : Nat) : Nat :=
  m.rd (Reg.SEQ_PF_CFG n) Fields.SEQ_PF_CFG.BLOCKS - m.iblocks n

/-- Requests are made while a stream has room in its allocation (R179); a block it holds is not asked for again. -/
def Mod.requestBlocks (m : Mod) (n : Nat) : Nat → Seq → Seq
  | 0, x => x
  | fuel + 1, x =>
    let i := x.iblk.length < m.iblocks n ∧ x.inext < blocksOf x.img.ilen
    let p := x.pblk.length < m.pblocks n ∧ x.pnext < blocksOf x.img.plen
    if x.iblk.any (fun b => b.num == x.inext) then m.requestBlocks n fuel { x with inext := x.inext + 1 }
    else if x.pblk.any (fun b => b.num == x.pnext) then m.requestBlocks n fuel { x with pnext := x.pnext + 1 }
    else if i then m.requestBlocks n fuel { x with
      iblk := x.iblk ++ [⟨x.inext, m.freePool n x, false, false⟩]
      inext := x.inext + 1 }
    else if p then m.requestBlocks n fuel { x with
      pblk := x.pblk ++ [⟨x.pnext, m.freePool n x, false, false⟩]
      pnext := x.pnext + 1 }
    else x

/-- The block of a byte of a stream. -/
def blkOf (b : Nat) : Nat := b / blkSize

/-- Blocks that execution has passed and no pin holds are released and the next ones requested (R179). -/
def Mod.releaseBlocks (m : Mod) (n : Nat) (x : Seq) : Seq :=
  let i := blkOf (16 * x.pc)
  let p := blkOf (x.pp * x.img.rowBytes)
  m.requestBlocks n 260 { x with
    iblk := x.iblk.filter (fun b => b.pinned || decide (i ≤ b.num))
    pblk := x.pblk.filter (fun b => b.pinned || decide (p ≤ b.num)) }

/-- A stream as execution comes to block `b`. A branch (`far`) to a block that is not readable releases every
unpinned block, and refill restarts there (R179); so does the next block in order where it has been released since the
stream passed it, as beyond a footprint that is too small (R180). Answers the blocks and the next block to request. -/
def seekStream (far : Bool) (blks : List Blk) (next b : Nat) : List Blk × Nat :=
  if blks.any (fun k => k.num == b && (k.readable || !far)) || (!far && decide (next ≤ b)) then (blks, next)
  else (blks.filter Blk.pinned, b)

/-- Execution goes to instruction `pc` and row `pp`, by a branch or in order. -/
def Mod.goto (n pc pp : Nat) (far : Bool) (x : Seq) (m : Mod) : Mod :=
  let i := seekStream far x.iblk x.inext (blkOf (16 * pc))
  let p := seekStream far x.pblk x.pnext (blkOf (pp * x.img.rowBytes))
  m.putSeq n (m.releaseBlocks n { x with
    pc := pc
    pp := pp
    iblk := i.1
    inext := i.2
    pblk := p.1
    pnext := p.2 })

/-- A taken branch: the next vector must lie on a lane boundary (R160). -/
def Mod.branch (n pc pp : Nat) (x : Seq) (m : Mod) : Mod :=
  m.goto n pc pp true { x with align := max x.align (lanesOf (m.period n x.tset)) }

/-- Execution goes on with the next instruction. -/
def Mod.nextInstr (n : Nat) (x : Seq) (m : Mod) : Mod := m.goto n (x.pc + 1) x.pp false x

/-- Bytes of a stream: `error false` where a block is not readable, `error true` where the pool word holds an
uncorrectable error. -/
def Mod.readStream (m : Mod) (blks : List Blk) (o : Nat) : Nat → Except Bool (List Byte)
  | 0 => .ok []
  | k + 1 =>
    match blks.find? (fun b => b.num == blkOf o && b.readable) with
    | none => .error false
    | some b =>
      let a := b.pool * blkSize + o % blkSize
      if SMap.get badDefault m.sramBad (sramKey a) then .error true
      else match m.readStream blks (o + 1) k with
        | .ok t => .ok (memByte m.sram a :: t)
        | .error e => .error e

/-- Row `r` of the payload (R155). -/
def Mod.readRow (m : Mod) (x : Seq) (r : Nat) : Except Bool (List Byte) :=
  m.readStream x.pblk (r * x.img.rowBytes) x.img.rowBytes

/-! ### Instructions -/

/-- The fields of an instruction (Table 7.4). -/
structure Word4 where
  op : Nat
  mod : Nat
  c16 : Nat
  imm : Nat
  tgt : Nat
  prow : Nat
  deriving DecidableEq, Repr

/-- Fields read from 16 bytes. -/
def Word4.ofBytes (bs : List Byte) : Word4 :=
  ⟨byteAt bs 0, byteAt bs 1, fieldAt bs 2 2, fieldAt bs 4 4, fieldAt bs 8 4, fieldAt bs 12 4⟩

/-- The bits of MOD and C16 an opcode uses, and whether it uses IMM, TGT and PROW (Table 7.5). -/
def opUses (op : Nat) : Nat × Nat × Bool × Bool × Bool :=
  match op with
  | 0x01 | 0x02 => (0x01, 0, true, false, false)
  | 0x10 => (0, 0xFFFF, true, true, false)
  | 0x12 => (0, 0, false, true, true)
  | 0x14 => (0xE0, 0, false, true, true)
  | 0x15 => (0xFF, 0x0F, false, true, true)
  | 0x16 => (0x07, 0xFFFF, true, true, false)
  | 0x20 => (0x03, 0xFF, true, false, false)
  | 0x21 => (0, 0x3F, false, false, false)
  | 0x22 => (0, 0xFF, false, false, false)
  | 0x23 => (0x0F, 0x3F, false, false, false)
  | 0x24 => (0, 0x0F, true, false, false)
  | 0x25 => (0x01, 0x3F, false, false, false)
  | 0x3F => (0x01, 0, false, false, false)
  | _ => (0, 0, false, false, false)

/-- A non-zero unused field (R438). -/
def Word4.unusedSet (w : Word4) : Bool :=
  let (modMask, ck, ui, ut, up) := opUses w.op
  w.mod &&& (0xFF - modMask) != 0 || w.c16 &&& (0xFFFF - ck) != 0 || (!ui && w.imm != 0) || (!ut && w.tgt != 0) ||
    (!up && w.prow != 0)

/-- A row is needed at PP: a VEC, RPT or routine is under way, or the instruction at PC takes one (R162, R172). -/
def Mod.rowNeeded (m : Mod) (x : Seq) : Bool :=
  x.run != 0 || x.upc.isSome || (match m.readStream x.iblk (16 * x.pc) 16 with
    | .ok bs =>
      let w := Word4.ofBytes bs
      w.op == 1 || w.op == 2 || (w.op == 0x25 && nbit w.mod 0)
    | .error _ => false)

/-- Whether the refill of a block is one that R180 counts in MISS: a resident body has reached the block, which no
footprint holds, and needs it (assumption 15). -/
def Mod.refillMiss (m : Mod) (x : Seq) (payload : Bool) (b : Blk) : Bool :=
  let lo := x.pp * x.img.rowBytes
  x.levels.any Level.pinned && !b.pinned &&
    (if payload then decide (blkOf lo ≤ b.num) && decide (b.num ≤ blkOf (lo + x.img.rowBytes - 1)) && m.rowNeeded x
    else b.num == blkOf (16 * x.pc))

/-! ### Iterations of MATCH (R174 to R176) -/

def Iter.fresh (mn it : Nat) : Iter :=
  { mnum := mn, it := it, res := 0, toEmit := 0, left := 0, strobed := false, ok := true, passed := [], whole := false,
    endPp := 0, endTset := 0 }

/-- The entry of iteration `it` of MATCH `mn`, made where there is none, is changed. -/
def onIter (mn it : Nat) (f : Iter → Iter) : List Iter → List Iter
  | [] => [f (Iter.fresh mn it)]
  | i :: t => if i.mnum = mn ∧ i.it = it then f i :: t else i :: onIter mn it f t

/-- Every iteration of a list of tags. -/
def onTags (tags : List (Nat × Nat)) (f : Iter → Iter) (l : List Iter) : List Iter :=
  tags.foldl (fun a t => onIter t.1 t.2 f a) l

/-- The iterations of the open MATCH levels, innermost first. -/
def tagsOf (l : List Level) : List (Nat × Nat) := (l.filter Level.isMatch).map (fun k => (k.mnum, k.count))

/-- Vectors on their way to emission are counted in their iterations. -/
def Seq.owe (tags : List (Nat × Nat)) (k : Nat) (x : Seq) : Seq :=
  { x with iters := onTags tags (fun i => { i with toEmit := i.toEmit + k }) x.iters }

/-- The look-ahead is withdrawn. -/
def Seq.withdraw (x : Seq) : Seq :=
  { x with
    look := []
    iters := x.look.foldl (fun a v => onTags v.iter (fun i => { i with toEmit := i.toEmit - 1 }) a) x.iters }

/-! ### Commit points -/

/-- FAIL is set once the result time of a failing vector has come (R166, R220), SCLK `t` of the burst. -/
def Mod.failsDue (n t : Nat) (m : Mod) : Mod :=
  let x := m.seq n
  if x.failAt.any (fun r => decide (r ≤ t)) then
    (m.setSeq n { x with failAt := x.failAt.filter (fun r => decide (t < r)) }).wr (Reg.SEQ_FLAGS n)
      Fields.SEQ_FLAGS.FAIL 1
  else m

/-- The emission stage has reached the result time of the vector that met the fail limit, and the stop is requested
(R230). -/
def Mod.limitDue (n : Nat) (m : Mod) : Mod :=
  let x := m.seq n
  match x.limitAt with
  | none => m
  | some t => if t ≤ x.sclk then (m.setSeq n { x with limitAt := none }).stopSeq n stOK else m

/-- A stop request is accepted at a commit point: vectors not yet emitted are withdrawn (R188), and the
burst stops at the next lane boundary. One that comes with END or a posted code has no effect (R189). -/
def Mod.commit (n : Nat) (m0 : Mod) : Mod :=
  let m := m0.limitDue n
  let x := m.seq n
  if !x.atCommit then m
  else match x.request with
  | none => m
  | some code =>
    if x.ended || x.post.isSome then m.setSeq n { x with request := none }
    else m.putSeq n { x.withdraw with
      request := none
      post := some code
      ctl := []
      wait := none
      paused := false
      run := 0
      arrived := none }

/-- PAUSE takes effect at a commit point at which a HOLD region is active, one of a wait among them (R148, R187). -/
def Mod.tryPause (n : Nat) (m : Mod) : Mod :=
  let x := m.seq n
  let st := Reg.SEQ_STATUS n
  if m.flag st Fields.SEQ_STATUS.PAUSE_PENDING && x.live && x.hold.isSome && x.atCommit && x.post.isNone &&
      !x.ended then
    (((m.setSeq n { x with paused := true }).wr st Fields.SEQ_STATUS.PAUSE_PENDING 0).setSeqState n 3).sendDec n 6 0
      (x.num + x.look.length)
  else m

/-- Whether the execution stage is free to execute an instruction. -/
def Seq.ready (x : Seq) : Bool :=
  x.live && !x.ended && x.post.isNone && x.wait.isNone && !x.paused && x.upc.isNone

/-- One instruction of a sequencer: stop requests and PAUSE are met first, then the instruction at PC is read
from its readable block; it is executed where it is the command's own (`own`), after the parity and VALID of its dispatch
entry (R149) and the check of R438. An instruction at INSTR_COUNT stops the burst with STREAM_END (R162). -/
def Mod.execInstr (n : Nat) (own : Word4 → Bool) (f : Word4 → Seq → Mod → Mod) (m0 : Mod) : Mod :=
  let m := (m0.commit n).tryPause n
  let x := m.seq n
  if !x.ready || x.run != 0 then m
  else if x.img.instrs ≤ x.pc then m.postStop n stSTREAM_END
  else match m.readStream x.iblk (16 * x.pc) 16 with
    | .error false => m
    | .error true => m.seqMchk n 1
    | .ok bs =>
      let w := Word4.ofBytes bs
      if !own w then m
      else if m.storeBad (dispatchWord w.op) then m.seqMchk n 2
      else if !nbit (m.dispatchEntry w.op) 15 then m.seqMchk n 4
      else if w.unusedSet then m.postStop n stBAD_INSTR
      else
        let y : Seq := { x with commitAt := none, effects := 0 }
        f w y (m.setSeq n y)

/-- Whether an instruction has an opcode. -/
def isOp (op : Nat) (w : Word4) : Bool := w.op == op

/-! ### Vectors -/

/-- A vector enters the look-ahead with the control words and the alignment it owes, in the iterations of every open
MATCH (R174). -/
def Seq.place (row : Option Nat) (bytes : List Byte) (bank : Bool) (x : Seq) : Seq :=
  let v : Vec :=
    { num := 0, row := row, bytes := bytes, instr := x.pc, bank := bank, tset := x.tset, iter := tagsOf x.levels,
      first := x.iterFirst, align := x.align, ctl := x.ctl, pre := x.ctlPre, after := x.resume.getD 0 }
  { x.owe v.iter 1 with
    look := x.look ++ [v]
    ctl := []
    ctlPre := 0
    align := 1
    iterFirst := []
    resume := none }

/-- The look-ahead holds 64 SCLK of emission (R161): one more vector would be emitted 64 SCLK or more after the
lane boundary that comes next. -/
def Mod.lookFull (m : Mod) (n : Nat) (x : Seq) : Bool :=
  decide (x.sclk + 64 ≤ (x.look.foldl (fun a v => a + m.period n v.tset) x.et) / 2048)

/-- Up to `k` vectors of the VEC or RPT being executed are placed (R162): the rows from PP on, or row PP
again. A row at or beyond ROW_COUNT stops the burst with STREAM_END. -/
def Mod.placeRows (n : Nat) (rpt bank : Bool) : Nat → Mod → Mod
  | 0, m => m
  | k + 1, m =>
    let x := m.seq n
    if x.run = 0 ∨ m.lookFull n x then m
    else if x.img.rows ≤ x.pp then m.postStop n stSTREAM_END
    else match m.readRow x x.pp with
      | .error false => m
      | .error true => m.seqMchk n 1
      | .ok bs =>
        let y := x.place (some x.pp) bs bank
        let last := x.run == 1
        let pp := if rpt && !last then x.pp else x.pp + 1
        let z : Seq := { y with run := x.run - 1 }
        let m1 := if last then m.goto n (x.pc + 1) pp false z else m.goto n x.pc pp false z
        placeRows n rpt bank k m1

/-- VEC and RPT (R162): `k` more vectors of the instruction are placed; COUNT 0 is out of range. -/
def Mod.vecInstr (n k : Nat) (rpt : Bool) (m0 : Mod) : Mod :=
  let op := if rpt then 0x02 else 0x01
  let x0 := m0.seq n
  if x0.run = 0 then
    m0.execInstr n (isOp op) (fun w x m =>
      if w.imm = 0 then m.postStop n stBAD_INSTR
      else (m.setSeq n { x with run := w.imm }).placeRows n rpt (nbit w.mod 0) k)
  else
    let m := m0.commit n
    let x := m.seq n
    if !x.ready then m
    else match m.readStream x.iblk (16 * x.pc) 16 with
      | .error _ => m
      | .ok bs =>
        let w := Word4.ofBytes bs
        if w.op = op then m.placeRows n rpt (nbit w.mod 0) k else m

/-! ### Loops, calls and branches (R163 to R165) -/

/-- Whether a body becomes resident, and the sequencer with its footprint pinned (R180). -/
def Mod.pinBody (m : Mod) (n ifoot pfoot : Nat) (x : Seq) : Bool × Seq :=
  let ok := !(x.levels.any Level.pinned) && ifoot != 0 && decide (ifoot + 1 ≤ m.iblocks n) && pfoot != 0 &&
    decide (pfoot + 1 ≤ m.pblocks n)
  if ok then
    let i := blkOf (16 * (x.pc + 1))
    let p := blkOf (x.pp * x.img.rowBytes)
    let pin (lo k : Nat) (b : Blk) : Blk := if lo ≤ b.num ∧ b.num < lo + k then { b with pinned := true } else b
    (true, { x with iblk := x.iblk.map (pin i ifoot), pblk := x.pblk.map (pin p pfoot) })
  else (false, x)

/-- Pins are released when their level is popped (R180). -/
def Seq.unpin (l : Level) (x : Seq) : Seq :=
  if l.pinned then
    { x with
      iblk := x.iblk.map (fun b => { b with pinned := false })
      pblk := x.pblk.map (fun b => { b with pinned := false }) }
  else x

/-- `k` levels popped, innermost first. -/
def Seq.popLevels : Nat → Seq → Seq
  | 0, x => x
  | k + 1, x =>
    match x.levels with
    | [] => x
    | l :: rest => Seq.popLevels k (Seq.unpin l { x with levels := rest })

/-- LOOP (R163). -/
def Mod.loopInstr (n : Nat) (w : Word4) (x : Seq) (m : Mod) : Mod :=
  if w.imm = 0 then m.branch n (w.tgt + 1) x.pp x
  else if 8 ≤ x.levels.length then m.postStop n stSTACK_OVERFLOW
  else
    let (pinned, y) := m.pinBody n (w.c16 % 256) (w.c16 / 256) x
    let l : Level :=
      { isMatch := false, count := w.imm, tgt := w.tgt, body := x.pc + 1, pp := x.pp, max := 0, mode := 0,
        stop := false, pinned := pinned, frames := x.frames.length, mnum := 0 }
    m.goto n (x.pc + 1) x.pp false { y with
      levels := l :: y.levels
      align := max y.align (lanesOf (m.period n x.tset)) }

/-- A wait begins: STATE becomes WAITING, and PC stays at the instruction; its hold vector, the result times of the
vectors before it and the control words before it stand from now (R167, R171). A pause that is due is met here (R187). -/
def Mod.beginWait (n : Nat) (k : Wait) (x : Seq) (m : Mod) : Mod :=
  ((m.putSeq n { x with
    wait := some k
    whold := x.hold
    waitRes := x.lastRes
    ctlPre := x.ctl.length }).setSeqState n 4).tryPause n

/-- ENDL (R163, R174, R175): the next iteration, or the end of the level; a MATCH that has begun MAXITER
iterations waits for its results. Whole iterations hold a multiple of LW vectors (R160). -/
def Mod.endlInstr (n : Nat) (x : Seq) (m : Mod) : Mod :=
  match x.levels with
  | [] => m.postStop n stBAD_NEST
  | l :: rest =>
    let lw := lanesOf (m.period n x.tset)
    if l.tgt ≠ x.pc then m.postStop n stBAD_NEST
    else if l.isMatch then
      let y : Seq := { x with
        iters := onIter l.mnum l.count (fun i => { i with whole := true, endPp := x.pp, endTset := x.tset }) x.iters
        align := max x.align lw }
      if l.max ≤ l.count then m.beginWait n .matchEnd y
      else m.goto n l.body l.pp true { y with
        levels := { l with count := l.count + 1 } :: rest
        ctlPre := x.ctl.length
        iterFirst := l.mnum :: x.iterFirst }
    else if 1 < l.count then
      m.goto n l.body l.pp true { x with
        levels := { l with count := l.count - 1 } :: rest
        align := max x.align lw }
    else m.goto n (x.pc + 1) x.pp false { x.popLevels 1 with align := max x.align lw }

/-- CALL and RET (R164). -/
def Mod.callInstr (n : Nat) (w : Word4) (x : Seq) (m : Mod) : Mod :=
  if 16 ≤ x.frames.length then m.postStop n stSTACK_OVERFLOW
  else m.branch n w.tgt w.prow { x with frames := ⟨x.pc + 1, x.pp, x.levels.length⟩ :: x.frames }

def Mod.retInstr (n : Nat) (x : Seq) (m : Mod) : Mod :=
  match x.frames with
  | [] => m.postStop n stBAD_NEST
  | f :: rest =>
    if f.depth ≠ x.levels.length then m.postStop n stBAD_NEST
    else m.branch n f.pc f.pp { x with frames := rest }

/-- JMP and a taken JCC (R165). -/
def Mod.jump (n : Nat) (w : Word4) (x : Seq) (m : Mod) : Mod :=
  let pop := w.mod / 32
  if x.levels.length < pop then m.postStop n stBAD_NEST
  else m.branch n w.tgt w.prow (x.popLevels pop)

/-! ### Conditions and waits (R166 to R170) -/

/-- The condition a JCC tests (Table 7.6). -/
def Mod.jccCond (m : Mod) (n cond flag : Nat) : Bool :=
  let r := Reg.SEQ_FLAGS n
  match cond with
  | 0 => m.flag r Fields.SEQ_FLAGS.FAIL
  | 1 => !m.flag r Fields.SEQ_FLAGS.FAIL
  | 2 => m.flag r Fields.SEQ_FLAGS.MATCHED
  | 3 => m.flag r Fields.SEQ_FLAGS.NOMATCH
  | 4 => m.flag r Fields.SEQ_FLAGS.TRIG_SEEN
  | 5 => !m.flag r Fields.SEQ_FLAGS.TRIG_SEEN
  | 6 => nbit (m.rd r Fields.SEQ_FLAGS.USER) flag
  | _ => !nbit (m.rd r Fields.SEQ_FLAGS.USER) flag

/-- CLEAR of a JCC: the condition it tested, or the flag (R165). -/
def Mod.jccClear (n cond flag : Nat) (m : Mod) : Mod :=
  let r := Reg.SEQ_FLAGS n
  match cond with
  | 0 | 1 => m.wr r Fields.SEQ_FLAGS.FAIL 0
  | 2 => m.wr r Fields.SEQ_FLAGS.MATCHED 0
  | 3 => m.wr r Fields.SEQ_FLAGS.NOMATCH 0
  | 4 | 5 => m.wr r Fields.SEQ_FLAGS.TRIG_SEEN 0
  | _ => m.wr r ⟨flag, 1⟩ 0

/-- The decision of a JCC; a mirror follows the primary's record (R390). -/
def Mod.jccDecide (n : Nat) (w : Word4) (x : Seq) (m0 : Mod) : Mod :=
  let cond := w.mod % 16
  let flag := w.c16 % 16
  let (rec_, m2) := m0.takeDec n 1 none
  let taken := match rec_ with
    | some o => o == 1
    | none => m2.jccCond n cond flag
  let m := m2.sendDec n 1 (b2n taken) (x.num + x.look.length)
  let m1 := m.when (nbit w.mod 4) (Mod.jccClear n cond flag)
  if taken then m1.jump n w x else m1.nextInstr n x

/-- A wait ends with its decision at SCLK `d`: vectors follow at or after `d + 16` (R167). A paused sequencer stays
paused (assumption 45). -/
def Mod.endWait (n d : Nat) (m : Mod) : Mod :=
  let x := m.seq n
  (m.setSeq n { x with wait := none, resume := some (d + 16), arrived := none }).setSeqState n (if x.paused then 3 else 2)

def Mod.jccInstr (n : Nat) (w : Word4) (x : Seq) (m : Mod) : Mod :=
  let cond := w.mod % 16
  if 8 ≤ cond then m.postStop n stBAD_INSTR
  else if cond < 2 then
    if x.hold.isNone then m.postStop n stNO_HOLD else m.beginWait n .jcc x
  else m.jccDecide n w x

/-- MATCH (R174). -/
def Mod.matchInstr (n : Nat) (w : Word4) (x : Seq) (m : Mod) : Mod :=
  let mode := w.mod % 4
  if mode = 3 ∨ w.imm = 0 then m.postStop n stBAD_INSTR
  else if x.hold.isNone then m.postStop n stNO_HOLD
  else if 8 ≤ x.levels.length then m.postStop n stSTACK_OVERFLOW
  else
    let (pinned, y) := m.pinBody n (w.c16 % 256) (w.c16 / 256) x
    let l : Level :=
      { isMatch := true, count := 1, tgt := w.tgt, body := x.pc + 1, pp := x.pp, max := w.imm, mode := mode,
        stop := nbit w.mod 2, pinned := pinned, frames := x.frames.length,
        mnum := x.mcount + 1 }
    m.goto n (x.pc + 1) x.pp false { y with
      levels := l :: y.levels
      mcount := x.mcount + 1
      align := max y.align (lanesOf (m.period n x.tset))
      ctlPre := x.ctl.length
      iterFirst := (x.mcount + 1) :: x.iterFirst }

/-- Whether an iteration of a MATCH is met (R174): in EACH mode every selected pin has passed in it or an
earlier one. -/
def iterMet (sel : List Nat) (mode : Nat) (iters : List Iter) (i : Iter) : Bool :=
  match mode with
  | 0 => i.strobed && i.ok
  | 1 => sel.all (fun p => iters.any (fun k => k.mnum == i.mnum && decide (k.it ≤ i.it) && k.passed.contains p))
  | _ => i.strobed && !i.ok

/-- Whether a met iteration of a level, all of it emitted and judged, has a result time at or before SCLK `e` (R175). -/
def Seq.matchMet (x : Seq) (l : Level) (e : Nat) : Bool :=
  x.iters.any (fun i => i.mnum == l.mnum && i.whole && i.toEmit == 0 && i.left == 0 && decide (i.res ≤ e) &&
    iterMet x.sel l.mode x.iters i)

/-- Levels popped down to and including the MATCH `k`, with the frames opened in its body. -/
def Seq.popMatch (k : Nat) : Nat → Seq → Seq
  | 0, x => x
  | fuel + 1, x =>
    match x.levels with
    | [] => x
    | l :: rest =>
      let y := Seq.unpin l { x with levels := rest }
      if l.isMatch && l.mnum == k then { y with frames := y.frames.drop (y.frames.length - l.frames) }
      else Seq.popMatch k fuel y

/-- A MATCH exits (R175, R176) after its iteration `last`: the look-ahead is withdrawn but for the control words
`kept`, PC goes to TGT + 1 and PP follows the last row of that iteration, and the exit acts as a wait with `d`. -/
def Mod.matchExit (n : Nat) (l : Level) (last d : Nat) (met : Bool) (kept : List Ctl) (m : Mod) : Mod :=
  let x := m.seq n
  let fl := Reg.SEQ_FLAGS n
  let fin := (x.iters.find? (fun i => i.mnum == l.mnum && i.it == last && i.whole)).getD
    { Iter.fresh l.mnum last with endPp := l.pp, endTset := x.tset }
  let w := x.withdraw
  let y := Seq.popMatch l.mnum 9 { w with
    ctl := kept
    ctlPre := kept.length
    run := 0
    iterFirst := []
    tset := fin.endTset
    anyNomatch := x.anyNomatch || !met
    iters := w.iters.filter (fun i => decide (i.mnum < l.mnum))
    wait := none
    whold := x.hold
    arrived := none
    upc := none
    span := 0
    resume := some (d + 16) }
  let m1 := (m.wr fl Fields.SEQ_FLAGS.MATCHED (b2n met)).wr fl Fields.SEQ_FLAGS.NOMATCH (b2n !met)
  let m2 := m1.when (!met) (Mod.bump (Reg.SEQ_LAST n) Fields.SEQ_LAST.MATCH_NOMATCH)
  let m3 := ((m2.goto n (l.tgt + 1) fin.endPp true y).setSeqState n (if x.paused then 3 else 2)).sendDec n 2 (b2n met) x.num
  if !met && l.stop then m3.postStop n stMATCH_TIMEOUT else m3

/-- The level of the innermost open MATCH. -/
def Seq.matchLevel (x : Seq) : Option Level := x.levels.find? Level.isMatch

/-- The open MATCH of which a vector begins a second or later iteration, with that iteration; at most one has one. -/
def Seq.beginsAgain (x : Seq) (v : Vec) : Option (Level × Nat) :=
  match x.levels.find? (fun l => l.isMatch && v.first.contains l.mnum &&
      v.iter.any (fun t => t.1 == l.mnum && decide (1 < t.2))) with
  | some l => (v.iter.find? (fun t => t.1 == l.mnum)).map (fun t => (l, t.2))
  | none => none

/-- MATCH_EXIT (R175): the next vector would begin an iteration, and a met one has its result; a mirror follows the
primary's record of that vector (R390). -/
def Mod.tryMatchExit (n : Nat) (m : Mod) : Mod :=
  let x := m.seq n
  match x.look with
  | [] => m
  | v :: _ =>
    match x.beginsAgain v with
    | none => m
    | some (l, j) =>
      match m.takeDec n 2 (some x.num) with
      | (some o, m1) => m1.matchExit n l (j - 1) x.sclk (o == 1) (v.ctl.take v.pre)
      | (none, _) => if x.matchMet l x.sclk then m.matchExit n l (j - 1) x.sclk true (v.ctl.take v.pre) else m

/-- RESULT_WAIT_END (R167): the emission stage has finished the vectors before the waiting instruction and
has reached their latest result time; the decision is taken there. -/
def Mod.resultWaitEnd (n : Nat) (m0 : Mod) : Mod :=
  let m := (m0.commit n).tryPause n
  let x := m.seq n
  if !x.look.isEmpty || decide (x.sclk < x.waitRes) then m
  else match x.wait with
    | some .jcc =>
      match m.readStream x.iblk (16 * x.pc) 16 with
      | .error _ => m
      | .ok bs =>
        let m1 := (m.failsDue n x.waitRes).endWait n x.waitRes
        m1.jccDecide n (Word4.ofBytes bs) (m1.seq n)
    | some .matchEnd =>
      match x.matchLevel with
      | none => m
      | some l =>
        let own := x.iters.any (fun i => i.mnum == l.mnum && iterMet x.sel l.mode x.iters i)
        let (rec_, m1) := m.takeDec n 2 none
        m1.matchExit n l l.count x.waitRes (match rec_ with
          | some o => o == 1
          | none => own) x.ctl
    | _ => m

/-- Number of lines of a WTRG source (R169). -/
def trigLines (src : Nat) : Nat :=
  match src with
  | 0 => 8
  | 1 => 2
  | 2 => 16
  | 3 => 1
  | _ => 0

/-- WTRG ends with its source seen at SCLK `d`. -/
def Mod.wtrgSeen (n d : Nat) (m : Mod) : Mod :=
  let m1 := ((m.wr (Reg.SEQ_FLAGS n) Fields.SEQ_FLAGS.TRIG_SEEN 1).endWait n d).sendDec n 3 1 (m.seq n).num
  m1.nextInstr n (m1.seq n)

/-- An edge has reached the sequencer (R169): it ends a wait on its source, unless it came to the contact before a
WTRG without LATCHED, and is latched otherwise; a mirror keeps it until its own decision (R390). -/
def Mod.takeEdge (n : Nat) (m : Mod) (e : TrigIn) : Mod :=
  let x := m.seq n
  let keep := m.setSeq n { x with latch := if x.latch.contains e.key then x.latch else e.key :: x.latch }
  match x.wait with
  | some (.trig s i _ _) =>
    if 16 * s + i = e.key ∧ e.old = false ∧ x.follows = false then m.wtrgSeen n (e.at_ - x.sclk0) else keep
  | _ => keep

/-- Edges that have reached the sequencer by module SCLK `t`, in their order. -/
def Mod.takeEdges (n t : Nat) (m : Mod) : Mod :=
  let x := m.seq n
  if x.edges.isEmpty then m
  else
    (x.edges.filter (fun e => decide (e.at_ ≤ t))).foldl (Mod.takeEdge n)
      (m.setSeq n { x with edges := x.edges.filter (fun e => decide (t < e.at_)) })

/-- WTRG (R169): a set flag or a latched edge ends the wait at once; the latch clears. Without LATCHED an edge that is
on its way from the contact does not count. -/
def Mod.wtrgInstr (n : Nat) (w : Word4) (x0 : Seq) (m0 : Mod) : Mod :=
  let idx := w.c16 % 16
  let src := w.c16 / 16
  let m := m0.takeEdges n (m0.seqNow n)
  let x : Seq := { x0 with latch := (m.seq n).latch, edges := (m.seq n).edges }
  if trigLines src ≤ idx then m.postStop n stBAD_INSTR
  else if x.hold.isNone then m.postStop n stNO_HOLD
  else
    let latched := nbit w.mod 0 && x.latch.contains (16 * src + idx)
    let flag := src == 2 && nbit (m.rd (Reg.SEQ_FLAGS n) Fields.SEQ_FLAGS.USER) idx
    let m1 := m.beginWait n (.trig src idx (nbit w.mod 1) w.imm) { x with
      latch := []
      edges := x.edges.map (fun e => { e with old := e.old || (!nbit w.mod 0 && e.key == 16 * src + idx) }) }
    if latched || flag then m1.wtrgSeen n x.sclk else m1

/-- An edge on a WTRG source comes to the contact at module SCLK `t`: it reaches the sequencer 8 SCLK later (R169). -/
def Mod.wtrgEdge (src idx t n : Nat) (m : Mod) : Mod :=
  let x := m.seq n
  m.when x.live (Mod.setSeq n { x with edges := x.edges ++ [⟨16 * src + idx, t + 8, false⟩] })

/-- WTRG_TIMEOUT (R169) at module SCLK `t`; an edge that has reached the sequencer by then ends the wait instead. -/
def Mod.wtrgTimeout (n us t : Nat) (m0 : Mod) : Mod :=
  let m := ((m0.takeEdges n t).commit n).tryPause n
  let x := m.seq n
  match x.wait with
  | some (.trig _ _ stop lim) =>
    if lim = 0 ∨ us < lim then m
    else
      let m1 := m.setSeq n { x with anyTimeout := true }
      if stop then m1.postStop n stWTRG_TIMEOUT
      else
        let m2 := (m1.endWait n (t - x.sclk0)).sendDec n 3 0 x.num
        m2.nextInstr n (m2.seq n)
  | _ => m

/-- Members of a barrier (Table 7.23); the barriers of mirrors are the partner's (R395). -/
def Mod.barMembers (m : Mod) (peer : Bool) (k : Nat) : List Nat :=
  if peer then (allBelow 16 (fun n => (m.peerReg (Reg.SEQ_BAR_MASK k)).getLsbD n)).map (16 + ·)
  else allBelow 32 (fun n => (m.reg (Reg.SEQ_BAR_MASK k)).getLsbD n)

/-- Whether a sequencer waits at barrier `k`. -/
def Seq.atBarrier (x : Seq) (k : Nat) : Bool := match x.wait with
  | some (.sync j _) => j == k
  | _ => false

/-- The barrier releases when every member has arrived, 8 SCLK after the last (R170). -/
def Mod.tryRelease (peer : Bool) (k : Nat) (m : Mod) : Mod :=
  let ms := m.barMembers peer k
  let at_ := ms.map (fun n => if (m.seq n).atBarrier k then (m.seq n).arrived else none)
  if ms.isEmpty || at_.any Option.isNone then m
  else
    let a := (at_.filterMap id).foldl max 0
    m.each ms (fun n s =>
      let s1 := (s.endWait n (a + 8 - (s.seq n).sclk0)).sendDec n 4 1 (s.seq n).num
      if (s1.seq n).upc.isSome then s1 else s1.nextInstr n (s1.seq n))

/-- A member arrives once every vector before its SYNC has been emitted (R170). -/
def Mod.tryArrive (n : Nat) (m : Mod) : Mod :=
  let x := m.seq n
  match x.wait with
  | some (.sync k _) =>
    if x.look.isEmpty && x.arrived.isNone then
      (m.setSeq n { x with arrived := some (x.sclk0 + x.lastSclk) }).tryRelease x.mirror k
    else m
  | _ => m

/-- SYNC (R170). -/
def Mod.syncInstr (n : Nat) (w : Word4) (x : Seq) (m : Mod) : Mod :=
  let k := w.c16 % 16
  if !(m.barMembers x.mirror k).contains n then m.postStop n stBAD_INSTR
  else if x.hold.isNone then m.postStop n stNO_HOLD
  else (m.beginWait n (.sync k w.imm) x).tryArrive n

/-- SYNC_TIMEOUT (R170): every waiting member stops and the barrier clears its arrivals. -/
def Mod.syncTimeout (n us : Nat) (m : Mod) : Mod :=
  match (m.seq n).wait with
  | some (.sync k lim) =>
    if lim = 0 ∨ us < lim then m
    else m.each (m.barMembers (m.seq n).mirror k) (fun j s => if (s.seq j).atBarrier k then
      (s.setSeq j { s.seq j with arrived := none }).postStop j stSYNC_TIMEOUT else s)
  | _ => m

/-! ### Control words, HOLD and END (R171 to R173) -/

/-- A control word for the next vector. -/
def Mod.ctlInstr (n : Nat) (c : Ctl) (x : Seq) (m : Mod) : Mod :=
  m.nextInstr n { x with ctl := x.ctl ++ [c] }

/-- TSET (R158, R160, R171): a set too fast for the format or for MIN_PERIOD stops the burst. -/
def Mod.tsetInstr (n : Nat) (w : Word4) (x : Seq) (m : Mod) : Mod :=
  let s := w.c16 % 64
  let p := m.period n s
  if p < formatPeriod x.img.format then m.postStop n stFORMAT_RATE
  else if p < x.img.minPeriod then m.postStop n stRATE_EXCEEDED
  else m.ctlInstr n (.tset s) { x with
    tset := s
    align := max x.align (max (lanesOf (m.period n x.tset)) (lanesOf p)) }

/-- Lines of a SIG kind (R171). -/
def sigRange (kind : Nat) : Nat :=
  match kind with
  | 0 | 1 | 2 => 8
  | 3 => 36
  | 4 => 8
  | 5 | 6 => 16
  | _ => 0

/-- SIG (R171): kinds 5 and 6 act at the execution stage, the others send a control word. -/
def Mod.sigInstr (n : Nat) (w : Word4) (x : Seq) (m : Mod) : Mod :=
  let kind := w.mod % 16
  let k := w.c16 % 64
  if sigRange kind ≤ k then m.postStop n stBAD_INSTR
  else if kind = 5 then (m.wr (Reg.SEQ_FLAGS n) ⟨k, 1⟩ 1).nextInstr n x
  else if kind = 6 then (m.wr (Reg.SEQ_FLAGS n) ⟨k, 1⟩ 0).nextInstr n x
  else m.ctlInstr n (.sig kind k) x

/-- The SIG command of a kind; a kind of 7 to 15 is met by any of them (R171). -/
def isSig (kind : Nat) (w : Word4) : Bool := w.op == 0x23 && (w.mod % 16 == kind || decide (7 ≤ w.mod % 16))

/-- HOLD ON (R172): row PP becomes the hold vector, PP advances. -/
def Mod.holdOn (n : Nat) (w : Word4) (x : Seq) (m : Mod) : Mod :=
  if x.img.rows ≤ x.pp then m.postStop n stSTREAM_END
  else match m.readRow x x.pp with
    | .error false => m
    | .error true => m.seqMchk n 1
    | .ok bs => (m.goto n (x.pc + 1) (x.pp + 1) false { x with hold := some (x.pp, bs, w.c16 % 64) }).tryPause n

def Mod.holdOff (n : Nat) (x : Seq) (m : Mod) : Mod := m.nextInstr n { x with hold := none }

/-- END (R173). -/
def Mod.endInstr (n : Nat) (w : Word4) (x : Seq) (m : Mod) : Mod :=
  m.putSeq n { x with ended := true, safe := nbit w.mod 0 }

end Sys2Proof.Machine
end

