-- ==== Sys2Proof/Machine/Levels.lean ====
section
/-!
DEFINITION. Levels, level queues, per-pin measurement and high-voltage channels (Chapter 10).
-/

namespace Sys2Proof.Machine

/-! ### Status codes (Table 10.7) -/

def stHV_BUDGET : Nat := 0x80
def stLEVEL_BADARG : Nat := 0x81
def stLQ_OVF : Nat := 0x82
def stCH_BUSY : Nat := 0x83
def stNOT_CONNECTED : Nat := 0x84
def stMEAS_BADARG : Nat := 0x85

/-! ### Entries -/

def Mod.lq (m : Mod) (q : Nat) : Lq := SMap.get (fun _ => Lq.fresh) m.lqs q
def Mod.setLq (q : Nat) (x : Lq) (m : Mod) : Mod := { m with lqs := SMap.set (fun _ => Lq.fresh) m.lqs q x }
def Mod.lreq (m : Mod) (r : Nat) : Option LReq := SMap.get (fun _ => none) m.lreqs r
def Mod.setLreq (r : Nat) (x : Option LReq) (m : Mod) : Mod := { m with lreqs := SMap.set (fun _ => none) m.lreqs r x }
def Mod.lv (m : Mod) (ch : Nat) : LvLive := SMap.get (fun _ => LvLive.fresh) m.lvs ch
def Mod.setLv (ch : Nat) (x : LvLive) (m : Mod) : Mod := { m with lvs := SMap.set (fun _ => LvLive.fresh) m.lvs ch x }
def Mod.hv (m : Mod) (h : Nat) : HvLive := SMap.get (fun _ => HvLive.fresh) m.hvs h
def Mod.setHv (h : Nat) (x : HvLive) (m : Mod) : Mod := { m with hvs := SMap.set (fun _ => HvLive.fresh) m.hvs h x }
def Mod.meas (m : Mod) (c : Nat) : Option Meas := SMap.get (fun _ => none) m.meass c
def Mod.setMeas (c : Nat) (x : Option Meas) (m : Mod) : Mod := { m with meass := SMap.set (fun _ => none) m.meass c x }

/-- The status register of a level queue (Tables 10.10, 10.13). -/
def lqReg (q : Nat) : Nat :=
  if q < 16 then Reg.CH_LQ_STATUS (q / 8) (q % 8) else Reg.HV_LQ_STATUS (q - 16)

/-- A queue's entries are set, and COUNT follows. -/
def Mod.putLq (q : Nat) (x : Lq) (m : Mod) : Mod :=
  (m.setLq q x).wr (lqReg q) Fields.CH_LQ_STATUS.COUNT x.entries.length

/-- The die of a level queue (R245): 1 and 2 the pin dies, 3 H0. -/
def lqDie (q : Nat) : Nat := if q < 8 then 1 else if q < 16 then 2 else 3

/-- H0 is up. -/
def Mod.h0Up (m : Mod) : Bool := m.flag Reg.GLB_DIE_STATUS Fields.GLB_DIE_STATUS.H0_UP

/-! ### Level codes (R240) and HV state (R257) -/

/-- An LV code held to its valid range. -/
def lvCode (c : Nat) : Int := max 0x300 (min 0xFD00 c)

/-- The MODE, VRANGE and IRANGE in force of a set word. -/
def hvMode (w : Word) : Nat := let x := fget Fields.HV_SETDATA0.MODE w; if 6 ≤ x then 4 else x
def hvVrange (w : Word) : Nat := min 2 (fget Fields.HV_SETDATA0.VRANGE w)
def hvIrange (w : Word) : Nat := min 5 (fget Fields.HV_SETDATA0.IRANGE w)
def hvIclamp (w : Word) : Nat := min 250 (fget Fields.HV_SETDATA1.ICLAMP w)

def Mod.hvEnabled (m : Mod) (h : Nat) : Bool := m.flag (Reg.HV_CTRL h) Fields.HV_CTRL.EN
def Mod.asEnabled (m : Mod) (n : Nat) : Bool := m.flag (Reg.AS_STATE n) Fields.AS_STATE.EN

/-- The clamp an enabled HV channel or AS output is charged (R42, R259, R286). -/
def Mod.hvCharge (m : Mod) (h : Nat) : Nat := if m.hvEnabled h then hvIclamp (m.hv h).w1 else 0
def Mod.asCharge (m : Mod) (n : Nat) : Nat :=
  if m.asEnabled n then max 1 (min 100 (m.rd (Reg.AS_STATE n) Fields.AS_STATE.ICLAMP)) else 0

/-- The HV or AS output that a run in scope of H0 has enabled for domain 4 or 5, one at a time, is charged 10 mA (R333). -/
def Mod.calCharge (m : Mod) : Nat :=
  if nbit m.cal.scope 2 && (m.cal.run == some 4 || m.cal.run == some 5) && m.rd Reg.CAL_STATUS Fields.CAL_STATUS.STATE == 2
  then 10 else 0

/-- The sum of R42, leaving out one HV channel (`h`) and one AS output (`n`). -/
def Mod.clampSum (m : Mod) (skipHv skipAs : Nat) : Nat :=
  ((List.range 32).map (fun h => if h = skipHv then 0 else m.hvCharge h)).sum +
    ((List.range 8).map (fun n => if n = skipAs then 0 else m.asCharge n)).sum + m.calCharge

/-- CLAMP_SUM follows the sum. -/
def Mod.sumClamps (m : Mod) : Mod := m.wr Reg.PWR_HV_MON Fields.PWR_HV_MON.CLAMP_SUM (m.clampSum 32 8)

/-- The budget refuses an enable or a clamp increase: HV_BUDGET (R42, R260). -/
def Mod.budgetEvent (m : Mod) : Mod := m.pwrEvent 1 Fields.PWR_EVENT.HV_BUDGET

/-- HVn_STATE follows the live words; with a range change in progress the old ranges stand (R257, R261). -/
def Mod.showHv (h : Nat) (ranges : Bool) (m : Mod) : Mod :=
  let x := m.hv h
  let r := Reg.HV_STATE h
  let m1 := (m.wr r Fields.HV_STATE.MODE (hvMode x.w0)).wr r Fields.HV_STATE.ICLAMP (hvIclamp x.w1)
  if ranges then (m1.wr r Fields.HV_STATE.VRANGE (hvVrange x.w0)).wr r Fields.HV_STATE.IRANGE (hvIrange x.w0) else m1

/-! ### Requests of Hatch -/

/-- Result word of a LEVEL_SET (R251). -/
def LReq.result (r : LReq) : DWord :=
  BitVec.ofNat 64 (r.edge % 2 ^ 48 + 2 ^ 48 * b2n r.late + 2 ^ 49 * b2n r.range)

/-- A request is looked at after a change: when its entries and range-change intervals have ended its node
ends, or the SETTLE of its measurement begins, where its entry left the channel enabled (R251, R253, R254). -/
def Mod.reqDone (id : Nat) (m : Mod) : Mod :=
  match m.lreq id with
  | none => m
  | some r =>
    if r.left ≠ 0 ∨ r.rcs ≠ 0 then m.setLreq id (some r)
    else
      let m1 := m.setLreq id none
      match r.meas with
      | none => m1.report r.job (if r.budget then stHV_BUDGET else stOK) r.result false 0 true
      | some c =>
        if r.budget then (m1.setMeas c none).reportStatus r.job stHV_BUDGET
        else match m1.meas c with
          | none => m1
          | some x =>
            if !r.conn then (m1.setMeas c none).reportStatus r.job stNOT_CONNECTED
            else m1.setMeas c (some { x with begin_ := some m1.ttime })

def Mod.updReq (id : Option Nat) (f : LReq → LReq) (m : Mod) : Mod :=
  match id with
  | none => m
  | some i => match m.lreq i with
    | some r => m.setLreq i (some (f r))
    | none => m

/-! ### What HV channels convert (R257, R258) -/

/-- Full scale of IRANGE (Table 10.5), in nA. -/
def irangeFs (i : Nat) : Nat := [5000, 50000, 500000, 5000000, 50000000, 250000000].getD i 250000000

/-- The current limit in force of set words (R258), in nA. -/
def hvLimit (w0 w1 : Word) : Nat := max 10000 (min (1000000 * hvIclamp w1) (irangeFs (hvIrange w0) * 11 / 10))

/-- The code an HV channel's DAC converts for set words (R257, R258, R338): nothing is forced in MV and DIG, and a current
is held to the limit in force. -/
def Mod.hvDac (m : Mod) (h : Nat) (w0 w1 : Word) : Int :=
  let current := hvMode w0 == 1 || hvMode w0 == 3
  let c0 := signed 18 (fget Fields.HV_SETDATA0.FORCE w0)
  let top : Int := (hvLimit w0 w1 * 131072 / irangeFs (hvIrange w0) : Nat)
  let c := if current then max (-top) (min top c0) else c0
  let item := if hvMode w0 = 1 ∨ hvMode w0 = 3 then 6 + hvIrange w0 else hvVrange w0
  if 4 ≤ hvMode w0 then 0 else levelCorr (m.reg (calOff 0 h item)) 0 (-131072) 131071 c

/-- The range-change interval of a channel ends (R261): the new range engages with the entry's value, and a request that
waited for it may end. -/
def Mod.rcFinish (h : Nat) (m : Mod) : Mod :=
  let x := m.hv h
  match x.rc with
  | none => m
  | some (a, b, c, d) =>
    let m1 := ((m.setHv h { x with w0 := a, w1 := b, w2 := c, w3 := d, rc := none, rcReq := none, dac := m.hvDac h a b }).wr
      (Reg.HV_STATE h) Fields.HV_STATE.RC_ACTIVE 0).showHv h true
    let m2 := m1.updReq x.rcReq (fun r => { r with rcs := r.rcs - 1 })
    match x.rcReq with
    | some id => m2.reqDone id
    | none => m2

/-- The output of HV channel `h` is switched on or off; it stays off while H0 holds it disconnected. A channel disabled in
a range-change interval takes its new range as it disconnects (R261). -/
def Mod.hvSwitch (h : Nat) (on : Bool) (m : Mod) : Mod :=
  if on && !m.outputsReady then m
  else
  let m1 := m.wr (Reg.HV_CTRL h) Fields.HV_CTRL.EN (b2n on)
  (m1.when (!on) (Mod.rcFinish h)).sumClamps

/-- A write of EN (R259, R260): an enable is tested against the budget; a refused write keeps the register. -/
def Mod.hvEnable (h : Nat) (on : Bool) (m : Mod) : Mod :=
  if on && !m.hvEnabled h then
    if 800 < m.clampSum h 8 + hvIclamp (m.hv h).w1 then m.budgetEvent else m.hvSwitch h true
  else if !on then m.hvSwitch h false
  else m

/-- What a burst whose LSET was refused or lost completes with in place of OK: the first of BAD_CODE, LQ_OVF
and HV_BUDGET recorded for it stands (R157, R260). -/
def Mod.noteBurst (n code : Nat) (m : Mod) : Mod :=
  let x := m.seq n
  if x.job.isSome && x.note == 0 then m.setSeq n { x with note := code } else m

/-! ### Applying sets (R241, R257 to R266) -/

/-- A level of an LV code (R240), in 2^-15 µV. -/
def lvLevel (c : Int) : Int := 32768 * (2500000 + (c - 0x8000) * 125)

/-- A level set loads the six DACs of a channel with its codes, corrected (R241, R338), at sample edge `edge`; from there
VOH and VOL are its thresholds (R212). -/
def Mod.applyLv (ch set edge : Nat) (m : Mod) : Mod :=
  let code (k : Nat) : Int := lvCode (nbits (m.reg (lvOff ch set (k / 2))).toNat (16 * (k % 2)) 16)
  let conv (k : Nat) : Int := levelCorr (m.reg (Reg.CH_LCAL (ch / 128) (ch % 128) k)) 0x8000 0x300 0xFD00 (code k)
  let r := chReg Reg.CH_LSTAT ch
  let x := m.lv ch
  ((m.setLv ch { x with
    codes := (List.range 6).map conv
    hist := x.hist ++ [(2048000 * edge, lvLevel (code 2), lvLevel (code 3))] }).wr r Fields.CH_LSTAT.SET set).wr r
    Fields.CH_LSTAT.APPLIED 1

/-- An entry reaches HV channel `h` with new set words at sample edge `edge` (R259 to R261): the budget test,
the enable, and a range-change interval where the channel is enabled before and after. Answers whether
an interval began and whether the entry was refused. -/
def Mod.applyHv (h edge : Nat) (v : Word × Word × Word × Word) (set : Option Nat) (req : Option Nat) (m : Mod) :
    Bool × Bool × Mod :=
  let (a, b, c, d) := v
  let x := m.hv h
  let was := m.hvEnabled h
  let out := fget Fields.HV_SETDATA1.OUT b
  let on := if out = 1 then true else if out = 2 then false else was
  if on && decide (800 < m.clampSum h 8 + hvIclamp b) then (false, true, m.budgetEvent)
  else
    let st := Reg.HV_STATE h
    let m1 := match set with
      | some s => (m.wr st Fields.HV_STATE.SET s).wr st Fields.HV_STATE.APPLIED 1
      | none => m
    let rangeChange := hvVrange a != hvVrange x.w0 || hvIrange a != hvIrange x.w0
    if was && on && rangeChange then
      let held : HvLive := { x with
        w0 := fput Fields.HV_SETDATA0.MODE (hvMode a) (fput Fields.HV_SETDATA0.FORCE 0 x.w0)
        w1 := fput Fields.HV_SETDATA1.ICLAMP (hvIclamp b) x.w1
        rc := some (a, b, c, d)
        rcEnd := edge + 12
        rcReq := req
        dac := 0 }
      (true, false, (((m1.setHv h held).wr st Fields.HV_STATE.RC_ACTIVE 1).showHv h false).sumClamps)
    else
      let m2 := (m1.setHv h { x with w0 := a, w1 := b, w2 := c, w3 := d, rc := none, dac := m1.hvDac h a b }).showHv h true
      (false, false, if on == was then m2.sumClamps else m2.hvSwitch h on)

/-- The four words of an HV set. -/
def Mod.hvSet (m : Mod) (h set : Nat) : Word × Word × Word × Word :=
  (m.reg (hvOff h set 0), m.reg (hvOff h set 1), m.reg (hvOff h set 2), m.reg (hvOff h set 3))

/-- A relay set (R265, R266): a line turned off by its over-current stays off until its bit clears, and its
state is recorded; each change from off to on counts. -/
def Mod.applyRelay (set : Nat) (m : Mod) : Mod :=
  m.each (List.range 64) (fun i s =>
    let care := (s.reg (rlyOff set (2 + i / 32))).getLsbD (i % 32)
    let close := (s.reg (rlyOff set (i / 32))).getLsbD (i % 32)
    if !care then s
    else
      let was := s.mapBit Reg.RLY_STATE_LO i
      let flt := s.mapBit Reg.RLY_FLT_LO i
      if close && !s.outputsReady then s
      else (s.setMapBit Reg.RLY_STATE_LO i close).when (close && !was && !flt) (Mod.countRelay i))

/-! ### Queues (R245 to R250) -/

/-- The sample edge a request made now is due at: the first at least 500 ns later (R248). -/
def Mod.dueSample (m : Mod) : Nat := (m.ttime + 500 + 999) / 1000

/-- The sample edge of an LSET that is due at an instant in ET of TTIME (R247): the first at or after it plus 32 ns. -/
def lsetSample (et : Nat) : Nat := (et + 2048 * 32 + 2047999) / 2048000

/-- An entry enters a queue. -/
def Mod.lqEnter (q : Nat) (e : LqEntry) (m : Mod) : Mod :=
  let x := m.lq q
  m.putLq q { x with entries := x.entries ++ [e] }

/-- An LSET's entry, due at `et`: discarded with OVF on a full queue, and on H0's queues while H0 is not up and has not
been lost (R250, R264); a queue in a lost die is lost. -/
def Mod.lsetEnter (n q et : Nat) (what : LqWhat) (m : Mod) : Mod :=
  let full := decide (16 ≤ (m.lq q).entries.length)
  if m.isLost (lqDie q) then m
  else if full || (lqDie q == 3 && !m.h0Up) then (m.mark (lqReg q) Fields.CH_LQ_STATUS.OVF).noteBurst n stLQ_OVF
  else m.lqEnter q ⟨what, lsetSample et, false, none, some n⟩

/-- Whether an HV channel shadows channel `ch` (R262). -/
def Mod.shadows (m : Mod) (h ch : Nat) : Bool :=
  m.flag (Reg.HV_DCFG h) Fields.HV_DCFG.EN && m.rd (Reg.HV_DCFG h) Fields.HV_DCFG.SRC == ch

/-- The HV channels shadowing a channel. -/
def Mod.shadowers (m : Mod) (ch : Nat) : List Nat := allBelow 32 (fun h => m.shadows h ch)

/-- Mask of the channels of LV queue `q` that satisfy `p`. -/
def maskOf (base n : Nat) (p : Nat → Bool) : Nat := ((List.range n).map (fun i => if p (base + i) then 2 ^ i else 0)).sum

/-- LSET `set` of port `n`, due at `et`, acts at a pin die (R247): its entries enter the die's queues, and with `core` those
of the shadowing HV channels and of the relay lines. -/
def Mod.lset (n set die et : Nat) (core : Bool) (m : Mod) : Mod :=
  let m1 := m.each (List.range 8) (fun b s =>
    let q := 8 * die + b
    let mask := maskOf (16 * q) 16 (fun ch => s.inPort n ch)
    if mask = 0 then s else s.lsetEnter n q et (.lv set mask))
  if !core then m1
  else
    let m2 := m1.each (List.range 4) (fun k s =>
      let mask := maskOf (8 * k) 8 (fun h => s.flag (Reg.HV_DCFG h) Fields.HV_DCFG.EN &&
        s.inPort n (s.rd (Reg.HV_DCFG h) Fields.HV_DCFG.SRC))
      if mask = 0 then s else s.lsetEnter n (16 + k) et (.hv set mask))
    m2.when ((m2.reg Reg.RLY_SEQMASK).getLsbD n) (Mod.lsetEnter n 20 et (.relay set))

/-- Whether a queue's entries are held by a range change of one of its channels (R261). -/
def Mod.lqHeld (m : Mod) (q : Nat) : Bool :=
  decide (16 ≤ q) && decide (q < 20) && (List.range 8).any (fun i => (m.hv (8 * (q - 16) + i)).rc.isSome)

/-- One entry is applied at edge `edge` (R249). -/
def Mod.applyEntry (q edge : Nat) (e : LqEntry) (m : Mod) : Mod :=
  let late := decide (e.due < edge) || e.held
  let m0 := m.when late (Mod.mark (lqReg q) Fields.CH_LQ_STATUS.LATE)
  let hvOne (set : Option Nat) (v : Word × Word × Word × Word) (h : Nat) (s : Mod) : Mod :=
    let (rc, bad, s1) := s.applyHv h edge v set e.req
    let s2 := s1.updReq e.req (fun r => { r with
      rcs := r.rcs + b2n rc
      range := r.range || rc
      budget := r.budget || bad
      conn := s1.hvEnabled h })
    match e.port with
    | some n => s2.when bad (Mod.noteBurst n stHV_BUDGET)
    | none => s2
  let m1 := match e.what with
    | .lv set mask => m0.each (allBelow 16 (fun i => nbit mask i)) (fun i s => s.applyLv (16 * q + i) set edge)
    | .hv set mask => m0.each (allBelow 8 (fun i => nbit mask i)) (fun i s =>
        let h := 8 * (q - 16) + i
        hvOne (some set) (s.hvSet h set) h s)
    | .force h mode vrange irange value iclamp =>
      let x := m0.hv h
      let w0 := fput Fields.HV_SETDATA0.FORCE value (fput Fields.HV_SETDATA0.MODE mode
        (fput Fields.HV_SETDATA0.VRANGE vrange (fput Fields.HV_SETDATA0.IRANGE irange x.w0)))
      let w1 := fput Fields.HV_SETDATA1.OUT 0 (fput Fields.HV_SETDATA1.ICLAMP iclamp x.w1)
      hvOne none (w0, w1, x.w2, x.w3) h m0
    | .relay set => m0.applyRelay set
  let m2 := m1.updReq e.req (fun r => { r with
    left := r.left - 1
    edge := max r.edge edge
    late := r.late || late })
  match e.req with
  | some id => m2.reqDone id
  | none => m2

/-- Up to `k` due entries are applied in order; a range change that an entry begins holds the rest. -/
def Mod.applyDue (q edge : Nat) : Nat → Mod → Mod
  | 0, m => m
  | k + 1, m =>
    if m.lqHeld q then m
    else
      let x := m.lq q
      match x.entries.find? (fun e => decide (e.due ≤ edge)) with
      | none => m
      | some e => applyDue q edge k ((m.putLq q { x with entries := x.entries.erase e }).applyEntry q edge e)

/-- While a range change holds a queue, entries that have fallen due are held (R261). -/
def Mod.markHeld (q edge : Nat) (m : Mod) : Mod :=
  let x := m.lq q
  if m.lqHeld q then
    m.setLq q { x with entries := x.entries.map (fun e => if e.due ≤ edge then { e with held := true } else e) }
  else m

/-- The range-change intervals of a queue's channels that have run their 12 µs end (R261). -/
def Mod.rcsDue (q : Nat) (m : Mod) : Mod :=
  m.when (decide (16 ≤ q) && decide (q < 20)) (fun s => s.each ((List.range 8).map (8 * (q - 16) + ·)) (fun h t =>
    t.when ((t.hv h).rc.isSome && decide (1000 * (t.hv h).rcEnd ≤ t.ttime)) (Mod.rcFinish h)))

/-- LEVEL_QUEUE_APPLY: at a sample edge, a TTIME that is a non-zero multiple of 1,000 (R246), range changes that are over
engage, and a queue applies its due entries, at most four (R249, R261). -/
def Mod.lqApply (q : Nat) (m : Mod) : Mod :=
  let t := m.ttime
  let edge := t / 1000
  let x := m.lq q
  if t = 0 ∨ t % 1000 ≠ 0 ∨ x.lastEdge = edge ∨ m.isLost (lqDie q) then m
  else (((m.setLq q { x with lastEdge := edge }).rcsDue q).applyDue q edge 4).markHeld q edge

/-- RANGE_CHANGE_END: at the edge 12 µs after E the new range engages with the entry's value, and the held entries are
applied at the same edge (R261). -/
def Mod.rangeChangeEnd (h : Nat) (m : Mod) : Mod :=
  let x := m.hv h
  if x.rc.isNone || decide (m.ttime < 1000 * x.rcEnd) then m else (m.rcFinish h).lqApply (16 + h / 8)

/-! ### Commands of the host (R248, R250, R437) -/

/-- CH_LQCMDd. -/
def Mod.lqCmdCh (init : Init) (die : Nat) (v : Word) (m : Mod) : Mod :=
  let q := 8 * die + fget Fields.CH_LQCMD.BANK v
  if m.isLost (1 + die) then m.refuse init (Reg.CH_LQCMD die)
  else if 16 ≤ (m.lq q).entries.length then m.mark (lqReg q) Fields.CH_LQ_STATUS.CMD_FULL
  else m.lqEnter q ⟨.lv (fget Fields.CH_LQCMD.SET v) (fget Fields.CH_LQCMD.MASK v), m.dueSample, false, none, none⟩

/-- HV_LQCMD, with RELAY for LQ20. -/
def Mod.lqCmdHv (init : Init) (v : Word) (m : Mod) : Mod :=
  let relay := fget Fields.HV_LQCMD.RELAY v = 1
  let q := if relay then 20 else 16 + fget Fields.HV_LQCMD.QUEUE v
  let set := fget Fields.HV_LQCMD.SET v
  if !m.h0Up || m.isLost 3 then m.refuse init Reg.HV_LQCMD
  else if 16 ≤ (m.lq q).entries.length then m.mark (lqReg q) Fields.CH_LQ_STATUS.CMD_FULL
  else m.lqEnter q ⟨if relay then .relay set else .hv set (fget Fields.HV_LQCMD.MASK v), m.dueSample, false, none, none⟩

/-! ### LEVEL_SET (R250, R251) -/

/-- The parts of LEVEL_SET's ARGS (Table 10.2). -/
def lsMask (args : List Byte) (ch : Nat) : Bool := nbit (byteAt args (ch / 8)) (ch % 8)
def lsHv (args : List Byte) (h : Nat) : Bool := nbit (fieldAt args 32 4) h
def lsSet (args : List Byte) : Nat := byteAt args 36
def lsRelay (args : List Byte) : Bool := nbit (byteAt args 37) 0

/-- The queues a LEVEL_SET touches, each with its entry. -/
def lsEntries (args : List Byte) : List (Nat × LqWhat) :=
  (List.range 16).filterMap (fun q =>
    let k := maskOf (16 * q) 16 (lsMask args)
    if k = 0 then none else some (q, .lv (lsSet args) k)) ++
  (List.range 4).filterMap (fun q =>
    let k := maskOf (8 * q) 8 (lsHv args)
    if k = 0 then none else some (16 + q, .hv (lsSet args) k)) ++
  (if lsRelay args then [(20, .relay (lsSet args))] else [])

/-- The code that ends a LEVEL_SET at dispatch (R251), or none. -/
def Mod.levelSetCheck (m : Mod) (unit : Nat) (args : List Byte) : Option Nat :=
  let es := lsEntries args
  if unit ≠ 0xFF ∨ nbits (byteAt args 37) 1 7 ≠ 0 ∨ !zerosAt args 38 10 ∨ es.isEmpty then some stLEVEL_BADARG
  else if es.any (fun e => m.isLost (lqDie e.1)) then some stPIN_LOST
  else if es.any (fun e => decide (16 ≤ e.1)) && !m.h0Up then some stUNIT_UNAVAILABLE
  else none

/-- A LEVEL_SET node is dispatched. -/
def Mod.levelSet (j : Job) (unit : Nat) (args : List Byte) (m : Mod) : Mod :=
  match m.levelSetCheck unit args with
  | some code => m.reportStatus j code
  | none =>
    let es := lsEntries args
    let id := m.nextReq
    let m1 : Mod := { m with nextReq := id + 1 }
    let m2 := m1.setLreq id (some ⟨j, es.length, 0, 0, false, false, false, false, none⟩)
    es.foldl (fun s e => s.lqEnter e.1 ⟨e.2, s.dueSample, false, some id, none⟩) m2

/-! ### PMU_MEAS (R252 to R256) -/

/-- ARGS of PMU_MEAS (Table 10.4). -/
def pmChan (a : List Byte) : Nat := fieldAt a 0 2
def pmMode (a : List Byte) : Nat := byteAt a 2
def pmIrange (a : List Byte) : Nat := nbits (byteAt a 3) 0 3
def pmVrange (a : List Byte) : Nat := nbits (byteAt a 3) 4 2
def pmForce (a : List Byte) : Nat := fieldAt a 4 4
def pmAvg (a : List Byte) : Nat := byteAt a 10

/-- The converters that serve a channel (Chapter 10). -/
def convServes (c chan : Nat) : Bool :=
  if chan < 128 then decide (c < 4) else if chan < 256 then decide (4 ≤ c) && decide (c < 8) else c == 8 + (chan - 256)

/-- The reserved fields of the ARGS are 0; VRANGE and ICLAMP belong to HV channels. -/
def pmReserved (a : List Byte) : Bool :=
  nbit (byteAt a 3) 3 || nbits (pmForce a) 18 14 != 0 || nbits (byteAt a 10) 4 4 != 0 || byteAt a 11 != 0 ||
    !zerosAt a 13 3 || !zerosAt a 32 16

/-- Whether another measurement holds a channel (R253). -/
def Mod.measOn (m : Mod) (chan : Nat) : Bool := m.meass.any (fun e => match e.2 with
  | some x => x.chan == chan
  | none => false)

/-- The HV mode a PMU_MEAS measures in. -/
def Mod.pmHvMode (m : Mod) (a : List Byte) : Nat :=
  if pmMode a = 0xFF then hvMode (m.hv (pmChan a - 256)).w0 else
    let x := pmMode a % 8
    if 6 ≤ x then 4 else x

/-- The code that ends a PMU_MEAS at dispatch on converter `c` (R253), or none. -/
def Mod.measCheck (m : Mod) (unit : Nat) (a : List Byte) : Option Nat :=
  let ch := pmChan a
  if pmReserved a || decide (10 < pmAvg a) || decide (287 < ch) then some stMEAS_BADARG
  else if ch < 256 && ((pmMode a != 0 && pmMode a != 4) || decide (4 < pmIrange a)) then some stMEAS_BADARG
  else if 256 ≤ ch && (m.pmHvMode a == 5 || (pmMode a != 0xFF && decide (7 < pmMode a))) then some stMEAS_BADARG
  else if unit ≠ 0xFF ∧ !convServes unit ch then some stMEAS_BADARG
  else if ch < 256 && !m.flag (chReg Reg.CH_LCTRL ch) Fields.CH_LCTRL.CONN then some stNOT_CONNECTED
  else if 256 ≤ ch && pmMode a == 0xFF && !m.hvEnabled (ch - 256) then some stNOT_CONNECTED
  else if (ch < 256 && m.ownerBusy ch) || m.measOn ch then some stCH_BUSY
  else none

/-- The force code an LV PMU converts (R240, R338). -/
def Mod.pmuCode (m : Mod) (ch force : Nat) : Int :=
  levelCorr (m.reg (Reg.CH_LCAL (ch / 128) (ch % 128) 6)) 0x8000 0x300 0xFD00 (lvCode (force % 65536))

/-- Whether the level queue of a PMU_MEAS that forces an HV channel has room for its entry (R245; assumption 112). -/
def Mod.forceRoom (m : Mod) (a : List Byte) : Bool :=
  decide (pmChan a < 256) || pmMode a == 0xFF || decide (288 ≤ pmChan a) ||
    decide ((m.lq (16 + (pmChan a - 256) / 8)).entries.length < 16)

/-- A PMU_MEAS node is dispatched to converter `c` (R254). -/
def Mod.pmuMeas (j : Job) (c unit : Nat) (a : List Byte) (m : Mod) : Mod :=
  match m.measCheck unit a with
  | some code => m.reportStatus j code
  | none =>
    let ch := pmChan a
    let x : Meas :=
      { job := j, chan := ch, mode := if ch < 256 then pmMode a else m.pmHvMode a, irange := pmIrange a,
        vrange := pmVrange a, release := nbit (byteAt a 3) 6, limitEn := nbit (byteAt a 3) 7,
        settle := fieldAt a 8 2, avg := pmAvg a, lo := signed 64 (fieldAt a 16 8), hi := signed 64 (fieldAt a 24 8),
        begin_ := none }
    if ch < 256 then
      let live := m.lv ch
      let m1 := m.setLv ch { live with
        pmu := some (pmMode a, pmIrange a, m.pmuCode ch (pmForce a))
        driverOff := true }
      ((m1.wr (chReg Reg.CH_LSTAT ch) Fields.CH_LSTAT.PMU_ON (b2n (pmMode a == 0))).setPin ch
        { m.pin ch with drive := .off }).setMeas c (some { x with begin_ := some (m.ttime + 1000) })
    else if pmMode a = 0xFF then m.setMeas c (some { x with begin_ := some (m.ttime + 1000) })
    else
      let h := ch - 256
      let id := m.nextReq
      let m1 : Mod := { m with nextReq := id + 1 }
      ((m1.setMeas c (some x)).setLreq id (some ⟨j, 1, 0, 0, false, false, false, false, some c⟩)).lqEnter (16 + h / 8)
        ⟨.force h (pmMode a) (pmVrange a) (pmIrange a) (pmForce a) (byteAt a 12), m.dueSample, false, some id, none⟩

/-- The calibration word of a measurement (Tables 13.8, 13.9). -/
def Mod.measWord (m : Mod) (c : Nat) (x : Meas) : Word :=
  if x.chan < 256 then
    if x.mode = 4 then m.reg (calOff 4 c 0) else m.reg (Reg.CH_LCAL (x.chan / 128) (x.chan % 128) (7 + x.irange))
  else
    let h := x.chan - 256
    let w := (m.hv h).w0
    if x.mode = 0 ∨ x.mode = 3 then m.reg (calOff 0 h (12 + hvIrange w)) else m.reg (calOff 0 h (3 + hvVrange w))

/-- Whether a mode measures a voltage (Table 10.6). -/
def measVolt (chan mode : Nat) : Bool := if chan < 256 then mode == 4 else !(mode == 0 || mode == 3)

/-- PMU_MEAS_COMPLETE (R254, R255): the raw conversions, the size of one raw step in fA or nV, whether the
output stood at its limit and whether a conversion exceeded full scale. -/
def Mod.measComplete (c : Nat) (raws : List Int) (lsb : Nat) (limit ovr : Bool) (m : Mod) : Mod :=
  match m.meas c with
  | none => m
  | some x =>
    match x.begin_ with
    | none => m
    | some t =>
      let n := 2 ^ x.avg
      if raws.length ≠ n ∨ m.ttime < t + 1000 * (x.settle + n + 1) then m
      else
        let w := m.measWord c x
        let v := (raws.map (fun r => measCorr w r * (lsb : Int))).sum / (n : Int)
        let word := unsign 56 v + 2 ^ 56 * b2n limit + 2 ^ 57 * b2n ovr + 2 ^ 58 * b2n (measVolt x.chan x.mode)
        let fail := x.limitEn && (decide (v < x.lo) || decide (x.hi < v))
        let m1 := (m.setMeas c none).report x.job stOK (BitVec.ofNat 64 word) fail 0 true
        if x.chan < 256 && x.release then
          (m1.setLv x.chan { m1.lv x.chan with pmu := none }).wr (chReg Reg.CH_LSTAT x.chan) Fields.CH_LSTAT.PMU_ON 0
        else m1

/-- A channel's PMU turns off (R256). -/
def Mod.pmuOff (ch : Nat) (m : Mod) : Mod :=
  (m.setLv ch { m.lv ch with pmu := none }).wr (chReg Reg.CH_LSTAT ch) Fields.CH_LSTAT.PMU_ON 0

/-- The PMUs of a port's channels turn off at a burst's start, and its drivers are free again (R256). -/
def Mod.portPmuOff (n : Nat) (m : Mod) : Mod :=
  m.each (m.chans n) (fun ch s => (s.pmuOff ch).setLv ch { s.lv ch with pmu := none, driverOff := false })

/-! ### Limits (R243, R252, R258, R265) -/

/-- A driver, termination or clamp has limited for `us` µs. -/
def Mod.lim (ch us : Nat) (m : Mod) : Mod :=
  m.when (decide (1 ≤ us)) (Mod.raise 1 srcCH ch noSite 0 (chReg Reg.CH_LSTAT ch) Fields.CH_LSTAT.LIM)

/-- A PMU has been at its current limit for `us` µs. -/
def Mod.pmuLim (ch us : Nat) (m : Mod) : Mod :=
  m.when (decide (1 ≤ us) && (m.lv ch).pmu.isSome) (Mod.mark (chReg Reg.CH_LSTAT ch) Fields.CH_LSTAT.PMU_LIM)

/-- An HV output has delivered its limit for `us` µs; in a force-current mode the clamp acts at once. -/
def Mod.ilim (h us : Nat) (m : Mod) : Mod :=
  let mode := hvMode (m.hv h).w0
  m.when (m.hvEnabled h && (decide (1 ≤ us) || mode == 1 || mode == 3))
    (Mod.raise 1 srcHV h noSite 0 (Reg.HV_STATE h) Fields.HV_STATE.ILIM)

/-- An HV output with LIMIT_OFF has stayed at its limit for `us` µs. -/
def Mod.limoffTrip (h us : Nat) (m : Mod) : Mod :=
  if m.hvEnabled h && m.flag (Reg.HV_CTRL h) Fields.HV_CTRL.LIMIT_OFF && decide (10000 ≤ us) then
    (m.hvSwitch h false).raise 1 srcHV h noSite 0 (Reg.HV_STATE h) Fields.HV_STATE.LIMOFF_TRIP
  else m

/-- A relay line that is on has carried more than 100 mA for `us` µs. -/
def Mod.relayOvercurrent (i us : Nat) (m : Mod) : Mod :=
  m.when (m.mapBit Reg.RLY_STATE_LO i && decide (10 ≤ us)) (Mod.setMapBit Reg.RLY_FLT_LO i true)

/-- RLY_FLT bits cleared by a write: a line whose recorded state is on turns on again, which counts (R265,
R411). -/
def Mod.relayFltClear (word : Nat) (v : Word) (m : Mod) : Mod :=
  m.each (allBelow 32 (fun i => v.getLsbD i)) (fun i s =>
    let k := 32 * word + i
    let was := s.mapBit Reg.RLY_FLT_LO k
    (s.setMapBit Reg.RLY_FLT_LO k false).when (was && s.mapBit Reg.RLY_STATE_LO k) (Mod.countRelay k))

/-! ### Stops and losses (R250, Table 10.9) -/

/-- H0 is lost (Table 10.9): outputs disconnected, DACs at mid-scale, relay lines off, queues empty; what the table does
not change persists (R268). -/
def Mod.h0Safe (m : Mod) : Mod :=
  let m1 := m.each (List.range 32) (fun h s =>
    let s1 := (s.wr (Reg.HV_CTRL h) Fields.HV_CTRL.EN 0).rcFinish h
    s1.setHv h { s1.hv h with dac := 0, drive := .off })
  let m2 := m1.each [16, 17, 18, 19, 20] (fun q s => s.putLq q { s.lq q with entries := [] })
  ((m2.setReg Reg.RLY_STATE_LO 0#32).setReg Reg.RLY_STATE_HI 0#32).sumClamps

/-- A LEVEL_SET or PMU_MEAS node of a lost or reset unit is dropped without its own result (the caller ends the
node). -/
def Mod.dropMeas (c : Nat) (m : Mod) : Mod :=
  let m1 : Mod := { m with lreqs := m.lreqs.filter (fun e => match e.2 with
    | some r => r.meas != some c
    | none => true) }
  m1.setMeas c none

end Sys2Proof.Machine
end

