-- ==== Sys2Proof/Machine/Waves.lean ====
section
/-!
DEFINITION. Waveform generators, AS outputs, acquisition, and the trigger lines (Chapter 11). Instants are in
ns of TTIME; what is due at an instant is due in the tick of 4 ns that holds it (assumption 17).
-/

namespace Sys2Proof.Machine

/-! ### Status codes (Table 11.9) -/

def stWAVE_BADARG : Nat := 0x90
def stWAVE_LIST : Nat := 0x91
def stWAVE_UNDERRUN : Nat := 0x92
def stAS_BUSY : Nat := 0x93
def stEPOCH_MISS : Nat := 0x94
def stACQ_BADARG : Nat := 0x95
def stACQ_MEM : Nat := 0x96
def stACQ_OVERRUN : Nat := 0x97

/-! ### Entries -/

def Mod.wave (m : Mod) (n : Nat) : Wave := SMap.get (fun _ => Wave.fresh) m.waves n
def Mod.setWave (n : Nat) (x : Wave) (m : Mod) : Mod := { m with waves := SMap.set (fun _ => Wave.fresh) m.waves n x }
def Mod.asl (m : Mod) (n : Nat) : AsLive := SMap.get (fun _ => AsLive.fresh) m.ass n
def Mod.setAsl (n : Nat) (x : AsLive) (m : Mod) : Mod := { m with ass := SMap.set (fun _ => AsLive.fresh) m.ass n x }
def Mod.acq (m : Mod) (n : Nat) : Option Acq := SMap.get (fun _ => none) m.acqs n
def Mod.setAcq (n : Nat) (x : Option Acq) (m : Mod) : Mod := { m with acqs := SMap.set (fun _ => none) m.acqs n x }
def Mod.setTrg (x : Trg) (m : Mod) : Mod := { m with trg := x }

/-- The states of Tables 11.10 and 11.12. -/
def Mod.ddsState (m : Mod) (n : Nat) : Nat := m.rd (Reg.DDS_STATUS n) Fields.DDS_STATUS.STATE
def Mod.setDdsState (n v : Nat) (m : Mod) : Mod := m.wr (Reg.DDS_STATUS n) Fields.DDS_STATUS.STATE v
def Mod.aqState (m : Mod) (n : Nat) : Nat := m.rd (Reg.AQ_STATUS n) Fields.AQ_STATUS.STATE
def Mod.setAqState (n v : Nat) (m : Mod) : Mod := m.wr (Reg.AQ_STATUS n) Fields.AQ_STATUS.STATE v

/-- Whether an instant lies in or before the current tick. -/
def Mod.reached (m : Mod) (ns : Nat) : Bool := decide (ns < m.ttime + 4)

/-! ### Clock edges and epochs (R282) -/

/-- The first edge of a clock of period `p` ns at or after an instant; its edges lie on the lattice of epoch 0. -/
def Mod.edgeAt (m : Mod) (p ns : Nat) : Nat :=
  let o := m.trg.epoch0 % p
  if ns ≤ o then o else o + (ns - o + p - 1) / p * p

def Mod.epochValid (m : Mod) : Bool := m.flag Reg.WAVE_SYNC_STATUS Fields.WAVE_SYNC_STATUS.EPOCH_VALID

/-! ### The logic level of the lines (R295, R296) -/

/-- Lines 0 to 7 are TRIG, 8 and 9 XTRIG, 10 SYNCIN. -/
def Mod.trigMode (m : Mod) (l : Nat) : Nat :=
  if l < 8 then let x := m.rd (Reg.TRIG_CFG l) Fields.TRIG_CFG.MODE; if x = 3 then 0 else x else 0
def Mod.trigInv (m : Mod) (l : Nat) : Bool :=
  if l < 8 then m.flag (Reg.TRIG_CFG l) Fields.TRIG_CFG.INVERT
  else if l < 10 then m.flag (Reg.XTRIG_CFG (l - 8)) Fields.XTRIG_CFG.INVERT else false

/-- A line's logic output: its static level or a pulse in progress (R296). -/
def Mod.trigOut (m : Mod) (l : Nat) : Bool := nbit m.trg.level l || (SMap.find m.trg.pulses l).isSome

/-- The logic level at a line's contact (R295). -/
def Mod.trigLogic (m : Mod) (l : Nat) : Bool :=
  let ext := nbit m.trg.ext l
  let inv := m.trigInv l
  let drive := m.trigOut l != inv
  let elec := match m.trigMode l with
    | 1 => drive
    | 2 => drive && ext
    | _ => ext
  elec != inv

/-- A bit of a number set or cleared. -/
def putBit (v i : Nat) (b : Bool) : Nat := if b == nbit v i then v else if b then v + 2 ^ i else v - 2 ^ i

/-- A static level changes at an instant; a clear in the same SCLK as a set leaves it set (R296). -/
def Mod.trigStatic (l ns : Nat) (high : Bool) (m : Mod) : Mod :=
  if !high && SMap.find m.trg.setAt l == some ns then m
  else
    let was := m.trigOut l
    let m1 := m.setTrg { m.trg with
      level := putBit m.trg.level l high
      setAt := if high then SMap.insert m.trg.setAt l ns else m.trg.setAt }
    m1.when (m1.trigOut l != was && m1.trigMode l != 0) (Mod.emit (.trigLevel l high ns))

/-- A pulse starts at an instant and lasts `w` ns; a pulse in progress is extended to the later end. -/
def Mod.trigPulse (l ns w : Nat) (m : Mod) : Mod :=
  let was := m.trigOut l
  let end_ := max (ns + w) ((SMap.find m.trg.pulses l).getD 0)
  let m1 := m.setTrg { m.trg with pulses := SMap.insert m.trg.pulses l end_ }
  m1.when (!was && m1.trigMode l != 0) (Mod.emit (.trigLevel l true ns))

/-- PULSE_END: the pulse of a line ends at its end instant. -/
def Mod.pulseEnd (l : Nat) (m : Mod) : Mod :=
  match SMap.find m.trg.pulses l with
  | none => m
  | some e =>
    if !m.reached e then m
    else
      let m1 := m.setTrg { m.trg with pulses := SMap.erase m.trg.pulses l }
      m1.when (!m1.trigOut l && m1.trigMode l != 0) (Mod.emit (.trigLevel l false e))

/-- A SIG of kind 0 to 2 at an instant: without effect on a line in INPUT mode (R171, R296). -/
def Mod.sigLine (kind l ns : Nat) (m : Mod) : Mod :=
  if m.trigMode l = 0 then m
  else match kind with
    | 0 => m.trigPulse l ns (max 4 (m.rd (Reg.TRIG_CFG l) Fields.TRIG_CFG.PULSE_NS))
    | 1 => m.trigStatic l ns true
    | _ => m.trigStatic l ns false

/-- A write of TRIG_STATE: clears, then sets, at arrival + 20 ns (R296). -/
def Mod.trigState (set clr : Nat) (m : Mod) : Mod :=
  let t := m.ttime + 20
  (m.each (allBelow 8 (fun l => nbit clr l && !nbit set l)) (fun l s => s.trigStatic l t false)).each
    (allBelow 8 (fun l => nbit set l)) (fun l s => s.trigStatic l t true)

/-! ### The parts of WAVE_PLAY's ARGS (Table 11.3) -/

def wpSeg (a : List Byte) : Nat := byteAt a 0
def wpStart (a : List Byte) : Nat := nbits (byteAt a 1) 0 2
def wpFalling (a : List Byte) : Bool := nbit (byteAt a 1) 2
def wpAtStart (a : List Byte) : Bool := nbit (byteAt a 1) 3
def wpApply (a : List Byte) : Bool := nbit (byteAt a 1) 4
def wpTsrc (a : List Byte) : Nat := byteAt a 2
def wpRate (a : List Byte) : Nat := fieldAt a 4 4
def wpEpoch (a : List Byte) : Nat := fieldAt a 8 6

/-! ### Lists (R269, R270) -/

/-- A segment descriptor that may be entered (R270). -/
def segOk (d : List Byte) : Bool :=
  nbit (byteAt d 7) 0 && nbits (byteAt d 7) 2 6 == 0 && decide (fieldAt d 0 2 ≤ fieldAt d 2 2) &&
    decide (fieldAt d 2 2 ≤ 8063)

/-- A list entry that may be played. -/
def entryOk (e : List Byte) : Bool := decide (16 ≤ fieldAt e 12 3) && nbits (byteAt e 15) 4 4 == 0

def dlistBase (n : Nat) : Nat := 0xC00000 + 0x20000 * n

/-- Segment descriptor `k` of generator `n` as it stands. -/
def Mod.segDesc (m : Mod) (n k : Nat) : List Byte := memRead m.sram (dlistBase n + 8 * k) 8

def WItem.duration (x : WItem) : Nat := fieldAt x.bytes 12 3
def WItem.amp (x : WItem) : Int := fieldAt x.bytes 8 2
def WItem.ofs (x : WItem) : Int := signed 16 (fieldAt x.bytes 10 2)

/-- Where fetching goes on after a pass of a segment (R275): the next pass, NEXT, or nowhere. -/
def passNext (seg pass : Nat) (desc : List Byte) : Option WFetch :=
  let rep := fieldAt desc 4 2
  if rep = 0 ∨ pass + 1 < rep then some ⟨seg, pass + 1, some (desc, fieldAt desc 0 2)⟩
  else if nbit (byteAt desc 7) 1 then none
  else some ⟨byteAt desc 6, 0, none⟩

/-- The start of a segment. -/
def segStart (seg : Nat) : Option WFetch := some ⟨seg, 0, none⟩

/-- Pass ends not yet generated among the entries fetched. -/
def Wave.passEnds (x : Wave) : Nat :=
  x.buf.countP WItem.last + (match x.cur with
    | some c => b2n c.last
    | none => 0)

/-- Where fetching goes on once the last entry of a pass has been fetched: to a jump's segment where the jump
applies there, else on. -/
def Wave.afterPass (x : Wave) (it : WItem) : Option WFetch :=
  match x.jump with
  | some j => if j.ends != 0 && x.passEnds == j.ends then segStart j.seg else passNext it.seg it.pass it.desc
  | none => passNext it.seg it.pass it.desc

/-- LIST_ENTRY_FETCH (R270): the next entry is read, at most 256 ahead; a descriptor is read on entering its
segment. An uncorrectable error is a machine check of the generator, and the entry is not sent (R30). -/
def Mod.listFetch (n : Nat) (m : Mod) : Mod :=
  let x := m.wave n
  match x.fetch with
  | none => m
  | some f =>
    if 256 ≤ x.buf.length ∨ x.ended.isSome ∨ m.ddsState n = 0 then m
    else
      let bad (s : Mod) : Mod :=
        let it : WItem := ⟨f.seg, f.pass, [], true, [], true⟩
        s.setWave n { x with buf := x.buf ++ [it], fetch := none }
      let da := dlistBase n + 8 * f.seg
      let at_ : Option (List Byte × Nat) := match f.at_ with
        | some p => some p
        | none => some (m.segDesc n f.seg, fieldAt (m.segDesc n f.seg) 0 2)
      if f.at_.isNone && sramBadIn m.sramBad da 8 then bad (m.machineCheck srcWAVE n 1 noSite 0)
      else match at_ with
        | none => m
        | some (d, e) =>
          let ea := dlistBase n + 0x800 + 16 * e
          if !segOk d then bad m
          else if sramBadIn m.sramBad ea 16 then bad (m.machineCheck srcWAVE n 1 noSite 0)
          else
            let bytes := memRead m.sram ea 16
            if !entryOk bytes then bad m
            else
              let last := e == fieldAt d 2 2
              let it : WItem := ⟨f.seg, f.pass, d, last, bytes, false⟩
              let y : Wave := { x with buf := x.buf ++ [it] }
              m.setWave n { y with fetch := if last then y.afterPass it else some ⟨f.seg, f.pass, some (d, e + 1)⟩ }

/-! ### Samples (R271) -/

/-- π in units of 2^-80. -/
def piFix : Nat := 3797952473636338580787993

/-- Terms of the sine series: `t` is x^(2i-1)/(2i-1)! and `s` the sum so far, in units of 2^-80. -/
def sineTerms (x2 : Int) : Nat → Nat → Int → Int → Int
  | 0, _, _, s => s
  | fuel + 1, i, t, s =>
    let t1 := -(t * x2 / 2 ^ 80) / ((2 * i) * (2 * i + 1) : Nat)
    sineTerms x2 fuel (i + 1) t1 (s + t1)

/-- round(65,535 sin(2π q / 2^20)) for q up to a quarter of a turn. -/
def sineQuarter (q : Nat) : Int :=
  let x : Int := (piFix * q / 2 ^ 19 : Nat)
  (65535 * sineTerms (x * x / 2 ^ 80) 14 1 x x + 2 ^ 79) / 2 ^ 80

/-- S[p] of R271. -/
def sineTable (p : Nat) : Int :=
  let q := p % 0x40000
  match p % 0x100000 / 0x40000 with
  | 0 => sineQuarter q
  | 1 => sineQuarter (0x40000 - q)
  | 2 => -sineQuarter q
  | _ => -sineQuarter (0x40000 - q)

/-- The code of AS output `n` with its correction (R338). -/
def Mod.asDac (m : Mod) (n : Nat) (y : Int) : Int :=
  levelCorr (m.reg (calOff 1 n (m.rd (Reg.AS_STATE n) Fields.AS_STATE.VRANGE))) 0 (-32768) 32767 y

/-- One sample of the entry playing (R271): its code, whether it clipped, and the next accumulator. -/
def waveSample (it : WItem) (a0 o0 : Int) (k acc : Nat) : Int × Bool × Nat :=
  let ramp := nbit (byteAt it.bytes 15) 1
  let d : Int := it.duration
  let a := if ramp then a0 + Int.tdiv ((it.amp - a0) * (k + 1)) d else it.amp
  let o := if ramp then o0 + Int.tdiv ((it.ofs - o0) * (k + 1)) d else it.ofs
  let p := (acc / 2 ^ 28 + 16 * fieldAt it.bytes 6 2) % 0x100000
  let y := o + a * sineTable p / 2 ^ 17
  (max (-32768) (min 32767 y), decide (32767 < y) || decide (y < -32768), (acc + fieldAt it.bytes 0 6) % 2 ^ 48)

/-- Playback has ended with a code; what is pending ends with it. -/
def Mod.waveEnd (n code : Nat) (x : Wave) (m : Mod) : Mod :=
  ((m.setWave n { x with ended := some code, fetch := none, buf := [], jump := none, lats := [] }).wr (Reg.DDS_STATUS n)
    Fields.DDS_STATUS.JUMP_PENDING 0).setDdsState n 3

/-- The pass in progress at n_L and the end at which a jump applies (R276): fetched entries beyond that pass
are dropped and fetching is redirected. -/
def Mod.decideJump (n : Nat) (m : Mod) : Mod :=
  let x := m.wave n
  match x.jump, x.cur with
  | some j, some c =>
    let end_ := x.n + c.duration - x.k
    if j.ends ≠ 0 ∨ end_ ≤ j.nL then m
    else
      let ends := if !c.last || decide (j.nL + 17 ≤ end_) then 1 else 2
      let keep := if c.last then [] else
        let k := x.buf.takeWhile (fun it => !it.last)
        k ++ (x.buf.drop k.length).take 1
      let y : Wave := { x with jump := some { j with ends := ends }, buf := keep }
      let lastIt := if c.last then some c else match keep.getLast? with
        | some it => if it.last then some it else none
        | none => none
      let fetch := match lastIt with
        | some it => if it.bad then x.fetch else y.afterPass it
        | none => x.fetch
      (m.setWave n { y with fetch := fetch }).wr (Reg.DDS_STATUS n) Fields.DDS_STATUS.JUMP_WHEN ends
  | _, _ => m

/-- The next entry begins: its markers wait for their output instant, and a jump may be decided. -/
def Mod.pullEntry (n : Nat) (m : Mod) : Mod :=
  let x := m.wave n
  match x.buf with
  | [] => m.waveEnd n stWAVE_UNDERRUN x
  | it :: rest =>
    if it.bad then m.waveEnd n stWAVE_LIST x
    else
      let (a0, o0) := match x.cur with
        | some c => (c.amp, c.ofs)
        | none => ((0 : Int), (0 : Int))
      let mk (b : Nat) : List (Nat × Nat) := if nbit (byteAt it.bytes 15) (2 + b) then [(b, x.n)] else []
      let y : Wave := { x with
        cur := some it
        buf := rest
        k := 0
        acc := if nbit (byteAt it.bytes 15) 0 then 0 else x.acc
        a0 := a0
        o0 := o0
        marks := x.marks ++ mk 0 ++ mk 1 }
      ((m.setWave n y).wr (Reg.DDS_STATUS n) Fields.DDS_STATUS.SEG it.seg).decideJump n

/-- One sample is generated, where the entry playing has one left. -/
def Mod.oneSample (n : Nat) (m : Mod) : Mod :=
  let x := m.wave n
  match x.cur with
  | none => m
  | some it =>
    if it.duration ≤ x.k then m
    else
      let (y, clip, acc) := waveSample it x.a0 x.o0 x.k x.acc
      let m1 := m.setWave n { x with
        n := x.n + 1
        k := x.k + 1
        acc := acc
        y := y
        clip := x.clip || clip
        outq := x.outq ++ [y] }
      ((m1.when clip (Mod.mark (Reg.DDS_STATUS n) Fields.DDS_STATUS.CLIP)).wr64 (Reg.DDS_SAMPLE_LO n) (x.n + 1)).emit
        (.dacCode n x.n y (m.asDac n y))

/-- Up to `k` samples of the pass in progress. -/
def Mod.genSamples (n : Nat) : Nat → Mod → Mod
  | 0, m => m
  | k + 1, m =>
    let x := m.wave n
    if x.ended.isSome then m
    else match x.cur with
      | some it =>
        if x.k < it.duration then genSamples n k (m.oneSample n)
        else if it.last then m
        else genSamples n k ((m.pullEntry n).oneSample n)
      | none => genSamples n k ((m.pullEntry n).oneSample n)

/-- Samples whose instants lie in or before the current tick (R272). -/
def Mod.samplesDue (m : Mod) (x : Wave) : Nat :=
  match x.t0 with
  | none => 0
  | some t => if m.ttime + 4 ≤ t then 0 else ((m.ttime + 4 - t) * x.rate + 40 * 2 ^ 20 - 1) / (40 * 2 ^ 20)

/-- The first sample generated at or after an instant (R276). -/
def Wave.firstAt (x : Wave) (ns : Nat) : Nat :=
  let t0 := x.t0.getD 0
  if ns ≤ t0 then 0 else ((ns - t0) * x.rate + 40 * 2 ^ 20 - 1) / (40 * 2 ^ 20)

/-- A jump request to a segment is latched at an instant (R276, R277): discarded with JUMP_BAD where the segment's
descriptor is not VALID. Answers whether it stands. -/
def Mod.latchJump (n seg ns : Nat) (take : Bool) (m : Mod) : Bool × Mod :=
  let x := m.wave n
  if x.ended.isSome then (false, m)
  else if !nbit (byteAt (m.segDesc n seg) 7) 0 then (false, m.mark (Reg.DDS_STATUS n) Fields.DDS_STATUS.JUMP_BAD)
  else
    let m1 := (m.setWave n { x with jump := some ⟨seg, x.firstAt ns, 0, take || (match x.jump with
      | some j => j.take
      | none => false)⟩ }).wr (Reg.DDS_STATUS n) Fields.DDS_STATUS.JUMP_PENDING 1
    (true, m1.decideJump n)

/-- A request reaches its latch instant; a take-over (R279) whose segment is not VALID ends its node with WAVE_LIST
(assumption 18). -/
def Mod.latchNow (n : Nat) (l : Nat × Nat × Bool) (m : Mod) : Mod :=
  let (ok, m1) := m.latchJump n l.2.1 l.1 l.2.2
  match (m.wave n).take with
  | some (j, _) =>
    if ok || !l.2.2 || (m.wave n).ended.isSome then m1
    else (m1.setWave n { m1.wave n with take := none }).reportStatus j stWAVE_LIST
  | none => m1

/-- The generator advances, and each request whose instant has come is latched before the first sample at or after it
(R276). A request that lies beyond a pass end waits for that end. -/
def Mod.runLats (n : Nat) : List (Nat × Nat × Bool) → Mod → Mod
  | [], m => m.genSamples n (m.samplesDue (m.wave n) - (m.wave n).n)
  | l :: t, m =>
    let x := m.wave n
    if x.ended.isSome || !m.reached l.1 then m.genSamples n (m.samplesDue x - x.n)
    else
      let m1 := m.genSamples n (x.firstAt l.1 - x.n)
      let y := m1.wave n
      if y.ended.isSome || decide (y.n < x.firstAt l.1) then m1
      else runLats n t ((m1.setWave n { y with lats := t }).latchNow n l)

/-! ### Output instants (R272, R285) -/

/-- The output instant of sample `s` (R272), in ns rounded up. -/
def Mod.outputAt (m : Mod) (x : Wave) (s : Nat) : Nat :=
  let skew := signed 16 (m.rd Reg.WAVE_SKEW Fields.WAVE_SKEW.SKEW)
  -- in units of 1/1,024 of a DAC clock, times RATE
  let num : Int := (((s + 8) * 1024 * 2 ^ 20 : Nat) : Int) + (65536 + skew) * (x.rate : Int)
  let den : Int := 1024 * (x.rate : Int)
  x.t0.getD 0 + (-(-(40 * num) / den)).toNat

/-- A code reaches ASn's DAC; in a range-change interval the output stays at 0 V (R287). -/
def Mod.asOut (n : Nat) (y : Int) (m : Mod) : Mod :=
  let a := m.asl n
  m.setAsl n { a with
    code := y
    dac := if a.rc.isSome then a.dac else m.asDac n y }

/-- The samples whose output instants have come have reached the DAC. -/
def Mod.outputsDue (n : Nat) (m : Mod) : Mod :=
  let x := m.wave n
  let k := (List.range x.outq.length).countP (fun i => m.reached (m.outputAt x (x.n - x.outq.length + i)))
  if k = 0 then m
  else (m.setWave n { x with outq := x.outq.drop k }).asOut n (x.outq.getD (k - 1) 0)

/-- ZERO_ON_STOP takes the DAC to code 0 at its DAC clock (R278). -/
def Mod.asZero (n : Nat) (m : Mod) : Mod :=
  match (m.asl n).zeroAt with
  | some t => m.when (m.reached t) (fun s => (s.setAsl n { s.asl n with zeroAt := none }).asOut n 0)
  | none => m

/-- A generator advances to the current tick within its pass, and its output with it. -/
def Mod.waveTick (n : Nat) (m : Mod) : Mod :=
  let x := m.wave n
  let m1 := if x.t0.isNone then m
    else ((if x.ended.isSome then m else m.runLats n x.lats).outputsDue n)
  m1.asZero n

/-- A jump request on its way to its latch instant; requests of one instant keep their order. -/
def insertLat (l : Nat × Nat × Bool) : List (Nat × Nat × Bool) → List (Nat × Nat × Bool)
  | [] => [l]
  | x :: t => if x.1 ≤ l.1 then x :: insertLat l t else l :: x :: t

/-- A jump request of a playback that runs (R276, R279). -/
def Mod.askJump (n seg ns : Nat) (take : Bool) (m : Mod) : Mod :=
  let x := m.wave n
  if x.t0.isNone || x.ended.isSome then m
  else (m.setWave n { x with lats := insertLat (ns, seg, take) x.lats }).waveTick n

/-! ### Starting (R274, R279, R280) -/

/-- The line of a trigger source, where it is one (Table 11.8). -/
def srcLine (src : Nat) : Option Nat :=
  if src < 8 then some src else if src = 0x10 ∨ src = 0x11 then some (src - 8) else if src = 0x20 then some 10 else none

/-- A marker source: its generator. -/
def srcMarker (src : Nat) : Option Nat :=
  if 0x30 ≤ src ∧ src < 0x38 then some (src - 0x30) else if 0x40 ≤ src ∧ src < 0x48 then some (src - 0x40) else none

/-- A source that a DDS may name, or an AQ. -/
def ddsSource (src : Nat) : Bool := (srcLine src).isSome || (srcMarker src).isSome || src == 0x60
def aqSource (src : Nat) : Bool := ddsSource src || src == 0x50 || src == 0x70

/-- ARGS that end with WAVE_BADARG (R280). -/
def wpBad (unit : Nat) (a : List Byte) : Bool :=
  decide (7 < unit) || wpStart a == 3 || wpRate a == 0 || decide (0x100000 < wpRate a) || nbits (byteAt a 1) 5 3 != 0 ||
    byteAt a 3 != 0 || nbits (byteAt a 14) 4 4 != 0 || !zerosAt a 16 32 || !ddsSource (wpTsrc a) ||
    srcMarker (wpTsrc a) == some unit

/-- The AS entry of a WAVE_PLAY (Table 11.3 bytes 30 and 31). -/
def Mod.wpEntry (m : Mod) (a : List Byte) : AsEntry :=
  ⟨nbits (byteAt a 14) 0 2, nbits (byteAt a 14) 2 2, some (byteAt a 15), m.dueSample, false, true⟩

/-- An entry enters the queue of AS output `n`, which has room. -/
def Mod.asEnter (n : Nat) (e : AsEntry) (m : Mod) : Mod :=
  let x := m.asl n
  (m.setAsl n { x with queue := x.queue ++ [e] }).wr (Reg.AS_STATE n) Fields.AS_STATE.QCOUNT (x.queue.length + 1)

def Mod.asFull (m : Mod) (n : Nat) : Bool := decide (4 ≤ (m.asl n).queue.length)

/-- ASn_CMD (R286). -/
def Mod.asCmd (n : Nat) (v : Word) (m : Mod) : Mod :=
  if m.asFull n then m.mark (Reg.AS_STATE n) Fields.AS_STATE.CMD_FULL
  else m.asEnter n ⟨fget Fields.AS_CMD.EN v, fget Fields.AS_CMD.VRANGE v,
    if fget Fields.AS_CMD.IC_APPLY v = 1 then some (fget Fields.AS_CMD.ICLAMP v) else none, m.dueSample, false, false⟩

/-- Whether a WAVE_PLAY with APPLY_CFG would change VRANGE. -/
def Mod.wpChanges (m : Mod) (n : Nat) (a : List Byte) : Bool :=
  let v := nbits (byteAt a 14) 2 2
  wpApply a && decide (v < 2) && v != m.rd (Reg.AS_STATE n) Fields.AS_STATE.VRANGE

/-- A WAVE_PLAY node is dispatched (R274, R279, R280). -/
def Mod.wavePlay (j : Job) (unit : Nat) (a : List Byte) (m : Mod) : Mod :=
  if wpBad unit a then m.reportStatus j stWAVE_BADARG
  else
    let n := unit
    let x := m.wave n
    let running := x.t0.isSome
    let edge := m.trg.epoch0 + 40 * wpEpoch a
    if running && (wpRate a != x.rate || m.wpChanges n a) then m.reportStatus j stWAVE_BADARG
    else if wpApply a && m.asFull n then m.reportStatus j stAS_BUSY
    else if wpStart a == 2 && (!m.epochValid || decide (edge < m.ttime + (if running then 0 else 1000))) then
      m.reportStatus j stEPOCH_MISS
    else
      let m1 := m.when (wpApply a) (Mod.asEnter n (m.wpEntry a))
      if running then
        let m2 := m1.setWave n { x with take := some (j, a) }
        match wpStart a with
        | 0 => m2.askJump n (wpSeg a) (m.ttime + 1000) true
        | 1 => m2
        | _ => m2.askJump n (wpSeg a) edge true
      else
        let y : Wave := { Wave.fresh with
          job := some j
          args := a
          disp := m.ttime
          bound := if wpApply a then none else some (m.ttime + 1000)
          rate := wpRate a
          y := x.y
          fetch := segStart (wpSeg a) }
        ((m1.setWave n y).setDdsState n 1).wr64 (Reg.DDS_SAMPLE_LO n) 0

/-- The result word of a WAVE_PLAY (R278). -/
def Wave.result (x : Wave) : DWord := BitVec.ofNat 64 (x.n % 2 ^ 48 + 2 ^ 48 * b2n x.clip)

/-- A start that does not come about: the generator is IDLE again. -/
def Mod.waveDrop (n code : Nat) (m : Mod) : Mod :=
  let x := m.wave n
  let m1 := (m.setWave n { Wave.fresh with y := x.y }).setDdsState n 0
  match x.job with
  | some j => m1.report j code x.result false 0 true
  | none => m1

/-- The word of a node that completes at t0 or as its jump applies, which the manual does not state: a free
value (assumption 2). -/
def Mod.startWord (m : Mod) (n : Nat) : DWord := m.free (1024 + n)

/-- WAVE_START: at t0 sample 0 is generated (R272, R274). -/
def Mod.waveStart (n : Nat) (m : Mod) : Mod :=
  let x := m.wave n
  match x.bound with
  | none => m
  | some b =>
    if m.ddsState n ≠ 1 ∨ x.t0.isSome then m
    else
      let a := x.args
      let edge := m.trg.epoch0 + 40 * wpEpoch a
      if wpStart a = 2 ∧ (!m.epochValid ∨ edge < b) then m.waveDrop n stEPOCH_MISS
      else
        let t0 := match wpStart a with
          | 0 => some (m.edgeAt 40 b)
          | 1 => x.trig.map (fun t => m.edgeAt 40 (max b t))
          | _ => some edge
        match t0 with
        | none => m
        | some t =>
          if !m.reached t then m
          else
            let early := wpAtStart a
            let m1 := (m.setWave n { x with t0 := some t, job := if early then none else x.job }).setDdsState n 2
            let m2 := match x.job with
              | some j => m1.when early (Mod.report j stOK (m.startWord n) false 0 true)
              | none => m1
            m2.waveTick n

/-- A stop request (R278): a playback that has not started ends at once. -/
def Mod.waveStop (n : Nat) (m : Mod) : Mod :=
  let x := m.wave n
  if m.ddsState n = 1 then m.waveDrop n stOK
  else if x.t0.isSome && x.ended.isNone then (m.setWave n { x with stop := true }).setDdsState n 3
  else m

/-- The jump applies (R276, R279): a take-over's node completes there with DONE_AT_START, and otherwise owns
the playback from there. -/
def Mod.jumpApply (n : Nat) (m : Mod) : Mod :=
  let x := m.wave n
  let take := match x.jump with
    | some j => j.take
    | none => false
  let m1 := (m.setWave n { x with jump := none, take := if take then none else x.take, job := match take, x.take with
    | true, some (j, a) => if wpAtStart a then none else some j
    | _, _ => x.job }).wr (Reg.DDS_STATUS n) Fields.DDS_STATUS.JUMP_PENDING 0
  match take, x.take with
  | true, some (j, a) => m1.when (wpAtStart a) (Mod.report j stOK (m.startWord n) false 0 true)
  | _, _ => m1

/-- PASS_END (R275 to R278): once every sample of a pass has been generated, playback stops, jumps, repeats
or moves to NEXT. -/
def Mod.passEnd (n : Nat) (m0 : Mod) : Mod :=
  let m := m0.waveTick n
  let x := m.wave n
  match x.cur with
  | none => m
  | some c =>
    if x.ended.isSome || !c.last || decide (x.k < c.duration) then m
    else if x.stop then m.waveEnd n stOK x
    else
      let go (s : Mod) : Mod :=
        let y := s.wave n
        (s.setWave n { y with cur := some { c with last := false } }).waveTick n
      match x.jump with
      | some j =>
        if j.ends = 1 then go (m.jumpApply n)
        else if (passNext c.seg c.pass c.desc).isNone then m.waveEnd n stOK x
        else go (m.setWave n { x with jump := some { j with ends := if j.ends = 2 then 1 else 0 } })
      | none => if (passNext c.seg c.pass c.desc).isNone then m.waveEnd n stOK x else go m

/-- PLAYBACK_END (R278): at the output instant of the last sample the output holds it, or goes to code 0 at the DAC clock
after it, and the node completes. A take-over whose jump never applied ends with the stop. -/
def Mod.playbackEnd (n : Nat) (mi : Mod) : Mod :=
  let m := mi.outputsDue n
  let x := m.wave n
  match x.ended with
  | none => mi
  | some code =>
    let last := if x.n = 0 then m.ttime else m.outputAt x (x.n - 1)
    if x.n ≠ 0 ∧ !m.reached last then mi
    else
      let zero := m.flag (Reg.AS_CFG n) Fields.AS_CFG.ZERO_ON_STOP
      let m0 := (m.setWave n { Wave.fresh with y := if zero then 0 else x.y }).when zero (fun s =>
        (s.setAsl n { s.asl n with zeroAt := some (s.edgeAt 40 (last + 1)) }).asZero n)
      let m1 := m0.setDdsState n 0
      let m2 := match x.job with
        | some j => m1.report j code x.result false 0 true
        | none => m1
      match x.take with
      | some (j, _) => m2.report j code x.result false 0 true
      | none => m2

/-! ### Acquisition (R290 to R294) -/

/-- The parts of ACQUIRE's ARGS (Table 11.5). -/
def aqMux (a : List Byte) : Nat := nbits (byteAt a 0) 0 3
def aqRange (a : List Byte) : Nat := nbits (byteAt a 2) 0 2
def aqStream (a : List Byte) : Bool := nbit (byteAt a 2) 3
def aqFalling (a : List Byte) : Bool := nbit (byteAt a 2) 4
def aqLimitEn (a : List Byte) : Bool := nbit (byteAt a 2) 5
def aqK (a : List Byte) : Nat := byteAt a 3
def aqTsrc (a : List Byte) : Nat := byteAt a 4
def aqSize (a : List Byte) : Nat := byteAt a 5
def aqPre (a : List Byte) : Nat := fieldAt a 8 4
def aqPost (a : List Byte) : Nat := fieldAt a 12 4
def aqDest (a : List Byte) : Nat := fieldAt a 16 6

/-- Words that acquisition memory holds. -/
def aqMem : Nat := 131072

/-- Words of the ring of a STREAM. -/
def aqCap (a : List Byte) : Nat := 2 ^ (aqSize a - 2)

/-- ARGS that end with ACQ_BADARG (R294); DEST is aligned to 64 bytes. -/
def aqBad (unit : Nat) (a : List Byte) : Bool :=
  decide (7 < unit) || decide (4 < aqMux a) || decide (16 < aqK a) || aqPost a == 0 || !aqSource (aqTsrc a) ||
    (aqStream a && (decide (aqSize a < 16) || decide (30 < aqSize a))) || nbits (byteAt a 0) 3 5 != 0 ||
    nbits (byteAt a 1) 5 3 != 0 || nbits (byteAt a 2) 6 2 != 0 || !zerosAt a 6 2 || !zerosAt a 22 2 || !zerosAt a 32 16 ||
    aqDest a % 64 != 0

/-- An ACQUIRE node is dispatched. -/
def Mod.acquire (j : Job) (unit : Nat) (a : List Byte) (m : Mod) : Mod :=
  if aqBad unit a then m.reportStatus j stACQ_BADARG
  else if (if aqStream a then aqCap a else aqMem) < aqPre a + aqPost a then m.reportStatus j stACQ_MEM
  else (m.setAcq unit (some ⟨j, a, m.edgeAt 100 (m.ttime + 20000), 0, [], 0, none, 0, false⟩)).setAqState unit 1

/-- Length of an interval in ns. -/
def Acq.interval (x : Acq) : Nat := 100 * 2 ^ aqK x.args

/-- STATE follows the words that have been completed (Table 11.12), and source 0x70 triggers at the first sample
of the first word with PRE words before it (assumption 19). -/
def Mod.aqFollow (n : Nat) (m : Mod) : Mod :=
  match m.acq n with
  | none => m
  | some x =>
    let a := x.args
    if !m.reached x.start then m
    else match x.trig with
      | some (w, _, _, _) => m.setAqState n (if w + aqPost a ≤ x.count then 5 else 4)
      | none =>
        if x.count < aqPre a then m.setAqState n 2
        else if aqTsrc a = 0x70 then
          (m.setAcq n (some { x with trig := some (aqPre a, 0, 0, x.start + x.interval * aqPre a) })).setAqState n 4
        else m.setAqState n 3

/-- A trigger reaches AQ `n` at an instant (R291): accepted with PRE complete words before its word, otherwise
ignored and counted. -/
def Mod.aqTrigger (n ns : Nat) (m : Mod) : Mod :=
  match m.acq n with
  | none => m
  | some x =>
    if x.trig.isSome then m
    else if ns + 100 ≤ x.start then m.setAcq n (some { x with ignored := x.ignored + 1 })
    else
      let s := (ns - x.start + 99) / 100
      let w := s / 2 ^ aqK x.args
      if w < aqPre x.args then m.setAcq n (some { x with ignored := x.ignored + 1 })
      else (m.setAcq n (some { x with trig := some (w, x.start + 100 * s - ns, s % 2 ^ aqK x.args, ns) })).aqFollow n

/-- The node of an acquisition ends without a header. -/
def Mod.aqEnd (n code : Nat) (m : Mod) : Mod :=
  match m.acq n with
  | none => m
  | some x => ((m.setAcq n none).setAqState n 0).reportStatus x.job code

/-- AQ_WORD (R290): an interval ends; its samples, corrected (R338), give one word. -/
def Mod.aqWord (n : Nat) (samples : List Int) (ovr : Bool) (m : Mod) : Mod :=
  match m.acq n with
  | none => m
  | some x =>
    let a := x.args
    let done := match x.trig with
      | some (w, _, _, _) => decide (w + aqPost a ≤ x.count)
      | none => false
    if samples.length != 2 ^ aqK a || !m.reached (x.start + x.interval * (x.count + 1)) || done then m
    else
      let w := m.reg (calOff 2 n (aqRange a))
      let sum := (samples.map (measCorr w)).sum
      let word := sum / 2 ^ (aqK a - 14)
      let y : Acq := { x with
        count := x.count + 1
        words := (word :: x.words).take aqMem
        ovr := x.ovr || ovr }
      let m1 := (m.setAcq n (some y)).when ovr (Mod.mark (Reg.AQ_STATUS n) Fields.AQ_STATUS.OVERRANGE)
      if aqStream a && decide (aqMem ≤ y.count - y.written) then
        (m1.mark (Reg.AQ_STATUS n) Fields.AQ_STATUS.OVERRUN).aqEnd n stACQ_OVERRUN
      else m1.aqFollow n

/-- Word `w` of an acquisition, which acquisition memory still holds. -/
def Acq.word (x : Acq) (w : Nat) : Int := x.words.getD (x.count - 1 - w) 0

/-- The POST words. -/
def Acq.post (x : Acq) (w : Nat) : List Int := (List.range (aqPost x.args)).map (fun i => x.word (w + i))

/-- MIN, MAX, MEAN and OUT_OF_LIMIT of words. -/
def wordsMin (l : List Int) : Int := l.foldl min (l.headD 0)
def wordsMax (l : List Int) : Int := l.foldl max (l.headD 0)
def wordsMean (l : List Int) : Int := Int.tdiv l.sum l.length
def aqOut (a : List Byte) (l : List Int) : Bool :=
  l.any (fun v => decide (v < signed 32 (fieldAt a 24 4)) || decide (signed 32 (fieldAt a 28 4) < v))

/-- The header of Table 11.7. -/
def Acq.header (n : Nat) (x : Acq) (post : List Int) : List Byte :=
  let a := x.args
  let (w, ofs, sub, t) := x.trig.getD (0, 0, 0, 0)
  leBytes 4 0x41515231 ++ leBytes 1 n ++ leBytes 1 (aqMux a) ++ leBytes 1 (byteAt a 2) ++ leBytes 1 (aqK a) ++
    leBytes 4 (aqPre a) ++ leBytes 4 (aqPost a) ++ leBytes 8 (if aqStream a then w - aqPre a else 0) ++ leBytes 8 t ++
    leBytes 2 ofs ++ leBytes 2 sub ++ leBytes 4 x.ignored ++ leBytes 4 (unsign 32 (wordsMin post)) ++
    leBytes 4 (unsign 32 (wordsMax post)) ++ leBytes 4 (unsign 32 (wordsMean post)) ++
    leBytes 1 (b2n x.ovr + 2 * b2n (aqStream a) + 4 * b2n (aqOut a post)) ++ zeroBytes 11

/-- The end of an ACQUIRE whose writes to DEST failed (Tables 15.4, 14.4): no header is written. -/
def Mod.aqFail (n ctx va : Nat) (e : MemErr) (m : Mod) : Mod :=
  match e with
  | .xlt c l => (m.xltFault ctx va .write c l 7 n).aqEnd n stXLT_NOMAP
  | .poison => m.aqEnd n stMEM_UE
  | .offline => m.aqEnd n stMEM_OFFLINE
  | .bus => m.aqEnd n stDMA_BUS

/-- The node of a complete acquisition ends (R294). -/
def Mod.aqDone (n : Nat) (x : Acq) (post : List Int) (m : Mod) : Mod :=
  let out := aqOut x.args post
  let word := unsign 32 (wordsMean post) + 2 ^ 32 * b2n x.ovr + 2 ^ 33 * b2n out
  ((m.setAcq n none).setAqState n 0).report x.job stOK (BitVec.ofNat 64 word) (out && aqLimitEn x.args) 0 true

/-- Bytes of an acquisition written to its destination; those of the partner's work go to it (kind 15; Table 16.7). -/
def Mod.aqWrite (x : Acq) (va : Nat) (bs : List Byte) (m : Mod) : Except (MemErr × Nat × Mod) Mod :=
  if x.job.inst.isNone then .ok (m.emit (.siteLink 15 (va :: bs.map BitVec.toNat))) else m.devPut 26 x.job.group va bs

/-- One word of a STREAM written to its ring. -/
def Mod.aqPut (x : Acq) (w : Nat) (m : Mod) : Except (MemErr × Nat × Mod) Mod :=
  m.aqWrite x (aqDest x.args + 64 + 4 * (w % aqCap x.args)) (leBytes 4 (unsign 32 (x.word w)))

/-- Up to `k` words of a STREAM are written. -/
def Mod.aqStreamOut (n : Nat) : Nat → Mod → Mod
  | 0, m => m
  | k + 1, m =>
    match m.acq n with
    | none => m
    | some x =>
      if x.count ≤ x.written then m
      else match m.aqPut x x.written with
        | .ok m1 => aqStreamOut n k (m1.setAcq n (some { x with written := x.written + 1 }))
        | .error (e, d, m1) => m1.aqFail n x.job.group (aqDest x.args + 64 + 4 * (x.written % aqCap x.args) + d) e

/-- AQ_RECORD_COPY (R292): the record and its header are written to DEST; of a STREAM, up to `k` words of the
ring, and the header once every word has been written. -/
def Mod.aqCopy (n k : Nat) (m : Mod) : Mod :=
  match m.acq n with
  | none => m
  | some x =>
    let a := x.args
    let g := x.job.group
    let header (s : Mod) (y : Acq) (post : List Int) : Mod :=
      match s.aqWrite y (aqDest a) (y.header n post) with
      | .ok s1 => s1.aqDone n y post
      | .error (e, d, s1) => s1.aqFail n g (aqDest a + d) e
    match x.trig with
    | none => if aqStream a then m.aqStreamOut n k else m
    | some (w, _, _, _) =>
      let full := decide (w + aqPost a ≤ x.count)
      if aqStream a then
        let m1 := m.aqStreamOut n k
        match m1.acq n with
        | none => m1
        | some y => if full && y.written == y.count then header m1 y (y.post w) else m1
      else if !full then m
      else
        let rec_ := (List.range (aqPre a + aqPost a)).flatMap (fun i => leBytes 4 (unsign 32 (x.word (w - aqPre a + i))))
        match m.aqWrite x (aqDest a + 64) rec_ with
        | .ok m1 => header m1 x (x.post w)
        | .error (e, d, m1) => m1.aqFail n g (aqDest a + 64 + d) e

/-! ### Triggers (Table 11.8) -/

/-- A trigger of a source reaches generator `n`: it starts a waiting node, latches a take-over, or a jump. -/
def Mod.ddsTrigger (n src : Nat) (rising : Bool) (ns : Nat) (m : Mod) : Mod :=
  let x := m.wave n
  let hit (a : List Byte) : Bool := wpStart a == 1 && wpTsrc a == src && ((srcLine src).isNone || rising != wpFalling a)
  let m1 :=
    if m.ddsState n == 1 && x.trig.isNone && hit x.args then m.setWave n { x with trig := some (ns + 48) }
    else match x.take with
      | some (_, a) =>
        let latched := x.lats.any (fun l => l.2.2) || (match x.jump with
          | some j => j.take
          | none => false)
        if hit a && !latched then m.askJump n (wpSeg a) (ns + 48) true else m
      | none => m
  let r := Reg.DDS_JUMP n
  if rising && m.flag r Fields.DDS_JUMP.TRIG_EN && m.rd r Fields.DDS_JUMP.JSRC == src && x.t0.isSome then
    m1.askJump n (m.rd r Fields.DDS_JUMP.SEG) (ns + 48) false
  else m1

/-- A trigger of a source reaches every generator and acquisition that names it. -/
def Mod.trigger (src : Nat) (rising : Bool) (ns : Nat) (m : Mod) : Mod :=
  (m.each (List.range 8) (fun n s => s.ddsTrigger n src rising ns)).each (List.range 8) (fun n s =>
    match s.acq n with
    | some x =>
      if aqTsrc x.args == src && ((srcLine src).isNone || rising != aqFalling x.args) then s.aqTrigger n ns else s
    | none => s)

/-- MARKER_FIRE (R281): the oldest marker of a generator fires at its output instant. -/
def Mod.markerFire (n : Nat) (m : Mod) : Mod :=
  let x := m.wave n
  match x.marks with
  | [] => m
  | (k, s) :: rest =>
    let t := m.outputAt x s
    if !m.reached t then m
    else
      let r := Reg.DDS_MK n
      let lines := m.rd r (if k = 0 then Fields.DDS_MK.MK0_TRIG else Fields.DDS_MK.MK1_TRIG)
      let w := max 4 (m.rd r Fields.DDS_MK.MK_WIDTH)
      let m1 := m.setWave n { x with marks := rest }
      (m1.each (allBelow 8 (fun l => nbit lines l)) (fun l s1 => s1.trigPulse l t w)).trigger
        (if k = 0 then 0x30 + n else 0x40 + n) true t

/-! ### SYNC (R282, R283) -/

/-- SYNCIN_EDGE: a rising edge of SYNCIN arrives `ofs` ns after the tick. -/
def Mod.syncinEdge (ofs : Nat) (m0 : Mod) : Mod :=
  let a := m0.ttime + ofs
  let c := Reg.WAVE_SYNC_CTRL
  let st := Reg.WAVE_SYNC_STATUS
  let m := (m0.wr st Fields.WAVE_SYNC_STATUS.PHASE (a % 40)).when (m0.flag c Fields.WAVE_SYNC_CTRL.OUT_SRC)
    (Mod.emit (.syncout true (a + 6)))
  if !m.flag c Fields.WAVE_SYNC_CTRL.ARM then m
  else if (List.range 8).any (fun n => decide (2 ≤ m.ddsState n) || m.aqState n != 0) then
    m.mark st Fields.WAVE_SYNC_STATUS.SYNC_REFUSED
  else
    let x := a + 20 + min 39 (m.rd c Fields.WAVE_SYNC_CTRL.SYNC_DLY)
    let near := m.edgeAt 40 (x - 2)
    let margin := decide (near ≤ x + 2)
    -- within 2 ns of an edge the edge chosen may be that one or the next
    let e := if margin then (if (m.free 0).getLsbD 0 then near else near + 40) else m.edgeAt 40 x
    ((((m.setTrg { m.trg with epoch0 := e }).wr c Fields.WAVE_SYNC_CTRL.ARM 0).wr st
      Fields.WAVE_SYNC_STATUS.EPOCH_VALID 1).when margin (Mod.mark st Fields.WAVE_SYNC_STATUS.SYNC_MARGIN))

/-- FIRE (R297): a pulse of 100 ns on SYNCOUT from a DAC clock edge, unless SYNCOUT repeats SYNCIN. -/
def Mod.fire (m : Mod) : Mod :=
  let t := m.edgeAt 40 m.ttime
  m.when (!m.flag Reg.WAVE_SYNC_CTRL Fields.WAVE_SYNC_CTRL.OUT_SRC)
    (fun s => (s.emit (.syncout true t)).emit (.syncout false (t + 100)))

/-- WAVE_EPOCH (Table 11.14): DAC clocks since epoch 0. -/
def Mod.epochCount (m : Mod) : Nat :=
  if m.epochValid then (m.ttime - m.trg.epoch0) / 40 % 2 ^ 48 else 0

/-! ### AS outputs (R285 to R289) -/

/-- The clamp in force of a value (R286). -/
def asClamp (v : Nat) : Nat := max 1 (min 100 v)

/-- The node of a WAVE_PLAY whose AS entry was not applied ends with a code; a running playback goes on. -/
def Mod.playRefused (n code : Nat) (m : Mod) : Mod :=
  let x := m.wave n
  match x.take with
  | some (j, _) =>
    let jump := match x.jump with
      | some k => if k.take then none else some k
      | none => none
    if x.t0.isSome then (m.setWave n { x with take := none, jump := jump, lats := x.lats.filter (fun l => !l.2.2) }).reportStatus j code else m
  | none => if m.ddsState n = 1 then m.waveDrop n code else m

/-- An output is switched, and CLAMP_SUM follows; it stays off while H0 holds it disconnected. -/
def Mod.asSwitch (n : Nat) (on : Bool) (m : Mod) : Mod :=
  if on && !m.outputsReady then m
  else
  let x := m.asl n
  let was := m.asEnabled n
  let r := Reg.AS_STATE n
  let m1 := (m.wr r Fields.AS_STATE.EN (b2n on)).setAsl n { x with onAt := if on && !was then m.ttime else x.onAt }
  -- an output disabled in a range change takes its new range as it disconnects
  let m2 := match x.rc with
    | some v => if on then m1 else
        (((m1.wr r Fields.AS_STATE.VRANGE v).wr r Fields.AS_STATE.RC_ACTIVE 0).setAsl n { m1.asl n with rc := none }).asOut n x.code
    | none => m1
  m2.sumClamps

/-- The start of a WAVE_PLAY is free from the end of its entry's application (R274). -/
def Mod.playBound (n ns : Nat) (m : Mod) : Mod :=
  let x := m.wave n
  m.when (m.ddsState n == 1 && x.bound.isNone) (Mod.setWave n { x with bound := some (max (x.disp + 1000) ns) })

/-- One entry is applied at sample edge `edge` (R286, R287). -/
def Mod.asApplyEntry (n edge : Nat) (e : AsEntry) (m : Mod) : Mod :=
  let r := Reg.AS_STATE n
  let m0 := m.when e.held (Mod.mark r Fields.AS_STATE.LATE)
  let was := m.asEnabled n
  let on := if e.en = 1 then true else if e.en = 2 then false else was
  let cur := m.rd r Fields.AS_STATE.VRANGE
  let change := decide (e.vrange < 2) && e.vrange != cur
  let busy := decide (2 ≤ m.ddsState n) || (m.ddsState n == 1 && !e.play)
  let clamp := match e.iclamp with
    | some v => asClamp v
    | none => asClamp (m.rd r Fields.AS_STATE.ICLAMP)
  if change && busy then (m0.mark r Fields.AS_STATE.RC_REFUSED).when e.play (Mod.playRefused n stAS_BUSY)
  else if on && decide (800 < m.clampSum 32 n + clamp) then m0.budgetEvent.when e.play (Mod.playRefused n stHV_BUDGET)
  else
    let m1 := match e.iclamp with
      | some v => m0.wr r Fields.AS_STATE.ICLAMP (asClamp v)
      | none => m0
    if change && was && on then
      let m2 := (m1.setAsl n { m1.asl n with dac := 0, rc := some e.vrange, rcEnd := edge + 12, rcPlay := e.play }).wr r
        Fields.AS_STATE.RC_ACTIVE 1
      m2.sumClamps
    else
      let m2 := m1.when change (Mod.wr r Fields.AS_STATE.VRANGE e.vrange)
      let m3 := m2.asSwitch n on
      (m3.asOut n (m3.asl n).code).when e.play (Mod.playBound n (1000 * edge))

/-- AS_COMMAND_APPLY: at a sample edge the oldest due entry is applied; a range change holds the rest. -/
def Mod.asApply (n : Nat) (m : Mod) : Mod :=
  let t := m.ttime
  let edge := t / 1000
  let x := m.asl n
  match x.queue with
  | [] => m
  | e :: rest =>
    if t = 0 ∨ t % 1000 ≠ 0 ∨ x.lastEdge = edge ∨ x.rc.isSome ∨ edge < e.due ∨ m.isLost 3 then m
    else ((m.setAsl n { x with queue := rest, lastEdge := edge }).wr (Reg.AS_STATE n) Fields.AS_STATE.QCOUNT
      rest.length).asApplyEntry n edge e

/-- RANGE_CHANGE_END for an AS output: the new range engages, and the held entries follow from this edge. -/
def Mod.asRangeEnd (n : Nat) (m : Mod) : Mod :=
  let x := m.asl n
  match x.rc with
  | none => m
  | some v =>
    if m.ttime < 1000 * x.rcEnd then m
    else
      let q := x.queue.map (fun e => if e.due < x.rcEnd then { e with held := true } else e)
      let m1 := ((m.wr (Reg.AS_STATE n) Fields.AS_STATE.VRANGE v).wr (Reg.AS_STATE n) Fields.AS_STATE.RC_ACTIVE 0).setAsl n
        { x with rc := none, queue := q }
      let m2 := m1.asOut n x.code
      (m2.when x.rcPlay (Mod.playBound n (1000 * x.rcEnd))).asApply n

/-- CLIM: an output has delivered its clamp current for `us` µs (R288). -/
def Mod.clim (n us : Nat) (m : Mod) : Mod :=
  m.when (m.asEnabled n && decide (1 ≤ us)) (Mod.raise 1 srcWAVE n noSite 0 (Reg.AS_STATE n) Fields.AS_STATE.CLIM)

/-- CLIMOFF_TRIP: it has stayed at its limit for `us` µs with CLIM_OFF set. -/
def Mod.climoffTrip (n us : Nat) (m : Mod) : Mod :=
  m.when (m.asEnabled n && m.flag (Reg.AS_CFG n) Fields.AS_CFG.CLIM_OFF && decide (10000 ≤ us))
    (fun s => (s.asSwitch n false).mark (Reg.AS_STATE n) Fields.AS_STATE.CLIMOFF_TRIP)

/-- DEV: the sense voltage has differed from its target by `mv` mV for `us` µs (R289). -/
def Mod.dev (n mv us : Nat) (m : Mod) : Mod :=
  let c := Reg.AS_CFG n
  let th := m.rd c Fields.AS_CFG.DEV_MV
  let x := m.asl n
  let on := m.asEnabled n && th != 0 && decide (10 * th < mv) && decide (max 1 (m.rd c Fields.AS_CFG.DEV_US) ≤ us) &&
    x.rc.isNone && decide (x.onAt + 5000 ≤ m.ttime)
  m.when on (fun s => (s.raise 1 srcWAVE n noSite 0 (Reg.AS_STATE n) Fields.AS_STATE.DEV).when
    (s.flag c Fields.AS_CFG.DEV_OFF) (Mod.asSwitch n false))

/-- H0 is lost or reset: AS outputs disconnected with their DACs at code 0, generators and acquisitions
stopped; their nodes end with a code where one is given. -/
def Mod.h0WaveSafe (code : Nat) (m : Mod) : Mod :=
  m.each (List.range 8) (fun n s =>
    let x := s.wave n
    let s1 := ((s.setWave n Wave.fresh).wr (Reg.DDS_STATUS n) Fields.DDS_STATUS.JUMP_PENDING 0).setDdsState n 0
    let s2 := match x.job with
      | some j => s1.reportStatus j code
      | none => s1
    let s3 := match x.take with
      | some (j, _) => s2.reportStatus j code
      | none => s2
    let r := Reg.AS_STATE n
    let s4 := ((((s3.setAsl n AsLive.fresh).wr r Fields.AS_STATE.EN 0).wr r Fields.AS_STATE.RC_ACTIVE 0).wr r
      Fields.AS_STATE.QCOUNT 0)
    s4.aqEnd n code) |>.sumClamps

end Sys2Proof.Machine
end

