-- ==== Sys2Proof/Machine/Time.lean ====
section
/-!
DEFINITION. The time base, TTIME, time domains, time ports and time-interval units (Chapter 12).
-/

namespace Sys2Proof.Machine

/-! ### Status codes (Table 12.6) -/

def stTDC_BADARG : Nat := 0x98
def stTDC_ORDER : Nat := 0x99
def stTDC_NO_START : Nat := 0x9A
def stTDC_NO_STOP : Nat := 0x9B

/-! ### Entries -/

def Mod.setTim (x : Tim) (m : Mod) : Mod := { m with tim := x }
def Mod.dom (m : Mod) (k : Nat) : Dom := SMap.get (fun _ => Dom.fresh) m.tim.doms k
def Mod.setDom (k : Nat) (x : Dom) (m : Mod) : Mod :=
  m.setTim { m.tim with doms := SMap.set (fun _ => Dom.fresh) m.tim.doms k x }
def Mod.tport (m : Mod) (p : Nat) : Tport := SMap.get (fun _ => Tport.fresh) m.tim.ports p
def Mod.setTport (p : Nat) (x : Tport) (m : Mod) : Mod :=
  m.setTim { m.tim with ports := SMap.set (fun _ => Tport.fresh) m.tim.ports p x }
def Mod.tdc (m : Mod) (u : Nat) : Option Tdc := SMap.get (fun _ => none) m.tim.tdcs u
def Mod.setTdc (u : Nat) (x : Option Tdc) (m : Mod) : Mod :=
  m.setTim { m.tim with tdcs := SMap.set (fun _ => none) m.tim.tdcs u x }

/-! ### Time domains (R304 to R309) -/

/-- One second in units of 2^-32 ns. -/
def secUnits : Nat := 1000000000 * 2 ^ 32

/-- INC of a domain. -/
def Mod.domInc (m : Mod) (k : Nat) : Nat := m.rd64 (Reg.TD_INC_LO k)

/-- SLEW in force: 0 acts as 1, above 500 as 500 (Table 12.9). -/
def Mod.domSlew (m : Mod) (k : Nat) : Nat := max 1 (min 500 (m.rd (Reg.TD_CTRL k) Fields.TD_CTRL.SLEW))

/-- JUMP_LIMIT in force, in ns. -/
def Mod.domLimit (m : Mod) (k : Nat) : Nat := min (2 ^ 31 - 1) (m.reg (Reg.TD_JUMP_LIMIT k)).toNat

def Mod.domRunning (m : Mod) (k : Nat) : Bool := m.flag (Reg.TD_STATUS k) Fields.TD_STATUS.RUNNING

/-- What a slewing domain takes from its next tick: min(REMAIN, D) (R306). -/
def Mod.domSlewed (m : Mod) (k : Nat) : Nat := min (m.dom k).remain (m.domInc k * m.domSlew k / 1000000)

/-- The effective increment of the next tick. -/
def Mod.domEff (m : Mod) (k : Nat) : Nat := m.domInc k - m.domSlewed k

/-- A value of a domain carried into seconds. -/
def domCarry (sec sub : Nat) : Nat × Nat := ((sec + sub / secUnits) % 2 ^ 64, sub % secUnits)

/-- The domain's entry is set, and SLEWING follows. -/
def Mod.putDom (k : Nat) (x : Dom) (m : Mod) : Mod :=
  (m.setDom k x).wr (Reg.TD_STATUS k) Fields.TD_STATUS.SLEWING (b2n (x.remain != 0))

/-- One tick of a domain (R304, R306, R308): the effective increment, the step, and a SET that waits. -/
def Mod.domTick (k : Nat) (m : Mod) : Mod :=
  let x := m.dom k
  let (sec, sub) := domCarry x.sec (x.sub + m.domEff k + x.step)
  let y : Dom := { x with sec := sec, sub := sub, remain := x.remain - m.domSlewed k, step := 0, set := none }
  match x.set with
  | none => m.putDom k y
  | some (s, ns) =>
    if s < sec ∨ (s = sec ∧ ns * 2 ^ 32 < sub) then
      (m.putDom k y).mark (Reg.TD_STATUS k) Fields.TD_STATUS.SET_REFUSED
    else (m.putDom k { y with sec := s, sub := ns * 2 ^ 32 }).wr (Reg.TD_STATUS k) Fields.TD_STATUS.RUNNING 1

/-- TB_TRIM's target: beyond ±10,000 ppb acts as ±10,000 (Table 12.5). -/
def Mod.trimGoal (m : Mod) : Int := max (-10000) (min 10000 (signed 16 (m.rd Reg.TB_TRIM Fields.TB_TRIM.TRIM)))

/-- One step of the trim's ramp, 1 ppb toward the target at each 100 us of TTIME, while the TCXO is the active source or
underlies holdover (R302). -/
def Mod.trimRamp (m : Mod) : Mod :=
  let g := m.trimGoal
  let x := m.tim.trim
  let tcxo := !m.flag Reg.TB_STATUS Fields.TB_STATUS.SRC_ACTIVE || m.flag Reg.TB_STATUS Fields.TB_STATUS.HOLDOVER
  if tcxo && m.ttime % 100000 == 0 && x != g then m.setTim { m.tim with trim := if x < g then x + 1 else x - 1 } else m

/-- TTIME advances by one tick of 4 SCLK, and every domain by its increment (R303, R304). -/
def Mod.oneTick (m : Mod) : Mod :=
  let t := m.ttime
  let m1 := m.wr64 Reg.TIME_TTIME_LO ((t + 4) % 2 ^ 64)
  let m2 := (m1.each [0, 1, 2, 3] Mod.domTick).when m.pair.pccOn (fun s =>
    s.wr64 Reg.SL_PCC_LO ((s.rd64 Reg.SL_PCC_LO + 4) % 2 ^ 64))
  m2.trimRamp.when ((t + 4) / 2 ^ 32 != t / 2 ^ 32) Mod.traceTime

/-- `n` ticks. -/
def Mod.ticks : Nat → Mod → Mod
  | 0, m => m
  | n + 1, m => Mod.ticks n m.oneTick

/-- DOMAIN_TICK: `n` ticks, and what runs on the time base's other clocks up to the last of them: generator
samples (R272) and the first interval of acquisitions (R290); trigger edges and fails whose time has come reach their
sequencers (R166, R169). -/
def Mod.domainTick (n : Nat) (m : Mod) : Mod :=
  let m1 := ((m.ticks n).each (List.range 8) Mod.waveTick).each (List.range 8) Mod.aqFollow
  m1.each (allBelow 32 (fun k => (m1.seq k).live)) (fun k s => (s.failsDue k (s.ttime - (s.seq k).sclk0)).takeEdges k s.ttime)

/-- Whether an INC is accepted (R305). -/
def incOk (v : Nat) : Bool := decide (17171279250 ≤ v) && decide (v ≤ 17188459118)

/-- A write of TDk_INC. -/
def Mod.incWrite (k v : Nat) (m : Mod) : Mod :=
  if incOk v then m.wr64 (Reg.TD_INC_LO k) v else m.mark (Reg.TD_STATUS k) Fields.TD_STATUS.INC_RANGE

/-- A write of TDk_ADJ (R306, R307). -/
def Mod.adjWrite (k v : Nat) (m : Mod) : Mod :=
  let adj := signed 64 v
  let x := m.dom k
  if m.domLimit k * 2 ^ 32 < adj.natAbs then
    (m.mark (Reg.TD_STATUS k) Fields.TD_STATUS.JUMP_REFUSED).timeEvent Fields.TIME_EVENT.JUMP_REFUSED
  else if adj < 0 then m.putDom k { x with remain := x.remain + adj.natAbs }
  else m.putDom k { x with remain := x.remain - adj.natAbs, step := x.step + (adj.natAbs - x.remain) }

/-- SET and CLR of TDk_CTRL (R308): answers whether the SET was refused. -/
def Mod.domCtrl (k : Nat) (set clr : Bool) (m : Mod) : Bool × Mod :=
  let refused := set && m.domRunning k
  let ns := min 999999999 (m.rd (Reg.TD_SET_NS k) Fields.TD_SET_NS.NS)
  let m1 := m.when (set && !refused) (Mod.setDom k { m.dom k with set := some (m.rd64 (Reg.TD_SET_SEC_LO k), ns) })
  (refused, m1.when clr (Mod.wr (Reg.TD_STATUS k) Fields.TD_STATUS.RUNNING 0))

/-- FRAC, NS and SEC of a domain value. -/
def Dom.frac (x : Dom) : Nat := x.sub % 2 ^ 32
def Dom.ns (x : Dom) : Nat := x.sub / 2 ^ 32

/-- TDk_REMAIN: whole ns, rounded up. -/
def Dom.remainNs (x : Dom) : Nat := (x.remain + 2 ^ 32 - 1) / 2 ^ 32

/-! ### Snapshots (R311) -/

/-- TTIME and all four domains are captured at the current tick. -/
def Mod.capture (ofs : Nat) (m : Mod) : Mod :=
  let m1 := m.wr64 Reg.TIME_SNAP_TTIME_LO m.ttime
  let m2 := m1.each [0, 1, 2, 3] (fun k s =>
    let x := s.dom k
    (((s.setReg (Reg.TIME_SNAP_TD k 0) (BitVec.ofNat 32 x.frac)).setReg (Reg.TIME_SNAP_TD k 1)
      (BitVec.ofNat 32 x.ns)).wr64 (Reg.TIME_SNAP_TD k 2) x.sec))
  let unset := ((List.range 4).map (fun k => if m.domRunning k then 0 else 2 ^ k)).sum
  let st := Reg.TIME_SNAP_STATUS
  ((((m2.wr st Fields.TIME_SNAP_STATUS.UNSET unset).wr st Fields.TIME_SNAP_STATUS.EDGE_OFS ofs).wr st
    Fields.TIME_SNAP_STATUS.ARMED 0).mark st Fields.TIME_SNAP_STATUS.DONE).timeEvent Fields.TIME_EVENT.SNAP_DONE

/-- The line that SRC names, where it is one (Table 12.10). -/
def snapLine (src : Nat) : Option Nat := if 0x10 ≤ src ∧ src ≤ 0x1A then some (src - 0x10) else none

/-- GO: a capture, or an armed one (R311). -/
def Mod.snapGo (m : Mod) : Mod :=
  match snapLine (m.rd Reg.TIME_SNAP_CTRL Fields.TIME_SNAP_CTRL.SRC) with
  | some _ => m.wr Reg.TIME_SNAP_STATUS Fields.TIME_SNAP_STATUS.ARMED 1
  | none => m.capture 0

/-- A rising edge of a line `ofs` ns after the current tick. -/
def Mod.snapEdge (l ofs : Nat) (m : Mod) : Mod :=
  m.when (m.flag Reg.TIME_SNAP_STATUS Fields.TIME_SNAP_STATUS.ARMED &&
    snapLine (m.rd Reg.TIME_SNAP_CTRL Fields.TIME_SNAP_CTRL.SRC) == some l) (Mod.capture ofs)

/-! ### Edges of the lines (R297) -/

/-- TRIG_EDGE_DETECT: line `l` has been stable on each side of an instant `ofs` ns after the tick; `ext` is the
level the outside sets there. An edge of the logic level is delivered to its users; an outside level
against a line in OUTPUT mode leaves the level read open (R295): a free value. -/
def Mod.trigEdge (l : Nat) (ext : Bool) (ofs : Nat) (m0 : Mod) : Mod :=
  let t := m0.ttime + ofs
  let m := m0.setTrg { m0.trg with ext := putBit m0.trg.ext l ext }
  let contend := m.trigMode l == 1 && nbit m0.trg.ext l != ext && ext != (m.trigOut l != m.trigInv l)
  let level := if contend then (m.free 0).getLsbD 0 else m.trigLogic l
  if nbit m.trg.seen l == level then m
  else
    let m1 := m.setTrg { m.trg with seen := putBit m.trg.seen l level }
    let src := if l < 8 then l else if l < 10 then l + 8 else 0x20
    let m2 := m1.trigger src level t
    let echo := l == 10 && m2.flag Reg.WAVE_SYNC_CTRL Fields.WAVE_SYNC_CTRL.OUT_SRC
    if !level then m2.when echo (Mod.emit (.syncout false (t + 6)))
    else
      let m3 := m2.mark Reg.TRIG_EDGE ⟨l, 1⟩
      let (ws, wi) := if l < 8 then (0, l) else if l < 10 then (1, l - 8) else (3, 0)
      (m3.each (List.range 32) (fun n s => s.wtrgEdge ws wi t n)).snapEdge l ofs

/-! ### The time base (R298 to R302) -/

/-- Whether every sequencer, generator and acquisition is IDLE (R301). -/
def Mod.timeIdle (m : Mod) : Bool :=
  !(m.anySeqRunning || (List.range 32).any (fun n => m.seqState n == 6) ||
    (List.range 8).any (fun n => m.ddsState n != 0 || m.aqState n != 0))

/-- An accepted write of SRC (R301). -/
def Mod.srcWrite (src : Nat) (m : Mod) : Mod :=
  if src = m.rd Reg.TB_STATUS Fields.TB_STATUS.SRC_ACTIVE then
    (m.setTim { m.tim with switchTo := none }).wr Reg.TB_STATUS Fields.TB_STATUS.PENDING 0
  else (m.setTim { m.tim with switchTo := some src }).wr Reg.TB_STATUS Fields.TB_STATUS.PENDING 1

/-- TIMEBASE_SWITCH: the waiting switch, once REFIN has qualified where it is the new source and everything is
IDLE; the dies ride through it on holdover (R24). -/
def Mod.timebaseSwitch (m : Mod) : Mod :=
  match m.tim.switchTo with
  | none => m
  | some src =>
    let st := Reg.TB_STATUS
    if !m.timeIdle || (src == 1 && !m.flag st Fields.TB_STATUS.REF_QUALIFIED) then m
    else
      ((((((m.setTim { m.tim with switchTo := none }).wr st Fields.TB_STATUS.SRC_ACTIVE src).wr st
        Fields.TB_STATUS.PENDING 0).wr st Fields.TB_STATUS.HOLDOVER 0).wr st Fields.TB_STATUS.REF_LOCKED 0).wr
        Reg.WAVE_SYNC_STATUS Fields.WAVE_SYNC_STATUS.EPOCH_VALID 0).mark Reg.GLB_DIE_ERR Fields.GLB_DIE_ERR.HOLDOVER_SEEN

/-- REFIN loses presence (`window` false) or leaves its window (R298, R299). -/
def Mod.refinLoss (window : Bool) (m : Mod) : Mod :=
  let st := Reg.TB_STATUS
  let m1 := (((if window then m else m.wr st Fields.TB_STATUS.REF_PRESENT 0).wr st Fields.TB_STATUS.REF_IN_WINDOW 0).wr st
    Fields.TB_STATUS.REF_QUALIFIED 0).wr st Fields.TB_STATUS.REF_LOCKED 0
  if !m.flag st Fields.TB_STATUS.SRC_ACTIVE then m1
  else
    ((m1.wr st Fields.TB_STATUS.HOLDOVER 1).wr Reg.WAVE_SYNC_STATUS Fields.WAVE_SYNC_STATUS.EPOCH_VALID 0).timeEvent
      Fields.TIME_EVENT.REF_LOST

/-- REFIN has been present and in window for 16 ms: qualified at 10 MHz (1) or 100 MHz (2), with its offset in
ppb (R298); holdover ends (R300). -/
def Mod.refinQualify (det : Nat) (ppb : Int) (m : Mod) : Mod :=
  let st := Reg.TB_STATUS
  let want := m.rd Reg.TB_CTRL Fields.TB_CTRL.REF_FREQ
  if (want = 1 ∧ det ≠ 1) ∨ (want = 2 ∧ det ≠ 2) ∨ 20000 < ppb.natAbs then m
  else
    (((((m.wr st Fields.TB_STATUS.REF_PRESENT 1).wr st Fields.TB_STATUS.REF_IN_WINDOW 1).wr st
      Fields.TB_STATUS.REF_QUALIFIED 1).wr st Fields.TB_STATUS.REF_DET det).wr st Fields.TB_STATUS.HOLDOVER 0).setReg
      Reg.TB_REFMEAS (BitVec.ofInt 32 ppb)

/-- REF_LOCKED: the PLLs are within 1 ppb of REFIN (R300). -/
def Mod.refLocked (m : Mod) : Mod :=
  let st := Reg.TB_STATUS
  if m.flag st Fields.TB_STATUS.SRC_ACTIVE && m.flag st Fields.TB_STATUS.REF_QUALIFIED then
    (m.wr st Fields.TB_STATUS.REF_LOCKED 1).timeEvent Fields.TIME_EVENT.REF_LOCKED
  else m

/-! ### Time ports (R312 to R320) -/

/-- MODE in force: 5 to 7 act as 0. -/
def Mod.tpMode (m : Mod) (p : Nat) : Nat := let x := m.rd (Reg.TP_CFG p) Fields.TP_CFG.MODE; if 5 ≤ x then 0 else x
def Mod.tpDomain (m : Mod) (p : Nat) : Nat := m.rd (Reg.TP_CFG p) Fields.TP_CFG.DOMAIN

/-- A number spelled by big-endian bytes. -/
def ofBytesBE (bs : List Byte) : Nat := bs.foldl (fun a b => 256 * a + b.toNat) 0
def fieldBE (bs : List Byte) (o n : Nat) : Nat := ofBytesBE ((bs.drop o).take n)

/-- Bytes of a frame replaced from `o`. -/
def putBytes (bs : List Byte) (o : Nat) (new : List Byte) : List Byte :=
  bs.take o ++ new ++ bs.drop (o + new.length)

/-- Where the EtherType of a frame lies: after one IEEE 802.1Q tag where there is one (R312). -/
def etherAt (f : List Byte) : Nat := if fieldBE f 12 2 = 0x8100 then 16 else 12

/-- The network layer of a frame, and where what it carries begins: Ethernet, UDP over IPv4 without options,
UDP over IPv6 without extension headers (with the UDP header's place), or anything else. -/
inductive Carrier where
  | ether (at_ : Nat)
  | udp4 (udp : Nat)
  | udp6 (udp : Nat)
  | other
  deriving DecidableEq, Repr

def carrier (f : List Byte) : Carrier :=
  let e := etherAt f
  let ty := fieldBE f e 2
  if ty = 0x88F7 then .ether (e + 2)
  else if ty = 0x0800 ∧ fieldBE f (e + 2) 1 = 0x45 ∧ fieldBE f (e + 11) 1 = 17 then .udp4 (e + 22)
  else if ty = 0x86DD ∧ fieldBE f (e + 8) 1 = 17 then .udp6 (e + 42)
  else .other

/-- Where the PTP message of a frame lies, where its form carries one to port `ports`. -/
def ptpAt (ports : List Nat) (f : List Byte) : Option Nat :=
  match carrier f with
  | .ether o => some o
  | .udp4 u => if ports.contains (fieldBE f (u + 2) 2) then some (u + 8) else none
  | .udp6 u => if ports.contains (fieldBE f (u + 2) 2) then some (u + 8) else none
  | .other => none

/-- A PTP event frame (R313): where its message lies and its type. -/
def eventFrame (f : List Byte) : Option (Nat × Nat) :=
  match ptpAt [319] f with
  | none => none
  | some o =>
    let t := fieldBE f o 1 % 16
    let v := fieldBE f (o + 1) 1
    if v % 16 = 2 ∧ v / 16 ≤ 1 ∧ t ≤ 3 then some (o, t) else none

/-- A PTP frame by the test of R320. -/
def ptpFrame (f : List Byte) : Bool := (ptpAt [319, 320] f).isSome

/-- The multicast addresses of R315, and broadcast. -/
def tpGroups : List Nat :=
  [0xFFFFFFFFFFFF, 0x011B19000000, 0x0180C200000E, 0x01005E000181, 0x01005E00006B, 0x333300000181, 0x33330000006B]

/-- The receive filter of R315. -/
def Mod.tpAccepts (m : Mod) (p : Nat) (f : List Byte) : Bool :=
  let d := fieldBE f 0 6
  m.flag (Reg.TP_CFG p) Fields.TP_CFG.PROMISC || tpGroups.contains d ||
    d == (m.reg (Reg.TP_MAC_LO p)).toNat + 2 ^ 32 * m.rd (Reg.TP_MAC_HI p) Fields.TP_MAC_HI.MAC

/-- A stamp of a domain at `ps` ps after the current tick with a correction in ps (R304, R314), as seconds and
the rest; where a division does not come out, its rounding is not given: a free value. -/
def Mod.stamp (m : Mod) (k ps : Nat) (corr : Int) : Nat × Nat :=
  let x := m.dom k
  let num : Int := ((x.sec * secUnits + x.sub) * 4000 + m.domEff k * ps : Nat) + 4 * corr * 2 ^ 32
  let q := num / 4000
  let v := q + (if num % 4000 = 0 then 0 else b2n ((m.free 1).getLsbD 0) : Nat)
  let n := (max 0 v).toNat
  (n / secUnits % 2 ^ 64, n % secUnits)

/-- Words of bytes, little-endian, padded with 0. -/
def wordsOf : Nat → List Byte → List Word
  | 0, _ => []
  | n + 1, bs => BitVec.ofNat 32 (ofBytes (bs.take 4)) :: wordsOf n (bs.drop 4)

/-- RXLEVEL follows the buffer (Table 12.11). -/
def Mod.putRx (p : Nat) (rx : List (List Word)) (m : Mod) : Mod :=
  let r := Reg.TP_RXLEVEL p
  ((m.setTport p { m.tport p with rx := rx }).wr r Fields.TP_RXLEVEL.BYTES (4 * (rx.map List.length).sum)).wr r
    Fields.TP_RXLEVEL.FRAMES rx.length

/-- A frame enters the receive buffer whole, or is dropped whole (R315). -/
def Mod.rxStore (p ps : Nat) (f : List Byte) (m : Mod) : Mod :=
  let k := m.tpDomain p
  let (sec, sub) := m.stamp k ps (-(signed 32 (m.reg (Reg.TP_RX_CORR p)).toNat))
  let words : List Word :=
    [BitVec.ofNat 32 (f.length + 2 ^ 16 * b2n (eventFrame f).isSome + 2 ^ 17 * b2n (!m.domRunning k) + 2 ^ 20 * k),
     BitVec.ofNat 32 (sub / 2 ^ 32), BitVec.ofNat 32 sec,
     BitVec.ofNat 32 (sec / 2 ^ 32 % 2 ^ 16 + 2 ^ 16 * (sub % 2 ^ 32 / 2 ^ 16))] ++ wordsOf ((f.length + 3) / 4) f
  let rx := (m.tport p).rx
  if 0x8000 < 4 * ((rx.map List.length).sum + words.length) then m.mark (Reg.TP_STATUS p) Fields.TP_STATUS.RX_DROP
  else (m.putRx p (rx ++ [words])).timeEvent ⟨Fields.TIME_EVENT.RX_READY.lo + p, 1⟩

/-- FRAME_RECEIVE: a frame, without FCS, arrives from the line with its timestamp point `ps` ps after the tick
(R315, R319, R320). -/
def Mod.frameReceive (p ps : Nat) (f : List Byte) (fcsOk : Bool) (m : Mod) : Mod :=
  let mode := m.tpMode p
  if mode = 0 ∨ mode = 3 ∨ !m.flag (Reg.TP_STATUS p) Fields.TP_STATUS.BLOCK_LOCK then m
  else if !fcsOk then m.mark (Reg.TP_STATUS p) Fields.TP_STATUS.FCS_ERR
  else if fieldBE f (etherAt f) 2 == 0x8808 || !m.tpAccepts p f || ((mode == 1 || mode == 4) && !ptpFrame f) then m
  else m.rxStore p ps f

/-- A read of RXDATA pops one word (R315): the word, 0 where no frame is held. -/
def Mod.rxPop (p : Nat) (m : Mod) : Word × Mod :=
  match (m.tport p).rx with
  | (w :: ws) :: rest => (w, m.putRx p (if ws.isEmpty then rest else ws :: rest))
  | _ => (0#32, m)

/-- Bytes of the 16 KiB that frames written and not sent take: whole words (assumption 20). -/
def Tport.txUsed (x : Tport) : Nat :=
  (x.txQueue.map (fun e => 4 * ((e.2.2.length + 3) / 4))).sum + (match x.txHead with
    | some h => 4 * ((h.toNat % 2048 + 3) / 4)
    | none => 0)

def Mod.putTx (p : Nat) (x : Tport) (m : Mod) : Mod :=
  (m.setTport p x).wr (Reg.TP_TXSPACE p) Fields.TP_TXSPACE.SPACE (0x4000 - x.txUsed)

/-- A word written to TXDATA (R316). -/
def Mod.txWrite (p : Nat) (v : Word) (m : Mod) : Mod :=
  let x := m.tport p
  let drop := Mod.mark (Reg.TP_STATUS p) Fields.TP_STATUS.TX_DROP
  if x.txDead then m
  else if x.txSkip ≠ 0 then m.setTport p { x with txSkip := x.txSkip - 1 }
  else match x.txHead, x.txId with
    | none, _ =>
      let len := v.toNat % 2048
      if v.toNat / 2048 % 32 ≠ 0 ∨ v.toNat / 2 ^ 17 ≠ 0 ∨ len < 14 ∨ 1518 < len then drop (m.setTport p { x with txDead := true })
      else if 0x4000 - x.txUsed < len then drop (m.setTport p { x with txSkip := 1 + (len + 3) / 4 })
      else m.putTx p { x with txHead := some v, txId := none, txData := [] }
    | some _, none =>
      if v.toNat / 2 ^ 16 ≠ 0 then drop (m.putTx p { x with txHead := none, txDead := true })
      else m.setTport p { x with txId := some v }
    | some h, some i =>
      let data := x.txData ++ [v]
      let len := h.toNat % 2048
      if data.length < (len + 3) / 4 then m.setTport p { x with txData := data }
      else
        let bytes := (data.flatMap (fun w => leBytes 4 w.toNat)).take len
        m.putTx p { x with
          txHead := none
          txId := none
          txData := []
          txQueue := x.txQueue ++ [(nbit h.toNat 16, i.toNat, bytes)] }

/-- TX_FLUSH: the partly written frame is discarded, and TXDATA resumes. -/
def Mod.txFlush (p : Nat) (m : Mod) : Mod :=
  let x := m.tport p
  m.putTx p { x with txHead := none, txId := none, txData := [], txSkip := 0, txDead := false }

/-- RX_FLUSH empties the receive buffer. -/
def Mod.rxFlush (p : Nat) (m : Mod) : Mod := m.putRx p []

/-- TSQ_POP removes the head of the stamp queue (R317). -/
def Mod.tsqPop (p : Nat) (m : Mod) : Mod :=
  let x := m.tport p
  m.setTport p { x with tsq := x.tsq.drop 1 }

/-- Word `j` of TSQ0 to TSQ3 (Table 12.2). -/
def Mod.tsqWord (m : Mod) (p j : Nat) : Word :=
  match (m.tport p).tsq with
  | [] => 0#32
  | (a, b, c, d) :: _ =>
    match j with
    | 0 => a
    | 1 => b
    | 2 => c
    | _ => d ||| BitVec.ofNat 32 (2 ^ 16 + 2 ^ 17 * (m.tport p).tsq.length)

/-- A stamp enters the queue (R317). -/
def Mod.tsqPut (p id k sec sub : Nat) (m : Mod) : Mod :=
  let x := m.tport p
  if 64 ≤ x.tsq.length then
    (m.mark (Reg.TP_STATUS p) Fields.TP_STATUS.TSQ_OVF).timeEvent ⟨Fields.TIME_EVENT.TSQ_OVF.lo + p, 1⟩
  else
    let e : Word × Word × Word × Word :=
      (BitVec.ofNat 32 (id + 2 ^ 16 * (sub % 2 ^ 32 / 2 ^ 16)), BitVec.ofNat 32 (sub / 2 ^ 32), BitVec.ofNat 32 sec,
       BitVec.ofNat 32 (sec / 2 ^ 32 % 2 ^ 16 + 2 ^ 24 * b2n (!m.domRunning k)))
    (m.setTport p { x with tsq := x.tsq ++ [e] }).when x.tsq.isEmpty
      (Mod.timeEvent ⟨Fields.TIME_EVENT.TSQ_READY.lo + p, 1⟩)

/-- The one's complement sum of 16-bit words. -/
def onesSum : Nat → List Byte → Nat
  | 0, _ => 0
  | n + 1, bs => ((byteAt bs 0 * 256 + byteAt bs 1) + onesSum n (bs.drop 2)) % 65535

/-- A number as big-endian bytes. -/
def beBytes (n v : Nat) : List Byte := (leBytes n v).reverse

/-- A Sync stamped on the fly (R318): originTimestamp and correctionField, and the UDP checksum cleared over
IPv4 or kept valid over IPv6 by the last two bytes of the UDP payload. -/
def oneStep (f : List Byte) (o sec sub : Nat) : List Byte :=
  let corr := (fieldBE f (o + 8) 8 + sub % 2 ^ 32 / 2 ^ 16) % 2 ^ 64
  let f1 := putBytes (putBytes f (o + 8) (beBytes 8 corr)) (o + 34) (beBytes 6 sec ++ beBytes 4 (sub / 2 ^ 32))
  match carrier f with
  | .udp4 u => putBytes f1 (u + 6) [0#8, 0#8]
  | .udp6 u =>
    let len := fieldBE f (u + 4) 2
    let tail := u + len - 2
    let f2 := putBytes f1 tail [0#8, 0#8]
    let old := onesSum ((len + 1) / 2) ((f.drop u).take len)
    let new := onesSum ((len + 1) / 2) ((f2.drop u).take len)
    let x := (old + 65535 - new) % 65535
    let y := if (tail - u) % 2 = 0 then x else x % 256 * 256 + x / 256
    putBytes f2 tail (beBytes 2 y)
  | _ => f1

/-- FRAME_TRANSMIT: the oldest complete frame is sent with its timestamp point `ps` ps after the tick (R316 to
R320). -/
def Mod.frameTransmit (p ps : Nat) (m : Mod) : Mod :=
  let x := m.tport p
  let mode := m.tpMode p
  match x.txQueue with
  | [] => m
  | (req, id, f0) :: rest =>
    if mode = 0 then m
    else
      let m1 := m.putTx p { x with txQueue := rest }
      if mode = 4 ∧ !ptpFrame f0 then m1
      else
        let f := f0 ++ zeroBytes (60 - f0.length)
        let k := m.tpDomain p
        let (sec, sub) := m.stamp k ps (signed 32 (m.reg (Reg.TP_TX_CORR p)).toNat)
        let sync := match eventFrame f with
          | some (o, 0) => if mode = 2 then none else some o
          | _ => none
        let sent := match req, sync with
          | true, some o => oneStep f o sec sub
          | _, _ => f
        let m2 := (m1.emit (.frame p sent)).when (req && sync.isNone) (Mod.tsqPut p id k sec sub)
        -- the looped frame passes the filter of R315 alone
        m2.when (mode == 3 && m2.tpAccepts p sent && fieldBE sent (etherAt sent) 2 != 0x8808) (Mod.rxStore p ps sent)

/-! ### Time-interval units (R321 to R326) -/

/-- The parts of TDC_MEAS's ARGS (Table 12.3). -/
def tmStart (a : List Byte) : Nat := byteAt a 0
def tmStop (a : List Byte) : Nat := byteAt a 1
def tmSigned (a : List Byte) : Bool := nbit (byteAt a 2) 2
def tmPattern (a : List Byte) : Bool := nbit (byteAt a 2) 3
def tmSoft (a : List Byte) : Bool := nbit (byteAt a 2) 4
def tmLimitEn (a : List Byte) : Bool := nbit (byteAt a 2) 5
def tmStartCh (a : List Byte) : Nat := fieldAt a 4 2
def tmStopCh (a : List Byte) : Nat := fieldAt a 6 2
def tmStopN (a : List Byte) : Nat := fieldAt a 8 2
def tmWindow (a : List Byte) : Nat := fieldAt a 12 4

/-- Whether a source is a comparator, so that its channel counts. -/
def tmComparator (src : Nat) : Bool := src == 0 || src == 1 || src == 0x30 || src == 0x31

/-- A source of Table 12.4 that a unit may name, with its channel. -/
def tmSourceOk (u : Nat) (pattern : Bool) (src ch : Nat) : Bool :=
  if src < 2 then decide (u < 32) && decide (ch / 128 = u / 16)
  else if src = 2 then pattern
  else if 0x10 ≤ src ∧ src ≤ 0x1A then true
  else if src = 0x30 ∨ src = 0x31 then decide (32 ≤ u) && decide (ch < 32)
  else false

/-- Whether start and stop are the same source and edge. -/
def tmSame (a : List Byte) : Bool :=
  tmStart a == tmStop a && (!tmComparator (tmStart a) || tmStartCh a == tmStopCh a) &&
    nbit (byteAt a 2) 0 == nbit (byteAt a 2) 1

/-- ARGS that end with TDC_BADARG (R321). -/
def tmBad (u : Nat) (a : List Byte) : Bool :=
  u == 0xFF || nbits (byteAt a 2) 6 2 != 0 || byteAt a 3 != 0 || !zerosAt a 10 2 || !zerosAt a 32 16 ||
    !tmSourceOk u (tmPattern a) (tmStart a) (tmStartCh a) || !tmSourceOk u (tmPattern a) (tmStop a) (tmStopCh a) ||
    tmStopN a == 0 || (tmSigned a && (tmStopN a != 1 || tmSame a))

def Mod.setTdcState (u v : Nat) (m : Mod) : Mod := m.wr (Reg.TDC_STATUS u) Fields.TDC_STATUS.STATE v

/-- A TDC_MEAS node is dispatched. -/
def Mod.tdcMeas (j : Job) (u : Nat) (a : List Byte) (m : Mod) : Mod :=
  let off (src ch : Nat) : Bool := decide (src < 2) && !m.flag (chReg Reg.CH_LCTRL ch) Fields.CH_LCTRL.CONN
  if tmBad u a then m.reportStatus j stTDC_BADARG
  else if off (tmStart a) (tmStartCh a) || off (tmStop a) (tmStopCh a) then m.reportStatus j stNOT_CONNECTED
  else (m.setTdc u (some ⟨j, a, m.ttime, none, none, none, 0, none, false⟩)).setTdcState u 1

/-- A stamp's corrected time in 1/16 LSB: the coarse count and the linearised fine code (Table 13.8). -/
def Mod.tdcTime (m : Mod) (u : Nat) (s : Nat × Nat) : Nat :=
  65536 * s.1 + (m.reg (calOff 3 u (s.2 % 4096))).toNat % 65536

/-- Stop minus start in LSB; a part of 1/16 LSB is rounded in a way that is not given: a free value. -/
def Mod.tdcInterval (m : Mod) (u : Nat) (start stop : Nat × Nat) : Int :=
  let d : Int := (m.tdcTime u stop : Int) - m.tdcTime u start
  d / 16 + (if d % 16 = 0 then 0 else b2n ((m.free 2).getLsbD 0) : Nat)

/-- A measurement ends (R325, R326): with an interval, or with a code of R325 and its flag. -/
def Mod.tdcEnd (u : Nat) (x : Tdc) (interval : Int) (code : Nat) (m : Mod) : Mod :=
  let a := x.args
  let out := tmLimitEn a && (decide (interval < signed 64 (fieldAt a 16 8)) || decide (signed 64 (fieldAt a 24 8) < interval))
  let flag := if code = stTDC_NO_START then 2 ^ 54 else if code = stTDC_NO_STOP then 2 ^ 55
    else if code = stTDC_ORDER then 2 ^ 56 else 0
  let word := unsign 53 interval + 2 ^ 53 * b2n x.early + flag + 2 ^ 57 * b2n out
  let soft := tmSoft a && code != stOK
  ((((m.setTdc u none).setTdcState u 0).wr64 (Reg.TDC_RES_LO u) word)).report x.job (if soft then stOK else code)
    (BitVec.ofNat 64 word) (out || soft) 0 true

/-- A start edge after the arm (R323, R324). -/
def Mod.tdcStart (u : Nat) (s : Nat × Nat) (m : Mod) : Mod :=
  match m.tdc u with
  | none => m
  | some x =>
    if x.armed.isNone || x.start.isSome then m
    else
      let t0 := m.tdcTime u s
      let m0 := m.wr64 (Reg.TDC_TSTART_LO u) (s.1 / 2)
      let y : Tdc := { x with start := some s }
      match x.before with
      | none => (m0.setTdc u (some y)).setTdcState u 3
      | some b =>
        let early := t0 - m.tdcTime u b
        if tmSigned x.args then
          if early ≤ 16 * 16384 then m0.tdcEnd u y (m.tdcInterval u s b) stOK else m0.tdcEnd u y 0 stTDC_ORDER
        else if early ≤ 16 * 40 && (m.free 0).getLsbD 0 then
          -- within 5 ps of the start: counted as after it
          let z : Tdc := { y with stops := 1, lastStop := some b }
          if tmStopN x.args = 1 then m0.tdcEnd u z (m.tdcInterval u s b) stOK else (m0.setTdc u (some z)).setTdcState u 3
        else (m0.setTdc u (some { y with early := true })).setTdcState u 3

/-- A stop edge after the arm. -/
def Mod.tdcStop (u : Nat) (s : Nat × Nat) (m : Mod) : Mod :=
  match m.tdc u with
  | none => m
  | some x =>
    if x.armed.isNone then m
    else match x.start with
      | none =>
        if tmSame x.args then m
        else match x.before with
          | some _ => m.setTdc u (some { x with before := some s, early := x.early || !tmSigned x.args })
          | none => m.setTdc u (some { x with before := some s })
      | some t =>
        let t0 := m.tdcTime u t
        let ts := m.tdcTime u s
        let close := decide (ts ≤ t0 + 16 * 40)
        if (tmSame x.args && ts == t0) || ts < t0 then m
        else if !tmSigned x.args && close && decide (t0 + 16 < ts) && (m.free 0).getLsbD 0 then
          m.setTdc u (some { x with early := true })
        else
          let merged := match x.lastStop with
            | some l => decide (ts < m.tdcTime u l + 16 * 1024) && (m.free 1).getLsbD 0
            | none => false
          if merged then m
          else if x.stops + 1 = tmStopN x.args then m.tdcEnd u x (m.tdcInterval u t s) stOK
          else m.setTdc u (some { x with stops := x.stops + 1, lastStop := some s })

/-- A unit is armed at an instant in TTIME; with source 0x02 the arm instant, in coarse and fine counts, is itself
a start or stop edge (R322). -/
def Mod.tdcArmAt (u ns : Nat) (mark : Nat × Nat) (m : Mod) : Mod :=
  match m.tdc u with
  | none => m
  | some x =>
    let m1 := (m.setTdc u (some { x with armed := some ns })).setTdcState u 2
    let m2 := m1.when (tmStop x.args == 2) (Mod.tdcStop u mark)
    m2.when (tmStart x.args == 2) (Mod.tdcStart u mark)

/-- TDC_ARM: with ARM 0 a unit is armed at dispatch + 1 µs. -/
def Mod.tdcArm (u : Nat) (m : Mod) : Mod :=
  match m.tdc u with
  | none => m
  | some x =>
    if x.armed.isSome || tmPattern x.args || !m.reached (x.disp + 1000) then m
    else m.tdcArmAt u (x.disp + 1000) (2 * (x.disp + 1000), 0)

/-- A SIG of kind 3 at an instant in ET of 1/2,048 ns (R322). -/
def Mod.sigTdc (u et : Nat) (m : Mod) : Mod :=
  match m.tdc u with
  | some x =>
    if x.armed.isNone && tmPattern x.args then m.tdcArmAt u (et / 2048) (et / 1024, 4 * (et % 1024))
    else m.mark (Reg.TDC_STATUS u) Fields.TDC_STATUS.ARM_IGNORED
  | none => m.mark (Reg.TDC_STATUS u) Fields.TDC_STATUS.ARM_IGNORED

/-- TDC_WINDOW_EXPIRY (R325). -/
def Mod.tdcExpiry (u : Nat) (m : Mod) : Mod :=
  match m.tdc u with
  | none => m
  | some x =>
    match x.armed with
    | none => m
    | some t =>
      if tmWindow x.args = 0 ∨ !m.reached (t + 1000 * tmWindow x.args) then m
      else m.tdcEnd u { x with early := x.early || (x.start.isNone && x.before.isSome && !tmSigned x.args) } 0
        (if x.start.isNone then stTDC_NO_START else stTDC_NO_STOP)

/-- TDC_RANGE_EXCEEDED: more than 2^40 coarse counts have passed since the start (R325). -/
def Mod.tdcRange (u : Nat) (m : Mod) : Mod :=
  match m.tdc u with
  | none => m
  | some x =>
    match x.start with
    | none => m
    | some s => if 2 * (m.ttime + 4) ≤ s.1 + 2 ^ 40 then m else m.tdcEnd u x 0 stTDC_NO_STOP

/-- The measurement of a lost or reset die ends with a code. -/
def Mod.tdcDrop (u code : Nat) (m : Mod) : Mod :=
  match m.tdc u with
  | none => m
  | some x => ((m.setTdc u none).setTdcState u 0).reportStatus x.job code

end Sys2Proof.Machine
end

