-- ==== Sys2Proof/Machine/Calib.lean ====
section
/-!
DEFINITION. Calibration against the user's reference (Chapter 13): runs, domains, corrections and drift.
-/

namespace Sys2Proof.Machine

def Mod.setCal (x : Cal) (m : Mod) : Mod := { m with cal := x }

/-! ### Domains (Table 13.2) -/

/-- What a domain needs: REFV, REFT, the calibration plate, and other domains calibrated. -/
def calNeeds (k : Nat) : Bool × Bool × Bool × List Nat :=
  match k with
  | 0 => (false, true, false, [])
  | 1 => (false, true, false, [])
  | 2 => (true, false, true, [])
  | 3 => (true, false, false, [])
  | 4 => (true, false, true, [2])
  | 5 => (false, false, true, [2])
  | _ => (false, true, true, [1, 3])

/-- Units as CAL_FAILMAP numbers them (Table 13.6), with the shared LV converters after them: the dies a scope
names for each (0 P0, 1 P1, 2 H0). -/
def calUnitDie (u : Nat) : Nat :=
  if u < 128 then 0 else if u < 256 then 1 else if u < 304 then 2
  else if u < 320 then 0 else if u < 336 then 1 else if u < 340 then 2 else if u < 344 then 0 else 1

/-- The units a domain measures. -/
def calUnits (k u : Nat) : Bool :=
  match k with
  | 1 => decide (304 ≤ u) && decide (u < 340)
  | 2 => decide (296 ≤ u) && decide (u < 304)
  | 3 => decide (u < 256) || (decide (340 ≤ u) && decide (u < 348))
  | 4 => decide (256 ≤ u) && decide (u < 288)
  | 5 => decide (288 ≤ u) && decide (u < 296)
  | 6 => decide (u < 256)
  | _ => false

/-! ### New values and their limits (R334) -/

/-- OFS within 2,000 LSB and GAIN within its field. -/
def gainOk (ofs gain : Int) : Bool := decide (ofs.natAbs ≤ 2000) && decide (-32768 ≤ gain) && decide (gain ≤ 32767)

/-- A value that domain `k` writes for unit `u`, within its limits. -/
def calValOk (k u : Nat) (v : CalVal) : Bool :=
  match v with
  | .trim ppb => k == 0 && decide (ppb.natAbs ≤ 10000)
  | .table item ofs gain => gainOk ofs gain && (match k with
      | 2 => decide (item < 4)
      | 3 => decide (340 ≤ u) && item == 0
      | 4 => decide (item < 19)
      | 5 => decide (item < 3)
      | _ => false)
  | .fine code value => k == 1 && decide (code < 4096) && decide (value < 65536)
  | .lcal i ofs gain => k == 3 && decide (u < 256) && decide (i < 12) && gainOk ofs gain
  | .skew dr df cmp => k == 6 && decide (dr.natAbs ≤ 4095) && decide (df.natAbs ≤ 4095) && decide (cmp.natAbs ≤ 4095)
  | .tapD r tap => k == 6 && decide (r < 256) && decide (tap ≤ 383)
  | .tapS r tap => k == 6 && decide (r < 256) && decide (tap ≤ 383)

/-- OFS and GAIN as a correction word packs them. -/
def corrWord (ofs gain : Int) : Word := BitVec.ofNat 32 (unsign 16 ofs + 2 ^ 16 * unsign 16 gain)

/-- The table of the calibration window and the unit in it of a unit of CAL_FAILMAP. -/
def calTable (u : Nat) : Nat × Nat :=
  if u < 288 then (0, u - 256) else if u < 296 then (1, u - 288) else if u < 304 then (2, u - 296)
  else if u < 340 then (3, u - 304) else (4, u - 340)

/-- A tap of a linearisation table; two share a word (Table 8.7). -/
def Mod.putTap (reg : Nat → Nat → Nat → Nat) (u r tap : Nat) (m : Mod) : Mod :=
  m.wr (reg (u / 128) (u % 128) (r / 2)) ⟨16 * (r % 2), 9⟩ tap

/-- One value is written. -/
def Mod.calPut (u : Nat) (m : Mod) (v : CalVal) : Mod :=
  match v with
  | .trim ppb => m.when (!m.flag Reg.TB_STATUS Fields.TB_STATUS.SRC_ACTIVE) (Mod.setReg Reg.TB_TRIM (BitVec.ofNat 32 (unsign 16 ppb)))
  | .table item ofs gain => m.setReg (calOff (calTable u).1 (calTable u).2 item) (corrWord ofs gain)
  | .fine code value => m.setReg (calOff 3 (calTable u).2 code) (BitVec.ofNat 32 value)
  | .lcal i ofs gain => m.setReg (Reg.CH_LCAL (u / 128) (u % 128) i) (corrWord ofs gain)
  | .skew dr df cmp =>
    ((m.setReg (Reg.CH_DSK_DR (u / 128) (u % 128)) (BitVec.ofNat 32 (unsign 13 dr))).setReg
      (Reg.CH_DSK_DF (u / 128) (u % 128)) (BitVec.ofNat 32 (unsign 13 df))).setReg
      (Reg.CH_DSK_CMP (u / 128) (u % 128)) (BitVec.ofNat 32 (unsign 13 cmp))
  | .tapD r tap => m.putTap Reg.CH_LIND u r tap
  | .tapS r tap => m.putTap Reg.CH_LINS u r tap

/-- A unit's new values: written whole, or its bit of CAL_FAILMAP is set and it keeps the previous ones. -/
def Mod.calUnit (k : Nat) (m : Mod) (e : Nat × List CalVal) : Mod :=
  let u := e.1
  let mine := k == 0 || (calUnits k u && nbit m.cal.scope (calUnitDie u))
  if !mine then m
  else if e.2.all (calValOk k u) then e.2.foldl (fun s v => s.calPut u v) m
  else
    let m1 := m.setCal { m.cal with failed := true }
    m1.when (decide (u < 340) && k != 0) (Mod.mark (Reg.CAL_FAILMAP (u / 32)) ⟨u % 32, 1⟩)

/-- FAIL_COUNT follows CAL_FAILMAP. -/
def Mod.countFails (m : Mod) : Mod :=
  m.wr Reg.CAL_STATUS Fields.CAL_STATUS.FAIL_COUNT
    (allBelow 352 (fun u => (m.reg (Reg.CAL_FAILMAP (u / 32))).getLsbD (u % 32))).length

/-! ### Requests (R336, R340) -/

/-- Bit `i` of the request half of CAL_REQ is set, and CAL_VEC is due where it is enabled. -/
def Mod.calRequest (i : Nat) (m : Mod) : Mod :=
  let rise := !(m.reg Reg.CAL_REQ).getLsbD (16 + i)
  (m.mark Reg.CAL_REQ ⟨16 + i, 1⟩).when (rise && (m.reg Reg.CAL_IRQ_EN).getLsbD i)
    (Mod.dueAt Reg.HOST_EVT_VEC1 Fields.HOST_EVT_VEC1.CAL_VEC)

/-- DRIFT (`hi` 0) or UNCAL (`hi` 8) of a domain takes a value; a rise asks for calibration. -/
def Mod.calFlag (hi k : Nat) (v : Bool) (m : Mod) : Mod :=
  let was := (m.reg Reg.CAL_REQ).getLsbD (hi + k)
  (m.wr Reg.CAL_REQ ⟨hi + k, 1⟩ (b2n v)).when (v && !was) (Mod.calRequest k)

/-- UNCAL follows COUNT. -/
def Mod.calUncal (k : Nat) (m : Mod) : Mod := m.calFlag 8 k (decide (m.reg (Reg.CAL_DOM_COUNT k) = 0#32))

/-- COUNT of a domain has been written: the age of R340 starts again. -/
def Mod.calCounted (k : Nat) (m : Mod) : Mod :=
  (m.setCal { m.cal with doneAt := SMap.set (fun _ => 0) m.cal.doneAt k m.ttime }).calUncal k

/-! ### Runs (R332 to R336) -/

def Mod.calOn (m : Mod) : Bool := m.cal.run.isSome

/-- Whether a run withholds the units of a die (R333). -/
def Mod.calScoped (m : Mod) (die : Nat) : Bool := m.calOn && nbit m.cal.scope die

/-- Whether a port holds an LV channel of a scoped die (R333). -/
def Mod.calPort (m : Mod) (n : Nat) : Bool :=
  (m.calScoped 0 && !(m.dieChans n 0).isEmpty) || (m.calScoped 1 && !(m.dieChans n 1).isEmpty)

/-- The end of a run with a result of Table 13.5 (R336). -/
def Mod.calEnd (result : Nat) (m : Mod) : Mod :=
  let st := Reg.CAL_STATUS
  ((((m.setCal { m.cal with run := none, left := [] }).wr st Fields.CAL_STATUS.STATE 0).wr st
    Fields.CAL_STATUS.RESULT result).mark st Fields.CAL_STATUS.DONE).calRequest 7

/-- The references as last read. -/
def Mod.calRefs (r : RefCheck) (m0 : Mod) : Mod :=
  let st := Reg.CAL_STATUS
  let m := m0.setCal { m0.cal with refs := r }
  ((((m.wr st Fields.CAL_STATUS.REFV_OK (b2n r.refv)).wr st Fields.CAL_STATUS.REFT_OK (b2n r.reft)).wr st
    Fields.CAL_STATUS.PLATE_OK (b2n m.calPlate)).setReg Reg.CAL_REFMEAS_V (BitVec.ofInt 32 r.uv)).wr64
    Reg.CAL_REFT_MEAS_LO r.fs

/-- The next domain begins with its check (R334), or the run ends. -/
def Mod.calNext (r : RefCheck) (m0 : Mod) : Mod :=
  let m := m0.calRefs r
  match m.cal.left with
  | [] => m.calEnd (b2n m.cal.failed)
  | k :: rest =>
    let (v, t, p, _) := calNeeds k
    let sync := t && r.reft && !r.spread
    let st := Reg.CAL_STATUS
    let m1 := ((m.setCal { m.cal with run := some k, left := rest }).wr st Fields.CAL_STATUS.DOMAIN k).when sync
      (Mod.mark st Fields.CAL_STATUS.REF_SYNC)
    if (v && !r.refv) || (t && !r.reft) || (p && !m.calPlate) || sync then m1.calEnd 5
    else m1.wr st Fields.CAL_STATUS.STATE 2

/-- Whether a START is refused (R332). -/
def Mod.calRefused (m : Mod) (doms scope : Nat) : Bool :=
  let pre := (allBelow 7 (nbit doms)).any (fun k => (calNeeds k).2.2.2.any (fun d =>
    !nbit doms d && m.reg (Reg.CAL_DOM_COUNT d) == 0#32))
  let die (i : Nat) : Bool := nbit scope i
  let ports := (List.range 32).any (fun n => m.seqState n != 0 &&
    ((die 0 && !(m.dieChans n 0).isEmpty) || (die 1 && !(m.dieChans n 1).isEmpty)))
  let tdcs := (List.range 36).any (fun u => (m.tdc u).isSome && die (calUnitDie (304 + u)))
  let convs := (List.range 40).any (fun c => (m.meas c).isSome && die (if c < 4 then 0 else if c < 8 then 1 else 2))
  let waves := (List.range 8).any (fun n => m.ddsState n != 0 || m.aqState n != 0)
  m.calOn || pre || ports || tdcs || convs || (die 2 && waves) ||
    (nbit doms 0 && (waves || (List.range 32).any (fun n => m.seqState n != 0)))

/-- START (R332): answers whether it was refused. -/
def Mod.calStart (doms scope : Nat) (r : RefCheck) (m : Mod) : Bool × Mod :=
  if m.calRefused doms scope then (true, m)
  else
    let m1 := (m.each (List.range 11) (fun w s => s.setReg (Reg.CAL_FAILMAP w) 0#32)).wr Reg.CAL_STATUS
      Fields.CAL_STATUS.FAIL_COUNT 0
    let m2 := m1.setCal { m.cal with run := some 0, left := allBelow 7 (nbit doms), scope := scope, doms := doms, failed := false }
    (false, (m2.wr Reg.CAL_STATUS Fields.CAL_STATUS.STATE 1).calNext r)

/-- ABORT (R335): late where no run is active. -/
def Mod.calAbort (m : Mod) : Mod :=
  if m.calOn then m.calEnd 3 else m.mark Reg.CAL_STATUS Fields.CAL_STATUS.ABORT_LATE

/-- CAL_REF_LOST (R335): a reference or the plate that the domain in progress needs has ceased to be present. -/
def Mod.calRefLost (r : RefCheck) (m0 : Mod) : Mod :=
  let m := m0.calRefs r
  match m.cal.run with
  | none => m
  | some k =>
    let (v, t, p, _) := calNeeds k
    if (v && !r.refv) || (t && !r.reft) || (p && !m.calPlate) then m.calEnd 2 else m

/-- CAL_DOMAIN_COMPLETE (R334): the domain's units have been measured; `vals` gives the new values by unit, a
unit it does not list having measured those it holds; `temp` are the mean temperatures of CAL_DOMk_TEMP. -/
def Mod.calComplete (vals : List (Nat × List CalVal)) (temp : Word) (r : RefCheck) (m : Mod) : Mod :=
  match m.cal.run with
  | none => m
  | some k =>
    let before := m.cal.failed
    let m1 := (vals.foldl (Mod.calUnit k) (m.setCal { m.cal with failed := false })).countFails
    let bad := m1.cal.failed
    let m2 := m1.setCal { m1.cal with failed := before || bad }
    let m3 := if bad then m2 else
      let c := Reg.CAL_DOM_COUNT k
      (((((m2.setReg c (BitVec.ofNat 32 (satAdd 32 (m2.reg c).toNat 1))).wr64 (Reg.CAL_DOM_LAST_LO k) (m2.dom 0).sec).setReg
        (Reg.CAL_DOM_TEMP k) temp).wr (Reg.CAL_DOM_INFO k) Fields.CAL_DOM_INFO.LAST_UNSET
        (b2n (!m2.domRunning 0))).calCounted k).calFlag 0 k false
    (m3.wr Reg.CAL_STATUS Fields.CAL_STATUS.STATE 1).calNext r

/-! ### Drift (R340, R341) -/

/-- Whether assessments go on (R341). -/
def Mod.fwRuns (m : Mod) : Bool := m.firmwareRuns

/-- The sensors of a domain, with the byte of TEMP each is compared with (Tables 2.8, 13.2). -/
def calSensors (k : Nat) : List (Nat × Nat) :=
  let p := [(4, 1), (5, 1), (6, 2), (7, 2)]
  match k with
  | 0 => [(0, 0), (1, 0), (2, 0), (3, 0)]
  | 1 => p ++ [(8, 3)]
  | 3 => p
  | 6 => p
  | _ => [(8, 3)]

/-- Whether a sensor differs by more than TEMP_DELTA half degrees; readings are in 1/8 °C. -/
def Mod.calDrifted (m : Mod) (k : Nat) : Bool :=
  let t := (m.reg (Reg.CAL_DOM_TEMP k)).toNat
  let delta := m.rd (Reg.CAL_DOM_CFG k) Fields.CAL_DOM_CFG.TEMP_DELTA
  (calSensors k).any (fun s =>
    let now := signed 12 (m.rd (Reg.PWR_TEMP s.1) Fields.PWR_TEMP.TEMP)
    decide (4 * (delta : Int) < (now - 4 * signed 8 (t / 256 ^ s.2 % 256)).natAbs))

/-- Whether a domain's age exceeds AGE_H hours. -/
def Mod.calOld (m : Mod) (k : Nat) : Bool :=
  let h := m.rd (Reg.CAL_DOM_CFG k) Fields.CAL_DOM_CFG.AGE_H
  let unset := m.flag (Reg.CAL_DOM_INFO k) Fields.CAL_DOM_INFO.LAST_UNSET
  h != 0 && (if m.domRunning 0 && !unset then
    decide (m.rd64 (Reg.CAL_DOM_LAST_LO k) + 3600 * h < (m.dom 0).sec)
  else decide (SMap.get (fun _ => 0) m.cal.doneAt k + 3600000000000 * h < m.ttime))

/-- DRIFT_ASSESSMENT: the firmware assesses every domain with a non-zero COUNT. -/
def Mod.driftAssess (m : Mod) : Mod :=
  if !m.fwRuns then m
  else
    let m1 := m.each (List.range 7) (fun k s =>
      if s.reg (Reg.CAL_DOM_COUNT k) = 0#32 then s else s.calFlag 0 k (s.calDrifted k || s.calOld k))
    (m1.setCal { m1.cal with assessed := m1.ttime }).wr Reg.CAL_STATUS Fields.CAL_STATUS.ASSESS_OK 1

/-- ASSESS_OK_EXPIRY: no assessment has completed for 2 s (R341). -/
def Mod.assessExpiry (m : Mod) : Mod :=
  m.when (decide (m.cal.assessed + 2000000000 ≤ m.ttime) || !m.fwRuns)
    (Mod.wr Reg.CAL_STATUS Fields.CAL_STATUS.ASSESS_OK 0)

end Sys2Proof.Machine
end

