-- ==== Sys2Proof/Machine/Wdrr.lean ====
section
/-!
DEFINITION. The weighted deficit round robin of R116 to R118, which Hatch uses for each node class and the memory
controller for each channel. Groups 64 to 127 are the peer groups of R399; while they hold nothing, passing over
them changes no outcome of the pseudocode.
-/

namespace Sys2Proof.Machine

/-- What an arbiter knows of the groups: quantum by group (0 for a background group), whether a group is
enabled, has an entry of the class, offers an eligible entry, and the charge of the entry it offers. -/
structure Offers where
  quantum : Nat → Nat
  enabled : Nat → Bool
  entry : Nat → Bool
  offers : Nat → Bool
  cost : Nat → Nat

/-- Whether some enabled weighted group offers an eligible entry. -/
def Offers.any (o : Offers) : Bool :=
  (List.range 128).any (fun g => o.enabled g && o.quantum g != 0 && o.offers g)

/-- One turn of the pseudocode of R116: the group that dispatches, or none and the turn passes. A disabled group with no
entry loses its deficit as the pseudocode has it, though R118 says that a group not enabled keeps it (DESIGN CHOICE:
assumption 109). -/
def Hat.wdrrTurn (c : Nat) (o : Offers) (h : Hat) : Option Nat × Hat :=
  let g := h.turn c
  if !o.enabled g || o.quantum g == 0 || !o.entry g then
    (none, (if o.entry g then h else h.setDeficit c g 0).setTurn c ((g + 1) % 128) true)
  else if o.offers g then
    let h1 := if h.freshOf c then (h.setDeficit c g (h.deficitOf c g + o.quantum g)).setTurn c g false else h
    let cost : Int := max (o.cost g) 1
    if cost ≤ h1.deficitOf c g then (some g, h1.setDeficit c g (h1.deficitOf c g - cost))
    else (none, h1.setTurn c ((g + 1) % 128) true)
  else (none, h.setTurn c ((g + 1) % 128) true)

/-- Turns until a group dispatches. -/
def Hat.wdrrLoop (c : Nat) (o : Offers) : Nat → Hat → Option Nat × Hat
  | 0, h => (none, h)
  | fuel + 1, h =>
    match h.wdrrTurn c o with
    | (some g, h1) => (some g, h1)
    | (none, h1) => Hat.wdrrLoop c o fuel h1

/-- Background groups in plain round robin (R118). -/
def Hat.background (c : Nat) (o : Offers) (h : Hat) : Option Nat × Hat :=
  let from_ := SMap.get (fun _ => 0) h.backgroundCur c
  let ok (i : Nat) : Bool :=
    let g := (from_ + i) % 128
    o.enabled g && o.quantum g == 0 && o.offers g
  match firstBelow ok 128 with
  | some i =>
    let g := (from_ + i) % 128
    (some g, { h with backgroundCur := SMap.set (fun _ => 0) h.backgroundCur c ((g + 1) % 128) })
  | none => (none, h)

/-- The pick of R116 for class `c`. A deficit is at least -65,535, a charge at most 65,535 and a quantum at
least 1, so 131,072 rounds of 128 turns reach a dispatch. -/
def Hat.pick (c : Nat) (o : Offers) (h : Hat) : Option Nat × Hat :=
  if o.any then h.wdrrLoop c o (128 * 131072 + 128) else h.background c o

end Sys2Proof.Machine
end

