-- ==== Sys2Proof/Machine/Drc.lean ====
section
/-!
DEFINITION. The GDDR7 controller (Chapter 14): rows, refresh debt, self-refresh and arbitration of a channel's
requests.
-/

namespace Sys2Proof.Machine

/-- CATCH_AT in force. -/
def Mod.catchAt (m : Mod) : Nat := max 1 (min 8 (m.rd Reg.DRC_REF_CFG Fields.DRC_REF_CFG.CATCH_AT))

/-- A request other than training has been served (R347). -/
def Mod.drcServed (m : Mod) : Mod := m.setDrc { m.drc with served := true }

/-- An access of a context has reached GDDR7: with EN set its walk reads tables there. -/
def Mod.servedCtx (ctx : Nat) (m : Mod) : Mod :=
  m.when (m.flag (Reg.XLT_CTX_ROOT_LO ctx) Fields.XLT_CTX_ROOT_LO.EN) Mod.drcServed

/-- The bank of a channel address (Table 14.3). -/
def Mod.bankOf (m : Mod) (ca : Nat) : Nat :=
  if m.flag Reg.DRC_MAP Fields.DRC_MAP.BANK_HASH then nbits ca 11 4 ^^^ nbits ca 15 4 else nbits ca 11 4
def rowOf (ca : Nat) : Nat := nbits ca 15 15

/-! ### Rows (R348) -/

/-- A bank's idle timer has reached `dclk`. -/
def Mod.pageIdle (c bank dclk : Nat) (m : Mod) : Mod :=
  m.when (decide (m.rd Reg.DRC_PAGE Fields.DRC_PAGE.IDLE ≤ dclk)) (Mod.setRow c bank none)

/-! ### Slots (R350, R353) -/

/-- Channels in CATCHUP, ESCALATED or tracking update. -/
def Mod.busyChannels (m : Mod) : Nat :=
  (allBelow 32 (fun c => m.chState c == 3 || m.chState c == 4 || m.chState c == 5)).length

/-- Escalated channels that hold no slot take the free ones first. -/
def Mod.escalatedBare (m : Mod) : Nat := (allBelow 32 (fun c => m.chState c == 4 && !m.drc.slots.contains c)).length

def Mod.slotFree (m : Mod) : Bool := decide (m.drc.slots.length + m.escalatedBare < 4) && decide (m.busyChannels ≤ 4)

/-- Slots go to waiting channels in the order of their requests. -/
def Mod.grantSlots : Nat → Mod → Mod
  | 0, m => m
  | fuel + 1, m =>
    match m.drc.waiting with
    | [] => m
    | c :: rest =>
      if m.slotFree then
        grantSlots fuel (((m.setDrc { m.drc with waiting := rest, slots := m.drc.slots ++ [c] }).prechargeAll c).setChState c 3)
      else m

def Mod.grant (m : Mod) : Mod := m.grantSlots 32

/-- A channel at or above CATCH_AT asks for a slot. -/
def Mod.askSlot (c : Nat) (m : Mod) : Mod :=
  if decide (m.catchAt ≤ m.debt c) && m.chState c == 1 then
    ((m.setDrc { m.drc with waiting := m.drc.waiting ++ [c] }).setChState c 2).grant
  else m

/-- A slot is given back. -/
def Mod.releaseSlot (c : Nat) (m : Mod) : Mod := m.setDrc { m.drc with slots := m.drc.slots.erase c }

/-! ### Refresh (R349 to R353) -/

/-- A refresh falls due. -/
def Mod.refreshDue (c : Nat) (m : Mod) : Mod :=
  let st := m.chState c
  let d := m.debt c
  if st = 0 ∨ st = 6 ∨ st = 7 then m
  else if st = 4 then m.setDebt c (min 16 (d + 1))
  else if d < 8 then (m.setDebt c (d + 1)).askSlot c
  else if st = 3 then m.prechargeAll c -- one falls due and the catch-up issues one
  else
    -- DEBT 8 and no slot for this channel: one forced refresh
    ((m.prechargeAll c).bump (Reg.DRC_CH_STATUS c) Fields.DRC_CH_STATUS.FORCED).drcEvent c 0 Fields.DRC_EVENT.FORCED

/-- An idle channel with debt issues one refresh. -/
def Mod.opportunistic (c : Nat) (m : Mod) : Mod :=
  let d := m.debt c
  if (m.chState c = 1 ∨ m.chState c = 2) ∧ 1 ≤ d then (m.prechargeAll c).setDebt c (d - 1) else m

/-- An escalated channel with DEBT within 8 goes back to R349 to R351. -/
def Mod.leaveEscalated (c : Nat) (m : Mod) : Mod :=
  if m.chState c == 4 && decide (m.debt c ≤ 8) then (((m.releaseSlot c).setChState c 1).askSlot c).grant else m

/-- CATCHUP: a channel that holds a slot refreshes until DEBT is 0 and releases it (R350); an escalated channel
refreshes until DEBT is 8 or less (R352). -/
def Mod.catchup (c : Nat) (m : Mod) : Mod :=
  let st := m.chState c
  if st = 3 then ((((m.prechargeAll c).setDebt c 0).releaseSlot c).setChState c 1).grant
  else if st = 4 then ((m.prechargeAll c).setDebt c (min 8 (m.debt c))).leaveEscalated c
  else m

/-- A channel passes to the doubled rate (R352). -/
def Mod.doubleChannel (c : Nat) (m : Mod) : Mod :=
  let st := m.chState c
  let s := Reg.DRC_CH_STATUS c
  if m.flag s Fields.DRC_CH_STATUS.DOUBLED || st == 0 || st == 7 then m
  else
    let d := min 16 (2 * m.debt c)
    let m1 := (m.wr s Fields.DRC_CH_STATUS.DOUBLED 1).setDebt c d
    if d ≤ 8 then m1.askSlot c
    else
      let held := m1.drc.slots.contains c
      let free := m1.slotFree
      let m2 := m1.setDrc { m1.drc with
        waiting := m1.drc.waiting.erase c
        slots := if !held && free then m1.drc.slots ++ [c] else m1.drc.slots }
      ((m2.prechargeAll c).setChState c 4).drcEvent c 0 Fields.DRC_EVENT.REFRESH_ESCALATED

/-- A reading of device `dev`, in 1/8 °C, has reached TEMP_2X. -/
def Mod.doubledRate (dev : Nat) (temp : Int) (m : Mod) : Mod :=
  if (8 * m.rd Reg.DRC_REF_CFG Fields.DRC_REF_CFG.TEMP_2X : Int) ≤ temp then
    m.each (List.range 4) (fun i s => s.doubleChannel (4 * dev + i))
  else m

/-- Every reading of device `dev` is at or below `temp`, 5 °C below TEMP_2X or less. -/
def Mod.normalRate (dev : Nat) (temp : Int) (m : Mod) : Mod :=
  if temp ≤ 8 * ((m.rd Reg.DRC_REF_CFG Fields.DRC_REF_CFG.TEMP_2X : Int) - 5) then
    m.each (List.range 4) (fun i s =>
      let c := 4 * dev + i
      let r := Reg.DRC_CH_STATUS c
      if s.flag r Fields.DRC_CH_STATUS.DOUBLED then
        ((s.wr r Fields.DRC_CH_STATUS.DOUBLED 0).setDebt c ((s.debt c + 1) / 2)).leaveEscalated c
      else s)
  else m

/-- A tracking update of a channel begins, or ends and has succeeded or failed (R345). It takes a slot and is
deferred while the channel is escalated. -/
def Mod.tracking (c : Nat) (ended ok : Bool) (m : Mod) : Mod :=
  let st := m.chState c
  if !ended then
    if (st = 1 ∨ st = 2) ∧ m.slotFree then
      ((m.setDrc { m.drc with waiting := m.drc.waiting.erase c, slots := m.drc.slots ++ [c] }).prechargeAll c).setChState c 5
    else m
  else if st ≠ 5 then m
  else if ok then (((m.releaseSlot c).setChState c 1).askSlot c).grant
  else (m.offlineDevice c).grant

/-! ### Self-refresh (R354, R355) -/

/-- The entry command of a device: each channel has paid its debt and is precharged. -/
def Mod.enterSelfRefresh (dev : Nat) (m : Mod) : Mod :=
  m.each (List.range 4) (fun i s =>
    let c := 4 * dev + i
    if s.chState c = 7 ∨ s.chState c = 0 then s
    else
      let s1 := s.setDrc { s.drc with waiting := s.drc.waiting.erase c, slots := s.drc.slots.erase c }
      ((s1.prechargeAll c).setDebt c 0).setChState c 6)

/-- No channel of a device has served or held a request for `us` µs. -/
def Mod.selfRefreshEntry (dev us : Nat) (m : Mod) : Mod :=
  let ok := (List.range 4).all (fun i => m.chState (4 * dev + i) == 1 || m.chState (4 * dev + i) == 2)
  if ok && m.flag Reg.DRC_PWR_CFG Fields.DRC_PWR_CFG.SR_EN &&
      decide (max 1 (m.rd Reg.DRC_PWR_CFG Fields.DRC_PWR_CFG.SR_IDLE) ≤ us) then m.enterSelfRefresh dev
  else m

/-- A request, or the DRC's restart, makes a device leave self-refresh. -/
def Mod.selfRefreshExit (dev : Nat) (m : Mod) : Mod :=
  m.each (List.range 4) (fun i s =>
    let c := 4 * dev + i
    if s.chState c = 6 then (s.setDebt c 0).setChState c 1 else s)

/-! ### Requests (R356 to R359) -/

/-- The places of the requests that no earlier one to the same burst precedes (R357). -/
def headRequests (reqs : List MemReq) : List Nat :=
  allBelow reqs.length (fun i => (List.range i).all (fun j =>
    match reqs[i]?, reqs[j]? with
    | some a, some b => a.addr / 64 != b.addr / 64
    | _, _ => true))

/-- A refill within its group's bucket (item 2). -/
def Mod.reserved (m : Mod) (c : Nat) (reqs : List MemReq) (i : Nat) : Bool :=
  match reqs[i]? with
  | some r => r.refill && decide (320 * 64 ≤ m.bucket c r.group)
  | none => false

/-- The group of a request. -/
def reqGroup (reqs : List MemReq) (i : Nat) : Nat := match reqs[i]? with
  | some r => r.group
  | none => 0

/-- One of some places: which of them within an item is left to the controller (R357), a free value. -/
def Mod.freePick (m : Mod) (l : List Nat) : Option Nat :=
  match l with
  | [i] => some i
  | _ => l[(m.free 0).toNat % max 1 l.length]?

/-- The request a channel serves next, by items 2 to 4 of R356, and the module after the choice. -/
def Mod.chooseRequest (c : Nat) (reqs : List MemReq) (m : Mod) : Option Nat × Mod :=
  let heads := headRequests reqs
  let two := heads.filter (fun i => m.reserved c reqs i)
  if !two.isEmpty then
    match m.freePick two with
    | some i =>
      let g := reqGroup reqs i
      (some i, m.setBucket c g (m.bucket c g - 320 * 64))
    | none => (none, m)
  else
    let has (g : Nat) : Bool := heads.any (fun i => reqGroup reqs i == g)
    let offer (g : Nat) : Option Nat := m.freePick (heads.filter (fun i => reqGroup reqs i == g))
    let dma (g : Nat) : Bool := match offer g with
      | some i => (match reqs[i]? with
        | some r => r.dma
        | none => false)
      | none => false
    let o : Offers :=
      { quantum := fun g => 256 * m.weight g, enabled := fun _ => true, entry := has, offers := has,
        cost := fun g => m.burstCost (dma g) }
    let (g, h) := m.hat.pick (32 + c) o
    let m1 : Mod := { m with hat := h }
    match g with
    | some k => (offer k, m1)
    | none => (none, m1)

/-- The row of a served request is opened, and precharged at once where PAGE_IDLE is 0 (R348). -/
def Mod.openRow (c pa : Nat) (m : Mod) : Mod :=
  let ca := m.channelAddr pa
  m.setRow c (m.bankOf ca) (if m.rd Reg.DRC_PAGE Fields.DRC_PAGE.IDLE = 0 then none else some (rowOf ca))

/-- A request is served: `crc` is how many of its tries failed their data CRC, `ce` and `ue` what the device's ECC
reports (R358). -/
def Mod.serveRequest (c i : Nat) (r : MemReq) (crc : Nat) (ce ue : Bool) (m : Mod) : Mod :=
  let e := Reg.DRC_CH_ERRCNT c
  let retries := min 4 crc
  let m1 := ((m.openRow c r.addr).wr e Fields.DRC_CH_ERRCNT.CRC_RETRY
    (satAdd 8 (m.rd e Fields.DRC_CH_ERRCNT.CRC_RETRY) retries)).drcServed
  let m2 := m1.when ce (fun s => (s.bump e Fields.DRC_CH_ERRCNT.CE).drcEvent c r.addr Fields.DRC_EVENT.CE)
  let stored := badIn m.gddrBad 64 r.addr r.len
  let spoil (s : Mod) : Mod := { s with gddrBad := SMap.set badDefault s.gddrBad (r.addr / 64) true }
  match r.data with
  | none =>
    let bad := decide (4 < crc) || ue || stored
    let m3 := m2.when ue spoil
    let m4 := m3.emit (.memDone c i (memRead m.gddr r.addr r.len) bad)
    m4.when bad (Mod.drcUe c r.group r.addr false)
  | some bs =>
    -- a write of part of a burst that holds an uncorrectable error is not made (R434)
    let found := ue && bs.length != 0 && (r.addr % 64 != 0 || (r.addr + bs.length) % 64 != 0)
    if partBad m.gddrBad 64 r.addr bs.length || found then ((m2.when found spoil).emit (.memDone c i [] true)).drcUe c r.group r.addr true
    else if 4 < crc then
      ((spoil m2).emit (.memDone c i [] true)).drcUe c r.group r.addr true
    else (m2.gddrPut r.addr bs).emit (.memDone c i [] false)

/-- MEMORY_REQUEST: channel `c` chooses among the requests that wait at it, oldest first, and serves one. A device
in self-refresh leaves it first (R354). -/
def Mod.memoryRequest (c : Nat) (reqs : List MemReq) (crc : Nat) (ce ue : Bool) (m : Mod) : Mod :=
  let m0 := m.when (m.chState c == 6) (Mod.selfRefreshExit (c / 4))
  let st := m0.chState c
  if (st ≠ 1 ∧ st ≠ 2) ∨ reqs.any (fun r => m.channelOf r.addr != c) = true then m
  else
    match m0.chooseRequest c reqs with
    | (some i, m1) =>
      match reqs[i]? with
      | some r => m1.serveRequest c i r crc ce ue
      | none => m1
    | (none, m1) => m1

end Sys2Proof.Machine
end

