-- ==== Sys2Proof/Machine/Dma.lean ====
section
/-!
DEFINITION. The DMA channels (R364 to R371) and the translation unit's own operations (R360 to R363): lists, their
descriptors, the two engines, stops, errors and power-down, table walks and invalidation.
-/

namespace Sys2Proof.Machine

/-! ### Status codes (Table 15.9) -/

def stDMA_BADLIST : Nat := 0xA0
def stDMA_XLT : Nat := 0xA1
def stDMA_ABORTED : Nat := 0xA3
def stDOMAIN_OFF : Nat := 0xA4
def stDMA_STOPPED : Nat := 0xA5

/-! ### Channels -/

def Mod.dmaRun (m : Mod) (ch : Nat) : Option DmaRun := SMap.get (fun _ => none) m.dma.runs ch
def Mod.setDmaRun (ch : Nat) (x : Option DmaRun) (m : Mod) : Mod :=
  { m with dma := { m.dma with runs := SMap.set (fun _ => none) m.dma.runs ch x } }

def Mod.dmaState (m : Mod) (ch : Nat) : Nat := m.rd (Reg.DMA_CH_STATUS ch) Fields.DMA_CH_STATUS.STATE
def Mod.setDmaState (ch v : Nat) (m : Mod) : Mod := m.wr (Reg.DMA_CH_STATUS ch) Fields.DMA_CH_STATUS.STATE v

/-- Bytes of the current descriptor acknowledged at the destination. -/
def Mod.dmaOffset (m : Mod) (ch : Nat) : Nat := (m.reg (Reg.DMA_CH_OFFSET ch)).toNat
def Mod.setDmaOffset (ch v : Nat) (m : Mod) : Mod := m.setReg (Reg.DMA_CH_OFFSET ch) (BitVec.ofNat 32 v)

/-- The list ends with a status; RESULT and the result word are the descriptors completed (R368). -/
def Mod.dmaEnd (ch status : Nat) (m : Mod) : Mod :=
  match m.dmaRun ch with
  | none => m
  | some r =>
    let m1 := (m.setDmaRun ch none).setDmaState ch 0
    match r.origin with
    | .desc q serial bytes =>
      m1.complete (descQuiet bytes) (descComp q serial bytes status (BitVec.ofNat 32 r.done))
    | .node j => m1.report j status (BitVec.ofNat 64 r.done) false 0 true

/-- The fields of a list descriptor (Table 15.6). -/
def ldOp (d : List Byte) : Nat := byteAt d 0
def ldSrcSg (d : List Byte) : Bool := nbit (byteAt d 1) 1
def ldDstSg (d : List Byte) : Bool := nbit (byteAt d 1) 2
def ldPreq (d : List Byte) : Bool := nbit (byteAt d 1) 3
def ldReq (d : List Byte) : Nat := byteAt d 2
def ldLength (d : List Byte) : Nat := fieldAt d 4 4
def ldSrc (d : List Byte) : Nat := fieldAt d 8 8
def ldDst (d : List Byte) : Nat := fieldAt d 16 8

/-- Whether a request source of Table 15.7 may serve a descriptor. -/
def ldReqOk (d : List Byte) : Bool :=
  !ldPreq d || ldReq d == 0x30 ||
    (decide (ldReq d < 0x20) && ldLength d % 64 == 0 && decide (ldLength d ≤ 65536))

/-- The check of R364 on a descriptor, before its lists are read. -/
def ldOk (d : List Byte) : Bool :=
  let op := ldOp d
  nbits (byteAt d 1) 4 4 == 0 && byteAt d 3 == 0 && zerosAt d 28 4 && decide (op ≤ 2) && decide (1 ≤ ldLength d) &&
    ldReqOk d &&
    (match op with
     | 0 => decide (ldSrc d < 2 ^ 48) && decide (ldDst d < 2 ^ 48) &&
        (!ldSrcSg d || (decide (1 ≤ fieldAt d 24 2) && decide (fieldAt d 24 2 ≤ 4096))) &&
        (!ldDstSg d || (decide (1 ≤ fieldAt d 26 2) && decide (fieldAt d 26 2 ≤ 4096)))
     | 1 => !ldSrcSg d && decide (ldDst d < 2 ^ 48) &&
        (!ldDstSg d || (decide (1 ≤ fieldAt d 26 2) && decide (fieldAt d 26 2 ≤ 4096)))
     | _ => ldLength d == 4 && decide (ldSrc d < 2 ^ 32) && decide (ldDst d < 2 ^ 26))

/-- The elements of a scatter or gather list, where they are valid and sum to LENGTH. -/
def sgElements (len : Nat) (bs : List Byte) : Option (List (Nat × Nat)) :=
  let es := cutRecords 16 (bs.length / 16) bs
  let el := es.map (fun e => (fieldAt e 0 8, fieldAt e 8 4))
  if es.all (fun e => zerosAt e 12 4) && el.all (fun e => decide (e.1 < 2 ^ 48) && decide (1 ≤ e.2)) &&
      (el.map Prod.snd).sum == len then some el
  else none

/-- The parts of an element stream that cover `n` bytes from offset `off`. -/
def streamPart : List (Nat × Nat) → Nat → Nat → List (Nat × Nat)
  | [], _, _ => []
  | (a, l) :: t, off, n =>
    if n = 0 then []
    else if l ≤ off then streamPart t (off - l) n
    else (a + off, min (l - off) n) :: streamPart t 0 (n - min (l - off) n)

/-- The device address of byte `off` of a stream. -/
def streamAddr (els : List (Nat × Nat)) (off : Nat) : Nat := match streamPart els off 1 with
  | (a, _) :: _ => a
  | [] => 0

/-- The domain of a place: the host link, GDDR7, or neither (R370). -/
def Place.domain : Place → Option Nat
  | .host _ => some 0
  | .gddr _ => some 1
  | .sram _ => none

/-- Whether a stream of bytes touches a quiet domain. -/
def Mod.touchesQuiet (m : Mod) (ctx : Nat) (els : List (Nat × Nat)) : Bool :=
  els.any (fun e => (List.range (e.2 / 0x10000 + 2)).any (fun i =>
    let va := min (e.1 + 0x10000 * i) (e.1 + e.2 - 1)
    match m.xlate ctx va .read with
    | .ok p => (match p.domain with
      | some d => m.dma.quiet.contains d
      | none => false)
    | .error _ => false))

/-! ### Errors (R369, R370) -/

/-- ERR_ADDR and ERR_INFO are latched and the channel halts with a code; with HALT_ON_ERR clear the list ends at
once. -/
def Mod.dmaHalt (ch va : Nat) (write : Bool) (cause code : Nat) (m : Mod) : Mod :=
  match m.dmaRun ch with
  | none => m
  | some r =>
    let info := Reg.DMA_CH_ERR_INFO ch
    let m1 := ((m.wr64 (Reg.DMA_CH_ERR_ADDR_LO ch) (va % 2 ^ 48)).wr info Fields.DMA_CH_ERR_INFO.DIR (b2n write)).wr info
      Fields.DMA_CH_ERR_INFO.CAUSE cause
    let m2 := m1.setDmaRun ch (some { r with error := code })
    match r.stop with
    | some c => m2.dmaEnd ch c
    | none => if r.haltOnErr then m2.setDmaState ch 4 else m2.dmaEnd ch code

/-- A read or write error at a device address (Table 15.8, R363). -/
def Mod.dmaError (ch va : Nat) (write : Bool) (e : MemErr) (m : Mod) : Mod :=
  match m.dmaRun ch with
  | none => m
  | some r =>
    match e with
    | .xlt c l =>
      (m.xltFault r.ctx va (if write then .write else .read) c l (b2n write) ch).dmaHalt ch va write c stDMA_XLT
    | .bus => m.dmaHalt ch va write 8 stDMA_BUS
    | .poison => (if write then m else m.readUe r.ctx va e).dmaHalt ch va write 9 stMEM_UE
    | .offline => m.dmaHalt ch va write 9 stMEM_OFFLINE

/-! ### The start of a list -/

/-- The status of an error that meets a list's header, before HALT_ON_ERR is known. -/
def MemErr.dmaCode : MemErr → Nat
  | .xlt _ _ => stDMA_XLT
  | .bus => stDMA_BUS
  | .poison => stMEM_UE
  | .offline => stMEM_OFFLINE

/-- A header of Table 15.5 is valid. -/
def listHeaderOk (h : List Byte) : Bool :=
  fieldAt h 0 4 == 0x444D4131 && decide (1 ≤ fieldAt h 4 4) && decide (fieldAt h 4 4 ≤ 65535) &&
    nbits (byteAt h 8) 1 7 == 0 && zerosAt h 9 23

/-- A read by a DMA channel is charged to the group of its work (R31). -/
def Mod.dmaCharged (ctx va n : Nat) (m : Mod) : Mod := m.chargeRead ⟨ctx, false, true⟩ ctx (n / 0x10000 + 2) va n

/-- A free channel takes a list that has nothing read yet: RUN, its group, POS and OFFSET 0. -/
def Mod.dmaClaim (ch : Nat) (origin : DmaFor) (ctx addr : Nat) (m : Mod) : Mod :=
  let r : DmaRun := ⟨origin, ctx, addr, 0, false, 0, none, none, 0⟩
  ((((m.setDmaRun ch (some r)).setDmaState ch 1).wr (Reg.DMA_CH_STATUS ch) Fields.DMA_CH_STATUS.GROUP (ctx % 64)).setReg
    (Reg.DMA_CH_POS ch) 0#32).setDmaOffset ch 0

/-- A list starts on a free channel: its header is read and checked (R364). -/
def Mod.dmaStart (ch : Nat) (origin : DmaFor) (ctx addr : Nat) (host : List Host.Cell) (m : Mod) : Mod :=
  let r : DmaRun := ⟨origin, ctx, addr, 0, false, 0, none, none, 0⟩
  let m1 := m.dmaClaim ch origin ctx addr
  if addr % 32 ≠ 0 then m1.dmaEnd ch stDMA_BADLIST
  else match m1.devRecord ctx host addr 32 with
    | .error (.xlt c l, k) => (m1.xltFault ctx (addr + k) .read c l 0 ch).dmaEnd ch stDMA_XLT
    | .error (e, k) => (m1.readUe ctx (addr + k) e).dmaEnd ch e.dmaCode
    | .ok h =>
      if !listHeaderOk h then m1.dmaEnd ch stDMA_BADLIST
      else (m1.dmaCharged ctx addr 32).setDmaRun ch (some { r with count := fieldAt h 4 4, haltOnErr := nbit (byteAt h 8) 0 })

/-! ### Descriptors -/

/-- A channel between descriptors, or waiting under PREQ, ends with the code a stop or early end left (R368). -/
def Mod.dmaBoundary (ch : Nat) (m : Mod) : Mod :=
  match m.dmaRun ch with
  | some r =>
    let at_ := match r.cur with
      | none => true
      | some d => !d.started
    match r.stop with
    | some c => if at_ then m.dmaEnd ch c else m
    | none => m
  | none => m

/-- The elements that a descriptor's SRC or DST names: a list read through the context, or the one address. -/
def Mod.ldElements (m : Mod) (ctx : Nat) (host : List Host.Cell) (sg : Bool) (va n len : Nat) :
    Except (MemErr × Nat) (Option (List (Nat × Nat))) :=
  if sg then match m.devRecord ctx host va (16 * n) with
    | .error (e, k) => .error (e, va + k)
    | .ok bs => .ok (sgElements len bs)
  else .ok (some [(va, len)])

/-- DMA_DESCRIPTOR_READ: the read engine reaches the next descriptor of channel `ch` (R364, R365, R370). -/
def Mod.dmaDescriptor (ch : Nat) (host : List Host.Cell) (m : Mod) : Mod :=
  match m.dmaRun ch with
  | none => m
  | some r =>
    if m.dmaState ch ≠ 1 ∧ m.dmaState ch ≠ 5 then m
    else if r.cur.isSome || decide (r.count ≤ r.done) then m
    else
      let va := r.addr + 32 + 32 * r.done
      if m.touchesQuiet r.ctx [(va, 32)] then m.setDmaState ch 5
      else match m.devRecord r.ctx host va 32 with
        | .error (e, k) => m.dmaError ch (va + k) false e
        | .ok d =>
          if !ldOk d then m.dmaEnd ch stDMA_BADLIST
          else
            let op := ldOp d
            let src := if op = 0 then m.ldElements r.ctx host (ldSrcSg d) (ldSrc d) (fieldAt d 24 2) (ldLength d)
              else .ok (some [])
            let dst := if op ≤ 1 then m.ldElements r.ctx host (ldDstSg d) (ldDst d) (fieldAt d 26 2) (ldLength d)
              else .ok (some [])
            match src, dst with
            | .error (e, a), _ => m.dmaError ch a false e
            | _, .error (e, a) => m.dmaError ch a false e
            | .ok (some s), .ok (some t) =>
              if m.touchesQuiet r.ctx (s ++ t) then m.setDmaState ch 5
              else
                let x : DmaDesc := ⟨d, s, t, !ldPreq d, 0⟩
                let m1 := ((m.dmaCharged r.ctx va 32).when (decide (op = 0) && ldSrcSg d)
                  (Mod.dmaCharged r.ctx (ldSrc d) (16 * fieldAt d 24 2))).when (decide (op ≤ 1) && ldDstSg d)
                  (Mod.dmaCharged r.ctx (ldDst d) (16 * fieldAt d 26 2))
                ((m1.setDmaRun ch (some { r with cur := some x })).setDmaState ch (if ldPreq d then 2 else 1)).setDmaOffset ch 0
            | _, _ => m.dmaEnd ch stDMA_BADLIST

/-- Whether the source of a waiting descriptor is asserted (Table 15.7). -/
def Mod.reqAsserted (m : Mod) (ch : Nat) (d : List Byte) : Bool :=
  let n := ldReq d
  if n = 0x30 then m.flag (Reg.DMA_CH_CTRL ch) Fields.DMA_CH_CTRL.SWREQ
  else
    let used := ((m.reg (Reg.SEQ_PRF_WR n)).toNat + 0x100000000 - (m.reg (Reg.SEQ_PRF_RD n)).toNat) % 0x100000000
    decide (ldLength d / 64 ≤ used)

/-- PREQ_ASSERT: a waiting descriptor's source is asserted and its burst starts; SWREQ clears (R367). -/
def Mod.preqAssert (ch : Nat) (m : Mod) : Mod :=
  match m.dmaRun ch with
  | some r =>
    match r.cur with
    | some d =>
      if !d.started && m.reqAsserted ch d.bytes && !m.touchesQuiet r.ctx (d.src ++ d.dst) then
        ((m.setDmaRun ch (some { r with cur := some { d with started := true } })).setDmaState ch
          (if m.dmaState ch = 2 then 1 else m.dmaState ch)).when (ldReq d.bytes == 0x30)
          (Mod.wr (Reg.DMA_CH_CTRL ch) Fields.DMA_CH_CTRL.SWREQ 0)
      else m
    | none => m
  | none => m

/-! ### The engines (R365) -/

/-- The byte of a channel's slice of the shared buffer that holds byte `o` of a descriptor's stream. -/
def dmaSlot (ch o : Nat) : Nat := 0xD00000 + 0x8000 * ch + o % 0x8000

/-- Whether the engines of a channel move data: it runs, or finishes a descriptor. -/
def Mod.dmaMoves (m : Mod) (ch : Nat) : Bool := m.dmaState ch == 1 || m.dmaState ch == 3 || m.dmaState ch == 5

/-- Bytes of a slice from stream offset `o`. -/
def Mod.sliceRead (m : Mod) (ch o : Nat) : Nat → List Byte
  | 0 => []
  | n + 1 => memByte m.sram (dmaSlot ch o) :: m.sliceRead ch (o + 1) n

/-- Bytes put into a slice. -/
def Mod.slicePut (ch o : Nat) : List Byte → Mod → Mod
  | [], m => m
  | b :: t, m => slicePut ch (o + 1) t { m with sram := SMap.set byteDefault m.sram (dmaSlot ch o) b }

/-- The write engine writes bytes to the parts of a stream, in ascending offset; an error comes with its address and
the bytes written before it. -/
def Mod.dmaWrite (ctx : Nat) : List (Nat × Nat) → List Byte → Nat → Mod → Except (MemErr × Nat × Nat × Mod) Mod
  | [], _, _, m => .ok m
  | (a, l) :: t, bs, done, m =>
    match m.devPut 23 ctx a (bs.take l) with
    | .error (e, k, m1) => .error (e, a + k, done + k, m1)
    | .ok m1 => dmaWrite ctx t (bs.drop l) (done + l) m1

/-- Bytes reach the destination from the offset acknowledged on; an error halts the channel there. -/
def Mod.dmaDeliver (ch : Nat) (r : DmaRun) (d : DmaDesc) (bs : List Byte) (m : Mod) : Mod :=
  let off := m.dmaOffset ch
  match m.dmaWrite r.ctx (streamPart d.dst off bs.length) bs 0 with
  | .ok m1 => m1.setDmaOffset ch (off + bs.length)
  | .error (e, a, k, m1) =>
    ((m1.setDmaRun ch (some { r with cur := some { d with fetched := off + k } })).setDmaOffset ch (off + k)).dmaError ch a true e

/-- What the slice holds is delivered. An uncorrectable error in the slice halts the channel with cause 9
(Table 18.2). -/
def Mod.dmaDrain (ch : Nat) (m : Mod) : Mod :=
  match m.dmaRun ch with
  | some r =>
    match r.cur with
    | some d =>
      let off := m.dmaOffset ch
      let n := d.fetched - off
      let ok := (List.range n).countP (fun i => (List.range (i + 1)).all (fun j =>
        !SMap.get badDefault m.sramBad (sramKey (dmaSlot ch (off + j)))))
      let m1 := m.dmaDeliver ch r d (m.sliceRead ch off ok)
      if ok < n && m1.dmaOffset ch == off + ok then
        match m1.dmaRun ch with
        | some r1 => (m1.setDmaRun ch (some { r1 with cur := some { d with fetched := off + ok } })).dmaError ch
            (streamAddr d.dst (off + ok)) true .poison
        | none => m1
      else m1
    | none => m
  | none => m

/-- The bytes of parts of a stream, up to an error with its address. -/
def Mod.dmaReadParts (m : Mod) (ctx : Nat) (host : List Host.Cell) : List (Nat × Nat) → List Byte × Option (MemErr × Nat)
  | [] => ([], none)
  | (a, l) :: t =>
    match m.devRecord ctx host a l with
    | .error (e, k) =>
      (match m.devRecord ctx host a k with
        | .ok bs => bs
        | .error _ => [], some (e, a + k))
    | .ok bs =>
      let r := m.dmaReadParts ctx host t
      (bs ++ r.1, r.2)

/-- COPY: what the slice holds is delivered, then the read engine fetches up to `n` further bytes into it; a host or
core write into the slice in between changes what is delivered (R365). -/
def Mod.dmaCopy (ch n : Nat) (host : List Host.Cell) (m0 : Mod) : Mod :=
  if !m0.dmaMoves ch then m0
  else
    match m0.dmaRun ch with
    | none => m0
    | some r0 =>
      match r0.cur with
      | none => m0
      | some d0 =>
        if ldOp d0.bytes ≠ 0 ∨ d0.started = false then m0
        else
          let m := m0.dmaDrain ch
          match m.dmaRun ch with
          | some r =>
            match r.cur with
            | some d =>
              if !m.dmaMoves ch then m
              else
                let k := min (min n 0x8000) (ldLength d.bytes - d.fetched)
                let (bs, err) := m.dmaReadParts r.ctx host (streamPart d.src d.fetched k)
                let mc := (streamPart d.src d.fetched bs.length).foldl (fun s e => s.dmaCharged r.ctx e.1 e.2) m
                let m1 := (mc.slicePut ch d.fetched bs).setDmaRun ch
                  (some { r with cur := some { d with fetched := d.fetched + bs.length } })
                match err with
                | none => m1
                | some (e, a) =>
                  let m2 := m1.dmaDrain ch
                  if m2.dmaMoves ch then m2.dmaError ch a false e else m2
            | none => m
          | none => m

/-- FILL: up to `n` bytes of the pattern (R364). -/
def Mod.dmaFill (ch n : Nat) (m : Mod) : Mod :=
  if !m.dmaMoves ch then m
  else match m.dmaRun ch with
    | some r =>
      match r.cur with
      | some d =>
        if ldOp d.bytes ≠ 1 ∨ d.started = false then m
        else
          let off := m.dmaOffset ch
          let k := min n (ldLength d.bytes - off)
          m.dmaDeliver ch r d ((List.range k).map (fun i => d.bytes.getD (8 + (off + i) % 8) 0))
      | none => m
    | none => m

/-- The REGWR that a channel has reached: its offset and value (R366). -/
def Mod.dmaRegwr (m : Mod) (ch : Nat) : Option (Nat × Word) :=
  if !m.dmaMoves ch || m.dmaOffset ch != 0 then none
  else match m.dmaRun ch with
    | some r => (match r.cur with
      | some d => if ldOp d.bytes = 2 ∧ d.started = true then some (ldDst d.bytes, BitVec.ofNat 32 (ldSrc d.bytes)) else none
      | none => none)
    | none => none

/-- DMA_DESCRIPTOR_COMPLETE: the current descriptor's last write has been acknowledged (R365); a stop that waits for
the boundary acts, and after the last descriptor the list ends OK. -/
def Mod.dmaComplete (ch : Nat) (m : Mod) : Mod :=
  match m.dmaRun ch with
  | some r =>
    match r.cur with
    | some d =>
      if !m.dmaMoves ch || m.dmaOffset ch != ldLength d.bytes then m
      else
        let r1 : DmaRun := { r with done := r.done + 1, cur := none }
        let m1 := m.setDmaRun ch (some r1)
        if r1.count ≤ r1.done then m1.dmaEnd ch stOK
        else
          let m2 := (m1.wr (Reg.DMA_CH_POS ch) Fields.DMA_CH_POS.DESC r1.done).setDmaOffset ch 0
          m2.dmaBoundary ch
    | none => m
  | none => m

/-! ### Stops (R368, R371) -/

/-- A stop or an early end: at a boundary or when halted the list ends at once, otherwise at the next boundary. -/
def Mod.dmaStopAt (ch code : Nat) (m : Mod) : Mod :=
  match m.dmaRun ch with
  | none => m
  | some r =>
    if m.dmaState ch = 4 then m.dmaEnd ch code
    else
      let m1 := m.setDmaRun ch (some { r with stop := some (r.stop.getD code) })
      (m1.when (m.dmaState ch == 1) (Mod.setDmaState ch 3)).dmaBoundary ch

/-- ABORT: both engines stop; one that finds the list completed is late (R371). -/
def Mod.dmaAbort (ch : Nat) (m : Mod) : Mod :=
  if (m.dmaRun ch).isSome then m.dmaEnd ch stDMA_ABORTED
  else m.mark (Reg.DMA_CH_STATUS ch) Fields.DMA_CH_STATUS.ABORT_LATE

/-- RESUME: a halted channel reads again from POS (R369). -/
def Mod.dmaResume (ch : Nat) (m : Mod) : Mod :=
  match m.dmaRun ch with
  | some r =>
    if m.dmaState ch ≠ 4 then m
    else
      let cur := r.cur.map (fun d => { d with fetched := m.dmaOffset ch })
      (m.setDmaRun ch (some { r with cur := cur, error := 0 })).setDmaState ch 1
  | none => m

/-- ABANDON: a halted list ends with its latched code (R369). -/
def Mod.dmaAbandon (ch : Nat) (m : Mod) : Mod :=
  match m.dmaRun ch with
  | some r => if m.dmaState ch = 4 then m.dmaEnd ch r.error else m
  | none => m

/-- A transfer error that the environment reports at the channel's next byte (R369): 0 a PCIe error completion or
timeout, 1 poisoned data, 2 a translation fault, where the tables give one. -/
def Mod.dmaTransferError (ch kind : Nat) (write : Bool) (m0 : Mod) : Mod :=
  let m := m0.dmaDrain ch
  match m.dmaRun ch with
  | some r =>
    match r.cur with
    | some d =>
      if !m.dmaMoves ch || !d.started then m
      else
        let va := streamAddr (if write then d.dst else d.src) (m.dmaOffset ch)
        match kind with
        | 0 => m.dmaError ch va write .bus
        | 1 => m.dmaError ch va write .poison
        | _ => match m.xlate r.ctx va (if write then .write else .read) with
          | .error (c, l) => m.dmaError ch va write (.xlt c l)
          | .ok _ => m
    | none => m
  | none => m

/-! ### Power-down of a domain (R370) -/

/-- A domain powers down: a channel whose current descriptor touches it goes to its boundary. -/
def Mod.dmaQuiesce (ds : List Nat) (m : Mod) : Mod :=
  let m1 : Mod := { m with dma := { m.dma with quiet := ds ++ m.dma.quiet.filter (fun d => !ds.contains d) } }
  m1.each (List.range 32) (fun ch s =>
    match s.dmaRun ch with
    | some r =>
      (match r.cur with
        | some d => s.when (s.dmaState ch == 1 && s.touchesQuiet r.ctx (d.src ++ d.dst)) (Mod.setDmaState ch 5)
        | none => s)
    | none => s)

/-- A domain has returned: a channel that waited for it alone goes on. -/
def Mod.dmaUnquiet (ds : List Nat) (m : Mod) : Mod :=
  let m1 : Mod := { m with dma := { m.dma with quiet := m.dma.quiet.filter (fun d => !ds.contains d) } }
  m1.each (List.range 32) (fun ch s =>
    match s.dmaRun ch with
    | some r =>
      let els := match r.cur with
        | some d => d.src ++ d.dst
        | none => [(r.addr + 32 + 32 * r.done, 32)]
      s.when (s.dmaState ch == 5 && !s.touchesQuiet r.ctx els) (Mod.setDmaState ch 1)
    | none => s)

/-- PD_TIMEOUT: `us` µs after the power-down began a channel's descriptor has not reached its boundary. -/
def Mod.dmaPdTimeout (ch us : Nat) (m : Mod) : Mod :=
  match m.dmaRun ch with
  | some r =>
    match r.cur with
    | some d =>
      if m.dmaState ch ≠ 5 ∨ us < max 1 (m.rd Reg.DMA_CFG Fields.DMA_CFG.PD_TIMEOUT) ∨ d.started = false then m
      else
        let off := m.dmaOffset ch
        let src := streamAddr d.src d.fetched
        let write := !m.touchesQuiet r.ctx [(src, 1)]
        (m.setDmaRun ch (some { r with cur := some { d with fetched := off } })).dmaHalt ch
          (if write then streamAddr d.dst off else src) write 10 stDOMAIN_OFF
    | none => m
  | none => m

/-! ### Translation (R360 to R363) -/

/-- A translation enters the cache, which may evict an entry to make room: the oldest of 2,048. -/
def Mod.cacheXlt (t : Tlb) (m : Mod) : Mod :=
  let old := m.tlb.filter (fun e => !(e.ctx == t.ctx && e.large == t.large && e.page == t.page))
  let l := old ++ [t]
  { m with tlb := l.drop (l.length - 2048) }

/-- A disabled or invalidated context loses its cached entries. -/
def Mod.dropCtx (ctx : Nat) (m : Mod) : Mod := { m with tlb := m.tlb.filter (fun t => t.ctx != ctx) }

/-- XLT_INV (R362): 1 a context, 2 a page of it, 3 all; INV_DONE reads 0 from the write. -/
def Mod.xltInv (op ctx va : Nat) (m : Mod) : Mod :=
  let go (s : Mod) : Mod := s.wr Reg.XLT_INV Fields.XLT_INV.INV_DONE 0
  match op with
  | 1 => go (m.dropCtx ctx)
  | 2 => go { m with tlb := m.tlb.filter (fun t => !(t.ctx == ctx &&
      (if t.large then t.page == va / 0x200000 else t.page == va / 0x10000))) }
  | 3 => go { m with tlb := [] }
  | _ => m

/-- Writing VALID with 1 clears VALID, MORE and the map bit (R363). -/
def Mod.fltClear (ctx : Nat) (m : Mod) : Mod :=
  ((m.wr (Reg.XLT_CTX_FLT_INFO ctx) Fields.XLT_CTX_FLT_INFO.VALID 0).wr (Reg.XLT_CTX_FLT_INFO ctx)
    Fields.XLT_CTX_FLT_INFO.MORE 0).wr (Reg.XLT_FLT_MAP_LO + 4 * (ctx / 32)) ⟨ctx % 32, 1⟩ 0

/-- EN of a context is written (R362). -/
def Mod.ctxEnable (ctx : Nat) (on : Bool) (m : Mod) : Mod :=
  (m.wr (Reg.XLT_CTX_ROOT_LO ctx) Fields.XLT_CTX_ROOT_LO.EN (b2n on)).when (!on) (Mod.dropCtx ctx)

end Sys2Proof.Machine
end

