-- ==== Sys2Proof/Machine/Harts.lean ====
section
/-!
DEFINITION. What a core holds of the RISC-V privileged specification: traps, PMP, the reservation of LR, and the data and
instruction caches of Table 6.1 (R135, R136, R140).
-/

namespace Sys2Proof.Machine

/-! ### Traps and modes (R135, R136) -/

def Mod.setMode (c : Nat) (p : PrivMode) (m : Mod) : Mod := m.setHart c { m.hart c with mode := p }

/-- The exception of an access: the cause and the value of xtval go to the supervisor's registers, as the monitor delegates
them (assumption 64), and to the machine's where the core runs in machine mode. -/
def Mod.coreFaults (c cause tval : Nat) (m : Mod) : Mod :=
  let h := m.hart c
  (m.setHart c (if h.mode = .machine then { h with mcause := cause, mtval := tval }
    else { h with mode := .supervisor, scause := cause, stval := tval })).emit (.coreFault c cause tval)

/-! ### PMP (Table 6.1: 16 entries, granularity 4 KiB) -/

def Hart.pmpEntry (h : Hart) (i : Nat) : Nat × Nat := SMap.get (fun _ => (0, 0)) h.pmp i

/-- Whether entry `i` matches an address: TOR from the entry before it, or NAPOT, in units of 4 KiB. -/
def Hart.pmpMatches (h : Hart) (i a : Nat) : Bool :=
  let (cfg, addr) := h.pmpEntry i
  match nbits cfg 3 2 with
  | 1 =>
    let low := if i = 0 then 0 else (h.pmpEntry (i - 1)).2 / 1024 * 4096
    decide (low ≤ a) && decide (a < addr / 1024 * 4096)
  | 3 =>
    let k := addr ||| 0x1FF
    let ones := (firstBelow (fun j => !nbit k j) 54).getD 54
    a / 2 ^ (ones + 3) == k / 2 ^ (ones + 1)
  | _ => false

/-- The bit of a PMP entry that an access needs: R, W or X. -/
def pmpBit : CoreAcc → Nat
  | .load | .lr => 0
  | .fetch => 2
  | _ => 1

/-- Whether PMP lets an access pass: the lowest entry that matches decides; outside every entry machine mode passes. -/
def Hart.pmpOk (h : Hart) (acc : CoreAcc) (a : Nat) : Bool :=
  match firstBelow (fun i => h.pmpMatches i a) 16 with
  | some i => nbit (h.pmpEntry i).1 (pmpBit acc) || (h.mode == .machine && !nbit (h.pmpEntry i).1 7)
  | none => h.mode == .machine

/-- The monitor of the boot ROM opens the whole address space in entry 0 before it jumps to 0x1000 (assumption 64). -/
def pmpOpen : List (Nat × (Nat × Nat)) := [(0, (0x1F, 2 ^ 54 - 1))]

/-! ### Reservations (LR and SC) -/

/-- A write to SRAM drops every reservation that it overlaps. -/
def Mod.dropResv (off n : Nat) (m : Mod) : Mod :=
  m.each (List.range 20) (fun c s =>
    let h := s.hart c
    match h.resv with
    | some (o, k) => s.when (decide (off < o + k) && decide (o < off + n)) (Mod.setHart c { h with resv := none })
    | none => s)

/-! ### Caches (Table 6.1, R140)

The device window is cached: lines of 64 bytes, 512 of them in 32 KiB, written back when they leave. Which line leaves is
not given: the oldest (assumption 64). -/

def cacheLines : Nat := 512

/-- A dirty line is written back through its context; a fault found only then is latched (R136). -/
def Mod.lineOut (c : Nat) (x : CLine) (m : Mod) : Mod :=
  if !x.dirty then m
  else match m.devPut (1 + c) x.ctx (64 * x.line) x.bytes with
    | .ok m1 => m1.servedCtx x.ctx
    | .error (.xlt k l, o, m1) =>
      m1.xltFault x.ctx (64 * x.line + o) .write k l (if c < 16 then 2 else 3) (if c < 16 then c else c - 16)
    | .error (_, _, m1) => m1

/-- The data cache is written back and invalidated, and the instruction cache invalidated (R140). -/
def Mod.cacheFlush (c : Nat) (m : Mod) : Mod :=
  let h := m.hart c
  let m1 := h.dcache.foldl (fun s x => s.lineOut c x) m
  m1.setHart c { m1.hart c with dcache := [], icache := [] }

def findLine (l : List CLine) (ctx k : Nat) : Option CLine := l.find? (fun x => x.ctx == ctx && x.line == k)

/-- A line in the cache, oldest first; where the cache is full its oldest line leaves. -/
def Mod.addLine (c : Nat) (code : Bool) (x : CLine) (m : Mod) : Mod :=
  let h := m.hart c
  if code then m.setHart c { h with icache := h.icache.drop (h.icache.length + 1 - cacheLines) ++ [x] }
  else
    let out := h.dcache.take (h.dcache.length + 1 - cacheLines)
    let m1 := m.setHart c { h with dcache := h.dcache.drop out.length ++ [x] }
    out.foldl (fun s y => s.lineOut c y) m1

/-- A line for an access: the cached one, or one read through the context (R136). -/
def Mod.lineFor (c ctx k : Nat) (code : Bool) (host : List Host.Cell) (m : Mod) : Except (MemErr × Nat) (CLine × Mod) :=
  let h := m.hart c
  match findLine (if code then h.icache else h.dcache) ctx k with
  | some x => .ok (x, m)
  | none =>
    match m.devRecord ctx host (64 * k) 64 with
    | .error (e, o) => .error (e, 64 * k + o)
    | .ok bs =>
      let x : CLine := ⟨ctx, k, bs, false⟩
      .ok (x, ((m.charged ctx (64 * k) 64).servedCtx ctx).addLine c code x)

/-- `n` bytes of the device window through a cache; an error comes with the device address that met it. -/
def Mod.cacheRead (c ctx : Nat) (code : Bool) (host : List Host.Cell) : Nat → Nat → Nat → Mod →
    Except (MemErr × Nat × Mod) (List Byte × Mod)
  | 0, _, _, m => .ok ([], m)
  | fuel + 1, va, n, m =>
    if n = 0 then .ok ([], m)
    else
      let k := min n (64 - va % 64)
      match m.lineFor c ctx (va / 64) code host with
      | .error (e, a) => .error (e, max a va, m)
      | .ok (x, m1) =>
        match cacheRead c ctx code host fuel (va + k) (n - k) m1 with
        | .ok (bs, m2) => .ok ((x.bytes.drop (va % 64)).take k ++ bs, m2)
        | .error e => .error e

/-- Bytes stored within one line of the data cache. -/
def CLine.put (x : CLine) (o : Nat) (bs : List Byte) : CLine :=
  { x with bytes := x.bytes.take o ++ bs ++ x.bytes.drop (o + bs.length), dirty := true }

/-- A store to the device window: translated for writing now, so that its fault is precise (R136), and held in the data
cache. -/
def Mod.cacheStore (c ctx va : Nat) (bs : List Byte) (host : List Host.Cell) (m : Mod) : Except (MemErr × Nat × Dir) Mod :=
  match m.xlate ctx va .write with
  | .error (k, l) => .error (.xlt k l, va, .write)
  | .ok p =>
    if m.placeOff p bs.length then .error (.offline, va, .write)
    else match m.lineFor c ctx (va / 64) false host with
      | .error (e, a) => .error (e, a, .read)
      | .ok (x, m1) =>
        let h := m1.hart c
        .ok (m1.setHart c { h with
          dcache := h.dcache.map (fun y => if y.ctx == ctx && y.line == x.line then y.put (va % 64) bs else y) })

end Sys2Proof.Machine
end

