-- ==== Sys2Proof/Machine/Cores.lean ====
section
/-!
DEFINITION. Site cores and management cores (Chapter 6): local memory, accesses, the step frame and the runtime's
services, the end of a step, watchdogs and shedding. The RISC-V instructions of a core lie outside the table of
commands; what they do to the module arrives as commands.
-/

namespace Sys2Proof.Machine

/-! ### Status codes (Table 6.6) -/

def stSTEP_FAULT : Nat := 0xD0
def stSTEP_XLT_FAULT : Nat := 0xD1
def stSTEP_KILLED : Nat := 0xD2
def stSTEP_BAD_IMAGE : Nat := 0xD3
def stSTEP_ECC : Nat := 0xD4
def stSTEP_ERROR : Nat := 0xD5

/-! ### Local memory (Tables 1.4, 6.3). Cores 0 to 15 are SCORE0 to 15, 16 to 19 MCORE0 to 3 (mhartid). -/

def coreBase (c : Nat) : Nat := if c < 16 then 0xE00000 + 0x10000 * c else 0xF00000 + 0x20000 * (c - 16)
def coreSize (c : Nat) : Nat := if c < 16 then 0x10000 else 0x20000

/-- A site core is available (R139): GO is 1, HOLD is 0 and its boot ROM has jumped to the runtime. -/
def Mod.coreUp (m : Mod) (c : Nat) : Bool :=
  m.flag (Reg.MCS_SCORE_CTRL c) Fields.MCS_SCORE_CTRL.GO && !m.flag (Reg.MCS_SCORE_CTRL c) Fields.MCS_SCORE_CTRL.HOLD &&
    (m.score c).booted

def Mod.setMcoreRunning (k : Nat) (b : Bool) (m : Mod) : Mod :=
  m.wr (Reg.MCS_MCORE_STATUS k) Fields.MCS_MCORE_STATUS.RUNNING (b2n b)

/-- A core is out of reset at its step 12 of R58 (start units 30 to 49), its die up. -/
def Mod.coreStarted (m : Mod) (c : Nat) : Bool := m.unitStarted (30 + c) && !m.isLost 0

/-- A core's boot ROM leaves PMP open; a site core goes on in supervisor mode, a management core in machine mode
(Chapter 6, "Running a step"; assumption 64). -/
def Mod.leaveRom (c : Nat) (m : Mod) : Mod :=
  let h := m.hart c
  m.setHart c { h with
    pmp := pmpOpen
    mode := if c < 16 then .supervisor else .machine }

/-- CORE_BOOT (R138): a core in its boot ROM sees GO and jumps to local address 0x1000; the watchdog period of a
management core begins. -/
def Mod.coreBoot (c : Nat) (m : Mod) : Mod :=
  if !m.coreStarted c then m
  else if c < 16 then
    let r := Reg.MCS_SCORE_CTRL c
    m.when (m.flag r Fields.MCS_SCORE_CTRL.GO && !m.flag r Fields.MCS_SCORE_CTRL.HOLD && !(m.score c).booted)
      (fun s => (s.setScore c { s.score c with booted := true }).leaveRom c)
  else
    let k := c - 16
    let r := Reg.MCS_MCORE_CTRL k
    m.when (m.flag r Fields.MCS_MCORE_CTRL.GO && !m.flag r Fields.MCS_MCORE_CTRL.HOLD &&
        !m.flag (Reg.MCS_MCORE_STATUS k) Fields.MCS_MCORE_STATUS.RUNNING)
      (fun s => ((s.setMcoreRunning k true).setMcore k { s.mcore k with kickAt := s.ttime }).leaveRom c)

/-- A slot of the step runtime is valid (R79). -/
def RtSlot.ok (x : RtSlot) : Bool :=
  x.magic == 0x53525431 && decide (1 ≤ x.length) && decide (x.length ≤ 24576) && x.crcOk && x.zeros

/-- Of two slots the valid one, of two valid ones that with the higher GEN (R72, R79). -/
def pickOf (ok0 ok1 : Bool) (gen0 gen1 : Nat) : Option Nat :=
  if ok0 && ok1 then some (if gen0 < gen1 then 1 else 0)
  else if ok0 then some 0
  else if ok1 then some 1
  else none

/-- The runtime slot the loader takes (R79). -/
def Mod.rtPick (m : Mod) : Option Nat :=
  let x (s : Nat) : RtSlot := SMap.get (fun _ => RtSlot.blank) m.sys.runtime s
  pickOf (x 0).ok (x 1).ok (x 0).gen (x 1).gen

/-- The firmware slot the loader takes (R78). -/
def Mod.fwPick (m : Mod) : Option Nat :=
  let x (s : Nat) : CodeSlot := SMap.get (fun _ => CodeSlot.blank) m.sys.firmware s
  pickOf (x 0).valid (x 1).valid (x 0).gen (x 1).gen

/-- Code copied into a core's local memory at 0x1000 by the flash loader (R138): a site core takes LENGTH bytes of the
runtime slot chosen, a management core its firmware. -/
def Mod.loadCode (c : Nat) (m : Mod) : Mod :=
  if c < 16 then
    match m.rtPick with
    | some s => m.sramPut (coreBase c + 0x1000)
        ((Config.factoryCode s).take (SMap.get (fun _ => RtSlot.blank) m.sys.runtime s).length)
    | none => m
  else match m.fwPick with
    | some s => m.sramPut (coreBase c + 0x1000) ((Config.factoryCode (2 + s)).take 0x1F000)
    | none => m

/-! ### The end of a step (R140 to R145) -/

/-- A node's job. -/
def Mod.nodeJob (m : Mod) (i k : Nat) : Job := match m.inst i with
  | some x => ⟨some i, k, x.group, x.site⟩
  | none => ⟨some i, k, 0, 0⟩

/-- A pending request for pre-emption of a core lapses (R125, R142). -/
def Mod.lapse (c : Nat) (m : Mod) : Mod :=
  { m with hat := { m.hat with preempt := SMap.set (fun _ => none) m.hat.preempt c none } }

/-- The running step of a core ends with a status, its token's VALUE and FAIL, once its data cache has been written back
(R140). -/
def Mod.stepOver (c status : Nat) (value : DWord) (fail : Bool) (m0 : Mod) : Mod :=
  let x := m0.score c
  match x.step with
  | none => m0
  | some (i, k) =>
    let m := (m0.cacheFlush c).setMode c (if x.booted then .supervisor else .machine)
    ((m.setScore c { x with
      step := none
      reqAbort := false
      reqDrain := false
      reqPreempt := false
      logging := false }).lapse c).report (m.nodeJob i k) status value fail 0 true

/-- A field of the step frame (Table 6.4), written by the runtime. -/
def Mod.framePut (c off : Nat) (bs : List Byte) (m : Mod) : Mod := m.sramPut (coreBase c + off) bs

/-- Whether the runtime has acknowledged a suspend: ACK of the frame is not 0 (Table 6.4). -/
def Mod.acked (m : Mod) (c : Nat) : Bool := memByte m.sram (coreBase c + 121) != 0

/-- REQ of the frame follows what Hatch asks (Table 6.4); the interrupt reaches the core at source 1 of its controller
(R137). -/
def Mod.putReq (c : Nat) (x : SCore) (m : Mod) : Mod :=
  ((m.setScore c x).framePut c 104 (leBytes 1 (b2n x.reqAbort + 2 * b2n x.reqDrain + 4 * b2n x.reqPreempt))).when
    (x.reqAbort || x.reqDrain || x.reqPreempt) (Mod.irqRaise c 1)

/-- What a service call hands back: -1 under DRAIN, else its value, if it has one (R141). -/
def Mod.callValue (c : Nat) (drain : Bool) (v : Option DWord) (m : Mod) : Mod :=
  if drain then m.emit (.coreValue c 0xFFFFFFFFFFFFFFFF#64)
  else match v with
    | some w => m.emit (.coreValue c w)
    | none => m

/-- A step is suspended (R140, R141): the runtime saves its context in the save area of the step's own slot, in a form that
is not given (free values), the caches are written back, and last ACK is written. The call's value is still owed. -/
def Mod.saveContext (c : Nat) (v : Option DWord) (m : Mod) : Mod :=
  let x := m.score c
  let m1 := (m.framePut c (0xF000 + 0x400 * x.slot) ((List.range 128).flatMap (fun i => leBytes 8 (m.free (32 + i)).toNat))).cacheFlush c
  ((m1.setScore c { x with owed := SMap.set (fun _ => none) x.owed x.slot v }).setMode c .supervisor).framePut c 121
    (leBytes 1 (8 + x.slot))

/-- A service call returns (R141): at this boundary the runtime reads REQ. ABORT ends the step with no token; PREEMPT
saves the context and writes ACK; DRAIN makes the call return -1. -/
def Mod.serviceReturn (c : Nat) (v : Option DWord) (m : Mod) : Mod :=
  let x := m.score c
  if x.step.isNone || m.acked c || x.logging then m
  else if x.reqAbort then m.stepOver c stABORTED 0 false
  else if x.reqPreempt && decide (x.susp.length < 3) then m.saveContext c v
  else m.callValue c x.reqDrain v

/-- EXIT (R141, R142): the runtime writes EXIT_VALUE, EXIT_FLAGS and last DONE, some non-zero value; a step that was
told to abort produces no token. -/
def Mod.stepExit (c : Nat) (value : DWord) (flags : Nat) (m : Mod) : Mod :=
  let x := m.score c
  if x.step.isNone || m.acked c || x.logging then m
  else
    let m1 := ((m.framePut c 112 (leBytes 8 value.toNat)).framePut c 120 (leBytes 1 flags)).framePut c 248
      (leBytes 8 ((m.free 0).toNat ||| 1))
    if x.reqAbort then m1.stepOver c stABORTED 0 false
    else m1.stepOver c (if nbit flags 1 then stSTEP_ERROR else stOK) value (nbit flags 0)

/-- INPUT (R141): INPUTi of the frame; for a number that the frame has no input for, a free value. -/
def Mod.stepInput (c i : Nat) (m : Mod) : Mod :=
  if i < 8 then m.serviceReturn c (some (BitVec.ofNat 64 (ofBytes (memRead m.sram (coreBase c + 40 + 8 * i) 8))))
  else m.serviceReturn c (some (m.free 1))

/-- The step of a core ends under an exception (R143). -/
def Mod.stepException (c : Nat) (xlt : Bool) (m : Mod) : Mod :=
  if m.acked c then m else m.stepOver c (if xlt then stSTEP_XLT_FAULT else stSTEP_FAULT) 0 false

/-- A site core is reset alone (R144): KILLS counts it, and it starts again from its boot ROM; what its caches held is
gone. -/
def Mod.scoreReset (c : Nat) (m : Mod) : Mod :=
  ((m.setHart c Hart.fresh).setScore c { m.score c with booted := false }).bump (Reg.MCS_SCORE_STATUS c) Fields.MCS_SCORE_STATUS.KILLS

/-- KILL_WAIT in force. -/
def Mod.killWait (m : Mod) : Nat := max 1 (m.rd Reg.MCS_CORE_CFG Fields.MCS_CORE_CFG.KILL_WAIT)

/-- STEP_KILLED (R144): ABORT has stood for `us` µs without DONE. -/
def Mod.stepKilled (c us : Nat) (m : Mod) : Mod :=
  if (m.score c).reqAbort && decide (m.killWait ≤ us) then (m.scoreReset c).stepOver c stSTEP_KILLED 0 false else m

/-- A management core is reset alone; the loader copies its firmware again (R147). -/
def Mod.mcoreReset (k : Nat) (m : Mod) : Mod :=
  ((m.setMcoreRunning k false).setHart (16 + k) Hart.fresh).loadCode (16 + k)

/-- Whether a core's local memory holds an uncorrectable error. -/
def Mod.localBad (m : Mod) (c : Nat) : Bool := sramBadIn m.sramBad (coreBase c) (coreSize c)

/-- STEP_ECC (R137, R144): a core meets an uncorrectable error of its local memory. A site core's running and suspended
steps end; a management core restarts. -/
def Mod.coreEcc (c : Nat) (m : Mod) : Mod :=
  if !m.localBad c then m
  else if 16 ≤ c then m.mcoreReset (c - 16)
  else
    let susp := (m.score c).susp.map Prod.snd
    let m1 := (m.scoreReset c).stepOver c stSTEP_ECC 0 false
    let m2 := m1.setScore c { m1.score c with
      susp := []
      owed := [] }
    susp.foldl (fun s e => s.reportStatus (s.nodeJob e.1 e.2) stSTEP_ECC) m2

/-! ### Accesses (R136, Table 6.2) -/

/-- Where a core's physical address lies. -/
inductive CorePlace where
  | own (off : Nat)
  | rom
  | plic
  | bar0 (off : Nat)
  | sram (off : Nat)
  | device (va : Nat)
  | nowhere
  deriving DecidableEq, Repr

def corePlace (c a : Nat) : CorePlace :=
  if a < coreSize c then .own a
  else if 0x1000000 ≤ a ∧ a < 0x1001000 then .rom
  else if 0x2000000 ≤ a ∧ a < 0x2010000 then .plic
  else if 0x100000000 ≤ a ∧ a < 0x104000000 then .bar0 (a - 0x100000000)
  else if 0x200000000 ≤ a ∧ a < 0x201000000 then .sram (a - 0x200000000)
  else if 0x1000000000000 ≤ a ∧ a < 0x2000000000000 then .device (a - 0x1000000000000)
  else .nowhere

/-- The cause of an access fault and of a misaligned access (R136; RISC-V privileged specification). -/
def accCause : CoreAcc → Nat
  | .load | .lr => 5
  | .fetch => 1
  | _ => 7
def misCause : CoreAcc → Nat
  | .load | .lr => 4
  | .fetch => 0
  | _ => 6

/-- The context of a core's device accesses: that of its step, or GROUP of MCS_MGMT_CFG (R136). -/
def Mod.coreCtx (m : Mod) (c : Nat) : Option Nat :=
  if 16 ≤ c then some (m.rd Reg.MCS_MGMT_CFG Fields.MCS_MGMT_CFG.GROUP)
  else match (m.score c).step with
    | some (i, k) => some (m.nodeJob i k).group
    | none => none

/-- An error of a device access: a translation fault is latched with the core as requester; every error is an access
fault whose value is the device address (R136; assumption 21). -/
def Mod.devFault (c ctx va : Nat) (dir : Dir) (acc : CoreAcc) (e : MemErr) (m : Mod) : Mod :=
  (match e with
    | .xlt k l => m.xltFault ctx va dir k l (if c < 16 then 2 else 3) (if c < 16 then c else c - 16)
    | _ => if dir = Dir.write then m else m.readUe ctx va e).coreFaults c (accCause acc) va

/-- The value of little-endian bytes as a core register receives it. -/
def Mod.coreGets (c : Nat) (bs : List Byte) (m : Mod) : Mod := m.emit (.coreValue c (BitVec.ofNat 64 (ofBytes bs)))

/-- An access to a range of SRAM: the core's own local memory, or the window under Table 1.4 and R29, charged to the group
of its step (R31). SC writes where the core still holds the reservation of its range, and answers 0, else 1. -/
def Mod.coreSram (c off n a : Nat) (own : Bool) (acc : CoreAcc) (m0 : Mod) : Mod :=
  let m := match (if own then none else m0.coreCtx c) with
    | some g => m0.chargeSram (payer g) n
    | none => m0
  let bad (s : Mod) : Mod := if own then s.coreEcc c else s.coreFaults c (accCause acc) a
  let put (bs : List Byte) (s : Mod) : Mod :=
    if sramPartBad s.sramBad off bs.length then bad s
    else ((if own then s.sramPut off bs else s.placeWrite (1 + c) (.sram off) bs)).dropResv off bs.length
  let get (f : Mod → Mod) : Mod :=
    if sramBadIn m.sramBad off n then bad m else f (m.coreGets c (memRead m.sram off n))
  let held := (m.hart c).resv == some (off, n)
  let drop (s : Mod) : Mod := s.setHart c { s.hart c with resv := none }
  match acc with
  | .load | .fetch => get id
  | .store bs => put (bs.take n) m
  | .lr => get (fun s => s.setHart c { s.hart c with resv := some (off, n) })
  | .sc bs => if held then drop (put (bs.take n) (m.emit (.coreValue c 0))) else drop (m.emit (.coreValue c 1))
  | .amo bs => get (put (bs.take n))

/-- An access to the device window through the caches (R136, R140): translated in the core's context; LR, SC and AMO are not
provided there. -/
def Mod.coreDevice (c va n : Nat) (acc : CoreAcc) (host : List Host.Cell) (m : Mod) : Mod :=
  match m.coreCtx c with
  | none => m.coreFaults c (accCause acc) va
  | some ctx =>
    match acc with
    | .lr | .sc _ | .amo _ => m.coreFaults c 7 va
    | .store bs =>
      match m.cacheStore c ctx va (bs.take n) host with
      | .ok m1 => m1
      | .error (e, x, d) => m.devFault c ctx x d acc e
    | .load =>
      match Mod.cacheRead c ctx false host 3 va n m with
      | .ok (bs, m1) => m1.coreGets c bs
      | .error (e, x, m1) => m1.devFault c ctx x .read acc e
    | .fetch =>
      match m.xlate ctx va .fetch with
      | .error (k, l) => m.devFault c ctx va .fetch acc (.xlt k l)
      | .ok _ =>
        match Mod.cacheRead c ctx true host 3 va n m with
        | .ok (bs, m1) => m1.coreGets c bs
        | .error (e, x, m1) => m1.devFault c ctx x .fetch acc e

/-- An access to the window of the interrupt controller, mtime and mtimecmp (Table 6.2; assumption 64): words of 32 bits of
the controller, any aligned part of mtime and mtimecmp. What another access finds is not given. -/
def Mod.corePlic (c off n a : Nat) (acc : CoreAcc) (m : Mod) : Mod :=
  let h := m.hart c
  let load : Mod :=
    if 0x4000 ≤ off ∧ off < 0x4008 then m.emit (.coreValue c (BitVec.ofNat 64 (partOf h.timecmp (off - 0x4000) n)))
    else if 0xBFF8 ≤ off ∧ off < 0xC000 then m.emit (.coreValue c (BitVec.ofNat 64 (partOf m.mtime (off - 0xBFF8) n)))
    else if n = 4 then
      let r := h.plic.read off
      (m.setHart c { h with plic := r.2 }).emit (.coreValue c (BitVec.ofNat 64 r.1))
    else m.emit (.coreValue c (m.free 2))
  match acc with
  | .load => load
  | .fetch => m.emit (.coreValue c (m.free 2))
  | .store bs =>
    let v := ofBytes bs
    if 0x4000 ≤ off ∧ off < 0x4008 then m.setHart c { h with timecmp := partPut h.timecmp (off - 0x4000) n v }
    else m.when (n == 4) (Mod.setHart c { h with plic := h.plic.write off v })
  | .lr | .sc _ | .amo _ => m.coreFaults c 7 a

/-- CORE_DEVICE_ACCESS but for the BAR0 window: `n` bytes at the core's physical address `a`. What the boot ROM holds is
not given: a load there takes a free value. -/
def Mod.coreAccess (c a n : Nat) (acc : CoreAcc) (host : List Host.Cell) (m : Mod) : Mod :=
  let align := match acc with
    | .fetch => 2
    | _ => n
  if a % align ≠ 0 then m.coreFaults c (misCause acc) a
  else if !(m.hart c).pmpOk acc a then m.coreFaults c (accCause acc) a
  else match corePlace c a with
    | .own off => m.coreSram c (coreBase c + off) n a true acc
    | .sram off => m.coreSram c off n a false acc
    | .device va => m.coreDevice c va n acc host
    | .plic => m.corePlic c (a - 0x2000000) n a acc
    | .nowhere | .bar0 _ => m.coreFaults c (accCause acc) a
    | .rom =>
      match acc with
      | .load | .fetch => m.emit (.coreValue c (m.free 2))
      | .store _ => m
      | .lr | .sc _ | .amo _ => m.coreFaults c 7 a

/-- The bytes that the runtime's load of a record finds, where they lie in local memory, the SRAM window or the device
window, with the module after it; or the error and the device address of a load that faults there. -/
def Mod.loadRecord (c a n : Nat) (host : List Host.Cell) (m : Mod) : Except (Option (MemErr × Nat) × Mod) (List Byte × Mod) :=
  let sram (off : Nat) : Except (Option (MemErr × Nat) × Mod) (List Byte × Mod) :=
    if sramBadIn m.sramBad off n then .error (none, m) else .ok (memRead m.sram off n, m)
  match corePlace c a with
  | .own off => sram (coreBase c + off)
  | .sram off => sram off
  | .device va => match m.coreCtx c with
    | some ctx => match Mod.cacheRead c ctx false host 3 va n m with
      | .ok r => .ok r
      | .error (e, x, m1) => .error (some (e, x), m1)
    | none => .error (none, m)
  | _ => .error (none, m)

/-- The bytes of a record as the runtime's load finds them. -/
def Mod.coreRecord (m : Mod) (c a n : Nat) (host : List Host.Cell) : Option (List Byte) :=
  match m.loadRecord c a n host with
  | .ok (bs, _) => some bs
  | .error _ => none

/-- DATALOG (R141): a 64-byte record at address `a` is owed to a privileged queue of the step's group. The queue holds the
call until it has taken the record (R129 to R131); the call then returns (`Mod.privAppend`). -/
def Mod.datalog (c q a : Nat) (host : List Host.Cell) (m : Mod) : Mod :=
  match (m.score c).step with
  | none => m
  | some (i, k) =>
    if m.acked c || (m.score c).logging then m
    else
      let qn := 64 * (m.nodeJob i k).group + q
      match m.loadRecord c a 64 host with
      | .error (some (e, x), m1) => m1.devFault c (m1.coreCtx c |>.getD 0) x .read .load e
      | .error (none, m1) => m1.coreFaults c 5 a
      | .ok (bs, m1) =>
        if qn < 4096 ∧ m1.flag (Reg.HAT_Q_CFG qn) Fields.HAT_Q_CFG.PRIV = true then
          let x : PrivFeed := ⟨qn, bs, some c⟩
          ({ m1 with hat := { m1.hat with feeds := m1.hat.feeds ++ [x] } } : Mod).setScore c { m1.score c with logging := true }
        else m1.serviceReturn c none

/-- The DATALOG call of a core returns once its record is taken. -/
def Mod.datalogDone (c : Nat) (m : Mod) : Mod :=
  let x := m.score c
  if x.logging then (m.setScore c { x with logging := false }).serviceReturn c none else m

/-! ### Dispatch (R140, Table 6.4) -/

/-- The parts of CORE_STEP's ARGS (Table 6.5). -/
def csImage (a : List Byte) : Nat := fieldAt a 0 6
def csEntry (a : List Byte) : Nat := fieldAt a 6 2

/-- The step frame of a new step; INPUTi of an absent input is not given: a free value (assumption 2). -/
def Mod.stepFrame (m : Mod) (i k site group : Nat) (args : List Byte) (ins : List (Option DWord)) : List Byte :=
  let live := (List.range ins.length).foldl (fun a j => a + (if (ins.getD j none).isSome then 2 ^ j else 0)) 0
  leBytes 8 (csImage args) ++ leBytes 2 (csEntry args) ++ leBytes 2 k ++ leBytes 2 i ++ leBytes 1 site ++ leBytes 1 group ++ leBytes 1 live ++ zeroBytes 7 ++
    (args.drop 8).take 16 ++
    (List.range 8).flatMap (fun j => leBytes 8 (match ins.getD j none with
      | some v => v.toNat
      | none => (m.free (16 + j)).toNat)) ++ zeroBytes 152

/-- The lowest context slot that no suspended step holds. -/
def SCore.freeSlot (x : SCore) : Nat := (firstBelow (fun s => !(x.susp.map Prod.fst).contains s) 4).getD 0

/-- The site program image's header (Chapter 6), and ENTRY within its table. -/
def stepImageOk (entry : Nat) (h : List Byte) : Bool :=
  fieldAt h 0 4 == 0x53545031 && decide (1 ≤ fieldAt h 4 2) && decide (fieldAt h 4 2 ≤ 256) && zerosAt h 6 58 &&
    decide (entry < fieldAt h 4 2)

/-- The code that ends a step before any of its code runs (R143), or none; with a fault latched. -/
def Mod.stepCheck (c ctx : Nat) (args : List Byte) (host : List Host.Cell) (m : Mod) : Option Nat × Mod :=
  if csImage args % 64 ≠ 0 ∨ zerosAt args 24 24 = false then (some stSTEP_BAD_IMAGE, m)
  else match m.devRecord ctx host (csImage args) 64 with
    | .error (.xlt k l, o) => (some stSTEP_XLT_FAULT, m.xltFault ctx (csImage args + o) .read k l 2 c)
    | .error (e, o) => (some stSTEP_FAULT, m.readUe ctx (csImage args + o) e)
    | .ok h => (if stepImageOk (csEntry args) h then none else some stSTEP_BAD_IMAGE,
        (m.charged ctx (csImage args) 64).servedCtx ctx)

/-- A CORE_STEP node is dispatched to core `c` (R140): the frame is written, the step request raised, and the step
runs in user mode. -/
def Mod.stepStart (c i k : Nat) (args : List Byte) (ins : List (Option DWord)) (host : List Host.Cell) (m : Mod) : Mod :=
  let j := m.nodeJob i k
  let x := m.score c
  let m1 := ((((m.cacheFlush c).framePut c 0 (m.stepFrame i k j.site j.group args ins)).setScore c
    { x with step := some (i, k), slot := x.freeSlot, reqAbort := false, reqDrain := false, reqPreempt := false }).irqRaise
      c 1).setMode c .user
  match m1.stepCheck c j.group args host with
  | (some code, m2) => m2.stepOver c code 0 false
  | (none, m2) => m2

/-- A suspended step resumes (R124, R145): the frame names its slot; with the core or group disabled DRAIN is set. Its
service call returns now, -1 where the frame asks for DRAIN (R141). -/
def Mod.stepResume (c slot : Nat) (args : List Byte) (ins : List (Option DWord)) (drain : Bool) (m : Mod) : Mod :=
  let x := m.score c
  match x.susp.find? (fun e => e.1 == slot) with
  | none => m
  | some (_, (i, k)) =>
    let j := m.nodeJob i k
    let m1 := ((m.cacheFlush c).framePut c 0 (m.stepFrame i k j.site j.group args ins)).framePut c 17
      (leBytes 1 (1 + 16 * slot))
    ((m1.irqRaise c 1).putReq c { x with
      step := some (i, k)
      slot := slot
      susp := x.susp.filter (fun e => e.1 != slot)
      reqAbort := false
      reqDrain := drain
      reqPreempt := false
      owed := SMap.set (fun _ => none) x.owed slot none }).setMode c .user
      |>.callValue c drain (SMap.get (fun _ => none) x.owed slot)

/-! ### Management firmware (R146, R147) -/

/-- MCOREm restarts its watchdog period. -/
def Mod.kick (k : Nat) (m : Mod) : Mod := m.setMcore k { m.mcore k with kickAt := m.ttime }

/-- WATCHDOG_EXPIRY (R147): WDOG_MS ms have passed since the last KICK. A second expiry within 1 s holds the core. -/
def Mod.watchdogExpiry (k : Nat) (m : Mod) : Mod :=
  let x := m.mcore k
  let st := Reg.MCS_MCORE_STATUS k
  let ms := max 1 (m.rd Reg.MCS_MGMT_CFG Fields.MCS_MGMT_CFG.WDOG_MS)
  if !m.flag (Reg.MCS_MCORE_CTRL k) Fields.MCS_MCORE_CTRL.WDOG_EN || !m.flag st Fields.MCS_MCORE_STATUS.RUNNING ||
      decide (m.ttime < x.kickAt + 1000000 * ms) then m
  else
    let again := match x.expiredAt with
      | some t => decide (m.ttime ≤ t + 1000000000)
      | none => false
    let m1 := (m.bump st Fields.MCS_MCORE_STATUS.WDOG_COUNT).setMcore k { x with expiredAt := some m.ttime }
    if again then
      ((m1.setMcoreRunning k false).wr (Reg.MCS_MCORE_CTRL k) Fields.MCS_MCORE_CTRL.HOLD 1).raise 1 srcMCS (16 + k) noSite 0
        st Fields.MCS_MCORE_STATUS.FAILED
    else m1.mcoreReset k

/-- LOADm of a management core. -/
def loadField (k : Nat) : Fld := ⟨7 * k, 7⟩

/-- MGMT_LOAD_UPDATE (R146): the loads of the last 10 ms, in per cent. -/
def Mod.loadUpdate (loads : List Nat) (m : Mod) : Mod :=
  m.each (List.range 4) (fun k s => s.wr Reg.MCS_MGMT_LOAD (loadField k) (min 100 (loads.getD k 0)))

/-- The highest load among running management cores. -/
def Mod.topLoad (m : Mod) : Nat :=
  (List.range 4).foldl (fun a k =>
    if m.flag (Reg.MCS_MCORE_STATUS k) Fields.MCS_MCORE_STATUS.RUNNING then max a (m.rd Reg.MCS_MGMT_LOAD (loadField k)) else a) 0

/-- The duties of the management firmware (Table 6.7): the host mailbox, the time-domain update, the drift assessment,
telemetry snapshots, the firmware trace. -/
inductive Duty where
  | mailbox
  | timeDomain
  | drift
  | telemetry
  | trace
  deriving DecidableEq, Repr

/-- The period in µs of a duty, 0 where it runs on its event or without a break; none while it does not run. SHED stops
telemetry and trace at 1 and lowers the time-domain update, 16 Hz, to 1 Hz at 2 (R146). -/
def Mod.dutyPeriod (m : Mod) (d : Duty) : Option Nat :=
  let shed := m.rd Reg.MCS_MGMT_LOAD Fields.MCS_MGMT_LOAD.SHED
  if !m.firmwareRuns then none
  else match d with
    | .mailbox => some 0
    | .timeDomain => some (if 2 ≤ shed then 1000000 else 62500)
    | .drift => some 1000000
    | .telemetry => if 1 ≤ shed then none else some 100000
    | .trace => if 1 ≤ shed then none else some 0

/-- SHED_RISE and SHED_FALL (R146): the load has stood there for `ms` ms. -/
def Mod.shed (up : Bool) (ms : Nat) (m : Mod) : Mod :=
  let r := Reg.MCS_MGMT_LOAD
  let s := m.rd r Fields.MCS_MGMT_LOAD.SHED
  if !m.firmwareRuns then m
  else if up then
    m.when (decide (100 ≤ ms) && decide (m.rd Reg.MCS_MGMT_CFG Fields.MCS_MGMT_CFG.SHED_HI ≤ m.topLoad))
      (Mod.wr r Fields.MCS_MGMT_LOAD.SHED (min 2 (s + 1)))
  else
    m.when (decide (1000 ≤ ms) && decide (m.topLoad ≤ m.rd Reg.MCS_MGMT_CFG Fields.MCS_MGMT_CFG.SHED_LO))
      (Mod.wr r Fields.MCS_MGMT_LOAD.SHED (s - 1))

end Sys2Proof.Machine
end

