-- ==== Sys2Proof/Machine/PinOps.lean ====
section
/-!
DEFINITION. What a pin does with a code (Chapters 7 to 10): codes of a row (Tables 7.2, 7.3), drive events and strobes by
format (R199 to R202), placement (R203 to R207), the latest strobe of a vector (R166), and the safe state (R185, R205).
-/

namespace Sys2Proof.Machine

/-! ### Flags of Burin (Tables 8.8, 8.9) -/

/-- Whether no channel of a die has a flag: ANY is 0. -/
def Mod.tflagsClear (m : Mod) (die : Nat) : Bool :=
  (List.range 128).all (fun c => (m.reg (Reg.CH_TSTAT die c)).toNat % 32 == 0)

/-- A flag of CHn_TSTAT is set by an event of a vector of set `s`; where ANY rises, a fault event is posted. -/
def Mod.tflag (ch s : Nat) (f : Fld) (m : Mod) : Mod :=
  let r := chReg Reg.CH_TSTAT ch
  let m1 := (m.wr r f 1).wr r Fields.CH_TSTAT.LAST_SET s
  if m.tflagsClear (ch / 128) then
    (m1.wr (Reg.CH_TFLAG (ch / 128)) Fields.CH_TFLAG.FIRST_CH (ch % 128)).post 1 srcCH ch f.lo noSite
      (Reg.CH_TFLAG (ch / 128)) 0
  else m1

/-! ### Codes (Tables 7.2, 7.3) -/

/-- Whether a code is an expect code. -/
def isExpect (c : Nat) : Bool := c == 2 || c == 3 || c == 4 || c == 5 || c == 13

/-- Pin `i`'s field of a row (R155). -/
def rowField (f i : Nat) (bs : List Byte) : Nat :=
  let b := formatBits f
  nbits (byteAt bs (b * i / 8)) (b * i % 8) b

/-- CHn_VMAP and CHn_VCFG of a channel as its port's burst found them at its first vector (R192). -/
def Mod.pinCfg (m : Mod) (ch : Nat) : Word × Word :=
  (m.pin ch).cfg.getD (m.reg (chReg Reg.CH_VMAP ch), m.reg (chReg Reg.CH_VCFG ch))

/-- The code a row's field spells under CHn_VMAP and CHn_VCFG (Tables 7.2, 7.3). -/
def fieldCode (f v : Nat) (bank : Bool) (cfg : Word × Word) : Nat :=
  match f with
  | 4 => v
  | 2 => nbits cfg.1.toNat (4 * v + 16 * b2n bank) 4
  | _ => if fget Fields.CH_VCFG.F1ROLE cfg.2 = 1 then 2 + v else v

/-- A vector's code on a pin as played (R157, R218): reserved codes play as Z, K repeats, an unjudged hold vector's
expect and capture codes play as X. -/
def playedCode (prev raw : Nat) (mute : Bool) : Nat :=
  let c := if 14 ≤ raw then 7 else if raw = 9 then prev else raw
  if mute && (isExpect c || c == 8) then 6 else c

/-! ### Events by format (R199 to R202) -/

/-- Edge `k` of an entry of timing memory, read by `rd`: D0 to D3, then S0 and S1. -/
def edgeOf (rd : Nat → Word) (ch s k : Nat) : Nat :=
  let c := ch % 128
  let d := ch / 128
  let r := match k with
    | 0 => Reg.CH_TSET_D0 d c s
    | 1 => Reg.CH_TSET_D1 d c s
    | 2 => Reg.CH_TSET_D2 d c s
    | 3 => Reg.CH_TSET_D3 d c s
    | 4 => Reg.CH_TSET_S0 d c s
    | _ => Reg.CH_TSET_S1 d c s
  nbits (rd r).toNat 0 29
def Mod.edge (m : Mod) (ch s k : Nat) : Nat := edgeOf m.reg ch s k

/-- Edges and actions of codes 0, 1 and N with data level `d` (Table 8.2). -/
def formatEvents (fmt : Nat) (d : Bool) : List (Nat × Act) :=
  match fmt with
  | 1 => [(0, .onLast), (1, .level d)]
  | 2 => if d then [(0, .level true), (1, .level false)] else [(0, .level false)]
  | 3 => if d then [(0, .level true)] else [(0, .level false), (1, .level true)]
  | 4 => [(0, .level (!d)), (1, .level d), (2, .level (!d))]
  | _ => [(0, .level d)]

/-- Drive events of a code (R199 to R201): `fast` for periods below 1,024 ET; `d` is the data level. -/
def driveEvents (code fmt : Nat) (pol pulse2 fast d : Bool) : List (Nat × Act) :=
  match code with
  | 0 | 1 | 10 => if fast then [(0, .level d)] else formatEvents fmt d
  | 11 =>
    if fast then [(0, .level pol)]
    else [(0, .level pol), (1, .level (!pol))] ++ (if pulse2 then [(2, .level pol), (3, .level (!pol))] else [])
  | 12 => [(0, .term)]
  | _ => [(0, .off)]

/-- The strobes of an expect or capture code (R201, R202): edges as (edge, none), a window as its opening and close. -/
def strobesOf (code smode : Nat) (fast : Bool) (s0 s1 : Nat) : List (Nat × Option Nat × Bool) :=
  if !(isExpect code || code == 8) || (fast && code == 13) then []
  else match (if fast ∨ smode = 3 then 0 else smode) with
    | 1 => [(s0, none, false), (s1, none, true)]
    | 2 => if s0 < s1 then [(s0, some s1, false)] else [(s0, none, false)]
    | _ => [(s0, none, false)]

/-- The data level after a code (R199): codes 0 and 1 set it, N turns it round. -/
def dataAfter (code : Nat) (d : Option Bool) : Option Bool :=
  match code with
  | 0 => some false
  | 1 => some true
  | 10 => some (match d with
    | some b => !b
    | none => false)
  | _ => d

/-- ET of the SCLK edge nearest to `k` ns after a cycle start. -/
def nearSclk (c k : Nat) : Nat := (c + 2048 * k + 1024) / 2048 * 2048

/-! ### The latest strobe of a vector (R166) -/

/-- A register as it holds for port `n`: the partner's for a mirror or an adopted burst (R389, R399). -/
def Mod.portReg (m : Mod) (n off : Nat) : Word := if (m.seq n).mirror then m.peerReg off else m.reg off

/-- The HV channels that shadow a channel of port `n`. -/
def Mod.portShadows (m : Mod) (n ch : Nat) : List Nat :=
  allBelow 32 (fun h =>
    let w := m.portReg n (Reg.HV_DCFG h)
    fget Fields.HV_DCFG.EN w == 1 && fget Fields.HV_DCFG.SRC w == ch)

/-- The strobes that vector `v` of port `n` places on channel `ch` with a code: the latest, in ET from the cycle start.
A strobe counts where it lies within four periods of its own set (assumption 13). The live MODE of the partner's HV
channels is taken as DIG (assumption 13). -/
def Mod.lastStrobe (m : Mod) (n ch code et : Nat) (v : Vec) : Option Nat :=
  let p := m.period n v.tset
  let max? (l : List Nat) : Option Nat := match l with
    | [] => none
    | a :: t => some (t.foldl max a)
  match m.portShadows n ch with
  | [] =>
    let rd := m.portReg n
    let smode := fget Fields.CH_TSET_CFG.SMODE (rd (Reg.CH_TSET_CFG (ch / 128) (ch % 128) v.tset))
    max? (((strobesOf code smode (decide (p < 1024)) (edgeOf rd ch v.tset 4) (edgeOf rd ch v.tset 5)).map
      (fun s => s.2.1.getD s.1)).filter (fun t => decide (t < 4 * p)))
  | hs =>
    max? ((hs.filter (fun h => ((m.seq n).mirror || hvMode (m.hv h).w0 == 5) && decide (102400 ≤ p) &&
        (isExpect code || code == 8) && decide (2048 * fget Fields.HV_DTIM.S0 (m.portReg n (Reg.HV_DTIM h)) < p))).map
      (fun h => nearSclk et (fget Fields.HV_DTIM.S0 (m.portReg n (Reg.HV_DTIM h))) - et))

/-- The codes vector `v` plays on the port's pins, by pin index, after the codes `prev`. -/
def Mod.vecCodes (m : Mod) (n : Nat) (prev : List Nat) (v : Vec) : List Nat :=
  let chs := m.chans n
  let mute := v.row.isNone && !(m.ring n).holdCmp
  let cfg (ch : Nat) : Word × Word := if (m.seq n).mirror then
      (m.peerReg (chReg Reg.CH_VMAP ch), m.peerReg (chReg Reg.CH_VCFG ch)) else m.pinCfg ch
  let f := (m.seq n).img.format
  List.zipWith (fun i ch => playedCode (prev.getD i 7) (fieldCode f (rowField f i v.bytes) v.bank (cfg ch)) mute)
    (List.range chs.length) chs

/-- D of R166 for a vector of codes, in whole ns; none where it places no strobe. -/
def Mod.vecDepth (m : Mod) (n et : Nat) (codes : List Nat) (v : Vec) : Option Nat :=
  (List.zipWith (fun code ch => m.lastStrobe n ch code et v) codes (m.chans n)).foldl (fun a t => match t with
    | none => a
    | some e => some (max (a.getD 0) ((e + 2047) / 2048))) none

/-- A vector emitted at SCLK `e` has its result at this SCLK (R166); D is 0 where it places no strobe. -/
def resultTime (e : Nat) (depth : Option Nat) : Nat := e + 1056 + depth.getD 0 + 64

/-! ### Placement (R203 to R208) -/

/-- The tap of residue `r` in a path's linearisation table (R207). -/
def Mod.tapOf (m : Mod) (drv : Bool) (ch r : Nat) : Nat :=
  let w := (m.reg (if drv then Reg.CH_LIND (ch / 128) (ch % 128) (r / 2) else Reg.CH_LINS (ch / 128) (ch % 128) (r / 2))).toNat
  min 383 (nbits w (16 * (r % 2)) 9)

/-- An event is released at T' (R206): its TCLK cycle, phase and tap. -/
def Mod.pinEvent (ch vec : Nat) (drv : Bool) (t : Int) (what : Nat) (m : Mod) : Mod :=
  let c := t / 256
  m.emit (.pinEvent ch vec t (c / 4) (c % 4).toNat (m.tapOf drv ch (t % 256).toNat) what)

/-- A signed 13-bit correction. -/
def skewOf (w : Word) (lo : Nat) : Int := signed 13 (nbits w.toNat lo 13)

/-- DSK of a drive event and the DRV offset (R206). -/
def Mod.driveSkew (m : Mod) (ch : Nat) (falling : Bool) : Int :=
  skewOf (m.reg (chReg (if falling then Reg.CH_DSK_DF else Reg.CH_DSK_DR) ch)) 0 +
    skewOf (m.reg (chReg Reg.CH_UOFS ch)) 0

/-- DSK_CMP and the CMP offset (R206). -/
def Mod.cmpSkew (m : Mod) (ch : Nat) : Int :=
  skewOf (m.reg (chReg Reg.CH_DSK_CMP ch)) 0 + skewOf (m.reg (chReg Reg.CH_UOFS ch)) 16

/-- What an event makes a pin drive; `none` where it would leave the pin as it is (R199, R200). -/
def Pin.target (p : Pin) (a : Act) : Option Drive :=
  let t : Drive := match a with
    | .level b => if b then .high else .low
    | .onLast => if p.drive == .high || p.drive == .low then p.drive else if p.lastHigh then .high else .low
    | .term => .term
    | .off => .off
  if t = p.drive then none else some t

/-- The number of a drive state in the log of outputs. -/
def Drive.code : Drive → Nat
  | .low => 0
  | .high => 1
  | .term => 2
  | .off => 3

/-- A spacing of 256 ET after the event before it (R203, R204): the time, and whether it was deferred. -/
def spaced (last : Option Int) (t : Int) : Int × Bool := match last with
  | some l => if t < l + 256 then (l + 256, true) else (t, false)
  | none => (t, false)

/-- Transmission to the pin dies and H0 has stopped (R419, R46): after a core trip of an unpaired module it stops once
every completion due has been written. -/
def Mod.txOff (m : Mod) : Bool :=
  m.flt.txStopped || (SMap.get badDefault m.sys.tripped 0 && !m.pairActive &&
    !(List.range 32).any (fun n => (m.seq n).job.isSome) && (List.range 64).all (fun c => (m.cq c).waiting.isEmpty))

/-- A drive event is placed (R203, R206); a disconnected driver places none (R44). The safe state, edge 4, takes DSK_DR
whatever it leaves. -/
def Mod.placeDrive (ch : Nat) (e : DriveEv) (m : Mod) : Mod :=
  if m.isLost (17 + ch / 128) then m
  else
  let p := m.pin ch
  let level := match e.act with
    | .level b => b
    | _ => p.lastHigh
  match p.target e.act with
  | none => m.setPin ch { p with lastHigh := level }
  | some d =>
    let falling := p.drive == .high && d == .low && e.edge != 4
    let (t, late) := spaced p.lastDrive ((e.t : Int) + m.driveSkew ch falling)
    let m1 := m.setPin ch { p with
      drive := d
      lastHigh := level
      lastDrive := some t }
    (m1.when late (Mod.tflag ch e.tset Fields.CH_TSTAT.EDGE_CONFLICT)).pinEvent ch e.vec true t d.code

/-! ### The safe state (R185, R205, R263) -/

/-- SAFE of a channel, as its port's burst found it (R192). -/
def Mod.safeCode (m : Mod) (ch : Nat) : Nat := fget Fields.CH_VCFG.SAFE (m.pinCfg ch).2

/-- The safe state as a drive event (R185, R205). -/
def Mod.safeAct (m : Mod) (ch : Nat) : Act :=
  match m.safeCode ch with
  | 0 => .level false
  | 1 => .level true
  | 12 => .term
  | _ => .off

/-- The safe state of an HV channel that shadows channel `ch` (R263). -/
def Mod.hvSafe (h ch t vec : Nat) (m : Mod) : Mod :=
  let d : Drive := match m.safeCode ch with
    | 0 => .low
    | 1 => .high
    | _ => .off
  let x := m.hv h
  (m.setHv h { x with drive := d }).when (d != x.drive && x.rc.isNone) (Mod.emit (.hvEvent h vec t d.code))

/-- A channel takes its safe state at nominal time `t`; where HV channels shadow it, they do, and its own pin path stays
as it is (R262). -/
def Mod.pinSafe (ch t vec s : Nat) (m : Mod) : Mod :=
  match m.shadowers ch with
  | [] => (m.placeDrive ch ⟨t, vec, 4, s, m.safeAct ch⟩).emit (.pinSafe ch (m.safeCode ch))
  | hs => m.each hs (fun h st => st.hvSafe h ch t vec)

/-- The port of a burst that a start check turned away takes its safe state (R205); nothing has played, so no grid and no
earlier event stands. Channels of a lost die are left. -/
def Mod.portSafe (n : Nat) (m : Mod) : Mod :=
  m.each ((m.chans n).filter (fun ch => !m.isLost (1 + ch / 128))) (fun ch s =>
    (s.setPin ch { s.pin ch with lastDrive := none }).pinSafe ch 0 0 (m.seq n).tset)

end Sys2Proof.Machine
end

