-- ==== Sys2Proof/Machine/Emit.lean ====
section
/-!
DEFINITION. The emission stage of a sequencer (R159, R160, R183 to R188), its link blocks (R16, R18), the start
of a burst (R186) and the refill of its streams (R17, R179).
-/

namespace Sys2Proof.Machine

/-! ### Link blocks -/

/-- The number of a control word. -/
def Ctl.word : Ctl → Nat
  | .tset s => 8 * s + 1
  | .lset k => 8 * k + 2
  | .sig kind i => 8 * (16 * i + kind) + 3

/-- The number of the address mark at the start of an instruction: what the pin die derives a vector's address from
(R223), and how its vectors play. -/
def Vec.mark (v : Vec) : Nat :=
  8 * ((((v.row.getD 0xFFFFFFFF * 2 ^ 32 + v.instr) * 64 + v.tset) * 2 + b2n v.bank) * 2 + b2n v.row.isNone) + 4

/-- The number of the word that ends a burst with END (R173). -/
def endWord (safe : Bool) : Nat := 8 * b2n safe + 5

/-- The control words of a vector that follows `prev` in its block, with the address mark where an instruction starts. -/
def Vec.control (prev : Option Vec) (v : Vec) : List Byte :=
  let same := prev.map (fun p => (p.instr, p.row.isNone)) == some (v.instr, v.row.isNone)
  (v.ctl.map Ctl.word ++ (if same then [] else [Vec.mark v])).flatMap Config.ctlBytes

/-- The payload of a vector for some pins of its row: their fields, lowest pin first, in whole bytes (assumption 50). -/
def payloadBytes (f : Nat) (pins : List Nat) (bs : List Byte) : List Byte :=
  let b := formatBits f
  let v := pins.foldr (fun i a => a * 2 ^ b + rowField f i bs) 0
  leBytes ((pins.length * b + 7) / 8) v

/-- The body of a link block for some pins (Table 16.4). -/
def bodyBytes (f : Nat) (pins : List Nat) : Option Vec → List Vec → List Byte
  | _, [] => []
  | prev, v :: t => Vec.control prev v ++ payloadBytes f pins v.bytes ++ bodyBytes f pins (some v) t

/-- Header and body of block `idx` (Table 16.4): `first` is the vector it begins with. -/
def blockBytes (port burst idx first f : Nat) (pins : List Nat) (vecs : List Vec) (tail : List Ctl) (last stop safe : Bool) :
    List Byte :=
  let body := bodyBytes f pins none vecs ++ (tail.map Ctl.word ++ (if last && !stop then [endWord safe] else [])).flatMap
    Config.ctlBytes
  let head := leBytes 2 0x4C42 ++ leBytes 1 (port % 32) ++ leBytes 1 (b2n (idx == 0) + 2 * b2n last + 4 * b2n stop) ++
    leBytes 2 burst ++ zeroBytes 2 ++ leBytes 4 idx ++ leBytes 8 first ++ leBytes 4 vecs.length ++ leBytes 4 body.length ++
    zeroBytes 4
  head ++ body

/-- The CRC-32 over header and body. -/
def blockCrc (port burst idx first f : Nat) (pins : List Nat) (vecs : List Vec) (tail : List Ctl) (last stop safe : Bool) : Word :=
  crc32 (blockBytes port burst idx first f pins vecs tail last stop safe)

/-- Payload bytes of one vector: the die of the port with more channels counts. -/
def Mod.vecBytes (m : Mod) (n : Nat) (x : Seq) : Nat :=
  let b := formatBits x.img.format
  (m.portDies n).foldl (fun a d => max a (((m.dieChans n d).length * b + 7) / 8)) 0

/-- Bytes of vectors that follow `prev` in a block, control words and address marks included (R18). -/
def groupBytes (payload : Nat) : Option Vec → List Vec → Nat
  | _, [] => 0
  | prev, v :: t => payload + (Vec.control prev v).length + groupBytes payload (some v) t

/-- A new link block that begins at an SCLK. -/
def LinkBlk.start (idx sclk : Nat) : LinkBlk := ⟨idx, sclk, [], [], 0, false, false, false⟩

/-- Link block `k` of mirror sequencer `n` for the partner's die `d`, with its CRC (Table 16.4, R381). -/
def Mod.mirrorBytes (m : Mod) (n d k : Nat) : List Byte :=
  let x := m.seq n
  match x.sent.find? (fun b => b.idx == k) with
  | none => []
  | some b =>
    let pins := allBelow (m.chans n).length (fun i => ((m.chans n).getD i 256) / 128 == d)
    let bs := blockBytes (n - 16) (m.rd (Reg.SEQ_PRF_STATUS n) Fields.SEQ_PRF_STATUS.BURST_SEQ) k (match b.vecs with
      | v :: _ => v.num
      | [] => x.num) x.img.format pins b.vecs b.tail b.last b.stop b.safe
    bs ++ leBytes 4 (crc32 bs).toNat

/-- A closed block goes to one pin die: the core die's send buffer keeps the last four per die (R16). -/
def Mod.sendBlock (n d k : Nat) (m : Mod) : Mod :=
  let x := m.seq n
  if x.mirror then
    -- with a second lane of the takeover group lost the mirror sends nothing to that die (R384)
    m.when (decide (11 ≤ (List.range 12).countP (fun i =>
      m.rd (Reg.SL_LANE_STATUS (8 + 12 * d + i)) Fields.SL_LANE_STATUS.STATE == 5))) (fun s =>
        (s.sendUnit (1 + d) (m.mirrorBytes n d k)).emit (.linkBlock true d n k))
  else
    let old := SMap.get (fun _ => []) m.sendBuf d
    let new := old ++ [(n, k)]
    ({ m with sendBuf := SMap.set (fun _ => []) m.sendBuf d (new.drop (new.length - 4)) } : Mod).emit (.linkBlock false d n k)

/-- The open link block closes (R18), with the control words after its last vector; the burst's last block is closed
even where it holds no vector. -/
def Mod.closeBlock (n : Nat) (last stop : Bool) (tail : List Ctl) (m : Mod) : Mod :=
  let x := m.seq n
  if x.open_.isNone && !last then m
  else
    let b := x.open_.getD (LinkBlk.start x.blkIdx x.sclk)
    let y : Seq := { x with
      open_ := none
      sent := x.sent ++ [{ b with tail := tail, last := last, stop := stop, safe := x.safe && !stop }]
      blkIdx := b.idx + 1 }
    (m.setSeq n y).each (m.portDies n) (fun d s => s.sendBlock n d b.idx)

/-- Whether the open block takes no more: it would pass 64 KiB with `k` more bytes, or the next group comes 512
SCLK or more after its first vector (R18). -/
def Seq.blockDue (x : Seq) (k : Nat) : Bool := match x.open_ with
  | none => false
  | some b => decide (65536 < b.bytes + k) || decide (b.sclk + 512 ≤ x.sclk)

/-- LINK_BLOCK_CLOSE (R18). -/
def Mod.linkBlockClose (n : Nat) (m : Mod) : Mod :=
  m.when ((m.seq n).blockDue (m.vecBytes n (m.seq n))) (Mod.closeBlock n false false [])

/-! ### The pin dies' side of a burst's start -/

/-- Channels of a port that the trace samples on a die (R232). -/
def Mod.tracedChans (m : Mod) (n die : Nat) : List Nat :=
  if m.flag (Reg.SEQ_PRF_TRC_CFG n) Fields.SEQ_PRF_TRC_CFG.EN then
    (m.dieChans n die).filter (fun ch => m.flag (chReg Reg.CH_CCFG ch) Fields.CH_CCFG.TRACE)
  else []

/-- A pin die receives the header of a burst: its channels, format, periods and what it judges (R192, R195, R239); with
TRC EN the header of its half of the trace is due (R233). -/
def Mod.openPort (n d : Nat) (m : Mod) : Mod :=
  let x := m.seq n
  let all := m.chans n
  (m.when (decide (n < 16)) (Mod.wr (Reg.SL_PDIE_STATUS d) ⟨Fields.SL_PDIE_STATUS.SRC.lo + n, 1⟩ 0)).setDport n d { DiePort.fresh with
    t0 := x.sclk0 + 1056
    burst := m.rd (Reg.SEQ_PRF_STATUS n) Fields.SEQ_PRF_STATUS.BURST_SEQ
    site := match x.job with
      | some j => j.site
      | none => 0
    chans := ((List.range all.length).zip all).filter (fun e => e.2 / 128 == d)
    format := x.img.format
    tper := (List.range 64).map (m.period n)
    holdCmp := (m.ring n).holdCmp
    countRec := (m.ring n).countRec
    traced := m.tracedChans n d
    trBits2 := m.flag (Reg.SEQ_PRF_TRC_CFG n) Fields.SEQ_PRF_TRC_CFG.BITS
    trDue := m.flag (Reg.SEQ_PRF_TRC_CFG n) Fields.SEQ_PRF_TRC_CFG.EN }

/-- A channel as its port's burst begins: it keeps what it drives, takes CHn_VMAP and CHn_VCFG as they are (R192), and the
burst has driven, repeated and judged nothing yet (R157, R199, R213); the thresholds begin with those in force (R212). -/
def Mod.openPin (ch : Nat) (m : Mod) : Mod :=
  let x := m.lv ch
  (m.setPin ch { Pin.fresh with
    drive := (m.pin ch).drive
    cfg := some (m.reg (chReg Reg.CH_VMAP ch), m.reg (chReg Reg.CH_VCFG ch)) }).setLv ch { x with
      hist := x.hist.drop (x.hist.length - 1) }

/-- At the first vector of a burst a channel's counter is set to 0 where ACCUM is clear (R221, R222). -/
def Mod.openCount (ch : Nat) (m : Mod) : Mod :=
  if m.flag (chReg Reg.CH_CCFG ch) Fields.CH_CCFG.ACCUM then m
  else (m.setReg (chReg Reg.CH_FCNT ch) 0#32).wr64 (chReg Reg.CH_FFIRST_LO ch) 0xFFFFFFFFFFFFFFFF

/-- An HV channel that shadows a channel of the port, as the burst begins. -/
def Mod.openHv (h : Nat) (m : Mod) : Mod :=
  (m.setHv h { m.hv h with data := none, code := 7, seen := none, lastHigh := false }).setPin (256 + h) Pin.fresh

/-- The pin dies take up a burst of their own port: those with channels of the port, and with TRC EN both. -/
def Mod.openPorts (n : Nat) (m : Mod) : Mod :=
  let ds := if m.flag (Reg.SEQ_PRF_TRC_CFG n) Fields.SEQ_PRF_TRC_CFG.EN then [0, 1] else m.portDies n
  ((m.each ds (Mod.openPort n)).each (m.chans n) Mod.openPin).each ((m.chans n).flatMap m.shadowers) Mod.openHv

/-! ### The end of emission -/

/-- Whether the mirror finishes a burst of this port that stops with a code (R401). -/
def Mod.handsOver (m : Mod) (n code : Nat) : Bool :=
  (m.reg Reg.SL_PROT).getLsbD n && decide (n < 16) && (code == stSEQ_MCHK || code == stMEM_UE || code == stXLT_NOMAP || code == stMEM_OFFLINE)

/-- The burst's emission ends (R173, R183, R184, R188): its last block closes, and it drains. A machine check
keeps STATE at MCHK. Where the mirror finishes the burst, no block of this stop is sent: the pin dies play on from
the mirror's blocks (R401). A burst that ends before its first vector has its pin dies take it up here, so that its port
takes the safe state as after any stop (R205). -/
def Mod.finishEmit (n code : Nat) (stop : Bool) (m0 : Mod) : Mod :=
  let x0 := m0.seq n
  let unopened := x0.num == 0 && !x0.mirror && (m0.dport n 0).chans.isEmpty && (m0.dport n 1).chans.isEmpty
  let mo := m0.when unopened (fun s => (s.setSeq n { x0 with sclk0 := s.ttime }).openPorts n)
  let m := mo.when stop (Mod.sendDec n 8 code x0.num)
  let x := m.seq n
  let away := stop && m.handsOver n code
  let tail := if x.look.isEmpty then x.ctl else []
  let m1 := m.putSeq n { x with
    stopped := some code
    request := none
    look := []
    ctl := []
    run := 0
    wait := none
    paused := false
    mirrored := away
    open_ := if away then none else x.open_ }
  let m2 := m1.when (!away) (Mod.closeBlock n true stop tail)
  let m3 := m2.wr (Reg.SEQ_STATUS n) Fields.SEQ_STATUS.PAUSE_PENDING 0
  m3.when (m.seqState n != 6) (Mod.setSeqState n 5)

/-- The burst stops at the boundary the emission stage has reached: what the look-ahead holds is withdrawn. -/
def Mod.stopHere (n code : Nat) (m : Mod) : Mod := m.finishEmit n code true

/-- The emission stage has nothing more to emit: the burst has ended or its stop has been met. -/
def Mod.tryFinish (n : Nat) (m : Mod) : Mod :=
  let x := m.seq n
  if !x.live || !x.look.isEmpty then m
  else match x.post with
    | some code => m.finishEmit n code true
    | none => if x.ended then m.finishEmit n stOK false else m

/-! ### Lane groups -/

/-- One vector leaves in the group of SCLK `e` (R160, R166, R196). Its iterations await its judgement on each die of the
port, and where it places a strobe its result time (R174, R175). A vector of a mirror or adopted burst, which no die of the
module plays, counts in VCOUNT here (assumption 42). -/
def Mod.emitVec (n e dies payload : Nat) (m : Mod) (v : Vec) : Mod :=
  let x := m.seq n
  let codes := m.vecCodes n x.codes v
  let depth := m.vecDepth n x.et codes v
  let res := resultTime e depth
  let w : Vec := { v with num := x.num, after := res }
  let b := x.open_.getD (LinkBlk.start x.blkIdx e)
  let m1 := m.setSeq n { x with
    num := x.num + 1
    et := x.et + m.period n v.tset
    lastSclk := e
    lastTset := v.tset
    lastRes := max x.lastRes res
    waitRes := max x.waitRes res
    codes := codes
    iters := onTags v.iter (fun i => { i with
      toEmit := i.toEmit - 1
      left := i.left + dies
      res := if depth.isSome then max i.res res else i.res }) x.iters
    open_ := some { b with
      vecs := b.vecs ++ [w]
      bytes := b.bytes + groupBytes payload b.vecs.getLast? [v] } }
  m1.when x.mirror (fun s => s.wr64 (Reg.SEQ_VCOUNT_LO n) (s.rd64 (Reg.SEQ_VCOUNT_LO n) + 1))

/-- A lane group leaves (R159): the block before it closes where it is due. -/
def Mod.emitGroup (n : Nat) (vs : List Vec) (m : Mod) : Mod :=
  let x := m.seq n
  let bytes := m.vecBytes n x
  let prev := x.open_.bind (fun b => b.vecs.getLast?)
  vs.foldl (Mod.emitVec n x.sclk (m.portDies n).length bytes)
    (m.when (x.blockDue (groupBytes bytes prev vs)) (Mod.closeBlock n false false []))

/-- STATUS shows the timing set and lane width in force. -/
def Mod.showTset (n s : Nat) (m : Mod) : Mod :=
  (m.wr (Reg.SEQ_STATUS n) Fields.SEQ_STATUS.TSET s).wr (Reg.SEQ_STATUS n) Fields.SEQ_STATUS.LW (lanesOf (m.period n s))

/-- The MATCH iterations that a hold vector played now lies in (R174): those of the vector that comes next, or those open.
The wait at the end of a MATCH lies outside its iterations. -/
def Seq.holdTags (x : Seq) : List (Nat × Nat) :=
  match x.look with
  | v :: _ => v.iter
  | [] => (tagsOf x.levels).drop (if x.wait == some .matchEnd then 1 else 0)

/-- A lane group of the hold vector, up to the next lane boundary of the hold set (R167, R172, R183), with control words
for its first vector. -/
def Mod.holdGroup (m : Mod) (n : Nat) (x : Seq) (h : Nat × List Byte × Nat) (ctl : List Ctl) : List Vec :=
  let lw := lanesOf (m.period n h.2.2)
  (List.range (lw - x.num % lw)).map (fun i =>
    { num := 0, row := none, bytes := h.2.1, instr := x.pc, bank := false, tset := h.2.2, iter := x.holdTags, first := [],
      align := 1, ctl := if i = 0 then ctl else [], pre := 0, after := 0 })

/-- The group of the hold vector leaves; answers how many. -/
def Mod.emitHold (n : Nat) (h : Nat × List Byte × Nat) (ctl : List Ctl) (m : Mod) : Nat × Mod :=
  let x := m.seq n
  let g := m.holdGroup n x h ctl
  (g.length, (m.setSeq n (x.owe x.holdTags g.length)).emitGroup n g)

/-- The stretch count after one more group, with the limit of R184. -/
def Mod.addStretch (n k : Nat) (m0 : Mod) : Mod :=
  let m := m0.sendDec n 5 k ((m0.seq n).num - k)
  let c := m.rd64 (Reg.SEQ_STRETCH_LO n) + k
  let x := m.seq n
  let over256 := x.maxStretch != 0 && decide (256 * x.maxStretch < c)
  ((m.wr64 (Reg.SEQ_STRETCH_LO n) c).setSeq n { x with
    stretched := true
    look := if over256 then [] else x.look
    ctl := if over256 then [] else x.ctl
    post := if over256 && !x.ended && x.post.isNone then some stSTRETCH_LIMIT else x.post })

/-- The vectors at the head of the look-ahead that leave as one group: at most `k`, of one timing set, and cut
before a vector that must lie on a lane boundary. Answers them and whether the group is whole. -/
def headGroup (s k : Nat) (first : Bool) : List Vec → List Vec × Bool
  | [] => ([], decide (k = 0))
  | v :: t =>
    if k = 0 then ([], true)
    else if v.tset ≠ s ∨ (!first && decide (1 < v.align)) ∨ (!first && v.after != 0) then ([], true)
    else
      let r := headGroup s (k - 1) false t
      (v :: r.1, r.2)

/-- Bit `n` of SL_PROT falls, which sets PROT_LOST (R394). -/
def Mod.unprotect (n : Nat) (m : Mod) : Mod :=
  if (m.reg Reg.SL_PROT).getLsbD n then
    (m.wr Reg.SL_PROT ⟨n, 1⟩ 0).slEvent false 1 n Fields.SL_EVENT.PROT_LOST
  else m

/-- The mirror gives a burst up (R387, R391): it sends no more blocks, MIRROR_FAIL is set and the port is unprotected
for the rest of the burst. -/
def Mod.mirrorFail (n code : Nat) (m : Mod) : Mod :=
  ((m.setSeq n { m.seq n with stopped := some code, look := [], ctl := [] }).slEvent false 1 n Fields.SL_EVENT.MIRROR_FAIL).unprotect n

/-- A missing lane group (R183, R391): the hold vector stretches in a HOLD region; outside one the burst stops with
UNDERRUN; a mirror inserts nothing of its own and gives the burst up. Control words stay with the vector whose place the
hold vector takes (assumption 45). -/
def Mod.missing (n : Nat) (m : Mod) : Mod :=
  let x := m.seq n
  if x.follows then m.mirrorFail n stUNDERRUN
  else match x.hold with
    | some h =>
      let (k, m1) := m.emitHold n h []
      m1.addStretch n k
    | none => m.stopHere n stUNDERRUN

/-- The control words that come before the wait in force or over last, taken from what they wait with (R171). -/
def Seq.takeCtl (x : Seq) : List Ctl × Seq :=
  match x.look with
  | [] => (x.ctl.take x.ctlPre, { x with ctl := x.ctl.drop x.ctlPre, ctlPre := 0 })
  | v :: t => (v.ctl.take v.pre, { x with look := { v with ctl := v.ctl.drop v.pre, pre := 0 } :: t })

/-- The hold vectors a wait plays are part of its instruction and no stretch (R167), but in a pause (R187). The control
words before the wait act at the first of them (R171); their result times are none that the wait waits for. -/
def Mod.waitHold (n : Nat) (m : Mod) : Mod :=
  let x := m.seq n
  match x.whold with
  | some h =>
    let (ctl, y) := x.takeCtl
    let (k, m1) := (m.setSeq n y).emitHold n h ctl
    (m1.setSeq n { m1.seq n with waitRes := x.waitRes }).when x.paused (Mod.addStretch n k)
  | none => m.missing n

/-- A stretch group that the primary's record names for the mirror's next vector (R390). -/
def Mod.mirrorStretch (n : Nat) (m : Mod) : Option Mod :=
  let x := m.seq n
  match m.takeDec n 5 (some x.num), x.hold with
  | (some _, m1), some h =>
    let (k, m2) := m1.emitHold n h []
    some (m2.addStretch n k)
  | _, _ => none

/-- What the emission stage emits at a lane boundary. -/
def Mod.boundary (n : Nat) (m : Mod) : Mod :=
  let x := m.seq n
  match m.mirrorStretch n with
  | some m1 => m1
  | none => match x.look with
  | [] =>
    if x.wait.isSome then m.waitHold n
    else match x.resume with
      | some d => if x.sclk < d then m.waitHold n else m.missing n
      | none => m.missing n
  | v :: _ =>
    let lw := lanesOf (m.period n v.tset)
    if v.after != 0 && (decide (x.sclk < v.after) || (x.num % lw != 0 && x.whold.isSome)) then m.waitHold n
    else if x.num % v.align ≠ 0 then m.stopHere n stALIGN
    else
      let (g, whole) := headGroup v.tset (lw - x.num % lw) true x.look
      if whole || x.ended || x.post.isSome || x.wait.isSome || x.paused then
        ((m.setSeq n { x with look := x.look.drop g.length }).emitGroup n g).showTset n v.tset
      else m.missing n

/-- LANE_GROUP_EMIT (R159): at the next lane boundary of sequencer `n`. A stop request is met at the execution
stage's commit point first, then an exit of the MATCH that is due (R175). Trigger edges and fails that have come by the
boundary count first. -/
def Mod.laneGroupEmit (n : Nat) (mi : Mod) : Mod :=
  let x0 := mi.seq n
  if !x0.live then mi
  else if x0.num = 0 ∧ x0.post = none ∧ x0.request = none then mi
  else
    let m := (mi.failsDue n x0.sclk).takeEdges n (x0.sclk0 + x0.sclk)
    let m0 := match m.takeDec n 8 (some x0.num) with
      | (some code, s) => s.stopHere n code
      | (none, _) => m
    let m1 := m0.when (m0.seq n).live (fun s => (s.commit n).tryPause n)
    let m2 := (m1.tryMatchExit n).tryFinish n
    if !(m2.seq n).live || (m2.seq n).num = 0 then m2
    else ((m2.boundary n).tryArrive n).tryFinish n

/-! ### The start of a burst (R186) -/

def pbAddr (a : List Byte) : Nat := fieldAt a 0 6
def pbTset (a : List Byte) : Nat := byteAt a 6 % 64
def pbEntry (a : List Byte) : Nat := fieldAt a 8 4
def pbPentry (a : List Byte) : Nat := fieldAt a 12 4

/-- The ARGS of Table 7.11: an aligned image address and zeros in the reserved fields. -/
def pbOk (a : List Byte) : Bool :=
  pbAddr a % 0x1000 == 0 && nbits (byteAt a 6) 6 2 == 0 && byteAt a 7 == 0 && zerosAt a 16 32

/-- The header of Table 7.1 for a port of `w` channels (check 4 of Table 7.9). -/
def imageOk (w : Nat) (a h : List Byte) : Bool :=
  let f := byteAt h 4
  fieldAt h 0 4 == 0x50415431 && (crc32 (h.take 60)).toNat == fieldAt h 60 4 && (f == 1 || f == 2 || f == 4) &&
    byteAt h 5 == 0 && zerosAt h 18 2 && zerosAt h 48 12 && fieldAt h 6 2 == w &&
    fieldAt h 16 2 == (w * formatBits f + 7) / 8 && decide (1 ≤ fieldAt h 8 4) && decide (1 ≤ fieldAt h 20 4) &&
    fieldAt h 32 8 % 64 == 0 && fieldAt h 40 8 % 64 == 0 && decide (pbEntry a < fieldAt h 8 4) &&
    (fieldAt h 12 4 == 0 || decide (pbPentry a < fieldAt h 12 4))

/-- The image a burst keeps. -/
def imageOf (ctx : Nat) (a h : List Byte) : Image :=
  { ctx := ctx, addr := pbAddr a, format := byteAt h 4, width := fieldAt h 6 2, instrs := fieldAt h 8 4,
    rows := fieldAt h 12 4, rowBytes := fieldAt h 16 2, minPeriod := fieldAt h 24 4, instrOff := fieldAt h 32 8,
    payloadOff := fieldAt h 40 8 }

/-- Check 6: the allocation of R178. -/
def Mod.pfBad (m : Mod) (n : Nat) : Bool :=
  let b := m.rd (Reg.SEQ_PF_CFG n) Fields.SEQ_PF_CFG.BLOCKS
  let i := m.rd (Reg.SEQ_PF_CFG n) Fields.SEQ_PF_CFG.IBLOCKS
  decide (b < 2) || i == 0 || decide (b ≤ i)

/-- N × B × 256,000, whose quotient by MIN_PERIOD is the trace rate of a die in MB/s (R235). -/
def Mod.traceNum (m : Mod) (n die : Nat) : Nat :=
  (m.tracedChans n die).length * (1 + m.rd (Reg.SEQ_PRF_TRC_CFG n) Fields.SEQ_PRF_TRC_CFG.BITS) * 256000

/-- Check 8 (R181, R235): TRACE_RATE, RATE_REFUSED or the charge. A MIN_PERIOD of 0 charges at 1 ET. -/
def Mod.burstCharge (m : Mod) (n g : Nat) (h : List Byte) : Nat ⊕ Nat :=
  let mp := max 1 (fieldAt h 24 4)
  let t0 := m.traceNum n 0
  let t1 := m.traceNum n 1
  if 40000 * mp < t0 ∨ 40000 * mp < t1 then .inl stTRACE_RATE
  else
    let c := (fieldAt h 20 4 + 99) / 100 + (t0 + t1 + 100 * mp - 1) / (100 * mp)
    let r := m.grpResv g
    if fget Fields.SEQ_GRP_RESV.RESV r < fget Fields.SEQ_GRP_RESV.USED r + c then .inl stRATE_REFUSED else .inr c

/-- Check 7 (R158). -/
def Mod.tsetBad (m : Mod) (n f mp s : Nat) : Option Nat :=
  let p := m.period n s
  if p < formatPeriod f then some stFORMAT_RATE else if p < mp then some stRATE_EXCEEDED else none

/-- Checks 1 to 3 of Table 7.9 for a sequencer that Hatch dispatches to; adopted bursts run on the mirror's
sequencers, on the partner's dies (R399). -/
def Mod.burstUnit (m : Mod) (n unit : Nat) (adopted : Bool) : Option Nat :=
  if unit = 0xFF ∨ 32 ≤ n ∨ (!adopted && ((m.pairProfile && decide (16 ≤ n)) || (m.seq n).mirror)) = true then
    some stUNIT_UNAVAILABLE
  else if (m.chans n).isEmpty then some stPORT_EMPTY
  else if !adopted && (m.portDies n).any (fun d => m.isLost (1 + d)) then some stPIN_LOST
  else none

/-- Checks 4 to 8 on a header that has been read: the code, or the charge. -/
def Mod.burstChecks (m : Mod) (n g : Nat) (a h : List Byte) : Nat ⊕ Nat :=
  if !pbOk a || !imageOk (m.chans n).length a h then .inl stIMAGE_INVALID
  else if fieldAt h 28 4 ≠ 0 ∧ fieldAt h 28 4 ≠ (m.reg Reg.MCS_VERSION).toNat then .inl stMCS_VERSION
  else if m.pfBad n then .inl stPF_ALLOC
  else match m.tsetBad n (byteAt h 4) (fieldAt h 24 4) (pbTset a) with
    | some c => .inl c
    | none => m.burstCharge n g h

/-- A burst is loaded (step 3 of R186): conditions clear but for the user flags (R165), counts start at 0, the
configuration of the ring is taken, BURST_SEQ advances (R226) and refill starts at ENTRY and PENTRY. -/
def Mod.loadBurst (n : Nat) (j : Job) (img : Image) (charge entry pentry tset : Nat) (m : Mod) : Mod :=
  let x : Seq := { Seq.fresh with
    job := some j
    img := img
    charge := charge
    pc := entry
    pp := pentry
    tset := tset
    lastTset := tset
    inext := blkOf (16 * entry)
    pnext := blkOf (pentry * img.rowBytes)
    mirror := (m.seq n).mirror || decide (64 ≤ j.group)
    sclk0 := m.ttime
    maxStretch := m.rd (Reg.SEQ_CFG n) Fields.SEQ_CFG.MAX_STRETCH
    sel := (m.chans n).filter (fun ch => (m.reg (Reg.SEQ_MMASK n (ch / 32))).getLsbD (ch % 32)) }
  let cfg := Reg.SEQ_PRF_CFG n
  let st := Reg.SEQ_PRF_STATUS n
  let mode := m.rd cfg Fields.SEQ_PRF_CFG.MODE
  let m1 := m.setRing n { m.ring n with
    gap := (m.ring n).gap
    mode := if mode = 3 then 0 else mode
    fullHalt := m.flag cfg Fields.SEQ_PRF_CFG.FULL_HALT
    countRec := m.flag cfg Fields.SEQ_PRF_CFG.COUNT_REC
    holdCmp := m.flag cfg Fields.SEQ_PRF_CFG.HOLD_CMP
    limit := (m.reg (Reg.SEQ_PRF_LIMIT n)).toNat
    endDue := true
    ctx := j.group }
  let m2 := ((m1.wr st Fields.SEQ_PRF_STATUS.BURST_SEQ (m.rd st Fields.SEQ_PRF_STATUS.BURST_SEQ + 1)).wr st
    Fields.SEQ_PRF_STATUS.ACTIVE 1).wr st Fields.SEQ_PRF_STATUS.LIMIT_STOP 0
  let m3 := (m2.setReg (Reg.SEQ_PRF_FAILS n) 0#32).setReg (Reg.SEQ_PRF_DROPPED n) 0#32
  let m4 := (m3.wr64 (Reg.SEQ_VCOUNT_LO n) 0).wr64 (Reg.SEQ_STRETCH_LO n) 0
  let m5 := (m4.setReg (Reg.SEQ_LAST n) 0#32).wr (Reg.SEQ_PF_STATUS n) Fields.SEQ_PF_STATUS.MISS 0
  let m6 := (m5.setReg (Reg.SEQ_FLAGS n) (m.reg (Reg.SEQ_FLAGS n) &&& 0xFFFF#32)).wr (Reg.SEQ_STATUS n)
    Fields.SEQ_STATUS.PAUSE_PENDING (m.rd (Reg.SEQ_CTRL n) Fields.SEQ_CTRL.PAUSE)
  let seqNo := m6.rd st Fields.SEQ_PRF_STATUS.BURST_SEQ
  (((m6.putSeq n (m6.requestBlocks n 260 x)).showTset n tset).setSeqState n 1).when (!x.mirror) (Mod.journal 1 n j.site
    j.group (j.inst.getD 0xFFFF) j.node (leBytes 6 img.addr ++ leBytes 1 tset ++ leBytes 1 0 ++ leBytes 4 entry ++
      leBytes 4 pentry ++ leBytes 2 seqNo))

/-- The status of a failed read of the image header (Table 15.4, R359), with the fault latched; an error of the
host leaves no header to accept. -/
def Mod.headerFailed (ctx va n : Nat) (e : MemErr) (m : Mod) : Nat × Mod :=
  match e with
  | .xlt c l => (stXLT_NOMAP, m.xltFault ctx va .read c l 4 n)
  | .poison => (stMEM_UE, m.readUe ctx va e)
  | .offline => (stMEM_OFFLINE, m)
  | .bus => (stIMAGE_INVALID, m)

/-- A PATTERN_BURST node is dispatched to sequencer `n` (R186): the checks of Table 7.9 in their order, the charge
of R181, then LOADING. From check 4 on a failure leaves the port in its safe state (R205). -/
def Mod.patternBurst (j : Job) (n unit : Nat) (a : List Byte) (host : List Host.Cell) (m0 : Mod) : Mod :=
  let adopted := decide (64 ≤ j.group)
  let early (c : Nat) (s : Mod) : Mod := (s.wr (Reg.SEQ_LAST n) Fields.SEQ_LAST.STATUS c).reportStatus j c
  let fail (c : Nat) (s : Mod) : Mod := early c (s.when (!adopted) (Mod.portSafe n))
  match m0.burstUnit n unit adopted with
  | some c => if n < 32 then early c m0 else m0.reportStatus j c
  | none =>
    if pbAddr a % 0x1000 ≠ 0 then fail stIMAGE_INVALID m0
    else
      let m := m0.charged j.group (pbAddr a) 64
      match m0.devRecord j.group host (pbAddr a) 64 with
      | .error (e, k) =>
        let (c, m1) := m.headerFailed j.group (pbAddr a + k) n e
        fail c m1
      | .ok h =>
        match m.burstChecks n j.group a h with
        | .inl c => fail c m
        | .inr c =>
          (m.putUsed j.group (fget Fields.SEQ_GRP_RESV.USED (m.grpResv j.group) + c)).loadBurst n j (imageOf j.group a h) c
            (pbEntry a) (pbPentry a) (pbTset a)

/-! ### Refill (R17, R179) -/

/-- The first block a stream has requested and not yet received. -/
def nextRefill (blks : List Blk) : Option Blk := blks.find? (fun b => !b.readable)

/-- A block becomes readable. -/
def markReadable (k : Nat) (blks : List Blk) : List Blk :=
  blks.map (fun b => if b.num = k then { b with readable := true } else b)

/-- A refill ends in an error: the burst stops with the code, or the mirror gives its burst up (Table 15.4, R359,
R387, R391). In a working pair the pin dies play the mirror's blocks from the missing one on. -/
def Mod.refillFailed (n ctx va : Nat) (e : MemErr) (m : Mod) : Mod :=
  let m1 := match e with
    | .xlt c l => m.xltFault ctx va .read c l 4 n
    | _ => m.readUe ctx va e
  let code := match e with
    | .xlt _ _ => stXLT_NOMAP
    | .offline => stMEM_OFFLINE
    | _ => stMEM_UE
  if (m.seq n).follows then m1.mirrorFail n code
  else m1.stopSeq n code

/-- REFILL_BLOCK_COMPLETE (R17): the oldest block that a stream of sequencer `n` has requested is written whole into
the prefetch pool and becomes readable; past the end of the stream nothing is read (assumption 15). The group of the
burst's node is charged (R31, R179), and MISS counts a refill that a resident body has had to wait for (R180). -/
def Mod.refillComplete (n : Nat) (payload : Bool) (host : List Host.Cell) (mi : Mod) : Mod :=
  let x := mi.seq n
  if !x.live then mi
  else
    let blks := if payload then x.pblk else x.iblk
    match nextRefill blks with
    | none => mi
    | some b =>
      let len := if payload then x.img.plen else x.img.ilen
      let off := if payload then x.img.payloadOff else x.img.instrOff
      let va := x.img.addr + off + b.num * blkSize
      let size := min blkSize (len - b.num * blkSize)
      let mc := mi.when (mi.refillMiss x payload b) (Mod.bump (Reg.SEQ_PF_STATUS n) Fields.SEQ_PF_STATUS.MISS)
      let m := mc.chargeRead ⟨x.img.ctx, true, false⟩ x.img.ctx (size / 0x10000 + 2) va size
      match mi.devRead x.img.ctx host va size 0 with
      | .error (e, k) => m.refillFailed n x.img.ctx (va + k) e
      | .ok bs =>
        let m1 := m.sramPut (b.pool * blkSize) bs
        m1.putSeq n (if payload then { x with pblk := markReadable b.num x.pblk }
          else { x with iblk := markReadable b.num x.iblk })

/-! ### The first emission -/

/-- Lanes of a group that are ACTIVE. -/
def Mod.lanesUp (m : Mod) (l : List Nat) : Nat :=
  l.countP (fun k => m.rd (Reg.SL_LANE_STATUS k) Fields.SL_LANE_STATUS.STATE == 5)

/-- Whether a port of this module may be protected (R394); a burst whose image lies in a region still being copied
starts unprotected (Table 16.13). -/
def Mod.mayProtect (m : Mod) (n : Nat) : Bool :=
  let x := m.seq n
  let copying := match m.xlate x.img.ctx x.img.addr .read with
    | .ok (.gddr a) => (List.range 16).any (fun k =>
        let c := Reg.SL_MRGN_CFG k
        let l := 0x200000 * m.rd (Reg.SL_MRGN_LOCAL k) Fields.SL_MRGN_LOCAL.BASE
        m.flag c Fields.SL_MRGN_CFG.COPYING && decide (l ≤ a) &&
          decide (a < l + 0x200000 * max 1 (m.rd c Fields.SL_MRGN_CFG.SIZE)))
    | _ => false
  m.pairActive && decide (n < 16) && decide (7 ≤ m.lanesUp (List.range 8)) && !copying &&
    (m.portDies n).all (fun d => m.flag (Reg.SL_PDIE_STATUS d) Fields.SL_PDIE_STATUS.GROUP_OK)

/-- Whether a mirror begins at PCC `p`: 256 SCLK after the primary (R389). -/
def Mod.mirrorDue (m : Mod) (n p : Nat) : Bool :=
  match SMap.get (fun _ => none) m.pair.starts (n - 16) with
  | some q => decide (p = q + 256)
  | none => false

/-- Whether a burst that is loading can emit its first vector (step 4 of R186, R389): the first blocks are readable,
the look-ahead holds a lane group or all the burst will have, and in a working pair 1,000 SCLK have passed since BURST_START; a mirror begins
at its own instant. -/
def Mod.firstReady (m : Mod) (n : Nat) (sclk : Nat) : Bool :=
  let x := m.seq n
  let lw := lanesOf (m.period n x.tset)
  let p := x.pblk.all Blk.readable || (x.pblk.head?.map Blk.readable).getD true
  x.live && x.num == 0 && (x.post.isNone || !x.look.isEmpty) && (x.iblk.head?.map Blk.readable).getD false && p &&
    (decide (lw ≤ x.look.length) || x.ended || x.wait.isSome || x.post.isSome) &&
    (if x.follows then m.mirrorDue n (m.pcc + (sclk - m.ttime)) else !m.pairActive || decide (x.sclk0 + 1000 ≤ sclk))

/-- FIRST_EMISSION (R186) at `ofs` SCLK after the current tick: the burst's cycle start. A burst that reaches END with no
vector completes (R173). -/
def Mod.firstEmission (n ofs : Nat) (m0 : Mod) : Mod :=
  let m := m0.commit n
  let t := m.ttime + ofs
  if !m.firstReady n t then m
  else
    let x := m.seq n
    let m1 := (m.setSeq n { x with sclk0 := t }).setSeqState n (if x.wait.isSome then 4 else if x.paused then 3 else 2)
    let m2 := m1.when (!x.mirror) (fun s => (s.openPorts n).each (s.chans n) Mod.openCount)
    let own := m2.mayProtect n
    let m5 := m2.sendDec n 0 (m2.pcc + ofs) 0
    let m4 := if own || x.follows then m5.wr Reg.SL_PROT ⟨n, 1⟩ 1 else m5.unprotect n
    let m3 := m4.when (!x.mirror) (Mod.portPmuOff n)
    if x.look.isEmpty && (x.ended || x.post.isSome) then m3.tryFinish n
    else ((m3.boundary n).tryArrive n).tryFinish n

end Sys2Proof.Machine
end

