-- ==== Sys2Proof/Machine/Micro.lean ====
section
/-!
DEFINITION. The control store (Chapter 6): its words, the scrub, CHECK and RELOAD; and the execution of micro-routines
(R148, R149, Tables 6.8, 7.7, 7.8).
-/

namespace Sys2Proof.Machine

/-! ### Words -/

/-- SCRUB (R149): the background scrub reads word `w`. -/
def Mod.scrub (w : Nat) (m : Mod) : Mod :=
  let st := Reg.MCS_STATUS
  if !m.storeBad w || m.flag st Fields.MCS_STATUS.SCRUB_ERR then m
  else (m.wr st Fields.MCS_STATUS.SCRUB_ADDR w).mark st Fields.MCS_STATUS.SCRUB_ERR

/-! ### CHECK and RELOAD (R151, R77) -/

/-- The reserved bits of a word are 0 (Tables 6.8, 7.8; the header and the dispatch table). -/
def wordRsvdOk (w v : Nat) : Bool :=
  if w = 0 then nbits v 64 192 == 0
  else if w ≤ 0x10 then (List.range 16).all (fun k => nbits v (16 * k + 12) 3 == 0)
  else nbits v 31 1 == 0 && nbits v 38 2 == 0 && nbits v 48 16 == 0 && nbits v 102 154 == 0

/-- NEXT, BRTARGET and every VALID dispatch address lie within 0x011 to 0xFFF. -/
def wordAddrOk (w v : Nat) : Bool :=
  if w = 0 then true
  else if w ≤ 0x10 then
    (List.range 16).all (fun k => !nbit v (16 * k + 15) || decide (0x11 ≤ nbits v (16 * k) 12))
  else decide (0x11 ≤ nbits v 0 12) && decide (0x11 ≤ nbits v 12 12)

/-- The findings of CHECK: MAGIC, parity, addresses and reserved bits are good. -/
def Mod.storeOk (m : Mod) : Bool × Bool × Bool × Bool :=
  let ws := List.range 4096
  (nbits (m.storeWord 0) 0 32 == 0x4D435331, ws.all (fun w => !m.storeBad w),
   ws.all (fun w => wordAddrOk w (m.storeWord w)), ws.all (fun w => wordRsvdOk w (m.storeWord w)))

/-- A byte of a profile slot (Table 3.6); the image and tables of a factory slot are not given (assumption 4). -/
def Slot.byte (x : Slot) (o : Nat) : Byte :=
  if x.factory && decide (0x10000 ≤ o) then Config.factoryImage o else memByte x.bytes o

def Slot.range (x : Slot) (o n : Nat) : List Byte := (List.range n).map (fun i => x.byte (o + i))

/-- The slot in use. -/
def Mod.slotInUse (m : Mod) : Nat :=
  2 * m.rd Reg.GLB_START_STATE Fields.GLB_START_STATE.PROFILE + m.rd Reg.GLB_START_STATE Fields.GLB_START_STATE.SLOT
def Mod.slot (m : Mod) (k : Nat) : Slot := SMap.get (fun _ => Slot.blank) m.sys.slots k

/-- The control store or the sequencer tables of the slot in use are copied into SRAM (R58, R151). -/
def Mod.copyStore (tables : Bool) (m : Mod) : Mod :=
  let x := m.slot m.slotInUse
  let m1 := m.sramPut 0xF80000 (x.range 0x10000 0x20000)
  m1.when tables (Mod.sramPut 0xFA0000 (x.range 0x30000 0x60000))

/-- The check of R151, and that of R77 where `load`: answers whether every check passed. The image of a factory slot,
just loaded, passes its own check but for parity (assumption 4). -/
def Mod.storeCheck (load : Bool) (m : Mod) : Bool × Mod :=
  let x := m.slot m.slotInUse
  let trust := load && x.factory
  let (mg, pa, ad, rs) := m.storeOk
  let ok := pa && (trust || (mg && ad && rs))
  let crc := crc32 (memRead m.sram 0xF80000 0x20000)
  let ver := nbits (m.storeWord 0) 32 32
  let st := Reg.MCS_STATUS
  let m1 := ((((m.wr st Fields.MCS_STATUS.BAD_MAGIC (b2n (!trust && !mg))).wr st Fields.MCS_STATUS.BAD_PARITY (b2n (!pa))).wr st
    Fields.MCS_STATUS.BAD_ADDR (b2n (!trust && !ad))).wr st Fields.MCS_STATUS.BAD_RSVD (b2n (!trust && !rs))).wr st
    Fields.MCS_STATUS.CHECKING 0
  let m2 := (m1.setReg Reg.MCS_CRC crc).setReg Reg.MCS_VERSION (BitVec.ofNat 32 ver)
  let asExpected := trust || (ver == ofBytes (x.range 0x34 4) && crc.toNat == ofBytes (x.range 0x38 4))
  let all := ok && (!load || asExpected)
  (all, (m2.wr st Fields.MCS_STATUS.LOADED (b2n all)).when (load && !all) (Mod.wr Reg.GLB_START_STATE Fields.GLB_START_STATE.MCS_BAD 1))

/-- CHECK and RELOAD start (R151). -/
def Mod.checkStart (reload : Bool) (m : Mod) : Mod :=
  ({ m with sys := { m.sys with reload := reload } } : Mod).wr Reg.MCS_STATUS Fields.MCS_STATUS.CHECKING 1

/-- CHECK_COMPLETE (R151): a RELOAD has copied the image first. In PROFILE_FAIL for MCS_BAD alone a check that sets
LOADED makes the module READY (R73); a RELOAD that fails the check of R77 makes it PROFILE_FAIL. -/
def Mod.checkComplete (m : Mod) : Mod :=
  let ss := Reg.GLB_START_STATE
  if !m.flag Reg.MCS_STATUS Fields.MCS_STATUS.CHECKING then m
  else
    let m1 := m.when m.sys.reload (Mod.copyStore false)
    let (ok, m2) := m1.storeCheck m.sys.reload
    let m3 : Mod := { m2 with sys := { m2.sys with reload := false } }
    if ok && m.startState == 7 && m.flag ss Fields.GLB_START_STATE.MCS_BAD && !m.flag ss Fields.GLB_START_STATE.PROF_BAD then
      ({ m3 with sys := { m3.sys with pwrgood := true } } : Mod).wr ss Fields.GLB_START_STATE.STATE 6
    else if m.sys.reload && !ok && m.startState == 6 then
      ({ m3 with sys := { m3.sys with pwrgood := false } } : Mod).wr ss Fields.GLB_START_STATE.STATE 7
    else m3

/-! ### Micro-routines -/

/-- The fields of a routine word (Tables 6.8, 7.8). -/
structure Micro where
  next : Nat
  brTarget : Nat
  brCond : Nat
  commit : Bool
  endop : Bool
  waits : Bool
  rep : Nat
  effect : Nat
  vop : Nat
  cntop : Nat
  pcop : Nat
  ppop : Nat
  flagop : Nat
  cwop : Nat
  syncop : Nat
  pfop : Nat
  post : Nat
  status : Nat
  deriving DecidableEq, Repr

def Micro.ofNat (v : Nat) : Micro :=
  { next := nbits v 0 12, brTarget := nbits v 12 12, brCond := nbits v 24 4, commit := nbit v 28, endop := nbit v 29,
    waits := nbit v 30, rep := nbits v 32 6, effect := nbits v 40 8, vop := nbits v 64 4, cntop := nbits v 68 4,
    pcop := nbits v 72 4, ppop := nbits v 76 2, flagop := nbits v 78 4, cwop := nbits v 82 4, syncop := nbits v 86 2,
    pfop := nbits v 88 2, post := nbits v 90 4, status := nbits v 94 8 }

/-- BRCOND (Table 7.7): `us` µs have passed since the wait began. Conditions 12 and 13 read the stack that the word's
CNTOP works on, the call stack for 6 and 7 (assumption 30). -/
def Mod.microCond (m : Mod) (n us : Nat) (u : Micro) (w : Word4) (x : Seq) : Bool :=
  let calls := u.cntop == 6 || u.cntop == 7
  match u.brCond with
  | 0 => false
  | 1 => true
  | 2 => x.vc == 0
  | 3 => (x.levels.head?.map Level.count).getD 0 == 0
  | 4 => (x.levels.head?.map Level.count).getD 0 != 0
  | 5 => m.jccCond n (w.mod % 16) (w.c16 % 16)
  | 6 => match x.matchLevel with
    | some l => x.matchMet l x.sclk
    | none => false
  | 7 => match x.matchLevel with
    | some l => decide (l.max ≤ l.count)
    | none => false
  | 8 => x.latch.contains (w.c16 % 256) ||
      (w.c16 / 16 % 16 == 2 && nbit (m.rd (Reg.SEQ_FLAGS n) Fields.SEQ_FLAGS.USER) (w.c16 % 16))
  | 9 => w.imm != 0 && decide (w.imm ≤ us)
  | 10 => x.wait.isNone && x.resume.isSome
  | 11 => x.look.isEmpty && decide ((if x.wait.isSome then x.waitRes else x.lastRes) ≤ x.sclk)
  | 12 => if calls then decide (16 ≤ x.frames.length) else decide (8 ≤ x.levels.length)
  | 13 => if calls then x.frames.isEmpty else x.levels.isEmpty
  | 14 => x.hold.isSome
  | _ => (m.readStream x.iblk (16 * (x.pc + 1)) 16).isOk && decide (x.pp < x.img.rows) && (m.readRow x x.pp).isOk

/-- VOP: up to `k` vectors enter the look-ahead. Answers how many, and none where a row is not readable yet. -/
def Mod.microVectors (n : Nat) (adv bank : Bool) : Nat → Nat → Mod → Option Nat × Mod
  | 0, done, m => (some done, m)
  | k + 1, done, m =>
    let x := m.seq n
    if x.img.rows ≤ x.pp then (some done, m.postStop n stSTREAM_END)
    else match m.readRow x x.pp with
      | .error false => (if done = 0 then none else some done, m)
      | .error true => (some done, m.seqMchk n 1)
      | .ok bs =>
        let y := x.place (some x.pp) bs bank
        microVectors n adv bank k (done + 1) (m.setSeq n (if adv then { y with pp := x.pp + 1 } else y))

/-- The vectors, hold vector or withdrawal that VOP names (Table 7.8), `k` of them where it emits. -/
def Mod.microVop (n k : Nat) (u : Micro) (w : Word4) (m : Mod) : Option Nat × Mod :=
  let x := m.seq n
  match u.vop with
  | 1 => m.microVectors n true (nbit w.mod 0) k 0
  | 2 => m.microVectors n false (nbit w.mod 0) k 0
  | 3 =>
    match x.hold with
    | some h => (some k, m.setSeq n ((List.range k).foldl (fun y _ => y.place none h.2.1 false) x))
    | none => (some 0, m)
  | 4 =>
    if x.img.rows ≤ x.pp then (some 0, m.postStop n stSTREAM_END)
    else match m.readRow x x.pp with
      | .error false => (none, m)
      | .error true => (some 0, m.seqMchk n 1)
      | .ok bs => (some 0, m.setSeq n { x with whold := some (x.pp, bs, w.c16 % 64), pp := x.pp + 1 })
  | 5 => (some 0, m.setSeq n { x.withdraw with ctl := [] })
  | _ => (some 0, m)

/-- A level that CNTOP pushes. -/
def microLevel (x : Seq) (w : Word4) (isMatch : Bool) : Level :=
  { isMatch := isMatch, count := if isMatch then 1 else w.imm, tgt := w.tgt, body := x.pc + 1, pp := x.pp,
    max := if isMatch then w.imm else 0, mode := if isMatch then w.mod % 4 else 0, stop := isMatch && nbit w.mod 2, pinned := false,
    frames := x.frames.length, mnum := if isMatch then x.mcount + 1 else 0 }

/-- CNTOP; `k` vectors were emitted. A push on a full stack stops the burst as the instructions do (R163, R164). -/
def Mod.microCnt (n k : Nat) (u : Micro) (w : Word4) (m : Mod) : Mod :=
  let x := m.seq n
  match u.cntop with
  | 1 => m.setSeq n { x with vc := w.imm }
  | 2 => m.setSeq n { x with vc := x.vc - k }
  | 3 =>
    if 8 ≤ x.levels.length then m.postStop n stSTACK_OVERFLOW
    else m.setSeq n { x with levels := microLevel x w false :: x.levels }
  | 4 =>
    match x.levels with
    | l :: rest => m.setSeq n { x with levels := { l with count := l.count - 1 } :: rest }
    | [] => m
  | 5 => m.setSeq n (x.popLevels 1)
  | 6 =>
    if 16 ≤ x.frames.length then m.postStop n stSTACK_OVERFLOW
    else m.setSeq n { x with frames := ⟨x.pc + 1, x.pp, x.levels.length⟩ :: x.frames }
  | 7 => m.setSeq n { x with frames := x.frames.drop 1 }
  | 8 =>
    if 8 ≤ x.levels.length then m.postStop n stSTACK_OVERFLOW
    else m.setSeq n { x with
        levels := microLevel x w true :: x.levels
        mcount := x.mcount + 1
        ctlPre := x.ctl.length
        iterFirst := (x.mcount + 1) :: x.iterFirst }
  | _ => m

/-- FLAGOP; NOMATCH also counts for the result word and SEQn_LAST (R191). -/
def Mod.microFlag (n : Nat) (u : Micro) (w : Word4) (m : Mod) : Mod :=
  let r := Reg.SEQ_FLAGS n
  match u.flagop with
  | 1 => m.wr r ⟨w.c16 % 16, 1⟩ 1
  | 2 => m.wr r ⟨w.c16 % 16, 1⟩ 0
  | 3 => m.wr r Fields.SEQ_FLAGS.FAIL 0
  | 4 => m.wr r Fields.SEQ_FLAGS.MATCHED 1
  | 5 => ((m.setSeq n { m.seq n with anyNomatch := true }).wr r Fields.SEQ_FLAGS.NOMATCH 1).bump (Reg.SEQ_LAST n)
      Fields.SEQ_LAST.MATCH_NOMATCH
  | 6 => m.wr r Fields.SEQ_FLAGS.TRIG_SEEN 0
  | _ => m

/-- CWOP: control words for the next vector, and HOLD. -/
def Mod.microCw (n : Nat) (u : Micro) (w : Word4) (m : Mod) : Mod :=
  let x := m.seq n
  match u.cwop with
  | 1 => m.setSeq n { x with ctl := x.ctl ++ [.tset (w.c16 % 64)], tset := w.c16 % 64 }
  | 2 => m.setSeq n { x with ctl := x.ctl ++ [.lset (w.c16 % 256)] }
  | 3 => m.setSeq n { x with ctl := x.ctl ++ [.sig (w.mod % 16) (w.c16 % 64)] }
  | 4 => m.putSeq n { x with hold := x.whold }
  | 5 => m.putSeq n { x with hold := none }
  | _ => m

/-- SYNCOP and PFOP. -/
def Mod.microSync (n : Nat) (u : Micro) (w : Word4) (m : Mod) : Mod :=
  let x := m.seq n
  let m1 := match u.syncop with
    | 1 => (m.setSeq n { x with wait := some (.sync (w.c16 % 16) w.imm), resume := none }).tryArrive n
    | 2 => m.setSeq n { x with arrived := none, wait := none }
    | _ => m
  let y := m1.seq n
  match u.pfop with
  | 1 => m1.setSeq n (m1.pinBody n (w.c16 % 256) (w.c16 / 256) y).2
  | 2 => m1.setSeq n { y with
      iblk := y.iblk.map (fun b => { b with pinned := false })
      pblk := y.pblk.map (fun b => { b with pinned := false }) }
  | _ => m1

/-- The pass through the body of an innermost MATCH ends at its ENDL (R174). -/
def Seq.passEnds (x : Seq) : Seq :=
  match x.levels with
  | l :: _ =>
    if l.isMatch && l.tgt == x.pc then
      { x with iters := onIter l.mnum l.count (fun i => { i with whole := true, endPp := x.pp, endTset := x.tset }) x.iters }
    else x
  | [] => x

/-- The body of an innermost MATCH begins again (R174): its next iteration. -/
def Seq.nextPass (x : Seq) : Seq :=
  match x.levels with
  | l :: rest =>
    if l.isMatch then
      { x with levels := { l with count := l.count + 1 } :: rest, ctlPre := x.ctl.length, iterFirst := l.mnum :: x.iterFirst }
    else x
  | [] => x

/-- PC and PP after a word: PPOP acts in its word, PCOP in the routine's last (assumption 31); `f` and `l` are the frame and
level that were innermost before the word. -/
def Mod.microGo (n : Nat) (u : Micro) (w : Word4) (f : Option Frame) (l : Option Level) (m : Mod) : Mod :=
  let x := m.seq n
  let pp := match u.ppop with
    | 1 => w.prow
    | 2 => (l.map Level.pp).getD x.pp
    | 3 => (f.map Frame.pp).getD x.pp
    | _ => x.pp
  let pc := match u.pcop with
    | 0 => x.pc + 1
    | 1 => w.tgt
    | 2 => (l.map Level.body).getD x.pc
    | 3 => (f.map Frame.pc).getD x.pc
    | _ => w.tgt + 1
  if u.endop then m.goto n pc pp (u.pcop != 0) (if u.pcop = 2 then x.nextPass else x) else m.goto n x.pc pp false x

/-- The word's effects, its place in the span, and the word that follows. -/
def Mod.microRun (n a k : Nat) (u : Micro) (w : Word4) (taken : Bool) (m : Mod) : Mod :=
  let x := m.seq n
  match m.microVop n k u w with
  | (none, _) => m
  | (some e, m1) =>
    let m2 := (((m1.microCnt n e u w).microFlag n u w).microCw n u w).microSync n u w
    let m3 := m2.microGo n u w x.frames.head? x.levels.head?
    let m4 := match u.post with
      | 1 => m3.setSeq n { m3.seq n with ended := true, safe := nbit w.mod 0 }
      | 2 => m3.postStop n u.status
      | _ => m3
    let y := m4.seq n
    if y.post == some stSEQ_MCHK then m4
    else
      let here := u.commit || u.endop
      m4.setSeq n { y with
        span := if here then 0 else x.span + 1 + u.rep
        commitAt := if here then some a else x.commitAt
        effects := if here then 0 else x.effects ||| u.effect
        upc := if u.endop then none else some (if taken then u.brTarget else u.next) }

/-- Whether a word with WAITS performs a wait of R167: for a trigger, a time-out or result times (BRCOND 8, 9, 11); a
barrier's wait has begun when its member arrived. -/
def Micro.holds (u : Micro) : Bool := u.brCond == 8 || u.brCond == 9 || u.brCond == 11

/-- The decision of a wait of a routine: at the latest result time for a result wait, otherwise at the boundary the
emission stage has come to. A time-out of a WTRG counts for the result word (R191). -/
def Mod.microDecide (n : Nat) (u : Micro) (w : Word4) (m : Mod) : Mod :=
  let x := m.seq n
  let m1 := m.when (u.brCond == 9 && w.op == 0x20) (fun s => s.setSeq n { s.seq n with anyTimeout := true })
  m1.when (x.wait == some .micro) (Mod.endWait n (if u.brCond = 11 then x.waitRes else x.sclk))

/-- One control-store word of sequencer `n` (R148, R149): parity first, then the rules of R148; a word with WAITS stays
while its condition does not hold, and each of its cycles is a commit point, where a stop or a pause is met. -/
def Mod.microWord (n a k us : Nat) (w : Word4) (m0 : Mod) : Mod :=
  if m0.storeBad a then m0.seqMchk n 2
  else
    let u := Micro.ofNat (m0.storeWord a)
    let x0 := m0.seq n
    if (u.waits && !u.commit) || decide (64 < x0.span + 1 + u.rep) then m0.seqMchk n 3
    else
      let m1 := if u.waits then ((m0.setSeq n { x0 with span := 0, commitAt := some a, effects := 0 }).commit n).tryPause n
        else m0
      let y := m1.seq n
      if y.post.isSome then m1.setSeq n { y with upc := none }
      else if y.paused then m1
      else
        let m := m1.when (u.waits && u.holds && y.wait.isNone) (Mod.beginWait n .micro y)
        let c := m.microCond n us u w (m.seq n)
        if u.waits && !c && decide (2 ≤ u.brCond) then m
        else (m.when (u.waits && u.holds) (Mod.microDecide n u w)).microRun n a k u w c

/-- MICROWORD_EXECUTE (R148): the next word of the routine in progress, or the first of the instruction at PC, whose
dispatch entry must be good and VALID; at INSTR_COUNT the burst stops with STREAM_END (R162). `k` is the number of vectors a word that emits puts out, at most what its SCLK carry
(assumption 29). -/
def Mod.microExecute (n k us : Nat) (m0 : Mod) : Mod :=
  let m1 := m0.takeEdges n (m0.seqNow n)
  let m := if (m1.seq n).upc.isNone then (m1.commit n).tryPause n else m1
  let x := m.seq n
  if !x.live || x.ended || x.post.isSome || x.paused || x.run != 0 || (x.upc.isNone && x.wait.isSome) || m.lookFull n x then m
  else if x.upc.isNone && decide (x.img.instrs ≤ x.pc) then m.postStop n stSTREAM_END
  else match m.readStream x.iblk (16 * x.pc) 16 with
    | .error false => m
    | .error true => m.seqMchk n 1
    | .ok bs =>
      let w := Word4.ofBytes bs
      match x.upc with
      | some a => m.microWord n a k us w
      | none =>
        let e := m.dispatchEntry w.op
        if m.storeBad (dispatchWord w.op) then m.seqMchk n 2
        else if nbit e 15 then
          (m.setSeq n { x.passEnds with upc := some (e % 4096), span := 0, effects := 0 }).microWord n (e % 4096) k us w
        else m.seqMchk n 4

end Sys2Proof.Machine
end

