-- ==== Sys2Proof/Machine/Hatch.lean ====
section
/-!
DEFINITION. Hatch after a graph has been launched (Chapter 5): the end of nodes, early ends, the arbiters and what they
dispatch, pre-emption, disabling, and privileged queues. Groups 64 to 127 and queues 4096 to 8191 are the peer groups
and adopted queues of R399.
-/

namespace Sys2Proof.Machine

/-! ### Units (Table 5.4, Table 18.8) -/

/-- Number of units of a class that HAT_UCMD names: sequencers, level queues, converters with the HV PMUs, TDCs,
generators, acquisition units, DMA channels and site cores. -/
def classUnits (cls : Nat) : Nat :=
  match cls with
  | 1 => 32
  | 2 => 21
  | 3 => 40
  | 4 => 36
  | 5 | 6 => 8
  | 7 => 32
  | 8 => 16
  | _ => 0

/-- SOURCE and INDEX of the machine check that withholds a unit of Hatch (Table 18.8); for a sequencer, that of its
port's Proof ring. -/
def mchkUnit (cls u : Nat) : Nat × Nat :=
  match cls with
  | 1 => (srcPRF, u)
  | 2 => (srcLQ, u)
  | 3 => if u < 8 then (srcLQ, 32 + u) else (srcHV, u - 8)
  | 4 => (srcTIME, u)
  | 5 => (srcWAVE, u)
  | 6 => (srcWAVE, 8 + u)
  | 7 => (srcDMA, u)
  | _ => (srcMCS, u)

def unitKey (cls u : Nat) : Nat := 256 * cls + u

/-- Disabled through HAT_UCMD (R126). -/
def Mod.unitDisabled (m : Mod) (cls u : Nat) : Bool := SMap.get badDefault m.hat.disabled (unitKey cls u)
def Mod.setUnitDisabled (cls u : Nat) (b : Bool) (m : Mod) : Mod :=
  { m with hat := { m.hat with disabled := SMap.set badDefault m.hat.disabled (unitKey cls u) b } }

/-- ENABLED of HAT_USTATE: not disabled and not in MCHK (R418). -/
def Mod.unitEnabled (m : Mod) (cls u : Nat) : Bool :=
  !m.unitDisabled cls u && !m.inMchk (mchkUnit cls u).1 (mchkUnit cls u).2

/-- The die a unit lies on: 0 core die, 1 P0, 2 P1, 3 H0. -/
def unitDie (cls u : Nat) : Nat :=
  match cls with
  | 2 => lqDie u
  | 3 => if u < 4 then 1 else if u < 8 then 2 else 3
  | 4 => if u < 16 then 1 else if u < 32 then 2 else 3
  | 5 | 6 => 3
  | _ => 0

/-- A calibration run withholds the unit (R333). -/
def Mod.unitScoped (m : Mod) (cls u : Nat) : Bool :=
  match cls with
  | 1 => m.calPort u
  | 3 | 4 | 5 | 6 => m.calScoped (unitDie cls u - 1)
  | _ => false

/-- A unit has an operation in flight (BUSY of HAT_USTATE). -/
def Mod.unitBusy (m : Mod) (cls u : Nat) : Bool :=
  match cls with
  | 1 => (m.seq u).job.isSome || m.seqState u != 0
  | 2 => !(m.lq u).entries.isEmpty
  | 3 => (m.meas u).isSome
  | 4 => (m.tdc u).isSome
  | 5 => (m.wave u).job.isSome || (m.wave u).take.isSome
  | 6 => (m.acq u).isSome
  | 7 => (m.dmaRun u).isSome
  | _ => (m.score u).step.isSome

/-- A unit may take a node: enabled, free and not withheld (R114, R333). -/
def Mod.unitFree (m : Mod) (cls u : Nat) : Bool := m.unitEnabled cls u && !m.unitBusy cls u && !m.unitScoped cls u

/-- Adopted work on the partner's unit (R399). -/
def Mod.awayAt (m : Mod) (cls u : Nat) : Option Job := SMap.get (fun _ => none) m.pair.away (unitKey cls u)
def Mod.setAway (cls u : Nat) (x : Option Job) (m : Mod) : Mod :=
  { m with pair := { m.pair with away := SMap.set (fun _ => none) m.pair.away (unitKey cls u) x } }

/-! ### Where an entry may go (R114, R120, R139) -/

/-- What the arbiter may do with an entry now: wait, dispatch it to a unit (0xFF for work that names none or ends
under its chapter's own check), or end it without running. -/
inductive Go where
  | wait
  | unit (u : Nat)
  | fail (code : Nat)
  deriving DecidableEq, Repr

/-- Dispatch once free, but for a unit whose die is lost or not up (R120). -/
def Mod.goUnit (m : Mod) (cls u : Nat) : Go :=
  let d := unitDie cls u
  if m.isLost d then .fail stPIN_LOST
  else if d = 3 ∧ m.h0Up = false then .fail stUNIT_UNAVAILABLE
  else if m.unitFree cls u then .unit u else .wait

/-- UNIT 0xFF: of the free units that the entry may use, the one with the lowest index (DESIGN CHOICE: assumption 109). -/
def Mod.goAny (m : Mod) (cls : Nat) (l : List Nat) : Go :=
  match l.filter (fun u => !m.isLost (unitDie cls u)) with
  | [] => if l.isEmpty then .unit 0xFF else .fail stPIN_LOST
  | us =>
    match us.find? (fun u => m.unitFree cls u) with
    | some u => .unit u
    | none => .wait

/-- Whether bursts may be dispatched: a complete control store (R150) and LEVEL below 4 (Table 2.9). -/
def Mod.burstsOpen (m : Mod) : Bool :=
  m.flag Reg.MCS_STATUS Fields.MCS_STATUS.LOADED && decide (m.rd Reg.PWR_STATUS Fields.PWR_STATUS.LEVEL < 4)

/-- The place of a node of the module's own groups. -/
def Mod.goOwn (m : Mod) (d : NodeD) : Go :=
  let u := d.unit
  match d.cls with
  | 1 =>
    if !m.burstsOpen then .wait
    else if (m.burstUnit u u false).isSome then .unit u
    else if m.unitFree 1 u then .unit u else .wait
  | 2 =>
    if (m.levelSetCheck u d.args).isSome then .unit 0xFF
    else if (lsEntries d.args).all (fun e => m.unitEnabled 2 e.1 && decide ((m.lq e.1).entries.length ≤ 8)) then .unit 0xFF
    else .wait
  | 3 =>
    if !m.forceRoom d.args then .wait
    else if u = 0xFF then
      let l := allBelow 40 (fun c => convServes c (pmChan d.args))
      if 256 ≤ pmChan d.args ∧ l.isEmpty = false ∧ m.isLost 3 = false ∧ m.h0Up = false then .fail stUNIT_UNAVAILABLE
      else m.goAny 3 l
    else if u < 40 then m.goUnit 3 u else .unit u
  | 4 => if u < 36 then m.goUnit 4 u else if u = 0xFF then .unit u else .fail stUNIT_UNAVAILABLE
  | 5 => if u < 8 then m.goUnit 5 u else .unit u
  | 6 => if u < 8 then m.goUnit 6 u else .unit u
  | 7 =>
    if u = 0xFF then m.goAny 7 (List.range 32)
    else if u < 32 then m.goUnit 7 u else .fail stUNIT_UNAVAILABLE
  | 8 =>
    if u = 0xFF then
      match allBelow 16 m.coreUp with
      | [] => .fail stUNIT_UNAVAILABLE
      | l => m.goAny 8 l
    else if u < 16 ∧ m.coreUp u = true then m.goUnit 8 u
    else .fail stUNIT_UNAVAILABLE
  | _ => .fail stUNIT_UNAVAILABLE

/-- The place of an adopted node (R399): SEQ(16 + n) for SEQn, the partner's dies through control frames and the
secondary port, and the survivor's own channels and cores. -/
def Mod.goPeer (m : Mod) (d : NodeD) : Go :=
  match d.cls with
  | 1 =>
    if !m.burstsOpen then .wait
    else if d.unit < 16 then
      (if (m.burstUnit (16 + d.unit) d.unit true).isSome || m.unitFree 1 (16 + d.unit) then .unit (16 + d.unit) else .wait)
    else .fail stUNIT_UNAVAILABLE
  | 7 | 8 => m.goOwn d
  | c => if (m.awayAt c d.unit).isNone then .unit d.unit else .wait

/-- What may be done with a queue entry now; a pre-empted step goes back to its core (R124). -/
def Mod.go (m : Mod) (e : Entry) : Go :=
  match m.inst e.inst with
  | none => .wait
  | some x =>
    match e.core with
    | some c => if m.coreUp c && m.unitFree 8 c then .unit c else .wait
    | none => if x.group < 64 then m.goOwn (x.node e.node) else m.goPeer (x.node e.node)

/-! ### Early ends (R121, Table 5.7) -/

/-- An entry leaves its queue, and a held one takes its place (R114). -/
def Mod.dequeue (q : Nat) (e : Entry) (m : Mod) : Mod :=
  let y := m.queue q
  (m.setQueue q { y with ready := y.ready.erase e }).refillQueue q (y.held.length + 1)

/-- Every ready and held entry of an instance leaves its group's queues, without records. -/
def Mod.dropEntries (slot : Nat) (m : Mod) : Mod :=
  m.each (m.queues.map Prod.fst) (fun q s =>
    let y := s.queue q
    let mine (e : Entry) : Bool := e.inst != slot
    if y.ready.all mine && y.held.all mine then s
    else (s.setQueue q { y with
      ready := y.ready.filter mine
      held := y.held.filter mine }).refillQueue q (y.held.length + 1))

/-- A request for pre-emption on behalf of an entry of an instance is withdrawn. -/
def Mod.dropRequests (slot : Nat) (m : Mod) : Mod :=
  m.each (List.range 16) (fun c s =>
    match SMap.get (fun _ => none) s.hat.preempt c with
    | some p =>
      if p.entry.inst = slot ∧ s.acked c = false then (s.lapse c).putReq c { s.score c with reqPreempt := false } else s
    | none => s)

/-- A running CORE_STEP is interrupted: ABORT replaces any request (R121, R125); one that has already saved its context
is dropped (R145). -/
def Mod.abortStep (c code : Nat) (m : Mod) : Mod :=
  if m.acked c then m.stepOver c code 0 false
  else (m.lapse c).putReq c { m.score c with
    reqAbort := true
    reqPreempt := false }

/-- One node of an instance that ends early: its running operation stops as Table 5.7 states; a suspended step is
dropped from its slot (R145). -/
def Mod.stopNode (slot k code : Nat) (m : Mod) : Mod :=
  match m.inst slot with
  | none => m
  | some x =>
    match x.nodeSt k with
    | .running cls u =>
      if m.hat.reports.any (fun r => r.inst == slot && r.node == k) then m
      else if 64 ≤ x.group ∧ 2 ≤ cls ∧ cls ≤ 6 then m
      else
        match cls with
        | 1 => m.endSeqEarly u code
        | 5 => m.waveStop u
        | 6 => m.aqEnd u code
        | 7 => m.dmaStopAt u code
        | 8 => m.abortStep u code
        | _ => m
    | .suspended c s =>
      let y := m.score c
      (m.setScore c { y with susp := y.susp.filter (fun e => e.1 != s) }).setInst slot (some (x.setSt k .done))
    | _ => m

/-- An event ends an instance early (R113, R121): the first sets the status. -/
def Mod.quit (slot code bad : Nat) (m : Mod) : Mod :=
  match m.inst slot with
  | none => m
  | some x =>
    if x.quitStatus.isSome then m
    else
      let m1 := m.setInst slot (some { x with
        quitStatus := some code
        badNode := bad })
      let m2 := ((m1.trace 8 0 x.group x.queue code slot (if bad = 0xFFFF then 0 else bad) 0).dropEntries slot).dropRequests slot
      (m2.each (List.range x.nodes.length) (fun k s => s.stopNode slot k code)).checkEnd slot

/-! ### The end of a node (R110, R111, R117) -/

/-- Occupancy is paid back: COST − A (R117), COST 0 acting as 1. -/
def Mod.payBack (cls g cost us : Nat) (m : Mod) : Mod :=
  let d : Int := m.hat.deficitOf cls g + ((max cost 1 : Nat) : Int) - (us : Int)
  { m with hat := m.hat.setDeficit cls g d }

/-- A node's end counts: its token appears after SETTLE, or its status ends the instance; of an instance that has ended
early the result is discarded. -/
def Mod.commitNode (r : Report) (m : Mod) : Mod :=
  match m.inst r.inst with
  | none => m
  | some x =>
    let k := r.node
    let tok : Token := ⟨r.value, r.fail, false⟩
    let y := { x with
      stretch := x.stretch + r.stretch
      ran := x.ran + b2n r.ran }
    let gone : Mod := { m with hat := { m.hat with noAsk := SMap.set badDefault m.hat.noAsk (1024 * r.inst + k) false } }
    if x.quitStatus.isSome then (gone.setInst r.inst (some (y.setSt k .done))).checkEnd r.inst
    else if r.status ≠ stOK then (gone.setInst r.inst (some (y.setSt k .done))).quit r.inst r.status k
    else if (x.node k).settle = 0 then
      ((gone.setInst r.inst (some ((y.setSt k .done).placeTokens k tok))).evalNodes r.inst).checkEnd r.inst
    else gone.setInst r.inst (some (y.setSt k (.settling tok)))

/-- NODE_COMPLETE: the oldest report of a unit reaches Hatch, which used `us` µs. In a working pair the end counts
when its NODE_END record has been acknowledged (R396). -/
def Mod.nodeComplete (us : Nat) (m : Mod) : Mod :=
  match m.hat.reports with
  | [] => m
  | r :: rest =>
    match m.inst r.inst with
    | none => { m with hat := { m.hat with reports := rest } }
    | some x =>
      if m.journalFull then m
      else
        let n := x.node r.node
        let u := match x.nodeSt r.node with
          | .running _ u => u
          | _ => n.unit
        let m1 := (({ m with hat := { m.hat with reports := rest } } : Mod).payBack n.cls x.group n.cost
          (if r.ran then us else 0)).trace 2 n.cls x.group (x.queueOf r.node) r.status r.inst r.node u
        if m.pairActive && decide (x.group < 64) then
          let j := m1.pair.jseq
          let m2 := m1.journal 4 u x.site x.group r.inst r.node (leBytes 1 r.status ++ leBytes 8 r.value.toNat ++
            leBytes 1 (b2n r.fail) ++ leBytes 8 r.stretch)
          { m2 with pair := { m2.pair with ends := m2.pair.ends ++ [(j, r)] } }
        else m1.commitNode r

/-- TIMEOUT (R95): the descriptor's TIMEOUT µs have passed since the launch was accepted. -/
def Mod.instTimeout (slot us : Nat) (m : Mod) : Mod :=
  match m.inst slot with
  | none => m
  | some x => if x.timeout ≠ 0 ∧ x.timeout ≤ us then m.quit slot stTIMEOUT 0xFFFF else m

/-- NODE_TIMEOUT (R121): a node's TIMEOUT µs have passed since its dispatch. The TIMEOUT of a burst that waits in its queue
because the control store is not loaded runs too (R150). -/
def Mod.nodeTimeout (slot k us : Nat) (m : Mod) : Mod :=
  match m.inst slot with
  | none => m
  | some x =>
    let live := match x.nodeSt k with
      | .running _ _ => true
      | .suspended _ _ => true
      | .ready | .held => (x.node k).cls == 1 && !m.flag Reg.MCS_STATUS Fields.MCS_STATUS.LOADED
      | _ => false
    if live && decide ((x.node k).timeout ≠ 0) && decide ((x.node k).timeout ≤ us) then m.quit slot stNODE_TIMEOUT k else m

/-! ### Dispatch (R109, R120) -/

/-- The values handed to the unit: the input edges in rising order, SKIP inputs absent; the edges are empty from then
on. -/
def Inst.inputsOf (x : Inst) (k : Nat) : List (Option DWord) :=
  (x.inEdges k).map (fun j => match x.token j with
    | some t => if t.skip then none else some t.value
    | none => none)
def Inst.consume (k : Nat) (x : Inst) : Inst := (x.inEdges k).foldl (fun y j => y.setToken j none) x

/-- LIST_ADDR of a DMA node, and whether its ARGS are valid (Table 15.5). -/
def dnAddr (a : List Byte) : Nat := fieldAt a 0 6
def dnOk (a : List Byte) : Bool := zerosAt a 6 42

/-- A node's work begins at its unit. -/
def Mod.startNode (slot k u : Nat) (x : Inst) (host : List Host.Cell) (m : Mod) : Mod :=
  let d := x.node k
  let j : Job := ⟨some slot, k, x.group, x.site⟩
  let away : Mod := (m.setAway d.cls u (some j)).emit
    (.siteLink 30 ([d.cls, u, x.site, slot, k] ++ d.args.map BitVec.toNat))
  match d.cls with
  | 1 => m.patternBurst j u (if x.group < 64 then u else u - 16) d.args host
  | 2 => if x.group < 64 then m.levelSet j d.unit d.args else away
  | 3 => if x.group < 64 then m.pmuMeas j u d.unit d.args else away
  | 4 => if x.group < 64 then m.tdcMeas j u d.args else away
  | 5 => if x.group < 64 then m.wavePlay j u d.args else away
  | 6 => if x.group < 64 then m.acquire j u d.args else away
  | 7 =>
    let m1 := m.dmaStart u (.node j) x.group (dnAddr d.args) host
    if dnOk d.args then m1 else m1.dmaEnd u stDMA_BADLIST
  | _ => m.stepStart u slot k d.args ((SMap.get (fun _ => []) x.inputs k)) host

/-- A node that its unit's own check has ended at dispatch has not run: R117 charges it nothing. -/
def Mod.notRun (slot k : Nat) (before : List Report) (m : Mod) : Mod :=
  { m with hat := { m.hat with
    reports := m.hat.reports.take before.length ++ (m.hat.reports.drop before.length).map (fun r =>
      if r.inst = slot ∧ r.node = k ∧ r.status ≠ stOK then { r with ran := false } else r) } }

/-- A request for pre-emption on behalf of an entry that is dispatched is withdrawn, unless the core has acknowledged it. -/
def Mod.endRequests (e : Entry) (m : Mod) : Mod :=
  m.each (List.range 16) (fun c s =>
    match SMap.get (fun _ => none) s.hat.preempt c with
    | some p =>
      s.when (p.entry == e && !s.acked c) (fun t => (t.lapse c).putReq c { t.score c with reqPreempt := false })
    | none => s)

/-- An entry that an arbiter has taken is dispatched. -/
def Mod.dispatch (q : Nat) (e : Entry) (g : Go) (drain : Bool) (host : List Host.Cell) (m : Mod) : Mod :=
  match m.inst e.inst with
  | none => m
  | some x0 =>
    let prio := fget Fields.HAT_Q_CFG.PRIO (m.qCfg q)
    let m1 : Mod := { m with hat := { m.hat with
      lastServed := SMap.set (fun _ => 0) m.hat.lastServed (8 * (q / 64) + prio) ((q % 64 + 1) % 64) } }
    let m2 := (m1.dequeue q e).when (m.classOf e.inst e.node == 8) (Mod.endRequests e)
    let k := e.node
    let x := { x0 with
      inputs := if e.core.isSome then x0.inputs else SMap.set (fun _ => []) x0.inputs k (x0.inputsOf k)
      disp := if e.core.isSome then x0.disp else SMap.set (fun _ => 0) x0.disp k m.cmds
      ttimeFirst := some (x0.ttimeFirst.getD (BitVec.ofNat 64 m.ttime)) }
    let cls := (x.node k).cls
    match g with
    | .wait => m
    | .fail code =>
      ((m2.setInst e.inst (some ((x0.consume k).setSt k (.running cls 0xFF)))).trace 1 cls x.group q 0 e.inst k
        0xFF).report ⟨some e.inst, k, x.group, x.site⟩ code 0 false 0 false
    | .unit u =>
      let m3 := (m2.setInst e.inst (some ((x.consume k).setSt k (.running cls u)))).trace 1 cls x.group q 0 e.inst k u
      match e.core, x0.nodeSt k with
      | some c, _ =>
        match (m.score c).susp.find? (fun s => s.2 == (e.inst, k)) with
        | some (s, _) => m3.stepResume c s (x.node k).args (SMap.get (fun _ => []) x.inputs k) drain
        | none => m3
      | none, _ =>
        let m4 := m3.when (x.group < 64) (Mod.journal 3 u x.site x.group e.inst k (leBytes 1 cls ++ leBytes 1 u ++ leBytes 8 m.ttime))
        (m4.startNode e.inst k u x host).notRun e.inst k m4.hat.reports

/-! ### The arbiters (R115 to R118) -/

/-- The class of a queue entry. -/
def Mod.entryClass (m : Mod) (e : Entry) : Nat := m.classOf e.inst e.node

/-- The entry a group offers to the arbiter of a class (R115), by a test of eligibility: the oldest eligible entry of
its highest-priority queue that has one, queues of one priority in turn. -/
def Mod.offerBy (m : Mod) (cls g : Nat) (ok : Entry → Bool) : Option (Nat × Entry) :=
  let score (q : Nat) : Nat :=
    let p := fget Fields.HAT_Q_CFG.PRIO (m.qCfg q)
    64 * p + (63 - (q % 64 + 64 - SMap.get (fun _ => 0) m.hat.lastServed (8 * g + p)) % 64)
  m.queues.foldl (fun best e =>
    if e.1 / 64 ≠ g then best
    else match e.2.ready.find? (fun x => m.entryClass x == cls && ok x) with
      | none => best
      | some x => match best with
        | none => some (e.1, x)
        | some b => if score b.1 < score e.1 then some (e.1, x) else best) none

def Mod.offer (m : Mod) (cls g : Nat) : Option (Nat × Entry) := m.offerBy cls g (fun e => m.go e != .wait)

def Mod.entryCost (m : Mod) (e : Entry) : Nat := match m.inst e.inst with
  | some x => (x.node e.node).cost
  | none => 0

/-- What the arbiter of a class sees. -/
def Mod.offersOf (m : Mod) (cls : Nat) : Offers :=
  { quantum := fun g => fget Fields.HAT_GRP_CFG.WEIGHT (m.grpCfg g)
    enabled := m.groupOn
    entry := fun g => m.queues.any (fun e => e.1 / 64 == g && e.2.ready.any (fun x => m.entryClass x == cls))
    offers := fun g => (m.offer cls g).isSome
    cost := fun g => match m.offer cls g with
      | some (_, e) => m.entryCost e
      | none => 0 }

/-- The cores a CORE_STEP entry may use. -/
def Mod.coresOf (m : Mod) (e : Entry) : List Nat :=
  match e.core, m.inst e.inst with
  | some c, _ => [c]
  | none, some x => if (x.node e.node).unit = 0xFF then List.range 16 else [(x.node e.node).unit]
  | none, none => []

/-- Whether the step running on core `c` may be asked to give way to an entry of priority `p` (R123, R124, R145). -/
def Mod.mayPreempt (m : Mod) (c p : Nat) : Bool :=
  let y := m.score c
  match y.step with
  | none => false
  | some (i, k) =>
    match m.inst i with
    | none => false
    | some x =>
      (x.node k).preemptible && decide (fget Fields.HAT_Q_CFG.PRIO (m.qCfg (x.queueOf k)) < p) && m.coreUp c &&
        m.unitEnabled 8 c && decide (y.susp.length < 3) && !y.reqAbort &&
        (SMap.get (fun _ => none) m.hat.preempt c).isNone && !SMap.get badDefault m.hat.noAsk (1024 * i + k)

/-- The step to ask: the lowest priority, and among equals the one dispatched last (R123). A resume does not count as its
dispatch: it is not a new one (R145; DEDUCED: assumption 109). -/
def Mod.victim (m : Mod) (cores : List Nat) (p : Nat) : Option Nat :=
  let key (c : Nat) : Nat × Nat := match (m.score c).step with
    | some (i, k) => (match m.inst i with
      | some x => (fget Fields.HAT_Q_CFG.PRIO (m.qCfg (x.queueOf k)), SMap.get (fun _ => 0) x.disp k)
      | none => (8, 0))
    | none => (8, 0)
  (cores.filter (fun c => m.mayPreempt c p)).foldl (fun best c => match best with
    | none => some c
    | some b =>
      let (pb, tb) := key b
      let (pc, tc) := key c
      if pc < pb ∨ (pc = pb ∧ tb < tc) then some c else best) none

/-- Hatch requests pre-emption (R123) for the entry that the group holding the CORE_STEP turn offers, where its deficit
covers the cost and no enabled core that the entry may use is free. -/
def Mod.askPreempt (m : Mod) : Mod :=
  let g := m.hat.turn 8
  let wait := m.rd Reg.HAT_CTRL Fields.HAT_CTRL.PREEMPT_WAIT
  if wait = 0 ∨ m.groupOpen g = false then m
  else match m.offerBy 8 g (fun e => (m.coresOf e).any (fun c => m.coreUp c && m.unitEnabled 8 c)) with
    | none => m
    | some (q, e) =>
      let p := fget Fields.HAT_Q_CFG.PRIO (m.qCfg q)
      let asked := m.hat.preempt.any (fun r => match r.2 with
        | some x => x.entry == e
        | none => false)
      if asked || decide (m.hat.deficitOf 8 g < ((max (m.entryCost e) 1 : Nat) : Int)) || m.go e != .wait then m
      else match m.victim (m.coresOf e) p with
        | none => m
        | some c =>
          let (i, k) := (m.score c).step.getD (0, 0)
          let m1 : Mod := { m with hat := { m.hat with preempt := SMap.set (fun _ => none) m.hat.preempt c (some ⟨q, e⟩) } }
          (m1.putReq c { m1.score c with reqPreempt := true }).trace 5 8 g q 0 i k c

/-- A suspended step whose core or group is disabled resumes with DRAIN; that is no new dispatch (R145). -/
def Mod.drainResume (m : Mod) : Option (Nat × Entry) :=
  m.queues.foldl (fun best y => match best with
    | some b => some b
    | none =>
      (y.2.ready.find? (fun e => match e.core with
        | some c => m.coreUp c && !m.unitBusy 8 c && (!m.groupOn (y.1 / 64) || m.unitDisabled 8 c)
        | none => false)).map (fun e => (y.1, e))) none

/-- ARBITER_DECISION of a class (R116): the pick, dispatched; for CORE_STEP a resume of R145 first, and before the pick the
request for pre-emption that R123 asks for. -/
def Mod.arbiterDecision (cls : Nat) (host : List Host.Cell) (m : Mod) : Mod :=
  if m.hat.stopped || m.journalFull then m
  else
    match (if cls = 8 then m.drainResume else none) with
    | some (q, e) => m.dispatch q e (.unit (e.core.getD 0)) true host
    | none =>
      if !m.dispatchOpen then m
      else
        let m0 := m.when (cls == 8) Mod.askPreempt
        let (g, h) := m0.hat.pick cls (m0.offersOf cls)
        let m1 : Mod := { m0 with hat := h }
        match g with
        | some g =>
          match m0.offer cls g with
          | some (q, e) => m1.dispatch q e (m0.go e) false host
          | none => m1
        | none => m1

/-! ### Pre-emption (R124) -/

/-- PREEMPT_DONE: the core has acknowledged. Its step is suspended and re-enters the head of its queue, bound to the
core, where a queue of 16 entries then holds 17 (DESIGN CHOICE: assumption 109), charged for the `us` µs it used. The
waiting entry is dispatched to the core where it is still queued and its group and the core are open (R126). -/
def Mod.preemptDone (c us : Nat) (host : List Host.Cell) (m : Mod) : Mod :=
  let y := m.score c
  match SMap.get (fun _ => none) m.hat.preempt c, y.step with
  | some p, some (i, k) =>
    if !m.acked c || !y.reqPreempt then m
    else match m.inst i with
      | none => m
      | some x =>
        let q := x.queueOf k
        let d := x.node k
        let m1 := ((m.lapse c).setScore c { y with
          step := none
          susp := y.susp ++ [(y.slot, (i, k))]
          reqPreempt := false
          reqDrain := false }).setInst i (some (x.setSt k (.suspended c y.slot)))
        let m2 := ((m1.setQueue q { m1.queue q with ready := ⟨i, k, some c⟩ :: (m1.queue q).ready }).payBack 8 x.group
          d.cost us).trace 6 8 x.group q 0 i k c
        let g := p.queue / 64
        let cost : Int := ((max (m2.entryCost p.entry) 1 : Nat) : Int)
        if m2.hat.stopped || m2.journalFull || !m2.groupOpen g || !(m2.queue p.queue).ready.contains p.entry ||
            !(m2.coresOf p.entry).contains c || !m2.coreUp c || !m2.unitFree 8 c then m2
        else ({ m2 with hat := m2.hat.setDeficit 8 g (m2.hat.deficitOf 8 g - cost) } : Mod).dispatch p.queue p.entry (.unit c)
          false host
  | _, _ => m

/-- PREEMPT_TO: no acknowledgement within PREEMPT_WAIT µs; the request is withdrawn and the step is left alone. -/
def Mod.preemptTo (c us : Nat) (m : Mod) : Mod :=
  let y := m.score c
  match SMap.get (fun _ => none) m.hat.preempt c, y.step with
  | some p, some (i, k) =>
    if m.acked c || decide (us < m.rd Reg.HAT_CTRL Fields.HAT_CTRL.PREEMPT_WAIT) then m
    else
      let m1 := ((m.lapse c).putReq c { y with reqPreempt := false }).mark Reg.HAT_ERR Fields.HAT_ERR.PREEMPT_TIMEOUT
      let m2 : Mod := { m1 with hat := { m1.hat with noAsk := SMap.set badDefault m1.hat.noAsk (1024 * i + k) true } }
      m2.trace 7 8 (p.queue / 64) p.queue 0 i k c
  | _, _ => m

/-- PREEMPT_WAIT_EXPIRY: a further PREEMPT_WAIT µs have passed; the step may be asked again. -/
def Mod.preemptWaitExpiry (i k us : Nat) (m : Mod) : Mod :=
  if us < m.rd Reg.HAT_CTRL Fields.HAT_CTRL.PREEMPT_WAIT then m
  else { m with hat := { m.hat with noAsk := SMap.set badDefault m.hat.noAsk (1024 * i + k) false } }

/-! ### Descriptors Hatch takes itself -/

/-- A running or queued graph that GRAPH_ABORT names: an instance slot, or a descriptor on chip (R95). -/
def Mod.queuedGraph (m : Mod) (site ident : Nat) : Option (Nat × Nat) :=
  m.queues.foldl (fun best e => match best with
    | some b => some b
    | none =>
      (e.2.onchip.findIdx? (fun d => descOpcode d.bytes == 1 && descSite d.bytes == site &&
        fieldAt d.bytes 24 4 == ident)).map (fun k => (e.1, k))) none

/-- GRAPH_ABORT (R95): the target ends with ABORTED, or the abort is late. -/
def Mod.graphAbort (q : Nat) (d : Desc) (m : Mod) : Mod :=
  let site := descSite d.bytes
  let ident := fieldAt d.bytes 8 4
  let late := m.complete (descQuiet d.bytes) { descComp q d.serial d.bytes stOK 0#32 with abortLate := true }
  match m.runningInst site ident with
  | some slot =>
    match m.inst slot with
    | some x => if x.quitStatus.isSome then late else (m.quit slot stABORTED 0xFFFF).completeDesc q d stOK 0#32
    | none => late
  | none =>
    match m.queuedGraph site ident with
    | some (qt, kt) =>
      match (m.queue qt).onchip[kt]? with
      | some t => ((m.dropDesc qt kt).completeDesc qt t stABORTED 0#32).completeDesc q d stOK 0#32
      | none => late
    | none => late

/-- TOKEN_INJECT (R96, R112): the token is placed on the external edge after its COND, or a status ends the
descriptor. -/
def Mod.tokenInject (q : Nat) (d : Desc) (m : Mod) : Mod :=
  let edge := fieldAt d.bytes 12 2
  let none_ := m.completeDesc q d stNO_TARGET 0#32
  match m.runningInst (descSite d.bytes) (fieldAt d.bytes 8 4) with
  | none => none_
  | some slot =>
    match m.inst slot with
    | none => none_
    | some x =>
      if !decide (edge < x.edges.length) || (x.edge edge).src != 0xFFFF then none_
      else if (x.token edge).isSome then m.completeDesc q d stTOKEN_FULL 0#32
      else
        let t := edgeToken (x.edge edge) ⟨BitVec.ofNat 64 (fieldAt d.bytes 16 8), false, false⟩
        let m1 := m.when (q < 4096) (Mod.journal 11 0 x.site x.group slot edge (leBytes 2 edge ++ leBytes 8 t.value.toNat ++
          leBytes 1 (b2n t.skip)))
        (((m1.setInst slot (some (x.setToken edge (some t)))).evalNodes slot).checkEnd slot).completeDesc q d stOK 0#32

/-- DMA_LIST (R364): the list runs on the named channel, or on the lowest free one, once it is enabled and free. -/
def Mod.dmaList (q k : Nat) (d : Desc) (host : List Host.Cell) (m : Mod) : Mod :=
  let c := byteAt d.bytes 14
  let pick := if c = 0xFF then firstBelow (fun u => m.unitFree 7 u) 32 else if c < 32 ∧ m.unitFree 7 c = true then some c else none
  match pick with
  | some ch => (m.dropDesc q k).dmaStart ch (.desc q d.serial d.bytes) (q / 64) (fieldAt d.bytes 8 6) host
  | none => m

/-- A launch that waits for an instance slot takes one that has freed (R108). -/
def Mod.instanceAccept (q k : Nat) (host : List Host.Cell) (m : Mod) : Mod :=
  match (m.queue q).onchip[k]? with
  | none => m
  | some d =>
    if !d.waiting || m.freeSlot.isNone then m
    else match m.takeable q k (descOpcode d.bytes) with
      | some d => m.launch (descOpcode d.bytes == 5) q k { d with waiting := false } host
      | none => m

/-- NODE_FETCH (R108): a node descriptor missing from the node cache is read through the group's context. The node is
the one the launch has checked; a read that fails ends the instance (Table 15.4, R359). -/
def Mod.nodeFetch (slot k : Nat) (host : List Host.Cell) (m : Mod) : Mod :=
  match m.inst slot with
  | none => m
  | some x =>
    if !decide (k < x.nodes.length) || x.quitStatus.isSome then m
    else
      let va := x.image + (if x.nodeRun then 0 else 64 + 64 * k)
      match m.devRecord x.group host va 64 with
      | .ok _ => (m.charged x.group va 64).servedCtx x.group
      | .error (e, o) =>
        let (code, m1) := m.fetchFailed x.group (va + o) e
        m1.quit slot code k

/-! ### Disabling (R126 to R128) -/

/-- Cores whose running step belongs to a group. -/
def Mod.groupCores (m : Mod) (g : Nat) : List Nat := allBelow 16 (fun c => match (m.score c).step with
  | some (i, k) => (m.nodeJob i k).group == g
  | none => false)

/-- DRAIN is asked of a core's step (R123, Table 6.4). -/
def Mod.drainStep (c : Nat) (m : Mod) : Mod :=
  if (m.score c).step.isSome then m.putReq c { m.score c with reqDrain := true } else m

/-- A group is disabled: its bursts stop with UNIT_DISABLED and its steps are told to drain. -/
def Mod.groupOff (g : Nat) (m : Mod) : Mod :=
  let m1 := m.each (List.range 32) (fun n s => match (s.seq n).job with
    | some j => s.when (j.group == g && !(s.seq n).mirror) (Mod.stopSeq n stUNIT_DISABLED)
    | none => s)
  m1.each (m1.groupCores g) (fun c s => s.drainStep c)

/-- Every ready entry that a test names is removed, and its instance ends with FLUSHED (R127). -/
def Mod.flushEntries (p : Nat → Entry → Bool) (m : Mod) : Mod :=
  let hit := m.queues.flatMap (fun y => (y.2.ready.filter (p y.1)).map Entry.inst)
  let m1 := m.each (m.queues.map Prod.fst) (fun q s =>
    let y := s.queue q
    s.setQueue q { y with ready := y.ready.filter (fun e => !p q e) })
  let m2 := m1.each hit.eraseDups (fun i s => s.quit i stFLUSHED 0xFFFF)
  m2.each (m2.queues.map Prod.fst) (fun q s => s.refillQueue q ((s.queue q).held.length + 1))

/-- Descriptors on chip that a test names complete with FLUSHED (R127). -/
def Mod.flushDescs (p : Nat → Desc → Bool) (m : Mod) : Mod :=
  m.each (m.queues.map Prod.fst) (fun q s =>
    let y := s.queue q
    (y.onchip.filter (p q)).foldl (fun t d => t.completeDesc q d stFLUSHED 0#32)
      (s.setQueue q { y with onchip := y.onchip.filter (fun d => !p q d) }))

/-- Everything queued in a group is flushed; the completions of this instant keep the order of R99 item 5. -/
def Mod.groupFlush (g : Nat) (m : Mod) : Mod :=
  ((m.flushEntries (fun q _ => q / 64 == g)).flushDescs (fun q _ => q / 64 == g)).atOnce m

/-- The deficits of a group return to 0 (R128). -/
def Mod.groupFresh (g : Nat) (m : Mod) : Mod :=
  m.each (List.range 9) (fun c s => { s with hat := s.hat.setDeficit c g 0 })

/-- HAT_UCMD disable of the selected unit: a burst stops with UNIT_DISABLED, a step drains, everything else finishes. -/
def Mod.unitOff (cls u : Nat) (m : Mod) : Mod :=
  let m1 := m.setUnitDisabled cls u true
  match cls with
  | 1 => m1.when (!(m1.seq u).mirror) (Mod.stopSeq u stUNIT_DISABLED)
  | 8 => m1.drainStep u
  | _ => m1

/-- The units that an entry may go to (R114, R120, R139): the unit it names, the level queues of its entries, the
converters that serve its channel, or the available cores. -/
def Mod.unitsOf (m : Mod) (e : Entry) : List Nat :=
  match e.core, m.inst e.inst with
  | some c, _ => [c]
  | none, none => []
  | none, some x =>
    let d := x.node e.node
    match d.cls with
    | 2 => ((lsEntries d.args).map Prod.fst).eraseDups
    | 3 => if d.unit = 0xFF then allBelow 40 (fun c => convServes c (pmChan d.args)) else [d.unit]
    | 7 => if d.unit = 0xFF then List.range 32 else [d.unit]
    | 8 => if d.unit = 0xFF then allBelow 16 m.coreUp else [d.unit]
    | _ => [d.unit]

/-- Entries and descriptors eligible only for the unit are flushed (R127). -/
def Mod.unitFlush (cls u : Nat) (m : Mod) : Mod :=
  ((m.flushEntries (fun _ e => m.classOf e.inst e.node == cls && m.unitsOf e == [u])).flushDescs (fun _ d =>
    cls == 7 && descOpcode d.bytes == 4 && byteAt d.bytes 14 == u)).atOnce m

/-- HAT_UCMD enable: the unit's entries are eligible again, and a machine check is released (R128, R418). -/
def Mod.unitOn (cls u : Nat) (m : Mod) : Mod := (m.setUnitDisabled cls u false).setMchk (mchkUnit cls u).1 (mchkUnit cls u).2 false

/-- Whether HAT_USEL names a unit that exists. -/
def unitExists (cls u : Nat) : Bool := decide (u < classUnits cls)

/-- A write of HAT_UCMD OP. -/
def Mod.ucmd (op : Nat) (m : Mod) : Mod :=
  let cls := m.rd Reg.HAT_USEL Fields.HAT_USEL.CLASS
  let u := m.rd Reg.HAT_USEL Fields.HAT_USEL.INDEX
  if op = 0 then m
  else if !unitExists cls u then m.mark Reg.HAT_ERR Fields.HAT_ERR.UCMD_REFUSED
  else match op with
    | 1 => m.unitOff cls u
    | 2 => (m.unitOff cls u).unitFlush cls u
    | _ => m.unitOn cls u

/-! ### Privileged queues (R129 to R131) -/

/-- A spill context's capacity in records, and the place of its record `i`, the region a ring counted from the oldest record;
two queues that name one context share its COUNT (DESIGN CHOICE: assumption 109). -/
def Mod.spillSlots (m : Mod) (k : Nat) : Nat :=
  let s := m.rd (Reg.HAT_SPILL_CFG k) Fields.HAT_SPILL_CFG.SIZE_LOG2
  2 ^ ((if 16 ≤ s ∧ s ≤ 30 then s else 16) - 6)
def Mod.spillAt (m : Mod) (k i : Nat) : Nat := m.rd64 (Reg.HAT_SPILL_BASE_LO k) + 64 * (i % m.spillSlots k)
def Mod.spilled (m : Mod) (k : Nat) : Nat := m.rd (Reg.HAT_SPILL_STATE k) Fields.HAT_SPILL_STATE.COUNT

/-- A record enters a privileged queue, or its spill region where the chip's 16 entries are full or records are already
spilled. Answers whether the producer is relieved of it. -/
def Mod.privPut (q : Nat) (bs : List Byte) (m : Mod) : Bool × Mod :=
  let y := m.queue q
  let k := m.rd (Reg.HAT_Q_CFG q) Fields.HAT_Q_CFG.SPILL_CTX
  let n := m.spilled k
  if y.priv.length < 16 ∧ n = 0 then (true, m.setQueue q { y with priv := y.priv ++ [⟨bs⟩] })
  else if m.spillSlots k ≤ n then (false, m.mark Reg.HAT_ERR Fields.HAT_ERR.SPILL_FULL)
  else match m.devPut 25 (q / 64) (m.spillAt k (y.spillRd + n)) bs with
    | .ok m1 =>
      let th := m.rd (Reg.HAT_SPILL_CFG k) Fields.HAT_SPILL_CFG.THRESH * m.spillSlots k / 256
      let m2 := (m1.wr (Reg.HAT_SPILL_STATE k) Fields.HAT_SPILL_STATE.COUNT (n + 1)).trace 9 0 (q / 64) q 0 0 0 0
      (true, m2.when (decide (n < th) && decide (th ≤ n + 1)) (Mod.dueAt Reg.HOST_EVT_VEC1 Fields.HOST_EVT_VEC1.SPILL_VEC))
    | .error (.xlt c l, o, m1) => (false, m1.xltFault (q / 64) (m.spillAt k (y.spillRd + n) + o) .write c l 8 0)
    | .error (_, _, m1) => (false, m1)

/-- Whether queue `q` is the fault queue with delivery enabled (R423). -/
def Mod.faultQueue (m : Mod) (q : Nat) : Bool :=
  m.flag Reg.ERR_CFG Fields.ERR_CFG.EN && m.rd Reg.ERR_CFG Fields.ERR_CFG.QUEUE == q

/-- The 64 bytes of a fault record but for PHASE (Table 18.3). -/
def FaultRec.toBytes (r : FaultRec) : List Byte :=
  leBytes 8 r.ttime.toNat ++ leBytes 4 r.seq ++ leBytes 1 r.cls ++ leBytes 1 r.source ++ leBytes 2 r.index ++ leBytes 2 r.code ++
    leBytes 1 (2 * b2n r.peer) ++ leBytes 1 r.site ++ leBytes 4 r.reg ++ leBytes 8 r.addr ++ leBytes 4 r.value.toNat ++
    zeroBytes 28

/-- PRIV_RECORD_APPEND: the oldest record owed to queue `q` enters it, from the staging buffer of the faults block or from
another producer; a queue that cannot take it holds its producer, and a DATALOG call returns once its record is taken
(R131). -/
def Mod.privAppend (q : Nat) (m : Mod) : Mod :=
  if !m.flag (Reg.HAT_Q_CFG q) Fields.HAT_Q_CFG.PRIV then m
  else match (if m.faultQueue q then m.flt.staging.head? else none) with
    | some r =>
      let (took, m1) := m.privPut q r.toBytes
      m1.when took (fun s => { s with flt := { s.flt with staging := s.flt.staging.tail } })
    | none =>
      match m.hat.feeds.find? (fun f => f.queue == q) with
      | none => m
      | some f =>
        let (took, m1) := m.privPut q f.bytes
        m1.when took (fun s =>
          let s1 : Mod := { s with hat := { s.hat with feeds := s.hat.feeds.erase f } }
          match f.core with
          | some c => s1.datalogDone c
          | none => s1)

/-- SPILL_REFILL: the oldest spilled record comes back on chip. -/
def Mod.spillRefill (q : Nat) (host : List Host.Cell) (m : Mod) : Mod :=
  let y := m.queue q
  let k := m.rd (Reg.HAT_Q_CFG q) Fields.HAT_Q_CFG.SPILL_CTX
  let n := m.spilled k
  if n = 0 ∨ 16 ≤ y.priv.length ∨ m.flag (Reg.HAT_Q_CFG q) Fields.HAT_Q_CFG.PRIV = false then m
  else
    let va := m.spillAt k y.spillRd
    match m.devRecord (q / 64) host va 64 with
    | .ok bs => ((m.charged (q / 64) va 64).setQueue q { y with
        priv := y.priv ++ [⟨bs⟩]
        spillRd := (y.spillRd + 1) % m.spillSlots k }).wr (Reg.HAT_SPILL_STATE k) Fields.HAT_SPILL_STATE.COUNT (n - 1)
    | .error (.xlt c l, o) => m.xltFault (q / 64) (va + o) .read c l 8 0
    | .error (e, o) => m.readUe (q / 64) (va + o) e

/-- Queues with PRIV set. -/
def Mod.privCount (m : Mod) : Nat :=
  (m.regs.filter (fun e => decide (0x204000 ≤ e.1) && decide (e.1 < 0x208000) && fget Fields.HAT_Q_CFG.PRIV e.2 != 0)).length

end Sys2Proof.Machine
end

