-- ==== Sys2Proof/Machine/Pins.lean ====
section
/-!
DEFINITION. Playout at the pin dies (Chapters 7 to 10): link blocks and their choice (R16, R392), the expansion of
vectors (Table 7.2), drive and compare events and their placement (R196 to R206), the HV channels that shadow pins
(R263), and the safe state (R185, R205).
-/

namespace Sys2Proof.Machine

/-! ### Events of a vector (R198 to R202) -/

/-- A drive event enters the order of R203. -/
def insertEv (e : DriveEv) : List DriveEv → List DriveEv
  | [] => [e]
  | x :: t =>
    if x.t < e.t ∨ (x.t = e.t ∧ (x.vec < e.vec ∨ (x.vec = e.vec ∧ x.edge ≤ e.edge))) then x :: insertEv e t
    else e :: x :: t

/-- A strobe enters the order of R204. -/
def insertSt (e : Strobe) : List Strobe → List Strobe
  | [] => [e]
  | x :: t =>
    if x.t < e.t ∨ (x.t = e.t ∧ (x.vec < e.vec ∨ (x.vec = e.vec ∧ (!x.second || e.second)))) then x :: insertSt e t
    else e :: x :: t

/-- The events of one vector with cycle start `et` on one channel enter its two paths; answers the strobes they add. -/
def Mod.queueEvents (ch et : Nat) (v : Vec) (code period : Nat) (m : Mod) : Nat × Mod :=
  let cfg := m.reg (Reg.CH_TSET_CFG (ch / 128) (ch % 128) v.tset)
  let p := m.pin ch
  let fast := decide (period < 1024)
  let data := dataAfter code p.data
  let evs := (driveEvents code (fget Fields.CH_TSET_CFG.FMT cfg) (fget Fields.CH_TSET_CFG.POL cfg == 1)
    (fget Fields.CH_TSET_CFG.PULSE2 cfg == 1) fast (data.getD false)).map
      (fun e => (⟨et + m.edge ch v.tset e.1, v.num, e.1, v.tset, e.2⟩ : DriveEv))
  let sts := (strobesOf code (fget Fields.CH_TSET_CFG.SMODE cfg) fast (m.edge ch v.tset 4) (m.edge ch v.tset 5)).map
    (fun s => (⟨et + s.1, s.2.1.map (et + ·), v.num, s.2.2, v.tset, code, false⟩ : Strobe))
  let m1 := m.setPin ch { p with
    data := data
    code := code
    events := evs.foldl (fun l e => insertEv e l) p.events
    strobes := sts.foldl (fun l e => insertSt e l) p.strobes }
  let fmt := fget Fields.CH_TSET_CFG.FMT cfg
  let down := fast && (!(fmt == 0 || fmt == 5) || fget Fields.CH_TSET_CFG.SMODE cfg != 0 || code == 11 || code == 13)
  (sts.length, m1.when down (Mod.tflag ch v.tset Fields.CH_TSTAT.DOWNGRADE))

/-! ### Levels at the comparator (R212) -/

/-- The thresholds VOH and VOL of a channel at an instant in ET of TTIME, in 2^-15 µV: those of the level set applied last. -/
def LvLive.thresholds (x : LvLive) (t : Nat) : Int × Int :=
  x.hist.foldl (fun a e => if e.1 ≤ t then e.2 else a) (lvLevel 0x8000, lvLevel 0x8000)

/-- The thresholds of an HV channel: VCMP_HI and VCMP_LO in the range in force (R257, R263). -/
def HvLive.thresholds (x : HvLive) : Int × Int :=
  let fs : Int := [10000000, 20000000, 45000000].getD (hvVrange x.w0) 45000000
  (signed 16 (fget Fields.HV_SETDATA3.VCMP_HI x.w3) * fs, signed 16 (fget Fields.HV_SETDATA3.VCMP_LO x.w3) * fs)

/-- The state of a pin at a level in µV (R212): 2 HIGH above VOH, 0 LOW below VOL and not above VOH, otherwise 1 MID. -/
def pinState (th : Int × Int) (uv : Int) : Nat :=
  if th.1 < 32768 * uv then 2 else if 32768 * uv < th.2 then 0 else 1

/-! ### Verdicts being built -/

/-- The verdict of vector `k` of port `n` at die `d` is changed. -/
def Mod.onVerdict (n d k : Nat) (f : Verdict → Verdict) (m : Mod) : Mod :=
  let x := m.dport n d
  m.setDport n d { x with verdicts := x.verdicts.map (fun v => if v.vec = k then f v else v) }

/-- The pin index of a channel in its port. -/
def DiePort.indexOf (x : DiePort) (ch : Nat) : Nat := match x.chans.find? (fun e => e.2 == ch) with
  | some e => e.1
  | none => 0

/-- The port that plays a channel at its die. -/
def Mod.playOwner (m : Mod) (ch : Nat) : Option Nat :=
  firstBelow (fun n => (m.dport n (ch / 128)).chans.any (fun e => e.2 == ch)) 32

/-- Whether a channel is left out of the verdict by MASK (R217). -/
def Mod.masked (m : Mod) (ch : Nat) : Bool := m.flag (chReg Reg.CH_CCFG ch) Fields.CH_CCFG.MASK

/-- A judgement of a vector on a pin (R216 to R219): a MATCH body's vector counts for the MATCH alone, on the
selected pins; a failing judgement of a masked pin counts nowhere. -/
def Mod.judge (n ch vec : Nat) (pass second winc : Bool) (m : Mod) : Mod :=
  let i := (m.dport n (ch / 128)).indexOf ch
  let chosen := (m.seq n).sel.contains ch
  let out := m.masked ch
  m.onVerdict n (ch / 128) vec (fun v =>
    let w : Verdict := { v with left := v.left - 1 }
    if !w.iter.isEmpty then (if chosen then { w with sel := w.sel ++ [(ch, pass)] } else w)
    else if pass || out then w
    else { w with
      fails := if w.fails.contains i then w.fails else i :: w.fails
      s0f := w.s0f || (!second && !winc)
      s1f := w.s1f || second
      winc := w.winc || winc })

/-- A strobe that is not placed judges nothing (R198). -/
def Mod.dropStrobe (n ch vec : Nat) (m : Mod) : Mod :=
  m.onVerdict n (ch / 128) vec (fun v => { v with left := v.left - 1 })

/-- A strobe or window is placed (R204, R206), with its placed times: a window that finds both trackers busy fails
unevaluated. A disconnected comparator places none (R44). -/
def Mod.placeStrobe (n ch : Nat) (s : Strobe) (m : Mod) : Mod :=
  let p := m.pin ch
  let t := (s.t : Int) + m.cmpSkew ch
  if m.isLost (17 + ch / 128) then m.dropStrobe n ch s.vec
  else match s.close with
  | none =>
    let (u, late) := spaced p.lastStrobe t
    ((m.setPin ch { p with lastStrobe := some u, placed := p.placed ++ [{ s with t := u.toNat }] }).when late
      (Mod.tflag ch s.tset Fields.CH_TSTAT.STROBE_CONFLICT)).pinEvent ch s.vec false u 4
  | some c =>
    let u := (c : Int) + m.cmpSkew ch
    let busy := p.trackers.filter (fun k => decide (t < k))
    if 2 ≤ busy.length then
      ((m.setPin ch { p with trackers := busy }).tflag ch s.tset Fields.CH_TSTAT.WIN_CONFLICT).judge n ch s.vec false false true
    else ((m.setPin ch { p with
      trackers := u :: busy
      placed := p.placed ++ [{ s with t := t.toNat, close := some u.toNat }] }).pinEvent ch s.vec false t 5).pinEvent
        ch s.vec false u 6

/-- Whether an event of vector `k` at `t` lies beyond its reach when vector `j` starts at `c` (R198). -/
def outOfReach (j c k t : Nat) : Bool := decide (k + 4 ≤ j) && decide (c ≤ t)

/-- Drive events that the cycle start of vector `j` settles, in their order. -/
def Mod.settleDrives (ch j c : Nat) : List DriveEv → Mod → Mod
  | [], m => m
  | e :: t, m =>
    if outOfReach j c e.vec e.t then settleDrives ch j c t (m.tflag ch e.tset Fields.CH_TSTAT.EDGE_RANGE)
    else if e.t < c then settleDrives ch j c t (m.placeDrive ch e)
    else settleDrives ch j c t (m.setPin ch { m.pin ch with events := (m.pin ch).events ++ [e] })

/-- Strobes that the cycle start of vector `j` settles, in their order; a window waits until its close is known to
lie in reach, and what follows it in the order waits with it. -/
def Mod.settleStrobes (n ch j c : Nat) : Bool → List Strobe → Mod → Mod
  | _, [], m => m
  | held, e :: t, m =>
    let last := e.close.getD e.t
    let keep (s : Mod) : Mod := s.setPin ch { s.pin ch with strobes := (s.pin ch).strobes ++ [e] }
    if outOfReach j c e.vec last then
      settleStrobes n ch j c held t ((m.tflag ch e.tset Fields.CH_TSTAT.EDGE_RANGE).dropStrobe n ch e.vec)
    else if !held && decide (e.t < c) && (decide (last < c) || decide (e.vec + 4 ≤ j)) then
      settleStrobes n ch j c false t (m.placeStrobe n ch e)
    else settleStrobes n ch j c (held || decide (e.t < c)) t (keep m)

/-- What the cycle start of vector `j` at `c` settles on a channel. -/
def Mod.settle (n ch j c : Nat) (m : Mod) : Mod :=
  let p := m.pin ch
  let m1 := m.setPin ch { p with events := [], strobes := [] }
  (m1.settleDrives ch j c p.events).settleStrobes n ch j c false p.strobes

/-! ### HV channels in digital mode (R262, R263) -/

/-- What a code makes an HV channel drive (R263); none where it leaves the drive. -/
def hvDrive (code : Nat) (d : Bool) : Option Drive :=
  match code with
  | 0 | 1 | 10 => some (if d then .high else .low)
  | 7 | 11 | 12 => some .off
  | _ => none

/-- Whether an HV channel plays a vector of a period: in DIG, at 50 ns or more (R262, R263). -/
def HvLive.plays (x : HvLive) (period : Nat) : Bool := hvMode x.w0 == 5 && decide (102400 ≤ period)

/-- One vector with cycle start `et` on an HV channel that shadows a channel of its port; answers the strobes it places. The
code stands for K and N whether the vector is played or not; in a range-change interval the output stays at 0 V (R261). -/
def Mod.hvPlay (h et : Nat) (v : Vec) (raw period : Nat) (mute : Bool) (m : Mod) : Nat × Mod :=
  let x := m.hv h
  let code := playedCode x.code raw mute
  let y : HvLive := { x with code := code, data := dataAfter code x.data }
  if !x.plays period then (0, (m.setHv h y).when (hvMode x.w0 == 5) (Mod.mark (Reg.HV_STATE h) Fields.HV_STATE.HV_RATE))
  else
    let d0 := m.rd (Reg.HV_DTIM h) Fields.HV_DTIM.D0
    let s0 := m.rd (Reg.HV_DTIM h) Fields.HV_DTIM.S0
    let drive := if 2048 * d0 < period then (hvDrive code (y.data.getD false)).getD x.drive else x.drive
    let m2 := (m.setHv h { y with drive := drive }).when (drive != x.drive && x.rc.isNone)
      (Mod.emit (.hvEvent h v.num (nearSclk et d0) drive.code))
    if (isExpect code || code == 8) && decide (2048 * s0 < period) then
      let p := m2.pin (256 + h)
      (1, (m2.setPin (256 + h) { p with placed := p.placed ++ [⟨nearSclk et s0, none, v.num, false, v.tset, code, false⟩] }).emit
        (.hvEvent h v.num (nearSclk et s0) 4))
    else (0, m2)

/-! ### The end of a burst at the pins (R173, R205) -/

/-- The placed time of a channel's last event. -/
def Pin.lastPlaced (p : Pin) : Int :=
  p.trackers.foldl max (max (p.lastDrive.getD 0) (p.lastStrobe.getD 0))

/-- The events a channel still holds when the burst ends: a stop discards drive events at or after `c` (R205). -/
def Mod.flushPin (n ch c : Nat) (stop : Bool) (m : Mod) : Mod :=
  let p := m.pin ch
  let m1 := m.setPin ch { p with events := [], strobes := [] }
  let evs := if stop then p.events.filter (fun e => decide (e.t < c)) else p.events
  let m2 := evs.foldl (fun s e => s.placeDrive ch e) m1
  p.strobes.foldl (fun s e => s.placeStrobe n ch e) m2

/-- The END instant of a burst (R205), once every die of the port has placed its events. -/
def Mod.endInstant (m : Mod) (n c : Nat) : Nat :=
  ([0, 1].flatMap (fun d => (m.dport n d).chans.map Prod.snd)).foldl
    (fun a ch => max a (m.pin ch).lastPlaced.toNat) c

/-- With SAFE set, the port's pins take the safe state at the end instant. -/
def Mod.endSafe (n : Nat) (m : Mod) : Mod :=
  let ds := [0, 1].filter (fun d => !(m.dport n d).chans.isEmpty)
  if ds.all (fun d => (m.dport n d).done && (m.dport n d).safe) then
    let c := ds.foldl (fun a d => max a (m.dport n d).et) 0
    let t := m.endInstant n c
    m.each (ds.flatMap (fun d => (m.dport n d).chans.map Prod.snd)) (fun ch s => s.pinSafe ch t 0 0)
  else m

/-- A control word acts at the play time of its vector (R20, R171): what acts once, on the port's lowest die (`first`). -/
def Mod.actCtl (n d : Nat) (first : Bool) (et : Nat) (c : Ctl) (m : Mod) : Mod :=
  let x := m.dport n d
  let ns := x.t0 + et / 2048
  match c with
  | .tset _ => m
  | .lset k => m.lset n k d (2048 * x.t0 + et) first
  | .sig kind l =>
    if !first then m
    else match kind with
      | 0 | 1 | 2 => m.sigLine kind l ns
      | 3 => m.sigTdc l (2048 * x.t0 + et)
      | 4 =>
        match m.acq l with
        | some a => if aqTsrc a.args = 0x50 then m.aqTrigger l ns else m
        | none => m
      | _ => m

/-- Whether a die is the port's lowest, where what acts once for the port acts. -/
def Mod.firstDie (m : Mod) (n d : Nat) : Bool := d == 0 || (m.dport n 0).chans.isEmpty

/-- An LSET with no vector after it is due at the end of the burst's last vector (R247); a TSET or SIG with none acts never. -/
def Mod.tailCtl (n d et : Nat) (m : Mod) (c : Ctl) : Mod :=
  match c with
  | .lset _ => m.actCtl n d (m.firstDie n d) et c
  | _ => m

/-- The burst has ended at a die: its last block has been chosen and its last vector has played. -/
def Mod.dieEnd (n d : Nat) (m : Mod) : Mod :=
  let x := m.dport n d
  if !x.last || !x.play.isEmpty || x.done then m
  else
    let c := x.et
    let chs := x.chans.map Prod.snd
    let m1 := (x.tail.foldl (Mod.tailCtl n d c) m).each chs (fun ch s => s.flushPin n ch c x.stop)
    let m2 := if x.stop then m1.each chs (fun ch s => s.pinSafe ch c x.played (m.seq n).lastTset) else m1
    (m2.setDport n d { m2.dport n d with done := true }).endSafe n

/-! ### Blocks at the pin die (R16, R392, R393) -/

def DieBlk.blank (k : Nat) : DieBlk := ⟨k, 0, false, [], [], false, false, false⟩

/-- The entry of block `k`. -/
def DiePort.blk (x : DiePort) (k : Nat) : DieBlk := (x.blks.find? (fun b => b.idx == k)).getD (DieBlk.blank k)
def DiePort.setBlk (b : DieBlk) (x : DiePort) : DiePort :=
  { x with blks := b :: x.blks.filter (fun e => e.idx != b.idx) }

/-- A block that arrives after its deadline is discarded and, in a pair, counted in LATE (R392). -/
def Mod.lateBlock (d : Nat) (m : Mod) : Mod :=
  m.when (m.pairProfile) (Mod.bump (Reg.SL_PDIE_LATE d) Fields.SL_PDIE_LATE.COUNT)

/-- PLINK_BLOCK_RECEIVE (R15, R16): block `k` of port `n`, or its replay, arrives at die `d` intact or with a CRC
error. An error asks for one replay from the send buffer, and P0_LINK_ERR or P1_LINK_ERR is set; a replay that arrives in
time is counted in the die's link-error counter. -/
def Mod.plinkReceive (n d k : Nat) (ok : Bool) (m : Mod) : Mod :=
  let x := m.dport n d
  let b := x.blk k
  let sent := (m.seq n).sent.any (fun e => e.idx == k)
  if x.chans.isEmpty || !sent then m
  else if k < x.next then m.lateBlock d
  else if b.prim = 1 ∨ b.prim = 3 then m
  else if ok then
    let m1 := m.setDport n d (x.setBlk { b with prim := 1 })
    if b.prim = 2 then
      let l := m1.sys.linkErrs
      { m1 with sys := { m1.sys with linkErrs := SMap.set (fun _ => 0) l d (SMap.get (fun _ => 0) l d + 1) } }
    else m1
  else if b.prim = 2 then m.setDport n d (x.setBlk { b with prim := 3 })
  else
    let held := (SMap.get (fun _ => []) m.sendBuf d).contains (n, k)
    let f : Fld := ⟨Fields.GLB_DIE_ERR.P0_LINK_ERR.lo + d, 1⟩
    let m1 := (m.setDport n d (x.setBlk { b with prim := 2 })).mark Reg.GLB_DIE_ERR f
    m1.when held (Mod.emit (.replay d n k))

/-- MIRROR_BLOCK_RECEIVE (R381, R392): a mirror block of burst number `burst` arrives whole. One of another burst, or one
after its deadline, is discarded. -/
def Mod.mirrorReceive (n d k burst : Nat) (vs : List Vec) (tail : List Ctl) (last stop safe : Bool) (m : Mod) : Mod :=
  let x := m.dport n d
  if x.chans.isEmpty || x.mirOff then m
  else if burst % 0x10000 ≠ x.burst ∨ k < x.next then m.lateBlock d
  else
    m.setDport n d (x.setBlk { x.blk k with
      mir := true
      mvecs := vs.map (fun v => { v with after := 0 })
      mtail := tail
      mlast := last
      mstop := stop
      msafe := safe })

/-- A burst stops at a die at the block boundary with no block to play (R16). -/
def Mod.cutDie (n d : Nat) (m : Mod) : Mod :=
  let x := m.dport n d
  if x.chans.isEmpty || x.last then m
  else (m.setDport n d { x with last := true, stop := true, safe := false }).dieEnd n d

/-- A port loses its block (R16): every die stops it, and its burst ends with BLOCK_LOST. -/
def Mod.blockLost (n : Nat) (m : Mod) : Mod :=
  let x := m.seq n
  let m1 := m.setSeq n { x with
    stopped := if x.job.isSome then some stBLOCK_LOST else x.stopped
    request := none
    look := []
    ctl := []
    run := 0
    wait := none
    paused := false
    open_ := none }
  let m2 := m1.when (x.job.isSome && m.seqState n != 6) (Mod.setSeqState n 5)
  (m2.cutDie n 0).cutDie n 1

/-- Vectors of a chosen block join the play (R392). -/
def Mod.chooseBlk (n d : Nat) (vs : List Vec) (tail : List Ctl) (last stop safe : Bool) (m : Mod) : Mod :=
  let x := m.dport n d
  (m.setDport n d { x with
    next := x.next + 1
    blks := x.blks.filter (fun b => b.idx != x.next)
    play := x.play ++ vs
    tail := x.tail ++ tail
    last := last
    stop := stop
    safe := safe }).dieEnd n d

/-- Both blocks are intact and differ (R393). -/
def Mod.diverge (n d : Nat) (m : Mod) : Mod :=
  let x := m.dport n d
  (((m.setDport n d { x with mirOff := true }).bump (Reg.SL_PDIE_DIVCNT d) Fields.SL_PDIE_DIVCNT.COUNT).slEvent true 1 n
    Fields.SL_EVENT.DIVERGE).unprotect n

/-- The CRC of a block of port `n` at die `d` (Table 16.4). -/
def DiePort.crc (x : DiePort) (n : Nat) (vs : List Vec) (tail : List Ctl) (last stop safe : Bool) : Word :=
  blockCrc n x.burst x.next (match vs with
    | v :: _ => v.num
    | [] => x.played + x.play.length) x.format (x.chans.map Prod.fst) vs tail last stop safe

/-- Whether the primary and the mirror block that comes next, both intact, have different CRCs (R393). -/
def DiePort.differ (x : DiePort) (n : Nat) (k : LinkBlk) (b : DieBlk) : Bool :=
  x.crc n k.vecs k.tail k.last k.stop k.safe != x.crc n b.mvecs b.mtail b.mlast b.mstop b.msafe

/-- BLOCK_DEADLINE (R392): die `d` chooses the next block of port `n`, the primary's where it is intact, otherwise
the mirror's, which then stays the source; with neither the port stops (R16). The deadline of a block exists once
the core die has closed it, or once its link is down. -/
def Mod.blockDeadline (n d : Nat) (m : Mod) : Mod :=
  let x := m.dport n d
  let b := x.blk x.next
  let mirror := b.mir && !x.mirOff
  let up := m.flag Reg.GLB_DIE_STATUS (if d = 0 then Fields.GLB_DIE_STATUS.P0_UP else Fields.GLB_DIE_STATUS.P1_UP) &&
    !m.txOff
  if x.chans.isEmpty || x.last then m
  else match (if b.prim = 1 && !x.mirSrc then (m.seq n).sent.find? (fun e => e.idx == x.next) else none) with
    | some k => (m.when (mirror && x.differ n k b) (Mod.diverge n d)).chooseBlk n d k.vecs k.tail k.last k.stop k.safe
    | none =>
      if mirror then
        let first := !x.mirSrc
        let m1 := (m.bump (Reg.SL_PDIE_MIRPLAY d) Fields.SL_PDIE_MIRPLAY.COUNT).wr (Reg.SL_PDIE_STATUS d)
          ⟨Fields.SL_PDIE_STATUS.SRC.lo + n, 1⟩ 1
        ((m1.setDport n d { x with mirSrc := true }).when first (Mod.emit (.siteLink 10 [n, d]))).chooseBlk n d b.mvecs
          b.mtail b.mlast b.mstop b.msafe
      else if ((m.seq n).sent.any (fun e => e.idx == x.next)) || !up then
        let ports := allBelow 32 (fun k => !(m.dport k d).chans.isEmpty && !(m.dport k d).done)
        (m.mark Reg.GLB_DIE_ERR Fields.GLB_DIE_ERR.BLOCK_LOST).each ports (fun k s => s.blockLost k)
      else m

/-! ### Playing a vector (R20, R171, R196) -/

/-- One channel plays a vector: its own pin, or the HV channels that shadow it. Answers the strobes it adds. -/
def Mod.playPin (n : Nat) (x : DiePort) (v : Vec) (period : Nat) (e : Nat × Nat) (m : Mod) : Nat × Mod :=
  let raw0 := rowField x.format e.1 v.bytes
  let raw := fieldCode x.format raw0 v.bank (m.pinCfg e.2)
  let mute := v.row.isNone && !x.holdCmp
  let m1 := m.when (decide (14 ≤ raw)) (Mod.noteBurst n stBAD_CODE)
  let hs := m1.shadowers e.2
  if hs.isEmpty then
    m1.queueEvents e.2 x.et v (playedCode (m1.pin e.2).code raw mute) period
  else hs.foldl (fun a h => let r := a.2.hvPlay h x.et v raw period mute; (a.1 + r.1, r.2)) (0, m1)

/-- Every channel of a die plays a vector. -/
def Mod.playPins (n : Nat) (x : DiePort) (v : Vec) (period : Nat) (m : Mod) : Nat × Mod :=
  x.chans.foldl (fun a e => let r := a.2.playPin n x v period e; (a.1 + r.1, r.2)) (0, m)

/-- Unmasked channels of the die that play C in a vector outside a MATCH body (R219, R223). -/
def Mod.capturing (m : Mod) (x : DiePort) (v : Vec) (period : Nat) : Nat :=
  if !v.iter.isEmpty then 0
  else (x.chans.filter (fun e =>
    !m.masked e.2 && (match m.shadowers e.2 with
      | [] => (m.pin e.2).code == 8
      | hs => hs.any (fun h => (m.hv h).plays period && (m.hv h).code == 8)))).length

/-! ### Raw trace (R232 to R234) -/

/-- Bits as bytes, whole bytes only, with the bits left over. -/
def bitBytes : Nat → List Bool → List Byte × List Bool
  | 0, l => ([], l)
  | k + 1, l =>
    if l.length < 8 then ([], l)
    else
      let b := (List.range 8).foldl (fun a i => a + (if l.getD i false then 2 ^ i else 0)) 0
      let r := bitBytes k (l.drop 8)
      (BitVec.ofNat 8 b :: r.1, r.2)

/-- A spill or trace access fails (R231, R359): SPILL_XLT with its fault latched, or MEM_UE, stops the burst. -/
def Mod.proofFailed (n ctx va : Nat) (e : MemErr) (m : Mod) : Mod :=
  let r := Reg.SEQ_PRF_ERR
  match e with
  | .xlt c l =>
    let m1 := (m.xltFault ctx va .write c l 5 n).when ((m.reg r).toNat % 16 == 0) (Mod.wr r Fields.SEQ_PRF_ERR.PORT n)
    (m1.mark r Fields.SEQ_PRF_ERR.SPILL_XLT).stopSeq n stSPILL_XLT
  | .offline => m.stopSeq n stMEM_OFFLINE
  | _ => m.stopSeq n stMEM_UE

/-- Size of one half of a trace region. -/
def Mod.traceHalf (m : Mod) (n : Nat) : Nat :=
  let s := m.rd (Reg.SEQ_PRF_TRC_CFG n) Fields.SEQ_PRF_TRC_CFG.SIZE_LOG2
  2 ^ ((if 16 ≤ s ∧ s ≤ 30 then s else 16) - 1)

/-- Device address of a die's half. -/
def Mod.traceBase (m : Mod) (n d : Nat) : Nat := m.rd64 (Reg.SEQ_PRF_TRC_BASE_LO n) + d * m.traceHalf n

/-- The bits of one vector's samples: states 0 LOW, 1 MID, 2 HIGH. -/
def sampleBits (two : Bool) (l : List Nat) : List Bool :=
  l.flatMap (fun s => if two then [decide (s ≠ 0), decide (s = 2)] else [decide (s = 2)])

/-- The path that carries a pin die's trace (R22): PLINK to the core die, until the die has lost its primary. -/
def Mod.traceLink (m : Mod) (d : Nat) : Bool :=
  m.flag Reg.GLB_DIE_STATUS (if d = 0 then Fields.GLB_DIE_STATUS.P0_UP else Fields.GLB_DIE_STATUS.P1_UP) && !m.isLost 0 &&
    !m.isLost (1 + d) && !m.flag (Reg.SL_PDIE_STATUS d) Fields.SL_PDIE_STATUS.PRIMARY_DOWN

/-- A vector of the trace window is sampled (R232 to R234): the levels of the traced channels, in µV, at S0. -/
def Mod.traceVec (n d et : Nat) (v : Vec) (samples : List Int) (m : Mod) : Mod :=
  let x := m.dport n d
  let start := 1024 * (m.reg (Reg.SEQ_PRF_TRC_START n)).toNat
  let len := (m.reg (Reg.SEQ_PRF_TRC_LEN n)).toNat
  if !x.trDue || !m.traceLink d || x.trFull || x.traced.isEmpty || decide (v.num < start) || (len != 0 && decide (start + len ≤ v.num)) then m
  else
    let bits := sampleBits x.trBits2 (List.zipWith (fun i ch =>
      pinState ((m.lv ch).thresholds (2048 * x.t0 + et + m.edge ch v.tset 4)) (samples.getD i 0)) (List.range x.traced.length)
        x.traced)
    if 8 * (m.traceHalf n - 64) < x.trPos + bits.length then
      (m.setDport n d { x with trFull := true }).wr (Reg.SEQ_PRF_STATUS n) Fields.SEQ_PRF_STATUS.TRACE_FULL 1
    else
      let all := x.trBits ++ bits
      let (bs, rest) := bitBytes (all.length / 8) all
      let m1 := m.setDport n d { x with
        trBits := rest
        trPos := x.trPos + bits.length
        trVecs := x.trVecs + 1
        trFirst := if x.trVecs = 0 then v.num else x.trFirst }
      if bs.isEmpty then m1
      else
        let va := m.traceBase n d + 64 + (x.trPos - x.trBits.length) / 8
        match m1.devPut 24 (m.seq n).img.ctx va bs with
        | .ok m2 => m2
        | .error (e, k, m2) => m2.proofFailed n (m.seq n).img.ctx (va + k) e

/-- VECTOR_PLAY (R196): die `d` plays the next vector of port `n` on its own grid (R211): its control words act, its events
enter the paths, what its cycle start settles is placed, and its trace samples are taken. The last vector ends the burst at
the die. -/
def Mod.vectorPlay (n d : Nat) (samples : List Int) (m : Mod) : Mod :=
  let x := m.dport n d
  match x.play with
  | [] => m
  | v :: rest =>
    let first := m.firstDie n d
    let et := x.et
    let prev := (m.chans n).map (fun ch => (m.pin ch).code)
    let res := if v.after ≠ 0 then v.after else resultTime (et / 2048) (m.vecDepth n et (m.vecCodes n prev v) v)
    let period := x.tper.getD (v.tset % 64) 2048
    let m1 := v.ctl.foldl (fun s c => s.actCtl n d first et c) m
    let m2 := m1.setDport n d { m1.dport n d with
      play := rest
      played := x.played + 1
      et := et + period }
    let (k, m3) := m2.playPins n x v period
    let vd : Verdict :=
      { vec := v.num, instr := v.instr, row := v.row.getD 0xFFFFFFFF, hold := v.row.isNone, tset := v.tset, iter := v.iter,
        left := k, fails := [], masked := [], caps := [], capPins := m3.capturing x v period,
        res := res, sel := [], s0f := false,
        s1f := false, winc := false }
    let m4 := m3.setDport n d { m3.dport n d with verdicts := (m3.dport n d).verdicts ++ [vd] }
    let m5 := m4.each (x.chans.map Prod.snd) (fun ch s => s.settle n ch v.num et)
    let m6 := m5.traceVec n d et v samples
    let m7 := m6.when first (fun s => s.wr64 (Reg.SEQ_VCOUNT_LO n) (s.rd64 (Reg.SEQ_VCOUNT_LO n) + 1))
    m7.dieEnd n d

end Sys2Proof.Machine
end

