-- ==== Sys2Proof/Machine/Proof.lean ====
section
/-!
DEFINITION. Judgement at the pin dies, records and rings of Proof, the burst token and the end of a burst (Chapter 9,
R190, R191).
-/

namespace Sys2Proof.Machine

/-! ### Records (Table 9.2) -/

/-- The number whose bits are the pins of a list. -/
def bitmapOf (l : List Nat) : Nat := l.foldl (fun a i => a + 2 ^ i) 0

/-- A record of 64 bytes: `die` 0, 1, or 3 for Proof's own. -/
def recBytes (n die type cycle instr row flags tset burst site status aux : Nat) (bitmap : List Byte) : List Byte :=
  leBytes 8 cycle ++ leBytes 4 instr ++ leBytes 4 row ++ leBytes 1 (n % 32 + 64 * die) ++ leBytes 1 type ++
    leBytes 1 flags ++ leBytes 1 tset ++ leBytes 2 burst ++ leBytes 1 site ++ leBytes 1 status ++ leBytes 8 aux ++ bitmap

/-- INSTR and ROW of a record that the manual gives no value for: a free value (assumption 2). -/
def Mod.openWord (m : Mod) (k : Nat) : Nat := (m.free k).toNat % 0x100000000

def recType (r : List Byte) : Nat := byteAt r 17
def recCycle (r : List Byte) : Nat := fieldAt r 0 8
def recAux (r : List Byte) : Nat := fieldAt r 24 8

/-- An error flag of Proof, with the port of the first since SEQ_PRF_ERR was all clear (Table 9.8). -/
def Mod.prfErr (n : Nat) (f : Fld) (m : Mod) : Mod :=
  let r := Reg.SEQ_PRF_ERR
  (m.when ((m.reg r).toNat % 16 == 0) (Mod.wr r Fields.SEQ_PRF_ERR.PORT n)).mark r f

/-! ### The die's record buffer (R225) -/

/-- Records in a die's buffer. -/
def Mod.dieBuffered (m : Mod) (d : Nat) : Nat := ((List.range 32).map (fun n => (m.dport n d).recs.length)).sum

/-- The GAP record of a die. -/
def Mod.dieGap (m : Mod) (n d : Nat) : List Byte :=
  let x := m.dport n d
  recBytes n d 5 0 (m.openWord 3001) (m.openWord 3002) 0 0 x.burst x.site 0 x.dropped (zeroBytes 32)

/-- GAP (R225): once the buffer has room the count of dropped records goes out. -/
def Mod.gapRec (n d : Nat) (m : Mod) : Mod :=
  let x := m.dport n d
  if x.dropped = 0 ∨ 4096 ≤ m.dieBuffered d then m
  else m.setDport n d { x with recs := x.recs ++ [m.dieGap n d], dropped := 0 }

/-- A FAIL or CAPTURE record enters the buffer, behind the GAP record it owes; a full buffer drops it (R225), as does one
that the GAP record has just filled. -/
def Mod.sendRec (n d : Nat) (r : List Byte) (m : Mod) : Mod :=
  let m1 := m.gapRec n d
  let x := m1.dport n d
  if 4096 ≤ m1.dieBuffered d then
    (m1.setDport n d { x with dropped := x.dropped + 1 }).prfErr n Fields.SEQ_PRF_ERR.DIE_DROP
  else m1.setDport n d { x with recs := x.recs ++ [r] }

/-- COUNT records that are built go out as the buffer has room, behind the GAP record the port owes; none is dropped
(R225). -/
def Mod.drainCounts (n d : Nat) : Nat → Mod → Mod
  | 0, m => m
  | k + 1, m =>
    let m1 := m.gapRec n d
    let x := m1.dport n d
    if x.dropped ≠ 0 ∨ 4096 ≤ m1.dieBuffered d then m1
    else match x.cnts with
      | [] => m1
      | r :: t => drainCounts n d k (m1.setDport n d { x with recs := x.recs ++ [r], cnts := t })

/-! ### Verdicts (R216 to R223, R230) -/

/-- A channel counts a failing vector (R221, R222). -/
def Mod.countFail (vec ch : Nat) (m : Mod) : Mod :=
  let f := chReg Reg.CH_FFIRST_LO ch
  let m1 := m.bump (chReg Reg.CH_FCNT ch) Fields.CH_FCNT.COUNT
  if m1.rd64 f = 0xFFFFFFFFFFFFFFFF then m1.wr64 f vec else m1

/-- Vectors of a port whose verdict a die has finished. -/
def DiePort.judgedTo (x : DiePort) : Nat := x.played - x.verdicts.length

/-- A vector fails at die `d` (R220, R230): FAIL is due at its result time, the port counts it once, and the count that
reaches LIMIT asks for a stop at that time. -/
def Mod.portFail (n d vec res : Nat) (m : Mod) : Mod :=
  let x := m.seq n
  let y := m.dport n (1 - d)
  let known := x.failed.contains vec
  let m1 := m.setDport n d { m.dport n d with failAny := true }
  let at_ := if x.job.isSome then res :: x.failAt else x.failAt
  if known then m1.setSeq n { x with failed := x.failed.erase vec, failAt := at_ }
  else
    let m2 := (m1.bump (Reg.SEQ_PRF_FAILS n) Fields.SEQ_PRF_FAILS.FAILS).setSeq n { x with
      failAt := at_
      failed := if y.chans.isEmpty ∨ vec < y.judgedTo then x.failed else vec :: x.failed
      firstFail := some (min vec (x.firstFail.getD vec)) }
    let lim := (m.ring n).limit
    m2.when (lim != 0 && (m2.reg (Reg.SEQ_PRF_FAILS n)).toNat == lim) (fun s => s.setSeq n { s.seq n with limitAt := some res })

/-- A vector of MATCH bodies has been judged at a die (R174): in every iteration it lies in. -/
def Mod.iterJudged (n : Nat) (tags : List (Nat × Nat)) (sel : List (Nat × Bool)) (m : Mod) : Mod :=
  let x := m.seq n
  m.setSeq n { x with iters := x.iters.map (fun i =>
    if tags.contains (i.mnum, i.it) then { i with
      left := i.left - 1
      strobed := i.strobed || !sel.isEmpty
      ok := i.ok && sel.all Prod.snd
      passed := i.passed ++ ((sel.filter Prod.snd).map Prod.fst).filter (fun c => !i.passed.contains c) }
    else i) }

/-- A verdict is finished (R216 to R223): its counts, the conditions it sets and its records. -/
def Mod.finishVerdict (n d : Nat) (v : Verdict) (m : Mod) : Mod :=
  let x := m.dport n d
  if !v.iter.isEmpty then m.iterJudged n v.iter v.sel
  else
    let fl := b2n v.s0f + 2 * b2n v.s1f + 4 * b2n v.winc
    let hold := 8 * b2n v.hold
    let chs := (x.chans.filter (fun e => v.fails.contains e.1)).map Prod.snd
    let m1 := m.each chs (fun ch s => s.countFail v.vec ch)
    let m2 := if v.fails.isEmpty then m1 else
      (m1.portFail n d v.vec v.res).sendRec n d
        (recBytes n d 1 v.vec v.instr v.row (fl + hold) v.tset x.burst x.site 0 0 (leBytes 32 (bitmapOf v.fails)))
    if v.capPins = 0 then m2
    else m2.sendRec n d
      (recBytes n d 2 v.vec v.instr v.row hold v.tset x.burst x.site 0 0 (leBytes 32 (bitmapOf v.caps)))

/-- Verdicts are finished in vector order as their last strobe is judged. -/
def Mod.finishVerdicts (n d : Nat) : Nat → Mod → Mod
  | 0, m => m
  | k + 1, m =>
    let x := m.dport n d
    match x.verdicts with
    | v :: rest =>
      if v.left = 0 then finishVerdicts n d k ((m.setDport n d { x with verdicts := rest }).finishVerdict n d v) else m
    | [] => m

/-- The eight counters of a COUNT record (R223, Table 9.2). -/
def Mod.countBytes (m : Mod) (x : DiePort) (k : Nat) : List Byte :=
  (List.range 8).flatMap (fun i => match x.chans.find? (fun e => e.1 == 8 * k + i) with
    | some e => leBytes 4 (m.reg (chReg Reg.CH_FCNT e.2)).toNat
    | none => zeroBytes 4)

/-- After its last FAIL or CAPTURE record a die builds its COUNT records and sends them (R223). -/
def Mod.sendCounts (n d : Nat) (m : Mod) : Mod :=
  let x := m.dport n d
  if !x.done || !x.verdicts.isEmpty || x.counted then m
  else
    let runs := if x.countRec then allBelow 32 (fun k => x.chans.any (fun e => e.1 / 8 == k)) else []
    (m.setDport n d { x with
      counted := true
      cnts := runs.map (fun k =>
        recBytes n d 4 0 (m.openWord 3003) (m.openWord 3004) 0 0 x.burst x.site 0 (8 * k) (m.countBytes x k)) }).drainCounts n d 33

/-- What a die finishes after a change. -/
def Mod.dieWork (n d : Nat) (m : Mod) : Mod :=
  (m.finishVerdicts n d (m.dport n d).verdicts.length).sendCounts n d

/-! ### Judgement (R212 to R215) -/

/-- Whether an edge strobe passes: states 0 LOW, 1 MID, 2 HIGH; `prev` is the state at the previous strobe. -/
def edgePasses (code st : Nat) (prev : Option Nat) : Bool :=
  match code with
  | 2 => st == 0
  | 3 => st == 2
  | 4 => st == 1
  | 5 => st != 1
  | 13 => match prev with
    | some p => p != st
    | none => false
  | _ => true

/-- A run of one level inside a window, cut where thresholds change: start, length and level; times in 1/256 ps. -/
def cutRun (uv : Int) : List Nat → Nat → Nat → List (Nat × Nat × Int)
  | [], u, len => [(u, len, uv)]
  | c :: t, u, len =>
    if u < c ∧ c < u + len then (u, c - u, uv) :: cutRun uv t c (u + len - c) else cutRun uv t u len

/-- The states of a window's runs of level and width in ps, from instant `u` on in 1/256 ps: each level against the
thresholds in force (R212), with widths in 1/256 ps. One ET is 125/256 ps. -/
def stateRuns (th : Nat → Int × Int) (cuts : List Nat) : Nat → List (Int × Nat) → List (Nat × Nat)
  | _, [] => []
  | u, (uv, w) :: t =>
    (cutRun uv cuts u (256 * w)).map (fun p => (pinState (th (p.1 / 125)) uv, p.2.1)) ++ stateRuns th cuts (u + 256 * w) t

/-- Neighbouring runs of one state are one excursion. -/
def mergeRuns : List (Nat × Nat) → List (Nat × Nat)
  | [] => []
  | r :: t =>
    match mergeRuns t with
    | [] => [r]
    | q :: t1 => if r.1 = q.1 then (r.1, r.2 + q.2) :: t1 else r :: q :: t1

/-- States that a window detects (R214): runs of 40 ps or longer, never those under 20 ps; between, what the hardware
detects is a free value. A window of one run sees it. -/
def Mod.windowStates (m : Mod) (obs : List (Nat × Nat)) : List Nat :=
  match obs with
  | [o] => [o.1]
  | _ => ((List.range obs.length).filter (fun i =>
      let w := (obs.getD i (0, 0)).2
      decide (256 * 40 ≤ w) || (decide (256 * 20 ≤ w) && (m.free i).getLsbD 0))).map (fun i => (obs.getD i (0, 0)).1)

/-- Whether a window passes (Table 9.1). -/
def windowPasses (code : Nat) (sts : List Nat) : Bool :=
  match code with
  | 2 => sts.all (fun s => s == 0)
  | 3 => sts.all (fun s => s == 2)
  | 4 => sts.all (fun s => s == 1)
  | 5 => sts.all (fun s => s != 1)
  | 13 => sts.any (fun s => sts.any (fun t => s != t))
  | _ => true

/-- A capture at S0 or at a window's opening (R213, R217, R219). -/
def Mod.capture9 (n ch vec st : Nat) (m : Mod) : Mod :=
  let i := (m.dport n (ch / 128)).indexOf ch
  let out := m.masked ch
  m.onVerdict n (ch / 128) vec (fun v =>
    let w : Verdict := { v with left := v.left - 1 }
    if out || !w.iter.isEmpty || st != 2 || w.caps.contains i then w else { w with caps := i :: w.caps })

/-- What comparator `ch` (256 + h for HV channel h) compares with at an instant in ET of TTIME, and the instants at which
that changes, in 1/256 ps (R212). -/
def Mod.comparator (m : Mod) (ch : Nat) : (Nat → Int × Int) × List Nat :=
  if ch < 256 then ((m.lv ch).thresholds, (m.lv ch).hist.map (fun e => 125 * e.1))
  else (fun _ => (m.hv (ch - 256)).thresholds, [])

/-- STROBE_JUDGEMENT (R212, R213): the oldest placed strobe or window of channel `ch` (256 + h for HV channel h, which
judges for the channel it shadows) meets the pin's levels in µV with their widths in ps, in their order. A disconnected
comparator judges nothing (R44). -/
def Mod.strobeJudgement (ch : Nat) (obs : List (Int × Nat)) (m : Mod) : Mod :=
  let p := m.pin ch
  let src := if ch < 256 then ch else m.rd (Reg.HV_DCFG (ch - 256)) Fields.HV_DCFG.SRC
  match p.placed, m.playOwner src with
  | s :: rest, some n =>
    if m.isLost (17 + src / 128) then ((m.setPin ch { p with placed := rest }).dropStrobe n src s.vec).dieWork n (src / 128)
    else
      let (th, cuts) := m.comparator ch
      let et := 2048 * (m.dport n (src / 128)).t0 + s.t
      let runs := mergeRuns (stateRuns th cuts (125 * et) obs)
      let opening := pinState (th et) (obs.headD (0, 0)).1
      let closing := if s.close.isSome then (runs.getLastD (opening, 0)).1 else opening
      let pass := match s.close with
        | none => edgePasses s.code opening p.seen
        | some _ => windowPasses s.code (m.windowStates runs)
      let m1 := m.setPin ch { p with placed := rest, seen := some closing }
      let m2 := if s.code = 8 then m1.capture9 n src s.vec opening else m1.judge n src s.vec pass s.second false
      m2.dieWork n (src / 128)
  | _, _ => m

/-! ### Rings (R226 to R229) -/

/-- SRAM offset of slot `k` of ring `n`. -/
def ringSlot (n k : Nat) : Nat := 0x800000 + 0x10000 * n + 64 * (k % 1024)

def Mod.ringWr (m : Mod) (n : Nat) : Nat := (m.reg (Reg.SEQ_PRF_WR n)).toNat
def Mod.ringRd (m : Mod) (n : Nat) : Nat := (m.reg (Reg.SEQ_PRF_RD n)).toNat

/-- WR − RD. -/
def Mod.ringUsed (m : Mod) (n : Nat) : Nat := (m.ringWr n + 0x100000000 - m.ringRd n) % 0x100000000

/-- A record in the next slot. -/
def Mod.ringWrite (n : Nat) (r : List Byte) (m : Mod) : Mod :=
  (m.sramPut (ringSlot n (m.ringWr n)) r).setReg (Reg.SEQ_PRF_WR n) (BitVec.ofNat 32 (m.ringWr n + 1))

/-- A record that a full ring does not take (R227, R229). -/
def Mod.ringDrop (n : Nat) (m : Mod) : Mod :=
  let x := m.ring n
  let m1 := ((m.bump (Reg.SEQ_PRF_DROPPED n) Fields.SEQ_PRF_DROPPED.DROPPED).setRing n { x with gap := x.gap + 1 }).wr
    (Reg.SEQ_PRF_STATUS n) Fields.SEQ_PRF_STATUS.GAP_PENDING 1
  m1.when x.fullHalt (Mod.stopSeq n stPROOF_FULL)

/-- The GAP record that Proof owes (R227). -/
def Mod.ringGap (m : Mod) (n : Nat) : List Byte :=
  let b := m.rd (Reg.SEQ_PRF_STATUS n) Fields.SEQ_PRF_STATUS.BURST_SEQ
  let site := match (m.seq n).job with
    | some j => j.site
    | none => (m.dport n 0).site
  recBytes n 3 5 0 (m.openWord 3005) (m.openWord 3006) 0 0 b site 0 (m.ring n).gap (zeroBytes 32)

/-- A record arrives for ring `n` (R227). -/
def Mod.ringPut (n : Nat) (r : List Byte) (m : Mod) : Mod :=
  let x := m.ring n
  let full := decide (1024 ≤ m.ringUsed n)
  if full && x.mode == 1 then
    ((m.ringWrite n r).setReg (Reg.SEQ_PRF_RD n) (BitVec.ofNat 32 (m.ringRd n + 1))).wr (Reg.SEQ_PRF_STATUS n)
      Fields.SEQ_PRF_STATUS.OVERWRITE 1
  else if full then m.ringDrop n
  else if x.gap = 0 then m.ringWrite n r
  else
    let m1 := ((m.ringWrite n (m.ringGap n)).setRing n { x with gap := 0 }).wr (Reg.SEQ_PRF_STATUS n)
      Fields.SEQ_PRF_STATUS.GAP_PENDING 0
    if m1.ringUsed n < 1024 then m1.ringWrite n r else m1.ringDrop n

/-- Whether a die can send no more FAIL or CAPTURE record of a vector up to `c`. -/
def DiePort.past (x : DiePort) (c : Nat) : Bool :=
  x.chans.isEmpty || decide (c < x.judgedTo) || (x.done && x.verdicts.isEmpty)

/-- Whether the head record of die `d` comes next in the ring (R224). -/
def Mod.mayMerge (m : Mod) (n d : Nat) : Bool :=
  let x := m.dport n d
  let y := m.dport n (1 - d)
  match x.recs with
  | [] => false
  | r :: _ =>
    match recType r with
    | 5 => true
    | 4 => (y.chans.isEmpty || (y.done && y.verdicts.isEmpty)) &&
        y.recs.all (fun e => recType e == 4) && (d == 0 || y.recs.isEmpty)
    | _ =>
      let c := recCycle r
      match y.recs.find? (fun e => recType e != 5) with
      | some e => recType e == 4 || decide (c < recCycle e) || (d == 0 && c == recCycle e)
      | none => y.past (if d = 0 then c - 1 else c) || (d == 0 && c == 0)

/-- The capture-return lanes from a pin die of this module (Table 16.12). -/
def captureLanes (d : Nat) : List Nat := if d = 0 then [48, 49] else [62, 63]

/-- The GAP record that a die owes the copy alone (R383). -/
def Mod.copyGap (n d : Nat) (m : Mod) : Mod :=
  let x := m.dport n d
  if x.copyLost = 0 then m
  else
    let g := recBytes n d 5 0 (m.openWord 3031) (m.openWord 3032) 0 0 x.burst x.site 0 x.copyLost (zeroBytes 32)
    ((m.setDport n d { x with copyLost := 0 }).sendUnit (7 + d) g).emit (.siteLink 11 (g.map BitVec.toNat))

/-- The copy of a record over the capture-return lanes (R237). On one lane a FAIL or CAPTURE record may find that the
copy cannot keep up, as a free value decides: it is dropped from the copy only, and CR_DEGRADED is set (R383). -/
def Mod.copyRec (n d : Nat) (r : List Byte) (m : Mod) : Mod :=
  let x := m.dport n d
  if (recType r == 1 || recType r == 2) && decide (m.lanesUp (captureLanes d) < 2) && (m.free 3030).getLsbD 0 then
    (m.setDport n d { x with copyLost := x.copyLost + 1 }).slEvent false 1 n Fields.SL_EVENT.CR_DEGRADED
  else ((m.copyGap n d).sendUnit (7 + d) r).emit (.siteLink 11 (r.map BitVec.toNat))

/-- The count of a GAP record from a die joins DROPPED of its ring (R225). -/
def Mod.countGap (n : Nat) (r : List Byte) (m : Mod) : Mod :=
  let r0 := Reg.SEQ_PRF_DROPPED n
  m.when (recType r == 5) (fun s => s.setReg r0 (BitVec.ofNat 32 (satAdd 32 (s.reg r0).toNat (recAux r))))

/-- A record of a die joins the ring, and the room it leaves takes what waits. In a working pair the partner's Proof takes
a copy (R237). -/
def Mod.takeRec (n d : Nat) (m : Mod) : Mod :=
  let x := m.dport n d
  match x.recs with
  | [] => m
  | r :: rest =>
    let m1 := (m.setDport n d { x with recs := rest }).countGap n r
    ((m1.when m.pairActive (Mod.copyRec n d r)).ringPut n r).each (List.range 32) (fun k s =>
      s.when ((s.dport k d).dropped != 0 || !(s.dport k d).cnts.isEmpty) (Mod.drainCounts k d 33))

/-- PROOF_RECORD_RECEIVE (R224): the next record in ascending CYCLE, P0 before P1. -/
def Mod.proofReceive (n : Nat) (m : Mod) : Mod :=
  if m.mayMerge n 0 then m.takeRec n 0 else if m.mayMerge n 1 then m.takeRec n 1 else m

/-- CAPTURE_RETURN_RECORD (R237): a record of the partner's pin die for its port `n` enters the mirror ring. -/
def Mod.captureReturn (n : Nat) (r : List Byte) (m : Mod) : Mod :=
  (m.countGap (16 + n) r).ringPut (16 + n) (r.take 16 ++ leBytes 1 (n + 32 + 64 * (byteAt r 16 / 64)) ++ r.drop 17)

/-! ### Errors found in a ring (R231) -/

/-- Whether slot `k` of ring `n` holds an uncorrectable error. -/
def Mod.slotBad (m : Mod) (n k : Nat) : Bool := sramBadIn m.sramBad (ringSlot n k) 64

/-- Proof meets an uncorrectable error in ring `n`: a machine check against the ring, ECC with the port, and a running
burst stops with PROOF_ERR. -/
def Mod.ringError (n : Nat) (m : Mod) : Mod :=
  ((m.prfErr n Fields.SEQ_PRF_ERR.ECC).machineCheck srcPRF n 1 noSite Reg.SEQ_PRF_ERR).stopSeq n stPROOF_ERR

/-! ### Spill (R228) -/

/-- Records the spill region holds. -/
def Mod.spillCap (m : Mod) (n : Nat) : Nat :=
  let s := m.rd (Reg.SEQ_PRF_CFG n) Fields.SEQ_PRF_CFG.SIZE_LOG2
  2 ^ ((if 16 ≤ s ∧ s ≤ 30 then s else 16) - 6)

/-- A CONSUMED record of an own port (R237, Table 16.6). -/
def Mod.journalConsumed (n : Nat) (m : Mod) : Mod :=
  m.when (decide (n < 16)) (Mod.journal 8 n noSite 0 0xFFFF 0xFFFF
    (leBytes 4 (m.reg (Reg.SEQ_PRF_RD n)).toNat ++ leBytes 4 (m.reg (Reg.SEQ_PRF_SRD n)).toNat))

/-- SPILL_COPY (R228): the oldest record of the ring is copied to the spill region; RD follows the acknowledgement. -/
def Mod.spillCopy (n : Nat) (m : Mod) : Mod :=
  let x := m.ring n
  let swr := (m.reg (Reg.SEQ_PRF_SWR n)).toNat
  let srd := (m.reg (Reg.SEQ_PRF_SRD n)).toNat
  let rdv := m.ringRd n
  let next (s : Mod) : Mod := (s.setReg (Reg.SEQ_PRF_RD n) (BitVec.ofNat 32 (rdv + 1))).journalConsumed n
  if x.mode ≠ 2 ∨ m.ringUsed n = 0 then m
  else if (swr + 0x100000000 - srd) % 0x100000000 = m.spillCap n then
    m.wr (Reg.SEQ_PRF_STATUS n) Fields.SEQ_PRF_STATUS.SPILL_FULL 1
  else if m.slotBad n rdv then next (m.ringError n)
  else
    let va := m.rd64 (Reg.SEQ_PRF_SPILL_BASE_LO n) + 64 * (swr % m.spillCap n)
    match m.devPut 24 x.ctx va (memRead m.sram (ringSlot n rdv) 64) with
    | .ok m1 => next (m1.setReg (Reg.SEQ_PRF_SWR n) (BitVec.ofNat 32 (swr + 1)))
    | .error (e, k, m1) => m1.proofFailed n x.ctx (va + k) e

/-! ### Trace header (R233) -/

/-- The header of a die's half (R233). -/
def DiePort.traceHdr (x : DiePort) (n d : Nat) : List Byte :=
  leBytes 4 0x54524331 ++ leBytes 2 x.burst ++ leBytes 1 (n % 32 + 64 * d) ++ leBytes 1 x.site ++
    leBytes 2 x.traced.length ++ leBytes 1 (1 + b2n x.trBits2) ++ leBytes 1 (b2n x.trFull) ++ leBytes 8 x.trFirst ++
    leBytes 8 x.trVecs ++ zeroBytes 36

/-- Whether the header of a die's half has still to be written, and can be (R22, R233). -/
def Mod.traceOwed (m : Mod) (n d : Nat) : Bool := (m.dport n d).trDue && m.traceLink d

/-- TRACE_HEADER_WRITE (R233): after the burst's last sample, the rest of the samples and the header of the half; a die
with no channel of the port writes it after the other's last vector. -/
def Mod.traceHeader (n d : Nat) (m : Mod) : Mod :=
  let x := m.dport n d
  if !m.traceOwed n d || !(if x.chans.isEmpty then (m.dport n (1 - d)).done else x.done) then m
  else
    let ctx := (m.seq n).img.ctx
    let base := m.traceBase n d
    let m0 := m.setDport n d { x with trDue := false, trBits := [] }
    let pad := x.trBits ++ List.replicate (8 - x.trBits.length) false
    let tail := if x.trBits.isEmpty then [] else (bitBytes 1 pad).1
    match m0.devPut 24 ctx (base + 64 + (x.trPos - x.trBits.length) / 8) tail with
    | .error (e, k, m1) => m1.proofFailed n ctx (base + 64 + k) e
    | .ok m1 =>
      match m1.devPut 24 ctx base (x.traceHdr n d) with
      | .error (e, k, m2) => m2.proofFailed n ctx (base + k) e
      | .ok m2 => m2

/-! ### The token and the end of a burst -/

/-- The code a burst completes with (R190): that of its stop, and where it is OK what R157 or R260 puts in its
place. -/
def Seq.code (x : Seq) : Nat :=
  let c := x.stopped.getD stOK
  if c = stOK && x.note != 0 then x.note else c

/-- Whether a burst was stopped by its fail limit (R230). -/
def Seq.byLimit (x : Seq) : Bool := x.stopped == some stOK && !x.ended

/-- Whether the burst's token is fail (R220). -/
def Mod.tokenFail (m : Mod) (n : Nat) : Bool := (m.dport n 0).failAny || (m.dport n 1).failAny

/-- The END record (Table 9.2). -/
def Mod.endRec (m : Mod) (n : Nat) : List Byte :=
  let x := m.seq n
  let b := m.rd (Reg.SEQ_PRF_STATUS n) Fields.SEQ_PRF_STATUS.BURST_SEQ
  let site := match x.job with
    | some j => j.site
    | none => 0
  let fails := (m.reg (Reg.SEQ_PRF_FAILS n)).toNat
  let drops := (m.reg (Reg.SEQ_PRF_DROPPED n)).toNat
  recBytes n 3 3 (m.rd64 (Reg.SEQ_VCOUNT_LO n)) (m.reg (Reg.SEQ_PC n)).toNat (m.openWord 3007)
    (16 * b2n x.byLimit + 32 * b2n (m.tokenFail n)) 0 b site x.code fails
    (leBytes 8 drops ++ leBytes 8 (x.firstFail.getD 0xFFFFFFFFFFFFFFFF) ++ zeroBytes 16)

/-- Proof writes the END record (R224) and holds the token (R220): the site's bit of SEQ_PRF_SITE_FAIL, LIMIT_STOP.
An error that the assembly meets in a slot it reads is handled first; which slots it reads is a free value (R231). -/
def Mod.endBurstRec (n : Nat) (m : Mod) : Mod :=
  let x := m.seq n
  let bad := (List.range (m.ringUsed n)).any (fun i => m.slotBad n (m.ringRd n + i)) && (m.free 3010).getLsbD 0
  let m1 := m.when bad (Mod.ringError n)
  let site := match x.job with
    | some j => j.site
    | none => 0
  let m2 := m1.when (m.tokenFail n) (Mod.wr (Reg.SEQ_PRF_SITE_FAIL_LO + 4 * (site / 32)) ⟨site % 32, 1⟩ 1)
  let st := Reg.SEQ_PRF_STATUS n
  let m3 := ((m2.wr st Fields.SEQ_PRF_STATUS.LIMIT_STOP (b2n x.byLimit)).ringPut n (m2.endRec n)).wr st
    Fields.SEQ_PRF_STATUS.ACTIVE 0
  m3.setRing n { m3.ring n with endDue := false }

/-- BURST_TOKEN (R220): die `d`'s token reaches Proof after its last record, with no drops left to report (R225); with the
last of them, and no trace header still to come, the END record is
written. In a working pair the token also goes to the partner (R237). -/
def Mod.burstToken (n d : Nat) (m : Mod) : Mod :=
  let x := m.dport n d
  if x.chans.isEmpty || !x.counted || !x.cnts.isEmpty || x.dropped != 0 || !x.recs.isEmpty || x.token || m.traceOwed n d ||
      ((m.dport n (1 - d)).chans.isEmpty && m.traceOwed n (1 - d)) || (m.seq n).stopped.isNone then m
  else
    let m1 := (m.setDport n d { x with token := true }).when m.pairActive (fun s =>
      (s.copyGap n d).emit (.siteLink 12 [n, d, b2n x.failAny]))
    if [0, 1].all (fun k => (m1.dport n k).chans.isEmpty || (m1.dport n k).token) && (m1.ring n).endDue then
      m1.endBurstRec n
    else m1

/-- The result word of a burst (R191). -/
def Mod.burstWord (m : Mod) (n : Nat) : DWord :=
  let x := m.seq n
  BitVec.ofNat 64 (m.rd (Reg.SEQ_FLAGS n) Fields.SEQ_FLAGS.USER + 2 ^ 16 * b2n x.anyNomatch + 2 ^ 17 * b2n x.anyTimeout +
    2 ^ 32 * (m.rd64 (Reg.SEQ_VCOUNT_LO n) % 2 ^ 32))

/-- A sequencer is left: its charge is released, its blocks and levels go, PC stays where the burst stopped (R181,
R188). A machine check keeps STATE at MCHK. -/
def Mod.leaveSeq (n : Nat) (m : Mod) : Mod :=
  let x := m.seq n
  let g := match x.job with
    | some j => j.group
    | none => 0
  let m1 := m.when (x.charge != 0) (fun s => s.putUsed g (fget Fields.SEQ_GRP_RESV.USED (s.grpResv g) - x.charge))
  let m2 := m1.putSeq n { Seq.fresh with pc := x.pc, mirror := x.mirror, tset := x.tset }
  let m3 := (m2.setDport n 0 DiePort.fresh).setDport n 1 DiePort.fresh
  m3.when (m.seqState n != 6) (Mod.setSeqState n 0)

/-- BURST_COMPLETE (R190): the last vector has played and the token has reached Proof: SEQn_LAST, the report to Hatch
and the charge. A burst that no pin die of the module has seen has its END record written first: one that never emitted, or a burst of
the partner whose tokens have come over the capture-return lanes (R397). -/
def Mod.burstComplete (n : Nat) (m0 : Mod) : Mod :=
  let unseen := (m0.seq n).stopped.isSome && (m0.ring n).endDue && (m0.dport n 0).chans.isEmpty &&
    (m0.dport n 1).chans.isEmpty && (!(m0.seq n).mirror || (m0.portDies n).all (fun d => (m0.dport n d).token))
  let m := (m0.when unseen (Mod.endBurstRec n)).when (!(m0.seq n).failAt.isEmpty) (Mod.wr (Reg.SEQ_FLAGS n) Fields.SEQ_FLAGS.FAIL 1)
  let x := m.seq n
  match x.job, x.stopped with
  | some j, some _ =>
    if (m.ring n).endDue || x.mirrored then m
    else
      let last := Reg.SEQ_LAST n
      let stretch := m.rd64 (Reg.SEQ_STRETCH_LO n)
      let fail := m.tokenFail n
      let m1 := ((m.wr last Fields.SEQ_LAST.STATUS x.code).wr last Fields.SEQ_LAST.STRETCHED (b2n (stretch != 0))).wr last
        Fields.SEQ_LAST.FAIL (b2n fail)
      (m1.leaveSeq n).report j x.code (m.burstWord n) fail stretch true
  | _, _ => m

end Sys2Proof.Machine
end

