-- ==== Sys2Proof/Machine/Walks.lean ====
section
/-!
DEFINITION. A walk of the translation tables as an event of its own (R360 to R363), and what a fault does to the
requester (Table 15.4).
-/

namespace Sys2Proof.Machine

/-- Whether requester `req` of FLT_INFO, with its index, works in context `ctx`. For Hatch the index is an instance
slot. -/
def Mod.requests (m : Mod) (ctx req index : Nat) : Bool :=
  match req with
  | 0 | 1 => (match m.dmaRun index with
    | some r => r.ctx == ctx && m.dmaMoves index
    | none => false)
  | 2 => decide (index < 16) && m.coreCtx index == some ctx
  | 3 => decide (index < 4) && m.coreCtx (16 + index) == some ctx
  | 4 => (m.seq index).live && (m.seq index).img.ctx == ctx
  | 5 => (m.seq index).job.isSome && (m.ring index).ctx == ctx
  | 6 => (match m.inst index with
    | some x => x.group == ctx
    | none => false)
  | 7 => (match m.acq index with
    | some x => x.job.group == ctx
    | none => false)
  | 8 => m.traceOn && m.traceDest == 1 && m.rd Reg.HAT_TRACE_CTRL Fields.HAT_TRACE_CTRL.GROUP == ctx
  | _ => false

/-- The access of a core that a direction stands for. -/
def dirAcc : Dir → CoreAcc
  | .read => .load
  | .write => .store []
  | .fetch => .fetch

/-- What a fault does to its requester (Table 15.4). -/
def Mod.requestFails (ctx va : Nat) (dir : Dir) (c l req index : Nat) (m : Mod) : Mod :=
  match req with
  | 0 => m.dmaError index va false (.xlt c l)
  | 1 => m.dmaError index va true (.xlt c l)
  | 2 => m.devFault index ctx va dir (dirAcc dir) (.xlt c l)
  | 3 => m.devFault (16 + index) ctx va dir (dirAcc dir) (.xlt c l)
  | 4 => m.refillFailed index ctx va (.xlt c l)
  | 5 => m.proofFailed index ctx va (.xlt c l)
  | 6 => (m.xltFault ctx va dir c l 6 0).quit index stXLT_FAULT 0xFFFF
  | 7 => m.aqFail index ctx va (.xlt c l)
  | _ =>
    (({ m with hat := { m.hat with traceLost := m.hat.traceLost + 1 } } : Mod).xltFault ctx va dir c l 8 0).mark Reg.HAT_ERR
      Fields.HAT_ERR.TRACE_LOST

def dirOf (d : Nat) : Dir := match d with
  | 0 => .read
  | 1 => .write
  | _ => .fetch

/-- TABLE_WALK: the leaf found enters the cache; a fault, or a right that the access lacks, is latched and acts on the
requester. -/
def Mod.tableWalk (ctx va dir req index : Nat) (m : Mod) : Mod :=
  if !m.requests ctx req index then m
  else
    let w := m.walk ctx va
    let m1 := match w with
      | .leaf t => m.cacheXlt t
      | .fault _ _ => m
    match checkRights (dirOf dir) w with
    | .leaf _ => m1
    | .fault c l => m1.requestFails ctx va (dirOf dir) c l req index

/-- INV_DONE: the invalidation in progress has completed (R362). -/
def Mod.invDone (m : Mod) : Mod := m.wr Reg.XLT_INV Fields.XLT_INV.INV_DONE 1

/-- Descriptor `k` of queue `q` is taken where it has opcode `op` and may be dispatched. -/
def Mod.takeDesc (q k op : Nat) (f : Desc → Mod → Mod) (m : Mod) : Mod :=
  match m.takeable q k op with
  | some d => f d m
  | none => m

end Sys2Proof.Machine
end

