-- ==== Sys2Proof/Machine/Power.lean ====
section
/-!
DEFINITION. Supplies, the loss of a die, the power governor, start-up and the resets (Chapters 2 and 3), and the fatal
path (R419).
-/

namespace Sys2Proof.Machine

/-! ### The loss of a die -/

/-- A die is out of service or back. -/
def Mod.setLost (d : Nat) (b : Bool) (m : Mod) : Mod := { m with sys := { m.sys with lost := SMap.set badDefault m.sys.lost d b } }

def Mod.setStarted (u : Nat) (b : Bool) (m : Mod) : Mod :=
  { m with sys := { m.sys with started := SMap.set badDefault m.sys.started u b } }

def Mod.unitLeft (m : Mod) (u : Nat) : Bool := SMap.get badDefault m.sys.leftOff u

/-- The unit that works on a request of a level queue is lost or stops: its node ends with a code, and nothing more of the
request is looked at (R120, R418). -/
def Mod.dropReq (code id : Nat) (m : Mod) : Mod :=
  match m.lreq id with
  | none => m
  | some r =>
    let m1 := (m.setLreq id none).reportStatus r.job code
    match r.meas with
    | some c => m1.setMeas c none
    | none => m1

/-- A level queue that is lost or stops: its entries go, and the nodes they belong to end. -/
def Mod.lqLost (code q : Nat) (m : Mod) : Mod :=
  let x := m.lq q
  (m.putLq q { x with entries := [] }).each (x.entries.filterMap LqEntry.req).eraseDups (Mod.dropReq code)

/-- A measurement in progress on a converter that is lost or stops ends. -/
def Mod.measLost (code c : Nat) (m : Mod) : Mod :=
  match m.meas c with
  | none => m
  | some x => (m.dropMeas c).reportStatus x.job code

/-- A burst ends where its die is lost: with PIN_LOST, whatever it was about to end with. -/
def Mod.portLost (n d : Nat) (m : Mod) : Mod :=
  let m1 := m.setDport n d DiePort.fresh
  let x := m1.seq n
  if x.stopped.isSome then m1.setSeq n { x with stopped := some stPIN_LOST } else m1.stopSeq n stPIN_LOST

/-- The drivers and comparators of a pin die are disconnected (R44): its pins are at high impedance, and a strobe that
was still to judge judges nothing. -/
def Mod.driversOff (d : Nat) (m : Mod) : Mod :=
  let m1 := (m.setLost (17 + d) true).each (List.range 128) (fun i s =>
    let ch := 128 * d + i
    s.setPin ch { s.pin ch with
      drive := .off
      events := []
      strobes := []
      placed := []
      trackers := [] })
  m1.each (allBelow 32 (fun n => !(m.dport n d).verdicts.isEmpty)) (fun n s =>
    let x := s.dport n d
    s.setDport n d { x with verdicts := x.verdicts.map (fun v => { v with left := 0 }) })

/-- PIN_DIE_LOSS (R32, R120): the bursts, level entries, measurements and TDCs of pin die `d` (0 or 1) end with
PIN_LOST, and no other work is touched. -/
def Mod.pinDieLost (d : Nat) (m : Mod) : Mod :=
  let up := if d = 0 then Fields.GLB_DIE_STATUS.P0_UP else Fields.GLB_DIE_STATUS.P1_UP
  let m1 := ((m.setLost (1 + d) true).wr Reg.GLB_DIE_STATUS up 0).driversOff d
  let ports := allBelow 32 (fun n => !(m.dport n d).chans.isEmpty || ((m.seq n).job.isSome && (m.portDies n).contains d))
  let m2 := m1.each ports (fun n s => s.portLost n d)
  let m3 := m2.each (List.range 8) (fun i s => s.lqLost stPIN_LOST (8 * d + i))
  let m4 := m3.each (List.range 4) (fun i s => s.measLost stPIN_LOST (4 * d + i))
  m4.each (List.range 16) (fun i s => s.tdcDrop (16 * d + i) stPIN_LOST)

/-- H0_LOSS (R32, R39): outputs disconnect, relays fall open, and the nodes on H0's units end with PIN_LOST. -/
def Mod.h0Lost (m : Mod) : Mod :=
  let m1 := (((m.setLost 3 true).setStarted 29 false).wr Reg.GLB_DIE_STATUS Fields.GLB_DIE_STATUS.H0_UP 0)
  let held := m1.hvs.filterMap (fun e => e.2.rcReq)
  let m2 := m1.each [16, 17, 18, 19, 20] (Mod.lqLost stPIN_LOST)
  let m3 := (m2.each held.eraseDups (Mod.dropReq stPIN_LOST)).each (List.range 32) (fun i s =>
    s.measLost stPIN_LOST (8 + i))
  let m4 := m3.h0Safe.h0WaveSafe stPIN_LOST
  m4.each [32, 33, 34, 35] (fun u s => s.tdcDrop u stPIN_LOST)

/-- H0 acts as lost without control frames for 2 ms (R267). -/
def Mod.h0Silence (us : Nat) (m : Mod) : Mod :=
  if us < 2000 ∨ m.isLost 3 then m else m.h0Lost

/-- What of a port the core die's loss leaves: the blocks its pin dies have been sent, which play on (Table 1.7). -/
def Seq.held (x : Seq) : Seq :=
  { Seq.fresh with
    sent := x.sent
    lastTset := x.lastTset }

/-- The sequencers' own state goes; the blocks sent stay. -/
def Mod.seqsHeld (m : Mod) : Mod := m.each (List.range 32) (fun n s => s.setSeq n (s.seq n).held)

/-- The core die loses its power (R43): what it ran is gone without a completion or a record, and PWRGOOD falls. Pin
dies and H0 keep what they hold. -/
def Mod.coreLost (m : Mod) : Mod :=
  let m1 := ((((((m.seqsHeld.setLost 0 true).wr Reg.GLB_DIE_STATUS Fields.GLB_DIE_STATUS.P0_UP 0).wr Reg.GLB_DIE_STATUS
    Fields.GLB_DIE_STATUS.P1_UP 0).wr Reg.GLB_DIE_STATUS Fields.GLB_DIE_STATUS.H0_UP 0).wr Reg.PWR_STATUS
    Fields.PWR_STATUS.CORE_RAILS_OK 0).wr Reg.GLB_START_STATE Fields.GLB_START_STATE.STATE 0).wr Reg.SL_STATUS
    Fields.SL_STATUS.STATE 0
  { m1 with
    queues := []
    cqs := []
    hat := { Hat.fresh with stopped := true }
    scores := []
    mcores := []
    harts := []
    tlb := []
    rings := []
    sendBuf := []
    lreqs := []
    dma := Dma.fresh
    pair := { Pair.fresh with frames := m.pair.frames }
    pcie := { m.pcie with linkDown := true, due := [] }
    sys := { m1.sys with pwrgood := false } }

/-- Loss of die `d` of Table 1.7: 0 the core die, 1 and 2 the pin dies, 3 H0, 8 + k GDDR7 device k. -/
def Mod.dieLost (d : Nat) (m : Mod) : Mod :=
  match d with
  | 0 => m.coreLost
  | 1 => m.pinDieLost 0
  | 2 => m.pinDieLost 1
  | 3 => m.h0Lost
  | _ => m.offlineDevice (4 * (d - 8))

/-! ### Supply events -/

/-- Every HV and AS output disconnected and every relay opened. -/
def Mod.outputsOff (m : Mod) : Mod :=
  let m1 := m.each (allBelow 32 (fun h => m.hvEnabled h)) (fun h s => s.hvSwitch h false)
  let m2 := m1.each (allBelow 8 (fun n => m1.asEnabled n)) (fun n s => s.asSwitch n false)
  (m2.setReg Reg.RLY_STATE_LO 0#32).setReg Reg.RLY_STATE_HI 0#32

/-- Every port is told to stop at its next vector boundary. -/
def Mod.stopPorts (code : Nat) (m : Mod) : Mod := m.each (List.range 32) (fun n s => s.stopSeq n code)

/-- Hatch dispatches nothing further. -/
def Mod.stopDispatch (m : Mod) : Mod := { m with hat := { m.hat with stopped := true } }

/-- VIN_TRIP (R36). -/
def Mod.vinTrip (high : Bool) (m : Mod) : Mod :=
  let m1 := ((m.stopPorts stSUPPLY_LOSS).outputsOff.stopDispatch.wr Reg.PWR_STATUS Fields.PWR_STATUS.VIN_OK 0).pwrEvent 3
    (if high then Fields.PWR_EVENT.VIN_OV else Fields.PWR_EVENT.VIN_UV)
  { m1 with sys := { m1.sys with pwrgood := false, vinLatched := true } }

/-- The bit of PWR_STATUS of an HV-side input: 0 VHP, 1 VHN, 2 VHL. -/
def hvInput (i : Nat) : Fld := ⟨2 + i, 1⟩

/-- HV_SUPPLY (R39): an input out of its fault window for more than 20 µs. -/
def Mod.hvSupply (i us : Nat) (m : Mod) : Mod :=
  if us ≤ 20 then m
  else
    let m1 := m.wr Reg.PWR_STATUS (hvInput i) 0
    let m2 := m1.when (i == 2) (Mod.wr Reg.PWR_STATUS Fields.PWR_STATUS.H0_RAILS_OK 0)
    (m2.pwrEvent 3 Fields.PWR_EVENT.HV_SUPPLY).when (!m2.isLost 3) Mod.h0Lost

/-- HGND_RANGE (R41): HGND against logic ground in 0.1 V, held for `us` µs. -/
def Mod.hgndRange (ofs : Int) (us : Nat) (m : Mod) : Mod :=
  let m1 := m.wr Reg.PWR_HV_MON Fields.PWR_HV_MON.HGND_OFS (unsign 12 ofs)
  if ofs.natAbs ≤ 1050 ∨ us < 1000 then m1
  else (m1.pwrEvent 3 Fields.PWR_EVENT.HGND_RANGE).when (!m1.isLost 3) Mod.h0Lost

/-- The die that a rail of Table 2.6 feeds, rails numbered in its order: VCC_C, VCC_S, VCC_X, VDD_G0 to VDD_G7, then P0
and P1 of VCC, VAN, VDRVH and VDRVL, then VCC_H. -/
def railDie (r : Nat) : Nat :=
  if r < 3 then 0 else if r < 11 then 8 + (r - 3) else if r < 19 then 1 + (r + 1) % 2 else 3

/-- The bit of PWR_STATUS for the rails of a die. -/
def railsOk (d : Nat) : Fld :=
  match d with
  | 0 => Fields.PWR_STATUS.CORE_RAILS_OK
  | 1 => Fields.PWR_STATUS.P0_RAILS_OK
  | 2 => Fields.PWR_STATUS.P1_RAILS_OK
  | 3 => Fields.PWR_STATUS.H0_RAILS_OK
  | _ => ⟨9 + (d - 8), 1⟩

/-- RAIL_FAULT (R43): a rail out of its window for more than 10 µs takes its die out of service. No record is written
for the core die. -/
def Mod.railFault (r us : Nat) (m : Mod) : Mod :=
  let d := railDie r
  if us ≤ 10 then m
  else
    let m1 := m.wr Reg.PWR_STATUS (railsOk d) 0
    if d = 0 then (m1.mark Reg.PWR_EVENT Fields.PWR_EVENT.RAIL_FAULT).coreLost
    else (m1.pwrEvent 3 Fields.PWR_EVENT.RAIL_FAULT).when (!m1.isLost d) (Mod.dieLost d)

/-- The die of a temperature sensor and its trip point in 1/8 °C (Table 2.8). -/
def sensorDie (s : Nat) : Nat := if s < 4 then 0 else if s < 6 then 1 else if s < 8 then 2 else if s = 8 then 3 else 8 + (s - 9)
def sensorTrip (s : Nat) : Int := if s < 9 then 840 else 800

/-- The TRIP bit of PWR_EVENT for a die. -/
def tripFld (d : Nat) : Fld :=
  match d with
  | 0 => Fields.PWR_EVENT.TRIP_CORE
  | 1 => Fields.PWR_EVENT.TRIP_P0
  | 2 => Fields.PWR_EVENT.TRIP_P1
  | 3 => Fields.PWR_EVENT.TRIP_H0
  | _ => Fields.PWR_EVENT.TRIP_GDDR

/-- A sensor's reading is stored in 1/8 °C. -/
def Mod.putTemp (s : Nat) (t : Int) (valid : Bool) (m : Mod) : Mod :=
  (m.wr (Reg.PWR_TEMP s) Fields.PWR_TEMP.TEMP (unsign 12 t)).wr (Reg.PWR_TEMP s) Fields.PWR_TEMP.VALID (b2n valid)

/-- The core die trips (R46): Hatch dispatches nothing further, and unpaired every port stops with THERMAL_TRIP. In a
working pair it writes no completion for its ports and stops transmission. Unpaired it stops transmission once every completion then due is written (`Mod.txOff`). -/
def Mod.coreTrip (m : Mod) : Mod :=
  let m1 := m.stopDispatch
  if m.pairActive then
    let m2 := m1.each (allBelow 16 (fun n => (m.seq n).job.isSome && !(m.seq n).mirror)) (fun n s =>
      (s.setSeq n Seq.fresh).setSeqState n 0)
    { m2 with
      flt := { m2.flt with txStopped := true }
      plt := { m2.plt with gap := m2.plt.gap || m2.plt.counting } }
  else m1.stopPorts stTHERMAL_TRIP

/-- TRIP (R46): a sensor reaches its trip point. -/
def Mod.tripSensor (s : Nat) (t : Int) (m0 : Mod) : Mod :=
  let m := m0.putTemp s t true
  let d := sensorDie s
  if t < sensorTrip s ∨ SMap.get badDefault m.sys.tripped d then m
  else
    let m1 := (m.pwrEvent 3 (tripFld d)).wr Reg.PWR_STATUS Fields.PWR_STATUS.TRIP_ACTIVE 1
    let m2 : Mod := { m1 with sys := { m1.sys with tripped := SMap.set badDefault m1.sys.tripped d true } }
    if d = 0 then m2.coreTrip else m2.when (!m2.isLost d) (Mod.dieLost d)

/-! ### The governor (R47 to R51) -/

def Mod.sensorValid (m : Mod) (s : Nat) : Bool := m.flag (Reg.PWR_TEMP s) Fields.PWR_TEMP.VALID
def Mod.sensorTemp (m : Mod) (s : Nat) : Int := signed 12 (m.rd (Reg.PWR_TEMP s) Fields.PWR_TEMP.TEMP)

/-- The throttle condition of R49. -/
def Mod.throttling (m : Mod) : Bool :=
  let th : Int := 8 * m.rd Reg.PWR_TH Fields.PWR_TH.TEMP_THROTTLE
  (List.range 20).any (fun s => m.sensorValid s && decide (th ≤ m.sensorTemp s)) ||
    decide (10 * m.rd Reg.PWR_TH Fields.PWR_TH.VIN_ITH ≤ m.rd Reg.PWR_VIN_MEAS Fields.PWR_VIN_MEAS.CURR)

/-- The clear condition of R49. -/
def Mod.throttleClear (m : Mod) : Bool :=
  let th : Int := 8 * m.rd Reg.PWR_TH Fields.PWR_TH.TEMP_THROTTLE - 40
  (List.range 20).all (fun s => !m.sensorValid s || decide (m.sensorTemp s ≤ th)) &&
    decide (100 * m.rd Reg.PWR_VIN_MEAS Fields.PWR_VIN_MEAS.CURR ≤ 950 * m.rd Reg.PWR_TH Fields.PWR_TH.VIN_ITH)

/-- MAX_LEVEL; values 5 to 7 act as 4. -/
def Mod.maxLevel (m : Mod) : Nat := min 4 (m.rd Reg.PWR_GOV_CTRL Fields.PWR_GOV_CTRL.MAX_LEVEL)

/-- The gap record that tracing writes when it resumes (Table 2.9, R134). -/
def Mod.traceGap (m : Mod) : Mod :=
  if !m.traceOn || m.hat.traceLost == 0 then m
  else if m.traceDest != 0 && decide (traceRingSize ≤ m.hat.traceRing.length) then m
  else
    let ring := m.hat.traceRing ++ [wideRecord 0x0A m.hat.traceLost m.ttime]
    { m with hat := { m.hat with
      traceRing := ring.drop (ring.length - traceRingSize)
      traceLost := 0 } }

/-- The level in force follows (R49); THROTTLED rises with it, and tracing resumes at 0. -/
def Mod.applyLevel (m : Mod) : Mod :=
  let old := m.rd Reg.PWR_STATUS Fields.PWR_STATUS.LEVEL
  let new := min m.maxLevel (max (min 4 (m.rd Reg.PWR_GOV_CTRL Fields.PWR_GOV_CTRL.FORCE_LEVEL)) m.sys.govLevel)
  let m1 := m.wr Reg.PWR_STATUS Fields.PWR_STATUS.LEVEL new
  (m1.when (old == 0 && new != 0) (Mod.pwrEvent 1 Fields.PWR_EVENT.THROTTLED)).when (old != 0 && new == 0) Mod.traceGap

/-- GOVERNOR_SAMPLE (R47): VIN in mV, its current in 10 mA, and the sensors read (number, 1/8 °C, present). -/
def Mod.governorSample (mv ma10 : Nat) (temps : List (Nat × Int × Bool)) (m : Mod) : Mod :=
  let m1 := (m.wr Reg.PWR_VIN_MEAS Fields.PWR_VIN_MEAS.VOLT (min mv 0xFFFF)).wr Reg.PWR_VIN_MEAS Fields.PWR_VIN_MEAS.CURR
    (min ma10 0xFFFF)
  let m2 := temps.foldl (fun s e => s.putTemp e.1 e.2.1 e.2.2) m1
  let warn : Int := 8 * m2.rd Reg.PWR_TH Fields.PWR_TH.TEMP_WARN
  let m3 := m2.when ((List.range 20).any (fun s => m2.sensorValid s && decide (warn ≤ m2.sensorTemp s)))
    (Mod.pwrEvent 1 Fields.PWR_EVENT.TEMP_WARN)
  let rose := m3.sys.govRose && m3.throttling
  { m3 with sys := { m3.sys with govRose := rose } }

/-- LEVEL_RISE (R49): the condition has held for `us` µs since it began, or since the last rise under it. -/
def Mod.levelRise (us : Nat) (m : Mod) : Mod :=
  if !m.throttling || decide (us < if m.sys.govRose then 1000 else 100) then m
  else
    let v := min m.maxLevel (m.sys.govLevel + 1)
    ({ m with sys := { m.sys with govLevel := max v m.sys.govLevel, govRose := true } } : Mod).applyLevel

/-- LEVEL_FALL (R49): the clear condition has held for `us` µs since it began, or since the last fall under it. -/
def Mod.levelFall (us : Nat) (m : Mod) : Mod :=
  if !m.throttleClear || decide (us < 10000) then m
  else
    let v := m.sys.govLevel - 1
    ({ m with sys := { m.sys with govLevel := v, govRose := false } } : Mod).applyLevel

/-! ### Orderly power-down (R54) -/

/-! ### Start (R55 to R62) -/

def Mod.setStart (v : Nat) (m : Mod) : Mod := m.wr Reg.GLB_START_STATE Fields.GLB_START_STATE.STATE v

/-- The profile's time base is REFIN; without a valid slot the module starts on the TCXO. -/
def Mod.profRefin (m : Mod) : Bool :=
  !m.flag Reg.GLB_START_STATE Fields.GLB_START_STATE.PROF_BAD && ((m.slot m.slotInUse).byte 0x30) == 1#8

/-- PAIR_ROLE of the profile: 0 standalone, 1 role A, 2 role B. -/
def Mod.profRole (m : Mod) : Nat :=
  if m.flag Reg.GLB_START_STATE Fields.GLB_START_STATE.PROF_BAD then 0 else ((m.slot m.slotInUse).byte 0x32).toNat

/-- The MAGIC and CRC-32 of a slot hold (R72). -/
def Slot.ok (x : Slot) : Bool := x.crcOk && ofBytes (x.range 0 4) == 0x4C595046

/-- The slot R72 takes of a profile: the valid one, of two valid ones that with the higher GEN, slot 0 where they are
equal. -/
def Mod.pickSlot (m : Mod) (p : Nat) : Option Nat :=
  let a := m.slot (2 * p)
  let b := m.slot (2 * p + 1)
  pickOf a.ok b.ok (ofBytes (a.range 4 4)) (ofBytes (b.range 4 4))

/-- Every unit of the start order but H0 has started or been left off (R59, R60). -/
def Mod.unitsDone (m : Mod) : Bool := (List.range 50).all (fun u => u == 29 || m.unitStarted u || m.unitLeft u)

def Mod.startDone (m : Mod) : Mod :=
  m.when (m.unitsDone && (m.unitStarted 29 || m.unitLeft 29)) (Mod.wr Reg.PWR_STATUS Fields.PWR_STATUS.START_DONE 1)

/-- Every present unit has started and trained. -/
def Mod.trained (m : Mod) : Bool :=
  let up := Reg.GLB_DIE_STATUS
  m.unitsDone && m.sys.flashLoaded && m.sys.gddrTrained && m.flag up Fields.GLB_DIE_STATUS.TB_LOCK &&
    (m.isLost 1 || m.flag up Fields.GLB_DIE_STATUS.P0_UP) && (m.isLost 2 || m.flag up Fields.GLB_DIE_STATUS.P1_UP) &&
    (m.isLost 3 || !m.unitStarted 29 || m.flag up Fields.GLB_DIE_STATUS.H0_UP)

/-- Start goes on once everything has trained: on the TCXO, or once the time base has switched to REFIN, STATE becomes
APPLY (R58 steps 15 and 16); without REFIN it becomes TIMEBASE_WAIT (R62). -/
def Mod.startMove (m0 : Mod) : Mod :=
  let m := m0.startDone
  let st := Reg.GLB_START_STATE
  let s := m.startState
  if (s ≠ 2 ∧ s ≠ 3) ∨ m.trained = false ∨ m.sys.vinLatched = true then m
  else if m.profRefin && !m.flag Reg.TB_STATUS Fields.TB_STATUS.SRC_ACTIVE then
    if m.flag Reg.TB_STATUS Fields.TB_STATUS.REF_PRESENT && m.flag Reg.TB_STATUS Fields.TB_STATUS.REF_IN_WINDOW then m
    else (m.setStart 3).wr st Fields.GLB_START_STATE.REF_WAITING 1
  else (m.setStart 4).wr st Fields.GLB_START_STATE.REF_WAITING 0

/-- COLD_RESET_RELEASE (R37, R55, R56): once VAUX has been within its operating range for 10 ms (`vauxMs`), PROF[1:0] are
sampled, the flash directory is chosen and the profile is read. VIN has been within its operating range for `vinMs`
ms: a VIN trip no longer holds from 10 ms on (R36). -/
def Mod.coldRelease (prof vinMs vauxMs : Nat) (m : Mod) : Mod :=
  if !m.sys.coldHeld || decide (vauxMs < 10) then m
  else
    let m1 : Mod := { m with sys := { m.sys with
      coldHeld := false
      vinLatched := m.sys.vinLatched && decide (vinMs < 10)
      dirUsed := (pickOf m.sys.dirA.ok m.sys.dirB.ok m.sys.dirA.gen m.sys.dirB.gen).getD 0 } }
    ((m1.setStart 1).wr Reg.GLB_START_STATE Fields.GLB_START_STATE.PROFILE prof).wr Reg.PWR_STATUS
      Fields.PWR_STATUS.VAUX_OK 1

/-- SLOT_VALID shows the slots of the flash that are valid. -/
def Mod.showSlots (m : Mod) : Mod :=
  m.wr Reg.GLB_PROF_STATUS Fields.GLB_PROF_STATUS.SLOT_VALID (maskOf 0 8 (fun k => (m.slot k).ok))

/-- PROFILE_SLOT_CHECKED (R56, R72): the slot is chosen, and the time base becomes that of the header where the profile
last taken named another source, or none was taken (Table 3.4). STATE becomes STANDBY; after a warm reset the rails are
on, and start goes on with the flash load (R67), but never while a VIN trip is latched (R36). Without a valid slot
PROF_BAD is set; PROFILE_FAIL follows at the instant of READY (R73). -/
def Mod.slotChecked (m : Mod) : Mod :=
  let st := Reg.GLB_START_STATE
  if m.sys.coldHeld || m.startState != 1 then m
  else
    let p := m.rd st Fields.GLB_START_STATE.PROFILE
    let m1 := m.showSlots
    let m2 := match m.pickSlot p with
      | some s => (m1.wr st Fields.GLB_START_STATE.SLOT s).wr st Fields.GLB_START_STATE.PROF_BAD 0
      | none => m1.wr st Fields.GLB_START_STATE.PROF_BAD 1
    let src := m2.profRefin
    let freq := if m2.flag st Fields.GLB_START_STATE.PROF_BAD then 0 else ((m2.slot m2.slotInUse).byte 0x31).toNat
    let m3 := m2.when (m.sys.tbFrom != some src) (fun s =>
      ((s.wr Reg.TB_CTRL Fields.TB_CTRL.SRC (b2n src)).wr Reg.TB_CTRL Fields.TB_CTRL.REF_FREQ freq).when (!src)
        (Mod.wr Reg.TB_STATUS Fields.TB_STATUS.SRC_ACTIVE 0))
    let m4 : Mod := { m3 with sys := { m3.sys with tbFrom := some src } }
    if m.unitStarted 0 && !m.sys.vinLatched then (m4.setStart 2).startMove else m4.setStart 0

/-- POWER_STAGE_START (R57, R58 step 1): VIN has been in range for `vinMs` ms. -/
def Mod.powerStage (vinMs : Nat) (m : Mod) : Mod :=
  if m.startState ≠ 0 ∨ vinMs < 5 ∨ m.sys.vinLatched = true ∨ m.isLost 0 = true ∨ m.sys.coldHeld = true then m
  else (m.wr Reg.PWR_STATUS Fields.PWR_STATUS.VIN_OK 1).setStart 2

/-- Whether start is under way or over: the power stage has begun, and no VIN trip holds the module (R36). -/
def Mod.powered (m : Mod) : Bool := decide (2 ≤ m.startState) && !m.isLost 0 && !m.sys.vinLatched

/-- Whether unit `u` is the next of the start order: every earlier one but H0 has started or been left off (R52). -/
def Mod.nextUnit (m : Mod) (u : Nat) : Bool :=
  m.powered && !m.unitStarted u && !m.unitLeft u && (List.range u).all (fun k => k == 29 || m.unitStarted k || m.unitLeft k)

/-- The rails of unit `u` are in their windows; a pin die needs its logic and its driver rails. A die that is lost is
switched off (R43, R53). -/
def Mod.showRails (u : Nat) (m : Mod) : Mod :=
  let ok (d : Nat) (s : Mod) : Mod := s.wr Reg.PWR_STATUS (railsOk d) 1
  if u = 0 then ok 0 m
  else if u < 9 then m.when (!m.isLost (7 + u)) (ok (7 + u))
  else if u = 11 ∨ u = 12 then m.when (!m.isLost (u - 10)) (fun s => (ok (u - 10) s).setLost (u + 6) false)
  else m

/-- UNIT_START (R52). -/
def Mod.unitStart (u : Nat) (m : Mod) : Mod :=
  if !m.nextUnit u then m else ((m.setStarted u true).showRails u).startMove

/-- The die of a unit with rails of its own. -/
def startDie (u : Nat) : Nat :=
  if u = 0 then 0 else if u < 9 then 8 + (u - 1) else if u = 9 ∨ u = 11 then 1 else if u = 10 ∨ u = 12 then 2
  else if u < 21 then 1 else if u < 29 then 2 else 3

/-- START_FAIL (R53): a unit is left off, its die or device is switched off and lost, and start continues. -/
def Mod.startFail (u : Nat) (m : Mod) : Mod :=
  if m.unitStarted u || m.unitLeft u || !m.powered then m
  else
    let d := startDie u
    let m1 : Mod := { m with sys := { m.sys with leftOff := SMap.set badDefault m.sys.leftOff u true } }
    (((m1.wr Reg.PWR_STATUS (railsOk d) 0).pwrEvent 3 Fields.PWR_EVENT.START_FAIL).when (!m1.isLost d)
      (Mod.dieLost d)).startMove

/-- H0_SOFT_START (R38, R59): all three HV inputs have been in their windows for the soft-start of H0's rails. -/
def Mod.h0SoftStart (ms : Nat) (m : Mod) : Mod :=
  if m.unitStarted 29 || m.isLost 3 || decide (ms < 2) || !m.powered ||
      !(List.range 29).all (fun u => m.unitStarted u || m.unitLeft u) then m
  else
    let st := Reg.PWR_STATUS
    (((((m.setStarted 29 true).wr st Fields.PWR_STATUS.VHP_OK 1).wr st Fields.PWR_STATUS.VHN_OK 1).wr st
      Fields.PWR_STATUS.VHL_OK 1).wr st Fields.PWR_STATUS.H0_RAILS_OK 1).startMove

/-- TIMEBASE_LOCK (R58 step 3). -/
def Mod.timebaseLock (m : Mod) : Mod :=
  if !m.unitStarted 0 then m else (m.wr Reg.GLB_DIE_STATUS Fields.GLB_DIE_STATUS.TB_LOCK 1).startMove

/-- PCIE_DETECT (R61). -/
def Mod.pcieDetect (m : Mod) : Mod :=
  if !m.unitStarted 0 || m.pcie.perst then m else { m with sys := { m.sys with pcieDetect := true } }

/-- FLASH_LOAD_COMPLETE (R58 step 13, R77 to R79, R138): the cores' code is copied and GO set; the control store and
the sequencer tables are loaded and checked unless PROF_BAD is set (R72). -/
def Mod.flashLoad (m : Mod) : Mod :=
  let st := Reg.GLB_START_STATE
  if !m.unitStarted 0 || m.sys.flashLoaded || m.startState < 2 then m
  else
    let fw := m.fwPick.isSome
    let rt := m.rtPick.isSome
    let m1 := (m.wr st Fields.GLB_START_STATE.FW_BAD (b2n !fw)).wr st Fields.GLB_START_STATE.RT_BAD (b2n !rt)
    let m2 := m1.when rt (Mod.each (List.range 16) (fun c s =>
      (s.loadCode c).wr (Reg.MCS_SCORE_CTRL c) Fields.MCS_SCORE_CTRL.GO 1))
    let m3 := m2.when fw (Mod.each (List.range 4) (fun k s =>
      (s.loadCode (16 + k)).wr (Reg.MCS_MCORE_CTRL k) Fields.MCS_MCORE_CTRL.GO 1))
    let m4 := if m.flag st Fields.GLB_START_STATE.PROF_BAD then m3 else ((m3.copyStore true).storeCheck true).2
    ({ m4 with sys := { m4.sys with flashLoaded := true } } : Mod).startMove

/-- GDDR7_TRAINING_COMPLETE (R343, R344): bit k of `bad` names a device with a channel that failed a step three times. -/
def Mod.gddrTraining (bad : Nat) (m : Mod) : Mod :=
  if m.sys.gddrTrained || !(List.range 9).all (fun u => m.unitStarted u || m.unitLeft u) || m.startState < 2 then m
  else
    let m1 := m.each (List.range 8) (fun k s =>
      if s.isLost (8 + k) then s
      else if nbit bad k then s.offlineDevice (4 * k)
      else (s.wr Reg.GLB_DIE_STATUS ⟨8 + k, 1⟩ 1).each (List.range 4) (fun i t => t.setChState (4 * k + i) 1))
    ({ m1 with sys := { m1.sys with gddrTrained := true } } : Mod).startMove

/-- PLINK_TRAINED (R58 steps 7 and 8): the link of pin die `d`; the die's TCLK phases are locked. -/
def Mod.plinkTrained (d : Nat) (m : Mod) : Mod :=
  if !m.unitStarted (9 + d) || m.isLost (1 + d) || !m.powered then m
  else ((m.wr Reg.GLB_DIE_STATUS ⟨d, 1⟩ 1).wr (Reg.CH_TFLAG d) Fields.CH_TFLAG.PHASE_LOCK 1).startMove

/-- HLINK_TRAINED without the records it releases (R58 step 14). -/
def Mod.hlinkUp (m : Mod) : Mod :=
  if !m.unitStarted 29 || m.isLost 3 || !m.powered then m
  else (m.wr Reg.GLB_DIE_STATUS Fields.GLB_DIE_STATUS.H0_UP 1).startMove

/-- REFIN_QUALIFIED (R62): during start the time base switches to REFIN where the profile names it. -/
def Mod.refinQualified (det : Nat) (ppb : Int) (m : Mod) : Mod :=
  let m1 := m.refinQualify det ppb
  let st := Reg.TB_STATUS
  let starting := m1.startState == 2 || m1.startState == 3
  let switch := starting && m1.profRefin && m1.flag st Fields.TB_STATUS.REF_QUALIFIED && !m1.flag st Fields.TB_STATUS.SRC_ACTIVE
  (m1.when switch (fun s => (s.wr st Fields.TB_STATUS.SRC_ACTIVE 1).mark Reg.GLB_DIE_ERR
    Fields.GLB_DIE_ERR.HOLDOVER_SEEN)).startMove

/-- STATE becomes READY, or PROFILE_FAIL for want of a slot or of a control store (R58, R73, R77), `ms` after t1 or tw;
the record a warm reset owes is posted (R428). -/
def Mod.ready (ms : Nat) (m : Mod) : Mod :=
  let st := Reg.GLB_START_STATE
  let fail := m.flag st Fields.GLB_START_STATE.PROF_BAD || m.flag st Fields.GLB_START_STATE.MCS_BAD
  let m1 := m.setStart (if fail then 7 else 6)
  let m2 := if fail then m1 else m1.wr st Fields.GLB_START_STATE.READY_MS (min ms 0xFFFF)
  let m3 := m2.when m2.flt.resetDue (Mod.post 1 srcGLB 0 (m2.rd Reg.GLB_RST_CAUSE Fields.GLB_RST_CAUSE.LAST) noSite
    Reg.GLB_RST_CAUSE 0)
  -- counting resumes after another core die has worked the relay lines (R411)
  let m4 := m3.when (m3.plt.gap && m3.plt.counting) (Mod.pltEvent false 0 Fields.PLT_EVENT.COUNT_GAP)
  { m4 with
    sys := { m4.sys with pwrgood := !fail && !m4.sys.vinLatched }
    flt := { m4.flt with resetDue := false }
    plt := { m4.plt with gap := false } }

/-! ### Resets (R63 to R71) -/

/-- STATE of SL_STATUS becomes `v`, and completions and node ends that waited for the partner go on without it. -/
def Mod.pairLeave (v : Nat) (m : Mod) : Mod :=
  let ends := m.pair.ends.map Prod.snd
  let comps := m.pair.comps.map Prod.snd
  let m1 := ({ m with pair := { m.pair with ends := [], comps := [] } } : Mod).wr Reg.SL_STATUS Fields.SL_STATUS.STATE v
  let m2 := comps.foldl (fun s c => s.complete c.1 c.2) m1
  ends.foldl (fun s r => s.commitNode r) m2

/-- A working or forming pair ends on this side. -/
def Mod.pairDrop (m : Mod) : Mod := m.pairLeave 0

/-- Every running instance ends with a status; an instance that is ending early keeps its own. -/
def Mod.endInstances (code : Nat) (m : Mod) : Mod :=
  m.each (List.range 512) (fun i s => match s.inst i with
    | some x => s.endInst i { x with quitStatus := some (x.quitStatus.getD code) }
    | none => s)

/-- The records of every ring are written while the link lets them (R67 step 3, R106). -/
def Mod.writeAll (m : Mod) : Mod :=
  m.each (List.range 64) (fun c s => (List.range (s.cq c).waiting.length).foldl (fun t _ => t.completionWrite c) s)

/-- Steps 1 to 3 of R67: dispatch stops, operations in flight end with RESET and queued descriptors complete with
FLUSHED; every completion is written; running ports' pins take their safe state. -/
def Mod.endWork (m0 : Mod) : Mod :=
  let m := m0.pairDrop
  let running := allBelow 32 (fun n => [0, 1].any (fun d => !(m.dport n d).chans.isEmpty && !(m.dport n d).done))
  let m1 := m.each (running.flatMap (fun n => [0, 1].flatMap (fun d => (m.dport n d).chans.map Prod.snd))) (fun ch s =>
    s.emit (.pinSafe ch (m.rd (chReg Reg.CH_VCFG ch) Fields.CH_VCFG.SAFE)))
  let m2 := m1.each (List.range 32) (fun ch s => match s.dmaRun ch with
    | some r => (match r.origin with
      | .desc _ _ _ => s.dmaEnd ch stRESET
      | .node _ => s.setDmaRun ch none)
    | none => s)
  ((m2.endInstances stRESET).flushDescs (fun _ _ => true)).writeAll

/-- The registers of the pin dies and H0, which HANDOVER keeps (Table 3.4): the channel blocks, HV and relays, the
DDS, AS and AQ units, the TDCs and the pin-die part of the Site Link block. -/
def pinReg (off : Nat) : Bool :=
  (decide (0x500000 ≤ off) && decide (off < 0x800C00)) || (decide (0x900000 ≤ off) && decide (off < 0x901000)) ||
    (decide (0xD00040 ≤ off) && decide (off < 0xD00060)) || (decide (0x4000000 ≤ off) && decide (off < 0x4300000))

/-- The fault queue while delivery is enabled (R428). -/
def Mod.keptQueue (m : Mod) : Option Nat :=
  if m.flag Reg.ERR_CFG Fields.ERR_CFG.EN then some (m.rd Reg.ERR_CFG Fields.ERR_CFG.QUEUE) else none

/-- Whether an offset is the fault queue's HAT_Q_CFG or a register of its spill context (R428). -/
def Mod.faultReg (m : Mod) (off : Nat) : Bool :=
  match m.keptQueue with
  | none => false
  | some q =>
    let k := m.rd (Reg.HAT_Q_CFG q) Fields.HAT_Q_CFG.SPILL_CTX
    off == Reg.HAT_Q_CFG q || (decide (Reg.HAT_SPILL_BASE_LO k ≤ off) && decide (off < Reg.HAT_SPILL_BASE_LO k + 16))

/-- The bits of a word of the register file that a warm reset keeps (Table 3.4, R428): RWS fields, calibration tables,
the time domains and the time base, the PCIe state, supply readings, the profile in use, the plate, the fault latches. -/
def Mod.keepMask (m : Mod) (handover : Bool) (off : Nat) : Word :=
  let sticky : Word := match regAt off with
    | some (d, _) => d.sticky
    | none => 0#32
  if (handover && pinReg off) || m.faultReg off then 0xFFFFFFFF#32
  else if 0x4300000 ≤ off then 0xFFFFFFFF#32
  else if 0x110000 ≤ off ∧ off < 0x112000 then 0xFFFFFFFF#32
  else if off = Reg.HOST_STATUS ∨ off = Reg.PWR_VIN_MEAS ∨ off = Reg.PWR_HV_MON then 0xFFFFFFFF#32
  else if off = Reg.PWR_STATUS then 0xFFF1FFFF#32
  else if 0x440 ≤ off ∧ off < 0x490 then 0xFFFFFFFF#32
  else if off = Reg.GLB_START_STATE then 0xF0#32
  else if off = Reg.GLB_PROF_STATUS then 0xFF00#32
  else if off = Reg.GLB_DIE_STATUS then (if handover then 0xFF#32 else 0x10#32)
  else if (0x901000 ≤ off ∧ off < 0x901020) ∨ (0x902000 ≤ off ∧ off < 0x903000) then 0xFFFFFFFF#32
  else if off = Reg.PLT_STATUS ∨ (0xE00010 ≤ off ∧ off < 0xF00000) then 0xFFFFFFFF#32
  else if off = Reg.ERR_MCHK ∨ off = Reg.ERR_FATAL ∨ off = Reg.ERR_XING ∨ off = Reg.ERR_SEQ then 0xFFFFFFFF#32
  else sticky

/-- The register file after a warm reset. -/
def Mod.keptRegs (m : Mod) (handover : Bool) : List (Nat × Word) :=
  m.regs.filterMap (fun e =>
    let k := m.keepMask handover e.1
    let v := (e.2 &&& k) ||| (resetOf e.1 &&& ~~~k)
    if v = resetOf e.1 then none else some (e.1, v))

/-- Work on the pin dies and H0 that HANDOVER lets run belongs to the partner from then on (R389). -/
def Job.handed (j : Job) : Job := { j with inst := none }

/-- Whether a trip still holds after cooling (R46): some sensor of the die reads less than 15 °C below its trip point. -/
def Mod.tripHolds (m : Mod) (d : Nat) : Bool :=
  SMap.get badDefault m.sys.tripped d &&
    (List.range 17).any (fun s => sensorDie s == d && m.sensorValid s && decide (sensorTrip s - 120 < m.sensorTemp s))

/-- Dies that come back with a warm reset: not those whose trip holds (R46). H0 then waits for its three inputs: it starts
with H0_SOFT_START (R38, R39). -/
def Mod.diesBack (m : Mod) : List Nat :=
  [1, 2, 3, 8, 9, 10, 11, 12, 13, 14, 15].filter (fun d => m.isLost d && !m.tripHolds d)

/-- Units of the start order on a die. -/
def dieUnits (d : Nat) : List Nat := allBelow 30 (fun u => startDie u == d)

/-- The dies that come back start again in the order of Table 2.10. -/
def Mod.reviveDies (m : Mod) : Mod :=
  let back := m.diesBack
  let trips := (0 :: back).filter (fun d => !m.tripHolds d)
  let m1 := m.each back (fun d s =>
    let s1 := s.setLost d false
    let s2 := s1.each (dieUnits d) (fun u t =>
      ({ t with sys := { t.sys with leftOff := SMap.set badDefault t.sys.leftOff u false } } : Mod).setStarted u false)
    if d = 1 ∨ d = 2 then s2.setLost (16 + d) false else s2)
  let m2 := m1.each trips (fun d s => { s with sys := { s.sys with tripped := SMap.set badDefault s.sys.tripped d false } })
  m2.wr Reg.PWR_STATUS Fields.PWR_STATUS.TRIP_ACTIVE (b2n !m2.sys.tripped.isEmpty)

/-- Step 4 of R67: the dies are reset. With HANDOVER only the core die and GDDR7 are (R70). `last` is the code of
GLB_RST_CAUSE. A profile write is abandoned (R71). -/
def Mod.diesReset (last : Nat) (handover : Bool) (m : Mod) : Mod :=
  let wc := satAdd 8 (m.rd Reg.GLB_RST_CAUSE Fields.GLB_RST_CAUSE.WARM_COUNT) 1
  let calRun := m.cal.run.isSome
  let fq := m.keptQueue
  let trip := m.tripHolds 0
  let keep {α : Type} (l : List α) : List α := if handover then l else []
  let m1 : Mod := { m with
    regs := m.keptRegs handover
    latch := (keep m.latch).filter (fun e => pinReg (e.1 % 0x4000000))
    stage := (keep m.stage).filter (fun e => pinReg (e.1 % 0x4000000))
    flt := { m.flt with halted := false, txStopped := trip, resetDue := true }
    sys := { m.sys with
      profWrite := none
      reload := false
      flashLoaded := false
      gddrTrained := false
      recordsApplied := false
      h0Records := []
      govLevel := 0
      govRose := false
      pwrgood := false
      orderly := .none
      rejoin := handover }
    queues := match fq with
      | some q => SMap.set (fun _ => Queue.fresh) [] q { Queue.fresh with
          priv := (m.queue q).priv
          spillRd := (m.queue q).spillRd }
      | none => []
    cqs := []
    hat := { Hat.fresh with stopped := trip || m.sys.vinLatched }
    scores := []
    mcores := []
    harts := []
    tlb := []
    seqs := keep m.seqsHeld.seqs
    dports := keep m.dports
    pins := keep m.pins
    rings := []
    sendBuf := []
    lqs := keep m.lqs
    lreqs := (keep m.lreqs).map (fun e => (e.1, e.2.map (fun r => { r with job := r.job.handed })))
    lvs := keep m.lvs
    hvs := keep m.hvs
    meass := (keep m.meass).map (fun e => (e.1, e.2.map (fun r => { r with job := r.job.handed })))
    waves := (keep m.waves).map (fun e => (e.1, { e.2 with
      job := e.2.job.map Job.handed
      take := e.2.take.map (fun t => (t.1.handed, t.2)) }))
    ass := keep m.ass
    acqs := (keep m.acqs).map (fun e => (e.1, e.2.map (fun r => { r with job := r.job.handed })))
    trg := { m.trg with
      level := 0
      pulses := []
      setAt := [] }
    tim := { m.tim with
      switchTo := none
      ports := []
      tdcs := (keep m.tim.tdcs).map (fun e => (e.1, e.2.map (fun r => { r with job := r.job.handed }))) }
    cal := { m.cal with
      run := none
      left := [] }
    drc := { Drc.fresh with served := m.drc.served }
    dma := { Dma.fresh with quiet := m.dma.quiet }
    pair := { Pair.fresh with frames := m.pair.frames } }
  let m2 := ((m1.wr Reg.GLB_RST_CAUSE Fields.GLB_RST_CAUSE.LAST last).wr Reg.GLB_RST_CAUSE
    Fields.GLB_RST_CAUSE.WARM_COUNT wc).setStart 1
  m2.reviveDies.when calRun (Mod.calEnd 4)

/-- A warm reset (R67): before READY and in PROFILE_FAIL it restarts at the same place (R71, R73). -/
def Mod.warmReset (last : Nat) (m : Mod) : Mod := (m.endWork).diesReset last false

/-- A warm reset of the core die and GDDR7 alone (R70): the partner finishes the work, and no completion is written. -/
def Mod.handover (last : Nat) (m : Mod) : Mod :=
  ({ m with plt := { m.plt with gap := m.plt.gap || m.plt.counting } } : Mod).diesReset last true

/-- A cold reset from a source of Table 3.9: everything returns to reset but the flash, the outside's levels, the plate
in its dock and the latch of a VIN trip. -/
def Mod.coldReset (last : Nat) (m : Mod) : Mod :=
  let m1 : Mod := { Mod.reset with
    cmds := m.cmds
    outs := m.outs
    sys := { Sys.fresh with
      slots := m.sys.slots
      firmware := m.sys.firmware
      runtime := m.sys.runtime
      dirA := m.sys.dirA
      dirB := m.sys.dirB
      vinLatched := m.sys.vinLatched }
    plt := { Plt.fresh with low := m.plt.low }
    trg := { Trg.fresh with ext := m.trg.ext }
    cal := { Cal.fresh with refs := m.cal.refs } }
  m1.wr Reg.GLB_RST_CAUSE Fields.GLB_RST_CAUSE.LAST last

/-! ### Orderly power-down and COLD (R54, R69) -/

/-- The rails of a unit of the start order fall. -/
def Mod.unitFalls (u : Nat) (m : Mod) : Mod :=
  let m1 := m.setStarted u false
  let off (d : Nat) (s : Mod) : Mod := s.wr Reg.PWR_STATUS (railsOk d) 0
  if u = 0 then (off 0 m1).coreLost
  else if u < 9 then (off (7 + u) m1).wr Reg.GLB_DIE_STATUS ⟨7 + u, 1⟩ 0
  else if u = 9 ∨ u = 10 then m1.wr Reg.GLB_DIE_STATUS ⟨u - 9, 1⟩ 0
  else if u = 11 ∨ u = 12 then (off (u - 10) m1).driversOff (u - 11)
  else if u = 29 then (off 3 m1).wr Reg.GLB_DIE_STATUS Fields.GLB_DIE_STATUS.H0_UP 0
  else m1

/-- Table 2.10 reversed: the units fall from the last to the first, and OFF_READY is set. -/
def Mod.railsFall (m : Mod) : Mod :=
  let m1 := m.each (List.range 50).reverse Mod.unitFalls
  let m2 : Mod := { m1 with sys := { m1.sys with orderly := .none } }
  m2.wr Reg.PWR_STATUS Fields.PWR_STATUS.OFF_READY 1

/-- A port has not yet stopped; the halt of the fatal path stopped every one (R419). -/
def Mod.portsBusy (m : Mod) : Bool := !m.flt.halted && (List.range 32).any (fun n => (m.seq n).job.isSome)

/-- A write-back of the plate runs or waits (R413). -/
def Mod.plateBusy (m : Mod) : Bool :=
  m.flag Reg.PLT_STATUS Fields.PLT_STATUS.WB_BUSY || m.flag Reg.PLT_STATUS Fields.PLT_STATUS.WB_PENDING

/-- The plate has been written back: what completed is written, and the rails fall, or the module restarts from t0. -/
def Mod.offWritten (cold : Bool) (m : Mod) : Mod :=
  if m.plateBusy then m
  else if cold then m.writeAll.coldReset 4
  else m.writeAll.railsFall

/-- The orderly steps go on (R54): once every port has stopped, the outputs disconnect, the relays open and the plate is
written back; then the rails fall. -/
def Mod.offReady (m : Mod) : Mod :=
  match m.sys.orderly with
  | .none => m
  | .stopping cold =>
    if m.portsBusy then m
    else (({ m with sys := { m.sys with orderly := .writing cold } } : Mod).outputsOff.wbTrigger true).offWritten cold
  | .writing cold => m.offWritten cold

/-- The orderly steps begin: every port stops at its next vector boundary with a code, and no work is dispatched. -/
def Mod.orderlyBegin (cold : Bool) (m : Mod) : Mod :=
  let m1 := (m.stopPorts (if cold then stRESET else stPOWER_DOWN)).stopDispatch.dmaQuiesce [0, 1]
  ({ m1 with sys := { m1.sys with orderly := .stopping cold } } : Mod).offReady

/-- ORDERLY_POWER_DOWN (R54, R370). -/
def Mod.orderlyDown (m : Mod) : Mod := m.orderlyBegin false

/-- A COLD request (R69): the orderly steps with RESET, then the cold reset. -/
def Mod.coldRequest (m : Mod) : Mod := m.orderlyBegin true

/-- MRST_ASSERT (R65): low for `ns`; a pulse between 100 ns and 1 µs may or may not reset. -/
def Mod.mrst (ns : Nat) (m : Mod) : Mod :=
  if ns < 100 ∨ (ns < 1000 ∧ (m.free 3100).getLsbD 0 = false) then m else m.coldReset 2

/-! ### The fatal path (R419) -/

/-- Every port's pins go to their safe state at once. -/
def Mod.allPinsSafe (m : Mod) : Mod :=
  let ports := allBelow 32 (fun n => [0, 1].any (fun d => !(m.dport n d).chans.isEmpty && !(m.dport n d).done))
  m.each ports (fun n s =>
    let s1 := s.each ([0, 1].flatMap (fun d => (m.dport n d).chans.map Prod.snd)) (fun ch t =>
      t.pinSafe ch (max (m.dport n 0).et (m.dport n 1).et) 0 (m.seq n).lastTset)
    (s1.setDport n 0 DiePort.fresh).setDport n 1 DiePort.fresh)

/-- A FATAL event with a source and a cause of Table 18.5: ERR_FATAL is latched, transmission stops, and FATAL_ACTION
decides: a warm reset, or the halt of the core die with every port's pins safe. In a working pair the partner takes
over. -/
def Mod.fatal (source cause : Nat) (m : Mod) : Mod :=
  let r := Reg.ERR_FATAL
  let m1 := if m.flag r Fields.ERR_FATAL.VALID then m else
    ((m.wr r Fields.ERR_FATAL.SOURCE source).wr r Fields.ERR_FATAL.CAUSE cause).wr r Fields.ERR_FATAL.VALID 1
  let m2 := (m1.bump Reg.ERR_COUNT Fields.ERR_COUNT.FATAL).post 4 source 0 cause noSite r 0
  let m3 : Mod := { m2 with flt := { m2.flt with txStopped := true } }
  if m.flag Reg.ERR_CFG Fields.ERR_CFG.FATAL_ACTION then
    let m4 := if m.pairActive then m3 else m3.allPinsSafe
    { m4 with flt := { m4.flt with halted := true } }
  else if m.pairActive then m3.handover 8
  else m3.warmReset 8

/-- LOGIC_CHECK (R417): the duplicated control logic of the queue fabric, Hatch or the DRC disagrees. -/
def Mod.logicCheck (unit : Nat) (m : Mod) : Mod :=
  m.fatal (match unit with
    | 0 => srcHOST
    | 1 => srcHAT
    | _ => srcDRC) 6

/-! ### Crossings and SRAM errors (R26, R30) -/

/-- The status that ends the current work of a unit which stops on a machine check and for which the spec names no code: a
free value other than OK (assumption 80). -/
def Mod.mchkStatus (m : Mod) : Nat := 1 + (m.free 3040).toNat % 255

/-- The work of a unit of H0, a pin die or the core die at its machine check (R416, Table 18.8): it ends at once. -/
def Mod.mchkEnds (source index code : Nat) (m : Mod) : Mod :=
  if source = srcLQ then
    if index < 21 then m.lqLost code index
    else if 32 ≤ index ∧ index < 40 then m.measLost code (index - 32) else m
  else if source = srcHV then m.measLost code (8 + index)
  else if source = srcWAVE then m.aqEnd (index - 8) code
  else if source = srcTIME then m.tdcDrop index code
  else if source = srcDMA then m.dmaEnd index code
  else if source = srcMCS then
    if 16 ≤ index then m.setMcoreRunning (index - 16) false else m.stepOver index code 0 false
  else m

/-- A machine check of a unit of Table 18.8: its work ends as the unit's own machine check ends it. An error of the DDS
lists in a pair stops nothing (Table 18.2). -/
def Mod.unitMchk (source index cause : Nat) (m : Mod) : Mod :=
  if source = srcSEQ then m.seqMchk index cause
  else if source = srcPRF then
    (m.machineCheck srcPRF index cause noSite Reg.ERR_MCHK).stopSeq index stPROOF_ERR
  else if source = srcWAVE ∧ index < 8 then
    let m1 := m.machineCheck source index cause noSite Reg.ERR_MCHK
    m1.when ((cause == 5 || !m.pairActive) && (m.wave index).job.isSome) (Mod.waveDrop index stWAVE_LIST)
  else (m.machineCheck source index cause noSite Reg.ERR_MCHK).mchkEnds source index m.mchkStatus

/-- XING_OVF (R26): crossing `k` overruns, into FCLK or DCLK (`unit` none), or into the domain of a unit. -/
def Mod.xingOvf (k : Nat) (unit : Option (Nat × Nat)) (m : Mod) : Mod :=
  let m1 := m.mark Reg.GLB_DIE_ERR Fields.GLB_DIE_ERR.XING_OVF
  let m2 := if m1.flag Reg.ERR_XING Fields.ERR_XING.VALID then m1 else
    (m1.wr Reg.ERR_XING Fields.ERR_XING.CROSSING k).wr Reg.ERR_XING Fields.ERR_XING.VALID 1
  match unit with
  | none => m2.fatal srcGLB 5
  | some (s, i) => m2.unitMchk s i 5

/-- The sequencer that holds a block of the prefetch pool. -/
def Mod.poolOwner (m : Mod) (b : Nat) : Option Nat :=
  firstBelow (fun n => ((m.seq n).iblk ++ (m.seq n).pblk).any (fun k => k.pool == b)) 32

/-- SRAM_UE (R30, Table 18.2): the owning unit of the word at BAR2 offset `a` meets an uncorrectable error there. A
word of the control store is found in error by the sequencer that executes it (R149). -/
def Mod.sramUe (a : Nat) (m0 : Mod) : Mod :=
  let m : Mod := { m0 with sramBad := SMap.set badDefault m0.sramBad (sramKey a) true }
  match sramRegion a with
  | 0 | 1 => match m.poolOwner (a / 0x10000) with
    | some n => m.unitMchk srcSEQ n 1
    | none => m
  | 2 => m.ringError ((a - 0x800000) / 0x10000)
  | 3 => m.fatal srcHAT 1
  | 4 => m.unitMchk srcWAVE ((a - 0xC00000) / 0x20000) 1
  | 5 => m.dmaHalt ((a - 0xD00000) / 0x8000) a true 9 stMEM_UE
  | 6 => m.coreEcc (if a < 0xF00000 then (a - 0xE00000) / 0x10000 else 16 + (a - 0xF00000) / 0x20000)
  | _ => m

/-- SRAM_CE (R30): counted, with the region of the last. -/
def Mod.sramCe (a : Nat) (m : Mod) : Mod :=
  (m.bump Reg.ERR_SRAM_CE Fields.ERR_SRAM_CE.COUNT).wr Reg.ERR_SRAM_CE Fields.ERR_SRAM_CE.REGION (sramRegion a)

/-- HOST_BAR2_READ (R30, R61): the bytes, or poisoned data where the range meets an uncorrectable error. Of the region that
holds queue and scheduler state (R28) no layout is given; nothing of that state is stored there, and it reads 0 (DESIGN
CHOICE: assumption 111). -/
def Mod.bar2Read (off len : Nat) (m : Mod) : Mod :=
  if m.isLost 0 then m
  else if !m.open then m.emit (.barAbort 2 off)
  else if sramBadIn m.sramBad off len then m.emit (.barRead 2 off (List.replicate len 0xFF#8) true)
  else m.emit (.barRead 2 off (memRead m.sram off len) false)

/-- The owner of an SRAM region, for a record (Table 1.4). -/
def regionSource (r : Nat) : Nat :=
  match r with
  | 0 | 1 => srcSEQ
  | 2 => srcPRF
  | 3 => srcHAT
  | 4 => srcWAVE
  | 5 => srcDMA
  | _ => srcMCS

/-- The bytes of a write that are enabled, in runs from address `a` (R82). -/
def enabledRuns : List (Option Byte) → Nat → List (Nat × List Byte)
  | [], _ => []
  | none :: t, a => enabledRuns t (a + 1)
  | some b :: t, a =>
    match enabledRuns t (a + 1) with
    | (x, bs) :: r => if x = a + 1 then (a, b :: bs) :: r else (a, [b]) :: (x, bs) :: r
    | [] => [(a, [b])]

/-- HOST_BAR2_WRITE (R29, R82, R434): applied, or discarded whole by the region's rule; a write of part of a word that
holds an uncorrectable error is discarded with a record. -/
def Mod.bar2Write (off : Nat) (data : List (Option Byte)) (m : Mod) : Mod :=
  let rs := enabledRuns data off
  if m.isLost 0 || m.flt.halted then m
  else if !m.open then m.emit (.barAbort 2 off)
  else if !rs.all (fun r => (List.range r.2.length).all (fun i => m.sramWritable (r.1 + i))) then m.bar2Discard 0 off
  else if rs.any (fun r => sramPartBad m.sramBad r.1 r.2.length) then
    m.post 1 (regionSource (sramRegion off)) 0 0 noSite 0 off
  else rs.foldl (fun s r => ((s.sramPut r.1 r.2).storeWritten r.1 r.2.length).forwardList r.1 r.2) m

/-! ### Forwarded clocks (R24) -/

/-- The holdover bit of a die: 0 P0, 1 P1, 2 H0. -/
def holdoverFld (d : Nat) : Fld := ⟨5 + d, 1⟩

/-- FORWARDED_CLOCK_LOSS: the die runs on its holdover clock. -/
def Mod.clockLoss (d : Nat) (m : Mod) : Mod :=
  (m.wr Reg.GLB_DIE_STATUS (holdoverFld d) 1).mark Reg.GLB_DIE_ERR Fields.GLB_DIE_ERR.HOLDOVER_SEEN

/-- FORWARDED_CLOCK_RELOCK: the die leaves holdover; the phases of a pin die are locked. -/
def Mod.clockRelock (d : Nat) (m : Mod) : Mod :=
  let m1 := m.wr Reg.GLB_DIE_STATUS (holdoverFld d) 0
  m1.when (decide (d < 2)) (Mod.wr (Reg.CH_TFLAG d) Fields.CH_TFLAG.PHASE_LOCK 1)

/-- HOLDOVER_EXHAUSTED: a pin die in holdover loses its TCLK beyond it. -/
def Mod.holdoverOut (d us : Nat) (m : Mod) : Mod :=
  if !m.flag Reg.GLB_DIE_STATUS (holdoverFld d) || decide (us < 2000) then m
  else m.when (decide (d < 2)) (Mod.wr (Reg.CH_TFLAG d) Fields.CH_TFLAG.PHASE_LOCK 0)

/-! ### Profile writes (R75) -/

/-- The slot a profile write programs: of the profile in use the other one, of another profile the one R72 would not
take. -/
def Mod.spareSlot (m : Mod) (p : Nat) : Nat :=
  match m.pickSlot p with
  | some s => if p = m.rd Reg.GLB_START_STATE Fields.GLB_START_STATE.PROFILE then
      1 - m.rd Reg.GLB_START_STATE Fields.GLB_START_STATE.SLOT else 1 - s
  | none => 0

/-- The last profile command failed with a code of Table 3.11. -/
def Mod.profErr (code : Nat) (m : Mod) : Mod :=
  (m.mark Reg.GLB_PROF_STATUS Fields.GLB_PROF_STATUS.ERR).wr Reg.GLB_PROF_STATUS Fields.GLB_PROF_STATUS.ERR_CODE code

/-- The bytes of a slot of the flash are replaced. -/
def Mod.putSlot (k : Nat) (x : Slot) (m : Mod) : Mod :=
  ({ m with sys := { m.sys with slots := SMap.set (fun _ => Slot.blank) m.sys.slots k x } } : Mod).showSlots

/-- A profile write begins: the slot not in use is erased (R71, R75). A second one while BUSY is refused with code 4. -/
def Mod.profileWrite (p : Nat) (m : Mod) : Mod :=
  if m.sys.profWrite.isSome then m.profErr 4
  else (({ m with sys := { m.sys with profWrite := some p } } : Mod).wr Reg.GLB_PROF_STATUS
    Fields.GLB_PROF_STATUS.BUSY 1).putSlot (2 * p + m.spareSlot p) Slot.blank

/-- The directory that was not the last rewritten takes the next generation (R75). -/
def Mod.rewriteDir (m : Mod) : Mod :=
  let s := m.sys
  if pickOf s.dirA.ok s.dirB.ok s.dirA.gen s.dirB.gen == some 0 then
    { m with sys := { s with dirB := ⟨s.dirA.gen + 1, true⟩ } }
  else { m with sys := { s with dirA := ⟨s.dirB.gen + 1, true⟩ } }

/-- Bytes of GDDR7 as the cells of a slot. -/
def cellsOf (bs : List Byte) : List Host.Cell := memWrite [] 0 bs

/-- PROFILE_WRITE_DONE: the image at GLB_FLASH_SRC is checked, programmed with the next GEN and verified (`ok`). -/
def Mod.profileWriteDone (ok : Bool) (m : Mod) : Mod :=
  match m.sys.profWrite with
  | none => m
  | some p =>
    let src := m.rd64 Reg.GLB_FLASH_SRC_LO
    let m1 := ({ m with sys := { m.sys with profWrite := none } } : Mod).wr Reg.GLB_PROF_STATUS
      Fields.GLB_PROF_STATUS.BUSY 0
    let s := m.spareSlot p
    let other := m.slot (2 * p + (1 - s))
    let gen := ofBytes (other.range 4 4) + 1
    let bs := memRead m.gddr src 0x200000
    let crc := crc32 ((bs.take 0x90000).drop 0x10)
    if ofBytes (bs.take 4) ≠ 0x4C595046 then m1.profErr 1
    else if fieldAt bs 8 4 ≠ crc.toNat then m1.profErr 2
    else
      let new : Slot :=
        { bytes := memWrite (cellsOf bs) 4 (leBytes 4 gen), crcOk := ok, factory := false }
      -- the slot being programmed is not valid until it has been verified (R71)
      if ok && !badIn m.gddrBad 64 src 0x200000 then
        ((m1.putSlot (2 * p + s) new).rewriteDir).mark Reg.GLB_PROF_STATUS Fields.GLB_PROF_STATUS.DONE
      else m1.profErr 3

end Sys2Proof.Machine
end

