-- ==== Sys2Proof/Machine/Pair.lean ====
section
/-!
DEFINITION. The Site Link (Chapter 16): lane groups, training and the handshake, lane loss and re-striping,
forwarded writes and mirror regions.
-/

namespace Sys2Proof.Machine

/-! ### Lanes and groups (Table 16.1, Table 16.12) -/

/-- Lanes a group works with (R383, R384, R394). -/
def groupNeeds (g : Nat) : Nat :=
  match g with
  | 0 => 7
  | 1 | 2 | 5 | 6 => 11
  | _ => 1

def Mod.slState (m : Mod) : Nat := m.rd Reg.SL_STATUS Fields.SL_STATUS.STATE
def Mod.setSlState (v : Nat) (m : Mod) : Mod := m.wr Reg.SL_STATUS Fields.SL_STATUS.STATE v

def Mod.laneState (m : Mod) (k : Nat) : Nat := m.rd (Reg.SL_LANE_STATUS k) Fields.SL_LANE_STATUS.STATE
def Mod.setLane (k v : Nat) (m : Mod) : Mod := m.wr (Reg.SL_LANE_STATUS k) Fields.SL_LANE_STATUS.STATE v
def Mod.laneDisabled (m : Mod) (k : Nat) : Bool := m.flag (Reg.SL_LANE_CFG k) Fields.SL_LANE_CFG.DISABLE

def Mod.groupUp (m : Mod) (g : Nat) : Bool := decide (groupNeeds g ≤ m.lanesUp (groupLanes g))

/-- What other registers show of the groups: GROUP_OK of the own pin dies and H0_SEC_UP. -/
def Mod.groupFlags (m : Mod) : Mod :=
  ((m.wr (Reg.SL_PDIE_STATUS 0) Fields.SL_PDIE_STATUS.GROUP_OK (b2n (m.groupUp 5))).wr (Reg.SL_PDIE_STATUS 1)
    Fields.SL_PDIE_STATUS.GROUP_OK (b2n (m.groupUp 6))).wr Reg.GLB_DIE_STATUS Fields.GLB_DIE_STATUS.H0_SEC_UP
    (b2n (m.groupUp 9))

/-- Every lane to one state; a disabled lane is LOST where the others train. -/
def Mod.allLanes (v : Nat) (m : Mod) : Mod :=
  let m1 := m.each (List.range 65) (fun k s => s.setLane k (if v = 1 ∧ s.laneDisabled k = true then 7 else v))
  ({ m1 with pair := { m1.pair with low := [], rejoin := [] } } : Mod).groupFlags

/-- Lanes that do not carry units look for a partner again. -/
def Mod.idleLanes (m : Mod) : Mod :=
  m.each (List.range 65) (fun k s => if s.laneState k = 5 ∨ s.laneDisabled k = true then s else s.setLane k 1)

/-- FOM_FAIL in force: never above FOM_WARN (Table 16.9). -/
def Mod.fomFail (m : Mod) : Nat := min (m.rd Reg.SL_CFG Fields.SL_CFG.FOM_WARN) (m.rd Reg.SL_CFG Fields.SL_CFG.FOM_FAIL)

/-- A measurement of a lane's FOM: WEAK and LANE_WEAK (R375). -/
def Mod.putFom (k fom : Nat) (m : Mod) : Mod :=
  let weak := decide (fom < m.rd Reg.SL_CFG Fields.SL_CFG.FOM_WARN)
  let r := Reg.SL_LANE_STATUS k
  ((m.wr r Fields.SL_LANE_STATUS.FOM fom).wr r Fields.SL_LANE_STATUS.WEAK (b2n weak)).when weak
    (Mod.slEvent false 1 k Fields.SL_EVENT.LANE_WEAK)

/-! ### Protection (R394) -/

/-- Every port of a list loses its protection. -/
def Mod.unprotectAll (l : List Nat) (m : Mod) : Mod := m.each l Mod.unprotect

/-- The pair no longer works, and the module trains again: completions and node ends go on alone, every port is
unprotected (R379, R384, R398). The journal of the partner stays, for a notice of PRIMARY_DOWN may still come. -/
def Mod.pairLost (m : Mod) : Mod :=
  ((m.unprotectAll (List.range 32)).pairLeave 1).wr Reg.SL_STATUS Fields.SL_STATUS.ATTEMPT 1

/-! ### Training (R375 to R377) -/

/-- The pair begins or stops trying to form (PAIR_EN). -/
def Mod.pairEnable (on : Bool) (m : Mod) : Mod :=
  let st := Reg.SL_STATUS
  if on then
    if m.slState = 0 then
      (((m.allLanes 1).setSlState 1).wr st Fields.SL_STATUS.ATTEMPT 1).wr st Fields.SL_STATUS.PAIR_ABSENT 0
    else m
  else
    let m1 := ((m.unprotectAll (List.range 32)).pairDrop.allLanes 0).wr st Fields.SL_STATUS.ATTEMPT 0
    { m1 with pair := { m1.pair with pccOn := false } }

/-- One training attempt begins (RETRY, a reconnected cable, RETRY_S after the last): in TAKEOVER beside the adopted
work (R402). -/
def Mod.beginAttempt (m : Mod) : Mod :=
  if !m.flag Reg.SL_CTRL Fields.SL_CTRL.PAIR_EN then m
  else if m.slState = 7 then m.idleLanes
  else if m.slState = 1 ∨ m.slState = 5 ∨ m.slState = 6 then
    ((m.idleLanes.setSlState 1).wr Reg.SL_STATUS Fields.SL_STATUS.ATTEMPT 1).wr Reg.SL_STATUS Fields.SL_STATUS.MISMATCH 0
  else m

/-- What an attempt makes of one lane: ACTIVE with a FOM of 96 and markers of its own group at a free position; other
markers set MISWIRE. -/
def Mod.trainLane (m : Mod) (r : LaneRes) : Mod :=
  let k := r.lane
  let st := Reg.SL_LANE_STATUS k
  let cfg := m.rd (Reg.SL_LANE_CFG k) Fields.SL_LANE_CFG.PRECODE
  let pre := if cfg = 1 then false else if cfg = 2 then true else r.precode
  let taken := (groupLanes (laneGroup k)).any (fun j => j != k && m.laneState j == 5 &&
    m.rd (Reg.SL_LANE_STATUS j) Fields.SL_LANE_STATUS.POSITION == r.pos)
  if m.laneState k = 5 then m
  else if m.laneDisabled k then m.setLane k 7
  else
    let m1 := (m.wr st Fields.SL_LANE_STATUS.POL_INV (b2n r.inv)).wr st Fields.SL_LANE_STATUS.PRECODE (b2n pre)
    if r.fom < 96 then (m1.putFom k r.fom).setLane k 1
    else if r.group ≠ laneGroup k ∨ (groupLanes (laneGroup k)).length ≤ r.pos ∨ taken = true then
      ((m1.wr st Fields.SL_LANE_STATUS.MISWIRE 1).setLane k 1).slEvent false 1 k Fields.SL_EVENT.MISWIRE
    else (((m1.wr st Fields.SL_LANE_STATUS.MISWIRE 0).wr st Fields.SL_LANE_STATUS.POSITION r.pos).setLane k 5).putFom k r.fom

/-- RETRY_S in µs; 0 acts as 1. -/
def Mod.retryUs (m : Mod) : Nat := 1000000 * max 1 (m.rd Reg.SL_CFG Fields.SL_CFG.RETRY_S)

/-- TRAINING_ATTEMPT (R377), `us` after the last attempt ended: every group trains in parallel; with 7 lanes of the mirror
group the handshake follows. -/
def Mod.trainingAttempt (us : Nat) (lanes : List LaneRes) (m0 : Mod) : Mod :=
  let m := m0.when (m0.slState == 5 && decide (m0.retryUs ≤ us)) Mod.beginAttempt
  if !m.flag Reg.SL_CTRL Fields.SL_CTRL.PAIR_EN || !(m.slState == 1 || m.slState == 7) then m
  else
    let m1 := (lanes.foldl Mod.trainLane m).groupFlags
    m1.when (m1.slState == 1 && m1.groupUp 0) (Mod.setSlState 2)

/-- A start that waits for the pair goes on to READY (R58 step 18), `ms` after t1 or tw. -/
def Mod.pairReady (ms : Nat) (m : Mod) : Mod := m.when (m.startState == 5) (Mod.ready ms)

/-- ATTEMPT_TIMEOUT (R377): an attempt fails after 50 ms; after three, or where the module already runs unpaired,
PAIR_ABSENT stands. -/
def Mod.attemptTimeout (us ms : Nat) (m : Mod) : Mod :=
  let st := Reg.SL_STATUS
  let n := m.rd st Fields.SL_STATUS.ATTEMPT
  if us < 50000 ∨ ¬(m.slState = 1 ∨ m.slState = 2) then m
  else if m.flag st Fields.SL_STATUS.PAIR_ABSENT then m.setSlState 5
  else if n < 3 then (m.setSlState 1).wr st Fields.SL_STATUS.ATTEMPT (n + 1)
  else (((m.setSlState 5).wr st Fields.SL_STATUS.PAIR_ABSENT 1).slEvent false 1 0 Fields.SL_EVENT.PAIR_ABSENT).pairReady ms

/-! ### The handshake and RESYNC (R378 to R380) -/

/-- The registers whose accepted writes the journal carries (R395): of sequencers and Proof rings those of the module's
own ports. -/
def journalled (off : Nat) : Bool :=
  match regAt off with
  | none => false
  | some (d, ix) =>
    let own := decide (ix.headD 0 < 16)
    match d.name with
    | .SEQ_PORT | .SEQ_MMASK | .SEQ_CFG | .SEQ_PF_CFG | .SEQ_TPER | .SEQ_FLAGS | .SEQ_PRF_CFG | .SEQ_PRF_SPILL_BASE_LO
    | .SEQ_PRF_SPILL_BASE_HI | .SEQ_PRF_LIMIT | .SEQ_PRF_TRC_CFG | .SEQ_PRF_TRC_BASE_LO | .SEQ_PRF_TRC_BASE_HI
    | .SEQ_PRF_TRC_START | .SEQ_PRF_TRC_LEN => own
    | .SEQ_BAR_MASK | .SEQ_GRP_RESV | .DDS_CTRL | .DDS_JUMP | .DDS_MK | .AS_CMD | .WAVE_SKEW | .HAT_GRP_CFG | .HAT_Q_CFG
    | .XLT_CTX_ROOT_LO | .XLT_CTX_ROOT_HI | .HOST_QSEL | .HOST_QCTX_BASE_LO | .HOST_QCTX_BASE_HI | .HOST_QCTX_CFG
    | .HOST_QCMD | .HOST_CQ_BASE_LO | .HOST_CQ_BASE_HI | .HOST_CQ_CFG => true
    | _ => false

/-- The registers of corrections, whose accepted writes go as CAL records (R395). -/
def correction (off : Nat) : Bool :=
  match regAt off with
  | none => false
  | some (d, _) =>
    match d.name with
    | .CH_LCAL | .CH_DSK_DR | .CH_DSK_DF | .CH_DSK_CMP | .CH_UOFS | .CH_LIND | .CH_LINS | .CAL_TDATA | .TB_TRIM
    | .CAL_DOM_COUNT => true
    | _ => false

/-- A CONFIG record (Table 16.6). -/
def Mod.journalConfig (off : Nat) (v : Word) (m : Mod) : Mod :=
  m.journal 9 0 noSite 0 0xFFFF 0xFFFF (leBytes 4 off ++ leBytes 4 v.toNat)

/-- A CAL record. -/
def Mod.journalCal (off : Nat) (v : Word) (m : Mod) : Mod :=
  m.journal 10 0 noSite 0 0xFFFF 0xFFFF (leBytes 4 off ++ leBytes 4 v.toNat)

/-- The baseline of R380: every journalled register that is not at its reset value, every bound queue and every running
instance (kind 43). -/
def Mod.baseline (m : Mod) : Mod :=
  let m1 := (m.regs.filter (fun e => journalled e.1)).foldl (fun s e => s.journalConfig e.1 e.2) m
  let m2 := (m.queues.filter (fun e => e.2.bound)).foldl (fun s e => s.journalQueue e.1) m1
  m2.each (List.range 512) (fun i s => match s.inst i with
    | some x => s.emit (.siteLink 43 [i, x.queue, x.site, x.tag.toNat, x.image, x.paramAddr, x.resultAddr])
    | none => s)

/-- A copy of a mirror region begins (Table 16.13). -/
def Mod.copyRegion (k : Nat) (m : Mod) : Mod := m.wr (Reg.SL_MRGN_CFG k) Fields.SL_MRGN_CFG.COPYING 1

/-- RESYNC: every enabled region and the DDS-list region (kind 22, R388) are copied, and the baseline is sent. -/
def Mod.beginResync (m : Mod) : Mod :=
  let m1 := (m.setSlState 3).emit (.siteLink 22 [])
  (m1.each (allBelow 16 (fun k => m.flag (Reg.SL_MRGN_CFG k) Fields.SL_MRGN_CFG.EN)) Mod.copyRegion).baseline

/-- The first check of R378 that fails: 1 role, 2 MCS_CRC, 3 REFIN, 4 format version; 0 where the pair forms. -/
def Mod.mismatch (m : Mod) (role : Nat) (crc : Word) (refin : Bool) (version : BitVec 16) : Nat :=
  let own := m.profRole
  if ¬((own = 1 ∧ role = 2) ∨ (own = 2 ∧ role = 1)) then 1
  else if crc ≠ m.reg Reg.MCS_CRC then 2
  else if !m.flag Reg.TB_STATUS Fields.TB_STATUS.REF_LOCKED || !refin then 3
  else if version ≠ Config.slProtocol then 4
  else 0

/-- HANDSHAKE (R378, R379): what the partner sends, and for role B the count that agrees with its own; `ms` after t1 or
tw. In TAKEOVER the rejoining partner's baseline is still to come (R402). -/
def Mod.handshake (role : Nat) (crc : Word) (refin : Bool) (version : BitVec 16) (pcc ms : Nat) (m : Mod) : Mod :=
  let st := Reg.SL_STATUS
  let adopting := m.slState == 7
  if !(m.slState == 2 || (adopting && m.groupUp 0 && !m.pair.shook)) then m
  else
    let code := m.mismatch role crc refin version
    if code ≠ 0 then
      let m1 := ((m.wr st Fields.SL_STATUS.MISMATCH code).slEvent false 1 0 Fields.SL_EVENT.MISMATCH).allLanes 0
      (m1.when (!adopting) (Mod.setSlState 6)).pairReady ms
    else
      let p := m.pair
      let fresh : Pair := if adopting then { p with
          jseq := 0
          acked := 0
          shook := true }
        else { Pair.fresh with
          pccOn := true
          held := p.held
          away := p.away
          frames := p.frames
          low := p.low
          rejoin := p.rejoin }
      let m1 := ((({ m with pair := fresh } : Mod).wr st Fields.SL_STATUS.MISMATCH 0).wr st Fields.SL_STATUS.PAIR_ABSENT
        0).wr64 Reg.SL_PCC_LO (if m.profRole = 2 then pcc else 0)
      (m1.when (!adopting) Mod.beginResync).pairReady ms

/-! ### Lane loss, re-striping and retraining (R382 to R385) -/

/-- Protection that ends when a group has too few lanes: every port for the mirror group, the ports of one die for a
takeover group (R384). -/
def Mod.groupPorts (m : Mod) (g : Nat) : List Nat :=
  match g with
  | 0 => List.range 32
  | 1 | 2 => (allBelow 16 (fun n => (m.portDies (16 + n)).contains (g - 1))).map (16 + ·)
  | 5 | 6 => allBelow 16 (fun n => (m.portDies n).contains (g - 5))
  | _ => []

/-- A lane that carries units is lost: it is reported and its words are replayed (kinds 40, 41); the group's second loss
ends protection, and with the last mirror lane the pair. -/
def Mod.laneLost (k : Nat) (m : Mod) : Mod :=
  let g := laneGroup k
  if m.laneState k ≠ 5 then m
  else
    let before := m.groupUp g
    let r := Reg.SL_LANE_STATUS k
    let m1 := ((((m.setLane k 7).bump r Fields.SL_LANE_STATUS.LOSS_COUNT).slEvent true 1 k Fields.SL_EVENT.LANE_LOST).emits
      [.siteLink 40 [k], .siteLink 41 [k]]).groupFlags
    let m2 := ({ m1 with pair := { m1.pair with low := m1.pair.low.erase k, rejoin := m1.pair.rejoin.erase k } } : Mod)
    let m3 := if before && !m2.groupUp g && g != 9 then
        (m2.post 3 srcSL k Fields.SL_EVENT.PROT_LOST.lo noSite Reg.SL_EVENT 0).unprotectAll (m2.groupPorts g)
      else m2
    m3.when (g == 0 && m3.lanesUp (groupLanes 0) == 0 && m3.journalOn) Mod.pairLost

/-- FOM_MEASURE (R375): two successive readings below FOM_FAIL lose the lane. -/
def Mod.fomMeasure (k fom : Nat) (m : Mod) : Mod :=
  if m.laneState k ≠ 5 then m
  else
    let m1 := m.putFom k fom
    if m.fomFail ≤ fom then { m1 with pair := { m1.pair with low := m1.pair.low.erase k } }
    else if m.pair.low.contains k then m1.laneLost k
    else { m1 with pair := { m1.pair with low := k :: m1.pair.low } }

/-- LANE_DISABLE (R382): at the next block boundary a lane whose DISABLE is set is LOST. -/
def Mod.laneDisable (k : Nat) (m : Mod) : Mod :=
  if !m.laneDisabled k then m
  else if m.laneState k = 5 then m.laneLost k
  else if m.laneState k = 0 then m
  else ({ m with pair := { m.pair with rejoin := m.pair.rejoin.erase k } } : Mod).setLane k 7

/-- A write of DISABLE 0: the lane retrains (R385). -/
def Mod.laneEnable (k : Nat) (m : Mod) : Mod := m.when (m.laneState k == 7) (Mod.setLane k 6)

/-- RESTRIPE (R383, R385): at the next unit boundary the group stripes over its lanes; retrained lanes rejoin, and lost
lanes retrain alone. -/
def Mod.restripe (g : Nat) (m : Mod) : Mod :=
  let m1 := m.each (groupLanes g) (fun k s =>
    if s.pair.rejoin.contains k then
      ({ s with pair := { s.pair with rejoin := s.pair.rejoin.erase k } } : Mod).setLane k 5
    else s.when (s.laneState k == 7 && !s.laneDisabled k) (Mod.setLane k 6))
  (m1.emit (.siteLink 42 [g])).groupFlags

/-- LANE_RETRAIN (R385): a lane retrained for `ms` rejoins at the next re-stripe with a FOM of 96 within 50 ms. -/
def Mod.laneRetrain (k fom ms : Nat) (m : Mod) : Mod :=
  if ¬(m.laneState k = 6 ∨ m.laneState k = 7) ∨ m.laneDisabled k = true ∨ m.pair.rejoin.contains k = true then m
  else if 96 ≤ fom ∧ ms ≤ 50 then
    let m1 := (m.putFom k fom).setLane k 6
    { m1 with pair := { m1.pair with rejoin := k :: m1.pair.rejoin } }
  else (m.putFom k fom).setLane k 7

/-! ### Forwarded writes, regions and the shadow (R386, R388) -/

/-- FORWARDED_WRITE: a write of the partner lands in this module's GDDR7 at the address the partner names, or in the
shadow of its DDS lists at the same offset. It is charged to the peer group of the writer's group; a write of part of a burst
that holds an error is not performed (R358, R434). -/
def Mod.forwardedWrite (group : Nat) (shadow : Bool) (addr : Nat) (bs : List Byte) (m : Mod) : Mod :=
  let r := Reg.SL_DDS_SHADOW
  let a := if shadow then 0x100000 * m.rd r Fields.SL_DDS_SHADOW.BASE + addr else addr
  if !m.journalOn || (shadow && !m.flag r Fields.SL_DDS_SHADOW.EN) then m
  else if m.placeOff (.gddr a) bs.length then m
  else if partBad m.gddrBad 64 a bs.length then m.drcUe (m.channelOf a) (64 + group) a true
  else (m.chargeGddr (payer (64 + group)) a bs.length).gddrPut a bs

/-- REGION_COPY_DONE. -/
def Mod.regionCopied (k : Nat) (m : Mod) : Mod := m.wr (Reg.SL_MRGN_CFG k) Fields.SL_MRGN_CFG.COPYING 0

/-! ### What else ends a pair or a run -/

/-- REFIN_LOSS (R299, R379): a module that enters holdover ends the pair, and its partner sees every lane lost. -/
def Mod.refinLossAll (window : Bool) (m : Mod) : Mod :=
  let m1 := m.refinLoss window
  if m1.flag Reg.TB_STATUS Fields.TB_STATUS.HOLDOVER && (m1.journalOn) then
    let m2 := (m1.pairLost).allLanes 1
    { m2 with pair := { m2.pair with pccOn := false } }
  else m1

/-- REFIN_REQUALIFY (R298, R62). -/
def Mod.refinRequalify (det : Nat) (ppb : Int) (m : Mod) : Mod := m.refinQualified det ppb

/-- LINK_DOWN of a time port (R312). -/
def Mod.timeLinkDown (p : Nat) (m : Mod) : Mod :=
  let r := Reg.TP_STATUS p
  (m.wr r Fields.TP_STATUS.BLOCK_LOCK 0).mark r Fields.TP_STATUS.LINK_DOWN

/-- PLATE_REMOVED (R404): a calibration domain that needs the plate ends (R335). -/
def Mod.plateOut (ms : Nat) (m : Mod) : Mod :=
  let m1 := m.plateRemoved ms
  match m1.cal.run with
  | some k =>
    let (_, _, p, _) := calNeeds k
    if p && m.calPlate && !m1.calPlate then m1.calEnd 2 else m1
  | none => m1

/-- CAL_DOMAIN_COMPLETE (R334): a domain that completes sends a CAL record with its COUNT (R395). -/
def Mod.calDone (vals : List (Nat × List CalVal)) (temp : Word) (r : RefCheck) (m : Mod) : Mod :=
  let m1 := m.calComplete vals temp r
  match m.cal.run with
  | some k => m1.journalCal (Reg.CAL_DOM_COUNT k) (m1.reg (Reg.CAL_DOM_COUNT k))
  | none => m1

end Sys2Proof.Machine
end

