-- ==== Sys2Proof/Machine/CalCmds.lean ====
section
/-!
DEFINITION. The events of calibration (Chapter 13) and of the plate (Chapters 13, 17).
-/

namespace Sys2Proof.Machine

/-- CAL_DOMAIN_COMPLETE (R334): A domain's measurements finish and its corrections are written in one cycle. -/
def execCalDomainComplete (vals : List (Nat × List CalVal)) (temp : Word) (refs : RefCheck) (s : State) : Host.Outcome State Fault Refusal :=
  run true (Mod.calDone vals temp refs) s

/-- CAL_REF_LOST (R335): A reference or the calibration plate stops being present and the run ends. -/
def execCalRefLost (refs : RefCheck) (s : State) : Host.Outcome State Fault Refusal :=
  run true (Mod.calRefLost refs) s

/-- DRIFT_ASSESSMENT (R340): Each second the firmware assesses each calibrated domain and sets or clears DRIFT. -/
def execDriftAssessment (s : State) : Host.Outcome State Fault Refusal :=
  run true (Mod.driftAssess) s

/-- ASSESS_OK_EXPIRY (R341): No drift assessment completes within 2 s and ASSESS_OK falls to 0. -/
def execAssessOkExpiry (s : State) : Host.Outcome State Fault Refusal :=
  run true (Mod.assessExpiry) s

/-- PLATE_DETECT (R404): DOCK# low for 50 ms detects a plate. -/
def execPlateDetect (ms : Nat) (s : State) : Host.Outcome State Fault Refusal :=
  runAlways true (Mod.plateDetect ms) s

/-- IDENTITY_READ (R405): The identity block and counter copies are read and STATE set. -/
def execIdentityRead (data : Option (List Byte × List Byte × List Byte)) (s : State) : Host.Outcome State Fault Refusal :=
  runAlways true (Mod.identityRead data) s

/-- PLATE_REMOVED (R415): DOCK# high for 1 ms detects removal and counting stops. -/
def execPlateRemoved (ms : Nat) (s : State) : Host.Outcome State Fault Refusal :=
  runAlways true (Mod.plateOut ms) s

/-- WB_DONE (R409): A write-back completes and any pending one starts. -/
def execWbDone (ok : Bool) (s : State) : Host.Outcome State Fault Refusal :=
  runAlways true (fun m => (m.wbDone ok).offReady) s

/-- DOCK_EDGE (R404): DOCK# changes level, starting or restarting its debounce interval and entering STATE DEBOUNCE on a fall. -/
def execDockEdge (low : Bool) (s : State) : Host.Outcome State Fault Refusal :=
  runAlways true (Mod.dockEdge low) s

end Sys2Proof.Machine
end

