-- ==== Sys2Proof/Machine/CoreCmds.lean ====
section
/-!
DEFINITION. The events of site cores, management cores and the control store that are no register writes (Chapter 6).
-/

namespace Sys2Proof.Machine

/-- CORE_BOOT (R138): A core in its boot ROM sees GO set and jumps to local address 0x1000. -/
def execCoreBoot (c : Nat) (s : State) : Host.Outcome State Fault Refusal :=
  run (Wf.coreBoot c) (Mod.coreBoot c) s

/-- EXIT (R141): Step service EXIT ends the step with its value and flags. -/
def execExit (c : Nat) (value : DWord) (flags : Nat) (s : State) : Host.Outcome State Fault Refusal :=
  run (Wf.exit c flags) (Mod.stepExit c value flags) s

/-- BOUNDARY (R141): Step service BOUNDARY returns and the runtime acts on ABORT, PREEMPT or DRAIN. -/
def execBoundary (c : Nat) (s : State) : Host.Outcome State Fault Refusal :=
  run (Wf.boundary c) (Mod.serviceReturn c none) s

/-- INPUT (R141): Step service INPUT returns an input token value. -/
def execInputCall (c : Nat) (i : Nat) (s : State) : Host.Outcome State Fault Refusal :=
  run (Wf.inputCall c) (Mod.stepInput c i) s

/-- TTIME (R141): Step service TTIME returns the test-time count. -/
def execTtimeCall (c : Nat) (s : State) : Host.Outcome State Fault Refusal :=
  run (Wf.ttimeCall c) (fun m => m.serviceReturn c (some (BitVec.ofNat 64 m.ttime))) s

/-- DATALOG (R141): Step service DATALOG appends a 64-byte record to a privileged queue of the group. -/
def execDatalog (c : Nat) (q : Nat) (a : Nat) (host : List Host.Cell) (s : State) : Host.Outcome State Fault Refusal :=
  run (Wf.datalog c q) (Mod.datalog c q a host) s

/-- STEP_EXCEPTION (R143): A user-mode exception ends the step with STEP_FAULT or STEP_XLT_FAULT. -/
def execStepException (c : Nat) (xlt : Bool) (s : State) : Host.Outcome State Fault Refusal :=
  run (Wf.stepException c) (Mod.stepException c xlt) s

/-- STEP_KILLED (R144): No DONE within KILL_WAIT after ABORT; the core alone is reset. -/
def execStepKilled (c : Nat) (us : Nat) (s : State) : Host.Outcome State Fault Refusal :=
  run (Wf.stepKilled c) (Mod.stepKilled c us) s

/-- STEP_ECC (R144): An uncorrectable local-memory error resets the core and ends its steps with STEP_ECC. -/
def execStepEcc (c : Nat) (s : State) : Host.Outcome State Fault Refusal :=
  run (Wf.stepEcc c) (Mod.coreEcc c) s

/-- WATCHDOG_EXPIRY (R147): A management core writes no KICK for WDOG_MS and is reset, or held on a second expiry. -/
def execWatchdogExpiry (k : Nat) (s : State) : Host.Outcome State Fault Refusal :=
  run (Wf.watchdogExpiry k) (Mod.watchdogExpiry k) s

/-- MGMT_LOAD_UPDATE (R146): Every 10 ms each management core's load percentage is updated. -/
def execMgmtLoadUpdate (loads : List Nat) (s : State) : Host.Outcome State Fault Refusal :=
  run (Wf.mgmtLoadUpdate loads) (Mod.loadUpdate loads) s

/-- SHED_RISE (R146): Load at or above SHED_HI for 100 ms raises SHED. -/
def execShedRise (ms : Nat) (s : State) : Host.Outcome State Fault Refusal :=
  run true (Mod.shed true ms) s

/-- SHED_FALL (R146): Load at or below SHED_LO for 1 s lowers SHED. -/
def execShedFall (ms : Nat) (s : State) : Host.Outcome State Fault Refusal :=
  run true (Mod.shed false ms) s

/-- MICROWORD_EXECUTE (R148): A sequencer executes one control-store word after its parity and span checks. -/
def execMicrowordExecute (n : Nat) (k : Nat) (us : Nat) (s : State) : Host.Outcome State Fault Refusal :=
  run (Wf.microwordExecute n k) (Mod.microExecute n k us) s

/-- SCRUB (R149): The background scrub reads one control-store word and sets SCRUB_ERR on a parity error. -/
def execScrub (w : Nat) (s : State) : Host.Outcome State Fault Refusal :=
  run (Wf.scrub w) (Mod.scrub w) s

/-- CHECK_COMPLETE (R151): CHECK or RELOAD finishes and LOADED or the BAD flags are set. -/
def execCheckComplete (s : State) : Host.Outcome State Fault Refusal :=
  run true (Mod.checkComplete) s

end Sys2Proof.Machine
end

