-- ==== Sys2Proof/Machine/DmaCmds.lean ====
section
/-!
DEFINITION. The events of DMA and translation (Chapter 15).
-/

namespace Sys2Proof.Machine

/-- DMA_DESCRIPTOR_READ (R364): The read engine reaches a descriptor and checks it. -/
def execDmaDescriptorRead (ch : Nat) (host : List Host.Cell) (s : State) : Host.Outcome State Fault Refusal :=
  run (Wf.dmaDescriptorRead ch) (Mod.dmaDescriptor ch host) s

/-- COPY (R365): COPY moves LENGTH bytes from source to destination. -/
def execCopy (ch : Nat) (n : Nat) (host : List Host.Cell) (s : State) : Host.Outcome State Fault Refusal :=
  run (Wf.copy ch n) (Mod.dmaCopy ch n host) s

/-- FILL (R364): FILL writes its 8-byte pattern repeated from DST. -/
def execFill (ch : Nat) (n : Nat) (s : State) : Host.Outcome State Fault Refusal :=
  run (Wf.fill ch n) (Mod.dmaFill ch n) s

/-- DMA_DESCRIPTOR_COMPLETE (R365): A descriptor's last write is acknowledged and it completes. -/
def execDmaDescriptorComplete (ch : Nat) (s : State) : Host.Outcome State Fault Refusal :=
  run (Wf.dmaDescriptorComplete ch) (Mod.dmaComplete ch) s

/-- PREQ_ASSERT (R367): A waiting PREQ descriptor's source asserts and its burst starts. -/
def execPreqAssert (ch : Nat) (s : State) : Host.Outcome State Fault Refusal :=
  run (Wf.preqAssert ch) (Mod.preqAssert ch) s

/-- DMA_TRANSFER_ERROR (R369): A translation, bus or poisoned-data error halts the channel at its offset. -/
def execDmaTransferError (ch : Nat) (kind : Nat) (write : Bool) (s : State) : Host.Outcome State Fault Refusal :=
  run (Wf.dmaTransferError ch kind) (Mod.dmaTransferError ch kind write) s

/-- PD_TIMEOUT (R370): No boundary within PD_TIMEOUT; the channel halts with DOMAIN_OFF. -/
def execPdTimeout (ch : Nat) (us : Nat) (s : State) : Host.Outcome State Fault Refusal :=
  run (Wf.pdTimeout ch) (Mod.dmaPdTimeout ch us) s

/-- TABLE_WALK (R360): XLT walks the tables for a device address and returns a translation or a fault. -/
def execTableWalk (ctx : Nat) (va : Nat) (dir : Nat) (req : Nat) (index : Nat) (s : State) : Host.Outcome State Fault Refusal :=
  run (Wf.tableWalk ctx va dir req) (Mod.tableWalk ctx va dir req index) s

/-- INV_DONE (R362): Walks in progress finish and INV_DONE is set. -/
def execInvDone (s : State) : Host.Outcome State Fault Refusal :=
  run true (Mod.invDone) s

end Sys2Proof.Machine
end

