-- ==== Sys2Proof/Machine/DrcCmds.lean ====
section
/-!
DEFINITION. The events of the GDDR7 controller (Chapter 14).
-/

namespace Sys2Proof.Machine

/-- TRACKING_UPDATE (R345): Every RETRAIN_MS a GDDR7 channel repeats its data-eye tracking. -/
def execTrackingUpdate (c : Nat) (ended : Bool) (ok : Bool) (s : State) : Host.Outcome State Fault Refusal :=
  run (Wf.trackingUpdate c) (Mod.tracking c ended ok) s

/-- PAGE_IDLE_EXPIRY (R348): A bank's idle timer expires and the bank is precharged. -/
def execPageIdleExpiry (c : Nat) (bank : Nat) (dclk : Nat) (s : State) : Host.Outcome State Fault Refusal :=
  run (Wf.pageIdleExpiry c bank) (Mod.pageIdle c bank dclk) s

/-- REFRESH_DUE (R349): A refresh falls due every tREFI and DEBT rises. -/
def execRefreshDue (c : Nat) (s : State) : Host.Outcome State Fault Refusal :=
  run (Wf.refreshDue c) (Mod.refreshDue c) s

/-- OPPORTUNISTIC_REFRESH (R349): An idle channel with debt issues one refresh. -/
def execOpportunisticRefresh (c : Nat) (s : State) : Host.Outcome State Fault Refusal :=
  run (Wf.opportunisticRefresh c) (Mod.opportunistic c) s

/-- CATCHUP (R350): A channel granted a slot holds activates and refreshes until DEBT is 0. -/
def execCatchup (c : Nat) (s : State) : Host.Outcome State Fault Refusal :=
  run (Wf.catchup c) (Mod.catchup c) s

/-- DOUBLED_RATE (R352): A device reading reaches TEMP_2X; DEBT doubles and tREFI halves. -/
def execDoubledRate (d : Nat) (temp : Int) (s : State) : Host.Outcome State Fault Refusal :=
  run (Wf.doubledRate d) (Mod.doubledRate d temp) s

/-- NORMAL_RATE (R352): Readings fall 5 °C below TEMP_2X; DEBT halves and tREFI returns. -/
def execNormalRate (d : Nat) (temp : Int) (s : State) : Host.Outcome State Fault Refusal :=
  run (Wf.normalRate d) (Mod.normalRate d temp) s

/-- SELF_REFRESH_ENTRY (R354): A device idle for SR_IDLE enters self-refresh. -/
def execSelfRefreshEntry (d : Nat) (us : Nat) (s : State) : Host.Outcome State Fault Refusal :=
  run (Wf.selfRefreshEntry d) (Mod.selfRefreshEntry d us) s

/-- SELF_REFRESH_EXIT (R354): A request makes a device leave self-refresh. -/
def execSelfRefreshExit (d : Nat) (s : State) : Host.Outcome State Fault Refusal :=
  run (Wf.selfRefreshExit d) (Mod.selfRefreshExit d) s

/-- MEMORY_REQUEST (R356): A GDDR7 channel serves its next chosen request. -/
def execMemoryRequest (c : Nat) (reqs : List MemReq) (crc : Nat) (ce : Bool) (ue : Bool) (s : State) : Host.Outcome State Fault Refusal :=
  run (Wf.memoryRequest c reqs crc) (Mod.memoryRequest c reqs crc ce ue) s

end Sys2Proof.Machine
end

