-- ==== Sys2Proof/Machine/HatchCmds.lean ====
section
/-!
DEFINITION. The events of Hatch (Chapter 5).
-/

namespace Sys2Proof.Machine

/-- INSTANCE_ACCEPT (R108): A launch waiting for an instance slot is accepted when one frees. -/
def execInstanceAccept (q : Nat) (k : Nat) (host : List Host.Cell) (s : State) : Host.Outcome State Fault Refusal :=
  run (Wf.instanceAccept q) (Mod.instanceAccept q k host) s

/-- NODE_FETCH (R108): A node missing from the node cache is fetched through the group's context. -/
def execNodeFetch (i : Nat) (node : Nat) (host : List Host.Cell) (s : State) : Host.Outcome State Fault Refusal :=
  run (Wf.nodeFetch i) (Mod.nodeFetch i node host) s

/-- NODE_COMPLETE (R117): A unit reports a node's completion and the group's deficit is corrected. -/
def execNodeComplete (us : Nat) (s : State) : Host.Outcome State Fault Refusal :=
  run true (Mod.nodeComplete us) s

/-- TOKEN_RELEASE (R111): SETTLE after completion, the node's output tokens appear on its edges. -/
def execTokenRelease (i : Nat) (node : Nat) (us : Nat) (s : State) : Host.Outcome State Fault Refusal :=
  run (Wf.tokenRelease i) (Mod.tokenRelease i node us) s

/-- ARBITER_DECISION (R116): A class arbiter picks an eligible entry by weighted deficit round robin and dispatches it. -/
def execArbiterDecision (cls : Nat) (host : List Host.Cell) (s : State) : Host.Outcome State Fault Refusal :=
  run (Wf.arbiterDecision cls) (Mod.arbiterDecision cls host) s

/-- NODE_TIMEOUT (R121): A node's TIMEOUT expires and ends the node and its instance early. -/
def execNodeTimeout (i : Nat) (node : Nat) (us : Nat) (s : State) : Host.Outcome State Fault Refusal :=
  run (Wf.nodeTimeout i) (Mod.nodeTimeout i node us) s

/-- TIMEOUT (R95): A descriptor's TIMEOUT expires and acts as an abort, ending the target with TIMEOUT. -/
def execTimeout (i : Nat) (us : Nat) (s : State) : Host.Outcome State Fault Refusal :=
  run (Wf.timeout i) (Mod.instTimeout i us) s

/-- PREEMPT_DONE (R124): The core acknowledges pre-emption and Hatch dispatches the waiting step to it. -/
def execPreemptDone (core : Nat) (us : Nat) (host : List Host.Cell) (s : State) : Host.Outcome State Fault Refusal :=
  run (Wf.preemptDone core) (Mod.preemptDone core us host) s

/-- PREEMPT_TO (R124): No acknowledgement within PREEMPT_WAIT; the request is withdrawn. -/
def execPreemptTo (core : Nat) (us : Nat) (s : State) : Host.Outcome State Fault Refusal :=
  run (Wf.preemptTo core) (Mod.preemptTo core us) s

/-- PREEMPT_WAIT_EXPIRY (R124): The further PREEMPT_WAIT µs after a withdrawn request elapses and Hatch may request pre-emption of that step again. -/
def execPreemptWaitExpiry (i : Nat) (node : Nat) (us : Nat) (s : State) : Host.Outcome State Fault Refusal :=
  run (Wf.preemptWaitExpiry i) (Mod.preemptWaitExpiry i node us) s

/-- PRIV_RECORD_APPEND (R130): A record is appended to a privileged queue or to its spill region. -/
def execPrivRecordAppend (q : Nat) (s : State) : Host.Outcome State Fault Refusal :=
  run (Wf.privRecordAppend q) (Mod.privAppend q) s

/-- SPILL_REFILL (R130): Hatch refills a privileged queue's on-chip entries from its spill region in order. -/
def execSpillRefill (q : Nat) (host : List Host.Cell) (s : State) : Host.Outcome State Fault Refusal :=
  run (Wf.spillRefill q) (Mod.spillRefill q host) s

/-- TRACE_COPY (R134): Decision-trace records are copied from the on-chip ring to the destination. -/
def execTraceCopy (s : State) : Host.Outcome State Fault Refusal :=
  run true (Mod.traceCopy) s

end Sys2Proof.Machine
end

