-- ==== Sys2Proof/Machine/HostCmds.lean ====
section
/-!
DEFINITION. The events of the host link and the queue fabric, and the descriptors Hatch takes (Chapter 4).
-/

namespace Sys2Proof.Machine

/-- PERST (R105): PERST# resets the PCIe endpoint and link alone and masks every MSI-X entry. -/
def execPerst (s : State) : Host.Outcome State Fault Refusal :=
  runAlways true (Mod.perst) s

/-- DESCRIPTOR_FETCH (R92): With an on-chip slot free and a completion slot reserved, the fabric issues a descriptor read. -/
def execDescriptorFetch (q : Nat) (n : Nat) (s : State) : Host.Outcome State Fault Refusal :=
  run (Wf.descriptorFetch q) (Mod.descFetch q n) s

/-- DESCRIPTOR_READ_COMPLETE (R93): A descriptor read returns and its descriptors are placed on the queue, or the queue halts on error. -/
def execDescriptorReadComplete (q : Nat) (data : Option (List Byte)) (s : State) : Host.Outcome State Fault Refusal :=
  run (Wf.descriptorReadComplete q) (Mod.descReadDone q data) s

/-- NOP (R99): A NOP descriptor completes with RESULT 0. -/
def execNop (q : Nat) (k : Nat) (s : State) : Host.Outcome State Fault Refusal :=
  run (Wf.nop q) (Mod.takeDesc q k 0 (fun d m => (m.dropDesc q k).completeDesc q d stOK 0#32)) s

/-- GRAPH_LAUNCH (R107): A graph image is read, checked and launched as an instance. -/
def execGraphLaunch (q : Nat) (k : Nat) (host : List Host.Cell) (s : State) : Host.Outcome State Fault Refusal :=
  run (Wf.graphLaunch q) (Mod.takeDesc q k 1 (fun d m => m.launch false q k d host)) s

/-- GRAPH_ABORT (R95): A graph abort ends its target with ABORTED or completes late with ABORT_LATE. -/
def execGraphAbort (q : Nat) (k : Nat) (s : State) : Host.Outcome State Fault Refusal :=
  run (Wf.graphAbort q) (Mod.takeDesc q k 2 (fun d m => (m.dropDesc q k).graphAbort q d)) s

/-- TOKEN_INJECT (R112): A token is placed on an external edge after its COND. -/
def execTokenInject (q : Nat) (k : Nat) (s : State) : Host.Outcome State Fault Refusal :=
  run (Wf.tokenInject q) (Mod.takeDesc q k 3 (fun d m => (m.dropDesc q k).tokenInject q d)) s

/-- DMA_LIST (R364): A DMA list descriptor runs a list on a DMA channel. -/
def execDmaList (q : Nat) (k : Nat) (host : List Host.Cell) (s : State) : Host.Outcome State Fault Refusal :=
  run (Wf.dmaList q) (Mod.takeDesc q k 4 (fun d m => m.dmaList q k d host)) s

/-- NODE_RUN (R108): A single node runs as a one-node graph of its site. -/
def execNodeRun (q : Nat) (k : Nat) (host : List Host.Cell) (s : State) : Host.Outcome State Fault Refusal :=
  run (Wf.nodeRun q) (Mod.takeDesc q k 5 (fun d m => m.launch true q k d host)) s

/-- COMPLETION_WRITE (R97): A 16-byte completion record is written at the ring's TAIL and TAIL advances. -/
def execCompletionWrite (c : Nat) (s : State) : Host.Outcome State Fault Refusal :=
  run (Wf.completionWrite c) (Mod.completionWrite c) s

/-- MOD_TIME_EXPIRY (R102): MOD_TIME expires and the completion ring's interrupt becomes due. -/
def execModTimeExpiry (c : Nat) (us : Nat) (s : State) : Host.Outcome State Fault Refusal :=
  run (Wf.modTimeExpiry c) (Mod.modTimeExpiry c us) s

/-- MSIX_SEND (R103): A due interrupt on an unmasked vector with Bus Master Enable sends its MSI-X message. -/
def execMsixSend (v : Nat) (s : State) : Host.Outcome State Fault Refusal :=
  run (Wf.msixSend v) (Mod.msixSend v) s

/-- HOLD_CONDITION_BEGIN (R104): Link down, PERST#, BME clear or D3hot stops fetching and holds records and interrupts. -/
def execHoldConditionBegin (c : HoldCond) (s : State) : Host.Outcome State Fault Refusal :=
  runAlways true (fun m => (m.holdBegin c).when (c == .bmeClear || c == .d3hot) (Mod.dmaQuiesce [0])) s

/-- HOLD_CONDITION_END (R104): The link returns usable and held records are written in order and fetching resumes. -/
def execHoldConditionEnd (c : HoldCond) (speed : Nat) (width : Nat) (mps : Nat) (mrrs : Nat) (host : PcieSet) (s : State) : Host.Outcome State Fault Refusal :=
  runAlways (Wf.holdConditionEnd c speed width mps mrrs host) (fun m => let m1 := m.holdEnd c speed width mps mrrs host.ero host.bars; m1.when (m1.pcieLive) (Mod.dmaUnquiet [0])) s

end Sys2Proof.Machine
end

