-- ==== Sys2Proof/Machine/LevelCmds.lean ====
section
/-!
DEFINITION. The events of levels, measurement and high voltage (Chapter 10), and the end of a range change of an AS output (R287).
-/

namespace Sys2Proof.Machine

/-- LEVEL_QUEUE_APPLY (R249): At a sample edge a level queue applies up to four due entries. -/
def execLevelQueueApply (q : Nat) (s : State) : Host.Outcome State Fault Refusal :=
  runAlways (Wf.levelQueueApply q) (Mod.lqApply q) s

/-- LIM (R243): An LV driver, termination or clamp limits for 1 µs and LIM is set. -/
def execLim (ch : Nat) (us : Nat) (s : State) : Host.Outcome State Fault Refusal :=
  runAlways (Wf.lim ch) (Mod.lim ch us) s

/-- PMU_LIM (R252): A per-pin PMU reaches its current limit for 1 µs and PMU_LIM is set. -/
def execPmuLim (ch : Nat) (us : Nat) (s : State) : Host.Outcome State Fault Refusal :=
  runAlways (Wf.pmuLim ch) (Mod.pmuLim ch us) s

/-- PMU_MEAS_COMPLETE (R254): The measurement's conversions end and the node completes with its result word. -/
def execPmuMeasComplete (c : Nat) (raws : List Int) (lsb : Nat) (limit : Bool) (ovr : Bool) (s : State) : Host.Outcome State Fault Refusal :=
  runAlways (Wf.pmuMeasComplete c raws lsb) (Mod.measComplete c raws lsb limit ovr) s

/-- ILIM (R258): An HV output delivers its limit for 1 µs and ILIM is set. -/
def execIlim (h : Nat) (us : Nat) (s : State) : Host.Outcome State Fault Refusal :=
  runAlways (Wf.ilim h) (Mod.ilim h us) s

/-- LIMOFF_TRIP (R258): With LIMIT_OFF an HV output at its limit for 10 ms is disabled. -/
def execLimoffTrip (h : Nat) (us : Nat) (s : State) : Host.Outcome State Fault Refusal :=
  runAlways (Wf.limoffTrip h) (Mod.limoffTrip h us) s

/-- RELAY_OVERCURRENT (R265): A relay line over 100 mA for 10 µs is turned off. -/
def execRelayOvercurrent (i : Nat) (us : Nat) (s : State) : Host.Outcome State Fault Refusal :=
  runAlways (Wf.relayOvercurrent i) (Mod.relayOvercurrent i us) s

end Sys2Proof.Machine
end

