-- ==== Sys2Proof/Machine/Takeover.lean ====
section
/-!
DEFINITION. The journal of a pair as it arrives, the decisions of the mirror, and takeover (R387 to R402).
-/

namespace Sys2Proof.Machine

/-! ### What the journal has told -/

def Mod.setPair (p : Pair) (m : Mod) : Mod := { m with pair := p }
def Mod.peerInst (m : Mod) (slot : Nat) : Option PeerInst := SMap.get (fun _ => none) m.pair.insts slot
def Mod.setPeerInst (slot : Nat) (x : Option PeerInst) (m : Mod) : Mod :=
  m.setPair { m.pair with insts := SMap.set (fun _ => none) m.pair.insts slot x }
def Mod.peerQueue (m : Mod) (q : Nat) : PeerQueue := SMap.get (fun _ => PeerQueue.fresh) m.pair.queues q
def Mod.setPeerQueue (q : Nat) (x : PeerQueue) (m : Mod) : Mod :=
  m.setPair { m.pair with queues := SMap.set (fun _ => PeerQueue.fresh) m.pair.queues q x }

/-- A journal record arrives while the journal runs, and is acknowledged (kind 3). -/
def Mod.record (j : Nat) (f : Mod → Mod) (m : Mod) : Mod :=
  if m.journalOn then (f m).emit (.siteLink 3 [j]) else m

/-- A word of a register of the partner (CONFIG, baseline). The configuration of its sequencer n and Proof ring n is
that of the mirror's SEQ(16 + n) (R389); USED of a reservation is this module's own count (R391). -/
def Mod.peerConfig (off : Nat) (v : Word) (m : Mod) : Mod :=
  let keep : Bool := match regAt off with
    | some (d, _) => d.name == .SEQ_GRP_RESV
    | none => false
  let w := if keep then fput Fields.SEQ_GRP_RESV.USED (fget Fields.SEQ_GRP_RESV.USED (m.peerReg off)) v else v
  let m1 := m.setPair { m.pair with regs := SMap.set resetOf m.pair.regs off w }
  let flags : Bool := match regAt off with
    | some (d, _) => d.name == .SEQ_FLAGS
    | none => false
  if 0x400000 ≤ off ∧ off < 0x410000 then
    let o := off + 0x10000
    m1.setReg o (if flags then (m1.reg o &&& 0xFFFF0000#32) ||| (v &&& 0xFFFF#32) else v)
  else if 0x421000 ≤ off ∧ off < 0x421400 then m1.setReg (off + 0x400) v
  else m1

/-- The instance a record names. The first record of an instance takes it from the oldest launch of its site on chip
in a queue of its group. -/
def Mod.peerOf (m : Mod) (slot site group : Nat) : Option PeerInst × Mod :=
  match m.peerInst slot with
  | some x => (some x, m)
  | none =>
    let launch (e : Nat × List Byte) : Bool :=
      (descOpcode e.2 == 1 || descOpcode e.2 == 5) && e.2.length == 64 && descSite e.2 == site
    match m.pair.queues.find? (fun e => e.1 / 64 == group && e.2.descs.any launch) with
    | none => (none, m)
    | some (q, y) =>
      match y.descs.find? launch with
      | none => (none, m)
      | some d =>
        let x : PeerInst := { PeerInst.fresh with
          queue := q
          site := site
          desc := d.2 }
        (some x, (m.setPeerQueue q { y with descs := y.descs.erase d }).setPeerInst slot (some x))

/-- An instance of the partner changed by a record. -/
def Mod.onPeer (slot site group : Nat) (f : PeerInst → PeerInst) (m : Mod) : Mod :=
  match m.peerOf slot site group with
  | (some x, m1) => m1.setPeerInst slot (some (f x))
  | (none, m1) => m1

/-! ### Journal records (Table 16.6) -/

/-- BURST_START cannot be followed: the mirror sends no block of this burst. -/
def Mod.mirrorNot (n : Nat) (m : Mod) : Mod := (m.slEvent false 1 n Fields.SL_EVENT.MIRROR_FAIL).unprotect n

/-- BURST_START (R389): SEQ(16 + n) loads the burst of port n in peer context, under the checks and the charge of its
peer group. -/
def Mod.mirrorStart (port site group node seq : Nat) (a : List Byte) (host : List Host.Cell) (m0 : Mod) : Mod :=
  let n := 16 + port
  let ctx := 64 + group
  let m := m0.setPair { m0.pair with
    starts := SMap.set (fun _ => none) m0.pair.starts port none
    decs := m0.pair.decs.filter (fun d => d.port != port)
    switched := m0.pair.switched.filter (fun k => k != port) }
  if (m.seq n).job.isSome then m.mirrorNot n
  else match m.devRecord ctx host (pbAddr a) 64 with
    | .error _ => m.mirrorNot n
    | .ok h =>
      match m.burstChecks n ctx a h with
      | .inl _ => m.mirrorNot n
      | .inr c =>
        let m1 := (m.charged ctx (pbAddr a) 64).putUsed ctx (fget Fields.SEQ_GRP_RESV.USED (m.grpResv ctx) + c)
        (m1.loadBurst n ⟨none, node, ctx, site⟩ (imageOf ctx a h) c (pbEntry a) (pbPentry a) (pbTset a)).wr
          (Reg.SEQ_PRF_STATUS n) Fields.SEQ_PRF_STATUS.BURST_SEQ seq

/-- DECISION (R390): START carries the PCC of vector 0; any other is kept for the mirror's decision. -/
def Mod.decision (port kind outcome vec : Nat) (m : Mod) : Mod :=
  if !m.journalOn then m
  else if kind = 0 then m.setPair { m.pair with starts := SMap.set (fun _ => none) m.pair.starts port (some outcome) }
  else m.setPair { m.pair with decs := m.pair.decs ++ [⟨port, kind, outcome, vec⟩] }

/-- NODE_DISPATCH: the node runs at a unit of the partner. -/
def Mod.peerDispatch (slot site group node cls unit : Nat) (m : Mod) : Mod :=
  m.onPeer slot site group (fun x => { x with running := (node, (cls, unit)) :: x.running.filter (fun e => e.1 != node) })

/-- The mirror has finished a burst of this module (R401): its node ends with the mirror's result. -/
def Mod.mirrorEnd (slot node status : Nat) (value : DWord) (fail : Bool) (stretch : Nat) (m : Mod) : Mod :=
  let mine (n : Nat) : Bool := (m.seq n).mirrored && (match (m.seq n).job with
    | some j => j.inst == some slot && j.node == node
    | none => false)
  match firstBelow mine 16 with
  | none => m
  | some n =>
    match (m.seq n).job with
    | none => m
    | some j => ((m.when (m.ring n).endDue (Mod.endBurstRec n)).leaveSeq n).report j status value fail stretch true

/-- NODE_END: a node of the partner has ended, or the mirror has finished a burst of this module (`own`). -/
def Mod.peerEnd (own : Bool) (slot site group node status : Nat) (value : DWord) (fail : Bool) (stretch : Nat) (m : Mod) : Mod :=
  if own then m.mirrorEnd slot node status value fail stretch
  else m.onPeer slot site group (fun x => { x with
    running := x.running.filter (fun e => e.1 != node)
    ends := x.ends ++ [(node, (status, ⟨value, fail, false⟩, stretch))] })

/-- DESC_A and DESC_B: bytes 0 to 39 and 40 to 63 of a descriptor on chip in ring slot `slot` of queue `q`. A queue has four
places on chip (R92), so that of five the oldest has completed. -/
def Mod.peerDesc (q slot : Nat) (second : Bool) (bs : List Byte) (m : Mod) : Mod :=
  let y := m.peerQueue q
  if second then m.setPeerQueue q { y with descs := y.descs.map (fun d =>
    if d.1 = slot ∧ d.2.length = 40 then (slot, d.2 ++ bs) else d) }
  else
    let l := y.descs.filter (fun d => d.1 != slot) ++ [(slot, bs)]
    m.setPeerQueue q { y with descs := l.drop (l.length - 4) }

/-- QUEUE: a queue's state; completions of the queue that were acknowledged have been written. -/
def Mod.peerQueueSet (q head tail : Nat) (bound : Bool) (sizeLog2 cq base : Nat) (m : Mod) : Mod :=
  let y := m.peerQueue q
  let m1 := m.setPeerQueue q { y with
    bound := bound
    base := base
    sizeLog2 := sizeLog2
    cq := cq
    head := head
    tail := tail
    descs := if bound then y.descs else [] }
  let wrote (e : Nat × Option PeerInst) : Bool := match e.2 with
    | some x => x.queue == q && x.comp.isSome
    | none => false
  m1.setPair { m1.pair with insts := m1.pair.insts.filter (fun e => !wrote e) }

/-- The completion that a record of Table 4.7 spells. -/
def compOf (r : List Byte) : Comp :=
  let f := byteAt r 7
  { queue := fieldAt r 4 2, serial := 0, tag := BitVec.ofNat 32 (fieldAt r 0 4), status := byteAt r 6, abortLate := nbit f 1,
    stretched := nbit f 2, fail := nbit f 3, detail := nbit f 4, result := BitVec.ofNat 32 (fieldAt r 8 4),
    site := byteAt r 12, irqNow := false }

/-- INST_END: an instance has ended with a completion record. -/
def Mod.peerInstEnd (slot : Nat) (r : List Byte) (m : Mod) : Mod :=
  let c := compOf r
  let x := (m.peerOf slot c.site (c.queue / 64)).1.getD PeerInst.fresh
  (m.peerOf slot c.site (c.queue / 64)).2.setPeerInst slot (some { x with
    queue := c.queue
    site := c.site
    running := []
    comp := some c })

/-- TOKEN: a token injected on an edge. -/
def Mod.peerToken (slot site group edge : Nat) (t : Token) (m : Mod) : Mod :=
  m.onPeer slot site group (fun x => { x with tokens := x.tokens ++ [(edge, t)] })

/-- CAL: a correction or a domain's count of the partner. -/
def Mod.peerCal (off : Nat) (v : Word) (m : Mod) : Mod :=
  m.setPair { m.pair with cals := SMap.set resetOf m.pair.cals off v }

/-- CONSUMED (R237): the partner's host has consumed records of its port n. -/
def Mod.peerConsumed (n rd srd : Nat) (m : Mod) : Mod :=
  (m.setReg (Reg.SEQ_PRF_RD (16 + n)) (BitVec.ofNat 32 rd)).setReg (Reg.SEQ_PRF_SRD (16 + n)) (BitVec.ofNat 32 srd)

/-- JOURNAL_ACK (R396): records up to `j` are acknowledged; the completions and node ends among them count from now. -/
def Mod.journalAck (j : Nat) (m : Mod) : Mod :=
  let d (k : Nat) : Nat := (k + 0x100000000 - m.pair.acked) % 0x100000000
  if !m.journalOn || decide (m.journalOpen ≤ d j) then m
  else
    let there (k : Nat) : Bool := decide (d k ≤ d j)
    let p := m.pair
    let m1 := (m.setPair { p with
      acked := (j + 1) % 0x100000000
      ends := p.ends.filter (fun e => !there e.1)
      comps := p.comps.filter (fun e => !there e.1) }).setReg Reg.SL_JACK (BitVec.ofNat 32 j)
    let m2 := (p.comps.filter (fun e => there e.1)).foldl (fun s e => s.complete e.2.1 e.2.2) m1
    (p.ends.filter (fun e => there e.1)).foldl (fun s e => s.commitNode e.2) m2

/-! ### The mirror's decisions (R390, R392) -/

/-- MIRROR_DECISION, `ofs` SCLK after the current tick: a stop, a WTRG or a SYNC of port n is decided 256 SCLK after the
primary's decision, by its record where one has come, otherwise on the mirror's own inputs. -/
def Mod.mirrorDecide (port ofs : Nat) (mi : Mod) : Mod :=
  let n := 16 + port
  let m := mi.takeEdges n (mi.ttime + ofs)
  let x := m.seq n
  let t := m.ttime + ofs - x.sclk0
  if !x.live || !x.follows then m
  else match m.takeDec n 8 (some x.num) with
    | (some code, m1) => m1.stopHere n code
    | (none, _) =>
      match x.wait with
      | some (.trig src idx _ _) =>
        match m.takeDec n 3 none with
        | (some o, m1) =>
          if o = 1 then m1.wtrgSeen n t
          else
            let m2 := (m1.setSeq n { x with anyTimeout := true }).endWait n t
            m2.nextInstr n (m2.seq n)
        | (none, _) =>
          if x.latch.contains (16 * src + idx) then (m.setSeq n { x with latch := [] }).wtrgSeen n t else m
      | some (.sync _ _) =>
        match m.takeDec n 4 none with
        | (some _, m1) =>
          let m2 := m1.endWait n t
          if (m2.seq n).upc.isSome then m2 else m2.nextInstr n (m2.seq n)
        | (none, _) => m
      | _ => m

/-- PORT_SWITCH (R392): a die of the partner plays the mirror's blocks of port n; the mirror decides on its own inputs for
the rest of the burst. -/
def Mod.portSwitch (port : Nat) (m : Mod) : Mod :=
  (m.setPair { m.pair with switched := port :: m.pair.switched.erase port }).slEvent false 1 port Fields.SL_EVENT.PORT_SWITCH

/-- TOKEN_FRAME (R397). -/
def Mod.tokenFrame (f : TokenFrame) (m : Mod) : Mod :=
  if !(m.journalOn || m.slState == 7) then m
  else match f with
    | .burst p d fail => m.setDport (16 + p) d { m.dport (16 + p) d with
        token := true
        failAny := (m.dport (16 + p) d).failAny || fail }
    | .failed p vec => (m.portFail (16 + p) 0 vec (m.seq (16 + p)).sclk).failsDue (16 + p) (m.seq (16 + p)).sclk
    | .iteration p mn it sel => m.iterJudged (16 + p) [(mn, it)] sel
    | .result c u status value fail =>
      match m.awayAt c u with
      | some j => (m.setAway c u none).report j status value fail 0 true
      | none => m

/-! ### The dies of a module whose core die has gone (R388, R397, R398) -/

/-- PRIMARY_DOWN of a pin die. -/
def Mod.primaryDown (m : Mod) (d : Nat) : Bool := m.flag (Reg.SL_PDIE_STATUS d) Fields.SL_PDIE_STATUS.PRIMARY_DOWN

/-- PRIMARY_DOWN (R398): PLINK or the forwarded clock of pin die `d` has been gone for 1 µs; the partner gets a notice
(kind 50), every port on the die plays the mirror's blocks, and its raw trace ends (R22, R238). -/
def Mod.declareDown (d us : Nat) (m : Mod) : Mod :=
  let up := m.flag Reg.GLB_DIE_STATUS (if d = 0 then Fields.GLB_DIE_STATUS.P0_UP else Fields.GLB_DIE_STATUS.P1_UP)
  let gone := !up || m.flag Reg.GLB_DIE_STATUS (holdoverFld d) || m.txOff
  if us < 1 ∨ gone = false ∨ m.pairProfile = false ∨ m.primaryDown d = true ∨ m.isLost (1 + d) = true then m
  else
    let m1 := (m.wr (Reg.SL_PDIE_STATUS d) Fields.SL_PDIE_STATUS.PRIMARY_DOWN 1).emit (.siteLink 50 [d])
    m1.each (allBelow 16 (fun n => !(m.dport n d).chans.isEmpty)) (fun n s =>
      (s.wr (Reg.SL_PDIE_STATUS d) ⟨Fields.SL_PDIE_STATUS.SRC.lo + n, 1⟩ 1).setDport n d { s.dport n d with
        mirSrc := true
        trDue := false })

/-- Work that a control frame brings to a unit of die `d` (0 P0, 1 P1, 2 H0). Its result goes to the partner. -/
def Mod.controlWork (d : Nat) (f : CtlFrame) (m : Mod) : Mod :=
  let j : Job := ⟨none, f.node, 0, f.site⟩
  let pick (l : List Nat) : Nat := if f.unit = 0xFF then (l.find? (fun u => (m.meas u).isNone)).getD 0xFF else f.unit
  let here (c u : Nat) : Bool := unitExists c u && unitDie c u == d + 1 && !m.unitBusy c u
  match f.cls with
  | 2 => if (lsEntries f.args).all (fun e => lqDie e.1 == d + 1) then m.levelSet j f.unit f.args else m
  | 3 =>
    let u := pick (allBelow 40 (fun c => convServes c (pmChan f.args)))
    if here 3 u && m.forceRoom f.args then m.pmuMeas j u f.unit f.args else m
  | 4 => if here 4 f.unit then m.tdcMeas j f.unit f.args else m
  | 5 => if unitExists 5 f.unit && d == 2 then m.wavePlay j f.unit f.args else m
  | 6 => if here 6 f.unit then m.acquire j f.unit f.args else m
  | _ => m

/-- CONTROL_FRAME (R397): a pin die accepts the mirror's frames only after it has declared its primary down. -/
def Mod.controlFrame (d : Nat) (f : CtlFrame) (m : Mod) : Mod := m.when (m.primaryDown d) (Mod.controlWork d f)

/-- Whether H0 takes its work from the secondary port: nothing comes over the primary one. -/
def Mod.h0OnSecondary (m : Mod) : Bool := m.isLost 0 || m.txOff || m.primaryDown 0 || m.primaryDown 1

/-- H0_FRAME_RECEIVE (R388): the first intact copy of an entry or frame is taken, a duplicate is discarded; a damaged frame
of the primary port is sent again. What the own core die sends is already in force at its dispatch; the secondary
port's content acts while the primary one is silent. -/
def Mod.h0Frame (seq : Nat) (secondary intact : Bool) (f : H0Frame) (m : Mod) : Mod :=
  if !intact then m.when (!secondary) (Mod.mark Reg.GLB_DIE_ERR Fields.GLB_DIE_ERR.H0_LINK_ERR)
  else if m.pair.frames.contains seq then m
  else
    let m1 := m.setPair { m.pair with frames := seq :: m.pair.frames }
    if !(secondary && m.h0OnSecondary) then m1
    else match f with
      | .control c => m1.controlWork 2 c
      | .entry n seg pass desc bytes last =>
        let x := m1.wave n
        m1.setWave n { x with buf := x.buf ++ [⟨seg, pass, desc, last, bytes, !segOk desc || !entryOk bytes⟩] }

/-! ### Takeover (R399, Table 16.7) -/

/-- A queue of the partner becomes queue 4096 + q, with what the journal shows on chip; its completions go to
ADOPT_CQ. -/
def Mod.adoptQueue (q : Nat) (y : PeerQueue) (m : Mod) : Mod :=
  let l := y.descs.filter (fun d => d.2.length == 64)
  let ds := (List.range l.length).zipWith (fun i (d : Nat × List Byte) => (⟨d.1, i, d.2, false⟩ : Desc)) l
  m.setQueue (4096 + q) { Queue.fresh with
    bound := y.bound
    base := y.base
    sizeLog2 := y.sizeLog2
    cq := m.adoptCq
    head := y.head
    tail := y.tail
    onchip := ds
    nextSerial := l.length
    outstanding := List.range l.length
    ownFrom := l.length }

/-- A serial number for one more descriptor of the failed module in an adopted queue. -/
def Mod.adoptSerial (q : Nat) (m : Mod) : Nat × Mod :=
  let y := m.queue q
  (y.nextSerial, m.setQueue q { y with
    nextSerial := y.nextSerial + 1
    outstanding := y.outstanding ++ [y.nextSerial]
    ownFrom := y.nextSerial + 1 })

/-- A node the journal shows as ended: its tokens, or the early end of its instance. -/
def adoptEnd (x : Inst) (e : Nat × (Nat × Token × Nat)) : Inst :=
  let (k, st, t, n) := e
  let y := { (x.consume k).setSt k .done with
    stretch := x.stretch + n
    ran := x.ran + 1 }
  if st = stOK then y.placeTokens k t
  else if y.quitStatus.isSome then y
  else { y with
    quitStatus := some st
    badNode := k }

/-- A node that was running (Table 16.7): DMA and CORE_STEP run again from their start; a burst goes on in its mirror;
other work goes on at the partner's unit. -/
def adoptRunning (x : Inst) (e : Nat × (Nat × Nat)) : Inst :=
  let (k, c, u) := e
  if c = 7 ∨ c = 8 then x else (x.consume k).setSt k (.running c (if c = 1 then 16 + u else u))

/-- Whether a destination of an adopted ACQUIRE lies outside host memory. -/
def Mod.destGone (m : Mod) (ctx : Nat) (a : List Byte) : Bool :=
  match m.xlate ctx (aqDest a) .write with
  | .ok (.host _) => false
  | _ => true

/-- The unit's side of an adopted running node. -/
def Mod.adoptUnit (i : Nat) (x : Inst) (m : Mod) (e : Nat × (Nat × Nat)) : Mod :=
  let (k, c, u) := e
  let j : Job := ⟨some i, k, x.group, x.site⟩
  match c with
  | 1 =>
    let n := 16 + u
    let s := m.seq n
    if s.job.isSome then m.setSeq n { s with job := some j } else m.report j stBLOCK_LOST 0 false 0 true
  | 7 | 8 => m
  | 6 => if m.destGone x.group (x.node k).args then m.report j stXLT_NOMAP 0 false 0 true else m.setAway c u (some j)
  | _ => m.setAway c u (some j)

/-- An instance of the partner is rebuilt in a free slot, or its descriptor waits for one (R108); one that has ended is
completed again. -/
def Mod.adoptInst (p : PeerInst) (host : List Host.Cell) (m : Mod) : Mod :=
  let q := 4096 + p.queue
  let (serial, m1) := m.adoptSerial q
  match p.comp with
  | some c => m1.complete (descQuiet p.desc) { c with
      queue := q
      serial := serial }
  | none =>
    if p.desc.length ≠ 64 then m
    else
      let d : Desc := ⟨0, serial, p.desc, false⟩
      let run_ := descOpcode p.desc == 5
      let va := fieldAt p.desc 8 6
      match (if run_ then m1.readNode (q / 64) va host else m1.readGraph (q / 64) va host) with
      | .error (st, m2) => m2.completeDesc q d st 0#32
      | .ok g =>
        match m1.freeSlot with
        | none =>
          let y := m1.queue q
          m1.setQueue q { y with onchip := y.onchip ++ [{ d with waiting := true }] }
        | some i =>
          let x0 := p.tokens.foldl (fun x t => x.setToken t.1 (some t.2)) (newInst q d g run_)
          let x := p.running.reverse.foldl adoptRunning (p.ends.foldl adoptEnd x0)
          let m2 := p.running.reverse.foldl (fun s e => s.adoptUnit i x e) (m1.setInst i (some x))
          ((m2.imageCharged run_ (q / 64) va host).evalNodes i).checkEnd i

/-- TAKEOVER (R398 to R400): on the first notice the survivor adopts the partner's queues and instances. -/
def Mod.takeover (host : List Host.Cell) (m : Mod) : Mod :=
  if !m.pairProfile || !m.pair.pccOn || m.slState == 7 then m
  else
    let m1 := (m.pairLeave 7).wr Reg.SL_STATUS Fields.SL_STATUS.PARTNER_DOWN 1
    let m2 := ((m1.slEvent true 3 0 Fields.SL_EVENT.PARTNER_DOWN).slEvent true 1 0 Fields.SL_EVENT.TAKEOVER).unprotectAll
      (List.range 16)
    let qs := m2.pair.queues
    let is := m2.pair.insts.filterMap Prod.snd
    -- the raw trace of the partner's bursts ends (R238)
    let mt := m2.each (allBelow 16 (fun n => m2.seqRunning (16 + n) &&
        m2.flag (Reg.SEQ_PRF_TRC_CFG (16 + n)) Fields.SEQ_PRF_TRC_CFG.EN)) (fun n s =>
      s.mark (Reg.SEQ_PRF_STATUS (16 + n)) Fields.SEQ_PRF_STATUS.TRACE_LOST)
    let m3 := mt.setPair { m2.pair with
      queues := []
      insts := []
      shook := false }
    let m4 := qs.foldl (fun s e => s.adoptQueue e.1 e.2) m3
    is.foldl (fun s p => s.adoptInst p host) m4

/-- TAKEOVER_END (R402): the survivor sees its partner's baseline; running adopted instances finish here. -/
def Mod.takeoverEnd (m : Mod) : Mod :=
  if m.slState ≠ 7 ∨ m.pair.shook = false then m
  else ((m.setPair { m.pair with shook := false }).wr Reg.SL_STATUS Fields.SL_STATUS.PARTNER_DOWN 0).beginResync

/-- A completion-ring context is rebuilt (R106). -/
def Mod.ringRebuilt (r : RingCtx) (m : Mod) : Mod :=
  let m1 := ((m.setReg (Reg.HOST_CQ_BASE_LO r.ring) r.baseLo).setReg (Reg.HOST_CQ_BASE_HI r.ring) r.baseHi).setReg
    (Reg.HOST_CQ_CFG r.ring) r.cfg
  (m1.setReg (Reg.HOST_CQ_STATE r.ring) r.state).setCq r.ring { m1.cq r.ring with head := r.head }

/-- A binding is rebuilt (R106). -/
def Mod.bindingRebuilt (c : QueueCtx) (m : Mod) : Mod :=
  m.setQueue c.queue { m.queue c.queue with
    bound := true
    base := c.base
    sizeLog2 := c.sizeLog2
    cq := c.cq
    haltOnInvalid := c.halt
    head := c.head
    tail := c.tail }

/-- What a core die reset with HANDOVER held is rebuilt from the partner's journal (Table 3.4, R106): the ring contexts and
the bindings. Instances run on at the partner, which has adopted them (R399, R402; assumption 83). -/
def Mod.rebuilt (rings : List RingCtx) (queues : List QueueCtx) (m : Mod) : Mod :=
  let m1 := queues.foldl (fun s c => s.bindingRebuilt c) (rings.foldl (fun s r => s.ringRebuilt r) m)
  { m1 with sys := { m1.sys with rejoin := false } }

/-- RESYNC_COMPLETE (R380): copies and baselines are acknowledged; `base` are the partner's registers as its baseline gives
them, its mirror regions among them. -/
def Mod.resyncDone (base : List (Nat × Word)) (rings : List RingCtx) (queues : List QueueCtx) (mi : Mod) : Mod :=
  if mi.slState ≠ 3 then mi
  else
    let m := mi.when mi.sys.rejoin (Mod.rebuilt rings queues)
    let m1 := base.foldl (fun s e => s.peerConfig e.1 e.2) m
    let m2 := m1.each (List.range 16) Mod.regionCopied
    let m3 := m2.each [0, 1] (fun d s => s.wr (Reg.SL_PDIE_STATUS d) Fields.SL_PDIE_STATUS.PRIMARY_DOWN 0)
    (m3.setSlState 4).slEvent false 1 0 Fields.SL_EVENT.REJOIN

/-- CABLE_RECONNECT (R378): DETECT observes a reconnected cable after a mismatch. -/
def Mod.cableReconnect (m : Mod) : Mod := m.when (m.slState == 6) Mod.beginAttempt

end Sys2Proof.Machine
end

