-- ==== Sys2Proof/Machine/PairCmds.lean ====
section
/-!
DEFINITION. The Site Link, the journal, the mirror and takeover (Chapter 16), and the frames of H0 (R388).
-/

namespace Sys2Proof.Machine

/-- TRAINING_ATTEMPT (R377): A training attempt trains every lane group. -/
def execTrainingAttempt (us : Nat) (lanes : List LaneRes) (s : State) : Host.Outcome State Fault Refusal :=
  run (Wf.trainingAttempt lanes) (Mod.trainingAttempt us lanes) s

/-- ATTEMPT_TIMEOUT (R377): An attempt fails after 50 ms, possibly setting PAIR_ABSENT. -/
def execAttemptTimeout (us : Nat) (ms : Nat) (s : State) : Host.Outcome State Fault Refusal :=
  run true (Mod.attemptTimeout us ms) s

/-- HANDSHAKE (R378): The modules exchange role, MCS_CRC, time base and versions and form a pair or MISMATCH. -/
def execHandshake (role : Nat) (crc : Word) (refin : Bool) (version : BitVec 16) (pcc : Nat) (ms : Nat) (s : State) : Host.Outcome State Fault Refusal :=
  run (Wf.handshake role pcc) (Mod.handshake role crc refin version pcc ms) s

/-- RESYNC_COMPLETE (R380): Region copies and baselines are acknowledged and the pair becomes ACTIVE. -/
def execResyncComplete (base : Baseline) (s : State) : Host.Outcome State Fault Refusal :=
  run (Wf.resyncComplete base) (Mod.resyncDone base.regs base.rings base.queues) s

/-- FOM_MEASURE (R375): Each 1 ms a lane's FOM is measured and WEAK or loss judged. -/
def execFomMeasure (k : Nat) (fom : Nat) (s : State) : Host.Outcome State Fault Refusal :=
  run (Wf.fomMeasure k fom) (Mod.fomMeasure k fom) s

/-- LANE_LOSS (R382): A lane is lost, reported to the sender and its words replayed. -/
def execLaneLoss (k : Nat) (s : State) : Host.Outcome State Fault Refusal :=
  run (Wf.laneLoss k) (Mod.laneLost k) s

/-- LANE_DISABLE (R382): DISABLE sets a lane LOST at the next block boundary. -/
def execLaneDisable (k : Nat) (s : State) : Host.Outcome State Fault Refusal :=
  run (Wf.laneDisable k) (Mod.laneDisable k) s

/-- RESTRIPE (R383): At the next unit boundary the group re-stripes over its remaining lanes. -/
def execRestripe (g : Nat) (s : State) : Host.Outcome State Fault Refusal :=
  run (Wf.restripe g) (Mod.restripe g) s

/-- LANE_RETRAIN (R385): A lost lane retrains alone and rejoins at a re-stripe. -/
def execLaneRetrain (k : Nat) (fom : Nat) (ms : Nat) (s : State) : Host.Outcome State Fault Refusal :=
  run (Wf.laneRetrain k fom) (Mod.laneRetrain k fom ms) s

/-- FORWARDED_WRITE (R386): The partner applies a forwarded mirror-region write at PEER plus offset. -/
def execForwardedWrite (dest : FwdTo) (addr : Nat) (data : List Byte) (s : State) : Host.Outcome State Fault Refusal :=
  run (Wf.forwardedWrite dest addr data) (Mod.forwardedWrite dest.group dest.shadow addr data) s

/-- REGION_COPY_DONE (R386): A mirror region's copy to the partner ends and COPYING clears. -/
def execRegionCopyDone (k : Nat) (s : State) : Host.Outcome State Fault Refusal :=
  run (Wf.regionCopyDone k) (Mod.regionCopied k) s

/-- BURST_START (R389): The mirror loads a burst in peer context from a BURST_START journal record. -/
def execBurstStart (j : Nat) (port : Nat) (site : Nat) (group : Nat) (node : Nat) (seq : Nat) (args : List Byte) (host : List Host.Cell) (s : State) : Host.Outcome State Fault Refusal :=
  run (Wf.burstStart port site group args) (Mod.record j (Mod.mirrorStart port site group node seq args host)) s

/-- DECISION (R390): A DECISION journal record reaches the mirror for a decision it will follow. -/
def execDecisionRecord (n : Nat) (kind : Nat) (outcome : Nat) (vec : Nat) (s : State) : Host.Outcome State Fault Refusal :=
  run (Wf.decisionRecord n) (Mod.decision n kind outcome vec) s

/-- NODE_DISPATCH (R395): A NODE_DISPATCH journal record reaches the partner. -/
def execNodeDispatch (j : Nat) (slot : Nat) (site : Nat) (group : Nat) (node : Nat) (cls : Nat) (unit : Nat) (s : State) : Host.Outcome State Fault Refusal :=
  run (Wf.nodeDispatch group) (Mod.record j (Mod.peerDispatch slot site group node cls unit)) s

/-- NODE_END (R396): A NODE_END journal record reaches the partner and is acknowledged. -/
def execNodeEnd (j : Nat) (own : Bool) (slot : Nat) (site : Nat) (group : Nat) (node : Nat) (status : Nat) (value : DWord) (fail : Bool) (stretch : Nat) (s : State) : Host.Outcome State Fault Refusal :=
  run (Wf.nodeEnd group status) (Mod.record j (Mod.peerEnd own slot site group node status value fail stretch)) s

/-- DESC_A_DESC_B (R395): A journal record carrying an on-chip descriptor reaches the partner. -/
def execDescADescB (j : Nat) (q : Nat) (slot : Nat) (second : Bool) (data : List Byte) (s : State) : Host.Outcome State Fault Refusal :=
  run (Wf.descADescB q second data) (Mod.record j (Mod.peerDesc q slot second data)) s

/-- QUEUE (R395): A QUEUE journal record carrying queue state reaches the partner. -/
def execQueueRecord (j : Nat) (q : Nat) (head : Nat) (tail : Nat) (bound : Bool) (size : Nat) (cq : Nat) (base : Nat) (s : State) : Host.Outcome State Fault Refusal :=
  run (Wf.queueRecord q cq) (Mod.record j (Mod.peerQueueSet q head tail bound size cq base)) s

/-- INST_END (R396): An INST_END journal record carrying a completion reaches the partner. -/
def execInstEnd (j : Nat) (slot : Nat) (data : List Byte) (s : State) : Host.Outcome State Fault Refusal :=
  run (Wf.instEnd data) (Mod.record j (Mod.peerInstEnd slot data)) s

/-- CONSUMED (R237): A CONSUMED journal record lets the partner release shadowed Proof records. -/
def execConsumed (j : Nat) (n : Nat) (rd : Nat) (srd : Nat) (s : State) : Host.Outcome State Fault Refusal :=
  run (Wf.consumed n) (Mod.record j (Mod.peerConsumed n rd srd)) s

/-- CONFIG (R395): A CONFIG journal record carries an accepted register write to the partner. -/
def execConfigRecord (j : Nat) (off : Nat) (v : Word) (s : State) : Host.Outcome State Fault Refusal :=
  run (Wf.configRecord off) (Mod.record j (Mod.peerConfig off v)) s

/-- CAL (R395): A CAL journal record carries a calibration write to the partner. -/
def execCalRecord (j : Nat) (off : Nat) (v : Word) (s : State) : Host.Outcome State Fault Refusal :=
  run true (Mod.record j (Mod.peerCal off v)) s

/-- TOKEN (R399): A TOKEN journal record carries a token to the partner. -/
def execTokenRecord (j : Nat) (slot : Nat) (site : Nat) (group : Nat) (edge : Nat) (value : DWord) (fail : Bool) (skip : Bool) (s : State) : Host.Outcome State Fault Refusal :=
  run (Wf.tokenRecord group) (Mod.record j (Mod.peerToken slot site group edge ⟨value, fail, skip⟩)) s

/-- JOURNAL_ACK (R396): The partner's acknowledgement commits journalled node ends and completions. -/
def execJournalAck (j : Nat) (s : State) : Host.Outcome State Fault Refusal :=
  run (Wf.journalAck j) (Mod.journalAck j) s

/-- MIRROR_DECISION (R390): 256 SCLK after the primary, the mirror takes a decision by record or its own inputs. -/
def execMirrorDecision (n : Nat) (ofs : Nat) (s : State) : Host.Outcome State Fault Refusal :=
  run (Wf.mirrorDecision n) (Mod.mirrorDecide n ofs) s

/-- PORT_SWITCH (R392): The mirror receives a PORT_SWITCH notice and decides on its own inputs. -/
def execPortSwitch (n : Nat) (s : State) : Host.Outcome State Fault Refusal :=
  run (Wf.portSwitch n) (Mod.portSwitch n) s

/-- TOKEN_FRAME (R397): A token frame from the partner's pin die reaches the core die. -/
def execTokenFrame (f : TokenFrame) (s : State) : Host.Outcome State Fault Refusal :=
  run (Wf.tokenFrame f) (Mod.tokenFrame f) s

/-- CONTROL_FRAME (R397): A pin-die control frame from the mirror is accepted after PRIMARY_DOWN. -/
def execControlFrame (d : Nat) (f : CtlFrame) (s : State) : Host.Outcome State Fault Refusal :=
  runAlways (Wf.controlFrame d f) (Mod.controlFrame d f) s

/-- H0_FRAME_RECEIVE (R388): H0 takes a control entry or frame from whichever port delivers it intact first and discards the duplicate. -/
def execH0FrameReceive (seq : Nat) (secondary : Bool) (intact : Bool) (f : H0Frame) (s : State) : Host.Outcome State Fault Refusal :=
  runAlways (Wf.h0FrameReceive f) (Mod.h0Frame seq secondary intact f) s

/-- PRIMARY_DOWN (R398): PLINK or the forwarded clock has been gone 1 µs; the pin die declares PRIMARY_DOWN. -/
def execPrimaryDown (d : Nat) (us : Nat) (s : State) : Host.Outcome State Fault Refusal :=
  runAlways (Wf.primaryDown d) (Mod.declareDown d us) s

/-- TAKEOVER (R399): On the first PRIMARY_DOWN notice the survivor rebuilds and adopts the partner's work. -/
def execTakeover (host : List Host.Cell) (s : State) : Host.Outcome State Fault Refusal :=
  run true (Mod.takeover host) s

/-- TAKEOVER_END (R402): The survivor sees the rejoining partner's baseline and ends TAKEOVER. -/
def execTakeoverEnd (s : State) : Host.Outcome State Fault Refusal :=
  run true (Mod.takeoverEnd) s

/-- CABLE_RECONNECT (R378): DETECT observes a reconnected Site Link cable after MISMATCH and a new training attempt begins. -/
def execCableReconnect (s : State) : Host.Outcome State Fault Refusal :=
  run true (Mod.cableReconnect) s

end Sys2Proof.Machine
end

