-- ==== Sys2Proof/Machine/Deliver.lean ====
section
/-!
DEFINITION. Delivery of fault event records to the host event ring (R423, R424).
-/

namespace Sys2Proof.Machine

/-- Records of the host event ring: 2^SIZE_LOG2. -/
def Mod.evtSize (m : Mod) : Nat := 2 ^ m.rd Reg.ERR_RING_CFG Fields.ERR_RING_CFG.SIZE_LOG2
def Mod.evtTail (m : Mod) : Nat := m.rd Reg.ERR_RING_STATE Fields.ERR_RING_STATE.TAIL
def Mod.evtHead (m : Mod) : Nat := m.rd Reg.ERR_RING_HEAD Fields.ERR_RING_HEAD.HEAD
def Mod.evtOn (m : Mod) : Bool := m.flag Reg.ERR_RING_CFG Fields.ERR_RING_CFG.ENABLE

/-- Records written and not yet consumed. -/
def Mod.evtUsed (m : Mod) : Nat := (m.evtTail + m.evtSize - m.evtHead) % m.evtSize

/-- Whether a record may be written to the host event ring: it is enabled and not full (R86), the host link takes
writes (R104), and the module is READY or in PROFILE_FAIL (R73, R428). -/
def Mod.evtOpen (m : Mod) : Bool := m.evtOn && decide (m.evtUsed + 1 < m.evtSize) && m.pcieLive && m.open

/-- A record's 64 bytes with PHASE (Table 18.3, byte 18). -/
def phased (bs : List Byte) (phase : Bool) : List Byte :=
  bs.take 18 ++ leBytes 1 (byteAt bs 18 / 2 * 2 + b2n phase) ++ bs.drop 19

/-- FAULT_RECORD_DELIVERY: the record at the head of the fault queue is written at TAIL, TAIL advances, and ERR_VEC is
due (R423, R424). -/
def Mod.deliverFault (m : Mod) : Mod :=
  let q := m.rd Reg.ERR_CFG Fields.ERR_CFG.QUEUE
  let y := m.queue q
  match y.priv with
  | [] => m
  | r :: rest =>
    if !m.flag Reg.ERR_CFG Fields.ERR_CFG.EN || !m.evtOpen then m
    else
      let tail := m.evtTail
      let phase := m.flag Reg.ERR_RING_STATE Fields.ERR_RING_STATE.PHASE
      let wraps := tail + 1 == m.evtSize
      let m1 := m.emit (.hostWrite (m.rd64 Reg.ERR_RING_BASE_LO + 64 * tail) (phased r.bytes phase) false)
      let m2 := (m1.setQueue q { y with priv := rest }).wr Reg.ERR_RING_STATE Fields.ERR_RING_STATE.TAIL
        (if wraps then 0 else tail + 1)
      (m2.when wraps (Mod.wr Reg.ERR_RING_STATE Fields.ERR_RING_STATE.PHASE (b2n !phase))).dueAt Reg.HOST_EVT_VEC0
        Fields.HOST_EVT_VEC0.ERR_VEC

end Sys2Proof.Machine
end

