-- ==== Sys2Proof/Machine/RegRead.lean ====
section
/-!
DEFINITION. What a register read returns: the words of the register file, the words that follow other state, the windows
on the stores of sets and corrections, and the latches of R4 and R309.
-/

namespace Sys2Proof.Machine

/-! ### Where BAR0 offsets lead (Table 19.1) -/

/-- The doorbell area. -/
def inDoorbells (off : Nat) : Bool := decide (0x1000000 ≤ off) && decide (off < 0x1008000)

/-- The MSI-X table and the pending-bit array. -/
def inMsix (off : Nat) : Bool := decide (0x110000 ≤ off) && decide (off < 0x111020)

/-- The blocks of registers. -/
def inBlocks (off : Nat) : Bool := decide (off < 0x1000000)

/-! ### Windows -/

/-- The offset in the store of level sets of word `k` of the set that CH_LVSELd shows (Table 10.10). -/
def Mod.lvWindow (m : Mod) (d k : Nat) : Nat :=
  lvOff (128 * d + m.rd (Reg.CH_LVSEL d) Fields.CH_LVSEL.CH) (m.rd (Reg.CH_LVSEL d) Fields.CH_LVSEL.SET) k

/-- That of the HV set that HV_SETSEL shows (Table 10.13). -/
def Mod.hvWindow (m : Mod) (k : Nat) : Nat :=
  hvOff (m.rd Reg.HV_SETSEL Fields.HV_SETSEL.HV) (m.rd Reg.HV_SETSEL Fields.HV_SETSEL.SET) k

/-- That of the relay set that RLY_SETSEL shows: words 0 and 1 CLOSE, 2 and 3 CARE (Table 10.14). -/
def Mod.rlyWindow (m : Mod) (k : Nat) : Nat := rlyOff (m.rd Reg.RLY_SETSEL Fields.RLY_SETSEL.SET) k

/-- TABLE of CAL_TSEL; 5 to 7 act as 0 (Table 13.8). -/
def Mod.calSelTable (m : Mod) : Nat :=
  let t := m.rd Reg.CAL_TSEL Fields.CAL_TSEL.TABLE
  if t < 5 then t else 0

def Mod.calSelUnit (m : Mod) : Nat := m.rd Reg.CAL_TSEL Fields.CAL_TSEL.UNIT

/-- Units and items of a calibration table (Table 13.8). -/
def calSize (t : Nat) : Nat × Nat :=
  match t with
  | 0 => (32, 19)
  | 1 => (8, 3)
  | 2 => (8, 4)
  | 3 => (36, 4096)
  | _ => (8, 1)

/-- The entry that CAL_TSEL selects, where the table has it. -/
def Mod.calWindow (m : Mod) : Option Nat :=
  let t := m.calSelTable
  let i := m.rd Reg.CAL_TSEL Fields.CAL_TSEL.ITEM
  if m.calSelUnit < (calSize t).1 ∧ i < (calSize t).2 then some (calOff t m.calSelUnit i) else none

/-! ### Words that follow other state -/

/-- HOST_QCTX_STATE of the selected queue (Table 4.18). -/
def Mod.qctxState (m : Mod) : Word :=
  let x := m.queue m.qsel
  BitVec.ofNat 32 (x.head + 0x10000 * b2n x.bound + 0x20000 * b2n x.halted + 0x40000 * x.onchip.length)

/-- HOST_QCTX_TAIL of the selected queue (Table 4.19). -/
def Mod.qctxTail (m : Mod) : Word :=
  let x := m.queue m.qsel
  BitVec.ofNat 32 (x.tail + 0x10000 * min 0xFFFF x.outstanding.length)

/-- Ready entries that name a unit (WAITING of HAT_USTATE). -/
def Mod.entriesFor (m : Mod) (cls u : Nat) : Nat :=
  m.queues.foldl (fun a e => a + (e.2.ready.filter (fun r => match m.inst r.inst with
    | some x => (x.node r.node).cls == cls && (x.node r.node).unit == u
    | none => false)).length) 0

/-- HAT_USTATE of the selected unit (Table 5.15). -/
def Mod.ustate (m : Mod) : Word :=
  let c := m.rd Reg.HAT_USEL Fields.HAT_USEL.CLASS
  let u := m.rd Reg.HAT_USEL Fields.HAT_USEL.INDEX
  if unitExists c u then
    BitVec.ofNat 32 (b2n (m.unitEnabled c u) + 2 * b2n (m.unitBusy c u) + 0x10000 * m.entriesFor c u)
  else 0#32

/-- AVAILABLE, RUNNING and SUSPENDED of a site core (Table 6.15). -/
def Mod.scoreStatus (m : Mod) (c : Nat) : Nat :=
  b2n (m.coreUp c) + 2 * b2n (m.score c).step.isSome + 4 * (m.score c).susp.length

/-- Unallocated blocks in one half of the prefetch pool (Table 7.23). -/
def Mod.poolFree (m : Mod) (half : Nat) : Nat :=
  64 - (List.range 16).foldl (fun a n => a + m.rd (Reg.SEQ_PF_CFG (16 * half + n)) Fields.SEQ_PF_CFG.BLOCKS) 0

/-- ANY of CH_TFLAGd: the OR of the flags of the die's channels (Table 8.9). -/
def Mod.anyFlags (m : Mod) (d : Nat) : Nat :=
  ((List.range 128).foldl (fun a c => a ||| m.reg (Reg.CH_TSTAT d c)) 0#32).toNat % 32

/-- The logic levels of lines TRIG0 to TRIG7, XTRIG0 and XTRIG1 (Table 11.13). -/
def Mod.lineLevels (m : Mod) : Nat := (List.range 10).foldl (fun a l => a + 2 ^ l * b2n (m.trigLogic l)) 0

/-- Whether any unit is in MCHK (Table 18.7). -/
def Mod.mchkAny (m : Mod) : Bool := !m.hat.mchk.isEmpty || (List.range 32).any (fun n => m.seqState n == 6)

/-- The word a register shows, by its name and indices. -/
def Mod.liveWord (m : Mod) (name : RegName) (i j off : Nat) : Word :=
  let w := m.reg off
  match name with
  | .HOST_QCTX_STATE => m.qctxState
  | .HOST_QCTX_TAIL => m.qctxTail
  | .HAT_STATUS => BitVec.ofNat 32 (m.instCount + 0x400 * m.privCount)
  | .HAT_USTATE => m.ustate
  | .HAT_Q_CFG => fput Fields.HAT_Q_CFG.DEPTH (m.queue i).ready.length w
  | .MCS_SCORE_STATUS => fput ⟨0, 4⟩ (m.scoreStatus i) w
  | .SEQ_STATUS => fput Fields.SEQ_STATUS.MIRROR (b2n (m.pairProfile && decide (16 ≤ i))) w
  | .SEQ_PF_FREE => BitVec.ofNat 32 (m.poolFree 0 + 0x100 * m.poolFree 1)
  | .CH_TFLAG => fput Fields.CH_TFLAG.ANY (m.anyFlags i) w
  | .CH_LSTAT => fput Fields.CH_LSTAT.SHADOWED (b2n !(m.shadowers (128 * i + j)).isEmpty) w
  | .CH_LVDATA0 => m.reg (m.lvWindow i 0)
  | .CH_LVDATA1 => m.reg (m.lvWindow i 1)
  | .CH_LVDATA2 => m.reg (m.lvWindow i 2)
  | .GLB_LVL_SAMPLE_LO => BitVec.ofNat 32 (m.ttime / 1000)
  | .GLB_LVL_SAMPLE_HI => BitVec.ofNat 32 (m.ttime / 1000 / 0x100000000)
  | .HV_SETDATA0 => m.reg (m.hvWindow 0)
  | .HV_SETDATA1 => m.reg (m.hvWindow 1)
  | .HV_SETDATA2 => m.reg (m.hvWindow 2)
  | .HV_SETDATA3 => m.reg (m.hvWindow 3)
  | .RLY_CLOSE_LO => m.reg (m.rlyWindow 0)
  | .RLY_CLOSE_HI => m.reg (m.rlyWindow 1)
  | .RLY_CARE_LO => m.reg (m.rlyWindow 2)
  | .RLY_CARE_HI => m.reg (m.rlyWindow 3)
  | .TRIG_STATE => BitVec.ofNat 32 m.lineLevels
  | .WAVE_EPOCH_LO => BitVec.ofNat 32 m.epochCount
  | .WAVE_EPOCH_HI => BitVec.ofNat 32 (m.epochCount / 0x100000000)
  | .TD_REMAIN => BitVec.ofNat 32 (m.dom i).remainNs
  | .TD_FRAC => BitVec.ofNat 32 (m.dom i).frac
  | .TD_NS => BitVec.ofNat 32 (m.dom i).ns
  | .TD_SEC_LO => BitVec.ofNat 32 (m.dom i).sec
  | .TD_SEC_HI => BitVec.ofNat 32 ((m.dom i).sec / 0x100000000)
  | .TP_TSQ => m.tsqWord i j
  | .PWR_HV_MON => fput Fields.PWR_HV_MON.CLAMP_SUM (m.clampSum 32 8) w
  | .CAL_STATUS => fput Fields.CAL_STATUS.PLATE_OK (b2n m.calPlate)
      (if m.firmwareRuns then w else fput Fields.CAL_STATUS.ASSESS_OK 0 w)
  | .CAL_TDATA => match m.calWindow with
    | some o => m.reg o
    | none => 0#32
  | .ERR_STATUS => BitVec.ofNat 32 (m.flt.staging.length + 0x100 * b2n m.mchkAny)
  | .PLT_DOCKS | .PLT_RCNT => if m.plt.counting then w else 0#32
  | _ => w

/-- The word at a BAR0 offset that a read of 32 bits returns, without what the read does: a reserved address and the
doorbell area read 0 (R6, R88). -/
def Mod.view (m : Mod) (off : Nat) : Word :=
  if inMsix off then m.reg off
  else if !inBlocks off then 0#32
  else match regAt off with
    | none => 0#32
    | some (d, ix) => m.liveWord d.name (ix.getD 0 0) (ix.getD 1 0) off

/-! ### Reads -/

/-- The high word at `off` as an initiator reads it: the latched word where it has read the low word (R4). -/
def Mod.latched (m : Mod) (i : Init) (off : Nat) : Word :=
  match SMap.find m.latch (latchKey i off) with
  | some v => v
  | none => m.view off

/-- An initiator latches the word at `off`. -/
def Mod.latchWord (i : Init) (off : Nat) (m : Mod) : Mod :=
  { m with latch := SMap.insert m.latch (latchKey i off) (m.view off) }

/-- The low words whose read latches the high word (R4), those of the pairs that are independent for writing (R5) and
SEC of a captured time domain (Table 12.10) among them. -/
def latchLow (n : RegName) (ix : List Nat) : Bool :=
  pairLows.contains n || n == .RLY_FLT_LO || n == .HAT_SITE_LOST_LO || n == .SEQ_PRF_SITE_FAIL_LO ||
    (n == .TIME_SNAP_TD && ix.getD 1 0 == 2)

/-- The words that a read may find latched. -/
def latchHigh (n : RegName) (ix : List Nat) : Bool :=
  pairHighs.contains n || n == .RLY_FLT_HI || n == .HAT_SITE_LOST_HI || n == .SEQ_PRF_SITE_FAIL_HI || n == .TD_NS ||
    n == .TD_SEC_LO || (n == .TIME_SNAP_TD && ix.getD 1 0 == 3)

/-- A read of 32 bits by an initiator: the word, and the module after it. Outside every block ACCESS_ERR is set (R430).
TDk_FRAC latches the three words after it (R309), RXDATA pops a word (R315). -/
def Mod.busRead (i : Init) (off : Nat) (m : Mod) : Word × Mod :=
  if m.isLost 0 then (0#32, m)
  else if off % 4 ≠ 0 then (0#32, if inDoorbells off then m else m.accessErr i off)
  else if inDoorbells off then (0#32, m)
  else if !inBlocks off then (0#32, m.accessErr i off)
  else match regAt off with
    | none => (m.view off, m)
    | some (d, ix) =>
      if d.name = .TP_RXDATA then m.rxPop (ix.getD 0 0)
      else if d.name = .TD_FRAC then
        (m.view off, ((m.latchWord i (off + 4)).latchWord i (off + 8)).latchWord i (off + 12))
      else
        let v := if latchHigh d.name ix then m.latched i off else m.view off
        (v, m.when (latchLow d.name ix && d.name != .TD_SEC_LO) (Mod.latchWord i (off + 4)))

/-- A read whose word goes back to the initiator. -/
def Mod.readOut (i : Init) (off : Nat) (m : Mod) : Mod :=
  let r := m.busRead i off
  r.2.emit (.regRead (initKey i) off r.1)

end Sys2Proof.Machine
end

