-- ==== Sys2Proof/Machine/RegWrite.lean ====
section
/-!
DEFINITION. What a register write does: the words a write leaves, the pairs of R5, the While running column with its
refusals (R9), the actions of command bits, and the journal of a pair (R395).
-/

namespace Sys2Proof.Machine

/-- A write of 32 bits to a register: its initiator, offset, description, indices and value. -/
structure Wr where
  init : Init
  off : Nat
  d : RegDesc
  ix : List Nat
  v : Word

/-- The indices of an array register. -/
def Wr.i (w : Wr) : Nat := w.ix.getD 0 0
def Wr.j (w : Wr) : Nat := w.ix.getD 1 0

/-- A field of the value written. -/
def Wr.g (w : Wr) (f : Fld) : Nat := fget f w.v
def Wr.b (w : Wr) (f : Fld) : Bool := w.g f != 0

/-- The word a register holds after a write: RW and RWS bits take the value, W1C bits written 1 clear (Table 0.3). -/
def RegDesc.after (d : RegDesc) (old v : Word) : Word := ((old &&& ~~~d.rw) ||| (v &&& d.rw)) &&& ~~~(v &&& d.w1c)

def Wr.next (w : Wr) (m : Mod) : Word := w.d.after (m.reg w.off) w.v
def Wr.put (w : Wr) (m : Mod) : Mod := m.setReg w.off (w.next m)

/-- Whether the write would change a field. -/
def Wr.moves (w : Wr) (m : Mod) (f : Fld) : Bool := fget f (w.next m) != m.rd w.off f

/-- The low word that the initiator of a high word has staged, 0 where it has staged none (R5). -/
def Wr.low (w : Wr) (m : Mod) : Word :=
  match SMap.find m.stage (latchKey w.init (w.off - 4)) with
  | some v => v
  | none => 0#32

/-- The 64-bit value of a pair as its high word is written. -/
def Wr.val64 (w : Wr) (m : Mod) : Nat := (w.low m).toNat + 0x100000000 * w.v.toNat

/-- Both words of a pair take their value (R5). -/
def Wr.putPair (w : Wr) (m : Mod) : Mod :=
  match regAt (w.off - 4) with
  | some (d, _) => w.put (m.setReg (w.off - 4) (d.after (m.reg (w.off - 4)) (w.low m)))
  | none => w.put m

/-- What a write comes to: accepted, with the module after it, or refused or discarded. -/
abbrev Written := Except Mod Mod

/-- A write refused under R9. -/
def Wr.no (w : Wr) (m : Mod) : Written := .error (m.refuse w.init w.off)

/-- A write whose guard refuses it, else its effect. -/
def Wr.unless (w : Wr) (busy : Bool) (f : Mod → Mod) (m : Mod) : Written := if busy then w.no m else .ok (f m)

/-! ### Global and power (Chapters 1 to 3) -/

/-- PWR_TH: thresholds above their limits read back as the limits (Table 2.14). -/
def Mod.clampTh (m : Mod) : Mod :=
  let r := Reg.PWR_TH
  let thr := min 100 (m.rd r Fields.PWR_TH.TEMP_THROTTLE)
  ((m.wr r Fields.PWR_TH.TEMP_THROTTLE thr).wr r Fields.PWR_TH.TEMP_WARN
    (min thr (m.rd r Fields.PWR_TH.TEMP_WARN))).wr r Fields.PWR_TH.VIN_ITH (min 360 (m.rd r Fields.PWR_TH.VIN_ITH))

/-- Power events whose cause persists are set again after a clear, each with a new record (R429). -/
def Mod.standing (m : Mod) : Mod :=
  let warn : Int := 8 * m.rd Reg.PWR_TH Fields.PWR_TH.TEMP_WARN
  let hot := (List.range 20).any (fun s => m.sensorValid s && decide (warn ≤ m.sensorTemp s))
  let hgnd := (signed 12 (m.rd Reg.PWR_HV_MON Fields.PWR_HV_MON.HGND_OFS)).natAbs
  let m1 := m.when hot (Mod.pwrEvent 1 Fields.PWR_EVENT.TEMP_WARN)
  let m2 := m1.when (decide (1050 < hgnd)) (Mod.pwrEvent 3 Fields.PWR_EVENT.HGND_RANGE)
  m2.sys.tripped.foldl (fun s e => s.pwrEvent 3 (tripFld e.1)) m2

/-- GLB_RST_CTRL (R67, R69, R70): HANDOVER acts in a working pair with protection on both pin dies. -/
def Wr.rstCtrl (w : Wr) (m : Mod) : Written :=
  let ok (d : Nat) : Bool := m.flag (Reg.SL_PDIE_STATUS d) Fields.SL_PDIE_STATUS.GROUP_OK
  if w.g Fields.GLB_RST_CTRL.KEY ≠ 0x5A17 then .error m
  else if w.b Fields.GLB_RST_CTRL.WARM then
    if w.b Fields.GLB_RST_CTRL.HANDOVER then
      w.unless (!(m.pairActive && m.groupUp 0 && ok 0 && ok 1)) (Mod.handover 6) m
    else .ok (m.warmReset 5)
  else .ok (m.when (w.b Fields.GLB_RST_CTRL.COLD) Mod.coldRequest)

/-- A profile select (R74): the warm reset that loads profile `p`. -/
def Mod.profSelect (p : Nat) (m : Mod) : Mod :=
  ((m.wr Reg.GLB_START_STATE Fields.GLB_START_STATE.PROFILE p).wr Reg.GLB_START_STATE
    Fields.GLB_START_STATE.BY_CMD 1).warmReset 7

/-- GLB_PROF_CMD (R74, R75). -/
def Wr.profCmd (w : Wr) (m : Mod) : Written :=
  let p := w.g Fields.GLB_PROF_CMD.PROFILE
  if w.g Fields.GLB_PROF_CMD.KEY ≠ 0x5A17 then .error m
  else match w.g Fields.GLB_PROF_CMD.OP with
    | 1 => if m.sys.profWrite.isSome then w.no (m.profErr 4) else w.unless m.anySeqRunning (Mod.profSelect p) m
    | 2 => .ok (m.profileWrite p)
    | _ => .error m

def Wr.global (w : Wr) (m : Mod) : Written :=
  match w.d.name with
  | .PWR_GOV_CTRL => .ok (w.put m).applyLevel
  | .PWR_TH => .ok (w.put m).clampTh
  | .PWR_EVENT => .ok (w.put m).standing
  | .GLB_RST_CTRL => w.rstCtrl m
  | .GLB_PROF_CMD => w.profCmd m
  | .GLB_FLASH_SRC_HI => w.unless (m.flag Reg.GLB_PROF_STATUS Fields.GLB_PROF_STATUS.BUSY) w.putPair m
  | _ => .ok (w.put m)

/-! ### Host and queue fabric (Chapter 4) -/

/-- A refused write of a completion ring also sets CTX_REFUSED (Table 4.12). -/
def Wr.noRing (w : Wr) (m : Mod) : Written := .error ((m.refuse w.init w.off).ctxRefused 0 w.i)

/-- HOST_CQn_CFG (Table 4.22). -/
def Wr.cqCfg (w : Wr) (m : Mod) : Written :=
  let c := w.i
  let on := m.cqOn c
  let nx := w.b Fields.HOST_CQ_CFG.ENABLE
  let size := w.g Fields.HOST_CQ_CFG.SIZE_LOG2
  let bound := m.queues.any (fun e => e.2.bound && e.2.cq == c)
  let y := m.cq c
  if (on && w.moves m Fields.HOST_CQ_CFG.SIZE_LOG2) || (nx && !on && (decide (size < 4) || decide (16 < size))) ||
      (on && !nx && (bound || !y.waiting.isEmpty || y.resv != 0)) then w.noRing m
  else if nx && !on then
    .ok (((w.put m).setCq c { y with head := 0 }).setReg (Reg.HOST_CQ_STATE c) (fput Fields.HOST_CQ_STATE.PHASE 1 0#32))
  else .ok ((w.put m).cqRecount c)

/-- HOST_BAR4_BASE (R84): a base above 0x7_0000_0000 is discarded whole. -/
def Wr.bar4Base (w : Wr) (m : Mod) : Written :=
  let base := (w.low m).toNat / 0x10000 * 0x10000 + 0x100000000 * w.g Fields.HOST_BAR4_BASE_HI.BASE_H
  if 0x700000000 < base then .error (m.hostErr Fields.HOST_ERR.BAR4_RANGE 0 0) else .ok (w.putPair m)

def Wr.host (w : Wr) (m : Mod) : Written :=
  match w.d.name with
  | .HOST_BAR4_BASE_HI => w.bar4Base m
  | .HOST_QCMD => .ok (m.qCmd (w.g Fields.HOST_QCMD.OP))
  | .HOST_CQ_BASE_HI => if m.cqOn w.i then w.noRing m else .ok (w.putPair m)
  | .HOST_CQ_CFG => w.cqCfg m
  | .HOST_QCTX_BASE_HI => .ok (w.putPair m)
  | _ => .ok (w.put m)

/-! ### Hatch (Chapter 5) -/

/-- HAT_GRPn_CFG (R126 to R128). -/
def Wr.grpCfg (w : Wr) (m : Mod) : Written :=
  let on := m.flag w.off Fields.HAT_GRP_CFG.ENABLE
  let nx := w.b Fields.HAT_GRP_CFG.ENABLE
  let m1 := (w.put m).when (on && !nx) (Mod.groupOff w.i)
  .ok ((m1.when (!nx && w.b Fields.HAT_GRP_CFG.FLUSH) (Mod.groupFlush w.i)).when (!on && nx) (Mod.groupFresh w.i))

/-- Whether a queue holds entries: on chip, waiting for a place, privileged or spilled. -/
def Mod.queueHolds (m : Mod) (q : Nat) : Bool :=
  let y := m.queue q
  !y.ready.isEmpty || !y.held.isEmpty || !y.priv.isEmpty ||
    (m.flag (Reg.HAT_Q_CFG q) Fields.HAT_Q_CFG.PRIV && m.spilled (m.rd (Reg.HAT_Q_CFG q) Fields.HAT_Q_CFG.SPILL_CTX) != 0)

/-- HAT_Qn_CFG (R129). -/
def Wr.queueCfg (w : Wr) (m : Mod) : Written :=
  if (w.moves m Fields.HAT_Q_CFG.PRIV || w.moves m Fields.HAT_Q_CFG.SPILL_CTX) && m.queueHolds w.i then w.no m
  else if w.b Fields.HAT_Q_CFG.PRIV && !m.flag w.off Fields.HAT_Q_CFG.PRIV && decide (128 ≤ m.privCount) then
    .error (m.mark Reg.HAT_ERR Fields.HAT_ERR.PRIV_LIMIT)
  else .ok (w.put m)

/-- HAT_TRACE_CTRL: DEST, SIZE_LOG2 and GROUP keep while EN (Table 5.14). -/
def Wr.traceCtrl (w : Wr) (m : Mod) : Written :=
  w.unless (m.flag w.off Fields.HAT_TRACE_CTRL.EN && (w.moves m Fields.HAT_TRACE_CTRL.DEST ||
    w.moves m Fields.HAT_TRACE_CTRL.SIZE_LOG2 || w.moves m Fields.HAT_TRACE_CTRL.GROUP)) w.put m

def Wr.hatch (w : Wr) (m : Mod) : Written :=
  match w.d.name with
  | .HAT_TRACE_CTRL => w.traceCtrl m
  | .HAT_TRACE_BASE_HI => w.unless (m.flag Reg.HAT_TRACE_CTRL Fields.HAT_TRACE_CTRL.EN) w.putPair m
  | .HAT_UCMD => .ok (m.ucmd (w.g Fields.HAT_UCMD.OP))
  | .HAT_GRP_CFG => w.grpCfg m
  | .HAT_Q_CFG => w.queueCfg m
  | .HAT_SPILL_BASE_HI => w.unless (m.spilled w.i != 0) w.putPair m
  | .HAT_SPILL_CFG => w.unless (m.spilled w.i != 0 && w.moves m Fields.HAT_SPILL_CFG.SIZE_LOG2) w.put m
  | _ => .ok (w.put m)

/-! ### Cores and control store (Chapter 6) -/

/-- MCS_CTRL (R150, R151): refused while any sequencer runs; RELOAD takes a write that names both. -/
def Wr.mcsCtrl (w : Wr) (m : Mod) : Written :=
  if !w.b Fields.MCS_CTRL.CHECK && !w.b Fields.MCS_CTRL.RELOAD then .ok m
  else w.unless m.anySeqRunning (Mod.checkStart (w.b Fields.MCS_CTRL.RELOAD)) m

/-- MCS_SCOREn_CTRL (R138, R139): HOLD keeps while a step runs or is suspended; HOLD set puts the core in reset. -/
def Wr.scoreCtrl (w : Wr) (m : Mod) : Written :=
  let x := m.score w.i
  if w.moves m Fields.MCS_SCORE_CTRL.HOLD && (x.step.isSome || !x.susp.isEmpty) then w.no m
  else .ok ((w.put m).when (w.b Fields.MCS_SCORE_CTRL.HOLD) (fun s =>
    (s.setScore w.i { x with booted := false }).setHart w.i Hart.fresh))

/-- MCS_MCOREm_CTRL (R138, R147): HOLD puts the core in reset, its release takes it out of MCHK (Table 18.8), KICK
and a rise of WDOG_EN start the watchdog period. -/
def Wr.mcoreCtrl (w : Wr) (m : Mod) : Written :=
  let k := w.i
  let hold := m.flag w.off Fields.MCS_MCORE_CTRL.HOLD
  let nx := w.b Fields.MCS_MCORE_CTRL.HOLD
  let wdog := w.b Fields.MCS_MCORE_CTRL.WDOG_EN && !m.flag w.off Fields.MCS_MCORE_CTRL.WDOG_EN
  let m1 := (w.put m).when nx (fun s => (s.setMcoreRunning k false).setHart (16 + k) Hart.fresh)
  let m2 := m1.when (hold && !nx) (Mod.setMchk srcMCS (16 + k) false)
  .ok (m2.when (wdog || w.b Fields.MCS_MCORE_CTRL.KICK) (Mod.kick k))

/-- MCS_MGMT_CFG: SHED_LO above SHED_HI reads back as SHED_HI (Table 6.18). -/
def Mod.clampShed (m : Mod) : Mod :=
  let r := Reg.MCS_MGMT_CFG
  m.wr r Fields.MCS_MGMT_CFG.SHED_LO (min (m.rd r Fields.MCS_MGMT_CFG.SHED_HI) (m.rd r Fields.MCS_MGMT_CFG.SHED_LO))

def Wr.cores (w : Wr) (m : Mod) : Written :=
  match w.d.name with
  | .MCS_CTRL => w.mcsCtrl m
  | .MCS_SCORE_CTRL => w.scoreCtrl m
  | .MCS_MCORE_CTRL => w.mcoreCtrl m
  | .MCS_MGMT_CFG => .ok (w.put m).clampShed
  | _ => .ok (w.put m)

/-! ### Sequencers (Chapters 7 to 9) -/

/-- PAUSE written 0 (R187): a request that waits is cancelled, a paused burst resumes with d at the clear; one that has
emitted nothing yet goes on loading. -/
def Mod.unpause (n : Nat) (m : Mod) : Mod :=
  let x := m.seq n
  let m1 := m.wr (Reg.SEQ_STATUS n) Fields.SEQ_STATUS.PAUSE_PENDING 0
  if !x.paused then m1
  else if x.num = 0 then (m1.setSeq n { x with paused := false }).setSeqState n 1
  else if x.wait.isSome then ((m1.setSeq n { x with paused := false }).setSeqState n 4).sendDec n 7 0 x.num
  else
    let y : Seq := { x with
      paused := false
      resume := some (max (x.resume.getD 0) (m.ttime - x.sclk0 + 16))
      whold := x.hold
      ctlPre := x.ctl.length }
    ((m1.setSeq n y).setSeqState n 2).sendDec n 7 0 x.num

/-- CLR_MCHK (Table 7.12): a sequencer in MCHK returns to IDLE and SEQn_MSTATE clears; Hatch takes it back (R418). -/
def Mod.clrMchk (n : Nat) (m : Mod) : Mod :=
  if m.seqState n ≠ 6 then m
  else ((m.setSeqState n 0).setReg (Reg.SEQ_MSTATE n) 0#32).setMchk srcSEQ n false

/-- SEQn_CTRL (R187, R188). -/
def Wr.seqCtrl (w : Wr) (m : Mod) : Mod :=
  let n := w.i
  let pause := w.b Fields.SEQ_CTRL.PAUSE
  let m1 := w.put m
  let m2 := if pause then m1.when ((m.seq n).live && !(m.seq n).paused)
      (Mod.wr (Reg.SEQ_STATUS n) Fields.SEQ_STATUS.PAUSE_PENDING 1)
    else m1.unpause n
  (m2.when (w.b Fields.SEQ_CTRL.HALT) (Mod.stopSeq n stHALTED)).when (w.b Fields.SEQ_CTRL.CLR_MCHK) (Mod.clrMchk n)

/-- SEQn_PF_CFG (R178): refused unless IDLE, and where the half would hold more than 64 blocks. -/
def Wr.pfCfg (w : Wr) (m : Mod) : Written :=
  let half := w.i / 16
  let rest := (List.range 16).foldl (fun a k => if 16 * half + k = w.i then a
    else a + m.rd (Reg.SEQ_PF_CFG (16 * half + k)) Fields.SEQ_PF_CFG.BLOCKS) 0
  w.unless (m.seqState w.i != 0 || decide (64 < rest + w.g Fields.SEQ_PF_CFG.BLOCKS)) w.put m

/-- A flag that a write has set ends a WTRG that waits for it (R169). -/
def Mod.flagSet (n : Nat) (m : Mod) : Mod :=
  let x := m.seq n
  match x.wait with
  | some (.trig s k _ _) =>
    m.when (s == 2 && nbit (m.rd (Reg.SEQ_FLAGS n) Fields.SEQ_FLAGS.USER) k && x.live && !x.follows) (Mod.wtrgSeen n x.sclk)
  | _ => m

/-- SEQn_PORTk (R152): refused unless IDLE, and where it would take a channel of another port of this module. A channel
taken out of its port has the outputs of Table 3.2 again: its driver is off and nothing waits at its pin (R210). -/
def Wr.seqPort (w : Wr) (m : Mod) : Written :=
  let others := (List.range 32).filter (fun n => n != w.i && !(m.pairProfile && decide (16 ≤ n)))
  let held := others.any (fun n => (m.reg (Reg.SEQ_PORT n w.j)) &&& w.v != 0#32)
  let out := (allBelow 32 (fun b => (m.reg w.off &&& ~~~w.v).getLsbD b)).map (fun b => 32 * w.j + b)
  w.unless (m.seqState w.i != 0 || held) (fun s => out.foldl (fun t ch => t.setPin ch Pin.fresh) (w.put s)) m

/-- SEQ_GRPg_RESV (R181): refused below USED and where the sum would pass 2,720. -/
def Wr.grpResv (w : Wr) (m : Mod) : Written :=
  let rest := (List.range 64).foldl (fun a g => if g = w.i then a else a + m.rd (Reg.SEQ_GRP_RESV g) Fields.SEQ_GRP_RESV.RESV) 0
  let v := w.g Fields.SEQ_GRP_RESV.RESV
  w.unless (decide (2720 < rest + v) || decide (v < m.rd w.off Fields.SEQ_GRP_RESV.USED)) (fun s => w.put (s.settleBuckets w.i)) m

/-- SEQ_BARk_MASK: refused while a member, old or new, runs (Table 7.23). -/
def Wr.barMask (w : Wr) (m : Mod) : Written :=
  w.unless ((List.range 32).any (fun n => (m.reg w.off ||| w.v).getLsbD n && m.seqRunning n)) w.put m

/-- A period out of its range acts as the nearest limit (Table 8.4). -/
def Mod.clampPeriod (off : Nat) (m : Mod) : Mod :=
  m.wr off Fields.SEQ_TPER.PERIOD (max 256 (min 131072000 (m.rd off Fields.SEQ_TPER.PERIOD)))

/-- SEQ_PRFn_RD and SRD (R236): in STREAM a write of RD is refused; out of range a write sets RD_RANGE. -/
def Wr.consume (w : Wr) (m : Mod) : Written :=
  let n := w.i
  let spill := w.d.name == .SEQ_PRF_SRD
  let wr := (m.reg (if spill then Reg.SEQ_PRF_SWR n else Reg.SEQ_PRF_WR n)).toNat
  if !spill && (m.ring n).mode == 2 then w.no m
  else if (if spill then m.spillCap n else 1024) < (wr + 2 ^ 32 - w.v.toNat) % 2 ^ 32 then
    .error (m.prfErr n Fields.SEQ_PRF_ERR.RD_RANGE)
  else .ok ((w.put m).journalConsumed n)

/-- The spill region keeps, both words, while spilled records are not consumed (the note under Table 9.6). -/
def Mod.spillKept (m : Mod) (n : Nat) : Bool :=
  (m.ring n).mode == 2 && m.reg (Reg.SEQ_PRF_SWR n) != m.reg (Reg.SEQ_PRF_SRD n)

/-- The sequencer whose block or Proof ring a register belongs to. -/
def Wr.seqOf (w : Wr) : Option Nat :=
  match w.d.name with
  | .SEQ_GRP_RESV | .SEQ_BAR_MASK | .SEQ_PF_FREE | .SEQ_PRF_SITE_FAIL_LO | .SEQ_PRF_SITE_FAIL_HI | .SEQ_PRF_ERR => none
  | .SEQ_PRF_STATUS | .SEQ_PRF_RD | .SEQ_PRF_SRD => none
  | _ => some w.i

/-- Whether a write is the host's to a register of a mirror sequencer, which the partner's journal writes (R154). -/
def Wr.ofMirror (w : Wr) (m : Mod) : Bool :=
  w.init == .host && m.pairProfile && (match w.seqOf with
    | some n => decide (16 ≤ n)
    | none => false)

def Wr.seqs (w : Wr) (m : Mod) : Written :=
  let n := w.i
  if w.ofMirror m then w.no m
  else match w.d.name with
  | .SEQ_CTRL => .ok (w.seqCtrl m)
  | .SEQ_PF_CFG => w.pfCfg m
  | .SEQ_FLAGS => .ok ((w.put m).flagSet n)
  | .SEQ_PORT => w.seqPort m
  | .SEQ_GRP_RESV => w.grpResv m
  | .SEQ_BAR_MASK => w.barMask m
  | .SEQ_TPER => w.unless (m.seqState n != 0) (fun s => (w.put s).clampPeriod w.off) m
  | .SEQ_PRF_CFG => w.unless (m.seqRunning n && w.moves m Fields.SEQ_PRF_CFG.SIZE_LOG2) w.put m
  | .SEQ_PRF_RD | .SEQ_PRF_SRD => w.consume m
  | .SEQ_PRF_SPILL_BASE_HI => w.unless (m.seqRunning n || m.spillKept n) w.putPair m
  | .SEQ_PRF_TRC_BASE_HI => w.unless (m.seqRunning n) w.putPair m
  | .SEQ_PRF_TRC_CFG | .SEQ_PRF_TRC_START | .SEQ_PRF_TRC_LEN => w.unless (m.seqRunning n) w.put m
  | _ => .ok (w.put m)

/-! ### Pin dies (Chapters 7 to 10, 13) -/

/-- Whether a calibration run writes the timing corrections of a die (R333, Table 13.2). -/
def Mod.calTiming (m : Mod) (die : Nat) : Bool := m.calScoped die && nbit m.cal.doms 6

/-- CHn_LCTRL (R244, R256, R262, R333). -/
def Wr.lctrl (w : Wr) (m : Mod) : Written :=
  let ch := 128 * w.i + w.j
  let conn := w.moves m Fields.CH_LCTRL.CONN
  let up := conn && w.b Fields.CH_LCTRL.CONN
  let off := w.b Fields.CH_LCTRL.PMU_OFF
  if (conn && m.ownerRuns ch) || (up && !(m.shadowers ch).isEmpty) || (off && m.measOn ch) || m.calScoped w.i then w.no m
  else .ok ((w.put m).when off (Mod.pmuOff ch))

/-- CHn_FCNT (R221): the count is set, and FFIRST becomes all ones. -/
def Wr.fcnt (w : Wr) (m : Mod) : Mod :=
  ((w.put m).setReg (Reg.CH_FFIRST_LO w.i w.j) 0xFFFFFFFF#32).setReg (Reg.CH_FFIRST_HI w.i w.j) 0xFFFFFFFF#32

/-- A word of the level set that the window shows (R240). -/
def Wr.lvData (w : Wr) (k : Nat) (m : Mod) : Mod := m.setReg (m.lvWindow w.i k) w.v

def Wr.pinDie (w : Wr) (m : Mod) : Written :=
  let ch := 128 * w.i + w.j
  let idle := !m.ownerBusy ch
  match w.d.name with
  | .CH_VMAP | .CH_VCFG | .CH_CCFG => w.unless (m.ownerRuns ch) w.put m
  | .CH_FCNT => w.unless (m.ownerRuns ch) w.fcnt m
  | .CH_TSET_CFG | .CH_TSET_D0 | .CH_TSET_D1 | .CH_TSET_D2 | .CH_TSET_D3 | .CH_TSET_S0 | .CH_TSET_S1 | .CH_UOFS =>
    w.unless (!idle) w.put m
  | .CH_DSK_DR | .CH_DSK_DF | .CH_DSK_CMP | .CH_LIND | .CH_LINS => w.unless (!idle || m.calTiming w.i) w.put m
  | .CH_LCTRL => w.lctrl m
  | .CH_LCAL => w.unless (m.ownerRuns ch || m.measOn ch || m.calOn) w.put m
  | .CH_LVDATA0 => .ok (w.lvData 0 m)
  | .CH_LVDATA1 => .ok (w.lvData 1 m)
  | .CH_LVDATA2 => .ok (w.lvData 2 m)
  | .CH_LQCMD => .ok (m.lqCmdCh w.init w.i w.v)
  | _ => .ok (w.put m)

/-! ### H0 (Chapter 10) -/

/-- HVn_CTRL (R258 to R260, R333). -/
def Wr.hvCtrl (w : Wr) (m : Mod) : Written :=
  if m.calScoped 2 then w.no m
  else .ok ((m.wr w.off Fields.HV_CTRL.LIMIT_OFF (w.g Fields.HV_CTRL.LIMIT_OFF)).hvEnable w.i (w.b Fields.HV_CTRL.EN))

/-- HVn_DCFG and HVn_DTIM (R262): refused while a port that owns SRC, before or after the write, is not IDLE. -/
def Wr.shadowCfg (w : Wr) (m : Mod) : Written :=
  let old := m.rd (Reg.HV_DCFG w.i) Fields.HV_DCFG.SRC
  let new := if w.d.name = .HV_DCFG then w.g Fields.HV_DCFG.SRC else old
  w.unless (m.ownerBusy old || m.ownerBusy new) w.put m

/-- A word of the HV set that the window shows (R257). -/
def Wr.hvData (w : Wr) (k : Nat) (m : Mod) : Mod := m.setReg (m.hvWindow k) (w.d.after (m.reg (m.hvWindow k)) w.v)

/-- CLOSE or CARE of the relay set that the window shows (R266). -/
def Wr.relayData (w : Wr) (k : Nat) (m : Mod) : Mod := (m.setReg (m.rlyWindow k) (w.low m)).setReg (m.rlyWindow (k + 1)) w.v

def Wr.h0 (w : Wr) (m : Mod) : Written :=
  match w.d.name with
  | .HV_CTRL => w.hvCtrl m
  | .HV_DCFG | .HV_DTIM => w.shadowCfg m
  | .HV_SETDATA0 => .ok (w.hvData 0 m)
  | .HV_SETDATA1 => .ok (w.hvData 1 m)
  | .HV_SETDATA2 => .ok (w.hvData 2 m)
  | .HV_SETDATA3 => .ok (w.hvData 3 m)
  | .HV_LQCMD => .ok (m.lqCmdHv w.init w.v)
  | .RLY_CLOSE_HI => .ok (w.relayData 0 m)
  | .RLY_CARE_HI => .ok (w.relayData 2 m)
  | .RLY_FLT_LO => .ok (m.relayFltClear 0 w.v)
  | .RLY_FLT_HI => .ok (m.relayFltClear 1 w.v)
  | _ => .ok (w.put m)

/-! ### Waveforms, acquisition and triggers (Chapter 11) -/

/-- DDSn_CTRL (R278, Table 11.8): STOP, and trigger source 0x60. -/
def Wr.ddsCtrl (w : Wr) (m : Mod) : Mod :=
  (m.when (w.b Fields.DDS_CTRL.SWTRIG) (fun s => s.ddsTrigger w.i 0x60 true s.ttime)).when (w.b Fields.DDS_CTRL.STOP)
    (Mod.waveStop w.i)

/-- DDSn_JUMP (R276): GO latches a jump to SEG at the write. -/
def Wr.ddsJump (w : Wr) (m : Mod) : Mod :=
  (w.put m).when (w.b Fields.DDS_JUMP.GO) (fun s => s.askJump w.i (w.g Fields.DDS_JUMP.SEG) s.ttime false)

/-- AQ_SWTRIG: source 0x60 for the acquisitions whose bit is set (Table 11.12). -/
def Wr.aqSwtrig (w : Wr) (m : Mod) : Mod :=
  m.each (allBelow 8 (fun n => w.v.getLsbD n)) (fun n s => match s.acq n with
    | some x => s.when (aqTsrc x.args == 0x60) (fun t => t.aqTrigger n t.ttime)
    | none => s)

def Wr.waves (w : Wr) (m : Mod) : Written :=
  let n := w.i
  match w.d.name with
  | .DDS_CTRL => .ok (w.ddsCtrl m)
  | .DDS_JUMP => .ok (w.ddsJump m)
  | .DDS_MK => w.unless (m.ddsState n != 0) w.put m
  | .AS_CFG => w.unless (m.asEnabled n && w.moves m Fields.AS_CFG.REMOTE_SENSE) w.put m
  | .AS_CMD => w.unless (m.calScoped 2) (Mod.asCmd n w.v) m
  | .AQ_SWTRIG => .ok (w.aqSwtrig m)
  | .TRIG_STATE => .ok (m.trigState (w.g Fields.TRIG_STATE.SET) (w.g Fields.TRIG_STATE.CLR))
  | .WAVE_SYNC_CTRL => .ok ((w.put m).when (w.b Fields.WAVE_SYNC_CTRL.FIRE) Mod.fire)
  | .WAVE_SKEW => w.unless ((List.range 8).any (fun k => m.ddsState k != 0)) w.put m
  | _ => .ok (w.put m)

/-! ### Time (Chapter 12) -/

/-- TDk_CTRL (R308): SLEW is stored; a SET while RUNNING is refused. -/
def Wr.tdCtrl (w : Wr) (m : Mod) : Written :=
  let r := (w.put m).domCtrl w.i (w.b Fields.TD_CTRL.SET) (w.b Fields.TD_CTRL.CLR)
  if r.1 then w.no m else .ok r.2

/-- TPn_CTRL (R315 to R317). -/
def Wr.tpCtrl (w : Wr) (m : Mod) : Mod :=
  ((m.when (w.b Fields.TP_CTRL.TSQ_POP) (Mod.tsqPop w.i)).when (w.b Fields.TP_CTRL.TX_FLUSH) (Mod.txFlush w.i)).when
    (w.b Fields.TP_CTRL.RX_FLUSH) (Mod.rxFlush w.i)

def Wr.time (w : Wr) (m : Mod) : Written :=
  let n := w.i
  match w.d.name with
  | .TB_CTRL => w.unless (!m.timeIdle) (fun s => (w.put s).srcWrite (w.g Fields.TB_CTRL.SRC)) m
  | .TB_TRIM => w.unless (m.calOn && nbit m.cal.doms 0 && !m.flag Reg.TB_STATUS Fields.TB_STATUS.SRC_ACTIVE) w.put m
  | .TD_CTRL => w.tdCtrl m
  | .TD_INC_HI => .ok (m.incWrite n (w.val64 m))
  | .TD_ADJ_HI => .ok (m.adjWrite n (w.val64 m))
  | .TD_SET_SEC_HI | .TP_MAC_HI => .ok (w.putPair m)
  | .TIME_SNAP_CTRL => .ok ((w.put m).when (w.b Fields.TIME_SNAP_CTRL.GO) Mod.snapGo)
  | .TP_TXDATA => .ok (m.txWrite n w.v)
  | .TP_CTRL => .ok (w.tpCtrl m)
  | _ => .ok (w.put m)

/-! ### Calibration (Chapter 13) -/

/-- CAL_CMD (R332, R335): START with the references as last read. -/
def Wr.calCmd (w : Wr) (m : Mod) : Written :=
  match w.g Fields.CAL_CMD.OP with
  | 1 =>
    let r := m.calStart (w.g Fields.CAL_CMD.DOMAINS) (w.g Fields.CAL_CMD.SCOPE) m.cal.refs
    if r.1 then w.no m else .ok r.2
  | 2 => .ok m.calAbort
  | _ => .ok m

/-- Whether the unit that CAL_TSEL selects is busy (Table 13.8). -/
def Mod.calUnitBusy (m : Mod) : Bool :=
  let u := m.calSelUnit
  match m.calSelTable with
  | 0 => m.measOn (256 + u)
  | 1 => m.ddsState u != 0
  | 2 => m.aqState u != 0
  | 3 => (m.tdc u).isSome
  | _ => (m.meas u).isSome

/-- CAL_TDATA: the entry that CAL_TSEL selects. -/
def Wr.calData (w : Wr) (m : Mod) : Written :=
  match m.calWindow with
  | some o => w.unless (m.calOn || m.calUnitBusy) (Mod.setReg o w.v) m
  | none => .error m

def Wr.calib (w : Wr) (m : Mod) : Written :=
  match w.d.name with
  | .CAL_CMD => w.calCmd m
  | .CAL_REFV | .CAL_DOM_TEMP | .CAL_DOM_INFO => w.unless m.calOn w.put m
  | .CAL_REFT_PER_HI | .CAL_DOM_LAST_HI => w.unless m.calOn w.putPair m
  | .CAL_DOM_COUNT => w.unless m.calOn (fun s => (w.put s).calCounted w.i) m
  | .CAL_TDATA => w.calData m
  | _ => .ok (w.put m)

/-! ### Memory, DMA and translation (Chapters 14, 15) -/

/-- DRC_REF_CFG: TEMP_2X above 95 reads back as 95 (Table 14.5). -/
def Mod.clampRef (m : Mod) : Mod :=
  let r := Reg.DRC_REF_CFG
  m.wr r Fields.DRC_REF_CFG.TEMP_2X (min 95 (m.rd r Fields.DRC_REF_CFG.TEMP_2X))

def Wr.memory (w : Wr) (m : Mod) : Written :=
  match w.d.name with
  | .DRC_MAP => w.unless m.drc.served w.put m
  | .DRC_REF_CFG => .ok (w.put m).clampRef
  | _ => .ok (w.put m)

/-- DMA_CHn_CTRL (R368, R369, R371). -/
def Wr.dmaCtrl (w : Wr) (m : Mod) : Mod :=
  let ch := w.i
  let m1 := (w.put m).when (w.b Fields.DMA_CH_CTRL.STOP) (Mod.dmaStopAt ch stDMA_STOPPED)
  let m2 := m1.when (w.b Fields.DMA_CH_CTRL.ABORT) (Mod.dmaAbort ch)
  (m2.when (w.b Fields.DMA_CH_CTRL.RESUME) (Mod.dmaResume ch)).when (w.b Fields.DMA_CH_CTRL.ABANDON) (Mod.dmaAbandon ch)

/-- XLT_CTXg_ROOT_HI: the root takes both parts, EN stays (Table 15.12). -/
def Wr.rootHi (w : Wr) (m : Mod) : Mod :=
  w.put (m.wr (w.off - 4) Fields.XLT_CTX_ROOT_LO.ROOT_L (fget Fields.XLT_CTX_ROOT_LO.ROOT_L (w.low m)))

def Wr.dma (w : Wr) (m : Mod) : Written :=
  match w.d.name with
  | .DMA_CH_CTRL => .ok (w.dmaCtrl m)
  | .XLT_INV => .ok (m.xltInv (w.g Fields.XLT_INV.OP) (w.g Fields.XLT_INV.CTX) (m.rd64 Reg.XLT_INV_ADDR_LO))
  | .XLT_INV_ADDR_HI => .ok (w.putPair m)
  | .XLT_CTX_ROOT_LO => .ok (m.ctxEnable w.i (w.b Fields.XLT_CTX_ROOT_LO.EN))
  | .XLT_CTX_ROOT_HI => w.unless (m.flag (w.off - 4) Fields.XLT_CTX_ROOT_LO.EN) w.rootHi m
  | .XLT_CTX_FLT_INFO => .ok (m.when (w.b Fields.XLT_CTX_FLT_INFO.VALID) (Mod.fltClear w.i))
  | _ => .ok (w.put m)

/-! ### Site Link (Chapter 16) -/

/-- SL_CTRL (R377, R399, R400). -/
def Wr.slCtrl (w : Wr) (m : Mod) : Mod :=
  let en := w.b Fields.SL_CTRL.PAIR_EN
  let m1 := (w.put m).when (w.moves m Fields.SL_CTRL.PAIR_EN) (Mod.pairEnable en)
  let m2 := m1.when (w.b Fields.SL_CTRL.RETRY && en) Mod.beginAttempt
  if w.moves m Fields.SL_CTRL.ADOPT_CQ then
    let c := m2.adoptCq
    let m3 := m2.each ((m2.queues.map Prod.fst).filter (fun q => decide (4096 ≤ q))) (fun q s =>
      s.setQueue q { s.queue q with cq := c })
    m3.drainHeld (m3.pair.held.length + 1)
  else m2

/-- SL_CFG: FOM_FAIL above FOM_WARN reads back as FOM_WARN (Table 16.9). -/
def Mod.clampFom (m : Mod) : Mod :=
  let r := Reg.SL_CFG
  m.wr r Fields.SL_CFG.FOM_FAIL (min (m.rd r Fields.SL_CFG.FOM_WARN) (m.rd r Fields.SL_CFG.FOM_FAIL))

/-- SL_MRGNkk_CFG: SIZE keeps while EN; EN set in a working pair starts a copy of the region (Table 16.13). -/
def Wr.region (w : Wr) (m : Mod) : Written :=
  let on := m.flag w.off Fields.SL_MRGN_CFG.EN
  w.unless (on && w.moves m Fields.SL_MRGN_CFG.SIZE) (fun s =>
    (w.put s).when (!on && w.b Fields.SL_MRGN_CFG.EN && s.pairActive) (Mod.copyRegion w.i)) m

def Wr.site (w : Wr) (m : Mod) : Written :=
  match w.d.name with
  | .SL_CTRL => .ok (w.slCtrl m)
  | .SL_CFG => .ok (w.put m).clampFom
  | .SL_DDS_SHADOW => w.unless (m.flag w.off Fields.SL_DDS_SHADOW.EN && w.moves m Fields.SL_DDS_SHADOW.BASE) (fun s =>
      (w.put s).when (!m.flag w.off Fields.SL_DDS_SHADOW.EN && w.b Fields.SL_DDS_SHADOW.EN && s.pairActive)
        (Mod.emit (.siteLink 22 []))) m
  | .SL_LANE_CFG => .ok ((w.put m).when (m.flag w.off Fields.SL_LANE_CFG.DISABLE && !w.b Fields.SL_LANE_CFG.DISABLE)
      (Mod.laneEnable w.i))
  | .SL_MRGN_LOCAL | .SL_MRGN_PEER => w.unless (m.flag (Reg.SL_MRGN_CFG w.i) Fields.SL_MRGN_CFG.EN) w.put m
  | .SL_MRGN_CFG => w.region m
  | _ => .ok (w.put m)

/-! ### Plate (Chapter 17) -/

/-- PLT_CTRL (R405, R412 to R414). RELOAD keeps while a write-back runs, SPEED while the bus is busy. -/
def Wr.pltCtrl (w : Wr) (m : Mod) : Written :=
  let wb := m.flag Reg.PLT_STATUS Fields.PLT_STATUS.WB_BUSY
  let bus := wb || m.pltState == 2
  if (w.b Fields.PLT_CTRL.RELOAD && wb) || (w.moves m Fields.PLT_CTRL.SPEED && bus) then w.no m
  else
    let m1 := (w.put m).judgeAll
    let m2 := m1.when (w.b Fields.PLT_CTRL.RELOAD) Mod.plateReload
    .ok ((m2.when (w.b Fields.PLT_CTRL.WB) (Mod.wbTrigger false)).when (w.b Fields.PLT_CTRL.UNDOCK) Mod.undock)

/-- PLT_DOCKS and PLT_RCNTkk: refused while a write-back runs or counting is off (Table 17.4). -/
def Wr.pltCount (w : Wr) (m : Mod) : Written :=
  w.unless (m.flag Reg.PLT_STATUS Fields.PLT_STATUS.WB_BUSY || !m.plt.counting) (fun s => (w.put s).judgeAll) m

def Wr.plate (w : Wr) (m : Mod) : Written :=
  match w.d.name with
  | .PLT_CTRL => w.pltCtrl m
  | .PLT_DOCKS | .PLT_RCNT => w.pltCount m
  | _ => .ok (w.put m)

/-! ### Faults (Chapter 18) -/

/-- ERR_CFG (Table 18.7): QUEUE keeps while EN, and the queue named needs PRIV where QUEUE changes or EN rises. -/
def Wr.errCfg (w : Wr) (m : Mod) : Written :=
  let on := m.flag w.off Fields.ERR_CFG.EN
  let moves := w.moves m Fields.ERR_CFG.QUEUE
  let priv := m.flag (Reg.HAT_Q_CFG (w.g Fields.ERR_CFG.QUEUE)) Fields.HAT_Q_CFG.PRIV
  w.unless ((on && moves) || ((moves || (!on && w.b Fields.ERR_CFG.EN)) && !priv)) w.put m

/-- ERR_RING_CFG (Table 18.7). -/
def Wr.evtCfg (w : Wr) (m : Mod) : Written :=
  let nx := w.b Fields.ERR_RING_CFG.ENABLE
  let size := w.g Fields.ERR_RING_CFG.SIZE_LOG2
  if (m.evtOn && w.moves m Fields.ERR_RING_CFG.SIZE_LOG2) || (nx && !m.evtOn && (decide (size < 4) || decide (12 < size))) then
    w.no m
  else if nx && !m.evtOn then
    .ok (((w.put m).setReg Reg.ERR_RING_STATE (fput Fields.ERR_RING_STATE.PHASE 1 0#32)).setReg Reg.ERR_RING_HEAD 0#32)
  else .ok (w.put m)

/-- ERR_RING_HEAD: a value past TAIL along the ring is discarded with WR_REFUSED (Table 18.7). -/
def Wr.evtHeadWrite (w : Wr) (m : Mod) : Written :=
  let h := w.g Fields.ERR_RING_HEAD.HEAD
  w.unless (decide (m.evtSize ≤ h) || decide (m.evtUsed < (h + m.evtSize - m.evtHead) % m.evtSize)) w.put m

def Wr.faults (w : Wr) (m : Mod) : Written :=
  match w.d.name with
  | .ERR_CFG => w.errCfg m
  | .ERR_RING_BASE_HI => w.unless m.evtOn w.putPair m
  | .ERR_RING_CFG => w.evtCfg m
  | .ERR_RING_HEAD => w.evtHeadWrite m
  | _ => .ok (w.put m)

/-! ### The register fabric -/

/-- The low word of a pair: staged (R5). EN of a translation root acts at its own write; the host's writes
of a mirror's registers, and those of a spill region that holds records, are refused at either word. -/
def Wr.stageLow (w : Wr) (m : Mod) : Written :=
  let m1 : Mod := { m with stage := SMap.insert m.stage (latchKey w.init w.off) w.v }
  if w.ofMirror m || (w.d.name == .SEQ_PRF_SPILL_BASE_LO && m.spillKept w.i) then w.no m
  else if w.d.name = .XLT_CTX_ROOT_LO then w.dma m1
  else .ok m1

/-- A write to a register by the block it lies in (Table 19.1). -/
def Wr.act (w : Wr) (m : Mod) : Written :=
  if pairLows.contains w.d.name then w.stageLow m
  else match w.off / 0x100000 with
    | 0 => w.global m
    | 1 => w.host m
    | 2 => w.hatch m
    | 3 => w.cores m
    | 4 => w.seqs m
    | 5 => w.pinDie m
    | 6 => w.pinDie m
    | 7 => w.h0 m
    | 8 => w.waves m
    | 9 => w.time m
    | 10 => w.calib m
    | 11 => w.memory m
    | 12 => w.dma m
    | 13 => w.site m
    | 14 => w.plate m
    | _ => w.faults m

/-- The word that the journal carries of a register after a write: command bits as written. -/
def Wr.sentWord (w : Wr) (m : Mod) : Word := m.reg w.off ||| (w.v &&& w.d.wo)

/-- The records of an accepted write in a working pair (R395): CONFIG with both words of a pair, or CAL; an entry of the
calibration tables goes under its place in the store. -/
def Wr.sent (w : Wr) (m : Mod) : Mod :=
  let high := pairHighs.contains w.d.name
  if !m.journalOn || (pairLows.contains w.d.name && w.d.name != .XLT_CTX_ROOT_LO) then m
  else if journalled w.off then
    (m.when high (fun s => s.journalConfig (w.off - 4) (s.reg (w.off - 4)))).journalConfig w.off (w.sentWord m)
  else if correction w.off then
    match w.d.name with
    | .CAL_TDATA => match m.calWindow with
      | some o => m.journalCal o w.v
      | none => m
    | _ => m.journalCal w.off (m.reg w.off)
  else m

/-- Whether a write is open before READY (R61): to the registers of reset and profiles, and from profile records. -/
def Mod.writeOpen (m : Mod) (i : Init) (n : RegName) : Bool :=
  m.open || i == .profile || n == .GLB_RST_CTRL || n == .GLB_PROF_CMD || n == .GLB_FLASH_SRC_LO || n == .GLB_FLASH_SRC_HI

/-- The words of the MSI-X table that are written (R105); the pending-bit array is read only. -/
def Mod.msixStore (i : Init) (off : Nat) (v : Word) (m : Mod) : Mod :=
  if i ≠ .host then m.accessErr i off
  else if !m.open then m.refuse i off
  else if off < 0x111000 then m.setReg off (if off % 16 = 12 then v &&& 1#32 else v)
  else m

/-- A write of 32 bits by an initiator to BAR0 (R3 to R9, R61, R430, R431). -/
def Mod.busWrite (i : Init) (off : Nat) (v : Word) (m : Mod) : Mod :=
  if m.isLost 0 || (m.flt.halted && off != Reg.GLB_RST_CTRL) then m
  else if inDoorbells off then m.doorbellWrite i off 4 true v.toNat
  else if off % 4 ≠ 0 || !inBlocks off then m.accessErr i off
  else if inMsix off then m.msixStore i off v
  else match regAt off with
    | none => m
    | some (d, ix) =>
      let w : Wr := ⟨i, off, d, ix, v⟩
      if !m.writeOpen i d.name then m.refuse i off
      else match w.act m with
        | .ok s => w.sent s
        | .error s => s

/-- A write of one field of a register that keeps its other RW fields: what a command of the opcode table that names a
field comes to. -/
def Mod.fieldWrite (i : Init) (off : Nat) (f : Fld) (v : Nat) (m : Mod) : Mod :=
  match regAt off with
  | some (d, _) => m.busWrite i off (fput f v (m.reg off &&& d.rw))
  | none => m.busWrite i off (BitVec.ofNat 32 (v <<< f.lo))

end Sys2Proof.Machine
end

