-- ==== Sys2Proof/Machine/Start.lean ====
section
/-!
DEFINITION. The profile's register records (R58 steps 16 to 18, R76).
-/

namespace Sys2Proof.Machine

/-- The register records of a slot (Table 3.6): 8 bytes each, offset and value, up to the offset 0xFFFF_FFFF or the end of
the 60 KiB; those of a factory slot are not given (assumption 4). -/
def Slot.records (x : Slot) : Nat → Nat → List (Nat × Word)
  | 0, _ => []
  | k + 1, o =>
    let off := ofBytes (x.range o 4)
    if x.factory || off == 0xFFFFFFFF then [] else (off, BitVec.ofNat 32 (ofBytes (x.range (o + 4) 4))) :: x.records k (o + 8)

/-- Whether a record's offset is reserved or read only (R76). -/
def recordBad (off : Nat) : Bool :=
  off % 4 != 0 || !inBlocks off || (!(inMsix off && decide (off < 0x111000)) && (match regAt off with
    | none => true
    | some (d, _) => (d.rw ||| d.w1c ||| d.wo) == 0#32))

/-- The registers of units on H0: HV channels and relays, generators, AS outputs and acquisitions, TDC32 to TDC35. -/
def onH0 (off : Nat) : Bool :=
  (decide (0x700000 ≤ off) && decide (off < 0x800C00)) || (decide (0x900400 ≤ off) && decide (off < 0x900480))

/-- One record (R76): skipped, held until H0 has started, or applied as an initiator of its own. -/
def Mod.applyRecord (m : Mod) (r : Nat × Word) : Mod :=
  if recordBad r.1 then m.mark Reg.GLB_START_STATE Fields.GLB_START_STATE.REC_SKIPPED
  else if onH0 r.1 && !m.h0Up then { m with sys := { m.sys with h0Records := m.sys.h0Records ++ [r] } }
  else m.busWrite .profile r.1 r.2

/-- APPLY, `ms` after t1 or tw: the records of the slot in use in list order, then READY, or the training of the pair. -/
def Mod.apply (ms : Nat) (m : Mod) : Mod :=
  if m.startState ≠ 4 then m
  else
    let recs := if m.flag Reg.GLB_START_STATE Fields.GLB_START_STATE.PROF_BAD then []
      else (m.slot m.slotInUse).records 7680 0x1000
    let m1 := recs.foldl Mod.applyRecord m
    let m2 : Mod := { m1 with sys := { m1.sys with recordsApplied := true } }
    if m2.profRole = 0 then m2.ready ms
    else
      let m3 := (m2.wr Reg.SL_STATUS Fields.SL_STATUS.ROLE m2.profRole).setStart 5
      if m3.flag Reg.SL_CTRL Fields.SL_CTRL.PAIR_EN then m3
      else (m3.wr Reg.SL_CTRL Fields.SL_CTRL.PAIR_EN 1).pairEnable true

/-- HLINK_TRAINED (R58 step 14): H0 is up, and the records held for it are applied. -/
def Mod.hlinkTrained (m : Mod) : Mod :=
  let m1 := m.hlinkUp
  if !m1.h0Up then m1
  else m1.sys.h0Records.foldl Mod.applyRecord { m1 with sys := { m1.sys with h0Records := [] } }

end Sys2Proof.Machine
end

