-- ==== Sys2Proof/Machine/PowerCmds.lean ====
section
/-!
DEFINITION. Clocks, SRAM errors, supplies, start-up and the resets (Chapters 1 to 3), H0's silence (R267) and the faults block (Chapter 18).
-/

namespace Sys2Proof.Machine

/-- XING_OVF (R26): A crossing FIFO overruns, setting XING_OVF and taking the fatal path or a machine check. -/
def execXingOvf (k : Nat) (unit : Option (Nat × Nat)) (s : State) : Host.Outcome State Fault Refusal :=
  run (Wf.xingOvf k unit) (Mod.xingOvf k unit) s

/-- SRAM_UE (R30): An uncorrectable SRAM error met by its owning unit is handled in its region's class. -/
def execSramUe (a : Nat) (s : State) : Host.Outcome State Fault Refusal :=
  run (Wf.sramUe a) (Mod.sramUe a) s

/-- SRAM_CE (R30): A corrected SRAM error is counted and otherwise invisible. -/
def execSramCe (a : Nat) (s : State) : Host.Outcome State Fault Refusal :=
  run (Wf.sramCe a) (Mod.sramCe a) s

/-- FORWARDED_CLOCK_LOSS (R24): A die's forwarded clock stops and it runs on its holdover clock. -/
def execForwardedClockLoss (d : Nat) (s : State) : Host.Outcome State Fault Refusal :=
  runAlways (Wf.forwardedClockLoss d) (Mod.clockLoss d) s

/-- FORWARDED_CLOCK_RELOCK (R24): A die in holdover re-locks to the returned forwarded clock or the partner's SYNC-aligned stream and leaves holdover. -/
def execForwardedClockRelock (d : Nat) (s : State) : Host.Outcome State Fault Refusal :=
  runAlways (Wf.forwardedClockRelock d) (Mod.clockRelock d) s

/-- HOLDOVER_EXHAUSTED (R24): A die's TCLK stays lost beyond its holdover and PHASE_LOCK falls. -/
def execHoldoverExhausted (d : Nat) (us : Nat) (s : State) : Host.Outcome State Fault Refusal :=
  runAlways (Wf.holdoverExhausted d) (Mod.holdoverOut d us) s

/-- VIN_TRIP (R36): VIN crosses a trip point; ports stop, HV and AS outputs disconnect, relays open and PWRGOOD falls. -/
def execVinTrip (high : Bool) (s : State) : Host.Outcome State Fault Refusal :=
  runAlways true (Mod.vinTrip high) s

/-- VAUX_TRIP (R37): VAUX crosses a trip point and the module holds itself in cold reset. -/
def execVauxTrip (s : State) : Host.Outcome State Fault Refusal :=
  runAlways true (Mod.coldReset 3) s

/-- HV_SUPPLY (R39): An HV input stays out of its fault window over 20 µs and H0 is treated as lost. -/
def execHvSupply (i : Nat) (us : Nat) (s : State) : Host.Outcome State Fault Refusal :=
  runAlways (Wf.hvSupply i) (Mod.hvSupply i us) s

/-- H0_SOFT_START (R38): Once all three HV inputs are in window, H0 starts its 2 ms soft-start. -/
def execH0SoftStart (ms : Nat) (s : State) : Host.Outcome State Fault Refusal :=
  runAlways true (Mod.h0SoftStart ms) s

/-- HGND_RANGE (R41): The HGND offset exceeds ±105 V for 1 ms and H0 is treated as lost. -/
def execHgndRange (ofs : Int) (us : Nat) (s : State) : Host.Outcome State Fault Refusal :=
  runAlways (Wf.hgndRange ofs) (Mod.hgndRange ofs us) s

/-- RAIL_FAULT (R43): An on-module rail leaves its window over 10 µs and its die's rails switch off. -/
def execRailFault (r : Nat) (us : Nat) (s : State) : Host.Outcome State Fault Refusal :=
  runAlways (Wf.railFault r) (Mod.railFault r us) s

/-- DRIVER_DISCONNECT (R44): A pin die's driver rail leaves its window and its drivers and comparators disconnect within 1 µs. -/
def execDriverDisconnect (d : Nat) (s : State) : Host.Outcome State Fault Refusal :=
  runAlways (Wf.driverDisconnect d) (Mod.driversOff d) s

/-- TRIP (R46): A temperature sensor reaches its trip point and its die or device is tripped. -/
def execTrip (k : Nat) (t : Int) (s : State) : Host.Outcome State Fault Refusal :=
  runAlways (Wf.trip k t) (Mod.tripSensor k t) s

/-- GOVERNOR_SAMPLE (R47): Every 10 µs the governor samples VIN current and temperatures. -/
def execGovernorSample (mv : Nat) (ma10 : Nat) (temps : List (Nat × Int × Bool)) (s : State) : Host.Outcome State Fault Refusal :=
  run (Wf.governorSample temps) (Mod.governorSample mv ma10 temps) s

/-- LEVEL_RISE (R49): The throttle condition has held long enough and LEVEL rises by one. -/
def execLevelRise (us : Nat) (s : State) : Host.Outcome State Fault Refusal :=
  run true (Mod.levelRise us) s

/-- LEVEL_FALL (R49): The clear condition has held 10 ms and LEVEL falls by one. -/
def execLevelFall (us : Nat) (s : State) : Host.Outcome State Fault Refusal :=
  run true (Mod.levelFall us) s

/-- UNIT_START (R52): The next unit of the start order starts its rails with bounded inrush. -/
def execUnitStart (u : Nat) (s : State) : Host.Outcome State Fault Refusal :=
  runAlways (Wf.unitStart u) (Mod.unitStart u) s

/-- START_FAIL (R53): A unit's rails miss their window within four ramp times and the unit is left off. -/
def execStartFail (u : Nat) (s : State) : Host.Outcome State Fault Refusal :=
  runAlways (Wf.startFail u) (Mod.startFail u) s

/-- ORDERLY_POWER_DOWN (R54): On host command the module stops ports, disconnects outputs, writes back the plate and reverses the start order. -/
def execOrderlyPowerDown (s : State) : Host.Outcome State Fault Refusal :=
  run true (Mod.orderlyDown) s

/-- COLD_RESET_RELEASE (R55): Cold reset is released, PROF[1:0] are sampled and profile reading begins. -/
def execColdResetRelease (prof : Nat) (ms : SupplyTimes) (s : State) : Host.Outcome State Fault Refusal :=
  runAlways (Wf.coldResetRelease prof) (Mod.coldRelease prof ms.vin ms.vaux) s

/-- PROFILE_SLOT_CHECKED (R56): At t0 + 4 ms the CRC-32 check of the selected slot ends and STATE becomes STANDBY or PROFILE_FAIL. -/
def execProfileSlotChecked (s : State) : Host.Outcome State Fault Refusal :=
  runAlways true (Mod.slotChecked) s

/-- POWER_STAGE_START (R57): At t1 the core rails begin their ramp and the power stage begins. -/
def execPowerStageStart (vinMs : Nat) (s : State) : Host.Outcome State Fault Refusal :=
  runAlways true (Mod.powerStage vinMs) s

/-- TIMEBASE_LOCK (R58): The time-base PLLs lock on the TCXO and TB_LOCK is set. -/
def execTimebaseLock (s : State) : Host.Outcome State Fault Refusal :=
  runAlways true (Mod.timebaseLock) s

/-- PCIE_DETECT (R61): The PCIe endpoint enters Detect after PERST# deassertion and core-die reset release. -/
def execPcieDetect (s : State) : Host.Outcome State Fault Refusal :=
  runAlways true (Mod.pcieDetect) s

/-- FLASH_LOAD_COMPLETE (R138): The flash load of firmware, runtime, control store and tables completes and GO bits are set. -/
def execFlashLoadComplete (s : State) : Host.Outcome State Fault Refusal :=
  run true (Mod.flashLoad) s

/-- GDDR7_TRAINING_COMPLETE (R343): GDDR7 channel training completes and devices come into service. -/
def execGddr7TrainingComplete (bad : Nat) (s : State) : Host.Outcome State Fault Refusal :=
  run (Wf.gddr7TrainingComplete bad) (Mod.gddrTraining bad) s

/-- PLINK_TRAINED (R58): A PLINK finishes training and its pin die's UP bit is set. -/
def execPlinkTrained (d : Nat) (s : State) : Host.Outcome State Fault Refusal :=
  runAlways (Wf.plinkTrained d) (Mod.plinkTrained d) s

/-- HLINK_TRAINED (R58): HLINK finishes training and H0_UP is set. -/
def execHlinkTrained (s : State) : Host.Outcome State Fault Refusal :=
  runAlways true (Mod.hlinkTrained) s

/-- REFIN_QUALIFIED (R62): REFIN passes 16 ms of presence and window and the time base switches to it. -/
def execRefinQualified (det : Nat) (ppb : Int) (s : State) : Host.Outcome State Fault Refusal :=
  runAlways (Wf.refinQualified det ppb) (Mod.refinQualified det ppb) s

/-- APPLY (R76): Once every present unit has started and trained, the profile's register records are applied in order. -/
def execApply (ms : Nat) (s : State) : Host.Outcome State Fault Refusal :=
  runAlways true (Mod.apply ms) s

/-- MRST_ASSERT (R65): MRST# held low causes a cold reset. -/
def execMrstAssert (ns : Nat) (s : State) : Host.Outcome State Fault Refusal :=
  runAlways true (Mod.mrst ns) s

/-- PROFILE_WRITE_DONE (R75): The profile write completes and verifies, setting DONE or ERR. -/
def execProfileWriteDone (ok : Bool) (s : State) : Host.Outcome State Fault Refusal :=
  run true (Mod.profileWriteDone ok) s

/-- H0_SILENCE (R267): No valid frame on either H0 control port for 2 ms; H0 acts as lost. -/
def execH0Silence (us : Nat) (s : State) : Host.Outcome State Fault Refusal :=
  runAlways true (Mod.h0Silence us) s

/-- LOGIC_CHECK (R417): Duplicated control logic disagrees and a FATAL event occurs. -/
def execLogicCheck (unit : Nat) (s : State) : Host.Outcome State Fault Refusal :=
  runAlways (Wf.logicCheck unit) (Mod.logicCheck unit) s

/-- FAULT_RECORD_DELIVERY (R423): The faults block writes the head record to the host event ring. -/
def execFaultRecordDelivery (s : State) : Host.Outcome State Fault Refusal :=
  run true (Mod.deliverFault) s

end Sys2Proof.Machine
end

