-- ==== Sys2Proof/Machine/Access.lean ====
section
/-!
DEFINITION. Accesses that lead to registers or to GDDR7 without translation: malformed accesses, BAR4, the BAR0 window of a
core, REGWR.
-/

namespace Sys2Proof.Machine

/-! ### Accesses of the wrong form (R3) -/

/-- An access of another width or alignment than 32 bits, `width` bytes wide: discarded on write, 0 on read, with
ACCESS_ERR; in the doorbell area R88 governs. One of 4 aligned bytes is not malformed and leaves nothing. -/
def Mod.malformed (i : Init) (off width : Nat) (write : Bool) (m : Mod) : Mod :=
  if m.isLost 0 || (width == 4 && off % 4 == 0) then m
  else
    let m1 := if inDoorbells off then (if write then m.doorbellWrite i off width false 0 else m)
      else m.when (!m.flt.halted) (Mod.accessErr i off)
    m1.when (!write) (Mod.emit (.regRead (initKey i) off 0#32))

/-! ### BAR4 (R82 to R84) -/

/-- The GDDR7 address of BAR4 offset `off`, and the group charged. -/
def Mod.bar4Addr (m : Mod) (off : Nat) : Nat :=
  m.rd Reg.HOST_BAR4_BASE_LO Fields.HOST_BAR4_BASE_LO.BASE_L * 0x10000 +
    m.rd Reg.HOST_BAR4_BASE_HI Fields.HOST_BAR4_BASE_HI.BASE_H * 0x100000000 + off

def Mod.bar4Group (m : Mod) : Nat := m.rd Reg.HOST_BAR4_BASE_HI Fields.HOST_BAR4_BASE_HI.GROUP

/-- The 64-byte bursts of a range that hold an uncorrectable error. -/
def badBursts (bad : List (Nat × Bool)) (a n : Nat) : List Nat :=
  if n = 0 then [] else
    ((List.range ((a + n - 1) / 64 - a / 64 + 1)).map (a / 64 + ·)).filter (fun b => SMap.get badDefault bad b)

/-- A BAR4 read of `n` bytes: bytes of a bad burst and of a device out of service read 0xFF with the EP bit (R83, R359). -/
def Mod.bar4Read (off n : Nat) (m : Mod) : Mod :=
  let a := m.bar4Addr off
  let bad := badBursts m.gddrBad a n
  let byte (i : Nat) : Option Byte :=
    if m.gddrOff (a + i) || bad.contains ((a + i) / 64) then none else some (memByte m.gddr (a + i))
  let bs := (List.range n).map byte
  let m1 := (m.drcServed.chargeGddr ⟨m.bar4Group, false, false⟩ a n).emit (.barRead 4 off (bs.map (fun b => b.getD 0xFF#8)) (bs.any Option.isNone))
  m1.each (bad.filter (fun b => !m.gddrOff (64 * b))) (fun b s => s.drcUe (s.channelOf (64 * b)) m.bar4Group (64 * b) false)

/-- One run of a BAR4 write: a burst that holds an uncorrectable error and is written in part keeps it (R434), a device
out of service takes nothing. -/
def Mod.bar4Run (group : Nat) (r : Nat × List Byte) (m : Mod) : Mod :=
  if m.placeOff (.gddr r.1) r.2.length then m
  else if partBad m.gddrBad 64 r.1 r.2.length then m.drcUe (m.channelOf r.1) group r.1 true
  else (m.chargeGddr ⟨group, false, false⟩ r.1 r.2.length).placeWrite 0 (.gddr r.1) r.2

/-- BAR4_ACCESS: a read of `n` bytes, or a write of the bytes given, those enabled. -/
def Mod.bar4 (off n : Nat) (data : Option (List (Option Byte))) (m : Mod) : Mod :=
  if m.isLost 0 || m.flt.halted then m
  else if !m.open then m.emit (.barAbort 4 off)
  else match data with
    | none => m.bar4Read off n
    | some bs => (enabledRuns bs (m.bar4Addr off)).foldl (fun s r => s.bar4Run m.bar4Group r) m.drcServed

/-! ### Cores (R136) -/

/-- The initiator that core `c` is: site cores 0 to 15, management cores 16 to 19. -/
def coreInit (c : Nat) : Init := if c < 16 then .score c else .mcore (c - 16)

/-- A core's access to the BAR0 window, under R3 and R4 (Table 6.2); LR, SC and AMO fault there (Table 6.1). -/
def Mod.coreBar0 (c off n a : Nat) (acc : CoreAcc) (m : Mod) : Mod :=
  let i := coreInit c
  match acc with
  | .load | .fetch =>
    if n = 4 then
      let r := m.busRead i off
      r.2.coreGets c (leBytes 4 r.1.toNat)
    else (if inDoorbells off then m else m.accessErr i off).coreGets c (zeroBytes n)
  | .store bs =>
    if inDoorbells off then m.doorbellWrite i off n true (ofBytes bs)
    else if n = 4 then m.busWrite i off (BitVec.ofNat 32 (ofBytes bs))
    else m.accessErr i off
  | .lr | .sc _ | .amo _ => m.coreFaults c 7 a

/-- CORE_DEVICE_ACCESS (R136): `n` bytes at the core's physical address `a`. -/
def Mod.coreMem (c a n : Nat) (acc : CoreAcc) (host : List Host.Cell) (m : Mod) : Mod :=
  match corePlace c a with
  | .bar0 off =>
    if a % n ≠ 0 then m.coreFaults c (misCause acc) a
    else if (m.hart c).pmpOk acc a then m.coreBar0 c off n a acc
    else m.coreFaults c (accCause acc) a
  | _ => m.coreAccess c a n acc host

/-! ### REGWR (R366) -/

/-- REGWR: channel `ch` writes the register its descriptor names, and its descriptor's byte count is reached. -/
def Mod.regwr (ch : Nat) (m : Mod) : Mod :=
  match m.dmaRegwr ch with
  | some (off, v) => (m.busWrite (.regwr ch) off v).setDmaOffset ch 4
  | none => m

/-! ### Commands that bring more than one field -/

/-- Whether an offset is the low word of a pair for reading (R4), the low or the high word of one for writing (R5). -/
def atLow (off : Nat) : Bool := (regAt off).any (fun e => latchLow e.1.name e.2)
def atPairLow (off : Nat) : Bool := (regAt off).any (fun e => pairLows.contains e.1.name)
def atPairHigh (off : Nat) : Bool := (regAt off).any (fun e => pairHighs.contains e.1.name)

/-- A read of the low word of a pair (R4). -/
def Mod.readLow (i : Init) (off : Nat) (m : Mod) : Mod := m.when (atLow off) (Mod.readOut i off)

/-- A write of the low word of a pair, and of its high word (R5). -/
def Mod.writeLow (i : Init) (off : Nat) (v : Word) (m : Mod) : Mod := m.when (atPairLow off) (Mod.busWrite i off v)
def Mod.writeHigh (i : Init) (off : Nat) (v : Word) (m : Mod) : Mod := m.when (atPairHigh off) (Mod.busWrite i off v)

/-- GO of a management core with HOLD cleared; WDOG_EN keeps (Table 6.16). -/
def Mod.mcoreGo (i : Init) (n : Nat) (m : Mod) : Mod :=
  m.busWrite i (Reg.MCS_MCORE_CTRL n) (fput Fields.MCS_MCORE_CTRL.GO 1
    (fput Fields.MCS_MCORE_CTRL.WDOG_EN (m.rd (Reg.MCS_MCORE_CTRL n) Fields.MCS_MCORE_CTRL.WDOG_EN) 0#32))

/-- START with the readings of the references that the check at its start finds (R331, R332). -/
def Mod.calCommand (i : Init) (doms scope : Nat) (r : RefCheck) (m : Mod) : Mod :=
  ({ m with cal := { m.cal with refs := r } } : Mod).busWrite i Reg.CAL_CMD (fput Fields.CAL_CMD.SCOPE scope
    (fput Fields.CAL_CMD.DOMAINS doms (fput Fields.CAL_CMD.OP 1 0#32)))

end Sys2Proof.Machine
end

