-- ==== Sys2Proof/Machine/RegCmds.lean ====
section
/-!
DEFINITION. The accesses of software: registers, BAR2, BAR4, doorbells, the cores' device window and REGWR (Chapters 0 to 17).
-/

namespace Sys2Proof.Machine

/-- MALFORMED_ACCESS (R3): A register access of the wrong width or alignment is discarded on write and returns 0 on read. -/
def execMalformedAccess (init : Init) (off : Nat) (width : Nat) (write : Bool) (s : State) : Host.Outcome State Fault Refusal :=
  runAlways (Wf.malformedAccess init off width) (Mod.malformed init off width write) s

/-- PAIR_LOW_READ (R4): A read of the low word of a 64-bit pair latches the high word for the reading initiator. -/
def execPairLowRead (init : Init) (off : Nat) (s : State) : Host.Outcome State Fault Refusal :=
  runAlways (Wf.pairLowRead init off) (Mod.readLow init off) s

/-- PAIR_LOW_WRITE (R5): A write of the low word of a 64-bit pair stages it for the same initiator without visible effect. -/
def execPairLowWrite (init : Init) (off : Nat) (v : Word) (s : State) : Host.Outcome State Fault Refusal :=
  runAlways (Wf.pairLowWrite init off) (Mod.writeLow init off v) s

/-- PAIR_HIGH_WRITE (R5): A write of the high word applies the 64-bit value using that initiator's staged low word. -/
def execPairHighWrite (init : Init) (off : Nat) (v : Word) (s : State) : Host.Outcome State Fault Refusal :=
  runAlways (Wf.pairHighWrite init off) (Mod.writeHigh init off v) s

/-- REGISTER_WRITE (R9): A write to a register that has no row of its own takes effect per its While running entry or is refused. -/
def execRegisterWrite (init : Init) (off : Nat) (v : Word) (s : State) : Host.Outcome State Fault Refusal :=
  runAlways (Wf.registerWrite init off) (Mod.busWrite init off v) s

/-- HOST_BAR2_READ (R30): A host BAR2 read returns SRAM data, or poisoned 0xFFFF_FFFF on an uncorrectable error. -/
def execHostBar2Read (off : Nat) (len : Nat) (s : State) : Host.Outcome State Fault Refusal :=
  run (Wf.hostBar2Read off len) (Mod.bar2Read off len) s

/-- HOST_BAR2_WRITE (R29): A host BAR2 write is applied or discarded according to the region's write rule. -/
def execHostBar2Write (off : Nat) (data : List (Option Byte)) (s : State) : Host.Outcome State Fault Refusal :=
  run (Wf.hostBar2Write off data) (Mod.bar2Write off data) s

/-- BAR4_ACCESS (R83): A BAR4 read or write reaches GDDR7 at BASE plus offset, charged to GROUP. -/
def execBar4Access (off : Nat) (len : Nat) (data : Option (List (Option Byte))) (s : State) : Host.Outcome State Fault Refusal :=
  run (Wf.bar4Access off len data) (Mod.bar4 off len data) s

/-- DOORBELL (R89): An 8-byte doorbell is checked whole and applied or discarded whole. -/
def execDoorbell (init : Init) (off : Nat) (size : Nat) (full : Bool) (v : DWord) (s : State) : Host.Outcome State Fault Refusal :=
  run (Wf.doorbell init off size) (Mod.doorbellWrite init off size full v.toNat) s

/-- CORE_DEVICE_ACCESS (R136): A core access to the device window is translated by XLT or raises a precise access fault. -/
def execCoreDeviceAccess (c : Nat) (a : Nat) (n : Nat) (acc : CoreAcc) (host : List Host.Cell) (s : State) : Host.Outcome State Fault Refusal :=
  run (Wf.coreDeviceAccess c a n acc) (Mod.coreMem c a n acc host) s

/-- REGWR (R366): REGWR writes a value to a BAR0 offset as its own initiator. -/
def execRegwr (ch : Nat) (s : State) : Host.Outcome State Fault Refusal :=
  run (Wf.regwr ch) (Mod.regwr ch) s

/-- WARM (R67): A WARM request stops ports, writes completions, puts GDDR7 in self-refresh and resets every die. -/
def execWarm (init : Init) (s : State) : Host.Outcome State Fault Refusal :=
  runAlways (Wf.warm init) (fun m => m.busWrite init Reg.GLB_RST_CTRL (fput Fields.GLB_RST_CTRL.WARM 1 0x5A170000#32)) s

/-- HANDOVER (R70): A WARM with HANDOVER resets only the core die and GDDR7 while the partner's mirror plays on. -/
def execHandover (init : Init) (s : State) : Host.Outcome State Fault Refusal :=
  runAlways (Wf.handover init) (fun m => m.busWrite init Reg.GLB_RST_CTRL (fput Fields.GLB_RST_CTRL.HANDOVER 1 (fput Fields.GLB_RST_CTRL.WARM 1 0x5A170000#32))) s

/-- COLD (R69): A COLD request performs the orderly steps, switches off every rail and restarts from t0. -/
def execCold (init : Init) (s : State) : Host.Outcome State Fault Refusal :=
  runAlways (Wf.cold init) (fun m => m.busWrite init Reg.GLB_RST_CTRL (fput Fields.GLB_RST_CTRL.COLD 1 0x5A170000#32)) s

/-- PROFILE_SELECT (R74): Profile select causes a warm reset that loads the named profile. -/
def execProfileSelect (init : Init) (prof : Nat) (s : State) : Host.Outcome State Fault Refusal :=
  run (Wf.profileSelect init prof) (fun m => m.busWrite init Reg.GLB_PROF_CMD (fput Fields.GLB_PROF_CMD.PROFILE prof (fput Fields.GLB_PROF_CMD.OP 1 0x5A170000#32))) s

/-- PROFILE_WRITE (R75): Profile write takes a slot image from GDDR7 and programs the slot not in use. -/
def execProfileWrite (init : Init) (prof : Nat) (s : State) : Host.Outcome State Fault Refusal :=
  run (Wf.profileWrite init prof) (fun m => m.busWrite init Reg.GLB_PROF_CMD (fput Fields.GLB_PROF_CMD.PROFILE prof (fput Fields.GLB_PROF_CMD.OP 2 0x5A170000#32))) s

/-- LOAD (R87): LOAD copies the selected queue's binding into the staged fields. -/
def execLoad (init : Init) (s : State) : Host.Outcome State Fault Refusal :=
  run (Wf.load init) (fun m => m.busWrite init Reg.HOST_QCMD 1#32) s

/-- BIND (R87): BIND binds the selected queue to a submission ring and completion ring. -/
def execBind (init : Init) (s : State) : Host.Outcome State Fault Refusal :=
  run (Wf.bind init) (fun m => m.busWrite init Reg.HOST_QCMD 2#32) s

/-- UNBIND (R87): UNBIND removes an idle queue's binding. -/
def execUnbind (init : Init) (s : State) : Host.Outcome State Fault Refusal :=
  run (Wf.unbind init) (fun m => m.busWrite init Reg.HOST_QCMD 3#32) s

/-- RESUME (R93): RESUME restarts fetching of a halted queue from HEAD. -/
def execResume (init : Init) (s : State) : Host.Outcome State Fault Refusal :=
  run (Wf.resume init) (fun m => m.busWrite init Reg.HOST_QCMD 4#32) s

/-- BAR4_BASE_WRITE (R84): A write of HOST_BAR4_BASE_HI applies a new aperture base or is discarded with BAR4_RANGE. -/
def execBar4BaseWrite (init : Init) (v : Word) (s : State) : Host.Outcome State Fault Refusal :=
  run (Wf.bar4BaseWrite init) (Mod.busWrite init Reg.HOST_BAR4_BASE_HI v) s

/-- CQ_ENABLE (R86): Setting a completion ring's ENABLE resets its TAIL, head and PHASE. -/
def execCqEnable (init : Init) (c : Nat) (v : Word) (s : State) : Host.Outcome State Fault Refusal :=
  run (Wf.cqEnable init c) (fun m => m.busWrite init (Reg.HOST_CQ_CFG c) (fput Fields.HOST_CQ_CFG.ENABLE 1 v)) s

/-- GROUP_DISABLE (R126): Clearing a group's ENABLE stops new dispatch to it. -/
def execGroupDisable (init : Init) (g : Nat) (s : State) : Host.Outcome State Fault Refusal :=
  run (Wf.groupDisable init g) (Mod.fieldWrite init (Reg.HAT_GRP_CFG g) Fields.HAT_GRP_CFG.ENABLE 0) s

/-- GROUP_DISABLE_FLUSH (R127): A group disable with FLUSH also removes every queued entry of the group. -/
def execGroupDisableFlush (init : Init) (g : Nat) (weight : Nat) (s : State) : Host.Outcome State Fault Refusal :=
  run (Wf.groupDisableFlush init g weight) (fun m => m.busWrite init (Reg.HAT_GRP_CFG g) (fput Fields.HAT_GRP_CFG.FLUSH 1 (fput Fields.HAT_GRP_CFG.WEIGHT weight 0#32))) s

/-- GROUP_ENABLE (R128): Re-enabling a group makes its entries eligible and resets its deficits. -/
def execGroupEnable (init : Init) (g : Nat) (weight : Nat) (s : State) : Host.Outcome State Fault Refusal :=
  run (Wf.groupEnable init g weight) (fun m => m.busWrite init (Reg.HAT_GRP_CFG g) (fput Fields.HAT_GRP_CFG.ENABLE 1 (fput Fields.HAT_GRP_CFG.WEIGHT weight 0#32))) s

/-- UNIT_DISABLE (R126): HAT_UCMD disable stops new dispatch to the selected unit. -/
def execUnitDisable (init : Init) (s : State) : Host.Outcome State Fault Refusal :=
  run (Wf.unitDisable init) (fun m => m.busWrite init Reg.HAT_UCMD 1#32) s

/-- UNIT_DISABLE_FLUSH (R127): HAT_UCMD disable with FLUSH also removes entries eligible only for the unit. -/
def execUnitDisableFlush (init : Init) (s : State) : Host.Outcome State Fault Refusal :=
  run (Wf.unitDisableFlush init) (fun m => m.busWrite init Reg.HAT_UCMD 2#32) s

/-- UNIT_ENABLE (R128): HAT_UCMD enable makes the unit eligible again and releases it from MCHK. -/
def execUnitEnable (init : Init) (s : State) : Host.Outcome State Fault Refusal :=
  run (Wf.unitEnable init) (fun m => m.busWrite init Reg.HAT_UCMD 3#32) s

/-- PRIV_SET (R129): Setting PRIV on a queue, discarded with PRIV_LIMIT beyond 128. -/
def execPrivSet (init : Init) (q : Nat) (s : State) : Host.Outcome State Fault Refusal :=
  run (Wf.privSet init q) (Mod.fieldWrite init (Reg.HAT_Q_CFG q) Fields.HAT_Q_CFG.PRIV 1) s

/-- SCORE_HOLD (R139): Setting HOLD holds a site core in reset so its memory can be loaded. -/
def execScoreHold (init : Init) (n : Nat) (s : State) : Host.Outcome State Fault Refusal :=
  run (Wf.scoreHold init n) (Mod.fieldWrite init (Reg.MCS_SCORE_CTRL n) Fields.MCS_SCORE_CTRL.HOLD 1) s

/-- SCORE_GO (R139): Setting GO with HOLD cleared releases a site core to boot. -/
def execScoreGo (init : Init) (n : Nat) (s : State) : Host.Outcome State Fault Refusal :=
  run (Wf.scoreGo init n) (fun m => m.busWrite init (Reg.MCS_SCORE_CTRL n) (fput Fields.MCS_SCORE_CTRL.GO 1 0#32)) s

/-- KICK (R147): KICK restarts a management core's watchdog period. -/
def execKick (init : Init) (n : Nat) (s : State) : Host.Outcome State Fault Refusal :=
  run (Wf.kick init n) (Mod.fieldWrite init (Reg.MCS_MCORE_CTRL n) Fields.MCS_MCORE_CTRL.KICK 1) s

/-- MCORE_HOLD (R147): Setting HOLD holds a management core in reset. -/
def execMcoreHold (init : Init) (n : Nat) (s : State) : Host.Outcome State Fault Refusal :=
  run (Wf.mcoreHold init n) (Mod.fieldWrite init (Reg.MCS_MCORE_CTRL n) Fields.MCS_MCORE_CTRL.HOLD 1) s

/-- MCORE_GO (R147): GO with HOLD cleared releases a management core. -/
def execMcoreGo (init : Init) (n : Nat) (s : State) : Host.Outcome State Fault Refusal :=
  run (Wf.mcoreGo init n) (Mod.mcoreGo init n) s

/-- CHECK (R151): CHECK verifies the control store and computes MCS_CRC. -/
def execCheck (init : Init) (s : State) : Host.Outcome State Fault Refusal :=
  run (Wf.check init) (fun m => m.busWrite init Reg.MCS_CTRL (fput Fields.MCS_CTRL.CHECK 1 0#32)) s

/-- RELOAD (R151): RELOAD copies the profile's control-store image and runs the checks. -/
def execReload (init : Init) (s : State) : Host.Outcome State Fault Refusal :=
  run (Wf.reload init) (fun m => m.busWrite init Reg.MCS_CTRL (fput Fields.MCS_CTRL.RELOAD 1 0#32)) s

/-- PAUSE (R187): Setting PAUSE pauses the burst at the next commit point in a HOLD region. -/
def execPause (init : Init) (n : Nat) (s : State) : Host.Outcome State Fault Refusal :=
  run (Wf.pause init n) (fun m => m.busWrite init (Reg.SEQ_CTRL n) (fput Fields.SEQ_CTRL.PAUSE 1 0#32)) s

/-- PAUSE_CLEAR (R187): Clearing PAUSE resumes execution or cancels a pending pause. -/
def execPauseClear (init : Init) (n : Nat) (s : State) : Host.Outcome State Fault Refusal :=
  run (Wf.pauseClear init n) (fun m => m.busWrite init (Reg.SEQ_CTRL n) 0#32) s

/-- HALT (R188): HALT stops the burst at the next commit point. -/
def execHalt (init : Init) (n : Nat) (s : State) : Host.Outcome State Fault Refusal :=
  run (Wf.halt init n) (Mod.fieldWrite init (Reg.SEQ_CTRL n) Fields.SEQ_CTRL.HALT 1) s

/-- CLR_MCHK (R188): CLR_MCHK returns a sequencer from MCHK to IDLE. -/
def execClrMchk (init : Init) (n : Nat) (s : State) : Host.Outcome State Fault Refusal :=
  run (Wf.clrMchk init n) (Mod.fieldWrite init (Reg.SEQ_CTRL n) Fields.SEQ_CTRL.CLR_MCHK 1) s

/-- TPER_WRITE (R195): A period write is copied to both pin dies. -/
def execTperWrite (init : Init) (n : Nat) (k : Nat) (v : Word) (s : State) : Host.Outcome State Fault Refusal :=
  run (Wf.tperWrite init n k) (Mod.busWrite init (Reg.SEQ_TPER n k) v) s

/-- RD_WRITE (R236): A write of a ring's RD consumes records or is discarded with RD_RANGE. -/
def execRdWrite (init : Init) (n : Nat) (v : Word) (s : State) : Host.Outcome State Fault Refusal :=
  run (Wf.rdWrite init n) (Mod.busWrite init (Reg.SEQ_PRF_RD n) v) s

/-- SRD_WRITE (R236): A write of SRD consumes spilled records and resumes paused spilling. -/
def execSrdWrite (init : Init) (n : Nat) (v : Word) (s : State) : Host.Outcome State Fault Refusal :=
  run (Wf.srdWrite init n) (Mod.busWrite init (Reg.SEQ_PRF_SRD n) v) s

/-- FCNT_WRITE (R239): A write of CHn_FCNT sets the count at once and resets FFIRST. -/
def execFcntWrite (init : Init) (ch : Nat) (v : Word) (s : State) : Host.Outcome State Fault Refusal :=
  run (Wf.fcntWrite init ch) (Mod.busWrite init (Reg.CH_FCNT (ch / 128) (ch % 128)) v) s

/-- CH_LQCMD (R248): A host write of CH_LQCMD queues a level set for a bank. -/
def execChLqcmd (init : Init) (d : Nat) (v : Word) (s : State) : Host.Outcome State Fault Refusal :=
  run (Wf.chLqcmd init d) (Mod.busWrite init (Reg.CH_LQCMD d) v) s

/-- HV_LQCMD (R248): A host write of HV_LQCMD queues an HV set. -/
def execHvLqcmd (init : Init) (v : Word) (s : State) : Host.Outcome State Fault Refusal :=
  run (Wf.hvLqcmd init) (fun m => m.busWrite init Reg.HV_LQCMD (fput Fields.HV_LQCMD.RELAY 0 v)) s

/-- RELAY_LQCMD (R248): HV_LQCMD with RELAY queues a relay set on LQ20. -/
def execRelayLqcmd (init : Init) (v : Word) (s : State) : Host.Outcome State Fault Refusal :=
  run (Wf.relayLqcmd init) (fun m => m.busWrite init Reg.HV_LQCMD (fput Fields.HV_LQCMD.RELAY 1 v)) s

/-- CONN_WRITE (R244): A write of CONN opens or closes the pin switch within 20 µs. -/
def execConnWrite (init : Init) (ch : Nat) (on : Bool) (s : State) : Host.Outcome State Fault Refusal :=
  run (Wf.connWrite init ch) (Mod.fieldWrite init (Reg.CH_LCTRL (ch / 128) (ch % 128)) Fields.CH_LCTRL.CONN (b2n on)) s

/-- PMU_OFF (R256): PMU_OFF turns a channel's PMU off at once. -/
def execPmuOff (init : Init) (ch : Nat) (s : State) : Host.Outcome State Fault Refusal :=
  run (Wf.pmuOff init ch) (Mod.fieldWrite init (Reg.CH_LCTRL (ch / 128) (ch % 128)) Fields.CH_LCTRL.PMU_OFF 1) s

/-- HV_ENABLE_WRITE (R259): A write of HV EN enables or disables an output, tested against the budget. -/
def execHvEnableWrite (init : Init) (h : Nat) (on : Bool) (s : State) : Host.Outcome State Fault Refusal :=
  run (Wf.hvEnableWrite init h) (Mod.fieldWrite init (Reg.HV_CTRL h) Fields.HV_CTRL.EN (b2n on)) s

/-- JUMP_GO (R276): GO latches a jump request to segment SEG. -/
def execJumpGo (init : Init) (n : Nat) (v : Word) (s : State) : Host.Outcome State Fault Refusal :=
  run (Wf.jumpGo init n) (fun m => m.busWrite init (Reg.DDS_JUMP n) (fput Fields.DDS_JUMP.GO 1 v)) s

/-- DDS_STOP (R278): STOP requests a stop at the end of the pass in progress. -/
def execDdsStop (init : Init) (n : Nat) (s : State) : Host.Outcome State Fault Refusal :=
  run (Wf.ddsStop init n) (Mod.fieldWrite init (Reg.DDS_CTRL n) Fields.DDS_CTRL.STOP 1) s

/-- SWTRIG (R274): SWTRIG raises trigger source 0x60 for a generator. -/
def execSwtrig (init : Init) (n : Nat) (s : State) : Host.Outcome State Fault Refusal :=
  run (Wf.swtrig init n) (Mod.fieldWrite init (Reg.DDS_CTRL n) Fields.DDS_CTRL.SWTRIG 1) s

/-- AQ_SWTRIG (R291): AQ_SWTRIG raises trigger source 0x60 for the selected AQ inputs. -/
def execAqSwtrig (init : Init) (mask : Nat) (s : State) : Host.Outcome State Fault Refusal :=
  run (Wf.aqSwtrig init mask) (fun m => m.busWrite init Reg.AQ_SWTRIG (BitVec.ofNat 32 mask)) s

/-- FIRE (R297): FIRE drives a 100 ns pulse on SYNCOUT. -/
def execFire (init : Init) (s : State) : Host.Outcome State Fault Refusal :=
  run (Wf.fire init) (Mod.fieldWrite init Reg.WAVE_SYNC_CTRL Fields.WAVE_SYNC_CTRL.FIRE 1) s

/-- AS_CMD (R286): A write of ASn_CMD queues an AS command entry. -/
def execAsCmd (init : Init) (n : Nat) (v : Word) (s : State) : Host.Outcome State Fault Refusal :=
  run (Wf.asCmd init n) (Mod.busWrite init (Reg.AS_CMD n) v) s

/-- TRIG_SET (R296): TRIG_STATE SET sets a line's static level. -/
def execTrigSet (init : Init) (l : Nat) (s : State) : Host.Outcome State Fault Refusal :=
  run (Wf.trigSet init l) (fun m => m.busWrite init Reg.TRIG_STATE (fput Fields.TRIG_STATE.SET (2 ^ l) 0#32)) s

/-- TRIG_CLR (R296): TRIG_STATE CLR clears a line's static level. -/
def execTrigClr (init : Init) (l : Nat) (s : State) : Host.Outcome State Fault Refusal :=
  run (Wf.trigClr init l) (fun m => m.busWrite init Reg.TRIG_STATE (fput Fields.TRIG_STATE.CLR (2 ^ l) 0#32)) s

/-- TIMEBASE_SRC_WRITE (R301): A write of SRC requests a time-base source switch. -/
def execTimebaseSrcWrite (init : Init) (refin : Bool) (s : State) : Host.Outcome State Fault Refusal :=
  run (Wf.timebaseSrcWrite init) (Mod.fieldWrite init Reg.TB_CTRL Fields.TB_CTRL.SRC (b2n refin)) s

/-- TB_TRIM_WRITE (R302): A TB_TRIM write starts a frequency ramp to the new trim. -/
def execTbTrimWrite (init : Init) (v : Word) (s : State) : Host.Outcome State Fault Refusal :=
  run (Wf.tbTrimWrite init) (Mod.busWrite init Reg.TB_TRIM v) s

/-- INC_WRITE (R305): An INC write is accepted from the next tick or refused with INC_RANGE. -/
def execIncWrite (init : Init) (k : Nat) (v : Word) (s : State) : Host.Outcome State Fault Refusal :=
  run (Wf.incWrite init k) (Mod.busWrite init (Reg.TD_INC_HI k) v) s

/-- ADJ_WRITE (R306): An ADJ high-word write requests a step or slew, or is refused. -/
def execAdjWrite (init : Init) (k : Nat) (v : Word) (s : State) : Host.Outcome State Fault Refusal :=
  run (Wf.adjWrite init k) (Mod.busWrite init (Reg.TD_ADJ_HI k) v) s

/-- TD_SET (R308): SET loads SET_SEC and SET_NS at the next tick and sets RUNNING. -/
def execTdSet (init : Init) (k : Nat) (s : State) : Host.Outcome State Fault Refusal :=
  run (Wf.tdSet init k) (Mod.fieldWrite init (Reg.TD_CTRL k) Fields.TD_CTRL.SET 1) s

/-- TD_CLR (R308): CLR clears RUNNING. -/
def execTdClr (init : Init) (k : Nat) (s : State) : Host.Outcome State Fault Refusal :=
  run (Wf.tdClr init k) (Mod.fieldWrite init (Reg.TD_CTRL k) Fields.TD_CTRL.CLR 1) s

/-- FRAC_READ (R309): A read of TDk_FRAC latches NS and SEC for the initiator. -/
def execFracRead (init : Init) (k : Nat) (s : State) : Host.Outcome State Fault Refusal :=
  run (Wf.fracRead init k) (Mod.readOut init (Reg.TD_FRAC k)) s

/-- SNAPSHOT_GO (R311): GO captures a snapshot or arms one for an edge. -/
def execSnapshotGo (init : Init) (s : State) : Host.Outcome State Fault Refusal :=
  run (Wf.snapshotGo init) (Mod.fieldWrite init Reg.TIME_SNAP_CTRL Fields.TIME_SNAP_CTRL.GO 1) s

/-- RXDATA_READ (R315): A read of RXDATA pops the next receive word. -/
def execRxdataRead (init : Init) (p : Nat) (s : State) : Host.Outcome State Fault Refusal :=
  run (Wf.rxdataRead init p) (Mod.readOut init (Reg.TP_RXDATA p)) s

/-- RX_FLUSH (R315): RX_FLUSH empties the receive buffer. -/
def execRxFlush (init : Init) (p : Nat) (s : State) : Host.Outcome State Fault Refusal :=
  run (Wf.rxFlush init p) (Mod.fieldWrite init (Reg.TP_CTRL p) Fields.TP_CTRL.RX_FLUSH 1) s

/-- TXDATA_WRITE (R316): A TXDATA write adds a header or data word of a frame to transmit. -/
def execTxdataWrite (init : Init) (p : Nat) (v : Word) (s : State) : Host.Outcome State Fault Refusal :=
  run (Wf.txdataWrite init p) (Mod.busWrite init (Reg.TP_TXDATA p) v) s

/-- TX_FLUSH (R316): TX_FLUSH discards a partly written frame and resumes TXDATA. -/
def execTxFlush (init : Init) (p : Nat) (s : State) : Host.Outcome State Fault Refusal :=
  run (Wf.txFlush init p) (Mod.fieldWrite init (Reg.TP_CTRL p) Fields.TP_CTRL.TX_FLUSH 1) s

/-- TSQ_POP (R317): TSQ_POP removes the head of the transmit-stamp queue. -/
def execTsqPop (init : Init) (p : Nat) (s : State) : Host.Outcome State Fault Refusal :=
  run (Wf.tsqPop init p) (Mod.fieldWrite init (Reg.TP_CTRL p) Fields.TP_CTRL.TSQ_POP 1) s

/-- PORT_MODE_WRITE (R319): A change of MODE or DOMAIN takes effect at the next frame boundary. -/
def execPortModeWrite (init : Init) (p : Nat) (v : Word) (s : State) : Host.Outcome State Fault Refusal :=
  run (Wf.portModeWrite init p) (Mod.busWrite init (Reg.TP_CFG p) v) s

/-- CAL_START (R332): START begins a calibration run over the chosen domains and dies. -/
def execCalStart (init : Init) (doms : Nat) (scope : Nat) (refs : RefCheck) (s : State) : Host.Outcome State Fault Refusal :=
  run (Wf.calStart init doms scope) (Mod.calCommand init doms scope refs) s

/-- CAL_ABORT (R335): ABORT ends a calibration run early. -/
def execCalAbort (init : Init) (s : State) : Host.Outcome State Fault Refusal :=
  run (Wf.calAbort init) (fun m => m.busWrite init Reg.CAL_CMD (fput Fields.CAL_CMD.OP 2 0#32)) s

/-- XLT_INV_CONTEXT (R362): XLT_INV OP 1 removes one context's cached translations. -/
def execXltInvContext (init : Init) (g : Nat) (s : State) : Host.Outcome State Fault Refusal :=
  run (Wf.xltInvContext init g) (fun m => m.busWrite init Reg.XLT_INV (fput Fields.XLT_INV.CTX g (fput Fields.XLT_INV.OP 1 0#32))) s

/-- XLT_INV_PAGE (R362): XLT_INV OP 2 removes one page's cached translations. -/
def execXltInvPage (init : Init) (g : Nat) (s : State) : Host.Outcome State Fault Refusal :=
  run (Wf.xltInvPage init g) (fun m => m.busWrite init Reg.XLT_INV (fput Fields.XLT_INV.CTX g (fput Fields.XLT_INV.OP 2 0#32))) s

/-- XLT_INV_ALL (R362): XLT_INV OP 3 removes every cached translation. -/
def execXltInvAll (init : Init) (s : State) : Host.Outcome State Fault Refusal :=
  run (Wf.xltInvAll init) (fun m => m.busWrite init Reg.XLT_INV (fput Fields.XLT_INV.OP 3 0#32)) s

/-- FLT_CLEAR (R363): Writing VALID with 1 clears a context's fault latch. -/
def execFltClear (init : Init) (g : Nat) (s : State) : Host.Outcome State Fault Refusal :=
  run (Wf.fltClear init g) (fun m => m.busWrite init (Reg.XLT_CTX_FLT_INFO g) (fput Fields.XLT_CTX_FLT_INFO.VALID 1 0#32)) s

/-- CONTEXT_ENABLE (R362): Setting EN enables a context with the root in force. -/
def execContextEnable (init : Init) (g : Nat) (s : State) : Host.Outcome State Fault Refusal :=
  run (Wf.contextEnable init g) (Mod.fieldWrite init (Reg.XLT_CTX_ROOT_LO g) Fields.XLT_CTX_ROOT_LO.EN 1) s

/-- CONTEXT_DISABLE (R362): Clearing EN disables a context and drops its cached entries. -/
def execContextDisable (init : Init) (g : Nat) (s : State) : Host.Outcome State Fault Refusal :=
  run (Wf.contextDisable init g) (Mod.fieldWrite init (Reg.XLT_CTX_ROOT_LO g) Fields.XLT_CTX_ROOT_LO.EN 0) s

/-- ROOT_WRITE (R5): A ROOT_HI write applies the staged root while EN is 0. -/
def execRootWrite (init : Init) (g : Nat) (v : Word) (s : State) : Host.Outcome State Fault Refusal :=
  run (Wf.rootWrite init g) (Mod.busWrite init (Reg.XLT_CTX_ROOT_HI g) v) s

/-- DMA_STOP (R368): STOP ends the list after the current descriptor. -/
def execDmaStop (init : Init) (ch : Nat) (s : State) : Host.Outcome State Fault Refusal :=
  run (Wf.dmaStop init ch) (Mod.fieldWrite init (Reg.DMA_CH_CTRL ch) Fields.DMA_CH_CTRL.STOP 1) s

/-- DMA_ABORT (R371): ABORT stops both engines at the next beat. -/
def execDmaAbort (init : Init) (ch : Nat) (s : State) : Host.Outcome State Fault Refusal :=
  run (Wf.dmaAbort init ch) (Mod.fieldWrite init (Reg.DMA_CH_CTRL ch) Fields.DMA_CH_CTRL.ABORT 1) s

/-- DMA_RESUME (R369): RESUME restarts a halted channel from POS. -/
def execDmaResume (init : Init) (ch : Nat) (s : State) : Host.Outcome State Fault Refusal :=
  run (Wf.dmaResume init ch) (Mod.fieldWrite init (Reg.DMA_CH_CTRL ch) Fields.DMA_CH_CTRL.RESUME 1) s

/-- ABANDON (R369): ABANDON ends a halted list with its latched code. -/
def execAbandon (init : Init) (ch : Nat) (s : State) : Host.Outcome State Fault Refusal :=
  run (Wf.abandon init ch) (Mod.fieldWrite init (Reg.DMA_CH_CTRL ch) Fields.DMA_CH_CTRL.ABANDON 1) s

/-- SWREQ (R367): Setting SWREQ asserts request source 0x30. -/
def execSwreq (init : Init) (ch : Nat) (s : State) : Host.Outcome State Fault Refusal :=
  run (Wf.swreq init ch) (Mod.fieldWrite init (Reg.DMA_CH_CTRL ch) Fields.DMA_CH_CTRL.SWREQ 1) s

/-- PAIR_EN (R377): PAIR_EN starts lane training or turns the lanes off. -/
def execPairEn (init : Init) (on : Bool) (s : State) : Host.Outcome State Fault Refusal :=
  run (Wf.pairEn init) (Mod.fieldWrite init Reg.SL_CTRL Fields.SL_CTRL.PAIR_EN (b2n on)) s

/-- RETRY (R377): RETRY starts a pair training attempt. -/
def execRetry (init : Init) (s : State) : Host.Outcome State Fault Refusal :=
  run (Wf.retry init) (Mod.fieldWrite init Reg.SL_CTRL Fields.SL_CTRL.RETRY 1) s

/-- REGION_ENABLE (R386): Setting a mirror region's EN while ACTIVE starts a copy of the region. -/
def execRegionEnable (init : Init) (k : Nat) (s : State) : Host.Outcome State Fault Refusal :=
  run (Wf.regionEnable init k) (Mod.fieldWrite init (Reg.SL_MRGN_CFG k) Fields.SL_MRGN_CFG.EN 1) s

/-- SHADOW_ENABLE (R388): Setting the DDS shadow's EN while ACTIVE starts its copy. -/
def execShadowEnable (init : Init) (s : State) : Host.Outcome State Fault Refusal :=
  run (Wf.shadowEnable init) (Mod.fieldWrite init Reg.SL_DDS_SHADOW Fields.SL_DDS_SHADOW.EN 1) s

/-- WB (R413): WB starts a write-back of the counter record. -/
def execWb (init : Init) (s : State) : Host.Outcome State Fault Refusal :=
  runAlways (Wf.wb init) (Mod.fieldWrite init Reg.PLT_CTRL Fields.PLT_CTRL.WB 1) s

/-- UNDOCK (R414): UNDOCK stops counting and starts a write-back. -/
def execUndock (init : Init) (s : State) : Host.Outcome State Fault Refusal :=
  runAlways (Wf.undock init) (Mod.fieldWrite init Reg.PLT_CTRL Fields.PLT_CTRL.UNDOCK 1) s

/-- PLATE_RELOAD (R405): RELOAD repeats the identity and counter read. -/
def execPlateReload (init : Init) (s : State) : Host.Outcome State Fault Refusal :=
  runAlways (Wf.plateReload init) (Mod.fieldWrite init Reg.PLT_CTRL Fields.PLT_CTRL.RELOAD 1) s

/-- ERR_RING_ENABLE (R423): Setting the event ring's ENABLE resets TAIL, head and PHASE. -/
def execErrRingEnable (init : Init) (size : Nat) (s : State) : Host.Outcome State Fault Refusal :=
  run (Wf.errRingEnable init size) (fun m => m.busWrite init Reg.ERR_RING_CFG (fput Fields.ERR_RING_CFG.ENABLE 1 (fput Fields.ERR_RING_CFG.SIZE_LOG2 size 0#32))) s

/-- ERR_RING_HEAD_WRITE (R423): A write of ERR_RING_HEAD consumes records or is discarded. -/
def execErrRingHeadWrite (init : Init) (v : Word) (s : State) : Host.Outcome State Fault Refusal :=
  run (Wf.errRingHeadWrite init) (Mod.busWrite init Reg.ERR_RING_HEAD v) s

end Sys2Proof.Machine
end

