-- ==== Sys2Proof/Machine/SeqCmds.lean ====
section
/-!
DEFINITION. The commands of sequencers, pin-die playout and Proof that are not register writes (Chapters 1, 7, 8, 9).
-/

namespace Sys2Proof.Machine

/-! ### Streams and link blocks -/

/-- REFILL_BLOCK_COMPLETE (R17, R179). -/
def execRefillBlockComplete (n : Nat) (payload : Bool) (host : List Host.Cell) (s : State) : Host.Outcome State Fault Refusal :=
  run (Wf.refillBlockComplete n) (Mod.refillComplete n payload host) s

/-- FIRST_EMISSION (R186). -/
def execFirstEmission (n ofs : Nat) (s : State) : Host.Outcome State Fault Refusal :=
  run (Wf.firstEmission n ofs) (Mod.firstEmission n ofs) s

/-- LANE_GROUP_EMIT (R159, R183). -/
def execLaneGroupEmit (n : Nat) (s : State) : Host.Outcome State Fault Refusal :=
  run (Wf.laneGroupEmit n) (Mod.laneGroupEmit n) s

/-- LINK_BLOCK_CLOSE (R18). -/
def execLinkBlockClose (n : Nat) (s : State) : Host.Outcome State Fault Refusal :=
  run (Wf.linkBlockClose n) (Mod.linkBlockClose n) s

/-- PLINK_BLOCK_RECEIVE (R15, R16). -/
def execPlinkBlockReceive (n die block : Nat) (ok : Bool) (s : State) : Host.Outcome State Fault Refusal :=
  runAlways (Wf.plinkBlockReceive n die) (Mod.plinkReceive n die block ok) s

/-- MIRROR_BLOCK_RECEIVE (R392). -/
def execMirrorBlockReceive (n die block burst : Nat) (body : BlockBody) (last stop safe : Bool) (s : State) :
    Host.Outcome State Fault Refusal :=
  runAlways (Wf.mirrorBlockReceive n die) (Mod.mirrorReceive n die block burst body.vecs body.tail last stop safe) s

/-- BLOCK_DEADLINE (R16, R392, R393). -/
def execBlockDeadline (n die : Nat) (s : State) : Host.Outcome State Fault Refusal :=
  runAlways (Wf.blockDeadline n die) (fun m => ((m.blockDeadline n die).dieWork n 0).dieWork n 1) s

/-! ### Instructions of the factory image (Table 7.5) -/

/-- VEC (R162): up to `k` vectors of the instruction. -/
def execVec (n k : Nat) (s : State) : Host.Outcome State Fault Refusal := run (Wf.vec n k) (Mod.vecInstr n k false) s

/-- RPT (R162). -/
def execRpt (n k : Nat) (s : State) : Host.Outcome State Fault Refusal := run (Wf.rpt n k) (Mod.vecInstr n k true) s

/-- LOOP (R163). -/
def execLoop (n : Nat) (s : State) : Host.Outcome State Fault Refusal :=
  run (Wf.loop n) (Mod.execInstr n (isOp 0x10) (Mod.loopInstr n)) s

/-- ENDL (R163, R174, R175). -/
def execEndl (n : Nat) (s : State) : Host.Outcome State Fault Refusal :=
  run (Wf.endl n) (Mod.execInstr n (isOp 0x11) (fun _ x m => m.endlInstr n x)) s

/-- CALL (R164). -/
def execCall (n : Nat) (s : State) : Host.Outcome State Fault Refusal :=
  run (Wf.call n) (Mod.execInstr n (isOp 0x12) (Mod.callInstr n)) s

/-- RET (R164). -/
def execRet (n : Nat) (s : State) : Host.Outcome State Fault Refusal :=
  run (Wf.ret n) (Mod.execInstr n (isOp 0x13) (fun _ x m => m.retInstr n x)) s

/-- JMP (R165). -/
def execJmp (n : Nat) (s : State) : Host.Outcome State Fault Refusal :=
  run (Wf.jmp n) (Mod.execInstr n (isOp 0x14) (fun w x m => m.jump n w x)) s

/-- JCC (R165, R168). -/
def execJcc (n : Nat) (s : State) : Host.Outcome State Fault Refusal :=
  run (Wf.jcc n) (Mod.execInstr n (isOp 0x15) (Mod.jccInstr n)) s

/-- MATCH (R174). -/
def execMatchInstr (n : Nat) (s : State) : Host.Outcome State Fault Refusal :=
  run (Wf.matchInstr n) (Mod.execInstr n (isOp 0x16) (Mod.matchInstr n)) s

/-- WTRG (R169). -/
def execWtrg (n : Nat) (s : State) : Host.Outcome State Fault Refusal :=
  run (Wf.wtrg n) (Mod.execInstr n (isOp 0x20) (Mod.wtrgInstr n)) s

/-- TSET (R158, R171). -/
def execTset (n : Nat) (s : State) : Host.Outcome State Fault Refusal :=
  run (Wf.tset n) (Mod.execInstr n (isOp 0x21) (Mod.tsetInstr n)) s

/-- LSET (R171). -/
def execLset (n : Nat) (s : State) : Host.Outcome State Fault Refusal :=
  run (Wf.lset n) (Mod.execInstr n (isOp 0x22) (fun w x m => m.ctlInstr n (.lset (w.c16 % 256)) x)) s

/-- SIG with KIND 0 (R171). -/
def execSigPulse (n : Nat) (s : State) : Host.Outcome State Fault Refusal :=
  run (Wf.sigPulse n) (Mod.execInstr n (isSig 0) (Mod.sigInstr n)) s

/-- SIG with KIND 1 (R171). -/
def execSigDriveHigh (n : Nat) (s : State) : Host.Outcome State Fault Refusal :=
  run (Wf.sigDriveHigh n) (Mod.execInstr n (isSig 1) (Mod.sigInstr n)) s

/-- SIG with KIND 2 (R171). -/
def execSigDriveLow (n : Nat) (s : State) : Host.Outcome State Fault Refusal :=
  run (Wf.sigDriveLow n) (Mod.execInstr n (isSig 2) (Mod.sigInstr n)) s

/-- SIG with KIND 3 (R171, R322). -/
def execSigArmTdc (n : Nat) (s : State) : Host.Outcome State Fault Refusal :=
  run (Wf.sigArmTdc n) (Mod.execInstr n (isSig 3) (Mod.sigInstr n)) s

/-- SIG with KIND 4 (R171). -/
def execSigTriggerAq (n : Nat) (s : State) : Host.Outcome State Fault Refusal :=
  run (Wf.sigTriggerAq n) (Mod.execInstr n (isSig 4) (Mod.sigInstr n)) s

/-- SIG with KIND 5 (R171). -/
def execSigSetFlag (n : Nat) (s : State) : Host.Outcome State Fault Refusal :=
  run (Wf.sigSetFlag n) (Mod.execInstr n (isSig 5) (Mod.sigInstr n)) s

/-- SIG with KIND 6 (R171). -/
def execSigClearFlag (n : Nat) (s : State) : Host.Outcome State Fault Refusal :=
  run (Wf.sigClearFlag n) (Mod.execInstr n (isSig 6) (Mod.sigInstr n)) s

/-- SYNC (R170). -/
def execSync (n : Nat) (s : State) : Host.Outcome State Fault Refusal :=
  run (Wf.sync n) (Mod.execInstr n (isOp 0x24) (Mod.syncInstr n)) s

/-- HOLD with ON set (R172). -/
def execHoldOn (n : Nat) (s : State) : Host.Outcome State Fault Refusal :=
  run (Wf.holdOn n) (Mod.execInstr n (fun w => w.op == 0x25 && nbit w.mod 0) (Mod.holdOn n)) s

/-- HOLD with ON clear (R172). -/
def execHoldOff (n : Nat) (s : State) : Host.Outcome State Fault Refusal :=
  run (Wf.holdOff n) (Mod.execInstr n (fun w => w.op == 0x25 && !nbit w.mod 0) (fun _ x m => m.holdOff n x)) s

/-- END (R173). -/
def execEndBurst (n : Nat) (s : State) : Host.Outcome State Fault Refusal :=
  run (Wf.endBurst n) (Mod.execInstr n (isOp 0x3F) (Mod.endInstr n)) s

/-! ### Waits -/

/-- RESULT_WAIT_END (R167, R175). -/
def execResultWaitEnd (n : Nat) (s : State) : Host.Outcome State Fault Refusal :=
  run (Wf.resultWaitEnd n) (Mod.resultWaitEnd n) s

/-- WTRG_TIMEOUT (R169): `us` µs have passed since the wait began, at `ofs` SCLK after the current tick. -/
def execWtrgTimeout (n us ofs : Nat) (s : State) : Host.Outcome State Fault Refusal :=
  run (Wf.wtrgTimeout n ofs) (fun m => m.wtrgTimeout n us (m.ttime + ofs)) s

/-- SYNC_TIMEOUT (R170). -/
def execSyncTimeout (n us : Nat) (s : State) : Host.Outcome State Fault Refusal :=
  run (Wf.syncTimeout n) (Mod.syncTimeout n us) s

/-- MATCH_EXIT (R175). -/
def execMatchExit (n : Nat) (s : State) : Host.Outcome State Fault Refusal :=
  run (Wf.matchExit n) (fun m => (m.commit n).tryMatchExit n) s

/-! ### Pin dies and Proof -/

/-- VECTOR_PLAY (R20, R196). -/
def execVectorPlay (n die : Nat) (samples : List Int) (s : State) : Host.Outcome State Fault Refusal :=
  runAlways (Wf.vectorPlay n die) (fun m => (m.vectorPlay n die samples).dieWork n die) s

/-- STROBE_JUDGEMENT (R213). -/
def execStrobeJudgement (ch : Nat) (obs : List (Int × Nat)) (s : State) : Host.Outcome State Fault Refusal :=
  runAlways (Wf.strobeJudgement ch obs) (Mod.strobeJudgement ch obs) s

/-- GAP (R225). -/
def execGap (n die : Nat) (s : State) : Host.Outcome State Fault Refusal := run (Wf.gap n die) (Mod.gapRec n die) s

/-- PROOF_RECORD_RECEIVE (R224). -/
def execProofRecordReceive (n : Nat) (s : State) : Host.Outcome State Fault Refusal :=
  run (Wf.proofRecordReceive n) (Mod.proofReceive n) s

/-- BURST_TOKEN (R220). -/
def execBurstToken (n die : Nat) (s : State) : Host.Outcome State Fault Refusal :=
  run (Wf.burstToken n die) (Mod.burstToken n die) s

/-- SPILL_COPY (R228). -/
def execSpillCopy (n : Nat) (s : State) : Host.Outcome State Fault Refusal := run (Wf.spillCopy n) (Mod.spillCopy n) s

/-- TRACE_HEADER_WRITE (R233). -/
def execTraceHeaderWrite (n die : Nat) (s : State) : Host.Outcome State Fault Refusal :=
  run (Wf.traceHeaderWrite n die) (Mod.traceHeader n die) s

/-- CAPTURE_RETURN_RECORD (R237). -/
def execCaptureReturnRecord (n : Nat) (record : List Byte) (s : State) : Host.Outcome State Fault Refusal :=
  run (Wf.captureReturnRecord n record) (Mod.captureReturn n record) s

/-- BURST_COMPLETE (R190, R191). -/
def execBurstComplete (n : Nat) (s : State) : Host.Outcome State Fault Refusal :=
  run (Wf.burstComplete n) (fun m => (m.burstComplete n).offReady) s

end Sys2Proof.Machine
end

