-- ==== Sys2Proof/Machine/TimeCmds.lean ====
section
/-!
DEFINITION. The events of time (Chapter 12).
-/

namespace Sys2Proof.Machine

/-- REFIN_LOSS (R299): Active REFIN loses presence or window and the PLLs enter holdover. -/
def execRefinLoss (window : Bool) (s : State) : Host.Outcome State Fault Refusal :=
  runAlways true (Mod.refinLossAll window) s

/-- REFIN_REQUALIFY (R300): REFIN qualifies again and the PLLs leave holdover, pulling in slowly. -/
def execRefinRequalify (det : Nat) (ppb : Int) (s : State) : Host.Outcome State Fault Refusal :=
  runAlways (Wf.refinRequalify det ppb) (Mod.refinRequalify det ppb) s

/-- REF_LOCKED (R300): The PLLs come within 1 ppb of REFIN. -/
def execRefLocked (s : State) : Host.Outcome State Fault Refusal :=
  runAlways true (Mod.refLocked) s

/-- TIMEBASE_SWITCH (R301): The pending switch starts when units are idle and the source qualified. -/
def execTimebaseSwitch (s : State) : Host.Outcome State Fault Refusal :=
  runAlways true (Mod.timebaseSwitch) s

/-- DOMAIN_TICK (R304): At each 4 ns tick every time domain adds its effective increment. -/
def execDomainTick (n : Nat) (s : State) : Host.Outcome State Fault Refusal :=
  runAlways true (Mod.domainTick n) s

/-- FRAME_RECEIVE (R315): A received frame is filtered, stamped and placed whole in the receive buffer. -/
def execFrameReceive (p : Nat) (ps : Nat) (f : List Byte) (fcsOk : Bool) (s : State) : Host.Outcome State Fault Refusal :=
  run (Wf.frameReceive p ps) (Mod.frameReceive p ps f fcsOk) s

/-- FRAME_TRANSMIT (R317): A complete frame is sent and stamped to the queue as requested. -/
def execFrameTransmit (p : Nat) (ps : Nat) (s : State) : Host.Outcome State Fault Refusal :=
  run (Wf.frameTransmit p ps) (Mod.frameTransmit p ps) s

/-- BLOCK_LOCK_ACQUIRED (R312): A time port's 10GBASE-R receiver gains clause 49 block lock and BLOCK_LOCK is set. -/
def execBlockLockAcquired (p : Nat) (s : State) : Host.Outcome State Fault Refusal :=
  runAlways (Wf.blockLockAcquired p) (Mod.wr (Reg.TP_STATUS p) Fields.TP_STATUS.BLOCK_LOCK 1) s

/-- LINK_DOWN (R312): A time port loses block lock and LINK_DOWN is set. -/
def execLinkDown (p : Nat) (s : State) : Host.Outcome State Fault Refusal :=
  runAlways (Wf.linkDown p) (Mod.timeLinkDown p) s

/-- TDC_ARM (R322): The TDC unit is armed 1 µs after dispatch. -/
def execTdcArm (u : Nat) (s : State) : Host.Outcome State Fault Refusal :=
  runAlways (Wf.tdcArm u) (Mod.tdcArm u) s

/-- TDC_START_EDGE (R323): A start edge is stamped after the arm. -/
def execTdcStartEdge (u : Nat) (coarse : Nat) (fine : Nat) (s : State) : Host.Outcome State Fault Refusal :=
  runAlways (Wf.tdcStartEdge u fine) (Mod.tdcStart u (coarse, fine)) s

/-- TDC_STOP_EDGE (R323): A stop edge is stamped and, at STOP_N, completes the measurement. -/
def execTdcStopEdge (u : Nat) (coarse : Nat) (fine : Nat) (s : State) : Host.Outcome State Fault Refusal :=
  runAlways (Wf.tdcStopEdge u fine) (Mod.tdcStop u (coarse, fine)) s

/-- TDC_WINDOW_EXPIRY (R325): WINDOW passes without start or stop and the measurement ends. -/
def execTdcWindowExpiry (u : Nat) (s : State) : Host.Outcome State Fault Refusal :=
  runAlways (Wf.tdcWindowExpiry u) (Mod.tdcExpiry u) s

/-- TDC_RANGE_EXCEEDED (R325): 2^40 coarse counts pass after the start without a stop and the measurement ends with TDC_NO_STOP. -/
def execTdcRangeExceeded (u : Nat) (s : State) : Host.Outcome State Fault Refusal :=
  runAlways (Wf.tdcRangeExceeded u) (Mod.tdcRange u) s

end Sys2Proof.Machine
end

