-- ==== Sys2Proof/Machine/WaveCmds.lean ====
section
/-!
DEFINITION. The events of waveforms, acquisition and triggers (Chapter 11).
-/

namespace Sys2Proof.Machine

/-- WAVE_START (R274): At t0 the generator generates sample 0 once its start condition is met. -/
def execWaveStart (n : Nat) (s : State) : Host.Outcome State Fault Refusal :=
  runAlways (Wf.waveStart n) (Mod.waveStart n) s

/-- LIST_ENTRY_FETCH (R270): A list entry or descriptor is fetched to H0 ahead of generation. -/
def execListEntryFetch (n : Nat) (s : State) : Host.Outcome State Fault Refusal :=
  run (Wf.listEntryFetch n) (Mod.listFetch n) s

/-- PASS_END (R275): A pass through a segment ends and playback repeats, moves to NEXT, jumps or stops. -/
def execPassEnd (n : Nat) (s : State) : Host.Outcome State Fault Refusal :=
  runAlways (Wf.passEnd n) (Mod.passEnd n) s

/-- PLAYBACK_END (R278): The last sample reaches its output instant and the WAVE_PLAY node completes. -/
def execPlaybackEnd (n : Nat) (s : State) : Host.Outcome State Fault Refusal :=
  runAlways (Wf.playbackEnd n) (Mod.playbackEnd n) s

/-- MARKER_FIRE (R281): A marker fires at its entry's first output instant and pulses its TRIG lines. -/
def execMarkerFire (n : Nat) (s : State) : Host.Outcome State Fault Refusal :=
  runAlways (Wf.markerFire n) (Mod.markerFire n) s

/-- SYNCIN_EDGE (R282): A SYNCIN rising edge with ARM set establishes epoch 0. -/
def execSyncinEdge (ofs : Nat) (s : State) : Host.Outcome State Fault Refusal :=
  runAlways (Wf.syncinEdge ofs) (Mod.syncinEdge ofs) s

/-- AS_COMMAND_APPLY (R286): An AS command entry is applied at a level sample edge. -/
def execAsCommandApply (n : Nat) (s : State) : Host.Outcome State Fault Refusal :=
  runAlways (Wf.asCommandApply n) (Mod.asApply n) s

/-- RANGE_CHANGE_END (R261): 12 µs after a range change the new range engages and held entries apply. -/
def execRangeChangeEnd (u : Nat) (s : State) : Host.Outcome State Fault Refusal :=
  runAlways (Wf.rangeChangeEnd u) (fun m => if u < 32 then m.rangeChangeEnd u else m.asRangeEnd (u - 32)) s

/-- CLIM (R288): An AS output at its clamp for 1 µs sets CLIM. -/
def execClim (n : Nat) (us : Nat) (s : State) : Host.Outcome State Fault Refusal :=
  runAlways (Wf.clim n) (Mod.clim n us) s

/-- CLIMOFF_TRIP (R288): With CLIM_OFF an AS output at its clamp for 10 ms is disabled. -/
def execClimoffTrip (n : Nat) (us : Nat) (s : State) : Host.Outcome State Fault Refusal :=
  runAlways (Wf.climoffTrip n) (Mod.climoffTrip n us) s

/-- DEV (R289): An AS sense deviation beyond threshold for DEV_US sets DEV. -/
def execDev (n : Nat) (mv : Nat) (us : Nat) (s : State) : Host.Outcome State Fault Refusal :=
  runAlways (Wf.dev n) (Mod.dev n mv us) s

/-- AQ_WORD (R290): An averaging interval ends and one acquisition word is produced. -/
def execAqWord (n : Nat) (samples : List Int) (ovr : Bool) (s : State) : Host.Outcome State Fault Refusal :=
  runAlways (Wf.aqWord n samples) (Mod.aqWord n samples ovr) s

/-- AQ_RECORD_COPY (R292): After the last word the record is copied to DEST and its header written. -/
def execAqRecordCopy (n : Nat) (k : Nat) (s : State) : Host.Outcome State Fault Refusal :=
  run (Wf.aqRecordCopy n) (Mod.aqCopy n k) s

/-- PULSE_END (R296): A SIG or marker pulse reaches its end. -/
def execPulseEnd (l : Nat) (s : State) : Host.Outcome State Fault Refusal :=
  runAlways (Wf.pulseEnd l) (Mod.pulseEnd l) s

/-- TRIG_EDGE_DETECT (R297): A detected edge on a TRIG, XTRIG or SYNCIN input is delivered to its users. -/
def execTrigEdgeDetect (l : Nat) (level : Bool) (ofs : Nat) (s : State) : Host.Outcome State Fault Refusal :=
  runAlways (Wf.trigEdgeDetect l ofs) (Mod.trigEdge l level ofs) s

end Sys2Proof.Machine
end

