-- ==== Sys2Proof/Machine/Dispatch.lean ====
section
/-!
DEFINITION. One arm for each command: a direct call of its meaning, or a rejection by name.
-/

namespace Sys2Proof.Machine

def exec (i : Instr) (s : State) : Host.Outcome State Fault Refusal :=
  match i with
  | .malformedAccess init off width write => Sys2Proof.Machine.execMalformedAccess init off width write s
  | .pairLowRead init off => Sys2Proof.Machine.execPairLowRead init off s
  | .pairLowWrite init off v => Sys2Proof.Machine.execPairLowWrite init off v s
  | .pairHighWrite init off v => Sys2Proof.Machine.execPairHighWrite init off v s
  | .registerWrite init off v => Sys2Proof.Machine.execRegisterWrite init off v s
  | .plinkBlockReceive n die block ok => Sys2Proof.Machine.execPlinkBlockReceive n die block ok s
  | .refillBlockComplete n payload host => Sys2Proof.Machine.execRefillBlockComplete n payload host s
  | .linkBlockClose n => Sys2Proof.Machine.execLinkBlockClose n s
  | .xingOvf k unit => Sys2Proof.Machine.execXingOvf k unit s
  | .sramUe a => Sys2Proof.Machine.execSramUe a s
  | .sramCe a => Sys2Proof.Machine.execSramCe a s
  | .hostBar2Read off len => Sys2Proof.Machine.execHostBar2Read off len s
  | .hostBar2Write off data => Sys2Proof.Machine.execHostBar2Write off data s
  | .forwardedClockLoss d => Sys2Proof.Machine.execForwardedClockLoss d s
  | .h0FrameReceive seq secondary intact f => Sys2Proof.Machine.execH0FrameReceive seq secondary intact f s
  | .vinTrip high => Sys2Proof.Machine.execVinTrip high s
  | .vauxTrip => Sys2Proof.Machine.execVauxTrip s
  | .hvSupply i0 us => Sys2Proof.Machine.execHvSupply i0 us s
  | .h0SoftStart ms => Sys2Proof.Machine.execH0SoftStart ms s
  | .hgndRange ofs us => Sys2Proof.Machine.execHgndRange ofs us s
  | .railFault r us => Sys2Proof.Machine.execRailFault r us s
  | .driverDisconnect d => Sys2Proof.Machine.execDriverDisconnect d s
  | .trip k t => Sys2Proof.Machine.execTrip k t s
  | .governorSample mv ma10 temps => Sys2Proof.Machine.execGovernorSample mv ma10 temps s
  | .levelRise us => Sys2Proof.Machine.execLevelRise us s
  | .levelFall us => Sys2Proof.Machine.execLevelFall us s
  | .unitStart u => Sys2Proof.Machine.execUnitStart u s
  | .startFail u => Sys2Proof.Machine.execStartFail u s
  | .orderlyPowerDown => Sys2Proof.Machine.execOrderlyPowerDown s
  | .coldResetRelease prof ms => Sys2Proof.Machine.execColdResetRelease prof ms s
  | .powerStageStart vinMs => Sys2Proof.Machine.execPowerStageStart vinMs s
  | .timebaseLock => Sys2Proof.Machine.execTimebaseLock s
  | .pcieDetect => Sys2Proof.Machine.execPcieDetect s
  | .flashLoadComplete => Sys2Proof.Machine.execFlashLoadComplete s
  | .gddr7TrainingComplete bad => Sys2Proof.Machine.execGddr7TrainingComplete bad s
  | .plinkTrained d => Sys2Proof.Machine.execPlinkTrained d s
  | .hlinkTrained => Sys2Proof.Machine.execHlinkTrained s
  | .refinQualified det ppb => Sys2Proof.Machine.execRefinQualified det ppb s
  | .apply ms => Sys2Proof.Machine.execApply ms s
  | .mrstAssert ns => Sys2Proof.Machine.execMrstAssert ns s
  | .warm init => Sys2Proof.Machine.execWarm init s
  | .handover init => Sys2Proof.Machine.execHandover init s
  | .cold init => Sys2Proof.Machine.execCold init s
  | .perst => Sys2Proof.Machine.execPerst s
  | .profileSelect init prof => Sys2Proof.Machine.execProfileSelect init prof s
  | .profileWrite init prof => Sys2Proof.Machine.execProfileWrite init prof s
  | .profileWriteDone ok => Sys2Proof.Machine.execProfileWriteDone ok s
  | .doorbell init off size full v => Sys2Proof.Machine.execDoorbell init off size full v s
  | .descriptorFetch q n => Sys2Proof.Machine.execDescriptorFetch q n s
  | .descriptorReadComplete q data => Sys2Proof.Machine.execDescriptorReadComplete q data s
  | .nop q k => Sys2Proof.Machine.execNop q k s
  | .graphLaunch q k host => Sys2Proof.Machine.execGraphLaunch q k host s
  | .graphAbort q k => Sys2Proof.Machine.execGraphAbort q k s
  | .tokenInject q k => Sys2Proof.Machine.execTokenInject q k s
  | .dmaList q k host => Sys2Proof.Machine.execDmaList q k host s
  | .nodeRun q k host => Sys2Proof.Machine.execNodeRun q k host s
  | .completionWrite c => Sys2Proof.Machine.execCompletionWrite c s
  | .modTimeExpiry c us => Sys2Proof.Machine.execModTimeExpiry c us s
  | .msixSend v => Sys2Proof.Machine.execMsixSend v s
  | .holdConditionBegin c => Sys2Proof.Machine.execHoldConditionBegin c s
  | .holdConditionEnd c speed width mps mrrs host => Sys2Proof.Machine.execHoldConditionEnd c speed width mps mrrs host s
  | .load init => Sys2Proof.Machine.execLoad init s
  | .bind init => Sys2Proof.Machine.execBind init s
  | .unbind init => Sys2Proof.Machine.execUnbind init s
  | .resume init => Sys2Proof.Machine.execResume init s
  | .bar4BaseWrite init v => Sys2Proof.Machine.execBar4BaseWrite init v s
  | .bar4Access off len data => Sys2Proof.Machine.execBar4Access off len data s
  | .cqEnable init c v => Sys2Proof.Machine.execCqEnable init c v s
  | .instanceAccept q k host => Sys2Proof.Machine.execInstanceAccept q k host s
  | .nodeFetch i0 node host => Sys2Proof.Machine.execNodeFetch i0 node host s
  | .nodeComplete us => Sys2Proof.Machine.execNodeComplete us s
  | .tokenRelease i0 node us => Sys2Proof.Machine.execTokenRelease i0 node us s
  | .arbiterDecision cls host => Sys2Proof.Machine.execArbiterDecision cls host s
  | .nodeTimeout i0 node us => Sys2Proof.Machine.execNodeTimeout i0 node us s
  | .timeout i0 us => Sys2Proof.Machine.execTimeout i0 us s
  | .preemptDone core us host => Sys2Proof.Machine.execPreemptDone core us host s
  | .preemptTo core us => Sys2Proof.Machine.execPreemptTo core us s
  | .groupDisable init g => Sys2Proof.Machine.execGroupDisable init g s
  | .groupDisableFlush init g weight => Sys2Proof.Machine.execGroupDisableFlush init g weight s
  | .groupEnable init g weight => Sys2Proof.Machine.execGroupEnable init g weight s
  | .unitDisable init => Sys2Proof.Machine.execUnitDisable init s
  | .unitDisableFlush init => Sys2Proof.Machine.execUnitDisableFlush init s
  | .unitEnable init => Sys2Proof.Machine.execUnitEnable init s
  | .privRecordAppend q => Sys2Proof.Machine.execPrivRecordAppend q s
  | .spillRefill q host => Sys2Proof.Machine.execSpillRefill q host s
  | .privSet init q => Sys2Proof.Machine.execPrivSet init q s
  | .traceCopy => Sys2Proof.Machine.execTraceCopy s
  | .coreDeviceAccess c a n acc host => Sys2Proof.Machine.execCoreDeviceAccess c a n acc host s
  | .coreBoot c => Sys2Proof.Machine.execCoreBoot c s
  | .scoreHold init n => Sys2Proof.Machine.execScoreHold init n s
  | .scoreGo init n => Sys2Proof.Machine.execScoreGo init n s
  | .exit c value flags => Sys2Proof.Machine.execExit c value flags s
  | .boundary c => Sys2Proof.Machine.execBoundary c s
  | .inputCall c i0 => Sys2Proof.Machine.execInputCall c i0 s
  | .ttimeCall c => Sys2Proof.Machine.execTtimeCall c s
  | .datalog c q a host => Sys2Proof.Machine.execDatalog c q a host s
  | .stepException c xlt => Sys2Proof.Machine.execStepException c xlt s
  | .stepKilled c us => Sys2Proof.Machine.execStepKilled c us s
  | .stepEcc c => Sys2Proof.Machine.execStepEcc c s
  | .watchdogExpiry k => Sys2Proof.Machine.execWatchdogExpiry k s
  | .kick init n => Sys2Proof.Machine.execKick init n s
  | .mcoreHold init n => Sys2Proof.Machine.execMcoreHold init n s
  | .mcoreGo init n => Sys2Proof.Machine.execMcoreGo init n s
  | .mgmtLoadUpdate loads => Sys2Proof.Machine.execMgmtLoadUpdate loads s
  | .shedRise ms => Sys2Proof.Machine.execShedRise ms s
  | .shedFall ms => Sys2Proof.Machine.execShedFall ms s
  | .microwordExecute n k us => Sys2Proof.Machine.execMicrowordExecute n k us s
  | .scrub w => Sys2Proof.Machine.execScrub w s
  | .check init => Sys2Proof.Machine.execCheck init s
  | .reload init => Sys2Proof.Machine.execReload init s
  | .checkComplete => Sys2Proof.Machine.execCheckComplete s
  | .firstEmission n ofs => Sys2Proof.Machine.execFirstEmission n ofs s
  | .vec n k => Sys2Proof.Machine.execVec n k s
  | .rpt n k => Sys2Proof.Machine.execRpt n k s
  | .loop n => Sys2Proof.Machine.execLoop n s
  | .endl n => Sys2Proof.Machine.execEndl n s
  | .call n => Sys2Proof.Machine.execCall n s
  | .ret n => Sys2Proof.Machine.execRet n s
  | .jmp n => Sys2Proof.Machine.execJmp n s
  | .jcc n => Sys2Proof.Machine.execJcc n s
  | .matchInstr n => Sys2Proof.Machine.execMatchInstr n s
  | .wtrg n => Sys2Proof.Machine.execWtrg n s
  | .tset n => Sys2Proof.Machine.execTset n s
  | .lset n => Sys2Proof.Machine.execLset n s
  | .sigPulse n => Sys2Proof.Machine.execSigPulse n s
  | .sigDriveHigh n => Sys2Proof.Machine.execSigDriveHigh n s
  | .sigDriveLow n => Sys2Proof.Machine.execSigDriveLow n s
  | .sigArmTdc n => Sys2Proof.Machine.execSigArmTdc n s
  | .sigTriggerAq n => Sys2Proof.Machine.execSigTriggerAq n s
  | .sigSetFlag n => Sys2Proof.Machine.execSigSetFlag n s
  | .sigClearFlag n => Sys2Proof.Machine.execSigClearFlag n s
  | .sync n => Sys2Proof.Machine.execSync n s
  | .holdOn n => Sys2Proof.Machine.execHoldOn n s
  | .holdOff n => Sys2Proof.Machine.execHoldOff n s
  | .endBurst n => Sys2Proof.Machine.execEndBurst n s
  | .resultWaitEnd n => Sys2Proof.Machine.execResultWaitEnd n s
  | .wtrgTimeout n us ofs => Sys2Proof.Machine.execWtrgTimeout n us ofs s
  | .syncTimeout n us => Sys2Proof.Machine.execSyncTimeout n us s
  | .matchExit n => Sys2Proof.Machine.execMatchExit n s
  | .laneGroupEmit n => Sys2Proof.Machine.execLaneGroupEmit n s
  | .pause init n => Sys2Proof.Machine.execPause init n s
  | .pauseClear init n => Sys2Proof.Machine.execPauseClear init n s
  | .halt init n => Sys2Proof.Machine.execHalt init n s
  | .clrMchk init n => Sys2Proof.Machine.execClrMchk init n s
  | .burstComplete n => Sys2Proof.Machine.execBurstComplete n s
  | .tperWrite init n k v => Sys2Proof.Machine.execTperWrite init n k v s
  | .vectorPlay n die samples => Sys2Proof.Machine.execVectorPlay n die samples s
  | .strobeJudgement ch obs => Sys2Proof.Machine.execStrobeJudgement ch obs s
  | .gap n die => Sys2Proof.Machine.execGap n die s
  | .proofRecordReceive n => Sys2Proof.Machine.execProofRecordReceive n s
  | .burstToken n die => Sys2Proof.Machine.execBurstToken n die s
  | .spillCopy n => Sys2Proof.Machine.execSpillCopy n s
  | .traceHeaderWrite n die => Sys2Proof.Machine.execTraceHeaderWrite n die s
  | .rdWrite init n v => Sys2Proof.Machine.execRdWrite init n v s
  | .srdWrite init n v => Sys2Proof.Machine.execSrdWrite init n v s
  | .fcntWrite init ch v => Sys2Proof.Machine.execFcntWrite init ch v s
  | .captureReturnRecord n record => Sys2Proof.Machine.execCaptureReturnRecord n record s
  | .levelQueueApply q => Sys2Proof.Machine.execLevelQueueApply q s
  | .chLqcmd init d v => Sys2Proof.Machine.execChLqcmd init d v s
  | .hvLqcmd init v => Sys2Proof.Machine.execHvLqcmd init v s
  | .relayLqcmd init v => Sys2Proof.Machine.execRelayLqcmd init v s
  | .lim ch us => Sys2Proof.Machine.execLim ch us s
  | .connWrite init ch on => Sys2Proof.Machine.execConnWrite init ch on s
  | .pmuMeasComplete c raws lsb limit ovr => Sys2Proof.Machine.execPmuMeasComplete c raws lsb limit ovr s
  | .pmuOff init ch => Sys2Proof.Machine.execPmuOff init ch s
  | .ilim h us => Sys2Proof.Machine.execIlim h us s
  | .limoffTrip h us => Sys2Proof.Machine.execLimoffTrip h us s
  | .hvEnableWrite init h on => Sys2Proof.Machine.execHvEnableWrite init h on s
  | .rangeChangeEnd u => Sys2Proof.Machine.execRangeChangeEnd u s
  | .relayOvercurrent i0 us => Sys2Proof.Machine.execRelayOvercurrent i0 us s
  | .h0Silence us => Sys2Proof.Machine.execH0Silence us s
  | .waveStart n => Sys2Proof.Machine.execWaveStart n s
  | .listEntryFetch n => Sys2Proof.Machine.execListEntryFetch n s
  | .passEnd n => Sys2Proof.Machine.execPassEnd n s
  | .jumpGo init n v => Sys2Proof.Machine.execJumpGo init n v s
  | .ddsStop init n => Sys2Proof.Machine.execDdsStop init n s
  | .playbackEnd n => Sys2Proof.Machine.execPlaybackEnd n s
  | .swtrig init n => Sys2Proof.Machine.execSwtrig init n s
  | .aqSwtrig init mask => Sys2Proof.Machine.execAqSwtrig init mask s
  | .markerFire n => Sys2Proof.Machine.execMarkerFire n s
  | .syncinEdge ofs => Sys2Proof.Machine.execSyncinEdge ofs s
  | .fire init => Sys2Proof.Machine.execFire init s
  | .asCmd init n v => Sys2Proof.Machine.execAsCmd init n v s
  | .asCommandApply n => Sys2Proof.Machine.execAsCommandApply n s
  | .clim n us => Sys2Proof.Machine.execClim n us s
  | .climoffTrip n us => Sys2Proof.Machine.execClimoffTrip n us s
  | .dev n mv us => Sys2Proof.Machine.execDev n mv us s
  | .aqWord n samples ovr => Sys2Proof.Machine.execAqWord n samples ovr s
  | .aqRecordCopy n k => Sys2Proof.Machine.execAqRecordCopy n k s
  | .trigEdgeDetect l level ofs => Sys2Proof.Machine.execTrigEdgeDetect l level ofs s
  | .trigSet init l => Sys2Proof.Machine.execTrigSet init l s
  | .trigClr init l => Sys2Proof.Machine.execTrigClr init l s
  | .pulseEnd l => Sys2Proof.Machine.execPulseEnd l s
  | .refinLoss window => Sys2Proof.Machine.execRefinLoss window s
  | .refinRequalify det ppb => Sys2Proof.Machine.execRefinRequalify det ppb s
  | .refLocked => Sys2Proof.Machine.execRefLocked s
  | .timebaseSrcWrite init refin => Sys2Proof.Machine.execTimebaseSrcWrite init refin s
  | .timebaseSwitch => Sys2Proof.Machine.execTimebaseSwitch s
  | .tbTrimWrite init v => Sys2Proof.Machine.execTbTrimWrite init v s
  | .domainTick n => Sys2Proof.Machine.execDomainTick n s
  | .incWrite init k v => Sys2Proof.Machine.execIncWrite init k v s
  | .adjWrite init k v => Sys2Proof.Machine.execAdjWrite init k v s
  | .tdSet init k => Sys2Proof.Machine.execTdSet init k s
  | .tdClr init k => Sys2Proof.Machine.execTdClr init k s
  | .fracRead init k => Sys2Proof.Machine.execFracRead init k s
  | .snapshotGo init => Sys2Proof.Machine.execSnapshotGo init s
  | .frameReceive p ps f fcsOk => Sys2Proof.Machine.execFrameReceive p ps f fcsOk s
  | .rxdataRead init p => Sys2Proof.Machine.execRxdataRead init p s
  | .rxFlush init p => Sys2Proof.Machine.execRxFlush init p s
  | .txdataWrite init p v => Sys2Proof.Machine.execTxdataWrite init p v s
  | .frameTransmit p ps => Sys2Proof.Machine.execFrameTransmit p ps s
  | .txFlush init p => Sys2Proof.Machine.execTxFlush init p s
  | .tsqPop init p => Sys2Proof.Machine.execTsqPop init p s
  | .portModeWrite init p v => Sys2Proof.Machine.execPortModeWrite init p v s
  | .tdcArm u => Sys2Proof.Machine.execTdcArm u s
  | .tdcStartEdge u coarse fine => Sys2Proof.Machine.execTdcStartEdge u coarse fine s
  | .tdcStopEdge u coarse fine => Sys2Proof.Machine.execTdcStopEdge u coarse fine s
  | .tdcWindowExpiry u => Sys2Proof.Machine.execTdcWindowExpiry u s
  | .calStart init doms scope refs => Sys2Proof.Machine.execCalStart init doms scope refs s
  | .calAbort init => Sys2Proof.Machine.execCalAbort init s
  | .calDomainComplete vals temp refs => Sys2Proof.Machine.execCalDomainComplete vals temp refs s
  | .calRefLost refs => Sys2Proof.Machine.execCalRefLost refs s
  | .driftAssessment => Sys2Proof.Machine.execDriftAssessment s
  | .trackingUpdate c ended ok => Sys2Proof.Machine.execTrackingUpdate c ended ok s
  | .pageIdleExpiry c bank dclk => Sys2Proof.Machine.execPageIdleExpiry c bank dclk s
  | .refreshDue c => Sys2Proof.Machine.execRefreshDue c s
  | .opportunisticRefresh c => Sys2Proof.Machine.execOpportunisticRefresh c s
  | .catchup c => Sys2Proof.Machine.execCatchup c s
  | .doubledRate d temp => Sys2Proof.Machine.execDoubledRate d temp s
  | .normalRate d temp => Sys2Proof.Machine.execNormalRate d temp s
  | .selfRefreshEntry d us => Sys2Proof.Machine.execSelfRefreshEntry d us s
  | .selfRefreshExit d => Sys2Proof.Machine.execSelfRefreshExit d s
  | .memoryRequest c reqs crc ce ue => Sys2Proof.Machine.execMemoryRequest c reqs crc ce ue s
  | .tableWalk ctx va dir req index => Sys2Proof.Machine.execTableWalk ctx va dir req index s
  | .xltInvContext init g => Sys2Proof.Machine.execXltInvContext init g s
  | .xltInvPage init g => Sys2Proof.Machine.execXltInvPage init g s
  | .xltInvAll init => Sys2Proof.Machine.execXltInvAll init s
  | .invDone => Sys2Proof.Machine.execInvDone s
  | .fltClear init g => Sys2Proof.Machine.execFltClear init g s
  | .contextEnable init g => Sys2Proof.Machine.execContextEnable init g s
  | .contextDisable init g => Sys2Proof.Machine.execContextDisable init g s
  | .rootWrite init g v => Sys2Proof.Machine.execRootWrite init g v s
  | .dmaDescriptorRead ch host => Sys2Proof.Machine.execDmaDescriptorRead ch host s
  | .copy ch n host => Sys2Proof.Machine.execCopy ch n host s
  | .fill ch n => Sys2Proof.Machine.execFill ch n s
  | .regwr ch => Sys2Proof.Machine.execRegwr ch s
  | .dmaDescriptorComplete ch => Sys2Proof.Machine.execDmaDescriptorComplete ch s
  | .preqAssert ch => Sys2Proof.Machine.execPreqAssert ch s
  | .dmaStop init ch => Sys2Proof.Machine.execDmaStop init ch s
  | .dmaAbort init ch => Sys2Proof.Machine.execDmaAbort init ch s
  | .dmaResume init ch => Sys2Proof.Machine.execDmaResume init ch s
  | .abandon init ch => Sys2Proof.Machine.execAbandon init ch s
  | .swreq init ch => Sys2Proof.Machine.execSwreq init ch s
  | .dmaTransferError ch kind write => Sys2Proof.Machine.execDmaTransferError ch kind write s
  | .pdTimeout ch us => Sys2Proof.Machine.execPdTimeout ch us s
  | .pairEn init on => Sys2Proof.Machine.execPairEn init on s
  | .retry init => Sys2Proof.Machine.execRetry init s
  | .trainingAttempt us lanes => Sys2Proof.Machine.execTrainingAttempt us lanes s
  | .attemptTimeout us ms => Sys2Proof.Machine.execAttemptTimeout us ms s
  | .handshake role crc refin version pcc ms => Sys2Proof.Machine.execHandshake role crc refin version pcc ms s
  | .resyncComplete base => Sys2Proof.Machine.execResyncComplete base s
  | .fomMeasure k fom => Sys2Proof.Machine.execFomMeasure k fom s
  | .laneLoss k => Sys2Proof.Machine.execLaneLoss k s
  | .laneDisable k => Sys2Proof.Machine.execLaneDisable k s
  | .restripe g => Sys2Proof.Machine.execRestripe g s
  | .laneRetrain k fom ms => Sys2Proof.Machine.execLaneRetrain k fom ms s
  | .forwardedWrite dest addr data => Sys2Proof.Machine.execForwardedWrite dest addr data s
  | .regionEnable init k => Sys2Proof.Machine.execRegionEnable init k s
  | .regionCopyDone k => Sys2Proof.Machine.execRegionCopyDone k s
  | .shadowEnable init => Sys2Proof.Machine.execShadowEnable init s
  | .burstStart j port site group node seq args host => Sys2Proof.Machine.execBurstStart j port site group node seq args host s
  | .decisionRecord n kind outcome vec => Sys2Proof.Machine.execDecisionRecord n kind outcome vec s
  | .nodeDispatch j slot site group node cls unit => Sys2Proof.Machine.execNodeDispatch j slot site group node cls unit s
  | .nodeEnd j own slot site group node status value fail stretch => Sys2Proof.Machine.execNodeEnd j own slot site group node status value fail stretch s
  | .descADescB j q slot second data => Sys2Proof.Machine.execDescADescB j q slot second data s
  | .queueRecord j q head tail bound size cq base => Sys2Proof.Machine.execQueueRecord j q head tail bound size cq base s
  | .instEnd j slot data => Sys2Proof.Machine.execInstEnd j slot data s
  | .consumed j n rd srd => Sys2Proof.Machine.execConsumed j n rd srd s
  | .configRecord j off v => Sys2Proof.Machine.execConfigRecord j off v s
  | .calRecord j off v => Sys2Proof.Machine.execCalRecord j off v s
  | .tokenRecord j slot site group edge value fail skip => Sys2Proof.Machine.execTokenRecord j slot site group edge value fail skip s
  | .journalAck j => Sys2Proof.Machine.execJournalAck j s
  | .mirrorDecision n ofs => Sys2Proof.Machine.execMirrorDecision n ofs s
  | .blockDeadline n die => Sys2Proof.Machine.execBlockDeadline n die s
  | .portSwitch n => Sys2Proof.Machine.execPortSwitch n s
  | .tokenFrame f => Sys2Proof.Machine.execTokenFrame f s
  | .controlFrame d f => Sys2Proof.Machine.execControlFrame d f s
  | .primaryDown d us => Sys2Proof.Machine.execPrimaryDown d us s
  | .takeover host => Sys2Proof.Machine.execTakeover host s
  | .takeoverEnd => Sys2Proof.Machine.execTakeoverEnd s
  | .plateDetect ms => Sys2Proof.Machine.execPlateDetect ms s
  | .identityRead data => Sys2Proof.Machine.execIdentityRead data s
  | .plateRemoved ms => Sys2Proof.Machine.execPlateRemoved ms s
  | .wb init => Sys2Proof.Machine.execWb init s
  | .undock init => Sys2Proof.Machine.execUndock init s
  | .plateReload init => Sys2Proof.Machine.execPlateReload init s
  | .wbDone ok => Sys2Proof.Machine.execWbDone ok s
  | .logicCheck unit => Sys2Proof.Machine.execLogicCheck unit s
  | .faultRecordDelivery => Sys2Proof.Machine.execFaultRecordDelivery s
  | .errRingEnable init size => Sys2Proof.Machine.execErrRingEnable init size s
  | .errRingHeadWrite init v => Sys2Proof.Machine.execErrRingHeadWrite init v s
  | .profileSlotChecked => Sys2Proof.Machine.execProfileSlotChecked s
  | .forwardedClockRelock d => Sys2Proof.Machine.execForwardedClockRelock d s
  | .holdoverExhausted d us => Sys2Proof.Machine.execHoldoverExhausted d us s
  | .blockLockAcquired p => Sys2Proof.Machine.execBlockLockAcquired p s
  | .linkDown p => Sys2Proof.Machine.execLinkDown p s
  | .pmuLim ch us => Sys2Proof.Machine.execPmuLim ch us s
  | .tdcRangeExceeded u => Sys2Proof.Machine.execTdcRangeExceeded u s
  | .mirrorBlockReceive n die block burst body last stop safe => Sys2Proof.Machine.execMirrorBlockReceive n die block burst body last stop safe s
  | .dockEdge low => Sys2Proof.Machine.execDockEdge low s
  | .cableReconnect => Sys2Proof.Machine.execCableReconnect s
  | .preemptWaitExpiry i0 node us => Sys2Proof.Machine.execPreemptWaitExpiry i0 node us s
  | .assessOkExpiry => Sys2Proof.Machine.execAssessOkExpiry s

end Sys2Proof.Machine
end

