-- ==== Sys2Proof/Safety.lean ====
section
/-!
DEFINITION. The terms in which statements about the module are made: a command that is answered, what it leaves alone,
and a module that takes commands.
-/

namespace Sys2Proof.Machine

/-- Command `c` completes at `s`: `exec` answers a next state whose waiting commands are those of `s`, and whose module
has `p`. -/
def Answers (c : Instr) (s : State) (p : Mod → Prop) : Prop :=
  ∃ t, exec c s = .next t ∧ t.pending = s.pending ∧ p t.m

/-- Every byte of GDDR7 and of SRAM reads as before. -/
def SameMemory (a b : Mod) : Prop :=
  (∀ x, memByte b.gddr x = memByte a.gddr x) ∧ ∀ x, memByte b.sram x = memByte a.sram x

/-- Every byte outside `lo` to `hi - 1` of a memory reads as before. -/
def SameOutside (lo hi : Nat) (a b : List Host.Cell) : Prop := ∀ x, x < lo ∨ hi ≤ x → memByte b x = memByte a x

/-- Every word of the register file reads as before, but for those at the offsets listed. -/
def SameRegs (but : List Nat) (a b : Mod) : Prop := ∀ o, o ∉ but → b.reg o = a.reg o

/-- A word that posting a fault record or an interrupt may write: the faults block (Chapter 18) and the pending bits of
MSI-X (R105). -/
def postWord (o : Nat) : Bool := (decide (0xF00000 ≤ o) && decide (o < 0x1000000)) || (decide (0x111000 ≤ o) && decide (o < 0x112000))

/-- As `SameRegs`, for a command that may post fault records and raise interrupts. -/
def SameRegsPost (but : List Nat) (a b : Mod) : Prop := ∀ o, o ∉ but → postWord o = false → b.reg o = a.reg o

/-- The module takes commands: FATAL_ACTION 1 does not hold it (R419), and the core die has its power (R43). -/
def Mod.taking (m : Mod) : Bool := !m.flt.halted && !m.isLost 0

/-- The module takes commands and host access is open (R61). -/
def Mod.serving (m : Mod) : Bool := m.taking && m.open

/-- Sequencer `n` is about to execute instruction word `w`: it runs, no stop and no PAUSE is asked of it, the 16 bytes at
PC are readable and hold `w` with no unused field set (R162, R438), and the dispatch entry of its opcode is VALID with good
parity (R149). -/
def Mod.executes (m : Mod) (n : Nat) (w : Word4) : Bool :=
  let x := m.seq n
  !m.flt.halted && decide (n < 32) && x.ready && x.run == 0 && x.request.isNone && x.limitAt.isNone &&
    !m.flag (Reg.SEQ_STATUS n) Fields.SEQ_STATUS.PAUSE_PENDING && decide (x.pc < x.img.instrs) && !w.unusedSet &&
    !m.storeBad (dispatchWord w.op) && nbit (m.dispatchEntry w.op) 15 &&
    (match m.readStream x.iblk (16 * x.pc) 16 with
      | .ok bs => Word4.ofBytes bs == w
      | .error _ => false)

/-- Nothing asks sequencer `n` to stop (R188, R230) or to pause (R187). -/
def Mod.unasked (m : Mod) (n : Nat) : Bool :=
  (m.seq n).request.isNone && (m.seq n).limitAt.isNone && !m.flag (Reg.SEQ_STATUS n) Fields.SEQ_STATUS.PAUSE_PENDING

/-- Every waiting command names units, registers and values that the module has. -/
def State.sound (s : State) : Bool := s.pending.all Instr.wf

/-- The commands that reach the module from outside the core die's work, and act while FATAL_ACTION 1 holds it (R419): supplies,
clocks, dies and pins, the register fabric, which refuses by itself, resets, the waveform and time units, and the plate. -/
def Instr.reaches (c : Instr) : Bool :=
  match c with
  | .forwardedClockLoss _ | .forwardedClockRelock _ | .holdoverExhausted _ _ | .vinTrip _ | .vauxTrip | .hvSupply _ _
  | .h0SoftStart _ | .hgndRange _ _ | .railFault _ _ | .driverDisconnect _ | .trip _ _ | .unitStart _ | .startFail _
  | .coldResetRelease _ _ | .profileSlotChecked | .powerStageStart _ | .timebaseLock | .pcieDetect
  | .plinkTrained _ | .hlinkTrained | .refinQualified _ _ | .apply _ | .mrstAssert _ | .h0Silence _ | .logicCheck _
  | .controlFrame _ _ | .h0FrameReceive _ _ _ _ | .primaryDown _ _ | .levelQueueApply _ | .lim _ _ | .pmuLim _ _
  | .pmuMeasComplete _ _ _ _ _ | .ilim _ _ | .limoffTrip _ _ | .relayOvercurrent _ _ | .perst | .holdConditionBegin _
  | .holdConditionEnd _ _ _ _ _ _ | .malformedAccess _ _ _ _ | .pairLowRead _ _ | .pairLowWrite _ _ _
  | .pairHighWrite _ _ _ | .registerWrite _ _ _ | .warm _ | .handover _ | .cold _ | .wb _ | .undock _
  | .plateReload _ | .waveStart _ | .passEnd _ | .playbackEnd _ | .markerFire _ | .syncinEdge _ | .asCommandApply _
  | .rangeChangeEnd _ | .clim _ _ | .climoffTrip _ _ | .dev _ _ _ | .aqWord _ _ _ | .pulseEnd _
  | .trigEdgeDetect _ _ _ | .plinkBlockReceive _ _ _ _ | .mirrorBlockReceive _ _ _ _ _ _ _ _ | .blockDeadline _ _
  | .vectorPlay _ _ _ | .strobeJudgement _ _ | .refinLoss _ | .refinRequalify _ _ | .refLocked | .timebaseSwitch
  | .domainTick _ | .blockLockAcquired _ | .linkDown _ | .tdcArm _ | .tdcStartEdge _ _ _ | .tdcStopEdge _ _ _
  | .tdcWindowExpiry _ | .tdcRangeExceeded _ | .plateDetect _ | .identityRead _ | .plateRemoved _ | .wbDone _
  | .dockEdge _ => true
  | _ => false

/-- `n` steps, where each answers a next state. -/
def stepsFrom : Nat → State → Option State
  | 0, s => some s
  | n + 1, s => match step s with
    | .next t => stepsFrom n t
    | _ => none

end Sys2Proof.Machine
end

