-- ==== Sys2Proof/Certificates/Slice0/Obligations.lean ====
section
/-!
DEFINITION. The statements for the provers.
-/

namespace Sys2Proof.Machine

end Sys2Proof.Machine

open Sys2Proof Sys2Proof.Machine

/-- For every command c and state s, step of s with c at the front of its queue is exec of c on s with the queue's
  rest; on an empty queue step answers s itself, which is the model's choice (assumption 32). -/
def Obligations.StepRunsTheFrontCommand : Prop :=
  (∀ (c : Instr) (s : State), step { s with pending := c :: s.pending } = exec c s) ∧
  (∀ s : State, s.pending = [] → step s = .next s)

/-- The table gives no row bits: no word decodes to a command, and no word placed at the front of the queue changes
  the state. -/
def Obligations.NoWordSpellsACommand : Prop :=
  ∀ (s : State) (nbits w : Nat), decodeTableWord nbits w = none ∧ s.withFetchWord nbits w = s

/-- After reset no command waits and no fault holds the module, every register reads the reset value of its table, no
  queue is bound, no burst runs, the time domains hold 0 and count with their nominal increment, and no byte of memory
  is listed. That bytes not listed read 0 is the model's choice (assumption 7). -/
def Obligations.ResetState : Prop :=
  State.reset.pending = [] ∧ State.reset.sound = true ∧ State.reset.m.flt.halted = false ∧
  (∀ o : Nat, State.reset.m.reg o = resetOf o) ∧
  (∀ n k : Nat, n < 32 → k < 64 → State.reset.m.rd (Reg.SEQ_TPER n k) Fields.SEQ_TPER.PERIOD = 2048) ∧
  (∀ k : Nat, k < 4 → (State.reset.m.dom k).sec = 0 ∧ (State.reset.m.dom k).sub = 0 ∧
    State.reset.m.domRunning k = false ∧ State.reset.m.rd64 (Reg.TD_INC_LO k) = 0x400000000) ∧
  (∀ q : Nat, (State.reset.m.queue q).bound = false) ∧ (∀ n : Nat, (State.reset.m.seq n).job = none) ∧
  State.reset.m.gddr = [] ∧ State.reset.m.sram = [] ∧
  (∀ a : Nat, memByte State.reset.m.gddr a = 0#8 ∧ memByte State.reset.m.sram a = 0#8)

/-- Every command answers a next state, with the waiting commands kept and one more command counted. One that names a
  unit, a register or a value that the module does not have does nothing else, which is the model's choice (assumption
  108). Held by FATAL_ACTION 1, every command that does not reach the module from outside the core die's work leaves
  all else as it was. -/
def Obligations.EveryCommandCompletes : Prop :=
  (∀ (c : Instr) (s : State),
    ∃ t : State, exec c s = .next t ∧ t.pending = s.pending ∧ t.m.cmds = s.m.cmds + 1) ∧
  (∀ (c : Instr) (s : State), c.wf = false →
    exec c s = .next { s with m := { s.m with cmds := s.m.cmds + 1 } }) ∧
  (∀ (c : Instr) (s : State), c.wf = true → s.m.flt.halted = true → Instr.reaches c = false →
    exec c s = .next { s with m := { s.m with cmds := s.m.cmds + 1 } })

/-- Soundness, that every waiting command names units, registers and values that the module has, is kept by every
  step; from every sound state as many steps as commands wait empty the queue, with no fault and no refusal, and count
  each command once. -/
def Obligations.SoundQueueRuns : Prop :=
  (∀ s t : State, s.sound = true → step s = .next t → t.sound = true) ∧
  (∀ s : State, s.sound = true → ∃ t : State, stepsFrom s.pending.length s = some t ∧ t.pending = [] ∧
    t.m.cmds = s.m.cmds + s.pending.length)

/-- From every sound state that FATAL_ACTION 1 holds, a queue of commands none of which reaches the module from
  outside the core die's work runs to its end and leaves everything but the count of commands as it was: registers,
  memories, queues and units. -/
def Obligations.HeldModuleStays : Prop :=
  ∀ s : State, s.sound = true → s.m.flt.halted = true → (∀ c : Instr, c ∈ s.pending → Instr.reaches c = false) →
    stepsFrom s.pending.length s =
      some { pending := [], m := { s.m with cmds := s.m.cmds + s.pending.length } }

/-- A doorbell is one 8-byte-aligned write of 8 bytes with every byte enable set, and acts as the doorbell of the
  queue it names; any other write to the doorbell area sets DB_SIZE in HOST_ERR and leaves every queue, completion
  ring, memory byte and other register as it was; reads of the doorbell area return 0. -/
def Obligations.DoorbellForm : Prop :=
  (∀ (s : State) (init : Init) (q : Nat) (v : DWord), s.m.serving = true → init.wf = true → (∀ c : Nat, init ≠ .regwr c) →
    init ≠ .profile → q < 4096 →
    Answers (.doorbell init (0x1000000 + 8 * q) 8 true v) s (fun t => t = { s.m.doorbell q v.toNat with cmds := s.m.cmds + 1 })) ∧
  (∀ (s : State) (init : Init) (off size : Nat) (full : Bool) (v : DWord), s.m.serving = true →
    Wf.doorbell init off size = true → (size ≠ 8 ∨ off % 8 ≠ 0 ∨ full = false) →
    Answers (.doorbell init off size full v) s (fun t => t.flag Reg.HOST_ERR Fields.HOST_ERR.DB_SIZE = true ∧
      t.queues = s.m.queues ∧ t.cqs = s.m.cqs ∧ SameMemory s.m t ∧ SameRegs [Reg.HOST_ERR, Reg.HOST_ERR_INFO] s.m t)) ∧
  (∀ (m : Mod) (init : Init) (off : Nat), inDoorbells off = true → (m.busRead init off).1 = 0#32) ∧
  (∀ (s : State) (init : Init) (off width : Nat), s.m.taking = true → Wf.malformedAccess init off width = true →
    inDoorbells off = true → Answers (.malformedAccess init off width false) s (fun t =>
      t.outs = .regRead (initKey init) off 0#32 :: s.m.outs))

/-- After an initiator's read of TDk_FRAC its later reads of NS, SEC_LO and SEC_HI of that domain return the values at
  that read, whatever else the module has done, as long as the latches stand; the latches of other initiators are as
  before; a read of one of the three words that the initiator has not latched returns the live value. -/
def Obligations.DomainLatch : Prop :=
  (∀ (s : State) (init : Init) (k : Nat), s.m.taking = true → init.wf = true → k < 4 →
    Answers (.fracRead init k) s (fun t =>
      (∀ (u : Mod) (off : Nat), u.latch = t.latch → u.isLost 0 = false → off ∈ [Reg.TD_NS k, Reg.TD_SEC_LO k, Reg.TD_SEC_HI k] →
        (u.busRead init off).1 = s.m.view off) ∧
      (∀ (other : Init) (off : Nat), other.wf = true → other ≠ init → off < 0x4000000 →
        SMap.find t.latch (latchKey other off) = SMap.find s.m.latch (latchKey other off)))) ∧
  (∀ (m : Mod) (init : Init) (k off : Nat), m.isLost 0 = false → k < 4 →
    off ∈ [Reg.TD_NS k, Reg.TD_SEC_LO k, Reg.TD_SEC_HI k] → SMap.find m.latch (latchKey init off) = none →
    (m.busRead init off).1 = m.view off)

/-- A write of HOST_BAR4_BASE_HI whose base, with the low word staged by its initiator, is at most 0x7_0000_0000 is
  what every later BAR4 request starts from; a request before it reads at the base in force then; a larger base leaves
  both words as they were and sets BAR4_RANGE. -/
def Obligations.ApertureBase : Prop :=
  (∀ (s : State) (init : Init) (v : Word) (base : Nat), s.m.serving = true → s.m.journalOn = false → init.wf = true →
    base = ((SMap.find s.m.stage (latchKey init Reg.HOST_BAR4_BASE_LO)).getD 0#32).toNat / 0x10000 * 0x10000 +
      0x100000000 * fget Fields.HOST_BAR4_BASE_HI.BASE_H v →
    Answers (.bar4BaseWrite init v) s (fun t =>
      (base ≤ 0x700000000 → (∀ off : Nat, t.bar4Addr off = base + off) ∧ t.reg Reg.HOST_ERR = s.m.reg Reg.HOST_ERR) ∧
      (0x700000000 < base → t.reg Reg.HOST_BAR4_BASE_LO = s.m.reg Reg.HOST_BAR4_BASE_LO ∧
        t.reg Reg.HOST_BAR4_BASE_HI = s.m.reg Reg.HOST_BAR4_BASE_HI ∧
        t.flag Reg.HOST_ERR Fields.HOST_ERR.BAR4_RANGE = true))) ∧
  (∀ (s : State) (off n : Nat), s.m.serving = true → Wf.bar4Access off n none = true →
    badBursts s.m.gddrBad (s.m.bar4Addr off) n = [] → (∀ i : Nat, i < n → s.m.gddrOff (s.m.bar4Addr off + i) = false) →
    Answers (.bar4Access off n none) s (fun t =>
      t.outs = .barRead 4 off (memRead s.m.gddr (s.m.bar4Addr off) n) false :: s.m.outs))

/-- A crossing that overruns into a unit latches its number in ERR_XING and takes the unit into a machine check
  (stated for a unit with no work of its own to end). A corrected SRAM error is counted with its region, an
  uncorrectable one in a generator's list memory is marked and checks that generator. A die whose forwarded clock is
  lost is shown in holdover, a relock clears it and locks a pin die's phases, and 2 ms of holdover unlock them. Memory
  and other registers stay, but for records and interrupts that are posted. -/
def Obligations.ClockAndSramErrors : Prop :=
  (∀ (s : State) (k u i : Nat), s.m.flt.halted = false → k < 256 → u < 16 → i < 64 → u ≠ srcSEQ → u ≠ srcPRF → (u =
    srcWAVE → 8 ≤ i ∧ s.m.acqs = []) → (u = srcHV → s.m.meass = []) → (u = srcTIME → s.m.tim.tdcs = []) → (u = srcDMA
    → s.m.dma.runs = []) → (u = srcMCS → i < 16 ∧ s.m.scores = []) → s.m.flag Reg.ERR_XING Fields.ERR_XING.VALID =
    false → Answers (.xingOvf k (some (u, i))) s (fun t => t.flag Reg.GLB_DIE_ERR Fields.GLB_DIE_ERR.XING_OVF = true ∧
    t.rd Reg.ERR_XING Fields.ERR_XING.CROSSING = k ∧ t.flag Reg.ERR_XING Fields.ERR_XING.VALID = true ∧ t.inMchk u i =
    true ∧ SameMemory s.m t ∧ SameRegsPost [Reg.GLB_DIE_ERR] s.m t)) ∧
  (∀ (s : State) (a : Nat), s.m.flt.halted = false → 0xC00000 ≤ a → a < 0xD00000 → s.m.pairActive = false → (s.m.wave
    ((a - 0xC00000) / 0x20000)).job = none → Answers (.sramUe a) s (fun t => SMap.get badDefault t.sramBad (a / 8 * 8)
    = true ∧ sramBadIn t.sramBad a 1 = true ∧ t.inMchk srcWAVE ((a - 0xC00000) / 0x20000) = true ∧ SameMemory s.m t ∧
    SameRegsPost [] s.m t)) ∧
  (∀ (s : State) (a : Nat), s.m.flt.halted = false → a < 0x1000000 → Answers (.sramCe a) s (fun t => t.rd
    Reg.ERR_SRAM_CE Fields.ERR_SRAM_CE.COUNT = min 0xFFFF (s.m.rd Reg.ERR_SRAM_CE Fields.ERR_SRAM_CE.COUNT + 1) ∧ t.rd
    Reg.ERR_SRAM_CE Fields.ERR_SRAM_CE.REGION = sramRegion a ∧ SameMemory s.m t ∧ SameRegs [Reg.ERR_SRAM_CE] s.m t ∧
    t.outs = s.m.outs)) ∧
  (∀ (s : State) (d : Nat), d < 3 → Answers (.forwardedClockLoss d) s (fun t => t.flag Reg.GLB_DIE_STATUS ⟨5 + d, 1⟩ =
    true ∧ t.flag Reg.GLB_DIE_ERR Fields.GLB_DIE_ERR.HOLDOVER_SEEN = true ∧ SameMemory s.m t ∧ SameRegs
    [Reg.GLB_DIE_STATUS, Reg.GLB_DIE_ERR] s.m t ∧ t.outs = s.m.outs)) ∧
  (∀ (s : State) (d : Nat), d < 2 → Answers (.forwardedClockRelock d) s (fun t => t.flag Reg.GLB_DIE_STATUS ⟨5 + d, 1⟩
    = false ∧ t.flag (Reg.CH_TFLAG d) Fields.CH_TFLAG.PHASE_LOCK = true ∧ SameMemory s.m t ∧ SameRegs
    [Reg.GLB_DIE_STATUS, Reg.CH_TFLAG d] s.m t)) ∧
  (∀ (s : State) (d us : Nat), d < 2 → s.m.flag Reg.GLB_DIE_STATUS ⟨5 + d, 1⟩ = true → 2000 ≤ us → Answers
    (.holdoverExhausted d us) s (fun t => t.flag (Reg.CH_TFLAG d) Fields.CH_TFLAG.PHASE_LOCK = false ∧ SameMemory s.m
    t ∧ SameRegs [Reg.CH_TFLAG d] s.m t))

/-- A VIN trip clears VIN_OK, stops dispatch, opens every relay and drops PWRGOOD under the trip latch. A HV-side
  input out of its window for more than 20 us, HGND out of range for 1 ms and a rail out of its window for more than
  10 us set their bits; a core rail takes the core die. A core sensor at its trip point sets TRIP_ACTIVE and stops
  dispatch. Drivers of a disconnected pin die go to high impedance. -/
def Obligations.SupplyTrips : Prop :=
  (∀ (s : State) (high : Bool), Answers (.vinTrip high) s (fun t => t.flag Reg.PWR_STATUS Fields.PWR_STATUS.VIN_OK =
    false ∧ t.flag Reg.PWR_EVENT (if high then Fields.PWR_EVENT.VIN_OV else Fields.PWR_EVENT.VIN_UV) = true ∧
    t.hat.stopped = true ∧ t.sys.pwrgood = false ∧ t.sys.vinLatched = true ∧ t.reg Reg.RLY_STATE_LO = 0#32 ∧ t.reg
    Reg.RLY_STATE_HI = 0#32 ∧ SameMemory s.m t)) ∧
  (∀ (s : State) (i us : Nat), i < 3 → 20 < us → s.m.isLost 3 = true → Answers (.hvSupply i us) s (fun t => t.flag
    Reg.PWR_STATUS ⟨2 + i, 1⟩ = false ∧ t.flag Reg.PWR_EVENT Fields.PWR_EVENT.HV_SUPPLY = true ∧ t.isLost 3 = true ∧
    SameMemory s.m t ∧ SameRegsPost [Reg.PWR_STATUS, Reg.PWR_EVENT] s.m t)) ∧
  (∀ (s : State) (ofs : Int) (us : Nat), ofs.natAbs < 2048 → 1050 < ofs.natAbs → 1000 ≤ us → s.m.isLost 3 = true →
    Answers (.hgndRange ofs us) s (fun t => t.rd Reg.PWR_HV_MON Fields.PWR_HV_MON.HGND_OFS = unsign 12 ofs ∧ t.flag
    Reg.PWR_EVENT Fields.PWR_EVENT.HGND_RANGE = true ∧ SameMemory s.m t ∧ SameRegsPost [Reg.PWR_HV_MON, Reg.PWR_EVENT]
    s.m t)) ∧
  (∀ (s : State) (r us : Nat), r < 3 → 10 < us → Answers (.railFault r us) s (fun t => t.flag Reg.PWR_EVENT
    Fields.PWR_EVENT.RAIL_FAULT = true ∧ t.flag Reg.PWR_STATUS Fields.PWR_STATUS.CORE_RAILS_OK = false ∧ t.isLost 0 =
    true ∧ t.sys.pwrgood = false ∧ t.queues = [] ∧ t.hat.stopped = true ∧ (∀ n : Nat, n < 32 → (t.seq n).job = none ∧
    (t.seq n).sent = (s.m.seq n).sent) ∧ SameMemory s.m t)) ∧
  (∀ (s : State) (r us : Nat), 3 ≤ r → r < 22 → 10 < us → s.m.isLost (railDie r) = true → Answers (.railFault r us) s
    (fun t => t.flag Reg.PWR_STATUS (railsOk (railDie r)) = false ∧ t.flag Reg.PWR_EVENT Fields.PWR_EVENT.RAIL_FAULT =
    true ∧ SameMemory s.m t ∧ SameRegsPost [Reg.PWR_STATUS, Reg.PWR_EVENT] s.m t)) ∧
  (∀ (s : State) (k : Nat) (x : Int), k < 4 → 840 ≤ x → x < 2048 → SMap.get badDefault s.m.sys.tripped 0 = false →
    Answers (.trip k x) s (fun t => t.rd (Reg.PWR_TEMP k) Fields.PWR_TEMP.TEMP = unsign 12 x ∧ t.flag Reg.PWR_EVENT
    Fields.PWR_EVENT.TRIP_CORE = true ∧ t.flag Reg.PWR_STATUS Fields.PWR_STATUS.TRIP_ACTIVE = true ∧ t.hat.stopped =
    true ∧ SMap.get badDefault t.sys.tripped 0 = true ∧ SameMemory s.m t)) ∧
  (∀ (s : State) (d : Nat), d < 2 → Answers (.driverDisconnect d) s (fun t => t.isLost (17 + d) = true ∧ (∀ i : Nat, i
    < 128 → (t.pin (128 * d + i)).drive = Drive.off ∧ (t.pin (128 * d + i)).events = [] ∧ (t.pin (128 * d +
    i)).strobes = []) ∧ SameMemory s.m t ∧ SameRegs [] s.m t ∧ t.outs = s.m.outs))

/-- An HV-side input out of its window, HGND out of range and the rail of H0 take H0 out of service: its bit of
  GLB_DIE_STATUS falls, every HV channel is disabled and every relay opens. A rail of a GDDR7 device or of a pin die,
  a trip of its sensors and a unit that fails to start take that device or die out of service, with its event bit set
  and its bit of GLB_DIE_STATUS clear; of a pin die the drivers are disconnected. Memory stays. -/
def Obligations.SupplyEventsTakeDies : Prop :=
  (∀ (s : State) (i us : Nat), i < 3 → 20 < us → s.m.isLost 3 = false → Answers (.hvSupply i us) s (fun t => t.flag
    Reg.PWR_STATUS ⟨2 + i, 1⟩ = false ∧ t.flag Reg.PWR_EVENT Fields.PWR_EVENT.HV_SUPPLY = true ∧ t.isLost 3 = true ∧
    t.flag Reg.GLB_DIE_STATUS Fields.GLB_DIE_STATUS.H0_UP = false ∧ (∀ h : Nat, h < 32 → t.flag (Reg.HV_CTRL h)
    Fields.HV_CTRL.EN = false) ∧ t.reg Reg.RLY_STATE_LO = 0#32 ∧ t.reg Reg.RLY_STATE_HI = 0#32 ∧ SameMemory s.m t)) ∧
  (∀ (s : State) (ofs : Int) (us : Nat), ofs.natAbs < 2048 → 1050 < ofs.natAbs → 1000 ≤ us → s.m.isLost 3 = false →
    Answers (.hgndRange ofs us) s (fun t => t.rd Reg.PWR_HV_MON Fields.PWR_HV_MON.HGND_OFS = unsign 12 ofs ∧ t.flag
    Reg.PWR_EVENT Fields.PWR_EVENT.HGND_RANGE = true ∧ t.isLost 3 = true ∧ t.flag Reg.GLB_DIE_STATUS
    Fields.GLB_DIE_STATUS.H0_UP = false ∧ (∀ h : Nat, h < 32 → t.flag (Reg.HV_CTRL h) Fields.HV_CTRL.EN = false) ∧
    t.reg Reg.RLY_STATE_LO = 0#32 ∧ t.reg Reg.RLY_STATE_HI = 0#32 ∧ SameMemory s.m t)) ∧
  (∀ (s : State) (r us : Nat), 3 ≤ r → r < 11 → 10 < us → s.m.isLost (5 + r) = false → Answers (.railFault r us) s
    (fun t => t.flag Reg.PWR_STATUS ⟨6 + r, 1⟩ = false ∧ t.flag Reg.PWR_EVENT Fields.PWR_EVENT.RAIL_FAULT = true ∧
    t.isLost (5 + r) = true ∧ t.flag Reg.GLB_DIE_STATUS ⟨5 + r, 1⟩ = false ∧ (∀ k : Nat, k < 4 → t.chState (4 * (r -
    3) + k) = 7) ∧ t.outs = s.m.outs ∧ SameMemory s.m t)) ∧
  (∀ (s : State) (r us d : Nat), 11 ≤ r → r < 19 → 10 < us → d = (r + 1) % 2 → s.m.isLost (1 + d) = false → Answers
    (.railFault r us) s (fun t => t.flag Reg.PWR_STATUS (railsOk (1 + d)) = false ∧ t.flag Reg.PWR_EVENT
    Fields.PWR_EVENT.RAIL_FAULT = true ∧ t.isLost (1 + d) = true ∧ t.isLost (17 + d) = true ∧ t.flag
    Reg.GLB_DIE_STATUS ⟨d, 1⟩ = false ∧ (∀ i : Nat, i < 128 → (t.pin (128 * d + i)).drive = Drive.off) ∧ SameMemory
    s.m t)) ∧
  (∀ (s : State) (r us : Nat), 19 ≤ r → r < 22 → 10 < us → s.m.isLost 3 = false → railDie r = 3 → Answers (.railFault
    r us) s (fun t => t.flag Reg.PWR_STATUS Fields.PWR_STATUS.H0_RAILS_OK = false ∧ t.flag Reg.PWR_EVENT
    Fields.PWR_EVENT.RAIL_FAULT = true ∧ t.isLost 3 = true ∧ t.flag Reg.GLB_DIE_STATUS Fields.GLB_DIE_STATUS.H0_UP =
    false ∧ (∀ h : Nat, h < 32 → t.flag (Reg.HV_CTRL h) Fields.HV_CTRL.EN = false) ∧ SameMemory s.m t)) ∧
  (∀ (s : State) (k : Nat) (x : Int), 4 ≤ k → k < 8 → 840 ≤ x → x < 2048 → SMap.get badDefault s.m.sys.tripped (k / 2
    - 1) = false → s.m.isLost (k / 2 - 1) = false → Answers (.trip k x) s (fun t => t.rd (Reg.PWR_TEMP k)
    Fields.PWR_TEMP.TEMP = unsign 12 x ∧ t.flag Reg.PWR_EVENT (tripFld (k / 2 - 1)) = true ∧ t.flag Reg.PWR_STATUS
    Fields.PWR_STATUS.TRIP_ACTIVE = true ∧ SMap.get badDefault t.sys.tripped (k / 2 - 1) = true ∧ t.isLost (k / 2 - 1)
    = true ∧ t.flag Reg.GLB_DIE_STATUS ⟨k / 2 - 2, 1⟩ = false ∧ SameMemory s.m t)) ∧
  (∀ (s : State) (x : Int), 840 ≤ x → x < 2048 → SMap.get badDefault s.m.sys.tripped 3 = false → s.m.isLost 3 = false
    → Answers (.trip 8 x) s (fun t => t.rd (Reg.PWR_TEMP 8) Fields.PWR_TEMP.TEMP = unsign 12 x ∧ t.flag Reg.PWR_EVENT
    Fields.PWR_EVENT.TRIP_H0 = true ∧ t.flag Reg.PWR_STATUS Fields.PWR_STATUS.TRIP_ACTIVE = true ∧ SMap.get badDefault
    t.sys.tripped 3 = true ∧ t.isLost 3 = true ∧ t.flag Reg.GLB_DIE_STATUS Fields.GLB_DIE_STATUS.H0_UP = false ∧ t.reg
    Reg.RLY_STATE_LO = 0#32 ∧ SameMemory s.m t)) ∧
  (∀ (s : State) (k : Nat) (x : Int), 9 ≤ k → k < 17 → 800 ≤ x → x < 2048 → SMap.get badDefault s.m.sys.tripped (k -
    1) = false → s.m.isLost (k - 1) = false → Answers (.trip k x) s (fun t => t.rd (Reg.PWR_TEMP k)
    Fields.PWR_TEMP.TEMP = unsign 12 x ∧ t.flag Reg.PWR_EVENT Fields.PWR_EVENT.TRIP_GDDR = true ∧ t.flag
    Reg.PWR_STATUS Fields.PWR_STATUS.TRIP_ACTIVE = true ∧ SMap.get badDefault t.sys.tripped (k - 1) = true ∧ t.isLost
    (k - 1) = true ∧ t.flag Reg.GLB_DIE_STATUS ⟨k - 1, 1⟩ = false ∧ t.outs = s.m.outs ∧ SameMemory s.m t)) ∧
  (∀ (s : State) (u : Nat), 1 ≤ u → u < 9 → s.m.unitStarted u = false → s.m.unitLeft u = false → s.m.powered = true →
    s.m.isLost (7 + u) = false → Answers (.startFail u) s (fun t => t.unitLeft u = true ∧ t.flag Reg.PWR_EVENT
    Fields.PWR_EVENT.START_FAIL = true ∧ t.flag Reg.PWR_STATUS ⟨8 + u, 1⟩ = false ∧ t.isLost (7 + u) = true ∧ t.flag
    Reg.GLB_DIE_STATUS ⟨7 + u, 1⟩ = false ∧ t.outs = s.m.outs ∧ SameMemory s.m t)) ∧
  (∀ (s : State) (u d : Nat), 9 ≤ u → u < 29 → startDie u = 1 + d → s.m.unitStarted u = false → s.m.unitLeft u = false
    → s.m.powered = true → s.m.isLost (1 + d) = false → Answers (.startFail u) s (fun t => t.unitLeft u = true ∧
    t.flag Reg.PWR_EVENT Fields.PWR_EVENT.START_FAIL = true ∧ t.flag Reg.PWR_STATUS (railsOk (1 + d)) = false ∧
    t.isLost (1 + d) = true ∧ t.flag Reg.GLB_DIE_STATUS ⟨d, 1⟩ = false ∧ SameMemory s.m t)) ∧
  (∀ (s : State), s.m.unitStarted 29 = false → s.m.unitLeft 29 = false → s.m.powered = true → s.m.isLost 3 = false →
    Answers (.startFail 29) s (fun t => t.unitLeft 29 = true ∧ t.flag Reg.PWR_EVENT Fields.PWR_EVENT.START_FAIL = true
    ∧ t.flag Reg.PWR_STATUS Fields.PWR_STATUS.H0_RAILS_OK = false ∧ t.isLost 3 = true ∧ t.flag Reg.GLB_DIE_STATUS
    Fields.GLB_DIE_STATUS.H0_UP = false ∧ SameMemory s.m t)) ∧
  (∀ (s : State), s.m.unitStarted 0 = false → s.m.unitLeft 0 = false → s.m.powered = true → Answers (.startFail 0) s
    (fun t => t.unitLeft 0 = true ∧ t.flag Reg.PWR_EVENT Fields.PWR_EVENT.START_FAIL = true ∧ t.flag Reg.PWR_STATUS
    Fields.PWR_STATUS.CORE_RAILS_OK = false ∧ t.isLost 0 = true ∧ t.startState = 0 ∧ SameMemory s.m t))

/-- After 2 ms without control frames H0 is out of service: every HV channel is disabled, every relay falls open and
  H0_UP is 0. A shorter silence changes nothing. (Stated where H0 has no work of its own running.) -/
def Obligations.H0Silence : Prop :=
  (∀ (s : State) (us : Nat), 2000 ≤ us → s.m.isLost 3 = false → s.m.lqs = [] → s.m.hvs = [] → s.m.meass = [] →
    s.m.waves = [] → s.m.acqs = [] → s.m.tim.tdcs = [] → Answers (.h0Silence us) s (fun t => t.isLost 3 = true ∧
    t.flag Reg.GLB_DIE_STATUS Fields.GLB_DIE_STATUS.H0_UP = false ∧ (∀ h : Nat, h < 32 → t.flag (Reg.HV_CTRL h)
    Fields.HV_CTRL.EN = false) ∧ t.reg Reg.RLY_STATE_LO = 0#32 ∧ t.reg Reg.RLY_STATE_HI = 0#32 ∧ SameMemory s.m t)) ∧
  (∀ (s : State) (us : Nat), us < 2000 → Answers (.h0Silence us) s (fun t => t.regs = s.m.regs ∧ t.sys = s.m.sys ∧
    SameMemory s.m t ∧ t.outs = s.m.outs))

/-- A sample stores VIN and its current. Under the throttle condition the level rises by one up to MAX_LEVEL; under
  the clear condition for 10 ms it falls by one; LEVEL of PWR_STATUS shows the greater of it and FORCE_LEVEL, bounded
  by MAX_LEVEL. -/
def Obligations.GovernorLevels : Prop :=
  (∀ (s : State) (mv ma : Nat), s.m.flt.halted = false → Answers (.governorSample mv ma []) s (fun t => t.rd
    Reg.PWR_VIN_MEAS Fields.PWR_VIN_MEAS.VOLT = min mv 0xFFFF ∧ t.rd Reg.PWR_VIN_MEAS Fields.PWR_VIN_MEAS.CURR = min
    ma 0xFFFF ∧ SameMemory s.m t ∧ SameRegsPost [Reg.PWR_VIN_MEAS, Reg.PWR_EVENT] s.m t)) ∧
  (∀ (s : State) (us : Nat), s.m.flt.halted = false → s.m.throttling = true → 1000 ≤ us → Answers (.levelRise us) s
    (fun t => t.sys.govLevel = max (min s.m.maxLevel (s.m.sys.govLevel + 1)) s.m.sys.govLevel ∧ t.rd Reg.PWR_STATUS
    Fields.PWR_STATUS.LEVEL = min s.m.maxLevel (max (min 4 (s.m.rd Reg.PWR_GOV_CTRL Fields.PWR_GOV_CTRL.FORCE_LEVEL))
    (max (min s.m.maxLevel (s.m.sys.govLevel + 1)) s.m.sys.govLevel)) ∧ SameMemory s.m t ∧ SameRegsPost
    [Reg.PWR_STATUS, Reg.PWR_EVENT] s.m t)) ∧
  (∀ (s : State) (us : Nat), s.m.flt.halted = false → s.m.throttleClear = true → 10000 ≤ us → Answers (.levelFall us)
    s (fun t => t.sys.govLevel = s.m.sys.govLevel - 1 ∧ t.rd Reg.PWR_STATUS Fields.PWR_STATUS.LEVEL = min s.m.maxLevel
    (max (min 4 (s.m.rd Reg.PWR_GOV_CTRL Fields.PWR_GOV_CTRL.FORCE_LEVEL)) (s.m.sys.govLevel - 1)) ∧ SameMemory s.m t
    ∧ SameRegsPost [Reg.PWR_STATUS, Reg.PWR_EVENT] s.m t))

/-- Release of cold reset samples PROF and enters the slot check; VIN in range for 5 ms starts the power stage; a unit
  whose turn it is starts, a unit that fails is left off; soft-start of the HV inputs, lock of the time base and PCIe
  detection set their bits. -/
def Obligations.StartSequence : Prop :=
  (∀ (s : State) (p ms aux : Nat), p < 4 → s.m.sys.coldHeld = true → 10 ≤ aux → Answers (.coldResetRelease p ⟨ms,
    aux⟩) s (fun t => t.startState = 1 ∧ t.rd Reg.GLB_START_STATE Fields.GLB_START_STATE.PROFILE = p ∧ t.flag
    Reg.PWR_STATUS Fields.PWR_STATUS.VAUX_OK = true ∧ t.sys.coldHeld = false ∧ SameMemory s.m t ∧ SameRegs
    [Reg.GLB_START_STATE, Reg.PWR_STATUS] s.m t)) ∧
  (∀ (s : State) (ms : Nat), s.m.startState = 0 → 5 ≤ ms → s.m.sys.vinLatched = false → s.m.isLost 0 = false →
    s.m.sys.coldHeld = false → Answers (.powerStageStart ms) s (fun t => t.flag Reg.PWR_STATUS
    Fields.PWR_STATUS.VIN_OK = true ∧ t.startState = 2 ∧ SameMemory s.m t ∧ SameRegs [Reg.GLB_START_STATE,
    Reg.PWR_STATUS] s.m t)) ∧
  (∀ (s : State) (u : Nat), u < 50 → u ≠ 29 → s.m.nextUnit u = true → Answers (.unitStart u) s (fun t => t.unitStarted
    u = true ∧ SameMemory s.m t ∧ t.outs = s.m.outs)) ∧
  (∀ (s : State) (u : Nat), u < 30 → s.m.unitStarted u = false → s.m.unitLeft u = false → s.m.powered = true →
    s.m.isLost (startDie u) = true → Answers (.startFail u) s (fun t => t.unitLeft u = true ∧ t.flag Reg.PWR_EVENT
    Fields.PWR_EVENT.START_FAIL = true ∧ SameMemory s.m t)) ∧
  (∀ (s : State) (ms : Nat), s.m.unitStarted 29 = false → s.m.isLost 3 = false → 2 ≤ ms → s.m.powered = true →
    (List.range 29).all (fun u => s.m.unitStarted u || s.m.unitLeft u) = true → Answers (.h0SoftStart ms) s (fun t =>
    t.unitStarted 29 = true ∧ t.flag Reg.PWR_STATUS Fields.PWR_STATUS.VHP_OK = true ∧ t.flag Reg.PWR_STATUS
    Fields.PWR_STATUS.VHN_OK = true ∧ t.flag Reg.PWR_STATUS Fields.PWR_STATUS.VHL_OK = true ∧ t.flag Reg.PWR_STATUS
    Fields.PWR_STATUS.H0_RAILS_OK = true ∧ SameMemory s.m t)) ∧
  (∀ (s : State), s.m.unitStarted 0 = true → Answers (.timebaseLock) s (fun t => t.flag Reg.GLB_DIE_STATUS
    Fields.GLB_DIE_STATUS.TB_LOCK = true ∧ SameMemory s.m t ∧ t.outs = s.m.outs)) ∧
  (∀ (s : State), s.m.unitStarted 0 = true → s.m.pcie.perst = false → Answers (.pcieDetect) s (fun t =>
    t.sys.pcieDetect = true ∧ SameMemory s.m t ∧ SameRegs [] s.m t))

/-- The slot check takes a valid slot of the profile or sets PROF_BAD. Training brings GDDR7 devices and links up, the
  flash load shows what is not valid, and APPLY of a profile without records ends in READY with PWRGOOD, or in
  PROFILE_FAIL without a slot. -/
def Obligations.StartTraining : Prop :=
  (∀ (s : State), s.m.sys.coldHeld = false → s.m.startState = 1 → s.m.unitStarted 0 = false → s.m.pickSlot (s.m.rd
    Reg.GLB_START_STATE Fields.GLB_START_STATE.PROFILE) = none → Answers (.profileSlotChecked) s (fun t => t.flag
    Reg.GLB_START_STATE Fields.GLB_START_STATE.PROF_BAD = true ∧ t.startState = 0 ∧ SameMemory s.m t)) ∧
  (∀ (s : State) (k : Nat), s.m.sys.coldHeld = false → s.m.startState = 1 → s.m.unitStarted 0 = false → s.m.pickSlot
    (s.m.rd Reg.GLB_START_STATE Fields.GLB_START_STATE.PROFILE) = some k → Answers (.profileSlotChecked) s (fun t =>
    t.rd Reg.GLB_START_STATE Fields.GLB_START_STATE.SLOT = k ∧ t.flag Reg.GLB_START_STATE
    Fields.GLB_START_STATE.PROF_BAD = false ∧ t.startState = 0 ∧ SameMemory s.m t)) ∧
  (∀ (s : State), s.m.flt.halted = false → s.m.unitStarted 0 = true → s.m.sys.flashLoaded = false → 2 ≤ s.m.startState
    → s.m.flag Reg.GLB_START_STATE Fields.GLB_START_STATE.PROF_BAD = true → s.m.fwPick = none → s.m.rtPick = none →
    Answers (.flashLoadComplete) s (fun t => t.flag Reg.GLB_START_STATE Fields.GLB_START_STATE.FW_BAD = true ∧ t.flag
    Reg.GLB_START_STATE Fields.GLB_START_STATE.RT_BAD = true ∧ t.sys.flashLoaded = true ∧ SameMemory s.m t)) ∧
  (∀ (s : State) (f r n : Nat), s.m.flt.halted = false → s.m.unitStarted 0 = true → s.m.sys.flashLoaded = false → 2 ≤
    s.m.startState → s.m.flag Reg.GLB_START_STATE Fields.GLB_START_STATE.PROF_BAD = true → s.m.fwPick = some f →
    s.m.rtPick = some r → n = (SMap.get (fun _ => RtSlot.blank) s.m.sys.runtime r).length → Answers
    (.flashLoadComplete) s (fun t => t.flag Reg.GLB_START_STATE Fields.GLB_START_STATE.FW_BAD = false ∧ t.flag
    Reg.GLB_START_STATE Fields.GLB_START_STATE.RT_BAD = false ∧ t.sys.flashLoaded = true ∧ (∀ c : Nat, c < 16 → t.flag
    (Reg.MCS_SCORE_CTRL c) Fields.MCS_SCORE_CTRL.GO = true ∧ memRead t.sram (coreBase c + 0x1000) ((Config.factoryCode
    r).take n).length = (Config.factoryCode r).take n) ∧ (∀ k : Nat, k < 4 → t.flag (Reg.MCS_MCORE_CTRL k)
    Fields.MCS_MCORE_CTRL.GO = true ∧ memRead t.sram (coreBase (16 + k) + 0x1000) ((Config.factoryCode (2 + f)).take
    0x1F000).length = (Config.factoryCode (2 + f)).take 0x1F000) ∧ t.gddr = s.m.gddr)) ∧
  (∀ (s : State) (bad : Nat), s.m.flt.halted = false → bad < 256 → s.m.sys.gddrTrained = false → (List.range 9).all
    (fun u => s.m.unitStarted u || s.m.unitLeft u) = true → 2 ≤ s.m.startState → (∀ k : Nat, k < 8 → s.m.isLost (8 +
    k) = false) → Answers (.gddr7TrainingComplete bad) s (fun t => t.sys.gddrTrained = true ∧ (∀ k : Nat, k < 8 →
    t.isLost (8 + k) = bad.testBit k) ∧ (∀ k : Nat, k < 8 → bad.testBit k = false → t.flag Reg.GLB_DIE_STATUS ⟨8 + k,
    1⟩ = true) ∧ SameMemory s.m t)) ∧
  (∀ (s : State) (d : Nat), d < 2 → s.m.unitStarted (9 + d) = true → s.m.isLost (1 + d) = false → s.m.powered = true →
    Answers (.plinkTrained d) s (fun t => t.flag Reg.GLB_DIE_STATUS ⟨d, 1⟩ = true ∧ t.flag (Reg.CH_TFLAG d)
    Fields.CH_TFLAG.PHASE_LOCK = true ∧ SameMemory s.m t)) ∧
  (∀ (s : State), s.m.unitStarted 29 = true → s.m.isLost 3 = false → s.m.powered = true → s.m.sys.h0Records = [] →
    Answers (.hlinkTrained) s (fun t => t.flag Reg.GLB_DIE_STATUS Fields.GLB_DIE_STATUS.H0_UP = true ∧ SameMemory s.m
    t)) ∧
  (∀ (s : State) (ms : Nat), s.m.startState = 4 → s.m.flag Reg.GLB_START_STATE Fields.GLB_START_STATE.PROF_BAD = true
    → Answers (.apply ms) s (fun t => t.startState = 7 ∧ t.sys.recordsApplied = true ∧ t.sys.pwrgood = false ∧
    SameMemory s.m t)) ∧
  (∀ (s : State) (ms : Nat), s.m.startState = 4 → s.m.flag Reg.GLB_START_STATE Fields.GLB_START_STATE.PROF_BAD = false
    → s.m.flag Reg.GLB_START_STATE Fields.GLB_START_STATE.MCS_BAD = false → (s.m.slot s.m.slotInUse).factory = true →
    s.m.profRole = 0 → s.m.sys.vinLatched = false → Answers (.apply ms) s (fun t => t.startState = 6 ∧ t.rd
    Reg.GLB_START_STATE Fields.GLB_START_STATE.READY_MS = min ms 0xFFFF ∧ t.sys.recordsApplied = true ∧ t.sys.pwrgood
    = true ∧ SameMemory s.m t))

/-- A VAUX trip and MRST# low for 1 us or more are cold resets: memories are forgotten, no command of the queues and
  no burst is left, every word of the register file but GLB_RST_CAUSE has its reset value, and LAST names the source;
  the flash stays. MRST# low for less than 100 ns changes nothing. (What forgotten memory reads as is assumption 7.)
  -/
def Obligations.ColdResetLeaves : Prop :=
  (∀ (s : State), Answers (.vauxTrip) s (fun t => t.rd Reg.GLB_RST_CAUSE Fields.GLB_RST_CAUSE.LAST = 3 ∧ (∀ o, o ≠
    Reg.GLB_RST_CAUSE → t.reg o = resetOf o) ∧ t.gddr = [] ∧ t.sram = [] ∧ t.queues = [] ∧ t.seqs = [] ∧ t.hat =
    Hat.fresh ∧ t.sys.slots = s.m.sys.slots)) ∧
  (∀ (s : State) (ns : Nat), 1000 ≤ ns → Answers (.mrstAssert ns) s (fun t => t.rd Reg.GLB_RST_CAUSE
    Fields.GLB_RST_CAUSE.LAST = 2 ∧ (∀ o, o ≠ Reg.GLB_RST_CAUSE → t.reg o = resetOf o) ∧ t.gddr = [] ∧ t.sram = [] ∧
    t.queues = [] ∧ t.seqs = [] ∧ t.hat = Hat.fresh ∧ t.sys.slots = s.m.sys.slots)) ∧
  (∀ (s : State) (ns : Nat), ns < 100 → Answers (.mrstAssert ns) s (fun t => t.regs = s.m.regs ∧ t.sys = s.m.sys ∧
    SameMemory s.m t ∧ t.queues = s.m.queues ∧ t.outs = s.m.outs))

/-- A logic check with FATAL_ACTION 1 latches its source and cause 6 in ERR_FATAL and holds the module. A record of
  the fault queue is written at TAIL of the host event ring, and TAIL advances. An orderly power-down stops dispatch,
  waits for the ports, disconnects the outputs, opens the relays, and sets OFF_READY once the rails have fallen. A
  profile write whose image has no MAGIC ends with ERR_CODE 1, and one that is whole and verifies ends with DONE. -/
def Obligations.FatalAndDelivery : Prop :=
  (∀ (s : State) (u : Nat), s.m.flt.halted = false → u < 3 → s.m.flag Reg.ERR_CFG Fields.ERR_CFG.FATAL_ACTION = true →
    s.m.pairActive = false → s.m.flag Reg.ERR_FATAL Fields.ERR_FATAL.VALID = false → Answers (.logicCheck u) s (fun t
    => t.flt.halted = true ∧ t.flag Reg.ERR_FATAL Fields.ERR_FATAL.VALID = true ∧ t.rd Reg.ERR_FATAL
    Fields.ERR_FATAL.CAUSE = 6 ∧ t.rd Reg.ERR_FATAL Fields.ERR_FATAL.SOURCE = (if u = 0 then srcHOST else if u = 1
    then srcHAT else srcDRC) ∧ SameMemory s.m t)) ∧
  (∀ (s : State) (r : PrivRec) (rest : List PrivRec), s.m.flt.halted = false → (s.m.queue (s.m.rd Reg.ERR_CFG
    Fields.ERR_CFG.QUEUE)).priv = r :: rest → s.m.flag Reg.ERR_CFG Fields.ERR_CFG.EN = true → s.m.evtOpen = true →
    s.m.evtTail < s.m.evtSize → s.m.evtSize ≤ 4096 → Answers (.faultRecordDelivery) s (fun t => (t.queue (s.m.rd
    Reg.ERR_CFG Fields.ERR_CFG.QUEUE)).priv = rest ∧ t.evtTail = (if s.m.evtTail + 1 = s.m.evtSize then 0 else
    s.m.evtTail + 1) ∧ t.outs = .hostWrite (s.m.rd64 Reg.ERR_RING_BASE_LO + 64 * s.m.evtTail) (phased r.bytes
    (s.m.flag Reg.ERR_RING_STATE Fields.ERR_RING_STATE.PHASE)) false :: s.m.outs ∧ SameMemory s.m t ∧ SameRegsPost []
    s.m t)) ∧
  (∀ (s : State) (n : Nat), s.m.flt.halted = false → s.m.dma.runs = [] → n < 32 → (s.m.seq n).job.isSome = true →
    Answers (.orderlyPowerDown) s (fun t => t.hat.stopped = true ∧ t.sys.orderly = PowerDown.stopping false ∧
    SameMemory s.m t ∧ SameRegs [] s.m t ∧ t.outs = s.m.outs)) ∧
  (∀ (s : State), s.m.flt.halted = false → s.m.dma.runs = [] → s.m.seqs = [] → s.m.plt.counting = false → s.m.flag
    Reg.PLT_STATUS Fields.PLT_STATUS.WB_BUSY = false → s.m.flag Reg.PLT_STATUS Fields.PLT_STATUS.WB_PENDING = false →
    s.m.cqs = [] → Answers (.orderlyPowerDown) s (fun t => t.hat.stopped = true ∧ t.reg Reg.RLY_STATE_LO = 0#32 ∧
    t.reg Reg.RLY_STATE_HI = 0#32 ∧ t.flag Reg.PLT_EVENT Fields.PLT_EVENT.WB_FAIL = true ∧ t.flag Reg.PWR_STATUS
    Fields.PWR_STATUS.OFF_READY = true ∧ t.isLost 0 = true ∧ t.sys.orderly = PowerDown.none ∧ SameMemory s.m t)) ∧
  (∀ (s : State) (ok : Bool) (p : Nat), s.m.flt.halted = false → s.m.sys.profWrite = some p → ofBytes (memRead
    s.m.gddr (s.m.rd64 Reg.GLB_FLASH_SRC_LO) 4) ≠ 0x4C595046 → Answers (.profileWriteDone ok) s (fun t => t.flag
    Reg.GLB_PROF_STATUS Fields.GLB_PROF_STATUS.BUSY = false ∧ t.flag Reg.GLB_PROF_STATUS Fields.GLB_PROF_STATUS.ERR =
    true ∧ t.rd Reg.GLB_PROF_STATUS Fields.GLB_PROF_STATUS.ERR_CODE = 1 ∧ t.sys.profWrite = none ∧ SameMemory s.m t ∧
    SameRegs [Reg.GLB_PROF_STATUS] s.m t))

/-- A read that may be issued reserves its completion slots and leaves for the next slots of the ring. A valid
  descriptor that returns comes on chip and HEAD advances; an invalid one completes with its status under
  DESC_INVALID, and under HALT_ON_INVALID its queue is to halt with its record; a failed read halts the queue with one
  FETCH_ERR completion. Nothing else changes. -/
def Obligations.DescriptorFetch : Prop :=
  (∀ (s : State) (q n : Nat), s.m.flt.halted = false → q < 8192 → s.m.mayFetch q n = true → Answers (.descriptorFetch
    q n) s (fun t => (t.queue q).fetches = (s.m.queue q).fetches ++ [⟨(s.m.queue q).nextSlot, n⟩] ∧ (t.cq (s.m.queue
    q).cq).resv = (s.m.cq (s.m.queue q).cq).resv + (n - min (s.m.queue q).kept n) ∧ t.outs = .hostRead ((s.m.queue
    q).base + 64 * (s.m.queue q).nextSlot) (64 * n) :: s.m.outs ∧ SameMemory s.m t ∧ SameRegs [] s.m t)) ∧
  (∀ (s : State) (q sl : Nat) (bs : List Byte), s.m.flt.halted = false → q < 8192 → (s.m.queue q).fetches = [⟨sl, 1⟩]
    → (s.m.queue q).halted = false → (s.m.queue q).halting = none → bs.length = 64 → descInvalid bs = none →
    s.m.journalOn = false → Answers (.descriptorReadComplete q (some bs)) s (fun t => (t.queue q).onchip = (s.m.queue
    q).onchip ++ [⟨(s.m.queue q).head, (s.m.queue q).nextSerial, bs, false⟩] ∧ (t.queue q).head = ((s.m.queue q).head
    + 1) % 2 ^ (s.m.queue q).sizeLog2 ∧ (t.queue q).fetches = [] ∧ (t.queue q).outstanding = (s.m.queue q).outstanding
    ++ [(s.m.queue q).nextSerial] ∧ t.outs = s.m.outs ∧ SameMemory s.m t ∧ SameRegs [] s.m t)) ∧
  (∀ (s : State) (q sl code : Nat) (bs : List Byte), s.m.flt.halted = false → q < 4096 → (s.m.queue q).fetches = [⟨sl,
    1⟩] → (s.m.queue q).halted = false → (s.m.queue q).halting = none → bs.length = 64 → descInvalid bs = some code →
    descQuiet bs = false → Answers (.descriptorReadComplete q (some bs)) s (fun t => (t.cq (s.m.queue q).cq).waiting =
    (s.m.cq (s.m.queue q).cq).waiting ++ [descComp q (s.m.queue q).nextSerial bs code 0#32] ∧ t.flag Reg.HOST_ERR
    Fields.HOST_ERR.DESC_INVALID = true ∧ (t.queue q).halted = false ∧ (t.queue q).halting = (if (s.m.queue
    q).haltOnInvalid then some (s.m.queue q).nextSerial else none) ∧ (t.queue q).onchip = (s.m.queue q).onchip ∧
    t.outs = s.m.outs ∧ SameMemory s.m t ∧ SameRegs [Reg.HOST_ERR, Reg.HOST_ERR_INFO] s.m t)) ∧
  (∀ (s : State) (q : Nat) (f : Fetch) (rest : List Fetch), s.m.flt.halted = false → q < 4096 → (s.m.queue q).fetches
    = f :: rest → Answers (.descriptorReadComplete q none) s (fun t => (t.queue q).halted = true ∧ (t.queue q).fetches
    = [] ∧ (t.queue q).head = (s.m.queue q).head ∧ t.flag Reg.HOST_ERR Fields.HOST_ERR.FETCH_ERR = true ∧ (t.cq
    (s.m.queue q).cq).waiting.map (fun c => (c.queue, c.status, c.tag)) = (s.m.cq (s.m.queue q).cq).waiting.map (fun c
    => (c.queue, c.status, c.tag)) ++ [(q, stFETCH_ERR, 0#32)] ∧ t.outs = s.m.outs ∧ SameMemory s.m t ∧ SameRegs
    [Reg.HOST_ERR, Reg.HOST_ERR_INFO] s.m t))

/-- A NOP leaves its queue and completes OK with RESULT 0, under QUIET without a record. A GRAPH_ABORT without a
  target completes OK with ABORT_LATE; one that finds its graph still queued ends it with ABORTED and then completes
  OK. A token is placed on an external edge that holds none, under the edge's COND, and the descriptor completes OK.
  Memory, registers and outputs stay. -/
def Obligations.DescriptorsEnd : Prop :=
  (∀ (s : State) (q k : Nat) (d : Desc), s.m.flt.halted = false → q < 4096 → s.m.takeable q k 0 = some d → descQuiet
    d.bytes = false → Answers (.nop q k) s (fun t => (t.queue q).onchip = (s.m.queue q).onchip.eraseIdx k ∧ (t.cq
    (s.m.queue q).cq).waiting = (s.m.cq (s.m.queue q).cq).waiting ++ [descComp q d.serial d.bytes stOK 0#32] ∧ t.outs
    = s.m.outs ∧ SameMemory s.m t ∧ SameRegs [] s.m t)) ∧
  (∀ (s : State) (q k : Nat) (d : Desc), s.m.flt.halted = false → q < 4096 → s.m.takeable q k 0 = some d → descQuiet
    d.bytes = true → Answers (.nop q k) s (fun t => (t.queue q).onchip = (s.m.queue q).onchip.eraseIdx k ∧ (t.cq
    (s.m.queue q).cq).waiting = (s.m.cq (s.m.queue q).cq).waiting ∧ (t.queue q).outstanding = (s.m.queue
    q).outstanding.erase d.serial ∧ t.outs = s.m.outs ∧ SameMemory s.m t ∧ SameRegs [] s.m t)) ∧
  (∀ (s : State) (q k : Nat) (d : Desc), s.m.flt.halted = false → q < 4096 → s.m.takeable q k 2 = some d → descQuiet
    d.bytes = false → s.m.runningInst (descSite d.bytes) (fieldAt d.bytes 8 4) = none → (s.m.dropDesc q k).queuedGraph
    (descSite d.bytes) (fieldAt d.bytes 8 4) = none → Answers (.graphAbort q k) s (fun t => (t.queue q).onchip =
    (s.m.queue q).onchip.eraseIdx k ∧ (t.cq (s.m.queue q).cq).waiting = (s.m.cq (s.m.queue q).cq).waiting ++
    [{ descComp q d.serial d.bytes stOK 0#32 with abortLate := true }] ∧ t.outs = s.m.outs ∧ SameMemory s.m t ∧
    SameRegs [] s.m t)) ∧
  (∀ (s : State) (q k qt kt c : Nat) (d g : Desc), s.m.flt.halted = false → q < 4096 → qt < 4096 → s.m.takeable q k 2
    = some d → descQuiet d.bytes = false → descQuiet g.bytes = false → s.m.runningInst (descSite d.bytes) (fieldAt
    d.bytes 8 4) = none → (s.m.dropDesc q k).queuedGraph (descSite d.bytes) (fieldAt d.bytes 8 4) = some (qt, kt) →
    ((s.m.dropDesc q k).queue qt).onchip[kt]? = some g → (s.m.queue q).cq = c → (s.m.queue qt).cq = c → Answers
    (.graphAbort q k) s (fun t => (t.queue qt).onchip = ((s.m.dropDesc q k).queue qt).onchip.eraseIdx kt ∧ (t.cq
    c).waiting = (s.m.cq c).waiting ++ [descComp qt g.serial g.bytes stABORTED 0#32, descComp q d.serial d.bytes stOK
    0#32] ∧ t.outs = s.m.outs ∧ SameMemory s.m t ∧ SameRegs [] s.m t)) ∧
  (∀ (s : State) (q k i : Nat) (d : Desc) (x y : Inst), s.m.flt.halted = false → q < 4096 → s.m.takeable q k 3 = some
    d → descQuiet d.bytes = false → s.m.journalOn = false → s.m.runningInst (descSite d.bytes) (fieldAt d.bytes 8 4) =
    some i → s.m.inst i = some x → fieldAt d.bytes 12 2 < x.edges.length → (x.edge (fieldAt d.bytes 12 2)).src =
    0xFFFF → x.token (fieldAt d.bytes 12 2) = none → y = x.setToken (fieldAt d.bytes 12 2) (some (edgeToken (x.edge
    (fieldAt d.bytes 12 2)) ⟨BitVec.ofNat 64 (fieldAt d.bytes 16 8), false, false⟩)) → y.quitStatus = none →
    y.finished = false → (∀ j : Nat, j < y.nodes.length → (y.nodeSt j ≠ NodeSt.waiting ∨ y.turn j = Turn.wait)) →
    Answers (.tokenInject q k) s (fun t => t.inst i = some y ∧ (t.queue q).onchip = (s.m.queue q).onchip.eraseIdx k ∧
    (t.cq (s.m.queue q).cq).waiting = (s.m.cq (s.m.queue q).cq).waiting ++ [descComp q d.serial d.bytes stOK 0#32] ∧
    t.outs = s.m.outs ∧ SameMemory s.m t ∧ SameRegs [] s.m t))

/-- Launches, node fetch and DMA_LIST. The launches are stated for graphs of one node without inputs, which are ready
  at once. -/
def Obligations.LaunchesAndLists : Prop :=
  (∀ (s : State) (q k i r : Nat) (d : Desc) (n : NodeD) (host : List Host.Cell), s.m.flt.halted = false → q < 8192 →
    s.m.takeable q k 1 = some d → s.m.siteLost (descSite d.bytes) = false → s.m.readGraph (q / 64) (fieldAt d.bytes 8
    6) host = .ok ⟨[n], [], r⟩ → s.m.runningInst (descSite d.bytes) (fieldAt d.bytes 24 4) = none → s.m.freeSlot =
    some i → n.cls ≠ 9 → (s.m.queue (64 * (q / 64) + n.qsel)).ready.length < 16 → (s.m.queue (64 * (q / 64) +
    n.qsel)).held = [] → Answers (.graphLaunch q k host) s (fun t => t.inst i = some ((newInst q d ⟨[n], [], r⟩
    false).setSt 0 NodeSt.ready) ∧ (t.queue (64 * (q / 64) + n.qsel)).ready = (s.m.queue (64 * (q / 64) +
    n.qsel)).ready ++ [⟨i, 0, none⟩] ∧ (t.queue q).onchip = (s.m.queue q).onchip.eraseIdx k ∧ t.outs = s.m.outs ∧
    SameMemory s.m t ∧ SameRegs [] s.m t)) ∧
  (∀ (s : State) (q k i : Nat) (d : Desc) (n : NodeD) (host : List Host.Cell), s.m.flt.halted = false → q < 8192 →
    s.m.takeable q k 5 = some d → s.m.siteLost (descSite d.bytes) = false → s.m.readNode (q / 64) (fieldAt d.bytes 8
    6) host = .ok ⟨[n], [⟨0, 0xFFFF, 0, 0⟩], 0⟩ → s.m.freeSlot = some i → n.cls ≠ 9 → (s.m.queue (64 * (q / 64) +
    n.qsel)).ready.length < 16 → (s.m.queue (64 * (q / 64) + n.qsel)).held = [] → Answers (.nodeRun q k host) s (fun t
    => t.inst i = some ((newInst q d ⟨[n], [⟨0, 0xFFFF, 0, 0⟩], 0⟩ true).setSt 0 NodeSt.ready) ∧ (t.queue (64 * (q /
    64) + n.qsel)).ready = (s.m.queue (64 * (q / 64) + n.qsel)).ready ++ [⟨i, 0, none⟩] ∧ (t.queue q).onchip =
    (s.m.queue q).onchip.eraseIdx k ∧ t.outs = s.m.outs ∧ SameMemory s.m t ∧ SameRegs [] s.m t)) ∧
  (∀ (s : State) (q k i : Nat) (d : Desc) (n : NodeD) (host : List Host.Cell), s.m.flt.halted = false → q < 8192 →
    (s.m.queue q).onchip[k]? = some d → d.waiting = true → descOpcode d.bytes = 5 → s.m.takeable q k 5 = some d →
    s.m.siteLost (descSite d.bytes) = false → s.m.readNode (q / 64) (fieldAt d.bytes 8 6) host = .ok ⟨[n], [⟨0,
    0xFFFF, 0, 0⟩], 0⟩ → s.m.freeSlot = some i → n.cls ≠ 9 → (s.m.queue (64 * (q / 64) + n.qsel)).ready.length < 16 →
    (s.m.queue (64 * (q / 64) + n.qsel)).held = [] → Answers (.instanceAccept q k host) s (fun t => t.inst i = some
    ((newInst q d ⟨[n], [⟨0, 0xFFFF, 0, 0⟩], 0⟩ true).setSt 0 NodeSt.ready) ∧ (t.queue (64 * (q / 64) + n.qsel)).ready
    = (s.m.queue (64 * (q / 64) + n.qsel)).ready ++ [⟨i, 0, none⟩] ∧ (t.queue q).onchip = (s.m.queue
    q).onchip.eraseIdx k ∧ t.outs = s.m.outs ∧ SameMemory s.m t ∧ SameRegs [] s.m t)) ∧
  (∀ (s : State) (i k : Nat) (x : Inst) (bs : List Byte) (host : List Host.Cell), s.m.flt.halted = false → i < 512 →
    s.m.inst i = some x → k < x.nodes.length → x.quitStatus = none → s.m.devRecord x.group host (x.image + (if
    x.nodeRun then 0 else 64 + 64 * k)) 64 = .ok bs → Answers (.nodeFetch i k host) s (fun t => t.inst i = some x ∧
    t.hat.insts = s.m.hat.insts ∧ t.hat.reports = s.m.hat.reports ∧ t.queues = s.m.queues ∧ t.outs = s.m.outs ∧
    SameMemory s.m t ∧ SameRegs [] s.m t)) ∧
  (∀ (s : State) (q k ch : Nat) (d : Desc) (h : List Byte) (host : List Host.Cell), s.m.flt.halted = false → q < 8192
    → s.m.takeable q k 4 = some d → byteAt d.bytes 14 = ch → ch < 32 → s.m.unitFree 7 ch = true → fieldAt d.bytes 8 6
    % 32 = 0 → ((s.m.dropDesc q k).dmaClaim ch (.desc q d.serial d.bytes) (q / 64) (fieldAt d.bytes 8 6)).devRecord (q
    / 64) host (fieldAt d.bytes 8 6) 32 = .ok h → listHeaderOk h = true → Answers (.dmaList q k host) s (fun t =>
    t.dmaRun ch = some ⟨.desc q d.serial d.bytes, q / 64, fieldAt d.bytes 8 6, fieldAt h 4 4, nbit (byteAt h 8) 0, 0,
    none, none, 0⟩ ∧ t.dmaState ch = 1 ∧ t.dmaOffset ch = 0 ∧ (t.queue q).onchip = (s.m.queue q).onchip.eraseIdx k ∧
    t.outs = s.m.outs ∧ SameMemory s.m t ∧ SameRegs [Reg.DMA_CH_STATUS ch, Reg.DMA_CH_POS ch, Reg.DMA_CH_OFFSET ch]
    s.m t))

/-- The oldest waiting record of a ring is written at TAIL with the ring's PHASE; a queue that was to halt with that
  record is halted; MOD_TIME and a due vector send their interrupt; a condition of R104 sets HOLDING, and HOLDING
  falls when the last has ended; PERST# masks every MSI-X entry. -/
def Obligations.CompletionsAndInterrupts : Prop :=
  (∀ (s : State) (c : Nat) (x : Comp) (rest : List Comp), s.m.flt.halted = false → c < 64 → (s.m.cq c).waiting = x ::
    rest → s.m.cqOn c = true → s.m.pcieLive = true → s.m.journalOn = false → s.m.cqTail c < s.m.cqSize c → s.m.cqSize
    c ≤ 65536 → Answers (.completionWrite c) s (fun t => (t.cq c).waiting = rest ∧ t.cqTail c = (if s.m.cqTail c + 1 =
    s.m.cqSize c then 0 else s.m.cqTail c + 1) ∧ t.outs = .hostWrite (s.m.rd64 (Reg.HOST_CQ_BASE_LO c) + 16 *
    s.m.cqTail c) (compBytes x (s.m.flag (Reg.HOST_CQ_STATE c) Fields.HOST_CQ_STATE.PHASE) (s.m.queue x.queue).head)
    false :: s.m.outs ∧ SameMemory s.m t ∧ SameRegsPost [Reg.HOST_CQ_STATE c] s.m t)) ∧
  (∀ (s : State) (c : Nat) (x : Comp) (rest : List Comp), s.m.flt.halted = false → c < 64 → (s.m.cq c).waiting = x ::
    rest → s.m.cqOn c = true → s.m.pcieLive = true → s.m.journalOn = false → (s.m.queue x.queue).halting = some
    x.serial → Answers (.completionWrite c) s (fun t => (t.queue x.queue).halted = true ∧ (t.queue x.queue).halting =
    none ∧ (t.cq c).waiting = rest ∧ SameMemory s.m t ∧ SameRegsPost [Reg.HOST_CQ_STATE c] s.m t)) ∧
  (∀ (s : State) (c us : Nat), s.m.flt.halted = false → c < 64 → (s.m.cq c).timer = true → s.m.rd (Reg.HOST_CQ_CFG c)
    Fields.HOST_CQ_CFG.MOD_TIME ≠ 0 → s.m.rd (Reg.HOST_CQ_CFG c) Fields.HOST_CQ_CFG.MOD_TIME ≤ us → s.m.pcieLive =
    true → s.m.vecMasked (s.m.rd (Reg.HOST_CQ_CFG c) Fields.HOST_CQ_CFG.VEC) = false → Answers (.modTimeExpiry c us) s
    (fun t => (t.cq c).timer = false ∧ (t.cq c).count = 0 ∧ t.pcie.due.contains (s.m.rd (Reg.HOST_CQ_CFG c)
    Fields.HOST_CQ_CFG.VEC) = true ∧ t.outs = s.m.outs ∧ SameMemory s.m t ∧ SameRegs [] s.m t)) ∧
  (∀ (s : State) (v : Nat), s.m.flt.halted = false → v < 256 → (s.m.pcie.due.contains v || s.m.vecPending v) = true →
    s.m.vecMasked v = false → s.m.pcieLive = true → Answers (.msixSend v) s (fun t => t.outs = .msix v (s.m.rd64
    (0x110000 + 16 * v)) (s.m.reg (0x110008 + 16 * v)) :: s.m.outs ∧ t.vecPending v = false ∧ SameMemory s.m t ∧
    SameRegs [0x111000 + 4 * (v / 32)] s.m t)) ∧
  (∀ (s : State) (c : HoldCond), s.m.dma.runs = [] → Answers (.holdConditionBegin c) s (fun t => t.flag
    Reg.HOST_STATUS Fields.HOST_STATUS.HOLDING = true ∧ t.queues.all (fun e => (t.queue e.1).fetches.isEmpty) = true ∧
    t.outs = s.m.outs ∧ SameMemory s.m t ∧ SameRegs [Reg.HOST_STATUS] s.m t)) ∧
  (∀ (s : State) (speed width mps mrrs : Nat) (ero : Bool) (bars : List Nat), Wf.holdConditionEnd .linkDown speed
    width mps mrrs ⟨ero, bars⟩ = true → s.m.dma.runs = [] → s.m.pcie.perst = false → s.m.pcie.d3hot = false → s.m.flag
    Reg.HOST_STATUS Fields.HOST_STATUS.BME = true → Answers (.holdConditionEnd .linkDown speed width mps mrrs ⟨ero,
    bars⟩) s (fun t => t.flag Reg.HOST_STATUS Fields.HOST_STATUS.HOLDING = false ∧ t.flag Reg.HOST_STATUS
    Fields.HOST_STATUS.LINK_UP = true ∧ t.rd Reg.HOST_STATUS Fields.HOST_STATUS.SPEED = speed ∧ t.rd Reg.HOST_STATUS
    Fields.HOST_STATUS.WIDTH = width ∧ t.outs = s.m.outs ∧ SameMemory s.m t ∧ SameRegs [Reg.HOST_STATUS] s.m t)) ∧
  (∀ (s : State), s.m.pcie.due.all (fun v => decide (v < 256)) = true → Answers (.perst) s (fun t => (∀ v : Nat, v <
    256 → t.vecMasked v = true) ∧ t.pcie.perst = true ∧ t.flag Reg.HOST_STATUS Fields.HOST_STATUS.BME = false ∧ t.flag
    Reg.HOST_STATUS Fields.HOST_STATUS.LINK_UP = false ∧ t.flag Reg.GLB_RST_CAUSE Fields.GLB_RST_CAUSE.PERST_SEEN =
    true ∧ t.outs = s.m.outs ∧ SameMemory s.m t ∧ (∀ v ∈ s.m.pcie.due, t.vecPending v = true)))

/-- A report of a node with SETTLE reaches Hatch: the node settles with its token, and the group's deficit is
  corrected by COST less the time used. After SETTLE the token appears on the node's output edges. TIMEOUT and a
  node's TIMEOUT end the instance early with their status. (The timeouts are stated for an instance whose one node
  runs on a TDC, which they leave running.) -/
def Obligations.NodesEnd : Prop :=
  (∀ (s : State) (us : Nat) (r : Report) (rest : List Report) (x : Inst), s.m.flt.halted = false → s.m.hat.reports = r
    :: rest → s.m.inst r.inst = some x → s.m.journalFull = false → s.m.pairActive = false → s.m.traceOn = false →
    x.quitStatus = none → r.status = stOK → (x.node r.node).settle ≠ 0 → Answers (.nodeComplete us) s (fun t =>
    t.hat.reports = rest ∧ t.inst r.inst = some
    (({ x with stretch := x.stretch + r.stretch, ran := x.ran + b2n r.ran } : Inst).setSt r.node (.settling ⟨r.value,
    r.fail, false⟩)) ∧ t.hat.deficitOf (x.node r.node).cls x.group = max (-65535) (min 65535 (s.m.hat.deficitOf
    (x.node r.node).cls x.group + ((max (x.node r.node).cost 1 : Nat) : Int) - ((if r.ran then us else 0 : Nat) :
    Int))) ∧ t.outs = s.m.outs ∧ SameMemory s.m t ∧ SameRegs [] s.m t)) ∧
  (∀ (s : State) (i k us : Nat) (x y : Inst) (tok : Token), s.m.flt.halted = false → i < 512 → s.m.inst i = some x →
    x.nodeSt k = .settling tok → (x.node k).settle ≤ us → x.quitStatus = none → y = (x.setSt k
    NodeSt.done).placeTokens k tok → y.finished = false → (∀ j : Nat, j < y.nodes.length → (y.nodeSt j ≠
    NodeSt.waiting ∨ y.turn j = Turn.wait)) → Answers (.tokenRelease i k us) s (fun t => t.inst i = some y ∧ t.outs =
    s.m.outs ∧ SameMemory s.m t ∧ SameRegs [] s.m t)) ∧
  (∀ (s : State) (i us u : Nat) (x : Inst), s.m.flt.halted = false → i < 512 → s.m.inst i = some x → x.quitStatus =
    none → x.nodes.length = 1 → x.nodeSt 0 = .running 4 u → (x.node 0).timeout ≠ 0 → (x.node 0).timeout ≤ us →
    s.m.queues.all (fun e => (e.2.ready ++ e.2.held).all (fun r => r.inst != i)) = true → s.m.hat.preempt = [] →
    s.m.traceOn = false → Answers (.nodeTimeout i 0 us) s (fun t => t.inst i = some
    { x with quitStatus := some stNODE_TIMEOUT, badNode := 0 } ∧ t.outs = s.m.outs ∧ SameMemory s.m t ∧ SameRegs []
    s.m t)) ∧
  (∀ (s : State) (i us u : Nat) (x : Inst), s.m.flt.halted = false → i < 512 → s.m.inst i = some x → x.quitStatus =
    none → x.nodes.length = 1 → x.nodeSt 0 = .running 4 u → x.timeout ≠ 0 → x.timeout ≤ us → s.m.queues.all (fun e =>
    (e.2.ready ++ e.2.held).all (fun r => r.inst != i)) = true → s.m.hat.preempt = [] → s.m.traceOn = false → Answers
    (.timeout i us) s (fun t => t.inst i = some { x with quitStatus := some stTIMEOUT, badNode := 0xFFFF } ∧ t.outs =
    s.m.outs ∧ SameMemory s.m t ∧ SameRegs [] s.m t))

/-- The entry that the pick of R116 names leaves its queue and runs on its unit, shown for a TDC_MEAS with valid ARGS
  on internal sources. A step that has acknowledged its suspension re-enters the head of its queue bound to its core.
  A request without acknowledgement for PREEMPT_WAIT is withdrawn under PREEMPT_TIMEOUT, and after a further
  PREEMPT_WAIT the step may be asked again. -/
def Obligations.ArbitersAndPreemption : Prop :=
  (∀ (s : State) (g q u : Nat) (e : Entry) (h : Hat) (x : Inst) (host : List Host.Cell), s.m.flt.halted = false →
    s.m.hat.stopped = false → s.m.journalFull = false → s.m.journalOn = false → s.m.dispatchOpen = true → s.m.traceOn
    = false → s.m.hat.pick 4 (s.m.offersOf 4) = (some g, h) → s.m.offer 4 g = some (q, e) → s.m.go e = .unit u →
    s.m.inst e.inst = some x → e.core = none → (x.node e.node).cls = 4 → x.group < 64 → (s.m.queue q).held = [] →
    tmBad u (x.node e.node).args = false → 2 ≤ tmStart (x.node e.node).args → 2 ≤ tmStop (x.node e.node).args →
    Answers (.arbiterDecision 4 host) s (fun t => t.tdc u = some ⟨⟨some e.inst, e.node, x.group, x.site⟩, (x.node
    e.node).args, s.m.ttime, none, none, none, 0, none, false⟩ ∧ (t.inst e.inst).map (fun y => y.nodeSt e.node) = some
    (.running 4 u) ∧ (t.queue q).ready = (s.m.queue q).ready.erase e ∧ t.hat.deficit = h.deficit ∧ t.outs = s.m.outs ∧
    SameMemory s.m t)) ∧
  (∀ (s : State) (c us i k : Nat) (p : Preempt) (x : Inst) (host : List Host.Cell), s.m.flt.halted = false → c < 16 →
    SMap.get (fun _ => none) s.m.hat.preempt c = some p → (s.m.score c).step = some (i, k) → s.m.acked c = true →
    (s.m.score c).reqPreempt = true → s.m.inst i = some x → (s.m.queue p.queue).ready.contains p.entry = false →
    p.entry ≠ ⟨i, k, some c⟩ → s.m.traceOn = false → Answers (.preemptDone c us host) s (fun t => (t.score c).step =
    none ∧ (t.score c).susp = (s.m.score c).susp ++ [((s.m.score c).slot, (i, k))] ∧ t.inst i = some (x.setSt k
    (.suspended c (s.m.score c).slot)) ∧ (t.queue (x.queueOf k)).ready = ⟨i, k, some c⟩ :: (s.m.queue (x.queueOf
    k)).ready ∧ t.outs = s.m.outs ∧ SameMemory s.m t ∧ SameRegs [] s.m t)) ∧
  (∀ (s : State) (c us i k : Nat) (p : Preempt), s.m.flt.halted = false → c < 16 → SMap.get (fun _ => none)
    s.m.hat.preempt c = some p → (s.m.score c).step = some (i, k) → s.m.acked c = false → s.m.rd Reg.HAT_CTRL
    Fields.HAT_CTRL.PREEMPT_WAIT ≤ us → s.m.traceOn = false → Answers (.preemptTo c us) s (fun t => (t.score
    c).reqPreempt = false ∧ (t.score c).step = some (i, k) ∧ t.flag Reg.HAT_ERR Fields.HAT_ERR.PREEMPT_TIMEOUT = true
    ∧ SMap.get badDefault t.hat.noAsk (1024 * i + k) = true ∧ SMap.get (fun _ => none) t.hat.preempt c = none ∧ t.gddr
    = s.m.gddr ∧ SameOutside (coreBase c + 104) (coreBase c + 105) s.m.sram t.sram ∧ t.outs = s.m.outs ∧ SameRegs
    [Reg.HAT_ERR] s.m t)) ∧
  (∀ (s : State) (i k us : Nat), s.m.flt.halted = false → i < 512 → s.m.rd Reg.HAT_CTRL Fields.HAT_CTRL.PREEMPT_WAIT ≤
    us → Answers (.preemptWaitExpiry i k us) s (fun t => SMap.get badDefault t.hat.noAsk (1024 * i + k) = false ∧
    t.outs = s.m.outs ∧ SameMemory s.m t ∧ SameRegs [] s.m t))

/-- The oldest staged fault record enters the privileged queue that ERR_CFG names while it has room and nothing is
  spilled; the oldest spilled record comes back on chip; the oldest trace record goes to its destination in host
  memory; DATALOG owes its record to the queue of the step's group. -/
def Obligations.PrivilegedQueues : Prop :=
  (∀ (s : State) (q : Nat) (r : FaultRec) (rest : List FaultRec), s.m.flt.halted = false → q < 4096 → s.m.flag
    (Reg.HAT_Q_CFG q) Fields.HAT_Q_CFG.PRIV = true → s.m.faultQueue q = true → s.m.flt.staging = r :: rest →
    (s.m.queue q).priv.length < 16 → s.m.spilled (s.m.rd (Reg.HAT_Q_CFG q) Fields.HAT_Q_CFG.SPILL_CTX) = 0 → Answers
    (.privRecordAppend q) s (fun t => (t.queue q).priv = (s.m.queue q).priv ++ [⟨r.toBytes⟩] ∧ t.flt.staging = rest ∧
    t.outs = s.m.outs ∧ SameMemory s.m t ∧ SameRegs [] s.m t)) ∧
  (∀ (s : State) (q c : Nat) (bs : List Byte) (host : List Host.Cell), s.m.flt.halted = false → q < 4096 → s.m.flag
    (Reg.HAT_Q_CFG q) Fields.HAT_Q_CFG.PRIV = true → s.m.rd (Reg.HAT_Q_CFG q) Fields.HAT_Q_CFG.SPILL_CTX = c →
    s.m.spilled c ≠ 0 → (s.m.queue q).priv.length < 16 → s.m.devRecord (q / 64) host (s.m.spillAt c (s.m.queue
    q).spillRd) 64 = .ok bs → Answers (.spillRefill q host) s (fun t => (t.queue q).priv = (s.m.queue q).priv ++
    [⟨bs⟩] ∧ t.spilled c = s.m.spilled c - 1 ∧ (t.queue q).spillRd = ((s.m.queue q).spillRd + 1) % s.m.spillSlots c ∧
    t.outs = s.m.outs ∧ SameMemory s.m t ∧ SameRegs [Reg.HAT_SPILL_STATE c] s.m t)) ∧
  (∀ (s : State) (r : List Byte) (rest : List (List Byte)), s.m.flt.halted = false → s.m.traceDest = 2 →
    s.m.hat.traceRing = r :: rest → s.m.flag Reg.HAT_TRACE_CTRL Fields.HAT_TRACE_CTRL.STOP_FULL = false → Answers
    (.traceCopy) s (fun t => t.hat.traceRing = rest ∧ t.reg Reg.HAT_TRACE_WR = BitVec.ofNat 32 ((s.m.reg
    Reg.HAT_TRACE_WR).toNat + 1) ∧ t.outs = .hostWrite (s.m.rd64 Reg.HAT_TRACE_BASE_LO + 16 * ((s.m.reg
    Reg.HAT_TRACE_WR).toNat % (2 ^ ((if 16 ≤ s.m.rd Reg.HAT_TRACE_CTRL Fields.HAT_TRACE_CTRL.SIZE_LOG2 ∧ s.m.rd
    Reg.HAT_TRACE_CTRL Fields.HAT_TRACE_CTRL.SIZE_LOG2 ≤ 30 then s.m.rd Reg.HAT_TRACE_CTRL
    Fields.HAT_TRACE_CTRL.SIZE_LOG2 else 16) - 4)))) r s.m.dataRo :: s.m.outs ∧ SameMemory s.m t ∧ SameRegs
    [Reg.HAT_TRACE_WR] s.m t)) ∧
  (∀ (s : State) (c q a i k : Nat) (bs : List Byte) (host : List Host.Cell), s.m.flt.halted = false → Wf.datalog c q =
    true → (s.m.score c).step = some (i, k) → s.m.coreRecord c a 64 host = some bs → 64 * (s.m.nodeJob i k).group + q
    < 4096 → s.m.flag (Reg.HAT_Q_CFG (64 * (s.m.nodeJob i k).group + q)) Fields.HAT_Q_CFG.PRIV = true → s.m.acked c =
    false → (s.m.score c).logging = false → a < 0x1000000000000 → Answers (.datalog c q a host) s (fun t =>
    t.hat.feeds = s.m.hat.feeds ++ [⟨64 * (s.m.nodeJob i k).group + q, bs, some c⟩] ∧ (t.score c).logging = true ∧
    t.outs = s.m.outs ∧ SameMemory s.m t ∧ SameRegs [] s.m t))

/-- EXIT writes EXIT_VALUE and ends the step with its flags; at a boundary a step that is asked to give way
  acknowledges; INPUT and TTIME return their value. An exception, KILL_WAIT without DONE and a bad word of local
  memory end the step with STEP_FAULT or STEP_XLT_FAULT, STEP_KILLED and STEP_ECC. Nothing else of memory, and no
  register but KILLS, changes. -/
def Obligations.StepServices : Prop :=
  (∀ (s : State) (c flags i k : Nat) (value : DWord), s.m.flt.halted = false → c < 16 → flags < 256 → (s.m.score
    c).step = some (i, k) → s.m.acked c = false → (s.m.score c).logging = false → (s.m.hart c).dcache = [] →
    (s.m.score c).reqAbort = false → Answers (.exit c value flags) s (fun t => (t.score c).step = none ∧ t.hat.reports
    = s.m.hat.reports ++ [⟨i, k, if nbit flags 1 then stSTEP_ERROR else stOK, value, nbit flags 0, 0, true⟩] ∧ memRead
    t.sram (coreBase c + 112) 8 = leBytes 8 value.toNat ∧ t.gddr = s.m.gddr ∧ SameOutside (coreBase c + 112) (coreBase
    c + 256) s.m.sram t.sram ∧ SameRegs [] s.m t)) ∧
  (∀ (s : State) (c i k : Nat), s.m.flt.halted = false → c < 16 → (s.m.score c).step = some (i, k) → s.m.acked c =
    false → (s.m.score c).logging = false → (s.m.hart c).dcache = [] → (s.m.score c).slot < 4 → (s.m.score c).reqAbort
    = false → (s.m.score c).reqPreempt = true → (s.m.score c).susp.length < 3 → Answers (.boundary c) s (fun t =>
    memByte t.sram (coreBase c + 121) = BitVec.ofNat 8 (8 + (s.m.score c).slot) ∧ (t.score c).step = some (i, k) ∧
    t.gddr = s.m.gddr ∧ SameOutside (coreBase c + 0xF000 + 0x400 * (s.m.score c).slot) (coreBase c + 0xF400 + 0x400 *
    (s.m.score c).slot) (memWrite s.m.sram (coreBase c + 121) [BitVec.ofNat 8 (8 + (s.m.score c).slot)]) t.sram ∧
    t.outs = s.m.outs ∧ SameRegs [] s.m t)) ∧
  (∀ (s : State) (c n i k : Nat), s.m.flt.halted = false → c < 16 → n < 8 → (s.m.score c).step = some (i, k) →
    s.m.acked c = false → (s.m.score c).logging = false → (s.m.score c).reqAbort = false → (s.m.score c).reqPreempt =
    false → (s.m.score c).reqDrain = false → Answers (.inputCall c n) s (fun t => t.outs = .coreValue c (BitVec.ofNat
    64 (ofBytes (memRead s.m.sram (coreBase c + 40 + 8 * n) 8))) :: s.m.outs ∧ SameMemory s.m t ∧ SameRegs [] s.m t)) ∧
  (∀ (s : State) (c i k : Nat), s.m.flt.halted = false → c < 16 → (s.m.score c).step = some (i, k) → s.m.acked c =
    false → (s.m.score c).logging = false → (s.m.score c).reqAbort = false → (s.m.score c).reqPreempt = false →
    (s.m.score c).reqDrain = false → Answers (.ttimeCall c) s (fun t => t.outs = .coreValue c (BitVec.ofNat 64
    s.m.ttime) :: s.m.outs ∧ SameMemory s.m t ∧ SameRegs [] s.m t)) ∧
  (∀ (s : State) (c i k : Nat) (xlt : Bool), s.m.flt.halted = false → c < 16 → (s.m.score c).step = some (i, k) →
    s.m.acked c = false → (s.m.hart c).dcache = [] → Answers (.stepException c xlt) s (fun t => (t.score c).step =
    none ∧ t.hat.reports = s.m.hat.reports ++ [⟨i, k, if xlt then stSTEP_XLT_FAULT else stSTEP_FAULT, 0, false, 0,
    true⟩] ∧ SameMemory s.m t ∧ SameRegs [] s.m t)) ∧
  (∀ (s : State) (c us i k : Nat), s.m.flt.halted = false → c < 16 → (s.m.score c).step = some (i, k) → (s.m.score
    c).reqAbort = true → s.m.killWait ≤ us → Answers (.stepKilled c us) s (fun t => (t.score c).step = none ∧ (t.score
    c).booted = false ∧ t.hat.reports = s.m.hat.reports ++ [⟨i, k, stSTEP_KILLED, 0, false, 0, true⟩] ∧ t.rd
    (Reg.MCS_SCORE_STATUS c) Fields.MCS_SCORE_STATUS.KILLS = satAdd Fields.MCS_SCORE_STATUS.KILLS.width (s.m.rd
    (Reg.MCS_SCORE_STATUS c) Fields.MCS_SCORE_STATUS.KILLS) 1 ∧ SameMemory s.m t ∧ SameRegs [Reg.MCS_SCORE_STATUS c]
    s.m t)) ∧
  (∀ (s : State) (c i k : Nat), s.m.flt.halted = false → c < 16 → s.m.localBad c = true → (s.m.score c).step = some
    (i, k) → (s.m.score c).susp = [] → Answers (.stepEcc c) s (fun t => (t.score c).step = none ∧ (t.score c).booted =
    false ∧ t.hat.reports = s.m.hat.reports ++ [⟨i, k, stSTEP_ECC, 0, false, 0, true⟩] ∧ SameMemory s.m t ∧ SameRegs
    [Reg.MCS_SCORE_STATUS c] s.m t))

/-- A core in its boot ROM starts at GO. A management core without KICK for WDOG_MS is counted and reset, and a second
  expiry within one second holds it as FAILED. Loads are stored, and SHED rises and falls by one under its conditions.
  Scrub marks a bad word, CHECK sets LOADED where every test passed, and a micro-word goes on to its NEXT word or to
  its branch target. -/
def Obligations.CoresAndStore : Prop :=
  (∀ (s : State) (c : Nat), s.m.flt.halted = false → c < 16 → s.m.coreStarted c = true → s.m.flag (Reg.MCS_SCORE_CTRL
    c) Fields.MCS_SCORE_CTRL.GO = true → s.m.flag (Reg.MCS_SCORE_CTRL c) Fields.MCS_SCORE_CTRL.HOLD = false → Answers
    (.coreBoot c) s (fun t => t.coreUp c = true ∧ t.outs = s.m.outs ∧ SameMemory s.m t ∧ SameRegs [] s.m t)) ∧
  (∀ (s : State) (c : Nat), s.m.flt.halted = false → 16 ≤ c → c < 20 → s.m.coreStarted c = true → s.m.flag
    (Reg.MCS_MCORE_CTRL (c - 16)) Fields.MCS_MCORE_CTRL.GO = true → s.m.flag (Reg.MCS_MCORE_CTRL (c - 16))
    Fields.MCS_MCORE_CTRL.HOLD = false → s.m.flag (Reg.MCS_MCORE_STATUS (c - 16)) Fields.MCS_MCORE_STATUS.RUNNING =
    false → Answers (.coreBoot c) s (fun t => t.flag (Reg.MCS_MCORE_STATUS (c - 16)) Fields.MCS_MCORE_STATUS.RUNNING =
    true ∧ (t.mcore (c - 16)).kickAt = s.m.ttime ∧ t.outs = s.m.outs ∧ SameMemory s.m t ∧ SameRegs
    [Reg.MCS_MCORE_STATUS (c - 16)] s.m t)) ∧
  (∀ (s : State) (k : Nat), s.m.flt.halted = false → k < 4 → s.m.flag (Reg.MCS_MCORE_CTRL k)
    Fields.MCS_MCORE_CTRL.WDOG_EN = true → s.m.flag (Reg.MCS_MCORE_STATUS k) Fields.MCS_MCORE_STATUS.RUNNING = true →
    (s.m.mcore k).kickAt + 1000000 * max 1 (s.m.rd Reg.MCS_MGMT_CFG Fields.MCS_MGMT_CFG.WDOG_MS) ≤ s.m.ttime →
    (s.m.mcore k).expiredAt = none → Answers (.watchdogExpiry k) s (fun t => t.flag (Reg.MCS_MCORE_STATUS k)
    Fields.MCS_MCORE_STATUS.RUNNING = false ∧ t.rd (Reg.MCS_MCORE_STATUS k) Fields.MCS_MCORE_STATUS.WDOG_COUNT =
    satAdd Fields.MCS_MCORE_STATUS.WDOG_COUNT.width (s.m.rd (Reg.MCS_MCORE_STATUS k)
    Fields.MCS_MCORE_STATUS.WDOG_COUNT) 1 ∧ (t.mcore k).expiredAt = some s.m.ttime ∧ t.gddr = s.m.gddr ∧ SameOutside
    (coreBase (16 + k) + 0x1000) (coreBase (16 + k) + 0x20000) s.m.sram t.sram ∧ t.outs = s.m.outs ∧ SameRegs
    [Reg.MCS_MCORE_STATUS k] s.m t)) ∧
  (∀ (s : State) (k u : Nat), s.m.flt.halted = false → k < 4 → s.m.flag (Reg.MCS_MCORE_CTRL k)
    Fields.MCS_MCORE_CTRL.WDOG_EN = true → s.m.flag (Reg.MCS_MCORE_STATUS k) Fields.MCS_MCORE_STATUS.RUNNING = true →
    (s.m.mcore k).kickAt + 1000000 * max 1 (s.m.rd Reg.MCS_MGMT_CFG Fields.MCS_MGMT_CFG.WDOG_MS) ≤ s.m.ttime →
    (s.m.mcore k).expiredAt = some u → s.m.ttime ≤ u + 1000000000 → Answers (.watchdogExpiry k) s (fun t => t.flag
    (Reg.MCS_MCORE_STATUS k) Fields.MCS_MCORE_STATUS.RUNNING = false ∧ t.flag (Reg.MCS_MCORE_STATUS k)
    Fields.MCS_MCORE_STATUS.FAILED = true ∧ t.flag (Reg.MCS_MCORE_CTRL k) Fields.MCS_MCORE_CTRL.HOLD = true ∧
    SameMemory s.m t ∧ SameRegsPost [Reg.MCS_MCORE_STATUS k, Reg.MCS_MCORE_CTRL k] s.m t)) ∧
  (∀ (s : State) (loads : List Nat), s.m.flt.halted = false → Wf.mgmtLoadUpdate loads = true → Answers
    (.mgmtLoadUpdate loads) s (fun t => (∀ k : Nat, k < 4 → t.rd Reg.MCS_MGMT_LOAD (loadField k) = min 100 (loads.getD
    k 0)) ∧ t.outs = s.m.outs ∧ SameMemory s.m t ∧ SameRegs [Reg.MCS_MGMT_LOAD] s.m t)) ∧
  (∀ (s : State) (ms : Nat), s.m.flt.halted = false → s.m.firmwareRuns = true → 100 ≤ ms → s.m.rd Reg.MCS_MGMT_CFG
    Fields.MCS_MGMT_CFG.SHED_HI ≤ s.m.topLoad → Answers (.shedRise ms) s (fun t => t.rd Reg.MCS_MGMT_LOAD
    Fields.MCS_MGMT_LOAD.SHED = min 2 (s.m.rd Reg.MCS_MGMT_LOAD Fields.MCS_MGMT_LOAD.SHED + 1) ∧ t.outs = s.m.outs ∧
    SameMemory s.m t ∧ SameRegs [Reg.MCS_MGMT_LOAD] s.m t)) ∧
  (∀ (s : State) (ms : Nat), s.m.flt.halted = false → s.m.firmwareRuns = true → 1000 ≤ ms → s.m.topLoad ≤ s.m.rd
    Reg.MCS_MGMT_CFG Fields.MCS_MGMT_CFG.SHED_LO → Answers (.shedFall ms) s (fun t => t.rd Reg.MCS_MGMT_LOAD
    Fields.MCS_MGMT_LOAD.SHED = s.m.rd Reg.MCS_MGMT_LOAD Fields.MCS_MGMT_LOAD.SHED - 1 ∧ t.outs = s.m.outs ∧
    SameMemory s.m t ∧ SameRegs [Reg.MCS_MGMT_LOAD] s.m t)) ∧
  (∀ (s : State) (w : Nat), s.m.flt.halted = false → w < 4096 → s.m.storeBad w = true → s.m.flag Reg.MCS_STATUS
    Fields.MCS_STATUS.SCRUB_ERR = false → Answers (.scrub w) s (fun t => t.flag Reg.MCS_STATUS
    Fields.MCS_STATUS.SCRUB_ERR = true ∧ t.rd Reg.MCS_STATUS Fields.MCS_STATUS.SCRUB_ADDR = w ∧ t.outs = s.m.outs ∧
    SameMemory s.m t ∧ SameRegs [Reg.MCS_STATUS] s.m t)) ∧
  (∀ (s : State), s.m.flt.halted = false → s.m.flag Reg.MCS_STATUS Fields.MCS_STATUS.CHECKING = true → s.m.sys.reload
    = false → s.m.startState = 6 → Answers (.checkComplete) s (fun t => t.flag Reg.MCS_STATUS
    Fields.MCS_STATUS.CHECKING = false ∧ t.flag Reg.MCS_STATUS Fields.MCS_STATUS.LOADED = decide (s.m.storeOk = (true,
    true, true, true)) ∧ t.startState = 6 ∧ t.outs = s.m.outs ∧ SameMemory s.m t ∧ SameRegs [Reg.MCS_STATUS,
    Reg.MCS_CRC, Reg.MCS_VERSION] s.m t)) ∧
  (∀ (s : State) (n a k us : Nat) (bs : List Byte) (u : Micro), s.m.flt.halted = false → Wf.microwordExecute n k =
    true → (s.m.seq n).upc = some a → (s.m.seq n).live = true → (s.m.seq n).ended = false → (s.m.seq n).post = none →
    (s.m.seq n).paused = false → (s.m.seq n).run = 0 → s.m.lookFull n (s.m.seq n) = false → s.m.readStream (s.m.seq
    n).iblk (16 * (s.m.seq n).pc) 16 = .ok bs → s.m.storeBad a = false → Micro.ofNat (s.m.storeWord a) = u → u.waits =
    false → (s.m.seq n).span + 1 + u.rep ≤ 64 → u.commit = false → u.endop = false → u.vop = 0 → u.cntop = 0 →
    u.flagop = 0 → u.cwop = 0 → u.syncop = 0 → u.pfop = 0 → u.ppop = 0 → u.post = 0 → Answers (.microwordExecute n k
    us) s (fun t => (t.seq n).upc = some (if s.m.microCond n us u (Word4.ofBytes bs) (s.m.seq n) then u.brTarget else
    u.next) ∧ (t.seq n).pc = (s.m.seq n).pc ∧ (t.seq n).pp = (s.m.seq n).pp ∧ (t.seq n).span = (s.m.seq n).span + 1 +
    u.rep ∧ (t.seq n).look = (s.m.seq n).look ∧ SameMemory s.m t))

/-- The read engine takes a valid COPY descriptor; the engines move its bytes through the channel's slice; FILL
  repeats its pattern at the destination; a request starts a waiting burst; the last write completes the descriptor
  and the last descriptor the list; a transfer error and PD_TIMEOUT halt the channel with their cause. -/
def Obligations.DmaDescriptors : Prop :=
  (∀ (s : State) (ch : Nat) (r : DmaRun) (d : List Byte) (host : List Host.Cell), s.m.flt.halted = false → ch < 32 →
    s.m.dmaRun ch = some r → s.m.dmaState ch = 1 → r.cur = none → r.done < r.count → s.m.dma.quiet = [] →
    s.m.devRecord r.ctx host (r.addr + 32 + 32 * r.done) 32 = .ok d → ldOk d = true → ldOp d = 0 → ldSrcSg d = false →
    ldDstSg d = false → Answers (.dmaDescriptorRead ch host) s (fun t => t.dmaRun ch = some
    { r with cur := some ⟨d, [(ldSrc d, ldLength d)], [(ldDst d, ldLength d)], !ldPreq d, 0⟩ } ∧ t.dmaState ch = (if
    ldPreq d then 2 else 1) ∧ t.dmaOffset ch = 0 ∧ t.outs = s.m.outs ∧ SameMemory s.m t ∧ SameRegs [Reg.DMA_CH_STATUS
    ch, Reg.DMA_CH_OFFSET ch] s.m t)) ∧
  (∀ (s : State) (ch n : Nat) (r : DmaRun) (d : DmaDesc) (bs : List Byte) (host : List Host.Cell), s.m.flt.halted =
    false → Wf.copy ch n = true → s.m.dmaMoves ch = true → s.m.dmaRun ch = some r → r.cur = some d → ldOp d.bytes = 0
    → d.started = true → d.fetched = s.m.dmaOffset ch → (s.m.dmaDrain ch).dmaReadParts r.ctx host (streamPart d.src
    d.fetched (min (min n 0x8000) (ldLength d.bytes - d.fetched))) = (bs, none) → bs.length ≤ 0x8000 → Answers (.copy
    ch n host) s (fun t => t.dmaRun ch = some { r with cur := some { d with fetched := d.fetched + bs.length } } ∧
    t.sliceRead ch d.fetched bs.length = bs ∧ t.dmaOffset ch = s.m.dmaOffset ch ∧ t.gddr = s.m.gddr ∧ t.outs =
    s.m.outs ∧ SameRegs [Reg.DMA_CH_OFFSET ch] s.m t)) ∧
  (∀ (s : State) (ch n va len a k : Nat) (r : DmaRun) (d : DmaDesc), s.m.flt.halted = false → Wf.fill ch n = true →
    s.m.dmaMoves ch = true → s.m.dmaRun ch = some r → r.cur = some d → ldOp d.bytes = 1 → d.started = true → d.dst =
    [(va, len)] → ldLength d.bytes = len → k = min n (len - s.m.dmaOffset ch) → 0 < k → s.m.xlate r.ctx (va +
    s.m.dmaOffset ch) .write = .ok (.gddr a) → (va + s.m.dmaOffset ch) % 0x10000 + k ≤ 0x10000 → s.m.placeOff (.gddr
    a) k = false → s.m.placePartBad (.gddr a) k = false → s.m.pairActive = false → Answers (.fill ch n) s (fun t =>
    memRead t.gddr a k = (List.range k).map (fun i => d.bytes.getD (8 + (s.m.dmaOffset ch + i) % 8) 0) ∧ t.reg
    (Reg.DMA_CH_OFFSET ch) = BitVec.ofNat 32 (s.m.dmaOffset ch + k) ∧ SameOutside a (a + k) s.m.gddr t.gddr ∧ t.sram =
    s.m.sram ∧ t.outs = s.m.outs ∧ SameRegs [Reg.DMA_CH_OFFSET ch] s.m t)) ∧
  (∀ (s : State) (ch : Nat) (r : DmaRun) (d : DmaDesc), s.m.flt.halted = false → ch < 32 → s.m.dmaRun ch = some r →
    r.cur = some d → d.started = false → s.m.reqAsserted ch d.bytes = true → s.m.dma.quiet = [] → s.m.dmaState ch = 2
    → Answers (.preqAssert ch) s (fun t => t.dmaRun ch = some { r with cur := some { d with started := true } } ∧
    t.dmaState ch = 1 ∧ (ldReq d.bytes = 0x30 → t.flag (Reg.DMA_CH_CTRL ch) Fields.DMA_CH_CTRL.SWREQ = false) ∧ t.outs
    = s.m.outs ∧ SameMemory s.m t ∧ SameRegs [Reg.DMA_CH_STATUS ch, Reg.DMA_CH_CTRL ch] s.m t)) ∧
  (∀ (s : State) (ch : Nat) (r : DmaRun) (d : DmaDesc), s.m.flt.halted = false → ch < 32 → s.m.dmaRun ch = some r →
    r.cur = some d → s.m.dmaMoves ch = true → s.m.dmaOffset ch = ldLength d.bytes → r.stop = none → r.done + 1 <
    r.count → r.count < 65536 → Answers (.dmaDescriptorComplete ch) s (fun t => t.dmaRun ch = some
    { r with done := r.done + 1, cur := none } ∧ t.rd (Reg.DMA_CH_POS ch) Fields.DMA_CH_POS.DESC = r.done + 1 ∧
    t.dmaOffset ch = 0 ∧ t.outs = s.m.outs ∧ SameMemory s.m t ∧ SameRegs [Reg.DMA_CH_POS ch, Reg.DMA_CH_OFFSET ch] s.m
    t)) ∧
  (∀ (s : State) (ch q serial : Nat) (bytes : List Byte) (r : DmaRun) (d : DmaDesc), s.m.flt.halted = false → ch < 32
    → s.m.dmaRun ch = some r → r.cur = some d → s.m.dmaMoves ch = true → s.m.dmaOffset ch = ldLength d.bytes → r.done
    + 1 = r.count → r.origin = .desc q serial bytes → q < 4096 → descQuiet bytes = false → Answers
    (.dmaDescriptorComplete ch) s (fun t => t.dmaRun ch = none ∧ t.dmaState ch = 0 ∧ (t.cq (s.m.queue q).cq).waiting =
    (s.m.cq (s.m.queue q).cq).waiting ++ [descComp q serial bytes stOK (BitVec.ofNat 32 r.count)] ∧ t.outs = s.m.outs
    ∧ SameMemory s.m t ∧ SameRegs [Reg.DMA_CH_STATUS ch] s.m t)) ∧
  (∀ (s : State) (ch : Nat) (write : Bool) (r : DmaRun) (d : DmaDesc), s.m.flt.halted = false → Wf.dmaTransferError ch
    0 = true → (s.m.dmaDrain ch).dmaRun ch = some r → r.cur = some d → d.started = true → (s.m.dmaDrain ch).dmaMoves
    ch = true → r.stop = none → r.haltOnErr = true → Answers (.dmaTransferError ch 0 write) s (fun t => t.dmaState ch
    = 4 ∧ (t.dmaRun ch).map DmaRun.error = some stDMA_BUS ∧ t.rd (Reg.DMA_CH_ERR_INFO ch) Fields.DMA_CH_ERR_INFO.CAUSE
    = 8 ∧ t.flag (Reg.DMA_CH_ERR_INFO ch) Fields.DMA_CH_ERR_INFO.DIR = write ∧ t.gddr = (s.m.dmaDrain ch).gddr ∧
    t.sram = (s.m.dmaDrain ch).sram ∧ SameRegs [Reg.DMA_CH_STATUS ch, Reg.DMA_CH_ERR_INFO ch, Reg.DMA_CH_ERR_ADDR_LO
    ch, Reg.DMA_CH_ERR_ADDR_LO ch + 4] (s.m.dmaDrain ch) t)) ∧
  (∀ (s : State) (ch us : Nat) (r : DmaRun) (d : DmaDesc), s.m.flt.halted = false → ch < 32 → s.m.dmaRun ch = some r →
    r.cur = some d → d.started = true → s.m.dmaState ch = 5 → max 1 (s.m.rd Reg.DMA_CFG Fields.DMA_CFG.PD_TIMEOUT) ≤
    us → r.stop = none → r.haltOnErr = true → Answers (.pdTimeout ch us) s (fun t => t.dmaState ch = 4 ∧ (t.dmaRun
    ch).map DmaRun.error = some stDOMAIN_OFF ∧ t.rd (Reg.DMA_CH_ERR_INFO ch) Fields.DMA_CH_ERR_INFO.CAUSE = 10 ∧
    t.dmaOffset ch = s.m.dmaOffset ch ∧ t.outs = s.m.outs ∧ SameMemory s.m t ∧ SameRegs [Reg.DMA_CH_STATUS ch,
    Reg.DMA_CH_ERR_INFO ch, Reg.DMA_CH_ERR_ADDR_LO ch, Reg.DMA_CH_ERR_ADDR_LO ch + 4] s.m t))

/-- A walk that finds a leaf with the rights of the access puts it into the cache, and nothing else changes. The end
  of an invalidation sets INV_DONE. -/
def Obligations.TranslationCache : Prop :=
  (∀ (s : State) (ctx va dir req index : Nat) (l : Tlb), s.m.flt.halted = false → Wf.tableWalk ctx va dir req = true →
    s.m.requests ctx req index = true → checkRights (dirOf dir) (s.m.walk ctx va) = .leaf l → Answers (.tableWalk ctx
    va dir req index) s (fun t => t.tlb.contains l = true ∧ t.tlb.length ≤ max 2048 (s.m.tlb.length) ∧ t.outs =
    s.m.outs ∧ SameMemory s.m t ∧ SameRegs [] s.m t)) ∧
  (∀ (s : State), s.m.flt.halted = false → Answers (.invDone) s (fun t => t.flag Reg.XLT_INV Fields.XLT_INV.INV_DONE =
    true ∧ t.outs = s.m.outs ∧ SameMemory s.m t ∧ SameRegs [Reg.XLT_INV] s.m t))

/-- Each of LOOP, ENDL, CALL, RET, JMP and JCC, fetched at PC of a running sequencer, moves PC, PP, the loop levels
  and the call frames as its rule says. Memory, outputs and registers other than those that show the sequencer stay.
  -/
def Obligations.LoopsAndBranches : Prop :=
  (∀ (s : State) (n : Nat) (w : Word4), s.m.executes n w = true → w.op = 0x10 → 0 < w.imm → (s.m.seq n).levels.length
    < 8 → Answers (.loop n) s (fun t => (t.seq n).pc = (s.m.seq n).pc + 1 ∧ (t.seq n).pp = (s.m.seq n).pp ∧ (t.seq
    n).levels.map (fun l => (l.isMatch, l.count, l.tgt, l.body, l.pp)) = (false, w.imm, w.tgt, (s.m.seq n).pc + 1,
    (s.m.seq n).pp) :: (s.m.seq n).levels.map (fun l => (l.isMatch, l.count, l.tgt, l.body, l.pp)) ∧ t.outs = s.m.outs
    ∧ SameMemory s.m t ∧ SameRegs [Reg.SEQ_STATUS n, Reg.SEQ_PF_STATUS n, Reg.SEQ_PC n] s.m t)) ∧
  (∀ (s : State) (n : Nat) (w : Word4), s.m.executes n w = true → w.op = 0x10 → w.imm = 0 → Answers (.loop n) s (fun t
    => (t.seq n).pc = w.tgt + 1 ∧ (t.seq n).pp = (s.m.seq n).pp ∧ (t.seq n).levels = (s.m.seq n).levels ∧ t.outs =
    s.m.outs ∧ SameMemory s.m t ∧ SameRegs [Reg.SEQ_STATUS n, Reg.SEQ_PF_STATUS n, Reg.SEQ_PC n] s.m t)) ∧
  (∀ (s : State) (n : Nat) (w : Word4) (l : Level) (rest : List Level), s.m.executes n w = true → w.op = 0x11 →
    (s.m.seq n).levels = l :: rest → l.isMatch = false → l.tgt = (s.m.seq n).pc → 1 < l.count → Answers (.endl n) s
    (fun t => (t.seq n).pc = l.body ∧ (t.seq n).pp = l.pp ∧ (t.seq n).levels = ({ l with count := l.count - 1 } :
    Level) :: rest ∧ t.outs = s.m.outs ∧ SameMemory s.m t ∧ SameRegs [Reg.SEQ_STATUS n, Reg.SEQ_PF_STATUS n,
    Reg.SEQ_PC n] s.m t)) ∧
  (∀ (s : State) (n : Nat) (w : Word4) (l : Level) (rest : List Level), s.m.executes n w = true → w.op = 0x11 →
    (s.m.seq n).levels = l :: rest → l.isMatch = false → l.tgt = (s.m.seq n).pc → l.count ≤ 1 → Answers (.endl n) s
    (fun t => (t.seq n).pc = (s.m.seq n).pc + 1 ∧ (t.seq n).pp = (s.m.seq n).pp ∧ (t.seq n).levels = rest ∧ t.outs =
    s.m.outs ∧ SameMemory s.m t ∧ SameRegs [Reg.SEQ_STATUS n, Reg.SEQ_PF_STATUS n, Reg.SEQ_PC n] s.m t)) ∧
  (∀ (s : State) (n : Nat) (w : Word4), s.m.executes n w = true → w.op = 0x12 → (s.m.seq n).frames.length < 16 →
    Answers (.call n) s (fun t => (t.seq n).pc = w.tgt ∧ (t.seq n).pp = w.prow ∧ (t.seq n).frames = ⟨(s.m.seq n).pc +
    1, (s.m.seq n).pp, (s.m.seq n).levels.length⟩ :: (s.m.seq n).frames ∧ t.outs = s.m.outs ∧ SameMemory s.m t ∧
    SameRegs [Reg.SEQ_STATUS n, Reg.SEQ_PF_STATUS n, Reg.SEQ_PC n] s.m t)) ∧
  (∀ (s : State) (n : Nat) (w : Word4) (f : Frame) (rest : List Frame), s.m.executes n w = true → w.op = 0x13 →
    (s.m.seq n).frames = f :: rest → f.depth = (s.m.seq n).levels.length → Answers (.ret n) s (fun t => (t.seq n).pc =
    f.pc ∧ (t.seq n).pp = f.pp ∧ (t.seq n).frames = rest ∧ t.outs = s.m.outs ∧ SameMemory s.m t ∧ SameRegs
    [Reg.SEQ_STATUS n, Reg.SEQ_PF_STATUS n, Reg.SEQ_PC n] s.m t)) ∧
  (∀ (s : State) (n : Nat) (w : Word4), s.m.executes n w = true → w.op = 0x14 → w.mod / 32 ≤ (s.m.seq n).levels.length
    → Answers (.jmp n) s (fun t => (t.seq n).pc = w.tgt ∧ (t.seq n).pp = w.prow ∧ (t.seq n).levels = (s.m.seq
    n).levels.drop (w.mod / 32) ∧ t.outs = s.m.outs ∧ SameMemory s.m t ∧ SameRegs [Reg.SEQ_STATUS n, Reg.SEQ_PF_STATUS
    n, Reg.SEQ_PC n] s.m t)) ∧
  (∀ (s : State) (n : Nat) (w : Word4), s.m.executes n w = true → w.op = 0x15 → 2 ≤ w.mod % 16 → w.mod % 16 < 8 →
    w.mod / 32 ≤ (s.m.seq n).levels.length → (s.m.seq n).mirror = false → s.m.pairActive = false → s.m.jccCond n
    (w.mod % 16) (w.c16 % 16) = true → Answers (.jcc n) s (fun t => (t.seq n).pc = w.tgt ∧ (t.seq n).pp = w.prow ∧
    (t.seq n).levels = (s.m.seq n).levels.drop (w.mod / 32) ∧ t.outs = s.m.outs ∧ SameMemory s.m t ∧ SameRegs
    [Reg.SEQ_STATUS n, Reg.SEQ_PF_STATUS n, Reg.SEQ_PC n, Reg.SEQ_FLAGS n] s.m t)) ∧
  (∀ (s : State) (n : Nat) (w : Word4), s.m.executes n w = true → w.op = 0x15 → 2 ≤ w.mod % 16 → w.mod % 16 < 8 →
    (s.m.seq n).mirror = false → s.m.pairActive = false → s.m.jccCond n (w.mod % 16) (w.c16 % 16) = false → Answers
    (.jcc n) s (fun t => (t.seq n).pc = (s.m.seq n).pc + 1 ∧ (t.seq n).pp = (s.m.seq n).pp ∧ (t.seq n).levels =
    (s.m.seq n).levels ∧ t.outs = s.m.outs ∧ SameMemory s.m t ∧ SameRegs [Reg.SEQ_STATUS n, Reg.SEQ_PF_STATUS n,
    Reg.SEQ_PC n, Reg.SEQ_FLAGS n] s.m t)) ∧
  (∀ (s : State) (n : Nat) (w : Word4), s.m.executes n w = true → w.op = 0x15 → w.mod % 16 < 2 → (s.m.seq
    n).hold.isSome = true → Answers (.jcc n) s (fun t => (t.seq n).pc = (s.m.seq n).pc ∧ (t.seq n).wait = some
    Wait.jcc ∧ t.seqState n = 4 ∧ t.outs = s.m.outs ∧ SameMemory s.m t ∧ SameRegs [Reg.SEQ_STATUS n, Reg.SEQ_PF_STATUS
    n, Reg.SEQ_PC n] s.m t))

/-- VEC and RPT are stated for one vector of the instruction, which every further vector repeats. -/
def Obligations.VectorsAndControlWords : Prop :=
  (∀ (s : State) (n : Nat) (w : Word4) (bs : List Byte), s.m.executes n w = true → w.op = 0x01 → 0 < w.imm →
    s.m.lookFull n (s.m.seq n) = false → (s.m.seq n).pp < (s.m.seq n).img.rows → s.m.readRow (s.m.seq n) (s.m.seq
    n).pp = .ok bs → Answers (.vec n 1) s (fun t => (t.seq n).look.map (fun v => (v.row, v.bytes, v.tset, v.instr)) =
    (s.m.seq n).look.map (fun v => (v.row, v.bytes, v.tset, v.instr)) ++ [(some (s.m.seq n).pp, bs, (s.m.seq n).tset,
    (s.m.seq n).pc)] ∧ (t.seq n).run = w.imm - 1 ∧ (t.seq n).pp = ((s.m.seq n).pp + 1) ∧ (t.seq n).pc = (if w.imm = 1
    then (s.m.seq n).pc + 1 else (s.m.seq n).pc) ∧ t.outs = s.m.outs ∧ SameMemory s.m t ∧ SameRegs [Reg.SEQ_STATUS n,
    Reg.SEQ_PF_STATUS n, Reg.SEQ_PC n] s.m t)) ∧
  (∀ (s : State) (n : Nat) (w : Word4) (bs : List Byte), s.m.executes n w = true → w.op = 0x02 → 0 < w.imm →
    s.m.lookFull n (s.m.seq n) = false → (s.m.seq n).pp < (s.m.seq n).img.rows → s.m.readRow (s.m.seq n) (s.m.seq
    n).pp = .ok bs → Answers (.rpt n 1) s (fun t => (t.seq n).look.map (fun v => (v.row, v.bytes, v.tset, v.instr)) =
    (s.m.seq n).look.map (fun v => (v.row, v.bytes, v.tset, v.instr)) ++ [(some (s.m.seq n).pp, bs, (s.m.seq n).tset,
    (s.m.seq n).pc)] ∧ (t.seq n).run = w.imm - 1 ∧ (t.seq n).pp = (if w.imm = 1 then (s.m.seq n).pp + 1 else (s.m.seq
    n).pp) ∧ (t.seq n).pc = (if w.imm = 1 then (s.m.seq n).pc + 1 else (s.m.seq n).pc) ∧ t.outs = s.m.outs ∧
    SameMemory s.m t ∧ SameRegs [Reg.SEQ_STATUS n, Reg.SEQ_PF_STATUS n, Reg.SEQ_PC n] s.m t)) ∧
  (∀ (s : State) (n : Nat) (w : Word4), s.m.executes n w = true → w.op = 0x21 → formatPeriod (s.m.seq n).img.format ≤
    s.m.period n (w.c16 % 64) → (s.m.seq n).img.minPeriod ≤ s.m.period n (w.c16 % 64) → Answers (.tset n) s (fun t =>
    (t.seq n).ctl = (s.m.seq n).ctl ++ [.tset (w.c16 % 64)] ∧ (t.seq n).tset = w.c16 % 64 ∧ (t.seq n).pc = (s.m.seq
    n).pc + 1 ∧ t.outs = s.m.outs ∧ SameMemory s.m t ∧ SameRegs [Reg.SEQ_STATUS n, Reg.SEQ_PF_STATUS n, Reg.SEQ_PC n]
    s.m t)) ∧
  (∀ (s : State) (n : Nat) (w : Word4), s.m.executes n w = true → w.op = 0x22 → Answers (.lset n) s (fun t => (t.seq
    n).ctl = (s.m.seq n).ctl ++ [.lset (w.c16 % 256)] ∧ (t.seq n).pc = (s.m.seq n).pc + 1 ∧ t.outs = s.m.outs ∧
    SameMemory s.m t ∧ SameRegs [Reg.SEQ_STATUS n, Reg.SEQ_PF_STATUS n, Reg.SEQ_PC n] s.m t)) ∧
  (∀ (s : State) (n : Nat) (w : Word4), s.m.executes n w = true → w.op = 0x23 → w.mod % 16 = 0 → w.c16 % 64 < sigRange
    0 → Answers (.sigPulse n) s (fun t => (t.seq n).ctl = (s.m.seq n).ctl ++ [.sig 0 (w.c16 % 64)] ∧ (t.seq n).pc =
    (s.m.seq n).pc + 1 ∧ t.outs = s.m.outs ∧ SameMemory s.m t ∧ SameRegs [Reg.SEQ_STATUS n, Reg.SEQ_PF_STATUS n,
    Reg.SEQ_PC n] s.m t)) ∧
  (∀ (s : State) (n : Nat) (w : Word4), s.m.executes n w = true → w.op = 0x23 → w.mod % 16 = 1 → w.c16 % 64 < sigRange
    1 → Answers (.sigDriveHigh n) s (fun t => (t.seq n).ctl = (s.m.seq n).ctl ++ [.sig 1 (w.c16 % 64)] ∧ (t.seq n).pc
    = (s.m.seq n).pc + 1 ∧ t.outs = s.m.outs ∧ SameMemory s.m t ∧ SameRegs [Reg.SEQ_STATUS n, Reg.SEQ_PF_STATUS n,
    Reg.SEQ_PC n] s.m t)) ∧
  (∀ (s : State) (n : Nat) (w : Word4), s.m.executes n w = true → w.op = 0x23 → w.mod % 16 = 2 → w.c16 % 64 < sigRange
    2 → Answers (.sigDriveLow n) s (fun t => (t.seq n).ctl = (s.m.seq n).ctl ++ [.sig 2 (w.c16 % 64)] ∧ (t.seq n).pc =
    (s.m.seq n).pc + 1 ∧ t.outs = s.m.outs ∧ SameMemory s.m t ∧ SameRegs [Reg.SEQ_STATUS n, Reg.SEQ_PF_STATUS n,
    Reg.SEQ_PC n] s.m t)) ∧
  (∀ (s : State) (n : Nat) (w : Word4), s.m.executes n w = true → w.op = 0x23 → w.mod % 16 = 3 → w.c16 % 64 < sigRange
    3 → Answers (.sigArmTdc n) s (fun t => (t.seq n).ctl = (s.m.seq n).ctl ++ [.sig 3 (w.c16 % 64)] ∧ (t.seq n).pc =
    (s.m.seq n).pc + 1 ∧ t.outs = s.m.outs ∧ SameMemory s.m t ∧ SameRegs [Reg.SEQ_STATUS n, Reg.SEQ_PF_STATUS n,
    Reg.SEQ_PC n] s.m t)) ∧
  (∀ (s : State) (n : Nat) (w : Word4), s.m.executes n w = true → w.op = 0x23 → w.mod % 16 = 4 → w.c16 % 64 < sigRange
    4 → Answers (.sigTriggerAq n) s (fun t => (t.seq n).ctl = (s.m.seq n).ctl ++ [.sig 4 (w.c16 % 64)] ∧ (t.seq n).pc
    = (s.m.seq n).pc + 1 ∧ t.outs = s.m.outs ∧ SameMemory s.m t ∧ SameRegs [Reg.SEQ_STATUS n, Reg.SEQ_PF_STATUS n,
    Reg.SEQ_PC n] s.m t)) ∧
  (∀ (s : State) (n : Nat) (w : Word4), s.m.executes n w = true → w.op = 0x23 → w.mod % 16 = 5 → w.c16 % 64 < 16 →
    Answers (.sigSetFlag n) s (fun t => t.flag (Reg.SEQ_FLAGS n) ⟨w.c16 % 64, 1⟩ = true ∧ (t.seq n).pc = (s.m.seq
    n).pc + 1 ∧ (t.seq n).ctl = (s.m.seq n).ctl ∧ t.outs = s.m.outs ∧ SameMemory s.m t ∧ SameRegs [Reg.SEQ_STATUS n,
    Reg.SEQ_PF_STATUS n, Reg.SEQ_PC n, Reg.SEQ_FLAGS n] s.m t)) ∧
  (∀ (s : State) (n : Nat) (w : Word4), s.m.executes n w = true → w.op = 0x23 → w.mod % 16 = 6 → w.c16 % 64 < 16 →
    Answers (.sigClearFlag n) s (fun t => t.flag (Reg.SEQ_FLAGS n) ⟨w.c16 % 64, 1⟩ = false ∧ (t.seq n).pc = (s.m.seq
    n).pc + 1 ∧ (t.seq n).ctl = (s.m.seq n).ctl ∧ t.outs = s.m.outs ∧ SameMemory s.m t ∧ SameRegs [Reg.SEQ_STATUS n,
    Reg.SEQ_PF_STATUS n, Reg.SEQ_PC n, Reg.SEQ_FLAGS n] s.m t)) ∧
  (∀ (s : State) (n : Nat) (w : Word4) (bs : List Byte), s.m.executes n w = true → w.op = 0x25 → nbit w.mod 0 = true →
    (s.m.seq n).pp < (s.m.seq n).img.rows → s.m.readRow (s.m.seq n) (s.m.seq n).pp = .ok bs → Answers (.holdOn n) s
    (fun t => (t.seq n).hold = some ((s.m.seq n).pp, bs, w.c16 % 64) ∧ (t.seq n).pc = (s.m.seq n).pc + 1 ∧ (t.seq
    n).pp = (s.m.seq n).pp + 1 ∧ t.flag (Reg.SEQ_STATUS n) Fields.SEQ_STATUS.HOLD_ACTIVE = true ∧ t.outs = s.m.outs ∧
    SameMemory s.m t ∧ SameRegs [Reg.SEQ_STATUS n, Reg.SEQ_PF_STATUS n, Reg.SEQ_PC n] s.m t)) ∧
  (∀ (s : State) (n : Nat) (w : Word4), s.m.executes n w = true → w.op = 0x25 → nbit w.mod 0 = false → Answers
    (.holdOff n) s (fun t => (t.seq n).hold = none ∧ (t.seq n).pc = (s.m.seq n).pc + 1 ∧ t.flag (Reg.SEQ_STATUS n)
    Fields.SEQ_STATUS.HOLD_ACTIVE = false ∧ t.outs = s.m.outs ∧ SameMemory s.m t ∧ SameRegs [Reg.SEQ_STATUS n,
    Reg.SEQ_PF_STATUS n, Reg.SEQ_PC n] s.m t)) ∧
  (∀ (s : State) (n : Nat) (w : Word4), s.m.executes n w = true → w.op = 0x3F → Answers (.endBurst n) s (fun t =>
    (t.seq n).ended = true ∧ (t.seq n).safe = nbit w.mod 0 ∧ (t.seq n).pc = (s.m.seq n).pc ∧ (t.seq n).look = (s.m.seq
    n).look ∧ t.outs = s.m.outs ∧ SameMemory s.m t ∧ SameRegs [Reg.SEQ_STATUS n, Reg.SEQ_PF_STATUS n, Reg.SEQ_PC n]
    s.m t))

/-- Stated for sequencers that follow no partner and, where a decision is taken, outside a working pair. -/
def Obligations.WaitsAndMatch : Prop :=
  (∀ (s : State) (n : Nat) (w : Word4), s.m.executes n w = true → w.op = 0x16 → w.mod % 4 < 3 → 0 < w.imm → (s.m.seq
    n).hold.isSome = true → (s.m.seq n).levels.length < 8 → Answers (.matchInstr n) s (fun t => (t.seq n).pc =
    (s.m.seq n).pc + 1 ∧ (t.seq n).levels.map (fun l => (l.isMatch, l.count, l.max, l.mode, l.tgt, l.body)) = (true,
    1, w.imm, w.mod % 4, w.tgt, (s.m.seq n).pc + 1) :: (s.m.seq n).levels.map (fun l => (l.isMatch, l.count, l.max,
    l.mode, l.tgt, l.body)) ∧ (t.seq n).mcount = (s.m.seq n).mcount + 1 ∧ t.outs = s.m.outs ∧ SameMemory s.m t ∧
    SameRegs [Reg.SEQ_STATUS n, Reg.SEQ_PF_STATUS n, Reg.SEQ_PC n] s.m t)) ∧
  (∀ (s : State) (n : Nat) (w : Word4), s.m.executes n w = true → w.op = 0x20 → w.c16 % 16 < trigLines (w.c16 / 16) →
    (s.m.seq n).hold.isSome = true → (s.m.seq n).edges = [] → (nbit w.mod 0 && (s.m.seq n).latch.contains (16 * (w.c16
    / 16) + w.c16 % 16)) = false → w.c16 / 16 ≠ 2 → Answers (.wtrg n) s (fun t => (t.seq n).wait = some (.trig (w.c16
    / 16) (w.c16 % 16) (nbit w.mod 1) w.imm) ∧ (t.seq n).whold = (s.m.seq n).hold ∧ (t.seq n).pc = (s.m.seq n).pc ∧
    (t.seq n).latch = [] ∧ t.seqState n = 4 ∧ t.outs = s.m.outs ∧ SameMemory s.m t ∧ SameRegs [Reg.SEQ_STATUS n,
    Reg.SEQ_PF_STATUS n, Reg.SEQ_PC n] s.m t)) ∧
  (∀ (s : State) (n : Nat) (w : Word4), s.m.executes n w = true → w.op = 0x20 → w.c16 / 16 = 2 → (s.m.seq
    n).hold.isSome = true → (s.m.seq n).edges = [] → nbit (s.m.rd (Reg.SEQ_FLAGS n) Fields.SEQ_FLAGS.USER) (w.c16 %
    16) = true → s.m.pairActive = false → Answers (.wtrg n) s (fun t => (t.seq n).wait = none ∧ (t.seq n).resume =
    some ((s.m.seq n).sclk + 16) ∧ (t.seq n).pc = (s.m.seq n).pc + 1 ∧ t.flag (Reg.SEQ_FLAGS n)
    Fields.SEQ_FLAGS.TRIG_SEEN = true ∧ t.seqState n = 2 ∧ t.outs = s.m.outs ∧ SameMemory s.m t ∧ SameRegs
    [Reg.SEQ_STATUS n, Reg.SEQ_PF_STATUS n, Reg.SEQ_PC n, Reg.SEQ_FLAGS n] s.m t)) ∧
  (∀ (s : State) (n : Nat) (w : Word4), s.m.executes n w = true → w.op = 0x24 → (s.m.barMembers (s.m.seq n).mirror
    (w.c16 % 16)).contains n = true → (s.m.seq n).hold.isSome = true → (s.m.seq n).look ≠ [] → Answers (.sync n) s
    (fun t => (t.seq n).wait = some (.sync (w.c16 % 16) w.imm) ∧ (t.seq n).pc = (s.m.seq n).pc ∧ t.seqState n = 4 ∧
    t.outs = s.m.outs ∧ SameMemory s.m t ∧ SameRegs [Reg.SEQ_STATUS n, Reg.SEQ_PF_STATUS n, Reg.SEQ_PC n] s.m t)) ∧
  (∀ (s : State) (n : Nat) (bs : List Byte), s.m.flt.halted = false → n < 32 → s.m.unasked n = true → (s.m.seq n).look
    = [] → (s.m.seq n).waitRes ≤ (s.m.seq n).sclk → (s.m.seq n).failAt = [] → (s.m.seq n).paused = false → (s.m.seq
    n).wait = some Wait.jcc → s.m.readStream (s.m.seq n).iblk (16 * (s.m.seq n).pc) 16 = .ok bs → (Word4.ofBytes
    bs).mod / 32 ≤ (s.m.seq n).levels.length → (s.m.seq n).mirror = false → s.m.pairActive = false → Answers
    (.resultWaitEnd n) s (fun t => (t.seq n).wait = none ∧ (t.seq n).resume = some ((s.m.seq n).waitRes + 16) ∧ (t.seq
    n).pc = (if s.m.jccCond n ((Word4.ofBytes bs).mod % 16) ((Word4.ofBytes bs).c16 % 16) then (Word4.ofBytes bs).tgt
    else (s.m.seq n).pc + 1) ∧ t.seqState n = 2 ∧ t.outs = s.m.outs ∧ SameMemory s.m t ∧ SameRegs [Reg.SEQ_STATUS n,
    Reg.SEQ_PF_STATUS n, Reg.SEQ_PC n, Reg.SEQ_FLAGS n] s.m t)) ∧
  (∀ (s : State) (n : Nat) (bs : List Byte), s.m.flt.halted = false → n < 32 → s.m.unasked n = true → (s.m.seq n).look
    = [] → (s.m.seq n).waitRes ≤ (s.m.seq n).sclk → (s.m.seq n).failAt.any (fun r => decide (r ≤ (s.m.seq n).waitRes))
    = true → (s.m.seq n).paused = false → (s.m.seq n).wait = some Wait.jcc → s.m.readStream (s.m.seq n).iblk (16 *
    (s.m.seq n).pc) 16 = .ok bs → (Word4.ofBytes bs).mod % 32 = 0 → (Word4.ofBytes bs).mod / 32 ≤ (s.m.seq
    n).levels.length → (s.m.seq n).mirror = false → s.m.pairActive = false → Answers (.resultWaitEnd n) s (fun t =>
    (t.seq n).wait = none ∧ (t.seq n).resume = some ((s.m.seq n).waitRes + 16) ∧ (t.seq n).pc = (Word4.ofBytes bs).tgt
    ∧ t.flag (Reg.SEQ_FLAGS n) Fields.SEQ_FLAGS.FAIL = true ∧ t.seqState n = 2 ∧ t.outs = s.m.outs ∧ SameMemory s.m t
    ∧ SameRegs [Reg.SEQ_STATUS n, Reg.SEQ_PF_STATUS n, Reg.SEQ_PC n, Reg.SEQ_FLAGS n] s.m t)) ∧
  (∀ (s : State) (n us ofs src idx lim : Nat), s.m.flt.halted = false → Wf.wtrgTimeout n ofs = true → s.m.unasked n =
    true → (s.m.seq n).wait = some (.trig src idx false lim) → (s.m.seq n).edges.all (fun e => decide (s.m.ttime + ofs
    < e.at_)) = true → (s.m.seq n).paused = false → 0 < lim → lim ≤ us → s.m.pairActive = false → Answers
    (.wtrgTimeout n us ofs) s (fun t => (t.seq n).wait = none ∧ (t.seq n).anyTimeout = true ∧ (t.seq n).resume = some
    (s.m.ttime + ofs - (s.m.seq n).sclk0 + 16) ∧ (t.seq n).pc = (s.m.seq n).pc + 1 ∧ t.seqState n = 2 ∧ t.flag
    (Reg.SEQ_FLAGS n) Fields.SEQ_FLAGS.TRIG_SEEN = s.m.flag (Reg.SEQ_FLAGS n) Fields.SEQ_FLAGS.TRIG_SEEN ∧ t.outs =
    s.m.outs ∧ SameMemory s.m t ∧ SameRegs [Reg.SEQ_STATUS n, Reg.SEQ_PF_STATUS n, Reg.SEQ_PC n] s.m t)) ∧
  (∀ (s : State) (n us k lim : Nat), s.m.flt.halted = false → n < 32 → (s.m.seq n).wait = some (.sync k lim) → 0 < lim
    → lim ≤ us → (s.m.barMembers (s.m.seq n).mirror k).contains n = true → Answers (.syncTimeout n us) s (fun t =>
    (t.seq n).post = some stSYNC_TIMEOUT ∧ (t.seq n).wait = none ∧ (t.seq n).arrived = none ∧ t.outs = s.m.outs ∧
    SameMemory s.m t)) ∧
  (∀ (s : State) (n j : Nat) (v : Vec) (rest : List Vec) (l : Level) (f : Iter), s.m.flt.halted = false → n < 32 →
    s.m.unasked n = true → (s.m.seq n).look = v :: rest → (s.m.seq n).beginsAgain v = some (l, j) → (s.m.seq
    n).matchMet l (s.m.seq n).sclk = true → (s.m.seq n).iters.find? (fun i => i.mnum == l.mnum && i.it == j - 1 &&
    i.whole) = some f → (s.m.seq n).paused = false → (s.m.seq n).mirror = false → s.m.pairActive = false → Answers
    (.matchExit n) s (fun t => (t.seq n).look = [] ∧ (t.seq n).pc = l.tgt + 1 ∧ (t.seq n).pp = f.endPp ∧ (t.seq n).ctl
    = v.ctl.take v.pre ∧ (t.seq n).resume = some ((s.m.seq n).sclk + 16) ∧ t.flag (Reg.SEQ_FLAGS n)
    Fields.SEQ_FLAGS.MATCHED = true ∧ t.flag (Reg.SEQ_FLAGS n) Fields.SEQ_FLAGS.NOMATCH = false ∧ t.seqState n = 2 ∧
    t.outs = s.m.outs ∧ SameMemory s.m t ∧ SameRegs [Reg.SEQ_STATUS n, Reg.SEQ_PF_STATUS n, Reg.SEQ_PC n,
    Reg.SEQ_FLAGS n] s.m t))

/-- A refill block becomes readable with its bytes in the pool; the first emission opens the port at its dies; a lane
  group leaves the look-ahead; a due block closes; a block that arrives intact, a block in error and a mirror block
  are kept, and the deadline plays the chosen block. -/
def Obligations.EmissionAndBlocks : Prop :=
  (∀ (s : State) (n : Nat) (b : Blk) (bs : List Byte) (host : List Host.Cell), s.m.flt.halted = false → n < 32 →
    (s.m.seq n).live = true → nextRefill (s.m.seq n).iblk = some b → s.m.devRead (s.m.seq n).img.ctx host ((s.m.seq
    n).img.addr + (s.m.seq n).img.instrOff + b.num * blkSize) (min blkSize ((s.m.seq n).img.ilen - b.num * blkSize)) 0
    = .ok bs → Answers (.refillBlockComplete n false host) s (fun t => (t.seq n).iblk = markReadable b.num (s.m.seq
    n).iblk ∧ memRead t.sram (b.pool * blkSize) bs.length = bs ∧ SameOutside (b.pool * blkSize) (b.pool * blkSize +
    bs.length) s.m.sram t.sram ∧ t.gddr = s.m.gddr ∧ t.outs = s.m.outs ∧ SameRegs [Reg.SEQ_STATUS n, Reg.SEQ_PF_STATUS
    n, Reg.SEQ_PC n] s.m t)) ∧
  (∀ (s : State) (n ofs : Nat), s.m.flt.halted = false → Wf.firstEmission n ofs = true → s.m.unasked n = true →
    s.m.firstReady n (s.m.ttime + ofs) = true → (s.m.seq n).mirror = false → (s.m.seq n).wait = none → s.m.pairActive
    = false → Answers (.firstEmission n ofs) s (fun t => (t.seq n).sclk0 = s.m.ttime + ofs ∧ (∀ d : Nat, d < 2 →
    (s.m.portDies n).contains d = true → (t.dport n d).t0 = s.m.ttime + ofs + 1056) ∧ SameMemory s.m t)) ∧
  (∀ (s : State) (n : Nat) (v : Vec) (rest g : List Vec), s.m.flt.halted = false → n < 32 → (s.m.seq n).live = true →
    s.m.unasked n = true → 0 < (s.m.seq n).num → (s.m.seq n).mirror = false → (s.m.seq n).post = none → (s.m.seq
    n).ended = false → (s.m.seq n).wait = none → (s.m.seq n).look = v :: rest → v.after = 0 → v.align = 1 → headGroup
    v.tset (lanesOf (s.m.period n v.tset) - (s.m.seq n).num % lanesOf (s.m.period n v.tset)) true (v :: rest) = (g,
    true) → (s.m.seq n).beginsAgain v = none → (s.m.seq n).edges.all (fun e => decide ((s.m.seq n).sclk0 + (s.m.seq
    n).sclk < e.at_)) = true → (s.m.seq n).failAt.all (fun r => decide ((s.m.seq n).sclk < r)) = true → (s.m.seq
    n).blockDue (groupBytes (s.m.vecBytes n (s.m.seq n)) ((s.m.seq n).open_.bind (fun b => b.vecs.getLast?)) g) =
    false → Answers (.laneGroupEmit n) s (fun t => (t.seq n).look = (v :: rest).drop g.length ∧ (t.seq n).num =
    (s.m.seq n).num + g.length ∧ (t.seq n).lastSclk = (s.m.seq n).sclk ∧ (t.seq n).sent = (s.m.seq n).sent ∧ t.rd
    (Reg.SEQ_STATUS n) Fields.SEQ_STATUS.TSET = v.tset % 64 ∧ t.rd (Reg.SEQ_STATUS n) Fields.SEQ_STATUS.LW = lanesOf
    (s.m.period n v.tset) ∧ t.outs = s.m.outs ∧ SameMemory s.m t ∧ SameRegs [Reg.SEQ_STATUS n] s.m t)) ∧
  (∀ (s : State) (n : Nat) (b : LinkBlk), s.m.flt.halted = false → n < 32 → (s.m.seq n).blockDue (s.m.vecBytes n
    (s.m.seq n)) = true → (s.m.seq n).open_ = some b → Answers (.linkBlockClose n) s (fun t => (t.seq n).open_ = none
    ∧ (t.seq n).sent = (s.m.seq n).sent ++
    [({ b with tail := [], last := false, stop := false, safe := (s.m.seq n).safe && true } : LinkBlk)] ∧ (t.seq
    n).blkIdx = b.idx + 1 ∧ SameMemory s.m t ∧ SameRegs [] s.m t)) ∧
  (∀ (s : State) (n d k : Nat), Wf.plinkBlockReceive n d = true → (s.m.dport n d).chans ≠ [] → (s.m.seq n).sent.any
    (fun e => e.idx == k) = true → (s.m.dport n d).next ≤ k → ((s.m.dport n d).blk k).prim = 0 → Answers
    (.plinkBlockReceive n d k true) s (fun t => ((t.dport n d).blk k).prim = 1 ∧ (t.dport n d).play = (s.m.dport n
    d).play ∧ t.outs = s.m.outs ∧ SameMemory s.m t ∧ SameRegs [] s.m t)) ∧
  (∀ (s : State) (n d k : Nat), Wf.plinkBlockReceive n d = true → (s.m.dport n d).chans ≠ [] → (s.m.seq n).sent.any
    (fun e => e.idx == k) = true → (s.m.dport n d).next ≤ k → ((s.m.dport n d).blk k).prim = 0 → (SMap.get (fun _ =>
    []) s.m.sendBuf d).contains (n, k) = true → Answers (.plinkBlockReceive n d k false) s (fun t => ((t.dport n
    d).blk k).prim = 2 ∧ t.flag Reg.GLB_DIE_ERR ⟨Fields.GLB_DIE_ERR.P0_LINK_ERR.lo + d, 1⟩ = true ∧ t.outs = .replay d
    n k :: s.m.outs ∧ SameMemory s.m t ∧ SameRegs [Reg.GLB_DIE_ERR] s.m t)) ∧
  (∀ (s : State) (n d k : Nat), Wf.plinkBlockReceive n d = true → (s.m.dport n d).chans ≠ [] → (s.m.seq n).sent.any
    (fun e => e.idx == k) = true → (s.m.dport n d).next ≤ k → ((s.m.dport n d).blk k).prim = 2 → Answers
    (.plinkBlockReceive n d k true) s (fun t => ((t.dport n d).blk k).prim = 1 ∧ SMap.get (fun _ => 0) t.sys.linkErrs
    d = SMap.get (fun _ => 0) s.m.sys.linkErrs d + 1 ∧ t.outs = s.m.outs ∧ SameMemory s.m t ∧ SameRegs [] s.m t)) ∧
  (∀ (s : State) (n d k burst : Nat) (vs : List Vec) (tail : List Ctl) (last stop safe : Bool), Wf.mirrorBlockReceive
    n d = true → (s.m.dport n d).chans ≠ [] → (s.m.dport n d).mirOff = false → (s.m.dport n d).next ≤ k → burst %
    0x10000 = (s.m.dport n d).burst → Answers (.mirrorBlockReceive n d k burst ⟨vs, tail⟩ last stop safe) s (fun t =>
    ((t.dport n d).blk k).mir = true ∧ ((t.dport n d).blk k).mvecs = vs.map (fun v => { v with after := 0 }) ∧
    ((t.dport n d).blk k).mtail = tail ∧ ((t.dport n d).blk k).mlast = last ∧ ((t.dport n d).blk k).prim = ((s.m.dport
    n d).blk k).prim ∧ t.outs = s.m.outs ∧ SameMemory s.m t ∧ SameRegs [] s.m t)) ∧
  (∀ (s : State) (n d : Nat) (b : LinkBlk), Wf.blockDeadline n d = true → (s.m.dport n d).chans ≠ [] → (s.m.dport n
    d).last = false → (s.m.dport n d).done = false → (s.m.dport n (1 - d)).done = false → (s.m.dport n d).verdicts =
    [] → (s.m.dport n (1 - d)).verdicts = [] → (s.m.dport n d).mirSrc = false → ((s.m.dport n d).blk (s.m.dport n
    d).next).prim = 1 → ((s.m.dport n d).blk (s.m.dport n d).next).mir = false → (s.m.seq n).sent.find? (fun e =>
    e.idx == (s.m.dport n d).next) = some b → b.last = false → Answers (.blockDeadline n d) s (fun t => (t.dport n
    d).play = (s.m.dport n d).play ++ b.vecs ∧ (t.dport n d).tail = (s.m.dport n d).tail ++ b.tail ∧ (t.dport n
    d).next = (s.m.dport n d).next + 1 ∧ (t.dport n d).last = false ∧ t.outs = s.m.outs ∧ SameMemory s.m t ∧ SameRegs
    [] s.m t))

/-- A die plays its next vector; a strobe is judged by its code; a die that dropped records sends a GAP; Proof takes
  the next record into its ring; the token of a die reaches Proof; spill copies and trace headers are written; the
  record of a partner enters the mirror ring; a burst completes. -/
def Obligations.PlayoutAndProof : Prop :=
  (∀ (s : State) (n d : Nat) (samples : List Int) (v : Vec) (rest : List Vec), Wf.vectorPlay n d = true → (s.m.dport n
    d).play = v :: rest → v.ctl = [] → (s.m.dport n d).last = false → (s.m.dport n d).done = false → (s.m.dport n
    d).traced = [] → (s.m.dport n d).verdicts = [] → Answers (.vectorPlay n d samples) s (fun t => (t.dport n d).play
    = rest ∧ (t.dport n d).played = (s.m.dport n d).played + 1 ∧ (t.dport n d).et = (s.m.dport n d).et + (s.m.dport n
    d).tper.getD (v.tset % 64) 2048 ∧ SameMemory s.m t)) ∧
  (∀ (s : State) (ch n a : Nat) (obs : List (Int × Nat)) (k : Strobe) (rest : List Strobe) (v : Verdict),
    Wf.strobeJudgement ch obs = true → ch < 256 → (s.m.pin ch).placed = k :: rest → s.m.playOwner ch = some n →
    k.close = none → k.code ≠ 8 → a = pinState ((s.m.lv ch).thresholds (2048 * (s.m.dport n (ch / 128)).t0 + k.t))
    (obs.headD (0, 0)).1 → s.m.isLost (17 + ch / 128) = false → s.m.masked ch = false → (s.m.dport n (ch / 128)).done
    = false → (s.m.dport n (ch / 128)).verdicts = [v] → v.vec = k.vec → v.iter = [] → 2 ≤ v.left → v.fails = [] →
    Answers (.strobeJudgement ch obs) s (fun t => (t.pin ch).placed = rest ∧ (t.pin ch).seen = some a ∧ (t.dport n (ch
    / 128)).verdicts.map (fun w => (w.vec, w.left, w.fails)) = [(v.vec, v.left - 1, if edgePasses k.code a (s.m.pin
    ch).seen then [] else [(s.m.dport n (ch / 128)).indexOf ch])] ∧ t.outs = s.m.outs ∧ SameMemory s.m t ∧ SameRegs []
    s.m t)) ∧
  (∀ (s : State) (n d : Nat), s.m.flt.halted = false → Wf.gap n d = true → 0 < (s.m.dport n d).dropped →
    s.m.dieBuffered d < 4096 → Answers (.gap n d) s (fun t => (t.dport n d).recs = (s.m.dport n d).recs ++ [s.m.dieGap
    n d] ∧ (t.dport n d).dropped = 0 ∧ t.outs = s.m.outs ∧ SameMemory s.m t ∧ SameRegs [] s.m t)) ∧
  (∀ (s : State) (n : Nat) (r : List Byte) (rest : List (List Byte)), s.m.flt.halted = false → n < 32 → s.m.mayMerge n
    0 = true → (s.m.dport n 0).recs = r :: rest → recType r ≠ 5 → (∀ k : Nat, k < 32 → (s.m.dport k 0).dropped = 0 ∧
    (s.m.dport k 0).cnts = []) → s.m.pairActive = false → s.m.ringUsed n < 1024 → (s.m.ring n).gap = 0 → Answers
    (.proofRecordReceive n) s (fun t => (t.dport n 0).recs = rest ∧ memRead t.sram (ringSlot n (s.m.ringWr n))
    r.length = r ∧ SameOutside (ringSlot n (s.m.ringWr n)) (ringSlot n (s.m.ringWr n) + r.length) s.m.sram t.sram ∧
    t.reg (Reg.SEQ_PRF_WR n) = BitVec.ofNat 32 (s.m.ringWr n + 1) ∧ t.gddr = s.m.gddr ∧ t.outs = s.m.outs ∧ SameRegs
    [Reg.SEQ_PRF_WR n] s.m t)) ∧
  (∀ (s : State) (n d : Nat), s.m.flt.halted = false → Wf.burstToken n d = true → (s.m.dport n d).chans ≠ [] →
    (s.m.dport n d).counted = true → (s.m.dport n d).recs = [] → (s.m.dport n d).token = false → s.m.traceOwed n d =
    false → (s.m.dport n d).cnts = [] → (s.m.dport n d).dropped = 0 → (s.m.seq n).stopped.isSome = true →
    s.m.pairActive = false → (s.m.dport n (1 - d)).chans ≠ [] → (s.m.dport n (1 - d)).token = false → Answers
    (.burstToken n d) s (fun t => (t.dport n d).token = true ∧ t.ring n = s.m.ring n ∧ t.outs = s.m.outs ∧ SameMemory
    s.m t ∧ SameRegs [] s.m t)) ∧
  (∀ (s : State) (n : Nat) (m1 : Mod), s.m.flt.halted = false → n < 32 → (s.m.ring n).mode = 2 → s.m.ringUsed n ≠ 0 →
    ((s.m.reg (Reg.SEQ_PRF_SWR n)).toNat + 0x100000000 - (s.m.reg (Reg.SEQ_PRF_SRD n)).toNat) % 0x100000000 ≠
    s.m.spillCap n → s.m.slotBad n (s.m.ringRd n) = false → s.m.devPut 24 (s.m.ring n).ctx (s.m.rd64
    (Reg.SEQ_PRF_SPILL_BASE_LO n) + 64 * ((s.m.reg (Reg.SEQ_PRF_SWR n)).toNat % s.m.spillCap n)) (memRead s.m.sram
    (ringSlot n (s.m.ringRd n)) 64) = .ok m1 → m1.journalOn = false → Answers (.spillCopy n) s (fun t => t.gddr =
    m1.gddr ∧ t.sram = m1.sram ∧ t.outs = m1.outs ∧ t.reg (Reg.SEQ_PRF_RD n) = BitVec.ofNat 32 (s.m.ringRd n + 1) ∧
    t.reg (Reg.SEQ_PRF_SWR n) = BitVec.ofNat 32 ((s.m.reg (Reg.SEQ_PRF_SWR n)).toNat + 1) ∧ SameRegs [Reg.SEQ_PRF_RD
    n, Reg.SEQ_PRF_SWR n] m1 t)) ∧
  (∀ (s : State) (n d : Nat) (m1 : Mod), s.m.flt.halted = false → Wf.traceHeaderWrite n d = true → (s.m.dport n
    d).chans ≠ [] → (s.m.dport n d).done = true → s.m.traceOwed n d = true → (s.m.dport n d).trBits = [] →
    (s.m.setDport n d { (s.m.dport n d) with trDue := false, trBits := [] }).devPut 24 (s.m.seq n).img.ctx
    (s.m.traceBase n d) ((s.m.dport n d).traceHdr n d) = .ok m1 → Answers (.traceHeaderWrite n d) s (fun t => (t.dport
    n d).trDue = (m1.dport n d).trDue ∧ t.gddr = m1.gddr ∧ t.sram = m1.sram ∧ t.outs = m1.outs ∧ t.regs = m1.regs)) ∧
  (∀ (s : State) (n : Nat) (r : List Byte), s.m.flt.halted = false → Wf.captureReturnRecord n r = true → r.length = 64
    → recType r ≠ 5 → s.m.ringUsed (16 + n) < 1024 → (s.m.ring (16 + n)).gap = 0 → Answers (.captureReturnRecord n r)
    s (fun t => memRead t.sram (ringSlot (16 + n) (s.m.ringWr (16 + n))) 16 = r.take 16 ∧ SameOutside (ringSlot (16 +
    n) (s.m.ringWr (16 + n))) (ringSlot (16 + n) (s.m.ringWr (16 + n)) + 64) s.m.sram t.sram ∧ t.reg (Reg.SEQ_PRF_WR
    (16 + n)) = BitVec.ofNat 32 (s.m.ringWr (16 + n) + 1) ∧ t.gddr = s.m.gddr ∧ t.outs = s.m.outs ∧ SameRegs
    [Reg.SEQ_PRF_WR (16 + n)] s.m t)) ∧
  (∀ (s : State) (n i c : Nat) (j : Job), s.m.flt.halted = false → n < 32 → s.m.sys.orderly = PowerDown.none →
    (s.m.seq n).failAt = [] → (s.m.seq n).job = some j → j.inst = some i → (s.m.seq n).stopped = some c → (s.m.ring
    n).endDue = false → (s.m.seq n).mirrored = false → s.m.pairActive = false → s.m.seqState n = 5 → Answers
    (.burstComplete n) s (fun t => (t.seq n).job = none ∧ t.seqState n = 0 ∧ (t.seq n).pc = (s.m.seq n).pc ∧ t.rd
    (Reg.SEQ_LAST n) Fields.SEQ_LAST.STATUS = (s.m.seq n).code % 256 ∧ t.hat.reports = s.m.hat.reports ++ [⟨i, j.node,
    (s.m.seq n).code, s.m.burstWord n, s.m.tokenFail n, s.m.rd64 (Reg.SEQ_STRETCH_LO n), true⟩] ∧ t.outs = s.m.outs ∧
    SameMemory s.m t))

/-- LEVEL_QUEUE_APPLY applies the due entries of an LV queue and of an HV queue; RANGE_CHANGE_END engages the new
  range of an HV channel and of an AS output; PMU_MEAS_COMPLETE ends a measurement with its word. Everything else
  stays. -/
def Obligations.LevelQueuesAndMeasurements : Prop :=
  (∀ (s : State) (q set mask due : Nat) (port : Option Nat), q < 16 → set < 256 → s.m.ttime ≠ 0 → s.m.ttime % 1000 = 0
    → (s.m.lq q).lastEdge ≠ s.m.ttime / 1000 → s.m.isLost (lqDie q) = false → (s.m.lq q).entries = [⟨.lv set mask,
    due, false, none, port⟩] → due = s.m.ttime / 1000 → Answers (.levelQueueApply q) s (fun t => (t.lq q).entries = []
    ∧ (t.lq q).lastEdge = s.m.ttime / 1000 ∧ (∀ i : Nat, i < 16 → nbit mask i = true → t.rd (chReg Reg.CH_LSTAT (16 *
    q + i)) Fields.CH_LSTAT.SET = set ∧ t.flag (chReg Reg.CH_LSTAT (16 * q + i)) Fields.CH_LSTAT.APPLIED = true ∧
    (t.lv (16 * q + i)).codes = (List.range 6).map (fun k => levelCorr (s.m.reg (Reg.CH_LCAL ((16 * q + i) / 128) ((16
    * q + i) % 128) k)) 0x8000 0x300 0xFD00 (lvCode (nbits (s.m.reg (lvOff (16 * q + i) set (k / 2))).toNat (16 * (k %
    2)) 16)))) ∧ (∀ i : Nat, i < 16 → nbit mask i = false → t.lv (16 * q + i) = s.m.lv (16 * q + i)) ∧ t.outs =
    s.m.outs ∧ SameMemory s.m t ∧ SameRegs (lqReg q :: (List.range 16).map (fun i => chReg Reg.CH_LSTAT (16 * q + i)))
    s.m t)) ∧
  (∀ (s : State) (q h set due : Nat), 16 ≤ q → q < 20 → set < 256 → s.m.ttime ≠ 0 → s.m.ttime % 1000 = 0 → (s.m.lq
    q).lastEdge ≠ s.m.ttime / 1000 → s.m.isLost 3 = false → s.m.lqHeld q = false → h / 8 = q - 16 → h < 32 → (s.m.lq
    q).entries = [⟨.hv set (2 ^ (h % 8)), due, false, none, none⟩] → due ≤ s.m.ttime / 1000 → fget
    Fields.HV_SETDATA1.OUT (s.m.reg (hvOff h set 1)) = 0 → s.m.hvEnabled h = false → Answers (.levelQueueApply q) s
    (fun t => (t.lq q).entries = [] ∧ (t.hv h).w0 = s.m.reg (hvOff h set 0) ∧ (t.hv h).w1 = s.m.reg (hvOff h set 1) ∧
    (t.hv h).w2 = s.m.reg (hvOff h set 2) ∧ (t.hv h).w3 = s.m.reg (hvOff h set 3) ∧ (t.hv h).rc = none ∧ t.rd
    (Reg.HV_STATE h) Fields.HV_STATE.SET = set ∧ t.flag (Reg.HV_STATE h) Fields.HV_STATE.APPLIED = true ∧ t.rd
    (Reg.HV_STATE h) Fields.HV_STATE.MODE = hvMode (s.m.reg (hvOff h set 0)) ∧ t.rd (Reg.HV_STATE h)
    Fields.HV_STATE.VRANGE = hvVrange (s.m.reg (hvOff h set 0)) ∧ t.rd (Reg.HV_STATE h) Fields.HV_STATE.IRANGE =
    hvIrange (s.m.reg (hvOff h set 0)) ∧ t.rd (Reg.HV_STATE h) Fields.HV_STATE.ICLAMP = hvIclamp (s.m.reg (hvOff h set
    1)) ∧ t.hvEnabled h = false ∧ t.outs = s.m.outs ∧ SameMemory s.m t ∧ SameRegs [lqReg q, Reg.HV_STATE h,
    Reg.PWR_HV_MON] s.m t)) ∧
  (∀ (s : State) (h : Nat) (a b c d : Word), h < 32 → (s.m.hv h).rc = some (a, b, c, d) → (s.m.hv h).rcReq = none →
    1000 * (s.m.hv h).rcEnd ≤ s.m.ttime → (∀ k : Nat, k < 8 → 8 * (h / 8) + k ≠ h → (s.m.hv (8 * (h / 8) + k)).rc =
    none) → (s.m.lq (16 + h / 8)).entries = [] → Answers (.rangeChangeEnd h) s (fun t => (t.hv h).rc = none ∧ (t.hv
    h).w0 = a ∧ (t.hv h).w1 = b ∧ (t.hv h).w2 = c ∧ (t.hv h).w3 = d ∧ t.flag (Reg.HV_STATE h)
    Fields.HV_STATE.RC_ACTIVE = false ∧ t.rd (Reg.HV_STATE h) Fields.HV_STATE.VRANGE = hvVrange a ∧ t.rd (Reg.HV_STATE
    h) Fields.HV_STATE.IRANGE = hvIrange a ∧ t.outs = s.m.outs ∧ SameMemory s.m t ∧ SameRegs [Reg.HV_STATE h] s.m t)) ∧
  (∀ (s : State) (n v : Nat), n < 8 → v < 2 → (s.m.asl n).rc = some v → (s.m.asl n).rcPlay = false → 1000 * (s.m.asl
    n).rcEnd ≤ s.m.ttime → (s.m.asl n).queue = [] → Answers (.rangeChangeEnd (32 + n)) s (fun t => (t.asl n).rc = none
    ∧ t.rd (Reg.AS_STATE n) Fields.AS_STATE.VRANGE = v ∧ t.flag (Reg.AS_STATE n) Fields.AS_STATE.RC_ACTIVE = false ∧
    t.outs = s.m.outs ∧ SameMemory s.m t ∧ SameRegs [Reg.AS_STATE n] s.m t)) ∧
  (∀ (s : State) (c i b lsb : Nat) (x : Meas) (raws : List Int) (limit ovr : Bool) (v : Int), c < 40 → 1 ≤ lsb →
    s.m.meas c = some x → x.begin_ = some b → raws.length = 2 ^ x.avg → b + 1000 * (x.settle + 2 ^ x.avg + 1) ≤
    s.m.ttime → x.job.inst = some i → s.m.pairActive = false → v = (raws.map (fun r => measCorr (s.m.measWord c x) r *
    (lsb : Int))).sum / ((2 ^ x.avg : Nat) : Int) → Answers (.pmuMeasComplete c raws lsb limit ovr) s (fun t => t.meas
    c = none ∧ t.hat.reports = s.m.hat.reports ++ [⟨i, x.job.node, 0, BitVec.ofNat 64 (unsign 56 v + 2 ^ 56 * b2n
    limit + 2 ^ 57 * b2n ovr + 2 ^ 58 * b2n (measVolt x.chan x.mode)), x.limitEn && (decide (v < x.lo) || decide (x.hi
    < v)), 0, true⟩] ∧ (x.chan < 256 → x.release = true → (t.lv x.chan).pmu = none ∧ t.flag (chReg Reg.CH_LSTAT
    x.chan) Fields.CH_LSTAT.PMU_ON = false) ∧ t.outs = s.m.outs ∧ SameMemory s.m t ∧ SameRegs [chReg Reg.CH_LSTAT
    x.chan] s.m t))

/-- LIM, PMU_LIM, ILIM, CLIM and DEV set their event bits; LIMOFF_TRIP and CLIMOFF_TRIP also switch the output off;
  RELAY_OVERCURRENT sets the line's RLY_FLT bit. Memory and every other register but those of a fault record stay. -/
def Obligations.LimitsAndTrips : Prop :=
  (∀ (s : State) (ch us : Nat), ch < 256 → 1 ≤ us → Answers (.lim ch us) s (fun t => t.flag (chReg Reg.CH_LSTAT ch)
    Fields.CH_LSTAT.LIM = true ∧ SameMemory s.m t ∧ SameRegsPost [chReg Reg.CH_LSTAT ch] s.m t)) ∧
  (∀ (s : State) (ch us : Nat), ch < 256 → 1 ≤ us → (s.m.lv ch).pmu.isSome = true → Answers (.pmuLim ch us) s (fun t
    => t.flag (chReg Reg.CH_LSTAT ch) Fields.CH_LSTAT.PMU_LIM = true ∧ t.outs = s.m.outs ∧ SameMemory s.m t ∧ SameRegs
    [chReg Reg.CH_LSTAT ch] s.m t)) ∧
  (∀ (s : State) (h us : Nat), h < 32 → s.m.hvEnabled h = true → (1 ≤ us ∨ hvMode (s.m.hv h).w0 = 1 ∨ hvMode (s.m.hv
    h).w0 = 3) → Answers (.ilim h us) s (fun t => t.flag (Reg.HV_STATE h) Fields.HV_STATE.ILIM = true ∧ t.hvEnabled h
    = true ∧ SameMemory s.m t ∧ SameRegsPost [Reg.HV_STATE h] s.m t)) ∧
  (∀ (s : State) (h us : Nat), h < 32 → s.m.hvEnabled h = true → s.m.flag (Reg.HV_CTRL h) Fields.HV_CTRL.LIMIT_OFF =
    true → 10000 ≤ us → Answers (.limoffTrip h us) s (fun t => t.hvEnabled h = false ∧ t.flag (Reg.HV_STATE h)
    Fields.HV_STATE.LIMOFF_TRIP = true ∧ SameMemory s.m t ∧ SameRegsPost [Reg.HV_CTRL h, Reg.HV_STATE h,
    Reg.PWR_HV_MON] s.m t)) ∧
  (∀ (s : State) (i us : Nat), i < 64 → s.m.mapBit Reg.RLY_STATE_LO i = true → 10 ≤ us → Answers (.relayOvercurrent i
    us) s (fun t => t.mapBit Reg.RLY_FLT_LO i = true ∧ t.mapBit Reg.RLY_STATE_LO i = true ∧ t.outs = s.m.outs ∧
    SameMemory s.m t ∧ SameRegs [Reg.RLY_FLT_LO + 4 * (i / 32)] s.m t)) ∧
  (∀ (s : State) (n us : Nat), n < 8 → s.m.asEnabled n = true → 1 ≤ us → Answers (.clim n us) s (fun t => t.flag
    (Reg.AS_STATE n) Fields.AS_STATE.CLIM = true ∧ t.asEnabled n = true ∧ SameMemory s.m t ∧ SameRegsPost
    [Reg.AS_STATE n] s.m t)) ∧
  (∀ (s : State) (n us : Nat), n < 8 → s.m.asEnabled n = true → s.m.flag (Reg.AS_CFG n) Fields.AS_CFG.CLIM_OFF = true
    → 10000 ≤ us → Answers (.climoffTrip n us) s (fun t => t.asEnabled n = false ∧ t.flag (Reg.AS_STATE n)
    Fields.AS_STATE.CLIMOFF_TRIP = true ∧ t.outs = s.m.outs ∧ SameMemory s.m t ∧ SameRegs [Reg.AS_STATE n,
    Reg.PWR_HV_MON] s.m t)) ∧
  (∀ (s : State) (n mv us : Nat), n < 8 → s.m.asEnabled n = true → s.m.rd (Reg.AS_CFG n) Fields.AS_CFG.DEV_MV ≠ 0 → 10
    * s.m.rd (Reg.AS_CFG n) Fields.AS_CFG.DEV_MV < mv → max 1 (s.m.rd (Reg.AS_CFG n) Fields.AS_CFG.DEV_US) ≤ us →
    (s.m.asl n).rc = none → (s.m.asl n).onAt + 5000 ≤ s.m.ttime → Answers (.dev n mv us) s (fun t => t.flag
    (Reg.AS_STATE n) Fields.AS_STATE.DEV = true ∧ t.asEnabled n = !s.m.flag (Reg.AS_CFG n) Fields.AS_CFG.DEV_OFF ∧
    SameMemory s.m t ∧ SameRegsPost [Reg.AS_STATE n, Reg.PWR_HV_MON] s.m t))

/-- A start is stated for START 0, with its sample 0 alone due. -/
def Obligations.WaveformsAndTriggers : Prop :=
  (∀ (s : State) (n b : Nat) (it : WItem) (rest : List WItem) (y : Int) (c : Bool) (acc : Nat), n < 8 → s.m.ddsState n
    = 1 → (s.m.wave n).t0 = none → (s.m.wave n).bound = some b → wpStart (s.m.wave n).args = 0 → wpAtStart (s.m.wave
    n).args = false → s.m.ttime ≤ s.m.edgeAt 40 b → s.m.reached (s.m.edgeAt 40 b) = true → 0 < (s.m.wave n).rate →
    (s.m.wave n).rate ≤ 2 ^ 20 → (s.m.wave n).n = 0 → (s.m.wave n).cur = none → (s.m.wave n).ended = none → (s.m.wave
    n).jump = none → (s.m.wave n).buf = it :: rest → it.bad = false → 0 < it.duration → waveSample it 0 0 0 (if nbit
    (byteAt it.bytes 15) 0 then 0 else (s.m.wave n).acc) = (y, c, acc) → (s.m.wave n).lats = [] → (s.m.wave n).outq =
    [] → (s.m.asl n).zeroAt = none → Answers (.waveStart n) s (fun t => t.ddsState n = 2 ∧ (t.wave n).t0 = some
    (s.m.edgeAt 40 b) ∧ (t.wave n).n = 1 ∧ (t.wave n).cur = some it ∧ (t.wave n).k = 1 ∧ (t.wave n).acc = acc ∧
    (t.wave n).buf = rest ∧ (t.wave n).job = (s.m.wave n).job ∧ t.rd64 (Reg.DDS_SAMPLE_LO n) = 1 ∧ t.outs = .dacCode n
    0 y (s.m.asDac n y) :: s.m.outs ∧ SameMemory s.m t ∧ SameRegs [Reg.DDS_STATUS n, Reg.DDS_SAMPLE_LO n,
    Reg.DDS_SAMPLE_HI n] s.m t)) ∧
  (∀ (s : State) (n e : Nat) (f : WFetch) (d : List Byte), n < 8 → s.m.flt.halted = false → (s.m.wave n).fetch = some
    f → f.at_ = some (d, e) → (s.m.wave n).buf.length < 256 → (s.m.wave n).ended = none → s.m.ddsState n ≠ 0 → segOk d
    = true → sramBadIn s.m.sramBad (dlistBase n + 0x800 + 16 * e) 16 = false → entryOk (memRead s.m.sram (dlistBase n
    + 0x800 + 16 * e) 16) = true → e ≠ fieldAt d 2 2 → Answers (.listEntryFetch n) s (fun t => (t.wave n).buf =
    (s.m.wave n).buf ++ [⟨f.seg, f.pass, d, false, memRead s.m.sram (dlistBase n + 0x800 + 16 * e) 16, false⟩] ∧
    (t.wave n).fetch = some ⟨f.seg, f.pass, some (d, e + 1)⟩ ∧ t.outs = s.m.outs ∧ SameMemory s.m t ∧ SameRegs [] s.m
    t)) ∧
  (∀ (s : State) (n : Nat) (c : WItem), n < 8 → (s.m.wave n).cur = some c → c.last = true → c.duration ≤ (s.m.wave
    n).k → (s.m.wave n).ended = none → s.m.samplesDue (s.m.wave n) ≤ (s.m.wave n).n → ((s.m.wave n).stop = true ∨
    ((s.m.wave n).jump = none ∧ passNext c.seg c.pass c.desc = none)) → (s.m.wave n).lats = [] → (s.m.wave n).outq =
    [] → (s.m.asl n).zeroAt = none → Answers (.passEnd n) s (fun t => (t.wave n).ended = some 0 ∧ (t.wave n).n =
    (s.m.wave n).n ∧ (t.wave n).buf = [] ∧ (t.wave n).jump = none ∧ t.ddsState n = 3 ∧ t.flag (Reg.DDS_STATUS n)
    Fields.DDS_STATUS.JUMP_PENDING = false ∧ t.outs = s.m.outs ∧ SameMemory s.m t ∧ SameRegs [Reg.DDS_STATUS n] s.m
    t)) ∧
  (∀ (s : State) (n : Nat) (c : WItem) (f : WFetch), n < 8 → (s.m.wave n).cur = some c → c.last = true → c.duration ≤
    (s.m.wave n).k → (s.m.wave n).ended = none → s.m.samplesDue (s.m.wave n) ≤ (s.m.wave n).n → (s.m.wave n).stop =
    false → (s.m.wave n).jump = none → passNext c.seg c.pass c.desc = some f → (s.m.wave n).lats = [] → (s.m.wave
    n).outq = [] → (s.m.asl n).zeroAt = none → Answers (.passEnd n) s (fun t => t.wave n =
    { s.m.wave n with cur := some { c with last := false } } ∧ t.outs = s.m.outs ∧ SameMemory s.m t ∧ SameRegs [] s.m
    t)) ∧
  (∀ (s : State) (n code i : Nat) (j : Job) (v : Int), n < 8 → (s.m.wave n).ended = some code → 0 < (s.m.wave n).n →
    (s.m.wave n).outq = [v] → s.m.reached (s.m.outputAt (s.m.wave n) ((s.m.wave n).n - 1)) = true → s.m.reached
    (s.m.edgeAt 40 (s.m.outputAt (s.m.wave n) ((s.m.wave n).n - 1) + 1)) = false → (s.m.wave n).job = some j → j.inst
    = some i → (s.m.wave n).take = none → s.m.pairActive = false → Answers (.playbackEnd n) s (fun t => t.ddsState n =
    0 ∧ (t.asl n).code = v ∧ (t.asl n).zeroAt = (if s.m.flag (Reg.AS_CFG n) Fields.AS_CFG.ZERO_ON_STOP then some
    (s.m.edgeAt 40 (s.m.outputAt (s.m.wave n) ((s.m.wave n).n - 1) + 1)) else (s.m.asl n).zeroAt) ∧ (t.wave n).job =
    none ∧ (t.wave n).ended = none ∧ t.hat.reports = s.m.hat.reports ++ [⟨i, j.node, code, BitVec.ofNat 64 ((s.m.wave
    n).n % 2 ^ 48 + 2 ^ 48 * b2n (s.m.wave n).clip), false, 0, true⟩] ∧ t.outs = s.m.outs ∧ SameMemory s.m t ∧
    SameRegs [Reg.DDS_STATUS n] s.m t)) ∧
  (∀ (s : State) (n k : Nat) (rest : List (Nat × Nat)), n < 8 → (s.m.wave n).marks = (0, k) :: rest → s.m.reached
    (s.m.outputAt (s.m.wave n) k) = true → Answers (.markerFire n) s (fun t => (t.wave n).marks = rest ∧ (∀ l : Nat, l
    < 8 → nbit (s.m.rd (Reg.DDS_MK n) Fields.DDS_MK.MK0_TRIG) l = true → s.m.trigMode l ≠ 0 → SMap.find t.trg.pulses l
    = some (max (s.m.outputAt (s.m.wave n) k + max 4 (s.m.rd (Reg.DDS_MK n) Fields.DDS_MK.MK_WIDTH)) ((SMap.find
    s.m.trg.pulses l).getD 0))) ∧ SameMemory s.m t ∧ SameRegs ((List.range 8).map Reg.DDS_STATUS ++ (List.range 8).map
    Reg.AQ_STATUS) s.m t)) ∧
  (∀ (s : State) (ofs x : Nat), ofs < 4 → s.m.flag Reg.WAVE_SYNC_CTRL Fields.WAVE_SYNC_CTRL.ARM = true → s.m.flag
    Reg.WAVE_SYNC_CTRL Fields.WAVE_SYNC_CTRL.OUT_SRC = false → (∀ n : Nat, n < 8 → s.m.ddsState n < 2 ∧ s.m.aqState n
    = 0) → x = s.m.ttime + ofs + 20 + min 39 (s.m.rd Reg.WAVE_SYNC_CTRL Fields.WAVE_SYNC_CTRL.SYNC_DLY) → x + 2 <
    s.m.edgeAt 40 (x - 2) → Answers (.syncinEdge ofs) s (fun t => t.trg = { s.m.trg with epoch0 := s.m.edgeAt 40 x } ∧
    t.flag Reg.WAVE_SYNC_CTRL Fields.WAVE_SYNC_CTRL.ARM = false ∧ t.flag Reg.WAVE_SYNC_STATUS
    Fields.WAVE_SYNC_STATUS.EPOCH_VALID = true ∧ t.rd Reg.WAVE_SYNC_STATUS Fields.WAVE_SYNC_STATUS.PHASE = (s.m.ttime
    + ofs) % 40 ∧ t.outs = s.m.outs ∧ SameMemory s.m t ∧ SameRegs [Reg.WAVE_SYNC_CTRL, Reg.WAVE_SYNC_STATUS] s.m t)) ∧
  (∀ (s : State) (n v : Nat) (e : AsEntry) (rest : List AsEntry), n < 8 → (s.m.asl n).queue = e :: rest → rest.length
    < 8 → s.m.ttime ≠ 0 → s.m.ttime % 1000 = 0 → (s.m.asl n).lastEdge ≠ s.m.ttime / 1000 → (s.m.asl n).rc = none →
    e.due ≤ s.m.ttime / 1000 → s.m.outputsReady = true → e.play = false → e.en = 1 → (2 ≤ e.vrange ∨ e.vrange = s.m.rd
    (Reg.AS_STATE n) Fields.AS_STATE.VRANGE) → e.iclamp = some v → s.m.clampSum 32 n + asClamp v ≤ 800 → Answers
    (.asCommandApply n) s (fun t => (t.asl n).queue = rest ∧ t.rd (Reg.AS_STATE n) Fields.AS_STATE.QCOUNT =
    rest.length ∧ t.asEnabled n = true ∧ t.rd (Reg.AS_STATE n) Fields.AS_STATE.ICLAMP = asClamp v ∧ t.rd (Reg.AS_STATE
    n) Fields.AS_STATE.VRANGE = s.m.rd (Reg.AS_STATE n) Fields.AS_STATE.VRANGE ∧ t.rd Reg.PWR_HV_MON
    Fields.PWR_HV_MON.CLAMP_SUM = s.m.clampSum 32 n + asClamp v ∧ t.outs = s.m.outs ∧ SameMemory s.m t ∧ SameRegs
    [Reg.AS_STATE n, Reg.PWR_HV_MON] s.m t)) ∧
  (∀ (s : State) (l e : Nat), l < 8 → SMap.find s.m.trg.pulses l = some e → s.m.reached e = true → nbit s.m.trg.level
    l = false → s.m.trigMode l ≠ 0 → Answers (.pulseEnd l) s (fun t => t.trg =
    { s.m.trg with pulses := SMap.erase s.m.trg.pulses l } ∧ t.trigOut l = false ∧ t.outs = .trigLevel l false e ::
    s.m.outs ∧ SameMemory s.m t ∧ SameRegs [] s.m t)) ∧
  (∀ (s : State) (l ofs : Nat) (level : Bool), l < 11 → ofs < 4 → s.m.trigMode l ≠ 1 → nbit s.m.trg.seen l = false →
    (s.m.setTrg { s.m.trg with ext := putBit s.m.trg.ext l level }).trigLogic l = true → (∀ n : Nat, n < 32 → (s.m.seq
    n).live = false) → s.m.flag Reg.TIME_SNAP_STATUS Fields.TIME_SNAP_STATUS.ARMED = false → Answers (.trigEdgeDetect
    l level ofs) s (fun t => t.flag Reg.TRIG_EDGE ⟨l, 1⟩ = true ∧ t.trg.seen = putBit s.m.trg.seen l true ∧ t.trg.ext
    = putBit s.m.trg.ext l level ∧ SameMemory s.m t ∧ SameRegs (Reg.TRIG_EDGE :: (List.range 8).map Reg.DDS_STATUS ++
    (List.range 8).map Reg.AQ_STATUS) s.m t))

/-- AQ_WORD adds the mean of an interval's corrected samples to the record; AQ_RECORD_COPY writes the record and then
  its header to DEST and ends the node. -/
def Obligations.Acquisition : Prop :=
  (∀ (s : State) (n : Nat) (x : Acq) (samples : List Int) (ovr : Bool), n < 8 → s.m.acq n = some x → x.trig = none →
    samples.length = 2 ^ aqK x.args → s.m.reached (x.start + x.interval * (x.count + 1)) = true → aqStream x.args =
    false → x.count + 1 < aqPre x.args → Answers (.aqWord n samples ovr) s (fun t => t.acq n = some
    { x with count := x.count + 1, words := ((samples.map (measCorr (s.m.reg (calOff 2 n (aqRange x.args))))).sum / 2 ^ (aqK x.args - 14) :: x.words).take 131072, ovr := x.ovr || ovr }
    ∧ t.aqState n = 2 ∧ (ovr = true → t.flag (Reg.AQ_STATUS n) Fields.AQ_STATUS.OVERRANGE = true) ∧ t.outs = s.m.outs
    ∧ SameMemory s.m t ∧ SameRegs [Reg.AQ_STATUS n] s.m t)) ∧
  (∀ (s : State) (n k w i : Nat) (x : Acq) (tr : Nat × Nat × Nat) (m1 m2 : Mod), n < 8 → s.m.flt.halted = false →
    s.m.acq n = some x → aqStream x.args = false → x.trig = some (w, tr) → w + aqPost x.args ≤ x.count → x.job.inst =
    some i → s.m.devPut 26 x.job.group (aqDest x.args + 64) ((List.range (aqPre x.args + aqPost x.args)).flatMap (fun
    j => leBytes 4 (unsign 32 (x.word (w - aqPre x.args + j))))) = .ok m1 → m1.devPut 26 x.job.group (aqDest x.args)
    (x.header n (x.post w)) = .ok m2 → m2.pairActive = false → Answers (.aqRecordCopy n k) s (fun t => t.acq n = none
    ∧ t.aqState n = 0 ∧ t.hat.reports = m2.hat.reports ++ [⟨i, x.job.node, 0, BitVec.ofNat 64 (unsign 32 (wordsMean
    (x.post w)) + 2 ^ 32 * b2n x.ovr + 2 ^ 33 * b2n (aqOut x.args (x.post w))), aqOut x.args (x.post w) && aqLimitEn
    x.args, 0, true⟩] ∧ t.outs = m2.outs ∧ SameMemory m2 t ∧ SameRegs [Reg.AQ_STATUS n] m2 t))

/-- Loss, qualification and lock of REFIN and the switch of the time base set the bits their rules name; ticks advance
  TTIME by 4 and each time domain by its increment and step. Everything else stays. -/
def Obligations.TimeBaseAndDomains : Prop :=
  (∀ (s : State) (window : Bool), s.m.flag Reg.TB_STATUS Fields.TB_STATUS.SRC_ACTIVE = true → s.m.journalOn = false →
    Answers (.refinLoss window) s (fun t => t.flag Reg.TB_STATUS Fields.TB_STATUS.HOLDOVER = true ∧ t.flag
    Reg.TB_STATUS Fields.TB_STATUS.REF_IN_WINDOW = false ∧ t.flag Reg.TB_STATUS Fields.TB_STATUS.REF_QUALIFIED = false
    ∧ t.flag Reg.TB_STATUS Fields.TB_STATUS.REF_LOCKED = false ∧ (window = false → t.flag Reg.TB_STATUS
    Fields.TB_STATUS.REF_PRESENT = false) ∧ t.flag Reg.WAVE_SYNC_STATUS Fields.WAVE_SYNC_STATUS.EPOCH_VALID = false ∧
    t.flag Reg.TIME_EVENT Fields.TIME_EVENT.REF_LOST = true ∧ SameMemory s.m t ∧ SameRegsPost [Reg.TB_STATUS,
    Reg.WAVE_SYNC_STATUS, Reg.TIME_EVENT] s.m t)) ∧
  (∀ (s : State) (window : Bool), s.m.flag Reg.TB_STATUS Fields.TB_STATUS.SRC_ACTIVE = false → s.m.journalOn = false →
    Answers (.refinLoss window) s (fun t => t.flag Reg.TB_STATUS Fields.TB_STATUS.REF_QUALIFIED = false ∧ t.flag
    Reg.TB_STATUS Fields.TB_STATUS.REF_IN_WINDOW = false ∧ t.flag Reg.TB_STATUS Fields.TB_STATUS.HOLDOVER = s.m.flag
    Reg.TB_STATUS Fields.TB_STATUS.HOLDOVER ∧ t.outs = s.m.outs ∧ SameMemory s.m t ∧ SameRegs [Reg.TB_STATUS] s.m t)) ∧
  (∀ (s : State) (det : Nat) (ppb : Int), 1 ≤ det → det ≤ 2 → ppb.natAbs ≤ 20000 → (s.m.rd Reg.TB_CTRL
    Fields.TB_CTRL.REF_FREQ = 1 → det = 1) → (s.m.rd Reg.TB_CTRL Fields.TB_CTRL.REF_FREQ = 2 → det = 2) →
    s.m.startState = 6 → Answers (.refinRequalify det ppb) s (fun t => t.flag Reg.TB_STATUS
    Fields.TB_STATUS.REF_PRESENT = true ∧ t.flag Reg.TB_STATUS Fields.TB_STATUS.REF_IN_WINDOW = true ∧ t.flag
    Reg.TB_STATUS Fields.TB_STATUS.REF_QUALIFIED = true ∧ t.flag Reg.TB_STATUS Fields.TB_STATUS.HOLDOVER = false ∧
    t.rd Reg.TB_STATUS Fields.TB_STATUS.REF_DET = det ∧ t.reg Reg.TB_REFMEAS = BitVec.ofInt 32 ppb ∧ t.outs = s.m.outs
    ∧ SameMemory s.m t ∧ SameRegs [Reg.TB_STATUS, Reg.TB_REFMEAS, Reg.PWR_STATUS] s.m t)) ∧
  (∀ (s : State) (det : Nat) (ppb : Int), 1 ≤ det → det ≤ 2 → ppb.natAbs ≤ 20000 → (s.m.rd Reg.TB_CTRL
    Fields.TB_CTRL.REF_FREQ = 1 → det = 1) → (s.m.rd Reg.TB_CTRL Fields.TB_CTRL.REF_FREQ = 2 → det = 2) →
    s.m.startState = 3 → s.m.profRefin = true → s.m.flag Reg.TB_STATUS Fields.TB_STATUS.SRC_ACTIVE = false → Answers
    (.refinQualified det ppb) s (fun t => t.flag Reg.TB_STATUS Fields.TB_STATUS.SRC_ACTIVE = true ∧ t.flag
    Reg.TB_STATUS Fields.TB_STATUS.REF_QUALIFIED = true ∧ t.flag Reg.GLB_DIE_ERR Fields.GLB_DIE_ERR.HOLDOVER_SEEN =
    true ∧ t.startState = (if s.m.trained then 4 else 3) ∧ t.outs = s.m.outs ∧ SameMemory s.m t ∧ SameRegs
    [Reg.TB_STATUS, Reg.TB_REFMEAS, Reg.PWR_STATUS, Reg.GLB_DIE_ERR, Reg.GLB_START_STATE] s.m t)) ∧
  (∀ (s : State), s.m.flag Reg.TB_STATUS Fields.TB_STATUS.SRC_ACTIVE = true → s.m.flag Reg.TB_STATUS
    Fields.TB_STATUS.REF_QUALIFIED = true → Answers (.refLocked) s (fun t => t.flag Reg.TB_STATUS
    Fields.TB_STATUS.REF_LOCKED = true ∧ t.flag Reg.TIME_EVENT Fields.TIME_EVENT.REF_LOCKED = true ∧ t.outs = s.m.outs
    ∧ SameMemory s.m t ∧ SameRegsPost [Reg.TB_STATUS, Reg.TIME_EVENT] s.m t)) ∧
  (∀ (s : State) (src : Nat), s.m.tim.switchTo = some src → src < 2 → s.m.timeIdle = true → (src = 1 → s.m.flag
    Reg.TB_STATUS Fields.TB_STATUS.REF_QUALIFIED = true) → Answers (.timebaseSwitch) s (fun t => t.tim.switchTo = none
    ∧ t.rd Reg.TB_STATUS Fields.TB_STATUS.SRC_ACTIVE = src ∧ t.flag Reg.TB_STATUS Fields.TB_STATUS.PENDING = false ∧
    t.flag Reg.TB_STATUS Fields.TB_STATUS.HOLDOVER = false ∧ t.flag Reg.TB_STATUS Fields.TB_STATUS.REF_LOCKED = false
    ∧ t.flag Reg.WAVE_SYNC_STATUS Fields.WAVE_SYNC_STATUS.EPOCH_VALID = false ∧ t.flag Reg.GLB_DIE_ERR
    Fields.GLB_DIE_ERR.HOLDOVER_SEEN = true ∧ t.outs = s.m.outs ∧ SameMemory s.m t ∧ SameRegs [Reg.TB_STATUS,
    Reg.WAVE_SYNC_STATUS, Reg.GLB_DIE_ERR] s.m t)) ∧
  (∀ (s : State) (n : Nat), Answers (.domainTick n) s (fun t => t.ttime = (s.m.ttime + 4 * n) % 2 ^ 64 ∧ (∀ x : Nat,
    memByte t.gddr x = memByte s.m.gddr x))) ∧
  (∀ (s : State) (k : Nat), k < 4 → (s.m.dom k).set = none → (s.m.ttime + 4) / 2 ^ 32 = s.m.ttime / 2 ^ 32 → Answers
    (.domainTick 1) s (fun t => ((t.dom k).sec, (t.dom k).sub) = domCarry (s.m.dom k).sec ((s.m.dom k).sub +
    s.m.domEff k + (s.m.dom k).step) ∧ (t.dom k).remain = (s.m.dom k).remain - s.m.domSlewed k ∧ (t.dom k).step = 0 ∧
    t.flag (Reg.TD_STATUS k) Fields.TD_STATUS.SLEWING = decide (s.m.domSlewed k < (s.m.dom k).remain) ∧ SameMemory s.m
    t ∧ SameRegs ([Reg.TIME_TTIME_LO, Reg.TIME_TTIME_HI, Reg.SL_PCC_LO, Reg.SL_PCC_HI] ++ (List.range 4).map
    Reg.TD_STATUS ++ (List.range 8).map Reg.DDS_STATUS ++ (List.range 8).map Reg.DDS_SAMPLE_LO ++ (List.range 8).map
    Reg.DDS_SAMPLE_HI ++ (List.range 8).map Reg.AQ_STATUS) s.m t))

/-- Frames enter the receive buffer and leave with their stamps; block lock comes and goes; a TDC unit is armed, takes
  its start and stops, and ends with its interval, on WINDOW or on range. Everything else stays. -/
def Obligations.TimePortsAndIntervals : Prop :=
  (∀ (s : State) (p ps sec sub : Nat) (f : List Byte), p < 2 → ps < 4000 → s.m.flt.halted = false → s.m.tpMode p = 2 →
    s.m.flag (Reg.TP_STATUS p) Fields.TP_STATUS.BLOCK_LOCK = true → fieldBE f (etherAt f) 2 ≠ 0x8808 → s.m.tpAccepts p
    f = true → 4 * (((s.m.tport p).rx.map List.length).sum + 4 + (f.length + 3) / 4) ≤ 0x8000 → s.m.stamp
    (s.m.tpDomain p) ps (-(signed 32 (s.m.reg (Reg.TP_RX_CORR p)).toNat)) = (sec, sub) → Answers (.frameReceive p ps f
    true) s (fun t => (t.tport p).rx = (s.m.tport p).rx ++ [[BitVec.ofNat 32 (f.length + 2 ^ 16 * b2n (eventFrame
    f).isSome + 2 ^ 17 * b2n (!s.m.domRunning (s.m.tpDomain p)) + 2 ^ 20 * s.m.tpDomain p), BitVec.ofNat 32 (sub / 2 ^
    32), BitVec.ofNat 32 sec, BitVec.ofNat 32 (sec / 2 ^ 32 % 2 ^ 16 + 2 ^ 16 * (sub % 2 ^ 32 / 2 ^ 16))] ++ wordsOf
    ((f.length + 3) / 4) f] ∧ t.flag Reg.TIME_EVENT ⟨Fields.TIME_EVENT.RX_READY.lo + p, 1⟩ = true ∧ t.outs = s.m.outs
    ∧ SameMemory s.m t ∧ SameRegsPost [Reg.TP_RXLEVEL p, Reg.TIME_EVENT] s.m t)) ∧
  (∀ (s : State) (p ps id : Nat) (f : List Byte) (rest : List (Bool × Nat × List Byte)), p < 2 → ps < 4000 →
    s.m.flt.halted = false → (s.m.tpMode p = 1 ∨ s.m.tpMode p = 2) → (s.m.tport p).txQueue = (false, id, f) :: rest →
    Answers (.frameTransmit p ps) s (fun t => (t.tport p).txQueue = rest ∧ (t.tport p).tsq = (s.m.tport p).tsq ∧
    t.outs = .frame p (f ++ zeroBytes (60 - f.length)) :: s.m.outs ∧ SameMemory s.m t ∧ SameRegs [Reg.TP_TXSPACE p]
    s.m t)) ∧
  (∀ (s : State) (p ps id sec sub : Nat) (f : List Byte) (rest : List (Bool × Nat × List Byte)), p < 2 → ps < 4000 →
    s.m.flt.halted = false → (s.m.tpMode p = 1 ∨ s.m.tpMode p = 2) → (s.m.tport p).txQueue = (true, id, f) :: rest →
    eventFrame (f ++ zeroBytes (60 - f.length)) = none → (s.m.tport p).tsq.length < 64 → s.m.stamp (s.m.tpDomain p) ps
    (signed 32 (s.m.reg (Reg.TP_TX_CORR p)).toNat) = (sec, sub) → Answers (.frameTransmit p ps) s (fun t => (t.tport
    p).txQueue = rest ∧ (t.tport p).tsq = (s.m.tport p).tsq ++ [(BitVec.ofNat 32 (id + 2 ^ 16 * (sub % 2 ^ 32 / 2 ^
    16)), BitVec.ofNat 32 (sub / 2 ^ 32), BitVec.ofNat 32 sec, BitVec.ofNat 32 (sec / 2 ^ 32 % 2 ^ 16 + 2 ^ 24 * b2n
    (!s.m.domRunning (s.m.tpDomain p))))] ∧ t.outs = .frame p (f ++ zeroBytes (60 - f.length)) :: s.m.outs ∧
    SameMemory s.m t ∧ SameRegsPost [Reg.TP_TXSPACE p, Reg.TIME_EVENT] s.m t)) ∧
  (∀ (s : State) (p : Nat), p < 2 → Answers (.blockLockAcquired p) s (fun t => t.flag (Reg.TP_STATUS p)
    Fields.TP_STATUS.BLOCK_LOCK = true ∧ t.outs = s.m.outs ∧ SameMemory s.m t ∧ SameRegs [Reg.TP_STATUS p] s.m t)) ∧
  (∀ (s : State) (p : Nat), p < 2 → Answers (.linkDown p) s (fun t => t.flag (Reg.TP_STATUS p)
    Fields.TP_STATUS.BLOCK_LOCK = false ∧ t.flag (Reg.TP_STATUS p) Fields.TP_STATUS.LINK_DOWN = true ∧ t.outs =
    s.m.outs ∧ SameMemory s.m t ∧ SameRegs [Reg.TP_STATUS p] s.m t)) ∧
  (∀ (s : State) (u : Nat) (x : Tdc), u < 36 → s.m.tdc u = some x → x.armed = none → tmPattern x.args = false →
    s.m.reached (x.disp + 1000) = true → tmStart x.args ≠ 2 → tmStop x.args ≠ 2 → Answers (.tdcArm u) s (fun t =>
    t.tdc u = some { x with armed := some (x.disp + 1000) } ∧ t.rd (Reg.TDC_STATUS u) Fields.TDC_STATUS.STATE = 2 ∧
    t.outs = s.m.outs ∧ SameMemory s.m t ∧ SameRegs [Reg.TDC_STATUS u] s.m t)) ∧
  (∀ (s : State) (u coarse fine : Nat) (x : Tdc), u < 36 → fine < 4096 → s.m.tdc u = some x → x.armed.isSome = true →
    x.start = none → x.before = none → Answers (.tdcStartEdge u coarse fine) s (fun t => t.tdc u = some
    { x with start := some (coarse, fine) } ∧ t.rd (Reg.TDC_STATUS u) Fields.TDC_STATUS.STATE = 3 ∧ t.rd64
    (Reg.TDC_TSTART_LO u) = coarse / 2 % 2 ^ 64 ∧ t.outs = s.m.outs ∧ SameMemory s.m t ∧ SameRegs [Reg.TDC_STATUS u,
    Reg.TDC_TSTART_LO u, Reg.TDC_TSTART_HI u] s.m t)) ∧
  (∀ (s : State) (u coarse fine i : Nat) (x : Tdc) (b : Nat × Nat) (v : Int), u < 36 → fine < 4096 → s.m.tdc u = some
    x → x.armed.isSome = true → x.start = some b → x.lastStop = none → s.m.tdcTime u b + 16 * 40 < s.m.tdcTime u
    (coarse, fine) → x.stops + 1 = tmStopN x.args → x.job.inst = some i → s.m.pairActive = false → v = s.m.tdcInterval
    u b (coarse, fine) → tmLimitEn x.args = false → Answers (.tdcStopEdge u coarse fine) s (fun t => t.tdc u = none ∧
    t.rd (Reg.TDC_STATUS u) Fields.TDC_STATUS.STATE = 0 ∧ t.rd64 (Reg.TDC_RES_LO u) = unsign 53 v + 2 ^ 53 * b2n
    x.early ∧ t.hat.reports = s.m.hat.reports ++ [⟨i, x.job.node, 0, BitVec.ofNat 64 (unsign 53 v + 2 ^ 53 * b2n
    x.early), false, 0, true⟩] ∧ t.outs = s.m.outs ∧ SameMemory s.m t ∧ SameRegs [Reg.TDC_STATUS u, Reg.TDC_RES_LO u,
    Reg.TDC_RES_HI u] s.m t)) ∧
  (∀ (s : State) (u coarse fine : Nat) (x : Tdc) (b : Nat × Nat), u < 36 → fine < 4096 → s.m.tdc u = some x →
    x.armed.isSome = true → x.start = some b → x.lastStop = none → s.m.tdcTime u b + 16 * 40 < s.m.tdcTime u (coarse,
    fine) → x.stops + 1 ≠ tmStopN x.args → Answers (.tdcStopEdge u coarse fine) s (fun t => t.tdc u = some
    { x with stops := x.stops + 1, lastStop := some (coarse, fine) } ∧ t.outs = s.m.outs ∧ SameMemory s.m t ∧ SameRegs
    [] s.m t)) ∧
  (∀ (s : State) (u a i : Nat) (x : Tdc), u < 36 → s.m.tdc u = some x → x.armed = some a → 0 < tmWindow x.args →
    s.m.reached (a + 1000 * tmWindow x.args) = true → tmSoft x.args = false → tmLimitEn x.args = false → x.before =
    none → x.job.inst = some i → s.m.pairActive = false → Answers (.tdcWindowExpiry u) s (fun t => t.tdc u = none ∧
    t.rd (Reg.TDC_STATUS u) Fields.TDC_STATUS.STATE = 0 ∧ t.rd64 (Reg.TDC_RES_LO u) = 2 ^ 53 * b2n x.early + (if
    x.start.isNone then 2 ^ 54 else 2 ^ 55) ∧ t.hat.reports = s.m.hat.reports ++ [⟨i, x.job.node, if x.start.isNone
    then 0x9A else 0x9B, BitVec.ofNat 64 (2 ^ 53 * b2n x.early + (if x.start.isNone then 2 ^ 54 else 2 ^ 55)), false,
    0, true⟩] ∧ t.outs = s.m.outs ∧ SameMemory s.m t ∧ SameRegs [Reg.TDC_STATUS u, Reg.TDC_RES_LO u, Reg.TDC_RES_HI u]
    s.m t)) ∧
  (∀ (s : State) (u i : Nat) (x : Tdc) (b : Nat × Nat), u < 36 → s.m.tdc u = some x → x.start = some b → b.1 + 2 ^ 40
    < 2 * (s.m.ttime + 4) → tmSoft x.args = false → tmLimitEn x.args = false → x.job.inst = some i → s.m.pairActive =
    false → Answers (.tdcRangeExceeded u) s (fun t => t.tdc u = none ∧ t.rd (Reg.TDC_STATUS u) Fields.TDC_STATUS.STATE
    = 0 ∧ t.rd64 (Reg.TDC_RES_LO u) = 2 ^ 53 * b2n x.early + 2 ^ 55 ∧ t.hat.reports = s.m.hat.reports ++ [⟨i,
    x.job.node, 0x9B, BitVec.ofNat 64 (2 ^ 53 * b2n x.early + 2 ^ 55), false, 0, true⟩] ∧ t.outs = s.m.outs ∧
    SameMemory s.m t ∧ SameRegs [Reg.TDC_STATUS u, Reg.TDC_RES_LO u, Reg.TDC_RES_HI u] s.m t))

/-- A domain completes and writes its corrections, COUNT and the end of the run; a lost reference ends the run with
  RESULT 2; a drift assessment sets each DRIFT bit and ASSESS_OK; two seconds without one clear it. -/
def Obligations.CalibrationEvents : Prop :=
  (∀ (s : State) (k u item : Nat) (ofs gain : Int) (temp : Word) (r : RefCheck), s.m.flt.halted = false → s.m.cal.run
    = some k → s.m.cal.left = [] → s.m.journalOn = false → calUnits k u = true → nbit s.m.cal.scope (calUnitDie u) =
    true → calValOk k u (.table item ofs gain) = true → Answers (.calDomainComplete [(u, [.table item ofs gain])] temp
    r) s (fun t => t.reg (calOff (calTable u).1 (calTable u).2 item) = BitVec.ofNat 32 (unsign 16 ofs + 2 ^ 16 *
    unsign 16 gain) ∧ t.reg (Reg.CAL_DOM_COUNT k) = BitVec.ofNat 32 (min (2 ^ 32 - 1) ((s.m.reg (Reg.CAL_DOM_COUNT
    k)).toNat + 1)) ∧ t.reg (Reg.CAL_DOM_TEMP k) = temp ∧ t.cal.run = none ∧ t.rd Reg.CAL_STATUS
    Fields.CAL_STATUS.STATE = 0 ∧ t.rd Reg.CAL_STATUS Fields.CAL_STATUS.RESULT = b2n s.m.cal.failed ∧ t.flag
    Reg.CAL_STATUS Fields.CAL_STATUS.DONE = true ∧ (t.reg Reg.CAL_REQ).getLsbD 23 = true ∧ (t.reg Reg.CAL_REQ).getLsbD
    (8 + k) = false ∧ t.outs = s.m.outs ∧ SameMemory s.m t ∧ SameRegsPost [calOff (calTable u).1 (calTable u).2 item,
    Reg.CAL_DOM_COUNT k, Reg.CAL_DOM_LAST_LO k, Reg.CAL_DOM_LAST_HI k, Reg.CAL_DOM_TEMP k, Reg.CAL_DOM_INFO k,
    Reg.CAL_STATUS, Reg.CAL_REQ, Reg.CAL_REFMEAS_V, Reg.CAL_REFT_MEAS_LO, Reg.CAL_REFT_MEAS_HI] s.m t)) ∧
  (∀ (s : State) (k : Nat) (r : RefCheck), s.m.flt.halted = false → s.m.cal.run = some k → ((calNeeds k).1 = true ∧
    r.refv = false ∨ (calNeeds k).2.1 = true ∧ r.reft = false ∨ (calNeeds k).2.2.1 = true ∧ s.m.calPlate = false) →
    Answers (.calRefLost r) s (fun t => t.cal.run = none ∧ t.rd Reg.CAL_STATUS Fields.CAL_STATUS.STATE = 0 ∧ t.rd
    Reg.CAL_STATUS Fields.CAL_STATUS.RESULT = 2 ∧ t.flag Reg.CAL_STATUS Fields.CAL_STATUS.DONE = true ∧ t.flag
    Reg.CAL_STATUS Fields.CAL_STATUS.REFV_OK = r.refv ∧ t.flag Reg.CAL_STATUS Fields.CAL_STATUS.REFT_OK = r.reft ∧
    (t.reg Reg.CAL_REQ).getLsbD 23 = true ∧ t.outs = s.m.outs ∧ SameMemory s.m t ∧ SameRegsPost [Reg.CAL_STATUS,
    Reg.CAL_REQ, Reg.CAL_REFMEAS_V, Reg.CAL_REFT_MEAS_LO, Reg.CAL_REFT_MEAS_HI] s.m t)) ∧
  (∀ (s : State), s.m.flt.halted = false → s.m.fwRuns = true → Answers (.driftAssessment) s (fun t => (∀ k : Nat, k <
    7 → s.m.reg (Reg.CAL_DOM_COUNT k) ≠ 0#32 → (t.reg Reg.CAL_REQ).getLsbD k = (s.m.calDrifted k || s.m.calOld k)) ∧
    (∀ k : Nat, k < 7 → s.m.reg (Reg.CAL_DOM_COUNT k) = 0#32 → (t.reg Reg.CAL_REQ).getLsbD k = (s.m.reg
    Reg.CAL_REQ).getLsbD k) ∧ t.flag Reg.CAL_STATUS Fields.CAL_STATUS.ASSESS_OK = true ∧ t.cal.assessed = s.m.ttime ∧
    t.outs = s.m.outs ∧ SameMemory s.m t ∧ SameRegsPost [Reg.CAL_STATUS, Reg.CAL_REQ] s.m t)) ∧
  (∀ (s : State), s.m.flt.halted = false → (s.m.cal.assessed + 2000000000 ≤ s.m.ttime ∨ s.m.fwRuns = false) → Answers
    (.assessOkExpiry) s (fun t => t.flag Reg.CAL_STATUS Fields.CAL_STATUS.ASSESS_OK = false ∧ t.outs = s.m.outs ∧
    SameMemory s.m t ∧ SameRegs [Reg.CAL_STATUS] s.m t))

/-- Refreshes fall due and are issued, a channel catches up, a device changes rate or enters and leaves self-refresh,
  a tracking update takes and gives back its slot, a bank is precharged, and a chosen request reads or writes its
  bytes. Other channels, memory and registers stay. -/
def Obligations.MemoryController : Prop :=
  (∀ (s : State) (c : Nat), s.m.flt.halted = false → c < 32 → (s.m.chState c = 1 ∨ s.m.chState c = 2) → s.m.slotFree =
    true → Answers (.trackingUpdate c false false) s (fun t => t.chState c = 5 ∧ t.debt c = s.m.debt c ∧ t.drc.slots =
    s.m.drc.slots ++ [c] ∧ t.drc.waiting = s.m.drc.waiting.erase c ∧ (∀ b : Nat, b < 16 → SMap.get (fun _ => none)
    t.drc.rows (16 * c + b) = none) ∧ t.outs = s.m.outs ∧ SameMemory s.m t ∧ SameRegs [Reg.DRC_CH_STATUS c] s.m t)) ∧
  (∀ (s : State) (c : Nat), s.m.flt.halted = false → c < 32 → s.m.chState c = 5 → s.m.debt c < s.m.catchAt →
    s.m.drc.waiting = [] → Answers (.trackingUpdate c true true) s (fun t => t.chState c = 1 ∧ t.debt c = s.m.debt c ∧
    t.drc = { s.m.drc with slots := s.m.drc.slots.erase c } ∧ t.outs = s.m.outs ∧ SameMemory s.m t ∧ SameRegs
    [Reg.DRC_CH_STATUS c] s.m t)) ∧
  (∀ (s : State) (c bank dclk : Nat), s.m.flt.halted = false → c < 32 → bank < 16 → s.m.rd Reg.DRC_PAGE
    Fields.DRC_PAGE.IDLE ≤ dclk → Answers (.pageIdleExpiry c bank dclk) s (fun t => t.drc =
    { s.m.drc with rows := SMap.set (fun _ => none) s.m.drc.rows (16 * c + bank) none } ∧ SMap.get (fun _ => none)
    t.drc.rows (16 * c + bank) = none ∧ t.outs = s.m.outs ∧ SameMemory s.m t ∧ SameRegs [] s.m t)) ∧
  (∀ (s : State) (c : Nat), s.m.flt.halted = false → c < 32 → s.m.chState c = 1 → s.m.debt c < 8 → s.m.debt c + 1 <
    s.m.catchAt → Answers (.refreshDue c) s (fun t => t.debt c = s.m.debt c + 1 ∧ t.chState c = 1 ∧ t.drc = s.m.drc ∧
    t.outs = s.m.outs ∧ SameMemory s.m t ∧ SameRegs [Reg.DRC_CH_STATUS c] s.m t)) ∧
  (∀ (s : State) (c : Nat), s.m.flt.halted = false → c < 32 → (s.m.chState c = 1 ∨ s.m.chState c = 2) → 1 ≤ s.m.debt c
    → Answers (.opportunisticRefresh c) s (fun t => t.debt c = s.m.debt c - 1 ∧ t.chState c = s.m.chState c ∧ (∀ b :
    Nat, b < 16 → SMap.get (fun _ => none) t.drc.rows (16 * c + b) = none) ∧ t.outs = s.m.outs ∧ SameMemory s.m t ∧
    SameRegs [Reg.DRC_CH_STATUS c] s.m t)) ∧
  (∀ (s : State) (c : Nat), s.m.flt.halted = false → c < 32 → s.m.chState c = 3 → s.m.drc.waiting = [] → Answers
    (.catchup c) s (fun t => t.debt c = 0 ∧ t.chState c = 1 ∧ t.drc.slots = s.m.drc.slots.erase c ∧ (∀ b : Nat, b < 16
    → SMap.get (fun _ => none) t.drc.rows (16 * c + b) = none) ∧ t.outs = s.m.outs ∧ SameMemory s.m t ∧ SameRegs
    [Reg.DRC_CH_STATUS c] s.m t)) ∧
  (∀ (s : State) (d : Nat) (temp : Int), s.m.flt.halted = false → d < 8 → (8 * s.m.rd Reg.DRC_REF_CFG
    Fields.DRC_REF_CFG.TEMP_2X : Int) ≤ temp → (∀ i : Nat, i < 4 → s.m.chState (4 * d + i) = 1 ∧ s.m.flag
    (Reg.DRC_CH_STATUS (4 * d + i)) Fields.DRC_CH_STATUS.DOUBLED = false ∧ 2 * s.m.debt (4 * d + i) < s.m.catchAt) →
    Answers (.doubledRate d temp) s (fun t => (∀ i : Nat, i < 4 → t.flag (Reg.DRC_CH_STATUS (4 * d + i))
    Fields.DRC_CH_STATUS.DOUBLED = true ∧ t.debt (4 * d + i) = 2 * s.m.debt (4 * d + i) ∧ t.chState (4 * d + i) = 1) ∧
    t.drc = s.m.drc ∧ t.outs = s.m.outs ∧ SameMemory s.m t ∧ SameRegs ((List.range 4).map (fun i => Reg.DRC_CH_STATUS
    (4 * d + i))) s.m t)) ∧
  (∀ (s : State) (d : Nat) (temp : Int), s.m.flt.halted = false → d < 8 → temp ≤ 8 * ((s.m.rd Reg.DRC_REF_CFG
    Fields.DRC_REF_CFG.TEMP_2X : Int) - 5) → (∀ i : Nat, i < 4 → s.m.chState (4 * d + i) = 1 ∧ s.m.flag
    (Reg.DRC_CH_STATUS (4 * d + i)) Fields.DRC_CH_STATUS.DOUBLED = true) → Answers (.normalRate d temp) s (fun t => (∀
    i : Nat, i < 4 → t.flag (Reg.DRC_CH_STATUS (4 * d + i)) Fields.DRC_CH_STATUS.DOUBLED = false ∧ t.debt (4 * d + i)
    = (s.m.debt (4 * d + i) + 1) / 2 ∧ t.chState (4 * d + i) = 1) ∧ t.drc = s.m.drc ∧ t.outs = s.m.outs ∧ SameMemory
    s.m t ∧ SameRegs ((List.range 4).map (fun i => Reg.DRC_CH_STATUS (4 * d + i))) s.m t)) ∧
  (∀ (s : State) (d us : Nat), s.m.flt.halted = false → d < 8 → s.m.flag Reg.DRC_PWR_CFG Fields.DRC_PWR_CFG.SR_EN =
    true → max 1 (s.m.rd Reg.DRC_PWR_CFG Fields.DRC_PWR_CFG.SR_IDLE) ≤ us → (∀ i : Nat, i < 4 → s.m.chState (4 * d +
    i) = 1 ∨ s.m.chState (4 * d + i) = 2) → Answers (.selfRefreshEntry d us) s (fun t => (∀ i : Nat, i < 4 → t.chState
    (4 * d + i) = 6 ∧ t.debt (4 * d + i) = 0 ∧ (∀ b : Nat, b < 16 → SMap.get (fun _ => none) t.drc.rows (16 * (4 * d +
    i) + b) = none)) ∧ t.outs = s.m.outs ∧ SameMemory s.m t ∧ SameRegs ((List.range 4).map (fun i => Reg.DRC_CH_STATUS
    (4 * d + i))) s.m t)) ∧
  (∀ (s : State) (d : Nat), s.m.flt.halted = false → d < 8 → Answers (.selfRefreshExit d) s (fun t => (∀ i : Nat, i <
    4 → s.m.chState (4 * d + i) = 6 → t.chState (4 * d + i) = 1 ∧ t.debt (4 * d + i) = 0) ∧ (∀ i : Nat, i < 4 →
    s.m.chState (4 * d + i) ≠ 6 → t.reg (Reg.DRC_CH_STATUS (4 * d + i)) = s.m.reg (Reg.DRC_CH_STATUS (4 * d + i))) ∧
    t.drc = s.m.drc ∧ t.outs = s.m.outs ∧ SameMemory s.m t ∧ SameRegs ((List.range 4).map (fun i => Reg.DRC_CH_STATUS
    (4 * d + i))) s.m t)) ∧
  (∀ (s : State) (c i : Nat) (reqs : List MemReq) (r : MemReq) (m1 : Mod), s.m.flt.halted = false → Wf.memoryRequest c
    reqs 0 = true → (s.m.chState c = 1 ∨ s.m.chState c = 2) → reqs.any (fun r => s.m.channelOf r.addr != c) = false →
    s.m.chooseRequest c reqs = (some i, m1) → reqs[i]? = some r → r.data = none → badIn s.m.gddrBad 64 r.addr r.len =
    false → Answers (.memoryRequest c reqs 0 false false) s (fun t => t.outs = .memDone c i (memRead s.m.gddr r.addr
    r.len) false :: s.m.outs ∧ t.drc.served = true ∧ t.hat = m1.hat ∧ SameMemory s.m t ∧ SameRegs [Reg.DRC_CH_ERRCNT
    c] s.m t)) ∧
  (∀ (s : State) (c i : Nat) (reqs : List MemReq) (r : MemReq) (bs : List Byte) (m1 : Mod), s.m.flt.halted = false →
    Wf.memoryRequest c reqs 0 = true → (s.m.chState c = 1 ∨ s.m.chState c = 2) → reqs.any (fun r => s.m.channelOf
    r.addr != c) = false → s.m.chooseRequest c reqs = (some i, m1) → reqs[i]? = some r → r.data = some bs → partBad
    s.m.gddrBad 64 r.addr bs.length = false → Answers (.memoryRequest c reqs 0 false false) s (fun t => memRead t.gddr
    r.addr bs.length = bs ∧ SameOutside r.addr (r.addr + bs.length) s.m.gddr t.gddr ∧ SameOutside 0 0 s.m.sram t.sram
    ∧ t.outs = .memDone c i [] false :: s.m.outs ∧ t.drc.served = true ∧ SameRegs [Reg.DRC_CH_ERRCNT c] s.m t))

/-- The Gray map, the precoder, the scrambler and the dealing of a unit's words over lanes each have their inverse: a
  receiver that has the transmitter's scrambler and symbol state recovers from a block's symbols its sync header and
  its payload, and from the lanes' words a unit's words in order. The states that a transmitter begins with are the
  model's choice (assumption 113). -/
def Obligations.SiteLinkCoding : Prop :=
  (∀ l : List Bool, l.length % 2 = 0 → symbolBits (symbols l) = l ∧ ∀ x ∈ symbols l, x < 4) ∧
  (∀ (l : List Nat) (p : Nat), (∀ x ∈ l, x < 4) → p < 4 → unprecode (precode l p) p = l ∧ ∀ x ∈ precode l p, x < 4) ∧
  (∀ (l : List Bool) (s : Nat), descramble (scramble l s).1 s = (l, (scramble l s).2)) ∧
  (∀ (pre : Bool) (b : LineBlk) (x : LaneTx), x.sym < 4 →
    let sent := (x.block pre b).1
    let bits := symbolBits (if pre then unprecode sent x.sym else sent)
    bits.take 2 = syncBits b.1 ∧ (descramble (bits.drop 2) x.scr).1 = payloadBits b.2 ∧ (x.block pre b).2.sym < 4) ∧
  (∀ (n j : Nat) (ws : List Nat), 0 < n → collected n ((List.range n).map (fun i => dealt n i ws)) j = ws[j]?)

/-- An attempt makes a lane ACTIVE or ends; the handshake forms a pair and RESYNC ends; a lane's FOM is measured, a
  lane is lost, disabled, retrained and rejoins at a re-stripe; forwarded bytes land in GDDR7. Everything else stays.
  -/
def Obligations.LinkAndLanes : Prop :=
  (∀ (s : State) (us : Nat) (r : LaneRes), s.m.flt.halted = false → Wf.trainingAttempt [r] = true → s.m.slState = 1 →
    s.m.flag Reg.SL_CTRL Fields.SL_CTRL.PAIR_EN = true → s.m.laneState r.lane ≠ 5 → s.m.laneDisabled r.lane = false →
    96 ≤ r.fom → r.group = laneGroup r.lane → r.pos < (groupLanes (laneGroup r.lane)).length → (groupLanes (laneGroup
    r.lane)).any (fun j => j != r.lane && s.m.laneState j == 5 && s.m.rd (Reg.SL_LANE_STATUS j)
    Fields.SL_LANE_STATUS.POSITION == r.pos) = false → Answers (.trainingAttempt us [r]) s (fun t => t.laneState
    r.lane = 5 ∧ t.rd (Reg.SL_LANE_STATUS r.lane) Fields.SL_LANE_STATUS.POSITION = r.pos ∧ t.rd (Reg.SL_LANE_STATUS
    r.lane) Fields.SL_LANE_STATUS.FOM = r.fom ∧ t.flag (Reg.SL_LANE_STATUS r.lane) Fields.SL_LANE_STATUS.MISWIRE =
    false ∧ t.flag (Reg.SL_LANE_STATUS r.lane) Fields.SL_LANE_STATUS.POL_INV = r.inv ∧ t.slState = (if t.groupUp 0
    then 2 else 1) ∧ t.outs = s.m.outs ∧ SameMemory s.m t ∧ SameRegsPost [Reg.SL_LANE_STATUS r.lane, Reg.SL_STATUS,
    Reg.SL_EVENT, Reg.SL_PDIE_STATUS 0, Reg.SL_PDIE_STATUS 1, Reg.GLB_DIE_STATUS] s.m t)) ∧
  (∀ (s : State) (us ms : Nat), s.m.flt.halted = false → 50000 ≤ us → (s.m.slState = 1 ∨ s.m.slState = 2) → s.m.flag
    Reg.SL_STATUS Fields.SL_STATUS.PAIR_ABSENT = false → s.m.rd Reg.SL_STATUS Fields.SL_STATUS.ATTEMPT < 3 → Answers
    (.attemptTimeout us ms) s (fun t => t.slState = 1 ∧ t.rd Reg.SL_STATUS Fields.SL_STATUS.ATTEMPT = s.m.rd
    Reg.SL_STATUS Fields.SL_STATUS.ATTEMPT + 1 ∧ t.flag Reg.SL_STATUS Fields.SL_STATUS.PAIR_ABSENT = false ∧ t.outs =
    s.m.outs ∧ SameMemory s.m t ∧ SameRegs [Reg.SL_STATUS] s.m t)) ∧
  (∀ (s : State) (us ms : Nat), s.m.flt.halted = false → 50000 ≤ us → (s.m.slState = 1 ∨ s.m.slState = 2) → s.m.flag
    Reg.SL_STATUS Fields.SL_STATUS.PAIR_ABSENT = false → 3 ≤ s.m.rd Reg.SL_STATUS Fields.SL_STATUS.ATTEMPT →
    s.m.startState ≠ 5 → Answers (.attemptTimeout us ms) s (fun t => t.slState = 5 ∧ t.flag Reg.SL_STATUS
    Fields.SL_STATUS.PAIR_ABSENT = true ∧ t.flag Reg.SL_EVENT Fields.SL_EVENT.PAIR_ABSENT = true ∧ t.startState =
    s.m.startState ∧ t.outs = s.m.outs ∧ SameMemory s.m t ∧ SameRegsPost [Reg.SL_STATUS, Reg.SL_EVENT] s.m t)) ∧
  (∀ (s : State) (role pcc ms : Nat) (version : BitVec 16), s.m.flt.halted = false → role < 4 → pcc < 2 ^ 64 →
    s.m.slState = 2 → s.m.startState ≠ 5 → (s.m.profRole = 1 ∧ role = 2 ∨ s.m.profRole = 2 ∧ role = 1) → s.m.flag
    Reg.TB_STATUS Fields.TB_STATUS.REF_LOCKED = true → version = Config.slProtocol → Answers (.handshake role (s.m.reg
    Reg.MCS_CRC) true version pcc ms) s (fun t => t.slState = 3 ∧ t.pair.pccOn = true ∧ t.rd Reg.SL_STATUS
    Fields.SL_STATUS.MISMATCH = 0 ∧ t.flag Reg.SL_STATUS Fields.SL_STATUS.PAIR_ABSENT = false ∧ t.rd64 Reg.SL_PCC_LO =
    (if s.m.profRole = 2 then pcc else 0) ∧ (∀ k : Nat, k < 16 → s.m.flag (Reg.SL_MRGN_CFG k) Fields.SL_MRGN_CFG.EN =
    true → t.flag (Reg.SL_MRGN_CFG k) Fields.SL_MRGN_CFG.COPYING = true) ∧ SameMemory s.m t ∧ SameRegs
    ([Reg.SL_STATUS, Reg.SL_PCC_LO, Reg.SL_PCC_HI, Reg.SL_JSENT] ++ (List.range 16).map Reg.SL_MRGN_CFG) s.m t)) ∧
  (∀ (s : State) (base : List (Nat × Word)) (rings : List RingCtx) (queues : List QueueCtx), s.m.flt.halted = false →
    Wf.resyncComplete ⟨base, rings, queues⟩ = true → s.m.slState = 3 → s.m.sys.rejoin = false → Answers
    (.resyncComplete ⟨base, rings, queues⟩) s (fun t => t.slState = 4 ∧ (∀ k : Nat, k < 16 → t.flag (Reg.SL_MRGN_CFG
    k) Fields.SL_MRGN_CFG.COPYING = false) ∧ t.primaryDown 0 = false ∧ t.primaryDown 1 = false ∧ t.flag Reg.SL_EVENT
    Fields.SL_EVENT.REJOIN = true ∧ t.outs = s.m.outs ∧ SameMemory s.m t)) ∧
  (∀ (s : State) (c : QueueCtx), s.m.flt.halted = false → Wf.resyncComplete ⟨[], [], [c]⟩ = true → s.m.slState = 3 →
    s.m.sys.rejoin = true → Answers (.resyncComplete ⟨[], [], [c]⟩) s (fun t => t.slState = 4 ∧ t.queue c.queue =
    { s.m.queue c.queue with bound := true, base := c.base, sizeLog2 := c.sizeLog2, cq := c.cq, haltOnInvalid := c.halt, head := c.head, tail := c.tail }
    ∧ t.sys.rejoin = false ∧ t.outs = s.m.outs ∧ SameMemory s.m t)) ∧
  (∀ (s : State) (k fom : Nat), s.m.flt.halted = false → k < 65 → fom < 256 → s.m.laneState k = 5 → s.m.fomFail ≤ fom
    → Answers (.fomMeasure k fom) s (fun t => t.rd (Reg.SL_LANE_STATUS k) Fields.SL_LANE_STATUS.FOM = fom ∧ t.flag
    (Reg.SL_LANE_STATUS k) Fields.SL_LANE_STATUS.WEAK = decide (fom < s.m.rd Reg.SL_CFG Fields.SL_CFG.FOM_WARN) ∧
    t.laneState k = 5 ∧ t.pair = { s.m.pair with low := s.m.pair.low.erase k } ∧ t.outs = s.m.outs ∧ SameMemory s.m t
    ∧ SameRegsPost [Reg.SL_LANE_STATUS k, Reg.SL_EVENT] s.m t)) ∧
  (∀ (s : State) (k : Nat), s.m.flt.halted = false → k < 65 → s.m.laneState k = 5 → groupNeeds (laneGroup k) <
    s.m.lanesUp (groupLanes (laneGroup k)) → Answers (.laneLoss k) s (fun t => t.laneState k = 7 ∧ t.rd
    (Reg.SL_LANE_STATUS k) Fields.SL_LANE_STATUS.LOSS_COUNT = satAdd Fields.SL_LANE_STATUS.LOSS_COUNT.width (s.m.rd
    (Reg.SL_LANE_STATUS k) Fields.SL_LANE_STATUS.LOSS_COUNT) 1 ∧ t.flag Reg.SL_EVENT Fields.SL_EVENT.LANE_LOST = true
    ∧ t.slState = s.m.slState ∧ t.outs = .siteLink 41 [k] :: .siteLink 40 [k] :: s.m.outs ∧ SameMemory s.m t ∧
    SameRegsPost [Reg.SL_LANE_STATUS k, Reg.SL_EVENT, Reg.SL_PDIE_STATUS 0, Reg.SL_PDIE_STATUS 1, Reg.GLB_DIE_STATUS]
    s.m t)) ∧
  (∀ (s : State) (k : Nat), s.m.flt.halted = false → k < 65 → s.m.laneDisabled k = true → s.m.laneState k ≠ 5 →
    s.m.laneState k ≠ 0 → Answers (.laneDisable k) s (fun t => t.laneState k = 7 ∧ t.pair =
    { s.m.pair with rejoin := s.m.pair.rejoin.erase k } ∧ t.outs = s.m.outs ∧ SameMemory s.m t ∧ SameRegs
    [Reg.SL_LANE_STATUS k] s.m t)) ∧
  (∀ (s : State) (g : Nat), s.m.flt.halted = false → g < 10 → Answers (.restripe g) s (fun t => (∀ k : Nat, k < 65 →
    laneGroup k = g → s.m.pair.rejoin.contains k = true → t.laneState k = 5) ∧ (∀ k : Nat, k < 65 → laneGroup k = g →
    s.m.pair.rejoin.contains k = false → s.m.laneState k = 7 → s.m.laneDisabled k = false → t.laneState k = 6) ∧ (∀ k
    : Nat, k < 65 → laneGroup k ≠ g → t.laneState k = s.m.laneState k) ∧ t.outs = .siteLink 42 [g] :: s.m.outs ∧
    SameMemory s.m t ∧ SameRegs ((groupLanes g).map Reg.SL_LANE_STATUS ++ [Reg.SL_PDIE_STATUS 0, Reg.SL_PDIE_STATUS 1,
    Reg.GLB_DIE_STATUS]) s.m t)) ∧
  (∀ (s : State) (k fom ms : Nat), s.m.flt.halted = false → k < 65 → fom < 256 → (s.m.laneState k = 6 ∨ s.m.laneState
    k = 7) → s.m.laneDisabled k = false → s.m.pair.rejoin.contains k = false → 96 ≤ fom → ms ≤ 50 → Answers
    (.laneRetrain k fom ms) s (fun t => t.laneState k = 6 ∧ t.pair = { s.m.pair with rejoin := k :: s.m.pair.rejoin }
    ∧ t.rd (Reg.SL_LANE_STATUS k) Fields.SL_LANE_STATUS.FOM = fom ∧ t.outs = s.m.outs ∧ SameMemory s.m t ∧
    SameRegsPost [Reg.SL_LANE_STATUS k, Reg.SL_EVENT] s.m t)) ∧
  (∀ (s : State) (g a : Nat) (bs : List Byte), s.m.flt.halted = false → g < 64 → bs ≠ [] → a + bs.length ≤ 0x800000000
    → s.m.journalOn = true → s.m.placeOff (.gddr a) bs.length = false → partBad s.m.gddrBad 64 a bs.length = false →
    Answers (.forwardedWrite ⟨g, false⟩ a bs) s (fun t => memRead t.gddr a bs.length = bs ∧ SameOutside a (a +
    bs.length) s.m.gddr t.gddr ∧ SameOutside 0 0 s.m.sram t.sram ∧ t.outs = s.m.outs ∧ SameRegs [] s.m t)) ∧
  (∀ (s : State) (g a : Nat) (bs : List Byte), s.m.flt.halted = false → g < 64 → bs ≠ [] → a + bs.length ≤ 0x800000000
    → s.m.journalOn = true → s.m.placeOff (.gddr a) bs.length = false → partBad s.m.gddrBad 64 a bs.length = true →
    Answers (.forwardedWrite ⟨g, false⟩ a bs) s (fun t => t.flag Reg.DRC_EVENT Fields.DRC_EVENT.UE = true ∧ t.outs =
    s.m.outs ∧ SameMemory s.m t)) ∧
  (∀ (s : State) (k : Nat), s.m.flt.halted = false → k < 16 → Answers (.regionCopyDone k) s (fun t => t.flag
    (Reg.SL_MRGN_CFG k) Fields.SL_MRGN_CFG.COPYING = false ∧ t.outs = s.m.outs ∧ SameMemory s.m t ∧ SameRegs
    [Reg.SL_MRGN_CFG k] s.m t)) ∧
  (∀ (s : State), s.m.flt.halted = false → s.m.slState = 6 → s.m.flag Reg.SL_CTRL Fields.SL_CTRL.PAIR_EN = true →
    Answers (.cableReconnect) s (fun t => t.slState = 1 ∧ t.rd Reg.SL_STATUS Fields.SL_STATUS.ATTEMPT = 1 ∧ t.rd
    Reg.SL_STATUS Fields.SL_STATUS.MISMATCH = 0 ∧ (∀ k : Nat, k < 65 → t.laneState k = (if s.m.laneState k = 5 ∨
    s.m.laneDisabled k = true then s.m.laneState k else 1)) ∧ t.outs = s.m.outs ∧ SameMemory s.m t ∧ SameRegs
    (Reg.SL_STATUS :: (List.range 65).map Reg.SL_LANE_STATUS) s.m t))

/-- A record about an instance is stated for an instance already known. -/
def Obligations.JournalRecords : Prop :=
  (∀ (s : State) (j port site group node seq c : Nat) (args h : List Byte) (host : List Host.Cell) (m0 : Mod),
    s.m.flt.halted = false → Wf.burstStart port site group args = true → s.m.journalOn = true → m0 = s.m.setPair
    { s.m.pair with starts := SMap.set (fun _ => none) s.m.pair.starts port none, decs := s.m.pair.decs.filter (fun d => d.port != port), switched := s.m.pair.switched.filter (fun k => k != port) }
    → (s.m.seq (16 + port)).job = none → m0.devRecord (64 + group) host (pbAddr args) 64 = .ok h → m0.burstChecks (16
    + port) (64 + group) args h = .inr c → Answers (.burstStart j port site group node seq args host) s (fun t =>
    (t.seq (16 + port)).job = some ⟨none, node, 64 + group, site⟩ ∧ (t.seq (16 + port)).mirror = true ∧ (t.seq (16 +
    port)).img = imageOf (64 + group) args h ∧ (t.seq (16 + port)).pc = pbEntry args ∧ (t.seq (16 + port)).pp =
    pbPentry args ∧ (t.seq (16 + port)).tset = pbTset args ∧ (t.seq (16 + port)).charge = c ∧ t.seqState (16 + port) =
    1 ∧ t.rd (Reg.SEQ_PRF_STATUS (16 + port)) Fields.SEQ_PRF_STATUS.BURST_SEQ = seq % 2 ^
    Fields.SEQ_PRF_STATUS.BURST_SEQ.width ∧ t.outs = .siteLink 3 [j] :: s.m.outs ∧ SameMemory s.m t)) ∧
  (∀ (s : State) (n outcome vec : Nat), s.m.flt.halted = false → n < 16 → s.m.journalOn = true → Answers
    (.decisionRecord n 0 outcome vec) s (fun t => SMap.get (fun _ => none) t.pair.starts n = some outcome ∧
    t.pair.decs = s.m.pair.decs ∧ t.outs = s.m.outs ∧ SameMemory s.m t ∧ SameRegs [] s.m t)) ∧
  (∀ (s : State) (n kind outcome vec : Nat), s.m.flt.halted = false → n < 16 → s.m.journalOn = true → kind ≠ 0 →
    Answers (.decisionRecord n kind outcome vec) s (fun t => t.pair =
    { s.m.pair with decs := s.m.pair.decs ++ [⟨n, kind, outcome, vec⟩] } ∧ t.outs = s.m.outs ∧ SameMemory s.m t ∧
    SameRegs [] s.m t)) ∧
  (∀ (s : State) (j slot site group node cls unit : Nat) (x : PeerInst), s.m.flt.halted = false → group < 64 →
    s.m.journalOn = true → s.m.peerInst slot = some x → Answers (.nodeDispatch j slot site group node cls unit) s (fun
    t => t.peerInst slot = some { x with running := (node, (cls, unit)) :: x.running.filter (fun e => e.1 != node) } ∧
    t.outs = .siteLink 3 [j] :: s.m.outs ∧ SameMemory s.m t ∧ SameRegs [] s.m t)) ∧
  (∀ (s : State) (j slot site group node status stretch : Nat) (value : DWord) (fail : Bool) (x : PeerInst),
    s.m.flt.halted = false → group < 64 → status < 256 → s.m.journalOn = true → s.m.peerInst slot = some x → Answers
    (.nodeEnd j false slot site group node status value fail stretch) s (fun t => t.peerInst slot = some
    { x with running := x.running.filter (fun e => e.1 != node), ends := x.ends ++ [(node, (status, ⟨value, fail, false⟩, stretch))] }
    ∧ t.outs = .siteLink 3 [j] :: s.m.outs ∧ SameMemory s.m t ∧ SameRegs [] s.m t)) ∧
  (∀ (s : State) (j q slot : Nat) (bs : List Byte), s.m.flt.halted = false → q < 4096 → bs.length = 40 → s.m.journalOn
    = true → (s.m.peerQueue q).descs.length < 4 → Answers (.descADescB j q slot false bs) s (fun t => t.peerQueue q =
    { s.m.peerQueue q with descs := (s.m.peerQueue q).descs.filter (fun d => d.1 != slot) ++ [(slot, bs)] } ∧ t.outs =
    .siteLink 3 [j] :: s.m.outs ∧ SameMemory s.m t ∧ SameRegs [] s.m t)) ∧
  (∀ (s : State) (j q slot : Nat) (bs : List Byte), s.m.flt.halted = false → q < 4096 → bs.length = 24 → s.m.journalOn
    = true → Answers (.descADescB j q slot true bs) s (fun t => t.peerQueue q =
    { s.m.peerQueue q with descs := (s.m.peerQueue q).descs.map (fun d => if d.1 = slot ∧ d.2.length = 40 then (slot, d.2 ++ bs) else d) }
    ∧ t.outs = .siteLink 3 [j] :: s.m.outs ∧ SameMemory s.m t ∧ SameRegs [] s.m t)) ∧
  (∀ (s : State) (j q head tail size cq base : Nat), s.m.flt.halted = false → q < 4096 → cq < 64 → s.m.journalOn =
    true → Answers (.queueRecord j q head tail true size cq base) s (fun t => t.peerQueue q =
    { s.m.peerQueue q with bound := true, base := base, sizeLog2 := size, cq := cq, head := head, tail := tail } ∧
    t.outs = .siteLink 3 [j] :: s.m.outs ∧ SameMemory s.m t ∧ SameRegs [] s.m t)) ∧
  (∀ (s : State) (j slot : Nat) (bs : List Byte) (x : PeerInst), s.m.flt.halted = false → bs.length = 16 →
    s.m.journalOn = true → s.m.peerInst slot = some x → Answers (.instEnd j slot bs) s (fun t => t.peerInst slot =
    some { x with queue := fieldAt bs 4 2, site := byteAt bs 12, running := [], comp := some (compOf bs) } ∧ t.outs =
    .siteLink 3 [j] :: s.m.outs ∧ SameMemory s.m t ∧ SameRegs [] s.m t)) ∧
  (∀ (s : State) (j n rd srd : Nat), s.m.flt.halted = false → n < 16 → s.m.journalOn = true → Answers (.consumed j n
    rd srd) s (fun t => t.reg (Reg.SEQ_PRF_RD (16 + n)) = BitVec.ofNat 32 rd ∧ t.reg (Reg.SEQ_PRF_SRD (16 + n)) =
    BitVec.ofNat 32 srd ∧ t.outs = .siteLink 3 [j] :: s.m.outs ∧ SameMemory s.m t ∧ SameRegs [Reg.SEQ_PRF_RD (16 + n),
    Reg.SEQ_PRF_SRD (16 + n)] s.m t)) ∧
  (∀ (s : State) (j off : Nat) (v : Word), s.m.flt.halted = false → off < 0x400000 → (regAt off).map (fun e =>
    e.1.name) ≠ some .SEQ_GRP_RESV → s.m.journalOn = true → Answers (.configRecord j off v) s (fun t => SMap.get
    resetOf t.pair.regs off = v ∧ t.outs = .siteLink 3 [j] :: s.m.outs ∧ SameMemory s.m t ∧ SameRegs [] s.m t)) ∧
  (∀ (s : State) (j n k : Nat) (v : Word), s.m.flt.halted = false → n < 16 → k < 8 → s.m.journalOn = true → Answers
    (.configRecord j (Reg.SEQ_PORT n k) v) s (fun t => SMap.get resetOf t.pair.regs (Reg.SEQ_PORT n k) = v ∧ t.reg
    (Reg.SEQ_PORT (16 + n) k) = v ∧ t.outs = .siteLink 3 [j] :: s.m.outs ∧ SameMemory s.m t ∧ SameRegs [Reg.SEQ_PORT
    (16 + n) k] s.m t)) ∧
  (∀ (s : State) (j off : Nat) (v : Word), s.m.flt.halted = false → s.m.journalOn = true → Answers (.calRecord j off
    v) s (fun t => SMap.get resetOf t.pair.cals off = v ∧ t.outs = .siteLink 3 [j] :: s.m.outs ∧ SameMemory s.m t ∧
    SameRegs [] s.m t)) ∧
  (∀ (s : State) (j slot site group edge : Nat) (value : DWord) (fail skip : Bool) (x : PeerInst), s.m.flt.halted =
    false → group < 64 → s.m.journalOn = true → s.m.peerInst slot = some x → Answers (.tokenRecord j slot site group
    edge value fail skip) s (fun t => t.peerInst slot = some
    { x with tokens := x.tokens ++ [(edge, ⟨value, fail, skip⟩)] } ∧ t.outs = .siteLink 3 [j] :: s.m.outs ∧ SameMemory
    s.m t ∧ SameRegs [] s.m t)) ∧
  (∀ (s : State) (j k : Nat) (r : Report) (x : Inst), s.m.flt.halted = false → j < 2 ^ 32 → s.m.journalOn = true → (j
    + 2 ^ 32 - s.m.pair.acked) % 2 ^ 32 < s.m.journalOpen → s.m.pair.comps = [] → s.m.pair.ends = [(k, r)] → (k + 2 ^
    32 - s.m.pair.acked) % 2 ^ 32 ≤ (j + 2 ^ 32 - s.m.pair.acked) % 2 ^ 32 → s.m.inst r.inst = some x → x.quitStatus =
    none → r.status = 0 → (x.node r.node).settle ≠ 0 → Answers (.journalAck j) s (fun t => t.pair.acked = (j + 1) % 2
    ^ 32 ∧ t.pair.ends = [] ∧ t.reg Reg.SL_JACK = BitVec.ofNat 32 j ∧ t.inst r.inst = some
    ({ x with stretch := x.stretch + r.stretch, ran := x.ran + b2n r.ran }.setSt r.node (.settling ⟨r.value, r.fail,
    false⟩)) ∧ t.outs = s.m.outs ∧ SameMemory s.m t ∧ SameRegs [Reg.SL_JACK] s.m t))

/-- A decision is stated for a WTRG end; TAKEOVER for a partner without queues or instances of its own. -/
def Obligations.MirrorAndTakeover : Prop :=
  (∀ (s : State) (n ofs : Nat) (m1 : Mod) (src idx us : Nat) (stop : Bool), s.m.flt.halted = false → n < 16 → (s.m.seq
    (16 + n)).live = true → (s.m.seq (16 + n)).follows = true → (s.m.seq (16 + n)).wait = some (.trig src idx stop us)
    → s.m.takeDec (16 + n) 8 (some (s.m.seq (16 + n)).num) = (none, s.m) → s.m.takeDec (16 + n) 3 none = (some 1, m1)
    → Answers (.mirrorDecision n ofs) s (fun t => t.flag (Reg.SEQ_FLAGS (16 + n)) Fields.SEQ_FLAGS.TRIG_SEEN = true ∧
    (t.seq (16 + n)).wait = none ∧ (t.seq (16 + n)).resume = some (s.m.ttime + ofs - (s.m.seq (16 + n)).sclk0 + 16) ∧
    (t.seq (16 + n)).pc = (s.m.seq (16 + n)).pc + 1 ∧ t.seqState (16 + n) = 2 ∧ t.pair = m1.pair ∧ t.outs = s.m.outs ∧
    SameMemory s.m t ∧ SameRegs [Reg.SEQ_FLAGS (16 + n), Reg.SEQ_STATUS (16 + n), Reg.SEQ_PF_STATUS (16 + n),
    Reg.SEQ_PC (16 + n)] s.m t)) ∧
  (∀ (s : State) (n : Nat), s.m.flt.halted = false → n < 16 → Answers (.portSwitch n) s (fun t => t.pair =
    { s.m.pair with switched := n :: s.m.pair.switched.erase n } ∧ t.flag Reg.SL_EVENT Fields.SL_EVENT.PORT_SWITCH =
    true ∧ t.outs = s.m.outs ∧ SameMemory s.m t ∧ SameRegsPost [Reg.SL_EVENT] s.m t)) ∧
  (∀ (s : State) (p d : Nat) (fail : Bool), s.m.flt.halted = false → p < 16 → d < 2 → (s.m.journalOn = true ∨
    s.m.slState = 7) → Answers (.tokenFrame (.burst p d fail)) s (fun t => t.dport (16 + p) d =
    { s.m.dport (16 + p) d with token := true, failAny := (s.m.dport (16 + p) d).failAny || fail } ∧ t.outs = s.m.outs
    ∧ SameMemory s.m t ∧ SameRegs [] s.m t)) ∧
  (∀ (s : State) (c u status i : Nat) (value : DWord) (fail : Bool) (j : Job), s.m.flt.halted = false → status < 256 →
    s.m.slState = 7 → s.m.awayAt c u = some j → j.inst = some i → Answers (.tokenFrame (.result c u status value
    fail)) s (fun t => t.awayAt c u = none ∧ t.hat.reports = s.m.hat.reports ++ [⟨i, j.node, status, value, fail, 0,
    true⟩] ∧ t.outs = s.m.outs ∧ SameMemory s.m t ∧ SameRegs [] s.m t)) ∧
  (∀ (s : State) (d u : Nat) (f : CtlFrame), d < 3 → f.args.length = 48 → s.m.primaryDown d = true → f.cls = 4 →
    f.unit = u → u < 36 → unitDie 4 u = d + 1 → s.m.tdc u = none → tmBad u f.args = false → 2 ≤ tmStart f.args → 2 ≤
    tmStop f.args → Answers (.controlFrame d f) s (fun t => t.tdc u = some ⟨⟨none, f.node, 0, f.site⟩, f.args,
    s.m.ttime, none, none, none, 0, none, false⟩ ∧ t.rd (Reg.TDC_STATUS u) Fields.TDC_STATUS.STATE = 1 ∧ t.outs =
    s.m.outs ∧ SameMemory s.m t ∧ SameRegs [Reg.TDC_STATUS u] s.m t)) ∧
  (∀ (s : State) (q n seg pass : Nat) (desc bytes : List Byte) (last : Bool), n < 8 → s.m.h0OnSecondary = true →
    s.m.pair.frames.contains q = false → Answers (.h0FrameReceive q true true (.entry n seg pass desc bytes last)) s
    (fun t => t.pair = { s.m.pair with frames := q :: s.m.pair.frames } ∧ t.wave n =
    { s.m.wave n with buf := (s.m.wave n).buf ++ [⟨seg, pass, desc, last, bytes, !segOk desc || !entryOk bytes⟩] } ∧
    t.outs = s.m.outs ∧ SameMemory s.m t ∧ SameRegs [] s.m t)) ∧
  (∀ (s : State) (q : Nat) (f : H0Frame) (secondary : Bool), f.wf = true → (secondary = false ∨ s.m.h0OnSecondary =
    false) → s.m.pair.frames.contains q = false → Answers (.h0FrameReceive q secondary true f) s (fun t => t.pair =
    { s.m.pair with frames := q :: s.m.pair.frames } ∧ t.outs = s.m.outs ∧ SameMemory s.m t ∧ SameRegs [] s.m t)) ∧
  (∀ (s : State) (d us : Nat), d < 2 → 1 ≤ us → s.m.flt.txStopped = true → s.m.pairProfile = true → s.m.primaryDown d
    = false → s.m.isLost (1 + d) = false → Answers (.primaryDown d us) s (fun t => t.primaryDown d = true ∧ t.outs =
    .siteLink 50 [d] :: s.m.outs ∧ (∀ n : Nat, n < 16 → (s.m.dport n d).chans.isEmpty = false → t.dport n d =
    { s.m.dport n d with mirSrc := true } ∧ t.flag (Reg.SL_PDIE_STATUS d) ⟨Fields.SL_PDIE_STATUS.SRC.lo + n, 1⟩ =
    true) ∧ (∀ n : Nat, (s.m.dport n d).chans.isEmpty = true → t.dport n d = s.m.dport n d) ∧ SameMemory s.m t ∧
    SameRegs [Reg.SL_PDIE_STATUS d] s.m t)) ∧
  (∀ (s : State) (host : List Host.Cell), s.m.flt.halted = false → s.m.pairProfile = true → s.m.pair.pccOn = true →
    s.m.slState ≠ 7 → s.m.pair.queues = [] → s.m.pair.insts = [] → s.m.pair.ends = [] → s.m.pair.comps = [] → Answers
    (.takeover host) s (fun t => t.slState = 7 ∧ t.flag Reg.SL_STATUS Fields.SL_STATUS.PARTNER_DOWN = true ∧ t.flag
    Reg.SL_EVENT Fields.SL_EVENT.PARTNER_DOWN = true ∧ t.flag Reg.SL_EVENT Fields.SL_EVENT.TAKEOVER = true ∧ (∀ n :
    Nat, n < 16 → (t.reg Reg.SL_PROT).getLsbD n = false) ∧ t.outs = s.m.outs ∧ SameMemory s.m t ∧ SameRegsPost
    ([Reg.SL_STATUS, Reg.SL_EVENT, Reg.SL_PROT] ++ (List.range 16).map (fun n => Reg.SEQ_PRF_STATUS (16 + n))) s.m t)) ∧
  (∀ (s : State), s.m.flt.halted = false → s.m.slState = 7 → s.m.pair.shook = true → Answers (.takeoverEnd) s (fun t
    => t.slState = 3 ∧ t.pair.shook = false ∧ t.flag Reg.SL_STATUS Fields.SL_STATUS.PARTNER_DOWN = false ∧ (∀ k : Nat,
    k < 16 → s.m.flag (Reg.SL_MRGN_CFG k) Fields.SL_MRGN_CFG.EN = true → t.flag (Reg.SL_MRGN_CFG k)
    Fields.SL_MRGN_CFG.COPYING = true) ∧ SameMemory s.m t ∧ SameRegs ([Reg.SL_STATUS, Reg.SL_JSENT] ++ (List.range
    16).map Reg.SL_MRGN_CFG) s.m t))

/-- DOCK# low starts the debounce interval and 50 ms of it start the read; the read gives the plate's registers and
  counters, with DOCKS one higher, or the STATE of its failure; write-backs alternate between the copies; removal
  stops counting. Every byte of memory and every other register stays. -/
def Obligations.PlateDocking : Prop :=
  (∀ (s : State), s.m.pltState = 0 → Answers (.dockEdge true) s (fun t => t.pltState = 1 ∧ t.plt =
    { s.m.plt with low := true } ∧ t.outs = s.m.outs ∧ SameMemory s.m t ∧ SameRegs [Reg.PLT_STATUS] s.m t)) ∧
  (∀ (s : State), s.m.pltState = 1 → Answers (.dockEdge false) s (fun t => t.pltState = 0 ∧ t.plt =
    { s.m.plt with low := false } ∧ t.outs = s.m.outs ∧ SameMemory s.m t ∧ SameRegs [Reg.PLT_STATUS] s.m t)) ∧
  (∀ (s : State) (ms : Nat), 50 ≤ ms → s.m.plt.low = true → s.m.pltState = 1 → Answers (.plateDetect ms) s (fun t =>
    t.pltState = 2 ∧ t.outs = .plateRead 0x300 288 :: .plateRead 0x100 288 :: .plateRead 0 128 :: s.m.outs ∧
    SameMemory s.m t ∧ SameRegs [Reg.PLT_STATUS] s.m t)) ∧
  (∀ (s : State) (ms : Nat), ms < 50 → Answers (.plateDetect ms) s (fun t => t.plt = s.m.plt ∧ t.outs = s.m.outs ∧
    SameMemory s.m t ∧ SameRegs [] s.m t)) ∧
  (∀ (s : State) (p a b : List Byte), s.m.pltState = 2 → identityOk p = true → (fieldAt p 6 2 = 1 ∨ fieldAt p 6 2 = 2)
    → copyOk a = true → (copyOk b = true → fieldAt b 4 4 ≤ fieldAt a 4 4) → Answers (.identityRead (some (p, a, b))) s
    (fun t => t.pltState = 3 ∧ t.plt.counting = true ∧ t.plt.seq = fieldAt a 4 4 ∧ t.rd Reg.PLT_STATUS
    Fields.PLT_STATUS.COPY = 0 ∧ t.rd Reg.PLT_STATUS Fields.PLT_STATUS.TYPE = fieldAt p 6 2 ∧ (t.reg
    Reg.PLT_DOCKS).toNat = min 0xFFFFFFFF (fieldAt a 8 4 + 1) ∧ (∀ i : Nat, i < 64 → (t.reg (Reg.PLT_RCNT i)).toNat =
    fieldAt a (16 + 4 * i) 4) ∧ (t.reg Reg.PLT_RLY_RATING).toNat = fieldAt p 56 4 ∧ (t.reg Reg.PLT_DOCK_RATING).toNat
    = fieldAt p 60 4 ∧ t.rd64 Reg.PLT_PRESENT_LO = fieldAt p 64 8 ∧ t.flag Reg.PLT_EVENT Fields.PLT_EVENT.DOCKED =
    true ∧ SameMemory s.m t ∧ SameRegsPost ([Reg.PLT_STATUS, Reg.PLT_EVENT, Reg.PLT_RLY_RATING, Reg.PLT_DOCK_RATING,
    Reg.PLT_PRESENT_LO, Reg.PLT_PRESENT_HI, Reg.PLT_DOCKS, Reg.PLT_WARN_LO, Reg.PLT_WARN_HI, Reg.PLT_FAULT_LO,
    Reg.PLT_FAULT_HI] ++ (List.range 4).map Reg.PLT_SERIAL ++ (List.range 64).map Reg.PLT_RCNT) s.m t)) ∧
  (∀ (s : State) (p a b : List Byte), s.m.pltState = 2 → identityOk p = true → (fieldAt p 6 2 = 1 ∨ fieldAt p 6 2 = 2)
    → copyOk b = true → (copyOk a = true → fieldAt a 4 4 < fieldAt b 4 4) → Answers (.identityRead (some (p, a, b))) s
    (fun t => t.pltState = 3 ∧ t.plt.counting = true ∧ t.plt.seq = fieldAt b 4 4 ∧ t.rd Reg.PLT_STATUS
    Fields.PLT_STATUS.COPY = 1 ∧ (t.reg Reg.PLT_DOCKS).toNat = min 0xFFFFFFFF (fieldAt b 8 4 + 1) ∧ (∀ i : Nat, i < 64
    → (t.reg (Reg.PLT_RCNT i)).toNat = fieldAt b (16 + 4 * i) 4) ∧ SameMemory s.m t)) ∧
  (∀ (s : State) (p a b : List Byte), s.m.pltState = 2 → identityOk p = true → fieldAt p 6 2 ≠ 1 → fieldAt p 6 2 ≠ 2 →
    Answers (.identityRead (some (p, a, b))) s (fun t => t.pltState = 6 ∧ t.plt = s.m.plt ∧ t.flag Reg.PLT_EVENT
    Fields.PLT_EVENT.DOCKED = true ∧ t.flag Reg.PLT_EVENT Fields.PLT_EVENT.ID_FAIL = true ∧ SameMemory s.m t ∧
    SameRegsPost ([Reg.PLT_STATUS, Reg.PLT_EVENT, Reg.PLT_RLY_RATING, Reg.PLT_DOCK_RATING, Reg.PLT_PRESENT_LO,
    Reg.PLT_PRESENT_HI] ++ (List.range 4).map Reg.PLT_SERIAL) s.m t)) ∧
  (∀ (s : State) (p a b : List Byte), s.m.pltState = 2 → identityOk p = false → Answers (.identityRead (some (p, a,
    b))) s (fun t => t.pltState = 5 ∧ t.plt = s.m.plt ∧ t.flag Reg.PLT_EVENT Fields.PLT_EVENT.DOCKED = true ∧ t.flag
    Reg.PLT_EVENT Fields.PLT_EVENT.ID_FAIL = true ∧ SameMemory s.m t ∧ SameRegsPost [Reg.PLT_STATUS, Reg.PLT_EVENT]
    s.m t)) ∧
  (∀ (s : State), s.m.pltState = 2 → Answers (.identityRead none) s (fun t => t.pltState = 4 ∧ t.plt = s.m.plt ∧
    t.flag Reg.PLT_EVENT Fields.PLT_EVENT.BUS_ERR = true ∧ t.flag Reg.PLT_EVENT Fields.PLT_EVENT.ID_FAIL = true ∧
    SameMemory s.m t ∧ SameRegsPost [Reg.PLT_STATUS, Reg.PLT_EVENT] s.m t)) ∧
  (∀ (s : State) (ms : Nat), 1 ≤ ms → s.m.plt.low = false → 2 ≤ s.m.pltState → s.m.cal.run = none → Answers
    (.plateRemoved ms) s (fun t => t.pltState = 0 ∧ t.plt.counting = false ∧ t.reg Reg.PLT_DOCKS = 0#32 ∧ (∀ i : Nat,
    i < 64 → t.reg (Reg.PLT_RCNT i) = 0#32) ∧ t.flag Reg.PLT_STATUS Fields.PLT_STATUS.WB_BUSY = false ∧ t.flag
    Reg.PLT_EVENT Fields.PLT_EVENT.UNDOCKED = true ∧ (s.m.pltState ≠ 7 → t.flag Reg.PLT_EVENT
    Fields.PLT_EVENT.LOST_COUNTS = true) ∧ SameMemory s.m t ∧ SameRegsPost ([Reg.PLT_STATUS, Reg.PLT_EVENT,
    Reg.PLT_DOCKS, Reg.PLT_WARN_LO, Reg.PLT_WARN_HI, Reg.PLT_FAULT_LO, Reg.PLT_FAULT_HI] ++ (List.range 64).map
    Reg.PLT_RCNT) s.m t)) ∧
  (∀ (s : State), s.m.flag Reg.PLT_STATUS Fields.PLT_STATUS.WB_BUSY = true → s.m.flag Reg.PLT_STATUS
    Fields.PLT_STATUS.WB_PENDING = false → s.m.plt.undocking = false → s.m.sys.orderly = .none → Answers (.wbDone
    true) s (fun t => t.flag Reg.PLT_STATUS Fields.PLT_STATUS.WB_BUSY = false ∧ t.rd Reg.PLT_STATUS
    Fields.PLT_STATUS.COPY = 1 - s.m.rd Reg.PLT_STATUS Fields.PLT_STATUS.COPY ∧ t.plt =
    { s.m.plt with seq := s.m.plt.seq + 1 } ∧ t.flag Reg.PLT_EVENT Fields.PLT_EVENT.WB_DONE = true ∧ SameMemory s.m t
    ∧ SameRegsPost [Reg.PLT_STATUS, Reg.PLT_EVENT] s.m t)) ∧
  (∀ (s : State), s.m.flag Reg.PLT_STATUS Fields.PLT_STATUS.WB_BUSY = true → s.m.flag Reg.PLT_STATUS
    Fields.PLT_STATUS.WB_PENDING = false → s.m.plt.undocking = true → s.m.sys.orderly = .none → Answers (.wbDone true)
    s (fun t => t.pltState = 7 ∧ t.flag Reg.PLT_STATUS Fields.PLT_STATUS.WB_BUSY = false ∧ t.flag Reg.PLT_EVENT
    Fields.PLT_EVENT.WB_DONE = true ∧ SameMemory s.m t ∧ SameRegsPost [Reg.PLT_STATUS, Reg.PLT_EVENT] s.m t)) ∧
  (∀ (s : State) (ok : Bool), s.m.flag Reg.PLT_STATUS Fields.PLT_STATUS.WB_BUSY = true → s.m.flag Reg.PLT_STATUS
    Fields.PLT_STATUS.WB_PENDING = true → Answers (.wbDone ok) s (fun t => t.flag Reg.PLT_STATUS
    Fields.PLT_STATUS.WB_BUSY = true ∧ t.flag Reg.PLT_STATUS Fields.PLT_STATUS.WB_PENDING = false ∧ t.outs.head? =
    some (.plateWrite (if t.rd Reg.PLT_STATUS Fields.PLT_STATUS.COPY = 1 then 0x100 else 0x300) (t.counterRecord
    (t.plt.seq + 1))) ∧ SameMemory s.m t ∧ SameRegsPost [Reg.PLT_STATUS, Reg.PLT_EVENT] s.m t)) ∧
  (∀ (s : State), s.m.flag Reg.PLT_STATUS Fields.PLT_STATUS.WB_BUSY = true → s.m.flag Reg.PLT_STATUS
    Fields.PLT_STATUS.WB_PENDING = false → s.m.sys.orderly = .none → Answers (.wbDone false) s (fun t => t.flag
    Reg.PLT_STATUS Fields.PLT_STATUS.WB_BUSY = false ∧ t.plt = s.m.plt ∧ t.flag Reg.PLT_EVENT Fields.PLT_EVENT.WB_FAIL
    = true ∧ t.flag Reg.PLT_EVENT Fields.PLT_EVENT.BUS_ERR = true ∧ SameMemory s.m t ∧ SameRegsPost [Reg.PLT_STATUS,
    Reg.PLT_EVENT] s.m t)) ∧
  (∀ (s : State) (init : Init), s.m.serving = true → s.m.journalOn = false → init.wf = true → s.m.plt.counting = true
    → s.m.flag Reg.PLT_STATUS Fields.PLT_STATUS.WB_BUSY = false → Answers (.wb init) s (fun t => t.flag Reg.PLT_STATUS
    Fields.PLT_STATUS.WB_BUSY = true ∧ t.outs.head? = some (.plateWrite (if s.m.rd Reg.PLT_STATUS
    Fields.PLT_STATUS.COPY = 1 then 0x100 else 0x300) (s.m.counterRecord (s.m.plt.seq + 1))) ∧ SameMemory s.m t ∧
    SameRegsPost [Reg.PLT_STATUS, Reg.PLT_EVENT, Reg.PLT_WARN_LO, Reg.PLT_WARN_HI, Reg.PLT_FAULT_LO, Reg.PLT_FAULT_HI]
    s.m t)) ∧
  (∀ (s : State) (init : Init), s.m.serving = true → s.m.journalOn = false → init.wf = true → s.m.pltState = 3 →
    s.m.plt.undocking = false → s.m.flag Reg.PLT_STATUS Fields.PLT_STATUS.WB_BUSY = false → Answers (.undock init) s
    (fun t => t.plt.counting = false ∧ t.plt.undocking = true ∧ t.flag Reg.PLT_STATUS Fields.PLT_STATUS.WB_BUSY = true
    ∧ t.outs.head? = some (.plateWrite (if s.m.rd Reg.PLT_STATUS Fields.PLT_STATUS.COPY = 1 then 0x100 else 0x300)
    (s.m.counterRecord (s.m.plt.seq + 1))) ∧ SameMemory s.m t ∧ SameRegsPost [Reg.PLT_STATUS, Reg.PLT_EVENT,
    Reg.PLT_WARN_LO, Reg.PLT_WARN_HI, Reg.PLT_FAULT_LO, Reg.PLT_FAULT_HI] s.m t)) ∧
  (∀ (s : State) (init : Init), s.m.serving = true → s.m.journalOn = false → init.wf = true → 2 < s.m.pltState →
    s.m.plt.low = true → s.m.flag Reg.PLT_STATUS Fields.PLT_STATUS.WB_BUSY = false → Answers (.plateReload init) s
    (fun t => t.pltState = 2 ∧ t.plt.counting = false ∧ t.outs.take 3 = [.plateRead 0x300 288, .plateRead 0x100 288,
    .plateRead 0 128] ∧ SameMemory s.m t ∧ SameRegsPost [Reg.PLT_STATUS, Reg.PLT_EVENT, Reg.PLT_WARN_LO,
    Reg.PLT_WARN_HI, Reg.PLT_FAULT_LO, Reg.PLT_FAULT_HI] s.m t))

/-- A malformed access is discarded, or reads 0, with ACCESS_ERR; a low word latches or stages for its initiator; a
  high word applies the pair; an accepted write stores the register's writable bits; a refused one changes nothing but
  the faults block. -/
def Obligations.RegisterAccess : Prop :=
  (∀ (s : State) (init : Init) (off width : Nat), s.m.taking = true → Wf.malformedAccess init off width = true →
    inDoorbells off = false → Answers (.malformedAccess init off width true) s (fun t => t.flag Reg.ERR_ACCESS
    Fields.ERR_ACCESS.ACCESS_ERR = true ∧ SameMemory s.m t ∧ SameRegsPost [] s.m t)) ∧
  (∀ (s : State) (init : Init) (off width : Nat), s.m.taking = true → Wf.malformedAccess init off width = true →
    inDoorbells off = false → Answers (.malformedAccess init off width false) s (fun t => t.flag Reg.ERR_ACCESS
    Fields.ERR_ACCESS.ACCESS_ERR = true ∧ t.outs.head? = some (.regRead (initKey init) off 0#32) ∧ SameMemory s.m t ∧
    SameRegsPost [] s.m t)) ∧
  (∀ (s : State) (init : Init) (off : Nat) (d : RegDesc) (ix : List Nat), init.wf = true → off < 0x1000000 →
    s.m.isLost 0 = false → off % 4 = 0 → regAt off = some (d, ix) → pairLows.contains d.name = true → d.name ≠
    .TD_SEC_LO → Answers (.pairLowRead init off) s (fun t => SMap.find t.latch (latchKey init (off + 4)) = some
    (s.m.view (off + 4)) ∧ t.outs = .regRead (initKey init) off (s.m.view off) :: s.m.outs ∧ SameMemory s.m t ∧
    SameRegs [] s.m t)) ∧
  (∀ (s : State) (init : Init) (off : Nat) (v : Word) (d : RegDesc) (ix : List Nat), s.m.serving = true →
    s.m.journalOn = false → init.wf = true → off < 0x1000000 → off % 4 = 0 → regAt off = some (d, ix) →
    pairLows.contains d.name = true → d.name ≠ .XLT_CTX_ROOT_LO → Wr.ofMirror ⟨init, off, d, ix, v⟩ s.m = false →
    (d.name = .SEQ_PRF_SPILL_BASE_LO → s.m.spillKept (ix.getD 0 0) = false) → Answers (.pairLowWrite init off v) s
    (fun t => SMap.find t.stage (latchKey init off) = some v ∧ t.outs = s.m.outs ∧ SameMemory s.m t ∧ SameRegs [] s.m
    t)) ∧
  (∀ (s : State) (init : Init) (k : Nat) (v : Word), s.m.serving = true → s.m.journalOn = false → init.wf = true → k <
    4 → Answers (.pairHighWrite init (Reg.TD_SET_SEC_HI k) v) s (fun t => t.reg (Reg.TD_SET_SEC_LO k) = (SMap.find
    s.m.stage (latchKey init (Reg.TD_SET_SEC_LO k))).getD 0#32 ∧ t.reg (Reg.TD_SET_SEC_HI k) = v ∧ t.outs = s.m.outs ∧
    SameMemory s.m t ∧ SameRegs [Reg.TD_SET_SEC_LO k, Reg.TD_SET_SEC_HI k] s.m t)) ∧
  (∀ (s : State) (init : Init) (p : Nat) (v : Word), s.m.serving = true → s.m.journalOn = false → init.wf = true → p <
    2 → Answers (.registerWrite init (Reg.TP_RX_CORR p) v) s (fun t => t.reg (Reg.TP_RX_CORR p) = v ∧ t.outs =
    s.m.outs ∧ SameMemory s.m t ∧ SameRegs [Reg.TP_RX_CORR p] s.m t)) ∧
  (∀ (s : State) (init : Init) (v : Word), s.m.serving = true → s.m.journalOn = false → init.wf = true → Answers
    (.registerWrite init Reg.GLB_DIE_ERR v) s (fun t => t.reg Reg.GLB_DIE_ERR = s.m.reg Reg.GLB_DIE_ERR &&& ~~~(v &&&
    0x3F#32) ∧ t.outs = s.m.outs ∧ SameMemory s.m t ∧ SameRegs [Reg.GLB_DIE_ERR] s.m t)) ∧
  (∀ (s : State) (init : Init) (off : Nat) (v : Word) (d : RegDesc) (ix : List Nat), s.m.taking = true → init.wf =
    true → off < 0x1000000 → off % 4 = 0 → inMsix off = false → regAt off = some (d, ix) → s.m.writeOpen init d.name =
    false → Answers (.registerWrite init off v) s (fun t => t.flag Reg.ERR_ACCESS Fields.ERR_ACCESS.WR_REFUSED = true
    ∧ SameMemory s.m t ∧ SameRegsPost [] s.m t)) ∧
  (∀ (s : State) (init : Init) (off : Nat) (v : Word), s.m.taking = true → init.wf = true → off < 0x1000000 → off % 4
    = 0 → inMsix off = false → regAt off = none → Answers (.registerWrite init off v) s (fun t => t.outs = s.m.outs ∧
    SameMemory s.m t ∧ SameRegs [] s.m t)) ∧
  (∀ (s : State) (init : Init) (off : Nat) (v : Word), s.m.taking = true → init.wf = true → off < 0x4000000 →
    0x1008000 ≤ off → Answers (.registerWrite init off v) s (fun t => t.flag Reg.ERR_ACCESS
    Fields.ERR_ACCESS.ACCESS_ERR = true ∧ SameMemory s.m t ∧ SameRegsPost [] s.m t))

/-- BAR2 and BAR4 read and write the bytes they name and no others, or are discarded, poisoned or aborted; a doorbell
  is applied whole or discarded whole; a core's access reaches local memory, a register or translated memory; REGWR
  writes a register. -/
def Obligations.WindowsAndDoorbells : Prop :=
  (∀ (s : State) (off len : Nat), s.m.serving = true → Wf.hostBar2Read off len = true → sramBadIn s.m.sramBad off len
    = false → Answers (.hostBar2Read off len) s (fun t => t.outs = .barRead 2 off (memRead s.m.sram off len) false ::
    s.m.outs ∧ SameMemory s.m t ∧ SameRegs [] s.m t)) ∧
  (∀ (s : State) (off len : Nat), s.m.serving = true → Wf.hostBar2Read off len = true → sramBadIn s.m.sramBad off len
    = true → Answers (.hostBar2Read off len) s (fun t => t.outs = .barRead 2 off (List.replicate len 0xFF#8) true ::
    s.m.outs ∧ SameMemory s.m t ∧ SameRegs [] s.m t)) ∧
  (∀ (s : State) (off len : Nat), s.m.taking = true → s.m.open = false → Wf.hostBar2Read off len = true → Answers
    (.hostBar2Read off len) s (fun t => t.outs = .barAbort 2 off :: s.m.outs ∧ SameMemory s.m t ∧ SameRegs [] s.m t)) ∧
  (∀ (s : State) (off : Nat) (data : List (Option Byte)), s.m.serving = true → Wf.hostBar2Write off data = true → (∀ i
    : Nat, i < data.length → (data.getD i none).isSome = true → s.m.sramWritable (off + i) = true) → (enabledRuns data
    off).any (fun r => partBad s.m.sramBad 8 r.1 r.2.length) = false → Answers (.hostBar2Write off data) s (fun t =>
    (∀ i : Nat, i < data.length → memByte t.sram (off + i) = (data.getD i none).getD (memByte s.m.sram (off + i))) ∧
    SameOutside off (off + data.length) s.m.sram t.sram ∧ t.gddr = s.m.gddr ∧ SameRegs [Reg.MCS_STATUS] s.m t)) ∧
  (∀ (s : State) (off : Nat) (data : List (Option Byte)) (i : Nat), s.m.serving = true → Wf.hostBar2Write off data =
    true → i < data.length → (data.getD i none).isSome = true → s.m.sramWritable (off + i) = false → Answers
    (.hostBar2Write off data) s (fun t => t.flag Reg.ERR_ACCESS Fields.ERR_ACCESS.BAR2_WR_DISCARD = true ∧ SameMemory
    s.m t ∧ SameRegsPost [] s.m t)) ∧
  (∀ (s : State) (off n : Nat), s.m.serving = true → Wf.bar4Access off n none = true → badBursts s.m.gddrBad
    (s.m.bar4Addr off) n = [] → (∀ i : Nat, i < n → s.m.gddrOff (s.m.bar4Addr off + i) = false) → Answers (.bar4Access
    off n none) s (fun t => t.outs = .barRead 4 off (memRead s.m.gddr (s.m.bar4Addr off) n) false :: s.m.outs ∧
    SameMemory s.m t ∧ SameRegs [] s.m t)) ∧
  (∀ (s : State) (off : Nat) (bs : List Byte), s.m.serving = true → Wf.bar4Access off bs.length (some (bs.map some)) =
    true → s.m.placeOff (.gddr (s.m.bar4Addr off)) bs.length = false → partBad s.m.gddrBad 64 (s.m.bar4Addr off)
    bs.length = false → Answers (.bar4Access off bs.length (some (bs.map some))) s (fun t => memRead t.gddr
    (s.m.bar4Addr off) bs.length = bs ∧ SameOutside (s.m.bar4Addr off) (s.m.bar4Addr off + bs.length) s.m.gddr t.gddr
    ∧ t.sram = s.m.sram ∧ SameRegs [] s.m t)) ∧
  (∀ (s : State) (init : Init) (q : Nat) (v : DWord), s.m.serving = true → s.m.journalOn = false → init.wf = true → (∀
    c : Nat, c < 32 → init ≠ .regwr c) → init ≠ .profile → q < 4096 → dbSqValid v.toNat = true → dbCqValid v.toNat =
    false → s.m.dbUnbound q v.toNat = false → s.m.dbRange q v.toNat = false → s.m.dbBackward q v.toNat = false →
    Answers (.doorbell init (0x1000000 + 8 * q) 8 true v) s (fun t => t.queue q =
    { s.m.queue q with tail := dbTail v.toNat } ∧ t.outs = s.m.outs ∧ SameMemory s.m t ∧ SameRegs [] s.m t)) ∧
  (∀ (s : State) (init : Init) (q : Nat) (v : DWord), s.m.serving = true → init = .host → q < 4096 → dbSqValid v.toNat
    = false → dbCqValid v.toNat = true → s.m.dbUnbound q v.toNat = false → s.m.dbRange q v.toNat = false →
    s.m.pair.held = [] → Answers (.doorbell init (0x1000000 + 8 * q) 8 true v) s (fun t => t.cq (dbCq v.toNat) =
    { s.m.cq (dbCq v.toNat) with head := dbCqHead v.toNat } ∧ t.outs = s.m.outs ∧ SameMemory s.m t ∧ SameRegs [] s.m
    t)) ∧
  (∀ (s : State) (init : Init) (q : Nat) (v : DWord), s.m.serving = true → init = .host → q < 4096 → s.m.dbUnbound q
    v.toNat = true → Answers (.doorbell init (0x1000000 + 8 * q) 8 true v) s (fun t => t.flag Reg.HOST_ERR
    Fields.HOST_ERR.DB_UNBOUND = true ∧ t.queues = s.m.queues ∧ t.cqs = s.m.cqs ∧ SameMemory s.m t ∧ SameRegs
    [Reg.HOST_ERR, Reg.HOST_ERR_INFO] s.m t)) ∧
  (∀ (s : State) (init : Init) (off size : Nat) (full : Bool) (v : DWord), s.m.serving = true → Wf.doorbell init off
    size = true → (size ≠ 8 ∨ off % 8 ≠ 0 ∨ full = false) → Answers (.doorbell init off size full v) s (fun t =>
    t.flag Reg.HOST_ERR Fields.HOST_ERR.DB_SIZE = true ∧ t.queues = s.m.queues ∧ t.cqs = s.m.cqs ∧ SameMemory s.m t ∧
    SameRegs [Reg.HOST_ERR, Reg.HOST_ERR_INFO] s.m t)) ∧
  (∀ (s : State) (c a n : Nat) (host : List Host.Cell), s.m.flt.halted = false → Wf.coreDeviceAccess c a n .load =
    true → a % n = 0 → a < coreSize c → (s.m.hart c).pmpOk .load a = true → sramBadIn s.m.sramBad (coreBase c + a) n =
    false → Answers (.coreDeviceAccess c a n .load host) s (fun t => t.outs = .coreValue c (BitVec.ofNat 64 (ofBytes
    (memRead s.m.sram (coreBase c + a) n))) :: s.m.outs ∧ SameMemory s.m t ∧ SameRegs [] s.m t)) ∧
  (∀ (s : State) (c a n ctx : Nat) (host : List Host.Cell) (bs : List Byte), s.m.flt.halted = false →
    Wf.coreDeviceAccess c a n .load = true → a % n = 0 → 0x1000000000000 ≤ a → a < 0x2000000000000 → (s.m.hart
    c).pmpOk .load a = true → s.m.coreCtx c = some ctx → findLine (s.m.hart c).dcache ctx ((a - 0x1000000000000) / 64)
    = none → (s.m.hart c).dcache.length < 512 → s.m.devRecord ctx host (64 * ((a - 0x1000000000000) / 64)) 64 = .ok bs
    → Answers (.coreDeviceAccess c a n .load host) s (fun t => t.outs = .coreValue c (BitVec.ofNat 64 (ofBytes
    ((bs.drop (a % 64)).take n))) :: s.m.outs ∧ (t.hart c).dcache = (s.m.hart c).dcache ++ [⟨ctx, (a -
    0x1000000000000) / 64, bs, false⟩] ∧ SameMemory s.m t)) ∧
  (∀ (s : State) (c a n ctx : Nat) (host : List Host.Cell) (x : CLine), s.m.flt.halted = false → Wf.coreDeviceAccess c
    a n .load = true → a % n = 0 → 0x1000000000000 ≤ a → a < 0x2000000000000 → (s.m.hart c).pmpOk .load a = true →
    s.m.coreCtx c = some ctx → findLine (s.m.hart c).dcache ctx ((a - 0x1000000000000) / 64) = some x → Answers
    (.coreDeviceAccess c a n .load host) s (fun t => t.outs = .coreValue c (BitVec.ofNat 64 (ofBytes ((x.bytes.drop (a
    % 64)).take n))) :: s.m.outs ∧ (t.hart c).dcache = (s.m.hart c).dcache ∧ SameMemory s.m t)) ∧
  (∀ (s : State) (c a n : Nat) (acc : CoreAcc) (host : List Host.Cell), s.m.flt.halted = false → Wf.coreDeviceAccess c
    a n acc = true → a % n = 0 → a % 2 = 0 → (s.m.hart c).pmpOk acc a = false → Answers (.coreDeviceAccess c a n acc
    host) s (fun t => t.outs = .coreFault c (accCause acc) a :: s.m.outs ∧ ((s.m.hart c).mode = .machine → (t.hart
    c).mcause = accCause acc ∧ (t.hart c).mtval = a) ∧ ((s.m.hart c).mode ≠ .machine → (t.hart c).scause = accCause
    acc ∧ (t.hart c).stval = a) ∧ SameMemory s.m t ∧ SameRegs [] s.m t)) ∧
  (∀ (s : State) (c off : Nat) (host : List Host.Cell), s.m.flt.halted = false → c < 20 → off < 0x4000 → off % 4 = 0 →
    (s.m.hart c).pmpOk .load (0x2000000 + off) = true → Answers (.coreDeviceAccess c (0x2000000 + off) 4 .load host) s
    (fun t => t.outs = .coreValue c (BitVec.ofNat 64 ((s.m.hart c).plic.read off).1) :: s.m.outs ∧ (t.hart c).plic =
    ((s.m.hart c).plic.read off).2 ∧ SameMemory s.m t ∧ SameRegs [] s.m t)) ∧
  (∀ (s : State) (ch p : Nat) (v : Word), s.m.serving = true → s.m.journalOn = false → ch < 32 → p < 2 → s.m.dmaRegwr
    ch = some (Reg.TP_RX_CORR p, v) → Answers (.regwr ch) s (fun t => t.reg (Reg.TP_RX_CORR p) = v ∧ t.dmaOffset ch =
    4 ∧ t.outs = s.m.outs ∧ SameMemory s.m t ∧ SameRegs [Reg.TP_RX_CORR p, Reg.DMA_CH_OFFSET ch] s.m t))

/-- WARM, HANDOVER, COLD and a profile select restart the module with the code of their cause, COLD once its orderly
  steps are done; HANDOVER is refused where the pair does not protect both pin dies; a profile write sets BUSY, or
  answers code 4 while one runs. -/
def Obligations.ResetAndProfileCommands : Prop :=
  (∀ (s : State) (init : Init), s.m.isLost 0 = false → init.wf = true → Answers (.warm init) s (fun t => t.startState
    = 1 ∧ t.rd Reg.GLB_RST_CAUSE Fields.GLB_RST_CAUSE.LAST = 5 ∧ t.flt.halted = false ∧ t.flt.resetDue = true ∧ t.seqs
    = [] ∧ t.scores = [] ∧ t.rings = [] ∧ t.tlb = [] ∧ t.acqs = [] ∧ t.cqs = [] ∧ t.cal.run = none ∧ t.reg
    Reg.HAT_CTRL = resetOf Reg.HAT_CTRL)) ∧
  (∀ (s : State) (init : Init), s.m.isLost 0 = false → init.wf = true → s.m.pairActive = true → s.m.groupUp 0 = true →
    s.m.flag (Reg.SL_PDIE_STATUS 0) Fields.SL_PDIE_STATUS.GROUP_OK = true → s.m.flag (Reg.SL_PDIE_STATUS 1)
    Fields.SL_PDIE_STATUS.GROUP_OK = true → Answers (.handover init) s (fun t => t.startState = 1 ∧ t.rd
    Reg.GLB_RST_CAUSE Fields.GLB_RST_CAUSE.LAST = 6 ∧ t.flt.resetDue = true ∧ t.seqs = [] ∧ t.scores = [] ∧ t.dports =
    s.m.dports ∧ t.pins = s.m.pins ∧ t.lvs = s.m.lvs ∧ t.hvs = s.m.hvs ∧ t.lqs = s.m.lqs)) ∧
  (∀ (s : State) (init : Init), s.m.taking = true → init.wf = true → s.m.pairActive = false → Answers (.handover init)
    s (fun t => t.flag Reg.ERR_ACCESS Fields.ERR_ACCESS.WR_REFUSED = true ∧ t.seqs = s.m.seqs ∧ SameMemory s.m t ∧
    SameRegsPost [] s.m t)) ∧
  (∀ (s : State) (init : Init), s.m.isLost 0 = false → init.wf = true → s.m.seqs = [] → s.m.plateBusy = false →
    s.m.plt.counting = false → Answers (.cold init) s (fun t => t.rd Reg.GLB_RST_CAUSE Fields.GLB_RST_CAUSE.LAST = 4 ∧
    (∀ o, o ≠ Reg.GLB_RST_CAUSE → t.reg o = resetOf o) ∧ t.gddr = [] ∧ t.sram = [] ∧ t.queues = [] ∧ t.seqs = [] ∧
    t.plt.counting = false)) ∧
  (∀ (s : State) (init : Init) (n : Nat), s.m.isLost 0 = false → s.m.flt.halted = false → init.wf = true → n < 32 →
    (s.m.seq n).job.isSome = true → s.m.dma.runs = [] → Answers (.cold init) s (fun t => t.sys.orderly =
    PowerDown.stopping true ∧ t.hat.stopped = true ∧ t.rd Reg.GLB_RST_CAUSE Fields.GLB_RST_CAUSE.LAST = s.m.rd
    Reg.GLB_RST_CAUSE Fields.GLB_RST_CAUSE.LAST ∧ SameMemory s.m t)) ∧
  (∀ (s : State) (init : Init), s.m.isLost 0 = false → s.m.flt.halted = false → init.wf = true → s.m.seqs = [] →
    s.m.plt.counting = true → s.m.dma.runs = [] → Answers (.cold init) s (fun t => t.sys.orderly = PowerDown.writing
    true ∧ t.hat.stopped = true ∧ t.flag Reg.PLT_STATUS Fields.PLT_STATUS.WB_BUSY = true ∧ t.rd Reg.GLB_RST_CAUSE
    Fields.GLB_RST_CAUSE.LAST = s.m.rd Reg.GLB_RST_CAUSE Fields.GLB_RST_CAUSE.LAST ∧ SameMemory s.m t)) ∧
  (∀ (s : State) (init : Init) (prof : Nat), s.m.serving = true → init.wf = true → prof < 4 → s.m.sys.profWrite = none
    → s.m.anySeqRunning = false → Answers (.profileSelect init prof) s (fun t => t.startState = 1 ∧ t.rd
    Reg.GLB_RST_CAUSE Fields.GLB_RST_CAUSE.LAST = 7 ∧ t.flt.resetDue = true ∧ t.seqs = [] ∧ t.scores = [] ∧ t.cqs =
    [])) ∧
  (∀ (s : State) (init : Init) (prof : Nat), s.m.serving = true → init.wf = true → prof < 4 → s.m.sys.profWrite = none
    → s.m.anySeqRunning = false → s.m.queues = [] → s.m.cqs = [] → s.m.hat.insts = [] → s.m.dma.runs = [] → s.m.dports
    = [] → s.m.pair.ends = [] → s.m.pair.comps = [] → Answers (.profileSelect init prof) s (fun t => t.rd
    Reg.GLB_START_STATE Fields.GLB_START_STATE.PROFILE = prof ∧ t.flag Reg.GLB_START_STATE
    Fields.GLB_START_STATE.BY_CMD = true ∧ t.rd Reg.GLB_RST_CAUSE Fields.GLB_RST_CAUSE.WARM_COUNT = min 255 (s.m.rd
    Reg.GLB_RST_CAUSE Fields.GLB_RST_CAUSE.WARM_COUNT + 1) ∧ t.gddr = s.m.gddr ∧ t.sram = s.m.sram)) ∧
  (∀ (s : State) (init : Init) (prof : Nat), s.m.serving = true → init.wf = true → prof < 4 → s.m.sys.profWrite = none
    → Answers (.profileWrite init prof) s (fun t => t.sys.profWrite = some prof ∧ t.flag Reg.GLB_PROF_STATUS
    Fields.GLB_PROF_STATUS.BUSY = true ∧ t.outs = s.m.outs ∧ SameMemory s.m t ∧ SameRegs [Reg.GLB_PROF_STATUS] s.m t)) ∧
  (∀ (s : State) (init : Init) (prof p : Nat), s.m.serving = true → init.wf = true → prof < 4 → s.m.sys.profWrite =
    some p → Answers (.profileWrite init prof) s (fun t => t.sys = s.m.sys ∧ t.flag Reg.GLB_PROF_STATUS
    Fields.GLB_PROF_STATUS.ERR = true ∧ t.rd Reg.GLB_PROF_STATUS Fields.GLB_PROF_STATUS.ERR_CODE = 4 ∧ SameMemory s.m
    t ∧ SameRegsPost [Reg.GLB_PROF_STATUS] s.m t))

/-- LOAD, BIND, UNBIND and RESUME act on the selected queue, or are refused with CTX_REFUSED and no other effect;
  enabling a completion ring empties it; a BAR4 base takes effect or is discarded with BAR4_RANGE. -/
def Obligations.QueueWindowCommands : Prop :=
  (∀ (s : State) (init : Init), s.m.serving = true → s.m.journalOn = false → init.wf = true → (s.m.queue
    s.m.qsel).bound = true → (s.m.queue s.m.qsel).base < 2 ^ 64 → (s.m.queue s.m.qsel).sizeLog2 < 32 → (s.m.queue
    s.m.qsel).cq < 64 → Answers (.load init) s (fun t => t.rd64 Reg.HOST_QCTX_BASE_LO = (s.m.queue s.m.qsel).base ∧
    t.rd Reg.HOST_QCTX_CFG Fields.HOST_QCTX_CFG.SIZE_LOG2 = (s.m.queue s.m.qsel).sizeLog2 ∧ t.rd Reg.HOST_QCTX_CFG
    Fields.HOST_QCTX_CFG.CQ = (s.m.queue s.m.qsel).cq ∧ t.flag Reg.HOST_QCTX_CFG Fields.HOST_QCTX_CFG.HALT_ON_INVALID
    = (s.m.queue s.m.qsel).haltOnInvalid ∧ t.queues = s.m.queues ∧ t.outs = s.m.outs ∧ SameMemory s.m t ∧ SameRegs
    [Reg.HOST_QCTX_BASE_LO, Reg.HOST_QCTX_BASE_HI, Reg.HOST_QCTX_CFG] s.m t)) ∧
  (∀ (s : State) (init : Init) (q c z : Nat), s.m.serving = true → s.m.journalOn = false → init.wf = true → q =
    s.m.qsel → c = s.m.rd Reg.HOST_QCTX_CFG Fields.HOST_QCTX_CFG.CQ → z = s.m.rd Reg.HOST_QCTX_CFG
    Fields.HOST_QCTX_CFG.SIZE_LOG2 → (s.m.queue q).bound = false → 4 ≤ z → z ≤ 16 → s.m.cqOn c = true → Answers (.bind
    init) s (fun t => t.queue q =
    { s.m.queue q with bound := true, base := s.m.rd64 Reg.HOST_QCTX_BASE_LO, sizeLog2 := z, cq := c, haltOnInvalid := s.m.flag Reg.HOST_QCTX_CFG Fields.HOST_QCTX_CFG.HALT_ON_INVALID, head := 0, tail := 0, halted := false }
    ∧ t.outs = s.m.outs ∧ SameMemory s.m t ∧ SameRegs [] s.m t)) ∧
  (∀ (s : State) (init : Init) (z : Nat), s.m.serving = true → s.m.journalOn = false → init.wf = true → z = s.m.rd
    Reg.HOST_QCTX_CFG Fields.HOST_QCTX_CFG.SIZE_LOG2 → ((s.m.queue s.m.qsel).bound = true ∨ z < 4 ∨ 16 < z ∨ s.m.cqOn
    (s.m.rd Reg.HOST_QCTX_CFG Fields.HOST_QCTX_CFG.CQ) = false) → Answers (.bind init) s (fun t => t.flag Reg.HOST_ERR
    Fields.HOST_ERR.CTX_REFUSED = true ∧ t.queues = s.m.queues ∧ t.outs = s.m.outs ∧ SameMemory s.m t ∧ SameRegs
    [Reg.HOST_ERR, Reg.HOST_ERR_INFO] s.m t)) ∧
  (∀ (s : State) (init : Init) (q : Nat), s.m.serving = true → s.m.journalOn = false → init.wf = true → q = s.m.qsel →
    (s.m.queue q).onchip = [] → (s.m.queue q).outstanding = [] → (s.m.queue q).fetches = [] → Answers (.unbind init) s
    (fun t => (t.queue q).bound = false ∧ (t.queue q).head = 0 ∧ (t.queue q).tail = 0 ∧ (t.queue q).ready = (s.m.queue
    q).ready ∧ t.outs = s.m.outs ∧ SameMemory s.m t ∧ SameRegs [] s.m t)) ∧
  (∀ (s : State) (init : Init) (q : Nat), s.m.serving = true → s.m.journalOn = false → init.wf = true → q = s.m.qsel →
    ((s.m.queue q).onchip ≠ [] ∨ (s.m.queue q).outstanding ≠ []) → Answers (.unbind init) s (fun t => t.flag
    Reg.HOST_ERR Fields.HOST_ERR.CTX_REFUSED = true ∧ t.queues = s.m.queues ∧ t.outs = s.m.outs ∧ SameMemory s.m t ∧
    SameRegs [Reg.HOST_ERR, Reg.HOST_ERR_INFO] s.m t)) ∧
  (∀ (s : State) (init : Init) (q : Nat), s.m.serving = true → s.m.journalOn = false → init.wf = true → q = s.m.qsel →
    (s.m.queue q).halted = true → Answers (.resume init) s (fun t => t.queue q = { s.m.queue q with halted := false }
    ∧ t.outs = s.m.outs ∧ SameMemory s.m t ∧ SameRegs [] s.m t)) ∧
  (∀ (s : State) (init : Init), s.m.serving = true → s.m.journalOn = false → init.wf = true → (s.m.queue
    s.m.qsel).halted = false → Answers (.resume init) s (fun t => t.flag Reg.HOST_ERR Fields.HOST_ERR.CTX_REFUSED =
    true ∧ t.queues = s.m.queues ∧ t.outs = s.m.outs ∧ SameMemory s.m t ∧ SameRegs [Reg.HOST_ERR, Reg.HOST_ERR_INFO]
    s.m t)) ∧
  (∀ (s : State) (init : Init) (v low : Word), s.m.serving = true → s.m.journalOn = false → init.wf = true → low =
    (SMap.find s.m.stage (latchKey init Reg.HOST_BAR4_BASE_LO)).getD 0#32 → low.toNat / 0x10000 * 0x10000 +
    0x100000000 * fget Fields.HOST_BAR4_BASE_HI.BASE_H v ≤ 0x700000000 → Answers (.bar4BaseWrite init v) s (fun t =>
    t.bar4Addr 0 = low.toNat / 0x10000 * 0x10000 + 0x100000000 * fget Fields.HOST_BAR4_BASE_HI.BASE_H v ∧ t.bar4Group
    = fget Fields.HOST_BAR4_BASE_HI.GROUP v ∧ t.outs = s.m.outs ∧ SameMemory s.m t ∧ SameRegs [Reg.HOST_BAR4_BASE_LO,
    Reg.HOST_BAR4_BASE_HI] s.m t)) ∧
  (∀ (s : State) (init : Init) (v low : Word), s.m.serving = true → s.m.journalOn = false → init.wf = true → low =
    (SMap.find s.m.stage (latchKey init Reg.HOST_BAR4_BASE_LO)).getD 0#32 → 0x700000000 < low.toNat / 0x10000 *
    0x10000 + 0x100000000 * fget Fields.HOST_BAR4_BASE_HI.BASE_H v → Answers (.bar4BaseWrite init v) s (fun t =>
    t.flag Reg.HOST_ERR Fields.HOST_ERR.BAR4_RANGE = true ∧ t.outs = s.m.outs ∧ SameMemory s.m t ∧ SameRegs
    [Reg.HOST_ERR, Reg.HOST_ERR_INFO] s.m t)) ∧
  (∀ (s : State) (init : Init) (c : Nat) (v : Word), s.m.serving = true → s.m.journalOn = false → init.wf = true → c <
    64 → s.m.cqOn c = false → 4 ≤ fget Fields.HOST_CQ_CFG.SIZE_LOG2 v → fget Fields.HOST_CQ_CFG.SIZE_LOG2 v ≤ 16 →
    Answers (.cqEnable init c v) s (fun t => t.cqOn c = true ∧ t.rd (Reg.HOST_CQ_CFG c) Fields.HOST_CQ_CFG.SIZE_LOG2 =
    fget Fields.HOST_CQ_CFG.SIZE_LOG2 v ∧ (t.cq c).head = 0 ∧ t.rd (Reg.HOST_CQ_STATE c) Fields.HOST_CQ_STATE.TAIL = 0
    ∧ t.flag (Reg.HOST_CQ_STATE c) Fields.HOST_CQ_STATE.PHASE = true ∧ t.outs = s.m.outs ∧ SameMemory s.m t ∧ SameRegs
    [Reg.HOST_CQ_CFG c, Reg.HOST_CQ_STATE c] s.m t)) ∧
  (∀ (s : State) (init : Init) (c : Nat) (v : Word), s.m.serving = true → s.m.journalOn = false → init.wf = true → c <
    64 → s.m.cqOn c = false → (fget Fields.HOST_CQ_CFG.SIZE_LOG2 v < 4 ∨ 16 < fget Fields.HOST_CQ_CFG.SIZE_LOG2 v) →
    Answers (.cqEnable init c v) s (fun t => t.cqOn c = false ∧ t.flag Reg.HOST_ERR Fields.HOST_ERR.CTX_REFUSED = true
    ∧ t.flag Reg.ERR_ACCESS Fields.ERR_ACCESS.WR_REFUSED = true ∧ t.cqs = s.m.cqs ∧ SameMemory s.m t ∧ SameRegsPost
    [Reg.HOST_ERR, Reg.HOST_ERR_INFO] s.m t))

/-- A group or unit is disabled, flushed and enabled; PRIV is set within its limit of 128; cores are held and
  released, kicked and checked. Every other register stays. -/
def Obligations.HatchAndCoreCommands : Prop :=
  (∀ (s : State) (init : Init) (g : Nat), s.m.serving = true → s.m.journalOn = false → init.wf = true → g < 64 →
    s.m.flag (Reg.HAT_GRP_CFG g) Fields.HAT_GRP_CFG.ENABLE = true → s.m.seqs = [] → s.m.scores = [] → Answers
    (.groupDisable init g) s (fun t => t.flag (Reg.HAT_GRP_CFG g) Fields.HAT_GRP_CFG.ENABLE = false ∧ t.rd
    (Reg.HAT_GRP_CFG g) Fields.HAT_GRP_CFG.WEIGHT = s.m.rd (Reg.HAT_GRP_CFG g) Fields.HAT_GRP_CFG.WEIGHT ∧ t.queues =
    s.m.queues ∧ t.outs = s.m.outs ∧ SameMemory s.m t ∧ SameRegs [Reg.HAT_GRP_CFG g] s.m t)) ∧
  (∀ (s : State) (init : Init) (g n : Nat) (j : Job), s.m.serving = true → s.m.journalOn = false → init.wf = true → g
    < 64 → n < 32 → s.m.flag (Reg.HAT_GRP_CFG g) Fields.HAT_GRP_CFG.ENABLE = true → (s.m.seq n).job = some j → j.group
    = g → (s.m.seq n).mirror = false → (s.m.seq n).live = true → (s.m.seq n).ended = false → (s.m.seq n).post = none →
    (s.m.seq n).request = none → s.m.scores = [] → Answers (.groupDisable init g) s (fun t => (t.seq n).request = some
    stUNIT_DISABLED ∧ t.flag (Reg.HAT_GRP_CFG g) Fields.HAT_GRP_CFG.ENABLE = false ∧ SameMemory s.m t)) ∧
  (∀ (s : State) (init : Init) (g c i k : Nat), s.m.serving = true → s.m.journalOn = false → init.wf = true → g < 64 →
    c < 16 → s.m.flag (Reg.HAT_GRP_CFG g) Fields.HAT_GRP_CFG.ENABLE = true → (s.m.score c).step = some (i, k) →
    (s.m.nodeJob i k).group = g → Answers (.groupDisable init g) s (fun t => (t.score c).reqDrain = true ∧ (t.score
    c).step = some (i, k) ∧ t.flag (Reg.HAT_GRP_CFG g) Fields.HAT_GRP_CFG.ENABLE = false ∧ t.gddr = s.m.gddr)) ∧
  (∀ (s : State) (init : Init) (g weight q : Nat), s.m.serving = true → s.m.journalOn = false → init.wf = true → g <
    64 → weight < 256 → q / 64 = g → s.m.hat.insts = [] → s.m.scores = [] → Answers (.groupDisableFlush init g weight)
    s (fun t => t.flag (Reg.HAT_GRP_CFG g) Fields.HAT_GRP_CFG.ENABLE = false ∧ t.rd (Reg.HAT_GRP_CFG g)
    Fields.HAT_GRP_CFG.WEIGHT = weight ∧ (t.queue q).onchip = [] ∧ SameMemory s.m t)) ∧
  (∀ (s : State) (init : Init) (g weight : Nat), s.m.serving = true → s.m.journalOn = false → init.wf = true → g < 64
    → weight < 256 → s.m.flag (Reg.HAT_GRP_CFG g) Fields.HAT_GRP_CFG.ENABLE = false → Answers (.groupEnable init g
    weight) s (fun t => t.flag (Reg.HAT_GRP_CFG g) Fields.HAT_GRP_CFG.ENABLE = true ∧ t.rd (Reg.HAT_GRP_CFG g)
    Fields.HAT_GRP_CFG.WEIGHT = weight ∧ (∀ c : Nat, c < 9 → t.hat.deficitOf c g = 0) ∧ t.queues = s.m.queues ∧ t.outs
    = s.m.outs ∧ SameMemory s.m t ∧ SameRegs [Reg.HAT_GRP_CFG g] s.m t)) ∧
  (∀ (s : State) (init : Init) (c u : Nat), s.m.serving = true → s.m.journalOn = false → init.wf = true → c = s.m.rd
    Reg.HAT_USEL Fields.HAT_USEL.CLASS → u = s.m.rd Reg.HAT_USEL Fields.HAT_USEL.INDEX → unitExists c u = true → c ≠ 1
    → c ≠ 8 → Answers (.unitDisable init) s (fun t => t.unitDisabled c u = true ∧ t.queues = s.m.queues ∧ t.outs =
    s.m.outs ∧ SameMemory s.m t ∧ SameRegs [] s.m t)) ∧
  (∀ (s : State) (init : Init) (u : Nat), s.m.serving = true → s.m.journalOn = false → init.wf = true → s.m.rd
    Reg.HAT_USEL Fields.HAT_USEL.CLASS = 1 → u = s.m.rd Reg.HAT_USEL Fields.HAT_USEL.INDEX → unitExists 1 u = true →
    (s.m.seq u).mirror = false → (s.m.seq u).live = true → (s.m.seq u).ended = false → (s.m.seq u).post = none →
    (s.m.seq u).request = none → Answers (.unitDisable init) s (fun t => t.unitDisabled 1 u = true ∧ t.seq u =
    { s.m.seq u with request := some stUNIT_DISABLED, reqRank := stopRank stUNIT_DISABLED } ∧ t.outs = s.m.outs ∧
    SameMemory s.m t ∧ SameRegs [] s.m t)) ∧
  (∀ (s : State) (init : Init) (c u : Nat), s.m.serving = true → s.m.journalOn = false → init.wf = true → c = s.m.rd
    Reg.HAT_USEL Fields.HAT_USEL.CLASS → u = s.m.rd Reg.HAT_USEL Fields.HAT_USEL.INDEX → unitExists c u = false →
    Answers (.unitDisable init) s (fun t => t.flag Reg.HAT_ERR Fields.HAT_ERR.UCMD_REFUSED = true ∧ t.hat = s.m.hat ∧
    t.outs = s.m.outs ∧ SameMemory s.m t ∧ SameRegs [Reg.HAT_ERR] s.m t)) ∧
  (∀ (s : State) (init : Init) (c u : Nat), s.m.serving = true → s.m.journalOn = false → init.wf = true → c = s.m.rd
    Reg.HAT_USEL Fields.HAT_USEL.CLASS → u = s.m.rd Reg.HAT_USEL Fields.HAT_USEL.INDEX → unitExists c u = true → c ≠ 1
    → c ≠ 8 → s.m.queues = [] → Answers (.unitDisableFlush init) s (fun t => t.unitDisabled c u = true ∧ t.outs =
    s.m.outs ∧ SameMemory s.m t ∧ SameRegs [] s.m t)) ∧
  (∀ (s : State) (init : Init) (c u : Nat), s.m.serving = true → s.m.journalOn = false → init.wf = true → c = s.m.rd
    Reg.HAT_USEL Fields.HAT_USEL.CLASS → u = s.m.rd Reg.HAT_USEL Fields.HAT_USEL.INDEX → unitExists c u = true →
    Answers (.unitEnable init) s (fun t => t.unitDisabled c u = false ∧ t.inMchk (mchkUnit c u).1 (mchkUnit c u).2 =
    false ∧ t.queues = s.m.queues ∧ t.outs = s.m.outs ∧ SameMemory s.m t ∧ SameRegs [] s.m t)) ∧
  (∀ (s : State) (init : Init) (q : Nat), s.m.serving = true → s.m.journalOn = false → init.wf = true → q < 4096 →
    s.m.queueHolds q = false → s.m.privCount < 128 → Answers (.privSet init q) s (fun t => t.flag (Reg.HAT_Q_CFG q)
    Fields.HAT_Q_CFG.PRIV = true ∧ t.rd (Reg.HAT_Q_CFG q) Fields.HAT_Q_CFG.PRIO = s.m.rd (Reg.HAT_Q_CFG q)
    Fields.HAT_Q_CFG.PRIO ∧ t.outs = s.m.outs ∧ SameMemory s.m t ∧ SameRegs [Reg.HAT_Q_CFG q] s.m t)) ∧
  (∀ (s : State) (init : Init) (q : Nat), s.m.serving = true → s.m.journalOn = false → init.wf = true → q < 4096 →
    s.m.flag (Reg.HAT_Q_CFG q) Fields.HAT_Q_CFG.PRIV = false → s.m.queueHolds q = false → 128 ≤ s.m.privCount →
    Answers (.privSet init q) s (fun t => t.flag Reg.HAT_ERR Fields.HAT_ERR.PRIV_LIMIT = true ∧ t.reg (Reg.HAT_Q_CFG
    q) = s.m.reg (Reg.HAT_Q_CFG q) ∧ t.outs = s.m.outs ∧ SameMemory s.m t ∧ SameRegs [Reg.HAT_ERR] s.m t)) ∧
  (∀ (s : State) (init : Init) (n : Nat), s.m.serving = true → s.m.journalOn = false → init.wf = true → n < 16 →
    (s.m.score n).step = none → (s.m.score n).susp = [] → Answers (.scoreHold init n) s (fun t => t.flag
    (Reg.MCS_SCORE_CTRL n) Fields.MCS_SCORE_CTRL.HOLD = true ∧ (t.score n).booted = false ∧ t.outs = s.m.outs ∧
    SameMemory s.m t ∧ SameRegs [Reg.MCS_SCORE_CTRL n] s.m t)) ∧
  (∀ (s : State) (init : Init) (n : Nat), s.m.serving = true → s.m.journalOn = false → init.wf = true → n < 16 →
    (s.m.score n).step = none → (s.m.score n).susp = [] → Answers (.scoreGo init n) s (fun t => t.flag
    (Reg.MCS_SCORE_CTRL n) Fields.MCS_SCORE_CTRL.HOLD = false ∧ t.flag (Reg.MCS_SCORE_CTRL n) Fields.MCS_SCORE_CTRL.GO
    = true ∧ t.scores = s.m.scores ∧ t.outs = s.m.outs ∧ SameMemory s.m t ∧ SameRegs [Reg.MCS_SCORE_CTRL n] s.m t)) ∧
  (∀ (s : State) (init : Init) (n : Nat), s.m.serving = true → s.m.journalOn = false → init.wf = true → n < 4 →
    Answers (.kick init n) s (fun t => (t.mcore n).kickAt = s.m.ttime ∧ t.outs = s.m.outs ∧ SameMemory s.m t ∧
    SameRegs [Reg.MCS_MCORE_STATUS n] s.m t)) ∧
  (∀ (s : State) (init : Init) (n : Nat), s.m.serving = true → s.m.journalOn = false → init.wf = true → n < 4 →
    Answers (.mcoreHold init n) s (fun t => t.flag (Reg.MCS_MCORE_CTRL n) Fields.MCS_MCORE_CTRL.HOLD = true ∧ t.flag
    (Reg.MCS_MCORE_STATUS n) Fields.MCS_MCORE_STATUS.RUNNING = false ∧ t.outs = s.m.outs ∧ SameMemory s.m t ∧ SameRegs
    [Reg.MCS_MCORE_CTRL n, Reg.MCS_MCORE_STATUS n] s.m t)) ∧
  (∀ (s : State) (init : Init) (n : Nat), s.m.serving = true → s.m.journalOn = false → init.wf = true → n < 4 →
    Answers (.mcoreGo init n) s (fun t => t.flag (Reg.MCS_MCORE_CTRL n) Fields.MCS_MCORE_CTRL.HOLD = false ∧ t.flag
    (Reg.MCS_MCORE_CTRL n) Fields.MCS_MCORE_CTRL.GO = true ∧ t.flag (Reg.MCS_MCORE_CTRL n)
    Fields.MCS_MCORE_CTRL.WDOG_EN = s.m.flag (Reg.MCS_MCORE_CTRL n) Fields.MCS_MCORE_CTRL.WDOG_EN ∧ (s.m.flag
    (Reg.MCS_MCORE_CTRL n) Fields.MCS_MCORE_CTRL.HOLD = true → t.inMchk srcMCS (16 + n) = false) ∧ t.outs = s.m.outs ∧
    SameMemory s.m t ∧ SameRegs [Reg.MCS_MCORE_CTRL n] s.m t)) ∧
  (∀ (s : State) (init : Init), s.m.serving = true → s.m.journalOn = false → init.wf = true → s.m.anySeqRunning =
    false → Answers (.check init) s (fun t => t.flag Reg.MCS_STATUS Fields.MCS_STATUS.CHECKING = true ∧ t.sys.reload =
    false ∧ t.outs = s.m.outs ∧ SameMemory s.m t ∧ SameRegs [Reg.MCS_STATUS] s.m t)) ∧
  (∀ (s : State) (init : Init), s.m.serving = true → s.m.journalOn = false → init.wf = true → s.m.anySeqRunning =
    false → Answers (.reload init) s (fun t => t.flag Reg.MCS_STATUS Fields.MCS_STATUS.CHECKING = true ∧ t.sys.reload
    = true ∧ t.outs = s.m.outs ∧ SameMemory s.m t ∧ SameRegs [Reg.MCS_STATUS] s.m t)) ∧
  (∀ (s : State) (init : Init), s.m.serving = true → s.m.journalOn = false → init.wf = true → s.m.anySeqRunning = true
    → Answers (.check init) s (fun t => t.flag Reg.ERR_ACCESS Fields.ERR_ACCESS.WR_REFUSED = true ∧ t.sys = s.m.sys ∧
    SameMemory s.m t ∧ SameRegsPost [] s.m t))

/-- PAUSE asks a burst to pause and its clear resumes it; HALT asks it to stop; CLR_MCHK ends a machine check; a
  period is limited to its range; a consumed count is taken or refused with RD_RANGE; FCNT restarts the count of
  fails. -/
def Obligations.SequencerCommands : Prop :=
  (∀ (s : State) (init : Init) (n : Nat), s.m.serving = true → s.m.journalOn = false → init.wf = true → n < 32 →
    (s.m.pairProfile = true → init = .host → n < 16) → (s.m.seq n).live = true → (s.m.seq n).paused = false → Answers
    (.pause init n) s (fun t => t.flag (Reg.SEQ_CTRL n) Fields.SEQ_CTRL.PAUSE = true ∧ t.flag (Reg.SEQ_STATUS n)
    Fields.SEQ_STATUS.PAUSE_PENDING = true ∧ t.seqs = s.m.seqs ∧ t.outs = s.m.outs ∧ SameMemory s.m t ∧ SameRegs
    [Reg.SEQ_CTRL n, Reg.SEQ_STATUS n] s.m t)) ∧
  (∀ (s : State) (init : Init) (n : Nat), s.m.serving = true → s.m.journalOn = false → init.wf = true → init = .host →
    16 ≤ n → n < 32 → s.m.pairProfile = true → Answers (.pause init n) s (fun t => t.flag Reg.ERR_ACCESS
    Fields.ERR_ACCESS.WR_REFUSED = true ∧ t.seqs = s.m.seqs ∧ SameMemory s.m t ∧ SameRegsPost [] s.m t)) ∧
  (∀ (s : State) (init : Init) (n : Nat), s.m.serving = true → s.m.journalOn = false → init.wf = true → n < 32 →
    (s.m.pairProfile = true → init = .host → n < 16) → (s.m.seq n).paused = false → Answers (.pauseClear init n) s
    (fun t => t.flag (Reg.SEQ_CTRL n) Fields.SEQ_CTRL.PAUSE = false ∧ t.flag (Reg.SEQ_STATUS n)
    Fields.SEQ_STATUS.PAUSE_PENDING = false ∧ t.seqs = s.m.seqs ∧ t.outs = s.m.outs ∧ SameMemory s.m t ∧ SameRegs
    [Reg.SEQ_CTRL n, Reg.SEQ_STATUS n] s.m t)) ∧
  (∀ (s : State) (init : Init) (n : Nat), s.m.serving = true → s.m.journalOn = false → init.wf = true → n < 32 →
    (s.m.pairProfile = true → init = .host → n < 16) → (s.m.seq n).paused = true → 0 < (s.m.seq n).num → Answers
    (.pauseClear init n) s (fun t => t.seqState n = 2 ∧ t.seq n =
    { s.m.seq n with paused := false, resume := some (s.m.ttime - (s.m.seq n).sclk0 + 16), whold := (s.m.seq n).hold }
    ∧ SameMemory s.m t ∧ SameRegs [Reg.SEQ_CTRL n, Reg.SEQ_STATUS n] s.m t)) ∧
  (∀ (s : State) (init : Init) (n : Nat), s.m.serving = true → s.m.journalOn = false → init.wf = true → n < 32 →
    (s.m.pairProfile = true → init = .host → n < 16) → ((s.m.seq n).paused = true → s.m.flag (Reg.SEQ_CTRL n)
    Fields.SEQ_CTRL.PAUSE = true) → (s.m.seq n).live = true → (s.m.seq n).ended = false → (s.m.seq n).post = none →
    (s.m.seq n).request = none → Answers (.halt init n) s (fun t => t.seq n =
    { s.m.seq n with request := some stHALTED, reqRank := stopRank stHALTED } ∧ t.outs = s.m.outs ∧ SameMemory s.m t ∧
    SameRegs [Reg.SEQ_STATUS n] s.m t)) ∧
  (∀ (s : State) (init : Init) (n : Nat), s.m.serving = true → s.m.journalOn = false → init.wf = true → n < 32 →
    (s.m.pairProfile = true → init = .host → n < 16) → ((s.m.seq n).paused = true → s.m.flag (Reg.SEQ_CTRL n)
    Fields.SEQ_CTRL.PAUSE = true) → s.m.seqState n = 6 → Answers (.clrMchk init n) s (fun t => t.seqState n = 0 ∧
    t.reg (Reg.SEQ_MSTATE n) = 0#32 ∧ t.inMchk srcSEQ n = false ∧ t.outs = s.m.outs ∧ SameMemory s.m t ∧ SameRegs
    [Reg.SEQ_STATUS n, Reg.SEQ_MSTATE n] s.m t)) ∧
  (∀ (s : State) (init : Init) (n k : Nat) (v : Word), s.m.serving = true → s.m.journalOn = false → init.wf = true → n
    < 32 → k < 64 → (s.m.pairProfile = true → init = .host → n < 16) → s.m.seqState n = 0 → Answers (.tperWrite init n
    k v) s (fun t => t.rd (Reg.SEQ_TPER n k) Fields.SEQ_TPER.PERIOD = max 256 (min 131072000 (fget
    Fields.SEQ_TPER.PERIOD v)) ∧ t.outs = s.m.outs ∧ SameMemory s.m t ∧ SameRegs [Reg.SEQ_TPER n k] s.m t)) ∧
  (∀ (s : State) (init : Init) (n k : Nat) (v : Word), s.m.serving = true → s.m.journalOn = false → init.wf = true → n
    < 32 → k < 64 → s.m.seqState n ≠ 0 → Answers (.tperWrite init n k v) s (fun t => t.flag Reg.ERR_ACCESS
    Fields.ERR_ACCESS.WR_REFUSED = true ∧ SameMemory s.m t ∧ SameRegsPost [] s.m t)) ∧
  (∀ (s : State) (init : Init) (n : Nat) (v : Word), s.m.serving = true → s.m.journalOn = false → init.wf = true → n <
    32 → (s.m.ring n).mode ≠ 2 → (s.m.reg (Reg.SEQ_PRF_WR n) - v).toNat ≤ 1024 → Answers (.rdWrite init n v) s (fun t
    => t.reg (Reg.SEQ_PRF_RD n) = v ∧ t.outs = s.m.outs ∧ SameMemory s.m t ∧ SameRegs [Reg.SEQ_PRF_RD n] s.m t)) ∧
  (∀ (s : State) (init : Init) (n : Nat) (v : Word), s.m.serving = true → s.m.journalOn = false → init.wf = true → n <
    32 → (s.m.ring n).mode ≠ 2 → 1024 < (s.m.reg (Reg.SEQ_PRF_WR n) - v).toNat → Answers (.rdWrite init n v) s (fun t
    => t.flag Reg.SEQ_PRF_ERR Fields.SEQ_PRF_ERR.RD_RANGE = true ∧ t.outs = s.m.outs ∧ SameMemory s.m t ∧ SameRegs
    [Reg.SEQ_PRF_ERR] s.m t)) ∧
  (∀ (s : State) (init : Init) (n : Nat) (v : Word), s.m.serving = true → s.m.journalOn = false → init.wf = true → n <
    32 → (s.m.reg (Reg.SEQ_PRF_SWR n) - v).toNat ≤ s.m.spillCap n → Answers (.srdWrite init n v) s (fun t => t.reg
    (Reg.SEQ_PRF_SRD n) = v ∧ t.outs = s.m.outs ∧ SameMemory s.m t ∧ SameRegs [Reg.SEQ_PRF_SRD n] s.m t)) ∧
  (∀ (s : State) (init : Init) (ch : Nat) (v : Word), s.m.serving = true → s.m.journalOn = false → init.wf = true → ch
    < 256 → s.m.ownerRuns ch = false → Answers (.fcntWrite init ch v) s (fun t => t.reg (Reg.CH_FCNT (ch / 128) (ch %
    128)) = v ∧ t.reg (Reg.CH_FFIRST_LO (ch / 128) (ch % 128)) = 0xFFFFFFFF#32 ∧ t.reg (Reg.CH_FFIRST_HI (ch / 128)
    (ch % 128)) = 0xFFFFFFFF#32 ∧ t.outs = s.m.outs ∧ SameMemory s.m t ∧ SameRegs [Reg.CH_FCNT (ch / 128) (ch % 128),
    Reg.CH_FFIRST_LO (ch / 128) (ch % 128), Reg.CH_FFIRST_HI (ch / 128) (ch % 128)] s.m t))

/-- A host command enters the queue it names, due at the first sample edge at least 500 ns later, or is discarded with
  CMD_FULL where it is full; CONN, PMU_OFF and EN act on their channel alone. -/
def Obligations.LevelCommands : Prop :=
  (∀ (s : State) (init : Init) (d : Nat) (v : Word) (q : Nat), s.m.serving = true → s.m.journalOn = false → init.wf =
    true → d < 2 → q = 8 * d + fget Fields.CH_LQCMD.BANK v → s.m.isLost (1 + d) = false → (s.m.lq q).entries.length <
    16 → Answers (.chLqcmd init d v) s (fun t => (t.lq q).entries = (s.m.lq q).entries ++ [⟨.lv (fget
    Fields.CH_LQCMD.SET v) (fget Fields.CH_LQCMD.MASK v), (s.m.ttime + 1499) / 1000, false, none, none⟩] ∧ t.outs =
    s.m.outs ∧ SameMemory s.m t ∧ SameRegs [lqReg q] s.m t)) ∧
  (∀ (s : State) (init : Init) (d : Nat) (v : Word) (q : Nat), s.m.serving = true → s.m.journalOn = false → init.wf =
    true → d < 2 → q = 8 * d + fget Fields.CH_LQCMD.BANK v → s.m.isLost (1 + d) = false → 16 ≤ (s.m.lq
    q).entries.length → Answers (.chLqcmd init d v) s (fun t => t.flag (lqReg q) Fields.CH_LQ_STATUS.CMD_FULL = true ∧
    t.lqs = s.m.lqs ∧ t.outs = s.m.outs ∧ SameMemory s.m t ∧ SameRegs [lqReg q] s.m t)) ∧
  (∀ (s : State) (init : Init) (v : Word) (q : Nat), s.m.serving = true → s.m.journalOn = false → init.wf = true → q =
    16 + fget Fields.HV_LQCMD.QUEUE v → s.m.h0Up = true → s.m.isLost 3 = false → (s.m.lq q).entries.length < 16 →
    Answers (.hvLqcmd init v) s (fun t => (t.lq q).entries = (s.m.lq q).entries ++ [⟨.hv (fget Fields.HV_LQCMD.SET v)
    (fget Fields.HV_LQCMD.MASK v), (s.m.ttime + 1499) / 1000, false, none, none⟩] ∧ t.outs = s.m.outs ∧ SameMemory s.m
    t ∧ SameRegs [lqReg q] s.m t)) ∧
  (∀ (s : State) (init : Init) (v : Word), s.m.serving = true → s.m.journalOn = false → init.wf = true → s.m.h0Up =
    true → s.m.isLost 3 = false → (s.m.lq 20).entries.length < 16 → Answers (.relayLqcmd init v) s (fun t => (t.lq
    20).entries = (s.m.lq 20).entries ++ [⟨.relay (fget Fields.HV_LQCMD.SET v), (s.m.ttime + 1499) / 1000, false,
    none, none⟩] ∧ t.outs = s.m.outs ∧ SameMemory s.m t ∧ SameRegs [lqReg 20] s.m t)) ∧
  (∀ (s : State) (init : Init) (ch : Nat) (on : Bool), s.m.serving = true → s.m.journalOn = false → init.wf = true →
    ch < 256 → s.m.ownerRuns ch = false → s.m.calScoped (ch / 128) = false → (on = true → s.m.shadowers ch = []) →
    Answers (.connWrite init ch on) s (fun t => t.flag (Reg.CH_LCTRL (ch / 128) (ch % 128)) Fields.CH_LCTRL.CONN = on
    ∧ t.flag (Reg.CH_LCTRL (ch / 128) (ch % 128)) Fields.CH_LCTRL.CLAMP_EN = s.m.flag (Reg.CH_LCTRL (ch / 128) (ch %
    128)) Fields.CH_LCTRL.CLAMP_EN ∧ t.lvs = s.m.lvs ∧ t.outs = s.m.outs ∧ SameMemory s.m t ∧ SameRegs [Reg.CH_LCTRL
    (ch / 128) (ch % 128)] s.m t)) ∧
  (∀ (s : State) (init : Init) (ch : Nat), s.m.serving = true → s.m.journalOn = false → init.wf = true → ch < 256 →
    s.m.measOn ch = false → s.m.calScoped (ch / 128) = false → Answers (.pmuOff init ch) s (fun t => (t.lv ch).pmu =
    none ∧ t.flag (Reg.CH_LSTAT (ch / 128) (ch % 128)) Fields.CH_LSTAT.PMU_ON = false ∧ t.outs = s.m.outs ∧ SameMemory
    s.m t ∧ SameRegs [Reg.CH_LSTAT (ch / 128) (ch % 128)] s.m t)) ∧
  (∀ (s : State) (init : Init) (h : Nat), s.m.serving = true → s.m.journalOn = false → init.wf = true → h < 32 →
    s.m.calScoped 2 = false → s.m.outputsReady = true → s.m.hvEnabled h = false → s.m.clampSum h 8 + hvIclamp (s.m.hv
    h).w1 ≤ 800 → Answers (.hvEnableWrite init h true) s (fun t => t.hvEnabled h = true ∧ t.hvs = s.m.hvs ∧ t.outs =
    s.m.outs ∧ SameMemory s.m t ∧ SameRegs [Reg.HV_CTRL h, Reg.PWR_HV_MON] s.m t)) ∧
  (∀ (s : State) (init : Init) (h : Nat), s.m.serving = true → s.m.journalOn = false → init.wf = true → h < 32 →
    s.m.calScoped 2 = false → s.m.outputsReady = true → s.m.hvEnabled h = false → 800 < s.m.clampSum h 8 + hvIclamp
    (s.m.hv h).w1 → Answers (.hvEnableWrite init h true) s (fun t => t.hvEnabled h = false ∧ t.flag Reg.PWR_EVENT
    Fields.PWR_EVENT.HV_BUDGET = true ∧ t.hvs = s.m.hvs ∧ SameMemory s.m t ∧ SameRegsPost [Reg.PWR_EVENT] s.m t)) ∧
  (∀ (s : State) (init : Init) (h : Nat), s.m.serving = true → s.m.journalOn = false → init.wf = true → h < 32 →
    s.m.calScoped 2 = false → (s.m.hv h).rc = none → Answers (.hvEnableWrite init h false) s (fun t => t.hvEnabled h =
    false ∧ t.hvs = s.m.hvs ∧ t.outs = s.m.outs ∧ SameMemory s.m t ∧ SameRegs [Reg.HV_CTRL h, Reg.PWR_HV_MON] s.m t))

/-- GO latches a jump, STOP ends or stops a playback, SWTRIG and AQ_SWTRIG raise source 0x60, AS commands queue,
  TRIG_STATE sets levels and FIRE pulses SYNCOUT for 100 ns. Every other register and every byte of memory stays. -/
def Obligations.WaveAndTriggerCommands : Prop :=
  (∀ (s : State) (init : Init) (n t0 : Nat) (v : Word), s.m.serving = true → s.m.journalOn = false → init.wf = true →
    n < 8 → (s.m.wave n).t0 = some t0 → (s.m.wave n).ended = none → nbit (byteAt (s.m.segDesc n (fget
    Fields.DDS_JUMP.SEG v)) 7) 0 = true → Answers (.jumpGo init n v) s (fun t => (t.wave n).jump.map (fun j => j.seg)
    = some (fget Fields.DDS_JUMP.SEG v) ∧ t.flag (Reg.DDS_STATUS n) Fields.DDS_STATUS.JUMP_PENDING = true ∧ t.rd
    (Reg.DDS_JUMP n) Fields.DDS_JUMP.SEG = fget Fields.DDS_JUMP.SEG v ∧ t.outs = s.m.outs ∧ SameMemory s.m t ∧
    SameRegs [Reg.DDS_JUMP n, Reg.DDS_STATUS n] s.m t)) ∧
  (∀ (s : State) (init : Init) (n t0 : Nat) (v : Word), s.m.serving = true → s.m.journalOn = false → init.wf = true →
    n < 8 → (s.m.wave n).t0 = some t0 → (s.m.wave n).ended = none → nbit (byteAt (s.m.segDesc n (fget
    Fields.DDS_JUMP.SEG v)) 7) 0 = false → Answers (.jumpGo init n v) s (fun t => t.flag (Reg.DDS_STATUS n)
    Fields.DDS_STATUS.JUMP_BAD = true ∧ t.waves = s.m.waves ∧ t.outs = s.m.outs ∧ SameMemory s.m t ∧ SameRegs
    [Reg.DDS_JUMP n, Reg.DDS_STATUS n] s.m t)) ∧
  (∀ (s : State) (init : Init) (n t0 : Nat), s.m.serving = true → s.m.journalOn = false → init.wf = true → n < 8 →
    s.m.ddsState n ≠ 1 → (s.m.wave n).t0 = some t0 → (s.m.wave n).ended = none → Answers (.ddsStop init n) s (fun t =>
    t.wave n = { s.m.wave n with stop := true } ∧ t.ddsState n = 3 ∧ t.outs = s.m.outs ∧ SameMemory s.m t ∧ SameRegs
    [Reg.DDS_STATUS n] s.m t)) ∧
  (∀ (s : State) (init : Init) (n i : Nat) (j : Job), s.m.serving = true → s.m.journalOn = false → init.wf = true → n
    < 8 → s.m.ddsState n = 1 → (s.m.wave n).job = some j → j.inst = some i → Answers (.ddsStop init n) s (fun t =>
    t.ddsState n = 0 ∧ t.hat.reports = s.m.hat.reports ++ [⟨i, j.node, 0, (s.m.wave n).result, false, 0, true⟩] ∧
    t.outs = s.m.outs ∧ SameMemory s.m t ∧ SameRegs [Reg.DDS_STATUS n] s.m t)) ∧
  (∀ (s : State) (init : Init) (n : Nat), s.m.serving = true → s.m.journalOn = false → init.wf = true → n < 8 →
    s.m.ddsState n = 1 → (s.m.wave n).trig = none → (s.m.wave n).t0 = none → wpStart (s.m.wave n).args = 1 → wpTsrc
    (s.m.wave n).args = 0x60 → Answers (.swtrig init n) s (fun t => t.wave n =
    { s.m.wave n with trig := some (s.m.ttime + 48) } ∧ t.outs = s.m.outs ∧ SameMemory s.m t ∧ SameRegs [] s.m t)) ∧
  (∀ (s : State) (init : Init) (mask n : Nat) (x : Acq), s.m.serving = true → s.m.journalOn = false → init.wf = true →
    mask < 256 → n < 8 → nbit mask n = true → s.m.acq n = some x → aqTsrc x.args = 0x60 → x.trig = none → x.start <
    s.m.ttime + 100 → aqPre x.args ≤ (s.m.ttime - x.start + 99) / 100 / 2 ^ aqK x.args → Answers (.aqSwtrig init mask)
    s (fun t => (t.acq n).map (fun y => y.trig) = some (some ((s.m.ttime - x.start + 99) / 100 / 2 ^ aqK x.args,
    x.start + 100 * ((s.m.ttime - x.start + 99) / 100) - s.m.ttime, (s.m.ttime - x.start + 99) / 100 % 2 ^ aqK x.args,
    s.m.ttime)) ∧ t.outs = s.m.outs ∧ SameMemory s.m t ∧ SameRegs ((List.range 8).map Reg.AQ_STATUS) s.m t)) ∧
  (∀ (s : State) (init : Init), s.m.serving = true → s.m.journalOn = false → init.wf = true → s.m.flag
    Reg.WAVE_SYNC_CTRL Fields.WAVE_SYNC_CTRL.OUT_SRC = false → Answers (.fire init) s (fun t => t.outs = .syncout
    false (s.m.edgeAt 40 s.m.ttime + 100) :: .syncout true (s.m.edgeAt 40 s.m.ttime) :: s.m.outs ∧ SameMemory s.m t ∧
    SameRegs [] s.m t)) ∧
  (∀ (s : State) (init : Init) (n : Nat) (v : Word), s.m.serving = true → s.m.journalOn = false → init.wf = true → n <
    8 → s.m.calScoped 2 = false → s.m.asFull n = false → Answers (.asCmd init n v) s (fun t => (t.asl n).queue =
    (s.m.asl n).queue ++ [⟨fget Fields.AS_CMD.EN v, fget Fields.AS_CMD.VRANGE v, if fget Fields.AS_CMD.IC_APPLY v = 1
    then some (fget Fields.AS_CMD.ICLAMP v) else none, (s.m.ttime + 1499) / 1000, false, false⟩] ∧ t.rd (Reg.AS_STATE
    n) Fields.AS_STATE.QCOUNT = (s.m.asl n).queue.length + 1 ∧ t.outs = s.m.outs ∧ SameMemory s.m t ∧ SameRegs
    [Reg.AS_STATE n] s.m t)) ∧
  (∀ (s : State) (init : Init) (n : Nat) (v : Word), s.m.serving = true → s.m.journalOn = false → init.wf = true → n <
    8 → s.m.calScoped 2 = false → s.m.asFull n = true → Answers (.asCmd init n v) s (fun t => t.flag (Reg.AS_STATE n)
    Fields.AS_STATE.CMD_FULL = true ∧ t.ass = s.m.ass ∧ t.outs = s.m.outs ∧ SameMemory s.m t ∧ SameRegs [Reg.AS_STATE
    n] s.m t)) ∧
  (∀ (s : State) (init : Init) (l : Nat), s.m.serving = true → s.m.journalOn = false → init.wf = true → l < 8 →
    Answers (.trigSet init l) s (fun t => t.trg.level = putBit s.m.trg.level l true ∧ SMap.find t.trg.setAt l = some
    (s.m.ttime + 20) ∧ SameMemory s.m t ∧ SameRegs [] s.m t)) ∧
  (∀ (s : State) (init : Init) (l : Nat), s.m.serving = true → s.m.journalOn = false → init.wf = true → l < 8 →
    SMap.find s.m.trg.setAt l ≠ some (s.m.ttime + 20) → Answers (.trigClr init l) s (fun t => t.trg.level = putBit
    s.m.trg.level l false ∧ t.trg.setAt = s.m.trg.setAt ∧ SameMemory s.m t ∧ SameRegs [] s.m t)) ∧
  (∀ (s : State) (init : Init) (l : Nat), s.m.serving = true → s.m.journalOn = false → init.wf = true → l < 8 →
    SMap.find s.m.trg.setAt l = some (s.m.ttime + 20) → Answers (.trigClr init l) s (fun t => t.trg = s.m.trg ∧ t.outs
    = s.m.outs ∧ SameMemory s.m t ∧ SameRegs [] s.m t))

/-- A source change waits or is withdrawn; TRIM, INC, ADJ, SET and CLR act or are refused; a read of FRAC latches its
  domain; GO captures; receive and transmit buffers move by words, frames and flushes. -/
def Obligations.TimeCommands : Prop :=
  (∀ (s : State) (init : Init) (refin : Bool), s.m.serving = true → s.m.journalOn = false → init.wf = true →
    s.m.timeIdle = true → s.m.rd Reg.TB_STATUS Fields.TB_STATUS.SRC_ACTIVE ≠ (if refin then 1 else 0) → Answers
    (.timebaseSrcWrite init refin) s (fun t => t.rd Reg.TB_CTRL Fields.TB_CTRL.SRC = (if refin then 1 else 0) ∧ t.flag
    Reg.TB_STATUS Fields.TB_STATUS.PENDING = true ∧ t.tim.switchTo = some (if refin then 1 else 0) ∧ t.outs = s.m.outs
    ∧ SameMemory s.m t ∧ SameRegs [Reg.TB_CTRL, Reg.TB_STATUS] s.m t)) ∧
  (∀ (s : State) (init : Init) (refin : Bool), s.m.serving = true → s.m.journalOn = false → init.wf = true →
    s.m.timeIdle = true → s.m.rd Reg.TB_STATUS Fields.TB_STATUS.SRC_ACTIVE = (if refin then 1 else 0) → Answers
    (.timebaseSrcWrite init refin) s (fun t => t.rd Reg.TB_CTRL Fields.TB_CTRL.SRC = (if refin then 1 else 0) ∧ t.flag
    Reg.TB_STATUS Fields.TB_STATUS.PENDING = false ∧ t.tim.switchTo = none ∧ t.outs = s.m.outs ∧ SameMemory s.m t ∧
    SameRegs [Reg.TB_CTRL, Reg.TB_STATUS] s.m t)) ∧
  (∀ (s : State) (init : Init) (refin : Bool), s.m.serving = true → s.m.journalOn = false → init.wf = true →
    s.m.timeIdle = false → Answers (.timebaseSrcWrite init refin) s (fun t => t.flag Reg.ERR_ACCESS
    Fields.ERR_ACCESS.WR_REFUSED = true ∧ t.tim = s.m.tim ∧ SameMemory s.m t ∧ SameRegsPost [] s.m t)) ∧
  (∀ (s : State) (init : Init) (v : Word), s.m.serving = true → s.m.journalOn = false → init.wf = true → s.m.calOn =
    false → Answers (.tbTrimWrite init v) s (fun t => t.rd Reg.TB_TRIM Fields.TB_TRIM.TRIM = fget Fields.TB_TRIM.TRIM
    v ∧ t.outs = s.m.outs ∧ SameMemory s.m t ∧ SameRegs [Reg.TB_TRIM] s.m t)) ∧
  (∀ (s : State) (init : Init) (k x : Nat) (v : Word), s.m.serving = true → s.m.journalOn = false → init.wf = true → k
    < 4 → x = ((SMap.find s.m.stage (latchKey init (Reg.TD_INC_LO k))).getD 0#32).toNat + 2 ^ 32 * v.toNat →
    17171279250 ≤ x → x ≤ 17188459118 → Answers (.incWrite init k v) s (fun t => t.rd64 (Reg.TD_INC_LO k) = x ∧ t.outs
    = s.m.outs ∧ SameMemory s.m t ∧ SameRegs [Reg.TD_INC_LO k, Reg.TD_INC_HI k] s.m t)) ∧
  (∀ (s : State) (init : Init) (k x : Nat) (v : Word), s.m.serving = true → s.m.journalOn = false → init.wf = true → k
    < 4 → x = ((SMap.find s.m.stage (latchKey init (Reg.TD_INC_LO k))).getD 0#32).toNat + 2 ^ 32 * v.toNat → (x <
    17171279250 ∨ 17188459118 < x) → Answers (.incWrite init k v) s (fun t => t.flag (Reg.TD_STATUS k)
    Fields.TD_STATUS.INC_RANGE = true ∧ t.outs = s.m.outs ∧ SameMemory s.m t ∧ SameRegs [Reg.TD_STATUS k] s.m t)) ∧
  (∀ (s : State) (init : Init) (k : Nat) (v : Word) (a : Int), s.m.serving = true → s.m.journalOn = false → init.wf =
    true → k < 4 → a = signed 64 (((SMap.find s.m.stage (latchKey init (Reg.TD_ADJ_LO k))).getD 0#32).toNat + 2 ^ 32 *
    v.toNat) → a.natAbs ≤ s.m.domLimit k * 2 ^ 32 → 0 ≤ a → Answers (.adjWrite init k v) s (fun t => t.dom k =
    { s.m.dom k with remain := (s.m.dom k).remain - a.natAbs, step := (s.m.dom k).step + (a.natAbs - (s.m.dom k).remain) }
    ∧ t.flag (Reg.TD_STATUS k) Fields.TD_STATUS.SLEWING = decide (a.natAbs < (s.m.dom k).remain) ∧ t.outs = s.m.outs ∧
    SameMemory s.m t ∧ SameRegs [Reg.TD_STATUS k] s.m t)) ∧
  (∀ (s : State) (init : Init) (k : Nat) (v : Word) (a : Int), s.m.serving = true → s.m.journalOn = false → init.wf =
    true → k < 4 → a = signed 64 (((SMap.find s.m.stage (latchKey init (Reg.TD_ADJ_LO k))).getD 0#32).toNat + 2 ^ 32 *
    v.toNat) → a.natAbs ≤ s.m.domLimit k * 2 ^ 32 → a < 0 → Answers (.adjWrite init k v) s (fun t => t.dom k =
    { s.m.dom k with remain := (s.m.dom k).remain + a.natAbs } ∧ t.flag (Reg.TD_STATUS k) Fields.TD_STATUS.SLEWING =
    true ∧ t.outs = s.m.outs ∧ SameMemory s.m t ∧ SameRegs [Reg.TD_STATUS k] s.m t)) ∧
  (∀ (s : State) (init : Init) (k : Nat) (v : Word) (a : Int), s.m.serving = true → s.m.journalOn = false → init.wf =
    true → k < 4 → a = signed 64 (((SMap.find s.m.stage (latchKey init (Reg.TD_ADJ_LO k))).getD 0#32).toNat + 2 ^ 32 *
    v.toNat) → s.m.domLimit k * 2 ^ 32 < a.natAbs → Answers (.adjWrite init k v) s (fun t => t.dom k = s.m.dom k ∧
    t.flag (Reg.TD_STATUS k) Fields.TD_STATUS.JUMP_REFUSED = true ∧ t.flag Reg.TIME_EVENT
    Fields.TIME_EVENT.JUMP_REFUSED = true ∧ SameMemory s.m t ∧ SameRegsPost [Reg.TD_STATUS k, Reg.TIME_EVENT] s.m t)) ∧
  (∀ (s : State) (init : Init) (k : Nat), s.m.serving = true → s.m.journalOn = false → init.wf = true → k < 4 →
    s.m.domRunning k = false → Answers (.tdSet init k) s (fun t => (t.dom k).set = some (s.m.rd64 (Reg.TD_SET_SEC_LO
    k), min 999999999 (s.m.rd (Reg.TD_SET_NS k) Fields.TD_SET_NS.NS)) ∧ t.outs = s.m.outs ∧ SameMemory s.m t ∧
    SameRegs [] s.m t)) ∧
  (∀ (s : State) (init : Init) (k : Nat), s.m.serving = true → s.m.journalOn = false → init.wf = true → k < 4 →
    s.m.domRunning k = true → Answers (.tdSet init k) s (fun t => t.flag Reg.ERR_ACCESS Fields.ERR_ACCESS.WR_REFUSED =
    true ∧ t.tim = s.m.tim ∧ SameMemory s.m t ∧ SameRegsPost [] s.m t)) ∧
  (∀ (s : State) (init : Init) (k : Nat), s.m.serving = true → s.m.journalOn = false → init.wf = true → k < 4 →
    Answers (.tdClr init k) s (fun t => t.domRunning k = false ∧ t.tim = s.m.tim ∧ t.outs = s.m.outs ∧ SameMemory s.m
    t ∧ SameRegs [Reg.TD_STATUS k] s.m t)) ∧
  (∀ (s : State) (init : Init) (k : Nat), s.m.taking = true → init.wf = true → k < 4 → Answers (.fracRead init k) s
    (fun t => t.outs = .regRead (initKey init) (Reg.TD_FRAC k) (BitVec.ofNat 32 (s.m.dom k).frac) :: s.m.outs ∧
    SMap.find t.latch (latchKey init (Reg.TD_NS k)) = some (s.m.view (Reg.TD_NS k)) ∧ SMap.find t.latch (latchKey init
    (Reg.TD_SEC_LO k)) = some (s.m.view (Reg.TD_SEC_LO k)) ∧ SMap.find t.latch (latchKey init (Reg.TD_SEC_HI k)) =
    some (s.m.view (Reg.TD_SEC_HI k)) ∧ SameMemory s.m t ∧ SameRegs [] s.m t)) ∧
  (∀ (s : State) (init : Init), s.m.serving = true → s.m.journalOn = false → init.wf = true → snapLine (s.m.rd
    Reg.TIME_SNAP_CTRL Fields.TIME_SNAP_CTRL.SRC) = none → Answers (.snapshotGo init) s (fun t => t.rd64
    Reg.TIME_SNAP_TTIME_LO = s.m.ttime % 2 ^ 64 ∧ (∀ k : Nat, k < 4 → t.reg (Reg.TIME_SNAP_TD k 0) = BitVec.ofNat 32
    (s.m.dom k).frac ∧ t.reg (Reg.TIME_SNAP_TD k 1) = BitVec.ofNat 32 (s.m.dom k).ns) ∧ t.flag Reg.TIME_SNAP_STATUS
    Fields.TIME_SNAP_STATUS.DONE = true ∧ t.flag Reg.TIME_SNAP_STATUS Fields.TIME_SNAP_STATUS.ARMED = false ∧ t.flag
    Reg.TIME_EVENT Fields.TIME_EVENT.SNAP_DONE = true ∧ SameMemory s.m t ∧ SameRegsPost ([Reg.TIME_SNAP_STATUS,
    Reg.TIME_SNAP_TTIME_LO, Reg.TIME_SNAP_TTIME_HI, Reg.TIME_EVENT] ++ (List.range 4).flatMap (fun k => (List.range
    4).map (Reg.TIME_SNAP_TD k))) s.m t)) ∧
  (∀ (s : State) (init : Init) (l : Nat), s.m.serving = true → s.m.journalOn = false → init.wf = true → snapLine
    (s.m.rd Reg.TIME_SNAP_CTRL Fields.TIME_SNAP_CTRL.SRC) = some l → Answers (.snapshotGo init) s (fun t => t.flag
    Reg.TIME_SNAP_STATUS Fields.TIME_SNAP_STATUS.ARMED = true ∧ t.outs = s.m.outs ∧ SameMemory s.m t ∧ SameRegs
    [Reg.TIME_SNAP_STATUS] s.m t)) ∧
  (∀ (s : State) (init : Init) (p : Nat) (w : Word) (ws : List Word) (rest : List (List Word)), s.m.taking = true →
    init.wf = true → p < 2 → (s.m.tport p).rx = (w :: ws) :: rest → Answers (.rxdataRead init p) s (fun t => t.outs =
    .regRead (initKey init) (Reg.TP_RXDATA p) w :: s.m.outs ∧ (t.tport p).rx = (if ws.isEmpty then rest else ws ::
    rest) ∧ SameMemory s.m t ∧ SameRegs [Reg.TP_RXLEVEL p] s.m t)) ∧
  (∀ (s : State) (init : Init) (p : Nat), s.m.taking = true → init.wf = true → p < 2 → (s.m.tport p).rx = [] → Answers
    (.rxdataRead init p) s (fun t => t.outs = .regRead (initKey init) (Reg.TP_RXDATA p) 0#32 :: s.m.outs ∧ t.tim =
    s.m.tim ∧ SameMemory s.m t ∧ SameRegs [] s.m t)) ∧
  (∀ (s : State) (init : Init) (p : Nat), s.m.serving = true → s.m.journalOn = false → init.wf = true → p < 2 →
    Answers (.rxFlush init p) s (fun t => (t.tport p).rx = [] ∧ (t.tport p).txQueue = (s.m.tport p).txQueue ∧ t.rd
    (Reg.TP_RXLEVEL p) Fields.TP_RXLEVEL.BYTES = 0 ∧ t.outs = s.m.outs ∧ SameMemory s.m t ∧ SameRegs [Reg.TP_RXLEVEL
    p] s.m t)) ∧
  (∀ (s : State) (init : Init) (p len : Nat) (v : Word), s.m.serving = true → s.m.journalOn = false → init.wf = true →
    p < 2 → (s.m.tport p).txDead = false → (s.m.tport p).txSkip = 0 → (s.m.tport p).txHead = none → len = v.toNat %
    2048 → v.toNat / 2048 % 32 = 0 → v.toNat / 2 ^ 17 = 0 → 14 ≤ len → len ≤ 1518 → len ≤ 0x4000 - (s.m.tport
    p).txUsed → Answers (.txdataWrite init p v) s (fun t => t.tport p =
    { s.m.tport p with txHead := some v, txId := none, txData := [] } ∧ t.outs = s.m.outs ∧ SameMemory s.m t ∧
    SameRegs [Reg.TP_TXSPACE p] s.m t)) ∧
  (∀ (s : State) (init : Init) (p : Nat) (v h : Word), s.m.serving = true → s.m.journalOn = false → init.wf = true → p
    < 2 → (s.m.tport p).txDead = false → (s.m.tport p).txSkip = 0 → (s.m.tport p).txHead = some h → (s.m.tport p).txId
    = none → v.toNat / 2 ^ 16 = 0 → Answers (.txdataWrite init p v) s (fun t => t.tport p =
    { s.m.tport p with txId := some v } ∧ t.outs = s.m.outs ∧ SameMemory s.m t ∧ SameRegs [] s.m t)) ∧
  (∀ (s : State) (init : Init) (p : Nat) (v h i : Word), s.m.serving = true → s.m.journalOn = false → init.wf = true →
    p < 2 → (s.m.tport p).txDead = false → (s.m.tport p).txSkip = 0 → (s.m.tport p).txHead = some h → (s.m.tport
    p).txId = some i → (s.m.tport p).txData.length + 1 < (h.toNat % 2048 + 3) / 4 → Answers (.txdataWrite init p v) s
    (fun t => t.tport p = { s.m.tport p with txData := (s.m.tport p).txData ++ [v] } ∧ t.outs = s.m.outs ∧ SameMemory
    s.m t ∧ SameRegs [] s.m t)) ∧
  (∀ (s : State) (init : Init) (p : Nat) (v h i : Word), s.m.serving = true → s.m.journalOn = false → init.wf = true →
    p < 2 → (s.m.tport p).txDead = false → (s.m.tport p).txSkip = 0 → (s.m.tport p).txHead = some h → (s.m.tport
    p).txId = some i → (h.toNat % 2048 + 3) / 4 ≤ (s.m.tport p).txData.length + 1 → Answers (.txdataWrite init p v) s
    (fun t => (t.tport p).txQueue = (s.m.tport p).txQueue ++ [(nbit h.toNat 16, i.toNat, (((s.m.tport p).txData ++
    [v]).flatMap (fun w => leBytes 4 w.toNat)).take (h.toNat % 2048))] ∧ (t.tport p).txHead = none ∧ t.outs = s.m.outs
    ∧ SameMemory s.m t ∧ SameRegs [Reg.TP_TXSPACE p] s.m t)) ∧
  (∀ (s : State) (init : Init) (p : Nat), s.m.serving = true → s.m.journalOn = false → init.wf = true → p < 2 →
    Answers (.txFlush init p) s (fun t => t.tport p =
    { s.m.tport p with txHead := none, txId := none, txData := [], txSkip := 0, txDead := false } ∧ t.outs = s.m.outs
    ∧ SameMemory s.m t ∧ SameRegs [Reg.TP_TXSPACE p] s.m t)) ∧
  (∀ (s : State) (init : Init) (p : Nat), s.m.serving = true → s.m.journalOn = false → init.wf = true → p < 2 →
    Answers (.tsqPop init p) s (fun t => t.tport p = { s.m.tport p with tsq := (s.m.tport p).tsq.drop 1 } ∧ t.outs =
    s.m.outs ∧ SameMemory s.m t ∧ SameRegs [] s.m t)) ∧
  (∀ (s : State) (init : Init) (p : Nat) (v : Word), s.m.serving = true → s.m.journalOn = false → init.wf = true → p <
    2 → Answers (.portModeWrite init p v) s (fun t => t.rd (Reg.TP_CFG p) Fields.TP_CFG.MODE = fget Fields.TP_CFG.MODE
    v ∧ t.rd (Reg.TP_CFG p) Fields.TP_CFG.DOMAIN = fget Fields.TP_CFG.DOMAIN v ∧ t.tim = s.m.tim ∧ t.outs = s.m.outs ∧
    SameMemory s.m t ∧ SameRegs [Reg.TP_CFG p] s.m t))

/-- START begins a run with its first domain or is refused, ABORT ends it; contexts are enabled, disabled, invalidated
  and cleared; a list is stopped, aborted, resumed or abandoned. Every other register and every byte of memory stays.
  -/
def Obligations.CalibrationTranslationAndDma : Prop :=
  (∀ (s : State) (init : Init) (doms scope k : Nat) (rest : List Nat) (refs : RefCheck), s.m.serving = true →
    s.m.journalOn = false → init.wf = true → doms < 128 → scope < 8 → s.m.calRefused doms scope = false → allBelow 7
    (nbit doms) = k :: rest → ((calNeeds k).1 = true → refs.refv = true) → ((calNeeds k).2.1 = true → refs.reft = true
    ∧ refs.spread = true) → ((calNeeds k).2.2.1 = true → s.m.calPlate = true) → Answers (.calStart init doms scope
    refs) s (fun t => t.cal.run = some k ∧ t.cal.left = rest ∧ t.cal.doms = doms ∧ t.cal.scope = scope ∧ t.cal.refs =
    refs ∧ t.rd Reg.CAL_STATUS Fields.CAL_STATUS.STATE = 2 ∧ t.rd Reg.CAL_STATUS Fields.CAL_STATUS.DOMAIN = k ∧ t.rd
    Reg.CAL_STATUS Fields.CAL_STATUS.FAIL_COUNT = 0 ∧ t.outs = s.m.outs ∧ SameMemory s.m t ∧ SameRegs
    ([Reg.CAL_STATUS, Reg.CAL_REFMEAS_V, Reg.CAL_REFT_MEAS_LO, Reg.CAL_REFT_MEAS_HI] ++ (List.range 11).map
    Reg.CAL_FAILMAP) s.m t)) ∧
  (∀ (s : State) (init : Init) (doms scope : Nat) (refs : RefCheck), s.m.serving = true → s.m.journalOn = false →
    init.wf = true → doms < 128 → scope < 8 → s.m.calRefused doms scope = true → Answers (.calStart init doms scope
    refs) s (fun t => t.flag Reg.ERR_ACCESS Fields.ERR_ACCESS.WR_REFUSED = true ∧ t.cal =
    { s.m.cal with refs := refs } ∧ SameMemory s.m t ∧ SameRegsPost [] s.m t)) ∧
  (∀ (s : State) (init : Init), s.m.serving = true → s.m.journalOn = false → init.wf = true → s.m.calOn = true →
    Answers (.calAbort init) s (fun t => t.cal.run = none ∧ t.rd Reg.CAL_STATUS Fields.CAL_STATUS.STATE = 0 ∧ t.rd
    Reg.CAL_STATUS Fields.CAL_STATUS.RESULT = 3 ∧ t.flag Reg.CAL_STATUS Fields.CAL_STATUS.DONE = true ∧ SameMemory s.m
    t ∧ SameRegsPost [Reg.CAL_STATUS, Reg.CAL_REQ] s.m t)) ∧
  (∀ (s : State) (init : Init), s.m.serving = true → s.m.journalOn = false → init.wf = true → s.m.calOn = false →
    Answers (.calAbort init) s (fun t => t.flag Reg.CAL_STATUS Fields.CAL_STATUS.ABORT_LATE = true ∧ t.cal = s.m.cal ∧
    t.outs = s.m.outs ∧ SameMemory s.m t ∧ SameRegs [Reg.CAL_STATUS] s.m t)) ∧
  (∀ (s : State) (init : Init) (g : Nat), s.m.serving = true → s.m.journalOn = false → init.wf = true → g < 64 →
    Answers (.xltInvContext init g) s (fun t => t.tlb = s.m.tlb.filter (fun e => e.ctx != g) ∧ t.flag Reg.XLT_INV
    Fields.XLT_INV.INV_DONE = false ∧ t.outs = s.m.outs ∧ SameMemory s.m t ∧ SameRegs [Reg.XLT_INV] s.m t)) ∧
  (∀ (s : State) (init : Init) (g : Nat), s.m.serving = true → s.m.journalOn = false → init.wf = true → g < 64 →
    Answers (.xltInvPage init g) s (fun t => t.tlb = s.m.tlb.filter (fun e => !(e.ctx == g && (if e.large then e.page
    == s.m.rd64 Reg.XLT_INV_ADDR_LO / 0x200000 else e.page == s.m.rd64 Reg.XLT_INV_ADDR_LO / 0x10000))) ∧ t.flag
    Reg.XLT_INV Fields.XLT_INV.INV_DONE = false ∧ t.outs = s.m.outs ∧ SameMemory s.m t ∧ SameRegs [Reg.XLT_INV] s.m
    t)) ∧
  (∀ (s : State) (init : Init), s.m.serving = true → s.m.journalOn = false → init.wf = true → Answers (.xltInvAll
    init) s (fun t => t.tlb = [] ∧ t.flag Reg.XLT_INV Fields.XLT_INV.INV_DONE = false ∧ t.outs = s.m.outs ∧ SameMemory
    s.m t ∧ SameRegs [Reg.XLT_INV] s.m t)) ∧
  (∀ (s : State) (init : Init) (g : Nat), s.m.serving = true → s.m.journalOn = false → init.wf = true → g < 64 →
    Answers (.fltClear init g) s (fun t => t.flag (Reg.XLT_CTX_FLT_INFO g) Fields.XLT_CTX_FLT_INFO.VALID = false ∧
    t.rd (Reg.XLT_CTX_FLT_INFO g) Fields.XLT_CTX_FLT_INFO.MORE = 0 ∧ t.mapBit Reg.XLT_FLT_MAP_LO g = false ∧ t.outs =
    s.m.outs ∧ SameMemory s.m t ∧ SameRegs [Reg.XLT_CTX_FLT_INFO g, Reg.XLT_FLT_MAP_LO, Reg.XLT_FLT_MAP_HI] s.m t)) ∧
  (∀ (s : State) (init : Init) (g : Nat), s.m.serving = true → s.m.journalOn = false → init.wf = true → g < 64 →
    Answers (.contextEnable init g) s (fun t => t.flag (Reg.XLT_CTX_ROOT_LO g) Fields.XLT_CTX_ROOT_LO.EN = true ∧ t.rd
    (Reg.XLT_CTX_ROOT_LO g) Fields.XLT_CTX_ROOT_LO.ROOT_L = s.m.rd (Reg.XLT_CTX_ROOT_LO g)
    Fields.XLT_CTX_ROOT_LO.ROOT_L ∧ t.tlb = s.m.tlb ∧ t.outs = s.m.outs ∧ SameMemory s.m t ∧ SameRegs
    [Reg.XLT_CTX_ROOT_LO g] s.m t)) ∧
  (∀ (s : State) (init : Init) (g : Nat), s.m.serving = true → s.m.journalOn = false → init.wf = true → g < 64 →
    Answers (.contextDisable init g) s (fun t => t.flag (Reg.XLT_CTX_ROOT_LO g) Fields.XLT_CTX_ROOT_LO.EN = false ∧
    t.rd (Reg.XLT_CTX_ROOT_LO g) Fields.XLT_CTX_ROOT_LO.ROOT_L = s.m.rd (Reg.XLT_CTX_ROOT_LO g)
    Fields.XLT_CTX_ROOT_LO.ROOT_L ∧ t.tlb = s.m.tlb.filter (fun e => e.ctx != g) ∧ t.outs = s.m.outs ∧ SameMemory s.m
    t ∧ SameRegs [Reg.XLT_CTX_ROOT_LO g] s.m t)) ∧
  (∀ (s : State) (init : Init) (g : Nat) (v : Word), s.m.serving = true → s.m.journalOn = false → init.wf = true → g <
    64 → s.m.flag (Reg.XLT_CTX_ROOT_LO g) Fields.XLT_CTX_ROOT_LO.EN = false → Answers (.rootWrite init g v) s (fun t
    => t.rd (Reg.XLT_CTX_ROOT_LO g) Fields.XLT_CTX_ROOT_LO.ROOT_L = fget Fields.XLT_CTX_ROOT_LO.ROOT_L ((SMap.find
    s.m.stage (latchKey init (Reg.XLT_CTX_ROOT_LO g))).getD 0#32) ∧ t.rd (Reg.XLT_CTX_ROOT_HI g)
    Fields.XLT_CTX_ROOT_HI.ROOT_H = fget Fields.XLT_CTX_ROOT_HI.ROOT_H v ∧ t.flag (Reg.XLT_CTX_ROOT_LO g)
    Fields.XLT_CTX_ROOT_LO.EN = false ∧ t.outs = s.m.outs ∧ SameMemory s.m t ∧ SameRegs [Reg.XLT_CTX_ROOT_LO g,
    Reg.XLT_CTX_ROOT_HI g] s.m t)) ∧
  (∀ (s : State) (init : Init) (g : Nat) (v : Word), s.m.serving = true → s.m.journalOn = false → init.wf = true → g <
    64 → s.m.flag (Reg.XLT_CTX_ROOT_LO g) Fields.XLT_CTX_ROOT_LO.EN = true → Answers (.rootWrite init g v) s (fun t =>
    t.flag Reg.ERR_ACCESS Fields.ERR_ACCESS.WR_REFUSED = true ∧ t.tlb = s.m.tlb ∧ SameMemory s.m t ∧ SameRegsPost []
    s.m t)) ∧
  (∀ (s : State) (init : Init) (ch : Nat) (r : DmaRun) (d : DmaDesc), s.m.serving = true → s.m.journalOn = false →
    init.wf = true → ch < 32 → s.m.dmaRun ch = some r → r.cur = some d → d.started = true → s.m.dmaState ch = 1 →
    Answers (.dmaStop init ch) s (fun t => t.dmaRun ch = some { r with stop := some (r.stop.getD stDMA_STOPPED) } ∧
    t.dmaState ch = 3 ∧ t.outs = s.m.outs ∧ SameMemory s.m t ∧ SameRegs [Reg.DMA_CH_STATUS ch] s.m t)) ∧
  (∀ (s : State) (init : Init) (ch i : Nat) (r : DmaRun) (j : Job), s.m.serving = true → s.m.journalOn = false →
    init.wf = true → ch < 32 → s.m.dmaRun ch = some r → r.origin = .node j → j.inst = some i → Answers (.dmaAbort init
    ch) s (fun t => t.dmaRun ch = none ∧ t.dmaState ch = 0 ∧ t.hat.reports = s.m.hat.reports ++ [⟨i, j.node,
    stDMA_ABORTED, BitVec.ofNat 64 r.done, false, 0, true⟩] ∧ t.outs = s.m.outs ∧ SameMemory s.m t ∧ SameRegs
    [Reg.DMA_CH_STATUS ch] s.m t)) ∧
  (∀ (s : State) (init : Init) (ch : Nat), s.m.serving = true → s.m.journalOn = false → init.wf = true → ch < 32 →
    s.m.dmaRun ch = none → Answers (.dmaAbort init ch) s (fun t => t.flag (Reg.DMA_CH_STATUS ch)
    Fields.DMA_CH_STATUS.ABORT_LATE = true ∧ t.hat = s.m.hat ∧ t.outs = s.m.outs ∧ SameMemory s.m t ∧ SameRegs
    [Reg.DMA_CH_STATUS ch] s.m t)) ∧
  (∀ (s : State) (init : Init) (ch : Nat) (r : DmaRun), s.m.serving = true → s.m.journalOn = false → init.wf = true →
    ch < 32 → s.m.dmaRun ch = some r → s.m.dmaState ch = 4 → Answers (.dmaResume init ch) s (fun t => t.dmaRun ch =
    some { r with cur := r.cur.map (fun d => { d with fetched := s.m.dmaOffset ch }), error := 0 } ∧ t.dmaState ch = 1
    ∧ t.outs = s.m.outs ∧ SameMemory s.m t ∧ SameRegs [Reg.DMA_CH_STATUS ch] s.m t)) ∧
  (∀ (s : State) (init : Init) (ch i : Nat) (r : DmaRun) (j : Job), s.m.serving = true → s.m.journalOn = false →
    init.wf = true → ch < 32 → s.m.dmaRun ch = some r → s.m.dmaState ch = 4 → r.origin = .node j → j.inst = some i →
    Answers (.abandon init ch) s (fun t => t.dmaRun ch = none ∧ t.dmaState ch = 0 ∧ t.hat.reports = s.m.hat.reports ++
    [⟨i, j.node, r.error, BitVec.ofNat 64 r.done, false, 0, true⟩] ∧ t.outs = s.m.outs ∧ SameMemory s.m t ∧ SameRegs
    [Reg.DMA_CH_STATUS ch] s.m t)) ∧
  (∀ (s : State) (init : Init) (ch : Nat), s.m.serving = true → s.m.journalOn = false → init.wf = true → ch < 32 →
    Answers (.swreq init ch) s (fun t => t.flag (Reg.DMA_CH_CTRL ch) Fields.DMA_CH_CTRL.SWREQ = true ∧ t.dma = s.m.dma
    ∧ t.outs = s.m.outs ∧ SameMemory s.m t ∧ SameRegs [Reg.DMA_CH_CTRL ch] s.m t))

/-- PAIR_EN starts or ends pairing, RETRY starts an attempt, EN of a region or of the shadow stands, and starts a copy
  in a working pair; the event ring is emptied as it is enabled and its HEAD moves only along records written. -/
def Obligations.PairAndEventRingCommands : Prop :=
  (∀ (s : State) (init : Init), s.m.serving = true → init.wf = true → s.m.slState = 0 → s.m.flag Reg.SL_CTRL
    Fields.SL_CTRL.PAIR_EN = false → Answers (.pairEn init true) s (fun t => t.flag Reg.SL_CTRL Fields.SL_CTRL.PAIR_EN
    = true ∧ t.slState = 1 ∧ t.rd Reg.SL_STATUS Fields.SL_STATUS.ATTEMPT = 1 ∧ t.flag Reg.SL_STATUS
    Fields.SL_STATUS.PAIR_ABSENT = false ∧ (∀ k : Nat, k < 65 → t.laneState k = if s.m.laneDisabled k = true then 7
    else 1) ∧ SameMemory s.m t ∧ SameRegs ([Reg.SL_CTRL, Reg.SL_STATUS, Reg.GLB_DIE_STATUS, Reg.SL_PDIE_STATUS 0,
    Reg.SL_PDIE_STATUS 1] ++ (List.range 65).map Reg.SL_LANE_STATUS) s.m t)) ∧
  (∀ (s : State) (init : Init), s.m.serving = true → s.m.journalOn = false → init.wf = true → s.m.flag Reg.SL_CTRL
    Fields.SL_CTRL.PAIR_EN = true → s.m.pair.ends = [] → s.m.pair.comps = [] → Answers (.pairEn init false) s (fun t
    => t.flag Reg.SL_CTRL Fields.SL_CTRL.PAIR_EN = false ∧ t.slState = 0 ∧ t.rd Reg.SL_STATUS Fields.SL_STATUS.ATTEMPT
    = 0 ∧ t.pair.pccOn = false ∧ (∀ k : Nat, k < 65 → t.laneState k = 0) ∧ SameMemory s.m t)) ∧
  (∀ (s : State) (init : Init), s.m.serving = true → s.m.journalOn = false → init.wf = true → s.m.flag Reg.SL_CTRL
    Fields.SL_CTRL.PAIR_EN = true → (s.m.slState = 1 ∨ s.m.slState = 5 ∨ s.m.slState = 6) → Answers (.retry init) s
    (fun t => t.slState = 1 ∧ t.rd Reg.SL_STATUS Fields.SL_STATUS.ATTEMPT = 1 ∧ t.rd Reg.SL_STATUS
    Fields.SL_STATUS.MISMATCH = 0 ∧ t.outs = s.m.outs ∧ SameMemory s.m t ∧ SameRegs ([Reg.SL_STATUS] ++ (List.range
    65).map Reg.SL_LANE_STATUS) s.m t)) ∧
  (∀ (s : State) (init : Init) (k : Nat), s.m.serving = true → s.m.journalOn = false → init.wf = true → k < 16 →
    Answers (.regionEnable init k) s (fun t => t.flag (Reg.SL_MRGN_CFG k) Fields.SL_MRGN_CFG.EN = true ∧ t.rd
    (Reg.SL_MRGN_CFG k) Fields.SL_MRGN_CFG.SIZE = s.m.rd (Reg.SL_MRGN_CFG k) Fields.SL_MRGN_CFG.SIZE ∧ t.flag
    (Reg.SL_MRGN_CFG k) Fields.SL_MRGN_CFG.COPYING = s.m.flag (Reg.SL_MRGN_CFG k) Fields.SL_MRGN_CFG.COPYING ∧ t.outs
    = s.m.outs ∧ SameMemory s.m t ∧ SameRegs [Reg.SL_MRGN_CFG k] s.m t)) ∧
  (∀ (s : State) (init : Init) (k : Nat), s.m.serving = true → s.m.pairActive = true → init.wf = true → k < 16 →
    s.m.flag (Reg.SL_MRGN_CFG k) Fields.SL_MRGN_CFG.EN = false → Answers (.regionEnable init k) s (fun t => t.flag
    (Reg.SL_MRGN_CFG k) Fields.SL_MRGN_CFG.EN = true ∧ t.flag (Reg.SL_MRGN_CFG k) Fields.SL_MRGN_CFG.COPYING = true ∧
    t.outs = s.m.outs ∧ SameMemory s.m t ∧ SameRegs [Reg.SL_MRGN_CFG k] s.m t)) ∧
  (∀ (s : State) (init : Init), s.m.serving = true → s.m.journalOn = false → init.wf = true → Answers (.shadowEnable
    init) s (fun t => t.flag Reg.SL_DDS_SHADOW Fields.SL_DDS_SHADOW.EN = true ∧ t.rd Reg.SL_DDS_SHADOW
    Fields.SL_DDS_SHADOW.BASE = s.m.rd Reg.SL_DDS_SHADOW Fields.SL_DDS_SHADOW.BASE ∧ t.outs = s.m.outs ∧ SameMemory
    s.m t ∧ SameRegs [Reg.SL_DDS_SHADOW] s.m t)) ∧
  (∀ (s : State) (init : Init) (size : Nat), s.m.serving = true → s.m.journalOn = false → init.wf = true → 4 ≤ size →
    size ≤ 12 → s.m.evtOn = false → Answers (.errRingEnable init size) s (fun t => t.evtOn = true ∧ t.evtSize = 2 ^
    size ∧ t.evtTail = 0 ∧ t.evtHead = 0 ∧ t.flag Reg.ERR_RING_STATE Fields.ERR_RING_STATE.PHASE = true ∧ t.outs =
    s.m.outs ∧ SameMemory s.m t ∧ SameRegs [Reg.ERR_RING_CFG, Reg.ERR_RING_STATE, Reg.ERR_RING_HEAD] s.m t)) ∧
  (∀ (s : State) (init : Init) (size : Nat), s.m.serving = true → s.m.journalOn = false → init.wf = true → size < 16 →
    s.m.evtOn = false → (size < 4 ∨ 12 < size) → Answers (.errRingEnable init size) s (fun t => t.evtOn = false ∧
    t.flag Reg.ERR_ACCESS Fields.ERR_ACCESS.WR_REFUSED = true ∧ SameMemory s.m t ∧ SameRegsPost [] s.m t)) ∧
  (∀ (s : State) (init : Init) (v : Word), s.m.serving = true → s.m.journalOn = false → init.wf = true → fget
    Fields.ERR_RING_HEAD.HEAD v < s.m.evtSize → (fget Fields.ERR_RING_HEAD.HEAD v + s.m.evtSize - s.m.evtHead) %
    s.m.evtSize ≤ s.m.evtUsed → Answers (.errRingHeadWrite init v) s (fun t => t.evtHead = fget
    Fields.ERR_RING_HEAD.HEAD v ∧ t.outs = s.m.outs ∧ SameMemory s.m t ∧ SameRegs [Reg.ERR_RING_HEAD] s.m t)) ∧
  (∀ (s : State) (init : Init) (v : Word), s.m.serving = true → s.m.journalOn = false → init.wf = true → (s.m.evtSize
    ≤ fget Fields.ERR_RING_HEAD.HEAD v ∨ s.m.evtUsed < (fget Fields.ERR_RING_HEAD.HEAD v + s.m.evtSize - s.m.evtHead)
    % s.m.evtSize) → Answers (.errRingHeadWrite init v) s (fun t => t.evtHead = s.m.evtHead ∧ t.flag Reg.ERR_ACCESS
    Fields.ERR_ACCESS.WR_REFUSED = true ∧ SameMemory s.m t ∧ SameRegsPost [] s.m t))
end

