-- ==== Sys2Proof/Laws/RegAt.lean ====
section
/-!
SUPPORT. The register at an offset, for the registers that commands write by name.
-/

namespace Sys2Proof.Machine

set_option maxRecDepth 4000

/-- A register that does not hold `off` is passed over. -/
theorem findReg_below (d : RegDesc) (t : List RegDesc) (off : Nat) (h : off < d.base) : findReg (d :: t) off = findReg t off := by
  simp [findReg, h]

theorem findReg_past (d : RegDesc) (t : List RegDesc) (off : Nat) (s c : Nat) (r : List (Nat × Nat)) (hd : d.dims = (s, c) :: r)
    (h : d.base + s * c ≤ off) (hs : 0 < s) : findReg (d :: t) off = findReg t off := by
  have : ¬ (off - d.base) / s < c := by
    rw [Nat.div_lt_iff_lt_mul hs, Nat.mul_comm]; omega
  simp [findReg, hd, matchDims, this]

theorem findReg_single (d : RegDesc) (t : List RegDesc) (off : Nat) (hd : d.dims = []) (h : d.base ≠ off) :
    findReg (d :: t) off = findReg t off := by
  by_cases hb : off < d.base
  · exact findReg_below d t off hb
  · simp [findReg, hd, matchDims, show off - d.base ≠ 0 by omega]

theorem findReg_here (d : RegDesc) (t : List RegDesc) (off : Nat) (l : List Nat) (hb : d.base ≤ off)
    (h : matchDims d.dims (off - d.base) = some l) : findReg (d :: t) off = some (d, l) := by
  simp [findReg, h, show ¬ off < d.base by omega]

theorem findReg_between (d : RegDesc) (t : List RegDesc) (off s c : Nat) (hd : d.dims = [(s, c)]) (h : (off - d.base) % s ≠ 0) :
    findReg (d :: t) off = findReg t off := by
  simp [findReg, hd, matchDims, h]

theorem findReg_beyond (d : RegDesc) (t : List RegDesc) (off s c u v : Nat) (hd : d.dims = [(s, c), (u, v)])
    (h : v ≤ (off - d.base) % s / u) : findReg (d :: t) off = findReg t off := by
  simp [findReg, hd, matchDims, show ¬ (off - d.base) % s / u < v by omega]

theorem regAt_HAT_Q_CFG (q : Nat) (h : q < 4096) : regAt (Reg.HAT_Q_CFG q) =
    some (⟨.HAT_Q_CFG, 0x204000, [(0x4, 4096)], 0x00000000#32, 0x000007FF#32, 0x00000000#32, 0x00000000#32, 0x00000000#32⟩, [q]) := by
  have hb : Reg.HAT_Q_CFG q / 0x100000 = 2 := by unfold Reg.HAT_Q_CFG; omega
  unfold regAt
  rw [hb]
  unfold Reg.HAT_Q_CFG
  simp only [regBlock, regBlock2, regBlock2_0]
  repeat (first
    | rw [findReg_single _ _ _ rfl (by dsimp only; omega)]
    | rw [findReg_below _ _ _ (by dsimp only; omega)]
    | rw [findReg_past _ _ _ _ _ _ rfl (by dsimp only; omega) (by decide)])
  have e : matchDims [(0x4, 4096)] (0x204000 + 0x4 * q - 0x204000) = some [q] := by
    rw [show 0x204000 + 0x4 * q - 0x204000 = q * 4 by omega]
    simp only [matchDims, Nat.mul_div_cancel q (show 0 < 4 by decide), Nat.mul_mod_left, h, if_true]
  exact findReg_here _ _ _ _ (by dsimp only; omega) e
theorem regAt_SEQ_TPER (n k : Nat) (hn : n < 32) (hk : k < 64) : regAt (Reg.SEQ_TPER n k) =
    some (⟨.SEQ_TPER, 0x400100, [(0x1000, 32), (0x4, 64)], 0x00000800#32, 0x07FFFFFF#32, 0x00000000#32, 0x00000000#32, 0x00000000#32⟩, [n, k]) := by
  have hb : Reg.SEQ_TPER n k / 0x100000 = 4 := by unfold Reg.SEQ_TPER; omega
  unfold regAt
  rw [hb]
  unfold Reg.SEQ_TPER
  simp only [regBlock, regBlock4, regBlock4_0, List.cons_append]
  repeat (first
    | rw [findReg_between _ _ _ _ _ rfl (by dsimp only; omega)]
    | rw [findReg_below _ _ _ (by dsimp only; omega)]
    | rw [findReg_beyond _ _ _ _ _ _ _ rfl (by dsimp only; omega)]
    | rw [findReg_single _ _ _ rfl (by dsimp only; omega)])
  have e : matchDims [(0x1000, 32), (0x4, 64)] (0x400100 + 0x1000 * n + 0x4 * k - 0x400100) = some [n, k] := by
    rw [show 0x400100 + 0x1000 * n + 0x4 * k - 0x400100 = n * 0x1000 + k * 4 by omega]
    simp only [matchDims, show (n * 0x1000 + k * 4) / 0x1000 = n by omega, show (n * 0x1000 + k * 4) % 0x1000 = k * 4 by omega,
      Nat.mul_div_cancel k (show 0 < 4 by decide), Nat.mul_mod_left, hn, hk, if_true]
  exact findReg_here _ _ _ _ (by dsimp only; omega) e

theorem regAt_CH_LCTRL_P0 : ∀ c < 128, regAt (Reg.CH_LCTRL 0 c) = some (⟨.CH_LCTRL, 0x500000, [(0x100000, 2), (0x100, 128)], 0x00000000#32, 0x00000003#32, 0x00000000#32, 0x00000004#32, 0x00000000#32⟩, [0, c]) := by decide
theorem regAt_CH_LCTRL_P1 : ∀ c < 128, regAt (Reg.CH_LCTRL 1 c) = some (⟨.CH_LCTRL, 0x500000, [(0x100000, 2), (0x100, 128)], 0x00000000#32, 0x00000003#32, 0x00000000#32, 0x00000004#32, 0x00000000#32⟩, [1, c]) := by decide
theorem regAt_CH_FCNT_P0 : ∀ c < 128, regAt (Reg.CH_FCNT 0 c) = some (⟨.CH_FCNT, 0x5000E0, [(0x100000, 2), (0x100, 128)], 0x00000000#32, 0xFFFFFFFF#32, 0x00000000#32, 0x00000000#32, 0x00000000#32⟩, [0, c]) := by decide
theorem regAt_CH_FCNT_P1 : ∀ c < 128, regAt (Reg.CH_FCNT 1 c) = some (⟨.CH_FCNT, 0x5000E0, [(0x100000, 2), (0x100, 128)], 0x00000000#32, 0xFFFFFFFF#32, 0x00000000#32, 0x00000000#32, 0x00000000#32⟩, [1, c]) := by decide
theorem regAt_DDS_CTRL : ∀ n < 8, regAt (Reg.DDS_CTRL n) = some (⟨.DDS_CTRL, 0x800000, [(0x40, 8)], 0x00000000#32, 0x00000000#32, 0x00000000#32, 0x00000003#32, 0x00000000#32⟩, [n]) := by decide
theorem regAt_DMA_CH_CTRL : ∀ n < 32, regAt (Reg.DMA_CH_CTRL n) = some (⟨.DMA_CH_CTRL, 0xC00000, [(0x20, 32)], 0x00000000#32, 0x00000010#32, 0x00000000#32, 0x0000000F#32, 0x00000000#32⟩, [n]) := by decide
theorem regAt_HAT_GRP_CFG : ∀ n < 64, regAt (Reg.HAT_GRP_CFG n) = some (⟨.HAT_GRP_CFG, 0x200100, [(0x4, 64)], 0x00000110#32, 0x000001FF#32, 0x00000000#32, 0x00000200#32, 0x00000000#32⟩, [n]) := by decide
theorem regAt_HV_CTRL : ∀ n < 32, regAt (Reg.HV_CTRL n) = some (⟨.HV_CTRL, 0x700000, [(0x20, 32)], 0x00000000#32, 0x00000003#32, 0x00000000#32, 0x00000000#32, 0x00000000#32⟩, [n]) := by decide
theorem regAt_MCS_MCORE_CTRL : ∀ n < 4, regAt (Reg.MCS_MCORE_CTRL n) = some (⟨.MCS_MCORE_CTRL, 0x300200, [(0x8, 4)], 0x00000004#32, 0x00000007#32, 0x00000000#32, 0x00000008#32, 0x00000000#32⟩, [n]) := by decide
theorem regAt_MCS_SCORE_CTRL : ∀ n < 16, regAt (Reg.MCS_SCORE_CTRL n) = some (⟨.MCS_SCORE_CTRL, 0x300100, [(0x8, 16)], 0x00000000#32, 0x00000003#32, 0x00000000#32, 0x00000000#32, 0x00000000#32⟩, [n]) := by decide
theorem regAt_PLT_CTRL : regAt Reg.PLT_CTRL = some (⟨.PLT_CTRL, 0xE00000, [], 0x00005A08#32, 0x00007F08#32, 0x00000000#32, 0x00000007#32, 0x00007F08#32⟩, []) := by decide
theorem regAt_SEQ_CTRL : ∀ n < 32, regAt (Reg.SEQ_CTRL n) = some (⟨.SEQ_CTRL, 0x400000, [(0x1000, 32)], 0x00000000#32, 0x00000001#32, 0x00000000#32, 0x00000006#32, 0x00000000#32⟩, [n]) := by decide
theorem regAt_SL_CTRL : regAt Reg.SL_CTRL = some (⟨.SL_CTRL, 0xD00000, [], 0x00003F04#32, 0x00003F05#32, 0x00000000#32, 0x00000002#32, 0x00000000#32⟩, []) := by decide
theorem regAt_SL_DDS_SHADOW : regAt Reg.SL_DDS_SHADOW = some (⟨.SL_DDS_SHADOW, 0xD00028, [], 0x00000000#32, 0x80007FFF#32, 0x00000000#32, 0x00000000#32, 0x00000000#32⟩, []) := by decide
theorem regAt_SL_MRGN_CFG : ∀ n < 16, regAt (Reg.SL_MRGN_CFG n) = some (⟨.SL_MRGN_CFG, 0xD01008, [(0x10, 16)], 0x00010000#32, 0x7FFF0001#32, 0x00000000#32, 0x00000000#32, 0x00000000#32⟩, [n]) := by decide
theorem regAt_TB_CTRL : regAt Reg.TB_CTRL = some (⟨.TB_CTRL, 0x901000, [], 0x00000000#32, 0x00000007#32, 0x00000000#32, 0x00000000#32, 0x00000000#32⟩, []) := by decide
theorem regAt_TD_CTRL : ∀ n < 4, regAt (Reg.TD_CTRL n) = some (⟨.TD_CTRL, 0x902000, [(0x40, 4)], 0x01F40000#32, 0x01FF0000#32, 0x00000000#32, 0x00000003#32, 0x01FF0000#32⟩, [n]) := by decide
theorem regAt_TIME_SNAP_CTRL : regAt Reg.TIME_SNAP_CTRL = some (⟨.TIME_SNAP_CTRL, 0x903000, [], 0x00000000#32, 0x0000FF00#32, 0x00000000#32, 0x00000001#32, 0x00000000#32⟩, []) := by decide
theorem regAt_TP_CTRL : ∀ n < 2, regAt (Reg.TP_CTRL n) = some (⟨.TP_CTRL, 0x904040, [(0x100, 2)], 0x00000000#32, 0x00000000#32, 0x00000000#32, 0x00000007#32, 0x00000000#32⟩, [n]) := by decide
theorem regAt_WAVE_SYNC_CTRL : regAt Reg.WAVE_SYNC_CTRL = some (⟨.WAVE_SYNC_CTRL, 0x800D00, [], 0x00000000#32, 0x00003F05#32, 0x00000000#32, 0x00000002#32, 0x00000000#32⟩, []) := by decide
theorem regAt_XLT_CTX_ROOT_LO : ∀ n < 64, regAt (Reg.XLT_CTX_ROOT_LO n) = some (⟨.XLT_CTX_ROOT_LO, 0xC01000, [(0x20, 64)], 0x00000000#32, 0xFFFFF001#32, 0x00000000#32, 0x00000000#32, 0x00000000#32⟩, [n]) := by decide
theorem regAt_AQ_SWTRIG : regAt Reg.AQ_SWTRIG = some (⟨.AQ_SWTRIG, 0x800900, [], 0x00000000#32, 0x00000000#32, 0x00000000#32, 0x000000FF#32, 0x00000000#32⟩, []) := by decide
theorem regAt_AS_CMD : ∀ n < 8, regAt (Reg.AS_CMD n) = some (⟨.AS_CMD, 0x800404, [(0x20, 8)], 0x00000000#32, 0x00000000#32, 0x00000000#32, 0x0001FF0F#32, 0x00000000#32⟩, [n]) := by decide
theorem regAt_CAL_CMD : regAt Reg.CAL_CMD = some (⟨.CAL_CMD, 0xA00000, [], 0x00000000#32, 0x00000000#32, 0x00000000#32, 0x00077F03#32, 0x00000000#32⟩, []) := by decide
theorem regAt_CH_LQCMD : ∀ n < 2, regAt (Reg.CH_LQCMD n) = some (⟨.CH_LQCMD, 0x5E0010, [(0x100000, 2)], 0x00000000#32, 0x00000000#32, 0x00000000#32, 0xFFFF07FF#32, 0x00000000#32⟩, [n]) := by decide
theorem regAt_DDS_JUMP : ∀ n < 8, regAt (Reg.DDS_JUMP n) = some (⟨.DDS_JUMP, 0x800004, [(0x40, 8)], 0x00000000#32, 0x00FF02FF#32, 0x00000000#32, 0x00000100#32, 0x00000000#32⟩, [n]) := by decide
theorem regAt_ERR_RING_CFG : regAt Reg.ERR_RING_CFG = some (⟨.ERR_RING_CFG, 0xF00038, [], 0x00000008#32, 0x0000001F#32, 0x00000000#32, 0x00000000#32, 0x0000001F#32⟩, []) := by decide
theorem regAt_ERR_RING_HEAD : regAt Reg.ERR_RING_HEAD = some (⟨.ERR_RING_HEAD, 0xF00040, [], 0x00000000#32, 0x00000FFF#32, 0x00000000#32, 0x00000000#32, 0x00000FFF#32⟩, []) := by decide
theorem regAt_GLB_PROF_CMD : regAt Reg.GLB_PROF_CMD = some (⟨.GLB_PROF_CMD, 0x210, [], 0x00000000#32, 0x00000000#32, 0x00000000#32, 0xFFFF0033#32, 0x00000000#32⟩, []) := by decide
theorem regAt_GLB_RST_CTRL : regAt Reg.GLB_RST_CTRL = some (⟨.GLB_RST_CTRL, 0x200, [], 0x00000000#32, 0x00000000#32, 0x00000000#32, 0xFFFF0007#32, 0x00000000#32⟩, []) := by decide
theorem regAt_HAT_UCMD : regAt Reg.HAT_UCMD = some (⟨.HAT_UCMD, 0x200044, [], 0x00000000#32, 0x00000000#32, 0x00000000#32, 0x00000003#32, 0x00000000#32⟩, []) := by decide
theorem regAt_HOST_BAR4_BASE_HI : regAt Reg.HOST_BAR4_BASE_HI = some (⟨.HOST_BAR4_BASE_HI, 0x100014, [], 0x00000000#32, 0x00003F07#32, 0x00000000#32, 0x00000000#32, 0x00000000#32⟩, []) := by decide
theorem regAt_HOST_CQ_CFG : ∀ n < 64, regAt (Reg.HOST_CQ_CFG n) = some (⟨.HOST_CQ_CFG, 0x101008, [(0x10, 64)], 0x00010008#32, 0xFFFFFF3F#32, 0x00000000#32, 0x00000000#32, 0x00000000#32⟩, [n]) := by decide
theorem regAt_HOST_QCMD : regAt Reg.HOST_QCMD = some (⟨.HOST_QCMD, 0x100038, [], 0x00000000#32, 0x00000000#32, 0x00000000#32, 0x00000007#32, 0x00000000#32⟩, []) := by decide
theorem regAt_HV_LQCMD : regAt Reg.HV_LQCMD = some (⟨.HV_LQCMD, 0x700420, [], 0x00000000#32, 0x00000000#32, 0x00000000#32, 0x00FF07FF#32, 0x00000000#32⟩, []) := by decide
theorem regAt_MCS_CTRL : regAt Reg.MCS_CTRL = some (⟨.MCS_CTRL, 0x300000, [], 0x00000000#32, 0x00000000#32, 0x00000000#32, 0x00000003#32, 0x00000000#32⟩, []) := by decide
theorem regAt_SEQ_PRF_RD : ∀ n < 32, regAt (Reg.SEQ_PRF_RD n) = some (⟨.SEQ_PRF_RD, 0x42100C, [(0x40, 32)], 0x00000000#32, 0xFFFFFFFF#32, 0x00000000#32, 0x00000000#32, 0x00000000#32⟩, [n]) := by decide
theorem regAt_SEQ_PRF_SRD : ∀ n < 32, regAt (Reg.SEQ_PRF_SRD n) = some (⟨.SEQ_PRF_SRD, 0x42101C, [(0x40, 32)], 0x00000000#32, 0xFFFFFFFF#32, 0x00000000#32, 0x00000000#32, 0x00000000#32⟩, [n]) := by decide
theorem regAt_TB_TRIM : regAt Reg.TB_TRIM = some (⟨.TB_TRIM, 0x901008, [], 0x00000000#32, 0x0000FFFF#32, 0x00000000#32, 0x00000000#32, 0x0000FFFF#32⟩, []) := by decide
theorem regAt_TD_ADJ_HI : ∀ n < 4, regAt (Reg.TD_ADJ_HI n) = some (⟨.TD_ADJ_HI, 0x902014, [(0x40, 4)], 0x00000000#32, 0x00000000#32, 0x00000000#32, 0xFFFFFFFF#32, 0x00000000#32⟩, [n]) := by decide
theorem regAt_TD_INC_HI : ∀ n < 4, regAt (Reg.TD_INC_HI n) = some (⟨.TD_INC_HI, 0x90200C, [(0x40, 4)], 0x00000004#32, 0xFFFFFFFF#32, 0x00000000#32, 0x00000000#32, 0xFFFFFFFF#32⟩, [n]) := by decide
theorem regAt_TP_CFG : ∀ n < 2, regAt (Reg.TP_CFG n) = some (⟨.TP_CFG, 0x904000, [(0x100, 2)], 0x00000000#32, 0x00000077#32, 0x00000000#32, 0x00000000#32, 0x00000000#32⟩, [n]) := by decide
theorem regAt_TP_TXDATA : ∀ n < 2, regAt (Reg.TP_TXDATA n) = some (⟨.TP_TXDATA, 0x904020, [(0x100, 2)], 0x00000000#32, 0x00000000#32, 0x00000000#32, 0xFFFFFFFF#32, 0x00000000#32⟩, [n]) := by decide
theorem regAt_XLT_CTX_FLT_INFO : ∀ n < 64, regAt (Reg.XLT_CTX_FLT_INFO n) = some (⟨.XLT_CTX_FLT_INFO, 0xC01010, [(0x20, 64)], 0x00000000#32, 0x00000000#32, 0x00000001#32, 0x00000000#32, 0x00000000#32⟩, [n]) := by decide
theorem regAt_XLT_CTX_ROOT_HI : ∀ n < 64, regAt (Reg.XLT_CTX_ROOT_HI n) = some (⟨.XLT_CTX_ROOT_HI, 0xC01004, [(0x20, 64)], 0x00000000#32, 0x00000007#32, 0x00000000#32, 0x00000000#32, 0x00000000#32⟩, [n]) := by decide
theorem regAt_XLT_INV : regAt Reg.XLT_INV = some (⟨.XLT_INV, 0xC00810, [], 0x00010000#32, 0x00000000#32, 0x00000000#32, 0x00003F03#32, 0x00000000#32⟩, []) := by decide

end Sys2Proof.Machine
end

