-- ==== Sys2Proof/Laws/Maps.lean ====
section
/-!
SUPPORT. The laws of sparse maps and of bit fields.
-/

namespace Sys2Proof.Machine

variable {α : Type}

/-! ### Finding after inserting and erasing -/

@[simp] theorem SMap.find_insert_self (m : SMap α) (k : Nat) (v : α) : SMap.find (SMap.insert m k v) k = some v := by
  induction m with
  | nil => simp [SMap.insert, SMap.find]
  | cons e t ih =>
    obtain ⟨a, w⟩ := e
    unfold SMap.insert
    split
    · simp [SMap.find]
    · split
      · simp [SMap.find]
      · rename_i h
        simp [SMap.find, h, ih]

theorem SMap.find_insert_ne (m : SMap α) (k j : Nat) (v : α) (h : j ≠ k) :
    SMap.find (SMap.insert m k v) j = SMap.find m j := by
  induction m with
  | nil => simp [SMap.insert, SMap.find, Ne.symm h]
  | cons e t ih =>
    obtain ⟨a, w⟩ := e
    unfold SMap.insert
    split
    · simp [SMap.find, Ne.symm h]
    · split
      · rename_i hk
        subst hk
        simp [SMap.find, Ne.symm h]
      · simp [SMap.find, ih]

@[simp] theorem SMap.find_erase_self (m : SMap α) (k : Nat) : SMap.find (SMap.erase m k) k = none := by
  induction m with
  | nil => simp [SMap.erase, SMap.find]
  | cons e t ih =>
    obtain ⟨a, w⟩ := e
    unfold SMap.erase
    split
    · exact ih
    · rename_i h
      simp [SMap.find, h, ih]

theorem SMap.find_erase_ne (m : SMap α) (k j : Nat) (h : j ≠ k) : SMap.find (SMap.erase m k) j = SMap.find m j := by
  induction m with
  | nil => simp [SMap.erase]
  | cons e t ih =>
    obtain ⟨a, w⟩ := e
    unfold SMap.erase
    split
    · rename_i hk
      subst hk
      simp [SMap.find, Ne.symm h, ih]
    · simp [SMap.find, ih]

/-! ### Reading after writing -/

@[simp] theorem SMap.get_set_self [DecidableEq α] (d : Nat → α) (m : SMap α) (k : Nat) (v : α) :
    SMap.get d (SMap.set d m k v) k = v := by
  unfold SMap.set SMap.get
  by_cases h : v = d k <;> simp [h]

theorem SMap.get_set_ne [DecidableEq α] (d : Nat → α) (m : SMap α) (k j : Nat) (v : α) (h : j ≠ k) :
    SMap.get d (SMap.set d m k v) j = SMap.get d m j := by
  unfold SMap.set SMap.get
  by_cases hv : v = d k <;> simp [hv, SMap.find_erase_ne _ _ _ h, SMap.find_insert_ne _ _ _ _ h]

theorem SMap.get_set [DecidableEq α] (d : Nat → α) (m : SMap α) (k j : Nat) (v : α) :
    SMap.get d (SMap.set d m k v) j = if j = k then v else SMap.get d m j := by
  split
  · rename_i h
    subst h
    simp
  · rename_i h
    exact SMap.get_set_ne d m k j v h

@[simp] theorem SMap.get_nil (d : Nat → α) (k : Nat) : SMap.get d [] k = d k := rfl

theorem SMap.get_cons (d : Nat → α) (m : SMap α) (a k : Nat) (v : α) :
    SMap.get d ((a, v) :: m) k = if a = k then v else SMap.get d m k := by
  by_cases h : a = k <;> simp [SMap.get, SMap.find, h]

/-! ### The canonical form -/

theorem SMap.risesFrom_mono (m : SMap α) (a b : Nat) (h : a ≤ b) (hm : SMap.risesFrom b m = true) :
    SMap.risesFrom a m = true := by
  cases m with
  | nil => rfl
  | cons e t =>
    simp only [SMap.risesFrom, Bool.and_eq_true, decide_eq_true_eq] at hm ⊢
    exact ⟨Nat.le_trans h hm.1, hm.2⟩

theorem SMap.risesFrom_erase (m : SMap α) (b k : Nat) (hm : SMap.risesFrom b m = true) :
    SMap.risesFrom b (SMap.erase m k) = true := by
  induction m generalizing b with
  | nil => rfl
  | cons e t ih =>
    obtain ⟨a, w⟩ := e
    simp only [SMap.risesFrom, Bool.and_eq_true, decide_eq_true_eq] at hm
    unfold SMap.erase
    split
    · exact SMap.risesFrom_mono _ _ _ (by omega) (ih (a + 1) hm.2)
    · simp only [SMap.risesFrom, Bool.and_eq_true, decide_eq_true_eq]
      exact ⟨hm.1, ih (a + 1) hm.2⟩

theorem SMap.risesFrom_insert (m : SMap α) (b k : Nat) (v : α) (hk : b ≤ k) (hm : SMap.risesFrom b m = true) :
    SMap.risesFrom b (SMap.insert m k v) = true := by
  induction m generalizing b with
  | nil => simp [SMap.insert, SMap.risesFrom, hk]
  | cons e t ih =>
    obtain ⟨a, w⟩ := e
    simp only [SMap.risesFrom, Bool.and_eq_true, decide_eq_true_eq] at hm
    unfold SMap.insert
    split
    · rename_i h
      simp only [SMap.risesFrom, Bool.and_eq_true, decide_eq_true_eq]
      exact ⟨hk, by omega, hm.2⟩
    · split
      · rename_i h
        subst h
        simp only [SMap.risesFrom, Bool.and_eq_true, decide_eq_true_eq]
        exact hm
      · simp only [SMap.risesFrom, Bool.and_eq_true, decide_eq_true_eq]
        exact ⟨hm.1, ih (a + 1) (by omega) hm.2⟩

theorem SMap.mem_erase {m : SMap α} {k : Nat} {e : Nat × α} (h : e ∈ SMap.erase m k) : e ∈ m := by
  induction m with
  | nil => exact h
  | cons x t ih =>
    obtain ⟨a, w⟩ := x
    unfold SMap.erase at h
    split at h
    · exact List.mem_cons_of_mem _ (ih h)
    · rcases List.mem_cons.mp h with rfl | h
      · exact List.mem_cons_self
      · exact List.mem_cons_of_mem _ (ih h)

theorem SMap.mem_insert {m : SMap α} {k : Nat} {v : α} {e : Nat × α} (h : e ∈ SMap.insert m k v) : e = (k, v) ∨ e ∈ m := by
  induction m with
  | nil =>
    left
    simpa [SMap.insert] using h
  | cons x t ih =>
    obtain ⟨a, w⟩ := x
    unfold SMap.insert at h
    split at h
    · rcases List.mem_cons.mp h with rfl | h
      · exact .inl rfl
      · exact .inr h
    · split at h
      · rcases List.mem_cons.mp h with rfl | h
        · exact .inl rfl
        · exact .inr (List.mem_cons_of_mem _ h)
      · rcases List.mem_cons.mp h with rfl | h
        · exact .inr List.mem_cons_self
        · rcases ih h with h | h
          · exact .inl h
          · exact .inr (List.mem_cons_of_mem _ h)

/-- Setting a key keeps the canonical form. -/
theorem SMap.wf_set [DecidableEq α] (d : Nat → α) (m : SMap α) (k : Nat) (v : α) (h : SMap.wf d m = true) :
    SMap.wf d (SMap.set d m k v) = true := by
  simp only [SMap.wf, Bool.and_eq_true, List.all_eq_true, decide_eq_true_eq] at h ⊢
  unfold SMap.set
  split
  · exact ⟨SMap.risesFrom_erase _ _ _ h.1, fun e he => h.2 e (SMap.mem_erase he)⟩
  · rename_i hv
    refine ⟨SMap.risesFrom_insert _ _ _ _ (Nat.zero_le _) h.1, fun e he => ?_⟩
    rcases SMap.mem_insert he with rfl | he
    · exact hv
    · exact h.2 e he

/-! ### Bit fields -/

/-- The bits of a field's value. -/
theorem testBit_fget (f : Fld) (w : Word) (i : Nat) :
    (fget f w).testBit i = (decide (i < f.width) && w.getLsbD (f.lo + i)) := by
  simp [fget, Nat.testBit_mod_two_pow, Nat.testBit_shiftRight, BitVec.getLsbD]

/-- The bits of a word with a field put. -/
theorem getLsbD_fput (f : Fld) (v : Nat) (w : Word) (k : Nat) :
    (fput f v w).getLsbD k = (decide (k < 32) &&
      if f.lo ≤ k ∧ k < f.lo + f.width then v.testBit (k - f.lo) else w.getLsbD k) := by
  by_cases hk : k < 32
  · simp only [fput, fmask, BitVec.getLsbD_or, BitVec.getLsbD_and, BitVec.getLsbD_not, BitVec.getLsbD_ofNat,
      Nat.testBit_shiftLeft, Nat.testBit_two_pow_sub_one, Nat.testBit_mod_two_pow, hk, decide_true, Bool.true_and]
    by_cases h1 : f.lo ≤ k
    · by_cases h2 : k < f.lo + f.width
      · have h3 : k - f.lo < f.width := by omega
        simp [h1, h2, h3]
      · have h3 : ¬ k - f.lo < f.width := by omega
        simp [h1, h2, h3]
    · simp [h1]
  · have h : 32 ≤ k := by omega
    simp [hk, BitVec.getLsbD_of_ge (fput f v w) k h]

/-- A field within the word reads back as it was put. -/
theorem fget_fput (f : Fld) (v : Nat) (w : Word) (h : f.lo + f.width ≤ 32) : fget f (fput f v w) = v % 2 ^ f.width := by
  apply Nat.eq_of_testBit_eq
  intro i
  rw [testBit_fget, getLsbD_fput, Nat.testBit_mod_two_pow]
  by_cases hi : i < f.width
  · have h1 : f.lo + i < 32 := by omega
    have h2 : f.lo + i < f.lo + f.width := by omega
    simp [hi, h1]
  · simp [hi]

/-- A field reads as before where another, apart from it, is put. -/
theorem fget_fput_ne (f g : Fld) (v : Nat) (w : Word) (h : f.lo + f.width ≤ g.lo ∨ g.lo + g.width ≤ f.lo) :
    fget f (fput g v w) = fget f w := by
  apply Nat.eq_of_testBit_eq
  intro i
  rw [testBit_fget, testBit_fget, getLsbD_fput]
  by_cases hi : i < f.width
  · have h1 : ¬ (g.lo ≤ f.lo + i ∧ f.lo + i < g.lo + g.width) := by omega
    by_cases h32 : f.lo + i < 32
    · simp [hi, h1, h32]
    · simp [hi, h32, BitVec.getLsbD_of_ge w (f.lo + i) (by omega)]
  · simp [hi]

/-- A field's value stays below two to its width. -/
theorem fget_lt (f : Fld) (w : Word) : fget f w < 2 ^ f.width := Nat.mod_lt _ (Nat.two_pow_pos _)

theorem b2n_true : b2n true = 1 := rfl
theorem b2n_false : b2n false = 0 := rfl

end Sys2Proof.Machine
end

