-- ==== Sys2Proof/Laws/State.lean ====
section
/-!
SUPPORT. What each update of the module leaves as it was: one law per field.
-/

namespace Sys2Proof.Machine

variable (m : Mod)

/-! ### setReg -/

@[simp] theorem Mod.setReg_latch (off : Nat) (v : Word) : (m.setReg off v).latch = m.latch := rfl
@[simp] theorem Mod.setReg_stage (off : Nat) (v : Word) : (m.setReg off v).stage = m.stage := rfl
@[simp] theorem Mod.setReg_gddr (off : Nat) (v : Word) : (m.setReg off v).gddr = m.gddr := rfl
@[simp] theorem Mod.setReg_gddrBad (off : Nat) (v : Word) : (m.setReg off v).gddrBad = m.gddrBad := rfl
@[simp] theorem Mod.setReg_sram (off : Nat) (v : Word) : (m.setReg off v).sram = m.sram := rfl
@[simp] theorem Mod.setReg_sramBad (off : Nat) (v : Word) : (m.setReg off v).sramBad = m.sramBad := rfl
@[simp] theorem Mod.setReg_cmds (off : Nat) (v : Word) : (m.setReg off v).cmds = m.cmds := rfl
@[simp] theorem Mod.setReg_outs (off : Nat) (v : Word) : (m.setReg off v).outs = m.outs := rfl
@[simp] theorem Mod.setReg_flt (off : Nat) (v : Word) : (m.setReg off v).flt = m.flt := rfl
@[simp] theorem Mod.setReg_sys (off : Nat) (v : Word) : (m.setReg off v).sys = m.sys := rfl
@[simp] theorem Mod.setReg_queues (off : Nat) (v : Word) : (m.setReg off v).queues = m.queues := rfl
@[simp] theorem Mod.setReg_cqs (off : Nat) (v : Word) : (m.setReg off v).cqs = m.cqs := rfl
@[simp] theorem Mod.setReg_pcie (off : Nat) (v : Word) : (m.setReg off v).pcie = m.pcie := rfl
@[simp] theorem Mod.setReg_hat (off : Nat) (v : Word) : (m.setReg off v).hat = m.hat := rfl
@[simp] theorem Mod.setReg_scores (off : Nat) (v : Word) : (m.setReg off v).scores = m.scores := rfl
@[simp] theorem Mod.setReg_mcores (off : Nat) (v : Word) : (m.setReg off v).mcores = m.mcores := rfl
@[simp] theorem Mod.setReg_harts (off : Nat) (v : Word) : (m.setReg off v).harts = m.harts := rfl
@[simp] theorem Mod.setReg_tlb (off : Nat) (v : Word) : (m.setReg off v).tlb = m.tlb := rfl
@[simp] theorem Mod.setReg_seqs (off : Nat) (v : Word) : (m.setReg off v).seqs = m.seqs := rfl
@[simp] theorem Mod.setReg_dports (off : Nat) (v : Word) : (m.setReg off v).dports = m.dports := rfl
@[simp] theorem Mod.setReg_pins (off : Nat) (v : Word) : (m.setReg off v).pins = m.pins := rfl
@[simp] theorem Mod.setReg_rings (off : Nat) (v : Word) : (m.setReg off v).rings = m.rings := rfl
@[simp] theorem Mod.setReg_sendBuf (off : Nat) (v : Word) : (m.setReg off v).sendBuf = m.sendBuf := rfl
@[simp] theorem Mod.setReg_lqs (off : Nat) (v : Word) : (m.setReg off v).lqs = m.lqs := rfl
@[simp] theorem Mod.setReg_lreqs (off : Nat) (v : Word) : (m.setReg off v).lreqs = m.lreqs := rfl
@[simp] theorem Mod.setReg_nextReq (off : Nat) (v : Word) : (m.setReg off v).nextReq = m.nextReq := rfl
@[simp] theorem Mod.setReg_lvs (off : Nat) (v : Word) : (m.setReg off v).lvs = m.lvs := rfl
@[simp] theorem Mod.setReg_hvs (off : Nat) (v : Word) : (m.setReg off v).hvs = m.hvs := rfl
@[simp] theorem Mod.setReg_meass (off : Nat) (v : Word) : (m.setReg off v).meass = m.meass := rfl
@[simp] theorem Mod.setReg_plt (off : Nat) (v : Word) : (m.setReg off v).plt = m.plt := rfl
@[simp] theorem Mod.setReg_waves (off : Nat) (v : Word) : (m.setReg off v).waves = m.waves := rfl
@[simp] theorem Mod.setReg_ass (off : Nat) (v : Word) : (m.setReg off v).ass = m.ass := rfl
@[simp] theorem Mod.setReg_acqs (off : Nat) (v : Word) : (m.setReg off v).acqs = m.acqs := rfl
@[simp] theorem Mod.setReg_trg (off : Nat) (v : Word) : (m.setReg off v).trg = m.trg := rfl
@[simp] theorem Mod.setReg_tim (off : Nat) (v : Word) : (m.setReg off v).tim = m.tim := rfl
@[simp] theorem Mod.setReg_cal (off : Nat) (v : Word) : (m.setReg off v).cal = m.cal := rfl
@[simp] theorem Mod.setReg_drc (off : Nat) (v : Word) : (m.setReg off v).drc = m.drc := rfl
@[simp] theorem Mod.setReg_dma (off : Nat) (v : Word) : (m.setReg off v).dma = m.dma := rfl
@[simp] theorem Mod.setReg_pair (off : Nat) (v : Word) : (m.setReg off v).pair = m.pair := rfl

/-! ### wr -/

@[simp] theorem Mod.wr_latch (off : Nat) (f : Fld) (v : Nat) : (m.wr off f v).latch = m.latch := rfl
@[simp] theorem Mod.wr_stage (off : Nat) (f : Fld) (v : Nat) : (m.wr off f v).stage = m.stage := rfl
@[simp] theorem Mod.wr_gddr (off : Nat) (f : Fld) (v : Nat) : (m.wr off f v).gddr = m.gddr := rfl
@[simp] theorem Mod.wr_gddrBad (off : Nat) (f : Fld) (v : Nat) : (m.wr off f v).gddrBad = m.gddrBad := rfl
@[simp] theorem Mod.wr_sram (off : Nat) (f : Fld) (v : Nat) : (m.wr off f v).sram = m.sram := rfl
@[simp] theorem Mod.wr_sramBad (off : Nat) (f : Fld) (v : Nat) : (m.wr off f v).sramBad = m.sramBad := rfl
@[simp] theorem Mod.wr_cmds (off : Nat) (f : Fld) (v : Nat) : (m.wr off f v).cmds = m.cmds := rfl
@[simp] theorem Mod.wr_outs (off : Nat) (f : Fld) (v : Nat) : (m.wr off f v).outs = m.outs := rfl
@[simp] theorem Mod.wr_flt (off : Nat) (f : Fld) (v : Nat) : (m.wr off f v).flt = m.flt := rfl
@[simp] theorem Mod.wr_sys (off : Nat) (f : Fld) (v : Nat) : (m.wr off f v).sys = m.sys := rfl
@[simp] theorem Mod.wr_queues (off : Nat) (f : Fld) (v : Nat) : (m.wr off f v).queues = m.queues := rfl
@[simp] theorem Mod.wr_cqs (off : Nat) (f : Fld) (v : Nat) : (m.wr off f v).cqs = m.cqs := rfl
@[simp] theorem Mod.wr_pcie (off : Nat) (f : Fld) (v : Nat) : (m.wr off f v).pcie = m.pcie := rfl
@[simp] theorem Mod.wr_hat (off : Nat) (f : Fld) (v : Nat) : (m.wr off f v).hat = m.hat := rfl
@[simp] theorem Mod.wr_scores (off : Nat) (f : Fld) (v : Nat) : (m.wr off f v).scores = m.scores := rfl
@[simp] theorem Mod.wr_mcores (off : Nat) (f : Fld) (v : Nat) : (m.wr off f v).mcores = m.mcores := rfl
@[simp] theorem Mod.wr_harts (off : Nat) (f : Fld) (v : Nat) : (m.wr off f v).harts = m.harts := rfl
@[simp] theorem Mod.wr_tlb (off : Nat) (f : Fld) (v : Nat) : (m.wr off f v).tlb = m.tlb := rfl
@[simp] theorem Mod.wr_seqs (off : Nat) (f : Fld) (v : Nat) : (m.wr off f v).seqs = m.seqs := rfl
@[simp] theorem Mod.wr_dports (off : Nat) (f : Fld) (v : Nat) : (m.wr off f v).dports = m.dports := rfl
@[simp] theorem Mod.wr_pins (off : Nat) (f : Fld) (v : Nat) : (m.wr off f v).pins = m.pins := rfl
@[simp] theorem Mod.wr_rings (off : Nat) (f : Fld) (v : Nat) : (m.wr off f v).rings = m.rings := rfl
@[simp] theorem Mod.wr_sendBuf (off : Nat) (f : Fld) (v : Nat) : (m.wr off f v).sendBuf = m.sendBuf := rfl
@[simp] theorem Mod.wr_lqs (off : Nat) (f : Fld) (v : Nat) : (m.wr off f v).lqs = m.lqs := rfl
@[simp] theorem Mod.wr_lreqs (off : Nat) (f : Fld) (v : Nat) : (m.wr off f v).lreqs = m.lreqs := rfl
@[simp] theorem Mod.wr_nextReq (off : Nat) (f : Fld) (v : Nat) : (m.wr off f v).nextReq = m.nextReq := rfl
@[simp] theorem Mod.wr_lvs (off : Nat) (f : Fld) (v : Nat) : (m.wr off f v).lvs = m.lvs := rfl
@[simp] theorem Mod.wr_hvs (off : Nat) (f : Fld) (v : Nat) : (m.wr off f v).hvs = m.hvs := rfl
@[simp] theorem Mod.wr_meass (off : Nat) (f : Fld) (v : Nat) : (m.wr off f v).meass = m.meass := rfl
@[simp] theorem Mod.wr_plt (off : Nat) (f : Fld) (v : Nat) : (m.wr off f v).plt = m.plt := rfl
@[simp] theorem Mod.wr_waves (off : Nat) (f : Fld) (v : Nat) : (m.wr off f v).waves = m.waves := rfl
@[simp] theorem Mod.wr_ass (off : Nat) (f : Fld) (v : Nat) : (m.wr off f v).ass = m.ass := rfl
@[simp] theorem Mod.wr_acqs (off : Nat) (f : Fld) (v : Nat) : (m.wr off f v).acqs = m.acqs := rfl
@[simp] theorem Mod.wr_trg (off : Nat) (f : Fld) (v : Nat) : (m.wr off f v).trg = m.trg := rfl
@[simp] theorem Mod.wr_tim (off : Nat) (f : Fld) (v : Nat) : (m.wr off f v).tim = m.tim := rfl
@[simp] theorem Mod.wr_cal (off : Nat) (f : Fld) (v : Nat) : (m.wr off f v).cal = m.cal := rfl
@[simp] theorem Mod.wr_drc (off : Nat) (f : Fld) (v : Nat) : (m.wr off f v).drc = m.drc := rfl
@[simp] theorem Mod.wr_dma (off : Nat) (f : Fld) (v : Nat) : (m.wr off f v).dma = m.dma := rfl
@[simp] theorem Mod.wr_pair (off : Nat) (f : Fld) (v : Nat) : (m.wr off f v).pair = m.pair := rfl

/-! ### wr64 -/

@[simp] theorem Mod.wr64_latch (off v : Nat) : (m.wr64 off v).latch = m.latch := rfl
@[simp] theorem Mod.wr64_stage (off v : Nat) : (m.wr64 off v).stage = m.stage := rfl
@[simp] theorem Mod.wr64_gddr (off v : Nat) : (m.wr64 off v).gddr = m.gddr := rfl
@[simp] theorem Mod.wr64_gddrBad (off v : Nat) : (m.wr64 off v).gddrBad = m.gddrBad := rfl
@[simp] theorem Mod.wr64_sram (off v : Nat) : (m.wr64 off v).sram = m.sram := rfl
@[simp] theorem Mod.wr64_sramBad (off v : Nat) : (m.wr64 off v).sramBad = m.sramBad := rfl
@[simp] theorem Mod.wr64_cmds (off v : Nat) : (m.wr64 off v).cmds = m.cmds := rfl
@[simp] theorem Mod.wr64_outs (off v : Nat) : (m.wr64 off v).outs = m.outs := rfl
@[simp] theorem Mod.wr64_flt (off v : Nat) : (m.wr64 off v).flt = m.flt := rfl
@[simp] theorem Mod.wr64_sys (off v : Nat) : (m.wr64 off v).sys = m.sys := rfl
@[simp] theorem Mod.wr64_queues (off v : Nat) : (m.wr64 off v).queues = m.queues := rfl
@[simp] theorem Mod.wr64_cqs (off v : Nat) : (m.wr64 off v).cqs = m.cqs := rfl
@[simp] theorem Mod.wr64_pcie (off v : Nat) : (m.wr64 off v).pcie = m.pcie := rfl
@[simp] theorem Mod.wr64_hat (off v : Nat) : (m.wr64 off v).hat = m.hat := rfl
@[simp] theorem Mod.wr64_scores (off v : Nat) : (m.wr64 off v).scores = m.scores := rfl
@[simp] theorem Mod.wr64_mcores (off v : Nat) : (m.wr64 off v).mcores = m.mcores := rfl
@[simp] theorem Mod.wr64_harts (off v : Nat) : (m.wr64 off v).harts = m.harts := rfl
@[simp] theorem Mod.wr64_tlb (off v : Nat) : (m.wr64 off v).tlb = m.tlb := rfl
@[simp] theorem Mod.wr64_seqs (off v : Nat) : (m.wr64 off v).seqs = m.seqs := rfl
@[simp] theorem Mod.wr64_dports (off v : Nat) : (m.wr64 off v).dports = m.dports := rfl
@[simp] theorem Mod.wr64_pins (off v : Nat) : (m.wr64 off v).pins = m.pins := rfl
@[simp] theorem Mod.wr64_rings (off v : Nat) : (m.wr64 off v).rings = m.rings := rfl
@[simp] theorem Mod.wr64_sendBuf (off v : Nat) : (m.wr64 off v).sendBuf = m.sendBuf := rfl
@[simp] theorem Mod.wr64_lqs (off v : Nat) : (m.wr64 off v).lqs = m.lqs := rfl
@[simp] theorem Mod.wr64_lreqs (off v : Nat) : (m.wr64 off v).lreqs = m.lreqs := rfl
@[simp] theorem Mod.wr64_nextReq (off v : Nat) : (m.wr64 off v).nextReq = m.nextReq := rfl
@[simp] theorem Mod.wr64_lvs (off v : Nat) : (m.wr64 off v).lvs = m.lvs := rfl
@[simp] theorem Mod.wr64_hvs (off v : Nat) : (m.wr64 off v).hvs = m.hvs := rfl
@[simp] theorem Mod.wr64_meass (off v : Nat) : (m.wr64 off v).meass = m.meass := rfl
@[simp] theorem Mod.wr64_plt (off v : Nat) : (m.wr64 off v).plt = m.plt := rfl
@[simp] theorem Mod.wr64_waves (off v : Nat) : (m.wr64 off v).waves = m.waves := rfl
@[simp] theorem Mod.wr64_ass (off v : Nat) : (m.wr64 off v).ass = m.ass := rfl
@[simp] theorem Mod.wr64_acqs (off v : Nat) : (m.wr64 off v).acqs = m.acqs := rfl
@[simp] theorem Mod.wr64_trg (off v : Nat) : (m.wr64 off v).trg = m.trg := rfl
@[simp] theorem Mod.wr64_tim (off v : Nat) : (m.wr64 off v).tim = m.tim := rfl
@[simp] theorem Mod.wr64_cal (off v : Nat) : (m.wr64 off v).cal = m.cal := rfl
@[simp] theorem Mod.wr64_drc (off v : Nat) : (m.wr64 off v).drc = m.drc := rfl
@[simp] theorem Mod.wr64_dma (off v : Nat) : (m.wr64 off v).dma = m.dma := rfl
@[simp] theorem Mod.wr64_pair (off v : Nat) : (m.wr64 off v).pair = m.pair := rfl

/-! ### mark -/

@[simp] theorem Mod.mark_latch (off : Nat) (f : Fld) : (m.mark off f).latch = m.latch := rfl
@[simp] theorem Mod.mark_stage (off : Nat) (f : Fld) : (m.mark off f).stage = m.stage := rfl
@[simp] theorem Mod.mark_gddr (off : Nat) (f : Fld) : (m.mark off f).gddr = m.gddr := rfl
@[simp] theorem Mod.mark_gddrBad (off : Nat) (f : Fld) : (m.mark off f).gddrBad = m.gddrBad := rfl
@[simp] theorem Mod.mark_sram (off : Nat) (f : Fld) : (m.mark off f).sram = m.sram := rfl
@[simp] theorem Mod.mark_sramBad (off : Nat) (f : Fld) : (m.mark off f).sramBad = m.sramBad := rfl
@[simp] theorem Mod.mark_cmds (off : Nat) (f : Fld) : (m.mark off f).cmds = m.cmds := rfl
@[simp] theorem Mod.mark_outs (off : Nat) (f : Fld) : (m.mark off f).outs = m.outs := rfl
@[simp] theorem Mod.mark_flt (off : Nat) (f : Fld) : (m.mark off f).flt = m.flt := rfl
@[simp] theorem Mod.mark_sys (off : Nat) (f : Fld) : (m.mark off f).sys = m.sys := rfl
@[simp] theorem Mod.mark_queues (off : Nat) (f : Fld) : (m.mark off f).queues = m.queues := rfl
@[simp] theorem Mod.mark_cqs (off : Nat) (f : Fld) : (m.mark off f).cqs = m.cqs := rfl
@[simp] theorem Mod.mark_pcie (off : Nat) (f : Fld) : (m.mark off f).pcie = m.pcie := rfl
@[simp] theorem Mod.mark_hat (off : Nat) (f : Fld) : (m.mark off f).hat = m.hat := rfl
@[simp] theorem Mod.mark_scores (off : Nat) (f : Fld) : (m.mark off f).scores = m.scores := rfl
@[simp] theorem Mod.mark_mcores (off : Nat) (f : Fld) : (m.mark off f).mcores = m.mcores := rfl
@[simp] theorem Mod.mark_harts (off : Nat) (f : Fld) : (m.mark off f).harts = m.harts := rfl
@[simp] theorem Mod.mark_tlb (off : Nat) (f : Fld) : (m.mark off f).tlb = m.tlb := rfl
@[simp] theorem Mod.mark_seqs (off : Nat) (f : Fld) : (m.mark off f).seqs = m.seqs := rfl
@[simp] theorem Mod.mark_dports (off : Nat) (f : Fld) : (m.mark off f).dports = m.dports := rfl
@[simp] theorem Mod.mark_pins (off : Nat) (f : Fld) : (m.mark off f).pins = m.pins := rfl
@[simp] theorem Mod.mark_rings (off : Nat) (f : Fld) : (m.mark off f).rings = m.rings := rfl
@[simp] theorem Mod.mark_sendBuf (off : Nat) (f : Fld) : (m.mark off f).sendBuf = m.sendBuf := rfl
@[simp] theorem Mod.mark_lqs (off : Nat) (f : Fld) : (m.mark off f).lqs = m.lqs := rfl
@[simp] theorem Mod.mark_lreqs (off : Nat) (f : Fld) : (m.mark off f).lreqs = m.lreqs := rfl
@[simp] theorem Mod.mark_nextReq (off : Nat) (f : Fld) : (m.mark off f).nextReq = m.nextReq := rfl
@[simp] theorem Mod.mark_lvs (off : Nat) (f : Fld) : (m.mark off f).lvs = m.lvs := rfl
@[simp] theorem Mod.mark_hvs (off : Nat) (f : Fld) : (m.mark off f).hvs = m.hvs := rfl
@[simp] theorem Mod.mark_meass (off : Nat) (f : Fld) : (m.mark off f).meass = m.meass := rfl
@[simp] theorem Mod.mark_plt (off : Nat) (f : Fld) : (m.mark off f).plt = m.plt := rfl
@[simp] theorem Mod.mark_waves (off : Nat) (f : Fld) : (m.mark off f).waves = m.waves := rfl
@[simp] theorem Mod.mark_ass (off : Nat) (f : Fld) : (m.mark off f).ass = m.ass := rfl
@[simp] theorem Mod.mark_acqs (off : Nat) (f : Fld) : (m.mark off f).acqs = m.acqs := rfl
@[simp] theorem Mod.mark_trg (off : Nat) (f : Fld) : (m.mark off f).trg = m.trg := rfl
@[simp] theorem Mod.mark_tim (off : Nat) (f : Fld) : (m.mark off f).tim = m.tim := rfl
@[simp] theorem Mod.mark_cal (off : Nat) (f : Fld) : (m.mark off f).cal = m.cal := rfl
@[simp] theorem Mod.mark_drc (off : Nat) (f : Fld) : (m.mark off f).drc = m.drc := rfl
@[simp] theorem Mod.mark_dma (off : Nat) (f : Fld) : (m.mark off f).dma = m.dma := rfl
@[simp] theorem Mod.mark_pair (off : Nat) (f : Fld) : (m.mark off f).pair = m.pair := rfl

/-! ### emit -/

@[simp] theorem Mod.emit_regs (o : Output) : (m.emit o).regs = m.regs := rfl
@[simp] theorem Mod.emit_latch (o : Output) : (m.emit o).latch = m.latch := rfl
@[simp] theorem Mod.emit_stage (o : Output) : (m.emit o).stage = m.stage := rfl
@[simp] theorem Mod.emit_gddr (o : Output) : (m.emit o).gddr = m.gddr := rfl
@[simp] theorem Mod.emit_gddrBad (o : Output) : (m.emit o).gddrBad = m.gddrBad := rfl
@[simp] theorem Mod.emit_sram (o : Output) : (m.emit o).sram = m.sram := rfl
@[simp] theorem Mod.emit_sramBad (o : Output) : (m.emit o).sramBad = m.sramBad := rfl
@[simp] theorem Mod.emit_cmds (o : Output) : (m.emit o).cmds = m.cmds := rfl
@[simp] theorem Mod.emit_flt (o : Output) : (m.emit o).flt = m.flt := rfl
@[simp] theorem Mod.emit_sys (o : Output) : (m.emit o).sys = m.sys := rfl
@[simp] theorem Mod.emit_queues (o : Output) : (m.emit o).queues = m.queues := rfl
@[simp] theorem Mod.emit_cqs (o : Output) : (m.emit o).cqs = m.cqs := rfl
@[simp] theorem Mod.emit_pcie (o : Output) : (m.emit o).pcie = m.pcie := rfl
@[simp] theorem Mod.emit_hat (o : Output) : (m.emit o).hat = m.hat := rfl
@[simp] theorem Mod.emit_scores (o : Output) : (m.emit o).scores = m.scores := rfl
@[simp] theorem Mod.emit_mcores (o : Output) : (m.emit o).mcores = m.mcores := rfl
@[simp] theorem Mod.emit_harts (o : Output) : (m.emit o).harts = m.harts := rfl
@[simp] theorem Mod.emit_tlb (o : Output) : (m.emit o).tlb = m.tlb := rfl
@[simp] theorem Mod.emit_seqs (o : Output) : (m.emit o).seqs = m.seqs := rfl
@[simp] theorem Mod.emit_dports (o : Output) : (m.emit o).dports = m.dports := rfl
@[simp] theorem Mod.emit_pins (o : Output) : (m.emit o).pins = m.pins := rfl
@[simp] theorem Mod.emit_rings (o : Output) : (m.emit o).rings = m.rings := rfl
@[simp] theorem Mod.emit_sendBuf (o : Output) : (m.emit o).sendBuf = m.sendBuf := rfl
@[simp] theorem Mod.emit_lqs (o : Output) : (m.emit o).lqs = m.lqs := rfl
@[simp] theorem Mod.emit_lreqs (o : Output) : (m.emit o).lreqs = m.lreqs := rfl
@[simp] theorem Mod.emit_nextReq (o : Output) : (m.emit o).nextReq = m.nextReq := rfl
@[simp] theorem Mod.emit_lvs (o : Output) : (m.emit o).lvs = m.lvs := rfl
@[simp] theorem Mod.emit_hvs (o : Output) : (m.emit o).hvs = m.hvs := rfl
@[simp] theorem Mod.emit_meass (o : Output) : (m.emit o).meass = m.meass := rfl
@[simp] theorem Mod.emit_plt (o : Output) : (m.emit o).plt = m.plt := rfl
@[simp] theorem Mod.emit_waves (o : Output) : (m.emit o).waves = m.waves := rfl
@[simp] theorem Mod.emit_ass (o : Output) : (m.emit o).ass = m.ass := rfl
@[simp] theorem Mod.emit_acqs (o : Output) : (m.emit o).acqs = m.acqs := rfl
@[simp] theorem Mod.emit_trg (o : Output) : (m.emit o).trg = m.trg := rfl
@[simp] theorem Mod.emit_tim (o : Output) : (m.emit o).tim = m.tim := rfl
@[simp] theorem Mod.emit_cal (o : Output) : (m.emit o).cal = m.cal := rfl
@[simp] theorem Mod.emit_drc (o : Output) : (m.emit o).drc = m.drc := rfl
@[simp] theorem Mod.emit_dma (o : Output) : (m.emit o).dma = m.dma := rfl
@[simp] theorem Mod.emit_pair (o : Output) : (m.emit o).pair = m.pair := rfl

/-! ### emits -/

@[simp] theorem Mod.emits_regs (os : List Output) : (m.emits os).regs = m.regs := rfl
@[simp] theorem Mod.emits_latch (os : List Output) : (m.emits os).latch = m.latch := rfl
@[simp] theorem Mod.emits_stage (os : List Output) : (m.emits os).stage = m.stage := rfl
@[simp] theorem Mod.emits_gddr (os : List Output) : (m.emits os).gddr = m.gddr := rfl
@[simp] theorem Mod.emits_gddrBad (os : List Output) : (m.emits os).gddrBad = m.gddrBad := rfl
@[simp] theorem Mod.emits_sram (os : List Output) : (m.emits os).sram = m.sram := rfl
@[simp] theorem Mod.emits_sramBad (os : List Output) : (m.emits os).sramBad = m.sramBad := rfl
@[simp] theorem Mod.emits_cmds (os : List Output) : (m.emits os).cmds = m.cmds := rfl
@[simp] theorem Mod.emits_flt (os : List Output) : (m.emits os).flt = m.flt := rfl
@[simp] theorem Mod.emits_sys (os : List Output) : (m.emits os).sys = m.sys := rfl
@[simp] theorem Mod.emits_queues (os : List Output) : (m.emits os).queues = m.queues := rfl
@[simp] theorem Mod.emits_cqs (os : List Output) : (m.emits os).cqs = m.cqs := rfl
@[simp] theorem Mod.emits_pcie (os : List Output) : (m.emits os).pcie = m.pcie := rfl
@[simp] theorem Mod.emits_hat (os : List Output) : (m.emits os).hat = m.hat := rfl
@[simp] theorem Mod.emits_scores (os : List Output) : (m.emits os).scores = m.scores := rfl
@[simp] theorem Mod.emits_mcores (os : List Output) : (m.emits os).mcores = m.mcores := rfl
@[simp] theorem Mod.emits_harts (os : List Output) : (m.emits os).harts = m.harts := rfl
@[simp] theorem Mod.emits_tlb (os : List Output) : (m.emits os).tlb = m.tlb := rfl
@[simp] theorem Mod.emits_seqs (os : List Output) : (m.emits os).seqs = m.seqs := rfl
@[simp] theorem Mod.emits_dports (os : List Output) : (m.emits os).dports = m.dports := rfl
@[simp] theorem Mod.emits_pins (os : List Output) : (m.emits os).pins = m.pins := rfl
@[simp] theorem Mod.emits_rings (os : List Output) : (m.emits os).rings = m.rings := rfl
@[simp] theorem Mod.emits_sendBuf (os : List Output) : (m.emits os).sendBuf = m.sendBuf := rfl
@[simp] theorem Mod.emits_lqs (os : List Output) : (m.emits os).lqs = m.lqs := rfl
@[simp] theorem Mod.emits_lreqs (os : List Output) : (m.emits os).lreqs = m.lreqs := rfl
@[simp] theorem Mod.emits_nextReq (os : List Output) : (m.emits os).nextReq = m.nextReq := rfl
@[simp] theorem Mod.emits_lvs (os : List Output) : (m.emits os).lvs = m.lvs := rfl
@[simp] theorem Mod.emits_hvs (os : List Output) : (m.emits os).hvs = m.hvs := rfl
@[simp] theorem Mod.emits_meass (os : List Output) : (m.emits os).meass = m.meass := rfl
@[simp] theorem Mod.emits_plt (os : List Output) : (m.emits os).plt = m.plt := rfl
@[simp] theorem Mod.emits_waves (os : List Output) : (m.emits os).waves = m.waves := rfl
@[simp] theorem Mod.emits_ass (os : List Output) : (m.emits os).ass = m.ass := rfl
@[simp] theorem Mod.emits_acqs (os : List Output) : (m.emits os).acqs = m.acqs := rfl
@[simp] theorem Mod.emits_trg (os : List Output) : (m.emits os).trg = m.trg := rfl
@[simp] theorem Mod.emits_tim (os : List Output) : (m.emits os).tim = m.tim := rfl
@[simp] theorem Mod.emits_cal (os : List Output) : (m.emits os).cal = m.cal := rfl
@[simp] theorem Mod.emits_drc (os : List Output) : (m.emits os).drc = m.drc := rfl
@[simp] theorem Mod.emits_dma (os : List Output) : (m.emits os).dma = m.dma := rfl
@[simp] theorem Mod.emits_pair (os : List Output) : (m.emits os).pair = m.pair := rfl

/-! ### gddrPut -/

@[simp] theorem Mod.gddrPut_regs (a : Nat) (bs : List Byte) : (m.gddrPut a bs).regs = m.regs := rfl
@[simp] theorem Mod.gddrPut_latch (a : Nat) (bs : List Byte) : (m.gddrPut a bs).latch = m.latch := rfl
@[simp] theorem Mod.gddrPut_stage (a : Nat) (bs : List Byte) : (m.gddrPut a bs).stage = m.stage := rfl
@[simp] theorem Mod.gddrPut_sram (a : Nat) (bs : List Byte) : (m.gddrPut a bs).sram = m.sram := rfl
@[simp] theorem Mod.gddrPut_sramBad (a : Nat) (bs : List Byte) : (m.gddrPut a bs).sramBad = m.sramBad := rfl
@[simp] theorem Mod.gddrPut_cmds (a : Nat) (bs : List Byte) : (m.gddrPut a bs).cmds = m.cmds := rfl
@[simp] theorem Mod.gddrPut_outs (a : Nat) (bs : List Byte) : (m.gddrPut a bs).outs = m.outs := rfl
@[simp] theorem Mod.gddrPut_flt (a : Nat) (bs : List Byte) : (m.gddrPut a bs).flt = m.flt := rfl
@[simp] theorem Mod.gddrPut_sys (a : Nat) (bs : List Byte) : (m.gddrPut a bs).sys = m.sys := rfl
@[simp] theorem Mod.gddrPut_queues (a : Nat) (bs : List Byte) : (m.gddrPut a bs).queues = m.queues := rfl
@[simp] theorem Mod.gddrPut_cqs (a : Nat) (bs : List Byte) : (m.gddrPut a bs).cqs = m.cqs := rfl
@[simp] theorem Mod.gddrPut_pcie (a : Nat) (bs : List Byte) : (m.gddrPut a bs).pcie = m.pcie := rfl
@[simp] theorem Mod.gddrPut_hat (a : Nat) (bs : List Byte) : (m.gddrPut a bs).hat = m.hat := rfl
@[simp] theorem Mod.gddrPut_scores (a : Nat) (bs : List Byte) : (m.gddrPut a bs).scores = m.scores := rfl
@[simp] theorem Mod.gddrPut_mcores (a : Nat) (bs : List Byte) : (m.gddrPut a bs).mcores = m.mcores := rfl
@[simp] theorem Mod.gddrPut_harts (a : Nat) (bs : List Byte) : (m.gddrPut a bs).harts = m.harts := rfl
@[simp] theorem Mod.gddrPut_tlb (a : Nat) (bs : List Byte) : (m.gddrPut a bs).tlb = m.tlb := rfl
@[simp] theorem Mod.gddrPut_seqs (a : Nat) (bs : List Byte) : (m.gddrPut a bs).seqs = m.seqs := rfl
@[simp] theorem Mod.gddrPut_dports (a : Nat) (bs : List Byte) : (m.gddrPut a bs).dports = m.dports := rfl
@[simp] theorem Mod.gddrPut_pins (a : Nat) (bs : List Byte) : (m.gddrPut a bs).pins = m.pins := rfl
@[simp] theorem Mod.gddrPut_rings (a : Nat) (bs : List Byte) : (m.gddrPut a bs).rings = m.rings := rfl
@[simp] theorem Mod.gddrPut_sendBuf (a : Nat) (bs : List Byte) : (m.gddrPut a bs).sendBuf = m.sendBuf := rfl
@[simp] theorem Mod.gddrPut_lqs (a : Nat) (bs : List Byte) : (m.gddrPut a bs).lqs = m.lqs := rfl
@[simp] theorem Mod.gddrPut_lreqs (a : Nat) (bs : List Byte) : (m.gddrPut a bs).lreqs = m.lreqs := rfl
@[simp] theorem Mod.gddrPut_nextReq (a : Nat) (bs : List Byte) : (m.gddrPut a bs).nextReq = m.nextReq := rfl
@[simp] theorem Mod.gddrPut_lvs (a : Nat) (bs : List Byte) : (m.gddrPut a bs).lvs = m.lvs := rfl
@[simp] theorem Mod.gddrPut_hvs (a : Nat) (bs : List Byte) : (m.gddrPut a bs).hvs = m.hvs := rfl
@[simp] theorem Mod.gddrPut_meass (a : Nat) (bs : List Byte) : (m.gddrPut a bs).meass = m.meass := rfl
@[simp] theorem Mod.gddrPut_plt (a : Nat) (bs : List Byte) : (m.gddrPut a bs).plt = m.plt := rfl
@[simp] theorem Mod.gddrPut_waves (a : Nat) (bs : List Byte) : (m.gddrPut a bs).waves = m.waves := rfl
@[simp] theorem Mod.gddrPut_ass (a : Nat) (bs : List Byte) : (m.gddrPut a bs).ass = m.ass := rfl
@[simp] theorem Mod.gddrPut_acqs (a : Nat) (bs : List Byte) : (m.gddrPut a bs).acqs = m.acqs := rfl
@[simp] theorem Mod.gddrPut_trg (a : Nat) (bs : List Byte) : (m.gddrPut a bs).trg = m.trg := rfl
@[simp] theorem Mod.gddrPut_tim (a : Nat) (bs : List Byte) : (m.gddrPut a bs).tim = m.tim := rfl
@[simp] theorem Mod.gddrPut_cal (a : Nat) (bs : List Byte) : (m.gddrPut a bs).cal = m.cal := rfl
@[simp] theorem Mod.gddrPut_drc (a : Nat) (bs : List Byte) : (m.gddrPut a bs).drc = m.drc := rfl
@[simp] theorem Mod.gddrPut_dma (a : Nat) (bs : List Byte) : (m.gddrPut a bs).dma = m.dma := rfl
@[simp] theorem Mod.gddrPut_pair (a : Nat) (bs : List Byte) : (m.gddrPut a bs).pair = m.pair := rfl

/-! ### sramPut -/

@[simp] theorem Mod.sramPut_regs (a : Nat) (bs : List Byte) : (m.sramPut a bs).regs = m.regs := rfl
@[simp] theorem Mod.sramPut_latch (a : Nat) (bs : List Byte) : (m.sramPut a bs).latch = m.latch := rfl
@[simp] theorem Mod.sramPut_stage (a : Nat) (bs : List Byte) : (m.sramPut a bs).stage = m.stage := rfl
@[simp] theorem Mod.sramPut_gddr (a : Nat) (bs : List Byte) : (m.sramPut a bs).gddr = m.gddr := rfl
@[simp] theorem Mod.sramPut_gddrBad (a : Nat) (bs : List Byte) : (m.sramPut a bs).gddrBad = m.gddrBad := rfl
@[simp] theorem Mod.sramPut_cmds (a : Nat) (bs : List Byte) : (m.sramPut a bs).cmds = m.cmds := rfl
@[simp] theorem Mod.sramPut_outs (a : Nat) (bs : List Byte) : (m.sramPut a bs).outs = m.outs := rfl
@[simp] theorem Mod.sramPut_flt (a : Nat) (bs : List Byte) : (m.sramPut a bs).flt = m.flt := rfl
@[simp] theorem Mod.sramPut_sys (a : Nat) (bs : List Byte) : (m.sramPut a bs).sys = m.sys := rfl
@[simp] theorem Mod.sramPut_queues (a : Nat) (bs : List Byte) : (m.sramPut a bs).queues = m.queues := rfl
@[simp] theorem Mod.sramPut_cqs (a : Nat) (bs : List Byte) : (m.sramPut a bs).cqs = m.cqs := rfl
@[simp] theorem Mod.sramPut_pcie (a : Nat) (bs : List Byte) : (m.sramPut a bs).pcie = m.pcie := rfl
@[simp] theorem Mod.sramPut_hat (a : Nat) (bs : List Byte) : (m.sramPut a bs).hat = m.hat := rfl
@[simp] theorem Mod.sramPut_scores (a : Nat) (bs : List Byte) : (m.sramPut a bs).scores = m.scores := rfl
@[simp] theorem Mod.sramPut_mcores (a : Nat) (bs : List Byte) : (m.sramPut a bs).mcores = m.mcores := rfl
@[simp] theorem Mod.sramPut_harts (a : Nat) (bs : List Byte) : (m.sramPut a bs).harts = m.harts := rfl
@[simp] theorem Mod.sramPut_tlb (a : Nat) (bs : List Byte) : (m.sramPut a bs).tlb = m.tlb := rfl
@[simp] theorem Mod.sramPut_seqs (a : Nat) (bs : List Byte) : (m.sramPut a bs).seqs = m.seqs := rfl
@[simp] theorem Mod.sramPut_dports (a : Nat) (bs : List Byte) : (m.sramPut a bs).dports = m.dports := rfl
@[simp] theorem Mod.sramPut_pins (a : Nat) (bs : List Byte) : (m.sramPut a bs).pins = m.pins := rfl
@[simp] theorem Mod.sramPut_rings (a : Nat) (bs : List Byte) : (m.sramPut a bs).rings = m.rings := rfl
@[simp] theorem Mod.sramPut_sendBuf (a : Nat) (bs : List Byte) : (m.sramPut a bs).sendBuf = m.sendBuf := rfl
@[simp] theorem Mod.sramPut_lqs (a : Nat) (bs : List Byte) : (m.sramPut a bs).lqs = m.lqs := rfl
@[simp] theorem Mod.sramPut_lreqs (a : Nat) (bs : List Byte) : (m.sramPut a bs).lreqs = m.lreqs := rfl
@[simp] theorem Mod.sramPut_nextReq (a : Nat) (bs : List Byte) : (m.sramPut a bs).nextReq = m.nextReq := rfl
@[simp] theorem Mod.sramPut_lvs (a : Nat) (bs : List Byte) : (m.sramPut a bs).lvs = m.lvs := rfl
@[simp] theorem Mod.sramPut_hvs (a : Nat) (bs : List Byte) : (m.sramPut a bs).hvs = m.hvs := rfl
@[simp] theorem Mod.sramPut_meass (a : Nat) (bs : List Byte) : (m.sramPut a bs).meass = m.meass := rfl
@[simp] theorem Mod.sramPut_plt (a : Nat) (bs : List Byte) : (m.sramPut a bs).plt = m.plt := rfl
@[simp] theorem Mod.sramPut_waves (a : Nat) (bs : List Byte) : (m.sramPut a bs).waves = m.waves := rfl
@[simp] theorem Mod.sramPut_ass (a : Nat) (bs : List Byte) : (m.sramPut a bs).ass = m.ass := rfl
@[simp] theorem Mod.sramPut_acqs (a : Nat) (bs : List Byte) : (m.sramPut a bs).acqs = m.acqs := rfl
@[simp] theorem Mod.sramPut_trg (a : Nat) (bs : List Byte) : (m.sramPut a bs).trg = m.trg := rfl
@[simp] theorem Mod.sramPut_tim (a : Nat) (bs : List Byte) : (m.sramPut a bs).tim = m.tim := rfl
@[simp] theorem Mod.sramPut_cal (a : Nat) (bs : List Byte) : (m.sramPut a bs).cal = m.cal := rfl
@[simp] theorem Mod.sramPut_drc (a : Nat) (bs : List Byte) : (m.sramPut a bs).drc = m.drc := rfl
@[simp] theorem Mod.sramPut_dma (a : Nat) (bs : List Byte) : (m.sramPut a bs).dma = m.dma := rfl
@[simp] theorem Mod.sramPut_pair (a : Nat) (bs : List Byte) : (m.sramPut a bs).pair = m.pair := rfl

/-! ### setQueue -/

@[simp] theorem Mod.setQueue_regs (q : Nat) (x : Queue) : (m.setQueue q x).regs = m.regs := rfl
@[simp] theorem Mod.setQueue_latch (q : Nat) (x : Queue) : (m.setQueue q x).latch = m.latch := rfl
@[simp] theorem Mod.setQueue_stage (q : Nat) (x : Queue) : (m.setQueue q x).stage = m.stage := rfl
@[simp] theorem Mod.setQueue_gddr (q : Nat) (x : Queue) : (m.setQueue q x).gddr = m.gddr := rfl
@[simp] theorem Mod.setQueue_gddrBad (q : Nat) (x : Queue) : (m.setQueue q x).gddrBad = m.gddrBad := rfl
@[simp] theorem Mod.setQueue_sram (q : Nat) (x : Queue) : (m.setQueue q x).sram = m.sram := rfl
@[simp] theorem Mod.setQueue_sramBad (q : Nat) (x : Queue) : (m.setQueue q x).sramBad = m.sramBad := rfl
@[simp] theorem Mod.setQueue_cmds (q : Nat) (x : Queue) : (m.setQueue q x).cmds = m.cmds := rfl
@[simp] theorem Mod.setQueue_outs (q : Nat) (x : Queue) : (m.setQueue q x).outs = m.outs := rfl
@[simp] theorem Mod.setQueue_flt (q : Nat) (x : Queue) : (m.setQueue q x).flt = m.flt := rfl
@[simp] theorem Mod.setQueue_sys (q : Nat) (x : Queue) : (m.setQueue q x).sys = m.sys := rfl
@[simp] theorem Mod.setQueue_cqs (q : Nat) (x : Queue) : (m.setQueue q x).cqs = m.cqs := rfl
@[simp] theorem Mod.setQueue_pcie (q : Nat) (x : Queue) : (m.setQueue q x).pcie = m.pcie := rfl
@[simp] theorem Mod.setQueue_hat (q : Nat) (x : Queue) : (m.setQueue q x).hat = m.hat := rfl
@[simp] theorem Mod.setQueue_scores (q : Nat) (x : Queue) : (m.setQueue q x).scores = m.scores := rfl
@[simp] theorem Mod.setQueue_mcores (q : Nat) (x : Queue) : (m.setQueue q x).mcores = m.mcores := rfl
@[simp] theorem Mod.setQueue_harts (q : Nat) (x : Queue) : (m.setQueue q x).harts = m.harts := rfl
@[simp] theorem Mod.setQueue_tlb (q : Nat) (x : Queue) : (m.setQueue q x).tlb = m.tlb := rfl
@[simp] theorem Mod.setQueue_seqs (q : Nat) (x : Queue) : (m.setQueue q x).seqs = m.seqs := rfl
@[simp] theorem Mod.setQueue_dports (q : Nat) (x : Queue) : (m.setQueue q x).dports = m.dports := rfl
@[simp] theorem Mod.setQueue_pins (q : Nat) (x : Queue) : (m.setQueue q x).pins = m.pins := rfl
@[simp] theorem Mod.setQueue_rings (q : Nat) (x : Queue) : (m.setQueue q x).rings = m.rings := rfl
@[simp] theorem Mod.setQueue_sendBuf (q : Nat) (x : Queue) : (m.setQueue q x).sendBuf = m.sendBuf := rfl
@[simp] theorem Mod.setQueue_lqs (q : Nat) (x : Queue) : (m.setQueue q x).lqs = m.lqs := rfl
@[simp] theorem Mod.setQueue_lreqs (q : Nat) (x : Queue) : (m.setQueue q x).lreqs = m.lreqs := rfl
@[simp] theorem Mod.setQueue_nextReq (q : Nat) (x : Queue) : (m.setQueue q x).nextReq = m.nextReq := rfl
@[simp] theorem Mod.setQueue_lvs (q : Nat) (x : Queue) : (m.setQueue q x).lvs = m.lvs := rfl
@[simp] theorem Mod.setQueue_hvs (q : Nat) (x : Queue) : (m.setQueue q x).hvs = m.hvs := rfl
@[simp] theorem Mod.setQueue_meass (q : Nat) (x : Queue) : (m.setQueue q x).meass = m.meass := rfl
@[simp] theorem Mod.setQueue_plt (q : Nat) (x : Queue) : (m.setQueue q x).plt = m.plt := rfl
@[simp] theorem Mod.setQueue_waves (q : Nat) (x : Queue) : (m.setQueue q x).waves = m.waves := rfl
@[simp] theorem Mod.setQueue_ass (q : Nat) (x : Queue) : (m.setQueue q x).ass = m.ass := rfl
@[simp] theorem Mod.setQueue_acqs (q : Nat) (x : Queue) : (m.setQueue q x).acqs = m.acqs := rfl
@[simp] theorem Mod.setQueue_trg (q : Nat) (x : Queue) : (m.setQueue q x).trg = m.trg := rfl
@[simp] theorem Mod.setQueue_tim (q : Nat) (x : Queue) : (m.setQueue q x).tim = m.tim := rfl
@[simp] theorem Mod.setQueue_cal (q : Nat) (x : Queue) : (m.setQueue q x).cal = m.cal := rfl
@[simp] theorem Mod.setQueue_drc (q : Nat) (x : Queue) : (m.setQueue q x).drc = m.drc := rfl
@[simp] theorem Mod.setQueue_dma (q : Nat) (x : Queue) : (m.setQueue q x).dma = m.dma := rfl
@[simp] theorem Mod.setQueue_pair (q : Nat) (x : Queue) : (m.setQueue q x).pair = m.pair := rfl

/-! ### setCq -/

@[simp] theorem Mod.setCq_regs (c : Nat) (x : Cq) : (m.setCq c x).regs = m.regs := rfl
@[simp] theorem Mod.setCq_latch (c : Nat) (x : Cq) : (m.setCq c x).latch = m.latch := rfl
@[simp] theorem Mod.setCq_stage (c : Nat) (x : Cq) : (m.setCq c x).stage = m.stage := rfl
@[simp] theorem Mod.setCq_gddr (c : Nat) (x : Cq) : (m.setCq c x).gddr = m.gddr := rfl
@[simp] theorem Mod.setCq_gddrBad (c : Nat) (x : Cq) : (m.setCq c x).gddrBad = m.gddrBad := rfl
@[simp] theorem Mod.setCq_sram (c : Nat) (x : Cq) : (m.setCq c x).sram = m.sram := rfl
@[simp] theorem Mod.setCq_sramBad (c : Nat) (x : Cq) : (m.setCq c x).sramBad = m.sramBad := rfl
@[simp] theorem Mod.setCq_cmds (c : Nat) (x : Cq) : (m.setCq c x).cmds = m.cmds := rfl
@[simp] theorem Mod.setCq_outs (c : Nat) (x : Cq) : (m.setCq c x).outs = m.outs := rfl
@[simp] theorem Mod.setCq_flt (c : Nat) (x : Cq) : (m.setCq c x).flt = m.flt := rfl
@[simp] theorem Mod.setCq_sys (c : Nat) (x : Cq) : (m.setCq c x).sys = m.sys := rfl
@[simp] theorem Mod.setCq_queues (c : Nat) (x : Cq) : (m.setCq c x).queues = m.queues := rfl
@[simp] theorem Mod.setCq_pcie (c : Nat) (x : Cq) : (m.setCq c x).pcie = m.pcie := rfl
@[simp] theorem Mod.setCq_hat (c : Nat) (x : Cq) : (m.setCq c x).hat = m.hat := rfl
@[simp] theorem Mod.setCq_scores (c : Nat) (x : Cq) : (m.setCq c x).scores = m.scores := rfl
@[simp] theorem Mod.setCq_mcores (c : Nat) (x : Cq) : (m.setCq c x).mcores = m.mcores := rfl
@[simp] theorem Mod.setCq_harts (c : Nat) (x : Cq) : (m.setCq c x).harts = m.harts := rfl
@[simp] theorem Mod.setCq_tlb (c : Nat) (x : Cq) : (m.setCq c x).tlb = m.tlb := rfl
@[simp] theorem Mod.setCq_seqs (c : Nat) (x : Cq) : (m.setCq c x).seqs = m.seqs := rfl
@[simp] theorem Mod.setCq_dports (c : Nat) (x : Cq) : (m.setCq c x).dports = m.dports := rfl
@[simp] theorem Mod.setCq_pins (c : Nat) (x : Cq) : (m.setCq c x).pins = m.pins := rfl
@[simp] theorem Mod.setCq_rings (c : Nat) (x : Cq) : (m.setCq c x).rings = m.rings := rfl
@[simp] theorem Mod.setCq_sendBuf (c : Nat) (x : Cq) : (m.setCq c x).sendBuf = m.sendBuf := rfl
@[simp] theorem Mod.setCq_lqs (c : Nat) (x : Cq) : (m.setCq c x).lqs = m.lqs := rfl
@[simp] theorem Mod.setCq_lreqs (c : Nat) (x : Cq) : (m.setCq c x).lreqs = m.lreqs := rfl
@[simp] theorem Mod.setCq_nextReq (c : Nat) (x : Cq) : (m.setCq c x).nextReq = m.nextReq := rfl
@[simp] theorem Mod.setCq_lvs (c : Nat) (x : Cq) : (m.setCq c x).lvs = m.lvs := rfl
@[simp] theorem Mod.setCq_hvs (c : Nat) (x : Cq) : (m.setCq c x).hvs = m.hvs := rfl
@[simp] theorem Mod.setCq_meass (c : Nat) (x : Cq) : (m.setCq c x).meass = m.meass := rfl
@[simp] theorem Mod.setCq_plt (c : Nat) (x : Cq) : (m.setCq c x).plt = m.plt := rfl
@[simp] theorem Mod.setCq_waves (c : Nat) (x : Cq) : (m.setCq c x).waves = m.waves := rfl
@[simp] theorem Mod.setCq_ass (c : Nat) (x : Cq) : (m.setCq c x).ass = m.ass := rfl
@[simp] theorem Mod.setCq_acqs (c : Nat) (x : Cq) : (m.setCq c x).acqs = m.acqs := rfl
@[simp] theorem Mod.setCq_trg (c : Nat) (x : Cq) : (m.setCq c x).trg = m.trg := rfl
@[simp] theorem Mod.setCq_tim (c : Nat) (x : Cq) : (m.setCq c x).tim = m.tim := rfl
@[simp] theorem Mod.setCq_cal (c : Nat) (x : Cq) : (m.setCq c x).cal = m.cal := rfl
@[simp] theorem Mod.setCq_drc (c : Nat) (x : Cq) : (m.setCq c x).drc = m.drc := rfl
@[simp] theorem Mod.setCq_dma (c : Nat) (x : Cq) : (m.setCq c x).dma = m.dma := rfl
@[simp] theorem Mod.setCq_pair (c : Nat) (x : Cq) : (m.setCq c x).pair = m.pair := rfl

/-! ### setInst -/

@[simp] theorem Mod.setInst_regs (i : Nat) (x : Option Inst) : (m.setInst i x).regs = m.regs := rfl
@[simp] theorem Mod.setInst_latch (i : Nat) (x : Option Inst) : (m.setInst i x).latch = m.latch := rfl
@[simp] theorem Mod.setInst_stage (i : Nat) (x : Option Inst) : (m.setInst i x).stage = m.stage := rfl
@[simp] theorem Mod.setInst_gddr (i : Nat) (x : Option Inst) : (m.setInst i x).gddr = m.gddr := rfl
@[simp] theorem Mod.setInst_gddrBad (i : Nat) (x : Option Inst) : (m.setInst i x).gddrBad = m.gddrBad := rfl
@[simp] theorem Mod.setInst_sram (i : Nat) (x : Option Inst) : (m.setInst i x).sram = m.sram := rfl
@[simp] theorem Mod.setInst_sramBad (i : Nat) (x : Option Inst) : (m.setInst i x).sramBad = m.sramBad := rfl
@[simp] theorem Mod.setInst_cmds (i : Nat) (x : Option Inst) : (m.setInst i x).cmds = m.cmds := rfl
@[simp] theorem Mod.setInst_outs (i : Nat) (x : Option Inst) : (m.setInst i x).outs = m.outs := rfl
@[simp] theorem Mod.setInst_flt (i : Nat) (x : Option Inst) : (m.setInst i x).flt = m.flt := rfl
@[simp] theorem Mod.setInst_sys (i : Nat) (x : Option Inst) : (m.setInst i x).sys = m.sys := rfl
@[simp] theorem Mod.setInst_queues (i : Nat) (x : Option Inst) : (m.setInst i x).queues = m.queues := rfl
@[simp] theorem Mod.setInst_cqs (i : Nat) (x : Option Inst) : (m.setInst i x).cqs = m.cqs := rfl
@[simp] theorem Mod.setInst_pcie (i : Nat) (x : Option Inst) : (m.setInst i x).pcie = m.pcie := rfl
@[simp] theorem Mod.setInst_scores (i : Nat) (x : Option Inst) : (m.setInst i x).scores = m.scores := rfl
@[simp] theorem Mod.setInst_mcores (i : Nat) (x : Option Inst) : (m.setInst i x).mcores = m.mcores := rfl
@[simp] theorem Mod.setInst_harts (i : Nat) (x : Option Inst) : (m.setInst i x).harts = m.harts := rfl
@[simp] theorem Mod.setInst_tlb (i : Nat) (x : Option Inst) : (m.setInst i x).tlb = m.tlb := rfl
@[simp] theorem Mod.setInst_seqs (i : Nat) (x : Option Inst) : (m.setInst i x).seqs = m.seqs := rfl
@[simp] theorem Mod.setInst_dports (i : Nat) (x : Option Inst) : (m.setInst i x).dports = m.dports := rfl
@[simp] theorem Mod.setInst_pins (i : Nat) (x : Option Inst) : (m.setInst i x).pins = m.pins := rfl
@[simp] theorem Mod.setInst_rings (i : Nat) (x : Option Inst) : (m.setInst i x).rings = m.rings := rfl
@[simp] theorem Mod.setInst_sendBuf (i : Nat) (x : Option Inst) : (m.setInst i x).sendBuf = m.sendBuf := rfl
@[simp] theorem Mod.setInst_lqs (i : Nat) (x : Option Inst) : (m.setInst i x).lqs = m.lqs := rfl
@[simp] theorem Mod.setInst_lreqs (i : Nat) (x : Option Inst) : (m.setInst i x).lreqs = m.lreqs := rfl
@[simp] theorem Mod.setInst_nextReq (i : Nat) (x : Option Inst) : (m.setInst i x).nextReq = m.nextReq := rfl
@[simp] theorem Mod.setInst_lvs (i : Nat) (x : Option Inst) : (m.setInst i x).lvs = m.lvs := rfl
@[simp] theorem Mod.setInst_hvs (i : Nat) (x : Option Inst) : (m.setInst i x).hvs = m.hvs := rfl
@[simp] theorem Mod.setInst_meass (i : Nat) (x : Option Inst) : (m.setInst i x).meass = m.meass := rfl
@[simp] theorem Mod.setInst_plt (i : Nat) (x : Option Inst) : (m.setInst i x).plt = m.plt := rfl
@[simp] theorem Mod.setInst_waves (i : Nat) (x : Option Inst) : (m.setInst i x).waves = m.waves := rfl
@[simp] theorem Mod.setInst_ass (i : Nat) (x : Option Inst) : (m.setInst i x).ass = m.ass := rfl
@[simp] theorem Mod.setInst_acqs (i : Nat) (x : Option Inst) : (m.setInst i x).acqs = m.acqs := rfl
@[simp] theorem Mod.setInst_trg (i : Nat) (x : Option Inst) : (m.setInst i x).trg = m.trg := rfl
@[simp] theorem Mod.setInst_tim (i : Nat) (x : Option Inst) : (m.setInst i x).tim = m.tim := rfl
@[simp] theorem Mod.setInst_cal (i : Nat) (x : Option Inst) : (m.setInst i x).cal = m.cal := rfl
@[simp] theorem Mod.setInst_drc (i : Nat) (x : Option Inst) : (m.setInst i x).drc = m.drc := rfl
@[simp] theorem Mod.setInst_dma (i : Nat) (x : Option Inst) : (m.setInst i x).dma = m.dma := rfl
@[simp] theorem Mod.setInst_pair (i : Nat) (x : Option Inst) : (m.setInst i x).pair = m.pair := rfl

/-! ### setScore -/

@[simp] theorem Mod.setScore_regs (c : Nat) (x : SCore) : (m.setScore c x).regs = m.regs := rfl
@[simp] theorem Mod.setScore_latch (c : Nat) (x : SCore) : (m.setScore c x).latch = m.latch := rfl
@[simp] theorem Mod.setScore_stage (c : Nat) (x : SCore) : (m.setScore c x).stage = m.stage := rfl
@[simp] theorem Mod.setScore_gddr (c : Nat) (x : SCore) : (m.setScore c x).gddr = m.gddr := rfl
@[simp] theorem Mod.setScore_gddrBad (c : Nat) (x : SCore) : (m.setScore c x).gddrBad = m.gddrBad := rfl
@[simp] theorem Mod.setScore_sram (c : Nat) (x : SCore) : (m.setScore c x).sram = m.sram := rfl
@[simp] theorem Mod.setScore_sramBad (c : Nat) (x : SCore) : (m.setScore c x).sramBad = m.sramBad := rfl
@[simp] theorem Mod.setScore_cmds (c : Nat) (x : SCore) : (m.setScore c x).cmds = m.cmds := rfl
@[simp] theorem Mod.setScore_outs (c : Nat) (x : SCore) : (m.setScore c x).outs = m.outs := rfl
@[simp] theorem Mod.setScore_flt (c : Nat) (x : SCore) : (m.setScore c x).flt = m.flt := rfl
@[simp] theorem Mod.setScore_sys (c : Nat) (x : SCore) : (m.setScore c x).sys = m.sys := rfl
@[simp] theorem Mod.setScore_queues (c : Nat) (x : SCore) : (m.setScore c x).queues = m.queues := rfl
@[simp] theorem Mod.setScore_cqs (c : Nat) (x : SCore) : (m.setScore c x).cqs = m.cqs := rfl
@[simp] theorem Mod.setScore_pcie (c : Nat) (x : SCore) : (m.setScore c x).pcie = m.pcie := rfl
@[simp] theorem Mod.setScore_hat (c : Nat) (x : SCore) : (m.setScore c x).hat = m.hat := rfl
@[simp] theorem Mod.setScore_mcores (c : Nat) (x : SCore) : (m.setScore c x).mcores = m.mcores := rfl
@[simp] theorem Mod.setScore_harts (c : Nat) (x : SCore) : (m.setScore c x).harts = m.harts := rfl
@[simp] theorem Mod.setScore_tlb (c : Nat) (x : SCore) : (m.setScore c x).tlb = m.tlb := rfl
@[simp] theorem Mod.setScore_seqs (c : Nat) (x : SCore) : (m.setScore c x).seqs = m.seqs := rfl
@[simp] theorem Mod.setScore_dports (c : Nat) (x : SCore) : (m.setScore c x).dports = m.dports := rfl
@[simp] theorem Mod.setScore_pins (c : Nat) (x : SCore) : (m.setScore c x).pins = m.pins := rfl
@[simp] theorem Mod.setScore_rings (c : Nat) (x : SCore) : (m.setScore c x).rings = m.rings := rfl
@[simp] theorem Mod.setScore_sendBuf (c : Nat) (x : SCore) : (m.setScore c x).sendBuf = m.sendBuf := rfl
@[simp] theorem Mod.setScore_lqs (c : Nat) (x : SCore) : (m.setScore c x).lqs = m.lqs := rfl
@[simp] theorem Mod.setScore_lreqs (c : Nat) (x : SCore) : (m.setScore c x).lreqs = m.lreqs := rfl
@[simp] theorem Mod.setScore_nextReq (c : Nat) (x : SCore) : (m.setScore c x).nextReq = m.nextReq := rfl
@[simp] theorem Mod.setScore_lvs (c : Nat) (x : SCore) : (m.setScore c x).lvs = m.lvs := rfl
@[simp] theorem Mod.setScore_hvs (c : Nat) (x : SCore) : (m.setScore c x).hvs = m.hvs := rfl
@[simp] theorem Mod.setScore_meass (c : Nat) (x : SCore) : (m.setScore c x).meass = m.meass := rfl
@[simp] theorem Mod.setScore_plt (c : Nat) (x : SCore) : (m.setScore c x).plt = m.plt := rfl
@[simp] theorem Mod.setScore_waves (c : Nat) (x : SCore) : (m.setScore c x).waves = m.waves := rfl
@[simp] theorem Mod.setScore_ass (c : Nat) (x : SCore) : (m.setScore c x).ass = m.ass := rfl
@[simp] theorem Mod.setScore_acqs (c : Nat) (x : SCore) : (m.setScore c x).acqs = m.acqs := rfl
@[simp] theorem Mod.setScore_trg (c : Nat) (x : SCore) : (m.setScore c x).trg = m.trg := rfl
@[simp] theorem Mod.setScore_tim (c : Nat) (x : SCore) : (m.setScore c x).tim = m.tim := rfl
@[simp] theorem Mod.setScore_cal (c : Nat) (x : SCore) : (m.setScore c x).cal = m.cal := rfl
@[simp] theorem Mod.setScore_drc (c : Nat) (x : SCore) : (m.setScore c x).drc = m.drc := rfl
@[simp] theorem Mod.setScore_dma (c : Nat) (x : SCore) : (m.setScore c x).dma = m.dma := rfl
@[simp] theorem Mod.setScore_pair (c : Nat) (x : SCore) : (m.setScore c x).pair = m.pair := rfl

/-! ### setHart -/

@[simp] theorem Mod.setHart_regs (c : Nat) (x : Hart) : (m.setHart c x).regs = m.regs := rfl
@[simp] theorem Mod.setHart_latch (c : Nat) (x : Hart) : (m.setHart c x).latch = m.latch := rfl
@[simp] theorem Mod.setHart_stage (c : Nat) (x : Hart) : (m.setHart c x).stage = m.stage := rfl
@[simp] theorem Mod.setHart_gddr (c : Nat) (x : Hart) : (m.setHart c x).gddr = m.gddr := rfl
@[simp] theorem Mod.setHart_gddrBad (c : Nat) (x : Hart) : (m.setHart c x).gddrBad = m.gddrBad := rfl
@[simp] theorem Mod.setHart_sram (c : Nat) (x : Hart) : (m.setHart c x).sram = m.sram := rfl
@[simp] theorem Mod.setHart_sramBad (c : Nat) (x : Hart) : (m.setHart c x).sramBad = m.sramBad := rfl
@[simp] theorem Mod.setHart_cmds (c : Nat) (x : Hart) : (m.setHart c x).cmds = m.cmds := rfl
@[simp] theorem Mod.setHart_outs (c : Nat) (x : Hart) : (m.setHart c x).outs = m.outs := rfl
@[simp] theorem Mod.setHart_flt (c : Nat) (x : Hart) : (m.setHart c x).flt = m.flt := rfl
@[simp] theorem Mod.setHart_sys (c : Nat) (x : Hart) : (m.setHart c x).sys = m.sys := rfl
@[simp] theorem Mod.setHart_queues (c : Nat) (x : Hart) : (m.setHart c x).queues = m.queues := rfl
@[simp] theorem Mod.setHart_cqs (c : Nat) (x : Hart) : (m.setHart c x).cqs = m.cqs := rfl
@[simp] theorem Mod.setHart_pcie (c : Nat) (x : Hart) : (m.setHart c x).pcie = m.pcie := rfl
@[simp] theorem Mod.setHart_hat (c : Nat) (x : Hart) : (m.setHart c x).hat = m.hat := rfl
@[simp] theorem Mod.setHart_scores (c : Nat) (x : Hart) : (m.setHart c x).scores = m.scores := rfl
@[simp] theorem Mod.setHart_mcores (c : Nat) (x : Hart) : (m.setHart c x).mcores = m.mcores := rfl
@[simp] theorem Mod.setHart_tlb (c : Nat) (x : Hart) : (m.setHart c x).tlb = m.tlb := rfl
@[simp] theorem Mod.setHart_seqs (c : Nat) (x : Hart) : (m.setHart c x).seqs = m.seqs := rfl
@[simp] theorem Mod.setHart_dports (c : Nat) (x : Hart) : (m.setHart c x).dports = m.dports := rfl
@[simp] theorem Mod.setHart_pins (c : Nat) (x : Hart) : (m.setHart c x).pins = m.pins := rfl
@[simp] theorem Mod.setHart_rings (c : Nat) (x : Hart) : (m.setHart c x).rings = m.rings := rfl
@[simp] theorem Mod.setHart_sendBuf (c : Nat) (x : Hart) : (m.setHart c x).sendBuf = m.sendBuf := rfl
@[simp] theorem Mod.setHart_lqs (c : Nat) (x : Hart) : (m.setHart c x).lqs = m.lqs := rfl
@[simp] theorem Mod.setHart_lreqs (c : Nat) (x : Hart) : (m.setHart c x).lreqs = m.lreqs := rfl
@[simp] theorem Mod.setHart_nextReq (c : Nat) (x : Hart) : (m.setHart c x).nextReq = m.nextReq := rfl
@[simp] theorem Mod.setHart_lvs (c : Nat) (x : Hart) : (m.setHart c x).lvs = m.lvs := rfl
@[simp] theorem Mod.setHart_hvs (c : Nat) (x : Hart) : (m.setHart c x).hvs = m.hvs := rfl
@[simp] theorem Mod.setHart_meass (c : Nat) (x : Hart) : (m.setHart c x).meass = m.meass := rfl
@[simp] theorem Mod.setHart_plt (c : Nat) (x : Hart) : (m.setHart c x).plt = m.plt := rfl
@[simp] theorem Mod.setHart_waves (c : Nat) (x : Hart) : (m.setHart c x).waves = m.waves := rfl
@[simp] theorem Mod.setHart_ass (c : Nat) (x : Hart) : (m.setHart c x).ass = m.ass := rfl
@[simp] theorem Mod.setHart_acqs (c : Nat) (x : Hart) : (m.setHart c x).acqs = m.acqs := rfl
@[simp] theorem Mod.setHart_trg (c : Nat) (x : Hart) : (m.setHart c x).trg = m.trg := rfl
@[simp] theorem Mod.setHart_tim (c : Nat) (x : Hart) : (m.setHart c x).tim = m.tim := rfl
@[simp] theorem Mod.setHart_cal (c : Nat) (x : Hart) : (m.setHart c x).cal = m.cal := rfl
@[simp] theorem Mod.setHart_drc (c : Nat) (x : Hart) : (m.setHart c x).drc = m.drc := rfl
@[simp] theorem Mod.setHart_dma (c : Nat) (x : Hart) : (m.setHart c x).dma = m.dma := rfl
@[simp] theorem Mod.setHart_pair (c : Nat) (x : Hart) : (m.setHart c x).pair = m.pair := rfl

/-! ### setMcore -/

@[simp] theorem Mod.setMcore_regs (c : Nat) (x : MCore) : (m.setMcore c x).regs = m.regs := rfl
@[simp] theorem Mod.setMcore_latch (c : Nat) (x : MCore) : (m.setMcore c x).latch = m.latch := rfl
@[simp] theorem Mod.setMcore_stage (c : Nat) (x : MCore) : (m.setMcore c x).stage = m.stage := rfl
@[simp] theorem Mod.setMcore_gddr (c : Nat) (x : MCore) : (m.setMcore c x).gddr = m.gddr := rfl
@[simp] theorem Mod.setMcore_gddrBad (c : Nat) (x : MCore) : (m.setMcore c x).gddrBad = m.gddrBad := rfl
@[simp] theorem Mod.setMcore_sram (c : Nat) (x : MCore) : (m.setMcore c x).sram = m.sram := rfl
@[simp] theorem Mod.setMcore_sramBad (c : Nat) (x : MCore) : (m.setMcore c x).sramBad = m.sramBad := rfl
@[simp] theorem Mod.setMcore_cmds (c : Nat) (x : MCore) : (m.setMcore c x).cmds = m.cmds := rfl
@[simp] theorem Mod.setMcore_outs (c : Nat) (x : MCore) : (m.setMcore c x).outs = m.outs := rfl
@[simp] theorem Mod.setMcore_flt (c : Nat) (x : MCore) : (m.setMcore c x).flt = m.flt := rfl
@[simp] theorem Mod.setMcore_sys (c : Nat) (x : MCore) : (m.setMcore c x).sys = m.sys := rfl
@[simp] theorem Mod.setMcore_queues (c : Nat) (x : MCore) : (m.setMcore c x).queues = m.queues := rfl
@[simp] theorem Mod.setMcore_cqs (c : Nat) (x : MCore) : (m.setMcore c x).cqs = m.cqs := rfl
@[simp] theorem Mod.setMcore_pcie (c : Nat) (x : MCore) : (m.setMcore c x).pcie = m.pcie := rfl
@[simp] theorem Mod.setMcore_hat (c : Nat) (x : MCore) : (m.setMcore c x).hat = m.hat := rfl
@[simp] theorem Mod.setMcore_scores (c : Nat) (x : MCore) : (m.setMcore c x).scores = m.scores := rfl
@[simp] theorem Mod.setMcore_harts (c : Nat) (x : MCore) : (m.setMcore c x).harts = m.harts := rfl
@[simp] theorem Mod.setMcore_tlb (c : Nat) (x : MCore) : (m.setMcore c x).tlb = m.tlb := rfl
@[simp] theorem Mod.setMcore_seqs (c : Nat) (x : MCore) : (m.setMcore c x).seqs = m.seqs := rfl
@[simp] theorem Mod.setMcore_dports (c : Nat) (x : MCore) : (m.setMcore c x).dports = m.dports := rfl
@[simp] theorem Mod.setMcore_pins (c : Nat) (x : MCore) : (m.setMcore c x).pins = m.pins := rfl
@[simp] theorem Mod.setMcore_rings (c : Nat) (x : MCore) : (m.setMcore c x).rings = m.rings := rfl
@[simp] theorem Mod.setMcore_sendBuf (c : Nat) (x : MCore) : (m.setMcore c x).sendBuf = m.sendBuf := rfl
@[simp] theorem Mod.setMcore_lqs (c : Nat) (x : MCore) : (m.setMcore c x).lqs = m.lqs := rfl
@[simp] theorem Mod.setMcore_lreqs (c : Nat) (x : MCore) : (m.setMcore c x).lreqs = m.lreqs := rfl
@[simp] theorem Mod.setMcore_nextReq (c : Nat) (x : MCore) : (m.setMcore c x).nextReq = m.nextReq := rfl
@[simp] theorem Mod.setMcore_lvs (c : Nat) (x : MCore) : (m.setMcore c x).lvs = m.lvs := rfl
@[simp] theorem Mod.setMcore_hvs (c : Nat) (x : MCore) : (m.setMcore c x).hvs = m.hvs := rfl
@[simp] theorem Mod.setMcore_meass (c : Nat) (x : MCore) : (m.setMcore c x).meass = m.meass := rfl
@[simp] theorem Mod.setMcore_plt (c : Nat) (x : MCore) : (m.setMcore c x).plt = m.plt := rfl
@[simp] theorem Mod.setMcore_waves (c : Nat) (x : MCore) : (m.setMcore c x).waves = m.waves := rfl
@[simp] theorem Mod.setMcore_ass (c : Nat) (x : MCore) : (m.setMcore c x).ass = m.ass := rfl
@[simp] theorem Mod.setMcore_acqs (c : Nat) (x : MCore) : (m.setMcore c x).acqs = m.acqs := rfl
@[simp] theorem Mod.setMcore_trg (c : Nat) (x : MCore) : (m.setMcore c x).trg = m.trg := rfl
@[simp] theorem Mod.setMcore_tim (c : Nat) (x : MCore) : (m.setMcore c x).tim = m.tim := rfl
@[simp] theorem Mod.setMcore_cal (c : Nat) (x : MCore) : (m.setMcore c x).cal = m.cal := rfl
@[simp] theorem Mod.setMcore_drc (c : Nat) (x : MCore) : (m.setMcore c x).drc = m.drc := rfl
@[simp] theorem Mod.setMcore_dma (c : Nat) (x : MCore) : (m.setMcore c x).dma = m.dma := rfl
@[simp] theorem Mod.setMcore_pair (c : Nat) (x : MCore) : (m.setMcore c x).pair = m.pair := rfl

/-! ### setLost -/

@[simp] theorem Mod.setLost_regs (d : Nat) (b : Bool) : (m.setLost d b).regs = m.regs := rfl
@[simp] theorem Mod.setLost_latch (d : Nat) (b : Bool) : (m.setLost d b).latch = m.latch := rfl
@[simp] theorem Mod.setLost_stage (d : Nat) (b : Bool) : (m.setLost d b).stage = m.stage := rfl
@[simp] theorem Mod.setLost_gddr (d : Nat) (b : Bool) : (m.setLost d b).gddr = m.gddr := rfl
@[simp] theorem Mod.setLost_gddrBad (d : Nat) (b : Bool) : (m.setLost d b).gddrBad = m.gddrBad := rfl
@[simp] theorem Mod.setLost_sram (d : Nat) (b : Bool) : (m.setLost d b).sram = m.sram := rfl
@[simp] theorem Mod.setLost_sramBad (d : Nat) (b : Bool) : (m.setLost d b).sramBad = m.sramBad := rfl
@[simp] theorem Mod.setLost_cmds (d : Nat) (b : Bool) : (m.setLost d b).cmds = m.cmds := rfl
@[simp] theorem Mod.setLost_outs (d : Nat) (b : Bool) : (m.setLost d b).outs = m.outs := rfl
@[simp] theorem Mod.setLost_flt (d : Nat) (b : Bool) : (m.setLost d b).flt = m.flt := rfl
@[simp] theorem Mod.setLost_queues (d : Nat) (b : Bool) : (m.setLost d b).queues = m.queues := rfl
@[simp] theorem Mod.setLost_cqs (d : Nat) (b : Bool) : (m.setLost d b).cqs = m.cqs := rfl
@[simp] theorem Mod.setLost_pcie (d : Nat) (b : Bool) : (m.setLost d b).pcie = m.pcie := rfl
@[simp] theorem Mod.setLost_hat (d : Nat) (b : Bool) : (m.setLost d b).hat = m.hat := rfl
@[simp] theorem Mod.setLost_scores (d : Nat) (b : Bool) : (m.setLost d b).scores = m.scores := rfl
@[simp] theorem Mod.setLost_mcores (d : Nat) (b : Bool) : (m.setLost d b).mcores = m.mcores := rfl
@[simp] theorem Mod.setLost_harts (d : Nat) (b : Bool) : (m.setLost d b).harts = m.harts := rfl
@[simp] theorem Mod.setLost_tlb (d : Nat) (b : Bool) : (m.setLost d b).tlb = m.tlb := rfl
@[simp] theorem Mod.setLost_seqs (d : Nat) (b : Bool) : (m.setLost d b).seqs = m.seqs := rfl
@[simp] theorem Mod.setLost_dports (d : Nat) (b : Bool) : (m.setLost d b).dports = m.dports := rfl
@[simp] theorem Mod.setLost_pins (d : Nat) (b : Bool) : (m.setLost d b).pins = m.pins := rfl
@[simp] theorem Mod.setLost_rings (d : Nat) (b : Bool) : (m.setLost d b).rings = m.rings := rfl
@[simp] theorem Mod.setLost_sendBuf (d : Nat) (b : Bool) : (m.setLost d b).sendBuf = m.sendBuf := rfl
@[simp] theorem Mod.setLost_lqs (d : Nat) (b : Bool) : (m.setLost d b).lqs = m.lqs := rfl
@[simp] theorem Mod.setLost_lreqs (d : Nat) (b : Bool) : (m.setLost d b).lreqs = m.lreqs := rfl
@[simp] theorem Mod.setLost_nextReq (d : Nat) (b : Bool) : (m.setLost d b).nextReq = m.nextReq := rfl
@[simp] theorem Mod.setLost_lvs (d : Nat) (b : Bool) : (m.setLost d b).lvs = m.lvs := rfl
@[simp] theorem Mod.setLost_hvs (d : Nat) (b : Bool) : (m.setLost d b).hvs = m.hvs := rfl
@[simp] theorem Mod.setLost_meass (d : Nat) (b : Bool) : (m.setLost d b).meass = m.meass := rfl
@[simp] theorem Mod.setLost_plt (d : Nat) (b : Bool) : (m.setLost d b).plt = m.plt := rfl
@[simp] theorem Mod.setLost_waves (d : Nat) (b : Bool) : (m.setLost d b).waves = m.waves := rfl
@[simp] theorem Mod.setLost_ass (d : Nat) (b : Bool) : (m.setLost d b).ass = m.ass := rfl
@[simp] theorem Mod.setLost_acqs (d : Nat) (b : Bool) : (m.setLost d b).acqs = m.acqs := rfl
@[simp] theorem Mod.setLost_trg (d : Nat) (b : Bool) : (m.setLost d b).trg = m.trg := rfl
@[simp] theorem Mod.setLost_tim (d : Nat) (b : Bool) : (m.setLost d b).tim = m.tim := rfl
@[simp] theorem Mod.setLost_cal (d : Nat) (b : Bool) : (m.setLost d b).cal = m.cal := rfl
@[simp] theorem Mod.setLost_drc (d : Nat) (b : Bool) : (m.setLost d b).drc = m.drc := rfl
@[simp] theorem Mod.setLost_dma (d : Nat) (b : Bool) : (m.setLost d b).dma = m.dma := rfl
@[simp] theorem Mod.setLost_pair (d : Nat) (b : Bool) : (m.setLost d b).pair = m.pair := rfl

/-! ### setStarted -/

@[simp] theorem Mod.setStarted_regs (u : Nat) (b : Bool) : (m.setStarted u b).regs = m.regs := rfl
@[simp] theorem Mod.setStarted_latch (u : Nat) (b : Bool) : (m.setStarted u b).latch = m.latch := rfl
@[simp] theorem Mod.setStarted_stage (u : Nat) (b : Bool) : (m.setStarted u b).stage = m.stage := rfl
@[simp] theorem Mod.setStarted_gddr (u : Nat) (b : Bool) : (m.setStarted u b).gddr = m.gddr := rfl
@[simp] theorem Mod.setStarted_gddrBad (u : Nat) (b : Bool) : (m.setStarted u b).gddrBad = m.gddrBad := rfl
@[simp] theorem Mod.setStarted_sram (u : Nat) (b : Bool) : (m.setStarted u b).sram = m.sram := rfl
@[simp] theorem Mod.setStarted_sramBad (u : Nat) (b : Bool) : (m.setStarted u b).sramBad = m.sramBad := rfl
@[simp] theorem Mod.setStarted_cmds (u : Nat) (b : Bool) : (m.setStarted u b).cmds = m.cmds := rfl
@[simp] theorem Mod.setStarted_outs (u : Nat) (b : Bool) : (m.setStarted u b).outs = m.outs := rfl
@[simp] theorem Mod.setStarted_flt (u : Nat) (b : Bool) : (m.setStarted u b).flt = m.flt := rfl
@[simp] theorem Mod.setStarted_queues (u : Nat) (b : Bool) : (m.setStarted u b).queues = m.queues := rfl
@[simp] theorem Mod.setStarted_cqs (u : Nat) (b : Bool) : (m.setStarted u b).cqs = m.cqs := rfl
@[simp] theorem Mod.setStarted_pcie (u : Nat) (b : Bool) : (m.setStarted u b).pcie = m.pcie := rfl
@[simp] theorem Mod.setStarted_hat (u : Nat) (b : Bool) : (m.setStarted u b).hat = m.hat := rfl
@[simp] theorem Mod.setStarted_scores (u : Nat) (b : Bool) : (m.setStarted u b).scores = m.scores := rfl
@[simp] theorem Mod.setStarted_mcores (u : Nat) (b : Bool) : (m.setStarted u b).mcores = m.mcores := rfl
@[simp] theorem Mod.setStarted_harts (u : Nat) (b : Bool) : (m.setStarted u b).harts = m.harts := rfl
@[simp] theorem Mod.setStarted_tlb (u : Nat) (b : Bool) : (m.setStarted u b).tlb = m.tlb := rfl
@[simp] theorem Mod.setStarted_seqs (u : Nat) (b : Bool) : (m.setStarted u b).seqs = m.seqs := rfl
@[simp] theorem Mod.setStarted_dports (u : Nat) (b : Bool) : (m.setStarted u b).dports = m.dports := rfl
@[simp] theorem Mod.setStarted_pins (u : Nat) (b : Bool) : (m.setStarted u b).pins = m.pins := rfl
@[simp] theorem Mod.setStarted_rings (u : Nat) (b : Bool) : (m.setStarted u b).rings = m.rings := rfl
@[simp] theorem Mod.setStarted_sendBuf (u : Nat) (b : Bool) : (m.setStarted u b).sendBuf = m.sendBuf := rfl
@[simp] theorem Mod.setStarted_lqs (u : Nat) (b : Bool) : (m.setStarted u b).lqs = m.lqs := rfl
@[simp] theorem Mod.setStarted_lreqs (u : Nat) (b : Bool) : (m.setStarted u b).lreqs = m.lreqs := rfl
@[simp] theorem Mod.setStarted_nextReq (u : Nat) (b : Bool) : (m.setStarted u b).nextReq = m.nextReq := rfl
@[simp] theorem Mod.setStarted_lvs (u : Nat) (b : Bool) : (m.setStarted u b).lvs = m.lvs := rfl
@[simp] theorem Mod.setStarted_hvs (u : Nat) (b : Bool) : (m.setStarted u b).hvs = m.hvs := rfl
@[simp] theorem Mod.setStarted_meass (u : Nat) (b : Bool) : (m.setStarted u b).meass = m.meass := rfl
@[simp] theorem Mod.setStarted_plt (u : Nat) (b : Bool) : (m.setStarted u b).plt = m.plt := rfl
@[simp] theorem Mod.setStarted_waves (u : Nat) (b : Bool) : (m.setStarted u b).waves = m.waves := rfl
@[simp] theorem Mod.setStarted_ass (u : Nat) (b : Bool) : (m.setStarted u b).ass = m.ass := rfl
@[simp] theorem Mod.setStarted_acqs (u : Nat) (b : Bool) : (m.setStarted u b).acqs = m.acqs := rfl
@[simp] theorem Mod.setStarted_trg (u : Nat) (b : Bool) : (m.setStarted u b).trg = m.trg := rfl
@[simp] theorem Mod.setStarted_tim (u : Nat) (b : Bool) : (m.setStarted u b).tim = m.tim := rfl
@[simp] theorem Mod.setStarted_cal (u : Nat) (b : Bool) : (m.setStarted u b).cal = m.cal := rfl
@[simp] theorem Mod.setStarted_drc (u : Nat) (b : Bool) : (m.setStarted u b).drc = m.drc := rfl
@[simp] theorem Mod.setStarted_dma (u : Nat) (b : Bool) : (m.setStarted u b).dma = m.dma := rfl
@[simp] theorem Mod.setStarted_pair (u : Nat) (b : Bool) : (m.setStarted u b).pair = m.pair := rfl

/-! ### stopDispatch -/

@[simp] theorem Mod.stopDispatch_regs : (m.stopDispatch).regs = m.regs := rfl
@[simp] theorem Mod.stopDispatch_latch : (m.stopDispatch).latch = m.latch := rfl
@[simp] theorem Mod.stopDispatch_stage : (m.stopDispatch).stage = m.stage := rfl
@[simp] theorem Mod.stopDispatch_gddr : (m.stopDispatch).gddr = m.gddr := rfl
@[simp] theorem Mod.stopDispatch_gddrBad : (m.stopDispatch).gddrBad = m.gddrBad := rfl
@[simp] theorem Mod.stopDispatch_sram : (m.stopDispatch).sram = m.sram := rfl
@[simp] theorem Mod.stopDispatch_sramBad : (m.stopDispatch).sramBad = m.sramBad := rfl
@[simp] theorem Mod.stopDispatch_cmds : (m.stopDispatch).cmds = m.cmds := rfl
@[simp] theorem Mod.stopDispatch_outs : (m.stopDispatch).outs = m.outs := rfl
@[simp] theorem Mod.stopDispatch_flt : (m.stopDispatch).flt = m.flt := rfl
@[simp] theorem Mod.stopDispatch_sys : (m.stopDispatch).sys = m.sys := rfl
@[simp] theorem Mod.stopDispatch_queues : (m.stopDispatch).queues = m.queues := rfl
@[simp] theorem Mod.stopDispatch_cqs : (m.stopDispatch).cqs = m.cqs := rfl
@[simp] theorem Mod.stopDispatch_pcie : (m.stopDispatch).pcie = m.pcie := rfl
@[simp] theorem Mod.stopDispatch_scores : (m.stopDispatch).scores = m.scores := rfl
@[simp] theorem Mod.stopDispatch_mcores : (m.stopDispatch).mcores = m.mcores := rfl
@[simp] theorem Mod.stopDispatch_harts : (m.stopDispatch).harts = m.harts := rfl
@[simp] theorem Mod.stopDispatch_tlb : (m.stopDispatch).tlb = m.tlb := rfl
@[simp] theorem Mod.stopDispatch_seqs : (m.stopDispatch).seqs = m.seqs := rfl
@[simp] theorem Mod.stopDispatch_dports : (m.stopDispatch).dports = m.dports := rfl
@[simp] theorem Mod.stopDispatch_pins : (m.stopDispatch).pins = m.pins := rfl
@[simp] theorem Mod.stopDispatch_rings : (m.stopDispatch).rings = m.rings := rfl
@[simp] theorem Mod.stopDispatch_sendBuf : (m.stopDispatch).sendBuf = m.sendBuf := rfl
@[simp] theorem Mod.stopDispatch_lqs : (m.stopDispatch).lqs = m.lqs := rfl
@[simp] theorem Mod.stopDispatch_lreqs : (m.stopDispatch).lreqs = m.lreqs := rfl
@[simp] theorem Mod.stopDispatch_nextReq : (m.stopDispatch).nextReq = m.nextReq := rfl
@[simp] theorem Mod.stopDispatch_lvs : (m.stopDispatch).lvs = m.lvs := rfl
@[simp] theorem Mod.stopDispatch_hvs : (m.stopDispatch).hvs = m.hvs := rfl
@[simp] theorem Mod.stopDispatch_meass : (m.stopDispatch).meass = m.meass := rfl
@[simp] theorem Mod.stopDispatch_plt : (m.stopDispatch).plt = m.plt := rfl
@[simp] theorem Mod.stopDispatch_waves : (m.stopDispatch).waves = m.waves := rfl
@[simp] theorem Mod.stopDispatch_ass : (m.stopDispatch).ass = m.ass := rfl
@[simp] theorem Mod.stopDispatch_acqs : (m.stopDispatch).acqs = m.acqs := rfl
@[simp] theorem Mod.stopDispatch_trg : (m.stopDispatch).trg = m.trg := rfl
@[simp] theorem Mod.stopDispatch_tim : (m.stopDispatch).tim = m.tim := rfl
@[simp] theorem Mod.stopDispatch_cal : (m.stopDispatch).cal = m.cal := rfl
@[simp] theorem Mod.stopDispatch_drc : (m.stopDispatch).drc = m.drc := rfl
@[simp] theorem Mod.stopDispatch_dma : (m.stopDispatch).dma = m.dma := rfl
@[simp] theorem Mod.stopDispatch_pair : (m.stopDispatch).pair = m.pair := rfl

/-! ### latchWord -/

@[simp] theorem Mod.latchWord_regs (i : Init) (off : Nat) : (m.latchWord i off).regs = m.regs := rfl
@[simp] theorem Mod.latchWord_stage (i : Init) (off : Nat) : (m.latchWord i off).stage = m.stage := rfl
@[simp] theorem Mod.latchWord_gddr (i : Init) (off : Nat) : (m.latchWord i off).gddr = m.gddr := rfl
@[simp] theorem Mod.latchWord_gddrBad (i : Init) (off : Nat) : (m.latchWord i off).gddrBad = m.gddrBad := rfl
@[simp] theorem Mod.latchWord_sram (i : Init) (off : Nat) : (m.latchWord i off).sram = m.sram := rfl
@[simp] theorem Mod.latchWord_sramBad (i : Init) (off : Nat) : (m.latchWord i off).sramBad = m.sramBad := rfl
@[simp] theorem Mod.latchWord_cmds (i : Init) (off : Nat) : (m.latchWord i off).cmds = m.cmds := rfl
@[simp] theorem Mod.latchWord_outs (i : Init) (off : Nat) : (m.latchWord i off).outs = m.outs := rfl
@[simp] theorem Mod.latchWord_flt (i : Init) (off : Nat) : (m.latchWord i off).flt = m.flt := rfl
@[simp] theorem Mod.latchWord_sys (i : Init) (off : Nat) : (m.latchWord i off).sys = m.sys := rfl
@[simp] theorem Mod.latchWord_queues (i : Init) (off : Nat) : (m.latchWord i off).queues = m.queues := rfl
@[simp] theorem Mod.latchWord_cqs (i : Init) (off : Nat) : (m.latchWord i off).cqs = m.cqs := rfl
@[simp] theorem Mod.latchWord_pcie (i : Init) (off : Nat) : (m.latchWord i off).pcie = m.pcie := rfl
@[simp] theorem Mod.latchWord_hat (i : Init) (off : Nat) : (m.latchWord i off).hat = m.hat := rfl
@[simp] theorem Mod.latchWord_scores (i : Init) (off : Nat) : (m.latchWord i off).scores = m.scores := rfl
@[simp] theorem Mod.latchWord_mcores (i : Init) (off : Nat) : (m.latchWord i off).mcores = m.mcores := rfl
@[simp] theorem Mod.latchWord_harts (i : Init) (off : Nat) : (m.latchWord i off).harts = m.harts := rfl
@[simp] theorem Mod.latchWord_tlb (i : Init) (off : Nat) : (m.latchWord i off).tlb = m.tlb := rfl
@[simp] theorem Mod.latchWord_seqs (i : Init) (off : Nat) : (m.latchWord i off).seqs = m.seqs := rfl
@[simp] theorem Mod.latchWord_dports (i : Init) (off : Nat) : (m.latchWord i off).dports = m.dports := rfl
@[simp] theorem Mod.latchWord_pins (i : Init) (off : Nat) : (m.latchWord i off).pins = m.pins := rfl
@[simp] theorem Mod.latchWord_rings (i : Init) (off : Nat) : (m.latchWord i off).rings = m.rings := rfl
@[simp] theorem Mod.latchWord_sendBuf (i : Init) (off : Nat) : (m.latchWord i off).sendBuf = m.sendBuf := rfl
@[simp] theorem Mod.latchWord_lqs (i : Init) (off : Nat) : (m.latchWord i off).lqs = m.lqs := rfl
@[simp] theorem Mod.latchWord_lreqs (i : Init) (off : Nat) : (m.latchWord i off).lreqs = m.lreqs := rfl
@[simp] theorem Mod.latchWord_nextReq (i : Init) (off : Nat) : (m.latchWord i off).nextReq = m.nextReq := rfl
@[simp] theorem Mod.latchWord_lvs (i : Init) (off : Nat) : (m.latchWord i off).lvs = m.lvs := rfl
@[simp] theorem Mod.latchWord_hvs (i : Init) (off : Nat) : (m.latchWord i off).hvs = m.hvs := rfl
@[simp] theorem Mod.latchWord_meass (i : Init) (off : Nat) : (m.latchWord i off).meass = m.meass := rfl
@[simp] theorem Mod.latchWord_plt (i : Init) (off : Nat) : (m.latchWord i off).plt = m.plt := rfl
@[simp] theorem Mod.latchWord_waves (i : Init) (off : Nat) : (m.latchWord i off).waves = m.waves := rfl
@[simp] theorem Mod.latchWord_ass (i : Init) (off : Nat) : (m.latchWord i off).ass = m.ass := rfl
@[simp] theorem Mod.latchWord_acqs (i : Init) (off : Nat) : (m.latchWord i off).acqs = m.acqs := rfl
@[simp] theorem Mod.latchWord_trg (i : Init) (off : Nat) : (m.latchWord i off).trg = m.trg := rfl
@[simp] theorem Mod.latchWord_tim (i : Init) (off : Nat) : (m.latchWord i off).tim = m.tim := rfl
@[simp] theorem Mod.latchWord_cal (i : Init) (off : Nat) : (m.latchWord i off).cal = m.cal := rfl
@[simp] theorem Mod.latchWord_drc (i : Init) (off : Nat) : (m.latchWord i off).drc = m.drc := rfl
@[simp] theorem Mod.latchWord_dma (i : Init) (off : Nat) : (m.latchWord i off).dma = m.dma := rfl
@[simp] theorem Mod.latchWord_pair (i : Init) (off : Nat) : (m.latchWord i off).pair = m.pair := rfl

/-! ### setPair -/

@[simp] theorem Mod.setPair_regs (p : Pair) : (m.setPair p).regs = m.regs := rfl
@[simp] theorem Mod.setPair_latch (p : Pair) : (m.setPair p).latch = m.latch := rfl
@[simp] theorem Mod.setPair_stage (p : Pair) : (m.setPair p).stage = m.stage := rfl
@[simp] theorem Mod.setPair_gddr (p : Pair) : (m.setPair p).gddr = m.gddr := rfl
@[simp] theorem Mod.setPair_gddrBad (p : Pair) : (m.setPair p).gddrBad = m.gddrBad := rfl
@[simp] theorem Mod.setPair_sram (p : Pair) : (m.setPair p).sram = m.sram := rfl
@[simp] theorem Mod.setPair_sramBad (p : Pair) : (m.setPair p).sramBad = m.sramBad := rfl
@[simp] theorem Mod.setPair_cmds (p : Pair) : (m.setPair p).cmds = m.cmds := rfl
@[simp] theorem Mod.setPair_outs (p : Pair) : (m.setPair p).outs = m.outs := rfl
@[simp] theorem Mod.setPair_flt (p : Pair) : (m.setPair p).flt = m.flt := rfl
@[simp] theorem Mod.setPair_sys (p : Pair) : (m.setPair p).sys = m.sys := rfl
@[simp] theorem Mod.setPair_queues (p : Pair) : (m.setPair p).queues = m.queues := rfl
@[simp] theorem Mod.setPair_cqs (p : Pair) : (m.setPair p).cqs = m.cqs := rfl
@[simp] theorem Mod.setPair_pcie (p : Pair) : (m.setPair p).pcie = m.pcie := rfl
@[simp] theorem Mod.setPair_hat (p : Pair) : (m.setPair p).hat = m.hat := rfl
@[simp] theorem Mod.setPair_scores (p : Pair) : (m.setPair p).scores = m.scores := rfl
@[simp] theorem Mod.setPair_mcores (p : Pair) : (m.setPair p).mcores = m.mcores := rfl
@[simp] theorem Mod.setPair_harts (p : Pair) : (m.setPair p).harts = m.harts := rfl
@[simp] theorem Mod.setPair_tlb (p : Pair) : (m.setPair p).tlb = m.tlb := rfl
@[simp] theorem Mod.setPair_seqs (p : Pair) : (m.setPair p).seqs = m.seqs := rfl
@[simp] theorem Mod.setPair_dports (p : Pair) : (m.setPair p).dports = m.dports := rfl
@[simp] theorem Mod.setPair_pins (p : Pair) : (m.setPair p).pins = m.pins := rfl
@[simp] theorem Mod.setPair_rings (p : Pair) : (m.setPair p).rings = m.rings := rfl
@[simp] theorem Mod.setPair_sendBuf (p : Pair) : (m.setPair p).sendBuf = m.sendBuf := rfl
@[simp] theorem Mod.setPair_lqs (p : Pair) : (m.setPair p).lqs = m.lqs := rfl
@[simp] theorem Mod.setPair_lreqs (p : Pair) : (m.setPair p).lreqs = m.lreqs := rfl
@[simp] theorem Mod.setPair_nextReq (p : Pair) : (m.setPair p).nextReq = m.nextReq := rfl
@[simp] theorem Mod.setPair_lvs (p : Pair) : (m.setPair p).lvs = m.lvs := rfl
@[simp] theorem Mod.setPair_hvs (p : Pair) : (m.setPair p).hvs = m.hvs := rfl
@[simp] theorem Mod.setPair_meass (p : Pair) : (m.setPair p).meass = m.meass := rfl
@[simp] theorem Mod.setPair_plt (p : Pair) : (m.setPair p).plt = m.plt := rfl
@[simp] theorem Mod.setPair_waves (p : Pair) : (m.setPair p).waves = m.waves := rfl
@[simp] theorem Mod.setPair_ass (p : Pair) : (m.setPair p).ass = m.ass := rfl
@[simp] theorem Mod.setPair_acqs (p : Pair) : (m.setPair p).acqs = m.acqs := rfl
@[simp] theorem Mod.setPair_trg (p : Pair) : (m.setPair p).trg = m.trg := rfl
@[simp] theorem Mod.setPair_tim (p : Pair) : (m.setPair p).tim = m.tim := rfl
@[simp] theorem Mod.setPair_cal (p : Pair) : (m.setPair p).cal = m.cal := rfl
@[simp] theorem Mod.setPair_drc (p : Pair) : (m.setPair p).drc = m.drc := rfl
@[simp] theorem Mod.setPair_dma (p : Pair) : (m.setPair p).dma = m.dma := rfl

/-! ### setTim -/

@[simp] theorem Mod.setTim_regs (x : Tim) : (m.setTim x).regs = m.regs := rfl
@[simp] theorem Mod.setTim_latch (x : Tim) : (m.setTim x).latch = m.latch := rfl
@[simp] theorem Mod.setTim_stage (x : Tim) : (m.setTim x).stage = m.stage := rfl
@[simp] theorem Mod.setTim_gddr (x : Tim) : (m.setTim x).gddr = m.gddr := rfl
@[simp] theorem Mod.setTim_gddrBad (x : Tim) : (m.setTim x).gddrBad = m.gddrBad := rfl
@[simp] theorem Mod.setTim_sram (x : Tim) : (m.setTim x).sram = m.sram := rfl
@[simp] theorem Mod.setTim_sramBad (x : Tim) : (m.setTim x).sramBad = m.sramBad := rfl
@[simp] theorem Mod.setTim_cmds (x : Tim) : (m.setTim x).cmds = m.cmds := rfl
@[simp] theorem Mod.setTim_outs (x : Tim) : (m.setTim x).outs = m.outs := rfl
@[simp] theorem Mod.setTim_flt (x : Tim) : (m.setTim x).flt = m.flt := rfl
@[simp] theorem Mod.setTim_sys (x : Tim) : (m.setTim x).sys = m.sys := rfl
@[simp] theorem Mod.setTim_queues (x : Tim) : (m.setTim x).queues = m.queues := rfl
@[simp] theorem Mod.setTim_cqs (x : Tim) : (m.setTim x).cqs = m.cqs := rfl
@[simp] theorem Mod.setTim_pcie (x : Tim) : (m.setTim x).pcie = m.pcie := rfl
@[simp] theorem Mod.setTim_hat (x : Tim) : (m.setTim x).hat = m.hat := rfl
@[simp] theorem Mod.setTim_scores (x : Tim) : (m.setTim x).scores = m.scores := rfl
@[simp] theorem Mod.setTim_mcores (x : Tim) : (m.setTim x).mcores = m.mcores := rfl
@[simp] theorem Mod.setTim_harts (x : Tim) : (m.setTim x).harts = m.harts := rfl
@[simp] theorem Mod.setTim_tlb (x : Tim) : (m.setTim x).tlb = m.tlb := rfl
@[simp] theorem Mod.setTim_seqs (x : Tim) : (m.setTim x).seqs = m.seqs := rfl
@[simp] theorem Mod.setTim_dports (x : Tim) : (m.setTim x).dports = m.dports := rfl
@[simp] theorem Mod.setTim_pins (x : Tim) : (m.setTim x).pins = m.pins := rfl
@[simp] theorem Mod.setTim_rings (x : Tim) : (m.setTim x).rings = m.rings := rfl
@[simp] theorem Mod.setTim_sendBuf (x : Tim) : (m.setTim x).sendBuf = m.sendBuf := rfl
@[simp] theorem Mod.setTim_lqs (x : Tim) : (m.setTim x).lqs = m.lqs := rfl
@[simp] theorem Mod.setTim_lreqs (x : Tim) : (m.setTim x).lreqs = m.lreqs := rfl
@[simp] theorem Mod.setTim_nextReq (x : Tim) : (m.setTim x).nextReq = m.nextReq := rfl
@[simp] theorem Mod.setTim_lvs (x : Tim) : (m.setTim x).lvs = m.lvs := rfl
@[simp] theorem Mod.setTim_hvs (x : Tim) : (m.setTim x).hvs = m.hvs := rfl
@[simp] theorem Mod.setTim_meass (x : Tim) : (m.setTim x).meass = m.meass := rfl
@[simp] theorem Mod.setTim_plt (x : Tim) : (m.setTim x).plt = m.plt := rfl
@[simp] theorem Mod.setTim_waves (x : Tim) : (m.setTim x).waves = m.waves := rfl
@[simp] theorem Mod.setTim_ass (x : Tim) : (m.setTim x).ass = m.ass := rfl
@[simp] theorem Mod.setTim_acqs (x : Tim) : (m.setTim x).acqs = m.acqs := rfl
@[simp] theorem Mod.setTim_trg (x : Tim) : (m.setTim x).trg = m.trg := rfl
@[simp] theorem Mod.setTim_cal (x : Tim) : (m.setTim x).cal = m.cal := rfl
@[simp] theorem Mod.setTim_drc (x : Tim) : (m.setTim x).drc = m.drc := rfl
@[simp] theorem Mod.setTim_dma (x : Tim) : (m.setTim x).dma = m.dma := rfl
@[simp] theorem Mod.setTim_pair (x : Tim) : (m.setTim x).pair = m.pair := rfl

/-! ### setDom -/

@[simp] theorem Mod.setDom_regs (k : Nat) (x : Dom) : (m.setDom k x).regs = m.regs := rfl
@[simp] theorem Mod.setDom_latch (k : Nat) (x : Dom) : (m.setDom k x).latch = m.latch := rfl
@[simp] theorem Mod.setDom_stage (k : Nat) (x : Dom) : (m.setDom k x).stage = m.stage := rfl
@[simp] theorem Mod.setDom_gddr (k : Nat) (x : Dom) : (m.setDom k x).gddr = m.gddr := rfl
@[simp] theorem Mod.setDom_gddrBad (k : Nat) (x : Dom) : (m.setDom k x).gddrBad = m.gddrBad := rfl
@[simp] theorem Mod.setDom_sram (k : Nat) (x : Dom) : (m.setDom k x).sram = m.sram := rfl
@[simp] theorem Mod.setDom_sramBad (k : Nat) (x : Dom) : (m.setDom k x).sramBad = m.sramBad := rfl
@[simp] theorem Mod.setDom_cmds (k : Nat) (x : Dom) : (m.setDom k x).cmds = m.cmds := rfl
@[simp] theorem Mod.setDom_outs (k : Nat) (x : Dom) : (m.setDom k x).outs = m.outs := rfl
@[simp] theorem Mod.setDom_flt (k : Nat) (x : Dom) : (m.setDom k x).flt = m.flt := rfl
@[simp] theorem Mod.setDom_sys (k : Nat) (x : Dom) : (m.setDom k x).sys = m.sys := rfl
@[simp] theorem Mod.setDom_queues (k : Nat) (x : Dom) : (m.setDom k x).queues = m.queues := rfl
@[simp] theorem Mod.setDom_cqs (k : Nat) (x : Dom) : (m.setDom k x).cqs = m.cqs := rfl
@[simp] theorem Mod.setDom_pcie (k : Nat) (x : Dom) : (m.setDom k x).pcie = m.pcie := rfl
@[simp] theorem Mod.setDom_hat (k : Nat) (x : Dom) : (m.setDom k x).hat = m.hat := rfl
@[simp] theorem Mod.setDom_scores (k : Nat) (x : Dom) : (m.setDom k x).scores = m.scores := rfl
@[simp] theorem Mod.setDom_mcores (k : Nat) (x : Dom) : (m.setDom k x).mcores = m.mcores := rfl
@[simp] theorem Mod.setDom_harts (k : Nat) (x : Dom) : (m.setDom k x).harts = m.harts := rfl
@[simp] theorem Mod.setDom_tlb (k : Nat) (x : Dom) : (m.setDom k x).tlb = m.tlb := rfl
@[simp] theorem Mod.setDom_seqs (k : Nat) (x : Dom) : (m.setDom k x).seqs = m.seqs := rfl
@[simp] theorem Mod.setDom_dports (k : Nat) (x : Dom) : (m.setDom k x).dports = m.dports := rfl
@[simp] theorem Mod.setDom_pins (k : Nat) (x : Dom) : (m.setDom k x).pins = m.pins := rfl
@[simp] theorem Mod.setDom_rings (k : Nat) (x : Dom) : (m.setDom k x).rings = m.rings := rfl
@[simp] theorem Mod.setDom_sendBuf (k : Nat) (x : Dom) : (m.setDom k x).sendBuf = m.sendBuf := rfl
@[simp] theorem Mod.setDom_lqs (k : Nat) (x : Dom) : (m.setDom k x).lqs = m.lqs := rfl
@[simp] theorem Mod.setDom_lreqs (k : Nat) (x : Dom) : (m.setDom k x).lreqs = m.lreqs := rfl
@[simp] theorem Mod.setDom_nextReq (k : Nat) (x : Dom) : (m.setDom k x).nextReq = m.nextReq := rfl
@[simp] theorem Mod.setDom_lvs (k : Nat) (x : Dom) : (m.setDom k x).lvs = m.lvs := rfl
@[simp] theorem Mod.setDom_hvs (k : Nat) (x : Dom) : (m.setDom k x).hvs = m.hvs := rfl
@[simp] theorem Mod.setDom_meass (k : Nat) (x : Dom) : (m.setDom k x).meass = m.meass := rfl
@[simp] theorem Mod.setDom_plt (k : Nat) (x : Dom) : (m.setDom k x).plt = m.plt := rfl
@[simp] theorem Mod.setDom_waves (k : Nat) (x : Dom) : (m.setDom k x).waves = m.waves := rfl
@[simp] theorem Mod.setDom_ass (k : Nat) (x : Dom) : (m.setDom k x).ass = m.ass := rfl
@[simp] theorem Mod.setDom_acqs (k : Nat) (x : Dom) : (m.setDom k x).acqs = m.acqs := rfl
@[simp] theorem Mod.setDom_trg (k : Nat) (x : Dom) : (m.setDom k x).trg = m.trg := rfl
@[simp] theorem Mod.setDom_cal (k : Nat) (x : Dom) : (m.setDom k x).cal = m.cal := rfl
@[simp] theorem Mod.setDom_drc (k : Nat) (x : Dom) : (m.setDom k x).drc = m.drc := rfl
@[simp] theorem Mod.setDom_dma (k : Nat) (x : Dom) : (m.setDom k x).dma = m.dma := rfl
@[simp] theorem Mod.setDom_pair (k : Nat) (x : Dom) : (m.setDom k x).pair = m.pair := rfl

/-! ### setTport -/

@[simp] theorem Mod.setTport_regs (p : Nat) (x : Tport) : (m.setTport p x).regs = m.regs := rfl
@[simp] theorem Mod.setTport_latch (p : Nat) (x : Tport) : (m.setTport p x).latch = m.latch := rfl
@[simp] theorem Mod.setTport_stage (p : Nat) (x : Tport) : (m.setTport p x).stage = m.stage := rfl
@[simp] theorem Mod.setTport_gddr (p : Nat) (x : Tport) : (m.setTport p x).gddr = m.gddr := rfl
@[simp] theorem Mod.setTport_gddrBad (p : Nat) (x : Tport) : (m.setTport p x).gddrBad = m.gddrBad := rfl
@[simp] theorem Mod.setTport_sram (p : Nat) (x : Tport) : (m.setTport p x).sram = m.sram := rfl
@[simp] theorem Mod.setTport_sramBad (p : Nat) (x : Tport) : (m.setTport p x).sramBad = m.sramBad := rfl
@[simp] theorem Mod.setTport_cmds (p : Nat) (x : Tport) : (m.setTport p x).cmds = m.cmds := rfl
@[simp] theorem Mod.setTport_outs (p : Nat) (x : Tport) : (m.setTport p x).outs = m.outs := rfl
@[simp] theorem Mod.setTport_flt (p : Nat) (x : Tport) : (m.setTport p x).flt = m.flt := rfl
@[simp] theorem Mod.setTport_sys (p : Nat) (x : Tport) : (m.setTport p x).sys = m.sys := rfl
@[simp] theorem Mod.setTport_queues (p : Nat) (x : Tport) : (m.setTport p x).queues = m.queues := rfl
@[simp] theorem Mod.setTport_cqs (p : Nat) (x : Tport) : (m.setTport p x).cqs = m.cqs := rfl
@[simp] theorem Mod.setTport_pcie (p : Nat) (x : Tport) : (m.setTport p x).pcie = m.pcie := rfl
@[simp] theorem Mod.setTport_hat (p : Nat) (x : Tport) : (m.setTport p x).hat = m.hat := rfl
@[simp] theorem Mod.setTport_scores (p : Nat) (x : Tport) : (m.setTport p x).scores = m.scores := rfl
@[simp] theorem Mod.setTport_mcores (p : Nat) (x : Tport) : (m.setTport p x).mcores = m.mcores := rfl
@[simp] theorem Mod.setTport_harts (p : Nat) (x : Tport) : (m.setTport p x).harts = m.harts := rfl
@[simp] theorem Mod.setTport_tlb (p : Nat) (x : Tport) : (m.setTport p x).tlb = m.tlb := rfl
@[simp] theorem Mod.setTport_seqs (p : Nat) (x : Tport) : (m.setTport p x).seqs = m.seqs := rfl
@[simp] theorem Mod.setTport_dports (p : Nat) (x : Tport) : (m.setTport p x).dports = m.dports := rfl
@[simp] theorem Mod.setTport_pins (p : Nat) (x : Tport) : (m.setTport p x).pins = m.pins := rfl
@[simp] theorem Mod.setTport_rings (p : Nat) (x : Tport) : (m.setTport p x).rings = m.rings := rfl
@[simp] theorem Mod.setTport_sendBuf (p : Nat) (x : Tport) : (m.setTport p x).sendBuf = m.sendBuf := rfl
@[simp] theorem Mod.setTport_lqs (p : Nat) (x : Tport) : (m.setTport p x).lqs = m.lqs := rfl
@[simp] theorem Mod.setTport_lreqs (p : Nat) (x : Tport) : (m.setTport p x).lreqs = m.lreqs := rfl
@[simp] theorem Mod.setTport_nextReq (p : Nat) (x : Tport) : (m.setTport p x).nextReq = m.nextReq := rfl
@[simp] theorem Mod.setTport_lvs (p : Nat) (x : Tport) : (m.setTport p x).lvs = m.lvs := rfl
@[simp] theorem Mod.setTport_hvs (p : Nat) (x : Tport) : (m.setTport p x).hvs = m.hvs := rfl
@[simp] theorem Mod.setTport_meass (p : Nat) (x : Tport) : (m.setTport p x).meass = m.meass := rfl
@[simp] theorem Mod.setTport_plt (p : Nat) (x : Tport) : (m.setTport p x).plt = m.plt := rfl
@[simp] theorem Mod.setTport_waves (p : Nat) (x : Tport) : (m.setTport p x).waves = m.waves := rfl
@[simp] theorem Mod.setTport_ass (p : Nat) (x : Tport) : (m.setTport p x).ass = m.ass := rfl
@[simp] theorem Mod.setTport_acqs (p : Nat) (x : Tport) : (m.setTport p x).acqs = m.acqs := rfl
@[simp] theorem Mod.setTport_trg (p : Nat) (x : Tport) : (m.setTport p x).trg = m.trg := rfl
@[simp] theorem Mod.setTport_cal (p : Nat) (x : Tport) : (m.setTport p x).cal = m.cal := rfl
@[simp] theorem Mod.setTport_drc (p : Nat) (x : Tport) : (m.setTport p x).drc = m.drc := rfl
@[simp] theorem Mod.setTport_dma (p : Nat) (x : Tport) : (m.setTport p x).dma = m.dma := rfl
@[simp] theorem Mod.setTport_pair (p : Nat) (x : Tport) : (m.setTport p x).pair = m.pair := rfl

/-! ### setTdc -/

@[simp] theorem Mod.setTdc_regs (u : Nat) (x : Option Tdc) : (m.setTdc u x).regs = m.regs := rfl
@[simp] theorem Mod.setTdc_latch (u : Nat) (x : Option Tdc) : (m.setTdc u x).latch = m.latch := rfl
@[simp] theorem Mod.setTdc_stage (u : Nat) (x : Option Tdc) : (m.setTdc u x).stage = m.stage := rfl
@[simp] theorem Mod.setTdc_gddr (u : Nat) (x : Option Tdc) : (m.setTdc u x).gddr = m.gddr := rfl
@[simp] theorem Mod.setTdc_gddrBad (u : Nat) (x : Option Tdc) : (m.setTdc u x).gddrBad = m.gddrBad := rfl
@[simp] theorem Mod.setTdc_sram (u : Nat) (x : Option Tdc) : (m.setTdc u x).sram = m.sram := rfl
@[simp] theorem Mod.setTdc_sramBad (u : Nat) (x : Option Tdc) : (m.setTdc u x).sramBad = m.sramBad := rfl
@[simp] theorem Mod.setTdc_cmds (u : Nat) (x : Option Tdc) : (m.setTdc u x).cmds = m.cmds := rfl
@[simp] theorem Mod.setTdc_outs (u : Nat) (x : Option Tdc) : (m.setTdc u x).outs = m.outs := rfl
@[simp] theorem Mod.setTdc_flt (u : Nat) (x : Option Tdc) : (m.setTdc u x).flt = m.flt := rfl
@[simp] theorem Mod.setTdc_sys (u : Nat) (x : Option Tdc) : (m.setTdc u x).sys = m.sys := rfl
@[simp] theorem Mod.setTdc_queues (u : Nat) (x : Option Tdc) : (m.setTdc u x).queues = m.queues := rfl
@[simp] theorem Mod.setTdc_cqs (u : Nat) (x : Option Tdc) : (m.setTdc u x).cqs = m.cqs := rfl
@[simp] theorem Mod.setTdc_pcie (u : Nat) (x : Option Tdc) : (m.setTdc u x).pcie = m.pcie := rfl
@[simp] theorem Mod.setTdc_hat (u : Nat) (x : Option Tdc) : (m.setTdc u x).hat = m.hat := rfl
@[simp] theorem Mod.setTdc_scores (u : Nat) (x : Option Tdc) : (m.setTdc u x).scores = m.scores := rfl
@[simp] theorem Mod.setTdc_mcores (u : Nat) (x : Option Tdc) : (m.setTdc u x).mcores = m.mcores := rfl
@[simp] theorem Mod.setTdc_harts (u : Nat) (x : Option Tdc) : (m.setTdc u x).harts = m.harts := rfl
@[simp] theorem Mod.setTdc_tlb (u : Nat) (x : Option Tdc) : (m.setTdc u x).tlb = m.tlb := rfl
@[simp] theorem Mod.setTdc_seqs (u : Nat) (x : Option Tdc) : (m.setTdc u x).seqs = m.seqs := rfl
@[simp] theorem Mod.setTdc_dports (u : Nat) (x : Option Tdc) : (m.setTdc u x).dports = m.dports := rfl
@[simp] theorem Mod.setTdc_pins (u : Nat) (x : Option Tdc) : (m.setTdc u x).pins = m.pins := rfl
@[simp] theorem Mod.setTdc_rings (u : Nat) (x : Option Tdc) : (m.setTdc u x).rings = m.rings := rfl
@[simp] theorem Mod.setTdc_sendBuf (u : Nat) (x : Option Tdc) : (m.setTdc u x).sendBuf = m.sendBuf := rfl
@[simp] theorem Mod.setTdc_lqs (u : Nat) (x : Option Tdc) : (m.setTdc u x).lqs = m.lqs := rfl
@[simp] theorem Mod.setTdc_lreqs (u : Nat) (x : Option Tdc) : (m.setTdc u x).lreqs = m.lreqs := rfl
@[simp] theorem Mod.setTdc_nextReq (u : Nat) (x : Option Tdc) : (m.setTdc u x).nextReq = m.nextReq := rfl
@[simp] theorem Mod.setTdc_lvs (u : Nat) (x : Option Tdc) : (m.setTdc u x).lvs = m.lvs := rfl
@[simp] theorem Mod.setTdc_hvs (u : Nat) (x : Option Tdc) : (m.setTdc u x).hvs = m.hvs := rfl
@[simp] theorem Mod.setTdc_meass (u : Nat) (x : Option Tdc) : (m.setTdc u x).meass = m.meass := rfl
@[simp] theorem Mod.setTdc_plt (u : Nat) (x : Option Tdc) : (m.setTdc u x).plt = m.plt := rfl
@[simp] theorem Mod.setTdc_waves (u : Nat) (x : Option Tdc) : (m.setTdc u x).waves = m.waves := rfl
@[simp] theorem Mod.setTdc_ass (u : Nat) (x : Option Tdc) : (m.setTdc u x).ass = m.ass := rfl
@[simp] theorem Mod.setTdc_acqs (u : Nat) (x : Option Tdc) : (m.setTdc u x).acqs = m.acqs := rfl
@[simp] theorem Mod.setTdc_trg (u : Nat) (x : Option Tdc) : (m.setTdc u x).trg = m.trg := rfl
@[simp] theorem Mod.setTdc_cal (u : Nat) (x : Option Tdc) : (m.setTdc u x).cal = m.cal := rfl
@[simp] theorem Mod.setTdc_drc (u : Nat) (x : Option Tdc) : (m.setTdc u x).drc = m.drc := rfl
@[simp] theorem Mod.setTdc_dma (u : Nat) (x : Option Tdc) : (m.setTdc u x).dma = m.dma := rfl
@[simp] theorem Mod.setTdc_pair (u : Nat) (x : Option Tdc) : (m.setTdc u x).pair = m.pair := rfl

/-! ### setSeq -/

@[simp] theorem Mod.setSeq_regs (n : Nat) (x : Seq) : (m.setSeq n x).regs = m.regs := rfl
@[simp] theorem Mod.setSeq_latch (n : Nat) (x : Seq) : (m.setSeq n x).latch = m.latch := rfl
@[simp] theorem Mod.setSeq_stage (n : Nat) (x : Seq) : (m.setSeq n x).stage = m.stage := rfl
@[simp] theorem Mod.setSeq_gddr (n : Nat) (x : Seq) : (m.setSeq n x).gddr = m.gddr := rfl
@[simp] theorem Mod.setSeq_gddrBad (n : Nat) (x : Seq) : (m.setSeq n x).gddrBad = m.gddrBad := rfl
@[simp] theorem Mod.setSeq_sram (n : Nat) (x : Seq) : (m.setSeq n x).sram = m.sram := rfl
@[simp] theorem Mod.setSeq_sramBad (n : Nat) (x : Seq) : (m.setSeq n x).sramBad = m.sramBad := rfl
@[simp] theorem Mod.setSeq_cmds (n : Nat) (x : Seq) : (m.setSeq n x).cmds = m.cmds := rfl
@[simp] theorem Mod.setSeq_outs (n : Nat) (x : Seq) : (m.setSeq n x).outs = m.outs := rfl
@[simp] theorem Mod.setSeq_flt (n : Nat) (x : Seq) : (m.setSeq n x).flt = m.flt := rfl
@[simp] theorem Mod.setSeq_sys (n : Nat) (x : Seq) : (m.setSeq n x).sys = m.sys := rfl
@[simp] theorem Mod.setSeq_queues (n : Nat) (x : Seq) : (m.setSeq n x).queues = m.queues := rfl
@[simp] theorem Mod.setSeq_cqs (n : Nat) (x : Seq) : (m.setSeq n x).cqs = m.cqs := rfl
@[simp] theorem Mod.setSeq_pcie (n : Nat) (x : Seq) : (m.setSeq n x).pcie = m.pcie := rfl
@[simp] theorem Mod.setSeq_hat (n : Nat) (x : Seq) : (m.setSeq n x).hat = m.hat := rfl
@[simp] theorem Mod.setSeq_scores (n : Nat) (x : Seq) : (m.setSeq n x).scores = m.scores := rfl
@[simp] theorem Mod.setSeq_mcores (n : Nat) (x : Seq) : (m.setSeq n x).mcores = m.mcores := rfl
@[simp] theorem Mod.setSeq_harts (n : Nat) (x : Seq) : (m.setSeq n x).harts = m.harts := rfl
@[simp] theorem Mod.setSeq_tlb (n : Nat) (x : Seq) : (m.setSeq n x).tlb = m.tlb := rfl
@[simp] theorem Mod.setSeq_dports (n : Nat) (x : Seq) : (m.setSeq n x).dports = m.dports := rfl
@[simp] theorem Mod.setSeq_pins (n : Nat) (x : Seq) : (m.setSeq n x).pins = m.pins := rfl
@[simp] theorem Mod.setSeq_rings (n : Nat) (x : Seq) : (m.setSeq n x).rings = m.rings := rfl
@[simp] theorem Mod.setSeq_sendBuf (n : Nat) (x : Seq) : (m.setSeq n x).sendBuf = m.sendBuf := rfl
@[simp] theorem Mod.setSeq_lqs (n : Nat) (x : Seq) : (m.setSeq n x).lqs = m.lqs := rfl
@[simp] theorem Mod.setSeq_lreqs (n : Nat) (x : Seq) : (m.setSeq n x).lreqs = m.lreqs := rfl
@[simp] theorem Mod.setSeq_nextReq (n : Nat) (x : Seq) : (m.setSeq n x).nextReq = m.nextReq := rfl
@[simp] theorem Mod.setSeq_lvs (n : Nat) (x : Seq) : (m.setSeq n x).lvs = m.lvs := rfl
@[simp] theorem Mod.setSeq_hvs (n : Nat) (x : Seq) : (m.setSeq n x).hvs = m.hvs := rfl
@[simp] theorem Mod.setSeq_meass (n : Nat) (x : Seq) : (m.setSeq n x).meass = m.meass := rfl
@[simp] theorem Mod.setSeq_plt (n : Nat) (x : Seq) : (m.setSeq n x).plt = m.plt := rfl
@[simp] theorem Mod.setSeq_waves (n : Nat) (x : Seq) : (m.setSeq n x).waves = m.waves := rfl
@[simp] theorem Mod.setSeq_ass (n : Nat) (x : Seq) : (m.setSeq n x).ass = m.ass := rfl
@[simp] theorem Mod.setSeq_acqs (n : Nat) (x : Seq) : (m.setSeq n x).acqs = m.acqs := rfl
@[simp] theorem Mod.setSeq_trg (n : Nat) (x : Seq) : (m.setSeq n x).trg = m.trg := rfl
@[simp] theorem Mod.setSeq_tim (n : Nat) (x : Seq) : (m.setSeq n x).tim = m.tim := rfl
@[simp] theorem Mod.setSeq_cal (n : Nat) (x : Seq) : (m.setSeq n x).cal = m.cal := rfl
@[simp] theorem Mod.setSeq_drc (n : Nat) (x : Seq) : (m.setSeq n x).drc = m.drc := rfl
@[simp] theorem Mod.setSeq_dma (n : Nat) (x : Seq) : (m.setSeq n x).dma = m.dma := rfl
@[simp] theorem Mod.setSeq_pair (n : Nat) (x : Seq) : (m.setSeq n x).pair = m.pair := rfl

/-! ### setDport -/

@[simp] theorem Mod.setDport_regs (n die : Nat) (x : DiePort) : (m.setDport n die x).regs = m.regs := rfl
@[simp] theorem Mod.setDport_latch (n die : Nat) (x : DiePort) : (m.setDport n die x).latch = m.latch := rfl
@[simp] theorem Mod.setDport_stage (n die : Nat) (x : DiePort) : (m.setDport n die x).stage = m.stage := rfl
@[simp] theorem Mod.setDport_gddr (n die : Nat) (x : DiePort) : (m.setDport n die x).gddr = m.gddr := rfl
@[simp] theorem Mod.setDport_gddrBad (n die : Nat) (x : DiePort) : (m.setDport n die x).gddrBad = m.gddrBad := rfl
@[simp] theorem Mod.setDport_sram (n die : Nat) (x : DiePort) : (m.setDport n die x).sram = m.sram := rfl
@[simp] theorem Mod.setDport_sramBad (n die : Nat) (x : DiePort) : (m.setDport n die x).sramBad = m.sramBad := rfl
@[simp] theorem Mod.setDport_cmds (n die : Nat) (x : DiePort) : (m.setDport n die x).cmds = m.cmds := rfl
@[simp] theorem Mod.setDport_outs (n die : Nat) (x : DiePort) : (m.setDport n die x).outs = m.outs := rfl
@[simp] theorem Mod.setDport_flt (n die : Nat) (x : DiePort) : (m.setDport n die x).flt = m.flt := rfl
@[simp] theorem Mod.setDport_sys (n die : Nat) (x : DiePort) : (m.setDport n die x).sys = m.sys := rfl
@[simp] theorem Mod.setDport_queues (n die : Nat) (x : DiePort) : (m.setDport n die x).queues = m.queues := rfl
@[simp] theorem Mod.setDport_cqs (n die : Nat) (x : DiePort) : (m.setDport n die x).cqs = m.cqs := rfl
@[simp] theorem Mod.setDport_pcie (n die : Nat) (x : DiePort) : (m.setDport n die x).pcie = m.pcie := rfl
@[simp] theorem Mod.setDport_hat (n die : Nat) (x : DiePort) : (m.setDport n die x).hat = m.hat := rfl
@[simp] theorem Mod.setDport_scores (n die : Nat) (x : DiePort) : (m.setDport n die x).scores = m.scores := rfl
@[simp] theorem Mod.setDport_mcores (n die : Nat) (x : DiePort) : (m.setDport n die x).mcores = m.mcores := rfl
@[simp] theorem Mod.setDport_harts (n die : Nat) (x : DiePort) : (m.setDport n die x).harts = m.harts := rfl
@[simp] theorem Mod.setDport_tlb (n die : Nat) (x : DiePort) : (m.setDport n die x).tlb = m.tlb := rfl
@[simp] theorem Mod.setDport_seqs (n die : Nat) (x : DiePort) : (m.setDport n die x).seqs = m.seqs := rfl
@[simp] theorem Mod.setDport_pins (n die : Nat) (x : DiePort) : (m.setDport n die x).pins = m.pins := rfl
@[simp] theorem Mod.setDport_rings (n die : Nat) (x : DiePort) : (m.setDport n die x).rings = m.rings := rfl
@[simp] theorem Mod.setDport_sendBuf (n die : Nat) (x : DiePort) : (m.setDport n die x).sendBuf = m.sendBuf := rfl
@[simp] theorem Mod.setDport_lqs (n die : Nat) (x : DiePort) : (m.setDport n die x).lqs = m.lqs := rfl
@[simp] theorem Mod.setDport_lreqs (n die : Nat) (x : DiePort) : (m.setDport n die x).lreqs = m.lreqs := rfl
@[simp] theorem Mod.setDport_nextReq (n die : Nat) (x : DiePort) : (m.setDport n die x).nextReq = m.nextReq := rfl
@[simp] theorem Mod.setDport_lvs (n die : Nat) (x : DiePort) : (m.setDport n die x).lvs = m.lvs := rfl
@[simp] theorem Mod.setDport_hvs (n die : Nat) (x : DiePort) : (m.setDport n die x).hvs = m.hvs := rfl
@[simp] theorem Mod.setDport_meass (n die : Nat) (x : DiePort) : (m.setDport n die x).meass = m.meass := rfl
@[simp] theorem Mod.setDport_plt (n die : Nat) (x : DiePort) : (m.setDport n die x).plt = m.plt := rfl
@[simp] theorem Mod.setDport_waves (n die : Nat) (x : DiePort) : (m.setDport n die x).waves = m.waves := rfl
@[simp] theorem Mod.setDport_ass (n die : Nat) (x : DiePort) : (m.setDport n die x).ass = m.ass := rfl
@[simp] theorem Mod.setDport_acqs (n die : Nat) (x : DiePort) : (m.setDport n die x).acqs = m.acqs := rfl
@[simp] theorem Mod.setDport_trg (n die : Nat) (x : DiePort) : (m.setDport n die x).trg = m.trg := rfl
@[simp] theorem Mod.setDport_tim (n die : Nat) (x : DiePort) : (m.setDport n die x).tim = m.tim := rfl
@[simp] theorem Mod.setDport_cal (n die : Nat) (x : DiePort) : (m.setDport n die x).cal = m.cal := rfl
@[simp] theorem Mod.setDport_drc (n die : Nat) (x : DiePort) : (m.setDport n die x).drc = m.drc := rfl
@[simp] theorem Mod.setDport_dma (n die : Nat) (x : DiePort) : (m.setDport n die x).dma = m.dma := rfl
@[simp] theorem Mod.setDport_pair (n die : Nat) (x : DiePort) : (m.setDport n die x).pair = m.pair := rfl

/-! ### setPin -/

@[simp] theorem Mod.setPin_regs (ch : Nat) (x : Pin) : (m.setPin ch x).regs = m.regs := rfl
@[simp] theorem Mod.setPin_latch (ch : Nat) (x : Pin) : (m.setPin ch x).latch = m.latch := rfl
@[simp] theorem Mod.setPin_stage (ch : Nat) (x : Pin) : (m.setPin ch x).stage = m.stage := rfl
@[simp] theorem Mod.setPin_gddr (ch : Nat) (x : Pin) : (m.setPin ch x).gddr = m.gddr := rfl
@[simp] theorem Mod.setPin_gddrBad (ch : Nat) (x : Pin) : (m.setPin ch x).gddrBad = m.gddrBad := rfl
@[simp] theorem Mod.setPin_sram (ch : Nat) (x : Pin) : (m.setPin ch x).sram = m.sram := rfl
@[simp] theorem Mod.setPin_sramBad (ch : Nat) (x : Pin) : (m.setPin ch x).sramBad = m.sramBad := rfl
@[simp] theorem Mod.setPin_cmds (ch : Nat) (x : Pin) : (m.setPin ch x).cmds = m.cmds := rfl
@[simp] theorem Mod.setPin_outs (ch : Nat) (x : Pin) : (m.setPin ch x).outs = m.outs := rfl
@[simp] theorem Mod.setPin_flt (ch : Nat) (x : Pin) : (m.setPin ch x).flt = m.flt := rfl
@[simp] theorem Mod.setPin_sys (ch : Nat) (x : Pin) : (m.setPin ch x).sys = m.sys := rfl
@[simp] theorem Mod.setPin_queues (ch : Nat) (x : Pin) : (m.setPin ch x).queues = m.queues := rfl
@[simp] theorem Mod.setPin_cqs (ch : Nat) (x : Pin) : (m.setPin ch x).cqs = m.cqs := rfl
@[simp] theorem Mod.setPin_pcie (ch : Nat) (x : Pin) : (m.setPin ch x).pcie = m.pcie := rfl
@[simp] theorem Mod.setPin_hat (ch : Nat) (x : Pin) : (m.setPin ch x).hat = m.hat := rfl
@[simp] theorem Mod.setPin_scores (ch : Nat) (x : Pin) : (m.setPin ch x).scores = m.scores := rfl
@[simp] theorem Mod.setPin_mcores (ch : Nat) (x : Pin) : (m.setPin ch x).mcores = m.mcores := rfl
@[simp] theorem Mod.setPin_harts (ch : Nat) (x : Pin) : (m.setPin ch x).harts = m.harts := rfl
@[simp] theorem Mod.setPin_tlb (ch : Nat) (x : Pin) : (m.setPin ch x).tlb = m.tlb := rfl
@[simp] theorem Mod.setPin_seqs (ch : Nat) (x : Pin) : (m.setPin ch x).seqs = m.seqs := rfl
@[simp] theorem Mod.setPin_dports (ch : Nat) (x : Pin) : (m.setPin ch x).dports = m.dports := rfl
@[simp] theorem Mod.setPin_rings (ch : Nat) (x : Pin) : (m.setPin ch x).rings = m.rings := rfl
@[simp] theorem Mod.setPin_sendBuf (ch : Nat) (x : Pin) : (m.setPin ch x).sendBuf = m.sendBuf := rfl
@[simp] theorem Mod.setPin_lqs (ch : Nat) (x : Pin) : (m.setPin ch x).lqs = m.lqs := rfl
@[simp] theorem Mod.setPin_lreqs (ch : Nat) (x : Pin) : (m.setPin ch x).lreqs = m.lreqs := rfl
@[simp] theorem Mod.setPin_nextReq (ch : Nat) (x : Pin) : (m.setPin ch x).nextReq = m.nextReq := rfl
@[simp] theorem Mod.setPin_lvs (ch : Nat) (x : Pin) : (m.setPin ch x).lvs = m.lvs := rfl
@[simp] theorem Mod.setPin_hvs (ch : Nat) (x : Pin) : (m.setPin ch x).hvs = m.hvs := rfl
@[simp] theorem Mod.setPin_meass (ch : Nat) (x : Pin) : (m.setPin ch x).meass = m.meass := rfl
@[simp] theorem Mod.setPin_plt (ch : Nat) (x : Pin) : (m.setPin ch x).plt = m.plt := rfl
@[simp] theorem Mod.setPin_waves (ch : Nat) (x : Pin) : (m.setPin ch x).waves = m.waves := rfl
@[simp] theorem Mod.setPin_ass (ch : Nat) (x : Pin) : (m.setPin ch x).ass = m.ass := rfl
@[simp] theorem Mod.setPin_acqs (ch : Nat) (x : Pin) : (m.setPin ch x).acqs = m.acqs := rfl
@[simp] theorem Mod.setPin_trg (ch : Nat) (x : Pin) : (m.setPin ch x).trg = m.trg := rfl
@[simp] theorem Mod.setPin_tim (ch : Nat) (x : Pin) : (m.setPin ch x).tim = m.tim := rfl
@[simp] theorem Mod.setPin_cal (ch : Nat) (x : Pin) : (m.setPin ch x).cal = m.cal := rfl
@[simp] theorem Mod.setPin_drc (ch : Nat) (x : Pin) : (m.setPin ch x).drc = m.drc := rfl
@[simp] theorem Mod.setPin_dma (ch : Nat) (x : Pin) : (m.setPin ch x).dma = m.dma := rfl
@[simp] theorem Mod.setPin_pair (ch : Nat) (x : Pin) : (m.setPin ch x).pair = m.pair := rfl

/-! ### setRing -/

@[simp] theorem Mod.setRing_regs (n : Nat) (x : Ring) : (m.setRing n x).regs = m.regs := rfl
@[simp] theorem Mod.setRing_latch (n : Nat) (x : Ring) : (m.setRing n x).latch = m.latch := rfl
@[simp] theorem Mod.setRing_stage (n : Nat) (x : Ring) : (m.setRing n x).stage = m.stage := rfl
@[simp] theorem Mod.setRing_gddr (n : Nat) (x : Ring) : (m.setRing n x).gddr = m.gddr := rfl
@[simp] theorem Mod.setRing_gddrBad (n : Nat) (x : Ring) : (m.setRing n x).gddrBad = m.gddrBad := rfl
@[simp] theorem Mod.setRing_sram (n : Nat) (x : Ring) : (m.setRing n x).sram = m.sram := rfl
@[simp] theorem Mod.setRing_sramBad (n : Nat) (x : Ring) : (m.setRing n x).sramBad = m.sramBad := rfl
@[simp] theorem Mod.setRing_cmds (n : Nat) (x : Ring) : (m.setRing n x).cmds = m.cmds := rfl
@[simp] theorem Mod.setRing_outs (n : Nat) (x : Ring) : (m.setRing n x).outs = m.outs := rfl
@[simp] theorem Mod.setRing_flt (n : Nat) (x : Ring) : (m.setRing n x).flt = m.flt := rfl
@[simp] theorem Mod.setRing_sys (n : Nat) (x : Ring) : (m.setRing n x).sys = m.sys := rfl
@[simp] theorem Mod.setRing_queues (n : Nat) (x : Ring) : (m.setRing n x).queues = m.queues := rfl
@[simp] theorem Mod.setRing_cqs (n : Nat) (x : Ring) : (m.setRing n x).cqs = m.cqs := rfl
@[simp] theorem Mod.setRing_pcie (n : Nat) (x : Ring) : (m.setRing n x).pcie = m.pcie := rfl
@[simp] theorem Mod.setRing_hat (n : Nat) (x : Ring) : (m.setRing n x).hat = m.hat := rfl
@[simp] theorem Mod.setRing_scores (n : Nat) (x : Ring) : (m.setRing n x).scores = m.scores := rfl
@[simp] theorem Mod.setRing_mcores (n : Nat) (x : Ring) : (m.setRing n x).mcores = m.mcores := rfl
@[simp] theorem Mod.setRing_harts (n : Nat) (x : Ring) : (m.setRing n x).harts = m.harts := rfl
@[simp] theorem Mod.setRing_tlb (n : Nat) (x : Ring) : (m.setRing n x).tlb = m.tlb := rfl
@[simp] theorem Mod.setRing_seqs (n : Nat) (x : Ring) : (m.setRing n x).seqs = m.seqs := rfl
@[simp] theorem Mod.setRing_dports (n : Nat) (x : Ring) : (m.setRing n x).dports = m.dports := rfl
@[simp] theorem Mod.setRing_pins (n : Nat) (x : Ring) : (m.setRing n x).pins = m.pins := rfl
@[simp] theorem Mod.setRing_sendBuf (n : Nat) (x : Ring) : (m.setRing n x).sendBuf = m.sendBuf := rfl
@[simp] theorem Mod.setRing_lqs (n : Nat) (x : Ring) : (m.setRing n x).lqs = m.lqs := rfl
@[simp] theorem Mod.setRing_lreqs (n : Nat) (x : Ring) : (m.setRing n x).lreqs = m.lreqs := rfl
@[simp] theorem Mod.setRing_nextReq (n : Nat) (x : Ring) : (m.setRing n x).nextReq = m.nextReq := rfl
@[simp] theorem Mod.setRing_lvs (n : Nat) (x : Ring) : (m.setRing n x).lvs = m.lvs := rfl
@[simp] theorem Mod.setRing_hvs (n : Nat) (x : Ring) : (m.setRing n x).hvs = m.hvs := rfl
@[simp] theorem Mod.setRing_meass (n : Nat) (x : Ring) : (m.setRing n x).meass = m.meass := rfl
@[simp] theorem Mod.setRing_plt (n : Nat) (x : Ring) : (m.setRing n x).plt = m.plt := rfl
@[simp] theorem Mod.setRing_waves (n : Nat) (x : Ring) : (m.setRing n x).waves = m.waves := rfl
@[simp] theorem Mod.setRing_ass (n : Nat) (x : Ring) : (m.setRing n x).ass = m.ass := rfl
@[simp] theorem Mod.setRing_acqs (n : Nat) (x : Ring) : (m.setRing n x).acqs = m.acqs := rfl
@[simp] theorem Mod.setRing_trg (n : Nat) (x : Ring) : (m.setRing n x).trg = m.trg := rfl
@[simp] theorem Mod.setRing_tim (n : Nat) (x : Ring) : (m.setRing n x).tim = m.tim := rfl
@[simp] theorem Mod.setRing_cal (n : Nat) (x : Ring) : (m.setRing n x).cal = m.cal := rfl
@[simp] theorem Mod.setRing_drc (n : Nat) (x : Ring) : (m.setRing n x).drc = m.drc := rfl
@[simp] theorem Mod.setRing_dma (n : Nat) (x : Ring) : (m.setRing n x).dma = m.dma := rfl
@[simp] theorem Mod.setRing_pair (n : Nat) (x : Ring) : (m.setRing n x).pair = m.pair := rfl

/-! ### setWave -/

@[simp] theorem Mod.setWave_regs (n : Nat) (x : Wave) : (m.setWave n x).regs = m.regs := rfl
@[simp] theorem Mod.setWave_latch (n : Nat) (x : Wave) : (m.setWave n x).latch = m.latch := rfl
@[simp] theorem Mod.setWave_stage (n : Nat) (x : Wave) : (m.setWave n x).stage = m.stage := rfl
@[simp] theorem Mod.setWave_gddr (n : Nat) (x : Wave) : (m.setWave n x).gddr = m.gddr := rfl
@[simp] theorem Mod.setWave_gddrBad (n : Nat) (x : Wave) : (m.setWave n x).gddrBad = m.gddrBad := rfl
@[simp] theorem Mod.setWave_sram (n : Nat) (x : Wave) : (m.setWave n x).sram = m.sram := rfl
@[simp] theorem Mod.setWave_sramBad (n : Nat) (x : Wave) : (m.setWave n x).sramBad = m.sramBad := rfl
@[simp] theorem Mod.setWave_cmds (n : Nat) (x : Wave) : (m.setWave n x).cmds = m.cmds := rfl
@[simp] theorem Mod.setWave_outs (n : Nat) (x : Wave) : (m.setWave n x).outs = m.outs := rfl
@[simp] theorem Mod.setWave_flt (n : Nat) (x : Wave) : (m.setWave n x).flt = m.flt := rfl
@[simp] theorem Mod.setWave_sys (n : Nat) (x : Wave) : (m.setWave n x).sys = m.sys := rfl
@[simp] theorem Mod.setWave_queues (n : Nat) (x : Wave) : (m.setWave n x).queues = m.queues := rfl
@[simp] theorem Mod.setWave_cqs (n : Nat) (x : Wave) : (m.setWave n x).cqs = m.cqs := rfl
@[simp] theorem Mod.setWave_pcie (n : Nat) (x : Wave) : (m.setWave n x).pcie = m.pcie := rfl
@[simp] theorem Mod.setWave_hat (n : Nat) (x : Wave) : (m.setWave n x).hat = m.hat := rfl
@[simp] theorem Mod.setWave_scores (n : Nat) (x : Wave) : (m.setWave n x).scores = m.scores := rfl
@[simp] theorem Mod.setWave_mcores (n : Nat) (x : Wave) : (m.setWave n x).mcores = m.mcores := rfl
@[simp] theorem Mod.setWave_harts (n : Nat) (x : Wave) : (m.setWave n x).harts = m.harts := rfl
@[simp] theorem Mod.setWave_tlb (n : Nat) (x : Wave) : (m.setWave n x).tlb = m.tlb := rfl
@[simp] theorem Mod.setWave_seqs (n : Nat) (x : Wave) : (m.setWave n x).seqs = m.seqs := rfl
@[simp] theorem Mod.setWave_dports (n : Nat) (x : Wave) : (m.setWave n x).dports = m.dports := rfl
@[simp] theorem Mod.setWave_pins (n : Nat) (x : Wave) : (m.setWave n x).pins = m.pins := rfl
@[simp] theorem Mod.setWave_rings (n : Nat) (x : Wave) : (m.setWave n x).rings = m.rings := rfl
@[simp] theorem Mod.setWave_sendBuf (n : Nat) (x : Wave) : (m.setWave n x).sendBuf = m.sendBuf := rfl
@[simp] theorem Mod.setWave_lqs (n : Nat) (x : Wave) : (m.setWave n x).lqs = m.lqs := rfl
@[simp] theorem Mod.setWave_lreqs (n : Nat) (x : Wave) : (m.setWave n x).lreqs = m.lreqs := rfl
@[simp] theorem Mod.setWave_nextReq (n : Nat) (x : Wave) : (m.setWave n x).nextReq = m.nextReq := rfl
@[simp] theorem Mod.setWave_lvs (n : Nat) (x : Wave) : (m.setWave n x).lvs = m.lvs := rfl
@[simp] theorem Mod.setWave_hvs (n : Nat) (x : Wave) : (m.setWave n x).hvs = m.hvs := rfl
@[simp] theorem Mod.setWave_meass (n : Nat) (x : Wave) : (m.setWave n x).meass = m.meass := rfl
@[simp] theorem Mod.setWave_plt (n : Nat) (x : Wave) : (m.setWave n x).plt = m.plt := rfl
@[simp] theorem Mod.setWave_ass (n : Nat) (x : Wave) : (m.setWave n x).ass = m.ass := rfl
@[simp] theorem Mod.setWave_acqs (n : Nat) (x : Wave) : (m.setWave n x).acqs = m.acqs := rfl
@[simp] theorem Mod.setWave_trg (n : Nat) (x : Wave) : (m.setWave n x).trg = m.trg := rfl
@[simp] theorem Mod.setWave_tim (n : Nat) (x : Wave) : (m.setWave n x).tim = m.tim := rfl
@[simp] theorem Mod.setWave_cal (n : Nat) (x : Wave) : (m.setWave n x).cal = m.cal := rfl
@[simp] theorem Mod.setWave_drc (n : Nat) (x : Wave) : (m.setWave n x).drc = m.drc := rfl
@[simp] theorem Mod.setWave_dma (n : Nat) (x : Wave) : (m.setWave n x).dma = m.dma := rfl
@[simp] theorem Mod.setWave_pair (n : Nat) (x : Wave) : (m.setWave n x).pair = m.pair := rfl

/-! ### setAsl -/

@[simp] theorem Mod.setAsl_regs (n : Nat) (x : AsLive) : (m.setAsl n x).regs = m.regs := rfl
@[simp] theorem Mod.setAsl_latch (n : Nat) (x : AsLive) : (m.setAsl n x).latch = m.latch := rfl
@[simp] theorem Mod.setAsl_stage (n : Nat) (x : AsLive) : (m.setAsl n x).stage = m.stage := rfl
@[simp] theorem Mod.setAsl_gddr (n : Nat) (x : AsLive) : (m.setAsl n x).gddr = m.gddr := rfl
@[simp] theorem Mod.setAsl_gddrBad (n : Nat) (x : AsLive) : (m.setAsl n x).gddrBad = m.gddrBad := rfl
@[simp] theorem Mod.setAsl_sram (n : Nat) (x : AsLive) : (m.setAsl n x).sram = m.sram := rfl
@[simp] theorem Mod.setAsl_sramBad (n : Nat) (x : AsLive) : (m.setAsl n x).sramBad = m.sramBad := rfl
@[simp] theorem Mod.setAsl_cmds (n : Nat) (x : AsLive) : (m.setAsl n x).cmds = m.cmds := rfl
@[simp] theorem Mod.setAsl_outs (n : Nat) (x : AsLive) : (m.setAsl n x).outs = m.outs := rfl
@[simp] theorem Mod.setAsl_flt (n : Nat) (x : AsLive) : (m.setAsl n x).flt = m.flt := rfl
@[simp] theorem Mod.setAsl_sys (n : Nat) (x : AsLive) : (m.setAsl n x).sys = m.sys := rfl
@[simp] theorem Mod.setAsl_queues (n : Nat) (x : AsLive) : (m.setAsl n x).queues = m.queues := rfl
@[simp] theorem Mod.setAsl_cqs (n : Nat) (x : AsLive) : (m.setAsl n x).cqs = m.cqs := rfl
@[simp] theorem Mod.setAsl_pcie (n : Nat) (x : AsLive) : (m.setAsl n x).pcie = m.pcie := rfl
@[simp] theorem Mod.setAsl_hat (n : Nat) (x : AsLive) : (m.setAsl n x).hat = m.hat := rfl
@[simp] theorem Mod.setAsl_scores (n : Nat) (x : AsLive) : (m.setAsl n x).scores = m.scores := rfl
@[simp] theorem Mod.setAsl_mcores (n : Nat) (x : AsLive) : (m.setAsl n x).mcores = m.mcores := rfl
@[simp] theorem Mod.setAsl_harts (n : Nat) (x : AsLive) : (m.setAsl n x).harts = m.harts := rfl
@[simp] theorem Mod.setAsl_tlb (n : Nat) (x : AsLive) : (m.setAsl n x).tlb = m.tlb := rfl
@[simp] theorem Mod.setAsl_seqs (n : Nat) (x : AsLive) : (m.setAsl n x).seqs = m.seqs := rfl
@[simp] theorem Mod.setAsl_dports (n : Nat) (x : AsLive) : (m.setAsl n x).dports = m.dports := rfl
@[simp] theorem Mod.setAsl_pins (n : Nat) (x : AsLive) : (m.setAsl n x).pins = m.pins := rfl
@[simp] theorem Mod.setAsl_rings (n : Nat) (x : AsLive) : (m.setAsl n x).rings = m.rings := rfl
@[simp] theorem Mod.setAsl_sendBuf (n : Nat) (x : AsLive) : (m.setAsl n x).sendBuf = m.sendBuf := rfl
@[simp] theorem Mod.setAsl_lqs (n : Nat) (x : AsLive) : (m.setAsl n x).lqs = m.lqs := rfl
@[simp] theorem Mod.setAsl_lreqs (n : Nat) (x : AsLive) : (m.setAsl n x).lreqs = m.lreqs := rfl
@[simp] theorem Mod.setAsl_nextReq (n : Nat) (x : AsLive) : (m.setAsl n x).nextReq = m.nextReq := rfl
@[simp] theorem Mod.setAsl_lvs (n : Nat) (x : AsLive) : (m.setAsl n x).lvs = m.lvs := rfl
@[simp] theorem Mod.setAsl_hvs (n : Nat) (x : AsLive) : (m.setAsl n x).hvs = m.hvs := rfl
@[simp] theorem Mod.setAsl_meass (n : Nat) (x : AsLive) : (m.setAsl n x).meass = m.meass := rfl
@[simp] theorem Mod.setAsl_plt (n : Nat) (x : AsLive) : (m.setAsl n x).plt = m.plt := rfl
@[simp] theorem Mod.setAsl_waves (n : Nat) (x : AsLive) : (m.setAsl n x).waves = m.waves := rfl
@[simp] theorem Mod.setAsl_acqs (n : Nat) (x : AsLive) : (m.setAsl n x).acqs = m.acqs := rfl
@[simp] theorem Mod.setAsl_trg (n : Nat) (x : AsLive) : (m.setAsl n x).trg = m.trg := rfl
@[simp] theorem Mod.setAsl_tim (n : Nat) (x : AsLive) : (m.setAsl n x).tim = m.tim := rfl
@[simp] theorem Mod.setAsl_cal (n : Nat) (x : AsLive) : (m.setAsl n x).cal = m.cal := rfl
@[simp] theorem Mod.setAsl_drc (n : Nat) (x : AsLive) : (m.setAsl n x).drc = m.drc := rfl
@[simp] theorem Mod.setAsl_dma (n : Nat) (x : AsLive) : (m.setAsl n x).dma = m.dma := rfl
@[simp] theorem Mod.setAsl_pair (n : Nat) (x : AsLive) : (m.setAsl n x).pair = m.pair := rfl

/-! ### setAcq -/

@[simp] theorem Mod.setAcq_regs (n : Nat) (x : Option Acq) : (m.setAcq n x).regs = m.regs := rfl
@[simp] theorem Mod.setAcq_latch (n : Nat) (x : Option Acq) : (m.setAcq n x).latch = m.latch := rfl
@[simp] theorem Mod.setAcq_stage (n : Nat) (x : Option Acq) : (m.setAcq n x).stage = m.stage := rfl
@[simp] theorem Mod.setAcq_gddr (n : Nat) (x : Option Acq) : (m.setAcq n x).gddr = m.gddr := rfl
@[simp] theorem Mod.setAcq_gddrBad (n : Nat) (x : Option Acq) : (m.setAcq n x).gddrBad = m.gddrBad := rfl
@[simp] theorem Mod.setAcq_sram (n : Nat) (x : Option Acq) : (m.setAcq n x).sram = m.sram := rfl
@[simp] theorem Mod.setAcq_sramBad (n : Nat) (x : Option Acq) : (m.setAcq n x).sramBad = m.sramBad := rfl
@[simp] theorem Mod.setAcq_cmds (n : Nat) (x : Option Acq) : (m.setAcq n x).cmds = m.cmds := rfl
@[simp] theorem Mod.setAcq_outs (n : Nat) (x : Option Acq) : (m.setAcq n x).outs = m.outs := rfl
@[simp] theorem Mod.setAcq_flt (n : Nat) (x : Option Acq) : (m.setAcq n x).flt = m.flt := rfl
@[simp] theorem Mod.setAcq_sys (n : Nat) (x : Option Acq) : (m.setAcq n x).sys = m.sys := rfl
@[simp] theorem Mod.setAcq_queues (n : Nat) (x : Option Acq) : (m.setAcq n x).queues = m.queues := rfl
@[simp] theorem Mod.setAcq_cqs (n : Nat) (x : Option Acq) : (m.setAcq n x).cqs = m.cqs := rfl
@[simp] theorem Mod.setAcq_pcie (n : Nat) (x : Option Acq) : (m.setAcq n x).pcie = m.pcie := rfl
@[simp] theorem Mod.setAcq_hat (n : Nat) (x : Option Acq) : (m.setAcq n x).hat = m.hat := rfl
@[simp] theorem Mod.setAcq_scores (n : Nat) (x : Option Acq) : (m.setAcq n x).scores = m.scores := rfl
@[simp] theorem Mod.setAcq_mcores (n : Nat) (x : Option Acq) : (m.setAcq n x).mcores = m.mcores := rfl
@[simp] theorem Mod.setAcq_harts (n : Nat) (x : Option Acq) : (m.setAcq n x).harts = m.harts := rfl
@[simp] theorem Mod.setAcq_tlb (n : Nat) (x : Option Acq) : (m.setAcq n x).tlb = m.tlb := rfl
@[simp] theorem Mod.setAcq_seqs (n : Nat) (x : Option Acq) : (m.setAcq n x).seqs = m.seqs := rfl
@[simp] theorem Mod.setAcq_dports (n : Nat) (x : Option Acq) : (m.setAcq n x).dports = m.dports := rfl
@[simp] theorem Mod.setAcq_pins (n : Nat) (x : Option Acq) : (m.setAcq n x).pins = m.pins := rfl
@[simp] theorem Mod.setAcq_rings (n : Nat) (x : Option Acq) : (m.setAcq n x).rings = m.rings := rfl
@[simp] theorem Mod.setAcq_sendBuf (n : Nat) (x : Option Acq) : (m.setAcq n x).sendBuf = m.sendBuf := rfl
@[simp] theorem Mod.setAcq_lqs (n : Nat) (x : Option Acq) : (m.setAcq n x).lqs = m.lqs := rfl
@[simp] theorem Mod.setAcq_lreqs (n : Nat) (x : Option Acq) : (m.setAcq n x).lreqs = m.lreqs := rfl
@[simp] theorem Mod.setAcq_nextReq (n : Nat) (x : Option Acq) : (m.setAcq n x).nextReq = m.nextReq := rfl
@[simp] theorem Mod.setAcq_lvs (n : Nat) (x : Option Acq) : (m.setAcq n x).lvs = m.lvs := rfl
@[simp] theorem Mod.setAcq_hvs (n : Nat) (x : Option Acq) : (m.setAcq n x).hvs = m.hvs := rfl
@[simp] theorem Mod.setAcq_meass (n : Nat) (x : Option Acq) : (m.setAcq n x).meass = m.meass := rfl
@[simp] theorem Mod.setAcq_plt (n : Nat) (x : Option Acq) : (m.setAcq n x).plt = m.plt := rfl
@[simp] theorem Mod.setAcq_waves (n : Nat) (x : Option Acq) : (m.setAcq n x).waves = m.waves := rfl
@[simp] theorem Mod.setAcq_ass (n : Nat) (x : Option Acq) : (m.setAcq n x).ass = m.ass := rfl
@[simp] theorem Mod.setAcq_trg (n : Nat) (x : Option Acq) : (m.setAcq n x).trg = m.trg := rfl
@[simp] theorem Mod.setAcq_tim (n : Nat) (x : Option Acq) : (m.setAcq n x).tim = m.tim := rfl
@[simp] theorem Mod.setAcq_cal (n : Nat) (x : Option Acq) : (m.setAcq n x).cal = m.cal := rfl
@[simp] theorem Mod.setAcq_drc (n : Nat) (x : Option Acq) : (m.setAcq n x).drc = m.drc := rfl
@[simp] theorem Mod.setAcq_dma (n : Nat) (x : Option Acq) : (m.setAcq n x).dma = m.dma := rfl
@[simp] theorem Mod.setAcq_pair (n : Nat) (x : Option Acq) : (m.setAcq n x).pair = m.pair := rfl

/-! ### setTrg -/

@[simp] theorem Mod.setTrg_regs (x : Trg) : (m.setTrg x).regs = m.regs := rfl
@[simp] theorem Mod.setTrg_latch (x : Trg) : (m.setTrg x).latch = m.latch := rfl
@[simp] theorem Mod.setTrg_stage (x : Trg) : (m.setTrg x).stage = m.stage := rfl
@[simp] theorem Mod.setTrg_gddr (x : Trg) : (m.setTrg x).gddr = m.gddr := rfl
@[simp] theorem Mod.setTrg_gddrBad (x : Trg) : (m.setTrg x).gddrBad = m.gddrBad := rfl
@[simp] theorem Mod.setTrg_sram (x : Trg) : (m.setTrg x).sram = m.sram := rfl
@[simp] theorem Mod.setTrg_sramBad (x : Trg) : (m.setTrg x).sramBad = m.sramBad := rfl
@[simp] theorem Mod.setTrg_cmds (x : Trg) : (m.setTrg x).cmds = m.cmds := rfl
@[simp] theorem Mod.setTrg_outs (x : Trg) : (m.setTrg x).outs = m.outs := rfl
@[simp] theorem Mod.setTrg_flt (x : Trg) : (m.setTrg x).flt = m.flt := rfl
@[simp] theorem Mod.setTrg_sys (x : Trg) : (m.setTrg x).sys = m.sys := rfl
@[simp] theorem Mod.setTrg_queues (x : Trg) : (m.setTrg x).queues = m.queues := rfl
@[simp] theorem Mod.setTrg_cqs (x : Trg) : (m.setTrg x).cqs = m.cqs := rfl
@[simp] theorem Mod.setTrg_pcie (x : Trg) : (m.setTrg x).pcie = m.pcie := rfl
@[simp] theorem Mod.setTrg_hat (x : Trg) : (m.setTrg x).hat = m.hat := rfl
@[simp] theorem Mod.setTrg_scores (x : Trg) : (m.setTrg x).scores = m.scores := rfl
@[simp] theorem Mod.setTrg_mcores (x : Trg) : (m.setTrg x).mcores = m.mcores := rfl
@[simp] theorem Mod.setTrg_harts (x : Trg) : (m.setTrg x).harts = m.harts := rfl
@[simp] theorem Mod.setTrg_tlb (x : Trg) : (m.setTrg x).tlb = m.tlb := rfl
@[simp] theorem Mod.setTrg_seqs (x : Trg) : (m.setTrg x).seqs = m.seqs := rfl
@[simp] theorem Mod.setTrg_dports (x : Trg) : (m.setTrg x).dports = m.dports := rfl
@[simp] theorem Mod.setTrg_pins (x : Trg) : (m.setTrg x).pins = m.pins := rfl
@[simp] theorem Mod.setTrg_rings (x : Trg) : (m.setTrg x).rings = m.rings := rfl
@[simp] theorem Mod.setTrg_sendBuf (x : Trg) : (m.setTrg x).sendBuf = m.sendBuf := rfl
@[simp] theorem Mod.setTrg_lqs (x : Trg) : (m.setTrg x).lqs = m.lqs := rfl
@[simp] theorem Mod.setTrg_lreqs (x : Trg) : (m.setTrg x).lreqs = m.lreqs := rfl
@[simp] theorem Mod.setTrg_nextReq (x : Trg) : (m.setTrg x).nextReq = m.nextReq := rfl
@[simp] theorem Mod.setTrg_lvs (x : Trg) : (m.setTrg x).lvs = m.lvs := rfl
@[simp] theorem Mod.setTrg_hvs (x : Trg) : (m.setTrg x).hvs = m.hvs := rfl
@[simp] theorem Mod.setTrg_meass (x : Trg) : (m.setTrg x).meass = m.meass := rfl
@[simp] theorem Mod.setTrg_plt (x : Trg) : (m.setTrg x).plt = m.plt := rfl
@[simp] theorem Mod.setTrg_waves (x : Trg) : (m.setTrg x).waves = m.waves := rfl
@[simp] theorem Mod.setTrg_ass (x : Trg) : (m.setTrg x).ass = m.ass := rfl
@[simp] theorem Mod.setTrg_acqs (x : Trg) : (m.setTrg x).acqs = m.acqs := rfl
@[simp] theorem Mod.setTrg_tim (x : Trg) : (m.setTrg x).tim = m.tim := rfl
@[simp] theorem Mod.setTrg_cal (x : Trg) : (m.setTrg x).cal = m.cal := rfl
@[simp] theorem Mod.setTrg_drc (x : Trg) : (m.setTrg x).drc = m.drc := rfl
@[simp] theorem Mod.setTrg_dma (x : Trg) : (m.setTrg x).dma = m.dma := rfl
@[simp] theorem Mod.setTrg_pair (x : Trg) : (m.setTrg x).pair = m.pair := rfl

/-! ### setCal -/

@[simp] theorem Mod.setCal_regs (x : Cal) : (m.setCal x).regs = m.regs := rfl
@[simp] theorem Mod.setCal_latch (x : Cal) : (m.setCal x).latch = m.latch := rfl
@[simp] theorem Mod.setCal_stage (x : Cal) : (m.setCal x).stage = m.stage := rfl
@[simp] theorem Mod.setCal_gddr (x : Cal) : (m.setCal x).gddr = m.gddr := rfl
@[simp] theorem Mod.setCal_gddrBad (x : Cal) : (m.setCal x).gddrBad = m.gddrBad := rfl
@[simp] theorem Mod.setCal_sram (x : Cal) : (m.setCal x).sram = m.sram := rfl
@[simp] theorem Mod.setCal_sramBad (x : Cal) : (m.setCal x).sramBad = m.sramBad := rfl
@[simp] theorem Mod.setCal_cmds (x : Cal) : (m.setCal x).cmds = m.cmds := rfl
@[simp] theorem Mod.setCal_outs (x : Cal) : (m.setCal x).outs = m.outs := rfl
@[simp] theorem Mod.setCal_flt (x : Cal) : (m.setCal x).flt = m.flt := rfl
@[simp] theorem Mod.setCal_sys (x : Cal) : (m.setCal x).sys = m.sys := rfl
@[simp] theorem Mod.setCal_queues (x : Cal) : (m.setCal x).queues = m.queues := rfl
@[simp] theorem Mod.setCal_cqs (x : Cal) : (m.setCal x).cqs = m.cqs := rfl
@[simp] theorem Mod.setCal_pcie (x : Cal) : (m.setCal x).pcie = m.pcie := rfl
@[simp] theorem Mod.setCal_hat (x : Cal) : (m.setCal x).hat = m.hat := rfl
@[simp] theorem Mod.setCal_scores (x : Cal) : (m.setCal x).scores = m.scores := rfl
@[simp] theorem Mod.setCal_mcores (x : Cal) : (m.setCal x).mcores = m.mcores := rfl
@[simp] theorem Mod.setCal_harts (x : Cal) : (m.setCal x).harts = m.harts := rfl
@[simp] theorem Mod.setCal_tlb (x : Cal) : (m.setCal x).tlb = m.tlb := rfl
@[simp] theorem Mod.setCal_seqs (x : Cal) : (m.setCal x).seqs = m.seqs := rfl
@[simp] theorem Mod.setCal_dports (x : Cal) : (m.setCal x).dports = m.dports := rfl
@[simp] theorem Mod.setCal_pins (x : Cal) : (m.setCal x).pins = m.pins := rfl
@[simp] theorem Mod.setCal_rings (x : Cal) : (m.setCal x).rings = m.rings := rfl
@[simp] theorem Mod.setCal_sendBuf (x : Cal) : (m.setCal x).sendBuf = m.sendBuf := rfl
@[simp] theorem Mod.setCal_lqs (x : Cal) : (m.setCal x).lqs = m.lqs := rfl
@[simp] theorem Mod.setCal_lreqs (x : Cal) : (m.setCal x).lreqs = m.lreqs := rfl
@[simp] theorem Mod.setCal_nextReq (x : Cal) : (m.setCal x).nextReq = m.nextReq := rfl
@[simp] theorem Mod.setCal_lvs (x : Cal) : (m.setCal x).lvs = m.lvs := rfl
@[simp] theorem Mod.setCal_hvs (x : Cal) : (m.setCal x).hvs = m.hvs := rfl
@[simp] theorem Mod.setCal_meass (x : Cal) : (m.setCal x).meass = m.meass := rfl
@[simp] theorem Mod.setCal_plt (x : Cal) : (m.setCal x).plt = m.plt := rfl
@[simp] theorem Mod.setCal_waves (x : Cal) : (m.setCal x).waves = m.waves := rfl
@[simp] theorem Mod.setCal_ass (x : Cal) : (m.setCal x).ass = m.ass := rfl
@[simp] theorem Mod.setCal_acqs (x : Cal) : (m.setCal x).acqs = m.acqs := rfl
@[simp] theorem Mod.setCal_trg (x : Cal) : (m.setCal x).trg = m.trg := rfl
@[simp] theorem Mod.setCal_tim (x : Cal) : (m.setCal x).tim = m.tim := rfl
@[simp] theorem Mod.setCal_drc (x : Cal) : (m.setCal x).drc = m.drc := rfl
@[simp] theorem Mod.setCal_dma (x : Cal) : (m.setCal x).dma = m.dma := rfl
@[simp] theorem Mod.setCal_pair (x : Cal) : (m.setCal x).pair = m.pair := rfl

/-! ### setDrc -/

@[simp] theorem Mod.setDrc_regs (x : Drc) : (m.setDrc x).regs = m.regs := rfl
@[simp] theorem Mod.setDrc_latch (x : Drc) : (m.setDrc x).latch = m.latch := rfl
@[simp] theorem Mod.setDrc_stage (x : Drc) : (m.setDrc x).stage = m.stage := rfl
@[simp] theorem Mod.setDrc_gddr (x : Drc) : (m.setDrc x).gddr = m.gddr := rfl
@[simp] theorem Mod.setDrc_gddrBad (x : Drc) : (m.setDrc x).gddrBad = m.gddrBad := rfl
@[simp] theorem Mod.setDrc_sram (x : Drc) : (m.setDrc x).sram = m.sram := rfl
@[simp] theorem Mod.setDrc_sramBad (x : Drc) : (m.setDrc x).sramBad = m.sramBad := rfl
@[simp] theorem Mod.setDrc_cmds (x : Drc) : (m.setDrc x).cmds = m.cmds := rfl
@[simp] theorem Mod.setDrc_outs (x : Drc) : (m.setDrc x).outs = m.outs := rfl
@[simp] theorem Mod.setDrc_flt (x : Drc) : (m.setDrc x).flt = m.flt := rfl
@[simp] theorem Mod.setDrc_sys (x : Drc) : (m.setDrc x).sys = m.sys := rfl
@[simp] theorem Mod.setDrc_queues (x : Drc) : (m.setDrc x).queues = m.queues := rfl
@[simp] theorem Mod.setDrc_cqs (x : Drc) : (m.setDrc x).cqs = m.cqs := rfl
@[simp] theorem Mod.setDrc_pcie (x : Drc) : (m.setDrc x).pcie = m.pcie := rfl
@[simp] theorem Mod.setDrc_hat (x : Drc) : (m.setDrc x).hat = m.hat := rfl
@[simp] theorem Mod.setDrc_scores (x : Drc) : (m.setDrc x).scores = m.scores := rfl
@[simp] theorem Mod.setDrc_mcores (x : Drc) : (m.setDrc x).mcores = m.mcores := rfl
@[simp] theorem Mod.setDrc_harts (x : Drc) : (m.setDrc x).harts = m.harts := rfl
@[simp] theorem Mod.setDrc_tlb (x : Drc) : (m.setDrc x).tlb = m.tlb := rfl
@[simp] theorem Mod.setDrc_seqs (x : Drc) : (m.setDrc x).seqs = m.seqs := rfl
@[simp] theorem Mod.setDrc_dports (x : Drc) : (m.setDrc x).dports = m.dports := rfl
@[simp] theorem Mod.setDrc_pins (x : Drc) : (m.setDrc x).pins = m.pins := rfl
@[simp] theorem Mod.setDrc_rings (x : Drc) : (m.setDrc x).rings = m.rings := rfl
@[simp] theorem Mod.setDrc_sendBuf (x : Drc) : (m.setDrc x).sendBuf = m.sendBuf := rfl
@[simp] theorem Mod.setDrc_lqs (x : Drc) : (m.setDrc x).lqs = m.lqs := rfl
@[simp] theorem Mod.setDrc_lreqs (x : Drc) : (m.setDrc x).lreqs = m.lreqs := rfl
@[simp] theorem Mod.setDrc_nextReq (x : Drc) : (m.setDrc x).nextReq = m.nextReq := rfl
@[simp] theorem Mod.setDrc_lvs (x : Drc) : (m.setDrc x).lvs = m.lvs := rfl
@[simp] theorem Mod.setDrc_hvs (x : Drc) : (m.setDrc x).hvs = m.hvs := rfl
@[simp] theorem Mod.setDrc_meass (x : Drc) : (m.setDrc x).meass = m.meass := rfl
@[simp] theorem Mod.setDrc_plt (x : Drc) : (m.setDrc x).plt = m.plt := rfl
@[simp] theorem Mod.setDrc_waves (x : Drc) : (m.setDrc x).waves = m.waves := rfl
@[simp] theorem Mod.setDrc_ass (x : Drc) : (m.setDrc x).ass = m.ass := rfl
@[simp] theorem Mod.setDrc_acqs (x : Drc) : (m.setDrc x).acqs = m.acqs := rfl
@[simp] theorem Mod.setDrc_trg (x : Drc) : (m.setDrc x).trg = m.trg := rfl
@[simp] theorem Mod.setDrc_tim (x : Drc) : (m.setDrc x).tim = m.tim := rfl
@[simp] theorem Mod.setDrc_cal (x : Drc) : (m.setDrc x).cal = m.cal := rfl
@[simp] theorem Mod.setDrc_dma (x : Drc) : (m.setDrc x).dma = m.dma := rfl
@[simp] theorem Mod.setDrc_pair (x : Drc) : (m.setDrc x).pair = m.pair := rfl

/-! ### setDmaRun -/

@[simp] theorem Mod.setDmaRun_regs (ch : Nat) (x : Option DmaRun) : (m.setDmaRun ch x).regs = m.regs := rfl
@[simp] theorem Mod.setDmaRun_latch (ch : Nat) (x : Option DmaRun) : (m.setDmaRun ch x).latch = m.latch := rfl
@[simp] theorem Mod.setDmaRun_stage (ch : Nat) (x : Option DmaRun) : (m.setDmaRun ch x).stage = m.stage := rfl
@[simp] theorem Mod.setDmaRun_gddr (ch : Nat) (x : Option DmaRun) : (m.setDmaRun ch x).gddr = m.gddr := rfl
@[simp] theorem Mod.setDmaRun_gddrBad (ch : Nat) (x : Option DmaRun) : (m.setDmaRun ch x).gddrBad = m.gddrBad := rfl
@[simp] theorem Mod.setDmaRun_sram (ch : Nat) (x : Option DmaRun) : (m.setDmaRun ch x).sram = m.sram := rfl
@[simp] theorem Mod.setDmaRun_sramBad (ch : Nat) (x : Option DmaRun) : (m.setDmaRun ch x).sramBad = m.sramBad := rfl
@[simp] theorem Mod.setDmaRun_cmds (ch : Nat) (x : Option DmaRun) : (m.setDmaRun ch x).cmds = m.cmds := rfl
@[simp] theorem Mod.setDmaRun_outs (ch : Nat) (x : Option DmaRun) : (m.setDmaRun ch x).outs = m.outs := rfl
@[simp] theorem Mod.setDmaRun_flt (ch : Nat) (x : Option DmaRun) : (m.setDmaRun ch x).flt = m.flt := rfl
@[simp] theorem Mod.setDmaRun_sys (ch : Nat) (x : Option DmaRun) : (m.setDmaRun ch x).sys = m.sys := rfl
@[simp] theorem Mod.setDmaRun_queues (ch : Nat) (x : Option DmaRun) : (m.setDmaRun ch x).queues = m.queues := rfl
@[simp] theorem Mod.setDmaRun_cqs (ch : Nat) (x : Option DmaRun) : (m.setDmaRun ch x).cqs = m.cqs := rfl
@[simp] theorem Mod.setDmaRun_pcie (ch : Nat) (x : Option DmaRun) : (m.setDmaRun ch x).pcie = m.pcie := rfl
@[simp] theorem Mod.setDmaRun_hat (ch : Nat) (x : Option DmaRun) : (m.setDmaRun ch x).hat = m.hat := rfl
@[simp] theorem Mod.setDmaRun_scores (ch : Nat) (x : Option DmaRun) : (m.setDmaRun ch x).scores = m.scores := rfl
@[simp] theorem Mod.setDmaRun_mcores (ch : Nat) (x : Option DmaRun) : (m.setDmaRun ch x).mcores = m.mcores := rfl
@[simp] theorem Mod.setDmaRun_harts (ch : Nat) (x : Option DmaRun) : (m.setDmaRun ch x).harts = m.harts := rfl
@[simp] theorem Mod.setDmaRun_tlb (ch : Nat) (x : Option DmaRun) : (m.setDmaRun ch x).tlb = m.tlb := rfl
@[simp] theorem Mod.setDmaRun_seqs (ch : Nat) (x : Option DmaRun) : (m.setDmaRun ch x).seqs = m.seqs := rfl
@[simp] theorem Mod.setDmaRun_dports (ch : Nat) (x : Option DmaRun) : (m.setDmaRun ch x).dports = m.dports := rfl
@[simp] theorem Mod.setDmaRun_pins (ch : Nat) (x : Option DmaRun) : (m.setDmaRun ch x).pins = m.pins := rfl
@[simp] theorem Mod.setDmaRun_rings (ch : Nat) (x : Option DmaRun) : (m.setDmaRun ch x).rings = m.rings := rfl
@[simp] theorem Mod.setDmaRun_sendBuf (ch : Nat) (x : Option DmaRun) : (m.setDmaRun ch x).sendBuf = m.sendBuf := rfl
@[simp] theorem Mod.setDmaRun_lqs (ch : Nat) (x : Option DmaRun) : (m.setDmaRun ch x).lqs = m.lqs := rfl
@[simp] theorem Mod.setDmaRun_lreqs (ch : Nat) (x : Option DmaRun) : (m.setDmaRun ch x).lreqs = m.lreqs := rfl
@[simp] theorem Mod.setDmaRun_nextReq (ch : Nat) (x : Option DmaRun) : (m.setDmaRun ch x).nextReq = m.nextReq := rfl
@[simp] theorem Mod.setDmaRun_lvs (ch : Nat) (x : Option DmaRun) : (m.setDmaRun ch x).lvs = m.lvs := rfl
@[simp] theorem Mod.setDmaRun_hvs (ch : Nat) (x : Option DmaRun) : (m.setDmaRun ch x).hvs = m.hvs := rfl
@[simp] theorem Mod.setDmaRun_meass (ch : Nat) (x : Option DmaRun) : (m.setDmaRun ch x).meass = m.meass := rfl
@[simp] theorem Mod.setDmaRun_plt (ch : Nat) (x : Option DmaRun) : (m.setDmaRun ch x).plt = m.plt := rfl
@[simp] theorem Mod.setDmaRun_waves (ch : Nat) (x : Option DmaRun) : (m.setDmaRun ch x).waves = m.waves := rfl
@[simp] theorem Mod.setDmaRun_ass (ch : Nat) (x : Option DmaRun) : (m.setDmaRun ch x).ass = m.ass := rfl
@[simp] theorem Mod.setDmaRun_acqs (ch : Nat) (x : Option DmaRun) : (m.setDmaRun ch x).acqs = m.acqs := rfl
@[simp] theorem Mod.setDmaRun_trg (ch : Nat) (x : Option DmaRun) : (m.setDmaRun ch x).trg = m.trg := rfl
@[simp] theorem Mod.setDmaRun_tim (ch : Nat) (x : Option DmaRun) : (m.setDmaRun ch x).tim = m.tim := rfl
@[simp] theorem Mod.setDmaRun_cal (ch : Nat) (x : Option DmaRun) : (m.setDmaRun ch x).cal = m.cal := rfl
@[simp] theorem Mod.setDmaRun_drc (ch : Nat) (x : Option DmaRun) : (m.setDmaRun ch x).drc = m.drc := rfl
@[simp] theorem Mod.setDmaRun_pair (ch : Nat) (x : Option DmaRun) : (m.setDmaRun ch x).pair = m.pair := rfl

/-! ### setMchk -/

@[simp] theorem Mod.setMchk_regs (source index : Nat) (b : Bool) : (m.setMchk source index b).regs = m.regs := rfl
@[simp] theorem Mod.setMchk_latch (source index : Nat) (b : Bool) : (m.setMchk source index b).latch = m.latch := rfl
@[simp] theorem Mod.setMchk_stage (source index : Nat) (b : Bool) : (m.setMchk source index b).stage = m.stage := rfl
@[simp] theorem Mod.setMchk_gddr (source index : Nat) (b : Bool) : (m.setMchk source index b).gddr = m.gddr := rfl
@[simp] theorem Mod.setMchk_gddrBad (source index : Nat) (b : Bool) : (m.setMchk source index b).gddrBad = m.gddrBad := rfl
@[simp] theorem Mod.setMchk_sram (source index : Nat) (b : Bool) : (m.setMchk source index b).sram = m.sram := rfl
@[simp] theorem Mod.setMchk_sramBad (source index : Nat) (b : Bool) : (m.setMchk source index b).sramBad = m.sramBad := rfl
@[simp] theorem Mod.setMchk_cmds (source index : Nat) (b : Bool) : (m.setMchk source index b).cmds = m.cmds := rfl
@[simp] theorem Mod.setMchk_outs (source index : Nat) (b : Bool) : (m.setMchk source index b).outs = m.outs := rfl
@[simp] theorem Mod.setMchk_flt (source index : Nat) (b : Bool) : (m.setMchk source index b).flt = m.flt := rfl
@[simp] theorem Mod.setMchk_sys (source index : Nat) (b : Bool) : (m.setMchk source index b).sys = m.sys := rfl
@[simp] theorem Mod.setMchk_queues (source index : Nat) (b : Bool) : (m.setMchk source index b).queues = m.queues := rfl
@[simp] theorem Mod.setMchk_cqs (source index : Nat) (b : Bool) : (m.setMchk source index b).cqs = m.cqs := rfl
@[simp] theorem Mod.setMchk_pcie (source index : Nat) (b : Bool) : (m.setMchk source index b).pcie = m.pcie := rfl
@[simp] theorem Mod.setMchk_scores (source index : Nat) (b : Bool) : (m.setMchk source index b).scores = m.scores := rfl
@[simp] theorem Mod.setMchk_mcores (source index : Nat) (b : Bool) : (m.setMchk source index b).mcores = m.mcores := rfl
@[simp] theorem Mod.setMchk_harts (source index : Nat) (b : Bool) : (m.setMchk source index b).harts = m.harts := rfl
@[simp] theorem Mod.setMchk_tlb (source index : Nat) (b : Bool) : (m.setMchk source index b).tlb = m.tlb := rfl
@[simp] theorem Mod.setMchk_seqs (source index : Nat) (b : Bool) : (m.setMchk source index b).seqs = m.seqs := rfl
@[simp] theorem Mod.setMchk_dports (source index : Nat) (b : Bool) : (m.setMchk source index b).dports = m.dports := rfl
@[simp] theorem Mod.setMchk_pins (source index : Nat) (b : Bool) : (m.setMchk source index b).pins = m.pins := rfl
@[simp] theorem Mod.setMchk_rings (source index : Nat) (b : Bool) : (m.setMchk source index b).rings = m.rings := rfl
@[simp] theorem Mod.setMchk_sendBuf (source index : Nat) (b : Bool) : (m.setMchk source index b).sendBuf = m.sendBuf := rfl
@[simp] theorem Mod.setMchk_lqs (source index : Nat) (b : Bool) : (m.setMchk source index b).lqs = m.lqs := rfl
@[simp] theorem Mod.setMchk_lreqs (source index : Nat) (b : Bool) : (m.setMchk source index b).lreqs = m.lreqs := rfl
@[simp] theorem Mod.setMchk_nextReq (source index : Nat) (b : Bool) : (m.setMchk source index b).nextReq = m.nextReq := rfl
@[simp] theorem Mod.setMchk_lvs (source index : Nat) (b : Bool) : (m.setMchk source index b).lvs = m.lvs := rfl
@[simp] theorem Mod.setMchk_hvs (source index : Nat) (b : Bool) : (m.setMchk source index b).hvs = m.hvs := rfl
@[simp] theorem Mod.setMchk_meass (source index : Nat) (b : Bool) : (m.setMchk source index b).meass = m.meass := rfl
@[simp] theorem Mod.setMchk_plt (source index : Nat) (b : Bool) : (m.setMchk source index b).plt = m.plt := rfl
@[simp] theorem Mod.setMchk_waves (source index : Nat) (b : Bool) : (m.setMchk source index b).waves = m.waves := rfl
@[simp] theorem Mod.setMchk_ass (source index : Nat) (b : Bool) : (m.setMchk source index b).ass = m.ass := rfl
@[simp] theorem Mod.setMchk_acqs (source index : Nat) (b : Bool) : (m.setMchk source index b).acqs = m.acqs := rfl
@[simp] theorem Mod.setMchk_trg (source index : Nat) (b : Bool) : (m.setMchk source index b).trg = m.trg := rfl
@[simp] theorem Mod.setMchk_tim (source index : Nat) (b : Bool) : (m.setMchk source index b).tim = m.tim := rfl
@[simp] theorem Mod.setMchk_cal (source index : Nat) (b : Bool) : (m.setMchk source index b).cal = m.cal := rfl
@[simp] theorem Mod.setMchk_drc (source index : Nat) (b : Bool) : (m.setMchk source index b).drc = m.drc := rfl
@[simp] theorem Mod.setMchk_dma (source index : Nat) (b : Bool) : (m.setMchk source index b).dma = m.dma := rfl
@[simp] theorem Mod.setMchk_pair (source index : Nat) (b : Bool) : (m.setMchk source index b).pair = m.pair := rfl

/-! ### setUnitDisabled -/

@[simp] theorem Mod.setUnitDisabled_regs (cls u : Nat) (b : Bool) : (m.setUnitDisabled cls u b).regs = m.regs := rfl
@[simp] theorem Mod.setUnitDisabled_latch (cls u : Nat) (b : Bool) : (m.setUnitDisabled cls u b).latch = m.latch := rfl
@[simp] theorem Mod.setUnitDisabled_stage (cls u : Nat) (b : Bool) : (m.setUnitDisabled cls u b).stage = m.stage := rfl
@[simp] theorem Mod.setUnitDisabled_gddr (cls u : Nat) (b : Bool) : (m.setUnitDisabled cls u b).gddr = m.gddr := rfl
@[simp] theorem Mod.setUnitDisabled_gddrBad (cls u : Nat) (b : Bool) : (m.setUnitDisabled cls u b).gddrBad = m.gddrBad := rfl
@[simp] theorem Mod.setUnitDisabled_sram (cls u : Nat) (b : Bool) : (m.setUnitDisabled cls u b).sram = m.sram := rfl
@[simp] theorem Mod.setUnitDisabled_sramBad (cls u : Nat) (b : Bool) : (m.setUnitDisabled cls u b).sramBad = m.sramBad := rfl
@[simp] theorem Mod.setUnitDisabled_cmds (cls u : Nat) (b : Bool) : (m.setUnitDisabled cls u b).cmds = m.cmds := rfl
@[simp] theorem Mod.setUnitDisabled_outs (cls u : Nat) (b : Bool) : (m.setUnitDisabled cls u b).outs = m.outs := rfl
@[simp] theorem Mod.setUnitDisabled_flt (cls u : Nat) (b : Bool) : (m.setUnitDisabled cls u b).flt = m.flt := rfl
@[simp] theorem Mod.setUnitDisabled_sys (cls u : Nat) (b : Bool) : (m.setUnitDisabled cls u b).sys = m.sys := rfl
@[simp] theorem Mod.setUnitDisabled_queues (cls u : Nat) (b : Bool) : (m.setUnitDisabled cls u b).queues = m.queues := rfl
@[simp] theorem Mod.setUnitDisabled_cqs (cls u : Nat) (b : Bool) : (m.setUnitDisabled cls u b).cqs = m.cqs := rfl
@[simp] theorem Mod.setUnitDisabled_pcie (cls u : Nat) (b : Bool) : (m.setUnitDisabled cls u b).pcie = m.pcie := rfl
@[simp] theorem Mod.setUnitDisabled_scores (cls u : Nat) (b : Bool) : (m.setUnitDisabled cls u b).scores = m.scores := rfl
@[simp] theorem Mod.setUnitDisabled_mcores (cls u : Nat) (b : Bool) : (m.setUnitDisabled cls u b).mcores = m.mcores := rfl
@[simp] theorem Mod.setUnitDisabled_harts (cls u : Nat) (b : Bool) : (m.setUnitDisabled cls u b).harts = m.harts := rfl
@[simp] theorem Mod.setUnitDisabled_tlb (cls u : Nat) (b : Bool) : (m.setUnitDisabled cls u b).tlb = m.tlb := rfl
@[simp] theorem Mod.setUnitDisabled_seqs (cls u : Nat) (b : Bool) : (m.setUnitDisabled cls u b).seqs = m.seqs := rfl
@[simp] theorem Mod.setUnitDisabled_dports (cls u : Nat) (b : Bool) : (m.setUnitDisabled cls u b).dports = m.dports := rfl
@[simp] theorem Mod.setUnitDisabled_pins (cls u : Nat) (b : Bool) : (m.setUnitDisabled cls u b).pins = m.pins := rfl
@[simp] theorem Mod.setUnitDisabled_rings (cls u : Nat) (b : Bool) : (m.setUnitDisabled cls u b).rings = m.rings := rfl
@[simp] theorem Mod.setUnitDisabled_sendBuf (cls u : Nat) (b : Bool) : (m.setUnitDisabled cls u b).sendBuf = m.sendBuf := rfl
@[simp] theorem Mod.setUnitDisabled_lqs (cls u : Nat) (b : Bool) : (m.setUnitDisabled cls u b).lqs = m.lqs := rfl
@[simp] theorem Mod.setUnitDisabled_lreqs (cls u : Nat) (b : Bool) : (m.setUnitDisabled cls u b).lreqs = m.lreqs := rfl
@[simp] theorem Mod.setUnitDisabled_nextReq (cls u : Nat) (b : Bool) : (m.setUnitDisabled cls u b).nextReq = m.nextReq := rfl
@[simp] theorem Mod.setUnitDisabled_lvs (cls u : Nat) (b : Bool) : (m.setUnitDisabled cls u b).lvs = m.lvs := rfl
@[simp] theorem Mod.setUnitDisabled_hvs (cls u : Nat) (b : Bool) : (m.setUnitDisabled cls u b).hvs = m.hvs := rfl
@[simp] theorem Mod.setUnitDisabled_meass (cls u : Nat) (b : Bool) : (m.setUnitDisabled cls u b).meass = m.meass := rfl
@[simp] theorem Mod.setUnitDisabled_plt (cls u : Nat) (b : Bool) : (m.setUnitDisabled cls u b).plt = m.plt := rfl
@[simp] theorem Mod.setUnitDisabled_waves (cls u : Nat) (b : Bool) : (m.setUnitDisabled cls u b).waves = m.waves := rfl
@[simp] theorem Mod.setUnitDisabled_ass (cls u : Nat) (b : Bool) : (m.setUnitDisabled cls u b).ass = m.ass := rfl
@[simp] theorem Mod.setUnitDisabled_acqs (cls u : Nat) (b : Bool) : (m.setUnitDisabled cls u b).acqs = m.acqs := rfl
@[simp] theorem Mod.setUnitDisabled_trg (cls u : Nat) (b : Bool) : (m.setUnitDisabled cls u b).trg = m.trg := rfl
@[simp] theorem Mod.setUnitDisabled_tim (cls u : Nat) (b : Bool) : (m.setUnitDisabled cls u b).tim = m.tim := rfl
@[simp] theorem Mod.setUnitDisabled_cal (cls u : Nat) (b : Bool) : (m.setUnitDisabled cls u b).cal = m.cal := rfl
@[simp] theorem Mod.setUnitDisabled_drc (cls u : Nat) (b : Bool) : (m.setUnitDisabled cls u b).drc = m.drc := rfl
@[simp] theorem Mod.setUnitDisabled_dma (cls u : Nat) (b : Bool) : (m.setUnitDisabled cls u b).dma = m.dma := rfl
@[simp] theorem Mod.setUnitDisabled_pair (cls u : Nat) (b : Bool) : (m.setUnitDisabled cls u b).pair = m.pair := rfl

/-! ### setLq -/

@[simp] theorem Mod.setLq_regs (q : Nat) (x : Lq) : (m.setLq q x).regs = m.regs := rfl
@[simp] theorem Mod.setLq_latch (q : Nat) (x : Lq) : (m.setLq q x).latch = m.latch := rfl
@[simp] theorem Mod.setLq_stage (q : Nat) (x : Lq) : (m.setLq q x).stage = m.stage := rfl
@[simp] theorem Mod.setLq_gddr (q : Nat) (x : Lq) : (m.setLq q x).gddr = m.gddr := rfl
@[simp] theorem Mod.setLq_gddrBad (q : Nat) (x : Lq) : (m.setLq q x).gddrBad = m.gddrBad := rfl
@[simp] theorem Mod.setLq_sram (q : Nat) (x : Lq) : (m.setLq q x).sram = m.sram := rfl
@[simp] theorem Mod.setLq_sramBad (q : Nat) (x : Lq) : (m.setLq q x).sramBad = m.sramBad := rfl
@[simp] theorem Mod.setLq_cmds (q : Nat) (x : Lq) : (m.setLq q x).cmds = m.cmds := rfl
@[simp] theorem Mod.setLq_outs (q : Nat) (x : Lq) : (m.setLq q x).outs = m.outs := rfl
@[simp] theorem Mod.setLq_flt (q : Nat) (x : Lq) : (m.setLq q x).flt = m.flt := rfl
@[simp] theorem Mod.setLq_sys (q : Nat) (x : Lq) : (m.setLq q x).sys = m.sys := rfl
@[simp] theorem Mod.setLq_queues (q : Nat) (x : Lq) : (m.setLq q x).queues = m.queues := rfl
@[simp] theorem Mod.setLq_cqs (q : Nat) (x : Lq) : (m.setLq q x).cqs = m.cqs := rfl
@[simp] theorem Mod.setLq_pcie (q : Nat) (x : Lq) : (m.setLq q x).pcie = m.pcie := rfl
@[simp] theorem Mod.setLq_hat (q : Nat) (x : Lq) : (m.setLq q x).hat = m.hat := rfl
@[simp] theorem Mod.setLq_scores (q : Nat) (x : Lq) : (m.setLq q x).scores = m.scores := rfl
@[simp] theorem Mod.setLq_mcores (q : Nat) (x : Lq) : (m.setLq q x).mcores = m.mcores := rfl
@[simp] theorem Mod.setLq_harts (q : Nat) (x : Lq) : (m.setLq q x).harts = m.harts := rfl
@[simp] theorem Mod.setLq_tlb (q : Nat) (x : Lq) : (m.setLq q x).tlb = m.tlb := rfl
@[simp] theorem Mod.setLq_seqs (q : Nat) (x : Lq) : (m.setLq q x).seqs = m.seqs := rfl
@[simp] theorem Mod.setLq_dports (q : Nat) (x : Lq) : (m.setLq q x).dports = m.dports := rfl
@[simp] theorem Mod.setLq_pins (q : Nat) (x : Lq) : (m.setLq q x).pins = m.pins := rfl
@[simp] theorem Mod.setLq_rings (q : Nat) (x : Lq) : (m.setLq q x).rings = m.rings := rfl
@[simp] theorem Mod.setLq_sendBuf (q : Nat) (x : Lq) : (m.setLq q x).sendBuf = m.sendBuf := rfl
@[simp] theorem Mod.setLq_lreqs (q : Nat) (x : Lq) : (m.setLq q x).lreqs = m.lreqs := rfl
@[simp] theorem Mod.setLq_nextReq (q : Nat) (x : Lq) : (m.setLq q x).nextReq = m.nextReq := rfl
@[simp] theorem Mod.setLq_lvs (q : Nat) (x : Lq) : (m.setLq q x).lvs = m.lvs := rfl
@[simp] theorem Mod.setLq_hvs (q : Nat) (x : Lq) : (m.setLq q x).hvs = m.hvs := rfl
@[simp] theorem Mod.setLq_meass (q : Nat) (x : Lq) : (m.setLq q x).meass = m.meass := rfl
@[simp] theorem Mod.setLq_plt (q : Nat) (x : Lq) : (m.setLq q x).plt = m.plt := rfl
@[simp] theorem Mod.setLq_waves (q : Nat) (x : Lq) : (m.setLq q x).waves = m.waves := rfl
@[simp] theorem Mod.setLq_ass (q : Nat) (x : Lq) : (m.setLq q x).ass = m.ass := rfl
@[simp] theorem Mod.setLq_acqs (q : Nat) (x : Lq) : (m.setLq q x).acqs = m.acqs := rfl
@[simp] theorem Mod.setLq_trg (q : Nat) (x : Lq) : (m.setLq q x).trg = m.trg := rfl
@[simp] theorem Mod.setLq_tim (q : Nat) (x : Lq) : (m.setLq q x).tim = m.tim := rfl
@[simp] theorem Mod.setLq_cal (q : Nat) (x : Lq) : (m.setLq q x).cal = m.cal := rfl
@[simp] theorem Mod.setLq_drc (q : Nat) (x : Lq) : (m.setLq q x).drc = m.drc := rfl
@[simp] theorem Mod.setLq_dma (q : Nat) (x : Lq) : (m.setLq q x).dma = m.dma := rfl
@[simp] theorem Mod.setLq_pair (q : Nat) (x : Lq) : (m.setLq q x).pair = m.pair := rfl

/-! ### setLreq -/

@[simp] theorem Mod.setLreq_regs (r : Nat) (x : Option LReq) : (m.setLreq r x).regs = m.regs := rfl
@[simp] theorem Mod.setLreq_latch (r : Nat) (x : Option LReq) : (m.setLreq r x).latch = m.latch := rfl
@[simp] theorem Mod.setLreq_stage (r : Nat) (x : Option LReq) : (m.setLreq r x).stage = m.stage := rfl
@[simp] theorem Mod.setLreq_gddr (r : Nat) (x : Option LReq) : (m.setLreq r x).gddr = m.gddr := rfl
@[simp] theorem Mod.setLreq_gddrBad (r : Nat) (x : Option LReq) : (m.setLreq r x).gddrBad = m.gddrBad := rfl
@[simp] theorem Mod.setLreq_sram (r : Nat) (x : Option LReq) : (m.setLreq r x).sram = m.sram := rfl
@[simp] theorem Mod.setLreq_sramBad (r : Nat) (x : Option LReq) : (m.setLreq r x).sramBad = m.sramBad := rfl
@[simp] theorem Mod.setLreq_cmds (r : Nat) (x : Option LReq) : (m.setLreq r x).cmds = m.cmds := rfl
@[simp] theorem Mod.setLreq_outs (r : Nat) (x : Option LReq) : (m.setLreq r x).outs = m.outs := rfl
@[simp] theorem Mod.setLreq_flt (r : Nat) (x : Option LReq) : (m.setLreq r x).flt = m.flt := rfl
@[simp] theorem Mod.setLreq_sys (r : Nat) (x : Option LReq) : (m.setLreq r x).sys = m.sys := rfl
@[simp] theorem Mod.setLreq_queues (r : Nat) (x : Option LReq) : (m.setLreq r x).queues = m.queues := rfl
@[simp] theorem Mod.setLreq_cqs (r : Nat) (x : Option LReq) : (m.setLreq r x).cqs = m.cqs := rfl
@[simp] theorem Mod.setLreq_pcie (r : Nat) (x : Option LReq) : (m.setLreq r x).pcie = m.pcie := rfl
@[simp] theorem Mod.setLreq_hat (r : Nat) (x : Option LReq) : (m.setLreq r x).hat = m.hat := rfl
@[simp] theorem Mod.setLreq_scores (r : Nat) (x : Option LReq) : (m.setLreq r x).scores = m.scores := rfl
@[simp] theorem Mod.setLreq_mcores (r : Nat) (x : Option LReq) : (m.setLreq r x).mcores = m.mcores := rfl
@[simp] theorem Mod.setLreq_harts (r : Nat) (x : Option LReq) : (m.setLreq r x).harts = m.harts := rfl
@[simp] theorem Mod.setLreq_tlb (r : Nat) (x : Option LReq) : (m.setLreq r x).tlb = m.tlb := rfl
@[simp] theorem Mod.setLreq_seqs (r : Nat) (x : Option LReq) : (m.setLreq r x).seqs = m.seqs := rfl
@[simp] theorem Mod.setLreq_dports (r : Nat) (x : Option LReq) : (m.setLreq r x).dports = m.dports := rfl
@[simp] theorem Mod.setLreq_pins (r : Nat) (x : Option LReq) : (m.setLreq r x).pins = m.pins := rfl
@[simp] theorem Mod.setLreq_rings (r : Nat) (x : Option LReq) : (m.setLreq r x).rings = m.rings := rfl
@[simp] theorem Mod.setLreq_sendBuf (r : Nat) (x : Option LReq) : (m.setLreq r x).sendBuf = m.sendBuf := rfl
@[simp] theorem Mod.setLreq_lqs (r : Nat) (x : Option LReq) : (m.setLreq r x).lqs = m.lqs := rfl
@[simp] theorem Mod.setLreq_nextReq (r : Nat) (x : Option LReq) : (m.setLreq r x).nextReq = m.nextReq := rfl
@[simp] theorem Mod.setLreq_lvs (r : Nat) (x : Option LReq) : (m.setLreq r x).lvs = m.lvs := rfl
@[simp] theorem Mod.setLreq_hvs (r : Nat) (x : Option LReq) : (m.setLreq r x).hvs = m.hvs := rfl
@[simp] theorem Mod.setLreq_meass (r : Nat) (x : Option LReq) : (m.setLreq r x).meass = m.meass := rfl
@[simp] theorem Mod.setLreq_plt (r : Nat) (x : Option LReq) : (m.setLreq r x).plt = m.plt := rfl
@[simp] theorem Mod.setLreq_waves (r : Nat) (x : Option LReq) : (m.setLreq r x).waves = m.waves := rfl
@[simp] theorem Mod.setLreq_ass (r : Nat) (x : Option LReq) : (m.setLreq r x).ass = m.ass := rfl
@[simp] theorem Mod.setLreq_acqs (r : Nat) (x : Option LReq) : (m.setLreq r x).acqs = m.acqs := rfl
@[simp] theorem Mod.setLreq_trg (r : Nat) (x : Option LReq) : (m.setLreq r x).trg = m.trg := rfl
@[simp] theorem Mod.setLreq_tim (r : Nat) (x : Option LReq) : (m.setLreq r x).tim = m.tim := rfl
@[simp] theorem Mod.setLreq_cal (r : Nat) (x : Option LReq) : (m.setLreq r x).cal = m.cal := rfl
@[simp] theorem Mod.setLreq_drc (r : Nat) (x : Option LReq) : (m.setLreq r x).drc = m.drc := rfl
@[simp] theorem Mod.setLreq_dma (r : Nat) (x : Option LReq) : (m.setLreq r x).dma = m.dma := rfl
@[simp] theorem Mod.setLreq_pair (r : Nat) (x : Option LReq) : (m.setLreq r x).pair = m.pair := rfl

/-! ### setLv -/

@[simp] theorem Mod.setLv_regs (ch : Nat) (x : LvLive) : (m.setLv ch x).regs = m.regs := rfl
@[simp] theorem Mod.setLv_latch (ch : Nat) (x : LvLive) : (m.setLv ch x).latch = m.latch := rfl
@[simp] theorem Mod.setLv_stage (ch : Nat) (x : LvLive) : (m.setLv ch x).stage = m.stage := rfl
@[simp] theorem Mod.setLv_gddr (ch : Nat) (x : LvLive) : (m.setLv ch x).gddr = m.gddr := rfl
@[simp] theorem Mod.setLv_gddrBad (ch : Nat) (x : LvLive) : (m.setLv ch x).gddrBad = m.gddrBad := rfl
@[simp] theorem Mod.setLv_sram (ch : Nat) (x : LvLive) : (m.setLv ch x).sram = m.sram := rfl
@[simp] theorem Mod.setLv_sramBad (ch : Nat) (x : LvLive) : (m.setLv ch x).sramBad = m.sramBad := rfl
@[simp] theorem Mod.setLv_cmds (ch : Nat) (x : LvLive) : (m.setLv ch x).cmds = m.cmds := rfl
@[simp] theorem Mod.setLv_outs (ch : Nat) (x : LvLive) : (m.setLv ch x).outs = m.outs := rfl
@[simp] theorem Mod.setLv_flt (ch : Nat) (x : LvLive) : (m.setLv ch x).flt = m.flt := rfl
@[simp] theorem Mod.setLv_sys (ch : Nat) (x : LvLive) : (m.setLv ch x).sys = m.sys := rfl
@[simp] theorem Mod.setLv_queues (ch : Nat) (x : LvLive) : (m.setLv ch x).queues = m.queues := rfl
@[simp] theorem Mod.setLv_cqs (ch : Nat) (x : LvLive) : (m.setLv ch x).cqs = m.cqs := rfl
@[simp] theorem Mod.setLv_pcie (ch : Nat) (x : LvLive) : (m.setLv ch x).pcie = m.pcie := rfl
@[simp] theorem Mod.setLv_hat (ch : Nat) (x : LvLive) : (m.setLv ch x).hat = m.hat := rfl
@[simp] theorem Mod.setLv_scores (ch : Nat) (x : LvLive) : (m.setLv ch x).scores = m.scores := rfl
@[simp] theorem Mod.setLv_mcores (ch : Nat) (x : LvLive) : (m.setLv ch x).mcores = m.mcores := rfl
@[simp] theorem Mod.setLv_harts (ch : Nat) (x : LvLive) : (m.setLv ch x).harts = m.harts := rfl
@[simp] theorem Mod.setLv_tlb (ch : Nat) (x : LvLive) : (m.setLv ch x).tlb = m.tlb := rfl
@[simp] theorem Mod.setLv_seqs (ch : Nat) (x : LvLive) : (m.setLv ch x).seqs = m.seqs := rfl
@[simp] theorem Mod.setLv_dports (ch : Nat) (x : LvLive) : (m.setLv ch x).dports = m.dports := rfl
@[simp] theorem Mod.setLv_pins (ch : Nat) (x : LvLive) : (m.setLv ch x).pins = m.pins := rfl
@[simp] theorem Mod.setLv_rings (ch : Nat) (x : LvLive) : (m.setLv ch x).rings = m.rings := rfl
@[simp] theorem Mod.setLv_sendBuf (ch : Nat) (x : LvLive) : (m.setLv ch x).sendBuf = m.sendBuf := rfl
@[simp] theorem Mod.setLv_lqs (ch : Nat) (x : LvLive) : (m.setLv ch x).lqs = m.lqs := rfl
@[simp] theorem Mod.setLv_lreqs (ch : Nat) (x : LvLive) : (m.setLv ch x).lreqs = m.lreqs := rfl
@[simp] theorem Mod.setLv_nextReq (ch : Nat) (x : LvLive) : (m.setLv ch x).nextReq = m.nextReq := rfl
@[simp] theorem Mod.setLv_hvs (ch : Nat) (x : LvLive) : (m.setLv ch x).hvs = m.hvs := rfl
@[simp] theorem Mod.setLv_meass (ch : Nat) (x : LvLive) : (m.setLv ch x).meass = m.meass := rfl
@[simp] theorem Mod.setLv_plt (ch : Nat) (x : LvLive) : (m.setLv ch x).plt = m.plt := rfl
@[simp] theorem Mod.setLv_waves (ch : Nat) (x : LvLive) : (m.setLv ch x).waves = m.waves := rfl
@[simp] theorem Mod.setLv_ass (ch : Nat) (x : LvLive) : (m.setLv ch x).ass = m.ass := rfl
@[simp] theorem Mod.setLv_acqs (ch : Nat) (x : LvLive) : (m.setLv ch x).acqs = m.acqs := rfl
@[simp] theorem Mod.setLv_trg (ch : Nat) (x : LvLive) : (m.setLv ch x).trg = m.trg := rfl
@[simp] theorem Mod.setLv_tim (ch : Nat) (x : LvLive) : (m.setLv ch x).tim = m.tim := rfl
@[simp] theorem Mod.setLv_cal (ch : Nat) (x : LvLive) : (m.setLv ch x).cal = m.cal := rfl
@[simp] theorem Mod.setLv_drc (ch : Nat) (x : LvLive) : (m.setLv ch x).drc = m.drc := rfl
@[simp] theorem Mod.setLv_dma (ch : Nat) (x : LvLive) : (m.setLv ch x).dma = m.dma := rfl
@[simp] theorem Mod.setLv_pair (ch : Nat) (x : LvLive) : (m.setLv ch x).pair = m.pair := rfl

/-! ### setHv -/

@[simp] theorem Mod.setHv_regs (h : Nat) (x : HvLive) : (m.setHv h x).regs = m.regs := rfl
@[simp] theorem Mod.setHv_latch (h : Nat) (x : HvLive) : (m.setHv h x).latch = m.latch := rfl
@[simp] theorem Mod.setHv_stage (h : Nat) (x : HvLive) : (m.setHv h x).stage = m.stage := rfl
@[simp] theorem Mod.setHv_gddr (h : Nat) (x : HvLive) : (m.setHv h x).gddr = m.gddr := rfl
@[simp] theorem Mod.setHv_gddrBad (h : Nat) (x : HvLive) : (m.setHv h x).gddrBad = m.gddrBad := rfl
@[simp] theorem Mod.setHv_sram (h : Nat) (x : HvLive) : (m.setHv h x).sram = m.sram := rfl
@[simp] theorem Mod.setHv_sramBad (h : Nat) (x : HvLive) : (m.setHv h x).sramBad = m.sramBad := rfl
@[simp] theorem Mod.setHv_cmds (h : Nat) (x : HvLive) : (m.setHv h x).cmds = m.cmds := rfl
@[simp] theorem Mod.setHv_outs (h : Nat) (x : HvLive) : (m.setHv h x).outs = m.outs := rfl
@[simp] theorem Mod.setHv_flt (h : Nat) (x : HvLive) : (m.setHv h x).flt = m.flt := rfl
@[simp] theorem Mod.setHv_sys (h : Nat) (x : HvLive) : (m.setHv h x).sys = m.sys := rfl
@[simp] theorem Mod.setHv_queues (h : Nat) (x : HvLive) : (m.setHv h x).queues = m.queues := rfl
@[simp] theorem Mod.setHv_cqs (h : Nat) (x : HvLive) : (m.setHv h x).cqs = m.cqs := rfl
@[simp] theorem Mod.setHv_pcie (h : Nat) (x : HvLive) : (m.setHv h x).pcie = m.pcie := rfl
@[simp] theorem Mod.setHv_hat (h : Nat) (x : HvLive) : (m.setHv h x).hat = m.hat := rfl
@[simp] theorem Mod.setHv_scores (h : Nat) (x : HvLive) : (m.setHv h x).scores = m.scores := rfl
@[simp] theorem Mod.setHv_mcores (h : Nat) (x : HvLive) : (m.setHv h x).mcores = m.mcores := rfl
@[simp] theorem Mod.setHv_harts (h : Nat) (x : HvLive) : (m.setHv h x).harts = m.harts := rfl
@[simp] theorem Mod.setHv_tlb (h : Nat) (x : HvLive) : (m.setHv h x).tlb = m.tlb := rfl
@[simp] theorem Mod.setHv_seqs (h : Nat) (x : HvLive) : (m.setHv h x).seqs = m.seqs := rfl
@[simp] theorem Mod.setHv_dports (h : Nat) (x : HvLive) : (m.setHv h x).dports = m.dports := rfl
@[simp] theorem Mod.setHv_pins (h : Nat) (x : HvLive) : (m.setHv h x).pins = m.pins := rfl
@[simp] theorem Mod.setHv_rings (h : Nat) (x : HvLive) : (m.setHv h x).rings = m.rings := rfl
@[simp] theorem Mod.setHv_sendBuf (h : Nat) (x : HvLive) : (m.setHv h x).sendBuf = m.sendBuf := rfl
@[simp] theorem Mod.setHv_lqs (h : Nat) (x : HvLive) : (m.setHv h x).lqs = m.lqs := rfl
@[simp] theorem Mod.setHv_lreqs (h : Nat) (x : HvLive) : (m.setHv h x).lreqs = m.lreqs := rfl
@[simp] theorem Mod.setHv_nextReq (h : Nat) (x : HvLive) : (m.setHv h x).nextReq = m.nextReq := rfl
@[simp] theorem Mod.setHv_lvs (h : Nat) (x : HvLive) : (m.setHv h x).lvs = m.lvs := rfl
@[simp] theorem Mod.setHv_meass (h : Nat) (x : HvLive) : (m.setHv h x).meass = m.meass := rfl
@[simp] theorem Mod.setHv_plt (h : Nat) (x : HvLive) : (m.setHv h x).plt = m.plt := rfl
@[simp] theorem Mod.setHv_waves (h : Nat) (x : HvLive) : (m.setHv h x).waves = m.waves := rfl
@[simp] theorem Mod.setHv_ass (h : Nat) (x : HvLive) : (m.setHv h x).ass = m.ass := rfl
@[simp] theorem Mod.setHv_acqs (h : Nat) (x : HvLive) : (m.setHv h x).acqs = m.acqs := rfl
@[simp] theorem Mod.setHv_trg (h : Nat) (x : HvLive) : (m.setHv h x).trg = m.trg := rfl
@[simp] theorem Mod.setHv_tim (h : Nat) (x : HvLive) : (m.setHv h x).tim = m.tim := rfl
@[simp] theorem Mod.setHv_cal (h : Nat) (x : HvLive) : (m.setHv h x).cal = m.cal := rfl
@[simp] theorem Mod.setHv_drc (h : Nat) (x : HvLive) : (m.setHv h x).drc = m.drc := rfl
@[simp] theorem Mod.setHv_dma (h : Nat) (x : HvLive) : (m.setHv h x).dma = m.dma := rfl
@[simp] theorem Mod.setHv_pair (h : Nat) (x : HvLive) : (m.setHv h x).pair = m.pair := rfl

/-! ### setMeas -/

@[simp] theorem Mod.setMeas_regs (c : Nat) (x : Option Meas) : (m.setMeas c x).regs = m.regs := rfl
@[simp] theorem Mod.setMeas_latch (c : Nat) (x : Option Meas) : (m.setMeas c x).latch = m.latch := rfl
@[simp] theorem Mod.setMeas_stage (c : Nat) (x : Option Meas) : (m.setMeas c x).stage = m.stage := rfl
@[simp] theorem Mod.setMeas_gddr (c : Nat) (x : Option Meas) : (m.setMeas c x).gddr = m.gddr := rfl
@[simp] theorem Mod.setMeas_gddrBad (c : Nat) (x : Option Meas) : (m.setMeas c x).gddrBad = m.gddrBad := rfl
@[simp] theorem Mod.setMeas_sram (c : Nat) (x : Option Meas) : (m.setMeas c x).sram = m.sram := rfl
@[simp] theorem Mod.setMeas_sramBad (c : Nat) (x : Option Meas) : (m.setMeas c x).sramBad = m.sramBad := rfl
@[simp] theorem Mod.setMeas_cmds (c : Nat) (x : Option Meas) : (m.setMeas c x).cmds = m.cmds := rfl
@[simp] theorem Mod.setMeas_outs (c : Nat) (x : Option Meas) : (m.setMeas c x).outs = m.outs := rfl
@[simp] theorem Mod.setMeas_flt (c : Nat) (x : Option Meas) : (m.setMeas c x).flt = m.flt := rfl
@[simp] theorem Mod.setMeas_sys (c : Nat) (x : Option Meas) : (m.setMeas c x).sys = m.sys := rfl
@[simp] theorem Mod.setMeas_queues (c : Nat) (x : Option Meas) : (m.setMeas c x).queues = m.queues := rfl
@[simp] theorem Mod.setMeas_cqs (c : Nat) (x : Option Meas) : (m.setMeas c x).cqs = m.cqs := rfl
@[simp] theorem Mod.setMeas_pcie (c : Nat) (x : Option Meas) : (m.setMeas c x).pcie = m.pcie := rfl
@[simp] theorem Mod.setMeas_hat (c : Nat) (x : Option Meas) : (m.setMeas c x).hat = m.hat := rfl
@[simp] theorem Mod.setMeas_scores (c : Nat) (x : Option Meas) : (m.setMeas c x).scores = m.scores := rfl
@[simp] theorem Mod.setMeas_mcores (c : Nat) (x : Option Meas) : (m.setMeas c x).mcores = m.mcores := rfl
@[simp] theorem Mod.setMeas_harts (c : Nat) (x : Option Meas) : (m.setMeas c x).harts = m.harts := rfl
@[simp] theorem Mod.setMeas_tlb (c : Nat) (x : Option Meas) : (m.setMeas c x).tlb = m.tlb := rfl
@[simp] theorem Mod.setMeas_seqs (c : Nat) (x : Option Meas) : (m.setMeas c x).seqs = m.seqs := rfl
@[simp] theorem Mod.setMeas_dports (c : Nat) (x : Option Meas) : (m.setMeas c x).dports = m.dports := rfl
@[simp] theorem Mod.setMeas_pins (c : Nat) (x : Option Meas) : (m.setMeas c x).pins = m.pins := rfl
@[simp] theorem Mod.setMeas_rings (c : Nat) (x : Option Meas) : (m.setMeas c x).rings = m.rings := rfl
@[simp] theorem Mod.setMeas_sendBuf (c : Nat) (x : Option Meas) : (m.setMeas c x).sendBuf = m.sendBuf := rfl
@[simp] theorem Mod.setMeas_lqs (c : Nat) (x : Option Meas) : (m.setMeas c x).lqs = m.lqs := rfl
@[simp] theorem Mod.setMeas_lreqs (c : Nat) (x : Option Meas) : (m.setMeas c x).lreqs = m.lreqs := rfl
@[simp] theorem Mod.setMeas_nextReq (c : Nat) (x : Option Meas) : (m.setMeas c x).nextReq = m.nextReq := rfl
@[simp] theorem Mod.setMeas_lvs (c : Nat) (x : Option Meas) : (m.setMeas c x).lvs = m.lvs := rfl
@[simp] theorem Mod.setMeas_hvs (c : Nat) (x : Option Meas) : (m.setMeas c x).hvs = m.hvs := rfl
@[simp] theorem Mod.setMeas_plt (c : Nat) (x : Option Meas) : (m.setMeas c x).plt = m.plt := rfl
@[simp] theorem Mod.setMeas_waves (c : Nat) (x : Option Meas) : (m.setMeas c x).waves = m.waves := rfl
@[simp] theorem Mod.setMeas_ass (c : Nat) (x : Option Meas) : (m.setMeas c x).ass = m.ass := rfl
@[simp] theorem Mod.setMeas_acqs (c : Nat) (x : Option Meas) : (m.setMeas c x).acqs = m.acqs := rfl
@[simp] theorem Mod.setMeas_trg (c : Nat) (x : Option Meas) : (m.setMeas c x).trg = m.trg := rfl
@[simp] theorem Mod.setMeas_tim (c : Nat) (x : Option Meas) : (m.setMeas c x).tim = m.tim := rfl
@[simp] theorem Mod.setMeas_cal (c : Nat) (x : Option Meas) : (m.setMeas c x).cal = m.cal := rfl
@[simp] theorem Mod.setMeas_drc (c : Nat) (x : Option Meas) : (m.setMeas c x).drc = m.drc := rfl
@[simp] theorem Mod.setMeas_dma (c : Nat) (x : Option Meas) : (m.setMeas c x).dma = m.dma := rfl
@[simp] theorem Mod.setMeas_pair (c : Nat) (x : Option Meas) : (m.setMeas c x).pair = m.pair := rfl

/-! ### The trim's ramp (R302) -/

/-- A step of the ramp changes the trim in force and nothing else. -/
theorem Mod.trimRamp_eq : m.trimRamp = m.setTim { m.tim with trim := m.trimRamp.tim.trim } := by
  simp only [Mod.trimRamp]
  split <;> rfl

@[simp] theorem Mod.trimRamp_regs : m.trimRamp.regs = m.regs := by rw [Mod.trimRamp_eq]; rfl
@[simp] theorem Mod.trimRamp_gddr : m.trimRamp.gddr = m.gddr := by rw [Mod.trimRamp_eq]; rfl
@[simp] theorem Mod.trimRamp_sram : m.trimRamp.sram = m.sram := by rw [Mod.trimRamp_eq]; rfl
@[simp] theorem Mod.trimRamp_outs : m.trimRamp.outs = m.outs := by rw [Mod.trimRamp_eq]; rfl
@[simp] theorem Mod.trimRamp_doms : m.trimRamp.tim.doms = m.tim.doms := by rw [Mod.trimRamp_eq]; rfl

end Sys2Proof.Machine
end

