-- ==== Sys2Proof/Laws/Regs.lean ====
section
/-!
SUPPORT. The laws of the register file, of the two memories and of the maps of the module, and the frames of `Safety`.
-/

namespace Sys2Proof.Machine

variable (m : Mod)

/-! ### The register file -/

theorem Mod.reg_setReg (off o : Nat) (v : Word) : (m.setReg off v).reg o = if o = off then v else m.reg o :=
  SMap.get_set resetOf m.regs off o v

@[simp] theorem Mod.reg_setReg_self (off : Nat) (v : Word) : (m.setReg off v).reg off = v := by simp [Mod.reg_setReg]

theorem Mod.reg_setReg_ne (off o : Nat) (v : Word) (h : o ≠ off) : (m.setReg off v).reg o = m.reg o := by
  simp [Mod.reg_setReg, h]

theorem Mod.reg_wr (off o : Nat) (f : Fld) (v : Nat) :
    (m.wr off f v).reg o = if o = off then fput f v (m.reg off) else m.reg o := Mod.reg_setReg m off o _

theorem Mod.reg_wr_ne (off o : Nat) (f : Fld) (v : Nat) (h : o ≠ off) : (m.wr off f v).reg o = m.reg o :=
  Mod.reg_setReg_ne m off o _ h

theorem Mod.reg_mark_ne (off o : Nat) (f : Fld) (h : o ≠ off) : (m.mark off f).reg o = m.reg o := Mod.reg_wr_ne m off o f 1 h

theorem Mod.rd_wr_self (off : Nat) (f : Fld) (v : Nat) (h : f.lo + f.width ≤ 32) :
    (m.wr off f v).rd off f = v % 2 ^ f.width := by
  simp [Mod.rd, Mod.reg_wr, fget_fput f v _ h]

theorem Mod.rd_wr_field (off : Nat) (f g : Fld) (v : Nat) (h : f.lo + f.width ≤ g.lo ∨ g.lo + g.width ≤ f.lo) :
    (m.wr off g v).rd off f = m.rd off f := by
  simp [Mod.rd, Mod.reg_wr, fget_fput_ne f g v _ h]

theorem Mod.rd_wr_ne (off o : Nat) (f g : Fld) (v : Nat) (h : o ≠ off) : (m.wr off g v).rd o f = m.rd o f := by
  simp [Mod.rd, Mod.reg_wr_ne m off o g v h]

theorem Mod.flag_mark_self (off : Nat) (f : Fld) (h : f.lo < 32) (hw : f.width = 1) : (m.mark off f).flag off f = true := by
  have h1 := Mod.rd_wr_self m off f 1 (by omega)
  simp [Mod.flag, Mod.mark, h1, hw]

theorem Mod.flag_wr_one (off : Nat) (f : Fld) (h : f.lo < 32) (hw : f.width = 1) : (m.wr off f 1).flag off f = true :=
  Mod.flag_mark_self m off f h hw

theorem Mod.flag_wr_zero (off : Nat) (f : Fld) (h : f.lo + f.width ≤ 32) : (m.wr off f 0).flag off f = false := by
  simp [Mod.flag, Mod.rd_wr_self m off f 0 h]

theorem Mod.rd64_wr64 (off v : Nat) : (m.wr64 off v).rd64 off = v % 2 ^ 64 := by
  simp only [Mod.rd64, Mod.wr64, Mod.reg_setReg]
  have h : off ≠ off + 4 := by omega
  simp only [h, ↓reduceIte, BitVec.toNat_ofNat]
  omega

theorem Mod.reg_wr64_ne (off o v : Nat) (h1 : o ≠ off) (h2 : o ≠ off + 4) : (m.wr64 off v).reg o = m.reg o := by
  simp [Mod.wr64, Mod.reg_setReg, h1, h2]

/-- The register file keeps its canonical form under every write. -/
theorem Mod.setReg_wf (off : Nat) (v : Word) (h : SMap.wf resetOf m.regs = true) :
    SMap.wf resetOf (m.setReg off v).regs = true := SMap.wf_set _ _ _ _ h

/-! ### Memories -/

theorem memByte_set (mem : List Host.Cell) (a x : Nat) (b : Byte) :
    memByte (SMap.set byteDefault mem a b) x = if x = a then b else memByte mem x := SMap.get_set _ _ _ _ _

/-- A byte outside a write reads as before. -/
theorem memByte_memWrite_ne (mem : List Host.Cell) (bs : List Byte) (a x : Nat) (h : x < a ∨ a + bs.length ≤ x) :
    memByte (memWrite mem a bs) x = memByte mem x := by
  induction bs generalizing mem a with
  | nil => rfl
  | cons b t ih =>
    simp only [List.length_cons] at h
    rw [memWrite, ih _ _ (by omega), memByte_set]
    simp [show x ≠ a by omega]

/-- A byte of a write reads as written. -/
theorem memByte_memWrite (mem : List Host.Cell) (bs : List Byte) (a i : Nat) (h : i < bs.length) :
    memByte (memWrite mem a bs) (a + i) = bs[i] := by
  induction bs generalizing mem a i with
  | nil => simp at h
  | cons b t ih =>
    rw [memWrite]
    cases i with
    | zero => rw [memByte_memWrite_ne _ _ _ _ (by omega), memByte_set]; simp
    | succ k =>
      simp only [List.length_cons, Nat.add_lt_add_iff_right] at h
      have := ih (SMap.set byteDefault mem a b) (a + 1) k h
      rw [show a + (k + 1) = a + 1 + k by omega, this]
      simp

/-- What is written is what is read back. -/
theorem memRead_memWrite (mem : List Host.Cell) (bs : List Byte) (a : Nat) :
    memRead (memWrite mem a bs) a bs.length = bs := by
  induction bs generalizing mem a with
  | nil => rfl
  | cons b t ih =>
    have h0 : memByte (memWrite mem a (b :: t)) a = b := memByte_memWrite mem (b :: t) a 0 (by simp)
    simp only [List.length_cons, memRead, h0]
    rw [memWrite, ih]

/-- Writing keeps the canonical form of a memory. -/
theorem memWrite_wf (mem : List Host.Cell) (bs : List Byte) (a : Nat) (h : Memory.wf mem = true) :
    Memory.wf (memWrite mem a bs) = true := by
  induction bs generalizing mem a with
  | nil => exact h
  | cons b t ih => exact ih _ _ (SMap.wf_set _ _ _ _ h)

theorem Mod.gddrPut_wf (a : Nat) (bs : List Byte) (h : Memory.wf m.gddr = true) : Memory.wf (m.gddrPut a bs).gddr = true :=
  memWrite_wf _ _ _ h

theorem Mod.sramPut_wf (a : Nat) (bs : List Byte) (h : Memory.wf m.sram = true) : Memory.wf (m.sramPut a bs).sram = true :=
  memWrite_wf _ _ _ h

/-- The memories of the module after reset are in canonical form. -/
theorem reset_memory_wf : Memory.wf State.reset.m.gddr = true ∧ Memory.wf State.reset.m.sram = true := ⟨rfl, rfl⟩

/-! ### The maps of the module -/

@[simp] theorem Mod.queue_setQueue_self (q : Nat) (x : Queue) : (m.setQueue q x).queue q = x := SMap.get_set_self _ _ _ _
theorem Mod.queue_setQueue_ne (q p : Nat) (x : Queue) (h : p ≠ q) : (m.setQueue q x).queue p = m.queue p :=
  SMap.get_set_ne _ _ _ _ _ h
@[simp] theorem Mod.cq_setCq_self (c : Nat) (x : Cq) : (m.setCq c x).cq c = x := SMap.get_set_self _ _ _ _
@[simp] theorem Mod.inst_setInst_self (i : Nat) (x : Option Inst) : (m.setInst i x).inst i = x := SMap.get_set_self _ _ _ _
theorem Mod.inst_setInst_ne (i j : Nat) (x : Option Inst) (h : j ≠ i) : (m.setInst i x).inst j = m.inst j :=
  SMap.get_set_ne _ _ _ _ _ h
@[simp] theorem Mod.score_setScore_self (c : Nat) (x : SCore) : (m.setScore c x).score c = x := SMap.get_set_self _ _ _ _
@[simp] theorem Mod.mcore_setMcore_self (c : Nat) (x : MCore) : (m.setMcore c x).mcore c = x := SMap.get_set_self _ _ _ _
@[simp] theorem Mod.seq_setSeq_self (n : Nat) (x : Seq) : (m.setSeq n x).seq n = x := SMap.get_set_self _ _ _ _
theorem Mod.seq_setSeq_ne (n k : Nat) (x : Seq) (h : k ≠ n) : (m.setSeq n x).seq k = m.seq k := SMap.get_set_ne _ _ _ _ _ h
@[simp] theorem Mod.ring_setRing_self (n : Nat) (x : Ring) : (m.setRing n x).ring n = x := SMap.get_set_self _ _ _ _
@[simp] theorem Mod.pin_setPin_self (ch : Nat) (x : Pin) : (m.setPin ch x).pin ch = x := SMap.get_set_self _ _ _ _
@[simp] theorem Mod.dport_setDport_self (n d : Nat) (x : DiePort) : (m.setDport n d x).dport n d = x := SMap.get_set_self _ _ _ _
@[simp] theorem Mod.wave_setWave_self (n : Nat) (x : Wave) : (m.setWave n x).wave n = x := SMap.get_set_self _ _ _ _
@[simp] theorem Mod.asl_setAsl_self (n : Nat) (x : AsLive) : (m.setAsl n x).asl n = x := SMap.get_set_self _ _ _ _
@[simp] theorem Mod.acq_setAcq_self (n : Nat) (x : Option Acq) : (m.setAcq n x).acq n = x := SMap.get_set_self _ _ _ _
@[simp] theorem Mod.lq_setLq_self (q : Nat) (x : Lq) : (m.setLq q x).lq q = x := SMap.get_set_self _ _ _ _
@[simp] theorem Mod.lv_setLv_self (ch : Nat) (x : LvLive) : (m.setLv ch x).lv ch = x := SMap.get_set_self _ _ _ _
@[simp] theorem Mod.hv_setHv_self (h : Nat) (x : HvLive) : (m.setHv h x).hv h = x := SMap.get_set_self _ _ _ _
@[simp] theorem Mod.meas_setMeas_self (c : Nat) (x : Option Meas) : (m.setMeas c x).meas c = x := SMap.get_set_self _ _ _ _
@[simp] theorem Mod.dom_setDom_self (k : Nat) (x : Dom) : (m.setDom k x).dom k = x := SMap.get_set_self _ _ _ _
@[simp] theorem Mod.tport_setTport_self (p : Nat) (x : Tport) : (m.setTport p x).tport p = x := SMap.get_set_self _ _ _ _
@[simp] theorem Mod.tdc_setTdc_self (u : Nat) (x : Option Tdc) : (m.setTdc u x).tdc u = x := SMap.get_set_self _ _ _ _
@[simp] theorem Mod.dmaRun_setDmaRun_self (ch : Nat) (x : Option DmaRun) : (m.setDmaRun ch x).dmaRun ch = x :=
  SMap.get_set_self _ _ _ _
@[simp] theorem Mod.isLost_setLost_self (d : Nat) (b : Bool) : (m.setLost d b).isLost d = b := SMap.get_set_self _ _ _ _
@[simp] theorem Mod.inMchk_setMchk_self (s i : Nat) (b : Bool) : (m.setMchk s i b).inMchk s i = b := SMap.get_set_self _ _ _ _
@[simp] theorem Mod.unitDisabled_set_self (c u : Nat) (b : Bool) : (m.setUnitDisabled c u b).unitDisabled c u = b :=
  SMap.get_set_self _ _ _ _

/-! ### Choice and repetition -/

@[simp] theorem Mod.when_true (f : Mod → Mod) : m.when true f = f m := rfl
@[simp] theorem Mod.when_false (f : Mod → Mod) : m.when false f = m := rfl
@[simp] theorem Mod.each_nil (f : Nat → Mod → Mod) : m.each [] f = m := rfl
@[simp] theorem Mod.each_cons (k : Nat) (l : List Nat) (f : Nat → Mod → Mod) : m.each (k :: l) f = (f k m).each l f := rfl

/-- What one step of a repetition keeps, the repetition keeps. -/
theorem Mod.each_keeps (P : Mod → Prop) (l : List Nat) (f : Nat → Mod → Mod) (h : ∀ k ∈ l, ∀ x, P x → P (f k x)) (hm : P m) :
    P (m.each l f) := by
  induction l generalizing m with
  | nil => exact hm
  | cons k t ih =>
    exact ih (f k m) (fun j hj => h j (List.mem_cons_of_mem _ hj)) (h k List.mem_cons_self m hm)

/-! ### Frames -/

variable {m}

theorem SameMemory.refl (a : Mod) : SameMemory a a := ⟨fun _ => rfl, fun _ => rfl⟩

theorem SameMemory.of_eq {a b : Mod} (hg : b.gddr = a.gddr) (hs : b.sram = a.sram) : SameMemory a b := by
  constructor <;> intro x <;> simp [hg, hs]

theorem SameMemory.trans {a b c : Mod} (h : SameMemory a b) (k : SameMemory b c) : SameMemory a c :=
  ⟨fun x => (k.1 x).trans (h.1 x), fun x => (k.2 x).trans (h.2 x)⟩

theorem SameRegs.refl (l : List Nat) (a : Mod) : SameRegs l a a := fun _ _ => rfl

theorem SameRegs.of_eq {l : List Nat} {a b : Mod} (h : b.regs = a.regs) : SameRegs l a b := by
  intro o _
  simp [Mod.reg, h]

theorem SameRegs.trans {l : List Nat} {a b c : Mod} (h : SameRegs l a b) (k : SameRegs l b c) : SameRegs l a c :=
  fun o ho => (k o ho).trans (h o ho)

theorem SameRegs.mono {l l' : List Nat} {a b : Mod} (h : SameRegs l a b) (hl : ∀ o ∈ l, o ∈ l') : SameRegs l' a b :=
  fun o ho => h o (fun h' => ho (hl o h'))

theorem SameRegs.setReg {l : List Nat} {a b : Mod} (h : SameRegs l a b) (off : Nat) (v : Word) (ho : off ∈ l) :
    SameRegs l a (b.setReg off v) := by
  intro o h'
  rw [Mod.reg_setReg_ne b off o v (fun e => h' (e ▸ ho)), h o h']

theorem SameRegs.wr {l : List Nat} {a b : Mod} (h : SameRegs l a b) (off : Nat) (f : Fld) (v : Nat) (ho : off ∈ l) :
    SameRegs l a (b.wr off f v) := h.setReg off _ ho

theorem SameRegs.post {l : List Nat} {a b : Mod} (h : SameRegs l a b) : SameRegsPost l a b := fun o ho _ => h o ho

theorem SameRegsPost.trans {l : List Nat} {a b c : Mod} (h : SameRegsPost l a b) (k : SameRegsPost l b c) :
    SameRegsPost l a c := fun o ho hp => (k o ho hp).trans (h o ho hp)

theorem SameRegsPost.mono {l l' : List Nat} {a b : Mod} (h : SameRegsPost l a b) (hl : ∀ o ∈ l, o ∈ l') :
    SameRegsPost l' a b := fun o ho => h o (fun h' => ho (hl o h'))

theorem SameRegsPost.setReg {l : List Nat} {a b : Mod} (h : SameRegsPost l a b) (off : Nat) (v : Word)
    (ho : off ∈ l ∨ postWord off = true) : SameRegsPost l a (b.setReg off v) := by
  intro o h' hp
  have hne : o ≠ off := by
    rintro rfl
    rcases ho with ho | ho
    · exact h' ho
    · simp [ho] at hp
  rw [Mod.reg_setReg_ne b off o v hne, h o h' hp]

theorem SameRegsPost.wr {l : List Nat} {a b : Mod} (h : SameRegsPost l a b) (off : Nat) (f : Fld) (v : Nat)
    (ho : off ∈ l ∨ postWord off = true) : SameRegsPost l a (b.wr off f v) := h.setReg off _ ho

theorem SameOutside.refl (lo hi : Nat) (a : List Host.Cell) : SameOutside lo hi a a := fun _ _ => rfl

theorem SameOutside.memWrite (lo hi a : Nat) (mem : List Host.Cell) (bs : List Byte) (h1 : lo ≤ a) (h2 : a + bs.length ≤ hi) :
    SameOutside lo hi mem (memWrite mem a bs) := by
  intro x hx
  exact memByte_memWrite_ne mem bs a x (by omega)

end Sys2Proof.Machine
end

