-- ==== Sys2Proof/Laws/Posts.lean ====
section
/-!
SUPPORT. What raising an event can do: set its bit, post records, make interrupts due, and nothing else.
-/

namespace Sys2Proof.Machine

/-- `b` is `a` but for the registers listed, the words of `postWord`, the staging of records, the interrupts due and the
requests at the management cores' interrupt controllers. -/
def OnlyPosts (but : List Nat) (a b : Mod) : Prop :=
  b = { a with regs := b.regs, flt := { a.flt with seq := b.flt.seq, staging := b.flt.staging, lost := b.flt.lost },
               pcie := { a.pcie with due := b.pcie.due }, harts := b.harts } ∧
    SameRegsPost but a b

theorem OnlyPosts.refl (but : List Nat) (a : Mod) : OnlyPosts but a a := ⟨rfl, (SameRegs.refl but a).post⟩

theorem OnlyPosts.trans {but : List Nat} {a b c : Mod} (h : OnlyPosts but a b) (k : OnlyPosts but b c) : OnlyPosts but a c := by
  refine ⟨?_, h.2.trans k.2⟩
  rw [k.1, h.1]

theorem OnlyPosts.mono {l l' : List Nat} {a b : Mod} (h : OnlyPosts l a b) (hl : ∀ o ∈ l, o ∈ l') : OnlyPosts l' a b :=
  ⟨h.1, h.2.mono hl⟩

theorem OnlyPosts.memory {but : List Nat} {a b : Mod} (h : OnlyPosts but a b) : SameMemory a b := by
  rw [h.1]
  exact ⟨fun _ => rfl, fun _ => rfl⟩

theorem OnlyPosts.halted {but : List Nat} {a b : Mod} (h : OnlyPosts but a b) : b.flt.halted = a.flt.halted := by
  rw [h.1]

theorem OnlyPosts.outs {but : List Nat} {a b : Mod} (h : OnlyPosts but a b) : b.outs = a.outs := by
  rw [h.1]

theorem OnlyPosts.setReg {but : List Nat} (a : Mod) (off : Nat) (v : Word) (ho : off ∈ but ∨ postWord off = true) :
    OnlyPosts but a (a.setReg off v) := ⟨rfl, (SameRegs.refl but a).post.setReg off v ho⟩

theorem OnlyPosts.wr {but : List Nat} (a : Mod) (off : Nat) (f : Fld) (v : Nat) (ho : off ∈ but ∨ postWord off = true) :
    OnlyPosts but a (a.wr off f v) := OnlyPosts.setReg a off _ ho

/-- Posting a record changes the staging and the faults block alone. -/
theorem onlyPosts_stageRec (r : FaultRec) (m : Mod) : OnlyPosts [] m (m.stageRec r) :=
  ⟨rfl, SameRegsPost.setReg (fun _ _ _ => rfl) _ _ (.inr (by decide))⟩

theorem onlyPosts_postRec (r : FaultRec) (m : Mod) : OnlyPosts [] m (m.postRec r) := by
  have hb : SameRegsPost [] m (m.bump Reg.ERR_LOST Fields.ERR_LOST.COUNT) :=
    (SameRegs.refl [] m).post.wr _ _ _ (.inr (by decide))
  have hz (x : Mod) (n : Nat) : OnlyPosts [] x { x with flt := { x.flt with lost := n } } := ⟨rfl, fun _ _ _ => rfl⟩
  unfold Mod.postRec
  simp only
  split
  · exact .refl _ _
  · split
    · split
      · exact onlyPosts_stageRec r m
      · exact ⟨rfl, hb⟩
    · split
      · exact ((onlyPosts_stageRec _ m).trans (hz _ 0)).trans (onlyPosts_stageRec r _)
      · split
        · exact onlyPosts_stageRec r m
        · exact ⟨rfl, hb⟩

theorem onlyPosts_post (c s i k t r a : Nat) (m : Mod) : OnlyPosts [] m (m.post c s i k t r a) := onlyPosts_postRec _ m

theorem onlyPosts_raise (c s i t a reg : Nat) (f : Fld) (m : Mod) : OnlyPosts [reg] m (m.raise c s i t a reg f) := by
  unfold Mod.raise
  split
  · exact .refl _ _
  · exact (OnlyPosts.wr m reg f 1 (.inl List.mem_cons_self)).trans ((onlyPosts_post _ _ _ _ _ _ _ _).mono (by simp))

/-- The words of the pending bits lie among those of `postWord`. -/
theorem postWord_pending (v : Nat) (h : v < 32768) : postWord (0x111000 + 4 * (v / 32)) = true := by
  simp only [postWord, Bool.or_eq_true, Bool.and_eq_true, decide_eq_true_eq]
  omega

theorem onlyPosts_due (v : Nat) (m : Mod) (h : v < 32768) : OnlyPosts [] m (m.due v) := by
  unfold Mod.due
  split
  · exact OnlyPosts.wr m _ _ _ (.inr (postWord_pending v h))
  · split
    · exact .refl _ _
    · exact ⟨rfl, fun _ _ _ => rfl⟩

/-- Raising sources at cores' interrupt controllers changes the controllers alone. -/
theorem irqRaise_each (l : List Nat) (s : Nat) (m : Mod) :
    ∃ h, m.each l (fun k t => t.irqRaise (16 + k) s) = { m with harts := h } := by
  induction l generalizing m with
  | nil => exact ⟨m.harts, rfl⟩
  | cons k t ih => exact ih (m.irqRaise (16 + k) s)

theorem onlyPosts_dueAt (reg : Nat) (f : Fld) (m : Mod) (h : f.width ≤ 15) : OnlyPosts [] m (m.dueAt reg f) := by
  unfold Mod.dueAt
  obtain ⟨hs, he⟩ := irqRaise_each (List.range 4) (evtSource reg f) m
  rw [he]
  have hk : OnlyPosts [] m { m with harts := hs } := ⟨rfl, fun _ _ _ => rfl⟩
  refine hk.trans (onlyPosts_due _ _ ?_)
  exact Nat.lt_of_lt_of_le (fget_lt f _) (Nat.le_trans (Nat.pow_le_pow_right (by norm_num) h) (by norm_num))

theorem onlyPosts_when (but : List Nat) (b : Bool) (f : Mod → Mod) (m : Mod) (h : OnlyPosts but m (f m)) :
    OnlyPosts but m (m.when b f) := by
  cases b
  · exact .refl _ _
  · exact h

theorem onlyPosts_mark (reg : Nat) (f : Fld) (m : Mod) : OnlyPosts [reg] m (m.mark reg f) :=
  OnlyPosts.wr m reg f 1 (.inl List.mem_cons_self)

theorem onlyPosts_pwrEvent (c : Nat) (f : Fld) (m : Mod) : OnlyPosts [Reg.PWR_EVENT] m (m.pwrEvent c f) := by
  unfold Mod.pwrEvent
  split
  · exact .refl _ _
  · exact (onlyPosts_raise _ _ _ _ _ _ _ _).trans ((onlyPosts_dueAt _ _ _ (by decide)).mono (by simp))

theorem onlyPosts_slEvent (p : Bool) (c i : Nat) (f : Fld) (m : Mod) : OnlyPosts [Reg.SL_EVENT] m (m.slEvent p c i f) := by
  unfold Mod.slEvent
  refine OnlyPosts.trans ?_ (onlyPosts_when _ _ _ _ ((onlyPosts_dueAt _ _ _ (by decide)).mono (by simp)))
  split
  · exact onlyPosts_raise _ _ _ _ _ _ _ _
  · exact onlyPosts_mark _ _ _

theorem onlyPosts_pltEvent (p : Bool) (i : Nat) (f : Fld) (m : Mod) : OnlyPosts [Reg.PLT_EVENT] m (m.pltEvent p i f) := by
  unfold Mod.pltEvent
  refine OnlyPosts.trans ?_ (onlyPosts_when _ _ _ _ ((onlyPosts_dueAt _ _ _ (by decide)).mono (by simp)))
  split
  · exact (onlyPosts_mark _ _ _).trans ((onlyPosts_post _ _ _ _ _ _ _ _).mono (by simp))
  · exact onlyPosts_mark _ _ _

theorem onlyPosts_timeEvent (f : Fld) (m : Mod) : OnlyPosts [Reg.TIME_EVENT] m (m.timeEvent f) := by
  unfold Mod.timeEvent
  refine OnlyPosts.trans ?_ (onlyPosts_when _ _ _ _ ((onlyPosts_dueAt _ _ _ (by decide)).mono (by simp)))
  split
  · exact onlyPosts_raise _ _ _ _ _ _ _ _
  · exact onlyPosts_mark _ _ _

/-- An access error, a refused write and a discarded BAR2 write change the faults block alone. -/
theorem onlyPosts_accessFlag (f : Fld) (code off : Nat) (m : Mod) : OnlyPosts [] m (m.accessFlag f code off) := by
  have hi (x : Mod) (g : Fld) (v : Nat) : OnlyPosts [] x (x.wr Reg.ERR_ACCESS_INFO g v) := OnlyPosts.wr x _ g v (.inr (by decide))
  have hr (x : Mod) (a : Nat) : OnlyPosts [] x (x.raise 1 srcERR 0 noSite a Reg.ERR_ACCESS f) := by
    have h := onlyPosts_raise 1 srcERR 0 noSite a Reg.ERR_ACCESS f x
    refine ⟨h.1, fun o _ hp => h.2 o (fun ho => ?_) hp⟩
    rw [List.mem_singleton] at ho
    subst ho
    exact absurd hp (by decide)
  unfold Mod.accessFlag
  simp only
  split
  · exact ((hi _ _ _).trans (hi _ _ _)).trans (hr _ _)
  · exact hr _ _

theorem onlyPosts_refuse (i : Init) (off : Nat) (m : Mod) : OnlyPosts [] m (m.refuse i off) := onlyPosts_accessFlag _ _ _ m
theorem onlyPosts_accessErr (i : Init) (off : Nat) (m : Mod) : OnlyPosts [] m (m.accessErr i off) := onlyPosts_accessFlag _ _ _ m
theorem onlyPosts_bar2Discard (c off : Nat) (m : Mod) : OnlyPosts [] m (m.bar2Discard c off) := onlyPosts_accessFlag _ _ _ m

/-- Posting a record writes no register but ERR_SEQ and ERR_LOST. -/
theorem reg_post_ne (c s i k t r a o : Nat) (m : Mod) (h1 : o ≠ Reg.ERR_SEQ) (h2 : o ≠ Reg.ERR_LOST) :
    (m.post c s i k t r a).reg o = m.reg o := by
  have hs (r : FaultRec) (x : Mod) : (x.stageRec r).reg o = x.reg o := Mod.reg_setReg_ne _ _ _ _ h1
  have hb : (m.bump Reg.ERR_LOST Fields.ERR_LOST.COUNT).reg o = m.reg o := Mod.reg_wr_ne _ _ _ _ _ h2
  unfold Mod.post Mod.postRec
  simp only
  split
  · rfl
  · split
    · split
      · exact hs _ _
      · exact hb
    · split
      · rw [hs]
        exact hs _ _
      · split
        · exact hs _ _
        · exact hb

/-- An event that is raised reads 1. -/
theorem flag_raise (c s i t a reg : Nat) (f : Fld) (m : Mod) (hf : f.lo < 32) (hw : f.width = 1) (h1 : reg ≠ Reg.ERR_SEQ)
    (h2 : reg ≠ Reg.ERR_LOST) : (m.raise c s i t a reg f).flag reg f = true := by
  unfold Mod.raise
  split
  · assumption
  · rw [Mod.flag, Mod.rd, reg_post_ne _ _ _ _ _ _ _ _ _ h1 h2]
    exact Mod.flag_mark_self m reg f hf hw

theorem flag_refuse (i : Init) (off : Nat) (m : Mod) : (m.refuse i off).flag Reg.ERR_ACCESS Fields.ERR_ACCESS.WR_REFUSED = true :=
  flag_raise _ _ _ _ _ _ _ _ (by decide) rfl (by decide) (by decide)

theorem flag_accessErr (i : Init) (off : Nat) (m : Mod) :
    (m.accessErr i off).flag Reg.ERR_ACCESS Fields.ERR_ACCESS.ACCESS_ERR = true :=
  flag_raise _ _ _ _ _ _ _ _ (by decide) rfl (by decide) (by decide)

theorem flag_bar2Discard (c off : Nat) (m : Mod) :
    (m.bar2Discard c off).flag Reg.ERR_ACCESS Fields.ERR_ACCESS.BAR2_WR_DISCARD = true :=
  flag_raise _ _ _ _ _ _ _ _ (by decide) rfl (by decide) (by decide)

/-- HOST_ERR takes its flag, and HOST_ERR_INFO may take the queue and the ring. -/
theorem sameRegs_hostErr (f : Fld) (q c : Nat) (m : Mod) : SameRegs [Reg.HOST_ERR, Reg.HOST_ERR_INFO] m (m.hostErr f q c) := by
  unfold Mod.hostErr
  simp only
  split
  · exact (((SameRegs.refl _ m).wr _ _ _ (by simp)).wr _ _ _ (by simp)).wr _ _ _ (by simp)
  · exact (SameRegs.refl _ m).wr _ _ _ (by simp)

theorem flag_hostErr (f : Fld) (q c : Nat) (m : Mod) (hf : f.lo < 32) (hw : f.width = 1) :
    (m.hostErr f q c).flag Reg.HOST_ERR f = true := Mod.flag_mark_self _ _ f hf hw

end Sys2Proof.Machine
end

