-- ==== Sys2Proof/Laws/Step.lean ====
section
/-!
SUPPORT. What running one command comes to, and how `Answers` is shown.
-/

namespace Sys2Proof.Machine

variable {wf : Bool} {f : Mod → Mod} {s : State}

theorem runAlways_wf (h : wf = true) : runAlways wf f s = .next { s with m := { f s.m with cmds := s.m.cmds + 1 } } := by
  simp [runAlways, h]

theorem runAlways_illFormed (h : wf = false) : runAlways wf f s = .next { s with m := { s.m with cmds := s.m.cmds + 1 } } := by
  simp [runAlways, h]

theorem run_wf (h : wf = true) (hh : s.m.flt.halted = false) :
    run wf f s = .next { s with m := { f s.m with cmds := s.m.cmds + 1 } } := by
  simp [run, runAlways, h, hh]

theorem run_held (h : wf = true) (hh : s.m.flt.halted = true) :
    run wf f s = .next { s with m := { s.m with cmds := s.m.cmds + 1 } } := by
  simp [run, runAlways, h, hh]

theorem run_illFormed (h : wf = false) : run wf f s = .next { s with m := { s.m with cmds := s.m.cmds + 1 } } :=
  runAlways_illFormed h

/-- Everything a command that acts even while the module is held can do: its effect, or nothing where it is ill-formed. -/
theorem runAlways_cases (t : State) (h : runAlways wf f s = .next t) :
    (wf = true ∧ t = { s with m := { f s.m with cmds := s.m.cmds + 1 } }) ∨
      (wf = false ∧ t = { s with m := { s.m with cmds := s.m.cmds + 1 } }) := by
  cases wf with
  | true => exact .inl ⟨rfl, by simpa [runAlways] using h.symm⟩
  | false => exact .inr ⟨rfl, by simpa [runAlways] using h.symm⟩

/-- Everything a command of the core die can do: its effect, or nothing where it is ill-formed or the module is held. -/
theorem run_cases (t : State) (h : run wf f s = .next t) :
    (wf = true ∧ s.m.flt.halted = false ∧ t = { s with m := { f s.m with cmds := s.m.cmds + 1 } }) ∨
      ((wf = false ∨ s.m.flt.halted = true) ∧ t = { s with m := { s.m with cmds := s.m.cmds + 1 } }) := by
  obtain ⟨hw, ht⟩ | ⟨hw, ht⟩ := runAlways_cases t h
  · cases hh : s.m.flt.halted
    · exact .inl ⟨hw, rfl, by simpa [hh] using ht⟩
    · exact .inr ⟨.inr rfl, by simpa [hh] using ht⟩
  · exact .inr ⟨.inl hw, ht⟩

/-- A command that is `run` answers what its effect leaves, with one more command counted. -/
theorem answers_run {c : Instr} {p : Mod → Prop} (hc : exec c s = run wf f s) (hw : wf = true) (hh : s.m.flt.halted = false)
    (hp : p { f s.m with cmds := s.m.cmds + 1 }) : Answers c s p :=
  ⟨_, hc.trans (run_wf hw hh), rfl, hp⟩

theorem answers_runAlways {c : Instr} {p : Mod → Prop} (hc : exec c s = runAlways wf f s) (hw : wf = true)
    (hp : p { f s.m with cmds := s.m.cmds + 1 }) : Answers c s p :=
  ⟨_, hc.trans (runAlways_wf hw), rfl, hp⟩

theorem Answers.mono {c : Instr} {p q : Mod → Prop} (h : Answers c s p) (hpq : ∀ m, p m → q m) : Answers c s q := by
  obtain ⟨t, he, hq, hp⟩ := h
  exact ⟨t, he, hq, hpq _ hp⟩

theorem Answers.and {c : Instr} {p q : Mod → Prop} (h : Answers c s p) (k : Answers c s q) : Answers c s (fun m => p m ∧ q m) := by
  obtain ⟨t, he, hq, hp⟩ := h
  obtain ⟨u, hu, -, hk⟩ := k
  cases he.symm.trans hu
  exact ⟨t, he, hq, hp, hk⟩

/-! ### The conditions of statements -/

theorem Mod.taking_iff (m : Mod) : m.taking = true ↔ m.flt.halted = false ∧ m.isLost 0 = false := by
  simp [Mod.taking]

theorem Mod.serving_iff (m : Mod) : m.serving = true ↔ m.flt.halted = false ∧ m.isLost 0 = false ∧ m.open = true := by
  simp [Mod.serving, Mod.taking, and_assoc]

/-- The count of commands takes part in no frame. -/
theorem SameMemory.cmds {a b : Mod} (n : Nat) (h : SameMemory a b) : SameMemory a { b with cmds := n } := h
theorem SameRegs.cmds {l : List Nat} {a b : Mod} (n : Nat) (h : SameRegs l a b) : SameRegs l a { b with cmds := n } := h
theorem SameRegsPost.cmds {l : List Nat} {a b : Mod} (n : Nat) (h : SameRegsPost l a b) : SameRegsPost l a { b with cmds := n } := h

/-- A command whose effect only posts keeps memory and every register but those listed. -/
theorem OnlyPosts.frame {but : List Nat} {a b : Mod} (n : Nat) (h : OnlyPosts but a b) :
    SameMemory a { b with cmds := n } ∧ SameRegsPost but a { b with cmds := n } := ⟨h.memory.cmds n, h.2.cmds n⟩

end Sys2Proof.Machine
end

