-- ==== Sys2Proof/Laws/Bus.lean ====
section
/-!
SUPPORT. What an access to BAR0 comes to, case by case (R3 to R9, R61).
-/

namespace Sys2Proof.Machine

variable (i : Init) (off : Nat) (v : Word) (m : Mod)

/-- In a module without a journal an accepted write sends nothing (R395). -/
theorem Wr.sent_alone (w : Wr) (m : Mod) (h : m.journalOn = false) : w.sent m = m := by simp [Wr.sent, h]

/-- A write to a register that is open and takes it. -/
theorem Mod.busWrite_ok (d : RegDesc) (ix : List Nat) (t : Mod) (hs : m.isLost 0 = false) (hh : m.flt.halted = false)
    (hd : inDoorbells off = false) (ha : off % 4 = 0) (hb : inBlocks off = true) (hm : inMsix off = false)
    (hr : regAt off = some (d, ix)) (ho : m.writeOpen i d.name = true) (ht : Wr.act ⟨i, off, d, ix, v⟩ m = .ok t) :
    m.busWrite i off v = Wr.sent ⟨i, off, d, ix, v⟩ t := by
  simp [Mod.busWrite, hs, hh, hd, ha, hb, hm, hr, ho, ht]

/-- A write to a register that is open and refuses it. -/
theorem Mod.busWrite_refused (d : RegDesc) (ix : List Nat) (t : Mod) (hs : m.isLost 0 = false) (hh : m.flt.halted = false)
    (hd : inDoorbells off = false) (ha : off % 4 = 0) (hb : inBlocks off = true) (hm : inMsix off = false)
    (hr : regAt off = some (d, ix)) (ho : m.writeOpen i d.name = true) (ht : Wr.act ⟨i, off, d, ix, v⟩ m = .error t) :
    m.busWrite i off v = t := by
  simp [Mod.busWrite, hs, hh, hd, ha, hb, hm, hr, ho, ht]

/-- A write before READY to a register that is not one of reset and profiles (R61). -/
theorem Mod.busWrite_closed (d : RegDesc) (ix : List Nat) (hs : m.isLost 0 = false) (hh : m.flt.halted = false)
    (hd : inDoorbells off = false) (ha : off % 4 = 0) (hb : inBlocks off = true) (hm : inMsix off = false)
    (hr : regAt off = some (d, ix)) (ho : m.writeOpen i d.name = false) : m.busWrite i off v = m.refuse i off := by
  simp [Mod.busWrite, hs, hh, hd, ha, hb, hm, hr, ho]

/-- A write without power, or while FATAL_ACTION 1 holds the module, to any register but GLB_RST_CTRL. -/
theorem Mod.busWrite_lost (h : m.isLost 0 = true) : m.busWrite i off v = m := by simp [Mod.busWrite, h]
theorem Mod.busWrite_held (h : m.flt.halted = true) (ho : off ≠ Reg.GLB_RST_CTRL) : m.busWrite i off v = m := by
  simp [Mod.busWrite, h, ho]

/-- A write off any register. -/
theorem Mod.busWrite_misaligned (hs : m.isLost 0 = false) (hh : m.flt.halted = false) (hd : inDoorbells off = false)
    (ha : off % 4 ≠ 0) : m.busWrite i off v = m.accessErr i off := by
  simp [Mod.busWrite, hs, hh, hd, ha]

theorem Mod.busWrite_nowhere (hs : m.isLost 0 = false) (hh : m.flt.halted = false) (hd : inDoorbells off = false)
    (ha : off % 4 = 0) (hb : inBlocks off = true) (hm : inMsix off = false) (hr : regAt off = none) : m.busWrite i off v = m := by
  simp [Mod.busWrite, hs, hh, hd, ha, hb, hm, hr]

/-- A field of a register is written with its other RW fields kept. -/
theorem Mod.fieldWrite_eq (f : Fld) (n : Nat) (d : RegDesc) (ix : List Nat) (hr : regAt off = some (d, ix)) :
    m.fieldWrite i off f n = m.busWrite i off (fput f n (m.reg off &&& d.rw)) := by
  simp [Mod.fieldWrite, hr]

/-- Once host access is open every register is open to every initiator (R61). -/
theorem Mod.writeOpen_open (n : RegName) (h : m.open = true) : m.writeOpen i n = true := by simp [Mod.writeOpen, h]

/-- A refused write changes only the faults block. -/
theorem Wr.no_posts (w : Wr) (m : Mod) : ∀ t, w.no m = .error t → OnlyPosts [] m t := by
  intro t h
  cases h
  exact onlyPosts_refuse _ _ _

end Sys2Proof.Machine
end

