-- ==== Sys2Proof/Laws/Charge.lean ====
section
/-!
SUPPORT. What a charge for a memory access can do: it moves the arbiters' deficits and turns and the reservation buckets, and
nothing else (R31, R132, R356).
-/

namespace Sys2Proof.Machine

/-- `b` is `a` but for the arbiters' deficits and turns and the reservation buckets. -/
def OnlyCharges (a b : Mod) : Prop :=
  b = { a with hat := { a.hat with deficit := b.hat.deficit, cur := b.hat.cur, freshTurn := b.hat.freshTurn,
                                   backgroundCur := b.hat.backgroundCur },
               drc := { a.drc with buckets := b.drc.buckets } }

theorem OnlyCharges.refl (a : Mod) : OnlyCharges a a := rfl

theorem OnlyCharges.trans {a b c : Mod} (h : OnlyCharges a b) (k : OnlyCharges b c) : OnlyCharges a c := by
  unfold OnlyCharges at *
  rw [k, h]

theorem OnlyCharges.regs {a b : Mod} (h : OnlyCharges a b) : b.regs = a.regs := by rw [h]
theorem OnlyCharges.gddr {a b : Mod} (h : OnlyCharges a b) : b.gddr = a.gddr := by rw [h]
theorem OnlyCharges.sram {a b : Mod} (h : OnlyCharges a b) : b.sram = a.sram := by rw [h]
theorem OnlyCharges.outs {a b : Mod} (h : OnlyCharges a b) : b.outs = a.outs := by rw [h]
theorem OnlyCharges.queues {a b : Mod} (h : OnlyCharges a b) : b.queues = a.queues := by rw [h]
theorem OnlyCharges.insts {a b : Mod} (h : OnlyCharges a b) : b.hat.insts = a.hat.insts := by rw [h]
theorem OnlyCharges.reports {a b : Mod} (h : OnlyCharges a b) : b.hat.reports = a.hat.reports := by rw [h]
theorem OnlyCharges.halted {a b : Mod} (h : OnlyCharges a b) : b.flt.halted = a.flt.halted := by rw [h]

theorem onlyCharges_sole (c g q n : Nat) (m : Mod) : OnlyCharges m { m with hat := m.hat.sole c g q n } := by
  unfold OnlyCharges Hat.sole
  split <;> rfl

theorem onlyCharges_setBucket (c g v : Nat) (m : Mod) : OnlyCharges m (m.setBucket c g v) := rfl

theorem OnlyCharges.when {a : Mod} (b : Bool) (f : Mod → Mod) (h : OnlyCharges a (f a)) : OnlyCharges a (a.when b f) := by
  cases b
  · exact .refl a
  · exact h

theorem onlyCharges_channel (p : Payer) (c n : Nat) (m : Mod) : OnlyCharges m (m.chargeChannel p c n) := by
  unfold Mod.chargeChannel
  exact (OnlyCharges.when _ _ (onlyCharges_setBucket c p.group _ m)).trans (OnlyCharges.when _ _ (onlyCharges_sole _ _ _ _ _))

theorem onlyCharges_bursts (p : Payer) : ∀ (fuel a n : Nat) (m : Mod), OnlyCharges m (m.chargeBursts p fuel a n)
  | 0, _, _, m => .refl m
  | fuel + 1, a, n, m => by
    unfold Mod.chargeBursts
    split
    · exact .refl m
    · exact (onlyCharges_channel p _ _ m).trans (onlyCharges_bursts p fuel _ _ _)

theorem onlyCharges_port (p : Payer) (cls : Nat) : ∀ (fuel n : Nat) (m : Mod), OnlyCharges m (m.chargePort p cls fuel n)
  | 0, _, m => .refl m
  | fuel + 1, n, m => by
    unfold Mod.chargePort
    split
    · exact .refl m
    · exact (onlyCharges_sole _ _ _ _ m).trans (onlyCharges_port p cls fuel _ _)

/-- A charge for an access to GDDR7 is a charge alone. -/
theorem onlyCharges_gddr (p : Payer) (a n : Nat) (m : Mod) : OnlyCharges m (m.chargeGddr p a n) :=
  (onlyCharges_port p 65 _ _ m).trans (onlyCharges_bursts p _ _ _ _)

/-- A charge for an access to SRAM is a charge alone. -/
theorem onlyCharges_sram (p : Payer) (n : Nat) (m : Mod) : OnlyCharges m (m.chargeSram p n) := onlyCharges_port p 64 _ _ m

theorem onlyCharges_place (p : Payer) (a : Place) (n : Nat) (m : Mod) : OnlyCharges m (m.chargePlace p a n) := by
  cases a
  · exact onlyCharges_gddr p _ n m
  · exact .refl m
  · exact onlyCharges_sram p n m

/-- A charge for a read of a context is a charge alone. -/
theorem onlyCharges_read (p : Payer) (ctx : Nat) : ∀ (fuel va n : Nat) (m : Mod), OnlyCharges m (m.chargeRead p ctx fuel va n)
  | 0, _, _, m => .refl m
  | fuel + 1, va, n, m => by
    unfold Mod.chargeRead
    split
    · exact .refl m
    · refine OnlyCharges.trans ?_ (onlyCharges_read p ctx fuel _ _ _)
      cases m.xlate ctx va .read
      · exact .refl m
      · exact onlyCharges_place p _ _ m

end Sys2Proof.Machine
end

