-- ==== Sys2Proof/Tests/Slice0.lean ====
section
/-!
SUPPORT. The model's own tests: operands out of range are refused; values that the spec's worked examples and tables give;
and for each statement a state and operands that meet its hypotheses, clause by clause.
-/

namespace Sys2Proof.Tests

open Sys2Proof Sys2Proof.Machine

set_option linter.unusedVariables false
set_option maxRecDepth 100000

/-! ### States to test on -/

/-- A state whose module is the one after reset, changed by `f`. -/
def st (f : Machine.Mod → Machine.Mod) : State := ⟨[], f Machine.Mod.reset⟩

/-- The host link up, with completion ring 0 of 16 records enabled, and Hatch open for group 0. -/
def fabric (m : Machine.Mod) : Machine.Mod :=
  (((((m.wr Reg.HOST_STATUS Fields.HOST_STATUS.BME 1).wr Reg.HOST_STATUS Fields.HOST_STATUS.HOLDING 0).wr Reg.HOST_CTRL
    Fields.HOST_CTRL.FETCH_EN 1).wr (Reg.HOST_CQ_CFG 0) Fields.HOST_CQ_CFG.SIZE_LOG2 4).wr (Reg.HOST_CQ_CFG 0)
    Fields.HOST_CQ_CFG.ENABLE 1).wr Reg.HAT_CTRL Fields.HAT_CTRL.DISPATCH_EN 1 |>.wr (Reg.HAT_GRP_CFG 0)
    Fields.HAT_GRP_CFG.ENABLE 1

/-- A descriptor of an opcode and body. -/
def descr (op : Nat) (body : List Byte) : Desc := ⟨0, 0, BitVec.ofNat 8 op :: zeroBytes 7 ++ body ++ zeroBytes (56 - body.length), false⟩

/-- Queue 0 bound to ring 0, with one descriptor on chip. -/
def onQueue (d : Desc) (m : Machine.Mod) : Machine.Mod :=
  (fabric m).setQueue 0 { Queue.fresh with bound := true, base := 0x10000, onchip := [d], nextSerial := 1, outstanding := [0] }

/-- An instance of queue 0 with the given nodes and edges. -/
def instOf (ns : List NodeD) (es : List EdgeD) : Inst := newInst 0 (descr 1 []) ⟨ns, es, 0xFFFF⟩ false

/-- A node of a class. -/
def nodeOf (c : Nat) : NodeD := NodeD.ofBytes (BitVec.ofNat 8 c :: zeroBytes 63)

/-- Bytes as cells of memory from an address. -/
def cellsAt (a : Nat) : List Byte → List Host.Cell
  | [] => []
  | b :: t => (a, b) :: cellsAt (a + 1) t

/-- Context 0 enabled: device addresses 0 to 2 MiB lie in host memory, the next 2 MiB in GDDR7. -/
def mapped (m : Machine.Mod) : Machine.Mod :=
  ((m.wr (Reg.XLT_CTX_ROOT_LO 0) Fields.XLT_CTX_ROOT_LO.EN 1).wr (Reg.XLT_CTX_ROOT_LO 0) Fields.XLT_CTX_ROOT_LO.ROOT_L 1).gddrPut
    0x1000 [1#8, 0x20#8] |>.gddrPut 0x2000 [1#8, 0x30#8] |>.gddrPut 0x3000 ([0x37#8, 0#8, 0#8] ++ zeroBytes 5 ++ [0x33#8, 0#8, 0x20#8])

/-- A node of class 2 at 0x4000, as an image of its own and as a graph of one node. -/
def nodeImage : List Host.Cell := cellsAt 0x4000 (2#8 :: zeroBytes 63)
def graphImage : List Host.Cell :=
  let body := zeroBytes 48 ++ (2#8 :: zeroBytes 63)
  cellsAt 0x4000 (leBytes 4 0x48524748 ++ [1#8, 0#8, 0#8, 0#8, 0xFF#8, 0xFF#8, 0#8, 0#8] ++ leBytes 4 (crc32 body).toNat ++ body)

/-- ARGS of a TDC_MEAS on internal sources. -/
def tdcArgs : List Byte := [0x10#8, 0x11#8, 0#8, 0#8, 0#8, 0#8, 0#8, 0#8, 1#8] ++ zeroBytes 39

/-- Sequencer 5 runs a burst at instruction 1, row 2 of 8, in timing set 3 with period 2048 ET, and its next instruction
has the 16 bytes given; row bytes are all 1. -/
def seqAt (f : Seq → Seq) (bs : List Byte) (m : Machine.Mod) : Machine.Mod :=
  ((((m.sramPut (0x30000 + 16) bs).sramPut 0x40000 (List.replicate 8 1#8)).sramPut 0xF80020 (List.replicate 128 0xFF#8)).wr (Reg.SEQ_TPER 5 3) Fields.SEQ_TPER.PERIOD 2048).wr
    (Reg.SEQ_STATUS 5) Fields.SEQ_STATUS.STATE 2 |>.wr (Reg.SEQ_PF_CFG 5) Fields.SEQ_PF_CFG.BLOCKS 2 |>.wr (Reg.SEQ_PF_CFG 5)
    Fields.SEQ_PF_CFG.IBLOCKS 1 |>.setSeq 5 (f { Seq.fresh with
      job := some ⟨some 0, 0, 0, 0⟩
      img := { Image.fresh with instrs := 4, rows := 8, rowBytes := 1 }
      iblk := [⟨0, 3, true, false⟩]
      pblk := [⟨0, 4, true, false⟩]
      pc := 1
      pp := 2
      tset := 3
      num := 7
      et := 14336 })

/-- An open hold region. -/
def held (x : Seq) : Seq := { x with hold := some (0, [1#8], 3) }

/-- An instruction's bytes: OP, MOD, C16, IMM, TGT, PROW. -/
def insn (op md c16 imm tgt prow : Nat) : List Byte :=
  leBytes 1 op ++ leBytes 1 md ++ leBytes 2 c16 ++ leBytes 4 imm ++ leBytes 4 tgt ++ leBytes 4 prow

/-- The module a write answers. -/
def okOr {ε : Type} (m : Machine.Mod) : Except ε Machine.Mod → Machine.Mod
  | .ok x => x
  | .error _ => m

/-- A complete acquisition of one word, triggered at word 0, with DEST at the foot of GDDR7. -/
def aqDone1 : Acq := ⟨⟨some 0, 0, 0, 0⟩, zeroBytes 12 ++ [1#8, 0#8, 0#8, 0#8, 0#8, 0#8, 0x20#8, 0#8, 0#8, 0#8] ++ zeroBytes 26,
  0, 1, [9], 0, some (0, 0, 0, 0), 0, false⟩

/-- The pair works: STATE of SL_STATUS is ACTIVE. -/
def paired (m : Machine.Mod) : Machine.Mod := m.setSlState 4

/-- The header of a burst's image: one channel, 2 instructions, format 1. -/
def burstHeader : List Byte :=
  let b := leBytes 4 0x50415431 ++ [1#8, 0#8] ++ leBytes 2 1 ++ leBytes 4 2 ++ leBytes 4 1 ++ leBytes 2 1 ++ zeroBytes 2 ++ leBytes 4 1 ++
    zeroBytes 36
  b ++ leBytes 4 (crc32 b).toNat

/-- Peer context 0 maps device addresses 0 to 2 MiB to host memory; group 0 of the partner has a reservation; port 16 has one
channel and a legal allocation, and timing set 0 a period of 2048 ET. -/
def mirrorReady (m : Machine.Mod) : Machine.Mod :=
  let p := mapped (paired m)
  let q := (((p.setReg (Reg.SEQ_PORT 16 0) 1#32).wr (Reg.SEQ_PF_CFG 16) Fields.SEQ_PF_CFG.BLOCKS 2).wr (Reg.SEQ_PF_CFG 16)
    Fields.SEQ_PF_CFG.IBLOCKS 1).wr (Reg.SEQ_TPER 16 0) Fields.SEQ_TPER.PERIOD 2048
  q.setPair { q.pair with
    regs := SMap.set resetOf (SMap.set resetOf (SMap.set resetOf [] (Reg.XLT_CTX_ROOT_LO 0) (q.reg (Reg.XLT_CTX_ROOT_LO 0)))
      (Reg.SEQ_GRP_RESV 0) (fput Fields.SEQ_GRP_RESV.RESV 1000 0#32)) (Reg.SL_MRGN_CFG 0) (fput Fields.SL_MRGN_CFG.EN 1 0#32) }

/-- A WTRG wait of mirror sequencer 16, in a burst it follows. -/
def mirrorWaits (m : Machine.Mod) : Machine.Mod :=
  (seqAt id (insn 0 0 0 0 0 0) m).setSeq 16 { (seqAt id (insn 0 0 0 0 0 0) m).seq 5 with
    mirror := true
    job := some ⟨none, 0, 64, 0⟩
    wait := some (.trig 0 3 false 0) }

/-- READY, changed by `f`. -/
def served (f : Machine.Mod → Machine.Mod) : State :=
  st (fun m => f (m.wr Reg.GLB_START_STATE Fields.GLB_START_STATE.STATE 6))

/-- The identity block of a production plate and a counter copy with sequence number `n` and every count 7. -/
def plateId : List Byte :=
  let b := leBytes 4 0x504C4931 ++ leBytes 2 1 ++ leBytes 2 1 ++ zeroBytes 48 ++ leBytes 4 1000 ++ leBytes 4 500 ++ leBytes 8 0x8000000000000001 ++
    zeroBytes 52
  b ++ leBytes 4 (crc32 b).toNat
def plateCopy (n : Nat) : List Byte :=
  let b := leBytes 4 0x504C4331 ++ leBytes 4 n ++ leBytes 4 9 ++ zeroBytes 4 ++ (List.replicate 64 (leBytes 4 7)).flatten ++ zeroBytes 12
  b ++ leBytes 4 (crc32 b).toNat

/-- Channel 31 has reached a REGWR of 0x77 to TP_RX_CORR of port 1. -/
def regwrReady (m : Machine.Mod) : Machine.Mod :=
  (m.setDmaRun 31 (some ⟨.node ⟨some 0, 0, 0, 0⟩, 0, 0, 1, false, 0,
    some ⟨[2#8, 0#8] ++ zeroBytes 6 ++ leBytes 8 0x77 ++ leBytes 8 (Reg.TP_RX_CORR 1) ++ zeroBytes 40, [], [], true, 0⟩, none, 0⟩)).wr
    (Reg.DMA_CH_STATUS 31) Fields.DMA_CH_STATUS.STATE 1

/-- Whether a command completes and its module has `p`. -/
def after (c : Instr) (s : State) (p : Machine.Mod → Bool) : Bool :=
  match exec c s with
  | .next t => p t.m
  | _ => false

/-! ### Well-formedness: each check refuses what lies outside its range, and accepts what lies at its edge -/

theorem test_wellformed_accepted_1 :
    [Wf.malformedAccess .host 0 2, Wf.pairLowRead .host 0, Wf.pairLowWrite .host 0, Wf.pairHighWrite .host 0,
     Wf.registerWrite .host 0, Wf.plinkBlockReceive 0 0, Wf.refillBlockComplete 0, Wf.linkBlockClose 0,
     Wf.xingOvf 0 none, Wf.sramUe 0, Wf.sramCe 0, Wf.hostBar2Read 0 1, Wf.hostBar2Write 0 [some 1#8],
     Wf.forwardedClockLoss 0, Wf.h0FrameReceive (.entry 7 0 0 [] [] true), Wf.hvSupply 0, Wf.hgndRange 0,
     Wf.railFault 0, Wf.driverDisconnect 0, Wf.trip 0 0, Wf.governorSample [(16, -2047, false)], Wf.unitStart 0,
     Wf.startFail 0, Wf.coldResetRelease 0, Wf.gddr7TrainingComplete 0, Wf.plinkTrained 0, Wf.refinQualified 1 0,
     Wf.warm .host, Wf.handover .host, Wf.cold .host, Wf.profileSelect .host 0, Wf.profileWrite .host 0,
     Wf.doorbell .host 0x1000000 1, Wf.descriptorFetch 0, Wf.descriptorReadComplete 0, Wf.nop 0, Wf.graphLaunch 0,
     Wf.graphAbort 0, Wf.tokenInject 0, Wf.dmaList 0].all id = true := by
  decide

theorem test_illformed_refused_1 :
    [Wf.malformedAccess (.mcore 4) 0 2, Wf.malformedAccess .host 0x4000000 2, Wf.malformedAccess .host 0 0,
     Wf.malformedAccess .host 0 4, Wf.pairLowRead (.mcore 4) 0, Wf.pairLowRead .host 0x4000000,
     Wf.pairLowWrite (.mcore 4) 0, Wf.pairLowWrite .host 0x4000000, Wf.pairHighWrite (.mcore 4) 0,
     Wf.pairHighWrite .host 0x4000000, Wf.registerWrite (.mcore 4) 0, Wf.registerWrite .host 0x4000000,
     Wf.plinkBlockReceive 32 0, Wf.plinkBlockReceive 0 2, Wf.refillBlockComplete 32, Wf.linkBlockClose 32,
     Wf.xingOvf 256 none, Wf.xingOvf 0 (some (16, 0)), Wf.xingOvf 0 (some (0, 64)), Wf.sramUe 0x1000000,
     Wf.sramCe 0x1000000, Wf.hostBar2Read 0 0, Wf.hostBar2Read 0 4097, Wf.hostBar2Read 0x1000000 1,
     Wf.hostBar2Write 0 [], Wf.hostBar2Write 0x1000000 [some 1#8], Wf.hostBar2Write 0 (List.replicate 4097 none),
     Wf.forwardedClockLoss 3, Wf.h0FrameReceive (.entry 8 0 0 [] [] true),
     Wf.h0FrameReceive (.control ⟨5, 0, 0, 0, 0, []⟩), Wf.hvSupply 3, Wf.hgndRange (-2048), Wf.railFault 22,
     Wf.driverDisconnect 2, Wf.trip 17 0, Wf.trip 0 (-2048), Wf.governorSample [(17, 0, false)],
     Wf.governorSample [(0, 2048, false)], Wf.unitStart 50, Wf.unitStart 29, Wf.startFail 30, Wf.coldResetRelease 4,
     Wf.gddr7TrainingComplete 256, Wf.plinkTrained 2, Wf.refinQualified 0 0, Wf.refinQualified 3 0,
     Wf.refinQualified 1 (-0x80000000), Wf.warm (.mcore 4), Wf.handover (.mcore 4), Wf.cold (.mcore 4),
     Wf.profileSelect (.mcore 4) 0, Wf.profileSelect .host 4, Wf.profileWrite (.mcore 4) 0, Wf.profileWrite .host 4,
     Wf.doorbell (.mcore 4) 0x1000000 1, Wf.doorbell .host 16777215 1, Wf.doorbell .host 0x1008000 1,
     Wf.doorbell .host 0x1000000 0, Wf.doorbell .host 0x1000000 65, Wf.descriptorFetch 8192,
     Wf.descriptorReadComplete 8192, Wf.nop 8192, Wf.graphLaunch 8192, Wf.graphAbort 8192, Wf.tokenInject 8192,
     Wf.dmaList 8192].any id = false := by
  decide

theorem test_wellformed_accepted_2 :
    [Wf.nodeRun 0, Wf.completionWrite 0, Wf.modTimeExpiry 0, Wf.msixSend 0,
     Wf.holdConditionEnd .linkDown 5 16 512 4096 ⟨false, []⟩, Wf.load .host, Wf.bind .host, Wf.unbind .host,
     Wf.resume .host, Wf.bar4BaseWrite .host, Wf.bar4Access 0xFFFFFFFF 1 none, Wf.cqEnable .host 0,
     Wf.instanceAccept 0, Wf.nodeFetch 0, Wf.tokenRelease 0, Wf.arbiterDecision 1, Wf.nodeTimeout 0, Wf.timeout 0,
     Wf.preemptDone 0, Wf.preemptTo 0, Wf.groupDisable .host 0, Wf.groupDisableFlush .host 0 0,
     Wf.groupEnable .host 0 0, Wf.unitDisable .host, Wf.unitDisableFlush .host, Wf.unitEnable .host,
     Wf.privRecordAppend 0, Wf.spillRefill 0, Wf.privSet .host 0,
     Wf.coreDeviceAccess 19 0 8 (.store (List.replicate 8 1#8)), Wf.coreBoot 0, Wf.scoreHold .host 0,
     Wf.scoreGo .host 0, Wf.exit 0 0, Wf.boundary 0, Wf.inputCall 0, Wf.ttimeCall 0, Wf.datalog 0 0,
     Wf.stepException 0, Wf.stepKilled 0].all id = true := by
  decide

theorem test_illformed_refused_2 :
    [Wf.nodeRun 8192, Wf.completionWrite 64, Wf.modTimeExpiry 64, Wf.msixSend 256,
     Wf.holdConditionEnd .linkDown 0 16 512 4096 ⟨false, []⟩,
     Wf.holdConditionEnd .linkDown 6 16 512 4096 ⟨false, []⟩, Wf.holdConditionEnd .linkDown 5 3 512 4096 ⟨false, []⟩,
     Wf.holdConditionEnd .linkDown 5 16 1024 4096 ⟨false, []⟩, Wf.holdConditionEnd .linkDown 5 16 512 64 ⟨false, []⟩,
     Wf.load (.mcore 4), Wf.bind (.mcore 4), Wf.unbind (.mcore 4), Wf.resume (.mcore 4), Wf.bar4BaseWrite (.mcore 4),
     Wf.bar4Access 0xFFFFFFFF 0 none, Wf.bar4Access 0xFFFFFFFF 4097 none, Wf.bar4Access 0x100000000 1 none,
     Wf.bar4Access 0xFFFFFFFF 1 (some []), Wf.cqEnable (.mcore 4) 0, Wf.cqEnable .host 64, Wf.instanceAccept 8192,
     Wf.nodeFetch 512, Wf.tokenRelease 512, Wf.arbiterDecision 0, Wf.arbiterDecision 9, Wf.nodeTimeout 512,
     Wf.timeout 512, Wf.preemptDone 16, Wf.preemptTo 16, Wf.groupDisable (.mcore 4) 0, Wf.groupDisable .host 64,
     Wf.groupDisableFlush (.mcore 4) 0 0, Wf.groupDisableFlush .host 64 0, Wf.groupDisableFlush .host 0 256,
     Wf.groupEnable (.mcore 4) 0 0, Wf.groupEnable .host 64 0, Wf.groupEnable .host 0 256, Wf.unitDisable (.mcore 4),
     Wf.unitDisableFlush (.mcore 4), Wf.unitEnable (.mcore 4), Wf.privRecordAppend 4096, Wf.spillRefill 4096,
     Wf.privSet (.mcore 4) 0, Wf.privSet .host 4096, Wf.coreDeviceAccess 20 0 8 (.store (List.replicate 8 1#8)),
     Wf.coreDeviceAccess 19 0x10000000000000000 8 (.store (List.replicate 8 1#8)),
     Wf.coreDeviceAccess 19 0 3 (.store (List.replicate 8 1#8)), Wf.coreDeviceAccess 19 0 8 (.store []),
     Wf.coreDeviceAccess 19 0 8 (.amo [1#8]), Wf.coreBoot 20, Wf.scoreHold (.mcore 4) 0, Wf.scoreHold .host 16,
     Wf.scoreGo (.mcore 4) 0, Wf.scoreGo .host 16, Wf.exit 16 0, Wf.exit 0 256, Wf.boundary 16, Wf.inputCall 16,
     Wf.ttimeCall 16, Wf.datalog 16 0, Wf.datalog 0 64, Wf.stepException 16, Wf.stepKilled 16].any id = false := by
  decide

theorem test_wellformed_accepted_3 :
    [Wf.stepEcc 0, Wf.watchdogExpiry 0, Wf.kick .host 0, Wf.mcoreHold .host 0, Wf.mcoreGo .host 0,
     Wf.mgmtLoadUpdate [], Wf.microwordExecute 0 0, Wf.scrub 0, Wf.check .host, Wf.reload .host,
     Wf.firstEmission 0 0, Wf.vec 0 1, Wf.rpt 0 1, Wf.loop 0, Wf.endl 0, Wf.call 0, Wf.ret 0, Wf.jmp 0, Wf.jcc 0,
     Wf.matchInstr 0, Wf.wtrg 0, Wf.tset 0, Wf.lset 0, Wf.sigPulse 0, Wf.sigDriveHigh 0, Wf.sigDriveLow 0,
     Wf.sigArmTdc 0, Wf.sigTriggerAq 0, Wf.sigSetFlag 0, Wf.sigClearFlag 0, Wf.sync 0, Wf.holdOn 0, Wf.holdOff 0,
     Wf.endBurst 0, Wf.resultWaitEnd 0, Wf.wtrgTimeout 0 0, Wf.syncTimeout 0, Wf.matchExit 0, Wf.laneGroupEmit 0,
     Wf.pause .host 0].all id = true := by
  decide

theorem test_illformed_refused_3 :
    [Wf.stepEcc 20, Wf.watchdogExpiry 4, Wf.kick (.mcore 4) 0, Wf.kick .host 4, Wf.mcoreHold (.mcore 4) 0,
     Wf.mcoreHold .host 4, Wf.mcoreGo (.mcore 4) 0, Wf.mcoreGo .host 4, Wf.mgmtLoadUpdate [101],
     Wf.microwordExecute 32 0, Wf.microwordExecute 0 513, Wf.scrub 4096, Wf.check (.mcore 4), Wf.reload (.mcore 4),
     Wf.firstEmission 32 0, Wf.firstEmission 0 4, Wf.vec 32 1, Wf.vec 0 0, Wf.vec 0 17, Wf.rpt 32 1, Wf.rpt 0 0,
     Wf.rpt 0 17, Wf.loop 32, Wf.endl 32, Wf.call 32, Wf.ret 32, Wf.jmp 32, Wf.jcc 32, Wf.matchInstr 32, Wf.wtrg 32,
     Wf.tset 32, Wf.lset 32, Wf.sigPulse 32, Wf.sigDriveHigh 32, Wf.sigDriveLow 32, Wf.sigArmTdc 32,
     Wf.sigTriggerAq 32, Wf.sigSetFlag 32, Wf.sigClearFlag 32, Wf.sync 32, Wf.holdOn 32, Wf.holdOff 32,
     Wf.endBurst 32, Wf.resultWaitEnd 32, Wf.wtrgTimeout 32 0, Wf.wtrgTimeout 0 4, Wf.syncTimeout 32,
     Wf.matchExit 32, Wf.laneGroupEmit 32, Wf.pause (.mcore 4) 0, Wf.pause .host 32].any id = false := by
  decide

theorem test_wellformed_accepted_4 :
    [Wf.pauseClear .host 0, Wf.halt .host 0, Wf.clrMchk .host 0, Wf.burstComplete 0, Wf.tperWrite .host 0 0,
     Wf.vectorPlay 0 0, Wf.strobeJudgement 0 [(2, 0)], Wf.gap 0 0, Wf.proofRecordReceive 0, Wf.burstToken 0 0,
     Wf.spillCopy 0, Wf.traceHeaderWrite 0 0, Wf.rdWrite .host 0, Wf.srdWrite .host 0, Wf.fcntWrite .host 0,
     Wf.captureReturnRecord 0 (List.replicate 64 0), Wf.levelQueueApply 0, Wf.chLqcmd .host 0, Wf.hvLqcmd .host,
     Wf.relayLqcmd .host, Wf.lim 0, Wf.connWrite .host 0, Wf.pmuMeasComplete 0 [0] 1, Wf.pmuOff .host 0, Wf.ilim 0,
     Wf.limoffTrip 0, Wf.hvEnableWrite .host 0, Wf.rangeChangeEnd 0, Wf.relayOvercurrent 0, Wf.waveStart 0,
     Wf.listEntryFetch 0, Wf.passEnd 0, Wf.jumpGo .host 0, Wf.ddsStop .host 0, Wf.playbackEnd 0, Wf.swtrig .host 0,
     Wf.aqSwtrig .host 0, Wf.markerFire 0, Wf.syncinEdge 0, Wf.fire .host].all id = true := by
  decide

theorem test_illformed_refused_4 :
    [Wf.pauseClear (.mcore 4) 0, Wf.pauseClear .host 32, Wf.halt (.mcore 4) 0, Wf.halt .host 32,
     Wf.clrMchk (.mcore 4) 0, Wf.clrMchk .host 32, Wf.burstComplete 32, Wf.tperWrite (.mcore 4) 0 0,
     Wf.tperWrite .host 32 0, Wf.tperWrite .host 0 64, Wf.vectorPlay 32 0, Wf.vectorPlay 0 2,
     Wf.strobeJudgement 288 [(2, 0)], Wf.strobeJudgement 0 [], Wf.gap 32 0, Wf.gap 0 2, Wf.proofRecordReceive 32,
     Wf.burstToken 32 0, Wf.burstToken 0 2, Wf.spillCopy 32, Wf.traceHeaderWrite 32 0, Wf.traceHeaderWrite 0 2,
     Wf.rdWrite (.mcore 4) 0, Wf.rdWrite .host 32, Wf.srdWrite (.mcore 4) 0, Wf.srdWrite .host 32,
     Wf.fcntWrite (.mcore 4) 0, Wf.fcntWrite .host 256, Wf.captureReturnRecord 16 (List.replicate 64 0),
     Wf.captureReturnRecord 0 (List.replicate 63 0), Wf.levelQueueApply 21, Wf.chLqcmd (.mcore 4) 0,
     Wf.chLqcmd .host 2, Wf.hvLqcmd (.mcore 4), Wf.relayLqcmd (.mcore 4), Wf.lim 256, Wf.connWrite (.mcore 4) 0,
     Wf.connWrite .host 256, Wf.pmuMeasComplete 40 [0] 1, Wf.pmuMeasComplete 0 [] 1, Wf.pmuMeasComplete 0 [0] 0,
     Wf.pmuOff (.mcore 4) 0, Wf.pmuOff .host 256, Wf.ilim 32, Wf.limoffTrip 32, Wf.hvEnableWrite (.mcore 4) 0,
     Wf.hvEnableWrite .host 32, Wf.rangeChangeEnd 40, Wf.relayOvercurrent 64, Wf.waveStart 8, Wf.listEntryFetch 8,
     Wf.passEnd 8, Wf.jumpGo (.mcore 4) 0, Wf.jumpGo .host 8, Wf.ddsStop (.mcore 4) 0, Wf.ddsStop .host 8,
     Wf.playbackEnd 8, Wf.swtrig (.mcore 4) 0, Wf.swtrig .host 8, Wf.aqSwtrig (.mcore 4) 0, Wf.aqSwtrig .host 256,
     Wf.markerFire 8, Wf.syncinEdge 4, Wf.fire (.mcore 4)].any id = false := by
  decide

theorem test_wellformed_accepted_5 :
    [Wf.asCmd .host 0, Wf.asCommandApply 0, Wf.clim 0, Wf.climoffTrip 0, Wf.dev 0, Wf.aqWord 0 [0],
     Wf.aqRecordCopy 0, Wf.trigEdgeDetect 0 0, Wf.trigSet .host 0, Wf.trigClr .host 0, Wf.pulseEnd 0,
     Wf.refinRequalify 1 0, Wf.timebaseSrcWrite .host, Wf.tbTrimWrite .host, Wf.incWrite .host 0,
     Wf.adjWrite .host 0, Wf.tdSet .host 0, Wf.tdClr .host 0, Wf.fracRead .host 0, Wf.snapshotGo .host,
     Wf.frameReceive 0 0, Wf.rxdataRead .host 0, Wf.rxFlush .host 0, Wf.txdataWrite .host 0, Wf.frameTransmit 0 0,
     Wf.txFlush .host 0, Wf.tsqPop .host 0, Wf.portModeWrite .host 0, Wf.tdcArm 0, Wf.tdcStartEdge 0 0,
     Wf.tdcStopEdge 0 0, Wf.tdcWindowExpiry 0, Wf.calStart .host 0 0, Wf.calAbort .host, Wf.trackingUpdate 0,
     Wf.pageIdleExpiry 0 0, Wf.refreshDue 0, Wf.opportunisticRefresh 0, Wf.catchup 0, Wf.doubledRate 0].all id = true := by
  decide

theorem test_illformed_refused_5 :
    [Wf.asCmd (.mcore 4) 0, Wf.asCmd .host 8, Wf.asCommandApply 8, Wf.clim 8, Wf.climoffTrip 8, Wf.dev 8,
     Wf.aqWord 8 [0], Wf.aqWord 0 [], Wf.aqRecordCopy 8, Wf.trigEdgeDetect 11 0, Wf.trigEdgeDetect 0 4,
     Wf.trigSet (.mcore 4) 0, Wf.trigSet .host 8, Wf.trigClr (.mcore 4) 0, Wf.trigClr .host 8, Wf.pulseEnd 8,
     Wf.refinRequalify 0 0, Wf.refinRequalify 3 0, Wf.refinRequalify 1 (-0x80000000), Wf.timebaseSrcWrite (.mcore 4),
     Wf.tbTrimWrite (.mcore 4), Wf.incWrite (.mcore 4) 0, Wf.incWrite .host 4, Wf.adjWrite (.mcore 4) 0,
     Wf.adjWrite .host 4, Wf.tdSet (.mcore 4) 0, Wf.tdSet .host 4, Wf.tdClr (.mcore 4) 0, Wf.tdClr .host 4,
     Wf.fracRead (.mcore 4) 0, Wf.fracRead .host 4, Wf.snapshotGo (.mcore 4), Wf.frameReceive 2 0,
     Wf.frameReceive 0 4000, Wf.rxdataRead (.mcore 4) 0, Wf.rxdataRead .host 2, Wf.rxFlush (.mcore 4) 0,
     Wf.rxFlush .host 2, Wf.txdataWrite (.mcore 4) 0, Wf.txdataWrite .host 2, Wf.frameTransmit 2 0,
     Wf.frameTransmit 0 4000, Wf.txFlush (.mcore 4) 0, Wf.txFlush .host 2, Wf.tsqPop (.mcore 4) 0, Wf.tsqPop .host 2,
     Wf.portModeWrite (.mcore 4) 0, Wf.portModeWrite .host 2, Wf.tdcArm 36, Wf.tdcStartEdge 36 0,
     Wf.tdcStartEdge 0 4096, Wf.tdcStopEdge 36 0, Wf.tdcStopEdge 0 4096, Wf.tdcWindowExpiry 36,
     Wf.calStart (.mcore 4) 0 0, Wf.calStart .host 128 0, Wf.calStart .host 0 8, Wf.calAbort (.mcore 4),
     Wf.trackingUpdate 32, Wf.pageIdleExpiry 32 0, Wf.pageIdleExpiry 0 16, Wf.refreshDue 32,
     Wf.opportunisticRefresh 32, Wf.catchup 32, Wf.doubledRate 8].any id = false := by
  decide

theorem test_wellformed_accepted_6 :
    [Wf.normalRate 0, Wf.selfRefreshEntry 0, Wf.selfRefreshExit 0,
     Wf.memoryRequest 0 [⟨63, false, false, 0x7FFFFFFC0, 64, none⟩] 0, Wf.tableWalk 0 0 0 0,
     Wf.xltInvContext .host 0, Wf.xltInvPage .host 0, Wf.xltInvAll .host, Wf.fltClear .host 0,
     Wf.contextEnable .host 0, Wf.contextDisable .host 0, Wf.rootWrite .host 0, Wf.dmaDescriptorRead 0, Wf.copy 0 0,
     Wf.fill 0 0, Wf.regwr 0, Wf.dmaDescriptorComplete 0, Wf.preqAssert 0, Wf.dmaStop .host 0, Wf.dmaAbort .host 0,
     Wf.dmaResume .host 0, Wf.abandon .host 0, Wf.swreq .host 0, Wf.dmaTransferError 0 0, Wf.pdTimeout 0,
     Wf.pairEn .host, Wf.retry .host, Wf.trainingAttempt [⟨64, 255, false, false, 9, 11⟩], Wf.handshake 0 0,
     Wf.resyncComplete ⟨[], [], []⟩, Wf.fomMeasure 0 0, Wf.laneLoss 0, Wf.laneDisable 0, Wf.restripe 0,
     Wf.laneRetrain 0 0, Wf.forwardedWrite ⟨0, false⟩ 0x7FFFFFFFF [1#8], Wf.regionEnable .host 0,
     Wf.regionCopyDone 0, Wf.shadowEnable .host, Wf.burstStart 0 0 0 (List.replicate 16 0)].all id = true := by
  decide

theorem test_illformed_refused_6 :
    [Wf.normalRate 8, Wf.selfRefreshEntry 8, Wf.selfRefreshExit 8,
     Wf.memoryRequest 32 [⟨63, false, false, 0x7FFFFFFC0, 64, none⟩] 0,
     Wf.memoryRequest 0 [⟨63, false, false, 0x7FFFFFFC0, 64, none⟩] 6,
     Wf.memoryRequest 0 [⟨128, false, false, 0, 64, none⟩] 0, Wf.memoryRequest 0 [⟨0, false, false, 1, 64, none⟩] 0,
     Wf.memoryRequest 0 [⟨0, false, false, 0x800000000, 1, none⟩] 0, Wf.tableWalk 128 0 0 0,
     Wf.tableWalk 0 0x1000000000000 0 0, Wf.tableWalk 0 0 3 0, Wf.tableWalk 0 0 0 16, Wf.xltInvContext (.mcore 4) 0,
     Wf.xltInvContext .host 64, Wf.xltInvPage (.mcore 4) 0, Wf.xltInvPage .host 64, Wf.xltInvAll (.mcore 4),
     Wf.fltClear (.mcore 4) 0, Wf.fltClear .host 64, Wf.contextEnable (.mcore 4) 0, Wf.contextEnable .host 64,
     Wf.contextDisable (.mcore 4) 0, Wf.contextDisable .host 64, Wf.rootWrite (.mcore 4) 0, Wf.rootWrite .host 64,
     Wf.dmaDescriptorRead 32, Wf.copy 32 0, Wf.copy 0 4097, Wf.fill 32 0, Wf.fill 0 4097, Wf.regwr 32,
     Wf.dmaDescriptorComplete 32, Wf.preqAssert 32, Wf.dmaStop (.mcore 4) 0, Wf.dmaStop .host 32,
     Wf.dmaAbort (.mcore 4) 0, Wf.dmaAbort .host 32, Wf.dmaResume (.mcore 4) 0, Wf.dmaResume .host 32,
     Wf.abandon (.mcore 4) 0, Wf.abandon .host 32, Wf.swreq (.mcore 4) 0, Wf.swreq .host 32,
     Wf.dmaTransferError 32 0, Wf.dmaTransferError 0 3, Wf.pdTimeout 32, Wf.pairEn (.mcore 4), Wf.retry (.mcore 4),
     Wf.trainingAttempt [⟨65, 0, false, false, 0, 0⟩], Wf.trainingAttempt [⟨0, 256, false, false, 0, 0⟩],
     Wf.trainingAttempt [⟨0, 0, false, false, 10, 0⟩], Wf.trainingAttempt [⟨0, 0, false, false, 0, 12⟩],
     Wf.handshake 4 0, Wf.handshake 0 0x10000000000000000, Wf.resyncComplete ⟨[(0x4000000, 0#32)], [], []⟩,
     Wf.resyncComplete ⟨[], [⟨64, 0, 0#32, 0#32, 0#32, 0#32⟩], []⟩,
     Wf.resyncComplete ⟨[], [], [⟨4096, 0, 0, 4, 0, 0, false⟩]⟩,
     Wf.resyncComplete ⟨[], [], [⟨0, 0, 0, 3, 0, 0, false⟩]⟩, Wf.fomMeasure 65 0, Wf.fomMeasure 0 256,
     Wf.laneLoss 65, Wf.laneDisable 65, Wf.restripe 10, Wf.laneRetrain 65 0, Wf.laneRetrain 0 256,
     Wf.forwardedWrite ⟨0, false⟩ 0x7FFFFFFFF [], Wf.forwardedWrite ⟨64, false⟩ 0x7FFFFFFFF [1#8],
     Wf.forwardedWrite ⟨0, false⟩ 0x800000000 [1#8], Wf.regionEnable (.mcore 4) 0, Wf.regionEnable .host 16,
     Wf.regionCopyDone 16, Wf.shadowEnable (.mcore 4), Wf.burstStart 16 0 0 (List.replicate 16 0),
     Wf.burstStart 0 256 0 (List.replicate 16 0), Wf.burstStart 0 0 64 (List.replicate 16 0),
     Wf.burstStart 0 0 0 (List.replicate 15 0)].any id = false := by
  decide

theorem test_wellformed_accepted_7 :
    [Wf.decisionRecord 0, Wf.nodeDispatch 0, Wf.nodeEnd 0 0, Wf.descADescB 0 true (List.replicate 24 0#8),
     Wf.queueRecord 0 0, Wf.instEnd (List.replicate 16 0), Wf.consumed 0, Wf.configRecord 0, Wf.tokenRecord 0,
     Wf.journalAck 0, Wf.mirrorDecision 0, Wf.blockDeadline 0 0, Wf.portSwitch 0,
     Wf.tokenFrame (.iteration 15 0 0 [(255, true)]), Wf.controlFrame 0 ⟨5, 0, 0, 0, 0, zeroBytes 48⟩,
     Wf.primaryDown 0, Wf.wb .host, Wf.undock .host, Wf.plateReload .host, Wf.logicCheck 0, Wf.errRingEnable .host 0,
     Wf.errRingHeadWrite .host, Wf.forwardedClockRelock 0, Wf.holdoverExhausted 0, Wf.blockLockAcquired 0,
     Wf.linkDown 0, Wf.pmuLim 0, Wf.tdcRangeExceeded 0, Wf.mirrorBlockReceive 0 0, Wf.preemptWaitExpiry 0].all id = true := by
  decide

theorem test_illformed_refused_7 :
    [Wf.decisionRecord 16, Wf.nodeDispatch 64, Wf.nodeEnd 64 0, Wf.nodeEnd 0 256,
     Wf.descADescB 4096 true (List.replicate 24 0#8), Wf.descADescB 0 false (List.replicate 24 0#8),
     Wf.queueRecord 4096 0, Wf.queueRecord 0 64, Wf.instEnd (List.replicate 15 0), Wf.consumed 16,
     Wf.configRecord 0x4000000, Wf.tokenRecord 64, Wf.journalAck 0x100000000, Wf.mirrorDecision 16,
     Wf.blockDeadline 32 0, Wf.blockDeadline 0 2, Wf.portSwitch 16, Wf.tokenFrame (.burst 16 0 false),
     Wf.tokenFrame (.burst 0 2 false), Wf.tokenFrame (.failed 16 0), Wf.tokenFrame (.iteration 16 0 0 []),
     Wf.tokenFrame (.iteration 0 0 0 [(256, true)]), Wf.tokenFrame (.result 0 0 256 0 false),
     Wf.controlFrame 3 ⟨5, 0, 0, 0, 0, zeroBytes 48⟩, Wf.controlFrame 0 ⟨5, 0, 0, 0, 0, []⟩, Wf.primaryDown 2,
     Wf.wb (.mcore 4), Wf.undock (.mcore 4), Wf.plateReload (.mcore 4), Wf.logicCheck 3,
     Wf.errRingEnable (.mcore 4) 0, Wf.errRingEnable .host 16, Wf.errRingHeadWrite (.mcore 4),
     Wf.forwardedClockRelock 3, Wf.holdoverExhausted 3, Wf.blockLockAcquired 2, Wf.linkDown 2, Wf.pmuLim 256,
     Wf.tdcRangeExceeded 36, Wf.mirrorBlockReceive 16 0, Wf.mirrorBlockReceive 0 2, Wf.preemptWaitExpiry 512].any id = false := by
  decide

/-! ### Where registers and addresses lie -/

/-- Table 19 example: CH131 lies on P1, channel 3; D0 of its timing set 2; the word of LIND[139]. -/
theorem test_channel_addresses :
    chReg Reg.CH_DSK_DR 131 = 0x6003C0 ∧ Reg.CH_LIND 1 3 69 = 0x6C0D14 ∧
      (regAt 0x641844).map (fun p => p.2) = some [1, 3, 2] := by decide

/-- Example of Chapter 14: GRAIN 4 with BANK_HASH. -/
theorem test_gddr7_mapping :
    let m := (Machine.Mod.reset.wr Reg.DRC_MAP Fields.DRC_MAP.GRAIN 4).wr Reg.DRC_MAP Fields.DRC_MAP.BANK_HASH 1
    m.channelOf 0x123456780 = 22 ∧ m.channelAddr 0x123456780 = 0x91A2780 ∧ rowOf 0x91A2780 = 0x1234 ∧ m.bankOf 0x91A2780 = 0 := by
  decide

/-- Example of Chapter 15: the indices of VA 0x8061_0000 at the four levels. -/
theorem test_walk_indices : (List.range 4).map (fun l => walkIndex l 0x80610000) = [0, 2, 3, 1] := by decide

/-! ### Access and queues -/

/-- R3: a 16-bit access is discarded. -/
theorem test_malformed_write :
    after (.malformedAccess .host Reg.HAT_CTRL 2 true) (served id) (fun m =>
      m.flag Reg.ERR_ACCESS Fields.ERR_ACCESS.ACCESS_ERR && m.reg Reg.HAT_CTRL == 0x1401#32) = true := by decide

/-- A register of a bound ring keeps its size: the write is refused (R9). -/
theorem test_cq_size_refused :
    after (.registerWrite .host (Reg.HOST_CQ_CFG 0) 0x8000000A#32) (served fabric) (fun m =>
      m.flag Reg.ERR_ACCESS Fields.ERR_ACCESS.WR_REFUSED) = true := by decide

/-- Example of Chapter 4: CQ 2 with head 5, TAIL 2 and 16 slots has W 13 and 2 free; a doorbell of CQ_HEAD 13 makes W 5. -/
def cq2 (m : Machine.Mod) : Machine.Mod :=
  ((((fabric m).wr (Reg.HOST_CQ_CFG 2) Fields.HOST_CQ_CFG.SIZE_LOG2 4).wr (Reg.HOST_CQ_CFG 2) Fields.HOST_CQ_CFG.ENABLE 1).wr
    (Reg.HOST_CQ_STATE 2) Fields.HOST_CQ_STATE.TAIL 2).setCq 2 { (m.cq 2) with head := 5 }

theorem test_cq_space : (served cq2).m.cqUsed 2 = 13 ∧ (served cq2).m.cqFree 2 = 2 := by decide

theorem test_cq_doorbell :
    after (.doorbell .host 0x1000410 8 true 0x0000000D82000000#64)
      (served (fun m => (cq2 m).setQueue 130 { Queue.fresh with bound := true, cq := 2, sizeLog2 := 6, head := 62, tail := 62 }))
      (fun m => m.cqUsed 2 == 5 && (m.cq 2).head == 13) = true := by decide

/-- The same example, step 1: SQ_TAIL 1 of a 64-slot ring whose HEAD is 62 announces 3. -/
theorem test_sq_doorbell :
    after (.doorbell .host 0x1000410 8 true 0x0000000000010001#64)
      (served (fun m => (cq2 m).setQueue 130 { Queue.fresh with bound := true, cq := 2, sizeLog2 := 6, head := 62, tail := 62 }))
      (fun m => (m.queue 130).tail == 1) = true := by decide

/-! ### Power (Chapter 2) -/

/-- The throttle condition holds at 95.0 °C, and its clear condition at 89.875 °C. -/
theorem test_governor_thresholds :
    after (.governorSample 12000 0 [(1, 760, true)]) (served id) (fun m => m.throttling && !m.throttleClear) = true ∧
    after (.governorSample 12000 0 [(1, 719, true)]) (served id) (fun m => !m.throttling && m.throttleClear) = true := by decide

/-! ### Bursts, microcode and pins (Chapters 6 to 9) -/

/-- Example of Chapter 8: residue 139 with the calibrated tap 141 in the odd half of CH131_LIND69. -/
theorem test_tap : (Machine.Mod.reset.wr (Reg.CH_LIND 1 3 69) Fields.CH_LIND.TAP_ODD 141).tapOf true 131 139 = 141 := by decide

/-- A rising edge at 8,587 ET is released on TCLK cycle 8, phase 1. -/
theorem test_pin_event :
    (Machine.Mod.reset.pinEvent 131 5 true 8587 1).outs.head? = some (.pinEvent 131 5 8587 8 1 (Machine.Mod.reset.tapOf true 131 139) 1) := by
  decide

/-- PERIOD below 256 ET is stored as 256 (Table 8.4). -/
theorem test_tper_clamped :
    after (.tperWrite .host 4 3 255#32) (served id) (fun m => m.rd (Reg.SEQ_TPER 4 3) Fields.SEQ_TPER.PERIOD == 256) = true := by decide

/-- Example of Chapter 8: four vectors on a pin that is low. Vector 11's low, 52 ET after vector 12's high, is deferred to
256 ET after it, with EDGE_CONFLICT for set 4. Times are from the start of vector 11. -/
theorem test_edge_conflict :
    let low := Machine.Mod.reset.setPin 10 { Machine.Mod.reset.pin 10 with drive := .low }
    let m := (((low.placeDrive 10 ⟨452, 10, 0, 4, .level false⟩).placeDrive 10 ⟨2448, 12, 0, 5, .level true⟩).placeDrive 10
      ⟨2500, 11, 0, 4, .level false⟩).placeDrive 10 ⟨3472, 13, 0, 5, .level true⟩
    m.outs.filterMap (fun o => match o with
      | .pinEvent _ v t _ _ _ _ => some (v, t)
      | _ => none) = [(13, 3472), (11, 2704), (12, 2448)] ∧
      m.flag (chReg Reg.CH_TSTAT 10) Fields.CH_TSTAT.EDGE_CONFLICT = true ∧
      m.rd (chReg Reg.CH_TSTAT 10) Fields.CH_TSTAT.LAST_SET = 4 := by decide

/-! ### Levels, waves and time (Chapters 10 to 12) -/

/-- Example of Chapter 12: an ADJ of −200 ns leaves 200 ns to slew away. -/
theorem test_adjust :
    after (.adjWrite .host 1 0xFFFFFF38#32) (served id) (fun m =>
      (m.dom 1).remain == 200 * 2 ^ 32 && m.flag (Reg.TD_STATUS 1) Fields.TD_STATUS.SLEWING) = true := by decide

/-- An ADJ beyond JUMP_LIMIT is refused. -/
theorem test_adjust_refused :
    after (.adjWrite .host 1 (BitVec.ofInt 32 (-2000000))) (served id) (fun m =>
      (m.dom 1).remain == 0 && m.flag (Reg.TD_STATUS 1) Fields.TD_STATUS.JUMP_REFUSED) = true := by decide

/-- With SLEW 500 a slewed tick absorbs 8,589,934 units of 2^-32 ns. -/
theorem test_slew :
    (Machine.Mod.reset.wr (Reg.TD_CTRL 1) Fields.TD_CTRL.SLEW 500 |>.setDom 1 { Machine.Mod.reset.dom 1 with remain := 200 * 2 ^ 32 }).domSlewed 1 =
      8589934 := by decide

/-! ### Plate and faults (Chapters 17 and 18) -/

/-- Example of Chapter 18: the MSTATE of SEQ07 and the LSTAT of CH040. -/
theorem test_fault_registers : Reg.SEQ_MSTATE 7 = 0x407014 ∧ chReg Reg.CH_LSTAT 40 = 0x502804 := by decide

/-- A command whose operands the module does not have does nothing (assumption 108). -/
theorem test_ill_formed :
    Instr.wf (.sramUe 0x1000000) = false ∧
      after (.sramUe 0x1000000) State.reset (fun m => m.sramBad == [] && m.cmds == 1) = true := by decide

/-- Table 4.2: BAR0 lies at a multiple of 64 MiB. -/
theorem test_bars_refused :
    [Wf.holdConditionEnd .bmeClear 5 16 512 4096 ⟨false, [0x4000000, 0x1000000, 0x100000000]⟩,
     Wf.holdConditionEnd .bmeClear 5 16 512 4096 ⟨false, [0x2000000, 0x1000000, 0x100000000]⟩,
     Wf.holdConditionEnd .bmeClear 5 16 512 4096 ⟨false, [0x4000000, 0x800000, 0x100000000]⟩,
     Wf.holdConditionEnd .bmeClear 5 16 512 4096 ⟨false, [0x4000000, 0x1000000, 0x80000000]⟩,
     Wf.holdConditionEnd .bmeClear 5 16 512 4096 ⟨false, []⟩] = [true, false, false, false, false] := by decide

/-- Steps take the queue in order, and an empty queue idles. -/
theorem test_step_order :
    (match step ⟨[.sramCe 0, .sramCe 1], Machine.Mod.reset⟩ with
      | .next t => t.pending == [.sramCe 1] && t.m.cmds == 1
      | _ => false) = true := by decide

/-! ### The Site Link's coding (Chapter 16) -/

/-- R373: the pairs 00, 01, 11, 10 are the symbols 0 to 3; 1, 2, 3 precoded after 0 are 1, 1, 2. -/
theorem test_lane_coding :
    symbols [false, false, false, true, true, true, true, false] = [0, 1, 2, 3] ∧ precode [1, 2, 3] 0 = [1, 1, 2] := by decide

/-- R374: five words over three lanes. -/
theorem test_words_dealt : (List.range 3).map (fun i => dealt 3 i [10, 11, 12, 13, 14]) = [[10, 13], [11, 14], [12]] := by decide

/-! ### The hypotheses of the statements are met -/

theorem witness_EveryCommandCompletes :
    (∃ (c : Instr) (s : State), c.wf = true ∧ s.m.flt.halted = false) ∧ (∃ (c : Instr), c.wf = false) ∧
    (∃ (c : Instr) (s : State), c.wf = true ∧ s.m.flt.halted = true ∧ Instr.reaches c = false) :=
  ⟨⟨.sramCe 0xFFFFFF, st id, by decide⟩, ⟨.sramCe 0x1000000, by decide⟩,
    ⟨.nop 8191 0, st (fun m => { m with flt := { m.flt with halted := true } }), by decide⟩⟩

theorem witness_SoundQueueRuns :
    (∃ s : State, s.sound = true ∧ (match step s with | .next t => t.pending.length == 1 | _ => false) = true) ∧
    (∃ s : State, s.sound = true ∧ s.pending.length = 3 ∧ (stepsFrom 3 s).isSome = true) :=
  ⟨⟨⟨[.sramCe 0xFFFFFF, .nop 8191 0], Machine.Mod.reset⟩, by decide⟩,
    ⟨⟨[.nop 0 0, .sramUe 0xFFFFFF, .kick (.mcore 3) 3], Machine.Mod.reset⟩, by decide⟩⟩

theorem witness_HeldModuleStays :
    ∃ s : State, s.sound = true ∧ s.m.flt.halted = true ∧ s.pending.length = 2 ∧ s.pending.all (fun c => !Instr.reaches c) = true :=
  ⟨⟨[.nop 8191 0, .sramCe 0xFFFFFF], { Machine.Mod.reset with flt := { Machine.Mod.reset.flt with halted := true } }⟩, by decide⟩

theorem witness_DoorbellForm :
    (∃ (s : State) (init : Init) (q : Nat), s.m.serving = true ∧ init.wf = true ∧ init = .host ∧ q < 4096) ∧
    (∃ (s : State) (init : Init) (off size : Nat) (full : Bool), s.m.serving = true ∧ Wf.doorbell init off size = true ∧
      size = 8 ∧ off % 8 = 0 ∧ full = false) ∧
    (∃ (s : State) (init : Init) (off size : Nat) (full : Bool), s.m.serving = true ∧ Wf.doorbell init off size = true ∧
      (size ≠ 8 ∨ off % 8 ≠ 0) ∧ full = true) ∧
    (∃ off : Nat, inDoorbells off = true) ∧
    (∃ (s : State) (init : Init) (off width : Nat), s.m.taking = true ∧ Wf.malformedAccess init off width = true ∧
      inDoorbells off = true) :=
  ⟨⟨served id, .host, 4095, by decide⟩, ⟨served id, .host, 0x1007FF8, 8, false, by decide⟩,
    ⟨served id, .score 15, 0x1007FFC, 4, true, by decide⟩, ⟨0x1007FFF, by decide⟩, ⟨served id, .host, 0x1007FFC, 8, by decide⟩⟩

theorem witness_DomainLatch :
    (∃ (s : State) (init : Init) (k : Nat), s.m.taking = true ∧ init.wf = true ∧ k < 4 ∧ s.m.isLost 0 = false) ∧
    (∃ (init other : Init) (off : Nat), init.wf = true ∧ other.wf = true ∧ other ≠ init ∧ off < 0x4000000) ∧
    (∃ (m : Machine.Mod) (init : Init) (k : Nat), m.isLost 0 = false ∧ k < 4 ∧
      SMap.find m.latch (latchKey init (Reg.TD_SEC_HI k)) = none) :=
  ⟨⟨served id, .mcore 3, 3, by decide⟩, ⟨.host, .score 15, 0x3FFFFFF, by decide⟩, ⟨(served id).m, .host, 3, by decide⟩⟩

theorem witness_ApertureBase :
    (∃ (s : State) (init : Init) (v : Word) (base : Nat), s.m.serving = true ∧ s.m.journalOn = false ∧ init.wf = true ∧
      base = ((SMap.find s.m.stage (latchKey init Reg.HOST_BAR4_BASE_LO)).getD 0#32).toNat / 0x10000 * 0x10000 +
        0x100000000 * fget Fields.HOST_BAR4_BASE_HI.BASE_H v ∧ base = 0x700000000) ∧
    (∃ (s : State) (init : Init) (v : Word) (base : Nat), s.m.serving = true ∧ s.m.journalOn = false ∧ init.wf = true ∧
      base = ((SMap.find s.m.stage (latchKey init Reg.HOST_BAR4_BASE_LO)).getD 0#32).toNat / 0x10000 * 0x10000 +
        0x100000000 * fget Fields.HOST_BAR4_BASE_HI.BASE_H v ∧ 0x700000000 < base) ∧
    (∃ (s : State) (off n : Nat), s.m.serving = true ∧ Wf.bar4Access off n none = true ∧
      badBursts s.m.gddrBad (s.m.bar4Addr off) n = [] ∧
      (List.range n).all (fun i => !s.m.gddrOff (s.m.bar4Addr off + i)) = true) :=
  ⟨⟨served id, .host, 7#32, 0x700000000, by decide⟩,
    ⟨served (fun m => { m with stage := SMap.insert [] (latchKey .host Reg.HOST_BAR4_BASE_LO) 0x10000#32 }), .host, 7#32, 0x700010000,
      by decide⟩,
    ⟨served id, 0xFFFFFFFE, 2, by decide⟩⟩

theorem witness_SiteLinkCoding :
    (∃ l : List Bool, l.length % 2 = 0 ∧ l.length = 4) ∧ (∃ (l : List Nat) (p : Nat), (∀ x ∈ l, x < 4) ∧ p < 4 ∧ l.length = 4) ∧
    (∃ x : LaneTx, x.sym < 4) ∧ (∃ (n j : Nat) (ws : List Nat), 0 < n ∧ j < ws.length) :=
  ⟨⟨[true, false, false, true], by decide⟩, ⟨[0, 1, 2, 3], 3, by decide⟩, ⟨LaneTx.fresh, by decide⟩,
    ⟨12, 2, [5, 6, 7], by decide⟩⟩

theorem witness_ClockAndSramErrors :
    (∃ (s : State) (k u i : Nat), s.m.flt.halted = false ∧ k < 256 ∧ u < 16 ∧ i < 64 ∧ u ≠ srcSEQ ∧ u ≠ srcPRF ∧
      (u = srcWAVE → 8 ≤ i ∧ s.m.acqs = []) ∧ (u = srcHV → s.m.meass = []) ∧ (u = srcTIME → s.m.tim.tdcs = []) ∧
      (u = srcDMA → s.m.dma.runs = []) ∧ (u = srcMCS → i < 16 ∧ s.m.scores = []) ∧
      s.m.flag Reg.ERR_XING Fields.ERR_XING.VALID = false) ∧
    (∃ (s : State) (a : Nat), s.m.flt.halted = false ∧ 0xC00000 ≤ a ∧ a < 0xD00000 ∧ s.m.pairActive = false ∧
      (s.m.wave ((a - 0xC00000) / 0x20000)).job = none) ∧
    (∃ (s : State) (a : Nat), s.m.flt.halted = false ∧ a < 0x1000000) ∧
    (∃ (s : State) (d : Nat), d < 3) ∧
    (∃ (s : State) (d : Nat), d < 2) ∧
    (∃ (s : State) (d us : Nat), d < 2 ∧ s.m.flag Reg.GLB_DIE_STATUS ⟨5 + d, 1⟩ = true ∧ 2000 ≤ us) :=
  ⟨⟨st id, 255, 13, 5, by decide⟩,
    ⟨st id, 0xCFFFFF, by decide⟩,
    ⟨st (Mod.setReg Reg.ERR_SRAM_CE 0xFFFF#32), 0xFFFFFF, by decide⟩,
    ⟨st id, 2, by decide⟩,
    ⟨st (Mod.setReg Reg.GLB_DIE_STATUS 0xFF#32), 1, by decide⟩,
    ⟨st (Mod.setReg Reg.GLB_DIE_STATUS 0x40#32), 1, 2000, by decide⟩⟩

theorem witness_SupplyTrips :
    (∃ (s : State) (i us : Nat), i < 3 ∧ 20 < us ∧ s.m.isLost 3 = true) ∧
    (∃ (s : State) (ofs : Int) (us : Nat), ofs.natAbs < 2048 ∧ 1050 < ofs.natAbs ∧ 1000 ≤ us ∧ s.m.isLost 3 = true) ∧
    (∃ (s : State) (r us : Nat), r < 3 ∧ 10 < us) ∧
    (∃ (s : State) (r us : Nat), 3 ≤ r ∧ r < 22 ∧ 10 < us ∧ s.m.isLost (railDie r) = true) ∧
    (∃ (s : State) (k : Nat) (x : Int), k < 4 ∧ 840 ≤ x ∧ x < 2048 ∧ SMap.get badDefault s.m.sys.tripped 0 = false) ∧
    (∃ (s : State) (d : Nat), d < 2) :=
  ⟨⟨st (fun m => (m.setLost 3 true).setReg Reg.PWR_STATUS 0xFFFF#32), 2, 21, by decide⟩,
    ⟨st (Mod.setLost 3 true), -1051, 1000, by decide⟩,
    ⟨st id, 2, 11, by decide⟩,
    ⟨st (fun m => (m.setLost 3 true).setReg Reg.PWR_STATUS 0xFFFFFF#32), 21, 11, by decide⟩,
    ⟨st id, 3, 840, by decide⟩,
    ⟨st id, 1, by decide⟩⟩

theorem witness_SupplyEventsTakeDies :
    (∃ (s : State) (i us : Nat), i < 3 ∧ 20 < us ∧ s.m.isLost 3 = false) ∧
    (∃ (s : State) (ofs : Int) (us : Nat), ofs.natAbs < 2048 ∧ 1050 < ofs.natAbs ∧ 1000 ≤ us ∧ s.m.isLost 3 = false) ∧
    (∃ (s : State) (r us : Nat), 3 ≤ r ∧ r < 11 ∧ 10 < us ∧ s.m.isLost (5 + r) = false) ∧
    (∃ (s : State) (r us d : Nat), 11 ≤ r ∧ r < 19 ∧ 10 < us ∧ d = (r + 1) % 2 ∧ s.m.isLost (1 + d) = false) ∧
    (∃ (s : State) (r us : Nat), 19 ≤ r ∧ r < 22 ∧ 10 < us ∧ s.m.isLost 3 = false ∧ railDie r = 3) ∧
    (∃ (s : State) (k : Nat) (x : Int), 4 ≤ k ∧ k < 8 ∧ 840 ≤ x ∧ x < 2048 ∧
      SMap.get badDefault s.m.sys.tripped (k / 2 - 1) = false ∧ s.m.isLost (k / 2 - 1) = false) ∧
    (∃ (s : State) (x : Int), 840 ≤ x ∧ x < 2048 ∧ SMap.get badDefault s.m.sys.tripped 3 = false ∧ s.m.isLost 3 = false) ∧
    (∃ (s : State) (k : Nat) (x : Int), 9 ≤ k ∧ k < 17 ∧ 800 ≤ x ∧ x < 2048 ∧
      SMap.get badDefault s.m.sys.tripped (k - 1) = false ∧ s.m.isLost (k - 1) = false) ∧
    (∃ (s : State) (u : Nat), 1 ≤ u ∧ u < 9 ∧ s.m.unitStarted u = false ∧ s.m.unitLeft u = false ∧ s.m.powered = true ∧
      s.m.isLost (7 + u) = false) ∧
    (∃ (s : State) (u d : Nat), 9 ≤ u ∧ u < 29 ∧ startDie u = 1 + d ∧ s.m.unitStarted u = false ∧
      s.m.unitLeft u = false ∧ s.m.powered = true ∧ s.m.isLost (1 + d) = false) ∧
    (∃ (s : State), s.m.unitStarted 29 = false ∧ s.m.unitLeft 29 = false ∧ s.m.powered = true ∧ s.m.isLost 3 = false) ∧
    (∃ (s : State), s.m.unitStarted 0 = false ∧ s.m.unitLeft 0 = false ∧ s.m.powered = true) :=
  ⟨⟨st (fun m => (m.setReg Reg.PWR_STATUS 0xFFFF#32).setReg Reg.GLB_DIE_STATUS 0x4#32), 2, 21, by decide⟩,
    ⟨st (Mod.setReg Reg.GLB_DIE_STATUS 0x4#32), -1051, 1000, by decide⟩,
    ⟨st (Mod.setReg Reg.PWR_STATUS 0xFFFFFF#32), 10, 11, by decide⟩,
    ⟨st (fun m => (m.setReg Reg.PWR_STATUS 0xFFFFFF#32).setReg Reg.GLB_DIE_STATUS 0x3#32), 18, 11, 1, by decide⟩,
    ⟨st (fun m => (m.setReg Reg.PWR_STATUS 0xFFFFFF#32).setReg Reg.GLB_DIE_STATUS 0x4#32), 19, 11, by decide⟩,
    ⟨st (Mod.setReg Reg.GLB_DIE_STATUS 0x3#32), 7, 840, by decide⟩,
    ⟨st (Mod.setReg Reg.GLB_DIE_STATUS 0x4#32), 840, by decide⟩,
    ⟨st id, 16, 800, by decide⟩,
    ⟨st (Mod.wr Reg.GLB_START_STATE Fields.GLB_START_STATE.STATE 2), 8, by decide⟩,
    ⟨st (fun m => (m.wr Reg.GLB_START_STATE Fields.GLB_START_STATE.STATE 2).setReg Reg.GLB_DIE_STATUS 0x3#32), 28, 1,
      by decide⟩,
    ⟨st (fun m => (m.wr Reg.GLB_START_STATE Fields.GLB_START_STATE.STATE 2).setReg Reg.GLB_DIE_STATUS 0x4#32),
      by decide⟩,
    ⟨st (Mod.wr Reg.GLB_START_STATE Fields.GLB_START_STATE.STATE 2), by decide⟩⟩

theorem witness_H0Silence :
    (∃ (s : State) (us : Nat), 2000 ≤ us ∧ s.m.isLost 3 = false ∧ s.m.lqs = [] ∧ s.m.hvs = [] ∧ s.m.meass = [] ∧
      s.m.waves = [] ∧ s.m.acqs = [] ∧ s.m.tim.tdcs = []) ∧
    (∃ (s : State) (us : Nat), us < 2000) :=
  ⟨⟨st (Mod.setReg Reg.GLB_DIE_STATUS 0x4#32), 2000, by decide⟩,
    ⟨st id, 1999, by decide⟩⟩

theorem witness_GovernorLevels :
    (∃ (s : State) (mv ma : Nat), s.m.flt.halted = false) ∧
    (∃ (s : State) (us : Nat), s.m.flt.halted = false ∧ s.m.throttling = true ∧ 1000 ≤ us) ∧
    (∃ (s : State) (us : Nat), s.m.flt.halted = false ∧ s.m.throttleClear = true ∧ 10000 ≤ us) :=
  ⟨⟨st id, 70000, 65535, by decide⟩,
    ⟨st (fun m => (m.wr Reg.PWR_VIN_MEAS Fields.PWR_VIN_MEAS.CURR 60000).wr Reg.PWR_GOV_CTRL
      Fields.PWR_GOV_CTRL.MAX_LEVEL 4), 1000, by decide⟩,
    ⟨st (fun m => { m with sys := { m.sys with govLevel := 3 } }), 10000, by decide⟩⟩

theorem witness_StartSequence :
    (∃ (s : State) (p ms aux : Nat), p < 4 ∧ s.m.sys.coldHeld = true ∧ 10 ≤ aux) ∧
    (∃ (s : State) (ms : Nat), s.m.startState = 0 ∧ 5 ≤ ms ∧ s.m.sys.vinLatched = false ∧ s.m.isLost 0 = false ∧
      s.m.sys.coldHeld = false) ∧
    (∃ (s : State) (u : Nat), u < 50 ∧ u ≠ 29 ∧ s.m.nextUnit u = true) ∧
    (∃ (s : State) (u : Nat), u < 30 ∧ s.m.unitStarted u = false ∧ s.m.unitLeft u = false ∧ s.m.powered = true ∧
      s.m.isLost (startDie u) = true) ∧
    (∃ (s : State) (ms : Nat), s.m.unitStarted 29 = false ∧ s.m.isLost 3 = false ∧ 2 ≤ ms ∧ s.m.powered = true ∧
      (List.range 29).all (fun u => s.m.unitStarted u || s.m.unitLeft u) = true) ∧
    (∃ (s : State), s.m.unitStarted 0 = true) ∧
    (∃ (s : State), s.m.unitStarted 0 = true ∧ s.m.pcie.perst = false) :=
  ⟨⟨State.reset, 3, 0, 10, by decide⟩,
    ⟨st (fun m => { (m.wr Reg.GLB_START_STATE Fields.GLB_START_STATE.STATE 0) with sys := { m.sys with coldHeld := false } }),
      5, by decide⟩,
    ⟨st (Mod.wr Reg.GLB_START_STATE Fields.GLB_START_STATE.STATE 2), 0, by decide⟩,
    ⟨st (fun m => (m.wr Reg.GLB_START_STATE Fields.GLB_START_STATE.STATE 2).setLost 3 true), 29, by decide⟩,
    ⟨st (fun m => (m.wr Reg.GLB_START_STATE Fields.GLB_START_STATE.STATE 2).each (List.range 29) (fun u s =>
      s.setStarted u true)), 2, by decide⟩,
    ⟨st (Mod.setStarted 0 true), by decide⟩,
    ⟨st (fun m => { (m.setStarted 0 true) with pcie := { m.pcie with perst := false } }), by decide⟩⟩

theorem witness_StartTraining :
    (∃ (s : State), s.m.sys.coldHeld = false ∧ s.m.startState = 1 ∧ s.m.unitStarted 0 = false ∧
      s.m.pickSlot (s.m.rd Reg.GLB_START_STATE Fields.GLB_START_STATE.PROFILE) = none) ∧
    (∃ (s : State) (k : Nat), s.m.sys.coldHeld = false ∧ s.m.startState = 1 ∧ s.m.unitStarted 0 = false ∧
      s.m.pickSlot (s.m.rd Reg.GLB_START_STATE Fields.GLB_START_STATE.PROFILE) = some k) ∧
    (∃ (s : State), s.m.flt.halted = false ∧ s.m.unitStarted 0 = true ∧ s.m.sys.flashLoaded = false ∧
      2 ≤ s.m.startState ∧ s.m.flag Reg.GLB_START_STATE Fields.GLB_START_STATE.PROF_BAD = true ∧ s.m.fwPick = none ∧
      s.m.rtPick = none) ∧
    (∃ (s : State) (f r n : Nat), s.m.flt.halted = false ∧ s.m.unitStarted 0 = true ∧ s.m.sys.flashLoaded = false ∧
      2 ≤ s.m.startState ∧ s.m.flag Reg.GLB_START_STATE Fields.GLB_START_STATE.PROF_BAD = true ∧ s.m.fwPick = some f ∧
      s.m.rtPick = some r ∧ n = (SMap.get (fun _ => RtSlot.blank) s.m.sys.runtime r).length) ∧
    (∃ (s : State) (bad : Nat), s.m.flt.halted = false ∧ bad < 256 ∧ s.m.sys.gddrTrained = false ∧
      (List.range 9).all (fun u => s.m.unitStarted u || s.m.unitLeft u) = true ∧ 2 ≤ s.m.startState ∧ (∀ k : Nat,
      k < 8 → s.m.isLost (8 + k) = false)) ∧
    (∃ (s : State) (d : Nat), d < 2 ∧ s.m.unitStarted (9 + d) = true ∧ s.m.isLost (1 + d) = false ∧ s.m.powered = true) ∧
    (∃ (s : State), s.m.unitStarted 29 = true ∧ s.m.isLost 3 = false ∧ s.m.powered = true ∧ s.m.sys.h0Records = []) ∧
    (∃ (s : State) (ms : Nat), s.m.startState = 4 ∧ s.m.flag Reg.GLB_START_STATE Fields.GLB_START_STATE.PROF_BAD = true) ∧
    (∃ (s : State) (ms : Nat), s.m.startState = 4 ∧ s.m.flag Reg.GLB_START_STATE Fields.GLB_START_STATE.PROF_BAD = false
      ∧ s.m.flag Reg.GLB_START_STATE Fields.GLB_START_STATE.MCS_BAD = false ∧ (s.m.slot s.m.slotInUse).factory = true ∧
      s.m.profRole = 0 ∧ s.m.sys.vinLatched = false) :=
  ⟨⟨st (fun m => { (m.wr Reg.GLB_START_STATE Fields.GLB_START_STATE.STATE 1) with sys := { m.sys with coldHeld := false, slots := (List.range 8).map (fun k => (k, Slot.blank)) } }),
      by decide⟩,
    ⟨st (fun m => { (m.wr Reg.GLB_START_STATE Fields.GLB_START_STATE.STATE 1) with sys := { m.sys with coldHeld := false, slots := [(1, { bytes := [(0, 0x46), (1, 0x50), (2, 0x59), (3, 0x4C)], crcOk := true, factory := false })] } }),
      1, by decide⟩,
    ⟨st (fun m => { (m.setReg Reg.GLB_START_STATE 0x802#32).setStarted 0 true with sys := { (m.setStarted 0 true).sys with firmware := [], runtime := [] } }),
      by decide⟩,
    ⟨st (fun m => (m.setReg Reg.GLB_START_STATE 0x802#32).setStarted 0 true), 0, 0, 24576, by decide⟩,
    ⟨st (fun m => (m.wr Reg.GLB_START_STATE Fields.GLB_START_STATE.STATE 2).each (List.range 9) (fun u s => s.setStarted
      u true)), 0x81, by decide⟩,
    ⟨st (fun m => (m.wr Reg.GLB_START_STATE Fields.GLB_START_STATE.STATE 2).setStarted 10 true), 1, by decide⟩,
    ⟨st (fun m => (m.wr Reg.GLB_START_STATE Fields.GLB_START_STATE.STATE 2).setStarted 29 true), by decide⟩,
    ⟨st (Mod.setReg Reg.GLB_START_STATE 0x804#32), 9, by decide⟩,
    ⟨st (fun m => { (m.setReg Reg.GLB_START_STATE 0x4#32) with sys := { m.sys with slots := [(0, { bytes := [], crcOk := true, factory := true })] } }),
      70000, by decide⟩⟩

theorem witness_ColdResetLeaves :
    (∃ (s : State) (ns : Nat), 1000 ≤ ns) ∧
    (∃ (s : State) (ns : Nat), ns < 100) :=
  ⟨⟨st (Mod.setReg Reg.GLB_DIE_STATUS 0x4#32), 1000, by decide⟩,
    ⟨st id, 99, by decide⟩⟩

theorem witness_FatalAndDelivery :
    (∃ (s : State) (u : Nat), s.m.flt.halted = false ∧ u < 3 ∧ s.m.flag Reg.ERR_CFG Fields.ERR_CFG.FATAL_ACTION = true ∧
      s.m.pairActive = false ∧ s.m.flag Reg.ERR_FATAL Fields.ERR_FATAL.VALID = false) ∧
    (∃ (s : State) (r : PrivRec) (rest : List PrivRec), s.m.flt.halted = false ∧
      (s.m.queue (s.m.rd Reg.ERR_CFG Fields.ERR_CFG.QUEUE)).priv = r :: rest ∧
      s.m.flag Reg.ERR_CFG Fields.ERR_CFG.EN = true ∧ s.m.evtOpen = true ∧ s.m.evtTail < s.m.evtSize ∧
      s.m.evtSize ≤ 4096) ∧
    (∃ (s : State) (n : Nat), s.m.flt.halted = false ∧ s.m.dma.runs = [] ∧ n < 32 ∧ (s.m.seq n).job.isSome = true) ∧
    (∃ (s : State), s.m.flt.halted = false ∧ s.m.dma.runs = [] ∧ s.m.seqs = [] ∧ s.m.plt.counting = false ∧
      s.m.flag Reg.PLT_STATUS Fields.PLT_STATUS.WB_BUSY = false ∧
      s.m.flag Reg.PLT_STATUS Fields.PLT_STATUS.WB_PENDING = false ∧ s.m.cqs = []) ∧
    (∃ (s : State) (ok : Bool) (p : Nat), s.m.flt.halted = false ∧ s.m.sys.profWrite = some p ∧
      ofBytes (memRead s.m.gddr (s.m.rd64 Reg.GLB_FLASH_SRC_LO) 4) ≠ 0x4C595046) :=
  ⟨⟨st (Mod.wr Reg.ERR_CFG Fields.ERR_CFG.FATAL_ACTION 1), 2, by decide⟩,
    ⟨st (fun m => ((((((m.wr Reg.ERR_CFG Fields.ERR_CFG.EN 1).wr Reg.ERR_RING_CFG Fields.ERR_RING_CFG.ENABLE 1).wr
      Reg.ERR_RING_CFG Fields.ERR_RING_CFG.SIZE_LOG2 4).wr Reg.HOST_STATUS Fields.HOST_STATUS.BME 1).wr Reg.HOST_STATUS
      Fields.HOST_STATUS.HOLDING 0).wr Reg.GLB_START_STATE Fields.GLB_START_STATE.STATE 6).setQueue (m.rd Reg.ERR_CFG
      Fields.ERR_CFG.QUEUE) { Queue.fresh with priv := [⟨zeroBytes 64⟩] }), ⟨zeroBytes 64⟩, [], by decide⟩,
    ⟨st (seqAt id (insn 0 0 0 0 0 0)), 5, by decide⟩,
    ⟨st id, by decide⟩,
    ⟨st (fun m => { m with sys := { m.sys with profWrite := some 1 } }), true, 1, by decide⟩⟩

theorem witness_DescriptorFetch :
    (∃ (s : State) (q n : Nat), s.m.flt.halted = false ∧ q < 8192 ∧ s.m.mayFetch q n = true) ∧
    (∃ (s : State) (q sl : Nat) (bs : List Byte), s.m.flt.halted = false ∧ q < 8192 ∧ (s.m.queue q).fetches = [⟨sl,
      1⟩] ∧ (s.m.queue q).halted = false ∧ (s.m.queue q).halting = none ∧ bs.length = 64 ∧ descInvalid bs = none ∧
      s.m.journalOn = false) ∧
    (∃ (s : State) (q sl code : Nat) (bs : List Byte), s.m.flt.halted = false ∧ q < 4096 ∧ (s.m.queue q).fetches = [⟨sl,
      1⟩] ∧ (s.m.queue q).halted = false ∧ (s.m.queue q).halting = none ∧ bs.length = 64 ∧ descInvalid bs = some code ∧
      descQuiet bs = false) ∧
    (∃ (s : State) (q : Nat) (f : Fetch) (rest : List Fetch), s.m.flt.halted = false ∧ q < 4096 ∧
      (s.m.queue q).fetches = f :: rest) :=
  ⟨⟨st (fun m => (fabric m).setQueue 0 { Queue.fresh with bound := true, base := 0x10000, tail := 3 }), 0, 3,
      by decide⟩,
    ⟨st (fun m => (fabric m).setQueue 5 { Queue.fresh with bound := true, head := 15, fetches := [⟨15, 1⟩] }), 5, 15,
      zeroBytes 64, by decide⟩,
    ⟨st (fun m => (fabric m).setQueue 5 { Queue.fresh with bound := true, haltOnInvalid := true, fetches := [⟨0, 1⟩] }),
      5, 0, 4, 6#8 :: zeroBytes 63, by decide⟩,
    ⟨st (fun m => (fabric m).setQueue 5 { Queue.fresh with bound := true, fetches := [⟨0, 2⟩, ⟨2, 1⟩] }), 5, ⟨0, 2⟩,
      [⟨2, 1⟩], by decide⟩⟩

theorem witness_DescriptorsEnd :
    (∃ (s : State) (q k : Nat) (d : Desc), s.m.flt.halted = false ∧ q < 4096 ∧ s.m.takeable q k 0 = some d ∧
      descQuiet d.bytes = false) ∧
    (∃ (s : State) (q k : Nat) (d : Desc), s.m.flt.halted = false ∧ q < 4096 ∧ s.m.takeable q k 0 = some d ∧
      descQuiet d.bytes = true) ∧
    (∃ (s : State) (q k : Nat) (d : Desc), s.m.flt.halted = false ∧ q < 4096 ∧ s.m.takeable q k 2 = some d ∧
      descQuiet d.bytes = false ∧ s.m.runningInst (descSite d.bytes) (fieldAt d.bytes 8 4) = none ∧
      (s.m.dropDesc q k).queuedGraph (descSite d.bytes) (fieldAt d.bytes 8 4) = none) ∧
    (∃ (s : State) (q k qt kt c : Nat) (d g : Desc), s.m.flt.halted = false ∧ q < 4096 ∧ qt < 4096 ∧
      s.m.takeable q k 2 = some d ∧ descQuiet d.bytes = false ∧ descQuiet g.bytes = false ∧
      s.m.runningInst (descSite d.bytes) (fieldAt d.bytes 8 4) = none ∧
      (s.m.dropDesc q k).queuedGraph (descSite d.bytes) (fieldAt d.bytes 8 4) = some (qt, kt) ∧
      ((s.m.dropDesc q k).queue qt).onchip[kt]? = some g ∧ (s.m.queue q).cq = c ∧ (s.m.queue qt).cq = c) ∧
    (∃ (s : State) (q k i : Nat) (d : Desc) (x y : Inst), s.m.flt.halted = false ∧ q < 4096 ∧
      s.m.takeable q k 3 = some d ∧ descQuiet d.bytes = false ∧ s.m.journalOn = false ∧
      s.m.runningInst (descSite d.bytes) (fieldAt d.bytes 8 4) = some i ∧ s.m.inst i = some x ∧
      fieldAt d.bytes 12 2 < x.edges.length ∧ (x.edge (fieldAt d.bytes 12 2)).src = 0xFFFF ∧
      x.token (fieldAt d.bytes 12 2) = none ∧ y = x.setToken (fieldAt d.bytes 12 2) (some (edgeToken (x.edge (fieldAt
      d.bytes 12 2)) ⟨BitVec.ofNat 64 (fieldAt d.bytes 16 8), false, false⟩)) ∧ y.quitStatus = none ∧
      y.finished = false ∧ (∀ j : Nat, j < y.nodes.length → (y.nodeSt j ≠ NodeSt.waiting ∨ y.turn j = Turn.wait))) :=
  ⟨⟨st (onQueue (descr 0 [])), 0, 0, descr 0 [], by decide⟩,
    ⟨st (onQueue ⟨0, 0, [0#8, 4#8] ++ zeroBytes 62, false⟩), 0, 0, ⟨0, 0, [0#8, 4#8] ++ zeroBytes 62, false⟩, by decide⟩,
    ⟨st (onQueue (descr 2 [])), 0, 0, descr 2 [], by decide⟩,
    ⟨st (fun m => (onQueue (descr 2 []) m).setQueue 3 { Queue.fresh with bound := true, onchip := [descr 1 []] }), 0, 0,
      3, 0, 0, descr 2 [], descr 1 [], by decide⟩,
    ⟨st (fun m => (onQueue (descr 3 []) m).setInst 0 (some (instOf [nodeOf 2] [⟨0xFFFF, 0, 0, 0⟩, ⟨0xFFFF, 0, 0, 0⟩]))),
      0, 0, 0, descr 3 [], instOf [nodeOf 2] [⟨0xFFFF, 0, 0, 0⟩, ⟨0xFFFF, 0, 0, 0⟩], (instOf [nodeOf 2] [⟨0xFFFF, 0, 0,
      0⟩, ⟨0xFFFF, 0, 0, 0⟩]).setToken 0 (some ⟨0, false, false⟩), by decide⟩⟩

theorem witness_LaunchesAndLists :
    (∃ (s : State) (q k i r : Nat) (d : Desc) (n : NodeD) (host : List Host.Cell), s.m.flt.halted = false ∧ q < 8192 ∧
      s.m.takeable q k 1 = some d ∧ s.m.siteLost (descSite d.bytes) = false ∧
      s.m.readGraph (q / 64) (fieldAt d.bytes 8 6) host = .ok ⟨[n], [], r⟩ ∧
      s.m.runningInst (descSite d.bytes) (fieldAt d.bytes 24 4) = none ∧ s.m.freeSlot = some i ∧ n.cls ≠ 9 ∧
      (s.m.queue (64 * (q / 64) + n.qsel)).ready.length < 16 ∧ (s.m.queue (64 * (q / 64) + n.qsel)).held = []) ∧
    (∃ (s : State) (q k i : Nat) (d : Desc) (n : NodeD) (host : List Host.Cell), s.m.flt.halted = false ∧ q < 8192 ∧
      s.m.takeable q k 5 = some d ∧ s.m.siteLost (descSite d.bytes) = false ∧
      s.m.readNode (q / 64) (fieldAt d.bytes 8 6) host = .ok ⟨[n], [⟨0, 0xFFFF, 0, 0⟩], 0⟩ ∧ s.m.freeSlot = some i ∧
      n.cls ≠ 9 ∧ (s.m.queue (64 * (q / 64) + n.qsel)).ready.length < 16 ∧
      (s.m.queue (64 * (q / 64) + n.qsel)).held = []) ∧
    (∃ (s : State) (q k i : Nat) (d : Desc) (n : NodeD) (host : List Host.Cell), s.m.flt.halted = false ∧ q < 8192 ∧
      (s.m.queue q).onchip[k]? = some d ∧ d.waiting = true ∧ descOpcode d.bytes = 5 ∧ s.m.takeable q k 5 = some d ∧
      s.m.siteLost (descSite d.bytes) = false ∧ s.m.readNode (q / 64) (fieldAt d.bytes 8 6) host = .ok ⟨[n], [⟨0,
      0xFFFF, 0, 0⟩], 0⟩ ∧ s.m.freeSlot = some i ∧ n.cls ≠ 9 ∧ (s.m.queue (64 * (q / 64) + n.qsel)).ready.length < 16 ∧
      (s.m.queue (64 * (q / 64) + n.qsel)).held = []) ∧
    (∃ (s : State) (i k : Nat) (x : Inst) (bs : List Byte) (host : List Host.Cell), s.m.flt.halted = false ∧ i < 512 ∧
      s.m.inst i = some x ∧ k < x.nodes.length ∧ x.quitStatus = none ∧
      s.m.devRecord x.group host (x.image + (if x.nodeRun then 0 else 64 + 64 * k)) 64 = .ok bs) ∧
    (∃ (s : State) (q k ch : Nat) (d : Desc) (h : List Byte) (host : List Host.Cell), s.m.flt.halted = false ∧
      q < 8192 ∧ s.m.takeable q k 4 = some d ∧ byteAt d.bytes 14 = ch ∧ ch < 32 ∧ s.m.unitFree 7 ch = true ∧
      fieldAt d.bytes 8 6 % 32 = 0 ∧ ((s.m.dropDesc q k).dmaClaim ch (.desc q d.serial d.bytes) (q / 64) (fieldAt
      d.bytes 8 6)).devRecord (q / 64) host (fieldAt d.bytes 8 6) 32 = .ok h ∧ listHeaderOk h = true) :=
  ⟨⟨st (fun m => mapped (onQueue (descr 1 (leBytes 8 0x4000)) m)), 0, 0, 0, 0xFFFF, descr 1 (leBytes 8 0x4000),
      nodeOf 2, graphImage, by decide⟩,
    ⟨st (fun m => mapped (onQueue (descr 5 (leBytes 8 0x4000)) m)), 0, 0, 0, descr 5 (leBytes 8 0x4000), nodeOf 2,
      nodeImage, by decide⟩,
    ⟨st (fun m => mapped (onQueue { descr 5 (leBytes 8 0x4000) with waiting := true } m)), 0, 0, 0,
      { descr 5 (leBytes 8 0x4000) with waiting := true }, nodeOf 2, nodeImage, by decide⟩,
    ⟨st (fun m => mapped (m.setInst 7 (some { instOf [nodeOf 2] [] with image := 0x4000 }))), 7, 0,
      { instOf [nodeOf 2] [] with image := 0x4000 }, BitVec.ofNat 8 2 :: zeroBytes 63, graphImage, by decide⟩,
    ⟨st (fun m => mapped (onQueue (descr 4 (leBytes 6 0x4000 ++ [31#8])) m)), 0, 0, 31,
      descr 4 (leBytes 6 0x4000 ++ [31#8]), leBytes 4 0x444D4131 ++ [2#8] ++ zeroBytes 3 ++ [1#8] ++ zeroBytes 23,
      cellsAt 0x4000 (leBytes 4 0x444D4131 ++ [2#8] ++ zeroBytes 3 ++ [1#8] ++ zeroBytes 23), by decide⟩⟩

theorem witness_CompletionsAndInterrupts :
    (∃ (s : State) (c : Nat) (x : Comp) (rest : List Comp), s.m.flt.halted = false ∧ c < 64 ∧
      (s.m.cq c).waiting = x :: rest ∧ s.m.cqOn c = true ∧ s.m.pcieLive = true ∧ s.m.journalOn = false ∧
      s.m.cqTail c < s.m.cqSize c ∧ s.m.cqSize c ≤ 65536) ∧
    (∃ (s : State) (c : Nat) (x : Comp) (rest : List Comp), s.m.flt.halted = false ∧ c < 64 ∧
      (s.m.cq c).waiting = x :: rest ∧ s.m.cqOn c = true ∧ s.m.pcieLive = true ∧ s.m.journalOn = false ∧
      (s.m.queue x.queue).halting = some x.serial) ∧
    (∃ (s : State) (c us : Nat), s.m.flt.halted = false ∧ c < 64 ∧ (s.m.cq c).timer = true ∧
      s.m.rd (Reg.HOST_CQ_CFG c) Fields.HOST_CQ_CFG.MOD_TIME ≠ 0 ∧
      s.m.rd (Reg.HOST_CQ_CFG c) Fields.HOST_CQ_CFG.MOD_TIME ≤ us ∧ s.m.pcieLive = true ∧
      s.m.vecMasked (s.m.rd (Reg.HOST_CQ_CFG c) Fields.HOST_CQ_CFG.VEC) = false) ∧
    (∃ (s : State) (v : Nat), s.m.flt.halted = false ∧ v < 256 ∧ (s.m.pcie.due.contains v || s.m.vecPending v) = true ∧
      s.m.vecMasked v = false ∧ s.m.pcieLive = true) ∧
    (∃ (s : State) (c : HoldCond), s.m.dma.runs = []) ∧
    (∃ (s : State) (speed width mps mrrs : Nat) (ero : Bool) (bars : List Nat),
      Wf.holdConditionEnd .linkDown speed width mps mrrs ⟨ero, bars⟩ = true ∧ s.m.dma.runs = [] ∧
      s.m.pcie.perst = false ∧ s.m.pcie.d3hot = false ∧ s.m.flag Reg.HOST_STATUS Fields.HOST_STATUS.BME = true) ∧
    (∃ (s : State), s.m.pcie.due.all (fun v => decide (v < 256)) = true) :=
  ⟨⟨st (fun m => (fabric m).setCq 0 { Cq.fresh with resv := 1, waiting := [descComp 0 0 [] 0 0#32] }), 0,
      descComp 0 0 [] 0 0#32, [], by decide⟩,
    ⟨st (fun m => ((fabric m).setCq 0 { Cq.fresh with resv := 1, waiting := [descComp 4095 7 [] 4 0#32] }).setQueue 4095
      { Queue.fresh with bound := true, halting := some 7 }), 0, descComp 4095 7 [] 4 0#32, [], by decide⟩,
    ⟨st (fun m => (((fabric m).wr (Reg.HOST_CQ_CFG 0) Fields.HOST_CQ_CFG.MOD_TIME 7).setReg 0x11000C 0#32).setCq
      0 { Cq.fresh with timer := true, count := 3 }), 0, 7, by decide⟩,
    ⟨st (fun m => ((fabric m).setReg (0x11000C + 16 * 255) 0#32).setPending 255 true), 255, by decide⟩,
    ⟨st (fun m => (fabric m).setQueue 5 { Queue.fresh with bound := true, fetches := [⟨0, 2⟩] }), .d3hot, by decide⟩,
    ⟨st (Mod.wr Reg.HOST_STATUS Fields.HOST_STATUS.BME 1), 5, 16, 512, 4096, true, [0x100000000, 0x110000000,
      0x200000000], by decide⟩,
    ⟨st (fun m => { fabric m with pcie := { Pcie.fresh with due := [3, 200] } }), by decide⟩⟩

theorem witness_NodesEnd :
    (∃ (s : State) (us : Nat) (r : Report) (rest : List Report) (x : Inst), s.m.flt.halted = false ∧
      s.m.hat.reports = r :: rest ∧ s.m.inst r.inst = some x ∧ s.m.journalFull = false ∧ s.m.pairActive = false ∧
      s.m.traceOn = false ∧ x.quitStatus = none ∧ r.status = stOK ∧ (x.node r.node).settle ≠ 0) ∧
    (∃ (s : State) (i k us : Nat) (x y : Inst) (tok : Token), s.m.flt.halted = false ∧ i < 512 ∧ s.m.inst i = some x ∧
      x.nodeSt k = .settling tok ∧ (x.node k).settle ≤ us ∧ x.quitStatus = none ∧
      y = (x.setSt k NodeSt.done).placeTokens k tok ∧ y.finished = false ∧ (∀ j : Nat,
      j < y.nodes.length → (y.nodeSt j ≠ NodeSt.waiting ∨ y.turn j = Turn.wait))) ∧
    (∃ (s : State) (i us u : Nat) (x : Inst), s.m.flt.halted = false ∧ i < 512 ∧ s.m.inst i = some x ∧
      x.quitStatus = none ∧ x.nodes.length = 1 ∧ x.nodeSt 0 = .running 4 u ∧ (x.node 0).timeout ≠ 0 ∧
      (x.node 0).timeout ≤ us ∧ s.m.queues.all (fun e => (e.2.ready ++ e.2.held).all (fun r => r.inst != i)) = true ∧
      s.m.hat.preempt = [] ∧ s.m.traceOn = false) ∧
    (∃ (s : State) (i us u : Nat) (x : Inst), s.m.flt.halted = false ∧ i < 512 ∧ s.m.inst i = some x ∧
      x.quitStatus = none ∧ x.nodes.length = 1 ∧ x.nodeSt 0 = .running 4 u ∧ x.timeout ≠ 0 ∧ x.timeout ≤ us ∧
      s.m.queues.all (fun e => (e.2.ready ++ e.2.held).all (fun r => r.inst != i)) = true ∧ s.m.hat.preempt = [] ∧
      s.m.traceOn = false) :=
  ⟨⟨st (fun m => { (m.setInst 3 (some (instOf [{ nodeOf 2 with settle := 5, cost := 10 }] []))) with hat := { (m.setInst 3 (some (instOf [{ nodeOf 2 with settle := 5, cost := 10 }] []))).hat with reports := [⟨3, 0, 0, 7#64, true, 0, true⟩] } }),
      4, ⟨3, 0, 0, 7#64, true, 0, true⟩, [], instOf [{ nodeOf 2 with settle := 5, cost := 10 }] [], by decide⟩,
    ⟨st (Mod.setInst 511 (some ((instOf [nodeOf 2, nodeOf 3] [⟨0, 1, 1, 0⟩, ⟨0xFFFF, 1, 0, 0⟩]).setSt 0 (.settling ⟨9,
      false, false⟩)))), 511, 0, 0, (instOf [nodeOf 2, nodeOf 3] [⟨0, 1, 1, 0⟩, ⟨0xFFFF, 1, 0,
      0⟩]).setSt 0 (.settling ⟨9, false, false⟩), (((instOf [nodeOf 2, nodeOf 3] [⟨0, 1, 1, 0⟩, ⟨0xFFFF, 1, 0,
      0⟩]).setSt 0 (.settling ⟨9, false, false⟩)).setSt 0 NodeSt.done).placeTokens 0 ⟨9, false, false⟩, ⟨9, false,
      false⟩, by decide⟩,
    ⟨st (Mod.setInst 3 (some ((instOf [{ nodeOf 4 with timeout := 8 }] []).setSt 0 (.running 4 2)))), 3, 8, 2,
      (instOf [{ nodeOf 4 with timeout := 8 }] []).setSt 0 (.running 4 2), by decide⟩,
    ⟨st (Mod.setInst 3 (some { (instOf [nodeOf 4] []).setSt 0 (.running 4 2) with timeout := 8 })), 3, 8, 2,
      { (instOf [nodeOf 4] []).setSt 0 (.running 4 2) with timeout := 8 }, by decide⟩⟩

theorem witness_ArbitersAndPreemption :
    (∃ (s : State) (g q u : Nat) (e : Entry) (h : Hat) (x : Inst) (host : List Host.Cell), s.m.flt.halted = false ∧
      s.m.hat.stopped = false ∧ s.m.journalFull = false ∧ s.m.journalOn = false ∧ s.m.dispatchOpen = true ∧
      s.m.traceOn = false ∧ s.m.hat.pick 4 (s.m.offersOf 4) = (some g, h) ∧ s.m.offer 4 g = some (q, e) ∧
      s.m.go e = .unit u ∧ s.m.inst e.inst = some x ∧ e.core = none ∧ (x.node e.node).cls = 4 ∧ x.group < 64 ∧
      (s.m.queue q).held = [] ∧ tmBad u (x.node e.node).args = false ∧ 2 ≤ tmStart (x.node e.node).args ∧
      2 ≤ tmStop (x.node e.node).args) ∧
    (∃ (s : State) (c us i k : Nat) (p : Preempt) (x : Inst) (host : List Host.Cell), s.m.flt.halted = false ∧ c < 16 ∧
      SMap.get (fun _ => none) s.m.hat.preempt c = some p ∧ (s.m.score c).step = some (i, k) ∧ s.m.acked c = true ∧
      (s.m.score c).reqPreempt = true ∧ s.m.inst i = some x ∧ (s.m.queue p.queue).ready.contains p.entry = false ∧
      p.entry ≠ ⟨i, k, some c⟩ ∧ s.m.traceOn = false) ∧
    (∃ (s : State) (c us i k : Nat) (p : Preempt), s.m.flt.halted = false ∧ c < 16 ∧
      SMap.get (fun _ => none) s.m.hat.preempt c = some p ∧ (s.m.score c).step = some (i, k) ∧ s.m.acked c = false ∧
      s.m.rd Reg.HAT_CTRL Fields.HAT_CTRL.PREEMPT_WAIT ≤ us ∧ s.m.traceOn = false) ∧
    (∃ (s : State) (i k us : Nat), s.m.flt.halted = false ∧ i < 512 ∧
      s.m.rd Reg.HAT_CTRL Fields.HAT_CTRL.PREEMPT_WAIT ≤ us) :=
  ⟨⟨st (fun m => ((fabric m).wr (Reg.HAT_GRP_CFG 0) Fields.HAT_GRP_CFG.WEIGHT 50).setInst 3 (some ((instOf
      [{ nodeOf 4 with args := tdcArgs }] []).setSt 0 NodeSt.ready)) |>.setQueue 2
      { Queue.fresh with ready := [⟨3, 0, none⟩] }), 0, 2, 0, ⟨3, 0, none⟩,
      ((Hat.fresh.setTurn 4 0 false).setDeficit 4 0 49 |> fun k =>
      { k with insts := [(3, some ((instOf [{ nodeOf 4 with args := tdcArgs }] []).setSt 0 NodeSt.ready))] }),
      (instOf [{ nodeOf 4 with args := tdcArgs }] []).setSt 0 NodeSt.ready, [], by decide⟩,
    ⟨st (fun m => { (((m.setInst 3 (some (instOf [nodeOf 8] []))).setScore 15 { SCore.fresh with step := some (3, 0), booted := true, reqPreempt := true }).sramPut (0xEF0000 + 121) [8#8]) with hat := { (m.setInst 3 (some (instOf [nodeOf 8] []))).hat with preempt := [(15, some ⟨5, ⟨9, 0, none⟩⟩)] } }),
      15, 20, 3, 0, ⟨5, ⟨9, 0, none⟩⟩, instOf [nodeOf 8] [], [], by decide⟩,
    ⟨st (fun m => { (m.setScore 15 { SCore.fresh with step := some (3, 0), booted := true, reqPreempt := true }) with hat := { m.hat with preempt := [(15, some ⟨5, ⟨9, 0, none⟩⟩)] } }),
      15, 10000, 3, 0, ⟨5, ⟨9, 0, none⟩⟩, by decide⟩,
    ⟨st (fun m => { m with hat := { m.hat with noAsk := [(3 * 1024, true)] } }), 3, 0, 10000, by decide⟩⟩

theorem witness_PrivilegedQueues :
    (∃ (s : State) (q : Nat) (r : FaultRec) (rest : List FaultRec), s.m.flt.halted = false ∧ q < 4096 ∧
      s.m.flag (Reg.HAT_Q_CFG q) Fields.HAT_Q_CFG.PRIV = true ∧ s.m.faultQueue q = true ∧ s.m.flt.staging = r :: rest ∧
      (s.m.queue q).priv.length < 16 ∧ s.m.spilled (s.m.rd (Reg.HAT_Q_CFG q) Fields.HAT_Q_CFG.SPILL_CTX) = 0) ∧
    (∃ (s : State) (q c : Nat) (bs : List Byte) (host : List Host.Cell), s.m.flt.halted = false ∧ q < 4096 ∧
      s.m.flag (Reg.HAT_Q_CFG q) Fields.HAT_Q_CFG.PRIV = true ∧
      s.m.rd (Reg.HAT_Q_CFG q) Fields.HAT_Q_CFG.SPILL_CTX = c ∧ s.m.spilled c ≠ 0 ∧ (s.m.queue q).priv.length < 16 ∧
      s.m.devRecord (q / 64) host (s.m.spillAt c (s.m.queue q).spillRd) 64 = .ok bs) ∧
    (∃ (s : State) (r : List Byte) (rest : List (List Byte)), s.m.flt.halted = false ∧ s.m.traceDest = 2 ∧
      s.m.hat.traceRing = r :: rest ∧ s.m.flag Reg.HAT_TRACE_CTRL Fields.HAT_TRACE_CTRL.STOP_FULL = false) ∧
    (∃ (s : State) (c q a i k : Nat) (bs : List Byte) (host : List Host.Cell), s.m.flt.halted = false ∧
      Wf.datalog c q = true ∧ (s.m.score c).step = some (i, k) ∧ s.m.coreRecord c a 64 host = some bs ∧
      64 * (s.m.nodeJob i k).group + q < 4096 ∧ s.m.flag (Reg.HAT_Q_CFG (64 * (s.m.nodeJob i k).group + q))
      Fields.HAT_Q_CFG.PRIV = true ∧ s.m.acked c = false ∧ (s.m.score c).logging = false ∧ a < 0x1000000000000) :=
  ⟨⟨st (fun m => { (((m.wr (Reg.HAT_Q_CFG 5) Fields.HAT_Q_CFG.PRIV 1).wr Reg.ERR_CFG Fields.ERR_CFG.EN 1).wr Reg.ERR_CFG Fields.ERR_CFG.QUEUE 5) with flt := { m.flt with staging := [m.overflowRec] } }),
      5, Mod.reset.overflowRec, [], by decide⟩,
    ⟨st (fun m => (((mapped m).wr (Reg.HAT_Q_CFG 5) Fields.HAT_Q_CFG.PRIV 1).wr (Reg.HAT_SPILL_STATE 0)
      Fields.HAT_SPILL_STATE.COUNT 3).wr64 (Reg.HAT_SPILL_BASE_LO 0) 0x4000), 5, 0, BitVec.ofNat 8 2 :: zeroBytes 63,
      nodeImage, by decide⟩,
    ⟨st (fun m => { (m.wr Reg.HAT_TRACE_CTRL Fields.HAT_TRACE_CTRL.DEST 2).wr Reg.HAT_TRACE_CTRL Fields.HAT_TRACE_CTRL.STOP_FULL 0 with hat := { m.hat with traceRing := [zeroBytes 16] } }),
      zeroBytes 16, [], by decide⟩,
    ⟨st (fun m => ((m.wr (Reg.HAT_Q_CFG 9) Fields.HAT_Q_CFG.PRIV 1).setInst 3 (some (instOf [nodeOf 8] []))).setScore 15
      { SCore.fresh with step := some (3, 0), booted := true }), 15, 9, 0xFFC0, 3, 0, zeroBytes 64, [], by decide⟩⟩

theorem witness_StepServices :
    (∃ (s : State) (c flags i k : Nat) (value : DWord), s.m.flt.halted = false ∧ c < 16 ∧ flags < 256 ∧
      (s.m.score c).step = some (i, k) ∧ s.m.acked c = false ∧ (s.m.score c).logging = false ∧
      (s.m.hart c).dcache = [] ∧ (s.m.score c).reqAbort = false) ∧
    (∃ (s : State) (c i k : Nat), s.m.flt.halted = false ∧ c < 16 ∧ (s.m.score c).step = some (i, k) ∧
      s.m.acked c = false ∧ (s.m.score c).logging = false ∧ (s.m.hart c).dcache = [] ∧ (s.m.score c).slot < 4 ∧
      (s.m.score c).reqAbort = false ∧ (s.m.score c).reqPreempt = true ∧ (s.m.score c).susp.length < 3) ∧
    (∃ (s : State) (c n i k : Nat), s.m.flt.halted = false ∧ c < 16 ∧ n < 8 ∧ (s.m.score c).step = some (i, k) ∧
      s.m.acked c = false ∧ (s.m.score c).logging = false ∧ (s.m.score c).reqAbort = false ∧
      (s.m.score c).reqPreempt = false ∧ (s.m.score c).reqDrain = false) ∧
    (∃ (s : State) (c i k : Nat), s.m.flt.halted = false ∧ c < 16 ∧ (s.m.score c).step = some (i, k) ∧
      s.m.acked c = false ∧ (s.m.score c).logging = false ∧ (s.m.score c).reqAbort = false ∧
      (s.m.score c).reqPreempt = false ∧ (s.m.score c).reqDrain = false) ∧
    (∃ (s : State) (c i k : Nat) (xlt : Bool), s.m.flt.halted = false ∧ c < 16 ∧ (s.m.score c).step = some (i, k) ∧
      s.m.acked c = false ∧ (s.m.hart c).dcache = []) ∧
    (∃ (s : State) (c us i k : Nat), s.m.flt.halted = false ∧ c < 16 ∧ (s.m.score c).step = some (i, k) ∧
      (s.m.score c).reqAbort = true ∧ s.m.killWait ≤ us) ∧
    (∃ (s : State) (c i k : Nat), s.m.flt.halted = false ∧ c < 16 ∧ s.m.localBad c = true ∧
      (s.m.score c).step = some (i, k) ∧ (s.m.score c).susp = []) :=
  ⟨⟨st (Mod.setScore 15 { SCore.fresh with step := some (3, 0), booted := true }), 15, 3, 3, 0, 0x8000000000000001#64,
      by decide⟩,
    ⟨st (Mod.setScore 15 { SCore.fresh with step := some (3, 0), slot := 3, booted := true, reqPreempt := true }), 15,
      3, 0, by decide⟩,
    ⟨st (Mod.setScore 15 { SCore.fresh with step := some (3, 0), booted := true }), 15, 7, 3, 0, by decide⟩,
    ⟨st (Mod.setScore 15 { SCore.fresh with step := some (3, 0), booted := true }), 15, 3, 0, by decide⟩,
    ⟨st (Mod.setScore 15 { SCore.fresh with step := some (3, 0), booted := true }), 15, 3, 0, true, by decide⟩,
    ⟨st (Mod.setScore 15 { SCore.fresh with step := some (3, 0), booted := true, reqAbort := true }), 15, 100000, 3, 0,
      by decide⟩,
    ⟨st (fun m => { (m.setScore 0 { SCore.fresh with step := some (3, 0), booted := true }) with sramBad := [(0xE00000, true)] }),
      0, 3, 0, by decide⟩⟩

theorem witness_CoresAndStore :
    (∃ (s : State) (c : Nat), s.m.flt.halted = false ∧ c < 16 ∧ s.m.coreStarted c = true ∧
      s.m.flag (Reg.MCS_SCORE_CTRL c) Fields.MCS_SCORE_CTRL.GO = true ∧
      s.m.flag (Reg.MCS_SCORE_CTRL c) Fields.MCS_SCORE_CTRL.HOLD = false) ∧
    (∃ (s : State) (c : Nat), s.m.flt.halted = false ∧ 16 ≤ c ∧ c < 20 ∧ s.m.coreStarted c = true ∧
      s.m.flag (Reg.MCS_MCORE_CTRL (c - 16)) Fields.MCS_MCORE_CTRL.GO = true ∧
      s.m.flag (Reg.MCS_MCORE_CTRL (c - 16)) Fields.MCS_MCORE_CTRL.HOLD = false ∧
      s.m.flag (Reg.MCS_MCORE_STATUS (c - 16)) Fields.MCS_MCORE_STATUS.RUNNING = false) ∧
    (∃ (s : State) (k : Nat), s.m.flt.halted = false ∧ k < 4 ∧
      s.m.flag (Reg.MCS_MCORE_CTRL k) Fields.MCS_MCORE_CTRL.WDOG_EN = true ∧
      s.m.flag (Reg.MCS_MCORE_STATUS k) Fields.MCS_MCORE_STATUS.RUNNING = true ∧
      (s.m.mcore k).kickAt + 1000000 * max 1 (s.m.rd Reg.MCS_MGMT_CFG Fields.MCS_MGMT_CFG.WDOG_MS) ≤ s.m.ttime ∧
      (s.m.mcore k).expiredAt = none) ∧
    (∃ (s : State) (k u : Nat), s.m.flt.halted = false ∧ k < 4 ∧
      s.m.flag (Reg.MCS_MCORE_CTRL k) Fields.MCS_MCORE_CTRL.WDOG_EN = true ∧
      s.m.flag (Reg.MCS_MCORE_STATUS k) Fields.MCS_MCORE_STATUS.RUNNING = true ∧
      (s.m.mcore k).kickAt + 1000000 * max 1 (s.m.rd Reg.MCS_MGMT_CFG Fields.MCS_MGMT_CFG.WDOG_MS) ≤ s.m.ttime ∧
      (s.m.mcore k).expiredAt = some u ∧ s.m.ttime ≤ u + 1000000000) ∧
    (∃ (s : State) (loads : List Nat), s.m.flt.halted = false ∧ Wf.mgmtLoadUpdate loads = true) ∧
    (∃ (s : State) (ms : Nat), s.m.flt.halted = false ∧ s.m.firmwareRuns = true ∧ 100 ≤ ms ∧
      s.m.rd Reg.MCS_MGMT_CFG Fields.MCS_MGMT_CFG.SHED_HI ≤ s.m.topLoad) ∧
    (∃ (s : State) (ms : Nat), s.m.flt.halted = false ∧ s.m.firmwareRuns = true ∧ 1000 ≤ ms ∧
      s.m.topLoad ≤ s.m.rd Reg.MCS_MGMT_CFG Fields.MCS_MGMT_CFG.SHED_LO) ∧
    (∃ (s : State) (w : Nat), s.m.flt.halted = false ∧ w < 4096 ∧ s.m.storeBad w = true ∧
      s.m.flag Reg.MCS_STATUS Fields.MCS_STATUS.SCRUB_ERR = false) ∧
    (∃ (s : State), s.m.flt.halted = false ∧ s.m.flag Reg.MCS_STATUS Fields.MCS_STATUS.CHECKING = true ∧
      s.m.sys.reload = false ∧ s.m.startState = 6) ∧
    (∃ (s : State) (n a k us : Nat) (bs : List Byte) (u : Micro), s.m.flt.halted = false ∧
      Wf.microwordExecute n k = true ∧ (s.m.seq n).upc = some a ∧ (s.m.seq n).live = true ∧ (s.m.seq n).ended = false ∧
      (s.m.seq n).post = none ∧ (s.m.seq n).paused = false ∧ (s.m.seq n).run = 0 ∧ s.m.lookFull n (s.m.seq n) = false ∧
      s.m.readStream (s.m.seq n).iblk (16 * (s.m.seq n).pc) 16 = .ok bs ∧ s.m.storeBad a = false ∧
      Micro.ofNat (s.m.storeWord a) = u ∧ u.waits = false ∧ (s.m.seq n).span + 1 + u.rep ≤ 64 ∧ u.commit = false ∧
      u.endop = false ∧ u.vop = 0 ∧ u.cntop = 0 ∧ u.flagop = 0 ∧ u.cwop = 0 ∧ u.syncop = 0 ∧ u.pfop = 0 ∧ u.ppop = 0 ∧
      u.post = 0) :=
  ⟨⟨st (fun m => ((m.setStarted 45 true).wr (Reg.MCS_SCORE_CTRL 15) Fields.MCS_SCORE_CTRL.GO 1).wr (Reg.MCS_SCORE_CTRL
      15) Fields.MCS_SCORE_CTRL.HOLD 0), 15, by decide⟩,
    ⟨st (fun m => (((m.setStarted 49 true).wr (Reg.MCS_MCORE_CTRL 3) Fields.MCS_MCORE_CTRL.GO 1).wr (Reg.MCS_MCORE_CTRL
      3) Fields.MCS_MCORE_CTRL.HOLD 0).wr (Reg.MCS_MCORE_STATUS 3) Fields.MCS_MCORE_STATUS.RUNNING 0), 19, by decide⟩,
    ⟨st (fun m => (((m.wr (Reg.MCS_MCORE_CTRL 3) Fields.MCS_MCORE_CTRL.WDOG_EN 1).wr (Reg.MCS_MCORE_STATUS 3)
      Fields.MCS_MCORE_STATUS.RUNNING 1).setReg Reg.TIME_TTIME_LO 0xFFFFFFFF#32)), 3, by decide⟩,
    ⟨st (fun m => (((m.wr (Reg.MCS_MCORE_CTRL 3) Fields.MCS_MCORE_CTRL.WDOG_EN 1).wr (Reg.MCS_MCORE_STATUS 3)
      Fields.MCS_MCORE_STATUS.RUNNING 1).setReg Reg.TIME_TTIME_LO 0xFFFFFFFF#32).setMcore 3 ⟨0, some 4000000000⟩), 3,
      4000000000, by decide⟩,
    ⟨st id, [5, 100, 0, 99], by decide⟩,
    ⟨st (fun m => (m.wr (Reg.MCS_MCORE_STATUS 3) Fields.MCS_MCORE_STATUS.RUNNING 1).wr Reg.MCS_MGMT_LOAD (loadField 3)
      100), 100, by decide⟩,
    ⟨st (fun m => (m.wr (Reg.MCS_MCORE_STATUS 3) Fields.MCS_MCORE_STATUS.RUNNING 1).wr Reg.MCS_MGMT_LOAD
      Fields.MCS_MGMT_LOAD.SHED 2), 1000, by decide⟩,
    ⟨st (fun m => { m with sramBad := [(0xF80000 + 32 * 4095, true)] }), 4095, by decide⟩,
    ⟨st (fun m => (m.wr Reg.MCS_STATUS Fields.MCS_STATUS.CHECKING 1).wr Reg.GLB_START_STATE Fields.GLB_START_STATE.STATE
      6), by decide⟩,
    ⟨st (fun m => (m.sramPut (0xF80000 + 32 * 0x20) (leBytes 8 (0x21 + 4096 * 0x22 + 2 ^ 24))).setSeq 31
      { Seq.fresh with job := some ⟨some 0, 0, 0, 0⟩, upc := some 0x20, iblk := [⟨0, 3, true, false⟩] }), 31, 0x20, 0,
      0, zeroBytes 16, Micro.ofNat (0x21 + 4096 * 0x22 + 2 ^ 24), by decide⟩⟩

theorem witness_DmaDescriptors :
    (∃ (s : State) (ch : Nat) (r : DmaRun) (d : List Byte) (host : List Host.Cell), s.m.flt.halted = false ∧ ch < 32 ∧
      s.m.dmaRun ch = some r ∧ s.m.dmaState ch = 1 ∧ r.cur = none ∧ r.done < r.count ∧ s.m.dma.quiet = [] ∧
      s.m.devRecord r.ctx host (r.addr + 32 + 32 * r.done) 32 = .ok d ∧ ldOk d = true ∧ ldOp d = 0 ∧ ldSrcSg d = false ∧
      ldDstSg d = false) ∧
    (∃ (s : State) (ch n : Nat) (r : DmaRun) (d : DmaDesc) (bs : List Byte) (host : List Host.Cell),
      s.m.flt.halted = false ∧ Wf.copy ch n = true ∧ s.m.dmaMoves ch = true ∧ s.m.dmaRun ch = some r ∧ r.cur = some d ∧
      ldOp d.bytes = 0 ∧ d.started = true ∧ d.fetched = s.m.dmaOffset ch ∧
      (s.m.dmaDrain ch).dmaReadParts r.ctx host (streamPart d.src d.fetched (min (min n 0x8000) (ldLength d.bytes -
      d.fetched))) = (bs, none) ∧ bs.length ≤ 0x8000) ∧
    (∃ (s : State) (ch n va len a k : Nat) (r : DmaRun) (d : DmaDesc), s.m.flt.halted = false ∧ Wf.fill ch n = true ∧
      s.m.dmaMoves ch = true ∧ s.m.dmaRun ch = some r ∧ r.cur = some d ∧ ldOp d.bytes = 1 ∧ d.started = true ∧
      d.dst = [(va, len)] ∧ ldLength d.bytes = len ∧ k = min n (len - s.m.dmaOffset ch) ∧ 0 < k ∧
      s.m.xlate r.ctx (va + s.m.dmaOffset ch) .write = .ok (.gddr a) ∧ (va + s.m.dmaOffset ch) % 0x10000 + k ≤ 0x10000 ∧
      s.m.placeOff (.gddr a) k = false ∧ s.m.placePartBad (.gddr a) k = false ∧ s.m.pairActive = false) ∧
    (∃ (s : State) (ch : Nat) (r : DmaRun) (d : DmaDesc), s.m.flt.halted = false ∧ ch < 32 ∧ s.m.dmaRun ch = some r ∧
      r.cur = some d ∧ d.started = false ∧ s.m.reqAsserted ch d.bytes = true ∧ s.m.dma.quiet = [] ∧ s.m.dmaState ch = 2) ∧
    (∃ (s : State) (ch : Nat) (r : DmaRun) (d : DmaDesc), s.m.flt.halted = false ∧ ch < 32 ∧ s.m.dmaRun ch = some r ∧
      r.cur = some d ∧ s.m.dmaMoves ch = true ∧ s.m.dmaOffset ch = ldLength d.bytes ∧ r.stop = none ∧
      r.done + 1 < r.count ∧ r.count < 65536) ∧
    (∃ (s : State) (ch q serial : Nat) (bytes : List Byte) (r : DmaRun) (d : DmaDesc), s.m.flt.halted = false ∧
      ch < 32 ∧ s.m.dmaRun ch = some r ∧ r.cur = some d ∧ s.m.dmaMoves ch = true ∧ s.m.dmaOffset ch = ldLength d.bytes ∧
      r.done + 1 = r.count ∧ r.origin = .desc q serial bytes ∧ q < 4096 ∧ descQuiet bytes = false) ∧
    (∃ (s : State) (ch : Nat) (write : Bool) (r : DmaRun) (d : DmaDesc), s.m.flt.halted = false ∧
      Wf.dmaTransferError ch 0 = true ∧ (s.m.dmaDrain ch).dmaRun ch = some r ∧ r.cur = some d ∧ d.started = true ∧
      (s.m.dmaDrain ch).dmaMoves ch = true ∧ r.stop = none ∧ r.haltOnErr = true) ∧
    (∃ (s : State) (ch us : Nat) (r : DmaRun) (d : DmaDesc), s.m.flt.halted = false ∧ ch < 32 ∧ s.m.dmaRun ch = some r ∧
      r.cur = some d ∧ d.started = true ∧ s.m.dmaState ch = 5 ∧
      max 1 (s.m.rd Reg.DMA_CFG Fields.DMA_CFG.PD_TIMEOUT) ≤ us ∧ r.stop = none ∧ r.haltOnErr = true) :=
  ⟨⟨st (fun m => ((mapped m).setDmaRun 31 (some ⟨.desc 0 0 [], 0, 0x4000, 2, true, 0, none, none,
      0⟩)).setDmaState 31 1), 31, ⟨.desc 0 0 [], 0, 0x4000, 2, true, 0, none, none, 0⟩,
      zeroBytes 4 ++ [8#8] ++ zeroBytes 27, cellsAt 0x4020 (zeroBytes 4 ++ [8#8] ++ zeroBytes 27), by decide⟩,
    ⟨st (fun m => ((mapped m).setDmaRun 31 (some ⟨.desc 0 0 [], 0, 0x4000, 2, true, 0,
      some ⟨zeroBytes 4 ++ [8#8] ++ zeroBytes 27, [(0x5000, 8)], [(0x6000, 8)], true, 0⟩, none, 0⟩)).setDmaState 31 1),
      31, 4, ⟨.desc 0 0 [], 0, 0x4000, 2, true, 0, some ⟨zeroBytes 4 ++ [8#8] ++ zeroBytes 27, [(0x5000, 8)], [(0x6000,
      8)], true, 0⟩, none, 0⟩, ⟨zeroBytes 4 ++ [8#8] ++ zeroBytes 27, [(0x5000, 8)], [(0x6000, 8)], true, 0⟩, [1#8, 2#8,
      3#8, 4#8], cellsAt 0x5000 [1#8, 2#8, 3#8, 4#8], by decide⟩,
    ⟨st (fun m => ((mapped m).setDmaRun 31 (some ⟨.desc 0 0 [], 0, 0x4000, 2, true, 0,
      some ⟨[1#8] ++ zeroBytes 3 ++ [8#8] ++ zeroBytes 3 ++ leBytes 8 0x1122334455667788 ++ zeroBytes 16, [],
      [(0x206000, 8)], true, 0⟩, none, 0⟩)).setDmaState 31 1), 31, 4, 0x206000, 8, 0x206000, 4, ⟨.desc 0 0 [], 0,
      0x4000, 2, true, 0, some ⟨[1#8] ++ zeroBytes 3 ++ [8#8] ++ zeroBytes 3 ++ leBytes 8 0x1122334455667788 ++
      zeroBytes 16, [], [(0x206000, 8)], true, 0⟩, none, 0⟩, ⟨[1#8] ++ zeroBytes 3 ++ [8#8] ++ zeroBytes 3 ++ leBytes 8
      0x1122334455667788 ++ zeroBytes 16, [], [(0x206000, 8)], true, 0⟩, by decide⟩,
    ⟨st (fun m => ((m.setDmaRun 31 (some ⟨.desc 0 0 [], 0, 0x4000, 2, true, 0, some ⟨[0#8, 8#8, 0x30#8, 0#8,
      8#8] ++ zeroBytes 27, [(0x5000, 8)], [(0x6000, 8)], false, 0⟩, none,
      0⟩)).setDmaState 31 2).wr (Reg.DMA_CH_CTRL 31) Fields.DMA_CH_CTRL.SWREQ 1), 31, ⟨.desc 0 0 [], 0, 0x4000, 2, true,
      0, some ⟨[0#8, 8#8, 0x30#8, 0#8, 8#8] ++ zeroBytes 27, [(0x5000, 8)], [(0x6000, 8)], false, 0⟩, none, 0⟩, ⟨[0#8,
      8#8, 0x30#8, 0#8, 8#8] ++ zeroBytes 27, [(0x5000, 8)], [(0x6000, 8)], false, 0⟩, by decide⟩,
    ⟨st (fun m => ((m.setDmaRun 31 (some ⟨.desc 0 0 [], 0, 0x4000, 2, true, 0,
      some ⟨zeroBytes 4 ++ [8#8] ++ zeroBytes 27, [(0x5000, 8)], [(0x6000, 8)], true, 8⟩, none,
      0⟩)).setDmaState 31 1).setDmaOffset 31 8), 31, ⟨.desc 0 0 [], 0, 0x4000, 2, true, 0,
      some ⟨zeroBytes 4 ++ [8#8] ++ zeroBytes 27, [(0x5000, 8)], [(0x6000, 8)], true, 8⟩, none, 0⟩,
      ⟨zeroBytes 4 ++ [8#8] ++ zeroBytes 27, [(0x5000, 8)], [(0x6000, 8)], true, 8⟩, by decide⟩,
    ⟨st (fun m => ((m.setDmaRun 31 (some ⟨.desc 7 0 [], 0, 0x4000, 1, true, 0,
      some ⟨zeroBytes 4 ++ [8#8] ++ zeroBytes 27, [(0x5000, 8)], [(0x6000, 8)], true, 8⟩, none,
      0⟩)).setDmaState 31 1).setDmaOffset 31 8), 31, 7, 0, [], ⟨.desc 7 0 [], 0, 0x4000, 1, true, 0,
      some ⟨zeroBytes 4 ++ [8#8] ++ zeroBytes 27, [(0x5000, 8)], [(0x6000, 8)], true, 8⟩, none, 0⟩,
      ⟨zeroBytes 4 ++ [8#8] ++ zeroBytes 27, [(0x5000, 8)], [(0x6000, 8)], true, 8⟩, by decide⟩,
    ⟨st (fun m => ((m.setDmaRun 31 (some ⟨.desc 7 0 [], 0, 0x4000, 1, true, 0,
      some ⟨zeroBytes 4 ++ [8#8] ++ zeroBytes 27, [(0x5000, 8)], [(0x6000, 8)], true, 0⟩, none, 0⟩)).setDmaState 31 1)),
      31, true, ⟨.desc 7 0 [], 0, 0x4000, 1, true, 0, some ⟨zeroBytes 4 ++ [8#8] ++ zeroBytes 27, [(0x5000, 8)],
      [(0x6000, 8)], true, 0⟩, none, 0⟩, ⟨zeroBytes 4 ++ [8#8] ++ zeroBytes 27, [(0x5000, 8)], [(0x6000, 8)], true, 0⟩,
      by decide⟩,
    ⟨st (fun m => ((m.setDmaRun 31 (some ⟨.desc 7 0 [], 0, 0x4000, 1, true, 0,
      some ⟨zeroBytes 4 ++ [8#8] ++ zeroBytes 27, [(0x5000, 8)], [(0x6000, 8)], true, 0⟩, none, 0⟩)).setDmaState 31 5)),
      31, 1000000, ⟨.desc 7 0 [], 0, 0x4000, 1, true, 0, some ⟨zeroBytes 4 ++ [8#8] ++ zeroBytes 27, [(0x5000, 8)],
      [(0x6000, 8)], true, 0⟩, none, 0⟩, ⟨zeroBytes 4 ++ [8#8] ++ zeroBytes 27, [(0x5000, 8)], [(0x6000, 8)], true, 0⟩,
      by decide⟩⟩

theorem witness_TranslationCache :
    (∃ (s : State) (ctx va dir req index : Nat) (l : Tlb), s.m.flt.halted = false ∧ Wf.tableWalk ctx va dir req = true ∧
      s.m.requests ctx req index = true ∧ checkRights (dirOf dir) (s.m.walk ctx va) = .leaf l) ∧
    (∃ (s : State), s.m.flt.halted = false) :=
  ⟨⟨st (fun m => (mapped m).setInst 5 (some (instOf [] []))), 0, 0x4000, 1, 6, 5, ⟨0, true, 0, 1, 0, true, true⟩,
      by decide⟩,
    ⟨st id, by decide⟩⟩

theorem witness_LoopsAndBranches :
    (∃ (s : State) (n : Nat) (w : Word4), s.m.executes n w = true ∧ w.op = 0x10 ∧ 0 < w.imm ∧
      (s.m.seq n).levels.length < 8) ∧
    (∃ (s : State) (n : Nat) (w : Word4), s.m.executes n w = true ∧ w.op = 0x10 ∧ w.imm = 0) ∧
    (∃ (s : State) (n : Nat) (w : Word4) (l : Level) (rest : List Level), s.m.executes n w = true ∧ w.op = 0x11 ∧
      (s.m.seq n).levels = l :: rest ∧ l.isMatch = false ∧ l.tgt = (s.m.seq n).pc ∧ 1 < l.count) ∧
    (∃ (s : State) (n : Nat) (w : Word4) (l : Level) (rest : List Level), s.m.executes n w = true ∧ w.op = 0x11 ∧
      (s.m.seq n).levels = l :: rest ∧ l.isMatch = false ∧ l.tgt = (s.m.seq n).pc ∧ l.count ≤ 1) ∧
    (∃ (s : State) (n : Nat) (w : Word4), s.m.executes n w = true ∧ w.op = 0x12 ∧ (s.m.seq n).frames.length < 16) ∧
    (∃ (s : State) (n : Nat) (w : Word4) (f : Frame) (rest : List Frame), s.m.executes n w = true ∧ w.op = 0x13 ∧
      (s.m.seq n).frames = f :: rest ∧ f.depth = (s.m.seq n).levels.length) ∧
    (∃ (s : State) (n : Nat) (w : Word4), s.m.executes n w = true ∧ w.op = 0x14 ∧
      w.mod / 32 ≤ (s.m.seq n).levels.length) ∧
    (∃ (s : State) (n : Nat) (w : Word4), s.m.executes n w = true ∧ w.op = 0x15 ∧ 2 ≤ w.mod % 16 ∧ w.mod % 16 < 8 ∧
      w.mod / 32 ≤ (s.m.seq n).levels.length ∧ (s.m.seq n).mirror = false ∧ s.m.pairActive = false ∧
      s.m.jccCond n (w.mod % 16) (w.c16 % 16) = true) ∧
    (∃ (s : State) (n : Nat) (w : Word4), s.m.executes n w = true ∧ w.op = 0x15 ∧ 2 ≤ w.mod % 16 ∧ w.mod % 16 < 8 ∧
      (s.m.seq n).mirror = false ∧ s.m.pairActive = false ∧ s.m.jccCond n (w.mod % 16) (w.c16 % 16) = false) ∧
    (∃ (s : State) (n : Nat) (w : Word4), s.m.executes n w = true ∧ w.op = 0x15 ∧ w.mod % 16 < 2 ∧
      (s.m.seq n).hold.isSome = true) :=
  ⟨⟨st (seqAt id (insn 16 0 0 9 3 0)), 5, ⟨16, 0, 0, 9, 3, 0⟩, by decide⟩,
    ⟨st (seqAt id (insn 16 0 0 0 2 0)), 5, ⟨16, 0, 0, 0, 2, 0⟩, by decide⟩,
    ⟨st (seqAt (fun x => { x with levels := [⟨false, 5, 1, 0, 6, 0, 0, false, false, 0, 0⟩] }) (insn 17 0 0 0 0 0)), 5,
      ⟨17, 0, 0, 0, 0, 0⟩, ⟨false, 5, 1, 0, 6, 0, 0, false, false, 0, 0⟩, [], by decide⟩,
    ⟨st (seqAt (fun x => { x with levels := [⟨false, 1, 1, 0, 6, 0, 0, false, false, 0, 0⟩] }) (insn 17 0 0 0 0 0)), 5,
      ⟨17, 0, 0, 0, 0, 0⟩, ⟨false, 1, 1, 0, 6, 0, 0, false, false, 0, 0⟩, [], by decide⟩,
    ⟨st (seqAt id (insn 18 0 0 0 3 5)), 5, ⟨18, 0, 0, 0, 3, 5⟩, by decide⟩,
    ⟨st (seqAt (fun x => { x with frames := [⟨3, 4, 0⟩] }) (insn 19 0 0 0 0 0)), 5, ⟨19, 0, 0, 0, 0, 0⟩, ⟨3, 4, 0⟩, [],
      by decide⟩,
    ⟨st (seqAt (fun x => { x with levels := [⟨false, 5, 1, 0, 6, 0, 0, false, false, 0, 0⟩] }) (insn 20 32 0 0 3 5)), 5,
      ⟨20, 32, 0, 0, 3, 5⟩, by decide⟩,
    ⟨st (seqAt id (insn 21 7 15 0 3 5)), 5, ⟨21, 7, 15, 0, 3, 5⟩, by decide⟩,
    ⟨st (seqAt id (insn 21 6 15 0 3 5)), 5, ⟨21, 6, 15, 0, 3, 5⟩, by decide⟩,
    ⟨st (seqAt held (insn 21 1 0 0 3 5)), 5, ⟨21, 1, 0, 0, 3, 5⟩, by decide⟩⟩

theorem witness_VectorsAndControlWords :
    (∃ (s : State) (n : Nat) (w : Word4) (bs : List Byte), s.m.executes n w = true ∧ w.op = 0x01 ∧ 0 < w.imm ∧
      s.m.lookFull n (s.m.seq n) = false ∧ (s.m.seq n).pp < (s.m.seq n).img.rows ∧
      s.m.readRow (s.m.seq n) (s.m.seq n).pp = .ok bs) ∧
    (∃ (s : State) (n : Nat) (w : Word4) (bs : List Byte), s.m.executes n w = true ∧ w.op = 0x02 ∧ 0 < w.imm ∧
      s.m.lookFull n (s.m.seq n) = false ∧ (s.m.seq n).pp < (s.m.seq n).img.rows ∧
      s.m.readRow (s.m.seq n) (s.m.seq n).pp = .ok bs) ∧
    (∃ (s : State) (n : Nat) (w : Word4), s.m.executes n w = true ∧ w.op = 0x21 ∧
      formatPeriod (s.m.seq n).img.format ≤ s.m.period n (w.c16 % 64) ∧
      (s.m.seq n).img.minPeriod ≤ s.m.period n (w.c16 % 64)) ∧
    (∃ (s : State) (n : Nat) (w : Word4), s.m.executes n w = true ∧ w.op = 0x22) ∧
    (∃ (s : State) (n : Nat) (w : Word4), s.m.executes n w = true ∧ w.op = 0x23 ∧ w.mod % 16 = 0 ∧
      w.c16 % 64 < sigRange 0) ∧
    (∃ (s : State) (n : Nat) (w : Word4), s.m.executes n w = true ∧ w.op = 0x23 ∧ w.mod % 16 = 1 ∧
      w.c16 % 64 < sigRange 1) ∧
    (∃ (s : State) (n : Nat) (w : Word4), s.m.executes n w = true ∧ w.op = 0x23 ∧ w.mod % 16 = 2 ∧
      w.c16 % 64 < sigRange 2) ∧
    (∃ (s : State) (n : Nat) (w : Word4), s.m.executes n w = true ∧ w.op = 0x23 ∧ w.mod % 16 = 3 ∧
      w.c16 % 64 < sigRange 3) ∧
    (∃ (s : State) (n : Nat) (w : Word4), s.m.executes n w = true ∧ w.op = 0x23 ∧ w.mod % 16 = 4 ∧
      w.c16 % 64 < sigRange 4) ∧
    (∃ (s : State) (n : Nat) (w : Word4), s.m.executes n w = true ∧ w.op = 0x23 ∧ w.mod % 16 = 5 ∧ w.c16 % 64 < 16) ∧
    (∃ (s : State) (n : Nat) (w : Word4), s.m.executes n w = true ∧ w.op = 0x23 ∧ w.mod % 16 = 6 ∧ w.c16 % 64 < 16) ∧
    (∃ (s : State) (n : Nat) (w : Word4) (bs : List Byte), s.m.executes n w = true ∧ w.op = 0x25 ∧ nbit w.mod 0 = true ∧
      (s.m.seq n).pp < (s.m.seq n).img.rows ∧ s.m.readRow (s.m.seq n) (s.m.seq n).pp = .ok bs) ∧
    (∃ (s : State) (n : Nat) (w : Word4), s.m.executes n w = true ∧ w.op = 0x25 ∧ nbit w.mod 0 = false) ∧
    (∃ (s : State) (n : Nat) (w : Word4), s.m.executes n w = true ∧ w.op = 0x3F) :=
  ⟨⟨st (seqAt id (insn 1 0 0 3 0 0)), 5, ⟨1, 0, 0, 3, 0, 0⟩, [1#8], by decide⟩,
    ⟨st (seqAt id (insn 2 0 0 3 0 0)), 5, ⟨2, 0, 0, 3, 0, 0⟩, [1#8], by decide⟩,
    ⟨st (seqAt id (insn 33 0 3 0 0 0)), 5, ⟨33, 0, 3, 0, 0, 0⟩, by decide⟩,
    ⟨st (seqAt id (insn 34 0 255 0 0 0)), 5, ⟨34, 0, 255, 0, 0, 0⟩, by decide⟩,
    ⟨st (seqAt id (insn 35 0 7 0 0 0)), 5, ⟨35, 0, 7, 0, 0, 0⟩, by decide⟩,
    ⟨st (seqAt id (insn 35 1 7 0 0 0)), 5, ⟨35, 1, 7, 0, 0, 0⟩, by decide⟩,
    ⟨st (seqAt id (insn 35 2 7 0 0 0)), 5, ⟨35, 2, 7, 0, 0, 0⟩, by decide⟩,
    ⟨st (seqAt id (insn 35 3 35 0 0 0)), 5, ⟨35, 3, 35, 0, 0, 0⟩, by decide⟩,
    ⟨st (seqAt id (insn 35 4 7 0 0 0)), 5, ⟨35, 4, 7, 0, 0, 0⟩, by decide⟩,
    ⟨st (seqAt id (insn 35 5 15 0 0 0)), 5, ⟨35, 5, 15, 0, 0, 0⟩, by decide⟩,
    ⟨st (seqAt id (insn 35 6 15 0 0 0)), 5, ⟨35, 6, 15, 0, 0, 0⟩, by decide⟩,
    ⟨st (seqAt id (insn 37 1 3 0 0 0)), 5, ⟨37, 1, 3, 0, 0, 0⟩, [1#8], by decide⟩,
    ⟨st (seqAt held (insn 37 0 0 0 0 0)), 5, ⟨37, 0, 0, 0, 0, 0⟩, by decide⟩,
    ⟨st (seqAt id (insn 63 1 0 0 0 0)), 5, ⟨63, 1, 0, 0, 0, 0⟩, by decide⟩⟩

theorem witness_WaitsAndMatch :
    (∃ (s : State) (n : Nat) (w : Word4), s.m.executes n w = true ∧ w.op = 0x16 ∧ w.mod % 4 < 3 ∧ 0 < w.imm ∧
      (s.m.seq n).hold.isSome = true ∧ (s.m.seq n).levels.length < 8) ∧
    (∃ (s : State) (n : Nat) (w : Word4), s.m.executes n w = true ∧ w.op = 0x20 ∧ w.c16 % 16 < trigLines (w.c16 / 16) ∧
      (s.m.seq n).hold.isSome = true ∧ (s.m.seq n).edges = [] ∧
      (nbit w.mod 0 && (s.m.seq n).latch.contains (16 * (w.c16 / 16) + w.c16 % 16)) = false ∧ w.c16 / 16 ≠ 2) ∧
    (∃ (s : State) (n : Nat) (w : Word4), s.m.executes n w = true ∧ w.op = 0x20 ∧ w.c16 / 16 = 2 ∧
      (s.m.seq n).hold.isSome = true ∧ (s.m.seq n).edges = [] ∧
      nbit (s.m.rd (Reg.SEQ_FLAGS n) Fields.SEQ_FLAGS.USER) (w.c16 % 16) = true ∧ s.m.pairActive = false) ∧
    (∃ (s : State) (n : Nat) (w : Word4), s.m.executes n w = true ∧ w.op = 0x24 ∧
      (s.m.barMembers (s.m.seq n).mirror (w.c16 % 16)).contains n = true ∧ (s.m.seq n).hold.isSome = true ∧
      (s.m.seq n).look ≠ []) ∧
    (∃ (s : State) (n : Nat) (bs : List Byte), s.m.flt.halted = false ∧ n < 32 ∧ s.m.unasked n = true ∧
      (s.m.seq n).look = [] ∧ (s.m.seq n).waitRes ≤ (s.m.seq n).sclk ∧ (s.m.seq n).failAt = [] ∧
      (s.m.seq n).paused = false ∧ (s.m.seq n).wait = some Wait.jcc ∧
      s.m.readStream (s.m.seq n).iblk (16 * (s.m.seq n).pc) 16 = .ok bs ∧
      (Word4.ofBytes bs).mod / 32 ≤ (s.m.seq n).levels.length ∧ (s.m.seq n).mirror = false ∧ s.m.pairActive = false) ∧
    (∃ (s : State) (n : Nat) (bs : List Byte), s.m.flt.halted = false ∧ n < 32 ∧ s.m.unasked n = true ∧
      (s.m.seq n).look = [] ∧ (s.m.seq n).waitRes ≤ (s.m.seq n).sclk ∧
      (s.m.seq n).failAt.any (fun r => decide (r ≤ (s.m.seq n).waitRes)) = true ∧ (s.m.seq n).paused = false ∧
      (s.m.seq n).wait = some Wait.jcc ∧ s.m.readStream (s.m.seq n).iblk (16 * (s.m.seq n).pc) 16 = .ok bs ∧
      (Word4.ofBytes bs).mod % 32 = 0 ∧ (Word4.ofBytes bs).mod / 32 ≤ (s.m.seq n).levels.length ∧
      (s.m.seq n).mirror = false ∧ s.m.pairActive = false) ∧
    (∃ (s : State) (n us ofs src idx lim : Nat), s.m.flt.halted = false ∧ Wf.wtrgTimeout n ofs = true ∧
      s.m.unasked n = true ∧ (s.m.seq n).wait = some (.trig src idx false lim) ∧
      (s.m.seq n).edges.all (fun e => decide (s.m.ttime + ofs < e.at_)) = true ∧ (s.m.seq n).paused = false ∧ 0 < lim ∧
      lim ≤ us ∧ s.m.pairActive = false) ∧
    (∃ (s : State) (n us k lim : Nat), s.m.flt.halted = false ∧ n < 32 ∧ (s.m.seq n).wait = some (.sync k lim) ∧
      0 < lim ∧ lim ≤ us ∧ (s.m.barMembers (s.m.seq n).mirror k).contains n = true) ∧
    (∃ (s : State) (n j : Nat) (v : Vec) (rest : List Vec) (l : Level) (f : Iter), s.m.flt.halted = false ∧ n < 32 ∧
      s.m.unasked n = true ∧ (s.m.seq n).look = v :: rest ∧ (s.m.seq n).beginsAgain v = some (l, j) ∧
      (s.m.seq n).matchMet l (s.m.seq n).sclk = true ∧ (s.m.seq n).iters.find? (fun i => i.mnum == l.mnum && i.it == j -
      1 && i.whole) = some f ∧ (s.m.seq n).paused = false ∧ (s.m.seq n).mirror = false ∧ s.m.pairActive = false) :=
  ⟨⟨st (seqAt held (insn 22 1 0 4 3 0)), 5, ⟨22, 1, 0, 4, 3, 0⟩, by decide⟩,
    ⟨st (seqAt held (insn 32 2 17 900 0 0)), 5, ⟨32, 2, 17, 900, 0, 0⟩, by decide⟩,
    ⟨st (fun m => seqAt held (insn 32 0 47 900 0 0) (m.wr (Reg.SEQ_FLAGS 5) Fields.SEQ_FLAGS.USER 0x8000)), 5, ⟨32, 0,
      47, 900, 0, 0⟩, by decide⟩,
    ⟨st (fun m => seqAt (fun x => { held x with look := [⟨0, none, [], 1, false, 3, [], [], 1, [], 0, 0⟩] }) (insn 36
      0 15 50 0 0) (m.setReg (Reg.SEQ_BAR_MASK 15) 0x21#32)), 5, ⟨36, 0, 15, 50, 0, 0⟩, by decide⟩,
    ⟨st (seqAt (fun x => { held x with wait := some Wait.jcc, waitRes := 6, lastSclk := 5 }) (insn 0x15 1 0 0 3 5)), 5,
      insn 0x15 1 0 0 3 5, by decide⟩,
    ⟨st (seqAt (fun x => { held x with wait := some Wait.jcc, waitRes := 6, lastSclk := 5, failAt := [6] }) (insn 0x15
      0 0 0 3 5)), 5, insn 0x15 0 0 0 3 5, by decide⟩,
    ⟨st (seqAt (fun x => { held x with wait := some (.trig 1 1 false 900) }) (insn 0x20 0 17 900 0 0)), 5, 900, 3, 1, 1,
      900, by decide⟩,
    ⟨st (fun m => seqAt (fun x => { held x with wait := some (.sync 15 50), arrived := some 4 }) [] (m.setReg
      (Reg.SEQ_BAR_MASK 15) 0x21#32)), 5, 50, 15, 50, by decide⟩,
    ⟨st (seqAt (fun x => { held x with levels := [⟨true, 2, 2, 0, 6, 4, 0, false, false, 0, 1⟩], look := [⟨0, none, [], 1, false, 3, [(1, 2)], [1], 1, [.sig 0 1], 1, 0⟩], iters := [⟨1, 1, 3, 0, 0, true, true, [], true, 7, 3⟩] })
      []), 5, 2, ⟨0, none, [], 1, false, 3, [(1, 2)], [1], 1, [.sig 0 1], 1, 0⟩, [], ⟨true, 2, 2, 0, 6, 4, 0, false,
      false, 0, 1⟩, ⟨1, 1, 3, 0, 0, true, true, [], true, 7, 3⟩, by decide⟩⟩

theorem witness_EmissionAndBlocks :
    (∃ (s : State) (n : Nat) (b : Blk) (bs : List Byte) (host : List Host.Cell), s.m.flt.halted = false ∧ n < 32 ∧
      (s.m.seq n).live = true ∧ nextRefill (s.m.seq n).iblk = some b ∧
      s.m.devRead (s.m.seq n).img.ctx host ((s.m.seq n).img.addr + (s.m.seq n).img.instrOff + b.num * blkSize) (min
      blkSize ((s.m.seq n).img.ilen - b.num * blkSize)) 0 = .ok bs) ∧
    (∃ (s : State) (n ofs : Nat), s.m.flt.halted = false ∧ Wf.firstEmission n ofs = true ∧ s.m.unasked n = true ∧
      s.m.firstReady n (s.m.ttime + ofs) = true ∧ (s.m.seq n).mirror = false ∧ (s.m.seq n).wait = none ∧
      s.m.pairActive = false) ∧
    (∃ (s : State) (n : Nat) (v : Vec) (rest g : List Vec), s.m.flt.halted = false ∧ n < 32 ∧ (s.m.seq n).live = true ∧
      s.m.unasked n = true ∧ 0 < (s.m.seq n).num ∧ (s.m.seq n).mirror = false ∧ (s.m.seq n).post = none ∧
      (s.m.seq n).ended = false ∧ (s.m.seq n).wait = none ∧ (s.m.seq n).look = v :: rest ∧ v.after = 0 ∧ v.align = 1 ∧
      headGroup v.tset (lanesOf (s.m.period n v.tset) - (s.m.seq n).num % lanesOf (s.m.period n v.tset)) true (v ::
      rest) = (g, true) ∧ (s.m.seq n).beginsAgain v = none ∧ (s.m.seq n).edges.all (fun e => decide ((s.m.seq n).sclk0 +
      (s.m.seq n).sclk < e.at_)) = true ∧ (s.m.seq n).failAt.all (fun r => decide ((s.m.seq n).sclk < r)) = true ∧
      (s.m.seq n).blockDue (groupBytes (s.m.vecBytes n (s.m.seq n)) ((s.m.seq n).open_.bind (fun b => b.vecs.getLast?))
      g) = false) ∧
    (∃ (s : State) (n : Nat) (b : LinkBlk), s.m.flt.halted = false ∧ n < 32 ∧
      (s.m.seq n).blockDue (s.m.vecBytes n (s.m.seq n)) = true ∧ (s.m.seq n).open_ = some b) ∧
    (∃ (s : State) (n d k : Nat), Wf.plinkBlockReceive n d = true ∧ (s.m.dport n d).chans ≠ [] ∧
      (s.m.seq n).sent.any (fun e => e.idx == k) = true ∧ (s.m.dport n d).next ≤ k ∧ ((s.m.dport n d).blk k).prim = 0) ∧
    (∃ (s : State) (n d k : Nat), Wf.plinkBlockReceive n d = true ∧ (s.m.dport n d).chans ≠ [] ∧
      (s.m.seq n).sent.any (fun e => e.idx == k) = true ∧ (s.m.dport n d).next ≤ k ∧ ((s.m.dport n d).blk k).prim = 0 ∧
      (SMap.get (fun _ => []) s.m.sendBuf d).contains (n, k) = true) ∧
    (∃ (s : State) (n d k : Nat), Wf.plinkBlockReceive n d = true ∧ (s.m.dport n d).chans ≠ [] ∧
      (s.m.seq n).sent.any (fun e => e.idx == k) = true ∧ (s.m.dport n d).next ≤ k ∧ ((s.m.dport n d).blk k).prim = 2) ∧
    (∃ (s : State) (n d k burst : Nat) (vs : List Vec) (tail : List Ctl) (last stop safe : Bool),
      Wf.mirrorBlockReceive n d = true ∧ (s.m.dport n d).chans ≠ [] ∧ (s.m.dport n d).mirOff = false ∧
      (s.m.dport n d).next ≤ k ∧ burst % 0x10000 = (s.m.dport n d).burst) ∧
    (∃ (s : State) (n d : Nat) (b : LinkBlk), Wf.blockDeadline n d = true ∧ (s.m.dport n d).chans ≠ [] ∧
      (s.m.dport n d).last = false ∧ (s.m.dport n d).done = false ∧ (s.m.dport n (1 - d)).done = false ∧
      (s.m.dport n d).verdicts = [] ∧ (s.m.dport n (1 - d)).verdicts = [] ∧ (s.m.dport n d).mirSrc = false ∧
      ((s.m.dport n d).blk (s.m.dport n d).next).prim = 1 ∧ ((s.m.dport n d).blk (s.m.dport n d).next).mir = false ∧
      (s.m.seq n).sent.find? (fun e => e.idx == (s.m.dport n d).next) = some b ∧ b.last = false) :=
  ⟨⟨st (fun m => mapped (seqAt (fun x =>
      { x with img := { x.img with instrs := 1, addr := 0x4000 }, iblk := [⟨0, 3, false, false⟩] }) [] m)), 5, ⟨0, 3,
      false, false⟩, insn 0x3F 0 0 0 0 0, cellsAt 0x4000 (insn 0x3F 0 0 0 0 0), by decide⟩,
    ⟨st (fun m => seqAt (fun x => { x with num := 0, et := 0, look := [⟨0, some 0, [1#8], 1, false, 3, [], [], 1, [], 0, 0⟩] })
      [] (m.setReg (Reg.SEQ_PORT 5 0) 1#32)), 5, 2, by decide⟩,
    ⟨st (seqAt (fun x => { x with look := [⟨0, some 0, [1#8], 1, false, 3, [], [], 1, [], 0, 0⟩] }) []), 5, ⟨0, some 0,
      [1#8], 1, false, 3, [], [], 1, [], 0, 0⟩, [], [⟨0, some 0, [1#8], 1, false, 3, [], [], 1, [], 0, 0⟩], by decide⟩,
    ⟨st (seqAt (fun x => { x with et := 2048 * 600, open_ := some ⟨4, 80, [], [], 0, false, false, false⟩ }) []), 5, ⟨4,
      80, [], [], 0, false, false, false⟩, by decide⟩,
    ⟨st (fun m => (seqAt (fun x => { x with sent := [⟨4, 80, [], [], 0, false, false, false⟩] }) [] m).setDport 5 1
      { DiePort.fresh with chans := [(0, 200)], next := 3 }), 5, 1, 4, by decide⟩,
    ⟨st (fun m => { ((seqAt (fun x => { x with sent := [⟨4, 80, [], [], 0, false, false, false⟩] }) [] m).setDport 5 1 { DiePort.fresh with chans := [(0, 200)], next := 3 }) with sendBuf := [(1, [(5, 4)])] }),
      5, 1, 4, by decide⟩,
    ⟨st (fun m => (seqAt (fun x => { x with sent := [⟨4, 80, [], [], 0, false, false, false⟩] }) [] m).setDport 5 1
      { DiePort.fresh with chans := [(0, 200)], next := 3, blks := [⟨4, 2, false, [], [], false, false, false⟩] }), 5,
      1, 4, by decide⟩,
    ⟨st (fun m => m.setDport 5 1 { DiePort.fresh with chans := [(0, 200)], next := 3, burst := 9 }), 5, 1, 3, 9, [],
      [.lset 3], true, false, true, by decide⟩,
    ⟨st (fun m => (seqAt (fun x => { x with sent := [⟨4, 80, [⟨9, none, [], 1, false, 3, [], [], 1, [], 0, 0⟩], [], 0, false, false, false⟩] })
      [] m).setDport 5 1 { DiePort.fresh with chans := [(0, 200)], next := 4, blks := [⟨4, 1, false, [], [], false, false, false⟩] }),
      5, 1, ⟨4, 80, [⟨9, none, [], 1, false, 3, [], [], 1, [], 0, 0⟩], [], 0, false, false, false⟩, by decide⟩⟩

theorem witness_PlayoutAndProof :
    (∃ (s : State) (n d : Nat) (samples : List Int) (v : Vec) (rest : List Vec), Wf.vectorPlay n d = true ∧
      (s.m.dport n d).play = v :: rest ∧ v.ctl = [] ∧ (s.m.dport n d).last = false ∧ (s.m.dport n d).done = false ∧
      (s.m.dport n d).traced = [] ∧ (s.m.dport n d).verdicts = []) ∧
    (∃ (s : State) (ch n a : Nat) (obs : List (Int × Nat)) (k : Strobe) (rest : List Strobe) (v : Verdict),
      Wf.strobeJudgement ch obs = true ∧ ch < 256 ∧ (s.m.pin ch).placed = k :: rest ∧ s.m.playOwner ch = some n ∧
      k.close = none ∧ k.code ≠ 8 ∧ a = pinState ((s.m.lv ch).thresholds (2048 * (s.m.dport n (ch / 128)).t0 + k.t))
      (obs.headD (0, 0)).1 ∧ s.m.isLost (17 + ch / 128) = false ∧ s.m.masked ch = false ∧
      (s.m.dport n (ch / 128)).done = false ∧ (s.m.dport n (ch / 128)).verdicts = [v] ∧ v.vec = k.vec ∧ v.iter = [] ∧
      2 ≤ v.left ∧ v.fails = []) ∧
    (∃ (s : State) (n d : Nat), s.m.flt.halted = false ∧ Wf.gap n d = true ∧ 0 < (s.m.dport n d).dropped ∧
      s.m.dieBuffered d < 4096) ∧
    (∃ (s : State) (n : Nat) (r : List Byte) (rest : List (List Byte)), s.m.flt.halted = false ∧ n < 32 ∧
      s.m.mayMerge n 0 = true ∧ (s.m.dport n 0).recs = r :: rest ∧ recType r ≠ 5 ∧ (∀ k : Nat,
      k < 32 → (s.m.dport k 0).dropped = 0 ∧ (s.m.dport k 0).cnts = []) ∧ s.m.pairActive = false ∧
      s.m.ringUsed n < 1024 ∧ (s.m.ring n).gap = 0) ∧
    (∃ (s : State) (n d : Nat), s.m.flt.halted = false ∧ Wf.burstToken n d = true ∧ (s.m.dport n d).chans ≠ [] ∧
      (s.m.dport n d).counted = true ∧ (s.m.dport n d).recs = [] ∧ (s.m.dport n d).token = false ∧
      s.m.traceOwed n d = false ∧ (s.m.dport n d).cnts = [] ∧ (s.m.dport n d).dropped = 0 ∧
      (s.m.seq n).stopped.isSome = true ∧ s.m.pairActive = false ∧ (s.m.dport n (1 - d)).chans ≠ [] ∧
      (s.m.dport n (1 - d)).token = false) ∧
    (∃ (s : State) (n : Nat) (m1 : Mod), s.m.flt.halted = false ∧ n < 32 ∧ (s.m.ring n).mode = 2 ∧ s.m.ringUsed n ≠ 0 ∧
      ((s.m.reg (Reg.SEQ_PRF_SWR n)).toNat + 0x100000000 - (s.m.reg (Reg.SEQ_PRF_SRD n)).toNat) % 0x100000000 ≠
      s.m.spillCap n ∧ s.m.slotBad n (s.m.ringRd n) = false ∧
      s.m.devPut 24 (s.m.ring n).ctx (s.m.rd64 (Reg.SEQ_PRF_SPILL_BASE_LO n) + 64 * ((s.m.reg (Reg.SEQ_PRF_SWR n)).toNat
      % s.m.spillCap n)) (memRead s.m.sram (ringSlot n (s.m.ringRd n)) 64) = .ok m1 ∧ m1.journalOn = false) ∧
    (∃ (s : State) (n d : Nat) (m1 : Mod), s.m.flt.halted = false ∧ Wf.traceHeaderWrite n d = true ∧
      (s.m.dport n d).chans ≠ [] ∧ (s.m.dport n d).done = true ∧ s.m.traceOwed n d = true ∧
      (s.m.dport n d).trBits = [] ∧ (s.m.setDport n d { (s.m.dport n d) with trDue := false, trBits := [] }).devPut 24
      (s.m.seq n).img.ctx (s.m.traceBase n d) ((s.m.dport n d).traceHdr n d) = .ok m1) ∧
    (∃ (s : State) (n : Nat) (r : List Byte), s.m.flt.halted = false ∧ Wf.captureReturnRecord n r = true ∧
      r.length = 64 ∧ recType r ≠ 5 ∧ s.m.ringUsed (16 + n) < 1024 ∧ (s.m.ring (16 + n)).gap = 0) ∧
    (∃ (s : State) (n i c : Nat) (j : Job), s.m.flt.halted = false ∧ n < 32 ∧ s.m.sys.orderly = PowerDown.none ∧
      (s.m.seq n).failAt = [] ∧ (s.m.seq n).job = some j ∧ j.inst = some i ∧ (s.m.seq n).stopped = some c ∧
      (s.m.ring n).endDue = false ∧ (s.m.seq n).mirrored = false ∧ s.m.pairActive = false ∧ s.m.seqState n = 5) :=
  ⟨⟨st (fun m => (seqAt id [] m).setDport 5 1
      { DiePort.fresh with chans := [(0, 200)], tper := [2048, 2048, 2048, 4096], format := 1, play := [⟨9, some 1, [1#8], 1, false, 3, [], [], 1, [], 40, 18432⟩] }),
      5, 1, [], ⟨9, some 1, [1#8], 1, false, 3, [], [], 1, [], 40, 18432⟩, [], by decide⟩,
    ⟨st (fun m => (m.setPin 200 { Pin.fresh with placed := [⟨2048, none, 9, false, 3, 3, false⟩] }).setDport 5 1
      { DiePort.fresh with chans := [(7, 200)], verdicts := [⟨9, 1, 1, false, 3, [], 2, [], [], [], 0, 200, [], false, false, false⟩] }),
      200, 5, 2, [(9000000, 0)], ⟨2048, none, 9, false, 3, 3, false⟩, [], ⟨9, 1, 1, false, 3, [], 2, [], [], [], 0, 200,
      [], false, false, false⟩, by decide⟩,
    ⟨st (fun m => m.setDport 5 1 { DiePort.fresh with chans := [(7, 200)], dropped := 9 }), 5, 1, by decide⟩,
    ⟨st (fun m => m.setDport 5 0 { DiePort.fresh with chans := [(7, 20)], recs := [recBytes 5 0 1 0 0 0 0 0 0 0 0 0 (zeroBytes 32)] }),
      5, recBytes 5 0 1 0 0 0 0 0 0 0 0 0 (zeroBytes 32), [], by decide⟩,
    ⟨st (fun m => (((m.setSeq 5 { Seq.fresh with stopped := some 0 }).setDport 5
      0 { DiePort.fresh with chans := [(7, 20)], counted := true }).setDport 5 1
      { DiePort.fresh with chans := [(9, 200)] })), 5, 0, by decide⟩,
    ⟨st (fun m => (((mapped m).setReg (Reg.SEQ_PRF_WR 5) 1#32).wr64 (Reg.SEQ_PRF_SPILL_BASE_LO 5) 0x4000).setRing 5
      { Ring.fresh with mode := 2 }), 5, okOr Mod.reset (Mod.devPut 24 0 0x4000 (zeroBytes 64) ((((mapped
      Mod.reset).setReg (Reg.SEQ_PRF_WR 5) 1#32).wr64 (Reg.SEQ_PRF_SPILL_BASE_LO 5) 0x4000).setRing 5
      { Ring.fresh with mode := 2 })), by decide⟩,
    ⟨st (fun m => (((mapped m).wr64 (Reg.SEQ_PRF_TRC_BASE_LO 5) 0x4000).wr Reg.GLB_DIE_STATUS
      Fields.GLB_DIE_STATUS.P0_UP 1).setDport 5
      0 { DiePort.fresh with chans := [(7, 20)], done := true, trDue := true }), 5, 0,
      okOr Mod.reset (Mod.devPut 24 0 0x4000 (DiePort.traceHdr { DiePort.fresh with chans := [(7, 20)], done := true } 5
      0) ((((mapped Mod.reset).wr64 (Reg.SEQ_PRF_TRC_BASE_LO 5) 0x4000).wr Reg.GLB_DIE_STATUS
      Fields.GLB_DIE_STATUS.P0_UP 1).setDport 5 0 { DiePort.fresh with chans := [(7, 20)], done := true })), by decide⟩,
    ⟨st id, 5, recBytes 5 0 1 0 0 0 0 0 0 0 0 0 (zeroBytes 32), by decide⟩,
    ⟨st (fun m => (m.wr (Reg.SEQ_STATUS 5) Fields.SEQ_STATUS.STATE 5).setSeq 5
      { Seq.fresh with job := some ⟨some 3, 0, 0, 0⟩, stopped := some 0, pc := 9 }), 5, 3, 0, ⟨some 3, 0, 0, 0⟩,
      by decide⟩⟩

theorem witness_LevelQueuesAndMeasurements :
    (∃ (s : State) (q set mask due : Nat) (port : Option Nat), q < 16 ∧ set < 256 ∧ s.m.ttime ≠ 0 ∧
      s.m.ttime % 1000 = 0 ∧ (s.m.lq q).lastEdge ≠ s.m.ttime / 1000 ∧ s.m.isLost (lqDie q) = false ∧
      (s.m.lq q).entries = [⟨.lv set mask, due, false, none, port⟩] ∧ due = s.m.ttime / 1000) ∧
    (∃ (s : State) (q h set due : Nat), 16 ≤ q ∧ q < 20 ∧ set < 256 ∧ s.m.ttime ≠ 0 ∧ s.m.ttime % 1000 = 0 ∧
      (s.m.lq q).lastEdge ≠ s.m.ttime / 1000 ∧ s.m.isLost 3 = false ∧ s.m.lqHeld q = false ∧ h / 8 = q - 16 ∧ h < 32 ∧
      (s.m.lq q).entries = [⟨.hv set (2 ^ (h % 8)), due, false, none, none⟩] ∧ due ≤ s.m.ttime / 1000 ∧
      fget Fields.HV_SETDATA1.OUT (s.m.reg (hvOff h set 1)) = 0 ∧ s.m.hvEnabled h = false) ∧
    (∃ (s : State) (h : Nat) (a b c d : Word), h < 32 ∧ (s.m.hv h).rc = some (a, b, c, d) ∧ (s.m.hv h).rcReq = none ∧
      1000 * (s.m.hv h).rcEnd ≤ s.m.ttime ∧ (∀ k : Nat, k < 8 → 8 * (h / 8) + k ≠ h → (s.m.hv (8 * (h / 8) + k)).rc =
      none) ∧ (s.m.lq (16 + h / 8)).entries = []) ∧
    (∃ (s : State) (n v : Nat), n < 8 ∧ v < 2 ∧ (s.m.asl n).rc = some v ∧ (s.m.asl n).rcPlay = false ∧
      1000 * (s.m.asl n).rcEnd ≤ s.m.ttime ∧ (s.m.asl n).queue = []) ∧
    (∃ (s : State) (c i b lsb : Nat) (x : Meas) (raws : List Int) (limit ovr : Bool) (v : Int), c < 40 ∧ 1 ≤ lsb ∧
      s.m.meas c = some x ∧ x.begin_ = some b ∧ raws.length = 2 ^ x.avg ∧
      b + 1000 * (x.settle + 2 ^ x.avg + 1) ≤ s.m.ttime ∧ x.job.inst = some i ∧ s.m.pairActive = false ∧
      v = (raws.map (fun r => measCorr (s.m.measWord c x) r * (lsb : Int))).sum / ((2 ^ x.avg : Nat) : Int)) :=
  ⟨⟨st (fun m => (m.wr64 Reg.TIME_TTIME_LO 7000).setLq 9 ⟨[⟨.lv 3 0x8001, 7, false, none, none⟩], 0⟩), 9, 3, 0x8001, 7,
      none, by decide⟩,
    ⟨st (fun m => ((m.wr64 Reg.TIME_TTIME_LO 7000).setReg (hvOff 13 255 1) 0xC8000000#32).setLq 17 ⟨[⟨.hv 255 32, 6,
      false, none, none⟩], 0⟩), 17, 13, 255, 6, by decide⟩,
    ⟨st (fun m => (m.wr64 Reg.TIME_TTIME_LO 20000).setHv 31
      { HvLive.fresh with rc := some (0x0A000000#32, 1#32, 2#32, 3#32), rcEnd := 20 }), 31, 0x0A000000#32, 1#32, 2#32,
      3#32, by decide⟩,
    ⟨st (fun m => (m.wr64 Reg.TIME_TTIME_LO 20000).setAsl 7 { AsLive.fresh with rc := some 1, rcEnd := 20 }), 7, 1,
      by decide⟩,
    ⟨st (fun m => (m.wr64 Reg.TIME_TTIME_LO 4000).setMeas 3 (some ⟨⟨some 0, 0, 0, 0⟩, 5, 4, 0, 0, true, true, 0, 1, 0,
      100, some 1000⟩)), 3, 0, 1000, 2, ⟨⟨some 0, 0, 0, 0⟩, 5, 4, 0, 0, true, true, 0, 1, 0, 100, some 1000⟩, [10, 12],
      true, false, 22, by decide⟩⟩

theorem witness_LimitsAndTrips :
    (∃ (s : State) (ch us : Nat), ch < 256 ∧ 1 ≤ us) ∧
    (∃ (s : State) (ch us : Nat), ch < 256 ∧ 1 ≤ us ∧ (s.m.lv ch).pmu.isSome = true) ∧
    (∃ (s : State) (h us : Nat), h < 32 ∧ s.m.hvEnabled h = true ∧
      (1 ≤ us ∨ hvMode (s.m.hv h).w0 = 1 ∨ hvMode (s.m.hv h).w0 = 3)) ∧
    (∃ (s : State) (h us : Nat), h < 32 ∧ s.m.hvEnabled h = true ∧
      s.m.flag (Reg.HV_CTRL h) Fields.HV_CTRL.LIMIT_OFF = true ∧ 10000 ≤ us) ∧
    (∃ (s : State) (i us : Nat), i < 64 ∧ s.m.mapBit Reg.RLY_STATE_LO i = true ∧ 10 ≤ us) ∧
    (∃ (s : State) (n us : Nat), n < 8 ∧ s.m.asEnabled n = true ∧ 1 ≤ us) ∧
    (∃ (s : State) (n us : Nat), n < 8 ∧ s.m.asEnabled n = true ∧
      s.m.flag (Reg.AS_CFG n) Fields.AS_CFG.CLIM_OFF = true ∧ 10000 ≤ us) ∧
    (∃ (s : State) (n mv us : Nat), n < 8 ∧ s.m.asEnabled n = true ∧ s.m.rd (Reg.AS_CFG n) Fields.AS_CFG.DEV_MV ≠ 0 ∧
      10 * s.m.rd (Reg.AS_CFG n) Fields.AS_CFG.DEV_MV < mv ∧ max 1 (s.m.rd (Reg.AS_CFG n) Fields.AS_CFG.DEV_US) ≤ us ∧
      (s.m.asl n).rc = none ∧ (s.m.asl n).onAt + 5000 ≤ s.m.ttime) :=
  ⟨⟨st id, 255, 1, by decide⟩,
    ⟨st (Mod.setLv 128 { LvLive.fresh with pmu := some (0, 0, 0) }), 128, 1, by decide⟩,
    ⟨st (Mod.wr (Reg.HV_CTRL 31) Fields.HV_CTRL.EN 1), 31, 1, by decide⟩,
    ⟨st (fun m => (m.wr (Reg.HV_CTRL 31) Fields.HV_CTRL.EN 1).wr (Reg.HV_CTRL 31) Fields.HV_CTRL.LIMIT_OFF 1), 31,
      10000, by decide⟩,
    ⟨st (Mod.setMapBit Reg.RLY_STATE_LO 63 true), 63, 10, by decide⟩,
    ⟨st (Mod.wr (Reg.AS_STATE 7) Fields.AS_STATE.EN 1), 7, 1, by decide⟩,
    ⟨st (fun m => (m.wr (Reg.AS_STATE 7) Fields.AS_STATE.EN 1).wr (Reg.AS_CFG 7) Fields.AS_CFG.CLIM_OFF 1), 7, 10000,
      by decide⟩,
    ⟨st (fun m => (((m.wr (Reg.AS_STATE 7) Fields.AS_STATE.EN 1).wr (Reg.AS_CFG 7) Fields.AS_CFG.DEV_MV 1).wr
      (Reg.AS_CFG 7) Fields.AS_CFG.DEV_OFF 1).wr64 Reg.TIME_TTIME_LO 5000), 7, 11, 9999, by decide⟩⟩

theorem witness_WaveformsAndTriggers :
    (∃ (s : State) (n b : Nat) (it : WItem) (rest : List WItem) (y : Int) (c : Bool) (acc : Nat), n < 8 ∧
      s.m.ddsState n = 1 ∧ (s.m.wave n).t0 = none ∧ (s.m.wave n).bound = some b ∧ wpStart (s.m.wave n).args = 0 ∧
      wpAtStart (s.m.wave n).args = false ∧ s.m.ttime ≤ s.m.edgeAt 40 b ∧ s.m.reached (s.m.edgeAt 40 b) = true ∧
      0 < (s.m.wave n).rate ∧ (s.m.wave n).rate ≤ 2 ^ 20 ∧ (s.m.wave n).n = 0 ∧ (s.m.wave n).cur = none ∧
      (s.m.wave n).ended = none ∧ (s.m.wave n).jump = none ∧ (s.m.wave n).buf = it :: rest ∧ it.bad = false ∧
      0 < it.duration ∧ waveSample it 0 0 0 (if nbit (byteAt it.bytes 15) 0 then 0 else (s.m.wave n).acc) = (y, c,
      acc) ∧ (s.m.wave n).lats = [] ∧ (s.m.wave n).outq = [] ∧ (s.m.asl n).zeroAt = none) ∧
    (∃ (s : State) (n e : Nat) (f : WFetch) (d : List Byte), n < 8 ∧ s.m.flt.halted = false ∧
      (s.m.wave n).fetch = some f ∧ f.at_ = some (d, e) ∧ (s.m.wave n).buf.length < 256 ∧ (s.m.wave n).ended = none ∧
      s.m.ddsState n ≠ 0 ∧ segOk d = true ∧ sramBadIn s.m.sramBad (dlistBase n + 0x800 + 16 * e) 16 = false ∧
      entryOk (memRead s.m.sram (dlistBase n + 0x800 + 16 * e) 16) = true ∧ e ≠ fieldAt d 2 2) ∧
    (∃ (s : State) (n : Nat) (c : WItem), n < 8 ∧ (s.m.wave n).cur = some c ∧ c.last = true ∧
      c.duration ≤ (s.m.wave n).k ∧ (s.m.wave n).ended = none ∧ s.m.samplesDue (s.m.wave n) ≤ (s.m.wave n).n ∧
      ((s.m.wave n).stop = true ∨ ((s.m.wave n).jump = none ∧ passNext c.seg c.pass c.desc = none)) ∧
      (s.m.wave n).lats = [] ∧ (s.m.wave n).outq = [] ∧ (s.m.asl n).zeroAt = none) ∧
    (∃ (s : State) (n : Nat) (c : WItem) (f : WFetch), n < 8 ∧ (s.m.wave n).cur = some c ∧ c.last = true ∧
      c.duration ≤ (s.m.wave n).k ∧ (s.m.wave n).ended = none ∧ s.m.samplesDue (s.m.wave n) ≤ (s.m.wave n).n ∧
      (s.m.wave n).stop = false ∧ (s.m.wave n).jump = none ∧ passNext c.seg c.pass c.desc = some f ∧
      (s.m.wave n).lats = [] ∧ (s.m.wave n).outq = [] ∧ (s.m.asl n).zeroAt = none) ∧
    (∃ (s : State) (n code i : Nat) (j : Job) (v : Int), n < 8 ∧ (s.m.wave n).ended = some code ∧ 0 < (s.m.wave n).n ∧
      (s.m.wave n).outq = [v] ∧ s.m.reached (s.m.outputAt (s.m.wave n) ((s.m.wave n).n - 1)) = true ∧
      s.m.reached (s.m.edgeAt 40 (s.m.outputAt (s.m.wave n) ((s.m.wave n).n - 1) + 1)) = false ∧
      (s.m.wave n).job = some j ∧ j.inst = some i ∧ (s.m.wave n).take = none ∧ s.m.pairActive = false) ∧
    (∃ (s : State) (n k : Nat) (rest : List (Nat × Nat)), n < 8 ∧ (s.m.wave n).marks = (0, k) :: rest ∧
      s.m.reached (s.m.outputAt (s.m.wave n) k) = true) ∧
    (∃ (s : State) (ofs x : Nat), ofs < 4 ∧ s.m.flag Reg.WAVE_SYNC_CTRL Fields.WAVE_SYNC_CTRL.ARM = true ∧
      s.m.flag Reg.WAVE_SYNC_CTRL Fields.WAVE_SYNC_CTRL.OUT_SRC = false ∧ (∀ n : Nat, n < 8 → s.m.ddsState n < 2 ∧
      s.m.aqState n = 0) ∧ x = s.m.ttime + ofs + 20 + min 39 (s.m.rd Reg.WAVE_SYNC_CTRL Fields.WAVE_SYNC_CTRL.SYNC_DLY)
      ∧ x + 2 < s.m.edgeAt 40 (x - 2)) ∧
    (∃ (s : State) (n v : Nat) (e : AsEntry) (rest : List AsEntry), n < 8 ∧ (s.m.asl n).queue = e :: rest ∧
      rest.length < 8 ∧ s.m.ttime ≠ 0 ∧ s.m.ttime % 1000 = 0 ∧ (s.m.asl n).lastEdge ≠ s.m.ttime / 1000 ∧
      (s.m.asl n).rc = none ∧ e.due ≤ s.m.ttime / 1000 ∧ s.m.outputsReady = true ∧ e.play = false ∧ e.en = 1 ∧
      (2 ≤ e.vrange ∨ e.vrange = s.m.rd (Reg.AS_STATE n) Fields.AS_STATE.VRANGE) ∧ e.iclamp = some v ∧
      s.m.clampSum 32 n + asClamp v ≤ 800) ∧
    (∃ (s : State) (l e : Nat), l < 8 ∧ SMap.find s.m.trg.pulses l = some e ∧ s.m.reached e = true ∧
      nbit s.m.trg.level l = false ∧ s.m.trigMode l ≠ 0) ∧
    (∃ (s : State) (l ofs : Nat) (level : Bool), l < 11 ∧ ofs < 4 ∧ s.m.trigMode l ≠ 1 ∧ nbit s.m.trg.seen l = false ∧
      (s.m.setTrg { s.m.trg with ext := putBit s.m.trg.ext l level }).trigLogic l = true ∧ (∀ n : Nat,
      n < 32 → (s.m.seq n).live = false) ∧ s.m.flag Reg.TIME_SNAP_STATUS Fields.TIME_SNAP_STATUS.ARMED = false) :=
  ⟨⟨st (fun m => ((m.wr64 Reg.TIME_TTIME_LO 4000).setDdsState 7 1).setWave 7
      { Wave.fresh with rate := 0x100000, args := zeroBytes 48, bound := some 3990, buf := [⟨0, 0, [], false, zeroBytes 12 ++ [16#8, 0#8, 0#8, 1#8], false⟩] }),
      7, 3990, ⟨0, 0, [], false, zeroBytes 12 ++ [16#8, 0#8, 0#8, 1#8], false⟩, [], 0, false, 0, by decide⟩,
    ⟨st (fun m => ((m.sramPut (0xC00000 + 0x800 + 16 * 3 + 12) [16#8]).setDdsState 0 1).setWave
      0 { Wave.fresh with fetch := some ⟨2, 0, some ([1#8, 0#8, 5#8, 0#8, 0#8, 0#8, 0#8, 1#8], 3)⟩ }), 0, 3, ⟨2, 0,
      some ([1#8, 0#8, 5#8, 0#8, 0#8, 0#8, 0#8, 1#8], 3)⟩, [1#8, 0#8, 5#8, 0#8, 0#8, 0#8, 0#8, 1#8], by decide⟩,
    ⟨st (Mod.setWave 7 { Wave.fresh with stop := true, k := 16, cur := some ⟨0, 0, [], true, zeroBytes 12 ++ [16#8, 0#8, 0#8, 1#8], false⟩ }),
      7, ⟨0, 0, [], true, zeroBytes 12 ++ [16#8, 0#8, 0#8, 1#8], false⟩, by decide⟩,
    ⟨st (Mod.setWave 7 { Wave.fresh with k := 16, cur := some ⟨0, 0, zeroBytes 8, true, zeroBytes 12 ++ [16#8, 0#8, 0#8, 1#8], false⟩ }),
      7, ⟨0, 0, zeroBytes 8, true, zeroBytes 12 ++ [16#8, 0#8, 0#8, 1#8], false⟩, ⟨0, 1, some (zeroBytes 8, 0)⟩,
      by decide⟩,
    ⟨st (fun m => ((m.wr (Reg.AS_CFG 7) Fields.AS_CFG.ZERO_ON_STOP 1).wr64 Reg.TIME_TTIME_LO 12880).setWave 7
      { Wave.fresh with ended := some 0, t0 := some 10000, rate := 0x100000, n := 1, y := 5, outq := [5], job := some ⟨some 0, 0, 0, 0⟩ }),
      7, 0, 0, ⟨some 0, 0, 0, 0⟩, 5, by decide⟩,
    ⟨st (fun m => (((m.wr (Reg.DDS_MK 3) Fields.DDS_MK.MK0_TRIG 0x81).wr (Reg.TRIG_CFG 7) Fields.TRIG_CFG.MODE 1).wr64
      Reg.TIME_TTIME_LO 20000).setWave 3 { Wave.fresh with marks := [(0, 2)], t0 := some 400, rate := 0x100000 }), 3, 2,
      [], by decide⟩,
    ⟨st (fun m => (m.wr Reg.WAVE_SYNC_CTRL Fields.WAVE_SYNC_CTRL.ARM 1).wr64 Reg.TIME_TTIME_LO 4000), 3, 4023,
      by decide⟩,
    ⟨st (fun m => ((m.setStarted 29 true).wr64 Reg.TIME_TTIME_LO 3000).setAsl 7
      { AsLive.fresh with queue := [⟨1, 2, some 0, 3, false, false⟩] }), 7, 0, ⟨1, 2, some 0, 3, false, false⟩, [],
      by decide⟩,
    ⟨st (fun m => (m.wr (Reg.TRIG_CFG 7) Fields.TRIG_CFG.MODE 1).setTrg { m.trg with pulses := [(7, 3)] }), 7, 3,
      by decide⟩,
    ⟨st id, 10, 3, true, by decide⟩⟩

theorem witness_Acquisition :
    (∃ (s : State) (n : Nat) (x : Acq) (samples : List Int) (ovr : Bool), n < 8 ∧ s.m.acq n = some x ∧ x.trig = none ∧
      samples.length = 2 ^ aqK x.args ∧ s.m.reached (x.start + x.interval * (x.count + 1)) = true ∧
      aqStream x.args = false ∧ x.count + 1 < aqPre x.args) ∧
    (∃ (s : State) (n k w i : Nat) (x : Acq) (tr : Nat × Nat × Nat) (m1 m2 : Mod), n < 8 ∧ s.m.flt.halted = false ∧
      s.m.acq n = some x ∧ aqStream x.args = false ∧ x.trig = some (w, tr) ∧ w + aqPost x.args ≤ x.count ∧
      x.job.inst = some i ∧ s.m.devPut 26 x.job.group (aqDest x.args + 64) ((List.range (aqPre x.args + aqPost
      x.args)).flatMap (fun j => leBytes 4 (unsign 32 (x.word (w - aqPre x.args + j))))) = .ok m1 ∧
      m1.devPut 26 x.job.group (aqDest x.args) (x.header n (x.post w)) = .ok m2 ∧ m2.pairActive = false) :=
  ⟨⟨st (fun m => (m.wr64 Reg.TIME_TTIME_LO 20200).setAcq 7 (some ⟨⟨some 0, 0, 0, 0⟩,
      zeroBytes 3 ++ [1#8] ++ zeroBytes 4 ++ [5#8] ++ zeroBytes 39, 20000, 0, [], 0, none, 0, false⟩)), 7, ⟨⟨some 0, 0,
      0, 0⟩, zeroBytes 3 ++ [1#8] ++ zeroBytes 4 ++ [5#8] ++ zeroBytes 39, 20000, 0, [], 0, none, 0, false⟩, [7, -2],
      true, by decide⟩,
    ⟨st (fun m => (mapped m).setAcq 7 (some aqDone1)), 7, 0, 0, 0, aqDone1, (0, 0, 0),
      okOr Machine.Mod.reset ((st (fun m => (mapped m).setAcq 7 (some aqDone1))).m.devPut 26 0 0x200040 (leBytes 4 9)),
      okOr Machine.Mod.reset ((okOr Machine.Mod.reset ((st (fun m => (mapped m).setAcq 7 (some aqDone1))).m.devPut 26
      0 0x200040 (leBytes 4 9))).devPut 26 0 0x200000 (aqDone1.header 7 [9])), by decide⟩⟩

theorem witness_TimeBaseAndDomains :
    (∃ (s : State) (window : Bool), s.m.flag Reg.TB_STATUS Fields.TB_STATUS.SRC_ACTIVE = true ∧ s.m.journalOn = false) ∧
    (∃ (s : State) (window : Bool), s.m.flag Reg.TB_STATUS Fields.TB_STATUS.SRC_ACTIVE = false ∧ s.m.journalOn = false) ∧
    (∃ (s : State) (det : Nat) (ppb : Int), 1 ≤ det ∧ det ≤ 2 ∧ ppb.natAbs ≤ 20000 ∧
      (s.m.rd Reg.TB_CTRL Fields.TB_CTRL.REF_FREQ = 1 → det = 1) ∧
      (s.m.rd Reg.TB_CTRL Fields.TB_CTRL.REF_FREQ = 2 → det = 2) ∧ s.m.startState = 6) ∧
    (∃ (s : State) (det : Nat) (ppb : Int), 1 ≤ det ∧ det ≤ 2 ∧ ppb.natAbs ≤ 20000 ∧
      (s.m.rd Reg.TB_CTRL Fields.TB_CTRL.REF_FREQ = 1 → det = 1) ∧
      (s.m.rd Reg.TB_CTRL Fields.TB_CTRL.REF_FREQ = 2 → det = 2) ∧ s.m.startState = 3 ∧ s.m.profRefin = true ∧
      s.m.flag Reg.TB_STATUS Fields.TB_STATUS.SRC_ACTIVE = false) ∧
    (∃ (s : State), s.m.flag Reg.TB_STATUS Fields.TB_STATUS.SRC_ACTIVE = true ∧
      s.m.flag Reg.TB_STATUS Fields.TB_STATUS.REF_QUALIFIED = true) ∧
    (∃ (s : State) (src : Nat), s.m.tim.switchTo = some src ∧ src < 2 ∧ s.m.timeIdle = true ∧
      (src = 1 → s.m.flag Reg.TB_STATUS Fields.TB_STATUS.REF_QUALIFIED = true)) ∧
    (∃ (s : State) (k : Nat), k < 4 ∧ (s.m.dom k).set = none ∧ (s.m.ttime + 4) / 2 ^ 32 = s.m.ttime / 2 ^ 32) :=
  ⟨⟨st (Mod.setReg Reg.TB_STATUS 0xFFFFFFFF#32), false, by decide⟩,
    ⟨st (Mod.wr Reg.TB_STATUS Fields.TB_STATUS.REF_QUALIFIED 1), true, by decide⟩,
    ⟨st (fun m => (m.wr Reg.GLB_START_STATE Fields.GLB_START_STATE.STATE 6).wr Reg.TB_STATUS Fields.TB_STATUS.HOLDOVER
      1), 2, -20000, by decide⟩,
    ⟨st (fun m => (m.wr Reg.GLB_START_STATE Fields.GLB_START_STATE.STATE 3).wr Reg.GLB_START_STATE
      Fields.GLB_START_STATE.PROF_BAD 0 |> fun m =>
      { m with sys := { m.sys with slots := [(m.slotInUse, { m.slot m.slotInUse with bytes := [(0x30, 1#8)] })] } }), 1,
      5, by decide⟩,
    ⟨st (Mod.setReg Reg.TB_STATUS 0xFFFFFFFF#32), by decide⟩,
    ⟨st (fun m => (m.wr Reg.TB_STATUS Fields.TB_STATUS.REF_QUALIFIED 1).setTim { m.tim with switchTo := some 1 }), 1,
      by decide⟩,
    ⟨st (Mod.setDom 3 { Dom.fresh with sub := secUnits - 1, remain := 5, step := 7 }), 3, by decide⟩⟩

theorem witness_TimePortsAndIntervals :
    (∃ (s : State) (p ps sec sub : Nat) (f : List Byte), p < 2 ∧ ps < 4000 ∧ s.m.flt.halted = false ∧ s.m.tpMode p = 2 ∧
      s.m.flag (Reg.TP_STATUS p) Fields.TP_STATUS.BLOCK_LOCK = true ∧ fieldBE f (etherAt f) 2 ≠ 0x8808 ∧
      s.m.tpAccepts p f = true ∧ 4 * (((s.m.tport p).rx.map List.length).sum + 4 + (f.length + 3) / 4) ≤ 0x8000 ∧
      s.m.stamp (s.m.tpDomain p) ps (-(signed 32 (s.m.reg (Reg.TP_RX_CORR p)).toNat)) = (sec, sub)) ∧
    (∃ (s : State) (p ps id : Nat) (f : List Byte) (rest : List (Bool × Nat × List Byte)), p < 2 ∧ ps < 4000 ∧
      s.m.flt.halted = false ∧ (s.m.tpMode p = 1 ∨ s.m.tpMode p = 2) ∧ (s.m.tport p).txQueue = (false, id, f) :: rest) ∧
    (∃ (s : State) (p ps id sec sub : Nat) (f : List Byte) (rest : List (Bool × Nat × List Byte)), p < 2 ∧ ps < 4000 ∧
      s.m.flt.halted = false ∧ (s.m.tpMode p = 1 ∨ s.m.tpMode p = 2) ∧ (s.m.tport p).txQueue = (true, id, f) :: rest ∧
      eventFrame (f ++ zeroBytes (60 - f.length)) = none ∧ (s.m.tport p).tsq.length < 64 ∧
      s.m.stamp (s.m.tpDomain p) ps (signed 32 (s.m.reg (Reg.TP_TX_CORR p)).toNat) = (sec, sub)) ∧
    (∃ (s : State) (p : Nat), p < 2) ∧
    (∃ (s : State) (p : Nat), p < 2) ∧
    (∃ (s : State) (u : Nat) (x : Tdc), u < 36 ∧ s.m.tdc u = some x ∧ x.armed = none ∧ tmPattern x.args = false ∧
      s.m.reached (x.disp + 1000) = true ∧ tmStart x.args ≠ 2 ∧ tmStop x.args ≠ 2) ∧
    (∃ (s : State) (u coarse fine : Nat) (x : Tdc), u < 36 ∧ fine < 4096 ∧ s.m.tdc u = some x ∧ x.armed.isSome = true ∧
      x.start = none ∧ x.before = none) ∧
    (∃ (s : State) (u coarse fine i : Nat) (x : Tdc) (b : Nat × Nat) (v : Int), u < 36 ∧ fine < 4096 ∧
      s.m.tdc u = some x ∧ x.armed.isSome = true ∧ x.start = some b ∧ x.lastStop = none ∧
      s.m.tdcTime u b + 16 * 40 < s.m.tdcTime u (coarse, fine) ∧ x.stops + 1 = tmStopN x.args ∧ x.job.inst = some i ∧
      s.m.pairActive = false ∧ v = s.m.tdcInterval u b (coarse, fine) ∧ tmLimitEn x.args = false) ∧
    (∃ (s : State) (u coarse fine : Nat) (x : Tdc) (b : Nat × Nat), u < 36 ∧ fine < 4096 ∧ s.m.tdc u = some x ∧
      x.armed.isSome = true ∧ x.start = some b ∧ x.lastStop = none ∧ s.m.tdcTime u b + 16 * 40 < s.m.tdcTime u (coarse,
      fine) ∧ x.stops + 1 ≠ tmStopN x.args) ∧
    (∃ (s : State) (u a i : Nat) (x : Tdc), u < 36 ∧ s.m.tdc u = some x ∧ x.armed = some a ∧ 0 < tmWindow x.args ∧
      s.m.reached (a + 1000 * tmWindow x.args) = true ∧ tmSoft x.args = false ∧ tmLimitEn x.args = false ∧
      x.before = none ∧ x.job.inst = some i ∧ s.m.pairActive = false) ∧
    (∃ (s : State) (u i : Nat) (x : Tdc) (b : Nat × Nat), u < 36 ∧ s.m.tdc u = some x ∧ x.start = some b ∧
      b.1 + 2 ^ 40 < 2 * (s.m.ttime + 4) ∧ tmSoft x.args = false ∧ tmLimitEn x.args = false ∧ x.job.inst = some i ∧
      s.m.pairActive = false) :=
  ⟨⟨st (fun m => (m.wr (Reg.TP_CFG 1) Fields.TP_CFG.MODE 2).wr (Reg.TP_STATUS 1) Fields.TP_STATUS.BLOCK_LOCK 1), 1, 0,
      0, 0, List.replicate 6 0xFF#8 ++ zeroBytes 8, by decide⟩,
    ⟨st (fun m => (m.wr (Reg.TP_CFG 1) Fields.TP_CFG.MODE 2).setTport 1
      { Tport.fresh with txQueue := [(false, 3, zeroBytes 14)] }), 1, 0, 3, zeroBytes 14, [], by decide⟩,
    ⟨st (fun m => (m.wr (Reg.TP_CFG 1) Fields.TP_CFG.MODE 2).setTport 1
      { Tport.fresh with txQueue := [(true, 3, zeroBytes 14)] }), 1, 0, 3, 0, 0, zeroBytes 14, [], by decide⟩,
    ⟨st id, 1, by decide⟩,
    ⟨st (Mod.wr (Reg.TP_STATUS 1) Fields.TP_STATUS.BLOCK_LOCK 1), 1, by decide⟩,
    ⟨st (fun m => (m.wr64 Reg.TIME_TTIME_LO 1000).setTdc 35 (some ⟨⟨some 0, 0, 0, 0⟩, tdcArgs, 1, none, none, none, 0,
      none, false⟩)), 35, ⟨⟨some 0, 0, 0, 0⟩, tdcArgs, 1, none, none, none, 0, none, false⟩, by decide⟩,
    ⟨st (Mod.setTdc 35 (some ⟨⟨some 0, 0, 0, 0⟩, tdcArgs, 1, some 1001, none, none, 0, none, false⟩)), 35, 5000, 4095,
      ⟨⟨some 0, 0, 0, 0⟩, tdcArgs, 1, some 1001, none, none, 0, none, false⟩, by decide⟩,
    ⟨st (Mod.setTdc 35 (some ⟨⟨some 0, 0, 0, 0⟩, tdcArgs, 1, some 1001, some (5000, 0), none, 0, none, true⟩)), 35,
      5002, 16, 0, ⟨⟨some 0, 0, 0, 0⟩, tdcArgs, 1, some 1001, some (5000, 0), none, 0, none, true⟩, (5000, 0), 8208,
      by decide⟩,
    ⟨st (Mod.setTdc 35 (some ⟨⟨some 0, 0, 0, 0⟩, tdcArgs, 1, some 1001, some (5000, 0), none, 3, none, true⟩)), 35,
      5002, 16, ⟨⟨some 0, 0, 0, 0⟩, tdcArgs, 1, some 1001, some (5000, 0), none, 3, none, true⟩, (5000, 0), by decide⟩,
    ⟨st (fun m => (m.wr64 Reg.TIME_TTIME_LO 5000).setTdc 35 (some ⟨⟨some 0, 0, 0, 0⟩,
      tdcArgs.take 12 ++ [2#8] ++ zeroBytes 35, 1, some 1001, none, none, 0, none, false⟩)), 35, 1001, 0, ⟨⟨some 0, 0,
      0, 0⟩, tdcArgs.take 12 ++ [2#8] ++ zeroBytes 35, 1, some 1001, none, none, 0, none, false⟩, by decide⟩,
    ⟨st (fun m => (m.wr64 Reg.TIME_TTIME_LO 0x8000000000).setTdc 35 (some ⟨⟨some 0, 0, 0, 0⟩, tdcArgs, 1, some 1001,
      some (3, 0), none, 0, none, true⟩)), 35, 0, ⟨⟨some 0, 0, 0, 0⟩, tdcArgs, 1, some 1001, some (3, 0), none, 0, none,
      true⟩, (3, 0), by decide⟩⟩

theorem witness_CalibrationEvents :
    (∃ (s : State) (k u item : Nat) (ofs gain : Int) (temp : Word) (r : RefCheck), s.m.flt.halted = false ∧
      s.m.cal.run = some k ∧ s.m.cal.left = [] ∧ s.m.journalOn = false ∧ calUnits k u = true ∧
      nbit s.m.cal.scope (calUnitDie u) = true ∧ calValOk k u (.table item ofs gain) = true) ∧
    (∃ (s : State) (k : Nat) (r : RefCheck), s.m.flt.halted = false ∧ s.m.cal.run = some k ∧ ((calNeeds k).1 = true ∧
      r.refv = false ∨ (calNeeds k).2.1 = true ∧ r.reft = false ∨ (calNeeds k).2.2.1 = true ∧ s.m.calPlate = false)) ∧
    (∃ (s : State), s.m.flt.halted = false ∧ s.m.fwRuns = true) ∧
    (∃ (s : State), s.m.flt.halted = false ∧ (s.m.cal.assessed + 2000000000 ≤ s.m.ttime ∨ s.m.fwRuns = false)) :=
  ⟨⟨st (fun m => m.setCal { m.cal with run := some 5, scope := 4, failed := true }), 5, 295, 2, -2000, 32767, 7#32,
      ⟨true, true, true, 0, 0⟩, by decide⟩,
    ⟨st (fun m => m.setCal { m.cal with run := some 3 }), 3, ⟨false, true, true, 0, 0⟩, by decide⟩,
    ⟨st (fun m => (m.wr (Reg.MCS_MCORE_STATUS 0) Fields.MCS_MCORE_STATUS.RUNNING 1).setReg (Reg.CAL_DOM_COUNT 6) 3#32),
      by decide⟩,
    ⟨st (fun m => (m.wr64 Reg.TIME_TTIME_LO 2000000000).wr Reg.CAL_STATUS Fields.CAL_STATUS.ASSESS_OK 1), by decide⟩⟩

theorem witness_MemoryController :
    (∃ (s : State) (c : Nat), s.m.flt.halted = false ∧ c < 32 ∧ (s.m.chState c = 1 ∨ s.m.chState c = 2) ∧
      s.m.slotFree = true) ∧
    (∃ (s : State) (c : Nat), s.m.flt.halted = false ∧ c < 32 ∧ s.m.chState c = 5 ∧ s.m.debt c < s.m.catchAt ∧
      s.m.drc.waiting = []) ∧
    (∃ (s : State) (c bank dclk : Nat), s.m.flt.halted = false ∧ c < 32 ∧ bank < 16 ∧
      s.m.rd Reg.DRC_PAGE Fields.DRC_PAGE.IDLE ≤ dclk) ∧
    (∃ (s : State) (c : Nat), s.m.flt.halted = false ∧ c < 32 ∧ s.m.chState c = 1 ∧ s.m.debt c < 8 ∧
      s.m.debt c + 1 < s.m.catchAt) ∧
    (∃ (s : State) (c : Nat), s.m.flt.halted = false ∧ c < 32 ∧ (s.m.chState c = 1 ∨ s.m.chState c = 2) ∧
      1 ≤ s.m.debt c) ∧
    (∃ (s : State) (c : Nat), s.m.flt.halted = false ∧ c < 32 ∧ s.m.chState c = 3 ∧ s.m.drc.waiting = []) ∧
    (∃ (s : State) (d : Nat) (temp : Int), s.m.flt.halted = false ∧ d < 8 ∧
      (8 * s.m.rd Reg.DRC_REF_CFG Fields.DRC_REF_CFG.TEMP_2X : Int) ≤ temp ∧ (∀ i : Nat,
      i < 4 → s.m.chState (4 * d + i) = 1 ∧ s.m.flag (Reg.DRC_CH_STATUS (4 * d + i)) Fields.DRC_CH_STATUS.DOUBLED =
      false ∧ 2 * s.m.debt (4 * d + i) < s.m.catchAt)) ∧
    (∃ (s : State) (d : Nat) (temp : Int), s.m.flt.halted = false ∧ d < 8 ∧
      temp ≤ 8 * ((s.m.rd Reg.DRC_REF_CFG Fields.DRC_REF_CFG.TEMP_2X : Int) - 5) ∧ (∀ i : Nat,
      i < 4 → s.m.chState (4 * d + i) = 1 ∧ s.m.flag (Reg.DRC_CH_STATUS (4 * d + i)) Fields.DRC_CH_STATUS.DOUBLED =
      true)) ∧
    (∃ (s : State) (d us : Nat), s.m.flt.halted = false ∧ d < 8 ∧
      s.m.flag Reg.DRC_PWR_CFG Fields.DRC_PWR_CFG.SR_EN = true ∧
      max 1 (s.m.rd Reg.DRC_PWR_CFG Fields.DRC_PWR_CFG.SR_IDLE) ≤ us ∧ (∀ i : Nat,
      i < 4 → s.m.chState (4 * d + i) = 1 ∨ s.m.chState (4 * d + i) = 2)) ∧
    (∃ (s : State) (d : Nat), s.m.flt.halted = false ∧ d < 8) ∧
    (∃ (s : State) (c i : Nat) (reqs : List MemReq) (r : MemReq) (m1 : Mod), s.m.flt.halted = false ∧
      Wf.memoryRequest c reqs 0 = true ∧ (s.m.chState c = 1 ∨ s.m.chState c = 2) ∧
      reqs.any (fun r => s.m.channelOf r.addr != c) = false ∧ s.m.chooseRequest c reqs = (some i, m1) ∧
      reqs[i]? = some r ∧ r.data = none ∧ badIn s.m.gddrBad 64 r.addr r.len = false) ∧
    (∃ (s : State) (c i : Nat) (reqs : List MemReq) (r : MemReq) (bs : List Byte) (m1 : Mod), s.m.flt.halted = false ∧
      Wf.memoryRequest c reqs 0 = true ∧ (s.m.chState c = 1 ∨ s.m.chState c = 2) ∧
      reqs.any (fun r => s.m.channelOf r.addr != c) = false ∧ s.m.chooseRequest c reqs = (some i, m1) ∧
      reqs[i]? = some r ∧ r.data = some bs ∧ partBad s.m.gddrBad 64 r.addr bs.length = false) :=
  ⟨⟨st (fun m => (m.setChState 31 2).setDrc { m.drc with waiting := [31, 2], rows := [(500, some 3)] }), 31, by decide⟩,
    ⟨st (fun m => (m.setChState 31 5).setDrc { m.drc with slots := [3, 31] }), 31, by decide⟩,
    ⟨st (fun m => m.setDrc { m.drc with rows := [(511, some 3)] }), 31, 15, 0xFFFF, by decide⟩,
    ⟨st (fun m => (m.setChState 31 1).wr Reg.DRC_REF_CFG Fields.DRC_REF_CFG.CATCH_AT 8), 31, by decide⟩,
    ⟨st (fun m => (m.setChState 31 1).setDebt 31 3), 31, by decide⟩,
    ⟨st (fun m => ((m.setChState 31 3).setDebt 31 5).setDrc { m.drc with slots := [31] }), 31, by decide⟩,
    ⟨st (fun m => ((((m.setChState 28 1).setChState 29 1).setChState 30 1).setChState 31 1).setDebt 30 1), 7, 1000,
      by decide⟩,
    ⟨st (fun m => (m.each (List.range 4) (fun i s => ((s.setChState (28 + i) 1).wr (Reg.DRC_CH_STATUS (28 + i))
      Fields.DRC_CH_STATUS.DOUBLED 1).setDebt (28 + i) (2 * i)))), 7, -100, by decide⟩,
    ⟨st (fun m => (((((m.setChState 28 1).setChState 29 1).setChState 30 2).setChState 31 1).setDebt 30 1).wr
      Reg.DRC_PWR_CFG Fields.DRC_PWR_CFG.SR_EN 1), 7, 100000, by decide⟩,
    ⟨st (fun m => ((m.setChState 28 6).setChState 29 6).setChState 30 7), 7, by decide⟩,
    ⟨st (fun m => (m.setChState 31 1).gddrPut 0x1FF08 [5#8]), 31, 0, [⟨0, false, false, 0x1FF00, 16, none⟩], ⟨0, false,
      false, 0x1FF00, 16, none⟩, ((st (fun m => (m.setChState 31 1).gddrPut 0x1FF08 [5#8])).m.chooseRequest 31 [⟨0,
      false, false, 0x1FF00, 16, none⟩]).2, by decide⟩,
    ⟨st (fun m => (m.setChState 31 1).gddrPut 0x1FF08 [5#8]), 31, 0, [⟨0, false, false, 0x1FF08, 2, some [7#8, 8#8]⟩],
      ⟨0, false, false, 0x1FF08, 2, some [7#8, 8#8]⟩, [7#8, 8#8],
      ((st (fun m => (m.setChState 31 1).gddrPut 0x1FF08 [5#8])).m.chooseRequest 31 [⟨0, false, false, 0x1FF08, 2,
      some [7#8, 8#8]⟩]).2, by decide⟩⟩

theorem witness_LinkAndLanes :
    (∃ (s : State) (us : Nat) (r : LaneRes), s.m.flt.halted = false ∧ Wf.trainingAttempt [r] = true ∧ s.m.slState = 1 ∧
      s.m.flag Reg.SL_CTRL Fields.SL_CTRL.PAIR_EN = true ∧ s.m.laneState r.lane ≠ 5 ∧ s.m.laneDisabled r.lane = false ∧
      96 ≤ r.fom ∧ r.group = laneGroup r.lane ∧ r.pos < (groupLanes (laneGroup r.lane)).length ∧
      (groupLanes (laneGroup r.lane)).any (fun j => j != r.lane && s.m.laneState j == 5 && s.m.rd (Reg.SL_LANE_STATUS j)
      Fields.SL_LANE_STATUS.POSITION == r.pos) = false) ∧
    (∃ (s : State) (us ms : Nat), s.m.flt.halted = false ∧ 50000 ≤ us ∧ (s.m.slState = 1 ∨ s.m.slState = 2) ∧
      s.m.flag Reg.SL_STATUS Fields.SL_STATUS.PAIR_ABSENT = false ∧ s.m.rd Reg.SL_STATUS Fields.SL_STATUS.ATTEMPT < 3) ∧
    (∃ (s : State) (us ms : Nat), s.m.flt.halted = false ∧ 50000 ≤ us ∧ (s.m.slState = 1 ∨ s.m.slState = 2) ∧
      s.m.flag Reg.SL_STATUS Fields.SL_STATUS.PAIR_ABSENT = false ∧ 3 ≤ s.m.rd Reg.SL_STATUS Fields.SL_STATUS.ATTEMPT ∧
      s.m.startState ≠ 5) ∧
    (∃ (s : State) (role pcc ms : Nat) (version : BitVec 16), s.m.flt.halted = false ∧ role < 4 ∧ pcc < 2 ^ 64 ∧
      s.m.slState = 2 ∧ s.m.startState ≠ 5 ∧ (s.m.profRole = 1 ∧ role = 2 ∨ s.m.profRole = 2 ∧ role = 1) ∧
      s.m.flag Reg.TB_STATUS Fields.TB_STATUS.REF_LOCKED = true ∧ version = Config.slProtocol) ∧
    (∃ (s : State) (base : List (Nat × Word)) (rings : List RingCtx) (queues : List QueueCtx), s.m.flt.halted = false ∧
      Wf.resyncComplete ⟨base, rings, queues⟩ = true ∧ s.m.slState = 3 ∧ s.m.sys.rejoin = false) ∧
    (∃ (s : State) (c : QueueCtx), s.m.flt.halted = false ∧ Wf.resyncComplete ⟨[], [], [c]⟩ = true ∧ s.m.slState = 3 ∧
      s.m.sys.rejoin = true) ∧
    (∃ (s : State) (k fom : Nat), s.m.flt.halted = false ∧ k < 65 ∧ fom < 256 ∧ s.m.laneState k = 5 ∧ s.m.fomFail ≤ fom) ∧
    (∃ (s : State) (k : Nat), s.m.flt.halted = false ∧ k < 65 ∧ s.m.laneState k = 5 ∧
      groupNeeds (laneGroup k) < s.m.lanesUp (groupLanes (laneGroup k))) ∧
    (∃ (s : State) (k : Nat), s.m.flt.halted = false ∧ k < 65 ∧ s.m.laneDisabled k = true ∧ s.m.laneState k ≠ 5 ∧
      s.m.laneState k ≠ 0) ∧
    (∃ (s : State) (g : Nat), s.m.flt.halted = false ∧ g < 10) ∧
    (∃ (s : State) (k fom ms : Nat), s.m.flt.halted = false ∧ k < 65 ∧ fom < 256 ∧
      (s.m.laneState k = 6 ∨ s.m.laneState k = 7) ∧ s.m.laneDisabled k = false ∧ s.m.pair.rejoin.contains k = false ∧
      96 ≤ fom ∧ ms ≤ 50) ∧
    (∃ (s : State) (g a : Nat) (bs : List Byte), s.m.flt.halted = false ∧ g < 64 ∧ bs ≠ [] ∧
      a + bs.length ≤ 0x800000000 ∧ s.m.journalOn = true ∧ s.m.placeOff (.gddr a) bs.length = false ∧
      partBad s.m.gddrBad 64 a bs.length = false) ∧
    (∃ (s : State) (g a : Nat) (bs : List Byte), s.m.flt.halted = false ∧ g < 64 ∧ bs ≠ [] ∧
      a + bs.length ≤ 0x800000000 ∧ s.m.journalOn = true ∧ s.m.placeOff (.gddr a) bs.length = false ∧
      partBad s.m.gddrBad 64 a bs.length = true) ∧
    (∃ (s : State) (k : Nat), s.m.flt.halted = false ∧ k < 16) ∧
    (∃ (s : State), s.m.flt.halted = false ∧ s.m.slState = 6 ∧ s.m.flag Reg.SL_CTRL Fields.SL_CTRL.PAIR_EN = true) :=
  ⟨⟨st (fun m => (m.setSlState 1).wr Reg.SL_CTRL Fields.SL_CTRL.PAIR_EN 1), 0, ⟨64, 255, true, false, 9, 0⟩, by decide⟩,
    ⟨st (Mod.setSlState 2), 50000, 7, by decide⟩,
    ⟨st (fun m => (m.setSlState 2).wr Reg.SL_STATUS Fields.SL_STATUS.ATTEMPT 3), 50000, 7, by decide⟩,
    ⟨st (fun m => (((((m.setSlState 2).wr Reg.GLB_START_STATE Fields.GLB_START_STATE.PROF_BAD 0).wr Reg.TB_STATUS
      Fields.TB_STATUS.REF_LOCKED 1).wr (Reg.SL_MRGN_CFG 15) Fields.SL_MRGN_CFG.EN 1) |> fun m =>
      { m with sys := { m.sys with slots := [(m.slotInUse, { m.slot m.slotInUse with bytes := [(0x32, 2#8)] })] } })),
      1, 0x100000002, 5, Config.slProtocol, by (repeat' apply And.intro) <;> first | decide | rfl⟩,
    ⟨st (fun m => (m.setSlState 3).wr (Reg.SL_PDIE_STATUS 1) Fields.SL_PDIE_STATUS.PRIMARY_DOWN 1),
      [(Reg.SEQ_PRF_LIMIT 3, 7#32)], [], [], by decide⟩,
    ⟨st (fun m => { m.setSlState 3 with sys := { m.sys with rejoin := true } }), ⟨4095, 3, 5, 8, 63, 0x10000, true⟩,
      by decide⟩,
    ⟨st (Mod.setLane 64 5), 64, 255, by decide⟩,
    ⟨st (fun m => (m.setLane 62 5).setLane 63 5), 63, by decide⟩,
    ⟨st (fun m => (m.setLane 64 6).wr (Reg.SL_LANE_CFG 64) Fields.SL_LANE_CFG.DISABLE 1), 64, by decide⟩,
    ⟨st (fun m => (m.setLane 62 7).setPair { m.pair with rejoin := [63] }), 8, by decide⟩,
    ⟨st (Mod.setLane 64 7), 64, 96, 50, by decide⟩,
    ⟨st paired, 63, 0x7FFFFFFFE, [1#8, 2#8], by decide⟩,
    ⟨st (fun m => { paired m with gddrBad := [(1, true)] }), 63, 0x41, [1#8, 2#8], by decide⟩,
    ⟨st (Mod.copyRegion 15), 15, by decide⟩,
    ⟨st (fun m => ((m.setSlState 6).wr Reg.SL_CTRL Fields.SL_CTRL.PAIR_EN 1).setLane 64 5), by decide⟩⟩

theorem witness_JournalRecords :
    (∃ (s : State) (j port site group node seq c : Nat) (args h : List Byte) (host : List Host.Cell) (m0 : Mod),
      s.m.flt.halted = false ∧ Wf.burstStart port site group args = true ∧ s.m.journalOn = true ∧
      m0 = s.m.setPair { s.m.pair with starts := SMap.set (fun _ => none) s.m.pair.starts port none, decs := s.m.pair.decs.filter (fun d => d.port != port), switched := s.m.pair.switched.filter (fun k => k != port) }
      ∧ (s.m.seq (16 + port)).job = none ∧ m0.devRecord (64 + group) host (pbAddr args) 64 = .ok h ∧
      m0.burstChecks (16 + port) (64 + group) args h = .inr c) ∧
    (∃ (s : State) (n outcome vec : Nat), s.m.flt.halted = false ∧ n < 16 ∧ s.m.journalOn = true) ∧
    (∃ (s : State) (n kind outcome vec : Nat), s.m.flt.halted = false ∧ n < 16 ∧ s.m.journalOn = true ∧ kind ≠ 0) ∧
    (∃ (s : State) (j slot site group node cls unit : Nat) (x : PeerInst), s.m.flt.halted = false ∧ group < 64 ∧
      s.m.journalOn = true ∧ s.m.peerInst slot = some x) ∧
    (∃ (s : State) (j slot site group node status stretch : Nat) (value : DWord) (fail : Bool) (x : PeerInst),
      s.m.flt.halted = false ∧ group < 64 ∧ status < 256 ∧ s.m.journalOn = true ∧ s.m.peerInst slot = some x) ∧
    (∃ (s : State) (j q slot : Nat) (bs : List Byte), s.m.flt.halted = false ∧ q < 4096 ∧ bs.length = 40 ∧
      s.m.journalOn = true ∧ (s.m.peerQueue q).descs.length < 4) ∧
    (∃ (s : State) (j q slot : Nat) (bs : List Byte), s.m.flt.halted = false ∧ q < 4096 ∧ bs.length = 24 ∧
      s.m.journalOn = true) ∧
    (∃ (s : State) (j q head tail size cq base : Nat), s.m.flt.halted = false ∧ q < 4096 ∧ cq < 64 ∧
      s.m.journalOn = true) ∧
    (∃ (s : State) (j slot : Nat) (bs : List Byte) (x : PeerInst), s.m.flt.halted = false ∧ bs.length = 16 ∧
      s.m.journalOn = true ∧ s.m.peerInst slot = some x) ∧
    (∃ (s : State) (j n rd srd : Nat), s.m.flt.halted = false ∧ n < 16 ∧ s.m.journalOn = true) ∧
    (∃ (s : State) (j off : Nat) (v : Word), s.m.flt.halted = false ∧ off < 0x400000 ∧
      (regAt off).map (fun e => e.1.name) ≠ some .SEQ_GRP_RESV ∧ s.m.journalOn = true) ∧
    (∃ (s : State) (j n k : Nat) (v : Word), s.m.flt.halted = false ∧ n < 16 ∧ k < 8 ∧ s.m.journalOn = true) ∧
    (∃ (s : State) (j off : Nat) (v : Word), s.m.flt.halted = false ∧ s.m.journalOn = true) ∧
    (∃ (s : State) (j slot site group edge : Nat) (value : DWord) (fail skip : Bool) (x : PeerInst),
      s.m.flt.halted = false ∧ group < 64 ∧ s.m.journalOn = true ∧ s.m.peerInst slot = some x) ∧
    (∃ (s : State) (j k : Nat) (r : Report) (x : Inst), s.m.flt.halted = false ∧ j < 2 ^ 32 ∧ s.m.journalOn = true ∧
      (j + 2 ^ 32 - s.m.pair.acked) % 2 ^ 32 < s.m.journalOpen ∧ s.m.pair.comps = [] ∧ s.m.pair.ends = [(k, r)] ∧
      (k + 2 ^ 32 - s.m.pair.acked) % 2 ^ 32 ≤ (j + 2 ^ 32 - s.m.pair.acked) % 2 ^ 32 ∧ s.m.inst r.inst = some x ∧
      x.quitStatus = none ∧ r.status = 0 ∧ (x.node r.node).settle ≠ 0) :=
  ⟨⟨st mirrorReady, 9, 0, 3, 0, 2, 77, 1, leBytes 4 0x1000 ++ zeroBytes 12, burstHeader, cellsAt 0x1000 burstHeader,
      (st mirrorReady).m.setPair { (st mirrorReady).m.pair with starts := [], decs := [], switched := [] }, by decide⟩,
    ⟨st paired, 15, 5, 0, by decide⟩,
    ⟨st paired, 15, 8, 5, 0, by decide⟩,
    ⟨st (fun m => (paired m).setPeerInst 511 (some PeerInst.fresh)), 9, 511, 1, 63, 3, 4, 5, PeerInst.fresh, by decide⟩,
    ⟨st (fun m => (paired m).setPeerInst 511 (some { PeerInst.fresh with running := [(3, (1, 2))] })), 9, 511, 1, 63, 3,
      0, 5, 7#64, true, { PeerInst.fresh with running := [(3, (1, 2))] }, by decide⟩,
    ⟨st (fun m => (paired m).setPeerQueue 4095 { PeerQueue.fresh with descs := [(1, []), (2, [])] }), 9, 4095, 2,
      zeroBytes 40, by decide⟩,
    ⟨st (fun m => (paired m).setPeerQueue 4095 { PeerQueue.fresh with descs := [(1, []), (2, zeroBytes 40)] }), 9, 4095,
      2, zeroBytes 24, by decide⟩,
    ⟨st paired, 9, 4095, 3, 5, 8, 63, 0x1000, by decide⟩,
    ⟨st (fun m => (paired m).setPeerInst 511 (some { PeerInst.fresh with running := [(3, (1, 2))] })), 9, 511, [1#8,
      2#8, 3#8, 4#8, 5#8, 0#8, 7#8, 15#8, 9#8, 10#8, 11#8, 12#8, 13#8, 0#8, 0#8, 0#8],
      { PeerInst.fresh with running := [(3, (1, 2))] }, by decide⟩,
    ⟨st paired, 9, 15, 5, 6, by decide⟩,
    ⟨st paired, 9, Reg.HAT_GRP_CFG 63, 5#32, by decide⟩,
    ⟨st paired, 9, 15, 7, 5#32, by decide⟩,
    ⟨st paired, 9, Reg.TB_TRIM, 5#32, by decide⟩,
    ⟨st (fun m => (paired m).setPeerInst 511 (some PeerInst.fresh)), 9, 511, 1, 63, 3, 4#64, true, false,
      PeerInst.fresh, by decide⟩,
    ⟨st (fun m => ((paired m).setPair { m.pair with jseq := 5, acked := 3, ends := [(3, ⟨0, 0, 0, 7#64, true, 2, true⟩)] }).setInst
      0 (some (instOf [NodeD.ofBytes (4#8 :: 1#8 :: List.replicate 14 1#8 ++ zeroBytes 48)] []))), 4, 3, ⟨0, 0, 0, 7#64,
      true, 2, true⟩, instOf [NodeD.ofBytes (4#8 :: 1#8 :: List.replicate 14 1#8 ++ zeroBytes 48)] [], by decide⟩⟩

theorem witness_MirrorAndTakeover :
    (∃ (s : State) (n ofs : Nat) (m1 : Mod) (src idx us : Nat) (stop : Bool), s.m.flt.halted = false ∧ n < 16 ∧
      (s.m.seq (16 + n)).live = true ∧ (s.m.seq (16 + n)).follows = true ∧
      (s.m.seq (16 + n)).wait = some (.trig src idx stop us) ∧
      s.m.takeDec (16 + n) 8 (some (s.m.seq (16 + n)).num) = (none, s.m) ∧ s.m.takeDec (16 + n) 3 none = (some 1, m1)) ∧
    (∃ (s : State) (n : Nat), s.m.flt.halted = false ∧ n < 16) ∧
    (∃ (s : State) (p d : Nat) (fail : Bool), s.m.flt.halted = false ∧ p < 16 ∧ d < 2 ∧
      (s.m.journalOn = true ∨ s.m.slState = 7)) ∧
    (∃ (s : State) (c u status i : Nat) (value : DWord) (fail : Bool) (j : Job), s.m.flt.halted = false ∧ status < 256 ∧
      s.m.slState = 7 ∧ s.m.awayAt c u = some j ∧ j.inst = some i) ∧
    (∃ (s : State) (d u : Nat) (f : CtlFrame), d < 3 ∧ f.args.length = 48 ∧ s.m.primaryDown d = true ∧ f.cls = 4 ∧
      f.unit = u ∧ u < 36 ∧ unitDie 4 u = d + 1 ∧ s.m.tdc u = none ∧ tmBad u f.args = false ∧ 2 ≤ tmStart f.args ∧
      2 ≤ tmStop f.args) ∧
    (∃ (s : State) (q n seg pass : Nat) (desc bytes : List Byte) (last : Bool), n < 8 ∧ s.m.h0OnSecondary = true ∧
      s.m.pair.frames.contains q = false) ∧
    (∃ (s : State) (q : Nat) (f : H0Frame) (secondary : Bool), f.wf = true ∧
      (secondary = false ∨ s.m.h0OnSecondary = false) ∧ s.m.pair.frames.contains q = false) ∧
    (∃ (s : State) (d us : Nat), d < 2 ∧ 1 ≤ us ∧ s.m.flt.txStopped = true ∧ s.m.pairProfile = true ∧
      s.m.primaryDown d = false ∧ s.m.isLost (1 + d) = false) ∧
    (∃ (s : State) (host : List Host.Cell), s.m.flt.halted = false ∧ s.m.pairProfile = true ∧ s.m.pair.pccOn = true ∧
      s.m.slState ≠ 7 ∧ s.m.pair.queues = [] ∧ s.m.pair.insts = [] ∧ s.m.pair.ends = [] ∧ s.m.pair.comps = []) ∧
    (∃ (s : State), s.m.flt.halted = false ∧ s.m.slState = 7 ∧ s.m.pair.shook = true) :=
  ⟨⟨st (fun m => (mirrorWaits m).setPair { m.pair with decs := [⟨0, 3, 1, 9⟩] }), 0, 3,
      (st (fun m => (mirrorWaits m).setPair { m.pair with decs := [] })).m, 0, 3, 0, false, by decide⟩,
    ⟨st id, 15, by decide⟩,
    ⟨st paired, 15, 1, true, by decide⟩,
    ⟨st (fun m => (m.setSlState 7).setAway 3 5 (some ⟨some 2, 0, 64, 0⟩)), 3, 5, 0, 2, 9#64, true, ⟨some 2, 0, 64, 0⟩,
      by decide⟩,
    ⟨st (Mod.wr (Reg.SL_PDIE_STATUS 1) Fields.SL_PDIE_STATUS.PRIMARY_DOWN 1), 1, 31, ⟨4, 31, 5, 0, 2, tdcArgs⟩,
      by decide⟩,
    ⟨st (Mod.wr (Reg.SL_PDIE_STATUS 1) Fields.SL_PDIE_STATUS.PRIMARY_DOWN 1), 4, 7, 1, 0, zeroBytes 8, zeroBytes 16,
      false, by decide⟩,
    ⟨st (Mod.setPair { (st id).m.pair with frames := [3] }), 4, .entry 7 0 0 [] [] true, false, by decide⟩,
    ⟨st (fun m => { (m.wr Reg.GLB_START_STATE Fields.GLB_START_STATE.PROFILE 2).setDport 15 1 { DiePort.fresh with chans := [(0, 128)] } with flt := { m.flt with txStopped := true } }),
      1, 1, by decide⟩,
    ⟨st (fun m => ((paired m).wr Reg.GLB_START_STATE Fields.GLB_START_STATE.PROFILE 3).setPair
      { m.pair with pccOn := true }), [], by decide⟩,
    ⟨st (fun m => ((m.setSlState 7).wr (Reg.SL_MRGN_CFG 15) Fields.SL_MRGN_CFG.EN 1).setPair
      { m.pair with shook := true }), by decide⟩⟩

theorem witness_PlateDocking :
    (∃ (s : State), s.m.pltState = 0) ∧
    (∃ (s : State), s.m.pltState = 1) ∧
    (∃ (s : State) (ms : Nat), 50 ≤ ms ∧ s.m.plt.low = true ∧ s.m.pltState = 1) ∧
    (∃ (s : State) (ms : Nat), ms < 50) ∧
    (∃ (s : State) (p a b : List Byte), s.m.pltState = 2 ∧ identityOk p = true ∧
      (fieldAt p 6 2 = 1 ∨ fieldAt p 6 2 = 2) ∧ copyOk a = true ∧ (copyOk b = true → fieldAt b 4 4 ≤ fieldAt a 4 4)) ∧
    (∃ (s : State) (p a b : List Byte), s.m.pltState = 2 ∧ identityOk p = true ∧
      (fieldAt p 6 2 = 1 ∨ fieldAt p 6 2 = 2) ∧ copyOk b = true ∧ (copyOk a = true → fieldAt a 4 4 < fieldAt b 4 4)) ∧
    (∃ (s : State) (p a b : List Byte), s.m.pltState = 2 ∧ identityOk p = true ∧ fieldAt p 6 2 ≠ 1 ∧ fieldAt p 6 2 ≠ 2) ∧
    (∃ (s : State) (p a b : List Byte), s.m.pltState = 2 ∧ identityOk p = false) ∧
    (∃ (s : State), s.m.pltState = 2) ∧
    (∃ (s : State) (ms : Nat), 1 ≤ ms ∧ s.m.plt.low = false ∧ 2 ≤ s.m.pltState ∧ s.m.cal.run = none) ∧
    (∃ (s : State), s.m.flag Reg.PLT_STATUS Fields.PLT_STATUS.WB_BUSY = true ∧
      s.m.flag Reg.PLT_STATUS Fields.PLT_STATUS.WB_PENDING = false ∧ s.m.plt.undocking = false ∧
      s.m.sys.orderly = .none) ∧
    (∃ (s : State), s.m.flag Reg.PLT_STATUS Fields.PLT_STATUS.WB_BUSY = true ∧
      s.m.flag Reg.PLT_STATUS Fields.PLT_STATUS.WB_PENDING = false ∧ s.m.plt.undocking = true ∧ s.m.sys.orderly = .none) ∧
    (∃ (s : State) (ok : Bool), s.m.flag Reg.PLT_STATUS Fields.PLT_STATUS.WB_BUSY = true ∧
      s.m.flag Reg.PLT_STATUS Fields.PLT_STATUS.WB_PENDING = true) ∧
    (∃ (s : State), s.m.flag Reg.PLT_STATUS Fields.PLT_STATUS.WB_BUSY = true ∧
      s.m.flag Reg.PLT_STATUS Fields.PLT_STATUS.WB_PENDING = false ∧ s.m.sys.orderly = .none) ∧
    (∃ (s : State) (init : Init), s.m.serving = true ∧ s.m.journalOn = false ∧ init.wf = true ∧
      s.m.plt.counting = true ∧ s.m.flag Reg.PLT_STATUS Fields.PLT_STATUS.WB_BUSY = false) ∧
    (∃ (s : State) (init : Init), s.m.serving = true ∧ s.m.journalOn = false ∧ init.wf = true ∧ s.m.pltState = 3 ∧
      s.m.plt.undocking = false ∧ s.m.flag Reg.PLT_STATUS Fields.PLT_STATUS.WB_BUSY = false) ∧
    (∃ (s : State) (init : Init), s.m.serving = true ∧ s.m.journalOn = false ∧ init.wf = true ∧ 2 < s.m.pltState ∧
      s.m.plt.low = true ∧ s.m.flag Reg.PLT_STATUS Fields.PLT_STATUS.WB_BUSY = false) :=
  ⟨⟨st id, by decide⟩,
    ⟨st (Mod.setPltState 1), by decide⟩,
    ⟨st (fun m => ({ m with plt := { m.plt with low := true } } : Machine.Mod).setPltState 1), 50, by decide⟩,
    ⟨st (fun m => ({ m with plt := { m.plt with low := true } } : Machine.Mod).setPltState 1), 49, by decide⟩,
    ⟨st (Mod.setPltState 2), plateId, plateCopy 5, plateCopy 5, by decide⟩,
    ⟨st (Mod.setPltState 2), plateId, plateCopy 4, plateCopy 5, by decide⟩,
    ⟨st (Mod.setPltState 2), (let b := leBytes 4 0x504C4931 ++ leBytes 2 1 ++ leBytes 2 3 ++ zeroBytes 116; b ++ leBytes
      4 (crc32 b).toNat), [], [], by decide⟩,
    ⟨st (Mod.setPltState 2), zeroBytes 128, [], [], by decide⟩,
    ⟨st (Mod.setPltState 2), by decide⟩,
    ⟨st (Mod.setPltState 3), 1, by decide⟩,
    ⟨st (Mod.setReg Reg.PLT_STATUS (fput Fields.PLT_STATUS.WB_BUSY 1 0#32)), by decide⟩,
    ⟨st (fun m => ({ m with plt := { m.plt with undocking := true } } : Machine.Mod).setReg Reg.PLT_STATUS (fput
      Fields.PLT_STATUS.WB_BUSY 1 0#32)), by decide⟩,
    ⟨st (Mod.setReg Reg.PLT_STATUS (fput Fields.PLT_STATUS.WB_BUSY 1 (fput Fields.PLT_STATUS.WB_PENDING 1 0#32))), true,
      by decide⟩,
    ⟨st (Mod.setReg Reg.PLT_STATUS (fput Fields.PLT_STATUS.WB_BUSY 1 0#32)), by decide⟩,
    ⟨served (fun m => ({ m with plt := { m.plt with counting := true } } : Machine.Mod).setPltState 3), .host,
      by decide⟩,
    ⟨served (fun m => ({ m with plt := { m.plt with counting := true } } : Machine.Mod).setPltState 3), .host,
      by decide⟩,
    ⟨served (fun m => ({ m with plt := { m.plt with low := true } } : Machine.Mod).setPltState 4), .host, by decide⟩⟩

theorem witness_RegisterAccess :
    (∃ (s : State) (init : Init) (off width : Nat), s.m.taking = true ∧ Wf.malformedAccess init off width = true ∧
      inDoorbells off = false) ∧
    (∃ (s : State) (init : Init) (off width : Nat), s.m.taking = true ∧ Wf.malformedAccess init off width = true ∧
      inDoorbells off = false) ∧
    (∃ (s : State) (init : Init) (off : Nat) (d : RegDesc) (ix : List Nat), init.wf = true ∧ off < 0x1000000 ∧
      s.m.isLost 0 = false ∧ off % 4 = 0 ∧ regAt off = some (d, ix) ∧ pairLows.contains d.name = true ∧
      d.name ≠ .TD_SEC_LO) ∧
    (∃ (s : State) (init : Init) (off : Nat) (v : Word) (d : RegDesc) (ix : List Nat), s.m.serving = true ∧
      s.m.journalOn = false ∧ init.wf = true ∧ off < 0x1000000 ∧ off % 4 = 0 ∧ regAt off = some (d, ix) ∧
      pairLows.contains d.name = true ∧ d.name ≠ .XLT_CTX_ROOT_LO ∧ Wr.ofMirror ⟨init, off, d, ix, v⟩ s.m = false ∧
      (d.name = .SEQ_PRF_SPILL_BASE_LO → s.m.spillKept (ix.getD 0 0) = false)) ∧
    (∃ (s : State) (init : Init) (k : Nat) (v : Word), s.m.serving = true ∧ s.m.journalOn = false ∧ init.wf = true ∧
      k < 4) ∧
    (∃ (s : State) (init : Init) (p : Nat) (v : Word), s.m.serving = true ∧ s.m.journalOn = false ∧ init.wf = true ∧
      p < 2) ∧
    (∃ (s : State) (init : Init) (v : Word), s.m.serving = true ∧ s.m.journalOn = false ∧ init.wf = true) ∧
    (∃ (s : State) (init : Init) (off : Nat) (v : Word) (d : RegDesc) (ix : List Nat), s.m.taking = true ∧
      init.wf = true ∧ off < 0x1000000 ∧ off % 4 = 0 ∧ inMsix off = false ∧ regAt off = some (d, ix) ∧
      s.m.writeOpen init d.name = false) ∧
    (∃ (s : State) (init : Init) (off : Nat) (v : Word), s.m.taking = true ∧ init.wf = true ∧ off < 0x1000000 ∧
      off % 4 = 0 ∧ inMsix off = false ∧ regAt off = none) ∧
    (∃ (s : State) (init : Init) (off : Nat) (v : Word), s.m.taking = true ∧ init.wf = true ∧ off < 0x4000000 ∧
      0x1008000 ≤ off) :=
  ⟨⟨st id, .score 15, 0x102, 2, by decide⟩,
    ⟨st id, .host, 0x101, 4, by decide⟩,
    ⟨st id, .mcore 3, 0x901010, ⟨.TIME_TTIME_LO, 0x901010, [], 0#32, 0#32, 0#32, 0#32, 0#32⟩, [], by decide⟩,
    ⟨served id, .regwr 31, 0x902034, 7#32, ((regAt 0x902034).getD (⟨.GLB_DIE_STATUS, 0, [], 0, 0, 0, 0, 0⟩, [])).1,
      ((regAt 0x902034).getD (⟨.GLB_DIE_STATUS, 0, [], 0, 0, 0, 0, 0⟩, [])).2, by decide⟩,
    ⟨served (fun m => { m with stage := SMap.insert [] (latchKey .host (Reg.TD_SET_SEC_LO 3)) 9#32 }), .host, 3, 5#32,
      by decide⟩,
    ⟨served id, .regwr 5, 1, 0xFFFFFFFF#32, by decide⟩,
    ⟨served (Mod.setReg Reg.GLB_DIE_ERR 0x3F#32), .host, 5#32, by decide⟩,
    ⟨st id, .host, 0x400000, 1#32, ((regAt 0x400000).getD (⟨.GLB_DIE_STATUS, 0, [], 0, 0, 0, 0, 0⟩, [])).1, [0],
      by decide⟩,
    ⟨st id, .host, 0xFFFFFC, 1#32, by decide⟩,
    ⟨st id, .host, 0x3FFFFFF, 1#32, by decide⟩⟩

theorem witness_WindowsAndDoorbells :
    (∃ (s : State) (off len : Nat), s.m.serving = true ∧ Wf.hostBar2Read off len = true ∧
      sramBadIn s.m.sramBad off len = false) ∧
    (∃ (s : State) (off len : Nat), s.m.serving = true ∧ Wf.hostBar2Read off len = true ∧
      sramBadIn s.m.sramBad off len = true) ∧
    (∃ (s : State) (off len : Nat), s.m.taking = true ∧ s.m.open = false ∧ Wf.hostBar2Read off len = true) ∧
    (∃ (s : State) (off : Nat) (data : List (Option Byte)), s.m.serving = true ∧ Wf.hostBar2Write off data = true ∧
      (∀ i : Nat, i < data.length → (data.getD i none).isSome = true → s.m.sramWritable (off + i) = true) ∧
      (enabledRuns data off).any (fun r => partBad s.m.sramBad 8 r.1 r.2.length) = false) ∧
    (∃ (s : State) (off : Nat) (data : List (Option Byte)) (i : Nat), s.m.serving = true ∧
      Wf.hostBar2Write off data = true ∧ i < data.length ∧ (data.getD i none).isSome = true ∧
      s.m.sramWritable (off + i) = false) ∧
    (∃ (s : State) (off n : Nat), s.m.serving = true ∧ Wf.bar4Access off n none = true ∧
      badBursts s.m.gddrBad (s.m.bar4Addr off) n = [] ∧ (∀ i : Nat, i < n → s.m.gddrOff (s.m.bar4Addr off + i) = false)) ∧
    (∃ (s : State) (off : Nat) (bs : List Byte), s.m.serving = true ∧
      Wf.bar4Access off bs.length (some (bs.map some)) = true ∧
      s.m.placeOff (.gddr (s.m.bar4Addr off)) bs.length = false ∧
      partBad s.m.gddrBad 64 (s.m.bar4Addr off) bs.length = false) ∧
    (∃ (s : State) (init : Init) (q : Nat) (v : DWord), s.m.serving = true ∧ s.m.journalOn = false ∧ init.wf = true ∧
      (∀ c : Nat, c < 32 → init ≠ .regwr c) ∧ init ≠ .profile ∧ q < 4096 ∧ dbSqValid v.toNat = true ∧
      dbCqValid v.toNat = false ∧ s.m.dbUnbound q v.toNat = false ∧ s.m.dbRange q v.toNat = false ∧
      s.m.dbBackward q v.toNat = false) ∧
    (∃ (s : State) (init : Init) (q : Nat) (v : DWord), s.m.serving = true ∧ init = .host ∧ q < 4096 ∧
      dbSqValid v.toNat = false ∧ dbCqValid v.toNat = true ∧ s.m.dbUnbound q v.toNat = false ∧
      s.m.dbRange q v.toNat = false ∧ s.m.pair.held = []) ∧
    (∃ (s : State) (init : Init) (q : Nat) (v : DWord), s.m.serving = true ∧ init = .host ∧ q < 4096 ∧
      s.m.dbUnbound q v.toNat = true) ∧
    (∃ (s : State) (init : Init) (off size : Nat) (full : Bool) (v : DWord), s.m.serving = true ∧
      Wf.doorbell init off size = true ∧ (size ≠ 8 ∨ off % 8 ≠ 0 ∨ full = false)) ∧
    (∃ (s : State) (c a n : Nat) (host : List Host.Cell), s.m.flt.halted = false ∧
      Wf.coreDeviceAccess c a n .load = true ∧ a % n = 0 ∧ a < coreSize c ∧ (s.m.hart c).pmpOk .load a = true ∧
      sramBadIn s.m.sramBad (coreBase c + a) n = false) ∧
    (∃ (s : State) (c a n ctx : Nat) (host : List Host.Cell) (bs : List Byte), s.m.flt.halted = false ∧
      Wf.coreDeviceAccess c a n .load = true ∧ a % n = 0 ∧ 0x1000000000000 ≤ a ∧ a < 0x2000000000000 ∧
      (s.m.hart c).pmpOk .load a = true ∧ s.m.coreCtx c = some ctx ∧
      findLine (s.m.hart c).dcache ctx ((a - 0x1000000000000) / 64) = none ∧ (s.m.hart c).dcache.length < 512 ∧
      s.m.devRecord ctx host (64 * ((a - 0x1000000000000) / 64)) 64 = .ok bs) ∧
    (∃ (s : State) (c a n ctx : Nat) (host : List Host.Cell) (x : CLine), s.m.flt.halted = false ∧
      Wf.coreDeviceAccess c a n .load = true ∧ a % n = 0 ∧ 0x1000000000000 ≤ a ∧ a < 0x2000000000000 ∧
      (s.m.hart c).pmpOk .load a = true ∧ s.m.coreCtx c = some ctx ∧
      findLine (s.m.hart c).dcache ctx ((a - 0x1000000000000) / 64) = some x) ∧
    (∃ (s : State) (c a n : Nat) (acc : CoreAcc) (host : List Host.Cell), s.m.flt.halted = false ∧
      Wf.coreDeviceAccess c a n acc = true ∧ a % n = 0 ∧ a % 2 = 0 ∧ (s.m.hart c).pmpOk acc a = false) ∧
    (∃ (s : State) (c off : Nat) (host : List Host.Cell), s.m.flt.halted = false ∧ c < 20 ∧ off < 0x4000 ∧ off % 4 = 0 ∧
      (s.m.hart c).pmpOk .load (0x2000000 + off) = true) ∧
    (∃ (s : State) (ch p : Nat) (v : Word), s.m.serving = true ∧ s.m.journalOn = false ∧ ch < 32 ∧ p < 2 ∧
      s.m.dmaRegwr ch = some (Reg.TP_RX_CORR p, v)) :=
  ⟨⟨served id, 0xFFF000, 4096, by decide⟩,
    ⟨served (fun m => { m with sramBad := [(0, true)] }), 4, 5, by decide⟩,
    ⟨st id, 0, 1, by decide⟩,
    ⟨served id, 0xC00010, [some 1#8, none, some 3#8], by decide⟩,
    ⟨served id, 0x10, [none, some 3#8], 1, by decide⟩,
    ⟨served (fun m => m.gddrPut 0x10000 [1#8, 2#8] |>.wr Reg.HOST_BAR4_BASE_LO Fields.HOST_BAR4_BASE_LO.BASE_L 1), 0, 3,
      by decide⟩,
    ⟨served id, 0xFFFFFFFE, [1#8, 2#8], by decide⟩,
    ⟨served (onQueue (descr 1 [])), .host, 0, 0x10001#64, by decide⟩,
    ⟨served fabric, .host, 4095, 0x80000000#64, by decide⟩,
    ⟨served id, .host, 1, 0x10001#64, by decide⟩,
    ⟨served id, .host, 0x1000004, 8, true, 0#64, by decide⟩,
    ⟨st (Mod.sramPut 0xF60000 [1#8, 2#8]), 19, 0, 8, [], by decide⟩,
    ⟨st (fun m => ((mapped m).gddrPut 0x200000 [5#8, 6#8, 7#8, 8#8]).leaveRom 16), 16, 0x1000000200002, 2, 0, [], [5#8,
      6#8, 7#8, 8#8] ++ zeroBytes 60, by decide⟩,
    ⟨st (fun m => (m.leaveRom 16).setHart 16
      { (m.leaveRom 16).hart 16 with dcache := [⟨0, 3, List.replicate 64 9#8, true⟩] }), 16, 0x10000000000C8, 8, 0, [],
      ⟨0, 3, List.replicate 64 9#8, true⟩, by decide⟩,
    ⟨st (fun m => m.setHart 3 { m.hart 3 with mode := .user }), 3, 0x200, 4, .store [1#8, 2#8, 3#8, 4#8], [], by decide⟩,
    ⟨st (Mod.leaveRom 19), 19, 4, [], by decide⟩,
    ⟨served regwrReady, 31, 1, 0x77#32, by decide⟩⟩

theorem witness_ResetAndProfileCommands :
    (∃ (s : State) (init : Init), s.m.isLost 0 = false ∧ init.wf = true) ∧
    (∃ (s : State) (init : Init), s.m.isLost 0 = false ∧ init.wf = true ∧ s.m.pairActive = true ∧ s.m.groupUp 0 = true ∧
      s.m.flag (Reg.SL_PDIE_STATUS 0) Fields.SL_PDIE_STATUS.GROUP_OK = true ∧
      s.m.flag (Reg.SL_PDIE_STATUS 1) Fields.SL_PDIE_STATUS.GROUP_OK = true) ∧
    (∃ (s : State) (init : Init), s.m.taking = true ∧ init.wf = true ∧ s.m.pairActive = false) ∧
    (∃ (s : State) (init : Init), s.m.isLost 0 = false ∧ init.wf = true ∧ s.m.seqs = [] ∧ s.m.plateBusy = false ∧
      s.m.plt.counting = false) ∧
    (∃ (s : State) (init : Init) (n : Nat), s.m.isLost 0 = false ∧ s.m.flt.halted = false ∧ init.wf = true ∧ n < 32 ∧
      (s.m.seq n).job.isSome = true ∧ s.m.dma.runs = []) ∧
    (∃ (s : State) (init : Init), s.m.isLost 0 = false ∧ s.m.flt.halted = false ∧ init.wf = true ∧ s.m.seqs = [] ∧
      s.m.plt.counting = true ∧ s.m.dma.runs = []) ∧
    (∃ (s : State) (init : Init) (prof : Nat), s.m.serving = true ∧ init.wf = true ∧ prof < 4 ∧
      s.m.sys.profWrite = none ∧ s.m.anySeqRunning = false) ∧
    (∃ (s : State) (init : Init) (prof : Nat), s.m.serving = true ∧ init.wf = true ∧ prof < 4 ∧
      s.m.sys.profWrite = none ∧ s.m.anySeqRunning = false ∧ s.m.queues = [] ∧ s.m.cqs = [] ∧ s.m.hat.insts = [] ∧
      s.m.dma.runs = [] ∧ s.m.dports = [] ∧ s.m.pair.ends = [] ∧ s.m.pair.comps = []) ∧
    (∃ (s : State) (init : Init) (prof : Nat), s.m.serving = true ∧ init.wf = true ∧ prof < 4 ∧
      s.m.sys.profWrite = none) ∧
    (∃ (s : State) (init : Init) (prof p : Nat), s.m.serving = true ∧ init.wf = true ∧ prof < 4 ∧
      s.m.sys.profWrite = some p) :=
  ⟨⟨served (onQueue (descr 1 [])), .mcore 0, by decide⟩,
    ⟨served (fun m => ((paired m).setReg (Reg.SL_PDIE_STATUS 0) 0xFFFFFFFF#32 |>.setReg (Reg.SL_PDIE_STATUS 1)
      0xFFFFFFFF#32).each (List.range 65) (fun k s => s.setLane k 5)), .host, by decide⟩,
    ⟨st id, .host, by decide⟩,
    ⟨served (onQueue (descr 1 [])), .score 0, by decide⟩,
    ⟨served (seqAt id (insn 0 0 0 0 0 0)), .host, 5, by decide⟩,
    ⟨served (fun m => { m with plt := { m.plt with counting := true } }), .host, by decide⟩,
    ⟨served id, .host, 3, by decide⟩,
    ⟨served id, .host, 2, by decide⟩,
    ⟨served id, .host, 1, by decide⟩,
    ⟨served (fun m => { m with sys := { m.sys with profWrite := some 2 } }), .host, 1, 2, by decide⟩⟩

theorem witness_QueueWindowCommands :
    (∃ (s : State) (init : Init), s.m.serving = true ∧ s.m.journalOn = false ∧ init.wf = true ∧
      (s.m.queue s.m.qsel).bound = true ∧ (s.m.queue s.m.qsel).base < 2 ^ 64 ∧ (s.m.queue s.m.qsel).sizeLog2 < 32 ∧
      (s.m.queue s.m.qsel).cq < 64) ∧
    (∃ (s : State) (init : Init) (q c z : Nat), s.m.serving = true ∧ s.m.journalOn = false ∧ init.wf = true ∧
      q = s.m.qsel ∧ c = s.m.rd Reg.HOST_QCTX_CFG Fields.HOST_QCTX_CFG.CQ ∧
      z = s.m.rd Reg.HOST_QCTX_CFG Fields.HOST_QCTX_CFG.SIZE_LOG2 ∧ (s.m.queue q).bound = false ∧ 4 ≤ z ∧ z ≤ 16 ∧
      s.m.cqOn c = true) ∧
    (∃ (s : State) (init : Init) (z : Nat), s.m.serving = true ∧ s.m.journalOn = false ∧ init.wf = true ∧
      z = s.m.rd Reg.HOST_QCTX_CFG Fields.HOST_QCTX_CFG.SIZE_LOG2 ∧
      ((s.m.queue s.m.qsel).bound = true ∨ z < 4 ∨ 16 < z ∨ s.m.cqOn (s.m.rd Reg.HOST_QCTX_CFG Fields.HOST_QCTX_CFG.CQ)
      = false)) ∧
    (∃ (s : State) (init : Init) (q : Nat), s.m.serving = true ∧ s.m.journalOn = false ∧ init.wf = true ∧ q = s.m.qsel ∧
      (s.m.queue q).onchip = [] ∧ (s.m.queue q).outstanding = [] ∧ (s.m.queue q).fetches = []) ∧
    (∃ (s : State) (init : Init) (q : Nat), s.m.serving = true ∧ s.m.journalOn = false ∧ init.wf = true ∧ q = s.m.qsel ∧
      ((s.m.queue q).onchip ≠ [] ∨ (s.m.queue q).outstanding ≠ [])) ∧
    (∃ (s : State) (init : Init) (q : Nat), s.m.serving = true ∧ s.m.journalOn = false ∧ init.wf = true ∧ q = s.m.qsel ∧
      (s.m.queue q).halted = true) ∧
    (∃ (s : State) (init : Init), s.m.serving = true ∧ s.m.journalOn = false ∧ init.wf = true ∧
      (s.m.queue s.m.qsel).halted = false) ∧
    (∃ (s : State) (init : Init) (v low : Word), s.m.serving = true ∧ s.m.journalOn = false ∧ init.wf = true ∧
      low = (SMap.find s.m.stage (latchKey init Reg.HOST_BAR4_BASE_LO)).getD 0#32 ∧
      low.toNat / 0x10000 * 0x10000 + 0x100000000 * fget Fields.HOST_BAR4_BASE_HI.BASE_H v ≤ 0x700000000) ∧
    (∃ (s : State) (init : Init) (v low : Word), s.m.serving = true ∧ s.m.journalOn = false ∧ init.wf = true ∧
      low = (SMap.find s.m.stage (latchKey init Reg.HOST_BAR4_BASE_LO)).getD 0#32 ∧
      0x700000000 < low.toNat / 0x10000 * 0x10000 + 0x100000000 * fget Fields.HOST_BAR4_BASE_HI.BASE_H v) ∧
    (∃ (s : State) (init : Init) (c : Nat) (v : Word), s.m.serving = true ∧ s.m.journalOn = false ∧ init.wf = true ∧
      c < 64 ∧ s.m.cqOn c = false ∧ 4 ≤ fget Fields.HOST_CQ_CFG.SIZE_LOG2 v ∧ fget Fields.HOST_CQ_CFG.SIZE_LOG2 v ≤ 16) ∧
    (∃ (s : State) (init : Init) (c : Nat) (v : Word), s.m.serving = true ∧ s.m.journalOn = false ∧ init.wf = true ∧
      c < 64 ∧ s.m.cqOn c = false ∧ (fget Fields.HOST_CQ_CFG.SIZE_LOG2 v < 4 ∨ 16 < fget Fields.HOST_CQ_CFG.SIZE_LOG2
      v)) :=
  ⟨⟨served (onQueue (descr 1 [])), .host, by decide⟩,
    ⟨served (fun m => ((fabric m).wr Reg.HOST_QSEL Fields.HOST_QSEL.QUEUE 4095).wr Reg.HOST_QCTX_CFG
      Fields.HOST_QCTX_CFG.SIZE_LOG2 16), .host, 4095, 0, 16, by decide⟩,
    ⟨served (fun m => (fabric m).wr Reg.HOST_QCTX_CFG Fields.HOST_QCTX_CFG.SIZE_LOG2 17), .host, 17, by decide⟩,
    ⟨served (fun m => m.setQueue 0 { Queue.fresh with bound := true }), .host, 0, by decide⟩,
    ⟨served (onQueue (descr 1 [])), .host, 0, by decide⟩,
    ⟨served (fun m => m.setQueue 0 { Queue.fresh with bound := true, halted := true }), .host, 0, by decide⟩,
    ⟨served id, .host, by decide⟩,
    ⟨served (fun m => { m with stage := SMap.insert [] (latchKey .host Reg.HOST_BAR4_BASE_LO) 0x10000#32 }), .host,
      6#32, 0x10000#32, by decide⟩,
    ⟨served (fun m => { m with stage := SMap.insert [] (latchKey .host Reg.HOST_BAR4_BASE_LO) 0x10000#32 }), .host,
      7#32, 0x10000#32, by decide⟩,
    ⟨served id, .host, 63, fput Fields.HOST_CQ_CFG.SIZE_LOG2 16 0#32, by decide⟩,
    ⟨served id, .host, 63, fput Fields.HOST_CQ_CFG.SIZE_LOG2 17 0#32, by decide⟩⟩

theorem witness_HatchAndCoreCommands :
    (∃ (s : State) (init : Init) (g : Nat), s.m.serving = true ∧ s.m.journalOn = false ∧ init.wf = true ∧ g < 64 ∧
      s.m.flag (Reg.HAT_GRP_CFG g) Fields.HAT_GRP_CFG.ENABLE = true ∧ s.m.seqs = [] ∧ s.m.scores = []) ∧
    (∃ (s : State) (init : Init) (g n : Nat) (j : Job), s.m.serving = true ∧ s.m.journalOn = false ∧ init.wf = true ∧
      g < 64 ∧ n < 32 ∧ s.m.flag (Reg.HAT_GRP_CFG g) Fields.HAT_GRP_CFG.ENABLE = true ∧ (s.m.seq n).job = some j ∧
      j.group = g ∧ (s.m.seq n).mirror = false ∧ (s.m.seq n).live = true ∧ (s.m.seq n).ended = false ∧
      (s.m.seq n).post = none ∧ (s.m.seq n).request = none ∧ s.m.scores = []) ∧
    (∃ (s : State) (init : Init) (g c i k : Nat), s.m.serving = true ∧ s.m.journalOn = false ∧ init.wf = true ∧ g < 64 ∧
      c < 16 ∧ s.m.flag (Reg.HAT_GRP_CFG g) Fields.HAT_GRP_CFG.ENABLE = true ∧ (s.m.score c).step = some (i, k) ∧
      (s.m.nodeJob i k).group = g) ∧
    (∃ (s : State) (init : Init) (g weight q : Nat), s.m.serving = true ∧ s.m.journalOn = false ∧ init.wf = true ∧
      g < 64 ∧ weight < 256 ∧ q / 64 = g ∧ s.m.hat.insts = [] ∧ s.m.scores = []) ∧
    (∃ (s : State) (init : Init) (g weight : Nat), s.m.serving = true ∧ s.m.journalOn = false ∧ init.wf = true ∧
      g < 64 ∧ weight < 256 ∧ s.m.flag (Reg.HAT_GRP_CFG g) Fields.HAT_GRP_CFG.ENABLE = false) ∧
    (∃ (s : State) (init : Init) (c u : Nat), s.m.serving = true ∧ s.m.journalOn = false ∧ init.wf = true ∧
      c = s.m.rd Reg.HAT_USEL Fields.HAT_USEL.CLASS ∧ u = s.m.rd Reg.HAT_USEL Fields.HAT_USEL.INDEX ∧
      unitExists c u = true ∧ c ≠ 1 ∧ c ≠ 8) ∧
    (∃ (s : State) (init : Init) (u : Nat), s.m.serving = true ∧ s.m.journalOn = false ∧ init.wf = true ∧
      s.m.rd Reg.HAT_USEL Fields.HAT_USEL.CLASS = 1 ∧ u = s.m.rd Reg.HAT_USEL Fields.HAT_USEL.INDEX ∧
      unitExists 1 u = true ∧ (s.m.seq u).mirror = false ∧ (s.m.seq u).live = true ∧ (s.m.seq u).ended = false ∧
      (s.m.seq u).post = none ∧ (s.m.seq u).request = none) ∧
    (∃ (s : State) (init : Init) (c u : Nat), s.m.serving = true ∧ s.m.journalOn = false ∧ init.wf = true ∧
      c = s.m.rd Reg.HAT_USEL Fields.HAT_USEL.CLASS ∧ u = s.m.rd Reg.HAT_USEL Fields.HAT_USEL.INDEX ∧
      unitExists c u = false) ∧
    (∃ (s : State) (init : Init) (c u : Nat), s.m.serving = true ∧ s.m.journalOn = false ∧ init.wf = true ∧
      c = s.m.rd Reg.HAT_USEL Fields.HAT_USEL.CLASS ∧ u = s.m.rd Reg.HAT_USEL Fields.HAT_USEL.INDEX ∧
      unitExists c u = true ∧ c ≠ 1 ∧ c ≠ 8 ∧ s.m.queues = []) ∧
    (∃ (s : State) (init : Init) (c u : Nat), s.m.serving = true ∧ s.m.journalOn = false ∧ init.wf = true ∧
      c = s.m.rd Reg.HAT_USEL Fields.HAT_USEL.CLASS ∧ u = s.m.rd Reg.HAT_USEL Fields.HAT_USEL.INDEX ∧
      unitExists c u = true) ∧
    (∃ (s : State) (init : Init) (q : Nat), s.m.serving = true ∧ s.m.journalOn = false ∧ init.wf = true ∧ q < 4096 ∧
      s.m.queueHolds q = false ∧ s.m.privCount < 128) ∧
    (∃ (s : State) (init : Init) (q : Nat), s.m.serving = true ∧ s.m.journalOn = false ∧ init.wf = true ∧ q < 4096 ∧
      s.m.flag (Reg.HAT_Q_CFG q) Fields.HAT_Q_CFG.PRIV = false ∧ s.m.queueHolds q = false ∧ 128 ≤ s.m.privCount) ∧
    (∃ (s : State) (init : Init) (n : Nat), s.m.serving = true ∧ s.m.journalOn = false ∧ init.wf = true ∧ n < 16 ∧
      (s.m.score n).step = none ∧ (s.m.score n).susp = []) ∧
    (∃ (s : State) (init : Init) (n : Nat), s.m.serving = true ∧ s.m.journalOn = false ∧ init.wf = true ∧ n < 16 ∧
      (s.m.score n).step = none ∧ (s.m.score n).susp = []) ∧
    (∃ (s : State) (init : Init) (n : Nat), s.m.serving = true ∧ s.m.journalOn = false ∧ init.wf = true ∧ n < 4) ∧
    (∃ (s : State) (init : Init) (n : Nat), s.m.serving = true ∧ s.m.journalOn = false ∧ init.wf = true ∧ n < 4) ∧
    (∃ (s : State) (init : Init) (n : Nat), s.m.serving = true ∧ s.m.journalOn = false ∧ init.wf = true ∧ n < 4) ∧
    (∃ (s : State) (init : Init), s.m.serving = true ∧ s.m.journalOn = false ∧ init.wf = true ∧
      s.m.anySeqRunning = false) ∧
    (∃ (s : State) (init : Init), s.m.serving = true ∧ s.m.journalOn = false ∧ init.wf = true ∧
      s.m.anySeqRunning = false) ∧
    (∃ (s : State) (init : Init), s.m.serving = true ∧ s.m.journalOn = false ∧ init.wf = true ∧
      s.m.anySeqRunning = true) :=
  ⟨⟨served (Mod.setReg (Reg.HAT_GRP_CFG 63) 0x105#32), .host, 63, by decide⟩,
    ⟨served (fun m => (seqAt id (insn 0 0 0 0 0 0) m).setReg (Reg.HAT_GRP_CFG 0) 0x105#32), .host, 0, 5, ⟨some 0, 0, 0,
      0⟩, by decide⟩,
    ⟨served (fun m => (m.setScore 15 { SCore.fresh with step := some (3, 0), booted := true }).setReg (Reg.HAT_GRP_CFG
      0) 0x105#32), .host, 0, 15, 3, 0, by decide⟩,
    ⟨served (onQueue (descr 1 [])), .host, 0, 255, 0, by decide⟩,
    ⟨served (fun m => ({ m with hat := m.hat.setDeficit 8 63 5 } : Machine.Mod).setReg (Reg.HAT_GRP_CFG 63) 0#32),
      .host, 63, 0, by decide⟩,
    ⟨served (Mod.setReg Reg.HAT_USEL 0x1F07#32), .host, 7, 31, by decide⟩,
    ⟨served (fun m => (seqAt id (insn 0 0 0 0 0 0) m).setReg Reg.HAT_USEL 0x501#32), .host, 5, by decide⟩,
    ⟨served (Mod.setReg Reg.HAT_USEL 0x2007#32), .host, 7, 32, by decide⟩,
    ⟨served (Mod.setReg Reg.HAT_USEL 0x1F07#32), .host, 7, 31, by decide⟩,
    ⟨served (fun m => (m.setReg Reg.HAT_USEL 0x1F07#32).setUnitDisabled 7 31 true), .host, 7, 31, by decide⟩,
    ⟨served id, .host, 4095, by decide⟩,
    ⟨served (fun m => m.each (List.range 128) (fun q t => t.wr (Reg.HAT_Q_CFG q) Fields.HAT_Q_CFG.PRIV 1)), .host, 4095,
      by decide⟩,
    ⟨served (fun m => m.setScore 15 { m.score 15 with booted := true }), .host, 15, by decide⟩,
    ⟨served (Mod.setReg (Reg.MCS_SCORE_CTRL 15) 1#32), .host, 15, by decide⟩,
    ⟨served (Mod.wr64 Reg.TIME_TTIME_LO 77), .mcore 3, 3, by decide⟩,
    ⟨served (Mod.setReg (Reg.MCS_MCORE_STATUS 3) 1#32), .host, 3, by decide⟩,
    ⟨served (fun m => (m.setReg (Reg.MCS_MCORE_CTRL 3) 5#32).setMchk srcMCS 19 true), .host, 3, by decide⟩,
    ⟨served id, .host, by decide⟩,
    ⟨served id, .host, by decide⟩,
    ⟨served (seqAt id (insn 0 0 0 0 0 0)), .host, by decide⟩⟩

theorem witness_SequencerCommands :
    (∃ (s : State) (init : Init) (n : Nat), s.m.serving = true ∧ s.m.journalOn = false ∧ init.wf = true ∧ n < 32 ∧
      (s.m.pairProfile = true → init = .host → n < 16) ∧ (s.m.seq n).live = true ∧ (s.m.seq n).paused = false) ∧
    (∃ (s : State) (init : Init) (n : Nat), s.m.serving = true ∧ s.m.journalOn = false ∧ init.wf = true ∧ init = .host ∧
      16 ≤ n ∧ n < 32 ∧ s.m.pairProfile = true) ∧
    (∃ (s : State) (init : Init) (n : Nat), s.m.serving = true ∧ s.m.journalOn = false ∧ init.wf = true ∧ n < 32 ∧
      (s.m.pairProfile = true → init = .host → n < 16) ∧ (s.m.seq n).paused = false) ∧
    (∃ (s : State) (init : Init) (n : Nat), s.m.serving = true ∧ s.m.journalOn = false ∧ init.wf = true ∧ n < 32 ∧
      (s.m.pairProfile = true → init = .host → n < 16) ∧ (s.m.seq n).paused = true ∧ 0 < (s.m.seq n).num) ∧
    (∃ (s : State) (init : Init) (n : Nat), s.m.serving = true ∧ s.m.journalOn = false ∧ init.wf = true ∧ n < 32 ∧
      (s.m.pairProfile = true → init = .host → n < 16) ∧ ((s.m.seq n).paused = true → s.m.flag (Reg.SEQ_CTRL n)
      Fields.SEQ_CTRL.PAUSE = true) ∧ (s.m.seq n).live = true ∧ (s.m.seq n).ended = false ∧ (s.m.seq n).post = none ∧
      (s.m.seq n).request = none) ∧
    (∃ (s : State) (init : Init) (n : Nat), s.m.serving = true ∧ s.m.journalOn = false ∧ init.wf = true ∧ n < 32 ∧
      (s.m.pairProfile = true → init = .host → n < 16) ∧ ((s.m.seq n).paused = true → s.m.flag (Reg.SEQ_CTRL n)
      Fields.SEQ_CTRL.PAUSE = true) ∧ s.m.seqState n = 6) ∧
    (∃ (s : State) (init : Init) (n k : Nat) (v : Word), s.m.serving = true ∧ s.m.journalOn = false ∧ init.wf = true ∧
      n < 32 ∧ k < 64 ∧ (s.m.pairProfile = true → init = .host → n < 16) ∧ s.m.seqState n = 0) ∧
    (∃ (s : State) (init : Init) (n k : Nat) (v : Word), s.m.serving = true ∧ s.m.journalOn = false ∧ init.wf = true ∧
      n < 32 ∧ k < 64 ∧ s.m.seqState n ≠ 0) ∧
    (∃ (s : State) (init : Init) (n : Nat) (v : Word), s.m.serving = true ∧ s.m.journalOn = false ∧ init.wf = true ∧
      n < 32 ∧ (s.m.ring n).mode ≠ 2 ∧ (s.m.reg (Reg.SEQ_PRF_WR n) - v).toNat ≤ 1024) ∧
    (∃ (s : State) (init : Init) (n : Nat) (v : Word), s.m.serving = true ∧ s.m.journalOn = false ∧ init.wf = true ∧
      n < 32 ∧ (s.m.ring n).mode ≠ 2 ∧ 1024 < (s.m.reg (Reg.SEQ_PRF_WR n) - v).toNat) ∧
    (∃ (s : State) (init : Init) (n : Nat) (v : Word), s.m.serving = true ∧ s.m.journalOn = false ∧ init.wf = true ∧
      n < 32 ∧ (s.m.reg (Reg.SEQ_PRF_SWR n) - v).toNat ≤ s.m.spillCap n) ∧
    (∃ (s : State) (init : Init) (ch : Nat) (v : Word), s.m.serving = true ∧ s.m.journalOn = false ∧ init.wf = true ∧
      ch < 256 ∧ s.m.ownerRuns ch = false) :=
  ⟨⟨served (seqAt id (insn 0 0 0 0 0 0)), .host, 5, by decide⟩,
    ⟨served (Mod.wr Reg.GLB_START_STATE Fields.GLB_START_STATE.PROFILE 2), .host, 31, by decide⟩,
    ⟨served (fun m => (seqAt id (insn 0 0 0 0 0 0) m).wr (Reg.SEQ_STATUS 5) Fields.SEQ_STATUS.PAUSE_PENDING 1), .host,
      5, by decide⟩,
    ⟨served (fun m => (seqAt (fun x => { x with paused := true }) (insn 0 0 0 0 0 0) m).wr (Reg.SEQ_CTRL 5)
      Fields.SEQ_CTRL.PAUSE 1), .host, 5, by decide⟩,
    ⟨served (seqAt id (insn 0 0 0 0 0 0)), .host, 5, by decide⟩,
    ⟨served (fun m => (m.setSeqState 31 6).setMchk srcSEQ 31 true), .host, 31, by decide⟩,
    ⟨served id, .host, 31, 63, 255#32, by decide⟩,
    ⟨served (seqAt id (insn 0 0 0 0 0 0)), .host, 5, 63, 255#32, by decide⟩,
    ⟨served id, .host, 31, 0xFFFFFC00#32, by decide⟩,
    ⟨served id, .host, 31, 1#32, by decide⟩,
    ⟨served (Mod.setReg (Reg.SEQ_PRF_SWR 31) 1024#32), .host, 31, 0#32, by decide⟩,
    ⟨served id, .host, 255, 3#32, by decide⟩⟩

theorem witness_LevelCommands :
    (∃ (s : State) (init : Init) (d : Nat) (v : Word) (q : Nat), s.m.serving = true ∧ s.m.journalOn = false ∧
      init.wf = true ∧ d < 2 ∧ q = 8 * d + fget Fields.CH_LQCMD.BANK v ∧ s.m.isLost (1 + d) = false ∧
      (s.m.lq q).entries.length < 16) ∧
    (∃ (s : State) (init : Init) (d : Nat) (v : Word) (q : Nat), s.m.serving = true ∧ s.m.journalOn = false ∧
      init.wf = true ∧ d < 2 ∧ q = 8 * d + fget Fields.CH_LQCMD.BANK v ∧ s.m.isLost (1 + d) = false ∧
      16 ≤ (s.m.lq q).entries.length) ∧
    (∃ (s : State) (init : Init) (v : Word) (q : Nat), s.m.serving = true ∧ s.m.journalOn = false ∧ init.wf = true ∧
      q = 16 + fget Fields.HV_LQCMD.QUEUE v ∧ s.m.h0Up = true ∧ s.m.isLost 3 = false ∧ (s.m.lq q).entries.length < 16) ∧
    (∃ (s : State) (init : Init) (v : Word), s.m.serving = true ∧ s.m.journalOn = false ∧ init.wf = true ∧
      s.m.h0Up = true ∧ s.m.isLost 3 = false ∧ (s.m.lq 20).entries.length < 16) ∧
    (∃ (s : State) (init : Init) (ch : Nat) (on : Bool), s.m.serving = true ∧ s.m.journalOn = false ∧ init.wf = true ∧
      ch < 256 ∧ s.m.ownerRuns ch = false ∧ s.m.calScoped (ch / 128) = false ∧ (on = true → s.m.shadowers ch = [])) ∧
    (∃ (s : State) (init : Init) (ch : Nat), s.m.serving = true ∧ s.m.journalOn = false ∧ init.wf = true ∧ ch < 256 ∧
      s.m.measOn ch = false ∧ s.m.calScoped (ch / 128) = false) ∧
    (∃ (s : State) (init : Init) (h : Nat), s.m.serving = true ∧ s.m.journalOn = false ∧ init.wf = true ∧ h < 32 ∧
      s.m.calScoped 2 = false ∧ s.m.outputsReady = true ∧ s.m.hvEnabled h = false ∧
      s.m.clampSum h 8 + hvIclamp (s.m.hv h).w1 ≤ 800) ∧
    (∃ (s : State) (init : Init) (h : Nat), s.m.serving = true ∧ s.m.journalOn = false ∧ init.wf = true ∧ h < 32 ∧
      s.m.calScoped 2 = false ∧ s.m.outputsReady = true ∧ s.m.hvEnabled h = false ∧
      800 < s.m.clampSum h 8 + hvIclamp (s.m.hv h).w1) ∧
    (∃ (s : State) (init : Init) (h : Nat), s.m.serving = true ∧ s.m.journalOn = false ∧ init.wf = true ∧ h < 32 ∧
      s.m.calScoped 2 = false ∧ (s.m.hv h).rc = none) :=
  ⟨⟨served (Mod.wr64 Reg.TIME_TTIME_LO 501), .host, 1, 0xFFFF0705#32, 15, by decide⟩,
    ⟨served (fun m => m.setLq 15 { m.lq 15 with entries := List.replicate 16 ⟨.lv 0 0, 0, false, none, none⟩ }), .host,
      1, 0xFFFF0705#32, 15, by decide⟩,
    ⟨served (Mod.wr Reg.GLB_DIE_STATUS Fields.GLB_DIE_STATUS.H0_UP 1), .host, 0xFF07FF#32, 19, by decide⟩,
    ⟨served (Mod.wr Reg.GLB_DIE_STATUS Fields.GLB_DIE_STATUS.H0_UP 1), .host, 0xFF03FF#32, by decide⟩,
    ⟨served id, .host, 255, true, by decide⟩,
    ⟨served (Mod.setReg (Reg.CH_LSTAT 1 127) 0x200#32), .host, 255, by decide⟩,
    ⟨served (Mod.setStarted 29 true), .host, 31, by decide⟩,
    ⟨served (fun m => (m.setStarted 29 true).each (List.range 5) (fun h s => (s.setHv h { s.hv h with w1 := 250#32 }).wr
      (Reg.HV_CTRL h) Fields.HV_CTRL.EN (if h = 4 then 0 else 1))), .host, 4, by decide⟩,
    ⟨served (Mod.wr (Reg.HV_CTRL 31) Fields.HV_CTRL.EN 1), .host, 31, by decide⟩⟩

theorem witness_WaveAndTriggerCommands :
    (∃ (s : State) (init : Init) (n t0 : Nat) (v : Word), s.m.serving = true ∧ s.m.journalOn = false ∧ init.wf = true ∧
      n < 8 ∧ (s.m.wave n).t0 = some t0 ∧ (s.m.wave n).ended = none ∧
      nbit (byteAt (s.m.segDesc n (fget Fields.DDS_JUMP.SEG v)) 7) 0 = true) ∧
    (∃ (s : State) (init : Init) (n t0 : Nat) (v : Word), s.m.serving = true ∧ s.m.journalOn = false ∧ init.wf = true ∧
      n < 8 ∧ (s.m.wave n).t0 = some t0 ∧ (s.m.wave n).ended = none ∧
      nbit (byteAt (s.m.segDesc n (fget Fields.DDS_JUMP.SEG v)) 7) 0 = false) ∧
    (∃ (s : State) (init : Init) (n t0 : Nat), s.m.serving = true ∧ s.m.journalOn = false ∧ init.wf = true ∧ n < 8 ∧
      s.m.ddsState n ≠ 1 ∧ (s.m.wave n).t0 = some t0 ∧ (s.m.wave n).ended = none) ∧
    (∃ (s : State) (init : Init) (n i : Nat) (j : Job), s.m.serving = true ∧ s.m.journalOn = false ∧ init.wf = true ∧
      n < 8 ∧ s.m.ddsState n = 1 ∧ (s.m.wave n).job = some j ∧ j.inst = some i) ∧
    (∃ (s : State) (init : Init) (n : Nat), s.m.serving = true ∧ s.m.journalOn = false ∧ init.wf = true ∧ n < 8 ∧
      s.m.ddsState n = 1 ∧ (s.m.wave n).trig = none ∧ (s.m.wave n).t0 = none ∧ wpStart (s.m.wave n).args = 1 ∧
      wpTsrc (s.m.wave n).args = 0x60) ∧
    (∃ (s : State) (init : Init) (mask n : Nat) (x : Acq), s.m.serving = true ∧ s.m.journalOn = false ∧ init.wf = true ∧
      mask < 256 ∧ n < 8 ∧ nbit mask n = true ∧ s.m.acq n = some x ∧ aqTsrc x.args = 0x60 ∧ x.trig = none ∧
      x.start < s.m.ttime + 100 ∧ aqPre x.args ≤ (s.m.ttime - x.start + 99) / 100 / 2 ^ aqK x.args) ∧
    (∃ (s : State) (init : Init), s.m.serving = true ∧ s.m.journalOn = false ∧ init.wf = true ∧
      s.m.flag Reg.WAVE_SYNC_CTRL Fields.WAVE_SYNC_CTRL.OUT_SRC = false) ∧
    (∃ (s : State) (init : Init) (n : Nat) (v : Word), s.m.serving = true ∧ s.m.journalOn = false ∧ init.wf = true ∧
      n < 8 ∧ s.m.calScoped 2 = false ∧ s.m.asFull n = false) ∧
    (∃ (s : State) (init : Init) (n : Nat) (v : Word), s.m.serving = true ∧ s.m.journalOn = false ∧ init.wf = true ∧
      n < 8 ∧ s.m.calScoped 2 = false ∧ s.m.asFull n = true) ∧
    (∃ (s : State) (init : Init) (l : Nat), s.m.serving = true ∧ s.m.journalOn = false ∧ init.wf = true ∧ l < 8) ∧
    (∃ (s : State) (init : Init) (l : Nat), s.m.serving = true ∧ s.m.journalOn = false ∧ init.wf = true ∧ l < 8 ∧
      SMap.find s.m.trg.setAt l ≠ some (s.m.ttime + 20)) ∧
    (∃ (s : State) (init : Init) (l : Nat), s.m.serving = true ∧ s.m.journalOn = false ∧ init.wf = true ∧ l < 8 ∧
      SMap.find s.m.trg.setAt l = some (s.m.ttime + 20)) :=
  ⟨⟨served (fun m => (m.sramPut (dlistBase 7 + 8 * 255 + 7) [1#8]).setWave 7 { m.wave 7 with t0 := some 100 }), .host,
      7, 100, 255#32, by decide⟩,
    ⟨served (fun m => m.setWave 7 { m.wave 7 with t0 := some 100 }), .host, 7, 100, 255#32, by decide⟩,
    ⟨served (fun m => (m.setWave 7 { m.wave 7 with t0 := some 100 }).setDdsState 7 2), .host, 7, 100, by decide⟩,
    ⟨served (fun m => (m.setWave 7 { m.wave 7 with job := some ⟨some 3, 1, 0, 0⟩ }).setDdsState 7 1), .host, 7, 3,
      ⟨some 3, 1, 0, 0⟩, by decide⟩,
    ⟨served (fun m => (m.setWave 7 { m.wave 7 with args := [0#8, 1#8, 0x60#8] }).setDdsState 7 1), .host, 7, by decide⟩,
    ⟨served (fun m => (m.wr64 Reg.TIME_TTIME_LO 1050).setAcq 7 (some
      { aqDone1 with args := [0#8, 0#8, 0#8, 1#8, 0x60#8] ++ zeroBytes 43, trig := none, start := 500 })), .host, 255,
      7, { aqDone1 with args := [0#8, 0#8, 0#8, 1#8, 0x60#8] ++ zeroBytes 43, trig := none, start := 500 }, by decide⟩,
    ⟨served id, .host, by decide⟩,
    ⟨served id, .host, 7, 0xFFFF#32, by decide⟩,
    ⟨served (fun m => m.setAsl 7 { m.asl 7 with queue := List.replicate 4 ⟨0, 0, none, 0, false, false⟩ }), .host, 7,
      0#32, by decide⟩,
    ⟨served id, .host, 7, by decide⟩,
    ⟨served (fun m => { m with trg := { m.trg with level := 255 } }), .host, 7, by decide⟩,
    ⟨served (fun m => { m with trg := { m.trg with level := 255, setAt := SMap.insert [] 7 (m.ttime + 20) } }), .host,
      7, by decide⟩⟩

theorem witness_TimeCommands :
    (∃ (s : State) (init : Init) (refin : Bool), s.m.serving = true ∧ s.m.journalOn = false ∧ init.wf = true ∧
      s.m.timeIdle = true ∧ s.m.rd Reg.TB_STATUS Fields.TB_STATUS.SRC_ACTIVE ≠ (if refin then 1 else 0)) ∧
    (∃ (s : State) (init : Init) (refin : Bool), s.m.serving = true ∧ s.m.journalOn = false ∧ init.wf = true ∧
      s.m.timeIdle = true ∧ s.m.rd Reg.TB_STATUS Fields.TB_STATUS.SRC_ACTIVE = (if refin then 1 else 0)) ∧
    (∃ (s : State) (init : Init) (refin : Bool), s.m.serving = true ∧ s.m.journalOn = false ∧ init.wf = true ∧
      s.m.timeIdle = false) ∧
    (∃ (s : State) (init : Init) (v : Word), s.m.serving = true ∧ s.m.journalOn = false ∧ init.wf = true ∧
      s.m.calOn = false) ∧
    (∃ (s : State) (init : Init) (k x : Nat) (v : Word), s.m.serving = true ∧ s.m.journalOn = false ∧ init.wf = true ∧
      k < 4 ∧ x = ((SMap.find s.m.stage (latchKey init (Reg.TD_INC_LO k))).getD 0#32).toNat + 2 ^ 32 * v.toNat ∧
      17171279250 ≤ x ∧ x ≤ 17188459118) ∧
    (∃ (s : State) (init : Init) (k x : Nat) (v : Word), s.m.serving = true ∧ s.m.journalOn = false ∧ init.wf = true ∧
      k < 4 ∧ x = ((SMap.find s.m.stage (latchKey init (Reg.TD_INC_LO k))).getD 0#32).toNat + 2 ^ 32 * v.toNat ∧
      (x < 17171279250 ∨ 17188459118 < x)) ∧
    (∃ (s : State) (init : Init) (k : Nat) (v : Word) (a : Int), s.m.serving = true ∧ s.m.journalOn = false ∧
      init.wf = true ∧ k < 4 ∧ a = signed 64 (((SMap.find s.m.stage (latchKey init (Reg.TD_ADJ_LO k))).getD 0#32).toNat
      + 2 ^ 32 * v.toNat) ∧ a.natAbs ≤ s.m.domLimit k * 2 ^ 32 ∧ 0 ≤ a) ∧
    (∃ (s : State) (init : Init) (k : Nat) (v : Word) (a : Int), s.m.serving = true ∧ s.m.journalOn = false ∧
      init.wf = true ∧ k < 4 ∧ a = signed 64 (((SMap.find s.m.stage (latchKey init (Reg.TD_ADJ_LO k))).getD 0#32).toNat
      + 2 ^ 32 * v.toNat) ∧ a.natAbs ≤ s.m.domLimit k * 2 ^ 32 ∧ a < 0) ∧
    (∃ (s : State) (init : Init) (k : Nat) (v : Word) (a : Int), s.m.serving = true ∧ s.m.journalOn = false ∧
      init.wf = true ∧ k < 4 ∧ a = signed 64 (((SMap.find s.m.stage (latchKey init (Reg.TD_ADJ_LO k))).getD 0#32).toNat
      + 2 ^ 32 * v.toNat) ∧ s.m.domLimit k * 2 ^ 32 < a.natAbs) ∧
    (∃ (s : State) (init : Init) (k : Nat), s.m.serving = true ∧ s.m.journalOn = false ∧ init.wf = true ∧ k < 4 ∧
      s.m.domRunning k = false) ∧
    (∃ (s : State) (init : Init) (k : Nat), s.m.serving = true ∧ s.m.journalOn = false ∧ init.wf = true ∧ k < 4 ∧
      s.m.domRunning k = true) ∧
    (∃ (s : State) (init : Init) (k : Nat), s.m.serving = true ∧ s.m.journalOn = false ∧ init.wf = true ∧ k < 4) ∧
    (∃ (s : State) (init : Init) (k : Nat), s.m.taking = true ∧ init.wf = true ∧ k < 4) ∧
    (∃ (s : State) (init : Init), s.m.serving = true ∧ s.m.journalOn = false ∧ init.wf = true ∧
      snapLine (s.m.rd Reg.TIME_SNAP_CTRL Fields.TIME_SNAP_CTRL.SRC) = none) ∧
    (∃ (s : State) (init : Init) (l : Nat), s.m.serving = true ∧ s.m.journalOn = false ∧ init.wf = true ∧
      snapLine (s.m.rd Reg.TIME_SNAP_CTRL Fields.TIME_SNAP_CTRL.SRC) = some l) ∧
    (∃ (s : State) (init : Init) (p : Nat) (w : Word) (ws : List Word) (rest : List (List Word)), s.m.taking = true ∧
      init.wf = true ∧ p < 2 ∧ (s.m.tport p).rx = (w :: ws) :: rest) ∧
    (∃ (s : State) (init : Init) (p : Nat), s.m.taking = true ∧ init.wf = true ∧ p < 2 ∧ (s.m.tport p).rx = []) ∧
    (∃ (s : State) (init : Init) (p : Nat), s.m.serving = true ∧ s.m.journalOn = false ∧ init.wf = true ∧ p < 2) ∧
    (∃ (s : State) (init : Init) (p len : Nat) (v : Word), s.m.serving = true ∧ s.m.journalOn = false ∧ init.wf = true ∧
      p < 2 ∧ (s.m.tport p).txDead = false ∧ (s.m.tport p).txSkip = 0 ∧ (s.m.tport p).txHead = none ∧
      len = v.toNat % 2048 ∧ v.toNat / 2048 % 32 = 0 ∧ v.toNat / 2 ^ 17 = 0 ∧ 14 ≤ len ∧ len ≤ 1518 ∧
      len ≤ 0x4000 - (s.m.tport p).txUsed) ∧
    (∃ (s : State) (init : Init) (p : Nat) (v h : Word), s.m.serving = true ∧ s.m.journalOn = false ∧ init.wf = true ∧
      p < 2 ∧ (s.m.tport p).txDead = false ∧ (s.m.tport p).txSkip = 0 ∧ (s.m.tport p).txHead = some h ∧
      (s.m.tport p).txId = none ∧ v.toNat / 2 ^ 16 = 0) ∧
    (∃ (s : State) (init : Init) (p : Nat) (v h i : Word), s.m.serving = true ∧ s.m.journalOn = false ∧ init.wf = true ∧
      p < 2 ∧ (s.m.tport p).txDead = false ∧ (s.m.tport p).txSkip = 0 ∧ (s.m.tport p).txHead = some h ∧
      (s.m.tport p).txId = some i ∧ (s.m.tport p).txData.length + 1 < (h.toNat % 2048 + 3) / 4) ∧
    (∃ (s : State) (init : Init) (p : Nat) (v h i : Word), s.m.serving = true ∧ s.m.journalOn = false ∧ init.wf = true ∧
      p < 2 ∧ (s.m.tport p).txDead = false ∧ (s.m.tport p).txSkip = 0 ∧ (s.m.tport p).txHead = some h ∧
      (s.m.tport p).txId = some i ∧ (h.toNat % 2048 + 3) / 4 ≤ (s.m.tport p).txData.length + 1) ∧
    (∃ (s : State) (init : Init) (p : Nat), s.m.serving = true ∧ s.m.journalOn = false ∧ init.wf = true ∧ p < 2) ∧
    (∃ (s : State) (init : Init) (p : Nat), s.m.serving = true ∧ s.m.journalOn = false ∧ init.wf = true ∧ p < 2) ∧
    (∃ (s : State) (init : Init) (p : Nat) (v : Word), s.m.serving = true ∧ s.m.journalOn = false ∧ init.wf = true ∧
      p < 2) :=
  ⟨⟨served id, .host, true, by decide⟩,
    ⟨served (fun m => (m.wr Reg.TB_STATUS Fields.TB_STATUS.PENDING 1).setTim { m.tim with switchTo := some 1 }), .host,
      false, by decide⟩,
    ⟨served (Mod.setDdsState 7 2), .host, true, by decide⟩,
    ⟨served id, .host, 0xFFFF#32, by decide⟩,
    ⟨served (fun m => { m with stage := SMap.insert [] (latchKey .host (Reg.TD_INC_LO 3)) 5#32 }), .host, 3,
      17179869189, 4#32, by decide⟩,
    ⟨served id, .host, 3, 0, 0#32, by decide⟩,
    ⟨served (fun m => { m with stage := SMap.insert [] (latchKey .host (Reg.TD_ADJ_LO 3)) 5#32 }), .host, 3, 0#32, 5,
      by decide⟩,
    ⟨served id, .host, 3, 0xFFFFFFFF#32, -4294967296, by decide⟩,
    ⟨served id, .host, 3, 0x7FFFFFFF#32, 9223372032559808512, by decide⟩,
    ⟨served (Mod.setReg (Reg.TD_SET_NS 3) 0x3FFFFFFF#32), .host, 3, by decide⟩,
    ⟨served (Mod.wr (Reg.TD_STATUS 3) Fields.TD_STATUS.RUNNING 1), .host, 3, by decide⟩,
    ⟨served (Mod.wr (Reg.TD_STATUS 3) Fields.TD_STATUS.RUNNING 1), .host, 3, by decide⟩,
    ⟨st id, .regwr 31, 3, by decide⟩,
    ⟨served (Mod.wr64 Reg.TIME_TTIME_LO 0x123456789A), .host, by decide⟩,
    ⟨served (Mod.wr Reg.TIME_SNAP_CTRL Fields.TIME_SNAP_CTRL.SRC 0x1A), .host, 10, by decide⟩,
    ⟨st (Mod.putRx 1 [[1#32, 2#32], [3#32]]), .host, 1, 1#32, [2#32], [[3#32]], by decide⟩,
    ⟨st id, .host, 1, by decide⟩,
    ⟨served (Mod.putRx 1 [[1#32, 2#32], [3#32]]), .host, 1, by decide⟩,
    ⟨served id, .host, 1, 1518, 0x105EE#32, by decide⟩,
    ⟨served (fun m => m.setTport 1 { m.tport 1 with txHead := some 14#32 }), .host, 1, 0xFFFF#32, 14#32, by decide⟩,
    ⟨served (fun m => m.setTport 1 { m.tport 1 with txHead := some 14#32, txId := some 3#32, txData := [1#32, 2#32] }),
      .host, 1, 7#32, 14#32, 3#32, by decide⟩,
    ⟨served (fun m => m.setTport 1 { m.tport 1 with txHead := some 0x1000E#32, txId := some 3#32, txData := [1#32, 2#32, 3#32] }),
      .host, 1, 7#32, 0x1000E#32, 3#32, by decide⟩,
    ⟨served (fun m => m.setTport 1 { m.tport 1 with txHead := some 14#32, txDead := true }), .host, 1, by decide⟩,
    ⟨served (fun m => m.setTport 1 { m.tport 1 with tsq := [(1#32, 2#32, 3#32, 4#32)] }), .host, 1, by decide⟩,
    ⟨served id, .host, 1, 0xFFFFFFFF#32, by decide⟩⟩

theorem witness_CalibrationTranslationAndDma :
    (∃ (s : State) (init : Init) (doms scope k : Nat) (rest : List Nat) (refs : RefCheck), s.m.serving = true ∧
      s.m.journalOn = false ∧ init.wf = true ∧ doms < 128 ∧ scope < 8 ∧ s.m.calRefused doms scope = false ∧
      allBelow 7 (nbit doms) = k :: rest ∧ ((calNeeds k).1 = true → refs.refv = true) ∧
      ((calNeeds k).2.1 = true → refs.reft = true ∧ refs.spread = true) ∧
      ((calNeeds k).2.2.1 = true → s.m.calPlate = true)) ∧
    (∃ (s : State) (init : Init) (doms scope : Nat) (refs : RefCheck), s.m.serving = true ∧ s.m.journalOn = false ∧
      init.wf = true ∧ doms < 128 ∧ scope < 8 ∧ s.m.calRefused doms scope = true) ∧
    (∃ (s : State) (init : Init), s.m.serving = true ∧ s.m.journalOn = false ∧ init.wf = true ∧ s.m.calOn = true) ∧
    (∃ (s : State) (init : Init), s.m.serving = true ∧ s.m.journalOn = false ∧ init.wf = true ∧ s.m.calOn = false) ∧
    (∃ (s : State) (init : Init) (g : Nat), s.m.serving = true ∧ s.m.journalOn = false ∧ init.wf = true ∧ g < 64) ∧
    (∃ (s : State) (init : Init) (g : Nat), s.m.serving = true ∧ s.m.journalOn = false ∧ init.wf = true ∧ g < 64) ∧
    (∃ (s : State) (init : Init), s.m.serving = true ∧ s.m.journalOn = false ∧ init.wf = true) ∧
    (∃ (s : State) (init : Init) (g : Nat), s.m.serving = true ∧ s.m.journalOn = false ∧ init.wf = true ∧ g < 64) ∧
    (∃ (s : State) (init : Init) (g : Nat), s.m.serving = true ∧ s.m.journalOn = false ∧ init.wf = true ∧ g < 64) ∧
    (∃ (s : State) (init : Init) (g : Nat), s.m.serving = true ∧ s.m.journalOn = false ∧ init.wf = true ∧ g < 64) ∧
    (∃ (s : State) (init : Init) (g : Nat) (v : Word), s.m.serving = true ∧ s.m.journalOn = false ∧ init.wf = true ∧
      g < 64 ∧ s.m.flag (Reg.XLT_CTX_ROOT_LO g) Fields.XLT_CTX_ROOT_LO.EN = false) ∧
    (∃ (s : State) (init : Init) (g : Nat) (v : Word), s.m.serving = true ∧ s.m.journalOn = false ∧ init.wf = true ∧
      g < 64 ∧ s.m.flag (Reg.XLT_CTX_ROOT_LO g) Fields.XLT_CTX_ROOT_LO.EN = true) ∧
    (∃ (s : State) (init : Init) (ch : Nat) (r : DmaRun) (d : DmaDesc), s.m.serving = true ∧ s.m.journalOn = false ∧
      init.wf = true ∧ ch < 32 ∧ s.m.dmaRun ch = some r ∧ r.cur = some d ∧ d.started = true ∧ s.m.dmaState ch = 1) ∧
    (∃ (s : State) (init : Init) (ch i : Nat) (r : DmaRun) (j : Job), s.m.serving = true ∧ s.m.journalOn = false ∧
      init.wf = true ∧ ch < 32 ∧ s.m.dmaRun ch = some r ∧ r.origin = .node j ∧ j.inst = some i) ∧
    (∃ (s : State) (init : Init) (ch : Nat), s.m.serving = true ∧ s.m.journalOn = false ∧ init.wf = true ∧ ch < 32 ∧
      s.m.dmaRun ch = none) ∧
    (∃ (s : State) (init : Init) (ch : Nat) (r : DmaRun), s.m.serving = true ∧ s.m.journalOn = false ∧ init.wf = true ∧
      ch < 32 ∧ s.m.dmaRun ch = some r ∧ s.m.dmaState ch = 4) ∧
    (∃ (s : State) (init : Init) (ch i : Nat) (r : DmaRun) (j : Job), s.m.serving = true ∧ s.m.journalOn = false ∧
      init.wf = true ∧ ch < 32 ∧ s.m.dmaRun ch = some r ∧ s.m.dmaState ch = 4 ∧ r.origin = .node j ∧ j.inst = some i) ∧
    (∃ (s : State) (init : Init) (ch : Nat), s.m.serving = true ∧ s.m.journalOn = false ∧ init.wf = true ∧ ch < 32) :=
  ⟨⟨served id, .host, 3, 7, 0, [1], ⟨true, true, true, 5, 7⟩, by decide⟩,
    ⟨served id, .host, 16, 7, ⟨true, true, true, 5, 7⟩, by decide⟩,
    ⟨served (fun m => (m.setCal { m.cal with run := some 0 }).wr Reg.CAL_STATUS Fields.CAL_STATUS.STATE 2), .host,
      by decide⟩,
    ⟨served id, .host, by decide⟩,
    ⟨served (fun m => { m with tlb := [⟨63, true, 1, 0, 0, true, true⟩, ⟨1, true, 1, 0, 0, true, true⟩] }), .host, 63,
      by decide⟩,
    ⟨served (fun m => { m with tlb := [⟨63, true, 0, 0, 0, true, true⟩, ⟨1, true, 1, 0, 0, true, true⟩] }), .host, 63,
      by decide⟩,
    ⟨served (fun m => { m with tlb := [⟨63, true, 0, 0, 0, true, true⟩, ⟨1, true, 1, 0, 0, true, true⟩] }), .host,
      by decide⟩,
    ⟨served (fun m => (m.setReg (Reg.XLT_CTX_FLT_INFO 63) 0xFFFFFFFF#32).setReg Reg.XLT_FLT_MAP_HI 0x80000000#32),
      .host, 63, by decide⟩,
    ⟨served id, .host, 63, by decide⟩,
    ⟨served (fun m => { m with tlb := [⟨63, true, 1, 0, 0, true, true⟩] }), .host, 63, by decide⟩,
    ⟨served (fun m => { m with stage := SMap.insert [] (latchKey .host (Reg.XLT_CTX_ROOT_LO 63)) 0x5000#32 }), .host,
      63, 7#32, by decide⟩,
    ⟨served (Mod.setReg (Reg.XLT_CTX_ROOT_LO 63) 1#32), .host, 63, 7#32, by decide⟩,
    ⟨served regwrReady, .host, 31, (regwrReady Machine.Mod.reset).dmaRun 31 |>.getD ⟨.node ⟨none, 0, 0, 0⟩, 0, 0, 0,
      false, 0, none, none, 0⟩, ⟨[2#8, 0#8] ++ zeroBytes 6 ++ leBytes 8 0x77 ++ leBytes 8 (Reg.TP_RX_CORR 1) ++
      zeroBytes 40, [], [], true, 0⟩, by decide⟩,
    ⟨served regwrReady, .host, 31, 0, (regwrReady Machine.Mod.reset).dmaRun 31 |>.getD ⟨.node ⟨none, 0, 0, 0⟩, 0, 0, 0,
      false, 0, none, none, 0⟩, ⟨some 0, 0, 0, 0⟩, by decide⟩,
    ⟨served id, .host, 31, by decide⟩,
    ⟨served (fun m => (regwrReady m).wr (Reg.DMA_CH_STATUS 31) Fields.DMA_CH_STATUS.STATE 4), .host, 31,
      (regwrReady Machine.Mod.reset).dmaRun 31 |>.getD ⟨.node ⟨none, 0, 0, 0⟩, 0, 0, 0, false, 0, none, none, 0⟩,
      by decide⟩,
    ⟨served (fun m => (regwrReady m).wr (Reg.DMA_CH_STATUS 31) Fields.DMA_CH_STATUS.STATE 4), .host, 31, 0,
      (regwrReady Machine.Mod.reset).dmaRun 31 |>.getD ⟨.node ⟨none, 0, 0, 0⟩, 0, 0, 0, false, 0, none, none, 0⟩,
      ⟨some 0, 0, 0, 0⟩, by decide⟩,
    ⟨served id, .host, 31, by decide⟩⟩

theorem witness_PairAndEventRingCommands :
    (∃ (s : State) (init : Init), s.m.serving = true ∧ init.wf = true ∧ s.m.slState = 0 ∧
      s.m.flag Reg.SL_CTRL Fields.SL_CTRL.PAIR_EN = false) ∧
    (∃ (s : State) (init : Init), s.m.serving = true ∧ s.m.journalOn = false ∧ init.wf = true ∧
      s.m.flag Reg.SL_CTRL Fields.SL_CTRL.PAIR_EN = true ∧ s.m.pair.ends = [] ∧ s.m.pair.comps = []) ∧
    (∃ (s : State) (init : Init), s.m.serving = true ∧ s.m.journalOn = false ∧ init.wf = true ∧
      s.m.flag Reg.SL_CTRL Fields.SL_CTRL.PAIR_EN = true ∧ (s.m.slState = 1 ∨ s.m.slState = 5 ∨ s.m.slState = 6)) ∧
    (∃ (s : State) (init : Init) (k : Nat), s.m.serving = true ∧ s.m.journalOn = false ∧ init.wf = true ∧ k < 16) ∧
    (∃ (s : State) (init : Init) (k : Nat), s.m.serving = true ∧ s.m.pairActive = true ∧ init.wf = true ∧ k < 16 ∧
      s.m.flag (Reg.SL_MRGN_CFG k) Fields.SL_MRGN_CFG.EN = false) ∧
    (∃ (s : State) (init : Init), s.m.serving = true ∧ s.m.journalOn = false ∧ init.wf = true) ∧
    (∃ (s : State) (init : Init) (size : Nat), s.m.serving = true ∧ s.m.journalOn = false ∧ init.wf = true ∧ 4 ≤ size ∧
      size ≤ 12 ∧ s.m.evtOn = false) ∧
    (∃ (s : State) (init : Init) (size : Nat), s.m.serving = true ∧ s.m.journalOn = false ∧ init.wf = true ∧ size < 16 ∧
      s.m.evtOn = false ∧ (size < 4 ∨ 12 < size)) ∧
    (∃ (s : State) (init : Init) (v : Word), s.m.serving = true ∧ s.m.journalOn = false ∧ init.wf = true ∧
      fget Fields.ERR_RING_HEAD.HEAD v < s.m.evtSize ∧ (fget Fields.ERR_RING_HEAD.HEAD v + s.m.evtSize - s.m.evtHead) %
      s.m.evtSize ≤ s.m.evtUsed) ∧
    (∃ (s : State) (init : Init) (v : Word), s.m.serving = true ∧ s.m.journalOn = false ∧ init.wf = true ∧
      (s.m.evtSize ≤ fget Fields.ERR_RING_HEAD.HEAD v ∨ s.m.evtUsed < (fget Fields.ERR_RING_HEAD.HEAD v + s.m.evtSize -
      s.m.evtHead) % s.m.evtSize)) :=
  ⟨⟨served (Mod.setReg Reg.SL_CTRL 0#32), .host, by decide⟩,
    ⟨served (fun m => (m.wr Reg.SL_CTRL Fields.SL_CTRL.PAIR_EN 1).setSlState 1), .host, by decide⟩,
    ⟨served (fun m => (m.wr Reg.SL_CTRL Fields.SL_CTRL.PAIR_EN 1).setSlState 6), .host, by decide⟩,
    ⟨served (Mod.setReg (Reg.SL_MRGN_CFG 15) 0x30000#32), .host, 15, by decide⟩,
    ⟨served paired, .host, 15, by decide⟩,
    ⟨served (Mod.setReg Reg.SL_DDS_SHADOW 0x7FFF#32), .host, by decide⟩,
    ⟨served (Mod.setReg Reg.ERR_RING_HEAD 5#32), .host, 12, by decide⟩,
    ⟨served id, .host, 13, by decide⟩,
    ⟨served (fun m => m.wr Reg.ERR_RING_STATE Fields.ERR_RING_STATE.TAIL 3), .host, 3#32, by decide⟩,
    ⟨served (fun m => m.wr Reg.ERR_RING_STATE Fields.ERR_RING_STATE.TAIL 3), .host, 4#32, by decide⟩⟩

end Sys2Proof.Tests
end

section
/-!
PROOF. Accesses to registers (R3 to R9, R61, R88, R430): what each form of access answers, and O48.
-/

namespace Sys2Proof.Machine

/-! ### Where registers lie -/

/-- A table has no register at an offset that none of its rows matches. -/
theorem findReg_eq_none (l : List RegDesc) (off : Nat) (h : ∀ d ∈ l, matchDims d.dims (off - d.base) = none) :
    findReg l off = none := by
  induction l with
  | nil => rfl
  | cons d t ih =>
    simp only [findReg, h d List.mem_cons_self, ih fun e he => h e (List.mem_cons_of_mem _ he), ite_self]

/-- The registers of the host block end below the MSI-X table. -/
theorem regBlock1_extent : ∀ d ∈ regBlock1, d.base ≤ 0x10100C ∧ (d.dims = [] ∨ d.dims = [(0x10, 64)]) := by decide

/-- The MSI-X table and the pending-bit array hold no register of the table (Table 19.1). -/
theorem regAt_inMsix (off : Nat) (h : inMsix off = true) : regAt off = none := by
  simp only [inMsix, Bool.and_eq_true, decide_eq_true_eq] at h
  rw [regAt, show off / 0x100000 = 1 by omega]
  refine findReg_eq_none _ _ fun d hd => ?_
  obtain ⟨hb, hdim | hdim⟩ := regBlock1_extent d hd
  · simp [hdim, matchDims, show off - d.base ≠ 0 by omega]
  · simp [hdim, matchDims, show ¬ (off - d.base) / 0x10 < 64 by omega]

theorem inMsix_of_regAt {off : Nat} {e : RegDesc × List Nat} (h : regAt off = some e) : inMsix off = false := by
  by_contra hm
  simp [regAt_inMsix off (by simpa using hm)] at h

/-- Offsets below 0x100_0000 lie in the blocks of registers, apart from the doorbell area (Table 19.1). -/
theorem inBlocks_blocks {off : Nat} (h : off < 0x1000000) : inBlocks off = true := by simp [inBlocks, h]

theorem inDoorbells_blocks {off : Nat} (h : off < 0x1000000) : inDoorbells off = false := by
  simp only [inDoorbells, Bool.and_eq_false_imp, decide_eq_true_eq]
  omega

theorem regAt_TD_SET_SEC_LO : ∀ k < 4, regAt (Reg.TD_SET_SEC_LO k) = some (⟨.TD_SET_SEC_LO, 0x902034, [(0x40, 4)],
    0x00000000#32, 0xFFFFFFFF#32, 0x00000000#32, 0x00000000#32, 0x00000000#32⟩, [k]) := by decide

theorem regAt_TD_SET_SEC_HI : ∀ k < 4, regAt (Reg.TD_SET_SEC_HI k) = some (⟨.TD_SET_SEC_HI, 0x902038, [(0x40, 4)],
    0x00000000#32, 0xFFFFFFFF#32, 0x00000000#32, 0x00000000#32, 0x00000000#32⟩, [k]) := by decide

theorem regAt_TP_RX_CORR : ∀ p < 2, regAt (Reg.TP_RX_CORR p) = some (⟨.TP_RX_CORR, 0x904014, [(0x100, 2)],
    0x00000000#32, 0xFFFFFFFF#32, 0x00000000#32, 0x00000000#32, 0x00000000#32⟩, [p]) := by decide

theorem regAt_GLB_DIE_ERR : regAt Reg.GLB_DIE_ERR = some (⟨.GLB_DIE_ERR, 0x104, [],
    0x00000000#32, 0x00000000#32, 0x0000003F#32, 0x00000000#32, 0x00000000#32⟩, []) := by decide

/-! ### What a write stores -/

/-- A mask of every bit keeps the word. -/
@[simp] theorem and_full (w : Word) : w &&& 0xFFFFFFFF#32 = w := BitVec.and_allOnes

/-- A register of RW bits alone holds the value written (Table 0.3). -/
theorem RegDesc.after_rw (d : RegDesc) (old v : Word) (hrw : d.rw = 0xFFFFFFFF#32) (hc : d.w1c = 0#32) :
    d.after old v = v := by
  simp [RegDesc.after, hrw, hc]

/-- A register without RW bits loses the W1C bits that are written 1 (Table 0.3). -/
theorem RegDesc.after_w1c (d : RegDesc) (old v : Word) (hrw : d.rw = 0#32) :
    d.after old v = old &&& ~~~(v &&& d.w1c) := by
  simp [RegDesc.after, hrw]

/-- The journal runs by SL_STATUS alone (R380, R395). -/
theorem Mod.journalOn_setReg (m : Mod) (off : Nat) (v : Word) (h : off ≠ Reg.SL_STATUS) :
    (m.setReg off v).journalOn = m.journalOn := by
  simp only [Mod.journalOn, Mod.rd, Mod.reg_setReg_ne m off _ v h.symm]

/-- A write that a serving module without a journal accepts leaves what its action leaves. -/
theorem Mod.busWrite_accepted {m t : Mod} {i : Init} {off : Nat} {v : Word} {d : RegDesc} {ix : List Nat}
    (hs : m.serving = true) (ho : off < 0x1000000) (ha : off % 4 = 0) (hr : regAt off = some (d, ix))
    (ht : Wr.act ⟨i, off, d, ix, v⟩ m = .ok t) (hj : t.journalOn = false) : m.busWrite i off v = t := by
  obtain ⟨hh, hl, hopen⟩ := m.serving_iff.mp hs
  rw [m.busWrite_ok i off v d ix t hl hh (inDoorbells_blocks ho) ha (inBlocks_blocks ho) (inMsix_of_regAt hr) hr
    (m.writeOpen_open i _ hopen) ht, Wr.sent_alone _ t hj]

/-! ### Commands whose effect on the module is known -/

/-- A command that acts even while the module is held answers its effect, with one more command counted. -/
theorem answers_always {wf : Bool} {f : Mod → Mod} {s : State} {c : Instr} {p : Mod → Prop} {t : Mod}
    (hc : exec c s = runAlways wf f s) (hw : wf = true) (ht : f s.m = t) (hp : p { t with cmds := s.m.cmds + 1 }) :
    Answers c s p := answers_runAlways hc hw (ht ▸ hp)

/-- So does a command of the core die, where nothing holds the module. -/
theorem answers_command {wf : Bool} {f : Mod → Mod} {s : State} {c : Instr} {p : Mod → Prop} {t : Mod}
    (hc : exec c s = run wf f s) (hw : wf = true) (hh : s.m.flt.halted = false) (ht : f s.m = t)
    (hp : p { t with cmds := s.m.cmds + 1 }) : Answers c s p := answers_run hc hw hh (ht ▸ hp)

/-! ### Accesses of the wrong form -/

/-- A malformed access outside the doorbell area, in a module that takes commands (R3). -/
theorem Mod.malformed_eq (m : Mod) (i : Init) (off width : Nat) (write : Bool) (ht : m.taking = true)
    (hw : Wf.malformedAccess i off width = true) (hd : inDoorbells off = false) :
    m.malformed i off width write = (m.accessErr i off).when (!write) (Mod.emit (.regRead (initKey i) off 0#32)) := by
  obtain ⟨hh, hl⟩ := m.taking_iff.mp ht
  have hform : (width == 4 && off % 4 == 0) = false := by
    simp only [Wf.malformedAccess, Bool.and_eq_true, Bool.or_eq_true, decide_eq_true_eq] at hw
    simp only [Bool.and_eq_false_iff, beq_eq_false_iff_ne]
    exact hw.2
  simp [Mod.malformed, hl, hform, hd, hh]

/-- A malformed write is discarded with ACCESS_ERR (R3). -/
theorem answers_malformedWrite (s : State) (i : Init) (off width : Nat) (ht : s.m.taking = true)
    (hw : Wf.malformedAccess i off width = true) (hd : inDoorbells off = false) :
    Answers (.malformedAccess i off width true) s (fun t => t.flag Reg.ERR_ACCESS Fields.ERR_ACCESS.ACCESS_ERR = true ∧
      SameMemory s.m t ∧ SameRegsPost [] s.m t) :=
  answers_always rfl hw (s.m.malformed_eq i off width true ht hw hd)
    ⟨flag_accessErr i off s.m, (onlyPosts_accessErr i off s.m).frame _⟩

/-- A malformed read answers 0 with ACCESS_ERR (R3). -/
theorem answers_malformedRead (s : State) (i : Init) (off width : Nat) (ht : s.m.taking = true)
    (hw : Wf.malformedAccess i off width = true) (hd : inDoorbells off = false) :
    Answers (.malformedAccess i off width false) s (fun t => t.flag Reg.ERR_ACCESS Fields.ERR_ACCESS.ACCESS_ERR = true ∧
      t.outs.head? = some (.regRead (initKey i) off 0#32) ∧ SameMemory s.m t ∧ SameRegsPost [] s.m t) :=
  answers_always rfl hw (s.m.malformed_eq i off width false ht hw hd)
    ⟨flag_accessErr i off s.m, rfl, (onlyPosts_accessErr i off s.m).memory, (onlyPosts_accessErr i off s.m).2⟩

/-! ### Pairs -/

/-- The low words of pairs are no registers that a read pops, and but for TDk_SEC_LO, which a read of TDk_FRAC latches
(R309), a read finds none of them latched. -/
theorem pairLows_plain : ∀ n ∈ pairLows, n ≠ .TP_RXDATA ∧ n ≠ .TD_FRAC ∧ n ≠ .TIME_SNAP_TD ∧
    (n ≠ .TD_SEC_LO → latchHigh n [] = false) := by decide

/-- Indices tell the words that a read latches for a captured time domain alone (Table 12.10). -/
theorem latchHigh_indices (n : RegName) (ix : List Nat) (h : n ≠ .TIME_SNAP_TD) : latchHigh n ix = latchHigh n [] := by
  simp [latchHigh, h]

/-- A read of the low word of a pair answers the word and latches the high word (R4). -/
theorem Mod.busRead_pairLow (m : Mod) (i : Init) (off : Nat) (d : RegDesc) (ix : List Nat) (ho : off < 0x1000000)
    (hl : m.isLost 0 = false) (ha : off % 4 = 0) (hr : regAt off = some (d, ix)) (hp : pairLows.contains d.name = true)
    (hn : d.name ≠ .TD_SEC_LO) : m.busRead i off = (m.view off, m.latchWord i (off + 4)) := by
  obtain ⟨hpop, hfrac, hsnap, hhigh⟩ := pairLows_plain d.name (by simpa using hp)
  have hv : latchHigh d.name ix = false := (latchHigh_indices _ _ hsnap).trans (hhigh hn)
  have hlow : (latchLow d.name ix && d.name != .TD_SEC_LO) = true := by
    simp only [latchLow, hp, hn, Bool.true_or, Bool.true_and, bne_iff_ne, ne_eq, not_false_eq_true]
  simp [Mod.busRead, hl, ha, inDoorbells_blocks ho, inBlocks_blocks ho, hr, hpop, hfrac, hv, hlow]

/-- PAIR_LOW_READ of a pair (R4). -/
theorem answers_pairLowRead (s : State) (i : Init) (off : Nat) (d : RegDesc) (ix : List Nat) (hi : i.wf = true)
    (ho : off < 0x1000000) (hl : s.m.isLost 0 = false) (ha : off % 4 = 0) (hr : regAt off = some (d, ix))
    (hp : pairLows.contains d.name = true) (hn : d.name ≠ .TD_SEC_LO) :
    Answers (.pairLowRead i off) s (fun t => SMap.find t.latch (latchKey i (off + 4)) = some (s.m.view (off + 4)) ∧
      t.outs = .regRead (initKey i) off (s.m.view off) :: s.m.outs ∧ SameMemory s.m t ∧ SameRegs [] s.m t) := by
  have hw : Wf.pairLowRead i off = true := by simp [Wf.pairLowRead, offWf, hi]; omega
  have hat : atLow off = true := by simp only [atLow, hr, Option.any_some, latchLow, hp, Bool.true_or]
  have ht : s.m.readLow i off = (s.m.latchWord i (off + 4)).emit (.regRead (initKey i) off (s.m.view off)) := by
    simp [Mod.readLow, hat, Mod.readOut, s.m.busRead_pairLow i off d ix ho hl ha hr hp hn]
  exact answers_always rfl hw ht ⟨SMap.find_insert_self _ _ _, rfl, .refl _, .refl _ _⟩

/-- The write of a pair's word is a write of the bus. -/
theorem Mod.writeLow_pair (m : Mod) (i : Init) {off : Nat} (v : Word) (h : atPairLow off = true) :
    m.writeLow i off v = m.busWrite i off v := by rw [Mod.writeLow, h, Mod.when_true]

theorem Mod.writeHigh_pair (m : Mod) (i : Init) {off : Nat} (v : Word) (h : atPairHigh off = true) :
    m.writeHigh i off v = m.busWrite i off v := by rw [Mod.writeHigh, h, Mod.when_true]

/-- A write of the low word of a pair stages the value (R5). -/
theorem Wr.act_pairLow (w : Wr) (m : Mod) (hp : pairLows.contains w.d.name = true) (hroot : w.d.name ≠ .XLT_CTX_ROOT_LO)
    (hmir : w.ofMirror m = false) (hkept : w.d.name = .SEQ_PRF_SPILL_BASE_LO → m.spillKept w.i = false) :
    w.act m = .ok { m with stage := SMap.insert m.stage (latchKey w.init w.off) w.v } := by
  have hopen : (w.d.name == .SEQ_PRF_SPILL_BASE_LO && m.spillKept w.i) = false := by
    rw [Bool.and_eq_false_imp]
    simpa using hkept
  simp only [Wr.act, hp, if_true, Wr.stageLow, hmir, hopen, hroot, Bool.or_self, Bool.false_eq_true, if_false]

/-- PAIR_LOW_WRITE of a pair whose low word is staged (R5). -/
theorem answers_pairLowWrite (s : State) (i : Init) (off : Nat) (v : Word) (d : RegDesc) (ix : List Nat)
    (hs : s.m.serving = true) (hj : s.m.journalOn = false) (hi : i.wf = true) (ho : off < 0x1000000) (ha : off % 4 = 0)
    (hr : regAt off = some (d, ix)) (hp : pairLows.contains d.name = true) (hroot : d.name ≠ .XLT_CTX_ROOT_LO)
    (hmir : Wr.ofMirror ⟨i, off, d, ix, v⟩ s.m = false)
    (hkept : d.name = .SEQ_PRF_SPILL_BASE_LO → s.m.spillKept (ix.getD 0 0) = false) :
    Answers (.pairLowWrite i off v) s (fun t => SMap.find t.stage (latchKey i off) = some v ∧ t.outs = s.m.outs ∧
      SameMemory s.m t ∧ SameRegs [] s.m t) := by
  have hw : Wf.pairLowWrite i off = true := by simp [Wf.pairLowWrite, offWf, hi]; omega
  have hat : atPairLow off = true := by simpa [atPairLow, hr] using hp
  have ht : s.m.writeLow i off v = { s.m with stage := SMap.insert s.m.stage (latchKey i off) v } := by
    rw [s.m.writeLow_pair i v hat]
    exact Mod.busWrite_accepted hs ho ha hr (Wr.act_pairLow ⟨i, off, d, ix, v⟩ s.m hp hroot hmir hkept) hj
  exact answers_always rfl hw ht ⟨SMap.find_insert_self _ _ _, rfl, .refl _, .refl _ _⟩

/-- The staged low word of a pair, 0 where none is staged (R5). -/
theorem Wr.low_eq (w : Wr) (m : Mod) : w.low m = (SMap.find m.stage (latchKey w.init (w.off - 4))).getD 0#32 := by
  unfold Wr.low
  cases SMap.find m.stage (latchKey w.init (w.off - 4)) <;> rfl

/-- The high word of TDk_SET_SEC gives both words their value (R5, Table 12.9). -/
theorem Wr.act_setSec (m : Mod) (i : Init) (k : Nat) (v : Word) (d : RegDesc) (hk : k < 4) (hd : d.name = .TD_SET_SEC_HI)
    (hrw : d.rw = 0xFFFFFFFF#32) (hc : d.w1c = 0#32) :
    Wr.act ⟨i, Reg.TD_SET_SEC_HI k, d, [k], v⟩ m = .ok ((m.setReg (Reg.TD_SET_SEC_LO k)
      ((SMap.find m.stage (latchKey i (Reg.TD_SET_SEC_LO k))).getD 0#32)).setReg (Reg.TD_SET_SEC_HI k) v) := by
  have hb : Reg.TD_SET_SEC_HI k / 0x100000 = 9 := by unfold Reg.TD_SET_SEC_HI; omega
  have hlow : Reg.TD_SET_SEC_HI k - 4 = Reg.TD_SET_SEC_LO k := by unfold Reg.TD_SET_SEC_HI Reg.TD_SET_SEC_LO; omega
  have hp : pairLows.contains RegName.TD_SET_SEC_HI = false := by decide
  simp only [Wr.act, hd, hp, hb, Wr.time, Wr.putPair, hlow, regAt_TD_SET_SEC_LO k hk, Wr.put, Wr.next, Wr.low_eq,
    RegDesc.after_rw _ _ _ hrw hc, RegDesc.after_rw, Bool.false_eq_true, if_false]

/-- PAIR_HIGH_WRITE of TDk_SET_SEC (R5). -/
theorem answers_setSecWrite (s : State) (i : Init) (k : Nat) (v : Word) (hs : s.m.serving = true)
    (hj : s.m.journalOn = false) (hi : i.wf = true) (hk : k < 4) :
    Answers (.pairHighWrite i (Reg.TD_SET_SEC_HI k) v) s (fun t => t.reg (Reg.TD_SET_SEC_LO k) =
      (SMap.find s.m.stage (latchKey i (Reg.TD_SET_SEC_LO k))).getD 0#32 ∧ t.reg (Reg.TD_SET_SEC_HI k) = v ∧
      t.outs = s.m.outs ∧ SameMemory s.m t ∧ SameRegs [Reg.TD_SET_SEC_LO k, Reg.TD_SET_SEC_HI k] s.m t) := by
  have hr := regAt_TD_SET_SEC_HI k hk
  have ho : Reg.TD_SET_SEC_HI k < 0x1000000 := by unfold Reg.TD_SET_SEC_HI; omega
  have ha : Reg.TD_SET_SEC_HI k % 4 = 0 := by unfold Reg.TD_SET_SEC_HI; omega
  have hlo : Reg.TD_SET_SEC_LO k ≠ Reg.SL_STATUS := by unfold Reg.TD_SET_SEC_LO Reg.SL_STATUS; omega
  have hhi : Reg.TD_SET_SEC_HI k ≠ Reg.SL_STATUS := by unfold Reg.TD_SET_SEC_HI Reg.SL_STATUS; omega
  have hne : Reg.TD_SET_SEC_LO k ≠ Reg.TD_SET_SEC_HI k := by unfold Reg.TD_SET_SEC_LO Reg.TD_SET_SEC_HI; omega
  have hw : Wf.pairHighWrite i (Reg.TD_SET_SEC_HI k) = true := by simp [Wf.pairHighWrite, offWf, hi]; omega
  have hat : atPairHigh (Reg.TD_SET_SEC_HI k) = true := by simp only [atPairHigh, hr, Option.any_some]; decide
  have hb := Mod.busWrite_accepted (m := s.m) hs ho ha hr (Wr.act_setSec s.m i k v _ hk rfl rfl rfl)
    (by rw [Mod.journalOn_setReg _ _ _ hhi, Mod.journalOn_setReg _ _ _ hlo, hj])
  refine answers_always rfl hw ((s.m.writeHigh_pair i v hat).trans hb) ⟨?_, ?_, rfl, .of_eq rfl rfl, ?_⟩
  · exact (Mod.reg_setReg_ne _ _ _ _ hne).trans (Mod.reg_setReg_self _ _ _)
  · exact Mod.reg_setReg_self _ _ _
  · exact (((SameRegs.refl _ s.m).setReg _ _ (by simp)).setReg _ _ (by simp)).cmds _

/-! ### Registers -/

/-- REGISTER_WRITE, where what the write leaves is known. -/
theorem answers_registerWrite {s : State} {i : Init} {off : Nat} {v : Word} {p : Mod → Prop} {t : Mod} (hi : i.wf = true)
    (ho : off < 0x4000000) (ht : s.m.busWrite i off v = t) (hp : p { t with cmds := s.m.cmds + 1 }) :
    Answers (.registerWrite i off v) s p :=
  answers_always rfl (by simp [Wf.registerWrite, offWf, hi, ho]) ht hp

/-- TPp_RX_CORR takes a write as Table 0.3 says, with no action of its own. -/
theorem Wr.act_rxCorr (m : Mod) (i : Init) (p : Nat) (v : Word) (d : RegDesc) (ix : List Nat) (hp : p < 2)
    (hd : d.name = .TP_RX_CORR) : Wr.act ⟨i, Reg.TP_RX_CORR p, d, ix, v⟩ m =
      .ok (m.setReg (Reg.TP_RX_CORR p) (d.after (m.reg (Reg.TP_RX_CORR p)) v)) := by
  have hb : Reg.TP_RX_CORR p / 0x100000 = 9 := by unfold Reg.TP_RX_CORR; omega
  have hl : pairLows.contains RegName.TP_RX_CORR = false := by decide
  simp only [Wr.act, hd, hl, hb, Wr.time, Wr.put, Wr.next, Bool.false_eq_true, if_false]

/-- So does GLB_DIE_ERR (Table 1.9). -/
theorem Wr.act_dieErr (m : Mod) (i : Init) (v : Word) (d : RegDesc) (ix : List Nat) (hd : d.name = .GLB_DIE_ERR) :
    Wr.act ⟨i, Reg.GLB_DIE_ERR, d, ix, v⟩ m = .ok (m.setReg Reg.GLB_DIE_ERR (d.after (m.reg Reg.GLB_DIE_ERR) v)) := by
  have hb : Reg.GLB_DIE_ERR / 0x100000 = 0 := by decide
  have hl : pairLows.contains RegName.GLB_DIE_ERR = false := by decide
  simp only [Wr.act, hd, hl, hb, Wr.global, Wr.put, Wr.next, Bool.false_eq_true, if_false]

/-- REGISTER_WRITE of a register that a write has no further action at (Table 0.3). -/
theorem answers_storedWrite (s : State) (i : Init) (off : Nat) (v : Word) (d : RegDesc) (ix : List Nat)
    (hs : s.m.serving = true) (hj : s.m.journalOn = false) (hi : i.wf = true) (ho : off < 0x1000000) (ha : off % 4 = 0)
    (hr : regAt off = some (d, ix)) (hact : Wr.act ⟨i, off, d, ix, v⟩ s.m = .ok (s.m.setReg off (d.after (s.m.reg off) v)))
    (hsl : off ≠ Reg.SL_STATUS) :
    Answers (.registerWrite i off v) s (fun t => t.reg off = d.after (s.m.reg off) v ∧ t.outs = s.m.outs ∧
      SameMemory s.m t ∧ SameRegs [off] s.m t) :=
  answers_registerWrite hi (by omega)
    (Mod.busWrite_accepted hs ho ha hr hact (by rw [Mod.journalOn_setReg _ _ _ hsl, hj]))
    ⟨Mod.reg_setReg_self _ _ _, rfl, .of_eq rfl rfl, ((SameRegs.refl _ s.m).setReg _ _ (by simp)).cmds _⟩

/-- REGISTER_WRITE of TPp_RX_CORR, whose bits are all RW. -/
theorem answers_rxCorrWrite (s : State) (i : Init) (p : Nat) (v : Word) (hs : s.m.serving = true)
    (hj : s.m.journalOn = false) (hi : i.wf = true) (hp : p < 2) :
    Answers (.registerWrite i (Reg.TP_RX_CORR p) v) s (fun t => t.reg (Reg.TP_RX_CORR p) = v ∧ t.outs = s.m.outs ∧
      SameMemory s.m t ∧ SameRegs [Reg.TP_RX_CORR p] s.m t) := by
  have ho : Reg.TP_RX_CORR p < 0x1000000 := by unfold Reg.TP_RX_CORR; omega
  have ha : Reg.TP_RX_CORR p % 4 = 0 := by unfold Reg.TP_RX_CORR; omega
  have hsl : Reg.TP_RX_CORR p ≠ Reg.SL_STATUS := by unfold Reg.TP_RX_CORR Reg.SL_STATUS; omega
  have h := answers_storedWrite s i _ v _ _ hs hj hi ho ha (regAt_TP_RX_CORR p hp)
    (Wr.act_rxCorr s.m i p v _ _ hp rfl) hsl
  rwa [RegDesc.after_rw _ _ _ rfl rfl] at h

/-- REGISTER_WRITE of GLB_DIE_ERR, whose bits are W1C. -/
theorem answers_dieErrWrite (s : State) (i : Init) (v : Word) (hs : s.m.serving = true) (hj : s.m.journalOn = false)
    (hi : i.wf = true) :
    Answers (.registerWrite i Reg.GLB_DIE_ERR v) s (fun t =>
      t.reg Reg.GLB_DIE_ERR = s.m.reg Reg.GLB_DIE_ERR &&& ~~~(v &&& 0x3F#32) ∧ t.outs = s.m.outs ∧
      SameMemory s.m t ∧ SameRegs [Reg.GLB_DIE_ERR] s.m t) := by
  have h := answers_storedWrite s i _ v _ _ hs hj hi (by decide) (by decide) regAt_GLB_DIE_ERR
    (Wr.act_dieErr s.m i v _ _ rfl) (by decide)
  rwa [RegDesc.after_w1c _ _ _ rfl] at h

/-- A write before READY to a register that is not one of reset and profiles is refused (R61). -/
theorem answers_closedWrite (s : State) (i : Init) (off : Nat) (v : Word) (d : RegDesc) (ix : List Nat)
    (ht : s.m.taking = true) (hi : i.wf = true) (ho : off < 0x1000000) (ha : off % 4 = 0) (hm : inMsix off = false)
    (hr : regAt off = some (d, ix)) (hc : s.m.writeOpen i d.name = false) :
    Answers (.registerWrite i off v) s (fun t => t.flag Reg.ERR_ACCESS Fields.ERR_ACCESS.WR_REFUSED = true ∧
      SameMemory s.m t ∧ SameRegsPost [] s.m t) := by
  obtain ⟨hh, hl⟩ := s.m.taking_iff.mp ht
  exact answers_registerWrite hi (by omega)
    (s.m.busWrite_closed i off v d ix hl hh (inDoorbells_blocks ho) ha (inBlocks_blocks ho) hm hr hc)
    ⟨flag_refuse i off s.m, (onlyPosts_refuse i off s.m).frame _⟩

/-- A write to a reserved address of a block does nothing (R6). -/
theorem answers_reservedWrite (s : State) (i : Init) (off : Nat) (v : Word) (ht : s.m.taking = true) (hi : i.wf = true)
    (ho : off < 0x1000000) (ha : off % 4 = 0) (hm : inMsix off = false) (hr : regAt off = none) :
    Answers (.registerWrite i off v) s (fun t => t.outs = s.m.outs ∧ SameMemory s.m t ∧ SameRegs [] s.m t) := by
  obtain ⟨hh, hl⟩ := s.m.taking_iff.mp ht
  exact answers_registerWrite hi (by omega)
    (s.m.busWrite_nowhere i off v hl hh (inDoorbells_blocks ho) ha (inBlocks_blocks ho) hm hr)
    ⟨rfl, .refl _, .refl _ _⟩

/-- A write beyond the doorbell area is to no block: ACCESS_ERR (R430). -/
theorem Mod.busWrite_beyond (m : Mod) (i : Init) (off : Nat) (v : Word) (ht : m.taking = true) (ho : 0x1008000 ≤ off) :
    m.busWrite i off v = m.accessErr i off := by
  obtain ⟨hh, hl⟩ := m.taking_iff.mp ht
  have hd : inDoorbells off = false := by simp [inDoorbells]; omega
  have hb : inBlocks off = false := by simp [inBlocks]; omega
  simp [Mod.busWrite, hl, hh, hd, hb]

/-- REGISTER_WRITE beyond the doorbell area (R430). -/
theorem answers_writeBeyond (s : State) (i : Init) (off : Nat) (v : Word) (ht : s.m.taking = true) (hi : i.wf = true)
    (ho : off < 0x4000000) (hb : 0x1008000 ≤ off) :
    Answers (.registerWrite i off v) s (fun t => t.flag Reg.ERR_ACCESS Fields.ERR_ACCESS.ACCESS_ERR = true ∧
      SameMemory s.m t ∧ SameRegsPost [] s.m t) :=
  answers_registerWrite hi ho (s.m.busWrite_beyond i off v ht hb)
    ⟨flag_accessErr i off s.m, (onlyPosts_accessErr i off s.m).frame _⟩

/-- Settles O48, one lemma for each form of access. -/
theorem registerAccess : Obligations.RegisterAccess :=
  ⟨answers_malformedWrite, answers_malformedRead, answers_pairLowRead, answers_pairLowWrite, answers_setSecWrite,
    answers_rxCorrWrite, answers_dieErrWrite, answers_closedWrite, answers_reservedWrite,
    answers_writeBeyond⟩

end Sys2Proof.Machine
end

section
/-!
PROOF. Translation contexts in a pair profile: why O57 fails.
-/

namespace Sys2Proof.Machine

/-! ### The host's write of a context's root -/

/-- The model asks of every low word of a pair whether it is a mirror sequencer's (R154), by its index alone: in a pair
profile the host's write of a root of contexts 16 to 63 is taken for one of a mirror's. -/
theorem Wr.ofMirror_root (m : Mod) (off : Nat) (d : RegDesc) (g : Nat) (v : Word) (hp : m.pairProfile = true) (hg : 16 ≤ g)
    (hd : d.name = .XLT_CTX_ROOT_LO) : Wr.ofMirror ⟨.host, off, d, [g], v⟩ m = true := by
  simp [Wr.ofMirror, hp, Wr.seqOf, hd, Wr.i, hg]

/-- A low word that is taken for a mirror's refuses the write. -/
theorem Wr.act_mirrorLow (w : Wr) (m : Mod) (hp : pairLows.contains w.d.name = true) (hm : w.ofMirror m = true) :
    w.act m = w.no m := by
  simp only [Wr.act, hp, if_true, Wr.stageLow, hm, Bool.true_or]

theorem pairLows_root : pairLows.contains RegName.XLT_CTX_ROOT_LO = true := by decide

/-- So the host's write of such a root is refused. -/
theorem Mod.rootLoWrite_refused (m : Mod) (g : Nat) (v : Word) (hs : m.serving = true) (hp : m.pairProfile = true)
    (hg : 16 ≤ g) (hg' : g < 64) :
    m.busWrite .host (Reg.XLT_CTX_ROOT_LO g) v = m.refuse .host (Reg.XLT_CTX_ROOT_LO g) := by
  obtain ⟨hh, hl, hopen⟩ := m.serving_iff.mp hs
  have hr := regAt_XLT_CTX_ROOT_LO g hg'
  have ho : Reg.XLT_CTX_ROOT_LO g < 0x1000000 := by unfold Reg.XLT_CTX_ROOT_LO; omega
  have ha : Reg.XLT_CTX_ROOT_LO g % 4 = 0 := by unfold Reg.XLT_CTX_ROOT_LO; omega
  exact m.busWrite_refused _ _ v _ _ _ hl hh (inDoorbells_blocks ho) ha (inBlocks_blocks ho) (inMsix_of_regAt hr) hr
    (m.writeOpen_open _ _ hopen) (Wr.act_mirrorLow _ m pairLows_root (Wr.ofMirror_root m _ _ g v hp hg rfl))

/-- No root of a context is a word of the faults block or a pending bit. -/
theorem postWord_root : ∀ g < 64, postWord (Reg.XLT_CTX_ROOT_LO g) = false := by decide

/-- CONTEXT_ENABLE by the host of such a context leaves EN as it was. -/
theorem answers_contextEnable_refused (s : State) (g : Nat) (hs : s.m.serving = true) (hp : s.m.pairProfile = true)
    (hg : 16 ≤ g) (hg' : g < 64) : Answers (.contextEnable .host g) s (fun t =>
      t.flag (Reg.XLT_CTX_ROOT_LO g) Fields.XLT_CTX_ROOT_LO.EN =
        s.m.flag (Reg.XLT_CTX_ROOT_LO g) Fields.XLT_CTX_ROOT_LO.EN) := by
  refine answers_command rfl (by simp [Wf.contextEnable, Init.wf, hg']) (s.m.serving_iff.mp hs).1
    ((s.m.fieldWrite_eq .host _ _ _ _ _ (regAt_XLT_CTX_ROOT_LO g hg')).trans (s.m.rootLoWrite_refused g _ hs hp hg hg')) ?_
  exact congrArg (fun w => fget Fields.XLT_CTX_ROOT_LO.EN w != 0)
    ((onlyPosts_refuse .host (Reg.XLT_CTX_ROOT_LO g) s.m).2 _ List.not_mem_nil (postWord_root g hg'))

/-- The module after reset, READY with PROF 2, a pair profile, and not paired. -/
def unpairedReady : State :=
  ⟨[], (Mod.reset.wr Reg.GLB_START_STATE Fields.GLB_START_STATE.STATE 6).wr Reg.GLB_START_STATE
    Fields.GLB_START_STATE.PROFILE 2⟩

/-- Refutes O57: in a pair profile EN of contexts 16 to 63 does not follow the host's CONTEXT_ENABLE. The write goes to a
low word of a pair, of index 16 or above, which the model takes for a register of a mirror sequencer and refuses, though
R154 speaks of the registers of SEQ16 to SEQ31 alone. The statement admits every initiator and every profile. -/
theorem not_calibrationTranslationAndDma : ¬ Obligations.CalibrationTranslationAndDma := by
  intro h
  obtain ⟨-, -, -, -, -, -, -, -, hEnable, -⟩ := h
  have henabled := hEnable unpairedReady .host 16 (by decide) (by decide) rfl (by decide)
  have hkept := answers_contextEnable_refused unpairedReady 16 (by decide) (by decide) (by decide) (by decide)
  obtain ⟨t, -, -, ⟨hon, -⟩, hsame⟩ := henabled.and hkept
  have hoff : unpairedReady.m.flag (Reg.XLT_CTX_ROOT_LO 16) Fields.XLT_CTX_ROOT_LO.EN = false := by decide
  rw [hon, hoff] at hsame
  exact Bool.noConfusion hsame

end Sys2Proof.Machine
end

section
/-!
PROOF. The first emission of a burst without a vector (R173, R186, R205): why O33 fails.
-/

namespace Sys2Proof.Machine

/-! ### A burst that ends before its first vector (R173, R205) -/

/-- A burst on sequencer 0 that has reached END with no vector, its instruction stream resident. -/
def emptyBurst : Seq :=
  { Seq.fresh with job := some ⟨some 0, 0, 0, 0⟩, iblk := [⟨0, 0, true, false⟩], ended := true }

/-- The module after reset with that burst: no channel belongs to the port (R152), and TTIME is 0. -/
def emptyBurstNoChannels : State := ⟨[], Mod.reset.setSeq 0 emptyBurst⟩

/-- On a port of no channels no pin die has been opened when the burst finishes, and the finish sets the cycle start to
the current tick (R205): the SCLK of FIRST_EMISSION within the tick is lost. -/
theorem answers_firstEmission_noChannels : Answers (.firstEmission 0 1) emptyBurstNoChannels (fun t =>
    (t.seq 0).sclk0 = emptyBurstNoChannels.m.ttime) :=
  answers_run rfl (by decide) (by decide) (by decide)

/-- Refutes O33 by its clause on the first emission, which fixes the cycle start for every burst that is ready to emit. One
that ends before its first vector has its pin dies take it up as it finishes (R205); on a port of no channels they have
not taken it up before, and the cycle start falls back to the tick. -/
theorem not_emissionAndBlocks : ¬ Obligations.EmissionAndBlocks := by
  intro h
  obtain ⟨-, hFirst, -⟩ := h
  have hstart := hFirst emptyBurstNoChannels 0 1 (by decide) (by decide) (by decide) (by decide) (by decide) (by decide)
    (by decide)
  obtain ⟨t, -, -, ⟨hofs, -⟩, htick⟩ := hstart.and answers_firstEmission_noChannels
  rw [htick] at hofs
  exact absurd hofs (by decide)

end Sys2Proof.Machine
end

section
/-!
PROOF. BAR2 writes of part of a word with an uncorrectable error (R29, R434): why O49 fails.
-/

namespace Sys2Proof.Machine

/-! ### A BAR2 write of part of a bad word (R434) -/

/-- HOST_BAR2_WRITE of bytes that are all writable, one run of which covers only part of a unit with an uncorrectable
error, is discarded with a record. -/
theorem answers_bar2Write_partBad (s : State) (off : Nat) (data : List (Option Byte)) (hs : s.m.serving = true)
    (hw : Wf.hostBar2Write off data = true)
    (hok : (enabledRuns data off).all (fun r => (List.range r.2.length).all (fun i => s.m.sramWritable (r.1 + i))) = true)
    (hbad : (enabledRuns data off).any (fun r => sramPartBad s.m.sramBad r.1 r.2.length) = true) :
    Answers (.hostBar2Write off data) s (fun t => SameMemory s.m t ∧ SameRegsPost [] s.m t) := by
  obtain ⟨hh, hl, hopen⟩ := s.m.serving_iff.mp hs
  have ht : s.m.bar2Write off data = s.m.post 1 (regionSource (sramRegion off)) 0 0 noSite 0 off := by
    simp only [Mod.bar2Write, hl, hh, hopen, hok, hbad, Bool.or_self, Bool.not_true, Bool.false_eq_true, if_false, if_true]
  exact answers_command rfl hw hh ht ((onlyPosts_post _ _ _ _ _ _ _ s.m).frame _)

/-- The module after reset, READY, with an uncorrectable error in the first word of the DDS lists. -/
def badListWord : State :=
  ⟨[], { Mod.reset.wr Reg.GLB_START_STATE Fields.GLB_START_STATE.STATE 6 with sramBad := [(0xC00000, true)] }⟩

/-- Refutes O49 by its clause on BAR2 writes. The model keeps a bad unit of SRAM under its address (`sramKey`); the
hypothesis of the clause asks `partBad`, which looks under the unit's number, and so admits the write of one byte of a bad
word, which is discarded (R434). -/
theorem not_windowsAndDoorbells : ¬ Obligations.WindowsAndDoorbells := by
  intro h
  obtain ⟨-, -, -, hWrite, -⟩ := h
  have happlied := hWrite badListWord 0xC00000 [some 1#8] (by decide) (by decide) (by decide) (by decide)
  have hdiscarded := answers_bar2Write_partBad badListWord 0xC00000 [some 1#8] (by decide) (by decide) (by decide) (by decide)
  obtain ⟨t, -, -, ⟨hbyte, -⟩, hmem, -⟩ := happlied.and hdiscarded
  have hone := (hmem.2 _).symm.trans (hbyte 0 (by decide))
  exact absurd hone (by decide)

end Sys2Proof.Machine
end

section
/-!
SUPPORT. What the end of a unit's work leaves as it was (R120, R418).
-/

namespace Sys2Proof.Machine

/-! ### What the end of a unit's work leaves -/

/-- `b` is `a` in both memories, in the state of supplies and dies, in the pins and in every register of `P`, but for
CLAMP_SUM (R42). -/
structure Kept (P : Nat → Prop) (a b : Mod) : Prop where
  gddr : b.gddr = a.gddr
  sram : b.sram = a.sram
  sys : b.sys = a.sys
  pins : b.pins = a.pins
  hgnd : b.rd Reg.PWR_HV_MON Fields.PWR_HV_MON.HGND_OFS = a.rd Reg.PWR_HV_MON Fields.PWR_HV_MON.HGND_OFS
  regs : ∀ o, P o → o ≠ Reg.PWR_HV_MON → b.reg o = a.reg o

variable {P : Nat → Prop} {a b c : Mod}

theorem Kept.refl (P : Nat → Prop) (a : Mod) : Kept P a a := ⟨rfl, rfl, rfl, rfl, rfl, fun _ _ _ => rfl⟩

theorem Kept.trans (h : Kept P a b) (k : Kept P b c) : Kept P a c :=
  ⟨k.gddr.trans h.gddr, k.sram.trans h.sram, k.sys.trans h.sys, k.pins.trans h.pins, k.hgnd.trans h.hgnd,
    fun o ho hn => (k.regs o ho hn).trans (h.regs o ho hn)⟩

theorem Kept.flag (h : Kept P a b) {o : Nat} (ho : P o) (hn : o ≠ Reg.PWR_HV_MON) (f : Fld) : b.flag o f = a.flag o f := by
  simp only [Mod.flag, Mod.rd, h.regs o ho hn]

/-- A change that reaches neither memory, nor supplies and dies, nor pins, nor registers. -/
theorem Kept.same (hg : b.gddr = a.gddr) (hs : b.sram = a.sram) (hy : b.sys = a.sys) (hp : b.pins = a.pins)
    (hr : b.regs = a.regs) : Kept P a b := by
  have h (o : Nat) : b.reg o = a.reg o := by simp only [Mod.reg, hr]
  exact ⟨hg, hs, hy, hp, by simp only [Mod.rd, h], fun o _ _ => h o⟩

theorem Kept.setReg (m : Mod) (off : Nat) (v : Word) (h : ¬ P off) (hn : off ≠ Reg.PWR_HV_MON) :
    Kept P m (m.setReg off v) :=
  ⟨rfl, rfl, rfl, rfl, by rw [Mod.rd, Mod.reg_setReg_ne m off _ v hn.symm, Mod.rd],
    fun o ho _ => Mod.reg_setReg_ne m off o v fun e => h (e ▸ ho)⟩

theorem Kept.wr (m : Mod) (off : Nat) (f : Fld) (v : Nat) (h : ¬ P off) (hn : off ≠ Reg.PWR_HV_MON) :
    Kept P m (m.wr off f v) := .setReg m off _ h hn

theorem Kept.when (p : Bool) (f : Mod → Mod) (m : Mod) (h : Kept P m (f m)) : Kept P m (m.when p f) := by
  cases p
  · exact .refl P m
  · exact h

theorem Kept.each (l : List Nat) (f : Nat → Mod → Mod) (m : Mod) (h : ∀ k ∈ l, ∀ x, Kept P x (f k x)) :
    Kept P m (m.each l f) :=
  Mod.each_keeps m (Kept P m) l f (fun k hk _ hx => hx.trans (h k hk _)) (.refl P m)

variable (P)

/-- CLAMP_SUM alone follows the sum. -/
theorem kept_sumClamps (m : Mod) : Kept P m m.sumClamps :=
  ⟨rfl, rfl, rfl, rfl, Mod.rd_wr_field _ _ _ _ _ (by decide), fun o _ hn => Mod.reg_wr_ne _ _ _ _ _ hn⟩

theorem kept_report (j : Job) (st : Nat) (v : DWord) (fail : Bool) (stretch : Nat) (ran : Bool) (m : Mod) :
    Kept P m (m.report j st v fail stretch ran) := by
  unfold Mod.report
  split
  · exact .same rfl rfl rfl rfl rfl
  · refine Kept.trans ?_ (.when _ _ _ (.same rfl rfl rfl rfl rfl))
    exact .same rfl rfl rfl rfl rfl

theorem kept_reportStatus (j : Job) (st : Nat) (m : Mod) : Kept P m (m.reportStatus j st) := kept_report P j _ _ _ _ _ m

theorem kept_setLreq (id : Nat) (x : Option LReq) (m : Mod) : Kept P m (m.setLreq id x) := .same rfl rfl rfl rfl rfl
theorem kept_setMeas (c : Nat) (x : Option Meas) (m : Mod) : Kept P m (m.setMeas c x) := .same rfl rfl rfl rfl rfl

theorem kept_dropReq (code id : Nat) (m : Mod) : Kept P m (m.dropReq code id) := by
  unfold Mod.dropReq
  split
  · exact .refl P m
  · rename_i r _
    have h := (kept_setLreq P id none m).trans (kept_reportStatus P r.job code _)
    split
    · exact h.trans (kept_setMeas P _ none _)
    · exact h

theorem kept_measLost (code c : Nat) (m : Mod) : Kept P m (m.measLost code c) := by
  unfold Mod.measLost
  split
  · exact .refl P m
  · exact Kept.trans (b := m.dropMeas c) (.same rfl rfl rfl rfl rfl) (kept_reportStatus P _ _ _)

theorem kept_updReq (id : Option Nat) (f : LReq → LReq) (m : Mod) : Kept P m (m.updReq id f) := by
  unfold Mod.updReq
  split
  · exact .refl P m
  · split
    · exact kept_setLreq P _ _ _
    · exact .refl P m

theorem kept_reqDone (id : Nat) (m : Mod) : Kept P m (m.reqDone id) := by
  have hd : Kept P m (m.setLreq id none) := kept_setLreq P id none m
  unfold Mod.reqDone
  split
  · exact .refl P m
  · split
    · exact kept_setLreq P _ _ _
    · split
      · exact hd.trans (kept_report P _ _ _ _ _ _ _)
      · split
        · exact (hd.trans (kept_setMeas P _ _ _)).trans (kept_reportStatus P _ _ _)
        · dsimp only
          split
          · exact hd
          · split
            · exact (hd.trans (kept_setMeas P _ _ _)).trans (kept_reportStatus P _ _ _)
            · exact hd.trans (kept_setMeas P _ _ _)

/-- A stop is asked of a sequencer without a word of the register file. -/
theorem kept_stopSeq (n code : Nat) (m : Mod) : Kept P m (m.stopSeq n code) := by
  unfold Mod.stopSeq Mod.requestStop
  dsimp only
  split
  · exact .refl P m
  · split
    · split
      · exact .refl P m
      · exact .same rfl rfl rfl rfl rfl
    · exact .same rfl rfl rfl rfl rfl

theorem kept_portLost (n d : Nat) (m : Mod) : Kept P m (m.portLost n d) := by
  have hd : Kept P m (m.setDport n d DiePort.fresh) := .same rfl rfl rfl rfl rfl
  unfold Mod.portLost
  dsimp only
  split
  · exact hd.trans (.same rfl rfl rfl rfl rfl)
  · exact hd.trans (kept_stopSeq P n _ _)

variable {P}

theorem lqReg_above (q : Nat) : 0x500000 ≤ lqReg q := by
  unfold lqReg Reg.CH_LQ_STATUS Reg.HV_LQ_STATUS
  split <;> omega

theorem kept_putLq (q : Nat) (x : Lq) (m : Mod) (h : ¬ P (lqReg q)) : Kept P m (m.putLq q x) :=
  Kept.trans (b := m.setLq q x) (.same rfl rfl rfl rfl rfl)
    (.wr _ _ _ _ h (by have := lqReg_above q; unfold Reg.PWR_HV_MON; omega))

theorem kept_lqLost (code q : Nat) (m : Mod) (h : ¬ P (lqReg q)) : Kept P m (m.lqLost code q) :=
  (kept_putLq q _ m h).trans (.each _ _ _ fun id _ x => kept_dropReq P code id x)

theorem kept_tdcDrop (u code : Nat) (m : Mod) (h : ¬ P (Reg.TDC_STATUS u)) : Kept P m (m.tdcDrop u code) := by
  unfold Mod.tdcDrop
  split
  · exact .refl P m
  · have hs : Kept P m (m.setTdc u none) := .same rfl rfl rfl rfl rfl
    have hn : Reg.TDC_STATUS u ≠ Reg.PWR_HV_MON := by unfold Reg.TDC_STATUS Reg.PWR_HV_MON; omega
    exact (hs.trans (.wr _ _ _ _ h hn)).trans (kept_reportStatus P _ _ _)

theorem kept_aqEnd (n code : Nat) (m : Mod) (h : ¬ P (Reg.AQ_STATUS n)) : Kept P m (m.aqEnd n code) := by
  unfold Mod.aqEnd
  split
  · exact .refl P m
  · have hs : Kept P m (m.setAcq n none) := .same rfl rfl rfl rfl rfl
    have hn : Reg.AQ_STATUS n ≠ Reg.PWR_HV_MON := by unfold Reg.AQ_STATUS Reg.PWR_HV_MON; omega
    exact (hs.trans (.wr _ _ _ _ h hn)).trans (kept_reportStatus P _ _ _)

/-- A range change that ends writes HVn_STATE alone (R261). -/
theorem kept_rcFinish (h : Nat) (m : Mod) (hp : ¬ P (Reg.HV_STATE h)) : Kept P m (m.rcFinish h) := by
  have hn : Reg.HV_STATE h ≠ Reg.PWR_HV_MON := by unfold Reg.HV_STATE Reg.PWR_HV_MON; omega
  have hw (x : Mod) (f : Fld) (v : Nat) : Kept P x (x.wr (Reg.HV_STATE h) f v) := .wr x _ f v hp hn
  have hshow (x : HvLive) : Kept P m
      (((m.setHv h x).wr (Reg.HV_STATE h) Fields.HV_STATE.RC_ACTIVE 0).showHv h true) := by
    have hx : Kept P m (m.setHv h x) := .same rfl rfl rfl rfl rfl
    exact ((((hx.trans (hw _ _ _)).trans (hw _ _ _)).trans (hw _ _ _)).trans (hw _ _ _)).trans (hw _ _ _)
  unfold Mod.rcFinish
  dsimp only
  split
  · exact .refl P m
  · split
    · exact ((hshow _).trans (kept_updReq P _ _ _)).trans (kept_reqDone P _ _)
    · exact (hshow _).trans (kept_updReq P _ _ _)

end Sys2Proof.Machine
end

section
/-!
SUPPORT. Dies and devices that go out of service (R32, R39, R44, R344; Tables 1.7, 10.9).
-/

namespace Sys2Proof.Machine

/-! ### Every step of a repetition leaves its mark -/

/-- What step `k` of a repetition sets for `k`, and every step keeps for the others, holds for each in the end. -/
theorem Mod.each_sets (Q : Nat → Mod → Prop) (l : List Nat) (f : Nat → Mod → Mod) (hset : ∀ k x, Q k (f k x))
    (hkeep : ∀ j k x, Q j x → Q j (f k x)) (m : Mod) : ∀ j ∈ l, Q j (m.each l f) := by
  induction l generalizing m with
  | nil => simp
  | cons k t ih =>
    intro j hj
    obtain rfl | ht := List.mem_cons.mp hj
    · exact Mod.each_keeps _ (Q j) t f (fun i _ x hx => hkeep j i x hx) (hset j m)
    · exact ih (f k m) j ht

/-! ### H0 lost -/

/-- A channel of H0 is disabled as H0 is lost (Table 10.9). -/
def Mod.hvDown (h : Nat) (m : Mod) : Mod :=
  let m1 := (m.wr (Reg.HV_CTRL h) Fields.HV_CTRL.EN 0).rcFinish h
  m1.setHv h { m1.hv h with dac := 0, drive := .off }

theorem hvCtrl_ne_hvMon (h : Nat) : Reg.HV_CTRL h ≠ Reg.PWR_HV_MON := by unfold Reg.HV_CTRL Reg.PWR_HV_MON; omega

theorem kept_hvDown {P : Nat → Prop} (h : Nat) (m : Mod) (hc : ¬ P (Reg.HV_CTRL h)) (hs : ¬ P (Reg.HV_STATE h)) :
    Kept P m (m.hvDown h) :=
  ((Kept.wr m _ _ _ hc (hvCtrl_ne_hvMon h)).trans (kept_rcFinish h _ hs)).trans (.same rfl rfl rfl rfl rfl)

/-- No range change touches a word of HV_CTRL. -/
theorem hvState_ne_hvCtrl (h j : Nat) : Reg.HV_STATE h ≠ Reg.HV_CTRL j := by unfold Reg.HV_STATE Reg.HV_CTRL; omega

theorem hvDown_self (h : Nat) (m : Mod) : (m.hvDown h).hvEnabled h = false := by
  have hk := kept_rcFinish (P := (· = Reg.HV_CTRL h)) h (m.wr (Reg.HV_CTRL h) Fields.HV_CTRL.EN 0) (hvState_ne_hvCtrl h h)
  exact (hk.flag rfl (hvCtrl_ne_hvMon h) _).trans (Mod.flag_wr_zero m _ _ (by decide))

theorem hvDown_keeps (j h : Nat) (m : Mod) (hj : m.hvEnabled j = false) : (m.hvDown h).hvEnabled j = false := by
  by_cases he : j = h
  · rw [he]; exact hvDown_self h m
  · have hc : Reg.HV_CTRL h ≠ Reg.HV_CTRL j := by unfold Reg.HV_CTRL; omega
    have hk := kept_hvDown (P := (· = Reg.HV_CTRL j)) h m hc (hvState_ne_hvCtrl h j)
    exact (hk.flag rfl (hvCtrl_ne_hvMon j) _).trans hj

/-- The channels and level queues of H0 at its loss, before its relays open (Table 10.9). -/
def Mod.hvsDown (m : Mod) : Mod :=
  (m.each (List.range 32) Mod.hvDown).each [16, 17, 18, 19, 20] (fun q s => s.putLq q { s.lq q with entries := [] })

theorem h0Safe_eq (m : Mod) :
    m.h0Safe = ((m.hvsDown.setReg Reg.RLY_STATE_LO 0#32).setReg Reg.RLY_STATE_HI 0#32).sumClamps := rfl

/-- The queues of HV channels and relays have their words above those of the channels (Table 10.13). -/
theorem lqReg_hv {q : Nat} (h : q ∈ [16, 17, 18, 19, 20]) : 0x700400 ≤ lqReg q := by
  simp only [List.mem_cons, List.not_mem_nil, or_false] at h
  obtain rfl | rfl | rfl | rfl | rfl := h <;> decide

theorem kept_hvsDown (m : Mod) : Kept (· < 0x700000) m m.hvsDown := by
  refine Kept.trans (.each _ _ _ fun h _ x => kept_hvDown h x ?_ ?_)
    (.each _ _ _ fun q hq x => kept_putLq q _ x (by have := lqReg_hv hq; omega))
  · simp [Reg.HV_CTRL]
  · simp [Reg.HV_STATE]; omega

theorem hvsDown_off (m : Mod) (h : Nat) (hh : h < 32) : m.hvsDown.hvEnabled h = false := by
  have hc : Reg.HV_CTRL h < 0x700400 := by unfold Reg.HV_CTRL; omega
  have hq : Kept (· < 0x700400) (m.each (List.range 32) Mod.hvDown) m.hvsDown :=
    .each _ _ _ fun q hq x => kept_putLq q _ x (by have := lqReg_hv hq; omega)
  have hd : (m.each (List.range 32) Mod.hvDown).hvEnabled h = false :=
    Mod.each_sets (fun j x => x.hvEnabled j = false) (List.range 32) _ hvDown_self hvDown_keeps m h (List.mem_range.mpr hh)
  exact (hq.flag hc (hvCtrl_ne_hvMon h) _).trans hd

theorem kept_h0Safe (m : Mod) : Kept (· < 0x700000) m m.h0Safe := by
  rw [h0Safe_eq]
  exact (((kept_hvsDown m).trans (.setReg _ _ _ (by decide) (by decide))).trans
    (.setReg _ _ _ (by decide) (by decide))).trans (kept_sumClamps _ _)

/-- Every HV channel is disabled and every relay open. -/
structure HvOff (m : Mod) : Prop where
  channels : ∀ h < 32, m.flag (Reg.HV_CTRL h) Fields.HV_CTRL.EN = false
  relaysLo : m.reg Reg.RLY_STATE_LO = 0#32
  relaysHi : m.reg Reg.RLY_STATE_HI = 0#32

theorem hvOff_h0Safe (m : Mod) : HvOff m.h0Safe := by
  rw [h0Safe_eq]
  have hs (x : Mod) := kept_sumClamps (fun _ => True) x
  refine ⟨fun h hh => ?_, ?_, ?_⟩
  · have hlo : Reg.HV_CTRL h ≠ Reg.RLY_STATE_LO := by unfold Reg.HV_CTRL Reg.RLY_STATE_LO; omega
    have hhi : Reg.HV_CTRL h ≠ Reg.RLY_STATE_HI := by unfold Reg.HV_CTRL Reg.RLY_STATE_HI; omega
    rw [(hs _).flag trivial (hvCtrl_ne_hvMon h), Mod.flag, Mod.rd, Mod.reg_setReg_ne _ _ _ _ hhi,
      Mod.reg_setReg_ne _ _ _ _ hlo]
    exact hvsDown_off m h hh
  · rw [(hs _).regs _ trivial (by decide), Mod.reg_setReg_ne _ _ _ _ (by decide), Mod.reg_setReg_self]
  · rw [(hs _).regs _ trivial (by decide), Mod.reg_setReg_self]

/-- What keeps the registers of the HV block keeps its channels off and its relays open. -/
theorem HvOff.kept {a b : Mod} (h : HvOff a) (k : Kept (· < 0x800000) a b) : HvOff b := by
  refine ⟨fun i hi => ?_, ?_, ?_⟩
  · exact (k.flag (by unfold Reg.HV_CTRL; omega) (hvCtrl_ne_hvMon i) _).trans (h.channels i hi)
  · rw [k.regs _ (by decide) (by decide), h.relaysLo]
  · rw [k.regs _ (by decide) (by decide), h.relaysHi]

/-- The loss of H0 at its waveform units ends their nodes and writes registers of the waveform block alone. -/
theorem kept_h0WaveSafe (code : Nat) (m : Mod) : Kept (· < 0x800000) m (m.h0WaveSafe code) := by
  refine (Kept.each _ _ _ fun n _ x => ?_).trans (kept_sumClamps _ _)
  have hw (y : Mod) (off : Nat) (f : Fld) (v : Nat) (h : 0x800000 ≤ off) : Kept (· < 0x800000) y (y.wr off f v) :=
    .wr y off f v (by omega) (by unfold Reg.PWR_HV_MON; omega)
  have hdds : 0x800000 ≤ Reg.DDS_STATUS n := by unfold Reg.DDS_STATUS; omega
  have has : 0x800000 ≤ Reg.AS_STATE n := by unfold Reg.AS_STATE; omega
  have haq : ¬ Reg.AQ_STATUS n < 0x800000 := by unfold Reg.AQ_STATUS; omega
  have h0 : Kept (· < 0x800000) x (x.setWave n Wave.fresh) := .same rfl rfl rfl rfl rfl
  have h1 := (h0.trans (hw _ _ Fields.DDS_STATUS.JUMP_PENDING 0 hdds)).trans (hw _ _ Fields.DDS_STATUS.STATE 0 hdds)
  have htail (y : Mod) : Kept (· < 0x800000) y (((((y.setAsl n AsLive.fresh).wr (Reg.AS_STATE n) Fields.AS_STATE.EN 0).wr
      (Reg.AS_STATE n) Fields.AS_STATE.RC_ACTIVE 0).wr (Reg.AS_STATE n) Fields.AS_STATE.QCOUNT 0).aqEnd n code) := by
    have hy : Kept (· < 0x800000) y (y.setAsl n AsLive.fresh) := .same rfl rfl rfl rfl rfl
    exact (((hy.trans (hw _ _ _ _ has)).trans (hw _ _ _ _ has)).trans (hw _ _ _ _ has)).trans (kept_aqEnd n code _ haq)
  refine Kept.trans ?_ (htail _)
  split
  · split
    · exact (h1.trans (kept_reportStatus _ _ _ _)).trans (kept_reportStatus _ _ _ _)
    · exact h1.trans (kept_reportStatus _ _ _ _)
  · split
    · exact h1.trans (kept_reportStatus _ _ _ _)
    · exact h1

/-! ### A die or device out of service -/

/-- The bit of GLB_DIE_STATUS of a pin die, H0 or GDDR7 device (Table 1.8). -/
def upBit (d : Nat) : Fld := ⟨if d < 4 then d - 1 else d, 1⟩

/-- Die `d` of `a` has gone out of service in `t`: memories, trips, the start order and the registers of chip and supplies
stay, but for the die's bit and CLAMP_SUM. -/
structure TakenOut (d : Nat) (a t : Mod) : Prop where
  gddr : t.gddr = a.gddr
  sram : t.sram = a.sram
  lost : t.isLost d = true
  up : t.flag Reg.GLB_DIE_STATUS (upBit d) = false
  tripped : t.sys.tripped = a.sys.tripped
  leftOff : t.sys.leftOff = a.sys.leftOff
  hgnd : t.rd Reg.PWR_HV_MON Fields.PWR_HV_MON.HGND_OFS = a.rd Reg.PWR_HV_MON Fields.PWR_HV_MON.HGND_OFS
  regs : ∀ o < 0x100000, o ≠ Reg.GLB_DIE_STATUS → o ≠ Reg.PWR_HV_MON → t.reg o = a.reg o

theorem TakenOut.kept {d : Nat} {a b c : Mod} (h : TakenOut d a b) (k : Kept (· < 0x100000) b c) : TakenOut d a c where
  gddr := k.gddr.trans h.gddr
  sram := k.sram.trans h.sram
  lost := by rw [Mod.isLost, k.sys]; exact h.lost
  up := (k.flag (by decide) (by decide) _).trans h.up
  tripped := by rw [k.sys, h.tripped]
  leftOff := by rw [k.sys, h.leftOff]
  hgnd := k.hgnd.trans h.hgnd
  regs := fun o ho hg hn => (k.regs o ho hn).trans (h.regs o ho hg hn)

/-- A die is marked lost and its bit cleared. -/
theorem takenOut_mark (d : Nat) (m : Mod) (hd : d < 32) :
    TakenOut d m ((m.setLost d true).wr Reg.GLB_DIE_STATUS (upBit d) 0) where
  gddr := rfl
  sram := rfl
  lost := Mod.isLost_setLost_self m d true
  up := Mod.flag_wr_zero _ _ _ (by unfold upBit; dsimp only; split <;> omega)
  tripped := rfl
  leftOff := rfl
  hgnd := by rw [Mod.rd_wr_ne _ _ _ _ _ _ (by decide)]; rfl
  regs := fun o _ hg _ => Mod.reg_wr_ne _ _ _ _ _ hg

/-! ### H0 -/

theorem kept_h0Lost (m : Mod) : Kept (· < 0x100000)
    (((m.setLost 3 true).setStarted 29 false).wr Reg.GLB_DIE_STATUS Fields.GLB_DIE_STATUS.H0_UP 0) m.h0Lost := by
  have hlq (q : Nat) : ¬ lqReg q < 0x100000 := by have := lqReg_above q; omega
  have htdc (u : Nat) : ¬ Reg.TDC_STATUS u < 0x100000 := by unfold Reg.TDC_STATUS; omega
  have hsafe (x : Mod) : Kept (· < 0x100000) x x.h0Safe :=
    let k := kept_h0Safe x
    { k with regs := fun o ho => k.regs o (Nat.lt_trans ho (by decide)) }
  have hwave (x : Mod) : Kept (· < 0x100000) x (x.h0WaveSafe stPIN_LOST) :=
    let k := kept_h0WaveSafe stPIN_LOST x
    { k with regs := fun o ho => k.regs o (Nat.lt_trans ho (by decide)) }
  unfold Mod.h0Lost
  exact (((((Kept.each _ _ _ fun q _ x => kept_lqLost _ q x (hlq q)).trans
    (.each _ _ _ fun id _ x => kept_dropReq _ _ id x)).trans
    (.each _ _ _ fun i _ x => kept_measLost _ _ _ x)).trans (hsafe _)).trans (hwave _)).trans
    (.each _ _ _ fun u _ x => kept_tdcDrop u _ x (htdc u))

theorem takenOut_h0Lost (m : Mod) : TakenOut 3 m m.h0Lost := by
  have h := takenOut_mark 3 m (by decide)
  refine TakenOut.kept ?_ (kept_h0Lost m)
  exact { h with }

theorem hvOff_h0Lost (m : Mod) : HvOff m.h0Lost := by
  have htdc (u : Nat) : ¬ Reg.TDC_STATUS u < 0x800000 := by unfold Reg.TDC_STATUS; omega
  unfold Mod.h0Lost
  exact ((hvOff_h0Safe _).kept (kept_h0WaveSafe stPIN_LOST _)).kept
    (.each _ _ _ fun u _ x => kept_tdcDrop u _ x (htdc u))

/-! ### Pin dies -/

theorem Mod.isLost_setLost_ne (m : Mod) (d e : Nat) (b : Bool) (h : e ≠ d) : (m.setLost d b).isLost e = m.isLost e :=
  SMap.get_set_ne _ _ _ _ _ h

/-- A pin's driver and comparator are disconnected (R44). -/
def Mod.pinOff (d i : Nat) (m : Mod) : Mod :=
  m.setPin (128 * d + i) { m.pin (128 * d + i) with drive := .off, events := [], strobes := [], placed := [], trackers := [] }

/-- `b` is `a` but for pins and die ports. -/
def PinsOnly (a b : Mod) : Prop := b = { a with pins := b.pins, dports := b.dports }

theorem PinsOnly.trans {a b c : Mod} (h : PinsOnly a b) (k : PinsOnly b c) : PinsOnly a c := by
  unfold PinsOnly at *
  rw [k, h]

theorem PinsOnly.each (l : List Nat) (f : Nat → Mod → Mod) (m : Mod) (h : ∀ k x, PinsOnly x (f k x)) :
    PinsOnly m (m.each l f) :=
  Mod.each_keeps m (PinsOnly m) l f (fun k _ _ hx => hx.trans (h k _)) rfl

theorem pinsOnly_driversOff (d : Nat) (m : Mod) : PinsOnly (m.setLost (17 + d) true) (m.driversOff d) :=
  (PinsOnly.each (List.range 128) (Mod.pinOff d) _ fun _ _ => rfl).trans (.each _ _ _ fun _ _ => rfl)

theorem drive_driversOff (d : Nat) (m : Mod) (i : Nat) (hi : i < 128) :
    ((m.driversOff d).pin (128 * d + i)).drive = .off := by
  have hset : ∀ k x, ((Mod.pinOff d k x).pin (128 * d + k)).drive = Drive.off := by
    intro k x
    rw [Mod.pinOff, Mod.pin_setPin_self]
  have hpins : (m.driversOff d).pins = ((m.setLost (17 + d) true).each (List.range 128) (Mod.pinOff d)).pins := by
    unfold Mod.driversOff
    exact Mod.each_keeps _ (fun x => x.pins = ((m.setLost (17 + d) true).each (List.range 128) (Mod.pinOff d)).pins) _ _
      (fun _ _ _ hx => hx) rfl
  have hkeep : ∀ j k x, (x.pin (128 * d + j)).drive = Drive.off → ((Mod.pinOff d k x).pin (128 * d + j)).drive = Drive.off := by
    intro j k x hx
    by_cases he : j = k
    · rw [he]; exact hset k x
    · rw [Mod.pinOff, Mod.pin, Mod.setPin, SMap.get_set_ne _ _ _ _ _ (by omega)]
      exact hx
  have hoff := Mod.each_sets (fun k x => (x.pin (128 * d + k)).drive = Drive.off) (List.range 128) (Mod.pinOff d) hset hkeep
    (m.setLost (17 + d) true) i (List.mem_range.mpr hi)
  rw [Mod.pin, hpins]
  exact hoff

/-- What a pin die's loss ends of its work. -/
theorem kept_pinDieLost (d : Nat) (m : Mod) (hd : d < 2) : Kept (· < 0x100000)
    (((m.setLost (1 + d) true).wr Reg.GLB_DIE_STATUS (upBit (1 + d)) 0).driversOff d) (m.pinDieLost d) := by
  have hlq (q : Nat) : ¬ lqReg q < 0x100000 := by have := lqReg_above q; omega
  have htdc (u : Nat) : ¬ Reg.TDC_STATUS u < 0x100000 := by unfold Reg.TDC_STATUS; omega
  have hup : (if d = 0 then Fields.GLB_DIE_STATUS.P0_UP else Fields.GLB_DIE_STATUS.P1_UP) = upBit (1 + d) := by
    obtain rfl | rfl : d = 0 ∨ d = 1 := by omega
    · rfl
    · rfl
  unfold Mod.pinDieLost
  rw [hup]
  exact (((Kept.each _ _ _ fun n _ x => kept_portLost _ n d x).trans
    (.each _ _ _ fun i _ x => kept_lqLost _ _ x (hlq _))).trans
    (.each _ _ _ fun i _ x => kept_measLost _ _ _ x)).trans
    (.each _ _ _ fun i _ x => kept_tdcDrop _ _ x (htdc _))

/-- The drivers of pin die `d` are disconnected. -/
structure PinsOff (d : Nat) (m : Mod) : Prop where
  drivers : m.isLost (17 + d) = true
  pins : ∀ i < 128, (m.pin (128 * d + i)).drive = Drive.off

theorem pinsOff_pinDieLost (d : Nat) (m : Mod) (hd : d < 2) : PinsOff d (m.pinDieLost d) := by
  have k := kept_pinDieLost d m hd
  refine ⟨?_, fun i hi => ?_⟩
  · rw [Mod.isLost, k.sys, pinsOnly_driversOff]
    exact Mod.isLost_setLost_self _ _ _
  · rw [Mod.pin, k.pins]
    exact drive_driversOff d _ i hi

theorem takenOut_pinDieLost (d : Nat) (m : Mod) (hd : d < 2) : TakenOut (1 + d) m (m.pinDieLost d) := by
  refine TakenOut.kept ?_ (kept_pinDieLost d m hd)
  have h := takenOut_mark (1 + d) m (by omega)
  have hlost := (Mod.isLost_setLost_ne _ (17 + d) (1 + d) true (by omega)).trans h.lost
  rw [pinsOnly_driversOff]
  exact { h with lost := hlost }

theorem Kept.takenOut {d : Nat} {a b c : Mod} (k : Kept (· < 0x100000) a b) (h : TakenOut d b c) : TakenOut d a c where
  gddr := h.gddr.trans k.gddr
  sram := h.sram.trans k.sram
  lost := h.lost
  up := h.up
  tripped := by rw [h.tripped, k.sys]
  leftOff := by rw [h.leftOff, k.sys]
  hgnd := h.hgnd.trans k.hgnd
  regs := fun o ho hg hn => (h.regs o ho hg hn).trans (k.regs o ho hn)

/-- What only posts keeps every register that posting does not write. -/
theorem OnlyPosts.kept {but : List Nat} {P : Nat → Prop} {a b : Mod} (h : OnlyPosts but a b) (hb : ∀ o ∈ but, ¬ P o)
    (hp : ∀ o, P o → postWord o = false) (hn : Reg.PWR_HV_MON ∉ but) : Kept P a b where
  gddr := by rw [h.1]
  sram := by rw [h.1]
  sys := by rw [h.1]
  pins := by rw [h.1]
  hgnd := by rw [Mod.rd, h.2 _ hn (by decide), Mod.rd]
  regs := fun o ho _ => h.2 o (fun hm => hb o hm ho) (hp o ho)

/-- Where posting does not write: below the faults block and apart from the pending bits. -/
theorem postWord_elsewhere {o : Nat} (h : o < 0xF00000) (hp : o < 0x111000 ∨ 0x112000 ≤ o) : postWord o = false := by
  simp only [postWord, Bool.or_eq_false_iff, Bool.and_eq_false_iff, decide_eq_false_iff_not]
  omega

theorem postWord_below {o : Nat} (h : o < 0x100000) : postWord o = false := postWord_elsewhere (by omega) (by omega)

/-! ### GDDR7 devices -/

theorem onlyPosts_drcEvent (c addr : Nat) (f : Fld) (m : Mod) : OnlyPosts [Reg.DRC_EVENT] m (m.drcEvent c addr f) := by
  have hw (p : Bool) : OnlyPosts [Reg.DRC_EVENT] m (m.when p (Mod.wr Reg.DRC_EVENT Fields.DRC_EVENT.ERR_CH c)) :=
    onlyPosts_when _ _ _ _ (OnlyPosts.wr m _ _ _ (.inl List.mem_cons_self))
  unfold Mod.drcEvent
  dsimp only
  split
  · exact (hw _).trans (onlyPosts_mark _ _ _)
  · exact (hw _).trans (onlyPosts_raise _ _ _ _ _ _ _ _)

/-- A channel is precharged and OFFLINE. -/
def Mod.channelOff (c : Nat) (m : Mod) : Mod := (m.prechargeAll c).setChState c 7

theorem prechargeAll_eq (c : Nat) (m : Mod) : ∃ x, m.prechargeAll c = m.setDrc x := by
  refine Mod.each_keeps m (fun y => ∃ x, y = m.setDrc x) _ _ ?_ ⟨m.drc, rfl⟩
  rintro b - _ ⟨x, rfl⟩
  exact ⟨{ x with rows := SMap.set (fun _ => none) x.rows (16 * c + b) none }, rfl⟩

theorem kept_channelOff (c : Nat) (m : Mod) : Kept (· < 0x100000) m (m.channelOff c) := by
  obtain ⟨x, hx⟩ := prechargeAll_eq c m
  have hs : Kept (· < 0x100000) m (m.setDrc x) := .same rfl rfl rfl rfl rfl
  have hr : 0x100000 ≤ Reg.DRC_CH_STATUS c := by unfold Reg.DRC_CH_STATUS; omega
  unfold Mod.channelOff
  rw [hx]
  exact hs.trans (.wr _ _ _ _ (by omega) (by unfold Reg.PWR_HV_MON; omega))

theorem outs_channelOff (c : Nat) (m : Mod) : (m.channelOff c).outs = m.outs := by
  obtain ⟨x, hx⟩ := prechargeAll_eq c m
  rw [Mod.channelOff, hx]
  rfl

theorem chState_channelOff (c : Nat) (m : Mod) : (m.channelOff c).chState c = 7 := Mod.rd_wr_self _ _ _ _ (by decide)

theorem chState_channelOff_keeps (c e : Nat) (m : Mod) (h : m.chState e = 7) : (m.channelOff c).chState e = 7 := by
  by_cases he : e = c
  · rw [he]; exact chState_channelOff c m
  · obtain ⟨x, hx⟩ := prechargeAll_eq c m
    rw [Mod.channelOff, hx, Mod.chState, Mod.setChState, Mod.rd_wr_ne _ _ _ _ _ _ (by unfold Reg.DRC_CH_STATUS; omega)]
    exact h

/-- The four channels of device `k` go off. -/
def Mod.channelsOff (k : Nat) (m : Mod) : Mod := m.each (List.range 4) (fun i s => s.channelOff (4 * k + i))

theorem kept_channelsOff (k : Nat) (m : Mod) : Kept (· < 0x100000) m (m.channelsOff k) := by
  unfold Mod.channelsOff
  exact .each _ _ _ fun _ _ y => kept_channelOff _ y

theorem outs_channelsOff (k : Nat) (m : Mod) : (m.channelsOff k).outs = m.outs := by
  unfold Mod.channelsOff
  exact Mod.each_keeps m (fun y => y.outs = m.outs) (List.range 4) _ (fun i _ y hy => (outs_channelOff _ y).trans hy) rfl

theorem chState_channelsOff (k : Nat) (m : Mod) (i : Nat) (hi : i < 4) : (m.channelsOff k).chState (4 * k + i) = 7 := by
  unfold Mod.channelsOff
  exact Mod.each_sets (fun j y => y.chState (4 * k + j) = 7) (List.range 4) _ (fun j y => chState_channelOff _ y)
    (fun j _ y hy => chState_channelOff_keeps _ _ y hy) m i (List.mem_range.mpr hi)

/-- What a device that goes out of service leaves of the controllers' work. -/
def Drc.without (k : Nat) (x : Drc) : Drc :=
  { x with waiting := x.waiting.filter (fun c => c / 4 != k), slots := x.slots.filter (fun c => c / 4 != k) }

theorem offlineDevice_eq (k : Nat) (m : Mod) : m.offlineDevice (4 * k) =
    ((((m.channelsOff k).setDrc ((m.channelsOff k).drc.without k)).wr Reg.GLB_DIE_STATUS (upBit (8 + k)) 0).setLost
      (8 + k) true).drcEvent (4 * k) 0 Fields.DRC_EVENT.CH_OFFLINE := by
  have hk : 4 * k / 4 = k := by omega
  have hu : upBit (8 + k) = ⟨8 + k, 1⟩ := by simp only [upBit, show ¬ 8 + k < 4 by omega, if_false]
  have hc : m.each (List.range 4) (fun i s => (s.prechargeAll (4 * k + i)).setChState (4 * k + i) 7) = m.channelsOff k := rfl
  unfold Mod.offlineDevice
  dsimp only
  rw [hk, hu, hc]
  generalize m.channelsOff k = x
  exact congrArg (Mod.drcEvent (4 * k) 0 Fields.DRC_EVENT.CH_OFFLINE) rfl

/-- The mark and the bit of a die are set in either order. -/
theorem setLost_wr (d off : Nat) (f : Fld) (v : Nat) (m : Mod) :
    (m.wr off f v).setLost d true = (m.setLost d true).wr off f v := rfl

/-- A device whose channels are off in `x` is taken out. -/
theorem takenOut_device (k : Nat) (m x : Mod) (y : Drc) (hk : k < 8) (hc : Kept (· < 0x100000) m x) :
    TakenOut (8 + k) m (((x.setDrc y).wr Reg.GLB_DIE_STATUS (upBit (8 + k)) 0).setLost (8 + k) true) := by
  have hd : Kept (· < 0x100000) x (x.setDrc y) := .same rfl rfl rfl rfl rfl
  rw [setLost_wr]
  exact (hc.trans hd).takenOut (takenOut_mark (8 + k) _ (by omega))

theorem takenOut_offlineDevice (k : Nat) (m : Mod) (hk : k < 8) : TakenOut (8 + k) m (m.offlineDevice (4 * k)) := by
  rw [offlineDevice_eq]
  exact (takenOut_device k m _ _ hk (kept_channelsOff k m)).kept
    ((onlyPosts_drcEvent _ _ _ _).kept (by simp [Reg.DRC_EVENT]) (fun o ho => postWord_below ho) (by decide))

theorem outs_offlineDevice (k : Nat) (m : Mod) : (m.offlineDevice (4 * k)).outs = m.outs := by
  have hx (x : Mod) (y : Drc) (f : Fld) (n : Nat) :
      (((x.setDrc y).wr Reg.GLB_DIE_STATUS f 0).setLost n true).outs = x.outs := rfl
  rw [offlineDevice_eq, (onlyPosts_drcEvent _ _ _ _).outs, hx]
  exact outs_channelsOff k m

theorem chState_offlineDevice (k : Nat) (m : Mod) (i : Nat) (hi : i < 4) (hk : k < 8) :
    (m.offlineDevice (4 * k)).chState (4 * k + i) = 7 := by
  have hevent : Reg.DRC_CH_STATUS (4 * k + i) ∉ [Reg.DRC_EVENT] := by
    rw [List.mem_singleton]; unfold Reg.DRC_CH_STATUS Reg.DRC_EVENT; omega
  have hbit : Reg.DRC_CH_STATUS (4 * k + i) ≠ Reg.GLB_DIE_STATUS := by
    unfold Reg.DRC_CH_STATUS Reg.GLB_DIE_STATUS; omega
  have hpost : postWord (Reg.DRC_CH_STATUS (4 * k + i)) = false :=
    postWord_elsewhere (by unfold Reg.DRC_CH_STATUS; omega) (by unfold Reg.DRC_CH_STATUS; omega)
  have hx (x : Mod) (y : Drc) (f : Fld) (n : Nat) : (((x.setDrc y).wr Reg.GLB_DIE_STATUS f 0).setLost n true).reg
      (Reg.DRC_CH_STATUS (4 * k + i)) = x.reg (Reg.DRC_CH_STATUS (4 * k + i)) := Mod.reg_wr_ne _ _ _ _ _ hbit
  rw [offlineDevice_eq, Mod.chState, Mod.rd, (onlyPosts_drcEvent _ _ _ _).2 _ hevent hpost, hx]
  exact chState_channelsOff k m i hi

/-- The dies and devices that a supply event can take: the pin dies, H0 and the GDDR7 devices (Table 1.7). -/
theorem takenOut_dieLost (d : Nat) (m : Mod) (hd : d ∈ [1, 2, 3, 8, 9, 10, 11, 12, 13, 14, 15]) :
    TakenOut d m (m.dieLost d) := by
  simp only [List.mem_cons, List.not_mem_nil, or_false] at hd
  obtain rfl | rfl | rfl | rfl | rfl | rfl | rfl | rfl | rfl | rfl | rfl := hd
  · exact takenOut_pinDieLost 0 m (by decide)
  · exact takenOut_pinDieLost 1 m (by decide)
  · exact takenOut_h0Lost m
  · exact takenOut_offlineDevice 0 m (by decide)
  · exact takenOut_offlineDevice 1 m (by decide)
  · exact takenOut_offlineDevice 2 m (by decide)
  · exact takenOut_offlineDevice 3 m (by decide)
  · exact takenOut_offlineDevice 4 m (by decide)
  · exact takenOut_offlineDevice 5 m (by decide)
  · exact takenOut_offlineDevice 6 m (by decide)
  · exact takenOut_offlineDevice 7 m (by decide)

end Sys2Proof.Machine
end

section
/-!
PROOF. Supply events that take a die, and the silence of H0 (R101, R267): O13.
-/

namespace Sys2Proof.Machine

/-! ### A supply event that takes a die -/

/-- A bit of PWR_EVENT stands after its event (R101). -/
theorem flag_pwrEvent (c : Nat) (f : Fld) (m : Mod) (hf : f.lo < 32) (hw : f.width = 1) :
    (m.pwrEvent c f).flag Reg.PWR_EVENT f = true := by
  unfold Mod.pwrEvent
  split
  · assumption
  · have hd := (onlyPosts_dueAt Reg.HOST_EVT_VEC0 Fields.HOST_EVT_VEC0.PWR_VEC
      (m.raise c srcPWR 0 noSite 0 Reg.PWR_EVENT f) (by decide)).2 Reg.PWR_EVENT List.not_mem_nil (by decide)
    rw [Mod.flag, Mod.rd, hd]
    exact flag_raise _ _ _ _ _ _ _ _ hf hw (by decide) (by decide)

/-- The dies and devices that a supply event can take (Table 1.7). -/
def supplyDies : List Nat := [1, 2, 3, 8, 9, 10, 11, 12, 13, 14, 15]

/-- Event `e` has taken die `d` of `a` out of service in `t`: the event stands, the die is lost and its bit clear, and the
other registers of chip and supplies, trips and start order stay. -/
structure DieTaken (d : Nat) (e : Fld) (a t : Mod) : Prop where
  memory : SameMemory a t
  event : t.flag Reg.PWR_EVENT e = true
  lost : t.isLost d = true
  up : t.flag Reg.GLB_DIE_STATUS (upBit d) = false
  tripped : t.sys.tripped = a.sys.tripped
  leftOff : t.sys.leftOff = a.sys.leftOff
  hgnd : t.rd Reg.PWR_HV_MON Fields.PWR_HV_MON.HGND_OFS = a.rd Reg.PWR_HV_MON Fields.PWR_HV_MON.HGND_OFS
  regs : ∀ o < 0x100000, o ∉ [Reg.PWR_EVENT, Reg.GLB_DIE_STATUS, Reg.PWR_HV_MON] → t.reg o = a.reg o

/-- The event is raised, and the die is lost. -/
theorem dieTaken_of_event (d c : Nat) (e : Fld) (m : Mod) (he : e.lo < 32) (hw : e.width = 1) (hd : d ∈ supplyDies) :
    DieTaken d e m ((m.pwrEvent c e).dieLost d) := by
  have k := onlyPosts_pwrEvent c e m
  have h := takenOut_dieLost d (m.pwrEvent c e) hd
  have hmon : (m.pwrEvent c e).reg Reg.PWR_HV_MON = m.reg Reg.PWR_HV_MON := k.2 _ (by decide) (by decide)
  have hsys : (m.pwrEvent c e).sys = m.sys := by rw [k.1]
  refine ⟨k.memory.trans (.of_eq h.gddr h.sram), ?_, h.lost, h.up, by rw [h.tripped, hsys], by rw [h.leftOff, hsys], ?_, ?_⟩
  · rw [Mod.flag, Mod.rd, h.regs _ (by decide) (by decide) (by decide)]
    exact flag_pwrEvent c e m he hw
  · rw [h.hgnd, Mod.rd, hmon, Mod.rd]
  · intro o ho hn
    simp only [List.mem_cons, List.not_mem_nil, or_false, not_or] at hn
    obtain ⟨hevent, hup, hhv⟩ := hn
    rw [h.regs o ho hup hhv, k.2 o (by simpa using hevent) (postWord_below ho)]

/-- The same where an earlier write of a register of the supplies goes before. -/
theorem DieTaken.rd {d : Nat} {e : Fld} {a t : Mod} (h : DieTaken d e a t) {o : Nat} (f : Fld) (ho : o < 0x100000)
    (hn : o ∉ [Reg.PWR_EVENT, Reg.GLB_DIE_STATUS, Reg.PWR_HV_MON]) : t.rd o f = a.rd o f := by
  rw [Mod.rd, h.regs o ho hn, Mod.rd]

theorem DieTaken.flag {d : Nat} {e : Fld} {a t : Mod} (h : DieTaken d e a t) {o : Nat} (f : Fld) (ho : o < 0x100000)
    (hn : o ∉ [Reg.PWR_EVENT, Reg.GLB_DIE_STATUS, Reg.PWR_HV_MON]) : t.flag o f = a.flag o f := by
  rw [Mod.flag, h.rd f ho hn, Mod.flag]

/-! ### HV inputs, HGND and the silence of H0 -/

/-- H0 lost without an event of the supplies (R267). -/
theorem answers_h0Silence (s : State) (us : Nat) (hus : 2000 ≤ us) (hl : s.m.isLost 3 = false) :
    Answers (.h0Silence us) s (fun t => t.isLost 3 = true ∧
      t.flag Reg.GLB_DIE_STATUS Fields.GLB_DIE_STATUS.H0_UP = false ∧
      (∀ h : Nat, h < 32 → t.flag (Reg.HV_CTRL h) Fields.HV_CTRL.EN = false) ∧ t.reg Reg.RLY_STATE_LO = 0#32 ∧
      t.reg Reg.RLY_STATE_HI = 0#32 ∧ SameMemory s.m t) := by
  have ht : s.m.h0Silence us = s.m.h0Lost := by
    simp only [Mod.h0Silence, hl, show ¬ us < 2000 by omega, Bool.false_eq_true, or_self, if_false]
  have h := takenOut_h0Lost s.m
  have hv := hvOff_h0Lost s.m
  generalize s.m.h0Lost = t at ht h hv
  exact answers_always rfl rfl ht ⟨h.lost, h.up, hv.channels, hv.relaysLo, hv.relaysHi, .of_eq h.gddr h.sram⟩

/-- A shorter silence leaves the module as it was. -/
theorem answers_h0Silence_short (s : State) (us : Nat) (hus : us < 2000) :
    Answers (.h0Silence us) s (fun t => t.regs = s.m.regs ∧ t.sys = s.m.sys ∧ SameMemory s.m t ∧ t.outs = s.m.outs) := by
  have ht : s.m.h0Silence us = s.m := by simp only [Mod.h0Silence, hus, true_or, if_true]
  exact answers_always rfl rfl ht ⟨rfl, rfl, .refl _, rfl⟩

/-- Settles O13: the loss of H0 does not depend on the work it runs. -/
theorem h0Silence : Obligations.H0Silence :=
  ⟨fun s us hus hl _ _ _ _ _ _ => answers_h0Silence s us hus hl, answers_h0Silence_short⟩

end Sys2Proof.Machine
end

section
/-!
PROOF. Supplies, rails, trips and units that fail to start (R39 to R46, R53): O12.
-/

namespace Sys2Proof.Machine

/-! ### Fields of dies and devices -/

theorem upBit_pinDie {d : Nat} (h : d < 2) : upBit (1 + d) = ⟨d, 1⟩ := by
  simp only [upBit, show 1 + d < 4 by omega, if_true, Nat.add_sub_cancel_left]

theorem upBit_device {d : Nat} (h : 4 ≤ d) : upBit d = ⟨d, 1⟩ := by
  simp only [upBit, show ¬ d < 4 by omega, if_false]

theorem railsOk_device {d : Nat} (h : 8 ≤ d) : railsOk d = ⟨d + 1, 1⟩ := by
  obtain ⟨k, rfl⟩ : ∃ k, d = k + 8 := ⟨d - 8, by omega⟩
  show (⟨9 + (k + 8 - 8), 1⟩ : Fld) = _
  rw [show 9 + (k + 8 - 8) = k + 8 + 1 by omega]

/-- The bits of PWR_STATUS for rails lie below START_DONE (Table 2.11). -/
theorem railsOk_below : ∀ d ∈ 0 :: supplyDies, (railsOk d).lo + (railsOk d).width ≤ 20 := by decide

theorem supplyDies_pinDie {d : Nat} (h : d < 2) : 1 + d ∈ supplyDies := by simp [supplyDies]; omega

theorem supplyDies_device {d : Nat} (h : 8 ≤ d) (h' : d < 16) : d ∈ supplyDies := by simp [supplyDies]; omega

theorem ne_zero_of_supplyDies {d : Nat} (h : d ∈ supplyDies) : d ≠ 0 := by rintro rfl; exact absurd h (by decide)

/-! ### HV inputs and HGND -/

/-- An HV-side input is out of its window; H0's rails go with VHL (R39). -/
def Mod.inputOut (i : Nat) (m : Mod) : Mod :=
  (m.wr Reg.PWR_STATUS (hvInput i) 0).when (i == 2) (Mod.wr Reg.PWR_STATUS Fields.PWR_STATUS.H0_RAILS_OK 0)

theorem inputOut_frame (i : Nat) (m : Mod) :
    (m.inputOut i).gddr = m.gddr ∧ (m.inputOut i).sram = m.sram ∧ (m.inputOut i).sys = m.sys := by
  unfold Mod.inputOut
  cases i == 2 <;> exact ⟨rfl, rfl, rfl⟩

theorem flag_inputOut (i : Nat) (m : Mod) (hi : i < 3) : (m.inputOut i).flag Reg.PWR_STATUS ⟨2 + i, 1⟩ = false := by
  have h0 : (m.wr Reg.PWR_STATUS (hvInput i) 0).flag Reg.PWR_STATUS (hvInput i) = false :=
    Mod.flag_wr_zero m _ _ (by unfold hvInput; dsimp only; omega)
  unfold Mod.inputOut
  cases i == 2
  · exact h0
  · rw [Mod.when_true, Mod.flag, Mod.rd_wr_field _ _ _ _ _ (.inl (by
      unfold Fields.PWR_STATUS.H0_RAILS_OK; dsimp only; omega))]
    exact h0

theorem answers_hvSupply (s : State) (i us : Nat) (hi : i < 3) (hus : 20 < us) (hl : s.m.isLost 3 = false) :
    Answers (.hvSupply i us) s (fun t => t.flag Reg.PWR_STATUS ⟨2 + i, 1⟩ = false ∧
      t.flag Reg.PWR_EVENT Fields.PWR_EVENT.HV_SUPPLY = true ∧ t.isLost 3 = true ∧
      t.flag Reg.GLB_DIE_STATUS Fields.GLB_DIE_STATUS.H0_UP = false ∧
      (∀ h : Nat, h < 32 → t.flag (Reg.HV_CTRL h) Fields.HV_CTRL.EN = false) ∧ t.reg Reg.RLY_STATE_LO = 0#32 ∧
      t.reg Reg.RLY_STATE_HI = 0#32 ∧ SameMemory s.m t) := by
  obtain ⟨hg, hs, hy⟩ := inputOut_frame i s.m
  have hl' : (s.m.inputOut i).isLost 3 = false := by rw [Mod.isLost, hy]; exact hl
  have ht : s.m.hvSupply i us = ((s.m.inputOut i).pwrEvent 3 Fields.PWR_EVENT.HV_SUPPLY).h0Lost := by
    have hif : s.m.hvSupply i us = ((s.m.inputOut i).pwrEvent 3 Fields.PWR_EVENT.HV_SUPPLY).when
        (!(s.m.inputOut i).isLost 3) Mod.h0Lost := by
      rw [Mod.hvSupply, if_neg (by omega)]
      rfl
    rw [hif, hl', Bool.not_false, Mod.when_true]
  have h : DieTaken 3 _ _ ((s.m.inputOut i).pwrEvent 3 Fields.PWR_EVENT.HV_SUPPLY).h0Lost :=
    dieTaken_of_event 3 3 _ (s.m.inputOut i) (by decide) rfl (by decide)
  have hv := hvOff_h0Lost ((s.m.inputOut i).pwrEvent 3 Fields.PWR_EVENT.HV_SUPPLY)
  generalize ((s.m.inputOut i).pwrEvent 3 Fields.PWR_EVENT.HV_SUPPLY).h0Lost = t at ht h hv
  exact answers_always rfl (by simpa [Wf.hvSupply] using hi) ht
    ⟨(h.flag _ (by decide) (by decide)).trans (flag_inputOut i s.m hi), h.event, h.lost, h.up, hv.channels, hv.relaysLo,
      hv.relaysHi, (SameMemory.of_eq hg hs).trans h.memory⟩

/-- Two's complement on 12 bits. -/
theorem unsign_lt (i : Int) : unsign 12 i < 4096 := by unfold unsign; omega

/-- A reading of the HGND monitor is stored. -/
theorem rd_hgnd (m : Mod) (x : Int) : (m.wr Reg.PWR_HV_MON Fields.PWR_HV_MON.HGND_OFS (unsign 12 x)).rd Reg.PWR_HV_MON
    Fields.PWR_HV_MON.HGND_OFS = unsign 12 x :=
  (Mod.rd_wr_self m _ _ _ (by decide)).trans (Nat.mod_eq_of_lt (unsign_lt x))

theorem answers_hgndRange (s : State) (ofs : Int) (us : Nat) (hw : ofs.natAbs < 2048) (ho : 1050 < ofs.natAbs)
    (hus : 1000 ≤ us) (hl : s.m.isLost 3 = false) :
    Answers (.hgndRange ofs us) s (fun t => t.rd Reg.PWR_HV_MON Fields.PWR_HV_MON.HGND_OFS = unsign 12 ofs ∧
      t.flag Reg.PWR_EVENT Fields.PWR_EVENT.HGND_RANGE = true ∧ t.isLost 3 = true ∧
      t.flag Reg.GLB_DIE_STATUS Fields.GLB_DIE_STATUS.H0_UP = false ∧
      (∀ h : Nat, h < 32 → t.flag (Reg.HV_CTRL h) Fields.HV_CTRL.EN = false) ∧ t.reg Reg.RLY_STATE_LO = 0#32 ∧
      t.reg Reg.RLY_STATE_HI = 0#32 ∧ SameMemory s.m t) := by
  have hofs := rd_hgnd s.m ofs
  have hmem : SameMemory s.m (s.m.wr Reg.PWR_HV_MON Fields.PWR_HV_MON.HGND_OFS (unsign 12 ofs)) := .of_eq rfl rfl
  have ht : s.m.hgndRange ofs us = ((s.m.wr Reg.PWR_HV_MON Fields.PWR_HV_MON.HGND_OFS (unsign 12 ofs)).pwrEvent 3
      Fields.PWR_EVENT.HGND_RANGE).when (!s.m.isLost 3) Mod.h0Lost := by
    rw [Mod.hgndRange, if_neg (by omega)]
    rfl
  rw [hl, Bool.not_false, Mod.when_true] at ht
  generalize s.m.wr Reg.PWR_HV_MON Fields.PWR_HV_MON.HGND_OFS (unsign 12 ofs) = x at ht hofs hmem
  have h : DieTaken 3 _ _ (x.pwrEvent 3 Fields.PWR_EVENT.HGND_RANGE).h0Lost :=
    dieTaken_of_event 3 3 _ x (by decide) rfl (by decide)
  have hv := hvOff_h0Lost (x.pwrEvent 3 Fields.PWR_EVENT.HGND_RANGE)
  generalize (x.pwrEvent 3 Fields.PWR_EVENT.HGND_RANGE).h0Lost = t at ht h hv
  exact answers_always rfl (by simpa [Wf.hgndRange] using hw) ht
    ⟨h.hgnd.trans hofs, h.event, h.lost, h.up, hv.channels, hv.relaysLo, hv.relaysHi, hmem.trans h.memory⟩

/-! ### Rails (R43) -/

/-- The rails of die `d` leave their window: the bit of PWR_STATUS falls and the event is raised. -/
def Mod.railsOut (d : Nat) (e : Fld) (m : Mod) : Mod := (m.wr Reg.PWR_STATUS (railsOk d) 0).pwrEvent 3 e

/-- The die of rails that are out goes out of service. -/
theorem dieTaken_rails (d : Nat) (e : Fld) (m : Mod) (he : e.lo < 32) (hw : e.width = 1) (hd : d ∈ supplyDies) :
    DieTaken d e (m.wr Reg.PWR_STATUS (railsOk d) 0) ((m.railsOut d e).dieLost d) :=
  dieTaken_of_event d 3 e _ he hw hd

theorem DieTaken.rails {d : Nat} {e : Fld} {m t : Mod} (h : DieTaken d e (m.wr Reg.PWR_STATUS (railsOk d) 0) t)
    (hd : d ∈ supplyDies) : t.flag Reg.PWR_STATUS (railsOk d) = false := by
  have hb := railsOk_below d (List.mem_cons_of_mem _ hd)
  exact (h.flag _ (by decide) (by decide)).trans (Mod.flag_wr_zero m _ _ (by omega))

theorem Mod.railFault_eq (m : Mod) (r us d : Nat) (hus : 10 < us) (hr : railDie r = d) (hd : d ∈ supplyDies)
    (hl : m.isLost d = false) : m.railFault r us = (m.railsOut d Fields.PWR_EVENT.RAIL_FAULT).dieLost d := by
  have hif : m.railFault r us = (m.railsOut d Fields.PWR_EVENT.RAIL_FAULT).when (!m.isLost d) (Mod.dieLost d) := by
    rw [Mod.railFault, hr, if_neg (by omega), if_neg (ne_zero_of_supplyDies hd)]
    rfl
  rw [hif, hl, Bool.not_false, Mod.when_true]

theorem railDie_device {r : Nat} (h : 3 ≤ r) (h' : r < 11) : railDie r = 5 + r := by
  rw [railDie, if_neg (by omega), if_pos h']; omega

theorem railDie_pinDie {r : Nat} (h : 11 ≤ r) (h' : r < 19) : railDie r = 1 + (r + 1) % 2 := by
  rw [railDie, if_neg (by omega), if_neg (by omega), if_pos h']

theorem outs_railsOut (d : Nat) (e : Fld) (m : Mod) : (m.railsOut d e).outs = m.outs :=
  (onlyPosts_pwrEvent 3 e (m.wr Reg.PWR_STATUS (railsOk d) 0)).outs

/-- A lost device says nothing to the outside, and its channels are OFFLINE. -/
theorem outs_dieLost_device (k : Nat) (m : Mod) : (m.dieLost (8 + k)).outs = m.outs := by
  rw [Nat.add_comm]
  show (m.offlineDevice (4 * (k + 8 - 8))).outs = m.outs
  rw [Nat.add_sub_cancel]
  exact outs_offlineDevice k m

theorem chState_dieLost_device (k : Nat) (m : Mod) (hk : k < 8) (i : Nat) (hi : i < 4) :
    (m.dieLost (8 + k)).chState (4 * k + i) = 7 := by
  rw [Nat.add_comm 8]
  show (m.offlineDevice (4 * (k + 8 - 8))).chState _ = 7
  rw [Nat.add_sub_cancel]
  exact chState_offlineDevice k m i hi hk

theorem pinsOff_dieLost (d : Nat) (m : Mod) (hd : d < 2) : PinsOff d (m.dieLost (1 + d)) := by
  obtain rfl | rfl : d = 0 ∨ d = 1 := by omega
  · exact pinsOff_pinDieLost 0 m hd
  · exact pinsOff_pinDieLost 1 m hd

theorem answers_railFault_device (s : State) (r us : Nat) (h3 : 3 ≤ r) (h11 : r < 11) (hus : 10 < us)
    (hl : s.m.isLost (5 + r) = false) :
    Answers (.railFault r us) s (fun t => t.flag Reg.PWR_STATUS ⟨6 + r, 1⟩ = false ∧
      t.flag Reg.PWR_EVENT Fields.PWR_EVENT.RAIL_FAULT = true ∧ t.isLost (5 + r) = true ∧
      t.flag Reg.GLB_DIE_STATUS ⟨5 + r, 1⟩ = false ∧ (∀ k : Nat, k < 4 → t.chState (4 * (r - 3) + k) = 7) ∧
      t.outs = s.m.outs ∧ SameMemory s.m t) := by
  have hd : 5 + r ∈ supplyDies := supplyDies_device (by omega) (by omega)
  have ht := s.m.railFault_eq r us _ hus (railDie_device h3 h11) hd hl
  have h := dieTaken_rails (5 + r) Fields.PWR_EVENT.RAIL_FAULT s.m (by decide) rfl hd
  have hr := h.rails hd
  have hu := h.up
  have ho := (outs_dieLost_device (r - 3) (s.m.railsOut (5 + r) Fields.PWR_EVENT.RAIL_FAULT)).trans (outs_railsOut _ _ s.m)
  have hc := chState_dieLost_device (r - 3) (s.m.railsOut (5 + r) Fields.PWR_EVENT.RAIL_FAULT) (by omega)
  rw [show 8 + (r - 3) = 5 + r by omega] at ho hc
  rw [railsOk_device (by omega), show 5 + r + 1 = 6 + r by omega] at hr
  rw [upBit_device (by omega)] at hu
  generalize (s.m.railsOut (5 + r) Fields.PWR_EVENT.RAIL_FAULT).dieLost (5 + r) = t at *
  exact answers_always rfl (by simp [Wf.railFault]; omega) ht
    ⟨hr, h.event, h.lost, hu, hc, ho, (SameMemory.of_eq rfl rfl).trans h.memory⟩

theorem answers_railFault_pinDie (s : State) (r us d : Nat) (h11 : 11 ≤ r) (h19 : r < 19) (hus : 10 < us)
    (hrd : d = (r + 1) % 2) (hl : s.m.isLost (1 + d) = false) :
    Answers (.railFault r us) s (fun t => t.flag Reg.PWR_STATUS (railsOk (1 + d)) = false ∧
      t.flag Reg.PWR_EVENT Fields.PWR_EVENT.RAIL_FAULT = true ∧ t.isLost (1 + d) = true ∧ t.isLost (17 + d) = true ∧
      t.flag Reg.GLB_DIE_STATUS ⟨d, 1⟩ = false ∧ (∀ i : Nat, i < 128 → (t.pin (128 * d + i)).drive = Drive.off) ∧
      SameMemory s.m t) := by
  have hd2 : d < 2 := by omega
  have hd : 1 + d ∈ supplyDies := supplyDies_pinDie hd2
  have ht := s.m.railFault_eq r us _ hus (hrd ▸ railDie_pinDie h11 h19) hd hl
  have h := dieTaken_rails (1 + d) Fields.PWR_EVENT.RAIL_FAULT s.m (by decide) rfl hd
  have hp := pinsOff_dieLost d (s.m.railsOut (1 + d) Fields.PWR_EVENT.RAIL_FAULT) hd2
  have hu := h.up
  rw [upBit_pinDie hd2] at hu
  generalize (s.m.railsOut (1 + d) Fields.PWR_EVENT.RAIL_FAULT).dieLost (1 + d) = t at *
  exact answers_always rfl (by simp [Wf.railFault]; omega) ht
    ⟨h.rails hd, h.event, h.lost, hp.drivers, hu, hp.pins, (SameMemory.of_eq rfl rfl).trans h.memory⟩

theorem answers_railFault_h0 (s : State) (r us : Nat) (_ : 19 ≤ r) (h22 : r < 22) (hus : 10 < us)
    (hl : s.m.isLost 3 = false) (hr : railDie r = 3) :
    Answers (.railFault r us) s (fun t => t.flag Reg.PWR_STATUS Fields.PWR_STATUS.H0_RAILS_OK = false ∧
      t.flag Reg.PWR_EVENT Fields.PWR_EVENT.RAIL_FAULT = true ∧ t.isLost 3 = true ∧
      t.flag Reg.GLB_DIE_STATUS Fields.GLB_DIE_STATUS.H0_UP = false ∧
      (∀ h : Nat, h < 32 → t.flag (Reg.HV_CTRL h) Fields.HV_CTRL.EN = false) ∧ SameMemory s.m t) := by
  have hd : 3 ∈ supplyDies := by decide
  have ht := s.m.railFault_eq r us _ hus hr hd hl
  have h := dieTaken_rails 3 Fields.PWR_EVENT.RAIL_FAULT s.m (by decide) rfl hd
  have hv : HvOff ((s.m.railsOut 3 Fields.PWR_EVENT.RAIL_FAULT).dieLost 3) := hvOff_h0Lost _
  generalize (s.m.railsOut 3 Fields.PWR_EVENT.RAIL_FAULT).dieLost 3 = t at *
  exact answers_always rfl (by simpa [Wf.railFault] using h22) ht
    ⟨h.rails hd, h.event, h.lost, h.up, hv.channels, (SameMemory.of_eq rfl rfl).trans h.memory⟩

/-! ### Trips (R46) -/

/-- A sensor of die `d` is at its trip point: the reading is stored, the event raised, and the trip held. -/
def Mod.tripHeld (k d : Nat) (x : Int) (m : Mod) : Mod :=
  let m1 := ((m.putTemp k x true).pwrEvent 3 (tripFld d)).wr Reg.PWR_STATUS Fields.PWR_STATUS.TRIP_ACTIVE 1
  { m1 with sys := { m1.sys with tripped := SMap.set badDefault m1.sys.tripped d true } }

/-- What a trip sets before its die goes: `a` is the module before, `t` after. -/
structure Tripped (k d : Nat) (x : Int) (a t : Mod) : Prop where
  memory : SameMemory a t
  temp : t.rd (Reg.PWR_TEMP k) Fields.PWR_TEMP.TEMP = unsign 12 x
  event : t.flag Reg.PWR_EVENT (tripFld d) = true
  active : t.flag Reg.PWR_STATUS Fields.PWR_STATUS.TRIP_ACTIVE = true
  held : SMap.get badDefault t.sys.tripped d = true

theorem rd_putTemp (k : Nat) (x : Int) (m : Mod) :
    (m.putTemp k x true).rd (Reg.PWR_TEMP k) Fields.PWR_TEMP.TEMP = unsign 12 x :=
  (Mod.rd_wr_field _ _ _ _ _ (by decide)).trans
    ((Mod.rd_wr_self m _ _ _ (by decide)).trans (Nat.mod_eq_of_lt (unsign_lt x)))

theorem tripFld_bit (d : Nat) : (tripFld d).lo < 32 ∧ (tripFld d).width = 1 := by
  unfold tripFld
  split <;> decide

theorem pwrTemp_apart {k : Nat} (h : k < 17) : Reg.PWR_TEMP k < 0x100000 ∧ Reg.PWR_TEMP k ≠ Reg.PWR_EVENT ∧
    Reg.PWR_TEMP k ≠ Reg.PWR_STATUS ∧ Reg.PWR_TEMP k ≠ Reg.GLB_DIE_STATUS ∧ Reg.PWR_TEMP k ≠ Reg.PWR_HV_MON := by
  unfold Reg.PWR_TEMP Reg.PWR_EVENT Reg.PWR_STATUS Reg.GLB_DIE_STATUS Reg.PWR_HV_MON
  omega

theorem tripped_tripHeld (k d : Nat) (x : Int) (m : Mod) (hk : k < 17) : Tripped k d x m (m.tripHeld k d x) := by
  obtain ⟨hlow, hev, hst, -, -⟩ := pwrTemp_apart hk
  obtain ⟨hlo, hw⟩ := tripFld_bit d
  have ho := onlyPosts_pwrEvent 3 (tripFld d) (m.putTemp k x true)
  refine ⟨SameMemory.trans (b := m.putTemp k x true) (.of_eq rfl rfl) ho.memory, ?_, ?_, Mod.flag_wr_one _ _ _ (by decide) rfl, ?_⟩
  · refine (Mod.rd_wr_ne _ _ _ _ _ _ hst).trans ?_
    rw [Mod.rd, ho.2 _ (by simpa using hev) (postWord_below hlow)]
    exact rd_putTemp k x m
  · have h := flag_pwrEvent 3 (tripFld d) (m.putTemp k x true) hlo hw
    rwa [Mod.flag, ← Mod.rd_wr_ne _ Reg.PWR_STATUS _ _ Fields.PWR_STATUS.TRIP_ACTIVE 1 (by decide)] at h
  · exact SMap.get_set_self badDefault _ d true

/-- The die goes out of service, and what the trip set stands. -/
theorem Tripped.taken {k d : Nat} {x : Int} {a b c : Mod} (h : Tripped k d x a b) (k' : TakenOut d b c) (hk : k < 17) :
    Tripped k d x a c := by
  obtain ⟨hlow, -, -, hgl, hmon⟩ := pwrTemp_apart hk
  refine ⟨h.memory.trans (.of_eq k'.gddr k'.sram), ?_, ?_, ?_, ?_⟩
  · rw [Mod.rd, k'.regs _ hlow hgl hmon]; exact h.temp
  · rw [Mod.flag, Mod.rd, k'.regs _ (by decide) (by decide) (by decide)]; exact h.event
  · rw [Mod.flag, Mod.rd, k'.regs _ (by decide) (by decide) (by decide)]; exact h.active
  · rw [k'.tripped]; exact h.held

theorem sys_pwrEvent (c : Nat) (f : Fld) (m : Mod) : (m.pwrEvent c f).sys = m.sys := by
  rw [(onlyPosts_pwrEvent c f m).1]

theorem outs_tripHeld (k d : Nat) (x : Int) (m : Mod) : (m.tripHeld k d x).outs = m.outs :=
  (onlyPosts_pwrEvent 3 (tripFld d) (m.putTemp k x true)).outs

theorem Mod.tripSensor_eq (m : Mod) (k d : Nat) (x : Int) (hd : sensorDie k = d) (hs : d ∈ supplyDies) (hx : sensorTrip k ≤ x)
    (hn : SMap.get badDefault m.sys.tripped d = false) (hl : m.isLost d = false) :
    m.tripSensor k x = (m.tripHeld k d x).dieLost d := by
  have hc : ¬ (x < sensorTrip k ∨ SMap.get badDefault (m.putTemp k x true).sys.tripped d = true) := by
    rw [not_or, show (m.putTemp k x true).sys = m.sys from rfl, hn]
    exact ⟨by omega, Bool.false_ne_true⟩
  have hif : m.tripSensor k x = (m.tripHeld k d x).when (!(m.tripHeld k d x).isLost d) (Mod.dieLost d) := by
    rw [Mod.tripSensor, hd, if_neg hc, if_neg (ne_zero_of_supplyDies hs)]
    rfl
  have hlost : (m.tripHeld k d x).isLost d = m.isLost d := by
    show SMap.get badDefault ((m.putTemp k x true).pwrEvent 3 (tripFld d)).sys.lost d = _
    rw [sys_pwrEvent]
    rfl
  rw [hif, hlost, hl, Bool.not_false, Mod.when_true]

/-- TRIP of a sensor whose die can go out of service and has not tripped (R46). -/
theorem trip_taken (m : Mod) (k d : Nat) (x : Int) (hk : k < 17) (hs : d ∈ supplyDies) :
    Tripped k d x m ((m.tripHeld k d x).dieLost d) ∧ TakenOut d (m.tripHeld k d x) ((m.tripHeld k d x).dieLost d) :=
  ⟨(tripped_tripHeld k d x m hk).taken (takenOut_dieLost d _ hs) hk, takenOut_dieLost d _ hs⟩

theorem answers_trip_pinDie (s : State) (k : Nat) (x : Int) (h4 : 4 ≤ k) (h8 : k < 8) (hx : 840 ≤ x) (hx' : x < 2048)
    (hn : SMap.get badDefault s.m.sys.tripped (k / 2 - 1) = false) (hl : s.m.isLost (k / 2 - 1) = false) :
    Answers (.trip k x) s (fun t => t.rd (Reg.PWR_TEMP k) Fields.PWR_TEMP.TEMP = unsign 12 x ∧
      t.flag Reg.PWR_EVENT (tripFld (k / 2 - 1)) = true ∧ t.flag Reg.PWR_STATUS Fields.PWR_STATUS.TRIP_ACTIVE = true ∧
      SMap.get badDefault t.sys.tripped (k / 2 - 1) = true ∧ t.isLost (k / 2 - 1) = true ∧
      t.flag Reg.GLB_DIE_STATUS ⟨k / 2 - 2, 1⟩ = false ∧ SameMemory s.m t) := by
  obtain ⟨d, hd2, hkd⟩ : ∃ d < 2, k / 2 - 1 = 1 + d := ⟨k / 2 - 2, by omega, by omega⟩
  have hdie : sensorDie k = 1 + d := by unfold sensorDie; split_ifs <;> omega
  have hpoint : sensorTrip k ≤ x := by rw [sensorTrip, if_pos (by omega)]; exact hx
  rw [hkd] at hn hl ⊢
  rw [show k / 2 - 2 = d by omega, ← upBit_pinDie hd2]
  have ht := s.m.tripSensor_eq k _ x hdie (supplyDies_pinDie hd2) hpoint hn hl
  obtain ⟨htrip, htaken⟩ := trip_taken s.m k (1 + d) x (by omega) (supplyDies_pinDie hd2)
  generalize (s.m.tripHeld k (1 + d) x).dieLost (1 + d) = t at *
  exact answers_always rfl (by simp [Wf.trip]; omega) ht
    ⟨htrip.temp, htrip.event, htrip.active, htrip.held, htaken.lost, htaken.up, htrip.memory⟩

theorem answers_trip_h0 (s : State) (x : Int) (hx : 840 ≤ x) (hx' : x < 2048)
    (hn : SMap.get badDefault s.m.sys.tripped 3 = false) (hl : s.m.isLost 3 = false) :
    Answers (.trip 8 x) s (fun t => t.rd (Reg.PWR_TEMP 8) Fields.PWR_TEMP.TEMP = unsign 12 x ∧
      t.flag Reg.PWR_EVENT Fields.PWR_EVENT.TRIP_H0 = true ∧ t.flag Reg.PWR_STATUS Fields.PWR_STATUS.TRIP_ACTIVE = true ∧
      SMap.get badDefault t.sys.tripped 3 = true ∧ t.isLost 3 = true ∧
      t.flag Reg.GLB_DIE_STATUS Fields.GLB_DIE_STATUS.H0_UP = false ∧ t.reg Reg.RLY_STATE_LO = 0#32 ∧ SameMemory s.m t) := by
  have ht := s.m.tripSensor_eq 8 3 x rfl (by decide) hx hn hl
  obtain ⟨htrip, htaken⟩ := trip_taken s.m 8 3 x (by decide) (by decide)
  have hv : HvOff ((s.m.tripHeld 8 3 x).dieLost 3) := hvOff_h0Lost _
  generalize (s.m.tripHeld 8 3 x).dieLost 3 = t at *
  exact answers_always rfl (by simp [Wf.trip]; omega) ht
    ⟨htrip.temp, htrip.event, htrip.active, htrip.held, htaken.lost, htaken.up, hv.relaysLo, htrip.memory⟩

theorem tripFld_device {d : Nat} (h : 8 ≤ d) : tripFld d = Fields.PWR_EVENT.TRIP_GDDR := by
  obtain ⟨k, rfl⟩ : ∃ k, d = k + 8 := ⟨d - 8, by omega⟩
  rfl

theorem answers_trip_device (s : State) (k : Nat) (x : Int) (h9 : 9 ≤ k) (h17 : k < 17) (hx : 800 ≤ x) (hx' : x < 2048)
    (hn : SMap.get badDefault s.m.sys.tripped (k - 1) = false) (hl : s.m.isLost (k - 1) = false) :
    Answers (.trip k x) s (fun t => t.rd (Reg.PWR_TEMP k) Fields.PWR_TEMP.TEMP = unsign 12 x ∧
      t.flag Reg.PWR_EVENT Fields.PWR_EVENT.TRIP_GDDR = true ∧ t.flag Reg.PWR_STATUS Fields.PWR_STATUS.TRIP_ACTIVE = true ∧
      SMap.get badDefault t.sys.tripped (k - 1) = true ∧ t.isLost (k - 1) = true ∧
      t.flag Reg.GLB_DIE_STATUS ⟨k - 1, 1⟩ = false ∧ t.outs = s.m.outs ∧ SameMemory s.m t) := by
  obtain ⟨d, hd8, hkd⟩ : ∃ d < 8, k - 1 = 8 + d := ⟨k - 9, by omega, by omega⟩
  have hs : 8 + d ∈ supplyDies := supplyDies_device (by omega) (by omega)
  have hdie : sensorDie k = 8 + d := by unfold sensorDie; split_ifs <;> omega
  have hpoint : sensorTrip k ≤ x := by rw [sensorTrip, if_neg (by omega)]; exact hx
  rw [hkd] at hn hl ⊢
  rw [← tripFld_device (show 8 ≤ 8 + d by omega), ← upBit_device (show 4 ≤ 8 + d by omega)]
  have ht := s.m.tripSensor_eq k _ x hdie hs hpoint hn hl
  obtain ⟨htrip, htaken⟩ := trip_taken s.m k (8 + d) x h17 hs
  have ho := (outs_dieLost_device d (s.m.tripHeld k (8 + d) x)).trans (outs_tripHeld k (8 + d) x s.m)
  generalize (s.m.tripHeld k (8 + d) x).dieLost (8 + d) = t at *
  exact answers_always rfl (by simp [Wf.trip]; omega) ht
    ⟨htrip.temp, htrip.event, htrip.active, htrip.held, htaken.lost, htaken.up, ho, htrip.memory⟩

/-! ### What moves the start on (R58 to R60) -/

/-- `b` is `a` but for STATE and REF_WAITING of GLB_START_STATE and for START_DONE. -/
structure StartMoved (a b : Mod) : Prop where
  rest : b = { a with regs := b.regs }
  regs : ∀ o, o ≠ Reg.GLB_START_STATE → o ≠ Reg.PWR_STATUS → b.reg o = a.reg o
  status : ∀ f : Fld, f.lo + f.width ≤ 20 → b.flag Reg.PWR_STATUS f = a.flag Reg.PWR_STATUS f

theorem StartMoved.refl (a : Mod) : StartMoved a a := ⟨rfl, fun _ _ _ => rfl, fun _ _ => rfl⟩

theorem StartMoved.trans {a b c : Mod} (h : StartMoved a b) (k : StartMoved b c) : StartMoved a c := by
  refine ⟨?_, fun o h1 h2 => (k.regs o h1 h2).trans (h.regs o h1 h2), fun f hf => (k.status f hf).trans (h.status f hf)⟩
  rw [k.rest, h.rest]

theorem startMoved_wr (m : Mod) (f : Fld) (v : Nat) : StartMoved m (m.wr Reg.GLB_START_STATE f v) :=
  ⟨rfl, fun _ h _ => Mod.reg_wr_ne _ _ _ _ _ h, fun _ _ => by
    rw [Mod.flag, Mod.flag, Mod.rd_wr_ne _ _ _ _ _ _ (by decide)]⟩

theorem startMoved_startDone (m : Mod) : StartMoved m m.startDone := by
  unfold Mod.startDone
  cases m.unitsDone && (m.unitStarted 29 || m.unitLeft 29)
  · exact .refl m
  · refine ⟨rfl, fun _ _ h => Mod.reg_wr_ne _ _ _ _ _ h, fun f hf => ?_⟩
    rw [Mod.flag, Mod.when_true, Mod.rd_wr_field _ _ _ _ _ (.inl hf), Mod.flag]

theorem startMoved_startMove (m : Mod) : StartMoved m m.startMove := by
  have hd := startMoved_startDone m
  unfold Mod.startMove
  dsimp only
  split
  · exact hd
  · split
    · split
      · exact hd
      · exact (hd.trans (startMoved_wr _ _ _)).trans (startMoved_wr _ _ _)
    · exact (hd.trans (startMoved_wr _ _ _)).trans (startMoved_wr _ _ _)

/-- Outside the start nothing moves it on. -/
theorem startState_startMove (m : Mod) (h : m.startState = 0) : m.startMove.startState = 0 := by
  have hs : m.startDone.startState = 0 := by
    unfold Mod.startDone
    cases m.unitsDone && (m.unitStarted 29 || m.unitLeft 29)
    · exact h
    · rw [Mod.when_true, Mod.startState, Mod.rd_wr_ne _ _ _ _ _ _ (by decide)]
      exact h
  have ht : m.startMove = m.startDone := by
    rw [Mod.startMove, hs, if_pos (.inl ⟨by decide, by decide⟩)]
  rw [ht, hs]

/-! ### Units that fail to start (R53) -/

/-- Unit `u` is left off. -/
def Mod.leaveOff (u : Nat) (m : Mod) : Mod :=
  { m with sys := { m.sys with leftOff := SMap.set badDefault m.sys.leftOff u true } }

/-- What the failure of unit `u` to start leaves: it is left off, the event stands, the rails of die `d` are out, the die is
lost, and memory stays. -/
structure FailedStart (u d : Nat) (a t : Mod) : Prop where
  left : t.unitLeft u = true
  event : t.flag Reg.PWR_EVENT Fields.PWR_EVENT.START_FAIL = true
  rails : t.flag Reg.PWR_STATUS (railsOk d) = false
  lost : t.isLost d = true
  memory : SameMemory a t

/-- The start that goes on changes none of it. -/
theorem FailedStart.moved {u d : Nat} {a b c : Mod} (h : FailedStart u d a b) (k : StartMoved b c) (hd : d ∈ 0 :: supplyDies) :
    FailedStart u d a c where
  left := by rw [k.rest]; exact h.left
  event := by rw [Mod.flag, Mod.rd, k.regs _ (by decide) (by decide)]; exact h.event
  rails := (k.status _ (railsOk_below d hd)).trans h.rails
  lost := by rw [k.rest]; exact h.lost
  memory := h.memory.trans (by rw [k.rest]; exact .of_eq rfl rfl)

/-- The unit's die before the start goes on. -/
def Mod.unitOut (u d : Nat) (m : Mod) : Mod := ((m.leaveOff u).railsOut d Fields.PWR_EVENT.START_FAIL).dieLost d

theorem Mod.startFail_eq (m : Mod) (u d : Nat) (hd : startDie u = d) (hs : m.unitStarted u = false)
    (hl : m.unitLeft u = false) (hp : m.powered = true) (hn : m.isLost d = false) :
    m.startFail u = (m.unitOut u d).startMove := by
  have hif : m.startFail u = (((m.leaveOff u).railsOut d Fields.PWR_EVENT.START_FAIL).when (!m.isLost d)
      (Mod.dieLost d)).startMove := by
    rw [Mod.startFail, hs, hl, hp, hd, if_neg (by decide)]
    rfl
  rw [hif, hn, Bool.not_false, Mod.when_true]
  rfl

theorem dieTaken_unitOut (u d : Nat) (m : Mod) (hd : d ∈ supplyDies) :
    DieTaken d Fields.PWR_EVENT.START_FAIL ((m.leaveOff u).wr Reg.PWR_STATUS (railsOk d) 0) (m.unitOut u d) :=
  dieTaken_rails d _ (m.leaveOff u) (by decide) rfl hd

theorem failedStart_unitOut (u d : Nat) (m : Mod) (hd : d ∈ supplyDies) : FailedStart u d m (m.unitOut u d) := by
  have h := dieTaken_unitOut u d m hd
  refine ⟨?_, h.event, h.rails hd, h.lost, SameMemory.trans (b := m.leaveOff u) (.of_eq rfl rfl) ?_⟩
  · rw [Mod.unitLeft, h.leftOff]
    exact SMap.get_set_self badDefault _ u true
  · exact SameMemory.trans (.of_eq rfl rfl) h.memory

/-- START_FAIL of a unit whose die or device can go out of service: what it leaves, with the die's bit. -/
theorem startFail_taken (m : Mod) (u d : Nat) (hd : d ∈ supplyDies) :
    FailedStart u d m (m.unitOut u d).startMove ∧ (m.unitOut u d).startMove.flag Reg.GLB_DIE_STATUS (upBit d) = false := by
  have k := startMoved_startMove (m.unitOut u d)
  refine ⟨(failedStart_unitOut u d m hd).moved k (List.mem_cons_of_mem _ hd), ?_⟩
  rw [Mod.flag, Mod.rd, k.regs _ (by decide) (by decide)]
  exact (dieTaken_unitOut u d m hd).up

theorem answers_startFail_device (s : State) (u : Nat) (h1 : 1 ≤ u) (h9 : u < 9) (hs : s.m.unitStarted u = false)
    (hl : s.m.unitLeft u = false) (hp : s.m.powered = true) (hn : s.m.isLost (7 + u) = false) :
    Answers (.startFail u) s (fun t => t.unitLeft u = true ∧ t.flag Reg.PWR_EVENT Fields.PWR_EVENT.START_FAIL = true ∧
      t.flag Reg.PWR_STATUS ⟨8 + u, 1⟩ = false ∧ t.isLost (7 + u) = true ∧ t.flag Reg.GLB_DIE_STATUS ⟨7 + u, 1⟩ = false ∧
      t.outs = s.m.outs ∧ SameMemory s.m t) := by
  have hd : 7 + u ∈ supplyDies := supplyDies_device (by omega) (by omega)
  have hdie : startDie u = 7 + u := by rw [startDie, if_neg (by omega), if_pos h9]; omega
  have ht := s.m.startFail_eq u _ hdie hs hl hp hn
  obtain ⟨h, hu⟩ := startFail_taken s.m u (7 + u) hd
  have hr := h.rails
  have hdev := outs_dieLost_device (u - 1) ((s.m.leaveOff u).railsOut (7 + u) Fields.PWR_EVENT.START_FAIL)
  rw [show 8 + (u - 1) = 7 + u by omega] at hdev
  have ho : (s.m.unitOut u (7 + u)).startMove.outs = s.m.outs := by
    rw [(startMoved_startMove _).rest]
    exact hdev.trans (outs_railsOut _ _ (s.m.leaveOff u))
  rw [railsOk_device (by omega), show 7 + u + 1 = 8 + u by omega] at hr
  rw [upBit_device (by omega)] at hu
  generalize (s.m.unitOut u (7 + u)).startMove = t at *
  exact answers_always rfl (by simp [Wf.startFail]; omega) ht ⟨h.left, h.event, hr, h.lost, hu, ho, h.memory⟩

/-- The units of the start order with a die of their own, but for the devices (Table 2.10). -/
theorem startDie_pinDie {u d : Nat} (h9 : 9 ≤ u) (h29 : u < 29) (hd : startDie u = 1 + d) : d < 2 := by
  unfold startDie at hd
  split_ifs at hd <;> omega

theorem answers_startFail_pinDie (s : State) (u d : Nat) (h9 : 9 ≤ u) (h29 : u < 29) (hdie : startDie u = 1 + d)
    (hs : s.m.unitStarted u = false) (hl : s.m.unitLeft u = false) (hp : s.m.powered = true)
    (hn : s.m.isLost (1 + d) = false) :
    Answers (.startFail u) s (fun t => t.unitLeft u = true ∧ t.flag Reg.PWR_EVENT Fields.PWR_EVENT.START_FAIL = true ∧
      t.flag Reg.PWR_STATUS (railsOk (1 + d)) = false ∧ t.isLost (1 + d) = true ∧ t.flag Reg.GLB_DIE_STATUS ⟨d, 1⟩ = false ∧
      SameMemory s.m t) := by
  have hd2 : d < 2 := startDie_pinDie h9 h29 hdie
  have ht := s.m.startFail_eq u _ hdie hs hl hp hn
  obtain ⟨h, hu⟩ := startFail_taken s.m u (1 + d) (supplyDies_pinDie hd2)
  rw [upBit_pinDie hd2] at hu
  generalize (s.m.unitOut u (1 + d)).startMove = t at *
  exact answers_always rfl (by simp [Wf.startFail]; omega) ht ⟨h.left, h.event, h.rails, h.lost, hu, h.memory⟩

theorem answers_startFail_h0 (s : State) (hs : s.m.unitStarted 29 = false) (hl : s.m.unitLeft 29 = false)
    (hp : s.m.powered = true) (hn : s.m.isLost 3 = false) :
    Answers (.startFail 29) s (fun t => t.unitLeft 29 = true ∧ t.flag Reg.PWR_EVENT Fields.PWR_EVENT.START_FAIL = true ∧
      t.flag Reg.PWR_STATUS Fields.PWR_STATUS.H0_RAILS_OK = false ∧ t.isLost 3 = true ∧
      t.flag Reg.GLB_DIE_STATUS Fields.GLB_DIE_STATUS.H0_UP = false ∧ SameMemory s.m t) := by
  have ht := s.m.startFail_eq 29 3 rfl hs hl hp hn
  obtain ⟨h, hu⟩ := startFail_taken s.m 29 3 (by decide)
  generalize (s.m.unitOut 29 3).startMove = t at *
  exact answers_always rfl rfl ht ⟨h.left, h.event, h.rails, h.lost, hu, h.memory⟩

/-! ### The core die -/

/-- The sequencers' work goes and nothing else. -/
theorem seqsHeld_eq (m : Mod) : ∃ x, m.seqsHeld = { m with seqs := x } := by
  refine Mod.each_keeps m (fun y => ∃ x, y = { m with seqs := x }) _ _ ?_ ⟨m.seqs, rfl⟩
  rintro n - _ ⟨x, rfl⟩
  exact ⟨_, rfl⟩

theorem coreLost_state (m : Mod) : m.coreLost.gddr = m.gddr ∧ m.coreLost.sram = m.sram ∧ m.coreLost.isLost 0 = true ∧
    m.coreLost.sys.leftOff = m.sys.leftOff := by
  obtain ⟨x, hx⟩ := seqsHeld_eq m
  unfold Mod.coreLost
  rw [hx]
  exact ⟨rfl, rfl, SMap.get_set_self badDefault _ 0 true, rfl⟩

theorem coreLost_regs (m : Mod) : m.coreLost.startState = 0 ∧
    m.coreLost.flag Reg.PWR_STATUS Fields.PWR_STATUS.CORE_RAILS_OK = false ∧
    m.coreLost.reg Reg.PWR_EVENT = m.reg Reg.PWR_EVENT := by
  obtain ⟨x, hx⟩ := seqsHeld_eq m
  have hstate (y : Mod) : ((y.wr Reg.GLB_START_STATE Fields.GLB_START_STATE.STATE 0).wr Reg.SL_STATUS
      Fields.SL_STATUS.STATE 0).startState = 0 :=
    (Mod.rd_wr_ne _ _ _ _ _ _ (by decide)).trans (Mod.rd_wr_self _ _ _ _ (by decide))
  have hrails (y : Mod) : (((y.wr Reg.PWR_STATUS Fields.PWR_STATUS.CORE_RAILS_OK 0).wr Reg.GLB_START_STATE
      Fields.GLB_START_STATE.STATE 0).wr Reg.SL_STATUS Fields.SL_STATUS.STATE 0).flag Reg.PWR_STATUS
      Fields.PWR_STATUS.CORE_RAILS_OK = false := by
    rw [Mod.flag, Mod.rd_wr_ne _ _ _ _ _ _ (by decide), Mod.rd_wr_ne _ _ _ _ _ _ (by decide)]
    exact Mod.flag_wr_zero _ _ _ (by decide)
  have hevent (y : Mod) (off : Nat) (f : Fld) (h : Reg.PWR_EVENT ≠ off) :
      (y.wr off f 0).reg Reg.PWR_EVENT = y.reg Reg.PWR_EVENT := Mod.reg_wr_ne _ _ _ _ _ h
  unfold Mod.coreLost
  rw [hx]
  refine ⟨hstate _, hrails _, ?_⟩
  exact ((((((hevent _ _ _ (by decide)).trans (hevent _ _ _ (by decide))).trans (hevent _ _ _ (by decide))).trans
    (hevent _ _ _ (by decide))).trans (hevent _ _ _ (by decide))).trans (hevent _ _ _ (by decide)))

theorem not_lost_of_powered {m : Mod} (h : m.powered = true) : m.isLost 0 = false := by
  simp only [Mod.powered, Bool.and_eq_true, Bool.not_eq_true'] at h
  obtain ⟨⟨-, hl⟩, -⟩ := h
  exact hl

theorem failedStart_core (m : Mod) : FailedStart 0 0 m (m.unitOut 0 0) ∧ (m.unitOut 0 0).startState = 0 := by
  have k := onlyPosts_pwrEvent 3 Fields.PWR_EVENT.START_FAIL ((m.leaveOff 0).wr Reg.PWR_STATUS (railsOk 0) 0)
  have he := flag_pwrEvent 3 Fields.PWR_EVENT.START_FAIL ((m.leaveOff 0).wr Reg.PWR_STATUS (railsOk 0) 0) (by decide) rfl
  have hy := sys_pwrEvent 3 Fields.PWR_EVENT.START_FAIL ((m.leaveOff 0).wr Reg.PWR_STATUS (railsOk 0) 0)
  have hmem := SameMemory.trans (a := m) (.of_eq rfl rfl) k.memory
  show FailedStart 0 0 m (Mod.coreLost (Mod.pwrEvent 3 _ _)) ∧ (Mod.coreLost (Mod.pwrEvent 3 _ _)).startState = 0
  generalize ((m.leaveOff 0).wr Reg.PWR_STATUS (railsOk 0) 0).pwrEvent 3 Fields.PWR_EVENT.START_FAIL = x at *
  obtain ⟨hg, hs, hl, ho⟩ := coreLost_state x
  obtain ⟨hst, hr, hev⟩ := coreLost_regs x
  refine ⟨⟨?_, ?_, hr, hl, hmem.trans (.of_eq hg hs)⟩, hst⟩
  · rw [Mod.unitLeft, ho, hy]
    exact SMap.get_set_self badDefault _ 0 true
  · rw [Mod.flag, Mod.rd, hev]
    exact he

theorem answers_startFail_core (s : State) (hs : s.m.unitStarted 0 = false) (hl : s.m.unitLeft 0 = false)
    (hp : s.m.powered = true) :
    Answers (.startFail 0) s (fun t => t.unitLeft 0 = true ∧ t.flag Reg.PWR_EVENT Fields.PWR_EVENT.START_FAIL = true ∧
      t.flag Reg.PWR_STATUS Fields.PWR_STATUS.CORE_RAILS_OK = false ∧ t.isLost 0 = true ∧ t.startState = 0 ∧
      SameMemory s.m t) := by
  have ht := s.m.startFail_eq 0 0 rfl hs hl hp (not_lost_of_powered hp)
  obtain ⟨hf, hst⟩ := failedStart_core s.m
  have h := hf.moved (startMoved_startMove _) (by decide)
  have hz := startState_startMove _ hst
  generalize (s.m.unitOut 0 0).startMove = t at *
  exact answers_always rfl rfl ht ⟨h.left, h.event, h.rails, h.lost, hz, h.memory⟩

/-- Settles O12, one lemma for each event and kind of die. -/
theorem supplyEventsTakeDies : Obligations.SupplyEventsTakeDies :=
  ⟨answers_hvSupply, answers_hgndRange, answers_railFault_device, answers_railFault_pinDie, answers_railFault_h0,
    answers_trip_pinDie, answers_trip_h0, answers_trip_device, answers_startFail_device, answers_startFail_pinDie,
    answers_startFail_h0, answers_startFail_core⟩

end Sys2Proof.Machine
end

section
/-!
PROOF. Clocks, crossings and SRAM errors (R24, R26, R30): O10.
-/

namespace Sys2Proof.Machine

/-! ### Machine checks of a unit without work (R416, R418) -/

/-- A machine check takes the unit into MCHK, and else only posts. -/
theorem onlyPosts_machineCheck (source index cause site reg : Nat) (m : Mod) :
    OnlyPosts [] (m.setMchk source index true) (m.machineCheck source index cause site reg) := by
  have latch (x : Mod) (f : Fld) (v : Nat) : OnlyPosts [] x (x.wr Reg.ERR_MCHK f v) := .wr x _ f v (.inr (by decide))
  have count (x : Mod) : OnlyPosts [] x (x.bump Reg.ERR_COUNT Fields.ERR_COUNT.MCHK) := .wr x _ _ _ (.inr (by decide))
  unfold Mod.machineCheck
  refine OnlyPosts.trans ?_ (onlyPosts_post _ _ _ _ _ _ _ _)
  split
  · exact count (m.setMchk source index true)
  · exact ((((latch (m.setMchk source index true) _ _).trans (latch _ _ _)).trans (latch _ _ _)).trans
      (latch _ _ _)).trans (count _)

theorem inMchk_machineCheck (source index cause site reg : Nat) (m : Mod) :
    (m.machineCheck source index cause site reg).inMchk source index = true := by
  rw [Mod.inMchk, (onlyPosts_machineCheck source index cause site reg m).1]
  exact SMap.get_set_self badDefault _ _ true

/-- A machine check writes ERR_MCHK, ERR_COUNT and the words of the record it posts. -/
theorem reg_machineCheck_ne (source index cause site reg o : Nat) (m : Mod) (h1 : o ≠ Reg.ERR_MCHK) (h2 : o ≠ Reg.ERR_COUNT)
    (h3 : o ≠ Reg.ERR_SEQ) (h4 : o ≠ Reg.ERR_LOST) : (m.machineCheck source index cause site reg).reg o = m.reg o := by
  have latch (x : Mod) (f : Fld) (v : Nat) : (x.wr Reg.ERR_MCHK f v).reg o = x.reg o := Mod.reg_wr_ne _ _ _ _ _ h1
  unfold Mod.machineCheck
  refine (reg_post_ne _ _ _ _ _ _ _ o _ h3 h4).trans ((Mod.reg_wr_ne _ _ o _ _ h2).trans ?_)
  split
  · rfl
  · rw [latch, latch, latch, latch]

theorem sameMemory_machineCheck (source index cause site reg : Nat) (m : Mod) :
    SameMemory m (m.machineCheck source index cause site reg) :=
  SameMemory.trans (b := m.setMchk source index true) (.of_eq rfl rfl) (onlyPosts_machineCheck _ _ _ _ _ m).memory

theorem sameRegs_machineCheck (source index cause site reg : Nat) (m : Mod) :
    SameRegsPost [] m (m.machineCheck source index cause site reg) := (onlyPosts_machineCheck _ _ _ _ _ m).2

/-- Unit `u`, `i`, which is no sequencer or Proof unit, has no work of its own to end at a machine check. -/
structure UnitIdle (u i : Nat) (m : Mod) : Prop where
  source : u < 16
  acquisitions : u = srcWAVE → m.acqs = []
  measurements : u = srcHV → m.meass = []
  tdcs : u = srcTIME → m.tim.tdcs = []
  lists : u = srcDMA → m.dma.runs = []
  steps : u = srcMCS → i < 16 ∧ m.scores = []

theorem mchkEnds_idle {u i : Nat} {m : Mod} (h : UnitIdle u i m) (code : Nat) : m.mchkEnds u i code = m := by
  have hu := h.source
  unfold Mod.mchkEnds
  rw [if_neg (show ¬ u = srcLQ by unfold srcLQ; omega)]
  split_ifs with hHv hWave hTime hDma hMcs hi
  · rw [Mod.measLost, Mod.meas, h.measurements hHv]; rfl
  · rw [Mod.aqEnd, Mod.acq, h.acquisitions hWave]; rfl
  · rw [Mod.tdcDrop, Mod.tdc, h.tdcs hTime]; rfl
  · rw [Mod.dmaEnd, Mod.dmaRun, h.lists hDma]; rfl
  · exact absurd (h.steps hMcs).1 (by omega)
  · rw [Mod.stepOver, Mod.score, (h.steps hMcs).2]; rfl
  · rfl

theorem UnitIdle.machineCheck {u i : Nat} {m : Mod} (h : UnitIdle u i m) (source index cause site reg : Nat) :
    UnitIdle u i (m.machineCheck source index cause site reg) := by
  rw [(onlyPosts_machineCheck source index cause site reg m).1]
  exact ⟨h.source, h.acquisitions, h.measurements, h.tdcs, h.lists, h.steps⟩

/-- The machine check of an idle unit ends nothing. -/
theorem unitMchk_idle {u i : Nat} {m : Mod} (h : UnitIdle u i m) (hSeq : u ≠ srcSEQ) (hPrf : u ≠ srcPRF)
    (hWave : u = srcWAVE → 8 ≤ i) (cause : Nat) :
    m.unitMchk u i cause = m.machineCheck u i cause noSite Reg.ERR_MCHK := by
  have hList : ¬ (u = srcWAVE ∧ i < 8) := fun hc => absurd (hWave hc.1) (by omega)
  rw [Mod.unitMchk, if_neg hSeq, if_neg hPrf, if_neg hList, mchkEnds_idle (h.machineCheck ..)]

/-- So does that of a generator without a node, from an uncorrectable error of its list memory (Table 18.2). -/
theorem unitMchk_generator {n : Nat} {m : Mod} (hn : n < 8) (hp : m.pairActive = false) (hj : (m.wave n).job = none) :
    m.unitMchk srcWAVE n 1 = m.machineCheck srcWAVE n 1 noSite Reg.ERR_MCHK := by
  rw [Mod.unitMchk, if_neg (by decide), if_neg (by decide), if_pos ⟨rfl, hn⟩, hp, hj, Option.isSome_none, Bool.and_false]
  rfl

/-! ### Crossings (R26) -/

/-- An overrun of crossing `k` is shown in GLB_DIE_ERR and latched in ERR_XING. -/
def Mod.xingLatched (k : Nat) (m : Mod) : Mod :=
  ((m.mark Reg.GLB_DIE_ERR Fields.GLB_DIE_ERR.XING_OVF).wr Reg.ERR_XING Fields.ERR_XING.CROSSING k).wr Reg.ERR_XING
    Fields.ERR_XING.VALID 1

theorem onlyPosts_xingLatched (k : Nat) (m : Mod) : OnlyPosts [Reg.GLB_DIE_ERR] m (m.xingLatched k) :=
  ((onlyPosts_mark _ _ m).trans (.wr _ _ _ _ (.inr (by decide)))).trans (.wr _ _ _ _ (.inr (by decide)))

theorem flag_xingLatched_ovf (k : Nat) (m : Mod) :
    (m.xingLatched k).flag Reg.GLB_DIE_ERR Fields.GLB_DIE_ERR.XING_OVF = true := by
  rw [Mod.flag, Mod.xingLatched, Mod.rd_wr_ne _ _ _ _ _ _ (by decide), Mod.rd_wr_ne _ _ _ _ _ _ (by decide)]
  exact Mod.flag_mark_self m _ _ (by decide) rfl

theorem rd_xingLatched {k : Nat} (hk : k < 256) (m : Mod) :
    (m.xingLatched k).rd Reg.ERR_XING Fields.ERR_XING.CROSSING = k :=
  (Mod.rd_wr_field _ _ _ _ _ (.inl (by decide))).trans ((Mod.rd_wr_self _ _ _ k (by decide)).trans (Nat.mod_eq_of_lt hk))

theorem flag_xingLatched_valid (k : Nat) (m : Mod) : (m.xingLatched k).flag Reg.ERR_XING Fields.ERR_XING.VALID = true :=
  Mod.flag_wr_one _ _ _ (by decide) rfl

theorem xingOvf_eq (k u i : Nat) (m : Mod) (hv : m.flag Reg.ERR_XING Fields.ERR_XING.VALID = false) :
    m.xingOvf k (some (u, i)) = (m.xingLatched k).unitMchk u i 5 := by
  have hv' : (m.mark Reg.GLB_DIE_ERR Fields.GLB_DIE_ERR.XING_OVF).flag Reg.ERR_XING Fields.ERR_XING.VALID = false := by
    rw [Mod.flag, Mod.mark, Mod.rd_wr_ne _ _ _ _ _ _ (by decide)]
    exact hv
  simp only [Mod.xingOvf, hv']
  rfl

theorem UnitIdle.xingLatched {u i : Nat} {m : Mod} (h : UnitIdle u i m) (k : Nat) : UnitIdle u i (m.xingLatched k) :=
  ⟨h.source, h.acquisitions, h.measurements, h.tdcs, h.lists, h.steps⟩

theorem answers_xingOvf (s : State) (k u i : Nat) (hh : s.m.flt.halted = false) (hk : k < 256) (hi : i < 64)
    (hSeq : u ≠ srcSEQ) (hPrf : u ≠ srcPRF) (hWave : u = srcWAVE → 8 ≤ i) (hIdle : UnitIdle u i s.m)
    (hv : s.m.flag Reg.ERR_XING Fields.ERR_XING.VALID = false) :
    Answers (.xingOvf k (some (u, i))) s (fun t => t.flag Reg.GLB_DIE_ERR Fields.GLB_DIE_ERR.XING_OVF = true ∧
      t.rd Reg.ERR_XING Fields.ERR_XING.CROSSING = k ∧ t.flag Reg.ERR_XING Fields.ERR_XING.VALID = true ∧
      t.inMchk u i = true ∧ SameMemory s.m t ∧ SameRegsPost [Reg.GLB_DIE_ERR] s.m t) := by
  have ht : s.m.xingOvf k (some (u, i)) = (s.m.xingLatched k).machineCheck u i 5 noSite Reg.ERR_MCHK :=
    (xingOvf_eq k u i s.m hv).trans (unitMchk_idle (hIdle.xingLatched k) hSeq hPrf hWave 5)
  have hframe := onlyPosts_xingLatched k s.m
  have hovf := flag_xingLatched_ovf k s.m
  have hnum := rd_xingLatched hk s.m
  have hvalid := flag_xingLatched_valid k s.m
  generalize s.m.xingLatched k = x at *
  have hreg (o : Nat) (h : o = Reg.GLB_DIE_ERR ∨ o = Reg.ERR_XING) :
      (x.machineCheck u i 5 noSite Reg.ERR_MCHK).reg o = x.reg o := by
    obtain rfl | rfl := h <;> exact reg_machineCheck_ne _ _ _ _ _ _ x (by decide) (by decide) (by decide) (by decide)
  have hm := inMchk_machineCheck u i 5 noSite Reg.ERR_MCHK x
  have hmem := hframe.memory.trans (sameMemory_machineCheck u i 5 noSite Reg.ERR_MCHK x)
  have hrest := hframe.2.trans ((sameRegs_machineCheck u i 5 noSite Reg.ERR_MCHK x).mono (by simp))
  rw [Mod.flag, Mod.rd, ← hreg _ (.inl rfl)] at hovf
  rw [Mod.rd, ← hreg _ (.inr rfl)] at hnum
  rw [Mod.flag, Mod.rd, ← hreg _ (.inr rfl)] at hvalid
  generalize x.machineCheck u i 5 noSite Reg.ERR_MCHK = t at *
  exact answers_command rfl (by simp [Wf.xingOvf, hk, hi, hIdle.source]) hh ht ⟨hovf, hnum, hvalid, hm, hmem, hrest⟩

/-! ### SRAM errors (R30) -/

/-- The word at SRAM address `a` is marked with an uncorrectable error. -/
def Mod.sramMarked (a : Nat) (m : Mod) : Mod := { m with sramBad := SMap.set badDefault m.sramBad (sramKey a) true }

/-- Outside the control store a code covers eight bytes. -/
theorem sramKey_data {a : Nat} (h : a < 0xF80000) : sramKey a = a / 8 * 8 := by
  rw [sramKey, sramUnit, if_neg (by omega)]

/-- A marked word is met by a read of any byte of it. -/
theorem sramBadIn_marked {a : Nat} (h : a < 0xF80000) (bad : List (Nat × Bool)) :
    sramBadIn (SMap.set badDefault bad (sramKey a) true) a 1 = true := by
  have hkey : sramKey (a / 4 * 4) = sramKey a := by
    rw [sramKey_data h, sramKey_data (by omega)]
    omega
  unfold sramBadIn
  rw [Bool.and_eq_true]
  refine ⟨rfl, List.any_eq_true.mpr ⟨0, List.mem_range.mpr (by omega), ?_⟩⟩
  rw [Nat.mul_zero, Nat.add_zero, hkey]
  exact SMap.get_set_self badDefault bad _ true

theorem sramRegion_list {a : Nat} (h : 0xC00000 ≤ a) (h' : a < 0xD00000) : sramRegion a = 4 := by
  rw [sramRegion, if_neg (by omega), if_neg (by omega), if_neg (by omega), if_neg (by omega), if_pos h']

theorem sramRegion_lt (a : Nat) : sramRegion a < 8 := by
  unfold sramRegion
  split_ifs <;> decide

theorem sramUe_list {a : Nat} (h : 0xC00000 ≤ a) (h' : a < 0xD00000) (m : Mod) :
    m.sramUe a = (m.sramMarked a).unitMchk srcWAVE ((a - 0xC00000) / 0x20000) 1 := by
  simp only [Mod.sramUe, sramRegion_list h h']
  rfl

theorem answers_sramUe (s : State) (a : Nat) (hh : s.m.flt.halted = false) (h : 0xC00000 ≤ a) (h' : a < 0xD00000)
    (hp : s.m.pairActive = false) (hj : (s.m.wave ((a - 0xC00000) / 0x20000)).job = none) :
    Answers (.sramUe a) s (fun t => SMap.get badDefault t.sramBad (a / 8 * 8) = true ∧ sramBadIn t.sramBad a 1 = true ∧
      t.inMchk srcWAVE ((a - 0xC00000) / 0x20000) = true ∧ SameMemory s.m t ∧ SameRegsPost [] s.m t) := by
  generalize hn : (a - 0xC00000) / 0x20000 = n at hj ⊢
  have hget : SMap.get badDefault (s.m.sramMarked a).sramBad (sramKey a) = true := SMap.get_set_self badDefault _ _ true
  have hmet : sramBadIn (s.m.sramMarked a).sramBad a 1 = true := sramBadIn_marked (by omega) _
  have hmem : SameMemory s.m (s.m.sramMarked a) := .of_eq rfl rfl
  have hregs : SameRegsPost [] s.m (s.m.sramMarked a) := fun _ _ _ => rfl
  have ht : s.m.sramUe a = (s.m.sramMarked a).machineCheck srcWAVE n 1 noSite Reg.ERR_MCHK :=
    (hn ▸ sramUe_list h h' s.m).trans (unitMchk_generator (by omega) hp hj)
  generalize s.m.sramMarked a = x at *
  have hm := inMchk_machineCheck srcWAVE n 1 noSite Reg.ERR_MCHK x
  have hbad : (x.machineCheck srcWAVE n 1 noSite Reg.ERR_MCHK).sramBad = x.sramBad := by
    rw [(onlyPosts_machineCheck srcWAVE n 1 noSite Reg.ERR_MCHK x).1]
    rfl
  have hmem' := hmem.trans (sameMemory_machineCheck srcWAVE n 1 noSite Reg.ERR_MCHK x)
  have hregs' := hregs.trans (sameRegs_machineCheck srcWAVE n 1 noSite Reg.ERR_MCHK x)
  rw [← hbad, sramKey_data (by omega)] at hget
  rw [← hbad] at hmet
  generalize x.machineCheck srcWAVE n 1 noSite Reg.ERR_MCHK = t at *
  exact answers_command rfl (by simp [Wf.sramUe]; omega) hh ht ⟨hget, hmet, hm, hmem', hregs'⟩

theorem rd_sramCe_count (a : Nat) (m : Mod) : (m.sramCe a).rd Reg.ERR_SRAM_CE Fields.ERR_SRAM_CE.COUNT =
    min 0xFFFF (m.rd Reg.ERR_SRAM_CE Fields.ERR_SRAM_CE.COUNT + 1) := by
  refine (Mod.rd_wr_field _ _ _ _ _ (.inl (by decide))).trans ((Mod.rd_wr_self m _ _ _ (by decide)).trans ?_)
  exact Nat.mod_eq_of_lt (Nat.lt_of_le_of_lt (Nat.min_le_left _ _) (by decide))

theorem rd_sramCe_region (a : Nat) (m : Mod) :
    (m.sramCe a).rd Reg.ERR_SRAM_CE Fields.ERR_SRAM_CE.REGION = sramRegion a :=
  (Mod.rd_wr_self _ _ _ _ (by decide)).trans (Nat.mod_eq_of_lt (sramRegion_lt a))

theorem answers_sramCe (s : State) (a : Nat) (hh : s.m.flt.halted = false) (ha : a < 0x1000000) :
    Answers (.sramCe a) s (fun t => t.rd Reg.ERR_SRAM_CE Fields.ERR_SRAM_CE.COUNT =
      min 0xFFFF (s.m.rd Reg.ERR_SRAM_CE Fields.ERR_SRAM_CE.COUNT + 1) ∧
      t.rd Reg.ERR_SRAM_CE Fields.ERR_SRAM_CE.REGION = sramRegion a ∧ SameMemory s.m t ∧
      SameRegs [Reg.ERR_SRAM_CE] s.m t ∧ t.outs = s.m.outs) :=
  answers_command rfl (by simpa [Wf.sramCe] using ha) hh rfl
    ⟨rd_sramCe_count a s.m, rd_sramCe_region a s.m, .of_eq rfl rfl,
      ((SameRegs.refl _ s.m).wr _ _ _ List.mem_cons_self).wr _ _ _ List.mem_cons_self, rfl⟩

/-! ### Forwarded clocks (R24) -/

theorem answers_clockLoss (s : State) (d : Nat) (hd : d < 3) :
    Answers (.forwardedClockLoss d) s (fun t => t.flag Reg.GLB_DIE_STATUS ⟨5 + d, 1⟩ = true ∧
      t.flag Reg.GLB_DIE_ERR Fields.GLB_DIE_ERR.HOLDOVER_SEEN = true ∧ SameMemory s.m t ∧
      SameRegs [Reg.GLB_DIE_STATUS, Reg.GLB_DIE_ERR] s.m t ∧ t.outs = s.m.outs) := by
  have hshown : (s.m.clockLoss d).flag Reg.GLB_DIE_STATUS ⟨5 + d, 1⟩ = true := by
    rw [Mod.flag, Mod.clockLoss, Mod.mark, Mod.rd_wr_ne _ _ _ _ _ _ (by decide)]
    exact Mod.flag_wr_one s.m _ (holdoverFld d) (by unfold holdoverFld; dsimp only; omega) rfl
  exact answers_always rfl (by simpa [Wf.forwardedClockLoss] using hd) rfl
    ⟨hshown, Mod.flag_mark_self _ _ _ (by decide) rfl, .of_eq rfl rfl,
      ((SameRegs.refl _ s.m).wr _ _ _ List.mem_cons_self).wr _ _ _ (by simp), rfl⟩

/-- The words of pin dies' clocks are not GLB_DIE_STATUS. -/
theorem dieStatus_ne_tflag (d : Nat) : Reg.GLB_DIE_STATUS ≠ Reg.CH_TFLAG d := by
  unfold Reg.GLB_DIE_STATUS Reg.CH_TFLAG
  omega

theorem answers_clockRelock (s : State) (d : Nat) (hd : d < 2) :
    Answers (.forwardedClockRelock d) s (fun t => t.flag Reg.GLB_DIE_STATUS ⟨5 + d, 1⟩ = false ∧
      t.flag (Reg.CH_TFLAG d) Fields.CH_TFLAG.PHASE_LOCK = true ∧ SameMemory s.m t ∧
      SameRegs [Reg.GLB_DIE_STATUS, Reg.CH_TFLAG d] s.m t) := by
  have ht : s.m.clockRelock d = (s.m.wr Reg.GLB_DIE_STATUS (holdoverFld d) 0).wr (Reg.CH_TFLAG d)
      Fields.CH_TFLAG.PHASE_LOCK 1 := by
    rw [Mod.clockRelock, decide_eq_true hd]
    rfl
  have hshown : (s.m.clockRelock d).flag Reg.GLB_DIE_STATUS ⟨5 + d, 1⟩ = false := by
    rw [ht, Mod.flag, Mod.rd_wr_ne _ _ _ _ _ _ (dieStatus_ne_tflag d)]
    exact Mod.flag_wr_zero s.m _ (holdoverFld d) (by unfold holdoverFld; dsimp only; omega)
  exact answers_always rfl (by simp [Wf.forwardedClockRelock]; omega) ht
    ⟨ht ▸ hshown, Mod.flag_wr_one _ _ _ (by decide) rfl, .of_eq rfl rfl,
      ((SameRegs.refl _ s.m).wr _ _ _ List.mem_cons_self).wr _ _ _ (by simp)⟩

theorem answers_holdoverOut (s : State) (d us : Nat) (hd : d < 2)
    (hf : s.m.flag Reg.GLB_DIE_STATUS ⟨5 + d, 1⟩ = true) (hus : 2000 ≤ us) :
    Answers (.holdoverExhausted d us) s (fun t => t.flag (Reg.CH_TFLAG d) Fields.CH_TFLAG.PHASE_LOCK = false ∧
      SameMemory s.m t ∧ SameRegs [Reg.CH_TFLAG d] s.m t) := by
  have ht : s.m.holdoverOut d us = s.m.wr (Reg.CH_TFLAG d) Fields.CH_TFLAG.PHASE_LOCK 0 := by
    have hlong : decide (us < 2000) = false := decide_eq_false (by omega)
    rw [Mod.holdoverOut, holdoverFld, hf, hlong, decide_eq_true hd]
    rfl
  exact answers_always rfl (by simp [Wf.holdoverExhausted]; omega) ht
    ⟨Mod.flag_wr_zero _ _ _ (by decide), .of_eq rfl rfl, (SameRegs.refl _ s.m).wr _ _ _ List.mem_cons_self⟩

/-- Settles O10, clause by clause: the unit that a crossing overruns into is idle, so its machine check ends nothing
(`unitMchk_idle`), and so is the generator whose list memory is in error (`unitMchk_generator`); what is latched before the
check survives it, since a machine check writes ERR_MCHK, ERR_COUNT and the words of its record alone. -/
theorem clockAndSramErrors : Obligations.ClockAndSramErrors := by
  refine ⟨?_, answers_sramUe, answers_sramCe, answers_clockLoss, answers_clockRelock, answers_holdoverOut⟩
  intro s k u i hh hk hu hi hSeq hPrf hWave hHv hTime hDma hMcs hv
  exact answers_xingOvf s k u i hh hk hi hSeq hPrf (fun h => (hWave h).1)
    ⟨hu, fun h => (hWave h).2, hHv, hTime, hDma, hMcs⟩ hv

end Sys2Proof.Machine
end

section
/-!
SUPPORT. Words of the register file that posting leaves as they were (R101).
-/

namespace Sys2Proof.Machine

theorem OnlyPosts.rd {but : List Nat} {a b : Mod} (h : OnlyPosts but a b) {o : Nat} (f : Fld) (ho : o ∉ but)
    (hp : postWord o = false) : b.rd o f = a.rd o f := by
  rw [Mod.rd, h.2 o ho hp, Mod.rd]

theorem OnlyPosts.flag {but : List Nat} {a b : Mod} (h : OnlyPosts but a b) {o : Nat} (f : Fld) (ho : o ∉ but)
    (hp : postWord o = false) : b.flag o f = a.flag o f := by
  rw [Mod.flag, h.rd f ho hp, Mod.flag]

end Sys2Proof.Machine
end

section
/-!
PROOF. Supply and thermal trips (R36, R39, R41, R43, R44, R46): O11.
-/

namespace Sys2Proof.Machine

/-! ### Ports that stop -/

/-- `b` is `a` but for the sequencers and for registers of 0x100000 and above. -/
structure SeqsOnly (a b : Mod) : Prop where
  rest : b = { a with regs := b.regs, seqs := b.seqs }
  low : ∀ o < 0x100000, b.reg o = a.reg o

theorem SeqsOnly.refl (a : Mod) : SeqsOnly a a := ⟨rfl, fun _ _ => rfl⟩

theorem SeqsOnly.trans {a b c : Mod} (h : SeqsOnly a b) (k : SeqsOnly b c) : SeqsOnly a c := by
  refine ⟨?_, fun o ho => (k.low o ho).trans (h.low o ho)⟩
  rw [k.rest, h.rest]

theorem SeqsOnly.each (l : List Nat) (f : Nat → Mod → Mod) (m : Mod) (h : ∀ k x, SeqsOnly x (f k x)) :
    SeqsOnly m (m.each l f) :=
  Mod.each_keeps m (SeqsOnly m) l f (fun k _ _ hx => hx.trans (h k _)) (.refl m)

theorem SeqsOnly.memory {a b : Mod} (h : SeqsOnly a b) : SameMemory a b := by
  rw [h.rest]
  exact .of_eq rfl rfl

theorem seqsOnly_stopSeq (n code : Nat) (m : Mod) : SeqsOnly m (m.stopSeq n code) := by
  have hset (x : Seq) : SeqsOnly m (m.setSeq n x) := ⟨rfl, fun _ _ => rfl⟩
  unfold Mod.stopSeq Mod.requestStop
  dsimp only
  split
  · exact .refl m
  · split
    · split
      · exact .refl m
      · exact hset _
    · exact hset _

theorem seqsOnly_stopPorts (code : Nat) (m : Mod) : SeqsOnly m (m.stopPorts code) :=
  .each _ _ _ fun n x => seqsOnly_stopSeq n code x

/-- A port of a working pair goes idle without a completion (R46). -/
theorem seqsOnly_idle (n : Nat) (m : Mod) : SeqsOnly m ((m.setSeq n Seq.fresh).setSeqState n 0) :=
  ⟨rfl, fun _ ho => Mod.reg_wr_ne _ _ _ _ _ (by unfold Reg.SEQ_STATUS; omega)⟩

/-! ### VIN trips (R36) -/

theorem kept_hvSwitch {P : Nat → Prop} (h : Nat) (on : Bool) (m : Mod) (hc : ¬ P (Reg.HV_CTRL h)) (hs : ¬ P (Reg.HV_STATE h)) :
    Kept P m (m.hvSwitch h on) := by
  unfold Mod.hvSwitch
  split
  · exact .refl P m
  · exact ((Kept.wr m _ _ _ hc (hvCtrl_ne_hvMon h)).trans (.when _ _ _ (kept_rcFinish h _ hs))).trans (kept_sumClamps P _)

theorem kept_asSwitch {P : Nat → Prop} (n : Nat) (on : Bool) (m : Mod) (hs : ¬ P (Reg.AS_STATE n)) :
    Kept P m (m.asSwitch n on) := by
  have hn : Reg.AS_STATE n ≠ Reg.PWR_HV_MON := by unfold Reg.AS_STATE Reg.PWR_HV_MON; omega
  have hw (x : Mod) (f : Fld) (v : Nat) : Kept P x (x.wr (Reg.AS_STATE n) f v) := .wr x _ f v hs hn
  have ha (x : Mod) (l : AsLive) : Kept P x (x.setAsl n l) := .same rfl rfl rfl rfl rfl
  have ho (x : Mod) (y : Int) : Kept P x (x.asOut n y) := ha x _
  unfold Mod.asSwitch
  split
  · exact .refl P m
  · dsimp only
    refine Kept.trans ?_ (kept_sumClamps P _)
    split
    · split
      · exact (hw _ _ _).trans (ha _ _)
      · exact (((((hw _ _ _).trans (ha _ _)).trans (hw _ _ _)).trans (hw _ _ _)).trans (ha _ _)).trans (ho _ _)
    · exact (hw _ _ _).trans (ha _ _)

/-- The HV and AS outputs are disconnected, before the relays open. -/
def Mod.outputsDown (m : Mod) : Mod :=
  let m1 := m.each (allBelow 32 (fun h => m.hvEnabled h)) (fun h s => s.hvSwitch h false)
  m1.each (allBelow 8 (fun n => m1.asEnabled n)) (fun n s => s.asSwitch n false)

theorem outputsOff_eq (m : Mod) :
    m.outputsOff = (m.outputsDown.setReg Reg.RLY_STATE_LO 0#32).setReg Reg.RLY_STATE_HI 0#32 := rfl

theorem kept_outputsDown (m : Mod) : Kept (· < 0x700000) m m.outputsDown := by
  refine Kept.trans (.each _ _ _ fun h _ x => kept_hvSwitch h false x ?_ ?_)
    (.each _ _ _ fun n _ x => kept_asSwitch n false x ?_)
  · simp [Reg.HV_CTRL]
  · simp [Reg.HV_STATE]; omega
  · simp [Reg.AS_STATE]; omega

/-- Every relay is open. -/
structure RelaysOpen (m : Mod) : Prop where
  lo : m.reg Reg.RLY_STATE_LO = 0#32
  hi : m.reg Reg.RLY_STATE_HI = 0#32

theorem relaysOpen_outputsOff (m : Mod) : RelaysOpen m.outputsOff := by
  rw [outputsOff_eq]
  refine ⟨?_, Mod.reg_setReg_self _ _ _⟩
  rw [Mod.reg_setReg_ne _ _ _ _ (by decide), Mod.reg_setReg_self]

theorem sameMemory_outputsOff (m : Mod) : SameMemory m m.outputsOff := by
  have k := kept_outputsDown m
  rw [outputsOff_eq]
  exact .of_eq k.gddr k.sram

/-- The event of a VIN trip: over or under its operating range. -/
def vinFld (high : Bool) : Fld := if high then Fields.PWR_EVENT.VIN_OV else Fields.PWR_EVENT.VIN_UV

/-- The bits of a VIN trip are set and its latch holds (R36). -/
def Mod.vinLatch (high : Bool) (m : Mod) : Mod :=
  let m1 := (m.stopDispatch.wr Reg.PWR_STATUS Fields.PWR_STATUS.VIN_OK 0).pwrEvent 3 (vinFld high)
  { m1 with sys := { m1.sys with pwrgood := false, vinLatched := true } }

theorem vinTrip_eq (high : Bool) (m : Mod) :
    m.vinTrip high = (m.stopPorts stSUPPLY_LOSS).outputsOff.vinLatch high := rfl

theorem onlyPosts_vinEvent (high : Bool) (m : Mod) : OnlyPosts [Reg.PWR_EVENT]
    (m.stopDispatch.wr Reg.PWR_STATUS Fields.PWR_STATUS.VIN_OK 0)
    ((m.stopDispatch.wr Reg.PWR_STATUS Fields.PWR_STATUS.VIN_OK 0).pwrEvent 3 (vinFld high)) := onlyPosts_pwrEvent _ _ _

theorem flags_vinLatch (high : Bool) (m : Mod) :
    (m.vinLatch high).flag Reg.PWR_STATUS Fields.PWR_STATUS.VIN_OK = false ∧
    (m.vinLatch high).flag Reg.PWR_EVENT (vinFld high) = true := by
  have hbit : (vinFld high).lo < 32 ∧ (vinFld high).width = 1 := by cases high <;> decide
  exact ⟨((onlyPosts_vinEvent high m).flag _ (by decide) (by decide)).trans (Mod.flag_wr_zero _ _ _ (by decide)),
    flag_pwrEvent 3 (vinFld high) _ hbit.1 hbit.2⟩

theorem RelaysOpen.vinLatch {m : Mod} (h : RelaysOpen m) (high : Bool) : RelaysOpen (m.vinLatch high) := by
  have hreg (o : Nat) (ho : o ∉ [Reg.PWR_EVENT]) (hp : postWord o = false) (hs : o ≠ Reg.PWR_STATUS) :
      (m.vinLatch high).reg o = m.reg o :=
    ((onlyPosts_vinEvent high m).2 o ho hp).trans (Mod.reg_wr_ne _ _ _ _ _ hs)
  exact ⟨(hreg _ (by decide) (by decide) (by decide)).trans h.lo, (hreg _ (by decide) (by decide) (by decide)).trans h.hi⟩

theorem stopped_vinLatch (high : Bool) (m : Mod) : (m.vinLatch high).hat.stopped = true := by
  show ((m.stopDispatch.wr Reg.PWR_STATUS Fields.PWR_STATUS.VIN_OK 0).pwrEvent 3 (vinFld high)).hat.stopped = true
  rw [(onlyPosts_vinEvent high m).1]
  rfl

theorem sameMemory_vinLatch (high : Bool) (m : Mod) : SameMemory m (m.vinLatch high) :=
  SameMemory.trans (b := m.stopDispatch.wr Reg.PWR_STATUS Fields.PWR_STATUS.VIN_OK 0) (.of_eq rfl rfl)
    (onlyPosts_vinEvent high m).memory

theorem answers_vinTrip (s : State) (high : Bool) :
    Answers (.vinTrip high) s (fun t => t.flag Reg.PWR_STATUS Fields.PWR_STATUS.VIN_OK = false ∧
      t.flag Reg.PWR_EVENT (if high then Fields.PWR_EVENT.VIN_OV else Fields.PWR_EVENT.VIN_UV) = true ∧
      t.hat.stopped = true ∧ t.sys.pwrgood = false ∧ t.sys.vinLatched = true ∧ t.reg Reg.RLY_STATE_LO = 0#32 ∧
      t.reg Reg.RLY_STATE_HI = 0#32 ∧ SameMemory s.m t) := by
  have ht := vinTrip_eq high s.m
  have hmem := (seqsOnly_stopPorts stSUPPLY_LOSS s.m).memory.trans (sameMemory_outputsOff _)
  have hrel := relaysOpen_outputsOff (s.m.stopPorts stSUPPLY_LOSS)
  generalize (s.m.stopPorts stSUPPLY_LOSS).outputsOff = x at ht hmem hrel
  obtain ⟨hvin, hevent⟩ := flags_vinLatch high x
  obtain ⟨hlo, hhi⟩ := hrel.vinLatch high
  exact answers_always rfl rfl ht
    ⟨hvin, hevent, stopped_vinLatch high x, rfl, rfl, hlo, hhi, hmem.trans (sameMemory_vinLatch high x)⟩

/-! ### HV inputs and HGND with H0 lost already (R39, R41) -/

theorem sameRegs_inputOut (i : Nat) (m : Mod) : SameRegs [Reg.PWR_STATUS] m (m.inputOut i) := by
  have h := (SameRegs.refl [Reg.PWR_STATUS] m).wr _ (hvInput i) 0 List.mem_cons_self
  unfold Mod.inputOut
  cases i == 2
  · exact h
  · exact h.wr _ _ _ List.mem_cons_self

theorem Mod.hvSupply_eq_lost (m : Mod) (i us : Nat) (hus : 20 < us) (hl : m.isLost 3 = true) :
    m.hvSupply i us = (m.inputOut i).pwrEvent 3 Fields.PWR_EVENT.HV_SUPPLY := by
  have hif : m.hvSupply i us = ((m.inputOut i).pwrEvent 3 Fields.PWR_EVENT.HV_SUPPLY).when
      (!(m.inputOut i).isLost 3) Mod.h0Lost := by
    rw [Mod.hvSupply, if_neg (by omega)]
    rfl
  obtain ⟨-, -, hy⟩ := inputOut_frame i m
  have hl' : (m.inputOut i).isLost 3 = true := by rw [Mod.isLost, hy]; exact hl
  rw [hif, hl', Bool.not_true, Mod.when_false]

theorem answers_hvSupply_lost (s : State) (i us : Nat) (hi : i < 3) (hus : 20 < us) (hl : s.m.isLost 3 = true) :
    Answers (.hvSupply i us) s (fun t => t.flag Reg.PWR_STATUS ⟨2 + i, 1⟩ = false ∧
      t.flag Reg.PWR_EVENT Fields.PWR_EVENT.HV_SUPPLY = true ∧ t.isLost 3 = true ∧ SameMemory s.m t ∧
      SameRegsPost [Reg.PWR_STATUS, Reg.PWR_EVENT] s.m t) := by
  obtain ⟨hg, hs, hy⟩ := inputOut_frame i s.m
  have ht := s.m.hvSupply_eq_lost i us hus hl
  have k := onlyPosts_pwrEvent 3 Fields.PWR_EVENT.HV_SUPPLY (s.m.inputOut i)
  have hevent := flag_pwrEvent 3 Fields.PWR_EVENT.HV_SUPPLY (s.m.inputOut i) (by decide) rfl
  have hlost : ((s.m.inputOut i).pwrEvent 3 Fields.PWR_EVENT.HV_SUPPLY).isLost 3 = true := by
    rw [Mod.isLost, sys_pwrEvent, hy]
    exact hl
  have hregs := ((sameRegs_inputOut i s.m).mono (l' := [Reg.PWR_STATUS, Reg.PWR_EVENT]) (by simp)).post.trans
    (k.2.mono (by simp))
  generalize (s.m.inputOut i).pwrEvent 3 Fields.PWR_EVENT.HV_SUPPLY = t at *
  exact answers_always rfl (by simpa [Wf.hvSupply] using hi) ht
    ⟨(k.flag _ (by decide) (by decide)).trans (flag_inputOut i s.m hi), hevent, hlost,
      (SameMemory.of_eq hg hs).trans k.memory, hregs⟩

theorem answers_hgndRange_lost (s : State) (ofs : Int) (us : Nat) (hw : ofs.natAbs < 2048) (ho : 1050 < ofs.natAbs)
    (hus : 1000 ≤ us) (hl : s.m.isLost 3 = true) :
    Answers (.hgndRange ofs us) s (fun t => t.rd Reg.PWR_HV_MON Fields.PWR_HV_MON.HGND_OFS = unsign 12 ofs ∧
      t.flag Reg.PWR_EVENT Fields.PWR_EVENT.HGND_RANGE = true ∧ SameMemory s.m t ∧
      SameRegsPost [Reg.PWR_HV_MON, Reg.PWR_EVENT] s.m t) := by
  have hofs := rd_hgnd s.m ofs
  have hmem : SameMemory s.m (s.m.wr Reg.PWR_HV_MON Fields.PWR_HV_MON.HGND_OFS (unsign 12 ofs)) := .of_eq rfl rfl
  have hregs := ((SameRegs.refl [Reg.PWR_HV_MON, Reg.PWR_EVENT] s.m).wr Reg.PWR_HV_MON Fields.PWR_HV_MON.HGND_OFS
    (unsign 12 ofs) List.mem_cons_self).post
  have ht : s.m.hgndRange ofs us = ((s.m.wr Reg.PWR_HV_MON Fields.PWR_HV_MON.HGND_OFS (unsign 12 ofs)).pwrEvent 3
      Fields.PWR_EVENT.HGND_RANGE).when (!s.m.isLost 3) Mod.h0Lost := by
    rw [Mod.hgndRange, if_neg (by omega)]
    rfl
  rw [hl, Bool.not_true, Mod.when_false] at ht
  generalize s.m.wr Reg.PWR_HV_MON Fields.PWR_HV_MON.HGND_OFS (unsign 12 ofs) = x at ht hofs hmem hregs
  have k := onlyPosts_pwrEvent 3 Fields.PWR_EVENT.HGND_RANGE x
  have hevent := flag_pwrEvent 3 Fields.PWR_EVENT.HGND_RANGE x (by decide) rfl
  exact answers_always rfl (by simpa [Wf.hgndRange] using hw) ht
    ⟨(k.rd _ (by decide) (by decide)).trans hofs, hevent, hmem.trans k.memory, hregs.trans (k.2.mono (by simp))⟩

/-! ### Rails (R43) -/

/-- A sequencer of the core die's loss has no work, and the blocks its pin dies were sent stay (Table 1.7). -/
theorem job_seqsHeld (m : Mod) (n : Nat) (hn : n < 32) : (m.seqsHeld.seq n).job = none := by
  have hset : ∀ k x, (Mod.seq (Mod.setSeq k (Mod.seq x k).held x) k).job = none := by
    intro k x
    rw [Mod.seq_setSeq_self]
    rfl
  have hkeep : ∀ j k x, (Mod.seq x j).job = none → (Mod.seq (Mod.setSeq k (Mod.seq x k).held x) j).job = none := by
    intro j k x hx
    by_cases he : j = k
    · rw [he]; exact hset k x
    · rw [Mod.seq_setSeq_ne _ _ _ _ he]; exact hx
  exact Mod.each_sets (fun k x => (x.seq k).job = none) (List.range 32) _ hset hkeep m n (List.mem_range.mpr hn)

theorem sent_seqsHeld (m : Mod) (n : Nat) : (m.seqsHeld.seq n).sent = (m.seq n).sent := by
  refine Mod.each_keeps m (fun x => (x.seq n).sent = (m.seq n).sent) (List.range 32) _ (fun k _ x hx => ?_) rfl
  by_cases he : n = k
  · rw [he, Mod.seq_setSeq_self, ← he]; exact hx
  · rw [Mod.seq_setSeq_ne _ _ _ _ he]; exact hx

/-- The loss of the core die does no more to the sequencers. -/
theorem seq_coreLost (m : Mod) (n : Nat) : m.coreLost.seq n = m.seqsHeld.seq n := by
  rw [Mod.seq, Mod.seq]
  unfold Mod.coreLost
  generalize m.seqsHeld = x
  rfl

/-- With the core die PWRGOOD, the queues and dispatch go. -/
theorem coreLost_stops (m : Mod) :
    m.coreLost.sys.pwrgood = false ∧ m.coreLost.queues = [] ∧ m.coreLost.hat.stopped = true := ⟨rfl, rfl, rfl⟩

theorem Mod.railFault_eq_core (m : Mod) (r us : Nat) (hr : r < 3) (hus : 10 < us) : m.railFault r us =
    ((m.wr Reg.PWR_STATUS (railsOk 0) 0).mark Reg.PWR_EVENT Fields.PWR_EVENT.RAIL_FAULT).coreLost := by
  have hd : railDie r = 0 := by rw [railDie, if_pos hr]
  rw [Mod.railFault, hd, if_neg (by omega), if_pos rfl]

/-- What a rail of the core die that is out leaves of `a` in `t`: the event stands, the die is lost with all its work, and the
blocks sent and the memories stay. -/
structure CoreOut (a t : Mod) : Prop where
  event : t.flag Reg.PWR_EVENT Fields.PWR_EVENT.RAIL_FAULT = true
  rails : t.flag Reg.PWR_STATUS Fields.PWR_STATUS.CORE_RAILS_OK = false
  lost : t.isLost 0 = true
  pwrgood : t.sys.pwrgood = false
  queues : t.queues = []
  stopped : t.hat.stopped = true
  ports : ∀ n < 32, (t.seq n).job = none ∧ (t.seq n).sent = (a.seq n).sent
  memory : SameMemory a t

/-- The core die's loss after a module `x` in which the event stands. -/
theorem coreOut_coreLost {a x : Mod} (he : x.flag Reg.PWR_EVENT Fields.PWR_EVENT.RAIL_FAULT = true)
    (hm : SameMemory a x) (hseqs : x.seqs = a.seqs) : CoreOut a x.coreLost := by
  obtain ⟨hg, hs, hl, -⟩ := coreLost_state x
  obtain ⟨-, hrails, hev⟩ := coreLost_regs x
  obtain ⟨hgood, hqueues, hstop⟩ := coreLost_stops x
  have hseq (n : Nat) : x.seq n = a.seq n := by rw [Mod.seq, hseqs, Mod.seq]
  refine ⟨?_, hrails, hl, hgood, hqueues, hstop, fun n hn => ?_, hm.trans (.of_eq hg hs)⟩
  · rw [Mod.flag, Mod.rd, hev]
    exact he
  · rw [seq_coreLost, sent_seqsHeld, hseq]
    exact ⟨job_seqsHeld x n hn, rfl⟩

theorem coreOut_railFault (m : Mod) (r us : Nat) (hr : r < 3) (hus : 10 < us) : CoreOut m (m.railFault r us) := by
  rw [m.railFault_eq_core r us hr hus]
  exact coreOut_coreLost (Mod.flag_mark_self _ _ _ (by decide) rfl) (.of_eq rfl rfl) rfl

theorem answers_railFault_core (s : State) (r us : Nat) (hr : r < 3) (hus : 10 < us) :
    Answers (.railFault r us) s (fun t => t.flag Reg.PWR_EVENT Fields.PWR_EVENT.RAIL_FAULT = true ∧
      t.flag Reg.PWR_STATUS Fields.PWR_STATUS.CORE_RAILS_OK = false ∧ t.isLost 0 = true ∧ t.sys.pwrgood = false ∧
      t.queues = [] ∧ t.hat.stopped = true ∧
      (∀ n : Nat, n < 32 → (t.seq n).job = none ∧ (t.seq n).sent = (s.m.seq n).sent) ∧ SameMemory s.m t) := by
  obtain ⟨t, ht, h⟩ : ∃ t, s.m.railFault r us = t ∧ CoreOut s.m t := ⟨_, rfl, coreOut_railFault s.m r us hr hus⟩
  exact answers_always rfl (by simp [Wf.railFault]; omega) ht
    ⟨h.event, h.rails, h.lost, h.pwrgood, h.queues, h.stopped, h.ports, h.memory⟩

/-- The dies of the rails that do not feed the core die (Table 2.6). -/
theorem railDie_supply {r : Nat} (h3 : 3 ≤ r) (h22 : r < 22) : railDie r ∈ supplyDies := by
  obtain h | h | h : r < 11 ∨ (11 ≤ r ∧ r < 19) ∨ 19 ≤ r := by omega
  · rw [railDie_device h3 h]; exact supplyDies_device (by omega) (by omega)
  · rw [railDie_pinDie h.1 h.2]; exact supplyDies_pinDie (by omega)
  · rw [railDie, if_neg (by omega), if_neg (by omega), if_neg (by omega)]; decide

theorem Mod.railFault_eq_lost (m : Mod) (r us : Nat) (hus : 10 < us) (hd : railDie r ∈ supplyDies)
    (hl : m.isLost (railDie r) = true) : m.railFault r us = m.railsOut (railDie r) Fields.PWR_EVENT.RAIL_FAULT := by
  have hif : m.railFault r us = (m.railsOut (railDie r) Fields.PWR_EVENT.RAIL_FAULT).when (!m.isLost (railDie r))
      (Mod.dieLost (railDie r)) := by
    rw [Mod.railFault, if_neg (by omega), if_neg (ne_zero_of_supplyDies hd)]
    rfl
  rw [hif, hl, Bool.not_true, Mod.when_false]

theorem answers_railFault_lost (s : State) (r us : Nat) (h3 : 3 ≤ r) (h22 : r < 22) (hus : 10 < us)
    (hl : s.m.isLost (railDie r) = true) :
    Answers (.railFault r us) s (fun t => t.flag Reg.PWR_STATUS (railsOk (railDie r)) = false ∧
      t.flag Reg.PWR_EVENT Fields.PWR_EVENT.RAIL_FAULT = true ∧ SameMemory s.m t ∧
      SameRegsPost [Reg.PWR_STATUS, Reg.PWR_EVENT] s.m t) := by
  have hd := railDie_supply h3 h22
  have hbits := railsOk_below _ (List.mem_cons_of_mem 0 hd)
  have ht := s.m.railFault_eq_lost r us hus hd hl
  have k : OnlyPosts [Reg.PWR_EVENT] (s.m.wr Reg.PWR_STATUS (railsOk (railDie r)) 0)
    (s.m.railsOut (railDie r) Fields.PWR_EVENT.RAIL_FAULT) := onlyPosts_pwrEvent _ _ _
  have hregs := ((SameRegs.refl [Reg.PWR_STATUS, Reg.PWR_EVENT] s.m).wr Reg.PWR_STATUS (railsOk (railDie r)) 0
    List.mem_cons_self).post
  exact answers_always rfl (by simp [Wf.railFault]; omega) ht
    ⟨(k.flag _ (by decide) (by decide)).trans (Mod.flag_wr_zero _ _ _ (by omega)), flag_pwrEvent _ _ _ (by decide) rfl,
      SameMemory.trans (b := s.m.wr Reg.PWR_STATUS (railsOk (railDie r)) 0) (.of_eq rfl rfl) k.memory,
      hregs.trans (k.2.mono (by simp))⟩

/-! ### Trips of the core die (R46) -/

/-- What the trip of the core die leaves of `a` in `b`, with dispatch stopped. -/
structure CoreTripped (a b : Mod) : Prop where
  gddr : b.gddr = a.gddr
  sram : b.sram = a.sram
  sys : b.sys = a.sys
  stopped : b.hat.stopped = true
  low : ∀ o < 0x100000, b.reg o = a.reg o

theorem SeqsOnly.coreTripped {a b : Mod} (h : SeqsOnly a.stopDispatch b) : CoreTripped a b where
  gddr := by rw [h.rest]; rfl
  sram := by rw [h.rest]; rfl
  sys := by rw [h.rest]; rfl
  stopped := by rw [h.rest]; rfl
  low := h.low

theorem coreTripped_coreTrip (m : Mod) : CoreTripped m m.coreTrip := by
  unfold Mod.coreTrip
  dsimp only
  split
  · have h := (SeqsOnly.each (allBelow 16 (fun n => (m.stopDispatch.seq n).job.isSome && !(m.stopDispatch.seq n).mirror)) _
      m.stopDispatch fun n x => seqsOnly_idle n x).coreTripped
    exact { h with }
  · exact (seqsOnly_stopPorts _ _).coreTripped

theorem Tripped.core {k d : Nat} {x : Int} {a b c : Mod} (h : Tripped k d x a b) (t : CoreTripped b c) (hk : k < 17) :
    Tripped k d x a c := by
  obtain ⟨hlow, -⟩ := pwrTemp_apart hk
  refine ⟨h.memory.trans (.of_eq t.gddr t.sram), ?_, ?_, ?_, ?_⟩
  · rw [Mod.rd, t.low _ hlow]; exact h.temp
  · rw [Mod.flag, Mod.rd, t.low _ (by decide)]; exact h.event
  · rw [Mod.flag, Mod.rd, t.low _ (by decide)]; exact h.active
  · rw [t.sys]; exact h.held

theorem Mod.tripSensor_eq_core (m : Mod) (k : Nat) (x : Int) (hk : k < 4) (hx : 840 ≤ x)
    (hn : SMap.get badDefault m.sys.tripped 0 = false) : m.tripSensor k x = (m.tripHeld k 0 x).coreTrip := by
  have hdie : sensorDie k = 0 := by rw [sensorDie, if_pos hk]
  have hpoint : sensorTrip k = 840 := by rw [sensorTrip, if_pos (by omega)]
  have hc : ¬ (x < sensorTrip k ∨ SMap.get badDefault (m.putTemp k x true).sys.tripped 0 = true) := by
    rw [not_or, show (m.putTemp k x true).sys = m.sys from rfl, hn, hpoint]
    exact ⟨by omega, Bool.false_ne_true⟩
  rw [Mod.tripSensor, hdie, if_neg hc, if_pos rfl]
  rfl

theorem answers_trip_core (s : State) (k : Nat) (x : Int) (hk : k < 4) (hx : 840 ≤ x) (hx' : x < 2048)
    (hn : SMap.get badDefault s.m.sys.tripped 0 = false) :
    Answers (.trip k x) s (fun t => t.rd (Reg.PWR_TEMP k) Fields.PWR_TEMP.TEMP = unsign 12 x ∧
      t.flag Reg.PWR_EVENT Fields.PWR_EVENT.TRIP_CORE = true ∧ t.flag Reg.PWR_STATUS Fields.PWR_STATUS.TRIP_ACTIVE = true ∧
      t.hat.stopped = true ∧ SMap.get badDefault t.sys.tripped 0 = true ∧ SameMemory s.m t) := by
  have ht := s.m.tripSensor_eq_core k x hk hx hn
  have hcore := coreTripped_coreTrip (s.m.tripHeld k 0 x)
  have h := (tripped_tripHeld k 0 x s.m (by omega)).core hcore (by omega)
  generalize (s.m.tripHeld k 0 x).coreTrip = t at ht hcore h
  exact answers_always rfl (by simp [Wf.trip]; omega) ht ⟨h.temp, h.event, h.active, hcore.stopped, h.held, h.memory⟩

/-! ### Drivers of a pin die (R44) -/

/-- The driver and the comparator of a pin are disconnected: high impedance, and nothing left to drive or to judge. -/
def Pin.disconnected (x : Pin) : Prop := x.drive = Drive.off ∧ x.events = [] ∧ x.strobes = []

theorem disconnected_pinOff (d k : Nat) (m : Mod) : ((Mod.pinOff d k m).pin (128 * d + k)).disconnected := by
  rw [Mod.pinOff, Mod.pin_setPin_self]
  exact ⟨rfl, rfl, rfl⟩

theorem disconnected_pinOff_keeps (d j k : Nat) (m : Mod) (h : (m.pin (128 * d + j)).disconnected) :
    ((Mod.pinOff d k m).pin (128 * d + j)).disconnected := by
  by_cases he : j = k
  · rw [he]; exact disconnected_pinOff d k m
  · rw [Mod.pinOff, Mod.pin, Mod.setPin, SMap.get_set_ne _ _ _ _ _ (by omega)]
    exact h

/-- Strobes that judge nothing more change no pin. -/
theorem pins_driversOff (d : Nat) (m : Mod) :
    (m.driversOff d).pins = ((m.setLost (17 + d) true).each (List.range 128) (Mod.pinOff d)).pins := by
  unfold Mod.driversOff
  exact Mod.each_keeps _ (fun x => x.pins = ((m.setLost (17 + d) true).each (List.range 128) (Mod.pinOff d)).pins) _ _
    (fun _ _ _ hx => hx) rfl

theorem disconnected_driversOff (d : Nat) (m : Mod) (i : Nat) (hi : i < 128) :
    ((m.driversOff d).pin (128 * d + i)).disconnected := by
  rw [Mod.pin, pins_driversOff]
  exact Mod.each_sets (fun k x => (x.pin (128 * d + k)).disconnected) (List.range 128) (Mod.pinOff d)
    (disconnected_pinOff d) (disconnected_pinOff_keeps d) (m.setLost (17 + d) true) i (List.mem_range.mpr hi)

theorem answers_driverDisconnect (s : State) (d : Nat) (hd : d < 2) :
    Answers (.driverDisconnect d) s (fun t => t.isLost (17 + d) = true ∧
      (∀ i : Nat, i < 128 → (t.pin (128 * d + i)).drive = Drive.off ∧ (t.pin (128 * d + i)).events = [] ∧
        (t.pin (128 * d + i)).strobes = []) ∧ SameMemory s.m t ∧ SameRegs [] s.m t ∧ t.outs = s.m.outs) := by
  have k := pinsOnly_driversOff d s.m
  have hpins := disconnected_driversOff d s.m
  have hlost : (s.m.setLost (17 + d) true).isLost (17 + d) = true := Mod.isLost_setLost_self _ _ _
  generalize ht : s.m.driversOff d = t at k hpins
  have hrest : t.sys = (s.m.setLost (17 + d) true).sys ∧ t.gddr = s.m.gddr ∧ t.sram = s.m.sram ∧ t.regs = s.m.regs ∧
      t.outs = s.m.outs := by
    rw [k]
    exact ⟨rfl, rfl, rfl, rfl, rfl⟩
  obtain ⟨hsys, hg, hs, hr, ho⟩ := hrest
  rw [Mod.isLost, ← hsys] at hlost
  exact answers_always rfl (by simpa [Wf.driverDisconnect] using hd) ht ⟨hlost, hpins, .of_eq hg hs, .of_eq hr, ho⟩

/-- Settles O11, one lemma for each supply event and for the trip of the core die. -/
theorem supplyTrips : Obligations.SupplyTrips :=
  ⟨answers_vinTrip, answers_hvSupply_lost, answers_hgndRange_lost, answers_railFault_core, answers_railFault_lost,
    answers_trip_core, answers_driverDisconnect⟩

end Sys2Proof.Machine
end

section
/-!
PROOF. The governor's samples and its steps (R47, R49): O14.
-/

namespace Sys2Proof.Machine

/-! ### Samples (R47) -/

/-- VIN and its current are stored, each up to the largest value of its field. -/
def Mod.vinSampled (mv ma : Nat) (m : Mod) : Mod :=
  (m.wr Reg.PWR_VIN_MEAS Fields.PWR_VIN_MEAS.VOLT (min mv 0xFFFF)).wr Reg.PWR_VIN_MEAS Fields.PWR_VIN_MEAS.CURR
    (min ma 0xFFFF)

theorem rd_vinSampled_volt (mv ma : Nat) (m : Mod) :
    (m.vinSampled mv ma).rd Reg.PWR_VIN_MEAS Fields.PWR_VIN_MEAS.VOLT = min mv 0xFFFF :=
  (Mod.rd_wr_field _ _ _ _ _ (by decide)).trans
    ((Mod.rd_wr_self _ _ _ _ (by decide)).trans (Nat.mod_eq_of_lt (Nat.lt_succ_of_le (Nat.min_le_right _ _))))

theorem rd_vinSampled_curr (mv ma : Nat) (m : Mod) :
    (m.vinSampled mv ma).rd Reg.PWR_VIN_MEAS Fields.PWR_VIN_MEAS.CURR = min ma 0xFFFF :=
  (Mod.rd_wr_self _ _ _ _ (by decide)).trans (Nat.mod_eq_of_lt (Nat.lt_succ_of_le (Nat.min_le_right _ _)))

theorem sameRegs_vinSampled (mv ma : Nat) (m : Mod) : SameRegs [Reg.PWR_VIN_MEAS] m (m.vinSampled mv ma) :=
  ((SameRegs.refl _ m).wr _ _ _ List.mem_cons_self).wr _ _ _ List.mem_cons_self

/-- A sample without sensors stores VIN and may raise TEMP_WARN for the sensors read before. -/
theorem governorSample_nil (mv ma : Nat) (m : Mod) : ∃ x rose, OnlyPosts [Reg.PWR_EVENT] (m.vinSampled mv ma) x ∧
    m.governorSample mv ma [] = { x with sys := { x.sys with govRose := rose } } :=
  ⟨_, _, onlyPosts_when _ _ _ _ (onlyPosts_pwrEvent 1 Fields.PWR_EVENT.TEMP_WARN _), rfl⟩

theorem answers_governorSample (s : State) (mv ma : Nat) (hh : s.m.flt.halted = false) :
    Answers (.governorSample mv ma []) s (fun t => t.rd Reg.PWR_VIN_MEAS Fields.PWR_VIN_MEAS.VOLT = min mv 0xFFFF ∧
      t.rd Reg.PWR_VIN_MEAS Fields.PWR_VIN_MEAS.CURR = min ma 0xFFFF ∧ SameMemory s.m t ∧
      SameRegsPost [Reg.PWR_VIN_MEAS, Reg.PWR_EVENT] s.m t) := by
  obtain ⟨x, rose, hx, ht⟩ := governorSample_nil mv ma s.m
  have hmem : SameMemory s.m x := SameMemory.trans (b := s.m.vinSampled mv ma) (.of_eq rfl rfl) hx.memory
  have hregs : SameRegsPost [Reg.PWR_VIN_MEAS, Reg.PWR_EVENT] s.m x :=
    ((sameRegs_vinSampled mv ma s.m).mono (by simp)).post.trans (hx.2.mono (by simp))
  exact answers_command rfl rfl hh ht
    ⟨(hx.rd _ (by decide) (by decide)).trans (rd_vinSampled_volt mv ma s.m),
      (hx.rd _ (by decide) (by decide)).trans (rd_vinSampled_curr mv ma s.m), hmem, hregs⟩

/-! ### Levels (R49) -/

/-- The level in force: the governor's own or the forced one, the greater, up to MAX_LEVEL. -/
def Mod.levelInForce (m : Mod) : Nat :=
  min m.maxLevel (max (min 4 (m.rd Reg.PWR_GOV_CTRL Fields.PWR_GOV_CTRL.FORCE_LEVEL)) m.sys.govLevel)

/-- The field LEVEL holds every level. -/
theorem levelInForce_lt (m : Mod) : m.levelInForce < 8 := by
  have h : m.levelInForce ≤ 4 := (Nat.min_le_left _ _).trans (Nat.min_le_left _ _)
  omega

/-- Tracing that resumes changes Hatch alone (R134). -/
theorem traceGap_eq (m : Mod) : ∃ x, m.traceGap = { m with hat := x } := by
  unfold Mod.traceGap
  split
  · exact ⟨m.hat, rfl⟩
  · split
    · exact ⟨m.hat, rfl⟩
    · exact ⟨_, rfl⟩

/-- LEVEL is written, THROTTLED may be raised, and tracing may resume. -/
theorem applyLevel_eq (m : Mod) : ∃ x hat, OnlyPosts [Reg.PWR_EVENT]
    (m.wr Reg.PWR_STATUS Fields.PWR_STATUS.LEVEL m.levelInForce) x ∧ m.applyLevel = { x with hat := hat } := by
  have hpost (p : Bool) := onlyPosts_when [Reg.PWR_EVENT] p _ _ (onlyPosts_pwrEvent 1 Fields.PWR_EVENT.THROTTLED
    (m.wr Reg.PWR_STATUS Fields.PWR_STATUS.LEVEL m.levelInForce))
  have hgap (p : Bool) (x : Mod) : ∃ hat, x.when p Mod.traceGap = { x with hat := hat } := by
    cases p
    · exact ⟨x.hat, rfl⟩
    · exact traceGap_eq x
  obtain ⟨hat, hh⟩ := hgap _ _
  exact ⟨_, hat, hpost _, hh⟩

/-- The governor's level of `a` is in force in `t`, which is `a` but for LEVEL, what the change posts, and tracing. -/
structure LevelApplied (a t : Mod) : Prop where
  level : t.rd Reg.PWR_STATUS Fields.PWR_STATUS.LEVEL = a.levelInForce
  sys : t.sys = a.sys
  memory : SameMemory a t
  regs : SameRegsPost [Reg.PWR_STATUS, Reg.PWR_EVENT] a t

theorem levelApplied_applyLevel (m : Mod) : LevelApplied m m.applyLevel := by
  obtain ⟨x, hat, hx, ht⟩ := applyLevel_eq m
  have hlevel : x.rd Reg.PWR_STATUS Fields.PWR_STATUS.LEVEL = m.levelInForce := by
    rw [hx.rd _ (by decide) (by decide), Mod.rd_wr_self _ _ _ _ (by decide)]
    exact Nat.mod_eq_of_lt (levelInForce_lt m)
  have hsys : x.sys = m.sys := by rw [hx.1]; rfl
  have hmem : SameMemory m x :=
    SameMemory.trans (b := m.wr Reg.PWR_STATUS Fields.PWR_STATUS.LEVEL m.levelInForce) (.of_eq rfl rfl) hx.memory
  have hregs : SameRegsPost [Reg.PWR_STATUS, Reg.PWR_EVENT] m x :=
    ((SameRegs.refl _ m).wr _ _ _ List.mem_cons_self).post.trans (hx.2.mono (by simp))
  rw [ht]
  exact ⟨hlevel, hsys, hmem, hregs⟩

/-- The governor's own level, and whether it last rose. -/
def Mod.setGov (level : Nat) (rose : Bool) (m : Mod) : Mod :=
  { m with sys := { m.sys with govLevel := level, govRose := rose } }

/-- 1 ms under the throttle condition is enough for the first rise and for a further one. -/
theorem Mod.levelRise_eq (m : Mod) (us : Nat) (ht : m.throttling = true) (hus : 1000 ≤ us) : m.levelRise us =
    (m.setGov (max (min m.maxLevel (m.sys.govLevel + 1)) m.sys.govLevel) true).applyLevel := by
  have hlong : decide (us < if m.sys.govRose then 1000 else 100) = false := by
    rw [decide_eq_false_iff_not]
    split <;> omega
  rw [Mod.levelRise, ht, hlong, if_neg (by decide)]
  rfl

theorem Mod.levelFall_eq (m : Mod) (us : Nat) (ht : m.throttleClear = true) (hus : 10000 ≤ us) :
    m.levelFall us = (m.setGov (m.sys.govLevel - 1) false).applyLevel := by
  have hlong : decide (us < 10000) = false := decide_eq_false (by omega)
  rw [Mod.levelFall, ht, hlong, if_neg (by decide)]
  rfl

theorem answers_levelRise (s : State) (us : Nat) (hh : s.m.flt.halted = false) (ht : s.m.throttling = true)
    (hus : 1000 ≤ us) :
    Answers (.levelRise us) s (fun t =>
      t.sys.govLevel = max (min s.m.maxLevel (s.m.sys.govLevel + 1)) s.m.sys.govLevel ∧
      t.rd Reg.PWR_STATUS Fields.PWR_STATUS.LEVEL = min s.m.maxLevel
        (max (min 4 (s.m.rd Reg.PWR_GOV_CTRL Fields.PWR_GOV_CTRL.FORCE_LEVEL))
          (max (min s.m.maxLevel (s.m.sys.govLevel + 1)) s.m.sys.govLevel)) ∧
      SameMemory s.m t ∧ SameRegsPost [Reg.PWR_STATUS, Reg.PWR_EVENT] s.m t) := by
  have he := s.m.levelRise_eq us ht hus
  have h := levelApplied_applyLevel (s.m.setGov (max (min s.m.maxLevel (s.m.sys.govLevel + 1)) s.m.sys.govLevel) true)
  generalize Mod.applyLevel _ = t at he h
  exact answers_command rfl rfl hh he ⟨congrArg Sys.govLevel h.sys, h.level, h.memory, h.regs⟩

theorem answers_levelFall (s : State) (us : Nat) (hh : s.m.flt.halted = false) (ht : s.m.throttleClear = true)
    (hus : 10000 ≤ us) :
    Answers (.levelFall us) s (fun t => t.sys.govLevel = s.m.sys.govLevel - 1 ∧
      t.rd Reg.PWR_STATUS Fields.PWR_STATUS.LEVEL = min s.m.maxLevel
        (max (min 4 (s.m.rd Reg.PWR_GOV_CTRL Fields.PWR_GOV_CTRL.FORCE_LEVEL)) (s.m.sys.govLevel - 1)) ∧
      SameMemory s.m t ∧ SameRegsPost [Reg.PWR_STATUS, Reg.PWR_EVENT] s.m t) := by
  have he := s.m.levelFall_eq us ht hus
  have h := levelApplied_applyLevel (s.m.setGov (s.m.sys.govLevel - 1) false)
  generalize Mod.applyLevel _ = t at he h
  exact answers_command rfl rfl hh he ⟨congrArg Sys.govLevel h.sys, h.level, h.memory, h.regs⟩

/-- Settles O14: a sample stores VIN whatever it raises, and both steps end in the level in force. -/
theorem governorLevels : Obligations.GovernorLevels :=
  ⟨answers_governorSample, answers_levelRise, answers_levelFall⟩

end Sys2Proof.Machine
end

section
/-!
PROOF. The events of start, in their order (R52, R53, R55 to R59, R61): O15.
-/

namespace Sys2Proof.Machine

/-! ### What a step of the start that moves it on keeps -/

theorem StartMoved.memory {a b : Mod} (h : StartMoved a b) : SameMemory a b := by
  rw [h.rest]
  exact .of_eq rfl rfl

theorem StartMoved.outs {a b : Mod} (h : StartMoved a b) : b.outs = a.outs := by rw [h.rest]

theorem StartMoved.unitStarted {a b : Mod} (h : StartMoved a b) (u : Nat) : b.unitStarted u = a.unitStarted u := by
  rw [h.rest]
  rfl

theorem StartMoved.unitLeft {a b : Mod} (h : StartMoved a b) (u : Nat) : b.unitLeft u = a.unitLeft u := by
  rw [h.rest]
  rfl

theorem StartMoved.flag {a b : Mod} (h : StartMoved a b) {o : Nat} (f : Fld) (h1 : o ≠ Reg.GLB_START_STATE)
    (h2 : o ≠ Reg.PWR_STATUS) : b.flag o f = a.flag o f := by
  rw [Mod.flag, Mod.rd, h.regs o h1 h2, Mod.flag, Mod.rd]

/-- A unit that has started stays so marked. -/
theorem unitStarted_setStarted (u : Nat) (m : Mod) : (m.setStarted u true).unitStarted u = true :=
  SMap.get_set_self badDefault _ u true

/-- A flag that is set stands when another field of its register is written. -/
theorem flag_wr_apart (m : Mod) (off : Nat) (f g : Fld) (v : Nat) (hm : m.flag off f = true)
    (h : f.lo + f.width ≤ g.lo ∨ g.lo + g.width ≤ f.lo) : (m.wr off g v).flag off f = true := by
  rw [Mod.flag, Mod.rd_wr_field _ _ _ _ _ h]
  exact hm

/-! ### Release of cold reset and the power stage (R55 to R58) -/

/-- PROF is sampled and STATE becomes the slot check, with VAUX in range (R55). -/
def Mod.profSampled (prof : Nat) (m : Mod) : Mod :=
  ((m.setStart 1).wr Reg.GLB_START_STATE Fields.GLB_START_STATE.PROFILE prof).wr Reg.PWR_STATUS
    Fields.PWR_STATUS.VAUX_OK 1

theorem startState_profSampled (prof : Nat) (m : Mod) : (m.profSampled prof).startState = 1 :=
  (Mod.rd_wr_ne _ _ _ _ _ _ (by decide)).trans
    ((Mod.rd_wr_field _ _ _ _ _ (by decide)).trans (Mod.rd_wr_self _ _ _ _ (by decide)))

theorem profile_profSampled (prof : Nat) (m : Mod) (hp : prof < 4) :
    (m.profSampled prof).rd Reg.GLB_START_STATE Fields.GLB_START_STATE.PROFILE = prof :=
  (Mod.rd_wr_ne _ _ _ _ _ _ (by decide)).trans
    ((Mod.rd_wr_self _ _ _ _ (by decide)).trans (Nat.mod_eq_of_lt hp))

theorem sameRegs_profSampled (prof : Nat) (m : Mod) :
    SameRegs [Reg.GLB_START_STATE, Reg.PWR_STATUS] m (m.profSampled prof) :=
  (((SameRegs.refl _ m).wr _ _ _ (by simp)).wr _ _ _ (by simp)).wr _ _ _ (by simp)

/-- Once VAUX has held for 10 ms, cold reset is released whatever VIN has done. -/
theorem Mod.coldRelease_eq (m : Mod) (prof ms aux : Nat) (hc : m.sys.coldHeld = true) (ha : 10 ≤ aux) :
    ∃ latched dir, m.coldRelease prof ms aux = Mod.profSampled prof
      { m with sys := { m.sys with coldHeld := false, vinLatched := latched, dirUsed := dir } } := by
  have hlong : decide (aux < 10) = false := decide_eq_false (by omega)
  rw [Mod.coldRelease, hc, hlong, if_neg (by decide)]
  exact ⟨_, _, rfl⟩

theorem answers_coldResetRelease (s : State) (p ms aux : Nat) (hp : p < 4) (hc : s.m.sys.coldHeld = true) (ha : 10 ≤ aux) :
    Answers (.coldResetRelease p ⟨ms, aux⟩) s (fun t => t.startState = 1 ∧
      t.rd Reg.GLB_START_STATE Fields.GLB_START_STATE.PROFILE = p ∧
      t.flag Reg.PWR_STATUS Fields.PWR_STATUS.VAUX_OK = true ∧ t.sys.coldHeld = false ∧ SameMemory s.m t ∧
      SameRegs [Reg.GLB_START_STATE, Reg.PWR_STATUS] s.m t) := by
  obtain ⟨latched, dir, ht⟩ := s.m.coldRelease_eq p ms aux hc ha
  exact answers_always rfl (by simpa [Wf.coldResetRelease] using hp) ht
    ⟨startState_profSampled p _, profile_profSampled p _ hp, Mod.flag_wr_one _ _ _ (by decide) rfl, rfl, .of_eq rfl rfl,
      sameRegs_profSampled p _⟩

/-- VIN is shown in range and the power stage begins (R57, R58 step 1). -/
def Mod.stageBegun (m : Mod) : Mod := (m.wr Reg.PWR_STATUS Fields.PWR_STATUS.VIN_OK 1).setStart 2

theorem Mod.powerStage_eq (m : Mod) (ms : Nat) (hs : m.startState = 0) (hms : 5 ≤ ms) (hv : m.sys.vinLatched = false)
    (hl : m.isLost 0 = false) (hc : m.sys.coldHeld = false) : m.powerStage ms = m.stageBegun := by
  have hgo : ¬ (m.startState ≠ 0 ∨ ms < 5 ∨ m.sys.vinLatched = true ∨ m.isLost 0 = true ∨ m.sys.coldHeld = true) := by
    simpa [hs, hv, hl, hc] using hms
  rw [Mod.powerStage, if_neg hgo]
  rfl

theorem answers_powerStageStart (s : State) (ms : Nat) (hs : s.m.startState = 0) (hms : 5 ≤ ms)
    (hv : s.m.sys.vinLatched = false) (hl : s.m.isLost 0 = false) (hc : s.m.sys.coldHeld = false) :
    Answers (.powerStageStart ms) s (fun t => t.flag Reg.PWR_STATUS Fields.PWR_STATUS.VIN_OK = true ∧ t.startState = 2 ∧
      SameMemory s.m t ∧ SameRegs [Reg.GLB_START_STATE, Reg.PWR_STATUS] s.m t) := by
  have hvin : s.m.stageBegun.flag Reg.PWR_STATUS Fields.PWR_STATUS.VIN_OK = true := by
    rw [Mod.flag, Mod.stageBegun, Mod.setStart, Mod.rd_wr_ne _ _ _ _ _ _ (by decide)]
    exact Mod.flag_wr_one _ _ _ (by decide) rfl
  exact answers_always rfl rfl (s.m.powerStage_eq ms hs hms hv hl hc)
    ⟨hvin, Mod.rd_wr_self _ _ _ _ (by decide), .of_eq rfl rfl,
      ((SameRegs.refl _ _).wr _ _ _ (by simp)).wr _ _ _ (by simp)⟩

/-! ### Units that start or are left off (R52, R53) -/

/-- What showing the rails of a unit keeps of `a` in `b`: the memories, what was said to the outside, and which units have
started. -/
structure RailsShown (a b : Mod) : Prop where
  gddr : b.gddr = a.gddr
  sram : b.sram = a.sram
  outs : b.outs = a.outs
  started : b.sys.started = a.sys.started

theorem railsShown_showRails (u : Nat) (m : Mod) : RailsShown m (m.showRails u) := by
  have hwhen (p : Bool) (f : Mod → Mod) (h : RailsShown m (f m)) : RailsShown m (m.when p f) := by
    cases p
    · exact ⟨rfl, rfl, rfl, rfl⟩
    · exact h
  unfold Mod.showRails
  dsimp only
  split_ifs
  · exact ⟨rfl, rfl, rfl, rfl⟩
  · exact hwhen _ _ ⟨rfl, rfl, rfl, rfl⟩
  · exact hwhen _ _ ⟨rfl, rfl, rfl, rfl⟩
  · exact ⟨rfl, rfl, rfl, rfl⟩

theorem Mod.unitStart_eq (m : Mod) (u : Nat) (h : m.nextUnit u = true) :
    m.unitStart u = ((m.setStarted u true).showRails u).startMove := by
  rw [Mod.unitStart, h, Bool.not_true, if_neg Bool.false_ne_true]

theorem answers_unitStart (s : State) (u : Nat) (hu : u < 50) (hn : u ≠ 29) (h : s.m.nextUnit u = true) :
    Answers (.unitStart u) s (fun t => t.unitStarted u = true ∧ SameMemory s.m t ∧ t.outs = s.m.outs) := by
  have ht := s.m.unitStart_eq u h
  have k := startMoved_startMove ((s.m.setStarted u true).showRails u)
  have r := railsShown_showRails u (s.m.setStarted u true)
  generalize Mod.startMove _ = t at ht k
  have hstarted : t.unitStarted u = true := by
    rw [k.unitStarted, Mod.unitStarted, r.started]
    exact unitStarted_setStarted u s.m
  exact answers_always rfl (by simpa [Wf.unitStart] using ⟨hu, hn⟩) ht
    ⟨hstarted, (SameMemory.of_eq r.gddr r.sram).trans k.memory, k.outs.trans r.outs⟩

/-- A unit fails whose die is out of service already: it is left off, and the die loses nothing more. -/
theorem Mod.startFail_eq_lost (m : Mod) (u : Nat) (hs : m.unitStarted u = false) (hl : m.unitLeft u = false)
    (hp : m.powered = true) (hd : m.isLost (startDie u) = true) :
    m.startFail u = ((m.leaveOff u).railsOut (startDie u) Fields.PWR_EVENT.START_FAIL).startMove := by
  have hif : m.startFail u = (((m.leaveOff u).railsOut (startDie u) Fields.PWR_EVENT.START_FAIL).when
      (!m.isLost (startDie u)) (Mod.dieLost (startDie u))).startMove := by
    rw [Mod.startFail, hs, hl, hp, if_neg (by decide)]
    rfl
  rw [hif, hd, Bool.not_true, Mod.when_false]

theorem answers_startFail_lost (s : State) (u : Nat) (hu : u < 30) (hs : s.m.unitStarted u = false)
    (hl : s.m.unitLeft u = false) (hp : s.m.powered = true) (hd : s.m.isLost (startDie u) = true) :
    Answers (.startFail u) s (fun t => t.unitLeft u = true ∧ t.flag Reg.PWR_EVENT Fields.PWR_EVENT.START_FAIL = true ∧
      SameMemory s.m t) := by
  have ht := s.m.startFail_eq_lost u hs hl hp hd
  have hleft : ((s.m.leaveOff u).railsOut (startDie u) Fields.PWR_EVENT.START_FAIL).unitLeft u = true := by
    rw [Mod.unitLeft, Mod.railsOut, sys_pwrEvent]
    exact SMap.get_set_self badDefault _ u true
  have hevent : ((s.m.leaveOff u).railsOut (startDie u) Fields.PWR_EVENT.START_FAIL).flag Reg.PWR_EVENT
      Fields.PWR_EVENT.START_FAIL = true := flag_pwrEvent _ _ _ (by decide) rfl
  have hmem : SameMemory s.m ((s.m.leaveOff u).railsOut (startDie u) Fields.PWR_EVENT.START_FAIL) :=
    SameMemory.trans (b := (s.m.leaveOff u).wr Reg.PWR_STATUS (railsOk (startDie u)) 0) (.of_eq rfl rfl)
      (onlyPosts_pwrEvent _ _ _).memory
  generalize (s.m.leaveOff u).railsOut (startDie u) Fields.PWR_EVENT.START_FAIL = x at ht hleft hevent hmem
  have k := startMoved_startMove x
  generalize x.startMove = t at ht k
  exact answers_always rfl (by simpa [Wf.startFail] using hu) ht
    ⟨(k.unitLeft u).trans hleft, (k.flag _ (by decide) (by decide)).trans hevent, hmem.trans k.memory⟩

/-! ### Soft-start of H0, the time base and PCIe (R58, R59, R61) -/

/-- The three HV inputs and the rails of H0 are shown in their windows (R59). -/
def Mod.h0RailsUp (m : Mod) : Mod :=
  (((m.wr Reg.PWR_STATUS Fields.PWR_STATUS.VHP_OK 1).wr Reg.PWR_STATUS Fields.PWR_STATUS.VHN_OK 1).wr Reg.PWR_STATUS
    Fields.PWR_STATUS.VHL_OK 1).wr Reg.PWR_STATUS Fields.PWR_STATUS.H0_RAILS_OK 1

theorem flags_h0RailsUp (m : Mod) : m.h0RailsUp.flag Reg.PWR_STATUS Fields.PWR_STATUS.VHP_OK = true ∧
    m.h0RailsUp.flag Reg.PWR_STATUS Fields.PWR_STATUS.VHN_OK = true ∧
    m.h0RailsUp.flag Reg.PWR_STATUS Fields.PWR_STATUS.VHL_OK = true ∧
    m.h0RailsUp.flag Reg.PWR_STATUS Fields.PWR_STATUS.H0_RAILS_OK = true := by
  have hset (x : Mod) (f : Fld) (hf : f.lo < 32) (hw : f.width = 1) : (x.wr Reg.PWR_STATUS f 1).flag Reg.PWR_STATUS f = true :=
    Mod.flag_wr_one x _ f hf hw
  refine ⟨?_, ?_, ?_, hset _ _ (by decide) rfl⟩
  · exact flag_wr_apart _ _ _ _ _ (flag_wr_apart _ _ _ _ _ (flag_wr_apart _ _ _ _ _ (hset _ _ (by decide) rfl)
      (by decide)) (by decide)) (by decide)
  · exact flag_wr_apart _ _ _ _ _ (flag_wr_apart _ _ _ _ _ (hset _ _ (by decide) rfl) (by decide)) (by decide)
  · exact flag_wr_apart _ _ _ _ _ (hset _ _ (by decide) rfl) (by decide)

theorem Mod.h0SoftStart_eq (m : Mod) (ms : Nat) (hs : m.unitStarted 29 = false) (hl : m.isLost 3 = false) (hms : 2 ≤ ms)
    (hp : m.powered = true) (ho : (List.range 29).all (fun u => m.unitStarted u || m.unitLeft u) = true) :
    m.h0SoftStart ms = (m.setStarted 29 true).h0RailsUp.startMove := by
  have hlong : decide (ms < 2) = false := decide_eq_false (by omega)
  rw [Mod.h0SoftStart, hs, hl, hp, ho, hlong, if_neg (by decide)]
  rfl

theorem answers_h0SoftStart (s : State) (ms : Nat) (hs : s.m.unitStarted 29 = false) (hl : s.m.isLost 3 = false)
    (hms : 2 ≤ ms) (hp : s.m.powered = true)
    (ho : (List.range 29).all (fun u => s.m.unitStarted u || s.m.unitLeft u) = true) :
    Answers (.h0SoftStart ms) s (fun t => t.unitStarted 29 = true ∧ t.flag Reg.PWR_STATUS Fields.PWR_STATUS.VHP_OK = true ∧
      t.flag Reg.PWR_STATUS Fields.PWR_STATUS.VHN_OK = true ∧ t.flag Reg.PWR_STATUS Fields.PWR_STATUS.VHL_OK = true ∧
      t.flag Reg.PWR_STATUS Fields.PWR_STATUS.H0_RAILS_OK = true ∧ SameMemory s.m t) := by
  have ht := s.m.h0SoftStart_eq ms hs hl hms hp ho
  have k := startMoved_startMove (s.m.setStarted 29 true).h0RailsUp
  obtain ⟨hvhp, hvhn, hvhl, hrails⟩ := flags_h0RailsUp (s.m.setStarted 29 true)
  generalize Mod.startMove _ = t at ht k
  exact answers_always rfl rfl ht
    ⟨(k.unitStarted 29).trans (unitStarted_setStarted 29 s.m), (k.status _ (by decide)).trans hvhp,
      (k.status _ (by decide)).trans hvhn, (k.status _ (by decide)).trans hvhl, (k.status _ (by decide)).trans hrails,
      SameMemory.trans (b := (s.m.setStarted 29 true).h0RailsUp) (.of_eq rfl rfl) k.memory⟩

theorem answers_timebaseLock (s : State) (hs : s.m.unitStarted 0 = true) :
    Answers .timebaseLock s (fun t => t.flag Reg.GLB_DIE_STATUS Fields.GLB_DIE_STATUS.TB_LOCK = true ∧ SameMemory s.m t ∧
      t.outs = s.m.outs) := by
  have ht : s.m.timebaseLock = (s.m.wr Reg.GLB_DIE_STATUS Fields.GLB_DIE_STATUS.TB_LOCK 1).startMove := by
    rw [Mod.timebaseLock, hs, Bool.not_true, if_neg Bool.false_ne_true]
  have k := startMoved_startMove (s.m.wr Reg.GLB_DIE_STATUS Fields.GLB_DIE_STATUS.TB_LOCK 1)
  generalize Mod.startMove _ = t at ht k
  exact answers_always rfl rfl ht
    ⟨(k.flag _ (by decide) (by decide)).trans (Mod.flag_wr_one _ _ _ (by decide) rfl),
      SameMemory.trans (b := s.m.wr Reg.GLB_DIE_STATUS Fields.GLB_DIE_STATUS.TB_LOCK 1) (.of_eq rfl rfl) k.memory, k.outs⟩

theorem answers_pcieDetect (s : State) (hs : s.m.unitStarted 0 = true) (hp : s.m.pcie.perst = false) :
    Answers .pcieDetect s (fun t => t.sys.pcieDetect = true ∧ SameMemory s.m t ∧ SameRegs [] s.m t) := by
  have ht : s.m.pcieDetect = { s.m with sys := { s.m.sys with pcieDetect := true } } := by
    rw [Mod.pcieDetect, hs, hp, if_neg (by decide)]
  exact answers_always rfl rfl ht ⟨rfl, .of_eq rfl rfl, .of_eq rfl⟩

/-- Settles O15, one lemma for each event of the start. -/
theorem startSequence : Obligations.StartSequence :=
  ⟨answers_coldResetRelease, answers_powerStageStart, answers_unitStart, answers_startFail_lost, answers_h0SoftStart,
    answers_timebaseLock, answers_pcieDetect⟩

end Sys2Proof.Machine
end

section
/-!
PROOF. The state after reset (R71, R194, R308; Chapter 19): O3.
-/

namespace Sys2Proof.Machine

/-- A timing set's period is 2,048 ET at reset (R194). -/
theorem resetOf_SEQ_TPER {n k : Nat} (hn : n < 32) (hk : k < 64) : resetOf (Reg.SEQ_TPER n k) = 0x800#32 := by
  rw [resetOf, if_pos (by unfold Reg.SEQ_TPER; omega), regAt_SEQ_TPER n k hn hk]

theorem rd_reset_period (n k : Nat) (hn : n < 32) (hk : k < 64) :
    State.reset.m.rd (Reg.SEQ_TPER n k) Fields.SEQ_TPER.PERIOD = 2048 :=
  (congrArg (fget Fields.SEQ_TPER.PERIOD) (resetOf_SEQ_TPER hn hk)).trans (by decide)

/-- The time domains hold 0, do not run, and have their nominal increment (R308). -/
theorem reset_domains : ∀ k : Nat, k < 4 → (State.reset.m.dom k).sec = 0 ∧ (State.reset.m.dom k).sub = 0 ∧
    State.reset.m.domRunning k = false ∧ State.reset.m.rd64 (Reg.TD_INC_LO k) = 0x400000000 := by decide

/-- Settles O3: the register file, the memories and the maps of the module are empty, so each entry is the default of its
table. -/
theorem resetState : Obligations.ResetState :=
  ⟨rfl, rfl, rfl, fun _ => rfl, rd_reset_period, reset_domains, fun _ => rfl, fun _ => rfl, rfl, rfl, fun _ => ⟨rfl, rfl⟩⟩

end Sys2Proof.Machine
end

section
/-!
PROOF. Cold resets and pulses too short for one (R37, R65, R69): O17.
-/

namespace Sys2Proof.Machine

/-- A cold reset leaves every register but GLB_RST_CAUSE at its reset value. -/
theorem reg_coldReset (last : Nat) (m : Mod) (o : Nat) (h : o ≠ Reg.GLB_RST_CAUSE) : (m.coldReset last).reg o = resetOf o :=
  Mod.reg_wr_ne _ _ _ _ _ h

theorem last_coldReset {last : Nat} (hl : last < 16) (m : Mod) :
    (m.coldReset last).rd Reg.GLB_RST_CAUSE Fields.GLB_RST_CAUSE.LAST = last :=
  (Mod.rd_wr_self _ _ _ _ (by decide)).trans (Nat.mod_eq_of_lt hl)

/-- What every cold reset leaves, with the code of its source (Table 3.9). -/
theorem answers_coldReset {c : Instr} {f : Mod → Mod} {s : State} {last : Nat} (hc : exec c s = runAlways true f s)
    (hf : f s.m = s.m.coldReset last) (hl : last < 16) :
    Answers c s (fun t => t.rd Reg.GLB_RST_CAUSE Fields.GLB_RST_CAUSE.LAST = last ∧
      (∀ o, o ≠ Reg.GLB_RST_CAUSE → t.reg o = resetOf o) ∧ t.gddr = [] ∧ t.sram = [] ∧ t.queues = [] ∧ t.seqs = [] ∧
      t.hat = Hat.fresh ∧ t.sys.slots = s.m.sys.slots) :=
  answers_always hc rfl hf ⟨last_coldReset hl s.m, reg_coldReset last s.m, rfl, rfl, rfl, rfl, rfl, rfl⟩

theorem mrst_long {ns : Nat} (h : 1000 ≤ ns) (m : Mod) : m.mrst ns = m.coldReset 2 := by
  rw [Mod.mrst, if_neg (by omega)]

theorem mrst_short {ns : Nat} (h : ns < 100) (m : Mod) : m.mrst ns = m := by
  rw [Mod.mrst, if_pos (.inl h)]

/-- Settles O17: a VAUX trip and a long MRST# pulse are the same reset but for LAST, and a short pulse is none. -/
theorem coldResetLeaves : Obligations.ColdResetLeaves :=
  ⟨fun _ => answers_coldReset rfl rfl (by decide), fun s _ h => answers_coldReset rfl (mrst_long h s.m) (by decide),
    fun s _ h => answers_always rfl rfl (mrst_short h s.m) ⟨rfl, rfl, .refl _, rfl, rfl⟩⟩

end Sys2Proof.Machine
end

section
/-!
PROOF. HANDOVER and the blocks the pin dies play on (R70, Table 1.7), and the refutation of O50.
-/

namespace Sys2Proof.Machine

/-! ### What a warm reset does after its dies are reset -/

/-- Dies that come back bring no work to the sequencers (R46). -/
theorem seqs_reviveDies (m : Mod) : m.reviveDies.seqs = m.seqs := by
  unfold Mod.reviveDies
  refine (Mod.wr_seqs _ _ _ _).trans (Mod.each_keeps _ (fun x => x.seqs = m.seqs) _ _ (fun _ _ _ hx => hx) ?_)
  refine Mod.each_keeps m (fun x => x.seqs = m.seqs) _ _ (fun d _ x hx => ?_) rfl
  have hunits (f : Nat → Mod → Mod) (hf : ∀ u y, (f u y).seqs = y.seqs) :
      ((x.setLost d false).each (dieUnits d) f).seqs = m.seqs :=
    Mod.each_keeps _ (fun y => y.seqs = m.seqs) _ f (fun u _ y hy => (hf u y).trans hy) hx
  dsimp only
  split
  · exact hunits _ fun _ _ => rfl
  · exact hunits _ fun _ _ => rfl

/-- A request for calibration sets its bit of CAL_REQ, and else only posts (R340). -/
theorem onlyPosts_calRequest (i : Nat) (m : Mod) : OnlyPosts [Reg.CAL_REQ] m (m.calRequest i) :=
  (onlyPosts_mark _ _ m).trans (onlyPosts_when _ _ _ _ ((onlyPosts_dueAt _ _ _ (by decide)).mono (by simp)))

/-- Nor does a calibration run that the reset ends (R336). -/
theorem seqs_calEnd (result : Nat) (m : Mod) : (m.calEnd result).seqs = m.seqs := by
  unfold Mod.calEnd
  dsimp only
  rw [(onlyPosts_calRequest 7 _).1]
  rfl

/-- HANDOVER resets the core die's part of a sequencer and keeps the blocks its pin dies have been sent (Table 1.7). -/
theorem seqs_diesReset_handover (last : Nat) (m : Mod) : (m.diesReset last true).seqs = m.seqsHeld.seqs := by
  have hafter (b : Bool) (x : Mod) : (x.reviveDies.when b (Mod.calEnd 4)).seqs = x.seqs := by
    cases b
    · exact seqs_reviveDies x
    · exact (seqs_calEnd 4 _).trans (seqs_reviveDies x)
  unfold Mod.diesReset
  generalize m.seqsHeld = held
  exact hafter _ _

theorem sent_handover (last : Nat) (m : Mod) (n : Nat) : ((m.handover last).seq n).sent = (m.seq n).sent := by
  rw [Mod.handover, Mod.seq, seqs_diesReset_handover]
  exact sent_seqsHeld _ n

/-! ### The request -/

/-- The word that requests HANDOVER (Table 3.8). -/
def handoverWord : Word := fput Fields.GLB_RST_CTRL.HANDOVER 1 (fput Fields.GLB_RST_CTRL.WARM 1 0x5A170000#32)

/-- The journal carries no write of GLB_RST_CTRL (R395). -/
theorem Wr.sent_rstCtrl (w : Wr) (m : Mod) (ho : w.off = Reg.GLB_RST_CTRL) : w.sent m = m := by
  have hj : journalled Reg.GLB_RST_CTRL = false := by rw [journalled, regAt_GLB_RST_CTRL]
  have hc : correction Reg.GLB_RST_CTRL = false := by rw [correction, regAt_GLB_RST_CTRL]
  unfold Wr.sent
  dsimp only
  rw [ho, hj, hc]
  exact ite_self _

/-- In a working pair that protects both pin dies the request acts (R70). -/
theorem Wr.act_handover (m : Mod) (i : Init) (d : RegDesc) (hd : d.name = .GLB_RST_CTRL) (hp : m.pairActive = true)
    (hg : m.groupUp 0 = true) (h0 : m.flag (Reg.SL_PDIE_STATUS 0) Fields.SL_PDIE_STATUS.GROUP_OK = true)
    (h1 : m.flag (Reg.SL_PDIE_STATUS 1) Fields.SL_PDIE_STATUS.GROUP_OK = true) :
    Wr.act ⟨i, Reg.GLB_RST_CTRL, d, [], handoverWord⟩ m = .ok (m.handover 6) := by
  have hblock : Reg.GLB_RST_CTRL / 0x100000 = 0 := by decide
  have hlow : pairLows.contains RegName.GLB_RST_CTRL = false := by decide
  have hkey : fget Fields.GLB_RST_CTRL.KEY handoverWord = 0x5A17 := by decide
  have hwarm : (fget Fields.GLB_RST_CTRL.WARM handoverWord != 0) = true := by decide
  have hhand : (fget Fields.GLB_RST_CTRL.HANDOVER handoverWord != 0) = true := by decide
  simp only [Wr.act, hd, hlow, hblock, Wr.global, Wr.rstCtrl, Wr.g, Wr.b, hkey, hwarm, hhand, Wr.unless, hp, hg, h0, h1,
    ne_eq, not_true_eq_false, Bool.and_self, Bool.not_true, Bool.false_eq_true, if_true, if_false]

/-- HANDOVER keeps the blocks that every port's pin dies have been sent. -/
theorem answers_handover_sent (s : State) (i : Init) (ht : s.m.taking = true) (hi : i.wf = true)
    (hp : s.m.pairActive = true) (hg : s.m.groupUp 0 = true)
    (h0 : s.m.flag (Reg.SL_PDIE_STATUS 0) Fields.SL_PDIE_STATUS.GROUP_OK = true)
    (h1 : s.m.flag (Reg.SL_PDIE_STATUS 1) Fields.SL_PDIE_STATUS.GROUP_OK = true) :
    Answers (.handover i) s (fun t => ∀ n : Nat, (t.seq n).sent = (s.m.seq n).sent) := by
  obtain ⟨hh, hl⟩ := s.m.taking_iff.mp ht
  have hopen : s.m.writeOpen i .GLB_RST_CTRL = true := by simp [Mod.writeOpen]
  have hw : s.m.busWrite i Reg.GLB_RST_CTRL handoverWord = s.m.handover 6 :=
    (s.m.busWrite_ok i _ _ _ _ _ hl hh (by decide) (by decide) (by decide) (by decide) regAt_GLB_RST_CTRL hopen
      (Wr.act_handover s.m i _ rfl hp hg h0 h1)).trans (Wr.sent_rstCtrl _ _ rfl)
  exact answers_always rfl hi hw (sent_handover 6 s.m)

/-! ### The refutation -/

/-- The module after reset with every lane of the Site Link ACTIVE. -/
def lanesActive : Mod :=
  { Mod.reset with
    regs := (List.range 65).map (fun k => (Reg.SL_LANE_STATUS k, fput Fields.SL_LANE_STATUS.STATE 5 0#32)) }

/-- A working pair with both pin dies protected, sequencer 0 having sent its pin dies a block. -/
def pairWithBlockSent : State :=
  ⟨[], (((lanesActive.setSlState 4).wr (Reg.SL_PDIE_STATUS 0) Fields.SL_PDIE_STATUS.GROUP_OK 1).wr (Reg.SL_PDIE_STATUS 1)
    Fields.SL_PDIE_STATUS.GROUP_OK 1).setSeq 0 { Seq.fresh with sent := [⟨0, 0, [], [], 0, true, false, false⟩] }⟩

/-- Refutes O50 by its clause on HANDOVER, which has every sequencer fresh afterwards. HANDOVER keeps the blocks that the
pin dies have been sent and play on (R70, Table 1.7), so a port that has sent one is not fresh. -/
theorem not_resetAndProfileCommands : ¬ Obligations.ResetAndProfileCommands := by
  intro h
  obtain ⟨-, hHandover, -⟩ := h
  have hcleared := hHandover pairWithBlockSent .host (by decide) (by decide) (by decide) (by decide) (by decide) (by decide)
  have hkept := answers_handover_sent pairWithBlockSent .host (by decide) (by decide) (by decide) (by decide) (by decide)
    (by decide)
  obtain ⟨t, -, -, ⟨-, -, -, hseqs, -⟩, hsent⟩ := hcleared.and hkept
  have hsent0 := hsent 0
  rw [Mod.seq, hseqs] at hsent0
  exact absurd hsent0 (by decide)

end Sys2Proof.Machine
end

section
/-!
SUPPORT. The start state as the start moves on, and what the flash loader copies and releases (R58, R72, R78, R79, R138).
-/

namespace Sys2Proof.Machine

/-! ### The start state -/

/-- Moving the start on writes STATE and REF_WAITING of GLB_START_STATE alone. -/
theorem rd_startMove (m : Mod) (f : Fld) (hs : 4 ≤ f.lo) (hw : f.lo + f.width ≤ 8 ∨ 9 ≤ f.lo) :
    m.startMove.rd Reg.GLB_START_STATE f = m.rd Reg.GLB_START_STATE f := by
  have hdone : m.startDone.rd Reg.GLB_START_STATE f = m.rd Reg.GLB_START_STATE f := by
    unfold Mod.startDone
    cases m.unitsDone && (m.unitStarted 29 || m.unitLeft 29)
    · rfl
    · exact Mod.rd_wr_ne _ _ _ _ _ _ (by decide)
  have hmoved (v w : Nat) : ((m.startDone.setStart v).wr Reg.GLB_START_STATE Fields.GLB_START_STATE.REF_WAITING w).rd
      Reg.GLB_START_STATE f = m.rd Reg.GLB_START_STATE f :=
    (Mod.rd_wr_field _ _ _ _ _ hw).trans ((Mod.rd_wr_field _ _ f Fields.GLB_START_STATE.STATE _ (.inr hs)).trans hdone)
  unfold Mod.startMove
  dsimp only
  split
  · exact hdone
  · split
    · split
      · exact hdone
      · exact hmoved 3 1
    · exact hmoved 4 0

theorem flag_startMove (m : Mod) (f : Fld) (hs : 4 ≤ f.lo) (hw : f.lo + f.width ≤ 8 ∨ 9 ≤ f.lo) :
    m.startMove.flag Reg.GLB_START_STATE f = m.flag Reg.GLB_START_STATE f := by
  rw [Mod.flag, rd_startMove m f hs hw, Mod.flag]

theorem StartMoved.sys {a b : Mod} (h : StartMoved a b) : b.sys = a.sys := by rw [h.rest]
theorem StartMoved.gddr {a b : Mod} (h : StartMoved a b) : b.gddr = a.gddr := by rw [h.rest]
theorem StartMoved.sram {a b : Mod} (h : StartMoved a b) : b.sram = a.sram := by rw [h.rest]

/-- Of two slots one is taken that is valid (R72). -/
theorem pickOf_valid {ok0 ok1 : Bool} {gen0 gen1 k : Nat} (h : pickOf ok0 ok1 gen0 gen1 = some k) :
    (k = 0 ∧ ok0 = true) ∨ (k = 1 ∧ ok1 = true) := by
  unfold pickOf at h
  split_ifs at h with hboth hgen h0 h1
  · exact .inr ⟨(Option.some.inj h).symm, (Bool.and_eq_true_iff.mp hboth).2⟩
  · exact .inl ⟨(Option.some.inj h).symm, (Bool.and_eq_true_iff.mp hboth).1⟩
  · exact .inl ⟨(Option.some.inj h).symm, h0⟩
  · exact .inr ⟨(Option.some.inj h).symm, h1⟩

/-! ### Bytes apart from a write -/

theorem memRead_congr {a b : List Host.Cell} (x n : Nat) (h : ∀ i < n, memByte b (x + i) = memByte a (x + i)) :
    memRead b x n = memRead a x n := by
  induction n generalizing x with
  | zero => rfl
  | succ n ih =>
    have hhead : memByte b x = memByte a x := h 0 (by omega)
    have htail : memRead b (x + 1) n = memRead a (x + 1) n := ih (x + 1) fun i hi => by
      rw [show x + 1 + i = x + (i + 1) by omega]
      exact h (i + 1) (by omega)
    rw [memRead, memRead, hhead, htail]

/-- A range apart from a write reads as before. -/
theorem memRead_memWrite_apart (mem : List Host.Cell) (bs : List Byte) (a x n : Nat) (h : x + n ≤ a ∨ a + bs.length ≤ x) :
    memRead (memWrite mem a bs) x n = memRead mem x n :=
  memRead_congr x n fun i hi => memByte_memWrite_ne _ _ _ _ (by omega)

/-! ### The flash loader (R138) -/

/-- The local memories of two cores lie apart (Table 1.4). -/
theorem coreMemories_apart {j k : Nat} (h : j ≠ k) :
    coreBase j + coreSize j ≤ coreBase k ∨ coreBase k + coreSize k ≤ coreBase j := by
  unfold coreBase coreSize
  split_ifs <;> omega

/-- The code that core `c` takes of firmware slot `f` and of `n` bytes of runtime slot `r` (R78, R79). -/
def coreCode (f r n c : Nat) : List Byte :=
  if c < 16 then (Config.factoryCode r).take n else (Config.factoryCode (2 + f)).take 0x1F000

/-- Code of a valid runtime slot, like the firmware, fits the local memory above 0x1000. -/
theorem coreCode_fits {n : Nat} (hn : n ≤ 24576) (f r c : Nat) : 0x1000 + (coreCode f r n c).length ≤ coreSize c := by
  have hscore := List.length_take_le n (Config.factoryCode r)
  have hmcore := List.length_take_le 0x1F000 (Config.factoryCode (2 + f))
  unfold coreCode coreSize
  split_ifs <;> omega

/-- The register that releases core `c`. -/
def coreCtrl (c : Nat) : Nat := if c < 16 then Reg.MCS_SCORE_CTRL c else Reg.MCS_MCORE_CTRL (c - 16)

theorem coreCtrl_ne {j k : Nat} (h : j ≠ k) : coreCtrl j ≠ coreCtrl k := by
  unfold coreCtrl Reg.MCS_SCORE_CTRL Reg.MCS_MCORE_CTRL
  split_ifs <;> omega

theorem coreCtrl_above (c : Nat) : 0x300000 ≤ coreCtrl c := by
  unfold coreCtrl Reg.MCS_SCORE_CTRL Reg.MCS_MCORE_CTRL
  split_ifs <;> omega

/-- A core's code is copied and its GO set. -/
def Mod.releaseCore (c : Nat) (m : Mod) : Mod := (m.loadCode c).wr (coreCtrl c) Fields.MCS_SCORE_CTRL.GO 1

/-- Cores that are released keep GDDR7, the flash and the start, and every register below the cores' block. -/
structure CoresOnly (a b : Mod) : Prop where
  gddr : b.gddr = a.gddr
  sys : b.sys = a.sys
  regs : ∀ o < 0x300000, b.reg o = a.reg o

theorem coresOnly_releaseCore (c : Nat) (m : Mod) : CoresOnly m (m.releaseCore c) := by
  have hload : (m.loadCode c).gddr = m.gddr ∧ (m.loadCode c).sys = m.sys ∧ (m.loadCode c).regs = m.regs := by
    unfold Mod.loadCode
    split
    · split <;> exact ⟨rfl, rfl, rfl⟩
    · split <;> exact ⟨rfl, rfl, rfl⟩
  obtain ⟨hg, hs, hr⟩ := hload
  refine ⟨hg, hs, fun o ho => ?_⟩
  have hne : o ≠ coreCtrl c := by have := coreCtrl_above c; omega
  rw [Mod.releaseCore, Mod.reg_wr_ne _ _ _ _ _ hne, Mod.reg, hr, Mod.reg]

/-- All twenty cores, the site cores first. -/
def Mod.releaseCores (m : Mod) : Mod := m.each (List.range 20) Mod.releaseCore

theorem coresOnly_releaseCores (m : Mod) : CoresOnly m m.releaseCores :=
  Mod.each_keeps m (CoresOnly m) _ _
    (fun c _ x hx =>
      have h := coresOnly_releaseCore c x
      ⟨h.gddr.trans hx.gddr, h.sys.trans hx.sys, fun o ho => (h.regs o ho).trans (hx.regs o ho)⟩)
    ⟨rfl, rfl, fun _ _ => rfl⟩

/-- The two loops of the loader are one. -/
theorem releaseCores_eq (m : Mod) : m.releaseCores =
    (m.each (List.range 16) (fun c s => (s.loadCode c).wr (Reg.MCS_SCORE_CTRL c) Fields.MCS_SCORE_CTRL.GO 1)).each
      (List.range 4) (fun k s => (s.loadCode (16 + k)).wr (Reg.MCS_MCORE_CTRL k) Fields.MCS_MCORE_CTRL.GO 1) := by
  have hsplit : List.range 20 = List.range 16 ++ (List.range 4).map (16 + ·) := by decide
  have hscores : ∀ x : Mod, ∀ c ∈ List.range 16,
      x.releaseCore c = (x.loadCode c).wr (Reg.MCS_SCORE_CTRL c) Fields.MCS_SCORE_CTRL.GO 1 := fun x c hc => by
    rw [Mod.releaseCore, coreCtrl, if_pos (List.mem_range.mp hc)]
  have hmcores : ∀ x : Mod, ∀ k ∈ List.range 4,
      x.releaseCore (16 + k) = (x.loadCode (16 + k)).wr (Reg.MCS_MCORE_CTRL k) Fields.MCS_MCORE_CTRL.GO 1 := fun x k _ => by
    rw [Mod.releaseCore, coreCtrl, if_neg (by omega), Nat.add_sub_cancel_left]
    rfl
  unfold Mod.releaseCores Mod.each
  rw [hsplit, List.foldl_append, List.foldl_map, List.foldl_ext _ _ _ hscores, List.foldl_ext _ _ _ hmcores]

/-- Core `c` has the code `bs` at 0x1000 of its local memory, and GO is set. -/
structure CoreReleased (c : Nat) (bs : List Byte) (m : Mod) : Prop where
  go : m.flag (coreCtrl c) Fields.MCS_SCORE_CTRL.GO = true
  code : memRead m.sram (coreBase c + 0x1000) bs.length = bs

section
variable {f r n : Nat} {a : Mod} (hf : a.fwPick = some f) (hr : a.rtPick = some r)
  (hn : n = (SMap.get (fun _ => RtSlot.blank) a.sys.runtime r).length)
include hf hr hn

/-- The slots of the flash decide what code is copied. -/
theorem loadCode_eq (c : Nat) {m : Mod} (hm : m.sys = a.sys) :
    m.loadCode c = m.sramPut (coreBase c + 0x1000) (coreCode f r n c) := by
  have hfw : m.fwPick = some f := by rw [← hf, Mod.fwPick, hm, Mod.fwPick]
  have hrt : m.rtPick = some r := by rw [← hr, Mod.rtPick, hm, Mod.rtPick]
  unfold Mod.loadCode coreCode
  split_ifs
  · rw [hrt, hm, hn]
  · rw [hfw]

theorem coreReleased_releaseCore (c : Nat) {m : Mod} (hm : m.sys = a.sys) :
    CoreReleased c (coreCode f r n c) (m.releaseCore c) := by
  refine ⟨Mod.flag_wr_one _ _ _ (by decide) rfl, ?_⟩
  rw [Mod.releaseCore, loadCode_eq hf hr hn c hm]
  exact memRead_memWrite _ _ _

/-- The release of another core leaves a core's code and GO. -/
theorem CoreReleased.other {j k : Nat} {m : Mod} (h : CoreReleased j (coreCode f r n j) m) (hne : j ≠ k)
    (hm : m.sys = a.sys) (hl : n ≤ 24576) : CoreReleased j (coreCode f r n j) (m.releaseCore k) := by
  have hj := coreCode_fits hl f r j
  have hk := coreCode_fits hl f r k
  have hapart := coreMemories_apart hne
  rw [Mod.releaseCore, loadCode_eq hf hr hn k hm]
  refine ⟨?_, (memRead_memWrite_apart _ _ _ _ _ (by omega)).trans h.code⟩
  rw [Mod.flag, Mod.rd_wr_ne _ _ _ _ _ _ (coreCtrl_ne hne)]
  exact h.go

/-- Every core has its code in the end. -/
theorem coreReleased_releaseCores (hl : n ≤ 24576) (c : Nat) (hc : c < 20) :
    CoreReleased c (coreCode f r n c) a.releaseCores := by
  have hset (k : Nat) (x : Mod) (hx : (x.releaseCore k).sys = a.sys) : CoreReleased k (coreCode f r n k) (x.releaseCore k) :=
    coreReleased_releaseCore hf hr hn k ((coresOnly_releaseCore k x).sys.symm.trans hx)
  have hkeep (j k : Nat) (x : Mod) (h : x.sys = a.sys → CoreReleased j (coreCode f r n j) x)
      (hx : (x.releaseCore k).sys = a.sys) : CoreReleased j (coreCode f r n j) (x.releaseCore k) := by
    have hxs : x.sys = a.sys := (coresOnly_releaseCore k x).sys.symm.trans hx
    by_cases he : j = k
    · rw [he]; exact hset k x hx
    · exact (h hxs).other hf hr hn he hxs hl
  exact Mod.each_sets (fun c x => x.sys = a.sys → CoreReleased c (coreCode f r n c) x) (List.range 20) _ hset hkeep a c
    (List.mem_range.mpr hc) (coresOnly_releaseCores a).sys

end

/-- The length of a runtime slot that is taken is within its limit (R79). -/
theorem rtPick_length {m : Mod} {r : Nat} (h : m.rtPick = some r) :
    (SMap.get (fun _ => RtSlot.blank) m.sys.runtime r).length ≤ 24576 := by
  have hlen {x : RtSlot} (hx : x.ok = true) : x.length ≤ 24576 := by
    simp only [RtSlot.ok, Bool.and_eq_true, decide_eq_true_eq] at hx
    obtain ⟨⟨⟨-, hmax⟩, -⟩, -⟩ := hx
    exact hmax
  obtain ⟨rfl, hok⟩ | ⟨rfl, hok⟩ := pickOf_valid h
  · exact hlen hok
  · exact hlen hok

/-- The slots of firmware and runtime that are not valid are shown (R78, R79). -/
def Mod.codeShown (fw rt : Bool) (m : Mod) : Mod :=
  (m.wr Reg.GLB_START_STATE Fields.GLB_START_STATE.FW_BAD (b2n !fw)).wr Reg.GLB_START_STATE
    Fields.GLB_START_STATE.RT_BAD (b2n !rt)

theorem flags_codeShown (fw rt : Bool) (m : Mod) :
    (m.codeShown fw rt).flag Reg.GLB_START_STATE Fields.GLB_START_STATE.FW_BAD = !fw ∧
    (m.codeShown fw rt).flag Reg.GLB_START_STATE Fields.GLB_START_STATE.RT_BAD = !rt := by
  have hbit (x : Mod) (f : Fld) (b : Bool) (h : f.lo < 32) (hw : f.width = 1) :
      (x.wr Reg.GLB_START_STATE f (b2n b)).flag Reg.GLB_START_STATE f = b := by
    cases b
    · exact Mod.flag_wr_zero x _ f (by omega)
    · exact Mod.flag_wr_one x _ f h hw
  refine ⟨?_, hbit _ _ _ (by decide) rfl⟩
  rw [Mod.flag, Mod.codeShown, Mod.rd_wr_field _ _ _ _ _ (by decide)]
  exact hbit _ _ _ (by decide) rfl

/-- The flash load has ended. -/
def Mod.flashDone (m : Mod) : Mod := { m with sys := { m.sys with flashLoaded := true } }

section
variable {m : Mod} (hu : m.unitStarted 0 = true) (hl : m.sys.flashLoaded = false) (hs : 2 ≤ m.startState)
  (hp : m.flag Reg.GLB_START_STATE Fields.GLB_START_STATE.PROF_BAD = true)
include hu hl hs hp

/-- Without a profile slot the loader takes no control store (R72). -/
theorem flashLoad_eq_none (hf : m.fwPick = none) (hr : m.rtPick = none) :
    m.flashLoad = (m.codeShown false false).flashDone.startMove := by
  have hgo : decide (m.startState < 2) = false := decide_eq_false (by omega)
  simp only [Mod.flashLoad, hu, hl, hgo, hp, hf, hr]
  rfl

theorem flashLoad_eq_some {f r : Nat} (hf : m.fwPick = some f) (hr : m.rtPick = some r) :
    m.flashLoad = (m.codeShown true true).releaseCores.flashDone.startMove := by
  have hgo : decide (m.startState < 2) = false := decide_eq_false (by omega)
  simp only [releaseCores_eq, Mod.flashLoad, Mod.flashDone, Mod.codeShown, hu, hl, hgo, hp, hf, hr, Option.isSome_some,
    Mod.when_true, Bool.not_true, Bool.or_self, Bool.false_eq_true, if_false, if_true]

end

end Sys2Proof.Machine
end

section
/-!
PROOF. The slot check, the flash load, training and APPLY (R56, R58, R72, R73, R138, R343, R344): O16.
-/

namespace Sys2Proof.Machine

/-! ### The flash load (R58, R72, R138) -/

theorem answers_flashLoad_none (s : State) (hh : s.m.flt.halted = false) (hu : s.m.unitStarted 0 = true)
    (hl : s.m.sys.flashLoaded = false) (hs : 2 ≤ s.m.startState)
    (hp : s.m.flag Reg.GLB_START_STATE Fields.GLB_START_STATE.PROF_BAD = true) (hf : s.m.fwPick = none)
    (hr : s.m.rtPick = none) :
    Answers .flashLoadComplete s (fun t => t.flag Reg.GLB_START_STATE Fields.GLB_START_STATE.FW_BAD = true ∧
      t.flag Reg.GLB_START_STATE Fields.GLB_START_STATE.RT_BAD = true ∧ t.sys.flashLoaded = true ∧ SameMemory s.m t) := by
  have ht := flashLoad_eq_none hu hl hs hp hf hr
  obtain ⟨hfw, hrt⟩ := flags_codeShown false false s.m
  have k := startMoved_startMove (s.m.codeShown false false).flashDone
  have hshown (f : Fld) := flag_startMove (s.m.codeShown false false).flashDone f
  generalize Mod.startMove _ = t at ht k hshown
  exact answers_command rfl rfl hh ht ⟨(hshown _ (by decide) (by decide)).trans hfw,
    (hshown _ (by decide) (by decide)).trans hrt, congrArg Sys.flashLoaded k.sys, .of_eq k.gddr k.sram⟩

/-- The start that moves on leaves the cores' code and their release. -/
theorem CoreReleased.moved {c : Nat} {bs : List Byte} {a b : Mod} (h : CoreReleased c bs a) (k : StartMoved a.flashDone b) :
    CoreReleased c bs b := by
  have hc := coreCtrl_above c
  have hstart : coreCtrl c ≠ Reg.GLB_START_STATE := by unfold Reg.GLB_START_STATE; omega
  have hpwr : coreCtrl c ≠ Reg.PWR_STATUS := by unfold Reg.PWR_STATUS; omega
  refine ⟨(k.flag _ hstart hpwr).trans h.go, ?_⟩
  rw [k.sram]
  exact h.code

theorem answers_flashLoad_some (s : State) (f r n : Nat) (hh : s.m.flt.halted = false) (hu : s.m.unitStarted 0 = true)
    (hl : s.m.sys.flashLoaded = false) (hs : 2 ≤ s.m.startState)
    (hp : s.m.flag Reg.GLB_START_STATE Fields.GLB_START_STATE.PROF_BAD = true) (hf : s.m.fwPick = some f)
    (hr : s.m.rtPick = some r) (hn : n = (SMap.get (fun _ => RtSlot.blank) s.m.sys.runtime r).length) :
    Answers .flashLoadComplete s (fun t => t.flag Reg.GLB_START_STATE Fields.GLB_START_STATE.FW_BAD = false ∧
      t.flag Reg.GLB_START_STATE Fields.GLB_START_STATE.RT_BAD = false ∧ t.sys.flashLoaded = true ∧
      (∀ c : Nat, c < 16 → t.flag (Reg.MCS_SCORE_CTRL c) Fields.MCS_SCORE_CTRL.GO = true ∧
        memRead t.sram (coreBase c + 0x1000) ((Config.factoryCode r).take n).length = (Config.factoryCode r).take n) ∧
      (∀ k : Nat, k < 4 → t.flag (Reg.MCS_MCORE_CTRL k) Fields.MCS_MCORE_CTRL.GO = true ∧
        memRead t.sram (coreBase (16 + k) + 0x1000) ((Config.factoryCode (2 + f)).take 0x1F000).length =
          (Config.factoryCode (2 + f)).take 0x1F000) ∧ t.gddr = s.m.gddr) := by
  have ht := flashLoad_eq_some hu hl hs hp hf hr
  obtain ⟨hfw, hrt⟩ := flags_codeShown true true s.m
  have hg : (s.m.codeShown true true).gddr = s.m.gddr := rfl
  have hcores := coresOnly_releaseCores (s.m.codeShown true true)
  have hcore (c : Nat) (hc : c < 20) : CoreReleased c (coreCode f r n c) (s.m.codeShown true true).releaseCores :=
    coreReleased_releaseCores (a := s.m.codeShown true true) hf hr hn (hn ▸ rtPick_length hr) c hc
  generalize s.m.codeShown true true = x at *
  generalize x.releaseCores = y at *
  have k := startMoved_startMove y.flashDone
  have hshown (f : Fld) := flag_startMove y.flashDone f
  generalize y.flashDone.startMove = t at ht k hshown
  have hkept (f : Fld) : y.flashDone.flag Reg.GLB_START_STATE f = x.flag Reg.GLB_START_STATE f :=
    congrArg (fun w => fget f w != 0) (hcores.regs _ (by decide))
  have hscore (c : Nat) (hc : c < 16) : CoreReleased c ((Config.factoryCode r).take n) t := by
    have h := (hcore c (by omega)).moved k
    rwa [coreCode, if_pos hc] at h
  have hmcore (j : Nat) (hj : j < 4) : CoreReleased (16 + j) ((Config.factoryCode (2 + f)).take 0x1F000) t := by
    have h := (hcore (16 + j) (by omega)).moved k
    rwa [coreCode, if_neg (by omega)] at h
  refine answers_command rfl rfl hh ht ⟨((hshown _ (by decide) (by decide)).trans (hkept _)).trans hfw,
    ((hshown _ (by decide) (by decide)).trans (hkept _)).trans hrt, congrArg Sys.flashLoaded k.sys, fun c hc => ?_,
    fun j hj => ?_, k.gddr.trans (hcores.gddr.trans hg)⟩
  · have hgo := (hscore c hc).go
    rw [coreCtrl, if_pos hc] at hgo
    exact ⟨hgo, (hscore c hc).code⟩
  · have hgo := (hmcore j hj).go
    rw [coreCtrl, if_neg (by omega), Nat.add_sub_cancel_left] at hgo
    exact ⟨hgo, (hmcore j hj).code⟩

/-! ### Training of GDDR7 (R343, R344) -/

theorem sys_drcEvent (c addr : Nat) (f : Fld) (m : Mod) : (m.drcEvent c addr f).sys = m.sys := by
  rw [(onlyPosts_drcEvent c addr f m).1]

/-- A device that goes offline leaves the bits of the others. -/
theorem offlineDevice_others (k j : Nat) (m : Mod) (h : j ≠ k) :
    (m.offlineDevice (4 * k)).isLost (8 + j) = m.isLost (8 + j) ∧
    (m.offlineDevice (4 * k)).flag Reg.GLB_DIE_STATUS ⟨8 + j, 1⟩ = m.flag Reg.GLB_DIE_STATUS ⟨8 + j, 1⟩ := by
  have hoff := kept_channelsOff k m
  have hpost (x : Mod) := onlyPosts_drcEvent (4 * k) 0 Fields.DRC_EVENT.CH_OFFLINE x
  have hlost (x : Mod) (y : Drc) : (((x.setDrc y).wr Reg.GLB_DIE_STATUS (upBit (8 + k)) 0).setLost (8 + k) true).isLost
      (8 + j) = x.isLost (8 + j) := Mod.isLost_setLost_ne _ _ _ _ (by omega)
  have hup (x : Mod) (y : Drc) : (((x.setDrc y).wr Reg.GLB_DIE_STATUS (upBit (8 + k)) 0).setLost (8 + k) true).flag
      Reg.GLB_DIE_STATUS ⟨8 + j, 1⟩ = x.flag Reg.GLB_DIE_STATUS ⟨8 + j, 1⟩ := by
    rw [upBit_device (by omega)]
    exact congrArg (· != 0) (Mod.rd_wr_field (x.setDrc y) _ ⟨8 + j, 1⟩ ⟨8 + k, 1⟩ 0 (by dsimp only; omega))
  rw [offlineDevice_eq]
  constructor
  · rw [Mod.isLost, sys_drcEvent, ← Mod.isLost, hlost, Mod.isLost, hoff.sys, Mod.isLost]
  · rw [(hpost _).flag _ (by decide) (by decide), hup]
    exact hoff.flag (by decide) (by decide) _

/-- What training makes of device `k`, where `bad` names those that failed (R344). -/
def Mod.trainDevice (bad k : Nat) (m : Mod) : Mod :=
  if m.isLost (8 + k) then m
  else if nbit bad k then m.offlineDevice (4 * k)
  else (m.wr Reg.GLB_DIE_STATUS ⟨8 + k, 1⟩ 1).each (List.range 4) (fun i t => t.setChState (4 * k + i) 1)

/-- The first `n` devices have trained: those named in `bad` are lost, and the bits of the others are set. -/
structure DevicesTrained (bad n : Nat) (a t : Mod) : Prop where
  gddr : t.gddr = a.gddr
  sram : t.sram = a.sram
  lost : ∀ k < n, t.isLost (8 + k) = bad.testBit k
  waiting : ∀ k, n ≤ k → t.isLost (8 + k) = a.isLost (8 + k)
  up : ∀ k < n, bad.testBit k = false → t.flag Reg.GLB_DIE_STATUS ⟨8 + k, 1⟩ = true

/-- A device that trains is up, its channels in use. -/
theorem trainDevice_good (k : Nat) (m : Mod) :
    Kept (· < 0x100000) (m.wr Reg.GLB_DIE_STATUS ⟨8 + k, 1⟩ 1)
      ((m.wr Reg.GLB_DIE_STATUS ⟨8 + k, 1⟩ 1).each (List.range 4) (fun i t => t.setChState (4 * k + i) 1)) :=
  .each _ _ _ fun i _ x => .wr x _ _ _ (by unfold Reg.DRC_CH_STATUS; omega)
    (by unfold Reg.DRC_CH_STATUS Reg.PWR_HV_MON; omega)

/-- The next device trains. -/
theorem DevicesTrained.next {bad n : Nat} {a t : Mod} (h : DevicesTrained bad n a t) (hn : n < 8)
    (hl : a.isLost (8 + n) = false) : DevicesTrained bad (n + 1) a (t.trainDevice bad n) := by
  have hpresent : t.isLost (8 + n) = false := (h.waiting n (Nat.le_refl n)).trans hl
  unfold Mod.trainDevice
  rw [hpresent, if_neg Bool.false_ne_true]
  by_cases hbad : nbit bad n = true
  · rw [if_pos hbad]
    have hout := takenOut_offlineDevice n t hn
    have hothers (k : Nat) (hk : k ≠ n) := offlineDevice_others n k t hk
    refine ⟨hout.gddr.trans h.gddr, hout.sram.trans h.sram, fun k hk => ?_, fun k hk => ?_, fun k hk hgood => ?_⟩
    · obtain rfl | hlt : k = n ∨ k < n := by omega
      · exact hout.lost.trans hbad.symm
      · exact (hothers k (by omega)).1.trans (h.lost k hlt)
    · exact (hothers k (by omega)).1.trans (h.waiting k (by omega))
    · have hne : k ≠ n := by rintro rfl; exact absurd (hbad.symm.trans hgood) (by decide)
      exact (hothers k hne).2.trans (h.up k (by omega) hgood)
  · rw [if_neg hbad]
    have hkept := trainDevice_good n t
    have hlost (x : Mod) (k : Nat) (hx : Kept (· < 0x100000) (t.wr Reg.GLB_DIE_STATUS ⟨8 + n, 1⟩ 1) x) :
        x.isLost (8 + k) = t.isLost (8 + k) := by
      rw [Mod.isLost, hx.sys]
      rfl
    have hup (x : Mod) (k : Nat) (hx : Kept (· < 0x100000) (t.wr Reg.GLB_DIE_STATUS ⟨8 + n, 1⟩ 1) x) :
        x.flag Reg.GLB_DIE_STATUS ⟨8 + k, 1⟩ = (t.wr Reg.GLB_DIE_STATUS ⟨8 + n, 1⟩ 1).flag Reg.GLB_DIE_STATUS ⟨8 + k, 1⟩ :=
      hx.flag (by decide) (by decide) _
    generalize Mod.each _ _ _ = x at hkept
    refine ⟨hkept.gddr.trans h.gddr, hkept.sram.trans h.sram, fun k hk => ?_, fun k hk => ?_, fun k hk hgood => ?_⟩
    · rw [hlost x k hkept]
      obtain rfl | hlt : k = n ∨ k < n := by omega
      · exact hpresent.trans (Bool.eq_false_iff.mpr hbad).symm
      · exact h.lost k hlt
    · rw [hlost x k hkept]
      exact h.waiting k (by omega)
    · rw [hup x k hkept]
      obtain rfl | hlt : k = n ∨ k < n := by omega
      · exact Mod.flag_wr_one _ _ _ (by dsimp only; omega) rfl
      · exact flag_wr_apart _ _ _ _ _ (h.up k hlt hgood) (by dsimp only; omega)

/-- All eight devices that are present train. -/
theorem devicesTrained (bad : Nat) (a : Mod) (hl : ∀ k < 8, a.isLost (8 + k) = false) :
    ∀ n ≤ 8, DevicesTrained bad n a (a.each (List.range n) (Mod.trainDevice bad)) := by
  intro n hn
  induction n with
  | zero => exact ⟨rfl, rfl, by simp, fun _ _ => rfl, by simp⟩
  | succ n ih =>
    have hstep : a.each (List.range (n + 1)) (Mod.trainDevice bad) =
        (a.each (List.range n) (Mod.trainDevice bad)).trainDevice bad n := by
      rw [Mod.each, List.range_succ, List.foldl_append]
      rfl
    rw [hstep]
    exact (ih (by omega)).next (by omega) (hl n (by omega))

/-- Training has ended. -/
def Mod.gddrDone (m : Mod) : Mod := { m with sys := { m.sys with gddrTrained := true } }

theorem gddrTraining_eq (bad : Nat) {m : Mod} (ht : m.sys.gddrTrained = false)
    (hu : (List.range 9).all (fun u => m.unitStarted u || m.unitLeft u) = true) (hs : 2 ≤ m.startState) :
    m.gddrTraining bad = (m.each (List.range 8) (Mod.trainDevice bad)).gddrDone.startMove := by
  have hgo : decide (m.startState < 2) = false := decide_eq_false (by omega)
  have hbody : (fun (k : Nat) (x : Mod) => x.trainDevice bad k) = fun k x => if x.isLost (8 + k) then x
      else if nbit bad k then x.offlineDevice (4 * k)
      else (x.wr Reg.GLB_DIE_STATUS ⟨8 + k, 1⟩ 1).each (List.range 4) (fun i t => t.setChState (4 * k + i) 1) := rfl
  simp only [Mod.gddrTraining, Mod.gddrDone, ← hbody, ht, hu, hgo, Bool.not_true, Bool.or_self, Bool.false_eq_true, if_false]

theorem answers_gddr7Training (s : State) (bad : Nat) (hh : s.m.flt.halted = false) (hb : bad < 256)
    (ht : s.m.sys.gddrTrained = false) (hu : (List.range 9).all (fun u => s.m.unitStarted u || s.m.unitLeft u) = true)
    (hs : 2 ≤ s.m.startState) (hl : ∀ k : Nat, k < 8 → s.m.isLost (8 + k) = false) :
    Answers (.gddr7TrainingComplete bad) s (fun t => t.sys.gddrTrained = true ∧
      (∀ k : Nat, k < 8 → t.isLost (8 + k) = bad.testBit k) ∧
      (∀ k : Nat, k < 8 → bad.testBit k = false → t.flag Reg.GLB_DIE_STATUS ⟨8 + k, 1⟩ = true) ∧ SameMemory s.m t) := by
  have he := gddrTraining_eq bad ht hu hs
  have h := devicesTrained bad s.m hl 8 (Nat.le_refl 8)
  generalize s.m.each (List.range 8) (Mod.trainDevice bad) = x at he h
  have k := startMoved_startMove x.gddrDone
  generalize x.gddrDone.startMove = t at he k
  refine answers_command rfl (by simpa [Wf.gddr7TrainingComplete] using hb) hh he
    ⟨congrArg Sys.gddrTrained k.sys, fun j hj => ?_, fun j hj hgood => ?_,
      .of_eq (k.gddr.trans h.gddr) (k.sram.trans h.sram)⟩
  · rw [Mod.isLost, k.sys, ← h.lost j hj]
    rfl
  · exact (k.flag _ (by decide) (by decide)).trans (h.up j hj hgood)

/-! ### The slot check (R56, R72) -/

/-- The slot taken of the profile is shown, or PROF_BAD. -/
def Mod.slotTaken (m : Mod) : Mod :=
  match m.pickSlot (m.rd Reg.GLB_START_STATE Fields.GLB_START_STATE.PROFILE) with
  | some k => (m.showSlots.wr Reg.GLB_START_STATE Fields.GLB_START_STATE.SLOT k).wr Reg.GLB_START_STATE
      Fields.GLB_START_STATE.PROF_BAD 0
  | none => m.showSlots.wr Reg.GLB_START_STATE Fields.GLB_START_STATE.PROF_BAD 1

theorem sys_slotTaken (m : Mod) : m.slotTaken.sys = m.sys := by
  unfold Mod.slotTaken
  split <;> rfl

theorem memory_slotTaken (m : Mod) : SameMemory m m.slotTaken := by
  unfold Mod.slotTaken
  split <;> exact .of_eq rfl rfl

/-- The registers of the time base are set to source and frequency. -/
def Mod.baseSet (src : Bool) (freq : Nat) (m : Mod) : Mod :=
  ((m.wr Reg.TB_CTRL Fields.TB_CTRL.SRC (b2n src)).wr Reg.TB_CTRL Fields.TB_CTRL.REF_FREQ freq).when (!src)
    (Mod.wr Reg.TB_STATUS Fields.TB_STATUS.SRC_ACTIVE 0)

theorem kept_baseSet (src : Bool) (freq : Nat) (m : Mod) : Kept (· = Reg.GLB_START_STATE) m (m.baseSet src freq) :=
  ((Kept.wr m _ _ _ (by decide) (by decide)).trans (.wr _ _ _ _ (by decide) (by decide))).trans
    (.when _ _ _ (.wr _ _ _ _ (by decide) (by decide)))

/-- Where the slot in use names another source of the time base than before, it is taken. -/
def Mod.baseTaken (m : Mod) : Mod :=
  m.when (m.sys.tbFrom != some m.profRefin) (Mod.baseSet m.profRefin
    (if m.flag Reg.GLB_START_STATE Fields.GLB_START_STATE.PROF_BAD then 0 else ((m.slot m.slotInUse).byte 0x31).toNat))

/-- What the module keeps of the source taken. -/
def Mod.keepBase (src : Bool) (m : Mod) : Mod := { m with sys := { m.sys with tbFrom := some src } }

section
variable {m : Mod} (hc : m.sys.coldHeld = false) (hs : m.startState = 1) (hu : m.unitStarted 0 = false)
include hc hs hu

/-- Before the power stage has begun, the slot check ends in STANDBY (R56). -/
theorem slotChecked_eq : m.slotChecked = (m.slotTaken.baseTaken.keepBase m.slotTaken.profRefin).setStart 0 := by
  simp only [Mod.slotChecked, Mod.keepBase, Mod.baseTaken, sys_slotTaken, hc, hs, hu, bne_self_eq_false, Bool.or_self,
    Bool.false_eq_true, if_false, Bool.false_and]
  rfl

/-- So it leaves memory, and shows of the start state what it has taken of the flash. -/
theorem slotChecked_shows : m.slotChecked.startState = 0 ∧ SameMemory m m.slotChecked ∧
    ∀ f : Fld, 4 ≤ f.lo → m.slotChecked.rd Reg.GLB_START_STATE f = m.slotTaken.rd Reg.GLB_START_STATE f := by
  have hbase : Kept (· = Reg.GLB_START_STATE) m.slotTaken m.slotTaken.baseTaken := .when _ _ _ (kept_baseSet _ _ _)
  rw [slotChecked_eq hc hs hu]
  have hmem := memory_slotTaken m
  generalize m.slotTaken.profRefin = src
  generalize m.slotTaken = x at hbase hmem ⊢
  generalize x.baseTaken = y at hbase ⊢
  refine ⟨Mod.rd_wr_self _ _ _ _ (by decide), hmem.trans (.of_eq hbase.gddr hbase.sram), fun f hf => ?_⟩
  exact (Mod.rd_wr_field _ _ f Fields.GLB_START_STATE.STATE _ (.inr hf)).trans
    (congrArg (fget f) (hbase.regs _ rfl (by decide)))

end

theorem answers_slotChecked_none (s : State) (hc : s.m.sys.coldHeld = false) (hs : s.m.startState = 1)
    (hu : s.m.unitStarted 0 = false)
    (hp : s.m.pickSlot (s.m.rd Reg.GLB_START_STATE Fields.GLB_START_STATE.PROFILE) = none) :
    Answers .profileSlotChecked s (fun t => t.flag Reg.GLB_START_STATE Fields.GLB_START_STATE.PROF_BAD = true ∧
      t.startState = 0 ∧ SameMemory s.m t) := by
  obtain ⟨hstate, hmem, hshown⟩ := slotChecked_shows hc hs hu
  have hbad : s.m.slotTaken.flag Reg.GLB_START_STATE Fields.GLB_START_STATE.PROF_BAD = true := by
    rw [Mod.slotTaken, hp]
    exact Mod.flag_wr_one _ _ _ (by decide) rfl
  rw [Mod.flag, ← hshown _ (by decide)] at hbad
  generalize ht : s.m.slotChecked = t at hstate hmem hbad
  exact answers_always rfl rfl ht ⟨hbad, hstate, hmem⟩

theorem answers_slotChecked_some (s : State) (k : Nat) (hc : s.m.sys.coldHeld = false) (hs : s.m.startState = 1)
    (hu : s.m.unitStarted 0 = false)
    (hp : s.m.pickSlot (s.m.rd Reg.GLB_START_STATE Fields.GLB_START_STATE.PROFILE) = some k) :
    Answers .profileSlotChecked s (fun t => t.rd Reg.GLB_START_STATE Fields.GLB_START_STATE.SLOT = k ∧
      t.flag Reg.GLB_START_STATE Fields.GLB_START_STATE.PROF_BAD = false ∧ t.startState = 0 ∧ SameMemory s.m t) := by
  obtain ⟨hstate, hmem, hshown⟩ := slotChecked_shows hc hs hu
  have hk : k < 2 := by
    obtain ⟨rfl, -⟩ | ⟨rfl, -⟩ := pickOf_valid hp <;> decide
  have hslot : s.m.slotTaken.rd Reg.GLB_START_STATE Fields.GLB_START_STATE.SLOT = k := by
    rw [Mod.slotTaken, hp]
    exact (Mod.rd_wr_field _ _ _ _ _ (by decide)).trans
      ((Mod.rd_wr_self _ _ _ _ (by decide)).trans (Nat.mod_eq_of_lt hk))
  have hbad : s.m.slotTaken.flag Reg.GLB_START_STATE Fields.GLB_START_STATE.PROF_BAD = false := by
    rw [Mod.slotTaken, hp]
    exact Mod.flag_wr_zero _ _ _ (by decide)
  rw [← hshown _ (by decide)] at hslot
  rw [Mod.flag, ← hshown _ (by decide)] at hbad
  generalize ht : s.m.slotChecked = t at hstate hmem hslot hbad
  exact answers_always rfl rfl ht ⟨hslot, hbad, hstate, hmem⟩

/-! ### Training of the links (R58) -/

theorem answers_plinkTrained (s : State) (d : Nat) (hd : d < 2) (hu : s.m.unitStarted (9 + d) = true)
    (hl : s.m.isLost (1 + d) = false) (hp : s.m.powered = true) :
    Answers (.plinkTrained d) s (fun t => t.flag Reg.GLB_DIE_STATUS ⟨d, 1⟩ = true ∧
      t.flag (Reg.CH_TFLAG d) Fields.CH_TFLAG.PHASE_LOCK = true ∧ SameMemory s.m t) := by
  have ht : s.m.plinkTrained d = ((s.m.wr Reg.GLB_DIE_STATUS ⟨d, 1⟩ 1).wr (Reg.CH_TFLAG d)
      Fields.CH_TFLAG.PHASE_LOCK 1).startMove := by
    simp only [Mod.plinkTrained, hu, hl, hp, Bool.not_true, Bool.or_self, Bool.false_eq_true, if_false]
  have hup : ((s.m.wr Reg.GLB_DIE_STATUS ⟨d, 1⟩ 1).wr (Reg.CH_TFLAG d) Fields.CH_TFLAG.PHASE_LOCK 1).flag
      Reg.GLB_DIE_STATUS ⟨d, 1⟩ = true := by
    rw [Mod.flag, Mod.rd_wr_ne _ _ _ _ _ _ (dieStatus_ne_tflag d)]
    exact Mod.flag_wr_one _ _ _ (by dsimp only; omega) rfl
  have hlock := Mod.flag_wr_one (s.m.wr Reg.GLB_DIE_STATUS ⟨d, 1⟩ 1) (Reg.CH_TFLAG d) Fields.CH_TFLAG.PHASE_LOCK
    (by decide) rfl
  have hmem : SameMemory s.m ((s.m.wr Reg.GLB_DIE_STATUS ⟨d, 1⟩ 1).wr (Reg.CH_TFLAG d) Fields.CH_TFLAG.PHASE_LOCK 1) :=
    .of_eq rfl rfl
  generalize Mod.wr (Reg.CH_TFLAG d) _ _ _ = x at ht hup hlock hmem
  have k := startMoved_startMove x
  generalize x.startMove = t at ht k
  have hstart : Reg.CH_TFLAG d ≠ Reg.GLB_START_STATE := by unfold Reg.CH_TFLAG Reg.GLB_START_STATE; omega
  have hpwr : Reg.CH_TFLAG d ≠ Reg.PWR_STATUS := by unfold Reg.CH_TFLAG Reg.PWR_STATUS; omega
  exact answers_always rfl (by simp [Wf.plinkTrained]; omega) ht
    ⟨(k.flag _ (by decide) (by decide)).trans hup, (k.flag _ hstart hpwr).trans hlock, hmem.trans k.memory⟩

theorem hlinkUp_eq {m : Mod} (hu : m.unitStarted 29 = true) (hl : m.isLost 3 = false) (hp : m.powered = true) :
    m.hlinkUp = (m.wr Reg.GLB_DIE_STATUS Fields.GLB_DIE_STATUS.H0_UP 1).startMove := by
  simp only [Mod.hlinkUp, hu, hl, hp, Bool.not_true, Bool.or_self, Bool.false_eq_true, if_false]

/-- With no record held for H0, the end of HLINK's training is H0's alone. -/
theorem hlinkTrained_eq {m : Mod} (h : m.hlinkUp.sys.h0Records = []) : m.hlinkTrained = m.hlinkUp := by
  unfold Mod.hlinkTrained
  generalize m.hlinkUp = x at h ⊢
  dsimp only
  split
  · rfl
  · rw [h, List.foldl_nil, ← h]

theorem answers_hlinkTrained (s : State) (hu : s.m.unitStarted 29 = true) (hl : s.m.isLost 3 = false)
    (hp : s.m.powered = true) (hr : s.m.sys.h0Records = []) :
    Answers .hlinkTrained s (fun t => t.flag Reg.GLB_DIE_STATUS Fields.GLB_DIE_STATUS.H0_UP = true ∧ SameMemory s.m t) := by
  have hup := Mod.flag_wr_one s.m Reg.GLB_DIE_STATUS Fields.GLB_DIE_STATUS.H0_UP (by decide) rfl
  have k := startMoved_startMove (s.m.wr Reg.GLB_DIE_STATUS Fields.GLB_DIE_STATUS.H0_UP 1)
  have ht : s.m.hlinkTrained = (s.m.wr Reg.GLB_DIE_STATUS Fields.GLB_DIE_STATUS.H0_UP 1).startMove := by
    rw [← hlinkUp_eq hu hl hp] at k ⊢
    exact hlinkTrained_eq ((congrArg Sys.h0Records k.sys).trans hr)
  generalize Mod.startMove _ = t at ht k
  exact answers_always rfl rfl ht ⟨(k.flag _ (by decide) (by decide)).trans hup, k.memory⟩

/-! ### APPLY of a profile without records (R58, R73) -/

/-- The records of a factory slot are not given. -/
theorem records_factory {x : Slot} (h : x.factory = true) (n o : Nat) : x.records n o = [] := by
  cases n with
  | zero => rfl
  | succ n => simp only [Slot.records, h, Bool.true_or, if_true]

/-- The start has ended: READY, or PROFILE_FAIL. -/
def Mod.startEnded (fail : Bool) (ms : Nat) (m : Mod) : Mod :=
  if fail then m.setStart 7 else (m.setStart 6).wr Reg.GLB_START_STATE Fields.GLB_START_STATE.READY_MS (min ms 0xFFFF)

/-- The records that the end of start owes: that of a warm reset, and that of the gap in counting (R411, R428). -/
def Mod.endPosted (m : Mod) : Mod :=
  let n := m.when m.flt.resetDue (Mod.post 1 srcGLB 0 (m.rd Reg.GLB_RST_CAUSE Fields.GLB_RST_CAUSE.LAST) noSite
    Reg.GLB_RST_CAUSE 0)
  n.when (n.plt.gap && n.plt.counting) (Mod.pltEvent false 0 Fields.PLT_EVENT.COUNT_GAP)

theorem onlyPosts_endPosted (m : Mod) : OnlyPosts [Reg.PLT_EVENT] m m.endPosted :=
  ((onlyPosts_when [] _ _ _ (onlyPosts_post _ _ _ _ _ _ _ _)).mono (by simp)).trans
    (onlyPosts_when _ _ _ _ (onlyPosts_pltEvent _ _ _ _))

/-- PWRGOOD where nothing failed and no VIN trip holds; no record is owed any longer. -/
def Mod.endShown (fail : Bool) (m : Mod) : Mod :=
  { m with
    sys := { m.sys with pwrgood := !fail && !m.sys.vinLatched }
    flt := { m.flt with resetDue := false }
    plt := { m.plt with gap := false } }

theorem ready_eq (ms : Nat) {m : Mod} {fail : Bool} (hf : (m.flag Reg.GLB_START_STATE Fields.GLB_START_STATE.PROF_BAD ||
    m.flag Reg.GLB_START_STATE Fields.GLB_START_STATE.MCS_BAD) = fail) :
    m.ready ms = (m.startEnded fail ms).endPosted.endShown fail := by
  cases fail <;>
  · simp only [Mod.ready, Mod.endPosted, Mod.startEnded, hf, Bool.false_eq_true, if_false, if_true]
    rfl

/-- The end of start leaves memory; of the module's own state it sets PWRGOOD. -/
theorem ready_shows (ms : Nat) {m t : Mod} {fail : Bool} (ht : t = (m.startEnded fail ms).endPosted.endShown fail) :
    t.sys = { m.sys with pwrgood := !fail && !m.sys.vinLatched } ∧ SameMemory m t ∧
      ∀ f, t.rd Reg.GLB_START_STATE f = (m.startEnded fail ms).rd Reg.GLB_START_STATE f := by
  have hsys : (m.startEnded fail ms).sys = m.sys := by cases fail <;> rfl
  have hmem : SameMemory m (m.startEnded fail ms) := by cases fail <;> exact .of_eq rfl rfl
  have hposts := onlyPosts_endPosted (m.startEnded fail ms)
  generalize m.startEnded fail ms = x at *
  generalize x.endPosted = y at *
  have hy : y.sys = m.sys := by rw [hposts.1]; exact hsys
  subst ht
  refine ⟨by rw [← hy]; rfl, hmem.trans hposts.memory, fun f => hposts.rd f (by decide) (by decide)⟩

/-- The records of the profile have been applied. -/
def Mod.recordsDone (m : Mod) : Mod := { m with sys := { m.sys with recordsApplied := true } }

/-- APPLY of a profile without records and without a pair role ends the start. -/
theorem apply_eq (ms : Nat) {m : Mod} (hs : m.startState = 4) (hr : m.profRole = 0)
    (hrec : m.flag Reg.GLB_START_STATE Fields.GLB_START_STATE.PROF_BAD = false →
      (m.slot m.slotInUse).factory = true) : m.apply ms = m.recordsDone.ready ms := by
  have hnone : (if m.flag Reg.GLB_START_STATE Fields.GLB_START_STATE.PROF_BAD then []
      else (m.slot m.slotInUse).records 7680 0x1000) = [] := by
    split
    · rfl
    next hgood => exact records_factory (hrec (Bool.eq_false_iff.mpr hgood)) _ _
  have hrole : m.recordsDone.profRole = 0 := hr
  rw [Mod.recordsDone] at hrole ⊢
  simp only [Mod.apply, hs, hnone, List.foldl_nil, hrole, ne_eq, not_true_eq_false, if_false, if_true]

theorem answers_apply_fail (s : State) (ms : Nat) (hs : s.m.startState = 4)
    (hp : s.m.flag Reg.GLB_START_STATE Fields.GLB_START_STATE.PROF_BAD = true) :
    Answers (.apply ms) s (fun t => t.startState = 7 ∧ t.sys.recordsApplied = true ∧ t.sys.pwrgood = false ∧
      SameMemory s.m t) := by
  have hrole : s.m.profRole = 0 := by rw [Mod.profRole, hp, if_pos rfl]
  have hbad : (s.m.recordsDone.flag Reg.GLB_START_STATE Fields.GLB_START_STATE.PROF_BAD ||
      s.m.recordsDone.flag Reg.GLB_START_STATE Fields.GLB_START_STATE.MCS_BAD) = true := by
    rw [Bool.or_eq_true]
    exact .inl hp
  have he := apply_eq ms hs hrole (fun hgood => absurd (hp.symm.trans hgood) (by decide))
  obtain ⟨hsys, hmem, hshown⟩ := ready_shows ms (ready_eq ms hbad)
  have hstate := Mod.rd_wr_self s.m.recordsDone Reg.GLB_START_STATE Fields.GLB_START_STATE.STATE 7 (by decide)
  generalize s.m.recordsDone.ready ms = t at he hsys hmem hshown
  refine answers_always rfl rfl he ⟨(hshown _).trans hstate, ?_, ?_, hmem⟩
  · exact congrArg Sys.recordsApplied hsys
  · exact congrArg Sys.pwrgood hsys

theorem answers_apply_ready (s : State) (ms : Nat) (hs : s.m.startState = 4)
    (hp : s.m.flag Reg.GLB_START_STATE Fields.GLB_START_STATE.PROF_BAD = false)
    (hc : s.m.flag Reg.GLB_START_STATE Fields.GLB_START_STATE.MCS_BAD = false)
    (hf : (s.m.slot s.m.slotInUse).factory = true) (hr : s.m.profRole = 0) (hv : s.m.sys.vinLatched = false) :
    Answers (.apply ms) s (fun t => t.startState = 6 ∧
      t.rd Reg.GLB_START_STATE Fields.GLB_START_STATE.READY_MS = min ms 0xFFFF ∧ t.sys.recordsApplied = true ∧
      t.sys.pwrgood = true ∧ SameMemory s.m t) := by
  have hgood : (s.m.recordsDone.flag Reg.GLB_START_STATE Fields.GLB_START_STATE.PROF_BAD ||
      s.m.recordsDone.flag Reg.GLB_START_STATE Fields.GLB_START_STATE.MCS_BAD) = false := by
    rw [Bool.or_eq_false_iff]
    exact ⟨hp, hc⟩
  have he := apply_eq ms hs hr (fun _ => hf)
  obtain ⟨hsys, hmem, hshown⟩ := ready_shows ms (ready_eq ms hgood)
  have hstate := (Mod.rd_wr_field (s.m.recordsDone.setStart 6) Reg.GLB_START_STATE Fields.GLB_START_STATE.STATE
    Fields.GLB_START_STATE.READY_MS (min ms 0xFFFF) (by decide)).trans (Mod.rd_wr_self s.m.recordsDone
    Reg.GLB_START_STATE Fields.GLB_START_STATE.STATE 6 (by decide))
  have hms := (Mod.rd_wr_self (s.m.recordsDone.setStart 6) Reg.GLB_START_STATE Fields.GLB_START_STATE.READY_MS
    (min ms 0xFFFF) (by decide)).trans (Nat.mod_eq_of_lt (Nat.lt_succ_of_le (Nat.min_le_right _ _)))
  generalize s.m.recordsDone.ready ms = t at he hsys hmem hshown
  refine answers_always rfl rfl he ⟨(hshown _).trans hstate, (hshown _).trans hms, ?_, ?_, hmem⟩
  · exact congrArg Sys.recordsApplied hsys
  · exact (congrArg Sys.pwrgood hsys).trans (congrArg not hv)

/-- Settles O16, event by event; the profiles of its APPLY have no records: no slot was taken (PROF_BAD), or a factory
slot, whose records are not given (`records_factory`). -/
theorem startTraining : Obligations.StartTraining :=
  ⟨answers_slotChecked_none, answers_slotChecked_some, answers_flashLoad_none, answers_flashLoad_some,
    answers_gddr7Training, answers_plinkTrained, answers_hlinkTrained, answers_apply_fail, answers_apply_ready⟩

end Sys2Proof.Machine
end

section
/-!
SUPPORT. Queues, completion rings and graphs (R91 to R99): what each holds after a change to another, completions that
wait in their ring, and the changes that nothing outside the module sees.
-/

namespace Sys2Proof.Machine

/-! ### Queues and rings apart -/

section
variable (m : Mod)

@[simp] theorem Mod.cq_setQueue (q c : Nat) (x : Queue) : (m.setQueue q x).cq c = m.cq c := rfl
@[simp] theorem Mod.queue_setCq (c q : Nat) (x : Cq) : (m.setCq c x).queue q = m.queue q := rfl
@[simp] theorem Mod.queue_setInst (i q : Nat) (x : Option Inst) : (m.setInst i x).queue q = m.queue q := rfl

/-- A queue field that a change of another queue, or of the same one to a value with that field, leaves. -/
theorem Mod.queue_setQueue_of {α : Type} (f : Queue → α) (q p : Nat) (x : Queue) (h : f x = f (m.queue q)) :
    f ((m.setQueue q x).queue p) = f (m.queue p) := by
  by_cases hp : p = q
  · rw [hp, Mod.queue_setQueue_self, h]
  · rw [Mod.queue_setQueue_ne m q p x hp]

/-- So also for a ring. -/
theorem Mod.cq_setCq_of {α : Type} (f : Cq → α) (c p : Nat) (x : Cq) (h : f x = f (m.cq c)) :
    f ((m.setCq c x).cq p) = f (m.cq p) := by
  by_cases hp : p = c
  · rw [hp, Mod.cq_setCq_self, h]
  · exact congrArg f (SMap.get_set_ne _ _ _ _ _ hp)

@[simp] theorem Mod.waiting_unreserve (c n p : Nat) : ((m.unreserve c n).cq p).waiting = (m.cq p).waiting :=
  m.cq_setCq_of Cq.waiting c p _ rfl

/-- The ring to which a queue is bound stays when one of its descriptors leaves the chip. -/
@[simp] theorem Mod.ring_dropDesc (q k p : Nat) : ((m.dropDesc q k).queue p).cq = (m.queue p).cq :=
  m.queue_setQueue_of Queue.cq q p _ rfl

@[simp] theorem Mod.cq_dropDesc (q k c : Nat) : (m.dropDesc q k).cq c = m.cq c := rfl

theorem Mod.onchip_dropDesc (q k : Nat) : ((m.dropDesc q k).queue q).onchip = (m.queue q).onchip.eraseIdx k :=
  congrArg Queue.onchip (Mod.queue_setQueue_self m q _)

theorem Mod.outstanding_dropDesc (q k p : Nat) : ((m.dropDesc q k).queue p).outstanding = (m.queue p).outstanding :=
  m.queue_setQueue_of Queue.outstanding q p _ rfl

theorem Mod.onchip_settleSerial (q n p : Nat) : ((m.settleSerial q n).queue p).onchip = (m.queue p).onchip :=
  m.queue_setQueue_of Queue.onchip q p _ rfl

theorem Mod.outstanding_settleSerial (q n : Nat) :
    ((m.settleSerial q n).queue q).outstanding = (m.queue q).outstanding.erase n :=
  congrArg Queue.outstanding (Mod.queue_setQueue_self m q _)

end

/-! ### Changes that nothing outside sees -/

/-- `b` is `a` in the register file, in both memories and in what has left the module. -/
structure Silent (a b : Mod) : Prop where
  regs : b.regs = a.regs
  gddr : b.gddr = a.gddr
  sram : b.sram = a.sram
  outs : b.outs = a.outs

section
variable {a b c : Mod}

theorem Silent.refl (a : Mod) : Silent a a := ⟨rfl, rfl, rfl, rfl⟩

theorem Silent.trans (h : Silent a b) (k : Silent b c) : Silent a c :=
  ⟨k.regs.trans h.regs, k.gddr.trans h.gddr, k.sram.trans h.sram, k.outs.trans h.outs⟩

theorem Silent.reg (h : Silent a b) (o : Nat) : b.reg o = a.reg o := by rw [Mod.reg, Mod.reg, h.regs]

theorem Silent.memory (h : Silent a b) : SameMemory a b := .of_eq h.gddr h.sram

/-- What a statement says of a command that nothing outside sees. -/
theorem Silent.frame (h : Silent a b) (n : Nat) : ({ b with cmds := n } : Mod).outs = a.outs ∧
    SameMemory a { b with cmds := n } ∧ SameRegs [] a { b with cmds := n } :=
  ⟨h.outs, h.memory.cmds n, (SameRegs.of_eq h.regs).cmds n⟩

theorem silent_setQueue (q : Nat) (x : Queue) (m : Mod) : Silent m (m.setQueue q x) := ⟨rfl, rfl, rfl, rfl⟩
theorem silent_setCq (c : Nat) (x : Cq) (m : Mod) : Silent m (m.setCq c x) := ⟨rfl, rfl, rfl, rfl⟩
theorem silent_setInst (i : Nat) (x : Option Inst) (m : Mod) : Silent m (m.setInst i x) := ⟨rfl, rfl, rfl, rfl⟩
theorem silent_dropDesc (q k : Nat) (m : Mod) : Silent m (m.dropDesc q k) := silent_setQueue q _ m
theorem silent_unreserve (c n : Nat) (m : Mod) : Silent m (m.unreserve c n) := silent_setCq c _ m
theorem silent_settleSerial (q n : Nat) (m : Mod) : Silent m (m.settleSerial q n) := silent_setQueue q _ m
theorem silent_dropReads (q : Nat) (m : Mod) : Silent m (m.dropReads q) :=
  (silent_unreserve _ _ m).trans (silent_setQueue q _ _)

/-- A charge for an access is of this kind. -/
theorem OnlyCharges.silent (h : OnlyCharges a b) : Silent a b := ⟨h.regs, h.gddr, h.sram, h.outs⟩

theorem OnlyCharges.queue (h : OnlyCharges a b) (q : Nat) : b.queue q = a.queue q := by rw [Mod.queue, Mod.queue, h.queues]
theorem OnlyCharges.cq (h : OnlyCharges a b) (c : Nat) : b.cq c = a.cq c := by rw [h]; rfl

end

/-! ### HOST_ERR (Tables 4.12, 4.13) -/

section
variable (f : Fld) (q c : Nat) (m : Mod)

/-- An error of the host attachment is shown in registers alone. -/
theorem hostErr_eq : m.hostErr f q c = { m with regs := (m.hostErr f q c).regs } := by
  unfold Mod.hostErr
  simp only
  split <;> rfl

@[simp] theorem hostErr_queues : (m.hostErr f q c).queues = m.queues := by rw [hostErr_eq]
@[simp] theorem hostErr_cqs : (m.hostErr f q c).cqs = m.cqs := by rw [hostErr_eq]
@[simp] theorem hostErr_outs : (m.hostErr f q c).outs = m.outs := by rw [hostErr_eq]
@[simp] theorem hostErr_queue (p : Nat) : (m.hostErr f q c).queue p = m.queue p := by rw [hostErr_eq]; rfl
@[simp] theorem hostErr_cq (p : Nat) : (m.hostErr f q c).cq p = m.cq p := by rw [hostErr_eq]; rfl

theorem memory_hostErr : SameMemory m (m.hostErr f q c) := by
  rw [hostErr_eq]
  exact .of_eq rfl rfl

end

/-- `b` shows error `f` of HOST_ERR, with the queue and ring of the first in HOST_ERR_INFO, and is `a` in all else that is
seen outside. -/
structure ErrShown (f : Fld) (a b : Mod) : Prop where
  flag : b.flag Reg.HOST_ERR f = true
  outs : b.outs = a.outs
  memory : SameMemory a b
  regs : SameRegs [Reg.HOST_ERR, Reg.HOST_ERR_INFO] a b

theorem errShown_hostErr (f : Fld) (q c : Nat) (m : Mod) (hf : f.lo < 32) (hw : f.width = 1) :
    ErrShown f m (m.hostErr f q c) :=
  ⟨flag_hostErr f q c m hf hw, hostErr_outs f q c m, memory_hostErr f q c m, sameRegs_hostErr f q c m⟩

theorem ErrShown.before {f : Fld} {a b c : Mod} (h : Silent a b) (k : ErrShown f b c) : ErrShown f a c :=
  ⟨k.flag, k.outs.trans h.outs, h.memory.trans k.memory, (SameRegs.of_eq h.regs).trans k.regs⟩

theorem ErrShown.after {f : Fld} {a b c : Mod} (h : ErrShown f a b) (k : Silent b c) : ErrShown f a c :=
  ⟨by rw [Mod.flag, Mod.rd, k.reg]; exact h.flag, k.outs.trans h.outs, h.memory.trans k.memory,
    h.regs.trans (.of_eq k.regs)⟩

/-! ### Completions (R97 to R99) -/

/-- A completion waits in ring `r` to be written. -/
def Mod.await (r : Nat) (c : Comp) (m : Mod) : Mod :=
  m.setCq r { m.cq r with waiting := (m.cq r).waiting ++ [c] }

@[simp] theorem waiting_await (r : Nat) (c : Comp) (m : Mod) : ((m.await r c).cq r).waiting = (m.cq r).waiting ++ [c] := by
  rw [Mod.await, Mod.cq_setCq_self]

@[simp] theorem queue_await (r : Nat) (c : Comp) (m : Mod) (q : Nat) : (m.await r c).queue q = m.queue q := rfl
theorem silent_await (r : Nat) (c : Comp) (m : Mod) : Silent m (m.await r c) := silent_setCq r _ m

/-- The end of work of the module's own queues that is not suppressed waits in the ring of its queue. -/
theorem complete_own (quiet : Bool) (c : Comp) (m : Mod) (hq : c.queue < 4096)
    (hk : (quiet && c.status == 0 && !c.abortLate) = false) : m.complete quiet c = m.await (m.queue c.queue).cq c := by
  simp only [Mod.complete, hk, Bool.false_eq_true, if_false, Nat.not_le.mpr hq]
  rfl

/-- Under QUIET an OK record is suppressed: its reservation and its serial are given back (R92). -/
theorem complete_suppressed (c : Comp) (m : Mod) (hq : c.queue < 4096) (hs : c.status = 0) (ha : c.abortLate = false) :
    m.complete true c = (m.unreserve (m.queue c.queue).cq 1).settleSerial c.queue c.serial := by
  have hu : m.unreserved c = false := by simp [Mod.unreserved, Nat.not_le.mpr hq]
  simp [Mod.complete, hs, ha, hu]

/-- A descriptor without QUIET leaves its record to its queue's ring. -/
theorem completeDesc_own (q : Nat) (d : Desc) (st : Nat) (v : Word) (m : Mod) (hq : q < 4096) (hd : descQuiet d.bytes = false) :
    m.completeDesc q d st v = m.await (m.queue q).cq (descComp q d.serial d.bytes st v) :=
  complete_own _ _ m hq (by rw [hd]; rfl)

/-- A descriptor that may be taken is taken. -/
theorem takeDesc_eq {m : Mod} {q k op : Nat} {d : Desc} (f : Desc → Mod → Mod) (h : m.takeable q k op = some d) :
    m.takeDesc q k op f = f d m := by
  rw [Mod.takeDesc, h]

end Sys2Proof.Machine
end

section
/-!
PROOF. The doorbell area (R88), and O7.
-/

namespace Sys2Proof.Machine

/-- A write of 8 aligned bytes with every byte enable acts as the doorbell of the queue it names. -/
theorem doorbellWrite_formed (m : Mod) (i : Init) (q v : Nat) (hs : m.serving = true) (hr : ∀ c : Nat, i ≠ .regwr c)
    (hp : i ≠ .profile) : m.doorbellWrite i (0x1000000 + 8 * q) 8 true v = m.doorbell q v := by
  obtain ⟨hh, -, hopen⟩ := m.serving_iff.mp hs
  have ha : (0x1000000 + 8 * q) % 8 = 0 := by omega
  cases i with
  | regwr c => exact absurd rfl (hr c)
  | profile => exact absurd rfl hp
  | host | score _ | mcore _ => simp [Mod.doorbellWrite, hh, hopen, ha]

/-- A write of any other form is discarded with DB_SIZE, whoever makes it. -/
theorem doorbellWrite_discarded (m : Mod) (i : Init) (off size : Nat) (full : Bool) (v : Nat) (hs : m.serving = true)
    (hf : size ≠ 8 ∨ off % 8 ≠ 0 ∨ full = false) :
    m.doorbellWrite i off size full v = m.hostErr Fields.HOST_ERR.DB_SIZE ((off - 0x1000000) / 8) 0 := by
  obtain ⟨hh, -, hopen⟩ := m.serving_iff.mp hs
  have hform : (size == 8 && off % 8 == 0 && full) = false := by
    rw [Bool.eq_false_iff]
    simpa [and_assoc, imp_iff_not_or] using hf
  cases i <;> simp [Mod.doorbellWrite, hh, hopen, hform]

/-- DOORBELL of the right form. -/
theorem answers_doorbell (s : State) (i : Init) (q : Nat) (v : DWord) (hs : s.m.serving = true) (hi : i.wf = true)
    (hr : ∀ c : Nat, i ≠ .regwr c) (hp : i ≠ .profile) (hq : q < 4096) :
    Answers (.doorbell i (0x1000000 + 8 * q) 8 true v) s (fun t =>
      t = { s.m.doorbell q v.toNat with cmds := s.m.cmds + 1 }) := by
  have hw : Wf.doorbell i (0x1000000 + 8 * q) 8 = true := by simp [Wf.doorbell, hi]; omega
  exact answers_command rfl hw (s.m.serving_iff.mp hs).1 (doorbellWrite_formed s.m i q v.toNat hs hr hp) rfl

/-- DOORBELL of another form. -/
theorem answers_doorbell_discarded (s : State) (i : Init) (off size : Nat) (full : Bool) (v : DWord)
    (hs : s.m.serving = true) (hw : Wf.doorbell i off size = true) (hf : size ≠ 8 ∨ off % 8 ≠ 0 ∨ full = false) :
    Answers (.doorbell i off size full v) s (fun t => t.flag Reg.HOST_ERR Fields.HOST_ERR.DB_SIZE = true ∧
      t.queues = s.m.queues ∧ t.cqs = s.m.cqs ∧ SameMemory s.m t ∧ SameRegs [Reg.HOST_ERR, Reg.HOST_ERR_INFO] s.m t) := by
  have he := errShown_hostErr Fields.HOST_ERR.DB_SIZE ((off - 0x1000000) / 8) 0 s.m (by decide) rfl
  exact answers_command rfl hw (s.m.serving_iff.mp hs).1 (doorbellWrite_discarded s.m i off size full v.toNat hs hf)
    ⟨he.flag, hostErr_queues Fields.HOST_ERR.DB_SIZE _ 0 s.m, hostErr_cqs Fields.HOST_ERR.DB_SIZE _ 0 s.m, he.memory,
      he.regs⟩

/-- A read of 32 bits in the doorbell area returns 0. -/
theorem busRead_doorbells (m : Mod) (i : Init) (off : Nat) (hd : inDoorbells off = true) : (m.busRead i off).1 = 0#32 := by
  simp only [Mod.busRead, hd, if_true]
  split
  · rfl
  · split <;> rfl

/-- A read of another form returns 0 there, without ACCESS_ERR. -/
theorem answers_malformedRead_doorbells (s : State) (i : Init) (off width : Nat) (ht : s.m.taking = true)
    (hw : Wf.malformedAccess i off width = true) (hd : inDoorbells off = true) :
    Answers (.malformedAccess i off width false) s (fun t => t.outs = .regRead (initKey i) off 0#32 :: s.m.outs) := by
  obtain ⟨-, hl⟩ := s.m.taking_iff.mp ht
  have hform : (width == 4 && off % 4 == 0) = false := by
    simp only [Wf.malformedAccess, Bool.and_eq_true, Bool.or_eq_true, decide_eq_true_eq] at hw
    simp only [Bool.and_eq_false_iff, beq_eq_false_iff_ne]
    exact hw.2
  have he : s.m.malformed i off width false = s.m.emit (.regRead (initKey i) off 0#32) := by
    simp [Mod.malformed, hl, hform, hd]
  exact answers_always rfl hw he rfl

/-- Settles O7: the two forms of a write and the two of a read. -/
theorem doorbellForm : Obligations.DoorbellForm :=
  ⟨answers_doorbell, answers_doorbell_discarded, busRead_doorbells, answers_malformedRead_doorbells⟩

end Sys2Proof.Machine
end

section
/-!
PROOF. The base of the BAR4 aperture (R83, R84), and O9.
-/

namespace Sys2Proof.Machine

/-! ### What a register holds after a write -/

/-- A field of RW bits alone reads as written (Table 0.3). -/
theorem fget_after (d : RegDesc) (f : Fld) (old v : Word) (hc : d.w1c = 0#32)
    (hrw : ∀ k < f.width, d.rw.getLsbD (f.lo + k) = true) : fget f (d.after old v) = fget f v := by
  apply Nat.eq_of_testBit_eq
  intro k
  rw [testBit_fget, testBit_fget]
  by_cases hk : k < f.width
  · simp [RegDesc.after, hc, hrw k hk]
  · simp [hk]

/-! ### The write of HOST_BAR4_BASE_HI -/

/-- The low word that initiator `i` has staged (R5). -/
def Mod.baseStaged (m : Mod) (i : Init) : Word := (SMap.find m.stage (latchKey i Reg.HOST_BAR4_BASE_LO)).getD 0#32

/-- The base that a write of HOST_BAR4_BASE_HI with value `v` asks for (R84). -/
def Mod.baseAsked (m : Mod) (i : Init) (v : Word) : Nat :=
  (m.baseStaged i).toNat / 0x10000 * 0x10000 + 0x100000000 * fget Fields.HOST_BAR4_BASE_HI.BASE_H v

/-- The rows of the two words in the register table (Table 4.14). -/
def bar4BaseLo : RegDesc := ⟨.HOST_BAR4_BASE_LO, 0x100010, [], 0#32, 0xFFFF0000#32, 0#32, 0#32, 0#32⟩
def bar4BaseHi : RegDesc := ⟨.HOST_BAR4_BASE_HI, 0x100014, [], 0#32, 0x00003F07#32, 0#32, 0#32, 0#32⟩

theorem regAt_HOST_BAR4_BASE_LO : regAt Reg.HOST_BAR4_BASE_LO = some (bar4BaseLo, []) := by decide

/-- Both words of the base as such a write leaves them, where it is not discarded. -/
def Mod.baseTakenFrom (i : Init) (v : Word) (m : Mod) : Mod :=
  (m.setReg Reg.HOST_BAR4_BASE_LO (bar4BaseLo.after (m.reg Reg.HOST_BAR4_BASE_LO) (m.baseStaged i))).setReg
    Reg.HOST_BAR4_BASE_HI (bar4BaseHi.after (m.reg Reg.HOST_BAR4_BASE_HI) v)

theorem act_bar4Base (m : Mod) (i : Init) (v : Word) (d : RegDesc) (hd : d.name = .HOST_BAR4_BASE_HI) :
    Wr.act ⟨i, Reg.HOST_BAR4_BASE_HI, d, [], v⟩ m = if 0x700000000 < m.baseAsked i v then
      .error (m.hostErr Fields.HOST_ERR.BAR4_RANGE 0 0) else .ok (Wr.putPair ⟨i, Reg.HOST_BAR4_BASE_HI, d, [], v⟩ m) := by
  have hb : Reg.HOST_BAR4_BASE_HI / 0x100000 = 1 := by decide
  have hp : pairLows.contains RegName.HOST_BAR4_BASE_HI = false := by decide
  simp only [Wr.act, hd, hp, hb, Wr.host, Bool.false_eq_true, if_false, Wr.bar4Base, Wr.low_eq]
  rfl

theorem putPair_bar4Base (m : Mod) (i : Init) (v : Word) :
    Wr.putPair ⟨i, Reg.HOST_BAR4_BASE_HI, bar4BaseHi, [], v⟩ m = m.baseTakenFrom i v := by
  have hlow : Reg.HOST_BAR4_BASE_HI - 4 = Reg.HOST_BAR4_BASE_LO := by decide
  simp only [Wr.putPair, hlow, regAt_HOST_BAR4_BASE_LO, Wr.put, Wr.next, Wr.low_eq]
  rw [Mod.reg_setReg_ne _ _ _ _ (by decide)]
  rfl

theorem baseWrite_taken (m : Mod) (i : Init) (v : Word) (hs : m.serving = true) (hj : m.journalOn = false)
    (hb : m.baseAsked i v ≤ 0x700000000) : m.busWrite i Reg.HOST_BAR4_BASE_HI v = m.baseTakenFrom i v := by
  refine Mod.busWrite_accepted hs (by decide) (by decide) regAt_HOST_BAR4_BASE_HI ?_ ?_
  · rw [act_bar4Base m i v _ rfl, if_neg (by omega), ← putPair_bar4Base, bar4BaseHi]
  · rw [Mod.baseTakenFrom, Mod.journalOn_setReg _ _ _ (by decide), Mod.journalOn_setReg _ _ _ (by decide), hj]

theorem baseWrite_discarded (m : Mod) (i : Init) (v : Word) (hs : m.serving = true)
    (hb : 0x700000000 < m.baseAsked i v) :
    m.busWrite i Reg.HOST_BAR4_BASE_HI v = m.hostErr Fields.HOST_ERR.BAR4_RANGE 0 0 := by
  obtain ⟨hh, hl, hopen⟩ := m.serving_iff.mp hs
  refine m.busWrite_refused _ _ v _ _ _ hl hh (inDoorbells_blocks (by decide)) (by decide) (inBlocks_blocks (by decide))
    (by decide) regAt_HOST_BAR4_BASE_HI (m.writeOpen_open _ _ hopen) ?_
  rw [act_bar4Base m i v _ rfl, if_pos hb]

/-- Every later request starts at the base taken. -/
theorem bar4Addr_baseTakenFrom (m : Mod) (i : Init) (v : Word) (off : Nat) :
    (m.baseTakenFrom i v).bar4Addr off = m.baseAsked i v + off := by
  have hlo : (m.baseTakenFrom i v).rd Reg.HOST_BAR4_BASE_LO Fields.HOST_BAR4_BASE_LO.BASE_L =
      fget Fields.HOST_BAR4_BASE_LO.BASE_L (m.baseStaged i) := by
    rw [Mod.baseTakenFrom, Mod.rd, Mod.reg_setReg_ne _ _ _ _ (by decide), Mod.reg_setReg_self]
    exact fget_after _ _ _ _ rfl (by decide)
  have hhi : (m.baseTakenFrom i v).rd Reg.HOST_BAR4_BASE_HI Fields.HOST_BAR4_BASE_HI.BASE_H =
      fget Fields.HOST_BAR4_BASE_HI.BASE_H v := by
    rw [Mod.baseTakenFrom, Mod.rd, Mod.reg_setReg_self]
    exact fget_after _ _ _ _ rfl (by decide)
  have hfield : fget Fields.HOST_BAR4_BASE_LO.BASE_L (m.baseStaged i) = (m.baseStaged i).toNat / 0x10000 := by
    have := (m.baseStaged i).isLt
    simp only [fget, Fields.HOST_BAR4_BASE_LO.BASE_L, Nat.shiftRight_eq_div_pow]
    omega
  rw [Mod.bar4Addr, hlo, hhi, hfield, Mod.baseAsked]
  ring

/-- BAR4_BASE_WRITE, the base asked for being at most 0x7_0000_0000 or above it (R84). -/
theorem answers_bar4BaseWrite (s : State) (i : Init) (v : Word) (base : Nat) (hs : s.m.serving = true)
    (hj : s.m.journalOn = false) (hi : i.wf = true) (hbase : base = s.m.baseAsked i v) :
    Answers (.bar4BaseWrite i v) s (fun t =>
      (base ≤ 0x700000000 → (∀ off : Nat, t.bar4Addr off = base + off) ∧ t.reg Reg.HOST_ERR = s.m.reg Reg.HOST_ERR) ∧
      (0x700000000 < base → t.reg Reg.HOST_BAR4_BASE_LO = s.m.reg Reg.HOST_BAR4_BASE_LO ∧
        t.reg Reg.HOST_BAR4_BASE_HI = s.m.reg Reg.HOST_BAR4_BASE_HI ∧
        t.flag Reg.HOST_ERR Fields.HOST_ERR.BAR4_RANGE = true)) := by
  subst hbase
  have hh := (s.m.serving_iff.mp hs).1
  rcases Nat.lt_or_ge 0x700000000 (s.m.baseAsked i v) with hb | hb
  · have hk := sameRegs_hostErr Fields.HOST_ERR.BAR4_RANGE 0 0 s.m
    refine answers_command rfl hi hh (baseWrite_discarded s.m i v hs hb) ⟨fun hle => by omega, fun _ => ⟨?_, ?_, ?_⟩⟩
    · exact hk _ (by decide)
    · exact hk _ (by decide)
    · exact flag_hostErr _ _ _ s.m (by decide) rfl
  · refine answers_command rfl hi hh (baseWrite_taken s.m i v hs hj hb) ⟨fun _ => ⟨?_, ?_⟩, fun hlt => by omega⟩
    · exact bar4Addr_baseTakenFrom s.m i v
    · exact (Mod.reg_setReg_ne _ _ _ _ (by decide)).trans (Mod.reg_setReg_ne _ _ _ _ (by decide))

/-! ### A read through the aperture (R83) -/

/-- What is read is each byte in turn. -/
theorem memRead_eq_map (mem : List Host.Cell) (a n : Nat) :
    memRead mem a n = (List.range n).map (fun i => memByte mem (a + i)) := by
  induction n generalizing a with
  | zero => rfl
  | succ n ih =>
    rw [memRead, ih, List.range_succ_eq_map, List.map_cons, List.map_map]
    simp [Function.comp_def, Nat.add_assoc, Nat.add_comm 1]

/-- A read of good bytes answers them from the base in force. -/
theorem outs_bar4Read (m : Mod) (off n : Nat) (hbad : badBursts m.gddrBad (m.bar4Addr off) n = [])
    (hoff : ∀ i : Nat, i < n → m.gddrOff (m.bar4Addr off + i) = false) :
    (m.bar4Read off n).outs = .barRead 4 off (memRead m.gddr (m.bar4Addr off) n) false :: m.outs := by
  have hbytes : (List.range n).map (fun i =>
      if m.gddrOff (m.bar4Addr off + i) || [].contains ((m.bar4Addr off + i) / 64) then none
      else some (memByte m.gddr (m.bar4Addr off + i))) =
      (memRead m.gddr (m.bar4Addr off) n).map some := by
    rw [memRead_eq_map, List.map_map]
    refine List.map_congr_left fun i hi => ?_
    simp [hoff i (List.mem_range.mp hi)]
  have hc := onlyCharges_gddr ⟨m.bar4Group, false, false⟩ (m.bar4Addr off) n m.drcServed
  have hgood : ((memRead m.gddr (m.bar4Addr off) n).map some).any Option.isNone = false := by simp
  have hid : ((memRead m.gddr (m.bar4Addr off) n).map some).map (fun b => b.getD 0xFF#8) =
      memRead m.gddr (m.bar4Addr off) n := by simp
  simp only [Mod.bar4Read, hbad, hbytes, hgood, hid, List.filter_nil, Mod.each_nil]
  exact congrArg (Output.barRead 4 off (memRead m.gddr (m.bar4Addr off) n) false :: ·) hc.outs

theorem answers_bar4Read (s : State) (off n : Nat) (hs : s.m.serving = true) (hw : Wf.bar4Access off n none = true)
    (hbad : badBursts s.m.gddrBad (s.m.bar4Addr off) n = [])
    (hoff : ∀ i : Nat, i < n → s.m.gddrOff (s.m.bar4Addr off + i) = false) :
    Answers (.bar4Access off n none) s (fun t =>
      t.outs = .barRead 4 off (memRead s.m.gddr (s.m.bar4Addr off) n) false :: s.m.outs) := by
  obtain ⟨hh, hl, hopen⟩ := s.m.serving_iff.mp hs
  have ht : s.m.bar4 off n none = s.m.bar4Read off n := by simp [Mod.bar4, hl, hh, hopen]
  exact answers_command rfl hw hh ht (outs_bar4Read s.m off n hbad hoff)

/-- Settles O9: the write on either side of the limit, and the read at the base in force. -/
theorem apertureBase : Obligations.ApertureBase := ⟨answers_bar4BaseWrite, answers_bar4Read⟩

end Sys2Proof.Machine
end

section
/-!
PROOF. Descriptor reads (R92 to R94), and O19.
-/

namespace Sys2Proof.Machine

/-! ### A read is issued (R92) -/

/-- A read that may be issued reserves its slots beyond those kept, and takes the next slots of the ring. -/
def Mod.fetchBegun (q n : Nat) (m : Mod) : Mod :=
  (m.setCq (m.queue q).cq { m.cq (m.queue q).cq with
    resv := (m.cq (m.queue q).cq).resv + (n - min (m.queue q).kept n) }).setQueue q { m.queue q with
    kept := (m.queue q).kept - min (m.queue q).kept n
    fetches := (m.queue q).fetches ++ [⟨(m.queue q).nextSlot, n⟩] }

theorem silent_fetchBegun (q n : Nat) (m : Mod) : Silent m (m.fetchBegun q n) :=
  (silent_setCq _ _ m).trans (silent_setQueue _ _ _)

theorem descFetch_eq {m : Mod} {q n : Nat} (h : m.mayFetch q n = true) : m.descFetch q n =
    ((m.fetchBegun q n).chargeSram (payer (q / 64)) (64 * n)).emit
      (.hostRead ((m.queue q).base + 64 * (m.queue q).nextSlot) (64 * n)) := by
  simp only [Mod.descFetch, h, Bool.not_true, Bool.false_eq_true, if_false]
  rfl

theorem answers_descriptorFetch (s : State) (q n : Nat) (hh : s.m.flt.halted = false) (hq : q < 8192)
    (hf : s.m.mayFetch q n = true) : Answers (.descriptorFetch q n) s (fun t =>
      (t.queue q).fetches = (s.m.queue q).fetches ++ [⟨(s.m.queue q).nextSlot, n⟩] ∧
      (t.cq (s.m.queue q).cq).resv = (s.m.cq (s.m.queue q).cq).resv + (n - min (s.m.queue q).kept n) ∧
      t.outs = .hostRead ((s.m.queue q).base + 64 * (s.m.queue q).nextSlot) (64 * n) :: s.m.outs ∧
      SameMemory s.m t ∧ SameRegs [] s.m t) := by
  have hc := onlyCharges_sram (payer (q / 64)) (64 * n) (s.m.fetchBegun q n)
  have hk := (silent_fetchBegun q n s.m).trans hc.silent
  refine answers_command rfl (by simpa [Wf.descriptorFetch] using hq) hh (descFetch_eq hf) ⟨?_, ?_, ?_, hk.memory, ?_⟩
  · exact (congrArg Queue.fetches (hc.queue q)).trans (congrArg Queue.fetches (Mod.queue_setQueue_self _ q _))
  · exact (congrArg Cq.resv (hc.cq _)).trans (congrArg Cq.resv (Mod.cq_setCq_self s.m _ _))
  · exact congrArg (_ :: ·) hk.outs
  · exact SameRegs.of_eq hk.regs

/-! ### Without a journal nothing is sent (R395) -/

theorem journal_off (ty u site g slot node : Nat) (bs : List Byte) {m : Mod} (hj : m.journalOn = false) :
    m.journal ty u site g slot node bs = m := by simp [Mod.journal, hj]

theorem journalQueue_off (q : Nat) {m : Mod} (hj : m.journalOn = false) : m.journalQueue q = m := by
  rw [Mod.journalQueue, Mod.when, journal_off _ _ _ _ _ _ _ hj, ite_self]

theorem journalDesc_off (q slot : Nat) (bs : List Byte) {m : Mod} (hj : m.journalOn = false) :
    m.journalDesc q slot bs = m := by
  rw [Mod.journalDesc, Mod.when, journal_off _ _ _ _ _ _ _ hj, journal_off _ _ _ _ _ _ _ hj, ite_self]

/-! ### A descriptor returns (R93, R94) -/

/-- A queue once its next descriptor has come in: HEAD and the serial advance, and the descriptor is outstanding. -/
def Queue.tookNext (x : Queue) : Queue :=
  { x with
    head := (x.head + 1) % 2 ^ x.sizeLog2
    nextSerial := x.nextSerial + 1
    outstanding := x.outstanding ++ [x.nextSerial] }

/-- So also with a valid descriptor on chip. -/
def Queue.takeIn (bs : List Byte) (x : Queue) : Queue :=
  { x.tookNext with onchip := x.onchip ++ [⟨x.head, x.nextSerial, bs, false⟩] }

/-- So also with an invalid one, whose record is to halt the queue under HALT_ON_INVALID. -/
def Queue.turnAway (x : Queue) : Queue :=
  { x.tookNext with halting := if x.haltOnInvalid then some x.nextSerial else none }

section
variable {q : Nat} {m : Mod} {bs : List Byte}

theorem intake_valid (hv : descInvalid bs = none) (hj : m.journalOn = false) :
    m.intake q bs = m.setQueue q ((m.queue q).takeIn bs) := by
  have hon (x : Queue) : (m.setQueue q x).journalOn = false := hj
  simp only [Mod.intake, hv, journalDesc_off _ _ _ (hon _), journalQueue_off _ (hon _)]
  rfl

/-- The module once an invalid descriptor without QUIET has come in: DESC_INVALID, and a completion with its status. -/
def Mod.turnedAway (q : Nat) (bs : List Byte) (code : Nat) (m : Mod) : Mod :=
  ((m.setQueue q (m.queue q).turnAway).hostErr Fields.HOST_ERR.DESC_INVALID q (m.queue q).cq).await (m.queue q).cq
    (descComp q (m.queue q).nextSerial bs code 0#32)

theorem intake_invalid {code : Nat} (hq : q < 4096) (hv : descInvalid bs = some code) (hd : descQuiet bs = false) :
    m.intake q bs = m.turnedAway q bs code := by
  simp only [Mod.intake, hv, hd]
  rw [complete_own _ _ _ hq rfl, hostErr_queue]
  simp only [descComp, Mod.queue_setQueue_self]
  rfl

theorem queue_turnedAway (code : Nat) : (m.turnedAway q bs code).queue q = (m.queue q).turnAway := by
  rw [Mod.turnedAway, queue_await, hostErr_queue, Mod.queue_setQueue_self]

theorem waiting_turnedAway (code : Nat) : ((m.turnedAway q bs code).cq (m.queue q).cq).waiting =
    (m.cq (m.queue q).cq).waiting ++ [descComp q (m.queue q).nextSerial bs code 0#32] := by
  rw [Mod.turnedAway, waiting_await, hostErr_cq, Mod.cq_setQueue]

theorem errShown_turnedAway (code : Nat) : ErrShown Fields.HOST_ERR.DESC_INVALID m (m.turnedAway q bs code) :=
  .before (silent_setQueue q _ m) ((errShown_hostErr _ q _ _ (by decide) rfl).after (silent_await _ _ _))

/-- One descriptor enters a queue neither halted nor to halt. -/
theorem intakeAll_one (hh : (m.queue q).halted = false) (hg : (m.queue q).halting = none) :
    m.intakeAll q [bs] = m.intake q bs := by
  simp [Mod.intakeAll, hh, hg]

end

/-- A queue without reads in flight. -/
def Queue.noReads (x : Queue) : Queue := { x with fetches := [] }

/-- What becomes of the reads still in flight where the descriptor that came in halts its queue. -/
def Mod.endReads (q : Nat) (m : Mod) : Mod :=
  if (m.queue q).halted || (m.queue q).halting.isSome then m.dropReads q else m

section
variable (q : Nat) (m : Mod)

theorem queue_dropReads : (m.dropReads q).queue q = (m.queue q).noReads := Mod.queue_setQueue_self _ _ _

theorem waiting_dropReads (c : Nat) : ((m.dropReads q).cq c).waiting = (m.cq c).waiting := Mod.waiting_unreserve m _ _ c

theorem silent_endReads : Silent m (m.endReads q) := by
  unfold Mod.endReads
  split
  · exact silent_dropReads q m
  · exact .refl m

theorem queue_endReads (h : (m.queue q).fetches = []) : (m.endReads q).queue q = m.queue q := by
  have hn : (m.queue q).noReads = m.queue q := by rw [Queue.noReads, ← h]
  unfold Mod.endReads
  split
  · rw [queue_dropReads, hn]
  · rfl

theorem waiting_endReads (c : Nat) : ((m.endReads q).cq c).waiting = (m.cq c).waiting := by
  unfold Mod.endReads
  split
  · exact waiting_dropReads q m c
  · rfl

end

/-- A read of one descriptor returns to a queue neither halted nor to halt. -/
theorem descReadDone_one {m : Mod} {q sl : Nat} {bs : List Byte} (hf : (m.queue q).fetches = [⟨sl, 1⟩])
    (hh : (m.queue q).halted = false) (hg : (m.queue q).halting = none) (hl : bs.length = 64) :
    m.descReadDone q (some bs) = ((m.setQueue q (m.queue q).noReads).intake q bs).endReads q := by
  have hcut : cut64 1 bs = [bs] := by rw [cut64, cut64, List.take_of_length_le hl.le]
  have hq := Mod.queue_setQueue_self m q (m.queue q).noReads
  rw [← intakeAll_one (by rw [hq]; exact hh) (by rw [hq]; exact hg)]
  simp only [Mod.descReadDone, hf, hcut]
  rfl

theorem answers_descriptorRead_valid (s : State) (q sl : Nat) (bs : List Byte) (hh : s.m.flt.halted = false) (hq : q < 8192)
    (hf : (s.m.queue q).fetches = [⟨sl, 1⟩]) (hhalt : (s.m.queue q).halted = false) (hg : (s.m.queue q).halting = none)
    (hl : bs.length = 64) (hv : descInvalid bs = none) (hj : s.m.journalOn = false) :
    Answers (.descriptorReadComplete q (some bs)) s (fun t => (t.queue q).onchip = (s.m.queue q).onchip ++
        [⟨(s.m.queue q).head, (s.m.queue q).nextSerial, bs, false⟩] ∧
      (t.queue q).head = ((s.m.queue q).head + 1) % 2 ^ (s.m.queue q).sizeLog2 ∧ (t.queue q).fetches = [] ∧
      (t.queue q).outstanding = (s.m.queue q).outstanding ++ [(s.m.queue q).nextSerial] ∧ t.outs = s.m.outs ∧
      SameMemory s.m t ∧ SameRegs [] s.m t) := by
  have he : s.m.descReadDone q (some bs) =
      ((s.m.setQueue q (s.m.queue q).noReads).setQueue q ((s.m.queue q).noReads.takeIn bs)).endReads q := by
    rw [descReadDone_one hf hhalt hg hl, intake_valid (m := s.m.setQueue q _) hv hj, Mod.queue_setQueue_self]
  have hy : (s.m.descReadDone q (some bs)).queue q = (s.m.queue q).noReads.takeIn bs := by
    rw [he, queue_endReads _ _ (by rw [Mod.queue_setQueue_self]; rfl), Mod.queue_setQueue_self]
  have hk : Silent s.m (s.m.descReadDone q (some bs)) := by
    rw [he]
    exact ((silent_setQueue q _ _).trans (silent_setQueue q _ _)).trans (silent_endReads q _)
  refine answers_command rfl (by simpa [Wf.descriptorReadComplete] using hq) hh rfl ⟨?_, ?_, ?_, ?_, hk.frame _⟩
  · exact congrArg Queue.onchip hy
  · exact congrArg Queue.head hy
  · exact congrArg Queue.fetches hy
  · exact congrArg Queue.outstanding hy

theorem answers_descriptorRead_invalid (s : State) (q sl code : Nat) (bs : List Byte) (hh : s.m.flt.halted = false)
    (hq : q < 4096) (hf : (s.m.queue q).fetches = [⟨sl, 1⟩]) (hhalt : (s.m.queue q).halted = false)
    (hg : (s.m.queue q).halting = none) (hl : bs.length = 64) (hv : descInvalid bs = some code)
    (hd : descQuiet bs = false) :
    Answers (.descriptorReadComplete q (some bs)) s (fun t => (t.cq (s.m.queue q).cq).waiting =
        (s.m.cq (s.m.queue q).cq).waiting ++ [descComp q (s.m.queue q).nextSerial bs code 0#32] ∧
      t.flag Reg.HOST_ERR Fields.HOST_ERR.DESC_INVALID = true ∧ (t.queue q).halted = false ∧
      (t.queue q).halting = (if (s.m.queue q).haltOnInvalid then some (s.m.queue q).nextSerial else none) ∧
      (t.queue q).onchip = (s.m.queue q).onchip ∧ t.outs = s.m.outs ∧ SameMemory s.m t ∧
      SameRegs [Reg.HOST_ERR, Reg.HOST_ERR_INFO] s.m t) := by
  have he : s.m.descReadDone q (some bs) =
      ((s.m.setQueue q (s.m.queue q).noReads).turnedAway q bs code).endReads q := by
    rw [descReadDone_one hf hhalt hg hl, intake_invalid hq hv hd]
  have hx := Mod.queue_setQueue_self s.m q (s.m.queue q).noReads
  have hy : (s.m.descReadDone q (some bs)).queue q = (s.m.queue q).noReads.turnAway := by
    rw [he, queue_endReads _ _ (by rw [queue_turnedAway, hx]; rfl), queue_turnedAway, hx]
  have hw : ((s.m.descReadDone q (some bs)).cq (s.m.queue q).cq).waiting = (s.m.cq (s.m.queue q).cq).waiting ++
      [descComp q (s.m.queue q).nextSerial bs code 0#32] := by
    have h := waiting_turnedAway (q := q) (m := s.m.setQueue q (s.m.queue q).noReads) (bs := bs) code
    rw [hx] at h
    rw [he, waiting_endReads]
    exact h
  have hk : ErrShown Fields.HOST_ERR.DESC_INVALID s.m (s.m.descReadDone q (some bs)) := by
    rw [he]
    exact (ErrShown.before (silent_setQueue q _ _) (errShown_turnedAway code)).after (silent_endReads q _)
  exact answers_command rfl (by simp [Wf.descriptorReadComplete]; omega) hh rfl ⟨hw, hk.flag,
    (congrArg Queue.halted hy).trans hhalt, (congrArg Queue.halting hy :), (congrArg Queue.onchip hy :), hk.outs,
    hk.memory, hk.regs⟩

/-! ### A failed read (R93) -/

/-- A queue that a failed read has halted. -/
def Queue.failed (x : Queue) : Queue := { x with fetches := [], halted := true }

/-- The completion of a failed read. -/
def fetchErrComp (q : Nat) (x : Queue) : Comp :=
  { queue := q, serial := x.nextSerial + 0x100000000, tag := 0#32, status := stFETCH_ERR, abortLate := false,
    stretched := false, fail := false, detail := false, result := 0#32, site := 0, irqNow := false }

/-- The module once a read of `n` descriptors has failed, `rest` being still in flight: its queue is halted. -/
def Mod.readFailed (q n : Nat) (rest : List Fetch) (m : Mod) : Mod :=
  ((m.setQueue q { m.queue q with fetches := rest, halted := true }).dropReads q).unreserve (m.queue q).cq (n - 1)

theorem silent_readFailed (q n : Nat) (rest : List Fetch) (m : Mod) : Silent m (m.readFailed q n rest) :=
  ((silent_setQueue q _ m).trans (silent_dropReads q _)).trans (silent_unreserve _ _ _)

theorem queue_readFailed (q n : Nat) (rest : List Fetch) (m : Mod) :
    (m.readFailed q n rest).queue q = (m.queue q).failed := by
  rw [Mod.readFailed, Mod.unreserve, Mod.queue_setCq, queue_dropReads, Mod.queue_setQueue_self]
  rfl

theorem waiting_readFailed (q n : Nat) (rest : List Fetch) (m : Mod) (c : Nat) :
    ((m.readFailed q n rest).cq c).waiting = (m.cq c).waiting := by
  rw [Mod.readFailed, Mod.waiting_unreserve, waiting_dropReads, Mod.cq_setQueue]

theorem descReadDone_failed {m : Mod} {q : Nat} {f : Fetch} {rest : List Fetch} (hq : q < 4096)
    (hf : (m.queue q).fetches = f :: rest) : m.descReadDone q none =
      ((m.readFailed q f.count rest).hostErr Fields.HOST_ERR.FETCH_ERR q (m.queue q).cq).await (m.queue q).cq
        (fetchErrComp q (m.queue q)) := by
  simp only [Mod.descReadDone, hf]
  rw [complete_own _ _ _ hq rfl, hostErr_queue]
  change Mod.await ((m.readFailed q f.count rest).queue q).cq _ _ = _
  rw [queue_readFailed]
  rfl

theorem answers_descriptorRead_failed (s : State) (q : Nat) (f : Fetch) (rest : List Fetch) (hh : s.m.flt.halted = false)
    (hq : q < 4096) (hf : (s.m.queue q).fetches = f :: rest) :
    Answers (.descriptorReadComplete q none) s (fun t => (t.queue q).halted = true ∧ (t.queue q).fetches = [] ∧
      (t.queue q).head = (s.m.queue q).head ∧ t.flag Reg.HOST_ERR Fields.HOST_ERR.FETCH_ERR = true ∧
      (t.cq (s.m.queue q).cq).waiting.map (fun c => (c.queue, c.status, c.tag)) =
        (s.m.cq (s.m.queue q).cq).waiting.map (fun c => (c.queue, c.status, c.tag)) ++ [(q, stFETCH_ERR, 0#32)] ∧
      t.outs = s.m.outs ∧ SameMemory s.m t ∧ SameRegs [Reg.HOST_ERR, Reg.HOST_ERR_INFO] s.m t) := by
  have he := descReadDone_failed hq hf
  have hy : (s.m.descReadDone q none).queue q = (s.m.queue q).failed := by
    rw [he, queue_await, hostErr_queue, queue_readFailed]
  have hw : ((s.m.descReadDone q none).cq (s.m.queue q).cq).waiting =
      (s.m.cq (s.m.queue q).cq).waiting ++ [fetchErrComp q (s.m.queue q)] := by
    rw [he, waiting_await, hostErr_cq, waiting_readFailed]
  have hk : ErrShown Fields.HOST_ERR.FETCH_ERR s.m (s.m.descReadDone q none) := by
    rw [he]
    exact (ErrShown.before (silent_readFailed q _ _ _) (errShown_hostErr _ q _ _ (by decide) rfl)).after (silent_await _ _ _)
  refine answers_command rfl (by simp [Wf.descriptorReadComplete]; omega) hh rfl ⟨(congrArg Queue.halted hy :),
    (congrArg Queue.fetches hy :), (congrArg Queue.head hy :), hk.flag, ?_, hk.outs, hk.memory, hk.regs⟩
  exact (congrArg (List.map fun c : Comp => (c.queue, c.status, c.tag)) hw).trans List.map_append

/-- Settles O19: the read that is issued, and the three that return. -/
theorem descriptorFetch : Obligations.DescriptorFetch :=
  ⟨answers_descriptorFetch, answers_descriptorRead_valid, answers_descriptorRead_invalid, answers_descriptorRead_failed⟩

end Sys2Proof.Machine
end

section
/-!
SUPPORT. The evaluation of a graph whose nodes all wait or have begun (R109), and its end (R113).
-/

namespace Sys2Proof.Machine

/-- No node of the graph is ready or to be skipped. -/
def Inst.settled (y : Inst) : Prop :=
  ∀ j : Nat, j < y.nodes.length → (y.nodeSt j ≠ NodeSt.waiting ∨ y.turn j = Turn.wait)

section
variable {m : Mod} {i : Nat} {y : Inst}

/-- A node that waits for inputs, or no longer waits, is left. -/
theorem evalNode_settled {k : Nat} (hi : m.inst i = some y) (h : y.nodeSt k ≠ NodeSt.waiting ∨ y.turn k = Turn.wait) :
    m.evalNode i k = m := by
  rcases h with h | h
  · simp [Mod.evalNode, hi, h]
  · simp [Mod.evalNode, hi, h]

theorem evalNodes_settled (hi : m.inst i = some y) (h : y.settled) : m.evalNodes i = m := by
  simp only [Mod.evalNodes, hi]
  refine Mod.each_keeps m (· = m) _ _ (fun k hk x hx => ?_) rfl
  rw [hx, evalNode_settled hi (h k (List.mem_range.mp hk))]

/-- A graph with a node still to end, and not ended early, goes on. -/
theorem checkEnd_unfinished (hi : m.inst i = some y) (hq : y.quitStatus = none) (hf : y.finished = false) :
    m.checkEnd i = m := by
  simp [Mod.checkEnd, hi, hq, hf]

/-- So does one that has ended early while an operation runs. -/
theorem checkEnd_busy (hi : m.inst i = some y) (hb : y.busy = true) (hf : y.finished = false) : m.checkEnd i = m := by
  simp [Mod.checkEnd, hi, hb, hf]

/-- A slot that takes a graph none of whose nodes is ready or to be skipped holds it as it is. -/
theorem putInst_settled (m : Mod) (h : y.settled) (hq : y.quitStatus = none) (hf : y.finished = false) :
    ((m.setInst i (some y)).evalNodes i).checkEnd i = m.setInst i (some y) := by
  have hi := Mod.inst_setInst_self m i (some y)
  rw [evalNodes_settled hi h, checkEnd_unfinished hi hq hf]

end

end Sys2Proof.Machine
end

section
/-!
PROOF. Descriptors that Hatch takes itself (R95 to R99, R112), and O20.
-/

namespace Sys2Proof.Machine

/-! ### NOP (R99) -/

theorem answers_nop (s : State) (q k : Nat) (d : Desc) (hh : s.m.flt.halted = false) (hq : q < 4096)
    (ht : s.m.takeable q k 0 = some d) (hd : descQuiet d.bytes = false) :
    Answers (.nop q k) s (fun t => (t.queue q).onchip = (s.m.queue q).onchip.eraseIdx k ∧
      (t.cq (s.m.queue q).cq).waiting = (s.m.cq (s.m.queue q).cq).waiting ++ [descComp q d.serial d.bytes stOK 0#32] ∧
      t.outs = s.m.outs ∧ SameMemory s.m t ∧ SameRegs [] s.m t) := by
  have he := (takeDesc_eq (fun d m => (m.dropDesc q k).completeDesc q d stOK 0#32) ht).trans
    (completeDesc_own q d stOK 0#32 (s.m.dropDesc q k) hq hd)
  rw [Mod.ring_dropDesc] at he
  have hk := (silent_dropDesc q k s.m).trans (silent_await (s.m.queue q).cq (descComp q d.serial d.bytes stOK 0#32) _)
  exact answers_command rfl (by simp [Wf.nop]; omega) hh he
    ⟨s.m.onchip_dropDesc q k, waiting_await _ _ (s.m.dropDesc q k), hk.frame _⟩

theorem answers_nop_quiet (s : State) (q k : Nat) (d : Desc) (hh : s.m.flt.halted = false) (hq : q < 4096)
    (ht : s.m.takeable q k 0 = some d) (hd : descQuiet d.bytes = true) :
    Answers (.nop q k) s (fun t => (t.queue q).onchip = (s.m.queue q).onchip.eraseIdx k ∧
      (t.cq (s.m.queue q).cq).waiting = (s.m.cq (s.m.queue q).cq).waiting ∧
      (t.queue q).outstanding = (s.m.queue q).outstanding.erase d.serial ∧ t.outs = s.m.outs ∧ SameMemory s.m t ∧
      SameRegs [] s.m t) := by
  have he : s.m.takeDesc q k 0 (fun d m => (m.dropDesc q k).completeDesc q d stOK 0#32) =
      ((s.m.dropDesc q k).unreserve (s.m.queue q).cq 1).settleSerial q d.serial := by
    rw [takeDesc_eq _ ht, Mod.completeDesc, hd, complete_suppressed _ _ hq rfl rfl]
    simp only [descComp, Mod.ring_dropDesc]
  have hk := ((silent_dropDesc q k s.m).trans (silent_unreserve (s.m.queue q).cq 1 _)).trans
    (silent_settleSerial q d.serial _)
  refine answers_command rfl (by simp [Wf.nop]; omega) hh he ⟨?_, ?_, ?_, hk.frame _⟩
  · exact (Mod.onchip_settleSerial _ q _ q).trans (s.m.onchip_dropDesc q k)
  · exact Mod.waiting_unreserve (s.m.dropDesc q k) _ 1 _
  · exact (Mod.outstanding_settleSerial _ q _).trans (congrArg (List.erase · d.serial) (s.m.outstanding_dropDesc q k q))

/-! ### GRAPH_ABORT (R95) -/

/-- An abort that finds neither a running nor a queued graph is late. -/
theorem graphAbort_absent {m : Mod} {q : Nat} {d : Desc} (hr : m.runningInst (descSite d.bytes) (fieldAt d.bytes 8 4) = none)
    (hg : m.queuedGraph (descSite d.bytes) (fieldAt d.bytes 8 4) = none) : m.graphAbort q d =
      m.complete (descQuiet d.bytes) { descComp q d.serial d.bytes stOK 0#32 with abortLate := true } := by
  unfold Mod.graphAbort
  dsimp only
  rw [hr]
  dsimp only
  rw [hg]

/-- One that finds a queued graph ends it first. -/
theorem graphAbort_queued {m : Mod} {q qt kt : Nat} {d g : Desc}
    (hr : m.runningInst (descSite d.bytes) (fieldAt d.bytes 8 4) = none)
    (hg : m.queuedGraph (descSite d.bytes) (fieldAt d.bytes 8 4) = some (qt, kt))
    (hk : (m.queue qt).onchip[kt]? = some g) : m.graphAbort q d =
      ((m.dropDesc qt kt).completeDesc qt g stABORTED 0#32).completeDesc q d stOK 0#32 := by
  unfold Mod.graphAbort
  dsimp only
  rw [hr]
  dsimp only
  rw [hg]
  dsimp only
  rw [hk]

theorem answers_graphAbort_late (s : State) (q k : Nat) (d : Desc) (hh : s.m.flt.halted = false) (hq : q < 4096)
    (ht : s.m.takeable q k 2 = some d) (hd : descQuiet d.bytes = false)
    (hr : s.m.runningInst (descSite d.bytes) (fieldAt d.bytes 8 4) = none)
    (hg : (s.m.dropDesc q k).queuedGraph (descSite d.bytes) (fieldAt d.bytes 8 4) = none) :
    Answers (.graphAbort q k) s (fun t => (t.queue q).onchip = (s.m.queue q).onchip.eraseIdx k ∧
      (t.cq (s.m.queue q).cq).waiting = (s.m.cq (s.m.queue q).cq).waiting ++
        [{ descComp q d.serial d.bytes stOK 0#32 with abortLate := true }] ∧
      t.outs = s.m.outs ∧ SameMemory s.m t ∧ SameRegs [] s.m t) := by
  have hr' : (s.m.dropDesc q k).runningInst (descSite d.bytes) (fieldAt d.bytes 8 4) = none := hr
  have he : s.m.takeDesc q k 2 (fun d m => (m.dropDesc q k).graphAbort q d) = (s.m.dropDesc q k).await (s.m.queue q).cq
      { descComp q d.serial d.bytes stOK 0#32 with abortLate := true } := by
    rw [takeDesc_eq _ ht, graphAbort_absent hr' hg, complete_own _ _ _ hq (by rw [hd]; rfl)]
    simp only [descComp, Mod.ring_dropDesc]
  have hk := (silent_dropDesc q k s.m).trans (silent_await (s.m.queue q).cq
    { descComp q d.serial d.bytes stOK 0#32 with abortLate := true } _)
  exact answers_command rfl (by simp [Wf.graphAbort]; omega) hh he
    ⟨s.m.onchip_dropDesc q k, waiting_await _ _ (s.m.dropDesc q k), hk.frame _⟩

/-- The module once graph `g`, descriptor `kt` of queue `qt`, has ended with ABORTED and abort `d` of queue `q` after it. -/
def Mod.abortedQueued (q qt kt c : Nat) (d g : Desc) (m : Mod) : Mod :=
  ((m.dropDesc qt kt).await c (descComp qt g.serial g.bytes stABORTED 0#32)).await c (descComp q d.serial d.bytes stOK 0#32)

section
variable (q qt kt c : Nat) (d g : Desc) (m : Mod)

theorem onchip_abortedQueued : ((m.abortedQueued q qt kt c d g).queue qt).onchip = (m.queue qt).onchip.eraseIdx kt := by
  rw [Mod.abortedQueued, queue_await, queue_await, Mod.onchip_dropDesc]

theorem waiting_abortedQueued : ((m.abortedQueued q qt kt c d g).cq c).waiting = (m.cq c).waiting ++
    [descComp qt g.serial g.bytes stABORTED 0#32, descComp q d.serial d.bytes stOK 0#32] := by
  rw [Mod.abortedQueued, waiting_await, waiting_await, Mod.cq_dropDesc, List.append_assoc]
  rfl

theorem silent_abortedQueued : Silent m (m.abortedQueued q qt kt c d g) :=
  ((silent_dropDesc qt kt m).trans (silent_await c _ _)).trans (silent_await c _ _)

end

theorem answers_graphAbort_queued (s : State) (q k qt kt c : Nat) (d g : Desc) (hh : s.m.flt.halted = false)
    (hq : q < 4096) (hqt : qt < 4096) (ht : s.m.takeable q k 2 = some d) (hd : descQuiet d.bytes = false)
    (hgq : descQuiet g.bytes = false) (hr : s.m.runningInst (descSite d.bytes) (fieldAt d.bytes 8 4) = none)
    (hg : (s.m.dropDesc q k).queuedGraph (descSite d.bytes) (fieldAt d.bytes 8 4) = some (qt, kt))
    (hk : ((s.m.dropDesc q k).queue qt).onchip[kt]? = some g) (hc : (s.m.queue q).cq = c) (hct : (s.m.queue qt).cq = c) :
    Answers (.graphAbort q k) s (fun t => (t.queue qt).onchip = ((s.m.dropDesc q k).queue qt).onchip.eraseIdx kt ∧
      (t.cq c).waiting = (s.m.cq c).waiting ++ [descComp qt g.serial g.bytes stABORTED 0#32,
        descComp q d.serial d.bytes stOK 0#32] ∧ t.outs = s.m.outs ∧ SameMemory s.m t ∧ SameRegs [] s.m t) := by
  have hr' : (s.m.dropDesc q k).runningInst (descSite d.bytes) (fieldAt d.bytes 8 4) = none := hr
  have he : s.m.takeDesc q k 2 (fun d m => (m.dropDesc q k).graphAbort q d) =
      (s.m.dropDesc q k).abortedQueued q qt kt c d g := by
    rw [takeDesc_eq _ ht, graphAbort_queued hr' hg hk, completeDesc_own _ _ _ _ _ hqt hgq, completeDesc_own _ _ _ _ _ hq hd]
    simp only [queue_await, Mod.ring_dropDesc, hc, hct]
    rfl
  have hs := (silent_dropDesc q k s.m).trans (silent_abortedQueued q qt kt c d g _)
  exact answers_command rfl (by simp [Wf.graphAbort]; omega) hh he
    ⟨onchip_abortedQueued q qt kt c d g _, waiting_abortedQueued q qt kt c d g _, hs.frame _⟩

/-! ### TOKEN_INJECT (R112) -/

theorem tokenInject_eq {m : Mod} {q i : Nat} {d : Desc} {x y : Inst} (hq : q < 4096) (hd : descQuiet d.bytes = false)
    (hj : m.journalOn = false) (hr : m.runningInst (descSite d.bytes) (fieldAt d.bytes 8 4) = some i)
    (hi : m.inst i = some x) (he : fieldAt d.bytes 12 2 < x.edges.length)
    (hx : (x.edge (fieldAt d.bytes 12 2)).src = 0xFFFF) (hempty : x.token (fieldAt d.bytes 12 2) = none)
    (hy : y = x.setToken (fieldAt d.bytes 12 2) (some (edgeToken (x.edge (fieldAt d.bytes 12 2))
      ⟨BitVec.ofNat 64 (fieldAt d.bytes 16 8), false, false⟩)))
    (hquit : y.quitStatus = none) (hf : y.finished = false) (hs : y.settled) :
    m.tokenInject q d = (m.setInst i (some y)).await (m.queue q).cq (descComp q d.serial d.bytes stOK 0#32) := by
  have hedge : (!decide (fieldAt d.bytes 12 2 < x.edges.length) ||
      (x.edge (fieldAt d.bytes 12 2)).src != 0xFFFF) = false := by
    rw [hx, decide_eq_true he]
    rfl
  unfold Mod.tokenInject
  dsimp only
  rw [hr]
  dsimp only
  rw [hi]
  dsimp only
  rw [hedge, hempty, Option.isSome_none, Mod.when, journal_off _ _ _ _ _ _ _ hj, ite_self, ← hy, if_neg Bool.false_ne_true,
    if_neg Bool.false_ne_true, putInst_settled m hs hquit hf, completeDesc_own _ _ _ _ _ hq hd, Mod.queue_setInst]

theorem answers_tokenInject (s : State) (q k i : Nat) (d : Desc) (x y : Inst) (hh : s.m.flt.halted = false) (hq : q < 4096)
    (ht : s.m.takeable q k 3 = some d) (hd : descQuiet d.bytes = false) (hj : s.m.journalOn = false)
    (hr : s.m.runningInst (descSite d.bytes) (fieldAt d.bytes 8 4) = some i) (hi : s.m.inst i = some x)
    (he : fieldAt d.bytes 12 2 < x.edges.length) (hx : (x.edge (fieldAt d.bytes 12 2)).src = 0xFFFF)
    (hempty : x.token (fieldAt d.bytes 12 2) = none)
    (hy : y = x.setToken (fieldAt d.bytes 12 2) (some (edgeToken (x.edge (fieldAt d.bytes 12 2))
      ⟨BitVec.ofNat 64 (fieldAt d.bytes 16 8), false, false⟩)))
    (hquit : y.quitStatus = none) (hf : y.finished = false) (hs : y.settled) :
    Answers (.tokenInject q k) s (fun t => t.inst i = some y ∧ (t.queue q).onchip = (s.m.queue q).onchip.eraseIdx k ∧
      (t.cq (s.m.queue q).cq).waiting = (s.m.cq (s.m.queue q).cq).waiting ++ [descComp q d.serial d.bytes stOK 0#32] ∧
      t.outs = s.m.outs ∧ SameMemory s.m t ∧ SameRegs [] s.m t) := by
  have ht' := (takeDesc_eq (fun d m => (m.dropDesc q k).tokenInject q d) ht).trans
    (tokenInject_eq (m := s.m.dropDesc q k) hq hd hj hr hi he hx hempty hy hquit hf hs)
  rw [Mod.ring_dropDesc] at ht'
  have hk := ((silent_dropDesc q k s.m).trans (silent_setInst i (some y) _)).trans
    (silent_await (s.m.queue q).cq (descComp q d.serial d.bytes stOK 0#32) _)
  exact answers_command rfl (by simp [Wf.tokenInject]; omega) hh ht' ⟨Mod.inst_setInst_self (s.m.dropDesc q k) i _,
    s.m.onchip_dropDesc q k, waiting_await _ _ ((s.m.dropDesc q k).setInst i (some y)), hk.frame _⟩

/-- Settles O20, one lemma for each way in which such a descriptor ends. -/
theorem descriptorsEnd : Obligations.DescriptorsEnd :=
  ⟨answers_nop, answers_nop_quiet, answers_graphAbort_late, answers_graphAbort_queued, answers_tokenInject⟩

end Sys2Proof.Machine
end

section
/-!
PROOF. The end of a node, SETTLE and the timeouts (R95, R110, R111, R117, R121), and O23.
-/

namespace Sys2Proof.Machine

/-- Without the decision trace no record is written (R134). -/
theorem trace_off (type cls group queue status slot node unit : Nat) {m : Mod} (h : m.traceOn = false) :
    m.trace type cls group queue status slot node unit = m := by
  simp [Mod.trace, Mod.tracePut, h]

/-! ### NODE_COMPLETE (R111, R117) -/

/-- The report leaves its queue, and its group is paid back COST less the time used. -/
def Mod.reportPaid (us : Nat) (r : Report) (rest : List Report) (x : Inst) (m : Mod) : Mod :=
  ({ m with hat := { m.hat with reports := rest } } : Mod).payBack (x.node r.node).cls x.group (x.node r.node).cost
    (if r.ran then us else 0)

/-- The node settles with its token, and may be asked for pre-emption again. -/
def Mod.nodeSettles (r : Report) (x : Inst) (m : Mod) : Mod :=
  ({ m with hat := { m.hat with noAsk := SMap.set badDefault m.hat.noAsk (1024 * r.inst + r.node) false } } : Mod).setInst
    r.inst (some (({ x with stretch := x.stretch + r.stretch, ran := x.ran + b2n r.ran } : Inst).setSt r.node
      (.settling ⟨r.value, r.fail, false⟩)))

theorem nodeComplete_eq {m : Mod} {us : Nat} {r : Report} {rest : List Report} {x : Inst} (hr : m.hat.reports = r :: rest)
    (hi : m.inst r.inst = some x) (hj : m.journalFull = false) (hp : m.pairActive = false) (ht : m.traceOn = false) :
    m.nodeComplete us = (m.reportPaid us r rest x).commitNode r := by
  have ht' : (m.reportPaid us r rest x).traceOn = false := ht
  simp only [Mod.nodeComplete, hr, hi, hj, hp, Bool.false_and, Bool.false_eq_true, if_false]
  exact congrArg (Mod.commitNode r) (trace_off _ _ _ _ _ _ _ _ ht')

theorem commitNode_settles {m : Mod} {r : Report} {x : Inst} (hi : m.inst r.inst = some x) (hq : x.quitStatus = none)
    (hs : r.status = stOK) (hn : (x.node r.node).settle ≠ 0) : m.commitNode r = m.nodeSettles r x := by
  have hopen : ¬ x.quitStatus.isSome = true := by simp [hq]
  simp only [Mod.commitNode, hi]
  rw [if_neg hopen, if_neg (not_not.mpr hs), if_neg hn]
  rfl

theorem deficit_reportPaid (us : Nat) (r : Report) (rest : List Report) (x : Inst) (m : Mod) :
    (m.reportPaid us r rest x).hat.deficitOf (x.node r.node).cls x.group =
      max (-65535) (min 65535 (m.hat.deficitOf (x.node r.node).cls x.group + ((max (x.node r.node).cost 1 : Nat) : Int) -
        ((if r.ran then us else 0 : Nat) : Int))) := SMap.get_set_self _ _ _ _

theorem answers_nodeComplete (s : State) (us : Nat) (r : Report) (rest : List Report) (x : Inst)
    (hh : s.m.flt.halted = false) (hr : s.m.hat.reports = r :: rest) (hi : s.m.inst r.inst = some x)
    (hj : s.m.journalFull = false) (hp : s.m.pairActive = false) (ht : s.m.traceOn = false) (hq : x.quitStatus = none)
    (hs : r.status = stOK) (hn : (x.node r.node).settle ≠ 0) :
    Answers (.nodeComplete us) s (fun t => t.hat.reports = rest ∧
      t.inst r.inst = some (({ x with stretch := x.stretch + r.stretch, ran := x.ran + b2n r.ran } : Inst).setSt r.node
        (.settling ⟨r.value, r.fail, false⟩)) ∧
      t.hat.deficitOf (x.node r.node).cls x.group = max (-65535) (min 65535 (s.m.hat.deficitOf (x.node r.node).cls x.group +
        ((max (x.node r.node).cost 1 : Nat) : Int) - ((if r.ran then us else 0 : Nat) : Int))) ∧
      t.outs = s.m.outs ∧ SameMemory s.m t ∧ SameRegs [] s.m t) := by
  have he := (nodeComplete_eq hr hi hj hp ht).trans
    (commitNode_settles (m := s.m.reportPaid us r rest x) hi hq hs hn)
  have hk : Silent s.m ((s.m.reportPaid us r rest x).nodeSettles r x) := ⟨rfl, rfl, rfl, rfl⟩
  exact answers_command (f := Mod.nodeComplete us) rfl rfl hh he
    ⟨rfl, Mod.inst_setInst_self _ _ _, deficit_reportPaid us r rest x s.m, hk.frame _⟩

/-! ### TOKEN_RELEASE (R111) -/

/-- Placing tokens does not end a graph early. -/
theorem quitStatus_placeTokens (k : Nat) (tok : Token) (x : Inst) : (x.placeTokens k tok).quitStatus = x.quitStatus := by
  have hfold (l : List Nat) (z : Inst) :
      (l.foldl (fun z j => z.setToken j (some (edgeToken (x.edge j) tok))) z).quitStatus = z.quitStatus := by
    induction l generalizing z with
    | nil => rfl
    | cons j l ih => exact ih _
  exact hfold _ x

theorem tokenRelease_eq {m : Mod} {i k us : Nat} {x y : Inst} {tok : Token} (hi : m.inst i = some x)
    (hk : x.nodeSt k = .settling tok) (hs : (x.node k).settle ≤ us) (hq : x.quitStatus = none)
    (hy : y = (x.setSt k NodeSt.done).placeTokens k tok) (hf : y.finished = false) (ht : y.settled) :
    m.tokenRelease i k us = m.setInst i (some y) := by
  have hyq : y.quitStatus = none := by rw [hy, quitStatus_placeTokens]; exact hq
  simp only [Mod.tokenRelease, hi, hk, hs, hq, and_self, if_true, ← hy]
  exact putInst_settled m ht hyq hf

theorem answers_tokenRelease (s : State) (i k us : Nat) (x y : Inst) (tok : Token) (hh : s.m.flt.halted = false)
    (hi : i < 512) (hx : s.m.inst i = some x) (hk : x.nodeSt k = .settling tok) (hs : (x.node k).settle ≤ us)
    (hq : x.quitStatus = none) (hy : y = (x.setSt k NodeSt.done).placeTokens k tok) (hf : y.finished = false)
    (ht : y.settled) : Answers (.tokenRelease i k us) s (fun t => t.inst i = some y ∧ t.outs = s.m.outs ∧
      SameMemory s.m t ∧ SameRegs [] s.m t) :=
  answers_command rfl (by simpa [Wf.tokenRelease] using hi) hh (tokenRelease_eq hx hk hs hq hy hf ht)
    ⟨Mod.inst_setInst_self s.m i _, (silent_setInst i _ s.m).frame _⟩

/-! ### Early ends (R95, R121) -/

theorem SMap.mem_of_find {α : Type} {m : SMap α} {k : Nat} {v : α} (h : SMap.find m k = some v) : (k, v) ∈ m := by
  induction m with
  | nil => simp [SMap.find] at h
  | cons e t ih =>
    obtain ⟨a, w⟩ := e
    rw [SMap.find] at h
    split at h
    · rename_i hk
      rw [hk, Option.some.inj h]
      exact List.mem_cons_self
    · exact List.mem_cons_of_mem _ (ih h)

/-- No entry of the graph in slot `i` waits in the queue. -/
def Queue.without (i : Nat) (y : Queue) : Bool := (y.ready ++ y.held).all (fun r => r.inst != i)

theorem without_queue {m : Mod} {i : Nat} (h : m.queues.all (fun e => e.2.without i) = true) (q : Nat) :
    (m.queue q).without i = true := by
  rw [Mod.queue, SMap.get]
  cases hf : SMap.find m.queues q with
  | none => rfl
  | some y => exact List.all_eq_true.mp h _ (SMap.mem_of_find hf)

theorem dropEntries_absent {m : Mod} {i : Nat} (h : m.queues.all (fun e => e.2.without i) = true) : m.dropEntries i = m := by
  refine Mod.each_keeps m (· = m) _ _ (fun q _ x hx => ?_) rfl
  have hq := without_queue h q
  rw [Queue.without, List.all_append] at hq
  rw [hx]
  exact if_pos hq

theorem dropRequests_absent {m : Mod} {i : Nat} (h : m.hat.preempt = []) : m.dropRequests i = m := by
  refine Mod.each_keeps m (· = m) _ _ (fun c _ x hx => ?_) rfl
  rw [hx, h]
  rfl

/-- A TDC keeps its operation when its graph ends early. -/
theorem stopNode_tdc {m : Mod} {i k u code : Nat} {x : Inst} (hi : m.inst i = some x) (hk : x.nodeSt k = .running 4 u) :
    m.stopNode i k code = m := by
  simp only [Mod.stopNode, hi, hk]
  split
  · rfl
  · split <;> rfl

/-- A graph that has ended early. -/
def Inst.ended (code bad : Nat) (x : Inst) : Inst := { x with quitStatus := some code, badNode := bad }

/-- A graph whose one node runs on a TDC ends early with a status, and the node runs on. -/
theorem quit_tdc {m : Mod} {i u code bad : Nat} {x : Inst} (hi : m.inst i = some x) (hq : x.quitStatus = none)
    (hl : x.nodes.length = 1) (hk : x.nodeSt 0 = .running 4 u) (he : m.queues.all (fun e => e.2.without i) = true)
    (hp : m.hat.preempt = []) (ht : m.traceOn = false) :
    m.quit i code bad = m.setInst i (some (x.ended code bad)) := by
  have hi' := Mod.inst_setInst_self m i (some (x.ended code bad))
  have hk' : (x.ended code bad).nodeSt 0 = .running 4 u := hk
  have hbusy : (x.ended code bad).busy = true := by
    have hn : (x.ended code bad).nodes.length = 1 := hl
    simp [Inst.busy, hn, hk']
  have hf : (x.ended code bad).finished = false := by
    have hn : (x.ended code bad).nodes.length = 1 := hl
    simp [Inst.finished, hn, hk']
  have ht' : (m.setInst i (some (x.ended code bad))).traceOn = false := ht
  have hdrop : (m.setInst i (some (x.ended code bad))).dropEntries i = m.setInst i (some (x.ended code bad)) :=
    dropEntries_absent he
  have hreq : (m.setInst i (some (x.ended code bad))).dropRequests i = m.setInst i (some (x.ended code bad)) :=
    dropRequests_absent hp
  have hopen : ¬ x.quitStatus.isSome = true := by simp [hq]
  unfold Mod.quit
  rw [hi]
  dsimp only
  rw [if_neg hopen, ← Inst.ended, trace_off _ _ _ _ _ _ _ _ ht', hdrop, hreq, hl]
  change ((m.setInst i (some (x.ended code bad))).stopNode i 0 code).checkEnd i = _
  rw [stopNode_tdc hi' hk', checkEnd_busy hi' hbusy hf]

/-- NODE_TIMEOUT of a node that runs on a TDC. -/
theorem answers_nodeTimeout (s : State) (i us u : Nat) (x : Inst) (hh : s.m.flt.halted = false) (hi : i < 512)
    (hx : s.m.inst i = some x) (hq : x.quitStatus = none) (hl : x.nodes.length = 1) (hk : x.nodeSt 0 = .running 4 u)
    (hn : (x.node 0).timeout ≠ 0) (hu : (x.node 0).timeout ≤ us)
    (he : s.m.queues.all (fun e => (e.2.ready ++ e.2.held).all (fun r => r.inst != i)) = true)
    (hp : s.m.hat.preempt = []) (ht : s.m.traceOn = false) :
    Answers (.nodeTimeout i 0 us) s (fun t => t.inst i = some { x with quitStatus := some stNODE_TIMEOUT, badNode := 0 } ∧
      t.outs = s.m.outs ∧ SameMemory s.m t ∧ SameRegs [] s.m t) := by
  have hquit : s.m.nodeTimeout i 0 us = s.m.quit i stNODE_TIMEOUT 0 := by
    simp [Mod.nodeTimeout, hx, hk, hn, hu]
  exact answers_command rfl (by simpa [Wf.nodeTimeout] using hi) hh (hquit.trans (quit_tdc hx hq hl hk he hp ht))
    ⟨Mod.inst_setInst_self s.m i _, (silent_setInst i _ s.m).frame _⟩

/-- TIMEOUT of a graph whose node runs on a TDC. -/
theorem answers_timeout (s : State) (i us u : Nat) (x : Inst) (hh : s.m.flt.halted = false) (hi : i < 512)
    (hx : s.m.inst i = some x) (hq : x.quitStatus = none) (hl : x.nodes.length = 1) (hk : x.nodeSt 0 = .running 4 u)
    (hn : x.timeout ≠ 0) (hu : x.timeout ≤ us)
    (he : s.m.queues.all (fun e => (e.2.ready ++ e.2.held).all (fun r => r.inst != i)) = true)
    (hp : s.m.hat.preempt = []) (ht : s.m.traceOn = false) :
    Answers (.timeout i us) s (fun t => t.inst i = some { x with quitStatus := some stTIMEOUT, badNode := 0xFFFF } ∧
      t.outs = s.m.outs ∧ SameMemory s.m t ∧ SameRegs [] s.m t) := by
  have hquit : s.m.instTimeout i us = s.m.quit i stTIMEOUT 0xFFFF := by
    unfold Mod.instTimeout
    rw [hx]
    exact if_pos ⟨hn, hu⟩
  exact answers_command rfl (by simpa [Wf.timeout] using hi) hh (hquit.trans (quit_tdc hx hq hl hk he hp ht))
    ⟨Mod.inst_setInst_self s.m i _, (silent_setInst i _ s.m).frame _⟩

/-- Settles O23: the report, the release of its token, and the two timeouts. -/
theorem nodesEnd : Obligations.NodesEnd :=
  ⟨answers_nodeComplete, answers_tokenRelease, answers_nodeTimeout, answers_timeout⟩

end Sys2Proof.Machine
end

section
/-!
PROOF. BIND of a queue that is still marked to halt (R87, R94): why O51 fails.
-/

namespace Sys2Proof.Machine

/-- A write of HOST_QCMD does what OP names (Table 4.20). -/
theorem act_qcmd (m : Mod) (i : Init) (v : Word) (d : RegDesc) (hd : d.name = .HOST_QCMD) :
    Wr.act ⟨i, Reg.HOST_QCMD, d, [], v⟩ m = .ok (m.qCmd (fget Fields.HOST_QCMD.OP v)) := by
  have hb : Reg.HOST_QCMD / 0x100000 = 1 := by decide
  have hp : pairLows.contains RegName.HOST_QCMD = false := by decide
  simp only [Wr.act, hd, hp, hb, Wr.host, Bool.false_eq_true, if_false]
  rfl

/-- A queue bound with what the context window has staged. -/
def Mod.boundFrom (m : Mod) (x : Queue) : Queue :=
  { x with
    bound := true
    base := m.rd64 Reg.HOST_QCTX_BASE_LO
    sizeLog2 := m.rd Reg.HOST_QCTX_CFG Fields.HOST_QCTX_CFG.SIZE_LOG2
    cq := m.rd Reg.HOST_QCTX_CFG Fields.HOST_QCTX_CFG.CQ
    haltOnInvalid := m.flag Reg.HOST_QCTX_CFG Fields.HOST_QCTX_CFG.HALT_ON_INVALID
    head := 0
    tail := 0
    halted := false
    halting := none }

theorem qBind_bound {m : Mod} (hj : m.journalOn = false) (hb : (m.queue m.qsel).bound = false)
    (hlo : 4 ≤ m.rd Reg.HOST_QCTX_CFG Fields.HOST_QCTX_CFG.SIZE_LOG2)
    (hhi : m.rd Reg.HOST_QCTX_CFG Fields.HOST_QCTX_CFG.SIZE_LOG2 ≤ 16)
    (hc : m.cqOn (m.rd Reg.HOST_QCTX_CFG Fields.HOST_QCTX_CFG.CQ) = true) :
    m.qBind = m.setQueue m.qsel (m.boundFrom (m.queue m.qsel)) := by
  have hon (x : Queue) : (m.setQueue m.qsel x).journalOn = false := hj
  simp only [Mod.qBind, hb, hc, Nat.not_lt.mpr hlo, Nat.not_lt.mpr hhi, decide_false, Bool.not_true, Bool.or_self,
    Bool.false_eq_true, if_false, journalQueue_off _ (hon _)]
  rw [Mod.boundFrom]

/-- BIND takes a queue out of every halt, also of one that waits for its record. -/
theorem answers_bind_halting (s : State) (i : Init) (hs : s.m.serving = true) (hj : s.m.journalOn = false) (hi : i.wf = true)
    (hb : (s.m.queue s.m.qsel).bound = false) (hlo : 4 ≤ s.m.rd Reg.HOST_QCTX_CFG Fields.HOST_QCTX_CFG.SIZE_LOG2)
    (hhi : s.m.rd Reg.HOST_QCTX_CFG Fields.HOST_QCTX_CFG.SIZE_LOG2 ≤ 16)
    (hc : s.m.cqOn (s.m.rd Reg.HOST_QCTX_CFG Fields.HOST_QCTX_CFG.CQ) = true) :
    Answers (.bind i) s (fun t => (t.queue s.m.qsel).halting = none) := by
  have hop : fget Fields.HOST_QCMD.OP 2#32 = 2 := by decide
  have ht : s.m.busWrite i Reg.HOST_QCMD 2#32 = s.m.setQueue s.m.qsel (s.m.boundFrom (s.m.queue s.m.qsel)) := by
    refine Mod.busWrite_accepted hs (by decide) (by decide) regAt_HOST_QCMD ?_ hj
    rw [act_qcmd _ _ _ _ rfl, hop, Mod.qCmd, qBind_bound hj hb hlo hhi hc]
  refine answers_command rfl hi (s.m.serving_iff.mp hs).1 ht ?_
  exact congrArg Queue.halting (Mod.queue_setQueue_self s.m s.m.qsel (s.m.boundFrom (s.m.queue s.m.qsel)))

/-- The module after reset, READY, with ring 0 enabled, and queue 0 unbound but to halt with the record of descriptor 0. -/
def unboundHalting : State :=
  ⟨[], ((Mod.reset.wr Reg.GLB_START_STATE Fields.GLB_START_STATE.STATE 6).wr (Reg.HOST_CQ_CFG 0)
    Fields.HOST_CQ_CFG.ENABLE 1).setQueue 0 { Queue.fresh with halting := some 0 }⟩

/-- Refutes O51 by its clause on BIND, which lists what a queue holds once it is bound and has the rest kept, the halt that
waits for the record of an invalid descriptor (R94) among it. The model ends such a halt with the binding, as it does that
of a halted queue. UNBIND leaves no queue so marked, but the statement speaks of every state. -/
theorem not_queueWindowCommands : ¬ Obligations.QueueWindowCommands := by
  intro h
  obtain ⟨-, hBind, -⟩ := h
  have hkept := hBind unboundHalting .host 0 0 4 (by decide) (by decide) rfl (by decide) (by decide) (by decide) (by decide)
    (by decide) (by decide) (by decide)
  have hended := answers_bind_halting unboundHalting .host (by decide) (by decide) rfl (by decide) (by decide) (by decide)
    (by decide)
  obtain ⟨t, -, -, ⟨hqueue, -⟩, hnone⟩ := hkept.and hended
  have hsome : (t.m.queue 0).halting = some 0 := by
    rw [hqueue]
    decide
  have hsel : unboundHalting.m.qsel = 0 := by decide
  rw [hsel, hsome] at hnone
  exact Option.some_ne_none 0 hnone

end Sys2Proof.Machine
end

section
/-!
PROOF. Privileged queues, the decision trace and DATALOG (R129 to R131, R134, R141, R423), and O25.
-/

namespace Sys2Proof.Machine

/-! ### PRIV_RECORD_APPEND (R129, R423) -/

/-- A queue with a record more on chip. -/
def Queue.withPriv (bs : List Byte) (y : Queue) : Queue := { y with priv := y.priv ++ [⟨bs⟩] }

/-- A queue with room on chip, nothing of it spilled, takes the record there. -/
theorem privPut_onchip {m : Mod} {q : Nat} (bs : List Byte) (hp : (m.queue q).priv.length < 16)
    (hn : m.spilled (m.rd (Reg.HAT_Q_CFG q) Fields.HAT_Q_CFG.SPILL_CTX) = 0) :
    m.privPut q bs = (true, m.setQueue q ((m.queue q).withPriv bs)) := by
  rw [Mod.privPut, if_pos ⟨hp, hn⟩]
  rfl

/-- The oldest staged fault record leaves the staging for queue `q`. -/
def Mod.faultTaken (q : Nat) (r : FaultRec) (rest : List FaultRec) (m : Mod) : Mod :=
  { m.setQueue q ((m.queue q).withPriv r.toBytes) with flt := { m.flt with staging := rest } }

theorem privAppend_fault {m : Mod} {q : Nat} {r : FaultRec} {rest : List FaultRec}
    (hc : m.flag (Reg.HAT_Q_CFG q) Fields.HAT_Q_CFG.PRIV = true) (hq : m.faultQueue q = true)
    (hs : m.flt.staging = r :: rest) (hp : (m.queue q).priv.length < 16)
    (hn : m.spilled (m.rd (Reg.HAT_Q_CFG q) Fields.HAT_Q_CFG.SPILL_CTX) = 0) :
    m.privAppend q = m.faultTaken q r rest := by
  simp only [Mod.privAppend, hc, hq, hs, Bool.not_true, Bool.false_eq_true, if_false, if_true, List.head?_cons,
    privPut_onchip r.toBytes hp hn, Mod.when_true, Mod.setQueue_flt, List.tail_cons]
  rfl

theorem answers_privRecordAppend (s : State) (q : Nat) (r : FaultRec) (rest : List FaultRec) (hh : s.m.flt.halted = false)
    (hq : q < 4096) (hc : s.m.flag (Reg.HAT_Q_CFG q) Fields.HAT_Q_CFG.PRIV = true) (hf : s.m.faultQueue q = true)
    (hs : s.m.flt.staging = r :: rest) (hp : (s.m.queue q).priv.length < 16)
    (hn : s.m.spilled (s.m.rd (Reg.HAT_Q_CFG q) Fields.HAT_Q_CFG.SPILL_CTX) = 0) :
    Answers (.privRecordAppend q) s (fun t => (t.queue q).priv = (s.m.queue q).priv ++ [⟨r.toBytes⟩] ∧
      t.flt.staging = rest ∧ t.outs = s.m.outs ∧ SameMemory s.m t ∧ SameRegs [] s.m t) := by
  have hk : Silent s.m (s.m.faultTaken q r rest) := ⟨rfl, rfl, rfl, rfl⟩
  exact answers_command rfl (decide_eq_true hq) hh (privAppend_fault hc hf hs hp hn)
    ⟨congrArg Queue.priv (Mod.queue_setQueue_self s.m q _), rfl, hk.frame _⟩

/-! ### SPILL_REFILL (R130) -/

/-- A queue to which its oldest spilled record has come back, of a region of `n` places. -/
def Queue.refilled (bs : List Byte) (n : Nat) (y : Queue) : Queue :=
  { y with
    priv := y.priv ++ [⟨bs⟩]
    spillRd := (y.spillRd + 1) % n }

/-- The oldest spilled record of queue `q`, of spill context `c`, comes back on chip, its read charged to the group. -/
def Mod.spillTaken (q c : Nat) (bs : List Byte) (m : Mod) : Mod :=
  ((m.charged (q / 64) (m.spillAt c (m.queue q).spillRd) 64).setQueue q ((m.queue q).refilled bs (m.spillSlots c))).wr
    (Reg.HAT_SPILL_STATE c) Fields.HAT_SPILL_STATE.COUNT (m.spilled c - 1)

section
variable (q c : Nat) (bs : List Byte) (m : Mod)

theorem queue_spillTaken : (m.spillTaken q c bs).queue q = (m.queue q).refilled bs (m.spillSlots c) :=
  Mod.queue_setQueue_self _ q _

theorem spilled_spillTaken : (m.spillTaken q c bs).spilled c = m.spilled c - 1 :=
  (Mod.rd_wr_self _ _ _ _ (by decide)).trans
    (Nat.mod_eq_of_lt (Nat.lt_of_le_of_lt (Nat.sub_le _ _) (fget_lt Fields.HAT_SPILL_STATE.COUNT _)))

theorem onlyCharges_charged (ctx va n : Nat) (m : Mod) : OnlyCharges m (m.charged ctx va n) := onlyCharges_read _ _ _ _ _ _

/-- But for COUNT of the spill context, nothing outside sees the record come back. -/
theorem spillTaken_silent : ∃ x, Silent m x ∧ m.spillTaken q c bs =
    x.wr (Reg.HAT_SPILL_STATE c) Fields.HAT_SPILL_STATE.COUNT (m.spilled c - 1) :=
  ⟨_, (onlyCharges_charged _ _ _ m).silent.trans (silent_setQueue q _ _), rfl⟩

end

theorem spillRefill_eq {m : Mod} {q c : Nat} {bs : List Byte} {host : List Host.Cell}
    (hf : m.flag (Reg.HAT_Q_CFG q) Fields.HAT_Q_CFG.PRIV = true)
    (hc : m.rd (Reg.HAT_Q_CFG q) Fields.HAT_Q_CFG.SPILL_CTX = c) (hn : m.spilled c ≠ 0)
    (hp : (m.queue q).priv.length < 16)
    (hr : m.devRecord (q / 64) host (m.spillAt c (m.queue q).spillRd) 64 = .ok bs) :
    m.spillRefill q host = m.spillTaken q c bs := by
  have hgo : ¬ (m.spilled c = 0 ∨ 16 ≤ (m.queue q).priv.length ∨
      m.flag (Reg.HAT_Q_CFG q) Fields.HAT_Q_CFG.PRIV = false) := by
    simp [hn, hf, hp]
  unfold Mod.spillRefill
  dsimp only
  rw [hc, if_neg hgo, hr]
  rfl

theorem answers_spillRefill (s : State) (q c : Nat) (bs : List Byte) (host : List Host.Cell) (hh : s.m.flt.halted = false)
    (hq : q < 4096) (hf : s.m.flag (Reg.HAT_Q_CFG q) Fields.HAT_Q_CFG.PRIV = true)
    (hc : s.m.rd (Reg.HAT_Q_CFG q) Fields.HAT_Q_CFG.SPILL_CTX = c) (hn : s.m.spilled c ≠ 0)
    (hp : (s.m.queue q).priv.length < 16)
    (hr : s.m.devRecord (q / 64) host (s.m.spillAt c (s.m.queue q).spillRd) 64 = .ok bs) :
    Answers (.spillRefill q host) s (fun t => (t.queue q).priv = (s.m.queue q).priv ++ [⟨bs⟩] ∧
      t.spilled c = s.m.spilled c - 1 ∧ (t.queue q).spillRd = ((s.m.queue q).spillRd + 1) % s.m.spillSlots c ∧
      t.outs = s.m.outs ∧ SameMemory s.m t ∧ SameRegs [Reg.HAT_SPILL_STATE c] s.m t) := by
  have hy := queue_spillTaken q c bs s.m
  have hcount := spilled_spillTaken q c bs s.m
  have ht := spillRefill_eq hf hc hn hp hr
  obtain ⟨x, hk, hx⟩ := spillTaken_silent q c bs s.m
  rw [hx] at ht hy hcount
  exact answers_command rfl (decide_eq_true hq) hh ht ⟨congrArg Queue.priv hy, hcount, congrArg Queue.spillRd hy, hk.outs,
    hk.memory, ((SameRegs.of_eq hk.regs).wr _ _ _ List.mem_cons_self).cmds _⟩

/-! ### TRACE_COPY (R134) -/

/-- The oldest trace record leaves for host memory, and the count of records written advances. -/
def Mod.traceSent (r : List Byte) (rest : List (List Byte)) (m : Mod) : Mod :=
  (({ m with hat := { m.hat with traceRing := rest } } : Mod).emit (.hostWrite (m.rd64 Reg.HAT_TRACE_BASE_LO +
    16 * ((m.reg Reg.HAT_TRACE_WR).toNat % m.traceCap)) r m.dataRo)).setReg Reg.HAT_TRACE_WR
    (BitVec.ofNat 32 ((m.reg Reg.HAT_TRACE_WR).toNat + 1))

theorem traceCopy_host {m : Mod} {r : List Byte} {rest : List (List Byte)} (hd : m.traceDest = 2)
    (hr : m.hat.traceRing = r :: rest) (hs : m.flag Reg.HAT_TRACE_CTRL Fields.HAT_TRACE_CTRL.STOP_FULL = false) :
    m.traceCopy = m.traceSent r rest := by
  have hshut : m.traceShut = false := by rw [Mod.traceShut, hs, Bool.and_false]
  simp only [Mod.traceCopy, hr, hd, hshut]
  rfl

theorem answers_traceCopy (s : State) (r : List Byte) (rest : List (List Byte)) (hh : s.m.flt.halted = false)
    (hd : s.m.traceDest = 2) (hr : s.m.hat.traceRing = r :: rest)
    (hs : s.m.flag Reg.HAT_TRACE_CTRL Fields.HAT_TRACE_CTRL.STOP_FULL = false) :
    Answers .traceCopy s (fun t => t.hat.traceRing = rest ∧
      t.reg Reg.HAT_TRACE_WR = BitVec.ofNat 32 ((s.m.reg Reg.HAT_TRACE_WR).toNat + 1) ∧
      t.outs = .hostWrite (s.m.rd64 Reg.HAT_TRACE_BASE_LO + 16 * ((s.m.reg Reg.HAT_TRACE_WR).toNat % s.m.traceCap)) r
        s.m.dataRo :: s.m.outs ∧ SameMemory s.m t ∧ SameRegs [Reg.HAT_TRACE_WR] s.m t) := by
  refine answers_command rfl rfl hh (traceCopy_host hd hr hs) ⟨rfl, Mod.reg_setReg_self _ _ _, rfl, .refl _, ?_⟩
  exact (SameRegs.of_eq rfl).setReg _ _ List.mem_cons_self

/-! ### DATALOG (R141) -/

/-- A load outside the device window leaves the module as it is. -/
theorem loadRecord_keeps {m t : Mod} {c a n : Nat} {bs : List Byte} {host : List Host.Cell} (ha : a < 0x1000000000000)
    (h : m.loadRecord c a n host = .ok (bs, t)) : t = m := by
  have hplace (va : Nat) : corePlace c a ≠ .device va := by
    have hd : ¬ (0x1000000000000 ≤ a ∧ a < 0x2000000000000) := by omega
    unfold corePlace
    simp only [hd, if_false]
    split_ifs <;> simp
  unfold Mod.loadRecord at h
  cases hp : corePlace c a with
  | own off | sram off =>
    rw [hp] at h
    dsimp only at h
    split at h
    · cases h
    · exact (Prod.mk.inj (Except.ok.inj h)).2.symm
  | device va => exact absurd hp (hplace va)
  | rom | plic | bar0 _ | nowhere =>
    rw [hp] at h
    cases h

theorem loadRecord_local {m : Mod} {c a : Nat} {bs : List Byte} {host : List Host.Cell} (ha : a < 0x1000000000000)
    (hr : m.coreRecord c a 64 host = some bs) : m.loadRecord c a 64 host = .ok (bs, m) := by
  unfold Mod.coreRecord at hr
  split at hr
  · rename_i t hl
    rw [← Option.some.inj hr, hl, loadRecord_keeps ha hl]
  · cases hr

/-- A record of core `c` is owed to queue `q`, and the core's call waits until it is taken. -/
def Mod.recordOwed (c q : Nat) (bs : List Byte) (m : Mod) : Mod :=
  ({ m with hat := { m.hat with feeds := m.hat.feeds ++ [⟨q, bs, some c⟩] } } : Mod).setScore c
    { m.score c with logging := true }

theorem datalog_owed {m : Mod} {c q a i k : Nat} {bs : List Byte} {host : List Host.Cell}
    (hs : (m.score c).step = some (i, k)) (hr : m.coreRecord c a 64 host = some bs)
    (hq : 64 * (m.nodeJob i k).group + q < 4096)
    (hp : m.flag (Reg.HAT_Q_CFG (64 * (m.nodeJob i k).group + q)) Fields.HAT_Q_CFG.PRIV = true)
    (ha : m.acked c = false) (hl : (m.score c).logging = false) (hw : a < 0x1000000000000) :
    m.datalog c q a host = m.recordOwed c (64 * (m.nodeJob i k).group + q) bs := by
  unfold Mod.datalog
  rw [hs]
  dsimp only
  rw [ha, hl, if_neg (by simp), loadRecord_local hw hr]
  exact if_pos ⟨hq, hp⟩

theorem answers_datalog (s : State) (c q a i k : Nat) (bs : List Byte) (host : List Host.Cell) (hh : s.m.flt.halted = false)
    (hw : Wf.datalog c q = true) (hs : (s.m.score c).step = some (i, k)) (hr : s.m.coreRecord c a 64 host = some bs)
    (hq : 64 * (s.m.nodeJob i k).group + q < 4096)
    (hp : s.m.flag (Reg.HAT_Q_CFG (64 * (s.m.nodeJob i k).group + q)) Fields.HAT_Q_CFG.PRIV = true)
    (ha : s.m.acked c = false) (hl : (s.m.score c).logging = false) (hwin : a < 0x1000000000000) :
    Answers (.datalog c q a host) s (fun t => t.hat.feeds = s.m.hat.feeds ++
        [⟨64 * (s.m.nodeJob i k).group + q, bs, some c⟩] ∧ (t.score c).logging = true ∧ t.outs = s.m.outs ∧
      SameMemory s.m t ∧ SameRegs [] s.m t) := by
  have hk : Silent s.m (s.m.recordOwed c (64 * (s.m.nodeJob i k).group + q) bs) := ⟨rfl, rfl, rfl, rfl⟩
  exact answers_command rfl hw hh (datalog_owed hs hr hq hp ha hl hwin)
    ⟨rfl, congrArg SCore.logging (Mod.score_setScore_self _ c _), hk.frame _⟩

/-- Settles O25: a fault record, a spilled record, a trace record and a DATALOG record. -/
theorem privilegedQueues : Obligations.PrivilegedQueues :=
  ⟨answers_privRecordAppend, answers_spillRefill, answers_traceCopy, answers_datalog⟩

end Sys2Proof.Machine
end

section
/-!
PROOF. Launches of one node, node fetch and DMA lists (R107 to R109, R114, R364), and O21.
-/

namespace Sys2Proof.Machine

/-! ### What reads are charged (R31) -/

theorem OnlyCharges.inst {a b : Mod} (h : OnlyCharges a b) (i : Nat) : b.inst i = a.inst i := by
  rw [Mod.inst, Mod.inst, h.insts]

theorem onlyCharges_image (nodeRun : Bool) (ctx va : Nat) (host : List Host.Cell) (m : Mod) :
    OnlyCharges m (m.imageCharged nodeRun ctx va host) := by
  have hc (x : Mod) (a n : Nat) : OnlyCharges x (x.charged ctx a n) := onlyCharges_charged ctx a n x
  unfold Mod.imageCharged
  split
  · exact .refl m
  · dsimp only
    split
    · exact hc m _ _
    · split
      · exact (hc m _ _).trans (.when _ _ (hc _ _ _))
      · exact hc m _ _

/-! ### A node without inputs (R109, R114) -/

section
variable {m : Mod} {i k : Nat} {x : Inst}

/-- A node without input edges is ready at once. -/
theorem turn_source (h : x.inEdges k = []) : x.turn k = .ready := by
  simp [Inst.turn, h]

/-- A node of graph `i` enters its queue as ready. -/
def Mod.nodeReady (i k : Nat) (x : Inst) (m : Mod) : Mod :=
  (m.setQueue (x.queueOf k) { m.queue (x.queueOf k) with
    ready := (m.queue (x.queueOf k)).ready ++ [⟨i, k, none⟩] }).setInst i (some (x.setSt k .ready))

/-- A waiting node without inputs, no JOIN, enters its queue while that has room. -/
theorem evalNode_source (hi : m.inst i = some x) (hst : x.nodeSt k = .waiting) (hq : x.quitStatus = none)
    (hin : x.inEdges k = []) (hc : (x.node k).cls ≠ 9) (hl : (m.queue (x.queueOf k)).ready.length < 16)
    (hh : (m.queue (x.queueOf k)).held = []) : m.evalNode i k = m.nodeReady i k x := by
  have hgo : ¬ ((x.nodeSt k != .waiting || x.quitStatus.isSome) = true) := by simp [hst, hq]
  unfold Mod.evalNode
  rw [hi]
  dsimp only
  rw [if_neg hgo, turn_source hin]
  dsimp only
  rw [if_neg hc]
  exact if_pos ⟨hl, hh⟩

/-- A graph of one node is evaluated at that node alone. -/
theorem evalNodes_one (hi : m.inst i = some x) (hl : x.nodes.length = 1) : m.evalNodes i = m.evalNode i 0 := by
  simp only [Mod.evalNodes, hi, hl]
  rfl

end

/-! ### Launches (R107, R108) -/

section
variable (m : Mod) (q k p : Nat)

theorem Mod.ready_dropDesc : ((m.dropDesc q k).queue p).ready = (m.queue p).ready :=
  m.queue_setQueue_of Queue.ready q p _ rfl

theorem Mod.held_dropDesc : ((m.dropDesc q k).queue p).held = (m.queue p).held :=
  m.queue_setQueue_of Queue.held q p _ rfl

end

/-- A slot takes the launch of one node, which is ready. -/
def Mod.launched (i q : Nat) (d : Desc) (g : Graph) (nodeRun : Bool) (m : Mod) : Mod :=
  (m.setInst i (some (newInst q d g nodeRun))).nodeReady i 0 (newInst q d g nodeRun)

section
variable {m : Mod} {q k i : Nat} {d : Desc} {n : NodeD} {g : Graph} {nodeRun : Bool} {host : List Host.Cell}

/-- The queue of the one node of a launch. -/
theorem queueOf_newInst (hg : g.nodes = [n]) : (newInst q d g nodeRun).queueOf 0 = 64 * (q / 64) + n.qsel := by
  simp [Inst.queueOf, Inst.node, Inst.group, newInst, hg]

/-- A graph with one node, which is ready, has not ended. -/
theorem unfinished_one {x : Inst} (hl : x.nodes.length = 1) : (x.setSt 0 .ready).finished = false := by
  have hst : (x.setSt 0 .ready).nodeSt 0 = .ready := by simp [Inst.nodeSt, Inst.setSt]
  have hn : (x.setSt 0 .ready).nodes.length = 1 := hl
  simp [Inst.finished, hn, hst]

theorem acceptInst_one (hg : g.nodes = [n]) (hin : (newInst q d g nodeRun).inEdges 0 = []) (hc : n.cls ≠ 9)
    (hl : (m.queue (64 * (q / 64) + n.qsel)).ready.length < 16) (hh : (m.queue (64 * (q / 64) + n.qsel)).held = []) :
    m.acceptInst i q d g nodeRun = m.launched i q d g nodeRun := by
  have hlen : (newInst q d g nodeRun).nodes.length = 1 := congrArg List.length hg
  have hcls : ((newInst q d g nodeRun).node 0).cls ≠ 9 := by simpa [Inst.node, newInst, hg] using hc
  have hi := Mod.inst_setInst_self m i (some (newInst q d g nodeRun))
  rw [Mod.acceptInst, evalNodes_one hi hlen, evalNode_source hi rfl rfl hin hcls (by rwa [queueOf_newInst hg])
    (by rwa [queueOf_newInst hg])]
  exact checkEnd_unfinished (Mod.inst_setInst_self _ _ _) rfl (unfinished_one hlen)

/-- The image of a launch, read by its kind. -/
def Mod.readImage (nodeRun : Bool) (ctx va : Nat) (host : List Host.Cell) (m : Mod) : Except (Nat × Mod) Graph :=
  if nodeRun then m.readNode ctx va host else m.readGraph ctx va host

/-- A launch whose checks pass takes the free slot with its one node ready, and the reads of its image are charged. -/
theorem launch_one (hs : m.siteLost (descSite d.bytes) = false)
    (hr : m.readImage nodeRun (q / 64) (fieldAt d.bytes 8 6) host = .ok g)
    (hdup : (!nodeRun && (m.runningInst (descSite d.bytes) (fieldAt d.bytes 24 4)).isSome) = false)
    (hf : m.freeSlot = some i) (hg : g.nodes = [n]) (hin : (newInst q d g nodeRun).inEdges 0 = []) (hc : n.cls ≠ 9)
    (hl : (m.queue (64 * (q / 64) + n.qsel)).ready.length < 16) (hh : (m.queue (64 * (q / 64) + n.qsel)).held = []) :
    m.launch nodeRun q k d host = ((m.dropDesc q k).launched i q d g nodeRun).imageCharged nodeRun (q / 64)
      (fieldAt d.bytes 8 6) host := by
  have hl' : ((m.dropDesc q k).queue (64 * (q / 64) + n.qsel)).ready.length < 16 := by
    rwa [m.ready_dropDesc q k]
  have hh' : ((m.dropDesc q k).queue (64 * (q / 64) + n.qsel)).held = [] :=
    (m.held_dropDesc q k _).trans hh
  rw [Mod.readImage] at hr
  unfold Mod.launch
  dsimp only
  rw [hf, hs, hr]
  dsimp only
  rw [hdup, acceptInst_one hg hin hc hl' hh']
  rfl

section
variable (i q k : Nat) (d : Desc) (g : Graph) (nodeRun : Bool) (m : Mod)

theorem silent_launched : Silent m (m.launched i q d g nodeRun) := ⟨rfl, rfl, rfl, rfl⟩

theorem inst_launched : (m.launched i q d g nodeRun).inst i = some ((newInst q d g nodeRun).setSt 0 .ready) :=
  Mod.inst_setInst_self _ _ _

theorem ready_launched (hg : g.nodes = [n]) : ((m.launched i q d g nodeRun).queue (64 * (q / 64) + n.qsel)).ready =
    (m.queue (64 * (q / 64) + n.qsel)).ready ++ [⟨i, 0, none⟩] := by
  rw [← queueOf_newInst (q := q) (d := d) (nodeRun := nodeRun) hg]
  exact congrArg Queue.ready (Mod.queue_setQueue_self _ _ _)

theorem onchip_launched (p : Nat) : ((m.launched i q d g nodeRun).queue p).onchip = (m.queue p).onchip :=
  Mod.queue_setQueue_of (m.setInst i (some (newInst q d g nodeRun))) Queue.onchip _ p _ rfl

end

/-- What a statement says of a launch of one node: the slot, the queue of the node, the descriptor, and the frame. -/
theorem answers_launch {s : State} {c : Instr} {wf : Bool} {f : Mod → Mod} (hex : exec c s = run wf f s) (hw : wf = true)
    (hhalt : s.m.flt.halted = false) (hf : f s.m = s.m.launch nodeRun q k d host)
    (hs : s.m.siteLost (descSite d.bytes) = false)
    (hr : s.m.readImage nodeRun (q / 64) (fieldAt d.bytes 8 6) host = .ok g)
    (hdup : (!nodeRun && (s.m.runningInst (descSite d.bytes) (fieldAt d.bytes 24 4)).isSome) = false)
    (hfree : s.m.freeSlot = some i) (hg : g.nodes = [n]) (hin : (newInst q d g nodeRun).inEdges 0 = []) (hc : n.cls ≠ 9)
    (hl : (s.m.queue (64 * (q / 64) + n.qsel)).ready.length < 16)
    (hh : (s.m.queue (64 * (q / 64) + n.qsel)).held = []) :
    Answers c s (fun t => t.inst i = some ((newInst q d g nodeRun).setSt 0 NodeSt.ready) ∧
      (t.queue (64 * (q / 64) + n.qsel)).ready = (s.m.queue (64 * (q / 64) + n.qsel)).ready ++ [⟨i, 0, none⟩] ∧
      (t.queue q).onchip = (s.m.queue q).onchip.eraseIdx k ∧ t.outs = s.m.outs ∧ SameMemory s.m t ∧ SameRegs [] s.m t) := by
  have ht := hf.trans (launch_one (k := k) hs hr hdup hfree hg hin hc hl hh)
  have hcharge := onlyCharges_image nodeRun (q / 64) (fieldAt d.bytes 8 6) host
    ((s.m.dropDesc q k).launched i q d g nodeRun)
  have hk := ((silent_dropDesc q k s.m).trans (silent_launched i q d g nodeRun _)).trans hcharge.silent
  refine answers_command hex hw hhalt ht ⟨?_, ?_, ?_, hk.frame _⟩
  · exact (hcharge.inst i).trans (inst_launched i q d g nodeRun _)
  · calc _ = _ := congrArg Queue.ready (hcharge.queue _)
      _ = _ := ready_launched i q d g nodeRun _ hg
      _ = _ := congrArg (· ++ _) (s.m.ready_dropDesc q k _)
  · calc _ = _ := congrArg Queue.onchip (hcharge.queue _)
      _ = _ := onchip_launched i q d g nodeRun _ q
      _ = _ := s.m.onchip_dropDesc q k

end

theorem answers_graphLaunch (s : State) (q k i r : Nat) (d : Desc) (n : NodeD) (host : List Host.Cell)
    (hhalt : s.m.flt.halted = false) (hq : q < 8192) (ht : s.m.takeable q k 1 = some d)
    (hs : s.m.siteLost (descSite d.bytes) = false)
    (hr : s.m.readGraph (q / 64) (fieldAt d.bytes 8 6) host = .ok ⟨[n], [], r⟩)
    (hdup : s.m.runningInst (descSite d.bytes) (fieldAt d.bytes 24 4) = none) (hfree : s.m.freeSlot = some i)
    (hc : n.cls ≠ 9) (hl : (s.m.queue (64 * (q / 64) + n.qsel)).ready.length < 16)
    (hh : (s.m.queue (64 * (q / 64) + n.qsel)).held = []) :
    Answers (.graphLaunch q k host) s (fun t => t.inst i = some ((newInst q d ⟨[n], [], r⟩ false).setSt 0 NodeSt.ready) ∧
      (t.queue (64 * (q / 64) + n.qsel)).ready = (s.m.queue (64 * (q / 64) + n.qsel)).ready ++ [⟨i, 0, none⟩] ∧
      (t.queue q).onchip = (s.m.queue q).onchip.eraseIdx k ∧ t.outs = s.m.outs ∧ SameMemory s.m t ∧ SameRegs [] s.m t) :=
  answers_launch rfl (decide_eq_true hq) hhalt (takeDesc_eq (fun d m => m.launch false q k d host) ht) hs hr
    (by rw [hdup]; rfl) hfree rfl rfl hc hl hh

/-- A node has no input edge where the one edge leads elsewhere. -/
theorem inEdges_elsewhere {x : Inst} {e : EdgeD} {k : Nat} (he : x.edges = [e]) (hk : e.dst ≠ k) : x.inEdges k = [] := by
  simp [Inst.inEdges, Inst.edge, allBelow, he, hk]

/-- A node that runs alone has no input edge: its one edge leads to the result. -/
theorem inEdges_nodeRun (q : Nat) (d : Desc) (n : NodeD) :
    (newInst q d ⟨[n], [⟨0, 0xFFFF, 0, 0⟩], 0⟩ true).inEdges 0 = [] := inEdges_elsewhere rfl (by decide)

theorem answers_nodeRun (s : State) (q k i : Nat) (d : Desc) (n : NodeD) (host : List Host.Cell)
    (hhalt : s.m.flt.halted = false) (hq : q < 8192) (ht : s.m.takeable q k 5 = some d)
    (hs : s.m.siteLost (descSite d.bytes) = false)
    (hr : s.m.readNode (q / 64) (fieldAt d.bytes 8 6) host = .ok ⟨[n], [⟨0, 0xFFFF, 0, 0⟩], 0⟩)
    (hfree : s.m.freeSlot = some i) (hc : n.cls ≠ 9) (hl : (s.m.queue (64 * (q / 64) + n.qsel)).ready.length < 16)
    (hh : (s.m.queue (64 * (q / 64) + n.qsel)).held = []) :
    Answers (.nodeRun q k host) s (fun t =>
      t.inst i = some ((newInst q d ⟨[n], [⟨0, 0xFFFF, 0, 0⟩], 0⟩ true).setSt 0 NodeSt.ready) ∧
      (t.queue (64 * (q / 64) + n.qsel)).ready = (s.m.queue (64 * (q / 64) + n.qsel)).ready ++ [⟨i, 0, none⟩] ∧
      (t.queue q).onchip = (s.m.queue q).onchip.eraseIdx k ∧ t.outs = s.m.outs ∧ SameMemory s.m t ∧ SameRegs [] s.m t) :=
  answers_launch rfl (decide_eq_true hq) hhalt (takeDesc_eq (fun d m => m.launch true q k d host) ht) hs hr rfl hfree rfl
    (inEdges_nodeRun q d n) hc hl hh

/-- A NODE_RUN that waited is made as soon as a slot is free, its mark lifted. -/
theorem instanceAccept_nodeRun {m : Mod} {q k i : Nat} {d : Desc} {host : List Host.Cell}
    (hk : (m.queue q).onchip[k]? = some d) (hw : d.waiting = true) (ho : descOpcode d.bytes = 5)
    (ht : m.takeable q k 5 = some d) (hf : m.freeSlot = some i) :
    m.instanceAccept q k host = m.launch true q k { d with waiting := false } host := by
  have hgo : ¬ ((!d.waiting || m.freeSlot.isNone) = true) := by simp [hw, hf]
  unfold Mod.instanceAccept
  rw [hk]
  dsimp only
  rw [if_neg hgo, ho, ht]
  dsimp only
  rw [ho, beq_self_eq_true]

/-- The mark that a launch waits leaves no trace in its graph. -/
theorem newInst_accepted (q : Nat) (d : Desc) (g : Graph) (nodeRun : Bool) :
    newInst q { d with waiting := false } g nodeRun = newInst q d g nodeRun := rfl

theorem answers_instanceAccept (s : State) (q k i : Nat) (d : Desc) (n : NodeD) (host : List Host.Cell)
    (hhalt : s.m.flt.halted = false) (hq : q < 8192) (hk : (s.m.queue q).onchip[k]? = some d) (hw : d.waiting = true)
    (ho : descOpcode d.bytes = 5) (ht : s.m.takeable q k 5 = some d) (hs : s.m.siteLost (descSite d.bytes) = false)
    (hr : s.m.readNode (q / 64) (fieldAt d.bytes 8 6) host = .ok ⟨[n], [⟨0, 0xFFFF, 0, 0⟩], 0⟩)
    (hfree : s.m.freeSlot = some i) (hc : n.cls ≠ 9) (hl : (s.m.queue (64 * (q / 64) + n.qsel)).ready.length < 16)
    (hh : (s.m.queue (64 * (q / 64) + n.qsel)).held = []) :
    Answers (.instanceAccept q k host) s (fun t =>
      t.inst i = some ((newInst q d ⟨[n], [⟨0, 0xFFFF, 0, 0⟩], 0⟩ true).setSt 0 NodeSt.ready) ∧
      (t.queue (64 * (q / 64) + n.qsel)).ready = (s.m.queue (64 * (q / 64) + n.qsel)).ready ++ [⟨i, 0, none⟩] ∧
      (t.queue q).onchip = (s.m.queue q).onchip.eraseIdx k ∧ t.outs = s.m.outs ∧ SameMemory s.m t ∧ SameRegs [] s.m t) := by
  rw [← newInst_accepted q d ⟨[n], [⟨0, 0xFFFF, 0, 0⟩], 0⟩ true]
  exact answers_launch rfl (decide_eq_true hq) hhalt (instanceAccept_nodeRun hk hw ho ht hfree) hs hr rfl hfree rfl
    (inEdges_nodeRun q _ n) hc hl hh

/-! ### NODE_FETCH (R108) -/

/-- A fetch that succeeds is charged, and marks that GDDR7 has been read. -/
theorem nodeFetch_ok {m : Mod} {i k : Nat} {x : Inst} {bs : List Byte} {host : List Host.Cell} (hi : m.inst i = some x)
    (hk : k < x.nodes.length) (hq : x.quitStatus = none)
    (hr : m.devRecord x.group host (x.image + (if x.nodeRun then 0 else 64 + 64 * k)) 64 = .ok bs) :
    m.nodeFetch i k host =
      (m.charged x.group (x.image + (if x.nodeRun then 0 else 64 + 64 * k)) 64).servedCtx x.group := by
  have hgo : ¬ ((!decide (k < x.nodes.length) || x.quitStatus.isSome) = true) := by simp [hk, hq]
  unfold Mod.nodeFetch
  rw [hi]
  dsimp only
  rw [if_neg hgo, hr]

/-- The mark that GDDR7 has been read stands in the memory controllers alone. -/
theorem servedCtx_eq (ctx : Nat) (m : Mod) : ∃ x, m.servedCtx ctx = m.setDrc x := by
  unfold Mod.servedCtx Mod.when
  split
  · exact ⟨_, rfl⟩
  · exact ⟨m.drc, rfl⟩

theorem silent_setDrc (z : Drc) (m : Mod) : Silent m (m.setDrc z) := ⟨rfl, rfl, rfl, rfl⟩

theorem answers_nodeFetch (s : State) (i k : Nat) (x : Inst) (bs : List Byte) (host : List Host.Cell)
    (hh : s.m.flt.halted = false) (hi : i < 512) (hx : s.m.inst i = some x) (hk : k < x.nodes.length)
    (hq : x.quitStatus = none)
    (hr : s.m.devRecord x.group host (x.image + (if x.nodeRun then 0 else 64 + 64 * k)) 64 = .ok bs) :
    Answers (.nodeFetch i k host) s (fun t => t.inst i = some x ∧ t.hat.insts = s.m.hat.insts ∧
      t.hat.reports = s.m.hat.reports ∧ t.queues = s.m.queues ∧ t.outs = s.m.outs ∧ SameMemory s.m t ∧
      SameRegs [] s.m t) := by
  have hc := onlyCharges_charged x.group (x.image + (if x.nodeRun then 0 else 64 + 64 * k)) 64 s.m
  obtain ⟨z, hz⟩ := servedCtx_eq x.group (s.m.charged x.group (x.image + (if x.nodeRun then 0 else 64 + 64 * k)) 64)
  have ht := (nodeFetch_ok hx hk hq hr).trans hz
  generalize s.m.charged x.group (x.image + (if x.nodeRun then 0 else 64 + 64 * k)) 64 = u at hc ht
  have hinst : (u.setDrc z).inst i = some x := (hc.inst i).trans hx
  have hinsts : (u.setDrc z).hat.insts = s.m.hat.insts := hc.insts
  have hreports : (u.setDrc z).hat.reports = s.m.hat.reports := hc.reports
  have hqueues : (u.setDrc z).queues = s.m.queues := hc.queues
  have hk : Silent s.m (u.setDrc z) := hc.silent.trans (silent_setDrc z u)
  exact answers_command rfl (decide_eq_true hi) hh ht ⟨hinst, hinsts, hreports, hqueues, hk.frame _⟩

/-! ### DMA_LIST (R364) -/

/-- A channel that holds its claim runs the list whose header has been read. -/
def Mod.listBegun (ch : Nat) (origin : DmaFor) (ctx addr : Nat) (h : List Byte) (m : Mod) : Mod :=
  ((m.dmaClaim ch origin ctx addr).dmaCharged ctx addr 32).setDmaRun ch
    (some ⟨origin, ctx, addr, fieldAt h 4 4, nbit (byteAt h 8) 0, 0, none, none, 0⟩)

theorem dmaStart_valid {m : Mod} {ch ctx addr : Nat} {origin : DmaFor} {h : List Byte} {host : List Host.Cell}
    (ha : addr % 32 = 0) (hr : (m.dmaClaim ch origin ctx addr).devRecord ctx host addr 32 = .ok h)
    (hv : listHeaderOk h = true) : m.dmaStart ch origin ctx addr host = m.listBegun ch origin ctx addr h := by
  unfold Mod.dmaStart
  dsimp only
  rw [if_neg (not_not.mpr ha), hr]
  dsimp only
  rw [hv]
  rfl

/-- A list that names a free channel starts there. -/
theorem dmaList_named {m : Mod} {q k ch : Nat} {d : Desc} {host : List Host.Cell} (hb : byteAt d.bytes 14 = ch) (hc : ch < 32)
    (hf : m.unitFree 7 ch = true) : m.dmaList q k d host =
      (m.dropDesc q k).dmaStart ch (.desc q d.serial d.bytes) (q / 64) (fieldAt d.bytes 8 6) host := by
  unfold Mod.dmaList
  dsimp only
  rw [hb, if_neg (by omega), if_pos ⟨hc, hf⟩]

section
variable (ch : Nat) (origin : DmaFor) (ctx addr : Nat) (h : List Byte) (m : Mod)

theorem dmaStatus_ne_pos (ch : Nat) : Reg.DMA_CH_STATUS ch ≠ Reg.DMA_CH_POS ch ∧
    Reg.DMA_CH_STATUS ch ≠ Reg.DMA_CH_OFFSET ch := by
  unfold Reg.DMA_CH_STATUS Reg.DMA_CH_POS Reg.DMA_CH_OFFSET
  omega

theorem dmaState_claim : (m.dmaClaim ch origin ctx addr).dmaState ch = 1 := by
  obtain ⟨hpos, hoff⟩ := dmaStatus_ne_pos ch
  rw [Mod.dmaState, Mod.rd, Mod.dmaClaim, Mod.setDmaOffset, Mod.reg_setReg_ne _ _ _ _ hoff, Mod.reg_setReg_ne _ _ _ _ hpos]
  exact (Mod.rd_wr_field _ _ _ _ _ (by decide)).trans (Mod.rd_wr_self _ _ _ _ (by decide))

theorem dmaOffset_claim : (m.dmaClaim ch origin ctx addr).dmaOffset ch = 0 := by
  rw [Mod.dmaOffset, Mod.dmaClaim, Mod.setDmaOffset, Mod.reg_setReg_self]
  rfl

/-- The registers of channel `ch`. -/
def dmaRegs (ch : Nat) : List Nat := [Reg.DMA_CH_STATUS ch, Reg.DMA_CH_POS ch, Reg.DMA_CH_OFFSET ch]

theorem sameRegs_claim : SameRegs (dmaRegs ch) m (m.dmaClaim ch origin ctx addr) := by
  have hs : Reg.DMA_CH_STATUS ch ∈ dmaRegs ch := List.mem_cons_self
  have hp : Reg.DMA_CH_POS ch ∈ dmaRegs ch := List.mem_cons_of_mem _ List.mem_cons_self
  have ho : Reg.DMA_CH_OFFSET ch ∈ dmaRegs ch := List.mem_cons_of_mem _ (List.mem_cons_of_mem _ List.mem_cons_self)
  exact ((((SameRegs.of_eq rfl).wr _ _ _ hs).wr _ _ _ hs).setReg _ _ hp).setReg _ _ ho

theorem outs_claim : (m.dmaClaim ch origin ctx addr).outs = m.outs := rfl

theorem sameMemory_claim : SameMemory m (m.dmaClaim ch origin ctx addr) := .of_eq rfl rfl

theorem queue_claim (q : Nat) : (m.dmaClaim ch origin ctx addr).queue q = m.queue q := rfl

/-- But for the channel's claim, nothing outside sees a list begin. -/
theorem silent_listBegun : Silent (m.dmaClaim ch origin ctx addr) (m.listBegun ch origin ctx addr h) :=
  (onlyCharges_read _ _ _ _ _ _ : OnlyCharges _ (Mod.dmaCharged ctx addr 32 _)).silent.trans ⟨rfl, rfl, rfl, rfl⟩

theorem queue_listBegun (q : Nat) : (m.listBegun ch origin ctx addr h).queue q = m.queue q :=
  ((onlyCharges_read _ _ _ _ _ _ : OnlyCharges _ (Mod.dmaCharged ctx addr 32 _)).queue q).trans
    (queue_claim ch origin ctx addr m q)

theorem dmaRun_listBegun : (m.listBegun ch origin ctx addr h).dmaRun ch =
    some ⟨origin, ctx, addr, fieldAt h 4 4, nbit (byteAt h 8) 0, 0, none, none, 0⟩ := Mod.dmaRun_setDmaRun_self _ _ _

theorem dmaState_listBegun : (m.listBegun ch origin ctx addr h).dmaState ch = 1 :=
  (congrArg (fget _) ((silent_listBegun ch origin ctx addr h m).reg _)).trans (dmaState_claim ch origin ctx addr m)

theorem dmaOffset_listBegun : (m.listBegun ch origin ctx addr h).dmaOffset ch = 0 :=
  (congrArg BitVec.toNat ((silent_listBegun ch origin ctx addr h m).reg _)).trans (dmaOffset_claim ch origin ctx addr m)

/-- What stays when a list begins. -/
theorem frame_listBegun : (m.listBegun ch origin ctx addr h).outs = m.outs ∧ SameMemory m (m.listBegun ch origin ctx addr h) ∧
    SameRegs (dmaRegs ch) m (m.listBegun ch origin ctx addr h) := by
  have hk := silent_listBegun ch origin ctx addr h m
  exact ⟨hk.outs.trans (outs_claim ch origin ctx addr m), (sameMemory_claim ch origin ctx addr m).trans hk.memory,
    (sameRegs_claim ch origin ctx addr m).trans (.of_eq hk.regs)⟩

end

theorem answers_dmaList (s : State) (q k ch : Nat) (d : Desc) (h : List Byte) (host : List Host.Cell)
    (hhalt : s.m.flt.halted = false) (hq : q < 8192) (ht : s.m.takeable q k 4 = some d) (hb : byteAt d.bytes 14 = ch)
    (hc : ch < 32) (hf : s.m.unitFree 7 ch = true) (ha : fieldAt d.bytes 8 6 % 32 = 0)
    (hr : ((s.m.dropDesc q k).dmaClaim ch (.desc q d.serial d.bytes) (q / 64) (fieldAt d.bytes 8 6)).devRecord (q / 64)
      host (fieldAt d.bytes 8 6) 32 = .ok h) (hv : listHeaderOk h = true) :
    Answers (.dmaList q k host) s (fun t => t.dmaRun ch = some ⟨.desc q d.serial d.bytes, q / 64, fieldAt d.bytes 8 6,
        fieldAt h 4 4, nbit (byteAt h 8) 0, 0, none, none, 0⟩ ∧ t.dmaState ch = 1 ∧ t.dmaOffset ch = 0 ∧
      (t.queue q).onchip = (s.m.queue q).onchip.eraseIdx k ∧ t.outs = s.m.outs ∧ SameMemory s.m t ∧
      SameRegs [Reg.DMA_CH_STATUS ch, Reg.DMA_CH_POS ch, Reg.DMA_CH_OFFSET ch] s.m t) := by
  have he := ((takeDesc_eq (fun d m => m.dmaList q k d host) ht).trans (dmaList_named hb hc hf)).trans
    (dmaStart_valid (m := s.m.dropDesc q k) ha hr hv)
  have hrun := dmaRun_listBegun ch (.desc q d.serial d.bytes) (q / 64) (fieldAt d.bytes 8 6) h (s.m.dropDesc q k)
  have hstate := dmaState_listBegun ch (.desc q d.serial d.bytes) (q / 64) (fieldAt d.bytes 8 6) h (s.m.dropDesc q k)
  have hoff := dmaOffset_listBegun ch (.desc q d.serial d.bytes) (q / 64) (fieldAt d.bytes 8 6) h (s.m.dropDesc q k)
  have hqueue := queue_listBegun ch (.desc q d.serial d.bytes) (q / 64) (fieldAt d.bytes 8 6) h (s.m.dropDesc q k) q
  obtain ⟨houts, hmem, hregs⟩ :=
    frame_listBegun ch (.desc q d.serial d.bytes) (q / 64) (fieldAt d.bytes 8 6) h (s.m.dropDesc q k)
  generalize (s.m.dropDesc q k).listBegun ch _ _ _ h = t at he hrun hstate hoff hqueue houts hmem hregs
  have hdrop := silent_dropDesc q k s.m
  have honchip : (t.queue q).onchip = (s.m.queue q).onchip.eraseIdx k :=
    (congrArg Queue.onchip hqueue).trans (s.m.onchip_dropDesc q k)
  exact answers_command rfl (decide_eq_true hq) hhalt he ⟨hrun, hstate, hoff, honchip, houts.trans hdrop.outs,
    hdrop.memory.trans hmem, ((SameRegs.of_eq hdrop.regs).trans hregs).cmds _⟩

/-- Settles O21: the launches of one node, the fetch of a node and the list. -/
theorem launchesAndLists : Obligations.LaunchesAndLists :=
  ⟨answers_graphLaunch, answers_nodeRun, answers_instanceAccept, answers_nodeFetch, answers_dmaList⟩

end Sys2Proof.Machine
end

section
/-!
PROOF. The arbiters and pre-emption (R109, R114, R116, R123, R124), and O24.
-/

namespace Sys2Proof.Machine

/-! ### What nothing outside sees -/

section
variable {a b : Mod}

theorem rd_of_regs (h : b.regs = a.regs) (o : Nat) (f : Fld) : b.rd o f = a.rd o f := by
  rw [Mod.rd, Mod.rd, Mod.reg, Mod.reg, h]

theorem flag_of_regs (h : b.regs = a.regs) (o : Nat) (f : Fld) : b.flag o f = a.flag o f := by
  rw [Mod.flag, Mod.flag, rd_of_regs h]

theorem journalOn_of_regs (h : b.regs = a.regs) : b.journalOn = a.journalOn := by
  rw [Mod.journalOn, Mod.journalOn, rd_of_regs h]

theorem Silent.traceOn (h : Silent a b) : b.traceOn = a.traceOn := flag_of_regs h.regs _ _

theorem Silent.journalOn (h : Silent a b) : b.journalOn = a.journalOn := journalOn_of_regs h.regs

end

section
variable (m : Mod)

theorem silent_hat (h : Hat) : Silent m { m with hat := h } := ⟨rfl, rfl, rfl, rfl⟩
theorem silent_setScore (c : Nat) (x : SCore) : Silent m (m.setScore c x) := ⟨rfl, rfl, rfl, rfl⟩
theorem silent_lapse (c : Nat) : Silent m (m.lapse c) := silent_hat m _
theorem silent_payBack (cls g cost us : Nat) : Silent m (m.payBack cls g cost us) := silent_hat m _
theorem silent_notRun (i k : Nat) (l : List Report) : Silent m (m.notRun i k l) := silent_hat m _

end

/-! ### The pick of R116 looks at the arbiters alone -/

section
variable (c : Nat) (o : Offers) (h : Hat)

theorem insts_wdrrTurn : (h.wdrrTurn c o).2.insts = h.insts := by
  unfold Hat.wdrrTurn
  dsimp only
  split
  · split <;> rfl
  · split
    · split <;> split <;> rfl
    · rfl

theorem insts_wdrrLoop : ∀ (fuel : Nat) (h : Hat), (h.wdrrLoop c o fuel).2.insts = h.insts
  | 0, _ => rfl
  | fuel + 1, h => by
    have hturn := insts_wdrrTurn c o h
    unfold Hat.wdrrLoop
    split
    next g h1 he => exact (congrArg (·.2.insts) he).symm.trans hturn
    next h1 he => exact (insts_wdrrLoop fuel h1).trans ((congrArg (·.2.insts) he).symm.trans hturn)

theorem insts_background : (h.background c o).2.insts = h.insts := by
  unfold Hat.background
  dsimp only
  split <;> rfl

/-- The arbiter that picks leaves every graph as it is. -/
theorem insts_pick : (h.pick c o).2.insts = h.insts := by
  unfold Hat.pick
  split
  · exact insts_wdrrLoop c o _ h
  · exact insts_background c o h

end

/-! ### The dispatch of a TDC_MEAS (R109, R120) -/

section
variable {m : Mod} {q u : Nat} {e : Entry} {x : Inst} {host : List Host.Cell}

/-- A queue from which an entry has been taken. -/
def Queue.taken (e : Entry) (y : Queue) : Queue := { y with ready := y.ready.erase e }

/-- The queue served last of its priority (R115). -/
def Mod.served (q : Nat) (m : Mod) : Mod :=
  { m with hat := { m.hat with
    lastServed := SMap.set (fun _ => 0) m.hat.lastServed
      (8 * (q / 64) + fget Fields.HAT_Q_CFG.PRIO (m.qCfg q)) ((q % 64 + 1) % 64) } }

/-- Where no entry is held, none takes a place that is free. -/
theorem refillQueue_unheld (hh : (m.queue q).held = []) : ∀ fuel : Nat, m.refillQueue q fuel = m
  | 0 => rfl
  | fuel + 1 => by
    unfold Mod.refillQueue
    dsimp only
    rw [hh]

theorem dequeue_unheld (hh : (m.queue q).held = []) : m.dequeue q e = m.setQueue q ((m.queue q).taken e) :=
  refillQueue_unheld (m := m.setQueue q ((m.queue q).taken e))
    ((congrArg Queue.held (Mod.queue_setQueue_self m q _)).trans hh) _

/-- What a graph records of a dispatch of node `k`: its inputs, the place in the order of dispatch, and the time. -/
def Inst.dispatched (k n t : Nat) (x : Inst) : Inst :=
  { x with
    inputs := SMap.set (fun _ => []) x.inputs k (x.inputsOf k)
    disp := SMap.set (fun _ => 0) x.disp k n
    ttimeFirst := some (x.ttimeFirst.getD (BitVec.ofNat 64 t)) }

/-- A measurement of TDC unit `u` waits for its edges. -/
def Mod.tdcBegun (j : Job) (u : Nat) (a : List Byte) (m : Mod) : Mod :=
  (m.setTdc u (some ⟨j, a, m.ttime, none, none, none, 0, none, false⟩)).setTdcState u 1

theorem outs_tdcBegun (j : Job) (u : Nat) (a : List Byte) (m : Mod) : (m.tdcBegun j u a).outs = m.outs := rfl

theorem sameMemory_tdcBegun (j : Job) (u : Nat) (a : List Byte) (m : Mod) : SameMemory m (m.tdcBegun j u a) := .of_eq rfl rfl

/-- Valid ARGS on internal sources begin a measurement. -/
theorem tdcMeas_internal {j : Job} {a : List Byte} (hb : tmBad u a = false) (hs : 2 ≤ tmStart a) (hp : 2 ≤ tmStop a) :
    m.tdcMeas j u a = m.tdcBegun j u a := by
  have hs' : ¬ tmStart a < 2 := by omega
  have hp' : ¬ tmStop a < 2 := by omega
  simp [Mod.tdcMeas, hb, hs', hp']
  rfl

/-- An entry leaves its queue and its node runs on unit `u` of its class. -/
def Mod.entryRun (q u : Nat) (e : Entry) (x : Inst) (m : Mod) : Mod :=
  ((m.served q).setQueue q ((m.queue q).taken e)).setInst e.inst (some (((x.dispatched e.node m.cmds m.ttime).consume
    e.node).setSt e.node (.running (x.node e.node).cls u)))

theorem silent_entryRun (m : Mod) (q u : Nat) (e : Entry) (x : Inst) : Silent m (m.entryRun q u e x) :=
  ((silent_hat m _).trans (silent_setQueue q _ (m.served q))).trans (silent_setInst e.inst _ _)

/-- The dispatch of a first run that is no CORE_STEP: `n` is the module with its trace and journal records. -/
theorem dispatch_fresh {n : Mod} (hi : m.inst e.inst = some x) (he : e.core = none) (hc : (x.node e.node).cls ≠ 8)
    (hh : (m.queue q).held = [])
    (hn : ((m.entryRun q u e x).trace 1 (x.node e.node).cls x.group q 0 e.inst e.node u).when (x.group < 64)
      (Mod.journal 3 u x.site x.group e.inst e.node (leBytes 1 (x.node e.node).cls ++ leBytes 1 u ++ leBytes 8 m.ttime)) = n) :
    m.dispatch q e (.unit u) false host =
      (n.startNode e.inst e.node u (x.dispatched e.node m.cmds m.ttime) host).notRun e.inst e.node n.hat.reports := by
  have hcls : (m.classOf e.inst e.node == 8) = false := by simpa [Mod.classOf, hi] using hc
  have hrun : m.entryRun q u e x = ((m.served q).dequeue q e).setInst e.inst (some (((x.dispatched e.node m.cmds
      m.ttime).consume e.node).setSt e.node (.running (x.node e.node).cls u))) :=
    congrArg (Mod.setInst _ _) (dequeue_unheld (m := m.served q) hh).symm
  rw [hrun] at hn
  subst hn
  unfold Mod.dispatch
  rw [hi, he, hcls]
  rfl

/-- A TDC_MEAS node of the module's own groups begins a measurement. -/
theorem startNode_tdc {i k : Nat} (hc : (x.node k).cls = 4) (hg : x.group < 64) :
    m.startNode i k u x host = m.tdcMeas ⟨some i, k, x.group, x.site⟩ u (x.node k).args := by
  unfold Mod.startNode
  dsimp only
  rw [hc]
  exact if_pos hg

/-- The entry runs as a measurement of TDC unit `u`. -/
def Mod.measuring (q u : Nat) (e : Entry) (x : Inst) (m : Mod) : Mod :=
  ((m.entryRun q u e x).tdcBegun ⟨some e.inst, e.node, x.group, x.site⟩ u (x.node e.node).args).notRun e.inst e.node
    m.hat.reports

theorem dispatch_tdc (hi : m.inst e.inst = some x) (he : e.core = none) (hc : (x.node e.node).cls = 4) (hg : x.group < 64)
    (hh : (m.queue q).held = []) (hb : tmBad u (x.node e.node).args = false) (hs : 2 ≤ tmStart (x.node e.node).args)
    (hp : 2 ≤ tmStop (x.node e.node).args) (ht : m.traceOn = false) (hj : m.journalOn = false) :
    m.dispatch q e (.unit u) false host = m.measuring q u e x := by
  have htrace := trace_off 1 (x.node e.node).cls x.group q 0 e.inst e.node u
    ((silent_entryRun m q u e x).traceOn.trans ht)
  have hjournal (bs : List Byte) := journal_off 3 u x.site x.group e.inst e.node bs
    ((silent_entryRun m q u e x).journalOn.trans hj)
  have hnode : m.dispatch q e (.unit u) false host = ((m.entryRun q u e x).startNode e.inst e.node u
      (x.dispatched e.node m.cmds m.ttime) host).notRun e.inst e.node (m.entryRun q u e x).hat.reports :=
    dispatch_fresh hi he (by omega) hh (by rw [htrace, Mod.when, hjournal, ite_self])
  rw [hnode, startNode_tdc (x := x.dispatched e.node m.cmds m.ttime) hc hg]
  exact congrArg (Mod.notRun _ _ _) (tdcMeas_internal hb hs hp)

section
variable (q u e x m)

theorem tdc_measuring : (m.measuring q u e x).tdc u = some ⟨⟨some e.inst, e.node, x.group, x.site⟩, (x.node e.node).args,
    m.ttime, none, none, none, 0, none, false⟩ := Mod.tdc_setTdc_self _ u _

theorem inst_measuring (hc : (x.node e.node).cls = 4) :
    ((m.measuring q u e x).inst e.inst).map (fun y => y.nodeSt e.node) = some (.running 4 u) := by
  have hinst : (m.measuring q u e x).inst e.inst = (m.entryRun q u e x).inst e.inst := rfl
  rw [hinst, Mod.entryRun, Mod.inst_setInst_self, hc]
  simp [Inst.nodeSt, Inst.setSt]

theorem ready_measuring : ((m.measuring q u e x).queue q).ready = (m.queue q).ready.erase e :=
  congrArg Queue.ready (Mod.queue_setQueue_self _ q _)

theorem deficit_measuring : (m.measuring q u e x).hat.deficit = m.hat.deficit := rfl

theorem outs_measuring : (m.measuring q u e x).outs = m.outs :=
  (silent_notRun _ _ _ _).outs.trans ((outs_tdcBegun _ _ _ _).trans (silent_entryRun m q u e x).outs)

theorem sameMemory_measuring : SameMemory m (m.measuring q u e x) := by
  have hrun := silent_entryRun m q u e x
  exact (hrun.memory.trans (sameMemory_tdcBegun _ _ _ _)).trans (silent_notRun _ _ _ _).memory

end

end

/-- An open arbiter of TDC_MEAS dispatches the entry that its pick names. -/
theorem arbiterDecision_tdc {m : Mod} {g q : Nat} {e : Entry} {h : Hat} {host : List Host.Cell}
    (hs : m.hat.stopped = false) (hf : m.journalFull = false) (hd : m.dispatchOpen = true)
    (hp : m.hat.pick 4 (m.offersOf 4) = (some g, h)) (ho : m.offer 4 g = some (q, e)) :
    m.arbiterDecision 4 host = ({ m with hat := h } : Mod).dispatch q e (m.go e) false host := by
  have hw : m.when ((4 : Nat) == 8) Mod.askPreempt = m := rfl
  unfold Mod.arbiterDecision
  rw [hs, hf, if_neg (by decide), hd]
  dsimp only
  rw [hw, hp]
  dsimp only
  rw [ho]
  rfl

theorem answers_arbiterDecision (s : State) (g q u : Nat) (e : Entry) (h : Hat) (x : Inst) (host : List Host.Cell)
    (hh : s.m.flt.halted = false) (hs : s.m.hat.stopped = false) (hf : s.m.journalFull = false)
    (hj : s.m.journalOn = false) (hd : s.m.dispatchOpen = true) (ht : s.m.traceOn = false)
    (hp : s.m.hat.pick 4 (s.m.offersOf 4) = (some g, h)) (ho : s.m.offer 4 g = some (q, e)) (hgo : s.m.go e = .unit u)
    (hi : s.m.inst e.inst = some x) (he : e.core = none) (hc : (x.node e.node).cls = 4) (hg : x.group < 64)
    (hheld : (s.m.queue q).held = []) (hb : tmBad u (x.node e.node).args = false)
    (hstart : 2 ≤ tmStart (x.node e.node).args) (hstop : 2 ≤ tmStop (x.node e.node).args) :
    Answers (.arbiterDecision 4 host) s (fun t => t.tdc u = some ⟨⟨some e.inst, e.node, x.group, x.site⟩,
        (x.node e.node).args, s.m.ttime, none, none, none, 0, none, false⟩ ∧
      (t.inst e.inst).map (fun y => y.nodeSt e.node) = some (.running 4 u) ∧
      (t.queue q).ready = (s.m.queue q).ready.erase e ∧ t.hat.deficit = h.deficit ∧ t.outs = s.m.outs ∧
      SameMemory s.m t) := by
  have hinsts : h.insts = s.m.hat.insts := by rw [← insts_pick 4 (s.m.offersOf 4) s.m.hat, hp]
  have hi' : ({ s.m with hat := h } : Mod).inst e.inst = some x := by rw [← hi, Mod.inst, Mod.inst, hinsts]
  have hrun : s.m.arbiterDecision 4 host = ({ s.m with hat := h } : Mod).measuring q u e x := by
    rw [arbiterDecision_tdc hs hf hd hp ho, hgo]
    exact dispatch_tdc hi' he hc hg hheld hb hstart hstop ht hj
  have htdc := tdc_measuring { s.m with hat := h } q u e x
  have hinst := inst_measuring { s.m with hat := h } q u e x hc
  have hready := ready_measuring { s.m with hat := h } q u e x
  have hdeficit := deficit_measuring { s.m with hat := h } q u e x
  have houts := outs_measuring { s.m with hat := h } q u e x
  have hmem := sameMemory_measuring { s.m with hat := h } q u e x
  generalize ({ s.m with hat := h } : Mod).measuring q u e x = t at hrun htdc hinst hready hdeficit houts hmem
  exact answers_command rfl rfl hh hrun ⟨htdc, hinst, hready, hdeficit, houts, hmem⟩

/-! ### PREEMPT_DONE (R124) -/

/-- A core whose step has been suspended in its own slot. -/
def SCore.stepSaved (i k : Nat) (y : SCore) : SCore :=
  { y with
    step := none
    susp := y.susp ++ [(y.slot, (i, k))]
    reqPreempt := false
    reqDrain := false }

/-- A queue with an entry put before all others. -/
def Queue.headed (e : Entry) (y : Queue) : Queue := { y with ready := e :: y.ready }

/-- The step of core `c`, node `k` of graph `i`, is suspended and heads its queue. -/
def Mod.stepSuspended (c us i k : Nat) (x : Inst) (m : Mod) : Mod :=
  ((((m.lapse c).setScore c ((m.score c).stepSaved i k)).setInst i (some (x.setSt k (.suspended c (m.score c).slot)))).setQueue
    (x.queueOf k) ((m.queue (x.queueOf k)).headed ⟨i, k, some c⟩)).payBack 8 x.group (x.node k).cost us

section
variable (c us i k : Nat) (x : Inst) (m : Mod)

theorem inst_payBack (cls g cost : Nat) : (m.payBack cls g cost us).inst i = m.inst i := rfl

theorem inst_setQueue (q : Nat) (y : Queue) : (m.setQueue q y).inst i = m.inst i := rfl

theorem silent_stepSuspended : Silent m (m.stepSuspended c us i k x) :=
  ((((silent_lapse m c).trans (silent_setScore _ c _)).trans (silent_setInst i _ _)).trans
    (silent_setQueue (x.queueOf k) _ _)).trans (silent_payBack _ _ _ _ _)

theorem score_stepSuspended : (m.stepSuspended c us i k x).score c = (m.score c).stepSaved i k :=
  Mod.score_setScore_self _ c _

theorem inst_stepSuspended : (m.stepSuspended c us i k x).inst i = some (x.setSt k (.suspended c (m.score c).slot)) := by
  rw [Mod.stepSuspended, inst_payBack, inst_setQueue, Mod.inst_setInst_self]

theorem queue_stepSuspended : (m.stepSuspended c us i k x).queue (x.queueOf k) =
    (m.queue (x.queueOf k)).headed ⟨i, k, some c⟩ := Mod.queue_setQueue_self _ _ _

theorem queue_stepSuspended_ne {p : Nat} (h : p ≠ x.queueOf k) : (m.stepSuspended c us i k x).queue p = m.queue p :=
  Mod.queue_setQueue_ne _ _ _ _ h

end

/-- What follows the suspension: the entry that asked is dispatched to the freed core while it is queued and may run
there. -/
def Mod.dispatchFreed (c : Nat) (p : Preempt) (host : List Host.Cell) (m : Mod) : Mod :=
  if m.hat.stopped || m.journalFull || !m.groupOpen (p.queue / 64) || !(m.queue p.queue).ready.contains p.entry ||
      !(m.coresOf p.entry).contains c || !m.coreUp c || !m.unitFree 8 c then m
  else ({ m with hat := m.hat.setDeficit 8 (p.queue / 64) (m.hat.deficitOf 8 (p.queue / 64) -
    ((max (m.entryCost p.entry) 1 : Nat) : Int)) } : Mod).dispatch p.queue p.entry (.unit c) false host

section
variable {m : Mod} {c us i k : Nat} {p : Preempt} {x : Inst} {host : List Host.Cell}

/-- An entry that was not queued is not queued when a step has been suspended, but for the entry of that step. -/
theorem contains_stepSuspended {q : Nat} {e : Entry} (hn : (m.queue q).ready.contains e = false) (he : e ≠ ⟨i, k, some c⟩) :
    ((m.stepSuspended c us i k x).queue q).ready.contains e = false := by
  by_cases hq : q = x.queueOf k
  · subst hq
    rw [queue_stepSuspended]
    simpa [Queue.headed, he] using hn
  · rw [queue_stepSuspended_ne c us i k x m hq, hn]

/-- An acknowledged step is suspended: `n` is the module with the trace record of that. -/
theorem preemptDone_acked {n : Mod} (hp : SMap.get (fun _ => none) m.hat.preempt c = some p)
    (hs : (m.score c).step = some (i, k)) (ha : m.acked c = true) (hr : (m.score c).reqPreempt = true)
    (hi : m.inst i = some x) (hn : (m.stepSuspended c us i k x).trace 6 8 x.group (x.queueOf k) 0 i k c = n) :
    m.preemptDone c us host = n.dispatchFreed c p host := by
  have hgo : ¬ ((!m.acked c || !(m.score c).reqPreempt) = true) := by simp [ha, hr]
  subst hn
  unfold Mod.preemptDone
  dsimp only
  rw [hp, hs]
  dsimp only
  rw [if_neg hgo, hi]
  rfl

/-- Nothing is dispatched for an entry that has left its queue. -/
theorem dispatchFreed_gone (hn : (m.queue p.queue).ready.contains p.entry = false) : m.dispatchFreed c p host = m := by
  rw [Mod.dispatchFreed, hn]
  simp only [Bool.not_false, Bool.or_true, Bool.true_or, if_true]

end

theorem answers_preemptDone (s : State) (c us i k : Nat) (p : Preempt) (x : Inst) (host : List Host.Cell)
    (hh : s.m.flt.halted = false) (hc : c < 16) (hp : SMap.get (fun _ => none) s.m.hat.preempt c = some p)
    (hs : (s.m.score c).step = some (i, k)) (ha : s.m.acked c = true) (hr : (s.m.score c).reqPreempt = true)
    (hi : s.m.inst i = some x) (hn : (s.m.queue p.queue).ready.contains p.entry = false) (he : p.entry ≠ ⟨i, k, some c⟩)
    (ht : s.m.traceOn = false) :
    Answers (.preemptDone c us host) s (fun t => (t.score c).step = none ∧
      (t.score c).susp = (s.m.score c).susp ++ [((s.m.score c).slot, (i, k))] ∧
      t.inst i = some (x.setSt k (.suspended c (s.m.score c).slot)) ∧
      (t.queue (x.queueOf k)).ready = ⟨i, k, some c⟩ :: (s.m.queue (x.queueOf k)).ready ∧ t.outs = s.m.outs ∧
      SameMemory s.m t ∧ SameRegs [] s.m t) := by
  have hk := silent_stepSuspended c us i k x s.m
  have hscore := score_stepSuspended c us i k x s.m
  have hinst := inst_stepSuspended c us i k x s.m
  have hqueue := queue_stepSuspended c us i k x s.m
  have hdone : s.m.preemptDone c us host = s.m.stepSuspended c us i k x :=
    (preemptDone_acked hp hs ha hr hi (trace_off _ _ _ _ _ _ _ _ (hk.traceOn.trans ht))).trans
      (dispatchFreed_gone (contains_stepSuspended hn he))
  generalize s.m.stepSuspended c us i k x = t at hdone hk hscore hinst hqueue
  exact answers_command rfl (decide_eq_true hc) hh hdone ⟨congrArg SCore.step hscore, congrArg SCore.susp hscore, hinst,
    congrArg Queue.ready hqueue, hk.frame _⟩

/-! ### A request without acknowledgement (R124) -/

/-- What Hatch asks of core `c` stands in REQ of its frame; the rest of SRAM stays, and the core may be interrupted. -/
theorem putReq_eq (c : Nat) (x : SCore) (m : Mod) : ∃ h, m.putReq c x = { (m.setScore c x).framePut c 104
    (leBytes 1 (b2n x.reqAbort + 2 * b2n x.reqDrain + 4 * b2n x.reqPreempt)) with harts := h } := by
  unfold Mod.putReq Mod.when
  split
  · exact ⟨_, rfl⟩
  · exact ⟨m.harts, rfl⟩

section
variable (c : Nat) (x : SCore) (m : Mod)

theorem score_putReq : (m.putReq c x).score c = x := by
  obtain ⟨h, he⟩ := putReq_eq c x m
  rw [he]
  exact Mod.score_setScore_self _ c x

theorem regs_putReq : (m.putReq c x).regs = m.regs := by
  obtain ⟨h, he⟩ := putReq_eq c x m
  rw [he]
  rfl

theorem hat_putReq : (m.putReq c x).hat = m.hat := by
  obtain ⟨h, he⟩ := putReq_eq c x m
  rw [he]
  rfl

theorem gddr_putReq : (m.putReq c x).gddr = m.gddr := by
  obtain ⟨h, he⟩ := putReq_eq c x m
  rw [he]
  rfl

theorem outs_putReq : (m.putReq c x).outs = m.outs := by
  obtain ⟨h, he⟩ := putReq_eq c x m
  rw [he]
  rfl

theorem sram_putReq : SameOutside (coreBase c + 104) (coreBase c + 105) m.sram (m.putReq c x).sram := by
  obtain ⟨h, he⟩ := putReq_eq c x m
  rw [he]
  exact .memWrite _ _ _ _ _ le_rfl le_rfl

end

/-- The request to suspend the step of core `c`, node `k` of graph `i`, is withdrawn. -/
def Mod.askWithdrawn (c i k : Nat) (m : Mod) : Mod :=
  let m1 := ((m.lapse c).putReq c { m.score c with reqPreempt := false }).mark Reg.HAT_ERR Fields.HAT_ERR.PREEMPT_TIMEOUT
  { m1 with hat := { m1.hat with noAsk := SMap.set badDefault m1.hat.noAsk (1024 * i + k) true } }

section
variable (c i k : Nat) (m : Mod)

theorem score_askWithdrawn : (m.askWithdrawn c i k).score c = { m.score c with reqPreempt := false } :=
  score_putReq c _ (m.lapse c)

theorem flag_askWithdrawn : (m.askWithdrawn c i k).flag Reg.HAT_ERR Fields.HAT_ERR.PREEMPT_TIMEOUT = true :=
  Mod.flag_mark_self ((m.lapse c).putReq c _) _ _ (by decide) rfl

theorem noAsk_askWithdrawn : SMap.get badDefault (m.askWithdrawn c i k).hat.noAsk (1024 * i + k) = true := by
  have hno : (m.askWithdrawn c i k).hat.noAsk = SMap.set badDefault _ (1024 * i + k) true := rfl
  rw [hno, SMap.get_set_self]

theorem preempt_askWithdrawn : SMap.get (fun _ => none) (m.askWithdrawn c i k).hat.preempt c = none := by
  have hp : (m.askWithdrawn c i k).hat.preempt =
      ((m.lapse c).putReq c { m.score c with reqPreempt := false }).hat.preempt := rfl
  rw [hp, hat_putReq]
  exact SMap.get_set_self (fun _ => (none : Option Preempt)) _ c none

theorem gddr_askWithdrawn : (m.askWithdrawn c i k).gddr = m.gddr := gddr_putReq c _ (m.lapse c)

theorem sram_askWithdrawn : SameOutside (coreBase c + 104) (coreBase c + 105) m.sram (m.askWithdrawn c i k).sram :=
  sram_putReq c _ (m.lapse c)

theorem outs_askWithdrawn : (m.askWithdrawn c i k).outs = m.outs := outs_putReq c _ (m.lapse c)

theorem sameRegs_askWithdrawn : SameRegs [Reg.HAT_ERR] m (m.askWithdrawn c i k) :=
  ((SameRegs.of_eq (regs_putReq c _ (m.lapse c))).wr _ _ _ List.mem_cons_self :)

theorem traceOn_askWithdrawn : (m.askWithdrawn c i k).traceOn = m.traceOn :=
  congrArg (fget _ · != 0) (sameRegs_askWithdrawn c i k m _ (by decide))

end

theorem preemptTo_late {m : Mod} {c us i k : Nat} {p : Preempt} (hp : SMap.get (fun _ => none) m.hat.preempt c = some p)
    (hs : (m.score c).step = some (i, k)) (ha : m.acked c = false)
    (hu : m.rd Reg.HAT_CTRL Fields.HAT_CTRL.PREEMPT_WAIT ≤ us) (ht : m.traceOn = false) :
    m.preemptTo c us = m.askWithdrawn c i k := by
  have hgo : ¬ ((m.acked c || decide (us < m.rd Reg.HAT_CTRL Fields.HAT_CTRL.PREEMPT_WAIT)) = true) := by
    simp [ha, hu]
  have htrace := trace_off 7 8 (p.queue / 64) p.queue 0 i k c ((traceOn_askWithdrawn c i k m).trans ht)
  unfold Mod.preemptTo
  dsimp only
  rw [hp, hs]
  dsimp only
  rw [if_neg hgo, ← hs]
  exact htrace

theorem answers_preemptTo (s : State) (c us i k : Nat) (p : Preempt) (hh : s.m.flt.halted = false) (hc : c < 16)
    (hp : SMap.get (fun _ => none) s.m.hat.preempt c = some p) (hs : (s.m.score c).step = some (i, k))
    (ha : s.m.acked c = false) (hu : s.m.rd Reg.HAT_CTRL Fields.HAT_CTRL.PREEMPT_WAIT ≤ us) (ht : s.m.traceOn = false) :
    Answers (.preemptTo c us) s (fun t => (t.score c).reqPreempt = false ∧ (t.score c).step = some (i, k) ∧
      t.flag Reg.HAT_ERR Fields.HAT_ERR.PREEMPT_TIMEOUT = true ∧ SMap.get badDefault t.hat.noAsk (1024 * i + k) = true ∧
      SMap.get (fun _ => none) t.hat.preempt c = none ∧ t.gddr = s.m.gddr ∧
      SameOutside (coreBase c + 104) (coreBase c + 105) s.m.sram t.sram ∧ t.outs = s.m.outs ∧
      SameRegs [Reg.HAT_ERR] s.m t) := by
  have hscore := score_askWithdrawn c i k s.m
  have hflag := flag_askWithdrawn c i k s.m
  have hno := noAsk_askWithdrawn c i k s.m
  have hpre := preempt_askWithdrawn c i k s.m
  have hgddr := gddr_askWithdrawn c i k s.m
  have hsram := sram_askWithdrawn c i k s.m
  have houts := outs_askWithdrawn c i k s.m
  have hregs := sameRegs_askWithdrawn c i k s.m
  have hto := preemptTo_late hp hs ha hu ht
  generalize s.m.askWithdrawn c i k = t at hto hscore hflag hno hpre hgddr hsram houts hregs
  exact answers_command rfl (decide_eq_true hc) hh hto ⟨congrArg SCore.reqPreempt hscore,
    (congrArg SCore.step hscore).trans hs, hflag, hno, hpre, hgddr, hsram, houts, hregs.cmds _⟩

/-- Node `k` of graph `i` may be asked again. -/
def Mod.askable (i k : Nat) (m : Mod) : Mod :=
  { m with hat := { m.hat with noAsk := SMap.set badDefault m.hat.noAsk (1024 * i + k) false } }

theorem answers_preemptWaitExpiry (s : State) (i k us : Nat) (hh : s.m.flt.halted = false) (hi : i < 512)
    (hu : s.m.rd Reg.HAT_CTRL Fields.HAT_CTRL.PREEMPT_WAIT ≤ us) :
    Answers (.preemptWaitExpiry i k us) s (fun t => SMap.get badDefault t.hat.noAsk (1024 * i + k) = false ∧
      t.outs = s.m.outs ∧ SameMemory s.m t ∧ SameRegs [] s.m t) := by
  have hask : s.m.preemptWaitExpiry i k us = s.m.askable i k := if_neg (Nat.not_lt.mpr hu)
  have hk : Silent s.m (s.m.askable i k) := silent_hat s.m _
  have hno : SMap.get badDefault (s.m.askable i k).hat.noAsk (1024 * i + k) = false := by
    rw [Mod.askable, SMap.get_set_self]
  exact answers_command rfl (decide_eq_true hi) hh hask ⟨hno, hk.frame _⟩

/-- Settles O24: the dispatch of a pick, a suspension acknowledged, a request withdrawn, and the time until the next. -/
theorem arbitersAndPreemption : Obligations.ArbitersAndPreemption :=
  ⟨answers_arbiterDecision, answers_preemptDone, answers_preemptTo, answers_preemptWaitExpiry⟩

end Sys2Proof.Machine
end

section
/-!
PROOF. What a field holds after a write, and groups disabled, flushed and enabled by HAT_GRPn_CFG (R126 to R128).
-/

namespace Sys2Proof.Machine

/-! ### What a field holds after a write -/

/-- A field of RW bits passes the mask of those bits. -/
theorem fget_and_rw (f : Fld) (old mask : Word) (hrw : ∀ k < f.width, mask.getLsbD (f.lo + k) = true) :
    fget f (old &&& mask) = fget f old := by
  apply Nat.eq_of_testBit_eq
  intro k
  rw [testBit_fget, testBit_fget]
  by_cases hk : k < f.width
  · simp [hrw k hk]
  · simp [hk]

/-- Of a field that the mask leaves out nothing stays. -/
theorem fget_and_apart (f : Fld) (old mask : Word) (h : ∀ k < f.width, mask.getLsbD (f.lo + k) = false) :
    fget f (old &&& mask) = 0 := by
  apply Nat.eq_of_testBit_eq
  intro k
  rw [testBit_fget]
  by_cases hk : k < f.width
  · simp [h k hk]
  · simp [hk]

/-- A register whose RW bits are written as they stand keeps its word, where no bit is W1C (Table 0.3). -/
theorem RegDesc.after_kept (d : RegDesc) (old v : Word) (hc : d.w1c = 0#32) (hv : v &&& d.rw = old &&& d.rw) :
    d.after old v = old := by
  rw [RegDesc.after, hc, hv]
  ext k hk
  cases h : d.rw[k] <;> simp [h]

/-- A write of one field alone has the others 0. -/
theorem fget_fput_zero (f g : Fld) (v : Nat) (h : f.lo + f.width ≤ g.lo ∨ g.lo + g.width ≤ f.lo) :
    fget f (fput g v 0#32) = 0 := by
  rw [fget_fput_ne f g v _ h]
  simp [fget]

/-- A register takes the value written, as its bits allow. -/
def Mod.regPut (d : RegDesc) (off : Nat) (v : Word) (m : Mod) : Mod := m.setReg off (d.after (m.reg off) v)

section
variable (d : RegDesc) (off : Nat) (v : Word) (m : Mod)

theorem sameRegs_regPut : SameRegs [off] m (m.regPut d off v) := (SameRegs.refl _ m).setReg _ _ List.mem_cons_self

theorem sameMemory_regPut : SameMemory m (m.regPut d off v) := .of_eq rfl rfl

theorem journalOn_regPut (h : off ≠ Reg.SL_STATUS) : (m.regPut d off v).journalOn = m.journalOn :=
  Mod.journalOn_setReg m off _ h

/-- A field of RW bits reads as written. -/
theorem rd_regPut (f : Fld) (hc : d.w1c = 0#32) (hrw : ∀ k < f.width, d.rw.getLsbD (f.lo + k) = true) :
    (m.regPut d off v).rd off f = fget f v := by
  rw [Mod.rd, Mod.regPut, Mod.reg_setReg_self, fget_after d f _ _ hc hrw]

theorem flag_regPut (f : Fld) (hc : d.w1c = 0#32) (hrw : ∀ k < f.width, d.rw.getLsbD (f.lo + k) = true) :
    (m.regPut d off v).flag off f = (fget f v != 0) := by
  rw [Mod.flag, rd_regPut d off v m f hc hrw]

end

/-- The row of HAT_GRPn_CFG in the register table (Table 5.16). -/
def grpCfgDesc : RegDesc := ⟨.HAT_GRP_CFG, 0x200100, [(0x4, 64)], 0x110#32, 0x1FF#32, 0#32, 0x200#32, 0#32⟩

/-! ### A group that is disabled (R126) -/

/-- `b` is `a` but for what a stop asked of sequencers and steps may change. -/
def OffOnly (a b : Mod) : Prop :=
  b = { a with seqs := b.seqs, scores := b.scores, sram := b.sram, sramBad := b.sramBad, harts := b.harts }

section
variable {a b c : Mod}

theorem OffOnly.trans (h : OffOnly a b) (k : OffOnly b c) : OffOnly a c := by
  unfold OffOnly at *
  rw [k, h]

theorem OffOnly.regs (h : OffOnly a b) : b.regs = a.regs := by rw [h]
theorem OffOnly.queues (h : OffOnly a b) : b.queues = a.queues := by rw [h]
theorem OffOnly.outs (h : OffOnly a b) : b.outs = a.outs := by rw [h]
theorem OffOnly.gddr (h : OffOnly a b) : b.gddr = a.gddr := by rw [h]
theorem OffOnly.hat (h : OffOnly a b) : b.hat = a.hat := by rw [h]

end

theorem nodeJob_of_hat {a b : Mod} (h : b.hat = a.hat) (i k : Nat) : b.nodeJob i k = a.nodeJob i k := by
  rw [Mod.nodeJob, Mod.nodeJob, Mod.inst, Mod.inst, h]

/-- A stop is asked of sequencer `n` alone. -/
theorem stopSeq_eq (n code : Nat) (m : Mod) : m.stopSeq n code = m ∨ ∃ x, m.stopSeq n code = m.setSeq n x := by
  unfold Mod.stopSeq Mod.requestStop
  dsimp only
  split
  · exact .inl rfl
  · split
    · split
      · exact .inl rfl
      · exact .inr ⟨_, rfl⟩
    · exact .inr ⟨_, rfl⟩

theorem offOnly_stopSeq (n code : Nat) (m : Mod) : OffOnly m (m.stopSeq n code) := by
  obtain h | ⟨x, h⟩ := stopSeq_eq n code m
  · rw [h]
    rfl
  · rw [h]
    rfl

theorem scores_stopSeq (n code : Nat) (m : Mod) : (m.stopSeq n code).scores = m.scores := by
  obtain h | ⟨x, h⟩ := stopSeq_eq n code m
  · rw [h]
  · rw [h]
    rfl

theorem seq_stopSeq_ne (n k code : Nat) (m : Mod) (hk : n ≠ k) : (m.stopSeq k code).seq n = m.seq n := by
  obtain h | ⟨x, h⟩ := stopSeq_eq k code m
  · rw [h]
  · rw [h, Mod.seq_setSeq_ne m k n x hk]

/-- A burst that nothing has stopped yet takes the stop. -/
theorem seq_stopSeq_self (n code : Nat) (m : Mod) (hl : (m.seq n).live = true) (he : (m.seq n).ended = false)
    (hp : (m.seq n).post = none) (hr : (m.seq n).request = none) :
    (m.stopSeq n code).seq n = { m.seq n with request := some code, reqRank := stopRank code } := by
  simp [Mod.stopSeq, Mod.requestStop, hl, he, hp, hr]

/-- The burst of sequencer `n` stops where it is of group `g` and the port follows no primary. -/
def Mod.burstOff (g n : Nat) (m : Mod) : Mod :=
  match (m.seq n).job with
  | some j => m.when (j.group == g && !(m.seq n).mirror) (Mod.stopSeq n stUNIT_DISABLED)
  | none => m

/-- The bursts of group `g` stop. -/
def Mod.burstsOff (g : Nat) (m : Mod) : Mod := m.each (List.range 32) (Mod.burstOff g)

theorem groupOff_eq (g : Nat) (m : Mod) :
    m.groupOff g = (m.burstsOff g).each ((m.burstsOff g).groupCores g) (fun c s => s.drainStep c) := rfl

/-- A burst is stopped or left as it is. -/
theorem burstOff_eq (g n : Nat) (m : Mod) : m.burstOff g n = m ∨ m.burstOff g n = m.stopSeq n stUNIT_DISABLED := by
  unfold Mod.burstOff Mod.when
  split
  · split
    · exact .inr rfl
    · exact .inl rfl
  · exact .inl rfl

theorem offOnly_burstOff (g n : Nat) (m : Mod) : OffOnly m (m.burstOff g n) := by
  obtain h | h := burstOff_eq g n m
  · rw [h]
    rfl
  · rw [h]
    exact offOnly_stopSeq n _ m

theorem offOnly_burstsOff (g : Nat) (m : Mod) : OffOnly m (m.burstsOff g) :=
  Mod.each_keeps m (OffOnly m) _ _ (fun n _ x hx => hx.trans (offOnly_burstOff g n x)) rfl

theorem scores_burstsOff (g : Nat) (m : Mod) : (m.burstsOff g).scores = m.scores := by
  refine Mod.each_keeps m (fun x => x.scores = m.scores) _ _ (fun n _ x hx => ?_) rfl
  obtain h | h := burstOff_eq g n x
  · rw [h, hx]
  · rw [h, scores_stopSeq, hx]

theorem sameMemory_burstsOff (g : Nat) (m : Mod) : SameMemory m (m.burstsOff g) := by
  refine Mod.each_keeps m (SameMemory m) _ _ (fun n _ x hx => ?_) (.refl m)
  obtain h | h := burstOff_eq g n x
  · rwa [h]
  · rw [h]
    exact hx.trans (seqsOnly_stopSeq n _ x).memory

theorem score_of_none {m : Mod} (h : m.scores = []) (c : Nat) : m.score c = SCore.fresh := by rw [Mod.score, h]; rfl

/-- A group without running steps has no step to drain. -/
theorem groupOff_unscored {g : Nat} {m : Mod} (h : m.scores = []) : m.groupOff g = m.burstsOff g := by
  have hs : (m.burstsOff g).scores = [] := (scores_burstsOff g m).trans h
  have hcores : (m.burstsOff g).groupCores g = [] := by
    refine List.filter_eq_nil_iff.mpr fun c _ => ?_
    rw [score_of_none hs]
    simp [SCore.fresh]
  rw [groupOff_eq, hcores, Mod.each_nil]

/-- What every step of a repetition over distinct numbers leaves alone but step `n`, comes from step `n`. -/
theorem Mod.each_own {α : Type} (own : Mod → α) (n : Nat) (f : Nat → Mod → Mod)
    (hother : ∀ k, n ≠ k → ∀ x, own (f k x) = own x) : ∀ (l : List Nat), l.Nodup → n ∈ l → ∀ m : Mod,
      ∃ x, own x = own m ∧ own (m.each l f) = own (f n x)
  | [], _, hn, _ => absurd hn List.not_mem_nil
  | k :: l, hd, hn, m => by
    obtain ⟨hk, hl⟩ := List.nodup_cons.mp hd
    by_cases he : n = k
    · subst he
      refine ⟨m, rfl, ?_⟩
      exact Mod.each_keeps (f n m) (fun x => own x = own (f n m)) l f
        (fun j hj x hx => (hother j (fun e => hk (e ▸ hj)) x).trans hx) rfl
    · obtain ⟨x, hx, hr⟩ := Mod.each_own own n f hother l hl ((List.mem_cons.mp hn).resolve_left he) (f k m)
      exact ⟨x, hx.trans (hother k he m), hr⟩

/-- A burst of the group that nothing has stopped yet takes the stop. -/
theorem seq_burstsOff {g n : Nat} {m : Mod} {j : Job} (hn : n < 32) (hj : (m.seq n).job = some j) (hg : j.group = g)
    (hm : (m.seq n).mirror = false) (hl : (m.seq n).live = true) (he : (m.seq n).ended = false)
    (hp : (m.seq n).post = none) (hr : (m.seq n).request = none) :
    ((m.burstsOff g).seq n).request = some stUNIT_DISABLED := by
  have hother (k : Nat) (hk : n ≠ k) (x : Mod) : (x.burstOff g k).seq n = x.seq n := by
    obtain h | h := burstOff_eq g k x
    · rw [h]
    · rw [h, seq_stopSeq_ne n k _ x hk]
  obtain ⟨x, hx, heach⟩ := Mod.each_own (fun x => x.seq n) n (Mod.burstOff g) hother (List.range 32) List.nodup_range
    (List.mem_range.mpr hn) m
  rw [← hx] at hj hm hl he hp hr
  have hoff : x.burstOff g n = x.stopSeq n stUNIT_DISABLED := by simp [Mod.burstOff, hj, hg, hm]
  rw [Mod.burstsOff, heach, hoff, seq_stopSeq_self n _ x hl he hp hr]

/-! ### Steps that drain (R126) -/

theorem offOnly_drainStep (c : Nat) (m : Mod) : OffOnly m (m.drainStep c) := by
  unfold Mod.drainStep
  split
  · obtain ⟨h, he⟩ := putReq_eq c { m.score c with reqDrain := true } m
    rw [he]
    rfl
  · rfl

theorem offOnly_groupOff (g : Nat) (m : Mod) : OffOnly m (m.groupOff g) := by
  rw [groupOff_eq]
  exact Mod.each_keeps _ (OffOnly m) _ _ (fun c _ x hx => hx.trans (offOnly_drainStep c x)) (offOnly_burstsOff g m)

theorem score_drainStep_ne (c j : Nat) (m : Mod) (hj : j ≠ c) : (m.drainStep c).score j = m.score j := by
  unfold Mod.drainStep
  split
  · obtain ⟨h, he⟩ := putReq_eq c { m.score c with reqDrain := true } m
    rw [he]
    exact SMap.get_set_ne _ _ _ _ _ hj
  · rfl

/-- A core that runs a step is told to drain it, and runs on. -/
theorem score_drainStep_self {c : Nat} {m : Mod} {e : Nat × Nat} (h : (m.score c).step = some e) :
    (m.drainStep c).score c = { m.score c with reqDrain := true } := by
  have hs : (m.score c).step.isSome = true := by rw [h]; rfl
  rw [Mod.drainStep, if_pos hs]
  exact score_putReq c _ m

/-- A step of the group is told to drain, and runs on. -/
theorem score_groupOff {g c i k : Nat} {m : Mod} (hc : c < 16) (hs : (m.score c).step = some (i, k))
    (hg : (m.nodeJob i k).group = g) : (m.groupOff g).score c = { m.score c with reqDrain := true } := by
  have hscore : (m.burstsOff g).score c = m.score c := by rw [Mod.score, Mod.score, scores_burstsOff]
  have hjob : ((m.burstsOff g).nodeJob i k).group = g := by rw [nodeJob_of_hat (offOnly_burstsOff g m).hat, hg]
  have hmem : c ∈ (m.burstsOff g).groupCores g := by
    refine List.mem_filter.mpr ⟨List.mem_range.mpr hc, ?_⟩
    rw [hscore, hs]
    exact beq_iff_eq.mpr hjob
  have hnodup : ((m.burstsOff g).groupCores g).Nodup := List.nodup_range.filter _
  obtain ⟨x, hx, heach⟩ := Mod.each_own (fun x => x.score c) c (fun c s => s.drainStep c)
    (fun k hk x => score_drainStep_ne k c x hk) _ hnodup hmem (m.burstsOff g)
  have hx' : x.score c = m.score c := hx.trans hscore
  rw [groupOff_eq, heach, score_drainStep_self (e := (i, k)) (by rw [hx', hs]), hx']

/-! ### A group that is flushed (R127) -/

/-- `b` is `a` but for the queues and the rings. -/
def RingsOnly (a b : Mod) : Prop := b = { a with queues := b.queues, cqs := b.cqs }

section
variable {a b c : Mod}

theorem RingsOnly.refl (a : Mod) : RingsOnly a a := rfl

theorem RingsOnly.trans (h : RingsOnly a b) (k : RingsOnly b c) : RingsOnly a c := by
  unfold RingsOnly at *
  rw [k, h]

theorem RingsOnly.silent (h : RingsOnly a b) : Silent a b := by
  rw [h]
  exact ⟨rfl, rfl, rfl, rfl⟩

theorem RingsOnly.hat (h : RingsOnly a b) : b.hat = a.hat := by rw [h]

theorem RingsOnly.each (h : RingsOnly a b) (l : List Nat) (f : Nat → Mod → Mod)
    (hf : ∀ k x, RingsOnly a x → RingsOnly x (f k x)) : RingsOnly a (b.each l f) :=
  Mod.each_keeps b (RingsOnly a) l f (fun k _ x hx => hx.trans (hf k x hx)) h

end

theorem ringsOnly_setQueue (q : Nat) (y : Queue) (m : Mod) : RingsOnly m (m.setQueue q y) := rfl

theorem inst_of_none {m : Mod} (h : m.hat.insts = []) (i : Nat) : m.inst i = none := by rw [Mod.inst, h]; rfl

theorem ringsOnly_refillQueue (q : Nat) : ∀ (fuel : Nat) (m : Mod), m.hat.insts = [] → RingsOnly m (m.refillQueue q fuel)
  | 0, _, _ => rfl
  | fuel + 1, m, h => by
    unfold Mod.refillQueue
    dsimp only
    split
    · rfl
    · split
      · rename_i e rest _ _
        have hi (y : Queue) : (m.setQueue q y).inst e.inst = none := inst_of_none h e.inst
        rw [hi]
        exact (ringsOnly_setQueue q _ m).trans (ringsOnly_refillQueue q fuel _ h)
      · rfl

/-- Without graphs the removal of entries moves queues alone. -/
theorem ringsOnly_flushEntries (p : Nat → Entry → Bool) (m : Mod) (h : m.hat.insts = []) : RingsOnly m (m.flushEntries p) := by
  have hquit (i : Nat) (x : Mod) (hx : RingsOnly m x) : x.quit i stFLUSHED 0xFFFF = x := by
    rw [Mod.quit, inst_of_none (by rw [hx.hat, h])]
  refine .each (.each (.each (.refl m) _ _ fun q x _ => ringsOnly_setQueue q _ x) _ _ fun i x hx => ?_) _ _ fun q x hx => ?_
  · rw [hquit i x hx]
    rfl
  · exact ringsOnly_refillQueue q _ x (by rw [hx.hat, h])

/-- A flushed descriptor of an own queue waits in its ring. -/
theorem completeDesc_flushed {q : Nat} (d : Desc) (m : Mod) (hq : q < 4096) :
    m.completeDesc q d stFLUSHED 0#32 = m.await (m.queue q).cq (descComp q d.serial d.bytes stFLUSHED 0#32) :=
  complete_own _ _ m hq (by simp [descComp, stFLUSHED])

theorem foldl_flushed {q : Nat} (hq : q < 4096) : ∀ (l : List Desc) (m : Mod),
    ∃ x, l.foldl (fun t d => t.completeDesc q d stFLUSHED 0#32) m = { m with cqs := x }
  | [], m => ⟨m.cqs, rfl⟩
  | d :: l, m => by
    obtain ⟨x, hx⟩ := foldl_flushed hq l (m.completeDesc q d stFLUSHED 0#32)
    refine ⟨x, hx.trans ?_⟩
    rw [completeDesc_flushed d m hq]
    rfl

/-- The descriptors on chip of queue `q` complete with FLUSHED where it is of group `g`. -/
def Mod.descsOff (g q : Nat) (m : Mod) : Mod :=
  ((m.queue q).onchip.filter (fun _ => q / 64 == g)).foldl (fun t d => t.completeDesc q d stFLUSHED 0#32)
    (m.setQueue q { m.queue q with onchip := (m.queue q).onchip.filter (fun _ => !(q / 64 == g)) })

theorem flushDescs_group (g : Nat) (m : Mod) :
    m.flushDescs (fun q _ => q / 64 == g) = m.each (m.queues.map Prod.fst) (Mod.descsOff g) := rfl

/-- A queue of which no descriptor of group `g` is left on chip. -/
def Queue.cleared (own : Bool) (y : Queue) : Queue := { y with onchip := if own then [] else y.onchip }

section
variable {g : Nat} (hg : g < 64) (q : Nat) (m : Mod)
include hg

theorem descsOff_eq : ∃ x, m.descsOff g q = { m.setQueue q ((m.queue q).cleared (q / 64 == g)) with cqs := x } := by
  unfold Mod.descsOff Queue.cleared
  by_cases h : q / 64 = g
  · obtain ⟨x, hx⟩ := foldl_flushed (q := q) (by omega) ((m.queue q).onchip.filter (fun _ => q / 64 == g))
      (m.setQueue q { m.queue q with onchip := (m.queue q).onchip.filter (fun _ => !(q / 64 == g)) })
    exact ⟨x, hx.trans (by simp [h])⟩
  · have hnone : (m.queue q).onchip.filter (fun _ => q / 64 == g) = [] := by simp [h]
    have hall : (m.queue q).onchip.filter (fun _ => !(q / 64 == g)) = (m.queue q).onchip := by simp [h]
    rw [hnone, hall, if_neg (by simp [h])]
    exact ⟨m.cqs, rfl⟩

theorem ringsOnly_descsOff : RingsOnly m (m.descsOff g q) := by
  obtain ⟨x, hx⟩ := descsOff_eq hg q m
  rw [hx]
  rfl

theorem onchip_descsOff_self (h : q / 64 = g) : ((m.descsOff g q).queue q).onchip = [] := by
  obtain ⟨x, hx⟩ := descsOff_eq hg q m
  have hq : (m.descsOff g q).queue q = (m.queue q).cleared (q / 64 == g) := by
    rw [hx]
    exact Mod.queue_setQueue_self m q _
  rw [hq, Queue.cleared, if_pos (by simp [h])]

theorem onchip_descsOff_keeps (j : Nat) (h : (m.queue j).onchip = []) : ((m.descsOff g q).queue j).onchip = [] := by
  obtain ⟨x, hx⟩ := descsOff_eq hg q m
  have hq : (m.descsOff g q).queue j = (m.setQueue q ((m.queue q).cleared (q / 64 == g))).queue j := by
    rw [hx]
    rfl
  rw [hq]
  by_cases hj : j = q
  · subst hj
    rw [Mod.queue_setQueue_self, Queue.cleared, h, ite_self]
  · rw [Mod.queue_setQueue_ne m q j _ hj, h]

theorem ringsOnly_flushDescs : RingsOnly m (m.flushDescs (fun q _ => q / 64 == g)) := by
  rw [flushDescs_group]
  exact .each (.refl m) _ _ fun q x _ => ringsOnly_descsOff hg q x

/-- A queue of the group has nothing left on chip. -/
theorem onchip_flushDescs (h : q / 64 = g) : ((m.flushDescs (fun q _ => q / 64 == g)).queue q).onchip = [] := by
  rw [flushDescs_group]
  by_cases hq : q ∈ m.queues.map Prod.fst
  · have hset (k : Nat) (x : Mod) (hk : k / 64 = g) : ((x.descsOff g k).queue k).onchip = [] :=
      onchip_descsOff_self hg k x hk
    exact Mod.each_sets (fun k x => k / 64 = g → (x.queue k).onchip = []) _ (Mod.descsOff g) hset
      (fun j k x hx hj => onchip_descsOff_keeps hg k x j (hx hj)) m q hq h
  · have hnone : SMap.find m.queues q = none := by
      cases hf : SMap.find m.queues q with
      | none => rfl
      | some y => exact absurd (List.mem_map_of_mem (SMap.mem_of_find hf)) hq
    have hfresh : (m.queue q).onchip = [] := by
      rw [Mod.queue, SMap.get, hnone]
      rfl
    exact Mod.each_keeps m (fun x => (x.queue q).onchip = []) _ _ (fun k _ x hx => onchip_descsOff_keeps hg k x q hx) hfresh

end

theorem ringsOnly_atOnce (m old : Mod) : RingsOnly m (m.atOnce old) := by
  refine .each (.refl m) _ _ fun c x _ => ?_
  dsimp only
  split <;> rfl

theorem queues_atOnce (m old : Mod) : (m.atOnce old).queues = m.queues := by
  refine Mod.each_keeps m (fun x => x.queues = m.queues) _ _ (fun c _ x hx => ?_) rfl
  dsimp only
  split <;> exact hx

section
variable {g : Nat} {m : Mod} (hg : g < 64)
include hg

theorem ringsOnly_groupFlush (hi : m.hat.insts = []) : RingsOnly m (m.groupFlush g) :=
  ((ringsOnly_flushEntries _ m hi).trans (ringsOnly_flushDescs hg _)).trans (ringsOnly_atOnce _ m)

theorem onchip_groupFlush {q : Nat} (h : q / 64 = g) : ((m.groupFlush g).queue q).onchip = [] := by
  rw [Mod.groupFlush, Mod.queue, queues_atOnce]
  exact onchip_flushDescs hg q _ h

end

/-! ### A group that starts afresh (R128) -/

theorem deficitOf_setDeficit_zero (c j g : Nat) (h : Hat) :
    (h.setDeficit c g 0).deficitOf j g = if j = c then 0 else h.deficitOf j g := by
  simp only [Hat.setDeficit, Hat.deficitOf, SMap.get_set]
  simp

theorem silent_groupFresh (g : Nat) (m : Mod) : Silent m (m.groupFresh g) :=
  Mod.each_keeps m (Silent m) _ _ (fun _ _ x hx => hx.trans (silent_hat x _)) (.refl m)

theorem queues_groupFresh (g : Nat) (m : Mod) : (m.groupFresh g).queues = m.queues :=
  Mod.each_keeps m (fun x => x.queues = m.queues) _ _ (fun _ _ _ hx => hx) rfl

theorem deficit_groupFresh {c : Nat} (g : Nat) (m : Mod) (hc : c < 9) : (m.groupFresh g).hat.deficitOf c g = 0 := by
  refine Mod.each_sets (fun c x => x.hat.deficitOf c g = 0) (List.range 9) _ (fun c x => ?_) (fun j c x hx => ?_) m c
    (List.mem_range.mpr hc)
  · exact (deficitOf_setDeficit_zero c c g x.hat).trans (if_pos rfl)
  · refine (deficitOf_setDeficit_zero c j g x.hat).trans ?_
    rw [hx, ite_self]

section
variable {m t : Mod} {i : Init} {v : Word}

/-! ### HAT_GRPn_CFG (R126 to R128) -/

/-- HAT_GRPn_CFG takes a value. -/
def Mod.groupPut (g : Nat) (v : Word) (m : Mod) : Mod :=
  m.regPut grpCfgDesc (Reg.HAT_GRP_CFG g) v

theorem act_grpCfg {g : Nat} (hg : g < 64) : Wr.act ⟨i, Reg.HAT_GRP_CFG g, grpCfgDesc, [g], v⟩ m =
    .ok ((((m.groupPut g v).when (m.flag (Reg.HAT_GRP_CFG g) Fields.HAT_GRP_CFG.ENABLE &&
        !(fget Fields.HAT_GRP_CFG.ENABLE v != 0)) (Mod.groupOff g)).when
      (!(fget Fields.HAT_GRP_CFG.ENABLE v != 0) && fget Fields.HAT_GRP_CFG.FLUSH v != 0) (Mod.groupFlush g)).when
      (!m.flag (Reg.HAT_GRP_CFG g) Fields.HAT_GRP_CFG.ENABLE && fget Fields.HAT_GRP_CFG.ENABLE v != 0) (Mod.groupFresh g)) := by
  have hb : Reg.HAT_GRP_CFG g / 0x100000 = 2 := by unfold Reg.HAT_GRP_CFG; omega
  have hp : pairLows.contains RegName.HAT_GRP_CFG = false := by decide
  simp only [Wr.act, grpCfgDesc, hp, hb, Wr.hatch, Bool.false_eq_true, if_false]
  rfl

theorem groupWrite_eq {g : Nat} (hs : m.serving = true) (hg : g < 64)
    (ht : Wr.act ⟨i, Reg.HAT_GRP_CFG g, grpCfgDesc, [g], v⟩ m = .ok t) (hj : t.journalOn = false) :
    m.busWrite i (Reg.HAT_GRP_CFG g) v = t :=
  Mod.busWrite_accepted hs (by unfold Reg.HAT_GRP_CFG; omega) (by unfold Reg.HAT_GRP_CFG; omega) (regAt_HAT_GRP_CFG g hg) ht hj

theorem sameRegs_groupPut (g : Nat) (v : Word) (m : Mod) : SameRegs [Reg.HAT_GRP_CFG g] m (m.groupPut g v) :=
  sameRegs_regPut _ _ v m

theorem journalOn_groupPut {g : Nat} (hg : g < 64) (hj : m.journalOn = false) : (m.groupPut g v).journalOn = false := by
  rw [Mod.groupPut, journalOn_regPut _ _ _ _ (by unfold Reg.HAT_GRP_CFG Reg.SL_STATUS; omega), hj]

/-- ENABLE and WEIGHT read as written. -/
theorem flag_groupPut (g : Nat) (v : Word) (m : Mod) :
    (m.groupPut g v).flag (Reg.HAT_GRP_CFG g) Fields.HAT_GRP_CFG.ENABLE = (fget Fields.HAT_GRP_CFG.ENABLE v != 0) :=
  flag_regPut _ _ v m _ rfl (by decide)

theorem rd_groupPut (g : Nat) (v : Word) (m : Mod) :
    (m.groupPut g v).rd (Reg.HAT_GRP_CFG g) Fields.HAT_GRP_CFG.WEIGHT = fget Fields.HAT_GRP_CFG.WEIGHT v :=
  rd_regPut _ _ v m _ rfl (by decide)

/-- GROUP_DISABLE writes ENABLE 0 with WEIGHT as it stands. -/
def Mod.disableWord (g : Nat) (m : Mod) : Word :=
  fput Fields.HAT_GRP_CFG.ENABLE 0 (m.reg (Reg.HAT_GRP_CFG g) &&& grpCfgDesc.rw)

section
variable (g : Nat) (m : Mod)

theorem enable_disableWord : fget Fields.HAT_GRP_CFG.ENABLE (m.disableWord g) = 0 := fget_fput _ _ _ (by decide)

theorem weight_disableWord : fget Fields.HAT_GRP_CFG.WEIGHT (m.disableWord g) =
    m.rd (Reg.HAT_GRP_CFG g) Fields.HAT_GRP_CFG.WEIGHT := by
  rw [Mod.disableWord, fget_fput_ne _ _ _ _ (by decide), fget_and_rw _ _ _ (by decide), Mod.rd]

theorem flush_disableWord : fget Fields.HAT_GRP_CFG.FLUSH (m.disableWord g) = 0 := by
  rw [Mod.disableWord, fget_fput_ne _ _ _ _ (by decide), fget_and_apart _ _ _ (by decide)]

/-- The group disabled, its bursts stopped and its steps told to drain. -/
def Mod.groupDisabled (g : Nat) (m : Mod) : Mod := (m.groupPut g (m.disableWord g)).groupOff g

theorem offOnly_groupDisabled : OffOnly (m.groupPut g (m.disableWord g)) (m.groupDisabled g) := offOnly_groupOff g _

theorem sameRegs_groupDisabled : SameRegs [Reg.HAT_GRP_CFG g] m (m.groupDisabled g) :=
  (sameRegs_groupPut g _ m).trans (.of_eq (offOnly_groupDisabled g m).regs)

theorem flag_groupDisabled : (m.groupDisabled g).flag (Reg.HAT_GRP_CFG g) Fields.HAT_GRP_CFG.ENABLE = false := by
  rw [flag_of_regs (offOnly_groupDisabled g m).regs, flag_groupPut, enable_disableWord]
  rfl

theorem rd_groupDisabled : (m.groupDisabled g).rd (Reg.HAT_GRP_CFG g) Fields.HAT_GRP_CFG.WEIGHT =
    m.rd (Reg.HAT_GRP_CFG g) Fields.HAT_GRP_CFG.WEIGHT := by
  rw [rd_of_regs (offOnly_groupDisabled g m).regs, rd_groupPut, weight_disableWord]

theorem sameMemory_groupDisabled (h : m.scores = []) : SameMemory m (m.groupDisabled g) := by
  have hput : SameMemory m (m.groupPut g (m.disableWord g)) := .of_eq rfl rfl
  rw [Mod.groupDisabled, groupOff_unscored (m := m.groupPut g _) h]
  exact hput.trans (sameMemory_burstsOff g _)

end

theorem groupDisable_eq {g : Nat} (hs : m.serving = true) (hj : m.journalOn = false) (hg : g < 64)
    (hon : m.flag (Reg.HAT_GRP_CFG g) Fields.HAT_GRP_CFG.ENABLE = true) :
    m.fieldWrite i (Reg.HAT_GRP_CFG g) Fields.HAT_GRP_CFG.ENABLE 0 = m.groupDisabled g := by
  have hoff : (m.groupDisabled g).journalOn = false :=
    (journalOn_of_regs (offOnly_groupDisabled g m).regs).trans (journalOn_groupPut hg hj)
  rw [m.fieldWrite_eq i _ _ _ _ _ (regAt_HAT_GRP_CFG g hg)]
  refine groupWrite_eq (v := m.disableWord g) hs hg ?_ hoff
  rw [act_grpCfg hg, hon, enable_disableWord, flush_disableWord]
  rfl

theorem answers_groupDisable (s : State) (init : Init) (g : Nat) (hs : s.m.serving = true) (hj : s.m.journalOn = false)
    (hi : init.wf = true) (hg : g < 64) (hon : s.m.flag (Reg.HAT_GRP_CFG g) Fields.HAT_GRP_CFG.ENABLE = true)
    (_ : s.m.seqs = []) (hc : s.m.scores = []) :
    Answers (.groupDisable init g) s (fun t => t.flag (Reg.HAT_GRP_CFG g) Fields.HAT_GRP_CFG.ENABLE = false ∧
      t.rd (Reg.HAT_GRP_CFG g) Fields.HAT_GRP_CFG.WEIGHT = s.m.rd (Reg.HAT_GRP_CFG g) Fields.HAT_GRP_CFG.WEIGHT ∧
      t.queues = s.m.queues ∧ t.outs = s.m.outs ∧ SameMemory s.m t ∧ SameRegs [Reg.HAT_GRP_CFG g] s.m t) := by
  have ht := groupDisable_eq (i := init) hs hj hg hon
  have hoff := offOnly_groupDisabled g s.m
  have hflag := flag_groupDisabled g s.m
  have hweight := rd_groupDisabled g s.m
  have hmem := sameMemory_groupDisabled g s.m hc
  have hregs := sameRegs_groupDisabled g s.m
  generalize s.m.groupDisabled g = t at ht hoff hflag hweight hmem hregs
  exact answers_command rfl (by simp [Wf.groupDisable, hi, hg]) (s.m.serving_iff.mp hs).1 ht
    ⟨hflag, hweight, hoff.queues, hoff.outs, hmem, hregs.cmds _⟩

/-- A running burst of the group stops with UNIT_DISABLED. -/
theorem answers_groupDisable_burst (s : State) (init : Init) (g n : Nat) (j : Job) (hs : s.m.serving = true)
    (hj : s.m.journalOn = false) (hi : init.wf = true) (hg : g < 64) (hn : n < 32)
    (hon : s.m.flag (Reg.HAT_GRP_CFG g) Fields.HAT_GRP_CFG.ENABLE = true) (hjob : (s.m.seq n).job = some j)
    (hgroup : j.group = g) (hm : (s.m.seq n).mirror = false) (hl : (s.m.seq n).live = true)
    (he : (s.m.seq n).ended = false) (hp : (s.m.seq n).post = none) (hr : (s.m.seq n).request = none)
    (hc : s.m.scores = []) :
    Answers (.groupDisable init g) s (fun t => (t.seq n).request = some stUNIT_DISABLED ∧
      t.flag (Reg.HAT_GRP_CFG g) Fields.HAT_GRP_CFG.ENABLE = false ∧ SameMemory s.m t) := by
  have ht := groupDisable_eq (i := init) hs hj hg hon
  have hflag := flag_groupDisabled g s.m
  have hmem := sameMemory_groupDisabled g s.m hc
  have hreq : ((s.m.groupDisabled g).seq n).request = some stUNIT_DISABLED := by
    rw [Mod.groupDisabled, groupOff_unscored (m := s.m.groupPut g _) hc]
    exact seq_burstsOff (m := s.m.groupPut g _) hn hjob hgroup hm hl he hp hr
  generalize s.m.groupDisabled g = t at ht hflag hmem hreq
  exact answers_command rfl (by simp [Wf.groupDisable, hi, hg]) (s.m.serving_iff.mp hs).1 ht ⟨hreq, hflag, hmem⟩

/-- A running step of the group is told to drain. -/
theorem answers_groupDisable_step (s : State) (init : Init) (g c i k : Nat) (hs : s.m.serving = true)
    (hj : s.m.journalOn = false) (hi : init.wf = true) (hg : g < 64) (hc : c < 16)
    (hon : s.m.flag (Reg.HAT_GRP_CFG g) Fields.HAT_GRP_CFG.ENABLE = true) (hstep : (s.m.score c).step = some (i, k))
    (hgroup : (s.m.nodeJob i k).group = g) :
    Answers (.groupDisable init g) s (fun t => (t.score c).reqDrain = true ∧ (t.score c).step = some (i, k) ∧
      t.flag (Reg.HAT_GRP_CFG g) Fields.HAT_GRP_CFG.ENABLE = false ∧ t.gddr = s.m.gddr) := by
  have ht := groupDisable_eq (i := init) hs hj hg hon
  have hflag := flag_groupDisabled g s.m
  have hoff := offOnly_groupDisabled g s.m
  have hscore : (s.m.groupDisabled g).score c = { s.m.score c with reqDrain := true } :=
    score_groupOff (m := s.m.groupPut g _) hc hstep hgroup
  generalize s.m.groupDisabled g = t at ht hflag hoff hscore
  exact answers_command rfl (by simp [Wf.groupDisable, hi, hg]) (s.m.serving_iff.mp hs).1 ht
    ⟨congrArg SCore.reqDrain hscore, (congrArg SCore.step hscore).trans hstep, hflag, hoff.gddr⟩

/-- GROUP_DISABLE_FLUSH writes ENABLE 0 and FLUSH with a weight, GROUP_ENABLE ENABLE with a weight. -/
def flushWord (weight : Nat) : Word := fput Fields.HAT_GRP_CFG.FLUSH 1 (fput Fields.HAT_GRP_CFG.WEIGHT weight 0#32)
def enableWord (weight : Nat) : Word := fput Fields.HAT_GRP_CFG.ENABLE 1 (fput Fields.HAT_GRP_CFG.WEIGHT weight 0#32)

section
variable (weight : Nat)

theorem enable_flushWord : fget Fields.HAT_GRP_CFG.ENABLE (flushWord weight) = 0 :=
  (fget_fput_ne _ _ _ _ (by decide)).trans (fget_fput_zero _ _ _ (by decide))

theorem flush_flushWord : fget Fields.HAT_GRP_CFG.FLUSH (flushWord weight) = 1 := fget_fput _ _ _ (by decide)

theorem enable_enableWord : fget Fields.HAT_GRP_CFG.ENABLE (enableWord weight) = 1 := fget_fput _ _ _ (by decide)

theorem weight_flushWord (hw : weight < 256) : fget Fields.HAT_GRP_CFG.WEIGHT (flushWord weight) = weight :=
  ((fget_fput_ne _ _ _ _ (by decide)).trans (fget_fput _ _ _ (by decide))).trans (Nat.mod_eq_of_lt hw)

theorem weight_enableWord (hw : weight < 256) : fget Fields.HAT_GRP_CFG.WEIGHT (enableWord weight) = weight :=
  ((fget_fput_ne _ _ _ _ (by decide)).trans (fget_fput _ _ _ (by decide))).trans (Nat.mod_eq_of_lt hw)

end

/-- The group takes the value, and its work is stopped if it was enabled. -/
def Mod.groupCut (g weight : Nat) (m : Mod) : Mod :=
  (m.groupPut g (flushWord weight)).when (m.flag (Reg.HAT_GRP_CFG g) Fields.HAT_GRP_CFG.ENABLE) (Mod.groupOff g)

section
variable (g weight : Nat) (m : Mod)

theorem offOnly_groupCut : OffOnly (m.groupPut g (flushWord weight)) (m.groupCut g weight) := by
  unfold Mod.groupCut Mod.when
  split
  · exact offOnly_groupOff g _
  · rfl

theorem sameMemory_groupCut (h : m.scores = []) : SameMemory m (m.groupCut g weight) := by
  have hput : SameMemory m (m.groupPut g (flushWord weight)) := .of_eq rfl rfl
  unfold Mod.groupCut Mod.when
  split
  · rw [groupOff_unscored (m := m.groupPut g _) h]
    exact hput.trans (sameMemory_burstsOff g _)
  · exact hput

end

theorem groupDisableFlush_eq {g weight : Nat} (hs : m.serving = true) (hj : m.journalOn = false) (hg : g < 64)
    (hin : m.hat.insts = []) : m.busWrite i (Reg.HAT_GRP_CFG g) (flushWord weight) = (m.groupCut g weight).groupFlush g := by
  have hoff := offOnly_groupCut g weight m
  have hflush : RingsOnly (m.groupCut g weight) ((m.groupCut g weight).groupFlush g) :=
    ringsOnly_groupFlush hg (by rw [hoff.hat]; exact hin)
  have hquiet : ((m.groupCut g weight).groupFlush g).journalOn = false :=
    (journalOn_of_regs (hflush.silent.regs.trans hoff.regs)).trans (journalOn_groupPut hg hj)
  refine groupWrite_eq hs hg ?_ hquiet
  rw [act_grpCfg hg, enable_flushWord, flush_flushWord]
  simp only [bne_self_eq_false, Bool.not_false, Bool.and_true, Bool.and_false, Mod.when_false]
  rfl

theorem answers_groupDisableFlush (s : State) (init : Init) (g weight q : Nat) (hs : s.m.serving = true)
    (hj : s.m.journalOn = false) (hi : init.wf = true) (hg : g < 64) (hw : weight < 256) (hq : q / 64 = g)
    (hin : s.m.hat.insts = []) (hc : s.m.scores = []) :
    Answers (.groupDisableFlush init g weight) s (fun t =>
      t.flag (Reg.HAT_GRP_CFG g) Fields.HAT_GRP_CFG.ENABLE = false ∧
      t.rd (Reg.HAT_GRP_CFG g) Fields.HAT_GRP_CFG.WEIGHT = weight ∧ (t.queue q).onchip = [] ∧ SameMemory s.m t) := by
  have ht := groupDisableFlush_eq (i := init) (weight := weight) hs hj hg hin
  have hoff := offOnly_groupCut g weight s.m
  have hflush : RingsOnly (s.m.groupCut g weight) ((s.m.groupCut g weight).groupFlush g) :=
    ringsOnly_groupFlush hg (by rw [hoff.hat]; exact hin)
  have hregs := hflush.silent.regs.trans hoff.regs
  have hmem := (sameMemory_groupCut g weight s.m hc).trans hflush.silent.memory
  have honchip := onchip_groupFlush (m := s.m.groupCut g weight) hg hq
  have hflag : ((s.m.groupCut g weight).groupFlush g).flag (Reg.HAT_GRP_CFG g) Fields.HAT_GRP_CFG.ENABLE = false := by
    rw [flag_of_regs hregs, flag_groupPut, enable_flushWord]
    rfl
  have hweight : ((s.m.groupCut g weight).groupFlush g).rd (Reg.HAT_GRP_CFG g) Fields.HAT_GRP_CFG.WEIGHT = weight := by
    rw [rd_of_regs hregs, rd_groupPut, weight_flushWord weight hw]
  generalize (s.m.groupCut g weight).groupFlush g = t at ht hmem honchip hflag hweight
  exact answers_command rfl (by simp [Wf.groupDisableFlush, hi, hg, hw]) (s.m.serving_iff.mp hs).1 ht
    ⟨hflag, hweight, honchip, hmem⟩

theorem groupEnable_eq {g weight : Nat} (hs : m.serving = true) (hj : m.journalOn = false) (hg : g < 64)
    (hoff : m.flag (Reg.HAT_GRP_CFG g) Fields.HAT_GRP_CFG.ENABLE = false) :
    m.busWrite i (Reg.HAT_GRP_CFG g) (enableWord weight) = (m.groupPut g (enableWord weight)).groupFresh g := by
  have hquiet : ((m.groupPut g (enableWord weight)).groupFresh g).journalOn = false :=
    (silent_groupFresh g _).journalOn.trans (journalOn_groupPut hg hj)
  refine groupWrite_eq hs hg ?_ hquiet
  rw [act_grpCfg hg, hoff, enable_enableWord]
  rfl

theorem answers_groupEnable (s : State) (init : Init) (g weight : Nat) (hs : s.m.serving = true)
    (hj : s.m.journalOn = false) (hi : init.wf = true) (hg : g < 64) (hw : weight < 256)
    (hoff : s.m.flag (Reg.HAT_GRP_CFG g) Fields.HAT_GRP_CFG.ENABLE = false) :
    Answers (.groupEnable init g weight) s (fun t => t.flag (Reg.HAT_GRP_CFG g) Fields.HAT_GRP_CFG.ENABLE = true ∧
      t.rd (Reg.HAT_GRP_CFG g) Fields.HAT_GRP_CFG.WEIGHT = weight ∧ (∀ c : Nat, c < 9 → t.hat.deficitOf c g = 0) ∧
      t.queues = s.m.queues ∧ t.outs = s.m.outs ∧ SameMemory s.m t ∧ SameRegs [Reg.HAT_GRP_CFG g] s.m t) := by
  have ht := groupEnable_eq (i := init) (weight := weight) hs hj hg hoff
  have hk := silent_groupFresh g (s.m.groupPut g (enableWord weight))
  have hqueues := queues_groupFresh g (s.m.groupPut g (enableWord weight))
  have hdeficit (c : Nat) (hc : c < 9) := deficit_groupFresh g (s.m.groupPut g (enableWord weight)) hc
  have hflag : ((s.m.groupPut g (enableWord weight)).groupFresh g).flag (Reg.HAT_GRP_CFG g) Fields.HAT_GRP_CFG.ENABLE =
      true := by
    rw [flag_of_regs hk.regs, flag_groupPut, enable_enableWord]
    rfl
  have hweight : ((s.m.groupPut g (enableWord weight)).groupFresh g).rd (Reg.HAT_GRP_CFG g) Fields.HAT_GRP_CFG.WEIGHT =
      weight := by
    rw [rd_of_regs hk.regs, rd_groupPut, weight_enableWord weight hw]
  have hregs := (sameRegs_groupPut g (enableWord weight) s.m).trans (.of_eq hk.regs)
  have hmem : SameMemory s.m (s.m.groupPut g (enableWord weight)) := .of_eq rfl rfl
  generalize (s.m.groupPut g (enableWord weight)).groupFresh g = t at ht hk hqueues hdeficit hflag hweight hregs
  exact answers_command rfl (by simp [Wf.groupEnable, hi, hg, hw]) (s.m.serving_iff.mp hs).1 ht
    ⟨hflag, hweight, hdeficit, hqueues, hk.outs, hmem.trans hk.memory, hregs.cmds _⟩

end

end Sys2Proof.Machine
end

section
/-!
PROOF. Units, privileged queues, cores and the control store by register (R126 to R129, R138, R139, R147, R150, R151), and
O52.
-/

namespace Sys2Proof.Machine

section
variable {m t : Mod} {i : Init} {v : Word}

/-! ### HAT_UCMD (R126 to R128) -/

/-- A write of HAT_UCMD does what OP asks of the unit that HAT_USEL names. -/
theorem ucmdWrite_eq (hs : m.serving = true) (ht : m.ucmd (fget Fields.HAT_UCMD.OP v) = t) (hj : t.journalOn = false) :
    m.busWrite i Reg.HAT_UCMD v = t := by
  have hb : Reg.HAT_UCMD / 0x100000 = 2 := by decide
  have hp : pairLows.contains RegName.HAT_UCMD = false := by decide
  refine Mod.busWrite_accepted hs (by decide) (by decide) regAt_HAT_UCMD ?_ hj
  simp only [Wr.act, hp, hb, Wr.hatch, Wr.g, ht, Bool.false_eq_true, if_false]

section
variable {c u : Nat} (hc : c = m.rd Reg.HAT_USEL Fields.HAT_USEL.CLASS) (hu : u = m.rd Reg.HAT_USEL Fields.HAT_USEL.INDEX)
include hc hu

theorem ucmd_absent {op : Nat} (ho : op ≠ 0) (he : unitExists c u = false) :
    m.ucmd op = m.mark Reg.HAT_ERR Fields.HAT_ERR.UCMD_REFUSED := by
  subst hc hu
  simp only [Mod.ucmd, ho, he, if_false, Bool.not_false, if_true]

theorem ucmd_off (he : unitExists c u = true) : m.ucmd 1 = m.unitOff c u := by
  subst hc hu
  simp [Mod.ucmd, he]

theorem ucmd_flush (he : unitExists c u = true) : m.ucmd 2 = (m.unitOff c u).unitFlush c u := by
  subst hc hu
  simp [Mod.ucmd, he]

theorem ucmd_on (he : unitExists c u = true) : m.ucmd 3 = m.unitOn c u := by
  subst hc hu
  simp [Mod.ucmd, he]

end

theorem silent_setUnitDisabled (c u : Nat) (b : Bool) (m : Mod) : Silent m (m.setUnitDisabled c u b) := ⟨rfl, rfl, rfl, rfl⟩

@[simp] theorem unitDisabled_setUnitDisabled (c u : Nat) (b : Bool) (m : Mod) :
    (m.setUnitDisabled c u b).unitDisabled c u = b := SMap.get_set_self _ _ _ _

@[simp] theorem inMchk_setMchk (source index : Nat) (b : Bool) (m : Mod) :
    (m.setMchk source index b).inMchk source index = b := SMap.get_set_self _ _ _ _

/-- A unit that is neither a sequencer nor a site core finishes what it does. -/
theorem unitOff_finishes {c : Nat} (u : Nat) (m : Mod) (h1 : c ≠ 1) (h8 : c ≠ 8) :
    m.unitOff c u = m.setUnitDisabled c u true := by
  unfold Mod.unitOff
  split
  · exact absurd rfl h1
  · exact absurd rfl h8
  · rfl

/-- A sequencer's own burst is stopped. -/
theorem unitOff_seq {u : Nat} (hm : (m.seq u).mirror = false) :
    m.unitOff 1 u = (m.setUnitDisabled 1 u true).stopSeq u stUNIT_DISABLED := by
  have hm' : ((m.setUnitDisabled 1 u true).seq u).mirror = false := hm
  simp only [Mod.unitOff, hm', Bool.not_false, Mod.when_true]

theorem atOnce_self (m : Mod) : m.atOnce m = m := by
  refine Mod.each_keeps m (· = m) _ _ (fun c _ x hx => ?_) rfl
  subst hx
  exact if_neg (by simp)

/-- Without queues there is nothing to flush. -/
theorem unitFlush_empty (c u : Nat) (h : m.queues = []) : m.unitFlush c u = m := by
  have he (p : Nat → Entry → Bool) : m.flushEntries p = m := by simp [Mod.flushEntries, h]
  have hd (p : Nat → Desc → Bool) : m.flushDescs p = m := by simp [Mod.flushDescs, h]
  rw [Mod.unitFlush, he, hd, atOnce_self]

theorem answers_unitDisable (s : State) (init : Init) (c u : Nat) (hs : s.m.serving = true) (hj : s.m.journalOn = false)
    (hi : init.wf = true) (hc : c = s.m.rd Reg.HAT_USEL Fields.HAT_USEL.CLASS)
    (hu : u = s.m.rd Reg.HAT_USEL Fields.HAT_USEL.INDEX) (he : unitExists c u = true) (h1 : c ≠ 1) (h8 : c ≠ 8) :
    Answers (.unitDisable init) s (fun t => t.unitDisabled c u = true ∧ t.queues = s.m.queues ∧ t.outs = s.m.outs ∧
      SameMemory s.m t ∧ SameRegs [] s.m t) := by
  have hk := silent_setUnitDisabled c u true s.m
  have ht : s.m.busWrite init Reg.HAT_UCMD 1#32 = s.m.setUnitDisabled c u true :=
    ucmdWrite_eq hs ((ucmd_off hc hu he).trans (unitOff_finishes u s.m h1 h8)) (hk.journalOn.trans hj)
  exact answers_command rfl hi (s.m.serving_iff.mp hs).1 ht ⟨unitDisabled_setUnitDisabled c u true s.m, rfl, hk.frame _⟩

/-- The burst of a sequencer that is disabled stops with UNIT_DISABLED. -/
theorem answers_unitDisable_seq (s : State) (init : Init) (u : Nat) (hs : s.m.serving = true) (hj : s.m.journalOn = false)
    (hi : init.wf = true) (hc : s.m.rd Reg.HAT_USEL Fields.HAT_USEL.CLASS = 1)
    (hu : u = s.m.rd Reg.HAT_USEL Fields.HAT_USEL.INDEX) (he : unitExists 1 u = true) (hm : (s.m.seq u).mirror = false)
    (hl : (s.m.seq u).live = true) (hend : (s.m.seq u).ended = false) (hp : (s.m.seq u).post = none)
    (hr : (s.m.seq u).request = none) :
    Answers (.unitDisable init) s (fun t => t.unitDisabled 1 u = true ∧
      t.seq u = { s.m.seq u with request := some stUNIT_DISABLED, reqRank := stopRank stUNIT_DISABLED } ∧
      t.outs = s.m.outs ∧ SameMemory s.m t ∧ SameRegs [] s.m t) := by
  have hk := silent_setUnitDisabled 1 u true s.m
  have hoff := offOnly_stopSeq u stUNIT_DISABLED (s.m.setUnitDisabled 1 u true)
  have hmem := hk.memory.trans (seqsOnly_stopSeq u stUNIT_DISABLED (s.m.setUnitDisabled 1 u true)).memory
  have hseq := seq_stopSeq_self u stUNIT_DISABLED (s.m.setUnitDisabled 1 u true) hl hend hp hr
  have ht : s.m.busWrite init Reg.HAT_UCMD 1#32 = (s.m.setUnitDisabled 1 u true).stopSeq u stUNIT_DISABLED :=
    ucmdWrite_eq hs ((ucmd_off hc.symm hu he).trans (unitOff_seq hm))
      ((journalOn_of_regs hoff.regs).trans (hk.journalOn.trans hj))
  generalize (s.m.setUnitDisabled 1 u true).stopSeq u stUNIT_DISABLED = t at ht hoff hmem hseq
  have hdis : t.unitDisabled 1 u = true := by
    rw [Mod.unitDisabled, hoff.hat]
    exact unitDisabled_setUnitDisabled 1 u true s.m
  exact answers_command rfl hi (s.m.serving_iff.mp hs).1 ht
    ⟨hdis, hseq, hoff.outs, hmem, .of_eq (hoff.regs.trans hk.regs)⟩

/-- A unit that does not exist is refused. -/
theorem answers_unitDisable_absent (s : State) (init : Init) (c u : Nat) (hs : s.m.serving = true)
    (hj : s.m.journalOn = false) (hi : init.wf = true) (hc : c = s.m.rd Reg.HAT_USEL Fields.HAT_USEL.CLASS)
    (hu : u = s.m.rd Reg.HAT_USEL Fields.HAT_USEL.INDEX) (he : unitExists c u = false) :
    Answers (.unitDisable init) s (fun t => t.flag Reg.HAT_ERR Fields.HAT_ERR.UCMD_REFUSED = true ∧ t.hat = s.m.hat ∧
      t.outs = s.m.outs ∧ SameMemory s.m t ∧ SameRegs [Reg.HAT_ERR] s.m t) := by
  have hquiet : (s.m.mark Reg.HAT_ERR Fields.HAT_ERR.UCMD_REFUSED).journalOn = false :=
    (Mod.journalOn_setReg s.m _ _ (by decide)).trans hj
  have ht : s.m.busWrite init Reg.HAT_UCMD 1#32 = s.m.mark Reg.HAT_ERR Fields.HAT_ERR.UCMD_REFUSED :=
    ucmdWrite_eq hs (ucmd_absent hc hu (by decide) he) hquiet
  exact answers_command rfl hi (s.m.serving_iff.mp hs).1 ht
    ⟨Mod.flag_mark_self s.m _ _ (by decide) rfl, rfl, rfl, .of_eq rfl rfl,
      ((SameRegs.refl _ s.m).wr _ _ _ List.mem_cons_self :)⟩

theorem answers_unitDisableFlush (s : State) (init : Init) (c u : Nat) (hs : s.m.serving = true)
    (hj : s.m.journalOn = false) (hi : init.wf = true) (hc : c = s.m.rd Reg.HAT_USEL Fields.HAT_USEL.CLASS)
    (hu : u = s.m.rd Reg.HAT_USEL Fields.HAT_USEL.INDEX) (he : unitExists c u = true) (h1 : c ≠ 1) (h8 : c ≠ 8)
    (hq : s.m.queues = []) :
    Answers (.unitDisableFlush init) s (fun t => t.unitDisabled c u = true ∧ t.outs = s.m.outs ∧ SameMemory s.m t ∧
      SameRegs [] s.m t) := by
  have hk := silent_setUnitDisabled c u true s.m
  have hcmd : s.m.ucmd 2 = s.m.setUnitDisabled c u true := by
    rw [ucmd_flush hc hu he, unitOff_finishes u s.m h1 h8, unitFlush_empty (m := s.m.setUnitDisabled c u true) c u hq]
  have ht : s.m.busWrite init Reg.HAT_UCMD 2#32 = s.m.setUnitDisabled c u true :=
    ucmdWrite_eq hs hcmd (hk.journalOn.trans hj)
  exact answers_command rfl hi (s.m.serving_iff.mp hs).1 ht ⟨unitDisabled_setUnitDisabled c u true s.m, hk.frame _⟩

theorem answers_unitEnable (s : State) (init : Init) (c u : Nat) (hs : s.m.serving = true) (hj : s.m.journalOn = false)
    (hi : init.wf = true) (hc : c = s.m.rd Reg.HAT_USEL Fields.HAT_USEL.CLASS)
    (hu : u = s.m.rd Reg.HAT_USEL Fields.HAT_USEL.INDEX) (he : unitExists c u = true) :
    Answers (.unitEnable init) s (fun t => t.unitDisabled c u = false ∧
      t.inMchk (mchkUnit c u).1 (mchkUnit c u).2 = false ∧ t.queues = s.m.queues ∧ t.outs = s.m.outs ∧ SameMemory s.m t ∧
      SameRegs [] s.m t) := by
  have hk : Silent s.m (s.m.unitOn c u) := ⟨rfl, rfl, rfl, rfl⟩
  have ht : s.m.busWrite init Reg.HAT_UCMD 3#32 = s.m.unitOn c u :=
    ucmdWrite_eq hs (ucmd_on hc hu he) (hk.journalOn.trans hj)
  exact answers_command rfl hi (s.m.serving_iff.mp hs).1 ht
    ⟨unitDisabled_setUnitDisabled c u false s.m, inMchk_setMchk _ _ false _, rfl, hk.frame _⟩

/-! ### HAT_Qn_CFG (R129) -/

/-- The row of HAT_Qn_CFG in the register table (Table 5.17). -/
def queueCfgDesc : RegDesc := ⟨.HAT_Q_CFG, 0x204000, [(0x4, 4096)], 0#32, 0x7FF#32, 0#32, 0#32, 0#32⟩

/-- PRIV_SET writes PRIV with the other RW fields as they stand. -/
def Mod.privWord (q : Nat) (m : Mod) : Word := fput Fields.HAT_Q_CFG.PRIV 1 (m.reg (Reg.HAT_Q_CFG q) &&& queueCfgDesc.rw)

section
variable {q : Nat} (hq : q < 4096)
include hq

theorem act_queueCfg : Wr.act ⟨i, Reg.HAT_Q_CFG q, queueCfgDesc, [q], v⟩ m =
    Wr.queueCfg ⟨i, Reg.HAT_Q_CFG q, queueCfgDesc, [q], v⟩ m := by
  have hb : Reg.HAT_Q_CFG q / 0x100000 = 2 := by unfold Reg.HAT_Q_CFG; omega
  have hp : pairLows.contains RegName.HAT_Q_CFG = false := by decide
  simp only [Wr.act, queueCfgDesc, hp, hb, Wr.hatch, Bool.false_eq_true, if_false]

/-- A queue without entries, while fewer than 128 queues are privileged, takes PRIV. -/
theorem privSet_put (hs : m.serving = true) (hj : m.journalOn = false) (hh : m.queueHolds q = false)
    (hn : m.privCount < 128) : m.fieldWrite i (Reg.HAT_Q_CFG q) Fields.HAT_Q_CFG.PRIV 1 =
      m.regPut queueCfgDesc (Reg.HAT_Q_CFG q) (m.privWord q) := by
  have hquiet : (m.regPut queueCfgDesc (Reg.HAT_Q_CFG q) (m.privWord q)).journalOn = false :=
    (journalOn_regPut _ _ _ m (by unfold Reg.HAT_Q_CFG Reg.SL_STATUS; omega)).trans hj
  rw [m.fieldWrite_eq i _ _ _ _ _ (regAt_HAT_Q_CFG q hq)]
  refine Mod.busWrite_accepted (d := queueCfgDesc) hs (by unfold Reg.HAT_Q_CFG; omega) (by unfold Reg.HAT_Q_CFG; omega)
    (regAt_HAT_Q_CFG q hq) ?_ hquiet
  rw [act_queueCfg hq, Wr.queueCfg]
  simp only [Wr.i, List.getD_cons_zero, hh, Nat.not_le.mpr hn, Bool.and_false, decide_false, Bool.false_eq_true, if_false]
  rfl

/-- A 129th privileged queue is discarded. -/
theorem privSet_limit (hs : m.serving = true)
    (hf : m.flag (Reg.HAT_Q_CFG q) Fields.HAT_Q_CFG.PRIV = false) (hh : m.queueHolds q = false) (hn : 128 ≤ m.privCount) :
    m.fieldWrite i (Reg.HAT_Q_CFG q) Fields.HAT_Q_CFG.PRIV 1 = m.mark Reg.HAT_ERR Fields.HAT_ERR.PRIV_LIMIT := by
  obtain ⟨hhalt, hl, hopen⟩ := m.serving_iff.mp hs
  have ho : Reg.HAT_Q_CFG q < 0x1000000 := by unfold Reg.HAT_Q_CFG; omega
  have hpriv : fget Fields.HAT_Q_CFG.PRIV (m.privWord q) = 1 := fget_fput _ _ _ (by decide)
  rw [m.fieldWrite_eq i _ _ _ _ _ (regAt_HAT_Q_CFG q hq)]
  refine m.busWrite_refused i _ _ queueCfgDesc [q] _ hl hhalt (inDoorbells_blocks ho) (by unfold Reg.HAT_Q_CFG; omega)
    (inBlocks_blocks ho) (inMsix_of_regAt (regAt_HAT_Q_CFG q hq)) (regAt_HAT_Q_CFG q hq) (m.writeOpen_open i _ hopen) ?_
  rw [act_queueCfg hq, Wr.queueCfg, ← queueCfgDesc, ← Mod.privWord]
  simp only [Wr.i, List.getD_cons_zero, hh, hn, hf, Wr.b, Wr.g, hpriv, Bool.and_false, decide_true, Bool.false_eq_true,
    if_false]
  rfl

end

theorem answers_privSet (s : State) (init : Init) (q : Nat) (hs : s.m.serving = true) (hj : s.m.journalOn = false)
    (hi : init.wf = true) (hq : q < 4096) (hh : s.m.queueHolds q = false) (hn : s.m.privCount < 128) :
    Answers (.privSet init q) s (fun t => t.flag (Reg.HAT_Q_CFG q) Fields.HAT_Q_CFG.PRIV = true ∧
      t.rd (Reg.HAT_Q_CFG q) Fields.HAT_Q_CFG.PRIO = s.m.rd (Reg.HAT_Q_CFG q) Fields.HAT_Q_CFG.PRIO ∧
      t.outs = s.m.outs ∧ SameMemory s.m t ∧ SameRegs [Reg.HAT_Q_CFG q] s.m t) := by
  have ht := privSet_put (i := init) hq hs hj hh hn
  have hpriv := flag_regPut queueCfgDesc (Reg.HAT_Q_CFG q) (s.m.privWord q) s.m Fields.HAT_Q_CFG.PRIV rfl (by decide)
  rw [Mod.privWord, fget_fput _ _ _ (by decide)] at hpriv
  have hprio := rd_regPut queueCfgDesc (Reg.HAT_Q_CFG q) (s.m.privWord q) s.m Fields.HAT_Q_CFG.PRIO rfl (by decide)
  rw [Mod.privWord, fget_fput_ne _ _ _ _ (by decide), fget_and_rw _ _ _ (by decide)] at hprio
  have hmem := sameMemory_regPut queueCfgDesc (Reg.HAT_Q_CFG q) (s.m.privWord q) s.m
  have hregs := sameRegs_regPut queueCfgDesc (Reg.HAT_Q_CFG q) (s.m.privWord q) s.m
  exact answers_command rfl (by simp [Wf.privSet, hi, hq]) (s.m.serving_iff.mp hs).1 ht
    ⟨hpriv, hprio, rfl, hmem, hregs⟩

theorem answers_privSet_limit (s : State) (init : Init) (q : Nat) (hs : s.m.serving = true) (_ : s.m.journalOn = false)
    (hi : init.wf = true) (hq : q < 4096) (hf : s.m.flag (Reg.HAT_Q_CFG q) Fields.HAT_Q_CFG.PRIV = false)
    (hh : s.m.queueHolds q = false) (hn : 128 ≤ s.m.privCount) :
    Answers (.privSet init q) s (fun t => t.flag Reg.HAT_ERR Fields.HAT_ERR.PRIV_LIMIT = true ∧
      t.reg (Reg.HAT_Q_CFG q) = s.m.reg (Reg.HAT_Q_CFG q) ∧ t.outs = s.m.outs ∧ SameMemory s.m t ∧
      SameRegs [Reg.HAT_ERR] s.m t) := by
  have hne : Reg.HAT_Q_CFG q ≠ Reg.HAT_ERR := by unfold Reg.HAT_Q_CFG Reg.HAT_ERR; omega
  exact answers_command rfl (by simp [Wf.privSet, hi, hq]) (s.m.serving_iff.mp hs).1 (privSet_limit hq hs hf hh hn)
    ⟨Mod.flag_mark_self s.m _ _ (by decide) rfl, Mod.reg_mark_ne s.m _ _ _ hne, rfl, .of_eq rfl rfl,
      ((SameRegs.refl _ s.m).wr _ _ _ List.mem_cons_self :)⟩

/-! ### MCS_SCOREn_CTRL (R138, R139) -/

/-- The row of MCS_SCOREn_CTRL in the register table (Table 6.15). -/
def scoreCtrlDesc : RegDesc := ⟨.MCS_SCORE_CTRL, 0x300100, [(0x8, 16)], 0#32, 3#32, 0#32, 0#32, 0#32⟩

/-- A site core in reset. -/
def Mod.scoreHeld (n : Nat) (x : SCore) (m : Mod) : Mod := (m.setScore n { x with booted := false }).setHart n Hart.fresh

/-- A core without a step, running or suspended, takes HOLD as written. -/
theorem scoreWrite_eq {n : Nat} (hn : n < 16) (hs : m.serving = true) (hstep : (m.score n).step = none)
    (hsusp : (m.score n).susp = [])
    (ht : (m.regPut scoreCtrlDesc (Reg.MCS_SCORE_CTRL n) v).when (fget Fields.MCS_SCORE_CTRL.HOLD v != 0)
      (Mod.scoreHeld n (m.score n)) = t) (hj : t.journalOn = false) : m.busWrite i (Reg.MCS_SCORE_CTRL n) v = t := by
  have hb : Reg.MCS_SCORE_CTRL n / 0x100000 = 3 := by unfold Reg.MCS_SCORE_CTRL; omega
  have hp : pairLows.contains RegName.MCS_SCORE_CTRL = false := by decide
  have hidle : ((m.score n).step.isSome || !(m.score n).susp.isEmpty) = false := by simp [hstep, hsusp]
  refine Mod.busWrite_accepted (d := scoreCtrlDesc) hs (by unfold Reg.MCS_SCORE_CTRL; omega)
    (by unfold Reg.MCS_SCORE_CTRL; omega) (regAt_MCS_SCORE_CTRL n hn) ?_ hj
  simp only [Wr.act, scoreCtrlDesc, hp, hb, Wr.cores, Wr.scoreCtrl, Wr.i, List.getD_cons_zero, hidle, Bool.and_false,
    Bool.false_eq_true, if_false]
  exact congrArg _ ht

theorem scoreCtrl_ne (n : Nat) (hn : n < 16) : Reg.MCS_SCORE_CTRL n ≠ Reg.SL_STATUS := by
  unfold Reg.MCS_SCORE_CTRL Reg.SL_STATUS
  omega

/-- SCORE_HOLD writes HOLD with GO as it stands. -/
def Mod.scoreHoldWord (n : Nat) (m : Mod) : Word :=
  fput Fields.MCS_SCORE_CTRL.HOLD 1 (m.reg (Reg.MCS_SCORE_CTRL n) &&& scoreCtrlDesc.rw)

theorem hold_scoreHoldWord (n : Nat) (m : Mod) : fget Fields.MCS_SCORE_CTRL.HOLD (m.scoreHoldWord n) = 1 :=
  fget_fput _ _ _ (by decide)

theorem answers_scoreHold (s : State) (init : Init) (n : Nat) (hs : s.m.serving = true) (hj : s.m.journalOn = false)
    (hi : init.wf = true) (hn : n < 16) (hstep : (s.m.score n).step = none) (hsusp : (s.m.score n).susp = []) :
    Answers (.scoreHold init n) s (fun t => t.flag (Reg.MCS_SCORE_CTRL n) Fields.MCS_SCORE_CTRL.HOLD = true ∧
      (t.score n).booted = false ∧ t.outs = s.m.outs ∧ SameMemory s.m t ∧ SameRegs [Reg.MCS_SCORE_CTRL n] s.m t) := by
  have hput := sameRegs_regPut scoreCtrlDesc (Reg.MCS_SCORE_CTRL n) (s.m.scoreHoldWord n) s.m
  have hflag := flag_regPut scoreCtrlDesc (Reg.MCS_SCORE_CTRL n) (s.m.scoreHoldWord n) s.m Fields.MCS_SCORE_CTRL.HOLD rfl
    (by decide)
  have hquiet := (journalOn_regPut scoreCtrlDesc _ (s.m.scoreHoldWord n) s.m (scoreCtrl_ne n hn)).trans hj
  have ht := scoreWrite_eq (i := init) (v := s.m.scoreHoldWord n)
    (t := Mod.scoreHeld n (s.m.score n) (s.m.regPut scoreCtrlDesc (Reg.MCS_SCORE_CTRL n) (s.m.scoreHoldWord n)))
    hn hs hstep hsusp (by rw [hold_scoreHoldWord]; rfl) hquiet
  rw [hold_scoreHoldWord] at hflag
  have hbooted : ((Mod.scoreHeld n (s.m.score n) (s.m.regPut scoreCtrlDesc (Reg.MCS_SCORE_CTRL n)
      (s.m.scoreHoldWord n))).score n).booted = false := congrArg SCore.booted (Mod.score_setScore_self _ n _)
  have hf := (s.m.fieldWrite_eq init _ Fields.MCS_SCORE_CTRL.HOLD 1 _ _ (regAt_MCS_SCORE_CTRL n hn)).trans ht
  exact answers_command rfl (by simp [Wf.scoreHold, hi, hn]) (s.m.serving_iff.mp hs).1 hf
    ⟨hflag, hbooted, rfl, .of_eq rfl rfl, hput⟩

/-- SCORE_GO writes GO with HOLD 0. -/
def scoreGoWord : Word := fput Fields.MCS_SCORE_CTRL.GO 1 0#32

theorem answers_scoreGo (s : State) (init : Init) (n : Nat) (hs : s.m.serving = true) (hj : s.m.journalOn = false)
    (hi : init.wf = true) (hn : n < 16) (hstep : (s.m.score n).step = none) (hsusp : (s.m.score n).susp = []) :
    Answers (.scoreGo init n) s (fun t => t.flag (Reg.MCS_SCORE_CTRL n) Fields.MCS_SCORE_CTRL.HOLD = false ∧
      t.flag (Reg.MCS_SCORE_CTRL n) Fields.MCS_SCORE_CTRL.GO = true ∧ t.scores = s.m.scores ∧ t.outs = s.m.outs ∧
      SameMemory s.m t ∧ SameRegs [Reg.MCS_SCORE_CTRL n] s.m t) := by
  have hput := sameRegs_regPut scoreCtrlDesc (Reg.MCS_SCORE_CTRL n) scoreGoWord s.m
  have hhold := flag_regPut scoreCtrlDesc (Reg.MCS_SCORE_CTRL n) scoreGoWord s.m Fields.MCS_SCORE_CTRL.HOLD rfl (by decide)
  have hgo := flag_regPut scoreCtrlDesc (Reg.MCS_SCORE_CTRL n) scoreGoWord s.m Fields.MCS_SCORE_CTRL.GO rfl (by decide)
  have hquiet := (journalOn_regPut scoreCtrlDesc _ scoreGoWord s.m (scoreCtrl_ne n hn)).trans hj
  have ht := scoreWrite_eq (i := init) (v := scoreGoWord) hn hs hstep hsusp rfl hquiet
  exact answers_command rfl (by simp [Wf.scoreGo, hi, hn]) (s.m.serving_iff.mp hs).1 ht
    ⟨hhold, hgo, rfl, rfl, .of_eq rfl rfl, hput⟩

/-! ### MCS_MCOREm_CTRL (R138, R147) -/

/-- The row of MCS_MCOREm_CTRL in the register table (Table 6.16). -/
def mcoreCtrlDesc : RegDesc := ⟨.MCS_MCORE_CTRL, 0x300200, [(0x8, 4)], 4#32, 7#32, 0#32, 8#32, 0#32⟩

/-- A management core in reset. -/
def Mod.mcoreHeld (n : Nat) (m : Mod) : Mod := (m.setMcoreRunning n false).setHart (16 + n) Hart.fresh

/-- A write that leaves WDOG_EN as it stands. -/
theorem mcoreWrite_eq {n : Nat} (hn : n < 4) (hs : m.serving = true)
    (hw : fget Fields.MCS_MCORE_CTRL.WDOG_EN v = m.rd (Reg.MCS_MCORE_CTRL n) Fields.MCS_MCORE_CTRL.WDOG_EN)
    (ht : (((m.regPut mcoreCtrlDesc (Reg.MCS_MCORE_CTRL n) v).when (fget Fields.MCS_MCORE_CTRL.HOLD v != 0)
        (Mod.mcoreHeld n)).when (m.flag (Reg.MCS_MCORE_CTRL n) Fields.MCS_MCORE_CTRL.HOLD &&
          !(fget Fields.MCS_MCORE_CTRL.HOLD v != 0)) (Mod.setMchk srcMCS (16 + n) false)).when
      (fget Fields.MCS_MCORE_CTRL.KICK v != 0) (Mod.kick n) = t) (hj : t.journalOn = false) :
    m.busWrite i (Reg.MCS_MCORE_CTRL n) v = t := by
  have hb : Reg.MCS_MCORE_CTRL n / 0x100000 = 3 := by unfold Reg.MCS_MCORE_CTRL; omega
  have hp : pairLows.contains RegName.MCS_MCORE_CTRL = false := by decide
  refine Mod.busWrite_accepted (d := mcoreCtrlDesc) hs (by unfold Reg.MCS_MCORE_CTRL; omega)
    (by unfold Reg.MCS_MCORE_CTRL; omega) (regAt_MCS_MCORE_CTRL n hn) ?_ hj
  simp only [Wr.act, mcoreCtrlDesc, hp, hb, Wr.cores, Wr.mcoreCtrl, Wr.i, List.getD_cons_zero, Wr.b, Wr.g, hw, Mod.flag,
    Bool.and_not_self, Bool.false_or, Bool.false_eq_true, if_false]
  exact congrArg _ ht

theorem mcoreCtrl_ne (n : Nat) (hn : n < 4) : Reg.MCS_MCORE_CTRL n ≠ Reg.SL_STATUS := by
  unfold Reg.MCS_MCORE_CTRL Reg.SL_STATUS
  omega

theorem sameRegs_mcoreHeld (n : Nat) (m : Mod) : SameRegs [Reg.MCS_MCORE_STATUS n] m (m.mcoreHeld n) :=
  ((SameRegs.refl _ m).wr _ _ _ List.mem_cons_self :)

theorem journalOn_mcoreHeld {n : Nat} (hn : n < 4) (m : Mod) : (m.mcoreHeld n).journalOn = m.journalOn :=
  Mod.journalOn_setReg m _ _ (by unfold Reg.MCS_MCORE_STATUS Reg.SL_STATUS; omega)

/-- A field write of MCS_MCOREm_CTRL keeps the RW bits of the other fields. -/
def Mod.mcoreWord (n : Nat) (f : Fld) (m : Mod) : Word := fput f 1 (m.reg (Reg.MCS_MCORE_CTRL n) &&& mcoreCtrlDesc.rw)

theorem fget_mcoreWord_ne (n : Nat) (f g : Fld) (m : Mod) (h : f.lo + f.width ≤ g.lo ∨ g.lo + g.width ≤ f.lo)
    (hrw : ∀ k < f.width, mcoreCtrlDesc.rw.getLsbD (f.lo + k) = true) :
    fget f (m.mcoreWord n g) = m.rd (Reg.MCS_MCORE_CTRL n) f := by
  rw [Mod.mcoreWord, fget_fput_ne _ _ _ _ h, fget_and_rw _ _ _ hrw, Mod.rd]

/-- The other bits of the mask stay where a field apart from it is put. -/
theorem fput_and_apart (f : Fld) (n : Nat) (old mask : Word) (h : ∀ k, f.lo ≤ k → k < f.lo + f.width → mask.getLsbD k = false) :
    fput f n (old &&& mask) &&& mask = old &&& mask := by
  apply BitVec.eq_of_getLsbD_eq
  intro k hk
  rw [BitVec.getLsbD_and, getLsbD_fput, BitVec.getLsbD_and]
  by_cases hf : f.lo ≤ k ∧ k < f.lo + f.width
  · simp [h k hf.1 hf.2]
  · simp [hk, hf]

theorem kick_apart (k : Nat) (hlo : Fields.MCS_MCORE_CTRL.KICK.lo ≤ k)
    (hhi : k < Fields.MCS_MCORE_CTRL.KICK.lo + Fields.MCS_MCORE_CTRL.KICK.width) : mcoreCtrlDesc.rw.getLsbD k = false := by
  simp only [Fields.MCS_MCORE_CTRL.KICK] at hlo hhi
  obtain rfl : k = 3 := by omega
  rfl

/-- KICK is not stored: a write of it leaves the register as it is. -/
theorem sameRegs_regPut_kick (n : Nat) (m : Mod) :
    SameRegs [] m (m.regPut mcoreCtrlDesc (Reg.MCS_MCORE_CTRL n) (m.mcoreWord n Fields.MCS_MCORE_CTRL.KICK)) := by
  intro o _
  by_cases ho : o = Reg.MCS_MCORE_CTRL n
  · subst ho
    rw [Mod.regPut, Mod.reg_setReg_self, Mod.mcoreWord,
      RegDesc.after_kept _ _ _ rfl (fput_and_apart _ _ _ _ kick_apart)]
  · rw [Mod.regPut, Mod.reg_setReg_ne _ _ _ _ ho]

/-- A core that KICK finds on hold stays in reset. -/
def Mod.kickStored (n : Nat) (m : Mod) : Mod :=
  (m.regPut mcoreCtrlDesc (Reg.MCS_MCORE_CTRL n) (m.mcoreWord n Fields.MCS_MCORE_CTRL.KICK)).when
    (m.rd (Reg.MCS_MCORE_CTRL n) Fields.MCS_MCORE_CTRL.HOLD != 0) (Mod.mcoreHeld n)

section
variable (n : Nat) (m : Mod)

theorem sameRegs_kickStored : SameRegs [Reg.MCS_MCORE_STATUS n] m (m.kickStored n) := by
  have hput := (sameRegs_regPut_kick n m).mono (l' := [Reg.MCS_MCORE_STATUS n]) (by simp)
  unfold Mod.kickStored Mod.when
  split
  · exact hput.trans (sameRegs_mcoreHeld n _)
  · exact hput

theorem outs_kickStored : (m.kickStored n).outs = m.outs := by
  unfold Mod.kickStored Mod.when
  split <;> rfl

theorem sameMemory_kickStored : SameMemory m (m.kickStored n) := by
  unfold Mod.kickStored Mod.when
  split <;> exact .of_eq rfl rfl

theorem ttime_kickStored (hn : n < 4) : (m.kickStored n).ttime = m.ttime := by
  have hlo := sameRegs_kickStored n m Reg.TIME_TTIME_LO (by unfold Reg.TIME_TTIME_LO Reg.MCS_MCORE_STATUS; simp; omega)
  have hhi := sameRegs_kickStored n m (Reg.TIME_TTIME_LO + 4) (by unfold Reg.TIME_TTIME_LO Reg.MCS_MCORE_STATUS; simp; omega)
  rw [Mod.ttime, Mod.ttime, Mod.rd64, Mod.rd64, hlo, hhi]

theorem journalOn_kickStored (hn : n < 4) : (m.kickStored n).journalOn = m.journalOn := by
  have hsl := sameRegs_kickStored n m Reg.SL_STATUS (by unfold Reg.SL_STATUS Reg.MCS_MCORE_STATUS; simp; omega)
  rw [Mod.journalOn, Mod.journalOn, Mod.rd, Mod.rd, hsl]

end

theorem answers_kick (s : State) (init : Init) (n : Nat) (hs : s.m.serving = true) (hj : s.m.journalOn = false)
    (hi : init.wf = true) (hn : n < 4) :
    Answers (.kick init n) s (fun t => (t.mcore n).kickAt = s.m.ttime ∧ t.outs = s.m.outs ∧ SameMemory s.m t ∧
      SameRegs [Reg.MCS_MCORE_STATUS n] s.m t) := by
  have hregs := sameRegs_kickStored n s.m
  have houts := outs_kickStored n s.m
  have hmem := sameMemory_kickStored n s.m
  have htime := ttime_kickStored n s.m hn
  have hquiet := (journalOn_kickStored n s.m hn).trans hj
  have hhold := fget_mcoreWord_ne n Fields.MCS_MCORE_CTRL.HOLD Fields.MCS_MCORE_CTRL.KICK s.m (by decide) (by decide)
  have hwdog := fget_mcoreWord_ne n Fields.MCS_MCORE_CTRL.WDOG_EN Fields.MCS_MCORE_CTRL.KICK s.m (by decide) (by decide)
  have hkick : fget Fields.MCS_MCORE_CTRL.KICK (s.m.mcoreWord n Fields.MCS_MCORE_CTRL.KICK) = 1 := fget_fput _ _ _ (by decide)
  have hw : s.m.busWrite init (Reg.MCS_MCORE_CTRL n) (s.m.mcoreWord n Fields.MCS_MCORE_CTRL.KICK) =
      (s.m.kickStored n).kick n := by
    refine mcoreWrite_eq hn hs hwdog ?_ hquiet
    rw [hhold, hkick, Mod.flag, Bool.and_not_self, Mod.when_false]
    rfl
  have ht := (s.m.fieldWrite_eq init _ Fields.MCS_MCORE_CTRL.KICK 1 _ _ (regAt_MCS_MCORE_CTRL n hn)).trans hw
  generalize s.m.kickStored n = t at ht hregs houts hmem htime
  have hat : ((t.kick n).mcore n).kickAt = s.m.ttime := by rw [Mod.kick, Mod.mcore_setMcore_self, htime]
  exact answers_command rfl (by simp [Wf.kick, hi, hn]) (s.m.serving_iff.mp hs).1 ht ⟨hat, houts, hmem, hregs⟩

/-- HOLD is written with GO and WDOG_EN as they stand. -/
def Mod.holdStored (n : Nat) (m : Mod) : Mod :=
  m.regPut mcoreCtrlDesc (Reg.MCS_MCORE_CTRL n) (m.mcoreWord n Fields.MCS_MCORE_CTRL.HOLD)

theorem hold_mcoreWord (n : Nat) (m : Mod) :
    fget Fields.MCS_MCORE_CTRL.HOLD (m.mcoreWord n Fields.MCS_MCORE_CTRL.HOLD) = 1 := fget_fput _ _ _ (by decide)

theorem kick_mcoreWord (n : Nat) (m : Mod) :
    fget Fields.MCS_MCORE_CTRL.KICK (m.mcoreWord n Fields.MCS_MCORE_CTRL.HOLD) = 0 := by
  rw [Mod.mcoreWord, fget_fput_ne _ _ _ _ (by decide), fget_and_apart _ _ _ (by decide)]

/-- A core that is held is in reset. -/
theorem mcoreHold_eq {n : Nat} (hn : n < 4) (hs : m.serving = true) (hj : m.journalOn = false) :
    m.fieldWrite i (Reg.MCS_MCORE_CTRL n) Fields.MCS_MCORE_CTRL.HOLD 1 = (m.holdStored n).mcoreHeld n := by
  have hwdog := fget_mcoreWord_ne n Fields.MCS_MCORE_CTRL.WDOG_EN Fields.MCS_MCORE_CTRL.HOLD m (by decide) (by decide)
  have hquiet : ((m.holdStored n).mcoreHeld n).journalOn = false :=
    (journalOn_mcoreHeld hn _).trans ((journalOn_regPut _ _ _ m (mcoreCtrl_ne n hn)).trans hj)
  rw [m.fieldWrite_eq i _ _ 1 _ _ (regAt_MCS_MCORE_CTRL n hn)]
  refine mcoreWrite_eq (v := m.mcoreWord n Fields.MCS_MCORE_CTRL.HOLD) hn hs hwdog ?_ hquiet
  rw [hold_mcoreWord, kick_mcoreWord]
  simp [Mod.holdStored]

theorem flag_holdStored (n : Nat) (m : Mod) :
    (m.holdStored n).flag (Reg.MCS_MCORE_CTRL n) Fields.MCS_MCORE_CTRL.HOLD = true := by
  rw [Mod.holdStored, flag_regPut _ _ _ _ _ rfl (by decide), hold_mcoreWord]
  rfl

/-- The reset of a core leaves its MCS_MCOREm_CTRL. -/
theorem hold_mcoreHeld (n : Nat) (m : Mod) : (m.mcoreHeld n).flag (Reg.MCS_MCORE_CTRL n) Fields.MCS_MCORE_CTRL.HOLD =
    m.flag (Reg.MCS_MCORE_CTRL n) Fields.MCS_MCORE_CTRL.HOLD := by
  have hreg := sameRegs_mcoreHeld n m (Reg.MCS_MCORE_CTRL n) (by unfold Reg.MCS_MCORE_CTRL Reg.MCS_MCORE_STATUS; simp)
  rw [Mod.flag, Mod.flag, Mod.rd, Mod.rd, hreg]

theorem answers_mcoreHold (s : State) (init : Init) (n : Nat) (hs : s.m.serving = true) (hj : s.m.journalOn = false)
    (hi : init.wf = true) (hn : n < 4) :
    Answers (.mcoreHold init n) s (fun t => t.flag (Reg.MCS_MCORE_CTRL n) Fields.MCS_MCORE_CTRL.HOLD = true ∧
      t.flag (Reg.MCS_MCORE_STATUS n) Fields.MCS_MCORE_STATUS.RUNNING = false ∧ t.outs = s.m.outs ∧ SameMemory s.m t ∧
      SameRegs [Reg.MCS_MCORE_CTRL n, Reg.MCS_MCORE_STATUS n] s.m t) := by
  have hput : SameRegs [Reg.MCS_MCORE_CTRL n, Reg.MCS_MCORE_STATUS n] s.m (s.m.holdStored n) :=
    (sameRegs_regPut _ _ _ s.m).mono (by simp)
  have hregs := hput.trans ((sameRegs_mcoreHeld n _).mono (by simp))
  have hflag := (hold_mcoreHeld n _).trans (flag_holdStored n s.m)
  have hrun : ((s.m.holdStored n).mcoreHeld n).flag (Reg.MCS_MCORE_STATUS n) Fields.MCS_MCORE_STATUS.RUNNING = false :=
    Mod.flag_wr_zero _ _ _ (by decide)
  exact answers_command rfl (by simp [Wf.mcoreHold, hi, hn]) (s.m.serving_iff.mp hs).1 (mcoreHold_eq hn hs hj)
    ⟨hflag, hrun, rfl, .of_eq rfl rfl, hregs⟩

/-- MCORE_GO writes GO with HOLD 0 and WDOG_EN as it stands. -/
def Mod.mcoreGoWord (n : Nat) (m : Mod) : Word := fput Fields.MCS_MCORE_CTRL.GO 1
  (fput Fields.MCS_MCORE_CTRL.WDOG_EN (m.rd (Reg.MCS_MCORE_CTRL n) Fields.MCS_MCORE_CTRL.WDOG_EN) 0#32)

section
variable (n : Nat) (m : Mod)

theorem go_mcoreGoWord : fget Fields.MCS_MCORE_CTRL.GO (m.mcoreGoWord n) = 1 := fget_fput _ _ _ (by decide)

theorem hold_mcoreGoWord : fget Fields.MCS_MCORE_CTRL.HOLD (m.mcoreGoWord n) = 0 :=
  (fget_fput_ne _ _ _ _ (by decide)).trans (fget_fput_zero _ _ _ (by decide))

theorem kick_mcoreGoWord : fget Fields.MCS_MCORE_CTRL.KICK (m.mcoreGoWord n) = 0 :=
  (fget_fput_ne _ _ _ _ (by decide)).trans (fget_fput_zero _ _ _ (by decide))

theorem wdog_mcoreGoWord : fget Fields.MCS_MCORE_CTRL.WDOG_EN (m.mcoreGoWord n) =
    m.rd (Reg.MCS_MCORE_CTRL n) Fields.MCS_MCORE_CTRL.WDOG_EN :=
  ((fget_fput_ne _ _ _ _ (by decide)).trans (fget_fput _ _ _ (by decide))).trans
    (Nat.mod_eq_of_lt (fget_lt Fields.MCS_MCORE_CTRL.WDOG_EN _))

end

/-- A management core is released, out of MCHK if it was on hold. -/
def Mod.mcoreReleased (n : Nat) (m : Mod) : Mod :=
  (m.regPut mcoreCtrlDesc (Reg.MCS_MCORE_CTRL n) (m.mcoreGoWord n)).when
    (m.flag (Reg.MCS_MCORE_CTRL n) Fields.MCS_MCORE_CTRL.HOLD) (Mod.setMchk srcMCS (16 + n) false)

theorem silent_mcoreReleased (n : Nat) (m : Mod) :
    Silent (m.regPut mcoreCtrlDesc (Reg.MCS_MCORE_CTRL n) (m.mcoreGoWord n)) (m.mcoreReleased n) := by
  unfold Mod.mcoreReleased Mod.when
  split <;> exact ⟨rfl, rfl, rfl, rfl⟩

theorem mcoreGo_eq {n : Nat} (hn : n < 4) (hs : m.serving = true) (hj : m.journalOn = false) :
    m.mcoreGo i n = m.mcoreReleased n := by
  have hquiet := (journalOn_regPut mcoreCtrlDesc (Reg.MCS_MCORE_CTRL n) (m.mcoreGoWord n) m (mcoreCtrl_ne n hn)).trans hj
  refine mcoreWrite_eq hn hs (wdog_mcoreGoWord n m) ?_ ((silent_mcoreReleased n m).journalOn.trans hquiet)
  rw [← Mod.mcoreGoWord, hold_mcoreGoWord, kick_mcoreGoWord]
  simp [Mod.mcoreReleased]

theorem answers_mcoreGo (s : State) (init : Init) (n : Nat) (hs : s.m.serving = true) (hj : s.m.journalOn = false)
    (hi : init.wf = true) (hn : n < 4) :
    Answers (.mcoreGo init n) s (fun t => t.flag (Reg.MCS_MCORE_CTRL n) Fields.MCS_MCORE_CTRL.HOLD = false ∧
      t.flag (Reg.MCS_MCORE_CTRL n) Fields.MCS_MCORE_CTRL.GO = true ∧
      t.flag (Reg.MCS_MCORE_CTRL n) Fields.MCS_MCORE_CTRL.WDOG_EN =
        s.m.flag (Reg.MCS_MCORE_CTRL n) Fields.MCS_MCORE_CTRL.WDOG_EN ∧
      (s.m.flag (Reg.MCS_MCORE_CTRL n) Fields.MCS_MCORE_CTRL.HOLD = true → t.inMchk srcMCS (16 + n) = false) ∧
      t.outs = s.m.outs ∧ SameMemory s.m t ∧ SameRegs [Reg.MCS_MCORE_CTRL n] s.m t) := by
  have hflag (f : Fld) (hrw : ∀ k < f.width, mcoreCtrlDesc.rw.getLsbD (f.lo + k) = true) :=
    flag_regPut mcoreCtrlDesc (Reg.MCS_MCORE_CTRL n) (s.m.mcoreGoWord n) s.m f rfl hrw
  have hput := sameRegs_regPut mcoreCtrlDesc (Reg.MCS_MCORE_CTRL n) (s.m.mcoreGoWord n) s.m
  have hmem := sameMemory_regPut mcoreCtrlDesc (Reg.MCS_MCORE_CTRL n) (s.m.mcoreGoWord n) s.m
  have hk := silent_mcoreReleased n s.m
  have hmchk (hh : s.m.flag (Reg.MCS_MCORE_CTRL n) Fields.MCS_MCORE_CTRL.HOLD = true) :
      (s.m.mcoreReleased n).inMchk srcMCS (16 + n) = false := by
    rw [Mod.mcoreReleased, hh]
    exact inMchk_setMchk _ _ _ _
  have hhold : (s.m.mcoreReleased n).flag (Reg.MCS_MCORE_CTRL n) Fields.MCS_MCORE_CTRL.HOLD = false := by
    rw [flag_of_regs hk.regs, hflag _ (by decide), hold_mcoreGoWord]
    rfl
  have hgo : (s.m.mcoreReleased n).flag (Reg.MCS_MCORE_CTRL n) Fields.MCS_MCORE_CTRL.GO = true := by
    rw [flag_of_regs hk.regs, hflag _ (by decide), go_mcoreGoWord]
    rfl
  have hwdog : (s.m.mcoreReleased n).flag (Reg.MCS_MCORE_CTRL n) Fields.MCS_MCORE_CTRL.WDOG_EN =
      s.m.flag (Reg.MCS_MCORE_CTRL n) Fields.MCS_MCORE_CTRL.WDOG_EN := by
    rw [flag_of_regs hk.regs, hflag _ (by decide), wdog_mcoreGoWord, Mod.flag]
  exact answers_command rfl (by simp [Wf.mcoreGo, hi, hn]) (s.m.serving_iff.mp hs).1 (mcoreGo_eq hn hs hj)
    ⟨hhold, hgo, hwdog, hmchk, hk.outs, hmem.trans hk.memory, (hput.trans (.of_eq hk.regs)).cmds _⟩

/-! ### MCS_CTRL (R150, R151) -/

/-- A write of MCS_CTRL that asks for a check. -/
theorem act_mcsCtrl (hv : (fget Fields.MCS_CTRL.CHECK v != 0 || fget Fields.MCS_CTRL.RELOAD v != 0) = true) (d : RegDesc)
    (hd : d.name = .MCS_CTRL) : Wr.act ⟨i, Reg.MCS_CTRL, d, [], v⟩ m =
      Wr.unless ⟨i, Reg.MCS_CTRL, d, [], v⟩ m.anySeqRunning (Mod.checkStart (fget Fields.MCS_CTRL.RELOAD v != 0)) m := by
  have hb : Reg.MCS_CTRL / 0x100000 = 3 := by decide
  have hp : pairLows.contains RegName.MCS_CTRL = false := by decide
  have hgo : (!(fget Fields.MCS_CTRL.CHECK v != 0) && !(fget Fields.MCS_CTRL.RELOAD v != 0)) = false := by
    rw [← Bool.not_or, hv]
    rfl
  simp only [Wr.act, hd, hp, hb, Wr.cores, Wr.mcsCtrl, Wr.b, Wr.g, hgo, Bool.false_eq_true, if_false]

theorem checkWrite_eq (hv : (fget Fields.MCS_CTRL.CHECK v != 0 || fget Fields.MCS_CTRL.RELOAD v != 0) = true)
    (hs : m.serving = true) (hj : m.journalOn = false) (hr : m.anySeqRunning = false) :
    m.busWrite i Reg.MCS_CTRL v = m.checkStart (fget Fields.MCS_CTRL.RELOAD v != 0) := by
  have hquiet (b : Bool) : (m.checkStart b).journalOn = false := (Mod.journalOn_setReg _ _ _ (by decide)).trans hj
  refine Mod.busWrite_accepted hs (by decide) (by decide) regAt_MCS_CTRL ?_ (hquiet _)
  rw [act_mcsCtrl hv _ rfl, hr]
  rfl

/-- While a sequencer runs the write is refused. -/
theorem checkWrite_refused (hv : (fget Fields.MCS_CTRL.CHECK v != 0 || fget Fields.MCS_CTRL.RELOAD v != 0) = true)
    (hs : m.serving = true) (hr : m.anySeqRunning = true) : m.busWrite i Reg.MCS_CTRL v = m.refuse i Reg.MCS_CTRL := by
  obtain ⟨hhalt, hl, hopen⟩ := m.serving_iff.mp hs
  refine m.busWrite_refused i _ v _ _ _ hl hhalt (inDoorbells_blocks (by decide)) (by decide) (inBlocks_blocks (by decide))
    (inMsix_of_regAt regAt_MCS_CTRL) regAt_MCS_CTRL (m.writeOpen_open i _ hopen) ?_
  rw [act_mcsCtrl hv _ rfl, hr]
  rfl

theorem sameRegs_checkStart (reload : Bool) (m : Mod) : SameRegs [Reg.MCS_STATUS] m (m.checkStart reload) :=
  ((SameRegs.of_eq rfl).wr _ _ _ List.mem_cons_self :)

theorem flag_checkStart (reload : Bool) (m : Mod) :
    (m.checkStart reload).flag Reg.MCS_STATUS Fields.MCS_STATUS.CHECKING = true := Mod.flag_wr_one _ _ _ (by decide) rfl

/-- A check that starts, of the control store as it stands or of the profile's image. -/
theorem answers_checkStart {s : State} {c : Instr} {f : Mod → Mod} {wf reload : Bool} (hc : exec c s = run wf f s)
    (hw : wf = true) (hh : s.m.flt.halted = false) (ht : f s.m = s.m.checkStart reload) :
    Answers c s (fun t => t.flag Reg.MCS_STATUS Fields.MCS_STATUS.CHECKING = true ∧ t.sys.reload = reload ∧
      t.outs = s.m.outs ∧ SameMemory s.m t ∧ SameRegs [Reg.MCS_STATUS] s.m t) := by
  have hregs := sameRegs_checkStart reload s.m
  have hflag := flag_checkStart reload s.m
  exact answers_command hc hw hh ht ⟨hflag, rfl, rfl, .of_eq rfl rfl, hregs⟩

theorem answers_check (s : State) (init : Init) (hs : s.m.serving = true) (hj : s.m.journalOn = false)
    (hi : init.wf = true) (hr : s.m.anySeqRunning = false) :
    Answers (.check init) s (fun t => t.flag Reg.MCS_STATUS Fields.MCS_STATUS.CHECKING = true ∧ t.sys.reload = false ∧
      t.outs = s.m.outs ∧ SameMemory s.m t ∧ SameRegs [Reg.MCS_STATUS] s.m t) :=
  answers_checkStart rfl hi (s.m.serving_iff.mp hs).1
    (checkWrite_eq (v := fput Fields.MCS_CTRL.CHECK 1 0#32) (by decide) hs hj hr)

theorem answers_reload (s : State) (init : Init) (hs : s.m.serving = true) (hj : s.m.journalOn = false)
    (hi : init.wf = true) (hr : s.m.anySeqRunning = false) :
    Answers (.reload init) s (fun t => t.flag Reg.MCS_STATUS Fields.MCS_STATUS.CHECKING = true ∧ t.sys.reload = true ∧
      t.outs = s.m.outs ∧ SameMemory s.m t ∧ SameRegs [Reg.MCS_STATUS] s.m t) :=
  answers_checkStart rfl hi (s.m.serving_iff.mp hs).1
    (checkWrite_eq (v := fput Fields.MCS_CTRL.RELOAD 1 0#32) (by decide) hs hj hr)

theorem answers_check_refused (s : State) (init : Init) (hs : s.m.serving = true) (_ : s.m.journalOn = false)
    (hi : init.wf = true) (hr : s.m.anySeqRunning = true) :
    Answers (.check init) s (fun t => t.flag Reg.ERR_ACCESS Fields.ERR_ACCESS.WR_REFUSED = true ∧ t.sys = s.m.sys ∧
      SameMemory s.m t ∧ SameRegsPost [] s.m t) := by
  have hposts := onlyPosts_refuse init Reg.MCS_CTRL s.m
  have hflag := flag_refuse init Reg.MCS_CTRL s.m
  have hsys : (s.m.refuse init Reg.MCS_CTRL).sys = s.m.sys := by rw [hposts.1]
  exact answers_command rfl hi (s.m.serving_iff.mp hs).1
    (checkWrite_refused (v := fput Fields.MCS_CTRL.CHECK 1 0#32) (by decide) hs hr) ⟨hflag, hsys, hposts.frame _⟩

end

/-- Settles O52: groups, units, PRIV, site cores, management cores and the control store. -/
theorem hatchAndCoreCommands : Obligations.HatchAndCoreCommands :=
  ⟨answers_groupDisable, answers_groupDisable_burst, answers_groupDisable_step, answers_groupDisableFlush,
    answers_groupEnable, answers_unitDisable, answers_unitDisable_seq, answers_unitDisable_absent,
    answers_unitDisableFlush, answers_unitEnable, answers_privSet, answers_privSet_limit, answers_scoreHold,
    answers_scoreGo, answers_kick, answers_mcoreHold, answers_mcoreGo, answers_check, answers_reload,
    answers_check_refused⟩

end Sys2Proof.Machine
end

section
/-!
PROOF. The services of a step and its ends (R140 to R144), and O26.
-/

namespace Sys2Proof.Machine

/-! ### What services and ends are made of -/

@[simp] theorem length_leBytes (n v : Nat) : (leBytes n v).length = n := by
  induction n generalizing v with
  | zero => rfl
  | succ n ih => simp [leBytes, ih]

/-- A counter that has reached its greatest value stays there, within its field. -/
theorem satAdd_lt (w a b : Nat) : satAdd w a b < 2 ^ w := by
  have := Nat.two_pow_pos w
  unfold satAdd
  omega

theorem Mod.rd_bump_self (off : Nat) (f : Fld) (m : Mod) (h : f.lo + f.width ≤ 32) :
    (m.bump off f).rd off f = satAdd f.width (m.rd off f) 1 := by
  rw [Mod.bump, Mod.rd_wr_self m off f _ h, Nat.mod_eq_of_lt (satAdd_lt _ _ _)]

theorem SameOutside.trans {lo hi : Nat} {a b c : List Host.Cell} (h : SameOutside lo hi a b) (k : SameOutside lo hi b c) :
    SameOutside lo hi a c := fun x hx => (k x hx).trans (h x hx)

/-- Memories that agree outside a range still do after the same write. -/
theorem SameOutside.memWrite_both {lo hi : Nat} (bs : List Byte) {x : Nat} {a b : List Host.Cell}
    (h : SameOutside lo hi a b) : SameOutside lo hi (Sys2Proof.Machine.memWrite a x bs) (Sys2Proof.Machine.memWrite b x bs) := by
  induction bs generalizing a b x with
  | nil => exact h
  | cons w t ih =>
    refine ih fun y hy => ?_
    rw [memByte_set, memByte_set, h y hy]

/-- A data cache without lines writes nothing back (R140). -/
theorem cacheFlush_clean {c : Nat} {m : Mod} (hd : (m.hart c).dcache = []) :
    m.cacheFlush c = m.setHart c { m.hart c with dcache := [], icache := [] } := by
  unfold Mod.cacheFlush
  dsimp only
  rw [hd]
  rfl

/-! ### The end of a step (R140) -/

section
variable (c i k : Nat) (m : Mod)

theorem silent_setHart (h : Hart) : Silent m (m.setHart c h) := ⟨rfl, rfl, rfl, rfl⟩
theorem silent_setMode (p : PrivMode) : Silent m (m.setMode c p) := silent_setHart c m _
theorem score_lapse (d : Nat) : (m.lapse c).score d = m.score d := rfl

theorem nodeJob_inst : (m.nodeJob i k).inst = some i := by
  unfold Mod.nodeJob
  split <;> rfl

theorem nodeJob_node : (m.nodeJob i k).node = k := by
  unfold Mod.nodeJob
  split <;> rfl

end

/-- The report of a node of this module waits for NODE_COMPLETE; a working pair may send it to the partner too (R111, R397). -/
theorem report_node {j : Job} {i : Nat} (hj : j.inst = some i) (st : Nat) (v : DWord) (fail : Bool) (stretch : Nat)
    (ran : Bool) (m : Mod) : ∃ os, m.report j st v fail stretch ran = { m with
      hat := { m.hat with reports := m.hat.reports ++ [⟨i, j.node, st, v, fail, stretch, ran⟩] }, outs := os } := by
  unfold Mod.report Mod.when
  rw [hj]
  dsimp only
  split
  · exact ⟨_, rfl⟩
  · exact ⟨m.outs, rfl⟩

/-- A core without its step: nothing is asked of it any more. -/
def SCore.stepLeft (y : SCore) : SCore :=
  { y with
    step := none
    reqAbort := false
    reqDrain := false
    reqPreempt := false
    logging := false }

/-- `b` is `a` after the step of core `c`, node `k` of graph `i`, has ended with a status, VALUE and FAIL. -/
structure StepEnded (c i k st : Nat) (v : DWord) (fail : Bool) (a b : Mod) : Prop where
  score : b.score c = (a.score c).stepLeft
  reports : b.hat.reports = a.hat.reports ++ [⟨i, k, st, v, fail, 0, true⟩]
  regs : b.regs = a.regs
  gddr : b.gddr = a.gddr
  sram : b.sram = a.sram

section
variable {c i k st : Nat} {v : DWord} {fail : Bool} {a b m : Mod}

theorem StepEnded.step (h : StepEnded c i k st v fail a b) : (b.score c).step = none := congrArg SCore.step h.score

theorem StepEnded.booted (h : StepEnded c i k st v fail a b) : (b.score c).booted = (a.score c).booted := by
  rw [h.score]
  rfl

theorem StepEnded.memory (h : StepEnded c i k st v fail a b) : SameMemory a b := .of_eq h.gddr h.sram

/-- The core after its step, with nothing written back, and the request for pre-emption lapsed. -/
def Mod.stepCleared (c : Nat) (m : Mod) : Mod :=
  (((m.setHart c { m.hart c with dcache := [], icache := [] }).setMode c
    (if (m.score c).booted then .supervisor else .machine)).setScore c (m.score c).stepLeft).lapse c

theorem stepOver_clean (st : Nat) (v : DWord) (fail : Bool) (hs : (m.score c).step = some (i, k))
    (hd : (m.hart c).dcache = []) : m.stepOver c st v fail = (m.stepCleared c).report (m.nodeJob i k) st v fail 0 true := by
  unfold Mod.stepOver
  dsimp only
  rw [hs]
  dsimp only
  rw [cacheFlush_clean hd]
  rfl

theorem score_stepCleared : (m.stepCleared c).score c = (m.score c).stepLeft := by
  rw [Mod.stepCleared, score_lapse, Mod.score_setScore_self]

theorem reports_stepCleared : (m.stepCleared c).hat.reports = m.hat.reports := rfl

theorem silent_stepCleared : Silent m (m.stepCleared c) :=
  (((silent_setHart c m _).trans (silent_setMode c _ _)).trans (silent_setScore _ c _)).trans (silent_lapse _ c)

/-- A step whose core has nothing to write back ends with its report alone. -/
theorem stepEnded_stepOver (st : Nat) (v : DWord) (fail : Bool) (hs : (m.score c).step = some (i, k))
    (hd : (m.hart c).dcache = []) : StepEnded c i k st v fail m (m.stepOver c st v fail) := by
  have hscore := score_stepCleared (c := c) (m := m)
  have hreports := reports_stepCleared (c := c) (m := m)
  have hsilent := silent_stepCleared (c := c) (m := m)
  have hover := stepOver_clean st v fail hs hd
  generalize m.stepCleared c = t at hscore hreports hsilent hover
  obtain ⟨os, he⟩ := report_node (nodeJob_inst i k m) st v fail 0 true t
  rw [nodeJob_node] at he
  rw [hover, he, hreports]
  exact ⟨hscore, rfl, hsilent.regs, hsilent.gddr, hsilent.sram⟩

end

/-! ### EXIT (R141, R142) -/

/-- EXIT_VALUE, EXIT_FLAGS and DONE stand in the step frame (Table 6.4). -/
def Mod.exitWritten (c : Nat) (value : DWord) (flags : Nat) (m : Mod) : Mod :=
  ((m.framePut c 112 (leBytes 8 value.toNat)).framePut c 120 (leBytes 1 flags)).framePut c 248
    (leBytes 8 ((m.free 0).toNat ||| 1))

section
variable (c : Nat) (value : DWord) (flags : Nat) (m : Mod)

theorem sram_exitWritten : SameOutside (coreBase c + 112) (coreBase c + 256) m.sram (m.exitWritten c value flags).sram := by
  have hput (off : Nat) (bs : List Byte) (x : Mod) (hlo : 112 ≤ off) (hhi : off + bs.length ≤ 256) :
      SameOutside (coreBase c + 112) (coreBase c + 256) x.sram (x.framePut c off bs).sram :=
    .memWrite _ _ _ _ _ (by omega) (by omega)
  exact ((hput _ _ _ (by decide) (by simp)).trans (hput _ _ _ (by decide) (by simp))).trans (hput _ _ _ (by decide) (by simp))

theorem exitValue_exitWritten : memRead (m.exitWritten c value flags).sram (coreBase c + 112) 8 = leBytes 8 value.toNat := by
  have hwritten := memRead_memWrite m.sram (leBytes 8 value.toNat) (coreBase c + 112)
  rw [length_leBytes] at hwritten
  unfold Mod.exitWritten Mod.framePut Mod.sramPut
  dsimp only
  rw [memRead_memWrite_apart _ _ _ _ _ (.inl (by omega)), memRead_memWrite_apart _ _ _ _ _ (.inl (by omega)), hwritten]

end

theorem stepExit_ends {c i k : Nat} {m : Mod} (value : DWord) (flags : Nat) (hs : (m.score c).step = some (i, k))
    (ha : m.acked c = false) (hl : (m.score c).logging = false) (hr : (m.score c).reqAbort = false) :
    m.stepExit c value flags =
      (m.exitWritten c value flags).stepOver c (if nbit flags 1 then stSTEP_ERROR else stOK) value (nbit flags 0) := by
  unfold Mod.stepExit
  simp only [hs, ha, hl, hr, Option.isNone_some, Bool.or_self, Bool.false_eq_true, if_false]
  rfl

theorem answers_exit (s : State) (c flags i k : Nat) (value : DWord) (hh : s.m.flt.halted = false) (hc : c < 16)
    (hf : flags < 256) (hs : (s.m.score c).step = some (i, k)) (ha : s.m.acked c = false)
    (hl : (s.m.score c).logging = false) (hd : (s.m.hart c).dcache = []) (hr : (s.m.score c).reqAbort = false) :
    Answers (.exit c value flags) s (fun t => (t.score c).step = none ∧ t.hat.reports = s.m.hat.reports ++
      [⟨i, k, if nbit flags 1 then stSTEP_ERROR else stOK, value, nbit flags 0, 0, true⟩] ∧
      memRead t.sram (coreBase c + 112) 8 = leBytes 8 value.toNat ∧ t.gddr = s.m.gddr ∧
      SameOutside (coreBase c + 112) (coreBase c + 256) s.m.sram t.sram ∧ SameRegs [] s.m t) := by
  have hend := stepEnded_stepOver (m := s.m.exitWritten c value flags) (if nbit flags 1 then stSTEP_ERROR else stOK) value
    (nbit flags 0) hs hd
  have hexit := stepExit_ends value flags hs ha hl hr
  have hvalue := exitValue_exitWritten c value flags s.m
  have houtside := sram_exitWritten c value flags s.m
  rw [← hend.sram] at hvalue houtside
  generalize (s.m.exitWritten c value flags).stepOver c _ value _ = t at hend hexit hvalue houtside
  exact answers_command rfl (by simp [Wf.exit, hc, hf]) hh hexit
    ⟨hend.step, hend.reports, hvalue, hend.gddr, houtside, SameRegs.of_eq hend.regs⟩

/-! ### Service calls (R141) -/

/-- A call of a step of which nothing is asked hands back its value. -/
theorem serviceReturn_unasked {c i k : Nat} {m : Mod} (w : DWord) (hs : (m.score c).step = some (i, k))
    (ha : m.acked c = false) (hl : (m.score c).logging = false) (hr : (m.score c).reqAbort = false)
    (hp : (m.score c).reqPreempt = false) (hdr : (m.score c).reqDrain = false) :
    m.serviceReturn c (some w) = m.emit (.coreValue c w) := by
  simp [Mod.serviceReturn, Mod.callValue, hs, ha, hl, hr, hp, hdr]

/-- A value handed back changes nothing else. -/
theorem answers_callValue {s : State} {cmd : Instr} {wf : Bool} {f : Mod → Mod} {c : Nat} {w : DWord}
    (hx : exec cmd s = run wf f s) (hw : wf = true) (hh : s.m.flt.halted = false)
    (ht : f s.m = s.m.emit (.coreValue c w)) : Answers cmd s (fun t =>
      t.outs = .coreValue c w :: s.m.outs ∧ SameMemory s.m t ∧ SameRegs [] s.m t) :=
  answers_command hx hw hh ht ⟨rfl, .of_eq rfl rfl, .of_eq rfl⟩

theorem answers_inputCall (s : State) (c n i k : Nat) (hh : s.m.flt.halted = false) (hc : c < 16) (hn : n < 8)
    (hs : (s.m.score c).step = some (i, k)) (ha : s.m.acked c = false) (hl : (s.m.score c).logging = false)
    (hr : (s.m.score c).reqAbort = false) (hp : (s.m.score c).reqPreempt = false)
    (hdr : (s.m.score c).reqDrain = false) :
    Answers (.inputCall c n) s (fun t => t.outs = .coreValue c (BitVec.ofNat 64
      (ofBytes (memRead s.m.sram (coreBase c + 40 + 8 * n) 8))) :: s.m.outs ∧ SameMemory s.m t ∧ SameRegs [] s.m t) :=
  answers_callValue rfl (decide_eq_true hc) hh ((if_pos hn).trans (serviceReturn_unasked _ hs ha hl hr hp hdr))

theorem answers_ttimeCall (s : State) (c i k : Nat) (hh : s.m.flt.halted = false) (hc : c < 16)
    (hs : (s.m.score c).step = some (i, k)) (ha : s.m.acked c = false) (hl : (s.m.score c).logging = false)
    (hr : (s.m.score c).reqAbort = false) (hp : (s.m.score c).reqPreempt = false)
    (hdr : (s.m.score c).reqDrain = false) :
    Answers (.ttimeCall c) s (fun t => t.outs = .coreValue c (BitVec.ofNat 64 s.m.ttime) :: s.m.outs ∧
      SameMemory s.m t ∧ SameRegs [] s.m t) :=
  answers_callValue rfl (decide_eq_true hc) hh (serviceReturn_unasked _ hs ha hl hr hp hdr)

/-! ### BOUNDARY of a step that gives way (R140, R141) -/

/-- What the runtime saves of a step's context, in a form that is not given. -/
def Mod.contextBytes (m : Mod) : List Byte := (List.range 128).flatMap (fun i => leBytes 8 (m.free (32 + i)).toNat)

theorem length_contextBytes (m : Mod) : m.contextBytes.length = 0x400 := by
  simp [Mod.contextBytes, List.length_flatMap]

/-- A step saved: its context lies in the save area of its slot, the value of its call is owed, and ACK names the slot. -/
def Mod.contextSaved (c : Nat) (v : Option DWord) (m : Mod) : Mod :=
  let x := m.score c
  let m1 := m.framePut c (0xF000 + 0x400 * x.slot) m.contextBytes
  (((m1.setHart c { m1.hart c with dcache := [], icache := [] }).setScore c
    { x with owed := SMap.set (fun _ => none) x.owed x.slot v }).setMode c .supervisor).framePut c 121
      (leBytes 1 (8 + x.slot))

theorem saveContext_clean {c : Nat} {m : Mod} (v : Option DWord) (hd : (m.hart c).dcache = []) :
    m.saveContext c v = m.contextSaved c v := by
  unfold Mod.saveContext
  dsimp only
  rw [cacheFlush_clean (m := m.framePut c _ _) hd]
  rfl

section
variable (c : Nat) (v : Option DWord) (m : Mod)

theorem sram_framePut (off : Nat) (bs : List Byte) : (m.framePut c off bs).sram = memWrite m.sram (coreBase c + off) bs := rfl
theorem score_framePut (off d : Nat) (bs : List Byte) : (m.framePut c off bs).score d = m.score d := rfl
theorem score_setMode (p : PrivMode) (d : Nat) : (m.setMode c p).score d = m.score d := rfl

theorem sram_contextSaved : (m.contextSaved c v).sram =
    memWrite (memWrite m.sram (coreBase c + (0xF000 + 0x400 * (m.score c).slot)) m.contextBytes) (coreBase c + 121)
      (leBytes 1 (8 + (m.score c).slot)) := by
  simp only [Mod.contextSaved, sram_framePut, Mod.setMode, Mod.setHart_sram, Mod.setScore_sram]

theorem ack_contextSaved : memByte (m.contextSaved c v).sram (coreBase c + 121) = BitVec.ofNat 8 (8 + (m.score c).slot) := by
  rw [sram_contextSaved]
  exact memByte_memWrite _ (leBytes 1 (8 + (m.score c).slot)) (coreBase c + 121) 0 (by simp)

theorem sameOutside_contextSaved :
    SameOutside (coreBase c + 0xF000 + 0x400 * (m.score c).slot) (coreBase c + 0xF400 + 0x400 * (m.score c).slot)
      (memWrite m.sram (coreBase c + 121) [BitVec.ofNat 8 (8 + (m.score c).slot)]) (m.contextSaved c v).sram := by
  have hlen := length_contextBytes m
  have hsave := SameOutside.memWrite (coreBase c + 0xF000 + 0x400 * (m.score c).slot)
    (coreBase c + 0xF400 + 0x400 * (m.score c).slot) (coreBase c + (0xF000 + 0x400 * (m.score c).slot)) m.sram
    m.contextBytes (by omega) (by omega)
  rw [sram_contextSaved]
  exact hsave.memWrite_both [BitVec.ofNat 8 (8 + (m.score c).slot)]

theorem score_contextSaved : (m.contextSaved c v).score c =
    { m.score c with owed := SMap.set (fun _ => none) (m.score c).owed (m.score c).slot v } := by
  rw [Mod.contextSaved, score_framePut, score_setMode, Mod.score_setScore_self]

theorem regs_contextSaved : (m.contextSaved c v).regs = m.regs := by
  simp only [Mod.contextSaved, Mod.framePut, Mod.setMode, Mod.sramPut_regs, Mod.setHart_regs, Mod.setScore_regs]

theorem gddr_contextSaved : (m.contextSaved c v).gddr = m.gddr := by
  simp only [Mod.contextSaved, Mod.framePut, Mod.setMode, Mod.sramPut_gddr, Mod.setHart_gddr, Mod.setScore_gddr]

theorem outs_contextSaved : (m.contextSaved c v).outs = m.outs := by
  simp only [Mod.contextSaved, Mod.framePut, Mod.setMode, Mod.sramPut_outs, Mod.setHart_outs, Mod.setScore_outs]

end

theorem serviceReturn_preempted {c i k : Nat} {m : Mod} (v : Option DWord) (hs : (m.score c).step = some (i, k))
    (ha : m.acked c = false) (hl : (m.score c).logging = false) (hr : (m.score c).reqAbort = false)
    (hp : (m.score c).reqPreempt = true) (hsusp : (m.score c).susp.length < 3) :
    m.serviceReturn c v = m.saveContext c v := by
  simp [Mod.serviceReturn, hs, ha, hl, hr, hp, hsusp]

theorem answers_boundary (s : State) (c i k : Nat) (hh : s.m.flt.halted = false) (hc : c < 16)
    (hs : (s.m.score c).step = some (i, k)) (ha : s.m.acked c = false) (hl : (s.m.score c).logging = false)
    (hd : (s.m.hart c).dcache = []) (_ : (s.m.score c).slot < 4) (hr : (s.m.score c).reqAbort = false)
    (hp : (s.m.score c).reqPreempt = true) (hsusp : (s.m.score c).susp.length < 3) :
    Answers (.boundary c) s (fun t => memByte t.sram (coreBase c + 121) = BitVec.ofNat 8 (8 + (s.m.score c).slot) ∧
      (t.score c).step = some (i, k) ∧ t.gddr = s.m.gddr ∧
      SameOutside (coreBase c + 0xF000 + 0x400 * (s.m.score c).slot) (coreBase c + 0xF400 + 0x400 * (s.m.score c).slot)
        (memWrite s.m.sram (coreBase c + 121) [BitVec.ofNat 8 (8 + (s.m.score c).slot)]) t.sram ∧ t.outs = s.m.outs ∧
      SameRegs [] s.m t) := by
  have hack := ack_contextSaved c none s.m
  have hstep := (congrArg SCore.step (score_contextSaved c none s.m)).trans hs
  have houtside := sameOutside_contextSaved c none s.m
  have hregs := regs_contextSaved c none s.m
  have hgddr := gddr_contextSaved c none s.m
  have houts := outs_contextSaved c none s.m
  have hsave := (serviceReturn_preempted none hs ha hl hr hp hsusp).trans (saveContext_clean none hd)
  generalize s.m.contextSaved c none = t at hack hstep houtside hregs hgddr houts hsave
  exact answers_command rfl (decide_eq_true hc) hh hsave ⟨hack, hstep, hgddr, houtside, houts, SameRegs.of_eq hregs⟩

/-! ### STEP_EXCEPTION (R143) -/

theorem answers_stepException (s : State) (c i k : Nat) (xlt : Bool) (hh : s.m.flt.halted = false) (hc : c < 16)
    (hs : (s.m.score c).step = some (i, k)) (ha : s.m.acked c = false) (hd : (s.m.hart c).dcache = []) :
    Answers (.stepException c xlt) s (fun t => (t.score c).step = none ∧ t.hat.reports = s.m.hat.reports ++
      [⟨i, k, if xlt then stSTEP_XLT_FAULT else stSTEP_FAULT, 0, false, 0, true⟩] ∧ SameMemory s.m t ∧
      SameRegs [] s.m t) := by
  have hend := stepEnded_stepOver (if xlt then stSTEP_XLT_FAULT else stSTEP_FAULT) 0 false hs hd
  have hexc : s.m.stepException c xlt = s.m.stepOver c (if xlt then stSTEP_XLT_FAULT else stSTEP_FAULT) 0 false := by
    simp only [Mod.stepException, ha, Bool.false_eq_true, if_false]
  generalize s.m.stepOver c _ 0 false = t at hend hexc
  exact answers_command rfl (decide_eq_true hc) hh hexc
    ⟨hend.step, hend.reports, hend.memory.cmds _, SameRegs.of_eq hend.regs⟩

/-! ### A core that is reset alone (R144) -/

section
variable {c i k : Nat} {m : Mod}

theorem score_scoreReset : (m.scoreReset c).score c = { m.score c with booted := false } :=
  Mod.score_setScore_self _ c _

theorem hart_scoreReset : (m.scoreReset c).hart c = Hart.fresh :=
  SMap.get_set_self (fun _ => Hart.fresh) m.harts c Hart.fresh

theorem sameRegs_scoreReset : SameRegs [Reg.MCS_SCORE_STATUS c] m (m.scoreReset c) :=
  ((SameRegs.of_eq rfl).wr _ _ _ List.mem_cons_self :)

theorem kills_scoreReset : (m.scoreReset c).rd (Reg.MCS_SCORE_STATUS c) Fields.MCS_SCORE_STATUS.KILLS =
    satAdd Fields.MCS_SCORE_STATUS.KILLS.width (m.rd (Reg.MCS_SCORE_STATUS c) Fields.MCS_SCORE_STATUS.KILLS) 1 :=
  Mod.rd_bump_self _ _ _ (by decide)

/-- The step of a core that has been reset ends; the caches hold nothing to write back. -/
theorem stepEnded_reset (st : Nat) (hs : (m.score c).step = some (i, k)) :
    StepEnded c i k st 0 false (m.scoreReset c) ((m.scoreReset c).stepOver c st 0 false) :=
  stepEnded_stepOver st 0 false ((congrArg SCore.step score_scoreReset).trans hs) (congrArg Hart.dcache hart_scoreReset)

theorem StepEnded.booted_reset {st : Nat} {t : Mod} (h : StepEnded c i k st 0 false (m.scoreReset c) t) :
    (t.score c).booted = false := h.booted.trans (congrArg SCore.booted score_scoreReset)

theorem StepEnded.memory_reset {st : Nat} {t : Mod} (h : StepEnded c i k st 0 false (m.scoreReset c) t) : SameMemory m t :=
  (SameMemory.of_eq rfl rfl).trans h.memory

theorem StepEnded.regs_reset {st : Nat} {t : Mod} (h : StepEnded c i k st 0 false (m.scoreReset c) t) :
    SameRegs [Reg.MCS_SCORE_STATUS c] m t := sameRegs_scoreReset.trans (.of_eq h.regs)

end

theorem answers_stepKilled (s : State) (c us i k : Nat) (hh : s.m.flt.halted = false) (hc : c < 16)
    (hs : (s.m.score c).step = some (i, k)) (hr : (s.m.score c).reqAbort = true) (hu : s.m.killWait ≤ us) :
    Answers (.stepKilled c us) s (fun t => (t.score c).step = none ∧ (t.score c).booted = false ∧
      t.hat.reports = s.m.hat.reports ++ [⟨i, k, stSTEP_KILLED, 0, false, 0, true⟩] ∧
      t.rd (Reg.MCS_SCORE_STATUS c) Fields.MCS_SCORE_STATUS.KILLS = satAdd Fields.MCS_SCORE_STATUS.KILLS.width
        (s.m.rd (Reg.MCS_SCORE_STATUS c) Fields.MCS_SCORE_STATUS.KILLS) 1 ∧ SameMemory s.m t ∧
      SameRegs [Reg.MCS_SCORE_STATUS c] s.m t) := by
  have hend := stepEnded_reset stSTEP_KILLED hs
  have hkill : s.m.stepKilled c us = (s.m.scoreReset c).stepOver c stSTEP_KILLED 0 false := by
    simp only [Mod.stepKilled, hr, hu, decide_true, Bool.and_self, if_true]
  generalize (s.m.scoreReset c).stepOver c stSTEP_KILLED 0 false = t at hend hkill
  exact answers_command rfl (decide_eq_true hc) hh hkill ⟨hend.step, hend.booted_reset, hend.reports,
    (rd_of_regs hend.regs _ _).trans kills_scoreReset, hend.memory_reset.cmds _, hend.regs_reset.cmds _⟩

/-- A site core with a bad word and no suspended step ends the step it runs. -/
theorem coreEcc_alone {c : Nat} {m : Mod} (hc : c < 16) (hb : m.localBad c = true) (hn : (m.score c).susp = []) :
    m.coreEcc c = ((m.scoreReset c).stepOver c stSTEP_ECC 0 false).setScore c
      { ((m.scoreReset c).stepOver c stSTEP_ECC 0 false).score c with
        susp := []
        owed := [] } := by
  simp only [Mod.coreEcc, hb, hn, Nat.not_le.mpr hc, Bool.not_true, Bool.false_eq_true, if_false, List.map_nil, List.foldl_nil]

theorem answers_stepEcc (s : State) (c i k : Nat) (hh : s.m.flt.halted = false) (hc : c < 16)
    (hb : s.m.localBad c = true) (hs : (s.m.score c).step = some (i, k)) (hn : (s.m.score c).susp = []) :
    Answers (.stepEcc c) s (fun t => (t.score c).step = none ∧ (t.score c).booted = false ∧
      t.hat.reports = s.m.hat.reports ++ [⟨i, k, stSTEP_ECC, 0, false, 0, true⟩] ∧ SameMemory s.m t ∧
      SameRegs [Reg.MCS_SCORE_STATUS c] s.m t) := by
  have hend := stepEnded_reset stSTEP_ECC hs
  have hecc := coreEcc_alone hc hb hn
  generalize (s.m.scoreReset c).stepOver c stSTEP_ECC 0 false = t at hend hecc
  have hscore := Mod.score_setScore_self t c { t.score c with susp := [], owed := [] }
  exact answers_command rfl (decide_eq_true (Nat.lt_trans hc (by decide))) hh hecc
    ⟨(congrArg SCore.step hscore).trans hend.step, (congrArg SCore.booted hscore).trans hend.booted_reset, hend.reports,
      hend.memory_reset.cmds (s.m.cmds + 1), hend.regs_reset.cmds (s.m.cmds + 1)⟩

/-- Settles O26: the services EXIT, BOUNDARY, INPUT and TTIME, and the ends under an exception, KILL_WAIT and a bad word. -/
theorem stepServices : Obligations.StepServices :=
  ⟨answers_exit, answers_boundary, answers_inputCall, answers_ttimeCall, answers_stepException, answers_stepKilled,
    answers_stepEcc⟩

end Sys2Proof.Machine
end

section
/-!
PROOF. The branch of a routine word on a trigger whose edge has arrived (R148, R169; Table 7.7), and the refutation of O27.
-/

namespace Sys2Proof.Machine

/-! ### A word that branches on a trigger -/

/-- A burst on sequencer 0, at word 0x020 of a routine, its instruction stream resident; an edge that came to the contact of
line 0 of source 0 at SCLK 0 reaches it at SCLK 8. -/
def edgeArrived : Seq :=
  { Seq.fresh with
    job := some ⟨some 0, 0, 0, 0⟩
    iblk := [⟨0, 0, true, false⟩]
    upc := some 0x20
    edges := [⟨0, 8, false⟩] }

/-- A word with NEXT 0x021, BRTARGET 0x022 and BRCOND 8, the trigger of the instruction, and no effect. -/
def branchOnTrigger : Nat := 0x21 + 2 ^ 12 * 0x22 + 2 ^ 24 * 8

/-- The module after reset at a TTIME of 8, with that word in its control store and that burst. -/
def triggerDue : State :=
  ⟨[], ((Mod.reset.setReg Reg.TIME_TTIME_LO 8#32).sramPut (storeOff 0x20) (leBytes 8 branchOnTrigger)).setSeq 0 edgeArrived⟩

/-- The edge is latched before the word is executed (R169), so the branch is taken. -/
theorem answers_microwordExecute_trigger : Answers (.microwordExecute 0 0 0) triggerDue (fun t =>
    (t.seq 0).upc = some 0x22) :=
  answers_run rfl (by decide) (by decide) (by decide)

/-- Before the edge is taken the condition does not hold. -/
theorem microCond_triggerDue :
    triggerDue.m.microCond 0 0 (Micro.ofNat branchOnTrigger) (Word4.ofBytes (zeroBytes 16)) (triggerDue.m.seq 0) = false := by
  decide

/-- Refutes O27 by its clause on micro-words, which reads BRCOND of the sequencer as it stands before the command. An edge
that has reached the sequencer by now is taken first (R169): a word that branches on its trigger (BRCOND 8) goes on to its
branch target, where the clause says NEXT. -/
theorem not_coresAndStore : ¬ Obligations.CoresAndStore := by
  intro h
  obtain ⟨-, -, -, -, -, -, -, -, -, hMicro⟩ := h
  have hnext := hMicro triggerDue 0 0x20 0 0 (zeroBytes 16) (Micro.ofNat branchOnTrigger) (by decide) (by decide) (by decide)
    (by decide) (by decide) (by decide) (by decide) (by decide) (by decide) (by decide) (by decide) (by decide) (by decide)
    (by decide) (by decide) (by decide) (by decide) (by decide) (by decide) (by decide) (by decide) (by decide) (by decide)
    (by decide)
  obtain ⟨t, -, -, ⟨hupc, -⟩, htarget⟩ := hnext.and answers_microwordExecute_trigger
  rw [microCond_triggerDue, htarget] at hupc
  exact absurd hupc (by decide)

end Sys2Proof.Machine
end

section
/-!
PROOF. A sequencer's entry and the registers that follow it, and what executing the instruction at PC comes to (R160,
R162, R179).
-/

namespace Sys2Proof.Machine

/-! ### Commands by their effect -/

/-- A command answers what its effect satisfies, as long as that does not speak of the count of commands. -/
theorem answers_effect {s : State} {c : Instr} {wf : Bool} {f : Mod → Mod} {t : Mod} {P : Mod → Prop}
    (hc : exec c s = run wf f s) (hw : wf = true) (hh : s.m.flt.halted = false) (ht : f s.m = t) (hp : P t)
    (hcmds : ∀ t k, P t → P { t with cmds := k } := by exact fun _ _ h => h) : Answers c s P :=
  answers_command hc hw hh ht (hcmds _ _ hp)

/-- The same of a command that acts even while the module is held. -/
theorem answers_effect_always {s : State} {c : Instr} {wf : Bool} {f : Mod → Mod} {t : Mod} {P : Mod → Prop}
    (hc : exec c s = runAlways wf f s) (hw : wf = true) (ht : f s.m = t) (hp : P t)
    (hcmds : ∀ t k, P t → P { t with cmds := k } := by exact fun _ _ h => h) : Answers c s P :=
  answers_always hc hw ht (hcmds _ _ hp)

/-! ### Changes of one sequencer -/

/-- `b` is `a` but for sequencer `n` and the registers listed. -/
structure SeqOnly (n : Nat) (but : List Nat) (a b : Mod) : Prop where
  rest : b = { a with regs := b.regs, seqs := b.seqs }
  others : ∀ k, k ≠ n → b.seq k = a.seq k
  regs : SameRegs but a b

section
variable {n : Nat} {l l' : List Nat} {a b c : Mod}

theorem SeqOnly.refl (n : Nat) (l : List Nat) (a : Mod) : SeqOnly n l a a := ⟨rfl, fun _ _ => rfl, .refl l a⟩

theorem SeqOnly.trans (h : SeqOnly n l a b) (k : SeqOnly n l b c) : SeqOnly n l a c :=
  ⟨by rw [k.rest, h.rest], fun j hj => (k.others j hj).trans (h.others j hj), h.regs.trans k.regs⟩

theorem SeqOnly.mono (h : SeqOnly n l a b) (hl : l ⊆ l') : SeqOnly n l' a b :=
  ⟨h.rest, h.others, h.regs.mono fun _ ho => hl ho⟩

theorem SeqOnly.setSeq (h : SeqOnly n l a b) (x : Seq) : SeqOnly n l a (b.setSeq n x) :=
  h.trans ⟨rfl, fun k hk => b.seq_setSeq_ne n k x hk, .of_eq rfl⟩

theorem SeqOnly.wr (h : SeqOnly n l a b) (off : Nat) (f : Fld) (v : Nat) (ho : off ∈ l) : SeqOnly n l a (b.wr off f v) :=
  h.trans ⟨rfl, fun _ _ => rfl, (SameRegs.refl l b).wr off f v ho⟩

theorem SeqOnly.when (h : SeqOnly n l a b) (p : Bool) (f : Mod → Mod) (hf : SeqOnly n l b (f b)) :
    SeqOnly n l a (b.when p f) := by
  cases p
  · exact h
  · exact h.trans hf

theorem SeqOnly.outs (h : SeqOnly n l a b) : b.outs = a.outs := by rw [h.rest]
theorem SeqOnly.pair (h : SeqOnly n l a b) : b.pair = a.pair := by rw [h.rest]
theorem SeqOnly.gddr (h : SeqOnly n l a b) : b.gddr = a.gddr := by rw [h.rest]
theorem SeqOnly.sram (h : SeqOnly n l a b) : b.sram = a.sram := by rw [h.rest]
theorem SeqOnly.memory (h : SeqOnly n l a b) : SameMemory a b := .of_eq h.gddr h.sram

theorem SeqOnly.flag (h : SeqOnly n l a b) {o : Nat} (ho : o ∉ l) (f : Fld) : b.flag o f = a.flag o f := by
  rw [Mod.flag, Mod.flag, Mod.rd, Mod.rd, h.regs o ho]

theorem SeqOnly.rd (h : SeqOnly n l a b) {o : Nat} (ho : o ∉ l) (f : Fld) : b.rd o f = a.rd o f := by
  rw [Mod.rd, Mod.rd, h.regs o ho]

end

/-- The registers that show a sequencer's entry. -/
def seqShows (n : Nat) : List Nat := [Reg.SEQ_STATUS n, Reg.SEQ_PF_STATUS n, Reg.SEQ_PC n]

/-- Those and SEQn_FLAGS. -/
def seqFlagShows (n : Nat) : List Nat := [Reg.SEQ_STATUS n, Reg.SEQ_PF_STATUS n, Reg.SEQ_PC n, Reg.SEQ_FLAGS n]

theorem seqShows_subset (n : Nat) : seqShows n ⊆ seqFlagShows n := by
  simp [seqShows, seqFlagShows]

theorem seqFlags_subset (n : Nat) : [Reg.SEQ_FLAGS n] ⊆ seqFlagShows n := by
  simp [seqFlagShows]

theorem seqFlags_notMem (n : Nat) : Reg.SEQ_FLAGS n ∉ seqShows n := by
  simp only [seqShows, Reg.SEQ_FLAGS, Reg.SEQ_STATUS, Reg.SEQ_PF_STATUS, Reg.SEQ_PC, List.mem_cons, List.not_mem_nil,
    or_false]
  omega

theorem seqStatus_notMem (n : Nat) : Reg.SEQ_STATUS n ∉ [Reg.SEQ_FLAGS n] := by
  simp only [Reg.SEQ_FLAGS, Reg.SEQ_STATUS, List.mem_cons, List.not_mem_nil, or_false]
  omega

/-- Sequencers 0 to 31 show nothing beyond offset 0x420000. -/
theorem notMem_seqFlagShows {n off : Nat} (hn : n < 32) (ho : 0x420000 ≤ off) : off ∉ seqFlagShows n := by
  simp only [seqFlagShows, Reg.SEQ_FLAGS, Reg.SEQ_STATUS, Reg.SEQ_PF_STATUS, Reg.SEQ_PC, List.mem_cons, List.not_mem_nil,
    or_false]
  omega

theorem SeqOnly.pairActive {n : Nat} {a b : Mod} (h : SeqOnly n (seqFlagShows n) a b) (hn : n < 32) :
    b.pairActive = a.pairActive := by
  rw [Mod.pairActive, Mod.pairActive, h.rd (notMem_seqFlagShows hn (by decide))]

/-! ### Setting an entry with what shows it -/

section
variable (n : Nat) (x : Seq) (m : Mod)

@[simp] theorem seq_putSeq : (m.putSeq n x).seq n = x := Mod.seq_setSeq_self m n x

theorem seqOnly_putSeq : SeqOnly n (seqShows n) m (m.putSeq n x) := by
  unfold Mod.putSeq seqShows
  refine SeqOnly.wr (.wr (.wr (.wr (.wr (.wr (.wr ((SeqOnly.refl _ _ m).setSeq x) _ _ _ ?_) _ _ _ ?_) _ _ _ ?_) _ _ _ ?_)
    _ _ _ ?_) _ _ _ ?_) _ _ _ ?_ <;> simp

/-- SEQn_STATUS of an entry that is set, but for SEQn_PF_STATUS and SEQn_PC. -/
theorem rd_status_putSeq (f : Fld) : (m.putSeq n x).rd (Reg.SEQ_STATUS n) f =
    (((((m.setSeq n x).wr (Reg.SEQ_STATUS n) Fields.SEQ_STATUS.HOLD_ACTIVE (b2n x.hold.isSome)).wr (Reg.SEQ_STATUS n)
      Fields.SEQ_STATUS.RESIDENT (b2n (x.levels.any Level.pinned))).wr (Reg.SEQ_STATUS n)
      Fields.SEQ_STATUS.LOOP_DEPTH x.levels.length).wr (Reg.SEQ_STATUS n)
      Fields.SEQ_STATUS.CALL_DEPTH x.frames.length).rd (Reg.SEQ_STATUS n) f := by
  have hpc : Reg.SEQ_STATUS n ≠ Reg.SEQ_PC n := by unfold Reg.SEQ_STATUS Reg.SEQ_PC; omega
  have hpf : Reg.SEQ_STATUS n ≠ Reg.SEQ_PF_STATUS n := by unfold Reg.SEQ_STATUS Reg.SEQ_PF_STATUS; omega
  simp only [Mod.putSeq]
  rw [Mod.rd_wr_ne _ _ _ _ _ _ hpc, Mod.rd_wr_ne _ _ _ _ _ _ hpf, Mod.rd_wr_ne _ _ _ _ _ _ hpf]

/-- STATE and PAUSE_PENDING do not follow the entry. -/
theorem rd_putSeq_of_apart (f : Fld) (h : ∀ g ∈ [Fields.SEQ_STATUS.HOLD_ACTIVE, Fields.SEQ_STATUS.RESIDENT,
    Fields.SEQ_STATUS.LOOP_DEPTH, Fields.SEQ_STATUS.CALL_DEPTH], f.lo + f.width ≤ g.lo ∨ g.lo + g.width ≤ f.lo) :
    (m.putSeq n x).rd (Reg.SEQ_STATUS n) f = m.rd (Reg.SEQ_STATUS n) f := by
  rw [rd_status_putSeq, Mod.rd_wr_field _ _ _ _ _ (h _ (by simp)), Mod.rd_wr_field _ _ _ _ _ (h _ (by simp)),
    Mod.rd_wr_field _ _ _ _ _ (h _ (by simp)), Mod.rd_wr_field _ _ _ _ _ (h _ (by simp))]
  rfl

@[simp] theorem seqState_putSeq : (m.putSeq n x).seqState n = m.seqState n := rd_putSeq_of_apart n x m _ (by decide)

@[simp] theorem pausePending_putSeq : (m.putSeq n x).flag (Reg.SEQ_STATUS n) Fields.SEQ_STATUS.PAUSE_PENDING =
    m.flag (Reg.SEQ_STATUS n) Fields.SEQ_STATUS.PAUSE_PENDING := by
  rw [Mod.flag, Mod.flag, rd_putSeq_of_apart n x m _ (by decide)]

theorem holdActive_putSeq : (m.putSeq n x).flag (Reg.SEQ_STATUS n) Fields.SEQ_STATUS.HOLD_ACTIVE = x.hold.isSome := by
  rw [Mod.flag, rd_status_putSeq, Mod.rd_wr_field _ _ _ _ _ (by decide), Mod.rd_wr_field _ _ _ _ _ (by decide),
    Mod.rd_wr_field _ _ _ _ _ (by decide), Mod.rd_wr_self _ _ _ _ (by decide)]
  cases x.hold.isSome <;> rfl

@[simp] theorem seqState_setSeqState (v : Nat) (hv : v < 8) : (m.setSeqState n v).seqState n = v :=
  (Mod.rd_wr_self m _ _ v (by decide)).trans (Nat.mod_eq_of_lt hv)

@[simp] theorem seq_setSeqState (v : Nat) : (m.setSeqState n v).seq n = m.seq n := rfl

theorem pausePending_setSeqState (v : Nat) : (m.setSeqState n v).flag (Reg.SEQ_STATUS n) Fields.SEQ_STATUS.PAUSE_PENDING =
    m.flag (Reg.SEQ_STATUS n) Fields.SEQ_STATUS.PAUSE_PENDING := by
  rw [Mod.flag, Mod.flag, Mod.setSeqState, Mod.rd_wr_field _ _ _ _ _ (by decide)]

theorem seqOnly_setSeqState (v : Nat) : SeqOnly n (seqShows n) m (m.setSeqState n v) :=
  (SeqOnly.refl _ _ m).wr _ _ _ (by simp [seqShows])

end

/-! ### Going to an instruction -/

/-- The requests of blocks move nothing but the two streams (R179). -/
theorem requestBlocks_eq (m : Mod) (n : Nat) : ∀ (fuel : Nat) (x : Seq), ∃ i p k l,
    m.requestBlocks n fuel x = { x with iblk := i, inext := k, pblk := p, pnext := l }
  | 0, x => ⟨x.iblk, x.pblk, x.inext, x.pnext, rfl⟩
  | fuel + 1, x => by
    unfold Mod.requestBlocks
    dsimp only
    split
    · exact requestBlocks_eq m n fuel _
    · split
      · exact requestBlocks_eq m n fuel _
      · split
        · exact requestBlocks_eq m n fuel _
        · split
          · exact requestBlocks_eq m n fuel _
          · exact ⟨x.iblk, x.pblk, x.inext, x.pnext, rfl⟩

/-- An entry at instruction `pc` and row `pp`, with its streams as they are there. -/
def Seq.at_ (pc pp : Nat) (i p : List Blk) (k l : Nat) (x : Seq) : Seq :=
  { x with pc := pc, pp := pp, iblk := i, inext := k, pblk := p, pnext := l }

/-- `y` is `x` gone to instruction `pc` and row `pp`: only the two streams may have moved as well. -/
def Seq.GoesTo (pc pp : Nat) (x y : Seq) : Prop := ∃ i p k l, y = x.at_ pc pp i p k l

theorem Seq.GoesTo.pc {pc pp : Nat} {x y : Seq} (h : Seq.GoesTo pc pp x y) : y.pc = pc := by
  obtain ⟨i, p, k, l, rfl⟩ := h
  rfl

theorem Seq.GoesTo.pp {pc pp : Nat} {x y : Seq} (h : Seq.GoesTo pc pp x y) : y.pp = pp := by
  obtain ⟨i, p, k, l, rfl⟩ := h
  rfl

/-- Every other part of the entry stays. -/
theorem Seq.GoesTo.keeps {α : Type} {pc pp : Nat} {x y : Seq} (h : Seq.GoesTo pc pp x y) (f : Seq → α)
    (hf : ∀ i p k l, f (x.at_ pc pp i p k l) = f x := by intros; rfl) : f y = f x := by
  obtain ⟨i, p, k, l, rfl⟩ := h
  exact hf i p k l

/-- Going to an instruction sets PC and PP and moves the two streams. -/
theorem goto_eq (n pc pp : Nat) (far : Bool) (x : Seq) (m : Mod) : ∃ y, Seq.GoesTo pc pp x y ∧
    m.goto n pc pp far x = m.putSeq n y := by
  unfold Mod.goto Mod.releaseBlocks
  obtain ⟨i, p, k, l, h⟩ := requestBlocks_eq m n 260 _
  dsimp only
  rw [h]
  exact ⟨x.at_ pc pp i p k l, ⟨i, p, k, l, rfl⟩, rfl⟩

theorem seq_goto (n pc pp : Nat) (far : Bool) (x : Seq) (m : Mod) : Seq.GoesTo pc pp x ((m.goto n pc pp far x).seq n) := by
  obtain ⟨y, hy, h⟩ := goto_eq n pc pp far x m
  rwa [h, seq_putSeq]

theorem seqOnly_goto (n pc pp : Nat) (far : Bool) (x : Seq) (m : Mod) : SeqOnly n (seqShows n) m (m.goto n pc pp far x) := by
  obtain ⟨y, hy, h⟩ := goto_eq n pc pp far x m
  rw [h]
  exact seqOnly_putSeq n _ m

theorem seqState_goto (n pc pp : Nat) (far : Bool) (x : Seq) (m : Mod) :
    (m.goto n pc pp far x).seqState n = m.seqState n := by
  obtain ⟨y, hy, h⟩ := goto_eq n pc pp far x m
  rw [h, seqState_putSeq]

theorem pausePending_goto (n pc pp : Nat) (far : Bool) (x : Seq) (m : Mod) :
    (m.goto n pc pp far x).flag (Reg.SEQ_STATUS n) Fields.SEQ_STATUS.PAUSE_PENDING =
      m.flag (Reg.SEQ_STATUS n) Fields.SEQ_STATUS.PAUSE_PENDING := by
  obtain ⟨y, hy, h⟩ := goto_eq n pc pp far x m
  rw [h, pausePending_putSeq]

/-! ### Commit points at which nothing is asked -/

theorem commit_unasked {m : Mod} {n : Nat} (hr : (m.seq n).request = none) (hl : (m.seq n).limitAt = none) :
    m.commit n = m := by
  have hlim : m.limitDue n = m := by simp only [Mod.limitDue, hl]
  unfold Mod.commit
  dsimp only
  rw [hlim, hr, ite_self]

theorem tryPause_unasked {m : Mod} {n : Nat}
    (hp : m.flag (Reg.SEQ_STATUS n) Fields.SEQ_STATUS.PAUSE_PENDING = false) : m.tryPause n = m := by
  simp only [Mod.tryPause, hp, Bool.false_and, Bool.false_eq_true, if_false]

/-! ### The instruction at PC -/

/-- The entry with which an instruction of the factory image is executed: no commit address, no effects since (R149). -/
def Seq.fetched (x : Seq) : Seq := { x with commitAt := none, effects := 0 }

/-- What a sequencer that is about to execute a word stands at. -/
structure Executing (m : Mod) (n : Nat) (w : Word4) : Prop where
  halted : m.flt.halted = false
  lt : n < 32
  ready : (m.seq n).ready = true
  run : (m.seq n).run = 0
  request : (m.seq n).request = none
  limitAt : (m.seq n).limitAt = none
  pausePending : m.flag (Reg.SEQ_STATUS n) Fields.SEQ_STATUS.PAUSE_PENDING = false
  pc : (m.seq n).pc < (m.seq n).img.instrs
  unused : w.unusedSet = false
  parity : m.storeBad (dispatchWord w.op) = false
  valid : nbit (m.dispatchEntry w.op) 15 = true
  word : ∃ bs, m.readStream (m.seq n).iblk (16 * (m.seq n).pc) 16 = .ok bs ∧ Word4.ofBytes bs = w

theorem executing {m : Mod} {n : Nat} {w : Word4} (h : m.executes n w = true) : Executing m n w := by
  unfold Mod.executes at h
  simp only [Bool.and_eq_true, Bool.not_eq_true', decide_eq_true_eq, beq_iff_eq, Option.isNone_iff_eq_none] at h
  obtain ⟨⟨⟨⟨⟨⟨⟨⟨⟨⟨⟨hh, hn⟩, hready⟩, hrun⟩, hreq⟩, hlim⟩, hpause⟩, hpc⟩, hunused⟩, hparity⟩, hvalid⟩, hword⟩ := h
  refine ⟨hh, hn, hready, hrun, hreq, hlim, hpause, hpc, hunused, hparity, hvalid, ?_⟩
  split at hword
  · exact ⟨_, ‹_›, beq_iff_eq.mp hword⟩
  · exact absurd hword Bool.false_ne_true

theorem Executing.paused {m : Mod} {n : Nat} {w : Word4} (h : Executing m n w) : (m.seq n).paused = false := by
  have hready := h.ready
  simp only [Seq.ready, Bool.and_eq_true, Bool.not_eq_true'] at hready
  exact hready.1.2

/-- A command whose instruction is the word at PC executes it (R149, R162). -/
theorem execInstr_eq {m : Mod} {n : Nat} {w : Word4} {own : Word4 → Bool} (f : Word4 → Seq → Mod → Mod)
    (h : Executing m n w) (hown : own w = true) : 
    m.execInstr n own f = f w (m.seq n).fetched (m.setSeq n (m.seq n).fetched) := by
  obtain ⟨bs, hread, hword⟩ := h.word
  have hrun : ((m.seq n).run != 0) = false := bne_eq_false_iff_eq.mpr h.run
  unfold Mod.execInstr
  dsimp only
  rw [commit_unasked h.request h.limitAt, tryPause_unasked h.pausePending, hread]
  simp only [h.ready, hrun, Nat.not_le.mpr h.pc, hword, hown, h.parity, h.valid, h.unused, Bool.not_true,
    Bool.or_self, Bool.false_eq_true, if_false]
  rfl

theorem isOp_of_op {w : Word4} {op : Nat} (h : w.op = op) : isOp op w = true := beq_iff_eq.mpr h

theorem seqOnly_fetched (n : Nat) (l : List Nat) (m : Mod) : SeqOnly n l m (m.setSeq n (m.seq n).fetched) :=
  (SeqOnly.refl n l m).setSeq _

/-- A command of the core die that changes sequencer `n` alone answers `P` of it, and the rest as it was. -/
theorem answers_seq {s : State} {n : Nat} {c : Instr} {wf : Bool} {f : Mod → Mod} {l : List Nat} {t : Mod}
    {P : Mod → Prop} (hc : exec c s = run wf f s) (hw : wf = true) (hh : s.m.flt.halted = false)
    (ht : f s.m = t) (hm : SeqOnly n l s.m t) (hp : P t)
    (hcmds : ∀ t k, P t → P { t with cmds := k } := by exact fun _ _ h => h) :
    Answers c s (fun t => P t ∧ t.outs = s.m.outs ∧ SameMemory s.m t ∧ SameRegs l s.m t) :=
  answers_effect hc hw hh ht ⟨hp, hm.outs, hm.memory, hm.regs⟩ fun t k h => ⟨hcmds t k h.1, h.2⟩

/-- The command of an instruction answers what the instruction leaves. -/
theorem answers_executes {s : State} {n : Nat} {w : Word4} {c : Instr} (own : Word4 → Bool) (f : Word4 → Seq → Mod → Mod)
    {l : List Nat} {t : Mod} {P : Mod → Prop} (hc : exec c s = run (decide (n < 32)) (Mod.execInstr n own f) s)
    (h : s.m.executes n w = true) (hown : own w = true)
    (ht : f w (s.m.seq n).fetched (s.m.setSeq n (s.m.seq n).fetched) = t) (hm : SeqOnly n l s.m t) (hp : P t)
    (hcmds : ∀ t k, P t → P { t with cmds := k } := by exact fun _ _ h => h) :
    Answers c s (fun t => P t ∧ t.outs = s.m.outs ∧ SameMemory s.m t ∧ SameRegs l s.m t) := by
  have he := executing h
  exact answers_seq hc (decide_eq_true he.lt) he.halted ((execInstr_eq f he hown).trans ht) hm hp hcmds

/-- The command of an instruction that, at most after a change of its flags, goes to another. -/
theorem answers_executes_goto {s : State} {n : Nat} {w : Word4} {c : Instr} (own : Word4 → Bool) (f : Word4 → Seq → Mod → Mod)
    {l : List Nat} {m : Mod} {pc pp : Nat} {far : Bool} {x : Seq}
    (hc : exec c s = run (decide (n < 32)) (Mod.execInstr n own f) s) (h : s.m.executes n w = true) (hown : own w = true)
    (hf : f w (s.m.seq n).fetched (s.m.setSeq n (s.m.seq n).fetched) = m.goto n pc pp far x)
    (hl : seqShows n ⊆ l) (hm : SeqOnly n l s.m m) : Answers c s (fun t => Seq.GoesTo pc pp x (t.seq n) ∧
      t.outs = s.m.outs ∧ SameMemory s.m t ∧ SameRegs l s.m t) :=
  answers_executes own f hc h hown hf (hm.trans ((seqOnly_goto n pc pp far x m).mono hl)) (seq_goto n pc pp far x m)

/-- The command of an instruction that does nothing but go to another. -/
theorem answers_goes {s : State} {n : Nat} {w : Word4} {c : Instr} (own : Word4 → Bool) (f : Word4 → Seq → Mod → Mod)
    {pc pp : Nat} {far : Bool} {x : Seq} (hc : exec c s = run (decide (n < 32)) (Mod.execInstr n own f) s)
    (h : s.m.executes n w = true) (hown : own w = true) (hf : f w (s.m.seq n).fetched (s.m.setSeq n (s.m.seq n).fetched) =
      (s.m.setSeq n (s.m.seq n).fetched).goto n pc pp far x) : Answers c s (fun t => Seq.GoesTo pc pp x (t.seq n) ∧
      t.outs = s.m.outs ∧ SameMemory s.m t ∧ SameRegs [Reg.SEQ_STATUS n, Reg.SEQ_PF_STATUS n, Reg.SEQ_PC n] s.m t) :=
  answers_executes_goto own f hc h hown hf (List.Subset.refl _) (seqOnly_fetched n _ s.m)

end Sys2Proof.Machine
end

section
/-!
PROOF. Loops, calls and branches of the factory image (R163 to R165, R168), and O30.
-/

namespace Sys2Proof.Machine

/-! ### LOOP and ENDL (R163) -/

/-- A body that becomes resident pins blocks of the two streams. -/
theorem pinBody_eq (m : Mod) (n ifoot pfoot : Nat) (x : Seq) : ∃ b i p,
    m.pinBody n ifoot pfoot x = (b, { x with iblk := i, pblk := p }) := by
  unfold Mod.pinBody
  dsimp only
  split
  · exact ⟨true, _, _, rfl⟩
  · exact ⟨false, x.iblk, x.pblk, rfl⟩

/-- A level of a loop is entered. -/
theorem loopInstr_enters (n : Nat) (w : Word4) (x : Seq) (m : Mod) (hi : 0 < w.imm) (hl : x.levels.length < 8) :
    ∃ b i p a, m.loopInstr n w x = m.goto n (x.pc + 1) x.pp false { x with
      iblk := i
      pblk := p
      align := a
      levels := ⟨false, w.imm, w.tgt, x.pc + 1, x.pp, 0, 0, false, b, x.frames.length, 0⟩ :: x.levels } := by
  obtain ⟨b, i, p, h⟩ := pinBody_eq m n (w.c16 % 256) (w.c16 / 256) x
  unfold Mod.loopInstr
  rw [if_neg hi.ne', if_neg (Nat.not_le.mpr hl), h]
  exact ⟨b, i, p, _, rfl⟩

theorem answers_loop (s : State) (n : Nat) (w : Word4) (h : s.m.executes n w = true) (ho : w.op = 0x10) (hi : 0 < w.imm)
    (hl : (s.m.seq n).levels.length < 8) : Answers (.loop n) s (fun t => (t.seq n).pc = (s.m.seq n).pc + 1 ∧
      (t.seq n).pp = (s.m.seq n).pp ∧ (t.seq n).levels.map (fun l => (l.isMatch, l.count, l.tgt, l.body, l.pp)) =
        (false, w.imm, w.tgt, (s.m.seq n).pc + 1, (s.m.seq n).pp) ::
          (s.m.seq n).levels.map (fun l => (l.isMatch, l.count, l.tgt, l.body, l.pp)) ∧
      t.outs = s.m.outs ∧ SameMemory s.m t ∧
      SameRegs [Reg.SEQ_STATUS n, Reg.SEQ_PF_STATUS n, Reg.SEQ_PC n] s.m t) := by
  obtain ⟨b, i, p, a, hloop⟩ := loopInstr_enters n w (s.m.seq n).fetched (s.m.setSeq n (s.m.seq n).fetched) hi hl
  refine (answers_goes (isOp 0x10) (Mod.loopInstr n) rfl h (isOp_of_op ho) hloop).mono ?_
  rintro t ⟨hgo, hrest⟩
  refine ⟨hgo.pc, hgo.pp, ?_, hrest⟩
  rw [hgo.keeps Seq.levels]
  rfl

theorem answers_loop_none (s : State) (n : Nat) (w : Word4) (h : s.m.executes n w = true) (ho : w.op = 0x10)
    (hi : w.imm = 0) : Answers (.loop n) s (fun t => (t.seq n).pc = w.tgt + 1 ∧ (t.seq n).pp = (s.m.seq n).pp ∧
      (t.seq n).levels = (s.m.seq n).levels ∧ t.outs = s.m.outs ∧ SameMemory s.m t ∧
      SameRegs [Reg.SEQ_STATUS n, Reg.SEQ_PF_STATUS n, Reg.SEQ_PC n] s.m t) := by
  have hloop : (s.m.setSeq n (s.m.seq n).fetched).loopInstr n w (s.m.seq n).fetched =
      (s.m.setSeq n (s.m.seq n).fetched).branch n (w.tgt + 1) (s.m.seq n).pp (s.m.seq n).fetched := if_pos hi
  refine (answers_goes (isOp 0x10) (Mod.loopInstr n) rfl h (isOp_of_op ho) hloop).mono ?_
  rintro t ⟨hgo, hrest⟩
  exact ⟨hgo.pc, hgo.pp, hgo.keeps Seq.levels, hrest⟩

/-- ENDL of a loop with iterations left. -/
theorem endlInstr_again {n : Nat} {x : Seq} (m : Mod) {l : Level} {rest : List Level} (hl : x.levels = l :: rest)
    (hm : l.isMatch = false) (ht : l.tgt = x.pc) (hc : 1 < l.count) : ∃ a, m.endlInstr n x =
      m.goto n l.body l.pp true { x with levels := { l with count := l.count - 1 } :: rest, align := a } := by
  unfold Mod.endlInstr
  rw [hl]
  simp only [ht, hm, hc, ne_eq, not_true_eq_false, Bool.false_eq_true, if_true, if_false]
  exact ⟨_, rfl⟩

theorem answers_endl_again (s : State) (n : Nat) (w : Word4) (l : Level) (rest : List Level)
    (h : s.m.executes n w = true) (ho : w.op = 0x11) (hl : (s.m.seq n).levels = l :: rest) (hm : l.isMatch = false)
    (ht : l.tgt = (s.m.seq n).pc) (hc : 1 < l.count) : Answers (.endl n) s (fun t => (t.seq n).pc = l.body ∧
      (t.seq n).pp = l.pp ∧ (t.seq n).levels = ({ l with count := l.count - 1 } : Level) :: rest ∧ t.outs = s.m.outs ∧
      SameMemory s.m t ∧ SameRegs [Reg.SEQ_STATUS n, Reg.SEQ_PF_STATUS n, Reg.SEQ_PC n] s.m t) := by
  obtain ⟨a, hendl⟩ := endlInstr_again (n := n) (x := (s.m.seq n).fetched) (s.m.setSeq n (s.m.seq n).fetched) hl hm ht hc
  refine (answers_goes (isOp 0x11) (fun _ x m => m.endlInstr n x) rfl h (isOp_of_op ho) hendl).mono ?_
  rintro t ⟨hgo, hrest⟩
  exact ⟨hgo.pc, hgo.pp, hgo.keeps Seq.levels, hrest⟩

/-- Levels are popped innermost first; only the pins of the streams go with them (R180). -/
theorem popLevels_eq : ∀ (k : Nat) (x : Seq), ∃ i p,
    Seq.popLevels k x = { x with levels := x.levels.drop k, iblk := i, pblk := p }
  | 0, x => ⟨x.iblk, x.pblk, rfl⟩
  | k + 1, x => by
    unfold Seq.popLevels
    split
    case h_1 hl => exact ⟨x.iblk, x.pblk, by rw [hl, List.drop_nil, ← hl]⟩
    case h_2 l rest hl =>
      obtain ⟨i, p, h⟩ := popLevels_eq k (Seq.unpin l { x with levels := rest })
      refine ⟨i, p, ?_⟩
      rw [h, hl, List.drop_succ_cons]
      unfold Seq.unpin
      split <;> rfl

/-- ENDL of a loop in its last iteration. -/
theorem endlInstr_ends {n : Nat} {x : Seq} (m : Mod) {l : Level} {rest : List Level} (hl : x.levels = l :: rest)
    (hm : l.isMatch = false) (ht : l.tgt = x.pc) (hc : l.count ≤ 1) : ∃ a i p, m.endlInstr n x =
      m.goto n (x.pc + 1) x.pp false { x with levels := rest, iblk := i, pblk := p, align := a } := by
  obtain ⟨i, p, hpop⟩ := popLevels_eq 1 x
  unfold Mod.endlInstr
  rw [hpop, hl]
  simp only [ht, hm, Nat.not_lt.mpr hc, ne_eq, not_true_eq_false, Bool.false_eq_true, if_false, List.drop_one, List.tail_cons]
  exact ⟨_, i, p, rfl⟩

theorem answers_endl_ends (s : State) (n : Nat) (w : Word4) (l : Level) (rest : List Level)
    (h : s.m.executes n w = true) (ho : w.op = 0x11) (hl : (s.m.seq n).levels = l :: rest) (hm : l.isMatch = false)
    (ht : l.tgt = (s.m.seq n).pc) (hc : l.count ≤ 1) : Answers (.endl n) s (fun t =>
      (t.seq n).pc = (s.m.seq n).pc + 1 ∧ (t.seq n).pp = (s.m.seq n).pp ∧ (t.seq n).levels = rest ∧ t.outs = s.m.outs ∧
      SameMemory s.m t ∧ SameRegs [Reg.SEQ_STATUS n, Reg.SEQ_PF_STATUS n, Reg.SEQ_PC n] s.m t) := by
  obtain ⟨a, i, p, hendl⟩ :=
    endlInstr_ends (n := n) (x := (s.m.seq n).fetched) (s.m.setSeq n (s.m.seq n).fetched) hl hm ht hc
  refine (answers_goes (isOp 0x11) (fun _ x m => m.endlInstr n x) rfl h (isOp_of_op ho) hendl).mono ?_
  rintro t ⟨hgo, hrest⟩
  exact ⟨hgo.pc, hgo.pp, hgo.keeps Seq.levels, hrest⟩

/-! ### CALL and RET (R164) -/

theorem answers_call (s : State) (n : Nat) (w : Word4) (h : s.m.executes n w = true) (ho : w.op = 0x12)
    (hf : (s.m.seq n).frames.length < 16) : Answers (.call n) s (fun t => (t.seq n).pc = w.tgt ∧ (t.seq n).pp = w.prow ∧
      (t.seq n).frames = ⟨(s.m.seq n).pc + 1, (s.m.seq n).pp, (s.m.seq n).levels.length⟩ :: (s.m.seq n).frames ∧
      t.outs = s.m.outs ∧ SameMemory s.m t ∧
      SameRegs [Reg.SEQ_STATUS n, Reg.SEQ_PF_STATUS n, Reg.SEQ_PC n] s.m t) := by
  have hcall : (s.m.setSeq n (s.m.seq n).fetched).callInstr n w (s.m.seq n).fetched =
      (s.m.setSeq n (s.m.seq n).fetched).branch n w.tgt w.prow { (s.m.seq n).fetched with
        frames := ⟨(s.m.seq n).pc + 1, (s.m.seq n).pp, (s.m.seq n).levels.length⟩ :: (s.m.seq n).frames } :=
    if_neg (Nat.not_le.mpr hf)
  refine (answers_goes (isOp 0x12) (Mod.callInstr n) rfl h (isOp_of_op ho) hcall).mono ?_
  rintro t ⟨hgo, hrest⟩
  exact ⟨hgo.pc, hgo.pp, hgo.keeps Seq.frames, hrest⟩

theorem retInstr_returns (n : Nat) {x : Seq} (m : Mod) {f : Frame} {rest : List Frame} (hf : x.frames = f :: rest)
    (hd : f.depth = x.levels.length) : m.retInstr n x = m.branch n f.pc f.pp { x with frames := rest } := by
  unfold Mod.retInstr
  rw [hf]
  exact if_neg (not_not.mpr hd)

theorem answers_ret (s : State) (n : Nat) (w : Word4) (f : Frame) (rest : List Frame) (h : s.m.executes n w = true)
    (ho : w.op = 0x13) (hf : (s.m.seq n).frames = f :: rest) (hd : f.depth = (s.m.seq n).levels.length) :
    Answers (.ret n) s (fun t => (t.seq n).pc = f.pc ∧ (t.seq n).pp = f.pp ∧ (t.seq n).frames = rest ∧
      t.outs = s.m.outs ∧ SameMemory s.m t ∧
      SameRegs [Reg.SEQ_STATUS n, Reg.SEQ_PF_STATUS n, Reg.SEQ_PC n] s.m t) := by
  have hret := retInstr_returns n (x := (s.m.seq n).fetched) (s.m.setSeq n (s.m.seq n).fetched) hf hd
  refine (answers_goes (isOp 0x13) (fun _ x m => m.retInstr n x) rfl h (isOp_of_op ho) hret).mono ?_
  rintro t ⟨hgo, hrest⟩
  exact ⟨hgo.pc, hgo.pp, hgo.keeps Seq.frames, hrest⟩

/-! ### JMP and JCC (R165, R168) -/

/-- A jump that pops no more levels than are open. -/
theorem jump_eq (n : Nat) (w : Word4) (x : Seq) (m : Mod) (hl : w.mod / 32 ≤ x.levels.length) : ∃ a i p,
    m.jump n w x = m.goto n w.tgt w.prow true { x with
      levels := x.levels.drop (w.mod / 32)
      align := a
      iblk := i
      pblk := p } := by
  obtain ⟨i, p, hpop⟩ := popLevels_eq (w.mod / 32) x
  unfold Mod.jump
  dsimp only
  rw [if_neg (Nat.not_lt.mpr hl), hpop]
  exact ⟨_, i, p, rfl⟩

theorem answers_jmp (s : State) (n : Nat) (w : Word4) (h : s.m.executes n w = true) (ho : w.op = 0x14)
    (hl : w.mod / 32 ≤ (s.m.seq n).levels.length) : Answers (.jmp n) s (fun t => (t.seq n).pc = w.tgt ∧
      (t.seq n).pp = w.prow ∧ (t.seq n).levels = (s.m.seq n).levels.drop (w.mod / 32) ∧ t.outs = s.m.outs ∧
      SameMemory s.m t ∧ SameRegs [Reg.SEQ_STATUS n, Reg.SEQ_PF_STATUS n, Reg.SEQ_PC n] s.m t) := by
  obtain ⟨a, i, p, hjump⟩ := jump_eq n w (s.m.seq n).fetched (s.m.setSeq n (s.m.seq n).fetched) hl
  refine (answers_goes (isOp 0x14) (fun w x m => m.jump n w x) rfl h (isOp_of_op ho) hjump).mono ?_
  rintro t ⟨hgo, hrest⟩
  exact ⟨hgo.pc, hgo.pp, hgo.keeps Seq.levels, hrest⟩

/-- A sequencer that follows no primary decides by itself. -/
theorem takeDec_own {n : Nat} {m : Mod} (hm : (m.seq n).mirror = false) (kind : Nat) (vec : Option Nat) :
    m.takeDec n kind vec = (none, m) := by
  rw [Mod.takeDec, hm]
  rfl

/-- Outside a working pair no decision is recorded. -/
theorem sendDec_alone {m : Mod} (hp : m.pairActive = false) (n kind outcome vec : Nat) :
    m.sendDec n kind outcome vec = m := by
  rw [Mod.sendDec, hp]
  rfl

/-- CLEAR of a JCC reaches SEQn_FLAGS alone. -/
theorem seqOnly_jccClear (n cond flag : Nat) (m : Mod) : SeqOnly n [Reg.SEQ_FLAGS n] m (m.jccClear n cond flag) := by
  have hwr (f : Fld) (v : Nat) : SeqOnly n [Reg.SEQ_FLAGS n] m (m.wr (Reg.SEQ_FLAGS n) f v) :=
    (SeqOnly.refl _ _ m).wr _ _ _ List.mem_cons_self
  unfold Mod.jccClear
  dsimp only
  split <;> exact hwr _ _

/-- The module after CLEAR of a JCC, where it has one. -/
def Mod.jccCleared (n : Nat) (w : Word4) (m : Mod) : Mod := m.when (nbit w.mod 4) (Mod.jccClear n (w.mod % 16) (w.c16 % 16))

theorem seqOnly_jccCleared (n : Nat) (w : Word4) (m : Mod) : SeqOnly n [Reg.SEQ_FLAGS n] m (m.jccCleared n w) :=
  (SeqOnly.refl _ _ m).when _ _ (seqOnly_jccClear n _ _ m)

theorem seq_jccCleared (n : Nat) (w : Word4) (m : Mod) : (m.jccCleared n w).seq n = m.seq n := by
  unfold Mod.jccCleared Mod.when Mod.jccClear
  split
  · dsimp only
    split <;> rfl
  · rfl

/-- The decision of a JCC by its own condition. -/
theorem jccDecide_own {n : Nat} {m : Mod} (w : Word4) (x : Seq) (hm : (m.seq n).mirror = false)
    (hp : m.pairActive = false) : m.jccDecide n w x =
      if m.jccCond n (w.mod % 16) (w.c16 % 16) then (m.jccCleared n w).jump n w x else (m.jccCleared n w).nextInstr n x := by
  unfold Mod.jccDecide
  dsimp only
  rw [takeDec_own hm]
  dsimp only
  rw [sendDec_alone hp]
  rfl

/-- A JCC on a condition that waits for no result is decided at once. -/
theorem jccInstr_decides {n : Nat} {m : Mod} (w : Word4) (x : Seq) (h2 : 2 ≤ w.mod % 16) (h8 : w.mod % 16 < 8) :
    m.jccInstr n w x = m.jccDecide n w x := by
  unfold Mod.jccInstr
  dsimp only
  rw [if_neg (Nat.not_le.mpr h8), if_neg (Nat.not_lt.mpr h2)]

theorem answers_jcc_taken (s : State) (n : Nat) (w : Word4) (h : s.m.executes n w = true) (ho : w.op = 0x15)
    (h2 : 2 ≤ w.mod % 16) (h8 : w.mod % 16 < 8) (hl : w.mod / 32 ≤ (s.m.seq n).levels.length)
    (hm : (s.m.seq n).mirror = false) (hp : s.m.pairActive = false)
    (hc : s.m.jccCond n (w.mod % 16) (w.c16 % 16) = true) : Answers (.jcc n) s (fun t => (t.seq n).pc = w.tgt ∧
      (t.seq n).pp = w.prow ∧ (t.seq n).levels = (s.m.seq n).levels.drop (w.mod / 32) ∧ t.outs = s.m.outs ∧
      SameMemory s.m t ∧
      SameRegs [Reg.SEQ_STATUS n, Reg.SEQ_PF_STATUS n, Reg.SEQ_PC n, Reg.SEQ_FLAGS n] s.m t) := by
  obtain ⟨a, i, p, hjump⟩ :=
    jump_eq n w (s.m.seq n).fetched ((s.m.setSeq n (s.m.seq n).fetched).jccCleared n w) hl
  have hown : ((s.m.setSeq n (s.m.seq n).fetched).seq n).mirror = false := by rwa [Mod.seq_setSeq_self]
  have hcond : (s.m.setSeq n (s.m.seq n).fetched).jccCond n (w.mod % 16) (w.c16 % 16) = true := hc
  have hjcc := (jccInstr_decides w (s.m.seq n).fetched h2 h8).trans (jccDecide_own w (s.m.seq n).fetched hown hp)
  rw [if_pos hcond, hjump] at hjcc
  refine (answers_executes_goto (isOp 0x15) (Mod.jccInstr n) rfl h (isOp_of_op ho) hjcc (seqShows_subset n)
    ((seqOnly_fetched n _ s.m).trans ((seqOnly_jccCleared n w _).mono (seqFlags_subset n)))).mono ?_
  rintro t ⟨hgo, hrest⟩
  exact ⟨hgo.pc, hgo.pp, hgo.keeps Seq.levels, hrest⟩

theorem answers_jcc_notTaken (s : State) (n : Nat) (w : Word4) (h : s.m.executes n w = true) (ho : w.op = 0x15)
    (h2 : 2 ≤ w.mod % 16) (h8 : w.mod % 16 < 8) (hm : (s.m.seq n).mirror = false) (hp : s.m.pairActive = false)
    (hc : s.m.jccCond n (w.mod % 16) (w.c16 % 16) = false) : Answers (.jcc n) s (fun t =>
      (t.seq n).pc = (s.m.seq n).pc + 1 ∧ (t.seq n).pp = (s.m.seq n).pp ∧ (t.seq n).levels = (s.m.seq n).levels ∧
      t.outs = s.m.outs ∧ SameMemory s.m t ∧
      SameRegs [Reg.SEQ_STATUS n, Reg.SEQ_PF_STATUS n, Reg.SEQ_PC n, Reg.SEQ_FLAGS n] s.m t) := by
  have hown : ((s.m.setSeq n (s.m.seq n).fetched).seq n).mirror = false := by rwa [Mod.seq_setSeq_self]
  have hcond : (s.m.setSeq n (s.m.seq n).fetched).jccCond n (w.mod % 16) (w.c16 % 16) = false := hc
  have hjcc := (jccInstr_decides w (s.m.seq n).fetched h2 h8).trans (jccDecide_own w (s.m.seq n).fetched hown hp)
  rw [if_neg (Bool.eq_false_iff.mp hcond)] at hjcc
  refine (answers_executes_goto (isOp 0x15) (Mod.jccInstr n) rfl h (isOp_of_op ho) hjcc (seqShows_subset n)
    ((seqOnly_fetched n _ s.m).trans ((seqOnly_jccCleared n w _).mono (seqFlags_subset n)))).mono ?_
  rintro t ⟨hgo, hrest⟩
  exact ⟨hgo.pc, hgo.pp, hgo.keeps Seq.levels, hrest⟩

/-! ### The beginning of a wait (R167, R171) -/

/-- The entry of a sequencer that begins a wait: its hold vector, the result times and the control words before it stand
from now. -/
def Seq.waiting (k : Wait) (x : Seq) : Seq :=
  { x with wait := some k, whold := x.hold, waitRes := x.lastRes, ctlPre := x.ctl.length }

/-- A sequencer begins a wait. -/
def Mod.waits (n : Nat) (k : Wait) (x : Seq) (m : Mod) : Mod := (m.putSeq n (x.waiting k)).setSeqState n 4

/-- A wait that begins while no PAUSE is asked. -/
theorem beginWait_eq {n : Nat} {m : Mod} (k : Wait) (x : Seq)
    (hp : m.flag (Reg.SEQ_STATUS n) Fields.SEQ_STATUS.PAUSE_PENDING = false) : m.beginWait n k x = m.waits n k x :=
  tryPause_unasked ((pausePending_setSeqState n _ 4).trans ((pausePending_putSeq n _ m).trans hp))

section
variable (n : Nat) (k : Wait) (x : Seq) (m : Mod)

theorem seqOnly_waits : SeqOnly n (seqShows n) m (m.waits n k x) :=
  (seqOnly_putSeq n _ m).trans (seqOnly_setSeqState n _ 4)

theorem seq_waits : (m.waits n k x).seq n = x.waiting k := (seq_setSeqState n _ 4).trans (seq_putSeq n _ m)

theorem seqState_waits : (m.waits n k x).seqState n = 4 := seqState_setSeqState n _ 4 (by decide)

end

/-- The command of an instruction that begins a wait. -/
theorem answers_waits {s : State} {n : Nat} {w : Word4} {c : Instr} (own : Word4 → Bool) (f : Word4 → Seq → Mod → Mod)
    {k : Wait} {x : Seq} (hc : exec c s = run (decide (n < 32)) (Mod.execInstr n own f) s) (h : s.m.executes n w = true)
    (hown : own w = true) (hf : f w (s.m.seq n).fetched (s.m.setSeq n (s.m.seq n).fetched) =
      (s.m.setSeq n (s.m.seq n).fetched).waits n k x) : Answers c s (fun t =>
      (t.seq n = x.waiting k ∧ t.seqState n = 4) ∧ t.outs = s.m.outs ∧ SameMemory s.m t ∧
      SameRegs [Reg.SEQ_STATUS n, Reg.SEQ_PF_STATUS n, Reg.SEQ_PC n] s.m t) :=
  answers_executes own f hc h hown hf ((seqOnly_fetched n _ s.m).trans (seqOnly_waits n k x _))
    ⟨seq_waits n k x _, seqState_waits n k x _⟩

/-- The entry fetched is asked for no pause. -/
theorem pausePending_fetched {m : Mod} {n : Nat} {w : Word4} (h : m.executes n w = true) :
    (m.setSeq n (m.seq n).fetched).flag (Reg.SEQ_STATUS n) Fields.SEQ_STATUS.PAUSE_PENDING = false :=
  ((seqOnly_fetched n [] m).flag List.not_mem_nil _).trans (executing h).pausePending

/-- A JCC on FAIL waits for its result (R168). -/
theorem jccInstr_waits {n : Nat} {m : Mod} (w : Word4) (x : Seq) (h2 : w.mod % 16 < 2) (hh : x.hold.isSome = true) :
    m.jccInstr n w x = m.beginWait n .jcc x := by
  have hnone : ¬ (x.hold.isNone = true) := by rw [Option.isNone_eq_false_iff.mpr hh]; exact Bool.false_ne_true
  unfold Mod.jccInstr
  dsimp only
  rw [if_neg (show ¬ 8 ≤ w.mod % 16 by omega), if_pos h2, if_neg hnone]

theorem answers_jcc_waits (s : State) (n : Nat) (w : Word4) (h : s.m.executes n w = true) (ho : w.op = 0x15)
    (h2 : w.mod % 16 < 2) (hh : (s.m.seq n).hold.isSome = true) : Answers (.jcc n) s (fun t =>
      (t.seq n).pc = (s.m.seq n).pc ∧ (t.seq n).wait = some Wait.jcc ∧ t.seqState n = 4 ∧ t.outs = s.m.outs ∧
      SameMemory s.m t ∧ SameRegs [Reg.SEQ_STATUS n, Reg.SEQ_PF_STATUS n, Reg.SEQ_PC n] s.m t) := by
  have hjcc := (jccInstr_waits (n := n) (m := s.m.setSeq n (s.m.seq n).fetched) w (s.m.seq n).fetched h2 hh).trans
    (beginWait_eq .jcc _ (pausePending_fetched h))
  refine (answers_waits (isOp 0x15) (Mod.jccInstr n) rfl h (isOp_of_op ho) hjcc).mono ?_
  rintro t ⟨⟨hseq, hstate⟩, hrest⟩
  rw [hseq]
  exact ⟨rfl, rfl, hstate, hrest⟩

/-- Settles O30: LOOP, ENDL, CALL, RET, JMP, and JCC taken, not taken and waiting. -/
theorem loopsAndBranches : Obligations.LoopsAndBranches :=
  ⟨answers_loop, answers_loop_none, answers_endl_again, answers_endl_ends, answers_call, answers_ret, answers_jmp,
    answers_jcc_taken, answers_jcc_notTaken, answers_jcc_waits⟩

end Sys2Proof.Machine
end

section
/-!
PROOF. Vectors, control words, HOLD and END (R160, R162, R171 to R173), and O31.
-/

namespace Sys2Proof.Machine

/-! ### Streams read (R155) -/

/-- What a stream reads depends on SRAM alone. -/
theorem readStream_congr {a b : Mod} (hs : b.sram = a.sram) (hb : b.sramBad = a.sramBad) (blks : List Blk) :
    ∀ (k o : Nat), b.readStream blks o k = a.readStream blks o k
  | 0, _ => rfl
  | k + 1, o => by
    unfold Mod.readStream
    rw [hs, hb, readStream_congr hs hb blks k (o + 1)]

theorem readRow_setSeq (n : Nat) (y x : Seq) (r : Nat) (m : Mod) : (m.setSeq n y).readRow x r = m.readRow x r :=
  readStream_congr (m.setSeq_sram n y) (m.setSeq_sramBad n y) _ _ _

/-! ### VEC and RPT (R162) -/

/-- The vectors of a look-ahead, as far as an instruction fixes them. -/
def lookShown (l : List Vec) : List (Option Nat × List Byte × Nat × Nat) :=
  l.map fun v => (v.row, v.bytes, v.tset, v.instr)

theorem lookShown_place (row : Option Nat) (bs : List Byte) (bank : Bool) (x : Seq) :
    lookShown (x.place row bs bank).look = lookShown x.look ++ [(row, bs, x.tset, x.pc)] := by
  simp [lookShown, Seq.place, Seq.owe]

/-- One vector of an instruction is placed: PC goes on after its last, PP after each of VEC and after the last of RPT. -/
theorem placeRows_one {n : Nat} {rpt bank : Bool} {m : Mod} {bs : List Byte} (hr : (m.seq n).run ≠ 0)
    (hf : m.lookFull n (m.seq n) = false) (hp : (m.seq n).pp < (m.seq n).img.rows)
    (hb : m.readRow (m.seq n) (m.seq n).pp = .ok bs) : m.placeRows n rpt bank 1 =
      m.goto n (if (m.seq n).run = 1 then (m.seq n).pc + 1 else (m.seq n).pc)
        (if rpt && !(m.seq n).run == 1 then (m.seq n).pp else (m.seq n).pp + 1) false
        { (m.seq n).place (some (m.seq n).pp) bs bank with run := (m.seq n).run - 1 } := by
  have hgo : ¬ ((m.seq n).run = 0 ∨ m.lookFull n (m.seq n) = true) := by simp [hr, hf]
  unfold Mod.placeRows
  dsimp only
  rw [if_neg hgo, if_neg (Nat.not_le.mpr hp), hb]
  dsimp only
  unfold Mod.placeRows
  by_cases h1 : (m.seq n).run = 1
  · rw [if_pos h1, if_pos (beq_iff_eq.mpr h1)]
  · rw [if_neg h1, if_neg (mt beq_iff_eq.mp h1)]

/-- The entry of a VEC or RPT that begins, with its count. -/
def Seq.counted (k : Nat) (x : Seq) : Seq := { x.fetched with run := k }

/-- The module as the vectors of an instruction begin to be placed. -/
def Mod.vecBegun (n k : Nat) (m : Mod) : Mod := (m.setSeq n (m.seq n).fetched).setSeq n ((m.seq n).counted k)

theorem seqOnly_vecBegun (n k : Nat) (l : List Nat) (m : Mod) : SeqOnly n l m (m.vecBegun n k) :=
  ((SeqOnly.refl n l m).setSeq _).setSeq _

/-- The entry of a VEC or RPT with its next row placed. -/
def Seq.rowPlaced (k : Nat) (bs : List Byte) (bank : Bool) (x : Seq) : Seq :=
  { (x.counted k).place (some x.pp) bs bank with run := k - 1 }

/-- The first vector of a VEC or RPT. -/
theorem vecInstr_one {n : Nat} {rpt : Bool} {w : Word4} {m : Mod} {bs : List Byte} (h : Executing m n w)
    (ho : w.op = if rpt then 0x02 else 0x01) (hi : 0 < w.imm) (hf : m.lookFull n (m.seq n) = false)
    (hp : (m.seq n).pp < (m.seq n).img.rows) (hb : m.readRow (m.seq n) (m.seq n).pp = .ok bs) :
    m.vecInstr n 1 rpt = (m.vecBegun n w.imm).goto n (if w.imm = 1 then (m.seq n).pc + 1 else (m.seq n).pc)
      (if rpt && !w.imm == 1 then (m.seq n).pp else (m.seq n).pp + 1) false
      ((m.seq n).rowPlaced w.imm bs (nbit w.mod 0)) := by
  have hx : (m.vecBegun n w.imm).seq n = (m.seq n).counted w.imm := Mod.seq_setSeq_self _ n _
  have hfull : (m.vecBegun n w.imm).lookFull n ((m.vecBegun n w.imm).seq n) = false := by rw [hx]; exact hf
  have hread : (m.vecBegun n w.imm).readRow ((m.vecBegun n w.imm).seq n) ((m.vecBegun n w.imm).seq n).pp = .ok bs := by
    rw [hx, Mod.vecBegun, readRow_setSeq, readRow_setSeq]
    exact hb
  have hplace := placeRows_one (rpt := rpt) (bank := nbit w.mod 0) (by rw [hx]; exact hi.ne') hfull
    (by rw [hx]; exact hp) hread
  rw [hx] at hplace
  unfold Mod.vecInstr
  dsimp only
  rw [if_pos h.run, execInstr_eq _ h (isOp_of_op ho), if_neg hi.ne']
  exact hplace

/-- The command of a VEC or RPT that places its next row. -/
theorem answers_vector {s : State} {n : Nat} {c : Instr} {wf rpt : Bool} {w : Word4} {bs : List Byte}
    (hc : exec c s = run wf (Mod.vecInstr n 1 rpt) s) (hwf : n < 32 → wf = true) (h : s.m.executes n w = true)
    (ho : w.op = if rpt then 0x02 else 0x01) (hi : 0 < w.imm) (hf : s.m.lookFull n (s.m.seq n) = false)
    (hp : (s.m.seq n).pp < (s.m.seq n).img.rows) (hb : s.m.readRow (s.m.seq n) (s.m.seq n).pp = .ok bs) :
    Answers c s (fun t => lookShown (t.seq n).look = lookShown (s.m.seq n).look ++
        [(some (s.m.seq n).pp, bs, (s.m.seq n).tset, (s.m.seq n).pc)] ∧ (t.seq n).run = w.imm - 1 ∧
      (t.seq n).pp = (if rpt && !w.imm == 1 then (s.m.seq n).pp else (s.m.seq n).pp + 1) ∧
      (t.seq n).pc = (if w.imm = 1 then (s.m.seq n).pc + 1 else (s.m.seq n).pc) ∧ t.outs = s.m.outs ∧ SameMemory s.m t ∧
      SameRegs [Reg.SEQ_STATUS n, Reg.SEQ_PF_STATUS n, Reg.SEQ_PC n] s.m t) := by
  have he := executing h
  have hlook := lookShown_place (some (s.m.seq n).pp) bs (nbit w.mod 0) ((s.m.seq n).counted w.imm)
  refine (answers_seq (P := fun t => Seq.GoesTo _ _ ((s.m.seq n).rowPlaced w.imm bs (nbit w.mod 0)) (t.seq n)) hc (hwf he.lt)
    he.halted (vecInstr_one he ho hi hf hp hb)
    ((seqOnly_vecBegun n w.imm _ s.m).trans (seqOnly_goto n _ _ _ _ _)) (seq_goto n _ _ _ _ _)).mono ?_
  rintro t ⟨hgo, hrest⟩
  exact ⟨(congrArg lookShown (hgo.keeps Seq.look)).trans hlook, hgo.keeps Seq.run, hgo.pp, hgo.pc, hrest⟩

theorem answers_vec (s : State) (n : Nat) (w : Word4) (bs : List Byte) (h : s.m.executes n w = true) (ho : w.op = 0x01)
    (hi : 0 < w.imm) (hf : s.m.lookFull n (s.m.seq n) = false) (hp : (s.m.seq n).pp < (s.m.seq n).img.rows)
    (hb : s.m.readRow (s.m.seq n) (s.m.seq n).pp = .ok bs) : Answers (.vec n 1) s (fun t =>
      (t.seq n).look.map (fun v => (v.row, v.bytes, v.tset, v.instr)) =
        (s.m.seq n).look.map (fun v => (v.row, v.bytes, v.tset, v.instr)) ++
          [(some (s.m.seq n).pp, bs, (s.m.seq n).tset, (s.m.seq n).pc)] ∧
      (t.seq n).run = w.imm - 1 ∧ (t.seq n).pp = (s.m.seq n).pp + 1 ∧
      (t.seq n).pc = (if w.imm = 1 then (s.m.seq n).pc + 1 else (s.m.seq n).pc) ∧ t.outs = s.m.outs ∧ SameMemory s.m t ∧
      SameRegs [Reg.SEQ_STATUS n, Reg.SEQ_PF_STATUS n, Reg.SEQ_PC n] s.m t) :=
  answers_vector (rpt := false) rfl (fun hn => by simp [Wf.vec, hn]) h ho hi hf hp hb

theorem answers_rpt (s : State) (n : Nat) (w : Word4) (bs : List Byte) (h : s.m.executes n w = true) (ho : w.op = 0x02)
    (hi : 0 < w.imm) (hf : s.m.lookFull n (s.m.seq n) = false) (hp : (s.m.seq n).pp < (s.m.seq n).img.rows)
    (hb : s.m.readRow (s.m.seq n) (s.m.seq n).pp = .ok bs) : Answers (.rpt n 1) s (fun t =>
      (t.seq n).look.map (fun v => (v.row, v.bytes, v.tset, v.instr)) =
        (s.m.seq n).look.map (fun v => (v.row, v.bytes, v.tset, v.instr)) ++
          [(some (s.m.seq n).pp, bs, (s.m.seq n).tset, (s.m.seq n).pc)] ∧
      (t.seq n).run = w.imm - 1 ∧ (t.seq n).pp = (if w.imm = 1 then (s.m.seq n).pp + 1 else (s.m.seq n).pp) ∧
      (t.seq n).pc = (if w.imm = 1 then (s.m.seq n).pc + 1 else (s.m.seq n).pc) ∧ t.outs = s.m.outs ∧ SameMemory s.m t ∧
      SameRegs [Reg.SEQ_STATUS n, Reg.SEQ_PF_STATUS n, Reg.SEQ_PC n] s.m t) := by
  have hpp : (if true && !w.imm == 1 then (s.m.seq n).pp else (s.m.seq n).pp + 1) =
      if w.imm = 1 then (s.m.seq n).pp + 1 else (s.m.seq n).pp := by
    by_cases h1 : w.imm = 1
    · simp [h1]
    · simp [h1]
  have hrpt := answers_vector (c := .rpt n 1) (rpt := true) rfl (fun hn => by simp [Wf.rpt, hn]) h ho hi hf hp hb
  rwa [hpp] at hrpt

/-! ### Control words (R158, R171) -/

/-- An instruction that sends a control word with the next vector. -/
theorem answers_control {s : State} {n : Nat} {c : Instr} (own : Word4 → Bool) (f : Word4 → Seq → Mod → Mod) {w : Word4}
    {k : Ctl} {x : Seq} (hc : exec c s = run (decide (n < 32)) (Mod.execInstr n own f) s) (h : s.m.executes n w = true)
    (hown : own w = true) (hf : f w (s.m.seq n).fetched (s.m.setSeq n (s.m.seq n).fetched) =
      (s.m.setSeq n (s.m.seq n).fetched).ctlInstr n k x) : Answers c s (fun t =>
      Seq.GoesTo (x.pc + 1) x.pp { x with ctl := x.ctl ++ [k] } (t.seq n) ∧ t.outs = s.m.outs ∧ SameMemory s.m t ∧
      SameRegs [Reg.SEQ_STATUS n, Reg.SEQ_PF_STATUS n, Reg.SEQ_PC n] s.m t) :=
  answers_goes own f hc h hown hf

theorem tsetInstr_eq {n : Nat} {m : Mod} {w : Word4} {x : Seq} (hf : formatPeriod x.img.format ≤ m.period n (w.c16 % 64))
    (hp : x.img.minPeriod ≤ m.period n (w.c16 % 64)) : ∃ a, m.tsetInstr n w x =
      m.ctlInstr n (.tset (w.c16 % 64)) { x with tset := w.c16 % 64, align := a } := by
  unfold Mod.tsetInstr
  dsimp only
  rw [if_neg (Nat.not_lt.mpr hf), if_neg (Nat.not_lt.mpr hp)]
  exact ⟨_, rfl⟩

theorem answers_tset (s : State) (n : Nat) (w : Word4) (h : s.m.executes n w = true) (ho : w.op = 0x21)
    (hf : formatPeriod (s.m.seq n).img.format ≤ s.m.period n (w.c16 % 64))
    (hp : (s.m.seq n).img.minPeriod ≤ s.m.period n (w.c16 % 64)) : Answers (.tset n) s (fun t =>
      (t.seq n).ctl = (s.m.seq n).ctl ++ [.tset (w.c16 % 64)] ∧ (t.seq n).tset = w.c16 % 64 ∧
      (t.seq n).pc = (s.m.seq n).pc + 1 ∧ t.outs = s.m.outs ∧ SameMemory s.m t ∧
      SameRegs [Reg.SEQ_STATUS n, Reg.SEQ_PF_STATUS n, Reg.SEQ_PC n] s.m t) := by
  obtain ⟨a, htset⟩ := tsetInstr_eq (n := n) (m := s.m.setSeq n (s.m.seq n).fetched) (x := (s.m.seq n).fetched) hf hp
  refine (answers_control (isOp 0x21) (Mod.tsetInstr n) rfl h (isOp_of_op ho) htset).mono ?_
  rintro t ⟨hgo, hrest⟩
  exact ⟨hgo.keeps Seq.ctl, hgo.keeps Seq.tset, hgo.pc, hrest⟩

theorem answers_lset (s : State) (n : Nat) (w : Word4) (h : s.m.executes n w = true) (ho : w.op = 0x22) :
    Answers (.lset n) s (fun t => (t.seq n).ctl = (s.m.seq n).ctl ++ [.lset (w.c16 % 256)] ∧
      (t.seq n).pc = (s.m.seq n).pc + 1 ∧ t.outs = s.m.outs ∧ SameMemory s.m t ∧
      SameRegs [Reg.SEQ_STATUS n, Reg.SEQ_PF_STATUS n, Reg.SEQ_PC n] s.m t) := by
  refine (answers_control (isOp 0x22) (fun w x m => m.ctlInstr n (.lset (w.c16 % 256)) x) rfl h (isOp_of_op ho) rfl).mono ?_
  rintro t ⟨hgo, hrest⟩
  exact ⟨hgo.keeps Seq.ctl, hgo.pc, hrest⟩

theorem isSig_of_op {w : Word4} {kind : Nat} (ho : w.op = 0x23) (hk : w.mod % 16 = kind) : isSig kind w = true := by
  simp [isSig, ho, hk]

/-- SIG of a kind other than 5 and 6 sends a control word. -/
theorem sigInstr_sends {n : Nat} (m : Mod) {w : Word4} (x : Seq) {kind : Nat} (hk : w.mod % 16 = kind) (h5 : kind < 5)
    (hl : w.c16 % 64 < sigRange kind) : m.sigInstr n w x = m.ctlInstr n (.sig kind (w.c16 % 64)) x := by
  subst hk
  unfold Mod.sigInstr
  dsimp only
  rw [if_neg (Nat.not_le.mpr hl), if_neg (show ¬ w.mod % 16 = 5 by omega), if_neg (show ¬ w.mod % 16 = 6 by omega)]

theorem answers_sig {s : State} {n : Nat} {w : Word4} {c : Instr} {kind : Nat}
    (hc : exec c s = run (decide (n < 32)) (Mod.execInstr n (isSig kind) (Mod.sigInstr n)) s) (h5 : kind < 5)
    (h : s.m.executes n w = true) (ho : w.op = 0x23) (hk : w.mod % 16 = kind) (hl : w.c16 % 64 < sigRange kind) :
    Answers c s (fun t => (t.seq n).ctl = (s.m.seq n).ctl ++ [.sig kind (w.c16 % 64)] ∧
      (t.seq n).pc = (s.m.seq n).pc + 1 ∧ t.outs = s.m.outs ∧ SameMemory s.m t ∧
      SameRegs [Reg.SEQ_STATUS n, Reg.SEQ_PF_STATUS n, Reg.SEQ_PC n] s.m t) := by
  refine (answers_control (isSig kind) (Mod.sigInstr n) hc h (isSig_of_op ho hk) (sigInstr_sends _ _ hk h5 hl)).mono ?_
  rintro t ⟨hgo, hrest⟩
  exact ⟨hgo.keeps Seq.ctl, hgo.pc, hrest⟩

/-! ### User flags (R171) -/

/-- The entry goes on behind a change of one user flag. -/
theorem answers_userFlag {s : State} {n : Nat} {w : Word4} {c : Instr} {kind k : Nat} {v : Bool}
    (hc : exec c s = run (decide (n < 32)) (Mod.execInstr n (isSig kind) (Mod.sigInstr n)) s)
    (h : s.m.executes n w = true) (ho : w.op = 0x23) (hk : w.mod % 16 = kind) (hl : k < 16)
    (hf : (s.m.setSeq n (s.m.seq n).fetched).sigInstr n w (s.m.seq n).fetched =
      ((s.m.setSeq n (s.m.seq n).fetched).wr (Reg.SEQ_FLAGS n) ⟨k, 1⟩ (b2n v)).nextInstr n (s.m.seq n).fetched) :
    Answers c s (fun t => t.flag (Reg.SEQ_FLAGS n) ⟨k, 1⟩ = v ∧ (t.seq n).pc = (s.m.seq n).pc + 1 ∧
      (t.seq n).ctl = (s.m.seq n).ctl ∧ t.outs = s.m.outs ∧ SameMemory s.m t ∧
      SameRegs [Reg.SEQ_STATUS n, Reg.SEQ_PF_STATUS n, Reg.SEQ_PC n, Reg.SEQ_FLAGS n] s.m t) := by
  have hwr : SeqOnly n (seqFlagShows n) s.m ((s.m.setSeq n (s.m.seq n).fetched).wr (Reg.SEQ_FLAGS n) ⟨k, 1⟩ (b2n v)) :=
    (seqOnly_fetched n _ s.m).wr _ _ _ (by simp [seqFlagShows])
  have hflag : ((s.m.setSeq n (s.m.seq n).fetched).wr (Reg.SEQ_FLAGS n) ⟨k, 1⟩ (b2n v)).flag (Reg.SEQ_FLAGS n) ⟨k, 1⟩ = v := by
    rw [Mod.flag, Mod.rd_wr_self _ _ _ _ (show k + 1 ≤ 32 by omega)]
    cases v <;> rfl
  have hgo := seqOnly_goto n ((s.m.seq n).fetched.pc + 1) (s.m.seq n).fetched.pp false (s.m.seq n).fetched
    ((s.m.setSeq n (s.m.seq n).fetched).wr (Reg.SEQ_FLAGS n) ⟨k, 1⟩ (b2n v))
  refine (answers_executes (P := fun t => t.flag (Reg.SEQ_FLAGS n) ⟨k, 1⟩ = v ∧
      Seq.GoesTo ((s.m.seq n).fetched.pc + 1) (s.m.seq n).fetched.pp (s.m.seq n).fetched (t.seq n))
    (isSig kind) (Mod.sigInstr n) hc h (isSig_of_op ho hk) hf (hwr.trans (hgo.mono (seqShows_subset n)))
    ⟨(hgo.flag (seqFlags_notMem n) _).trans hflag, seq_goto n _ _ _ _ _⟩).mono ?_
  rintro t ⟨⟨hset, hto⟩, hrest⟩
  exact ⟨hset, hto.pc, hto.keeps Seq.ctl, hrest⟩

theorem answers_sigSetFlag (s : State) (n : Nat) (w : Word4) (h : s.m.executes n w = true) (ho : w.op = 0x23)
    (hk : w.mod % 16 = 5) (hl : w.c16 % 64 < 16) : Answers (.sigSetFlag n) s (fun t =>
      t.flag (Reg.SEQ_FLAGS n) ⟨w.c16 % 64, 1⟩ = true ∧ (t.seq n).pc = (s.m.seq n).pc + 1 ∧
      (t.seq n).ctl = (s.m.seq n).ctl ∧ t.outs = s.m.outs ∧ SameMemory s.m t ∧
      SameRegs [Reg.SEQ_STATUS n, Reg.SEQ_PF_STATUS n, Reg.SEQ_PC n, Reg.SEQ_FLAGS n] s.m t) := by
  refine answers_userFlag (kind := 5) rfl h ho hk hl ?_
  unfold Mod.sigInstr
  dsimp only
  rw [hk, if_neg (show ¬ sigRange 5 ≤ w.c16 % 64 from Nat.not_le.mpr hl)]
  rfl

theorem answers_sigClearFlag (s : State) (n : Nat) (w : Word4) (h : s.m.executes n w = true) (ho : w.op = 0x23)
    (hk : w.mod % 16 = 6) (hl : w.c16 % 64 < 16) : Answers (.sigClearFlag n) s (fun t =>
      t.flag (Reg.SEQ_FLAGS n) ⟨w.c16 % 64, 1⟩ = false ∧ (t.seq n).pc = (s.m.seq n).pc + 1 ∧
      (t.seq n).ctl = (s.m.seq n).ctl ∧ t.outs = s.m.outs ∧ SameMemory s.m t ∧
      SameRegs [Reg.SEQ_STATUS n, Reg.SEQ_PF_STATUS n, Reg.SEQ_PC n, Reg.SEQ_FLAGS n] s.m t) := by
  refine answers_userFlag (kind := 6) rfl h ho hk hl ?_
  unfold Mod.sigInstr
  dsimp only
  rw [hk, if_neg (show ¬ sigRange 6 ≤ w.c16 % 64 from Nat.not_le.mpr hl)]
  rfl

/-! ### HOLD (R172) -/

theorem holdOn_eq {n : Nat} {m : Mod} (w : Word4) (x : Seq) {bs : List Byte} (hp : x.pp < x.img.rows)
    (hb : m.readRow x x.pp = .ok bs) (hq : m.flag (Reg.SEQ_STATUS n) Fields.SEQ_STATUS.PAUSE_PENDING = false) :
    m.holdOn n w x = m.goto n (x.pc + 1) (x.pp + 1) false { x with hold := some (x.pp, bs, w.c16 % 64) } := by
  unfold Mod.holdOn
  rw [if_neg (Nat.not_le.mpr hp), hb]
  exact tryPause_unasked ((pausePending_goto n _ _ _ _ m).trans hq)

theorem holdActive_goto (n pc pp : Nat) (far : Bool) (x : Seq) (m : Mod) :
    (m.goto n pc pp far x).flag (Reg.SEQ_STATUS n) Fields.SEQ_STATUS.HOLD_ACTIVE = x.hold.isSome := by
  obtain ⟨y, hy, h⟩ := goto_eq n pc pp far x m
  rw [h, holdActive_putSeq, hy.keeps Seq.hold]

/-- The command of an instruction that goes to another with what HOLD_ACTIVE shows. -/
theorem answers_executes_hold {s : State} {n : Nat} {w : Word4} {c : Instr} (own : Word4 → Bool)
    (f : Word4 → Seq → Mod → Mod) {pc pp : Nat} {x : Seq}
    (hc : exec c s = run (decide (n < 32)) (Mod.execInstr n own f) s) (h : s.m.executes n w = true) (hown : own w = true)
    (hf : f w (s.m.seq n).fetched (s.m.setSeq n (s.m.seq n).fetched) =
      (s.m.setSeq n (s.m.seq n).fetched).goto n pc pp false x) : Answers c s (fun t =>
      (Seq.GoesTo pc pp x (t.seq n) ∧ t.flag (Reg.SEQ_STATUS n) Fields.SEQ_STATUS.HOLD_ACTIVE = x.hold.isSome) ∧
      t.outs = s.m.outs ∧ SameMemory s.m t ∧
      SameRegs [Reg.SEQ_STATUS n, Reg.SEQ_PF_STATUS n, Reg.SEQ_PC n] s.m t) :=
  answers_executes own f hc h hown hf ((seqOnly_fetched n _ s.m).trans (seqOnly_goto n _ _ _ _ _))
    ⟨seq_goto n _ _ _ _ _, holdActive_goto n _ _ _ _ _⟩

theorem answers_holdOn (s : State) (n : Nat) (w : Word4) (bs : List Byte) (h : s.m.executes n w = true) (ho : w.op = 0x25)
    (hon : nbit w.mod 0 = true) (hp : (s.m.seq n).pp < (s.m.seq n).img.rows)
    (hb : s.m.readRow (s.m.seq n) (s.m.seq n).pp = .ok bs) : Answers (.holdOn n) s (fun t =>
      (t.seq n).hold = some ((s.m.seq n).pp, bs, w.c16 % 64) ∧ (t.seq n).pc = (s.m.seq n).pc + 1 ∧
      (t.seq n).pp = (s.m.seq n).pp + 1 ∧ t.flag (Reg.SEQ_STATUS n) Fields.SEQ_STATUS.HOLD_ACTIVE = true ∧
      t.outs = s.m.outs ∧ SameMemory s.m t ∧
      SameRegs [Reg.SEQ_STATUS n, Reg.SEQ_PF_STATUS n, Reg.SEQ_PC n] s.m t) := by
  have hread := (readRow_setSeq n (s.m.seq n).fetched (s.m.seq n).fetched (s.m.seq n).pp s.m).trans hb
  have hhold := holdOn_eq w (s.m.seq n).fetched hp hread (pausePending_fetched h)
  refine (answers_executes_hold (fun w => w.op == 0x25 && nbit w.mod 0) (Mod.holdOn n) rfl h
    (by simp [ho, hon]) hhold).mono ?_
  rintro t ⟨⟨hgo, hactive⟩, hrest⟩
  exact ⟨hgo.keeps Seq.hold, hgo.pc, hgo.pp, hactive, hrest⟩

theorem answers_holdOff (s : State) (n : Nat) (w : Word4) (h : s.m.executes n w = true) (ho : w.op = 0x25)
    (hoff : nbit w.mod 0 = false) : Answers (.holdOff n) s (fun t => (t.seq n).hold = none ∧
      (t.seq n).pc = (s.m.seq n).pc + 1 ∧ t.flag (Reg.SEQ_STATUS n) Fields.SEQ_STATUS.HOLD_ACTIVE = false ∧
      t.outs = s.m.outs ∧ SameMemory s.m t ∧
      SameRegs [Reg.SEQ_STATUS n, Reg.SEQ_PF_STATUS n, Reg.SEQ_PC n] s.m t) := by
  refine (answers_executes_hold (fun w => w.op == 0x25 && !nbit w.mod 0) (fun _ x m => m.holdOff n x) rfl h
    (by simp [ho, hoff]) rfl).mono ?_
  rintro t ⟨⟨hgo, hactive⟩, hrest⟩
  exact ⟨hgo.keeps Seq.hold, hgo.pc, hactive, hrest⟩

/-! ### END (R173) -/

theorem answers_endBurst (s : State) (n : Nat) (w : Word4) (h : s.m.executes n w = true) (ho : w.op = 0x3F) :
    Answers (.endBurst n) s (fun t => (t.seq n).ended = true ∧ (t.seq n).safe = nbit w.mod 0 ∧
      (t.seq n).pc = (s.m.seq n).pc ∧ (t.seq n).look = (s.m.seq n).look ∧ t.outs = s.m.outs ∧ SameMemory s.m t ∧
      SameRegs [Reg.SEQ_STATUS n, Reg.SEQ_PF_STATUS n, Reg.SEQ_PC n] s.m t) := by
  have hseq := seq_putSeq n { (s.m.seq n).fetched with ended := true, safe := nbit w.mod 0 }
    (s.m.setSeq n (s.m.seq n).fetched)
  refine (answers_executes (P := fun t => t.seq n = { (s.m.seq n).fetched with ended := true, safe := nbit w.mod 0 })
    (isOp 0x3F) (Mod.endInstr n) rfl h (isOp_of_op ho) rfl 
    ((seqOnly_fetched n _ s.m).trans (seqOnly_putSeq n _ _)) hseq).mono ?_
  rintro t ⟨ht, hrest⟩
  rw [ht]
  exact ⟨rfl, rfl, rfl, rfl, hrest⟩

/-- Settles O31: vectors, control words, user flags, HOLD and END. -/
theorem vectorsAndControlWords : Obligations.VectorsAndControlWords :=
  ⟨answers_vec, answers_rpt, answers_tset, answers_lset,
    fun _ _ _ h ho hk => answers_sig rfl (by decide) h ho hk, fun _ _ _ h ho hk => answers_sig rfl (by decide) h ho hk,
    fun _ _ _ h ho hk => answers_sig rfl (by decide) h ho hk, fun _ _ _ h ho hk => answers_sig rfl (by decide) h ho hk,
    fun _ _ _ h ho hk => answers_sig rfl (by decide) h ho hk, answers_sigSetFlag, answers_sigClearFlag, answers_holdOn,
    answers_holdOff, answers_endBurst⟩

end Sys2Proof.Machine
end

section
/-!
PROOF. MATCH, WTRG and SYNC, and the ends of waits (R167, R169, R170, R174 to R176), and O32.
-/

namespace Sys2Proof.Machine

/-! ### MATCH (R174) -/

/-- A level of a MATCH is entered. -/
theorem matchInstr_enters {n : Nat} {w : Word4} {x : Seq} (m : Mod) (hmode : w.mod % 4 < 3) (hi : 0 < w.imm)
    (hh : x.hold.isSome = true) (hl : x.levels.length < 8) : ∃ b i p a, m.matchInstr n w x =
      m.goto n (x.pc + 1) x.pp false { x with
        iblk := i
        pblk := p
        align := a
        levels := ⟨true, 1, w.tgt, x.pc + 1, x.pp, w.imm, w.mod % 4, nbit w.mod 2, b, x.frames.length,
          x.mcount + 1⟩ :: x.levels
        mcount := x.mcount + 1
        ctlPre := x.ctl.length
        iterFirst := (x.mcount + 1) :: x.iterFirst } := by
  obtain ⟨b, i, p, h⟩ := pinBody_eq m n (w.c16 % 256) (w.c16 / 256) x
  have hnone : ¬ (x.hold.isNone = true) := by rw [Option.isNone_eq_false_iff.mpr hh]; exact Bool.false_ne_true
  unfold Mod.matchInstr
  dsimp only
  rw [if_neg (show ¬ (w.mod % 4 = 3 ∨ w.imm = 0) by omega), if_neg hnone, if_neg (Nat.not_le.mpr hl), h]
  exact ⟨b, i, p, _, rfl⟩

theorem answers_match (s : State) (n : Nat) (w : Word4) (h : s.m.executes n w = true) (ho : w.op = 0x16)
    (hmode : w.mod % 4 < 3) (hi : 0 < w.imm) (hh : (s.m.seq n).hold.isSome = true) (hl : (s.m.seq n).levels.length < 8) :
    Answers (.matchInstr n) s (fun t => (t.seq n).pc = (s.m.seq n).pc + 1 ∧
      (t.seq n).levels.map (fun l => (l.isMatch, l.count, l.max, l.mode, l.tgt, l.body)) =
        (true, 1, w.imm, w.mod % 4, w.tgt, (s.m.seq n).pc + 1) ::
          (s.m.seq n).levels.map (fun l => (l.isMatch, l.count, l.max, l.mode, l.tgt, l.body)) ∧
      (t.seq n).mcount = (s.m.seq n).mcount + 1 ∧ t.outs = s.m.outs ∧ SameMemory s.m t ∧
      SameRegs [Reg.SEQ_STATUS n, Reg.SEQ_PF_STATUS n, Reg.SEQ_PC n] s.m t) := by
  obtain ⟨b, i, p, a, hmatch⟩ :=
    matchInstr_enters (n := n) (x := (s.m.seq n).fetched) (s.m.setSeq n (s.m.seq n).fetched) hmode hi hh hl
  refine (answers_goes (isOp 0x16) (Mod.matchInstr n) rfl h (isOp_of_op ho) hmatch).mono ?_
  rintro t ⟨hgo, hrest⟩
  refine ⟨hgo.pc, ?_, hgo.keeps Seq.mcount, hrest⟩
  rw [hgo.keeps Seq.levels]
  rfl

/-! ### Waits that end at once or go on (R167) -/

/-- An entry whose wait ends with its decision at SCLK `d`. -/
def Seq.waitEnded (d : Nat) (x : Seq) : Seq := { x with wait := none, resume := some (d + 16), arrived := none }

/-- The wait of a running sequencer has ended. -/
def Mod.waitOver (n d : Nat) (m : Mod) : Mod := (m.setSeq n ((m.seq n).waitEnded d)).setSeqState n 2

section
variable (n d : Nat) (m : Mod)

theorem seq_waitOver : (m.waitOver n d).seq n = (m.seq n).waitEnded d :=
  (seq_setSeqState n _ 2).trans (Mod.seq_setSeq_self m n _)

theorem seqState_waitOver : (m.waitOver n d).seqState n = 2 := seqState_setSeqState n _ 2 (by decide)

theorem seqOnly_waitOver : SeqOnly n (seqShows n) m (m.waitOver n d) :=
  ((SeqOnly.refl _ _ m).setSeq _).trans (seqOnly_setSeqState n _ 2)

theorem endWait_running (hp : (m.seq n).paused = false) : m.endWait n d = m.waitOver n d := by
  have hstate : (if (m.seq n).paused then 3 else 2) = 2 := by rw [hp]; rfl
  exact congrArg (fun v => (m.setSeq n ((m.seq n).waitEnded d)).setSeqState n v) hstate

theorem flag_waitOver (f : Fld) : (m.waitOver n d).flag (Reg.SEQ_FLAGS n) f = m.flag (Reg.SEQ_FLAGS n) f :=
  (seqOnly_waitOver n d m).flag (seqFlags_notMem n) f

end

/-! ### A sequencer that runs on -/

/-- A command after which a running sequencer goes on to an instruction. -/
theorem answers_goesOn {s : State} {n : Nat} {c : Instr} {wf : Bool} {f : Mod → Mod} {l : List Nat} {m : Mod} {pc pp : Nat}
    {far : Bool} {x : Seq} (hc : exec c s = run wf f s) (hw : wf = true) (hh : s.m.flt.halted = false)
    (hf : f s.m = m.goto n pc pp far x) (hl : seqShows n ⊆ l) (hm : SeqOnly n l s.m m) (hst : m.seqState n = 2) :
    Answers c s (fun t => (Seq.GoesTo pc pp x (t.seq n) ∧ t.seqState n = 2 ∧
        ∀ f, t.flag (Reg.SEQ_FLAGS n) f = m.flag (Reg.SEQ_FLAGS n) f) ∧
      t.outs = s.m.outs ∧ SameMemory s.m t ∧ SameRegs l s.m t) :=
  answers_seq (P := fun t => Seq.GoesTo pc pp x (t.seq n) ∧ t.seqState n = 2 ∧
      ∀ f, t.flag (Reg.SEQ_FLAGS n) f = m.flag (Reg.SEQ_FLAGS n) f) hc hw hh hf
    (hm.trans ((seqOnly_goto n _ _ _ _ _).mono hl))
    ⟨seq_goto n _ _ _ _ _, (seqState_goto n _ _ _ _ _).trans hst,
      fun f => (seqOnly_goto n _ _ _ _ _).flag (seqFlags_notMem n) f⟩

/-! ### WTRG (R169) -/

/-- Edges that are all still to come are left. -/
theorem takeEdges_early {n t : Nat} {m : Mod} (h : (m.seq n).edges.all (fun e => decide (t < e.at_)) = true) :
    m.takeEdges n t = m ∨ m.takeEdges n t = m.setSeq n (m.seq n) := by
  rw [List.all_eq_true] at h
  have hlate : (m.seq n).edges.filter (fun e => decide (t < e.at_)) = (m.seq n).edges := List.filter_eq_self.mpr h
  have hnone : (m.seq n).edges.filter (fun e => decide (e.at_ ≤ t)) = [] :=
    List.filter_eq_nil_iff.mpr fun e he => by simpa using h e he
  unfold Mod.takeEdges
  dsimp only
  split
  · exact .inl rfl
  · rw [hlate, hnone]
    exact .inr rfl

theorem takeEdges_nil {n : Nat} {m : Mod} (h : (m.seq n).edges = []) (t : Nat) : m.takeEdges n t = m := by
  unfold Mod.takeEdges
  dsimp only
  rw [h]
  rfl

/-- The entry of a sequencer whose latches a WTRG has cleared. -/
def Seq.unlatched (x : Seq) : Seq := { x with latch := [], edges := [] }

/-- A sequencer that waits at a WTRG runs on as it did, at its instruction. -/
theorem waiting_unlatched (k : Wait) (x : Seq) : (x.fetched.unlatched.waiting k).paused = x.paused ∧
    (x.fetched.unlatched.waiting k).pc = x.pc ∧ x.fetched.sclk = x.sclk := ⟨rfl, rfl, rfl⟩

/-- A WTRG begins its wait, and ends it where its source has been seen. -/
theorem wtrgInstr_eq {n : Nat} {m : Mod} {w : Word4} {x : Seq} (hx : m.seq n = x) (he : x.edges = [])
    (hl : w.c16 % 16 < trigLines (w.c16 / 16)) (hh : x.hold.isSome = true) : m.wtrgInstr n w x =
      if nbit w.mod 0 && x.latch.contains (16 * (w.c16 / 16) + w.c16 % 16) ||
          (w.c16 / 16 == 2 && nbit (m.rd (Reg.SEQ_FLAGS n) Fields.SEQ_FLAGS.USER) (w.c16 % 16)) then
        (m.beginWait n (.trig (w.c16 / 16) (w.c16 % 16) (nbit w.mod 1) w.imm) x.unlatched).wtrgSeen n x.sclk
      else m.beginWait n (.trig (w.c16 / 16) (w.c16 % 16) (nbit w.mod 1) w.imm) x.unlatched := by
  have hnone : ¬ (x.hold.isNone = true) := by rw [Option.isNone_eq_false_iff.mpr hh]; exact Bool.false_ne_true
  have hnil : (m.seq n).edges = [] := (congrArg Seq.edges hx).trans he
  unfold Mod.wtrgInstr
  dsimp only
  rw [takeEdges_nil hnil, if_neg (Nat.not_le.mpr hl), if_neg hnone, hnil, hx]
  rfl

theorem answers_wtrg_waits (s : State) (n : Nat) (w : Word4) (h : s.m.executes n w = true) (ho : w.op = 0x20)
    (hl : w.c16 % 16 < trigLines (w.c16 / 16)) (hh : (s.m.seq n).hold.isSome = true) (he : (s.m.seq n).edges = [])
    (hlatch : (nbit w.mod 0 && (s.m.seq n).latch.contains (16 * (w.c16 / 16) + w.c16 % 16)) = false)
    (hsrc : w.c16 / 16 ≠ 2) : Answers (.wtrg n) s (fun t =>
      (t.seq n).wait = some (.trig (w.c16 / 16) (w.c16 % 16) (nbit w.mod 1) w.imm) ∧ (t.seq n).whold = (s.m.seq n).hold ∧
      (t.seq n).pc = (s.m.seq n).pc ∧ (t.seq n).latch = [] ∧ t.seqState n = 4 ∧ t.outs = s.m.outs ∧ SameMemory s.m t ∧
      SameRegs [Reg.SEQ_STATUS n, Reg.SEQ_PF_STATUS n, Reg.SEQ_PC n] s.m t) := by
  have hwtrg := wtrgInstr_eq (w := w) (Mod.seq_setSeq_self s.m n (s.m.seq n).fetched) he hl hh
  have hseen : ¬ ((nbit w.mod 0 && (s.m.seq n).fetched.latch.contains (16 * (w.c16 / 16) + w.c16 % 16) ||
      (w.c16 / 16 == 2 && nbit ((s.m.setSeq n (s.m.seq n).fetched).rd (Reg.SEQ_FLAGS n) Fields.SEQ_FLAGS.USER)
        (w.c16 % 16))) = true) := by
    rw [show (s.m.seq n).fetched.latch = (s.m.seq n).latch from rfl, hlatch, beq_eq_false_iff_ne.mpr hsrc]
    exact Bool.false_ne_true
  rw [if_neg hseen, beginWait_eq _ _ (pausePending_fetched h)] at hwtrg
  refine (answers_waits (isOp 0x20) (Mod.wtrgInstr n) rfl h (isOp_of_op ho) hwtrg).mono ?_
  rintro t ⟨⟨hseq, hstate⟩, hrest⟩
  rw [hseq]
  generalize s.m.seq n = x
  exact ⟨rfl, rfl, rfl, rfl, hstate, hrest⟩

/-- A wait of a WTRG whose source is seen: TRIG_SEEN is set, and the sequencer goes on behind it. -/
theorem wtrgSeen_eq {n : Nat} {m : Mod} (hn : n < 32) (d : Nat) (hp : (m.seq n).paused = false)
    (ha : m.pairActive = false) : m.wtrgSeen n d =
      ((m.wr (Reg.SEQ_FLAGS n) Fields.SEQ_FLAGS.TRIG_SEEN 1).waitOver n d).nextInstr n ((m.seq n).waitEnded d) := by
  have hwr : SeqOnly n (seqFlagShows n) m (m.wr (Reg.SEQ_FLAGS n) Fields.SEQ_FLAGS.TRIG_SEEN 1) :=
    (SeqOnly.refl _ _ m).wr _ _ _ (by simp [seqFlagShows])
  have hover := hwr.trans ((seqOnly_waitOver n d (m.wr (Reg.SEQ_FLAGS n) Fields.SEQ_FLAGS.TRIG_SEEN 1)).mono
    (seqShows_subset n))
  have hseq : ((m.wr (Reg.SEQ_FLAGS n) Fields.SEQ_FLAGS.TRIG_SEEN 1).waitOver n d).seq n = (m.seq n).waitEnded d :=
    seq_waitOver n d _
  unfold Mod.wtrgSeen
  dsimp only
  rw [endWait_running n d (m.wr (Reg.SEQ_FLAGS n) Fields.SEQ_FLAGS.TRIG_SEEN 1) hp,
    sendDec_alone ((hover.pairActive hn).trans ha), hseq]

theorem answers_wtrg_flag (s : State) (n : Nat) (w : Word4) (h : s.m.executes n w = true) (ho : w.op = 0x20)
    (hsrc : w.c16 / 16 = 2) (hh : (s.m.seq n).hold.isSome = true) (he : (s.m.seq n).edges = [])
    (hu : nbit (s.m.rd (Reg.SEQ_FLAGS n) Fields.SEQ_FLAGS.USER) (w.c16 % 16) = true) (ha : s.m.pairActive = false) :
    Answers (.wtrg n) s (fun t => (t.seq n).wait = none ∧ (t.seq n).resume = some ((s.m.seq n).sclk + 16) ∧
      (t.seq n).pc = (s.m.seq n).pc + 1 ∧ t.flag (Reg.SEQ_FLAGS n) Fields.SEQ_FLAGS.TRIG_SEEN = true ∧
      t.seqState n = 2 ∧ t.outs = s.m.outs ∧ SameMemory s.m t ∧
      SameRegs [Reg.SEQ_STATUS n, Reg.SEQ_PF_STATUS n, Reg.SEQ_PC n, Reg.SEQ_FLAGS n] s.m t) := by
  have hx := executing h
  have hline : w.c16 % 16 < trigLines (w.c16 / 16) := by
    rw [hsrc]
    exact Nat.mod_lt _ (by decide)
  have hseen : (nbit w.mod 0 && (s.m.seq n).fetched.latch.contains (16 * (w.c16 / 16) + w.c16 % 16) ||
      (w.c16 / 16 == 2 && nbit ((s.m.setSeq n (s.m.seq n).fetched).rd (Reg.SEQ_FLAGS n) Fields.SEQ_FLAGS.USER)
        (w.c16 % 16))) = true := by
    rw [(seqOnly_fetched n [] s.m).rd List.not_mem_nil, hu, beq_iff_eq.mpr hsrc]
    simp
  have hwtrg := wtrgInstr_eq (w := w) (Mod.seq_setSeq_self s.m n (s.m.seq n).fetched) he hline hh
  rw [if_pos hseen, beginWait_eq _ _ (pausePending_fetched h)] at hwtrg
  have hwait := ((seqOnly_fetched n _ s.m).trans (seqOnly_waits n
    (.trig (w.c16 / 16) (w.c16 % 16) (nbit w.mod 1) w.imm) (s.m.seq n).fetched.unlatched _)).mono (seqShows_subset n)
  have hentry := seq_waits n (.trig (w.c16 / 16) (w.c16 % 16) (nbit w.mod 1) w.imm) (s.m.seq n).fetched.unlatched
    (s.m.setSeq n (s.m.seq n).fetched)
  generalize (s.m.setSeq n (s.m.seq n).fetched).waits n (.trig (w.c16 / 16) (w.c16 % 16) (nbit w.mod 1) w.imm)
    (s.m.seq n).fetched.unlatched = m at hwtrg hwait hentry
  obtain ⟨hpaused, hpc, hsclk⟩ :=
    waiting_unlatched (.trig (w.c16 / 16) (w.c16 % 16) (nbit w.mod 1) w.imm) (s.m.seq n)
  generalize (s.m.seq n).fetched.unlatched.waiting (.trig (w.c16 / 16) (w.c16 % 16) (nbit w.mod 1) w.imm) = y
    at hentry hpaused hpc
  have hp : (m.seq n).paused = false := by rw [hentry, hpaused, hx.paused]
  rw [wtrgSeen_eq hx.lt _ hp ((hwait.pairActive hx.lt).trans ha), hentry, hsclk] at hwtrg
  have hwr : SeqOnly n (seqFlagShows n) s.m (m.wr (Reg.SEQ_FLAGS n) Fields.SEQ_FLAGS.TRIG_SEEN 1) :=
    hwait.wr _ _ _ (by simp [seqFlagShows])
  have hflag := Mod.flag_wr_one m (Reg.SEQ_FLAGS n) Fields.SEQ_FLAGS.TRIG_SEEN (by decide) rfl
  refine (answers_goesOn (wf := decide (n < 32)) rfl (decide_eq_true hx.lt) hx.halted
    ((execInstr_eq (own := isOp 0x20) (Mod.wtrgInstr n) hx (isOp_of_op ho)).trans hwtrg) (seqShows_subset n)
    (hwr.trans ((seqOnly_waitOver n _ _).mono (seqShows_subset n))) (seqState_waitOver n _ _)).mono ?_
  rintro t ⟨⟨hgo, hstate, hflags⟩, hrest⟩
  exact ⟨hgo.keeps Seq.wait, hgo.keeps Seq.resume, hgo.pc.trans (congrArg (· + 1) hpc),
    (hflags _).trans ((flag_waitOver n _ _ _).trans hflag), hstate, hrest⟩

/-! ### SYNC (R170) -/

/-- A member with vectors still to emit has not arrived. -/
theorem tryArrive_early {n : Nat} {m : Mod} (h : (m.seq n).look ≠ []) : m.tryArrive n = m := by
  have hlook : (m.seq n).look.isEmpty = false := List.isEmpty_eq_false_iff.mpr h
  unfold Mod.tryArrive
  dsimp only
  rw [hlook]
  split <;> rfl

/-- A member of the barrier begins its wait. -/
theorem syncInstr_eq {n : Nat} {m : Mod} {w : Word4} {x : Seq} (hb : (m.barMembers x.mirror (w.c16 % 16)).contains n = true)
    (hh : x.hold.isSome = true) (hl : x.look ≠ [])
    (hp : m.flag (Reg.SEQ_STATUS n) Fields.SEQ_STATUS.PAUSE_PENDING = false) :
    m.syncInstr n w x = m.waits n (.sync (w.c16 % 16) w.imm) x := by
  have hnone : ¬ (x.hold.isNone = true) := by rw [Option.isNone_eq_false_iff.mpr hh]; exact Bool.false_ne_true
  have hout : ¬ ((!(m.barMembers x.mirror (w.c16 % 16)).contains n) = true) := by rw [hb]; exact Bool.false_ne_true
  have hlook : ((m.waits n (.sync (w.c16 % 16) w.imm) x).seq n).look ≠ [] := by
    rw [seq_waits]
    exact hl
  unfold Mod.syncInstr
  dsimp only
  rw [if_neg hout, if_neg hnone, beginWait_eq _ _ hp, tryArrive_early hlook]

theorem answers_sync (s : State) (n : Nat) (w : Word4) (h : s.m.executes n w = true) (ho : w.op = 0x24)
    (hb : (s.m.barMembers (s.m.seq n).mirror (w.c16 % 16)).contains n = true) (hh : (s.m.seq n).hold.isSome = true)
    (hl : (s.m.seq n).look ≠ []) : Answers (.sync n) s (fun t =>
      (t.seq n).wait = some (.sync (w.c16 % 16) w.imm) ∧ (t.seq n).pc = (s.m.seq n).pc ∧ t.seqState n = 4 ∧
      t.outs = s.m.outs ∧ SameMemory s.m t ∧
      SameRegs [Reg.SEQ_STATUS n, Reg.SEQ_PF_STATUS n, Reg.SEQ_PC n] s.m t) := by
  have hsync := syncInstr_eq (n := n) (m := s.m.setSeq n (s.m.seq n).fetched) (x := (s.m.seq n).fetched) hb hh hl
    (pausePending_fetched h)
  refine (answers_waits (isOp 0x24) (Mod.syncInstr n) rfl h (isOp_of_op ho) hsync).mono ?_
  rintro t ⟨⟨hseq, hstate⟩, hrest⟩
  rw [hseq]
  generalize s.m.seq n = x
  exact ⟨rfl, rfl, hstate, hrest⟩

/-! ### Ends of waits (R167) -/

/-- Nothing asks a sequencer to stop or to pause. -/
theorem unasked_iff {m : Mod} {n : Nat} : m.unasked n = true ↔ (m.seq n).request = none ∧ (m.seq n).limitAt = none ∧
    m.flag (Reg.SEQ_STATUS n) Fields.SEQ_STATUS.PAUSE_PENDING = false := by
  simp only [Mod.unasked, Bool.and_eq_true, Bool.not_eq_true', Option.isNone_iff_eq_none, and_assoc]

/-- Of a commit point at which nothing is asked nothing comes. -/
theorem commit_tryPause_unasked {m : Mod} {n : Nat} (h : m.unasked n = true) : (m.commit n).tryPause n = m := by
  obtain ⟨hr, hl, hp⟩ := unasked_iff.mp h
  rw [commit_unasked hr hl, tryPause_unasked hp]

/-- FAIL comes to be set at a result time: SEQn_FLAGS and the result times still to come may change (R166, R220). -/
theorem failsDue_eq (n t : Nat) (m : Mod) : SeqOnly n [Reg.SEQ_FLAGS n] m (m.failsDue n t) ∧
    ∃ e, (m.failsDue n t).seq n = { m.seq n with failAt := e } := by
  unfold Mod.failsDue
  dsimp only
  split
  · exact ⟨((SeqOnly.refl _ _ m).setSeq _).wr _ _ _ List.mem_cons_self, _, Mod.seq_setSeq_self m n _⟩
  · exact ⟨.refl _ _ m, (m.seq n).failAt, rfl⟩

theorem failsDue_nil {n t : Nat} {m : Mod} (h : (m.seq n).failAt = []) : m.failsDue n t = m := by
  unfold Mod.failsDue
  dsimp only
  rw [h]
  rfl

theorem flag_failsDue {n t : Nat} {m : Mod} (h : (m.seq n).failAt.any (fun r => decide (r ≤ t)) = true) :
    (m.failsDue n t).flag (Reg.SEQ_FLAGS n) Fields.SEQ_FLAGS.FAIL = true := by
  unfold Mod.failsDue
  dsimp only
  rw [if_pos h]
  exact Mod.flag_wr_one _ _ _ (by decide) rfl

/-- The condition of a JCC is read off SEQn_FLAGS. -/
theorem jccCond_congr {a b : Mod} {n : Nat} (h : ∀ f, b.rd (Reg.SEQ_FLAGS n) f = a.rd (Reg.SEQ_FLAGS n) f)
    (cond flag : Nat) :
    b.jccCond n cond flag = a.jccCond n cond flag := by
  unfold Mod.jccCond Mod.flag
  simp only [h]

/-- A decided JCC goes to its target or on; the wait in force and its end stay. -/
theorem jccDecide_goes {n : Nat} {m : Mod} {w : Word4} {x : Seq} (hm : (m.seq n).mirror = false) (hp : m.pairActive = false)
    (hl : w.mod / 32 ≤ x.levels.length) : ∃ pp far y, m.jccDecide n w x = (m.jccCleared n w).goto n
      (if m.jccCond n (w.mod % 16) (w.c16 % 16) then w.tgt else x.pc + 1) pp far y ∧ y.wait = x.wait ∧
      y.resume = x.resume := by
  obtain ⟨a, i, p, hjump⟩ := jump_eq n w x (m.jccCleared n w) hl
  rw [jccDecide_own w x hm hp]
  by_cases hc : m.jccCond n (w.mod % 16) (w.c16 % 16) = true
  · rw [if_pos hc, if_pos hc, hjump]
    exact ⟨_, _, _, rfl, rfl, rfl⟩
  · rw [if_neg hc, if_neg hc]
    exact ⟨_, _, _, rfl, rfl, rfl⟩

theorem seqState_jccCleared (n : Nat) (w : Word4) (m : Mod) : (m.jccCleared n w).seqState n = m.seqState n :=
  (seqOnly_jccCleared n w m).rd (seqStatus_notMem n) _

/-- A result wait of a JCC that is over, with the vectors before it emitted and their results come. -/
theorem resultWaitEnd_jcc {n : Nat} {m : Mod} {bs : List Byte} (hu : m.unasked n = true) (hlook : (m.seq n).look = [])
    (hres : (m.seq n).waitRes ≤ (m.seq n).sclk) (hp : (m.seq n).paused = false) (hw : (m.seq n).wait = some .jcc)
    (hb : m.readStream (m.seq n).iblk (16 * (m.seq n).pc) 16 = .ok bs) : m.resultWaitEnd n =
      ((m.failsDue n (m.seq n).waitRes).waitOver n (m.seq n).waitRes).jccDecide n (Word4.ofBytes bs)
        (((m.failsDue n (m.seq n).waitRes).seq n).waitEnded (m.seq n).waitRes) := by
  obtain ⟨-, e, hseq⟩ := failsDue_eq n (m.seq n).waitRes m
  have hpaused : ((m.failsDue n (m.seq n).waitRes).seq n).paused = false := (congrArg Seq.paused hseq).trans hp
  have hover : (!(m.seq n).look.isEmpty || decide ((m.seq n).sclk < (m.seq n).waitRes)) = false := by
    rw [hlook, decide_eq_false (Nat.not_lt.mpr hres)]
    rfl
  unfold Mod.resultWaitEnd
  dsimp only
  rw [commit_tryPause_unasked hu, hover, if_neg Bool.false_ne_true, hw]
  dsimp only
  rw [hb]
  dsimp only
  rw [endWait_running n _ _ hpaused, seq_waitOver]

/-- What the end of a result wait of a JCC comes to. -/
theorem answers_resultWaitEnd (s : State) (n : Nat) (bs : List Byte) (hh : s.m.flt.halted = false) (hn : n < 32)
    (hu : s.m.unasked n = true) (hlook : (s.m.seq n).look = []) (hres : (s.m.seq n).waitRes ≤ (s.m.seq n).sclk)
    (hp : (s.m.seq n).paused = false) (hw : (s.m.seq n).wait = some .jcc)
    (hb : s.m.readStream (s.m.seq n).iblk (16 * (s.m.seq n).pc) 16 = .ok bs)
    (hl : (Word4.ofBytes bs).mod / 32 ≤ (s.m.seq n).levels.length) (hm : (s.m.seq n).mirror = false)
    (ha : s.m.pairActive = false) : Answers (.resultWaitEnd n) s (fun t => ((t.seq n).wait = none ∧
      (t.seq n).resume = some ((s.m.seq n).waitRes + 16) ∧
      (t.seq n).pc = (if (s.m.failsDue n (s.m.seq n).waitRes).jccCond n ((Word4.ofBytes bs).mod % 16)
        ((Word4.ofBytes bs).c16 % 16) then (Word4.ofBytes bs).tgt else (s.m.seq n).pc + 1) ∧ t.seqState n = 2 ∧
      (nbit (Word4.ofBytes bs).mod 4 = false → ∀ f, t.flag (Reg.SEQ_FLAGS n) f =
        (s.m.failsDue n (s.m.seq n).waitRes).flag (Reg.SEQ_FLAGS n) f)) ∧ t.outs = s.m.outs ∧ SameMemory s.m t ∧
      SameRegs [Reg.SEQ_STATUS n, Reg.SEQ_PF_STATUS n, Reg.SEQ_PC n, Reg.SEQ_FLAGS n] s.m t) := by
  obtain ⟨hfails, e, hentry⟩ := failsDue_eq n (s.m.seq n).waitRes s.m
  have hend := resultWaitEnd_jcc hu hlook hres hp hw hb
  rw [hentry] at hend
  generalize s.m.failsDue n (s.m.seq n).waitRes = m at hfails hentry hend
  generalize s.m.seq n = x at *
  have hseq := (seq_waitOver n x.waitRes m).trans (congrArg (Seq.waitEnded x.waitRes) hentry)
  have hover := (hfails.mono (seqFlags_subset n)).trans ((seqOnly_waitOver n x.waitRes m).mono (seqShows_subset n))
  have hflags := (seqOnly_waitOver n x.waitRes m).flag (seqFlags_notMem n)
  have hcond := jccCond_congr (fun f => (seqOnly_waitOver n x.waitRes m).rd (seqFlags_notMem n) f)
    ((Word4.ofBytes bs).mod % 16) ((Word4.ofBytes bs).c16 % 16)
  have hstate := seqState_waitOver n x.waitRes m
  generalize m.waitOver n x.waitRes = m1 at hend hseq hover hflags hcond hstate
  obtain ⟨pp, far, y, hgoes, hwait, hresume⟩ := jccDecide_goes (n := n) (m := m1) (w := Word4.ofBytes bs)
    (x := Seq.waitEnded x.waitRes { x with failAt := e }) (by rw [hseq]; exact hm) ((hover.pairActive hn).trans ha) hl
  rw [hcond] at hgoes
  refine (answers_goesOn rfl (decide_eq_true hn) hh (hend.trans hgoes) (seqShows_subset n)
    (hover.trans ((seqOnly_jccCleared n _ m1).mono (seqFlags_subset n)))
    ((seqState_jccCleared n _ m1).trans hstate)).mono ?_
  rintro t ⟨⟨hgo, hst, hfl⟩, hrest⟩
  refine ⟨⟨(hgo.keeps Seq.wait).trans hwait, (hgo.keeps Seq.resume).trans hresume, hgo.pc, hst, fun hclear f => ?_⟩, hrest⟩
  rw [hfl, Mod.jccCleared, hclear, Mod.when_false, hflags]

theorem answers_resultWait_none (s : State) (n : Nat) (bs : List Byte) (hh : s.m.flt.halted = false) (hn : n < 32)
    (hu : s.m.unasked n = true) (hlook : (s.m.seq n).look = []) (hres : (s.m.seq n).waitRes ≤ (s.m.seq n).sclk)
    (hf : (s.m.seq n).failAt = []) (hp : (s.m.seq n).paused = false) (hw : (s.m.seq n).wait = some Wait.jcc)
    (hb : s.m.readStream (s.m.seq n).iblk (16 * (s.m.seq n).pc) 16 = .ok bs)
    (hl : (Word4.ofBytes bs).mod / 32 ≤ (s.m.seq n).levels.length) (hm : (s.m.seq n).mirror = false)
    (ha : s.m.pairActive = false) : Answers (.resultWaitEnd n) s (fun t => (t.seq n).wait = none ∧
      (t.seq n).resume = some ((s.m.seq n).waitRes + 16) ∧
      (t.seq n).pc = (if s.m.jccCond n ((Word4.ofBytes bs).mod % 16) ((Word4.ofBytes bs).c16 % 16) then
        (Word4.ofBytes bs).tgt else (s.m.seq n).pc + 1) ∧ t.seqState n = 2 ∧ t.outs = s.m.outs ∧ SameMemory s.m t ∧
      SameRegs [Reg.SEQ_STATUS n, Reg.SEQ_PF_STATUS n, Reg.SEQ_PC n, Reg.SEQ_FLAGS n] s.m t) := by
  have hend := answers_resultWaitEnd s n bs hh hn hu hlook hres hp hw hb hl hm ha
  rw [failsDue_nil hf] at hend
  refine hend.mono ?_
  rintro t ⟨⟨hwait, hresume, hpc, hstate, -⟩, hrest⟩
  exact ⟨hwait, hresume, hpc, hstate, hrest⟩

theorem answers_resultWait_fail (s : State) (n : Nat) (bs : List Byte) (hh : s.m.flt.halted = false) (hn : n < 32)
    (hu : s.m.unasked n = true) (hlook : (s.m.seq n).look = []) (hres : (s.m.seq n).waitRes ≤ (s.m.seq n).sclk)
    (hf : (s.m.seq n).failAt.any (fun r => decide (r ≤ (s.m.seq n).waitRes)) = true) (hp : (s.m.seq n).paused = false)
    (hw : (s.m.seq n).wait = some Wait.jcc) (hb : s.m.readStream (s.m.seq n).iblk (16 * (s.m.seq n).pc) 16 = .ok bs)
    (h0 : (Word4.ofBytes bs).mod % 32 = 0) (hl : (Word4.ofBytes bs).mod / 32 ≤ (s.m.seq n).levels.length)
    (hm : (s.m.seq n).mirror = false) (ha : s.m.pairActive = false) : Answers (.resultWaitEnd n) s (fun t =>
      (t.seq n).wait = none ∧ (t.seq n).resume = some ((s.m.seq n).waitRes + 16) ∧ (t.seq n).pc = (Word4.ofBytes bs).tgt ∧
      t.flag (Reg.SEQ_FLAGS n) Fields.SEQ_FLAGS.FAIL = true ∧ t.seqState n = 2 ∧ t.outs = s.m.outs ∧ SameMemory s.m t ∧
      SameRegs [Reg.SEQ_STATUS n, Reg.SEQ_PF_STATUS n, Reg.SEQ_PC n, Reg.SEQ_FLAGS n] s.m t) := by
  have hfail := flag_failsDue hf
  have hcond : (Word4.ofBytes bs).mod % 16 = 0 := by omega
  have hclear : nbit (Word4.ofBytes bs).mod 4 = false := by
    simp only [nbit, Nat.testBit_eq_decide_div_mod_eq]
    simp only [decide_eq_false_iff_not]
    omega
  have htaken : (s.m.failsDue n (s.m.seq n).waitRes).jccCond n ((Word4.ofBytes bs).mod % 16)
      ((Word4.ofBytes bs).c16 % 16) = true := by
    rw [hcond]
    exact hfail
  refine (answers_resultWaitEnd s n bs hh hn hu hlook hres hp hw hb hl hm ha).mono ?_
  rintro t ⟨⟨hwait, hresume, hpc, hstate, hflags⟩, hrest⟩
  rw [if_pos htaken] at hpc
  exact ⟨hwait, hresume, hpc, (hflags hclear _).trans hfail, hstate, hrest⟩

/-! ### Timeouts (R169, R170) -/

/-- Edges still to come leave the module as it was. -/
theorem takeEdges_early_keeps {n t : Nat} {m : Mod} (h : (m.seq n).edges.all (fun e => decide (t < e.at_)) = true)
    (l : List Nat) : SeqOnly n l m (m.takeEdges n t) ∧ (m.takeEdges n t).seq n = m.seq n := by
  obtain he | he := takeEdges_early h
  · rw [he]
    exact ⟨.refl n l m, rfl⟩
  · rw [he]
    exact ⟨(SeqOnly.refl n l m).setSeq _, Mod.seq_setSeq_self m n _⟩

/-- The entry of a sequencer whose wait has timed out. -/
def Seq.timedOut (x : Seq) : Seq := { x with anyTimeout := true }

theorem Seq.waitEnded_timedOut (d : Nat) (x : Seq) : (x.timedOut.waitEnded d).wait = none ∧
    (x.timedOut.waitEnded d).anyTimeout = true ∧ (x.timedOut.waitEnded d).resume = some (d + 16) ∧
    (x.timedOut.waitEnded d).pc = x.pc := ⟨rfl, rfl, rfl, rfl⟩

/-- A wait of a WTRG that has run its time: TRIG_SEEN stays, and the sequencer goes on behind it. -/
theorem wtrgTimeout_goesOn {n us t src idx lim : Nat} {m : Mod} (hn : n < 32) (hu : m.unasked n = true)
    (hw : (m.seq n).wait = some (.trig src idx false lim))
    (he : (m.seq n).edges.all (fun e => decide (t < e.at_)) = true) (hp : (m.seq n).paused = false) (hl : 0 < lim)
    (hle : lim ≤ us) (ha : m.pairActive = false) : m.wtrgTimeout n us t =
      (((m.takeEdges n t).setSeq n (m.seq n).timedOut).waitOver n (t - (m.seq n).sclk0)).nextInstr n
        ((m.seq n).timedOut.waitEnded (t - (m.seq n).sclk0)) := by
  obtain ⟨honly, hseq⟩ := takeEdges_early_keeps he (seqShows n)
  have hunasked : (m.takeEdges n t).unasked n = true := by
    obtain ⟨hr, hlim, hpause⟩ := unasked_iff.mp hu
    refine unasked_iff.mpr ⟨by rw [hseq, hr], by rw [hseq, hlim], ?_⟩
    rw [(takeEdges_early_keeps he []).1.flag List.not_mem_nil, hpause]
  unfold Mod.wtrgTimeout
  dsimp only
  rw [commit_tryPause_unasked hunasked, hseq]
  have hset := honly.setSeq (m.seq n).timedOut
  have hentry : ((m.takeEdges n t).setSeq n (m.seq n).timedOut).seq n = (m.seq n).timedOut := Mod.seq_setSeq_self _ n _
  split
  case h_1 hwait =>
    obtain ⟨rfl, rfl, rfl, rfl⟩ : _ ∧ _ ∧ _ ∧ _ := by simpa using hw.symm.trans hwait
    rw [if_neg (by omega), if_neg Bool.false_ne_true]
    change ((((m.takeEdges n t).setSeq n (m.seq n).timedOut).endWait n _).sendDec n 3 0 _).nextInstr n
      (((((m.takeEdges n t).setSeq n (m.seq n).timedOut).endWait n _).sendDec n 3 0 _).seq n) = _
    generalize (m.takeEdges n t).setSeq n (m.seq n).timedOut = a at *
    rw [endWait_running n _ _ (by rw [hentry]; exact hp), sendDec_alone, seq_waitOver, hentry]
    exact (((hset.trans (seqOnly_waitOver n _ _)).mono (seqShows_subset n)).pairActive hn).trans ha
  case h_2 hwait => exact absurd hw (hwait _ _ _ _)

theorem answers_wtrgTimeout (s : State) (n us ofs src idx lim : Nat) (hh : s.m.flt.halted = false)
    (hwf : Wf.wtrgTimeout n ofs = true) (hu : s.m.unasked n = true)
    (hw : (s.m.seq n).wait = some (.trig src idx false lim))
    (he : (s.m.seq n).edges.all (fun e => decide (s.m.ttime + ofs < e.at_)) = true) (hp : (s.m.seq n).paused = false)
    (hl : 0 < lim) (hle : lim ≤ us) (ha : s.m.pairActive = false) : Answers (.wtrgTimeout n us ofs) s (fun t =>
      (t.seq n).wait = none ∧ (t.seq n).anyTimeout = true ∧
      (t.seq n).resume = some (s.m.ttime + ofs - (s.m.seq n).sclk0 + 16) ∧ (t.seq n).pc = (s.m.seq n).pc + 1 ∧
      t.seqState n = 2 ∧ t.flag (Reg.SEQ_FLAGS n) Fields.SEQ_FLAGS.TRIG_SEEN =
        s.m.flag (Reg.SEQ_FLAGS n) Fields.SEQ_FLAGS.TRIG_SEEN ∧ t.outs = s.m.outs ∧ SameMemory s.m t ∧
      SameRegs [Reg.SEQ_STATUS n, Reg.SEQ_PF_STATUS n, Reg.SEQ_PC n] s.m t) := by
  have hn : n < 32 := by
    simp only [Wf.wtrgTimeout, Bool.and_eq_true, decide_eq_true_eq] at hwf
    exact hwf.1
  have honly := ((takeEdges_early_keeps he (seqShows n)).1.setSeq (s.m.seq n).timedOut).trans
    (seqOnly_waitOver n (s.m.ttime + ofs - (s.m.seq n).sclk0) _)
  obtain ⟨hwait, htime, hresume, hpc⟩ := Seq.waitEnded_timedOut (s.m.ttime + ofs - (s.m.seq n).sclk0) (s.m.seq n)
  have hgoes := wtrgTimeout_goesOn hn hu hw he hp hl hle ha
  refine (answers_goesOn (c := .wtrgTimeout n us ofs) (f := fun m => m.wtrgTimeout n us (m.ttime + ofs)) rfl hwf hh hgoes
    (List.Subset.refl _) honly (seqState_waitOver n _ _)).mono ?_
  rintro t ⟨⟨hgo, hstate, hflags⟩, hrest⟩
  exact ⟨(hgo.keeps Seq.wait).trans hwait, (hgo.keeps Seq.anyTimeout).trans htime, (hgo.keeps Seq.resume).trans hresume,
    hgo.pc.trans (congrArg (· + 1) hpc), hstate, (hflags _).trans (honly.flag (seqFlags_notMem n) _), hrest⟩

/-- What the timeout of a barrier does to one of its members. -/
def Mod.barrierTimeout (k j : Nat) (m : Mod) : Mod :=
  if (m.seq j).atBarrier k then (m.setSeq j { m.seq j with arrived := none }).postStop j stSYNC_TIMEOUT else m

theorem seqOnly_barrierTimeout (k j : Nat) (m : Mod) : SeqOnly j (seqShows j) m (m.barrierTimeout k j) := by
  unfold Mod.barrierTimeout
  split
  · exact ((SeqOnly.refl _ _ m).setSeq _).trans (seqOnly_putSeq j _ _)
  · exact .refl _ _ m

theorem seqsOnly_barrierTimeout (k j : Nat) (m : Mod) : SeqsOnly m (m.barrierTimeout k j) := by
  have h := seqOnly_barrierTimeout k j m
  refine ⟨h.rest, fun o ho => h.regs o ?_⟩
  simp only [seqShows, Reg.SEQ_STATUS, Reg.SEQ_PF_STATUS, Reg.SEQ_PC, List.mem_cons, List.not_mem_nil, or_false]
  omega

theorem nodup_barMembers (m : Mod) (peer : Bool) (k : Nat) : (m.barMembers peer k).Nodup := by
  have hbelow (j : Nat) (p : Nat → Bool) : (allBelow j p).Nodup := List.Nodup.filter _ List.nodup_range
  unfold Mod.barMembers
  split
  · exact (hbelow _ _).map fun _ _ h => Nat.add_left_cancel h
  · exact hbelow _ _

theorem syncTimeout_eq {n us k lim : Nat} {m : Mod} (hw : (m.seq n).wait = some (.sync k lim)) (hl : 0 < lim)
    (hle : lim ≤ us) : m.syncTimeout n us = m.each (m.barMembers (m.seq n).mirror k) (Mod.barrierTimeout k) := by
  unfold Mod.syncTimeout
  rw [hw]
  dsimp only
  rw [if_neg (by omega)]
  rfl

/-- A member that waits at the barrier stops with SYNC_TIMEOUT. -/
theorem seq_syncTimeout {n us k lim : Nat} {m : Mod} (hw : (m.seq n).wait = some (.sync k lim)) (hl : 0 < lim)
    (hle : lim ≤ us) (hb : (m.barMembers (m.seq n).mirror k).contains n = true) : (m.syncTimeout n us).seq n =
      { m.seq n with arrived := none, post := some stSYNC_TIMEOUT, wait := none, run := 0 } := by
  obtain ⟨x, hx, hseq⟩ := Mod.each_own (fun m => m.seq n) n (Mod.barrierTimeout k)
    (fun j hj x => (seqOnly_barrierTimeout k j x).others n hj) _ (nodup_barMembers m (m.seq n).mirror k)
    (List.contains_iff_mem.mp hb) m
  have hat : (m.seq n).atBarrier k = true := by
    unfold Seq.atBarrier
    rw [hw]
    exact beq_self_eq_true k
  rw [syncTimeout_eq hw hl hle, hseq, Mod.barrierTimeout, hx, if_pos hat, Mod.postStop, seq_putSeq, Mod.seq_setSeq_self]

theorem answers_syncTimeout (s : State) (n us k lim : Nat) (hh : s.m.flt.halted = false) (hn : n < 32)
    (hw : (s.m.seq n).wait = some (.sync k lim)) (hl : 0 < lim) (hle : lim ≤ us)
    (hb : (s.m.barMembers (s.m.seq n).mirror k).contains n = true) : Answers (.syncTimeout n us) s (fun t =>
      (t.seq n).post = some stSYNC_TIMEOUT ∧ (t.seq n).wait = none ∧ (t.seq n).arrived = none ∧ t.outs = s.m.outs ∧
      SameMemory s.m t) := by
  have hseqs : SeqsOnly s.m (s.m.syncTimeout n us) := by
    rw [syncTimeout_eq hw hl hle]
    exact .each _ _ _ fun j x => seqsOnly_barrierTimeout k j x
  have hseq := seq_syncTimeout hw hl hle hb
  have hentry : ((s.m.syncTimeout n us).seq n).post = some stSYNC_TIMEOUT ∧ ((s.m.syncTimeout n us).seq n).wait = none ∧
      ((s.m.syncTimeout n us).seq n).arrived = none := by
    rw [hseq]
    exact ⟨rfl, rfl, rfl⟩
  have houts : (s.m.syncTimeout n us).outs = s.m.outs := by rw [hseqs.rest]
  obtain ⟨hpost, hwait, harrived⟩ := hentry
  exact answers_effect (f := Mod.syncTimeout n us) rfl (decide_eq_true hn) hh rfl
    ⟨hpost, hwait, harrived, houts, hseqs.memory⟩

/-! ### The exit of a MATCH (R175) -/

/-- Levels of a MATCH and of those in it are left: the rest of the entry but the frames and the two streams stays. -/
theorem popMatch_eq (k : Nat) : ∀ (fuel : Nat) (x : Seq), ∃ l f i p,
    Seq.popMatch k fuel x = { x with levels := l, frames := f, iblk := i, pblk := p }
  | 0, x => ⟨x.levels, x.frames, x.iblk, x.pblk, rfl⟩
  | fuel + 1, x => by
    unfold Seq.popMatch Seq.unpin
    split
    · exact ⟨x.levels, x.frames, x.iblk, x.pblk, rfl⟩
    next l rest hl =>
      dsimp only
      split
      · split
        · exact ⟨_, _, _, _, rfl⟩
        · exact ⟨_, _, _, _, rfl⟩
      · split
        · exact popMatch_eq k fuel _
        · exact popMatch_eq k fuel _

/-- The entry of a sequencer that leaves a MATCH, before its levels go. -/
def Seq.matchLeft (l : Level) (fin : Iter) (d : Nat) (kept : List Ctl) (x : Seq) : Seq :=
  { x.withdraw with
    ctl := kept
    ctlPre := kept.length
    run := 0
    iterFirst := []
    tset := fin.endTset
    anyNomatch := x.anyNomatch || false
    iters := x.withdraw.iters.filter (fun i => decide (i.mnum < l.mnum))
    wait := none
    whold := x.hold
    arrived := none
    upc := none
    span := 0
    resume := some (d + 16) }

/-- SEQn_FLAGS of a MATCH that was met. -/
def Mod.matchedFlags (n : Nat) (m : Mod) : Mod :=
  (m.wr (Reg.SEQ_FLAGS n) Fields.SEQ_FLAGS.MATCHED 1).wr (Reg.SEQ_FLAGS n) Fields.SEQ_FLAGS.NOMATCH 0

theorem seqOnly_matchedFlags (n : Nat) (m : Mod) : SeqOnly n [Reg.SEQ_FLAGS n] m (m.matchedFlags n) :=
  ((SeqOnly.refl _ _ m).wr _ _ _ List.mem_cons_self).wr _ _ _ List.mem_cons_self

theorem flag_matchedFlags (n : Nat) (m : Mod) :
    (m.matchedFlags n).flag (Reg.SEQ_FLAGS n) Fields.SEQ_FLAGS.MATCHED = true ∧
    (m.matchedFlags n).flag (Reg.SEQ_FLAGS n) Fields.SEQ_FLAGS.NOMATCH = false := by
  constructor
  · rw [Mod.matchedFlags, Mod.flag, Mod.rd_wr_field _ _ _ _ _ (by decide)]
    exact Mod.flag_wr_one m _ _ (by decide) rfl
  · rw [Mod.matchedFlags, Mod.flag, Mod.rd_wr_self _ _ _ _ (by decide)]
    rfl

/-- A sequencer that follows no primary leaves a met MATCH. -/
theorem matchExit_met {n last d : Nat} {l : Level} {f : Iter} {kept : List Ctl} {m : Mod} (hn : n < 32)
    (hf : (m.seq n).iters.find? (fun i => i.mnum == l.mnum && i.it == last && i.whole) = some f)
    (hp : (m.seq n).paused = false) (ha : m.pairActive = false) : ∃ y,
      (∃ ls fs i p, y = { (m.seq n).matchLeft l f d kept with levels := ls, frames := fs, iblk := i, pblk := p }) ∧
      m.matchExit n l last d true kept = (((m.matchedFlags n).goto n (l.tgt + 1) f.endPp true y).setSeqState n 2) := by
  obtain ⟨ls, fs, i, p, hy⟩ := popMatch_eq l.mnum 9 ((m.seq n).matchLeft l f d kept)
  refine ⟨_, ⟨ls, fs, i, p, rfl⟩, ?_⟩
  have hstate : (if (m.seq n).paused then 3 else 2) = 2 := by rw [hp]; rfl
  have honly (y : Seq) : SeqOnly n (seqFlagShows n) m
      (((m.matchedFlags n).goto n (l.tgt + 1) f.endPp true y).setSeqState n 2) :=
    ((seqOnly_matchedFlags n m).mono (seqFlags_subset n)).trans
      (((seqOnly_goto n _ _ _ _ _).trans (seqOnly_setSeqState n _ 2)).mono (seqShows_subset n))
  unfold Mod.matchExit
  dsimp only
  rw [hf, hstate, Bool.not_true, Bool.false_and, if_neg Bool.false_ne_true, sendDec_alone]
  · rw [← hy]
    rfl
  · exact ((honly _).pairActive hn).trans ha

/-- A MATCH whose met iteration has its result exits as its next iteration would begin. -/
theorem tryMatchExit_eq {n j : Nat} {m : Mod} {v : Vec} {rest : List Vec} {l : Level} (hlook : (m.seq n).look = v :: rest)
    (hb : (m.seq n).beginsAgain v = some (l, j)) (hmet : (m.seq n).matchMet l (m.seq n).sclk = true)
    (hm : (m.seq n).mirror = false) :
    m.tryMatchExit n = m.matchExit n l (j - 1) (m.seq n).sclk true (v.ctl.take v.pre) := by
  unfold Mod.tryMatchExit
  dsimp only
  rw [hlook]
  dsimp only
  rw [hb]
  dsimp only
  rw [takeDec_own hm]
  dsimp only
  rw [if_pos hmet]

theorem answers_matchExit (s : State) (n j : Nat) (v : Vec) (rest : List Vec) (l : Level) (f : Iter)
    (hh : s.m.flt.halted = false) (hn : n < 32) (hu : s.m.unasked n = true) (hlook : (s.m.seq n).look = v :: rest)
    (hb : (s.m.seq n).beginsAgain v = some (l, j)) (hmet : (s.m.seq n).matchMet l (s.m.seq n).sclk = true)
    (hf : (s.m.seq n).iters.find? (fun i => i.mnum == l.mnum && i.it == j - 1 && i.whole) = some f)
    (hp : (s.m.seq n).paused = false) (hm : (s.m.seq n).mirror = false) (ha : s.m.pairActive = false) :
    Answers (.matchExit n) s (fun t => (t.seq n).look = [] ∧ (t.seq n).pc = l.tgt + 1 ∧ (t.seq n).pp = f.endPp ∧
      (t.seq n).ctl = v.ctl.take v.pre ∧ (t.seq n).resume = some ((s.m.seq n).sclk + 16) ∧
      t.flag (Reg.SEQ_FLAGS n) Fields.SEQ_FLAGS.MATCHED = true ∧
      t.flag (Reg.SEQ_FLAGS n) Fields.SEQ_FLAGS.NOMATCH = false ∧ t.seqState n = 2 ∧ t.outs = s.m.outs ∧
      SameMemory s.m t ∧ SameRegs [Reg.SEQ_STATUS n, Reg.SEQ_PF_STATUS n, Reg.SEQ_PC n, Reg.SEQ_FLAGS n] s.m t) := by
  obtain ⟨hr, hlim, -⟩ := unasked_iff.mp hu
  obtain ⟨y, ⟨ls, fs, i, p, hy⟩, hexit⟩ := matchExit_met (d := (s.m.seq n).sclk) (kept := v.ctl.take v.pre)
    hn hf hp ha
  have heq : (s.m.commit n).tryMatchExit n = ((s.m.matchedFlags n).goto n (l.tgt + 1) f.endPp true y).setSeqState n 2 := by
    rw [commit_unasked hr hlim, tryMatchExit_eq hlook hb hmet hm, hexit]
  have hentry : y.look = [] ∧ y.ctl = v.ctl.take v.pre ∧ y.resume = some ((s.m.seq n).sclk + 16) := by
    rw [hy]
    exact ⟨rfl, rfl, rfl⟩
  obtain ⟨hlook', hctl, hresume⟩ := hentry
  obtain ⟨hmatched, hnomatch⟩ := flag_matchedFlags n s.m
  have hgo : Seq.GoesTo (l.tgt + 1) f.endPp y
      ((((s.m.matchedFlags n).goto n (l.tgt + 1) f.endPp true y).setSeqState n 2).seq n) := by
    rw [seq_setSeqState]
    exact seq_goto n _ _ _ _ _
  have honly := (seqOnly_goto n (l.tgt + 1) f.endPp true y (s.m.matchedFlags n)).trans (seqOnly_setSeqState n _ 2)
  have hstate := seqState_setSeqState n ((s.m.matchedFlags n).goto n (l.tgt + 1) f.endPp true y) 2 (by decide)
  have hflags := honly.flag (seqFlags_notMem n)
  have hrest := ((seqOnly_matchedFlags n s.m).mono (seqFlags_subset n)).trans (honly.mono (seqShows_subset n))
  generalize ((s.m.matchedFlags n).goto n (l.tgt + 1) f.endPp true y).setSeqState n 2 = t at *
  refine (answers_seq (P := fun t => (t.seq n).look = [] ∧ (t.seq n).pc = l.tgt + 1 ∧ (t.seq n).pp = f.endPp ∧
    (t.seq n).ctl = v.ctl.take v.pre ∧ (t.seq n).resume = some ((s.m.seq n).sclk + 16) ∧
    t.flag (Reg.SEQ_FLAGS n) Fields.SEQ_FLAGS.MATCHED = true ∧
    t.flag (Reg.SEQ_FLAGS n) Fields.SEQ_FLAGS.NOMATCH = false ∧ t.seqState n = 2)
    (f := fun m => (m.commit n).tryMatchExit n) rfl (decide_eq_true hn) hh heq hrest
    ⟨(hgo.keeps Seq.look).trans hlook', hgo.pc, hgo.pp, (hgo.keeps Seq.ctl).trans hctl,
      (hgo.keeps Seq.resume).trans hresume, (hflags _).trans hmatched, (hflags _).trans hnomatch, hstate⟩).mono ?_
  rintro t ⟨⟨h1, h2, h3, h4, h5, h6, h7, h8⟩, hrest⟩
  exact ⟨h1, h2, h3, h4, h5, h6, h7, h8, hrest⟩

/-- Settles O32: each wait begins, ends and times out as its rule says, and a met MATCH exits. -/
theorem waitsAndMatch : Obligations.WaitsAndMatch :=
  ⟨answers_match, answers_wtrg_waits, answers_wtrg_flag, answers_sync, answers_resultWait_none, answers_resultWait_fail,
    answers_wtrgTimeout, answers_syncTimeout, answers_matchExit⟩

end Sys2Proof.Machine
end

section
/-!
PROOF. Records, rings and the end of a burst at Proof (R190, R224 to R228, R233, R237).
-/

namespace Sys2Proof.Machine

/-! ### Ports at the dies -/

theorem silent_setDport (n d : Nat) (x : DiePort) (m : Mod) : Silent m (m.setDport n d x) := ⟨rfl, rfl, rfl, rfl⟩

theorem dport_setDport_ne {n d k e : Nat} (x : DiePort) (m : Mod) (h : 2 * k + e ≠ 2 * n + d) :
    (m.setDport n d x).dport k e = m.dport k e := SMap.get_set_ne _ _ _ _ _ h

/-! ### GAP (R225) -/

theorem gapRec_eq {n d : Nat} {m : Mod} (hd : 0 < (m.dport n d).dropped) (hb : m.dieBuffered d < 4096) : m.gapRec n d =
    m.setDport n d { m.dport n d with recs := (m.dport n d).recs ++ [m.dieGap n d], dropped := 0 } := by
  unfold Mod.gapRec
  dsimp only
  rw [if_neg (by omega)]

theorem answers_gap (s : State) (n d : Nat) (hh : s.m.flt.halted = false) (hw : Wf.gap n d = true)
    (hd : 0 < (s.m.dport n d).dropped) (hb : s.m.dieBuffered d < 4096) : Answers (.gap n d) s (fun t =>
      (t.dport n d).recs = (s.m.dport n d).recs ++ [s.m.dieGap n d] ∧ (t.dport n d).dropped = 0 ∧ t.outs = s.m.outs ∧
      SameMemory s.m t ∧ SameRegs [] s.m t) := by
  have hgap := gapRec_eq hd hb
  have hport : (s.m.gapRec n d).dport n d =
      { s.m.dport n d with recs := (s.m.dport n d).recs ++ [s.m.dieGap n d], dropped := 0 } := by
    rw [hgap, Mod.dport_setDport_self]
  have hk : Silent s.m (s.m.gapRec n d) := by
    rw [hgap]
    exact silent_setDport n d _ s.m
  exact answers_effect (f := Mod.gapRec n d) rfl hw hh rfl
    ⟨congrArg DiePort.recs hport, congrArg DiePort.dropped hport, hk.outs, hk.memory, .of_eq hk.regs⟩

/-! ### A record joins a ring (R226, R227) -/

/-- `b` is `a` with record `r` in the next slot of ring `n`. -/
structure RingTakes (n : Nat) (r : List Byte) (a b : Mod) : Prop where
  slot : memRead b.sram (ringSlot n (a.ringWr n)) r.length = r
  outside : SameOutside (ringSlot n (a.ringWr n)) (ringSlot n (a.ringWr n) + r.length) a.sram b.sram
  wr : b.reg (Reg.SEQ_PRF_WR n) = BitVec.ofNat 32 (a.ringWr n + 1)
  gddr : b.gddr = a.gddr
  outs : b.outs = a.outs
  dports : b.dports = a.dports
  regs : SameRegs [Reg.SEQ_PRF_WR n] a b

theorem ringTakes_ringWrite (n : Nat) (r : List Byte) (m : Mod) : RingTakes n r m (m.ringWrite n r) where
  slot := memRead_memWrite _ _ _
  outside := .memWrite _ _ _ _ _ (Nat.le_refl _) (Nat.le_refl _)
  wr := Mod.reg_setReg_self _ _ _
  gddr := rfl
  outs := rfl
  dports := rfl
  regs := fun o ho => Mod.reg_setReg_ne _ _ _ _ fun e => ho (by simp [e])

/-- A ring with room that owes no GAP record takes a record. -/
theorem ringPut_room {n : Nat} {m : Mod} (r : List Byte) (hu : m.ringUsed n < 1024) (hg : (m.ring n).gap = 0) :
    m.ringPut n r = m.ringWrite n r := by
  unfold Mod.ringPut
  dsimp only
  rw [decide_eq_false (Nat.not_le.mpr hu), Bool.false_and, if_neg Bool.false_ne_true, if_neg Bool.false_ne_true, if_pos hg]

/-- Only a GAP record adds to DROPPED. -/
theorem countGap_other {r : List Byte} (n : Nat) (m : Mod) (hr : recType r ≠ 5) : m.countGap n r = m := by
  unfold Mod.countGap
  dsimp only
  rw [beq_eq_false_iff_ne.mpr hr, Mod.when_false]

/-- Ports that owe neither a GAP record nor COUNT records send none as room comes. -/
theorem drain_nothing {d : Nat} {m : Mod} (h : ∀ k < 32, (m.dport k d).dropped = 0 ∧ (m.dport k d).cnts = []) :
    m.each (List.range 32) (fun k s => s.when ((s.dport k d).dropped != 0 || !(s.dport k d).cnts.isEmpty)
      (Mod.drainCounts k d 33)) = m := by
  refine Mod.each_keeps m (· = m) _ _ (fun k hk x hx => ?_) rfl
  obtain ⟨hd, hc⟩ := h k (List.mem_range.mp hk)
  subst hx
  rw [hd, hc]
  rfl

/-- A record of a die that is no GAP record joins a ring with room. -/
theorem takeRec_eq {n d : Nat} {m : Mod} {r : List Byte} {rest : List (List Byte)} (hn : n < 32)
    (hx : (m.dport n d).recs = r :: rest) (hr : recType r ≠ 5)
    (hidle : ∀ k < 32, (m.dport k d).dropped = 0 ∧ (m.dport k d).cnts = []) (ha : m.pairActive = false)
    (hu : m.ringUsed n < 1024) (hg : (m.ring n).gap = 0) :
    m.takeRec n d = (m.setDport n d { m.dport n d with recs := rest }).ringWrite n r := by
  have hafter (k : Nat) (hk : k < 32) :
      (((m.setDport n d { m.dport n d with recs := rest }).ringWrite n r).dport k d).dropped = 0 ∧
      (((m.setDport n d { m.dport n d with recs := rest }).ringWrite n r).dport k d).cnts = [] := by
    have hport : ((m.setDport n d { m.dport n d with recs := rest }).ringWrite n r).dport k d =
        (m.setDport n d { m.dport n d with recs := rest }).dport k d := rfl
    rw [hport]
    by_cases he : k = n
    · subst he
      rw [Mod.dport_setDport_self]
      exact hidle k hk
    · rw [dport_setDport_ne _ _ (by omega)]
      exact hidle k hk
  unfold Mod.takeRec
  dsimp only
  rw [hx]
  dsimp only
  rw [countGap_other _ _ hr, ha, Mod.when_false,
    ringPut_room (m := m.setDport n d { m.dport n d with recs := rest }) r hu hg]
  exact drain_nothing hafter

theorem answers_proofRecordReceive (s : State) (n : Nat) (r : List Byte) (rest : List (List Byte))
    (hh : s.m.flt.halted = false) (hn : n < 32) (hm : s.m.mayMerge n 0 = true) (hx : (s.m.dport n 0).recs = r :: rest)
    (hr : recType r ≠ 5) (hidle : ∀ k : Nat, k < 32 → (s.m.dport k 0).dropped = 0 ∧ (s.m.dport k 0).cnts = [])
    (ha : s.m.pairActive = false) (hu : s.m.ringUsed n < 1024) (hg : (s.m.ring n).gap = 0) :
    Answers (.proofRecordReceive n) s (fun t => (t.dport n 0).recs = rest ∧
      memRead t.sram (ringSlot n (s.m.ringWr n)) r.length = r ∧
      SameOutside (ringSlot n (s.m.ringWr n)) (ringSlot n (s.m.ringWr n) + r.length) s.m.sram t.sram ∧
      t.reg (Reg.SEQ_PRF_WR n) = BitVec.ofNat 32 (s.m.ringWr n + 1) ∧ t.gddr = s.m.gddr ∧ t.outs = s.m.outs ∧
      SameRegs [Reg.SEQ_PRF_WR n] s.m t) := by
  have ht : s.m.proofReceive n = (s.m.setDport n 0 { s.m.dport n 0 with recs := rest }).ringWrite n r := by
    rw [Mod.proofReceive, if_pos hm, takeRec_eq hn hx hr hidle ha hu hg]
  have htake : RingTakes n r (s.m.setDport n 0 { s.m.dport n 0 with recs := rest }) (s.m.proofReceive n) := by
    rw [ht]
    exact ringTakes_ringWrite n r _
  have hport : (s.m.proofReceive n).dport n 0 = { s.m.dport n 0 with recs := rest } := by
    rw [Mod.dport, htake.dports]
    exact Mod.dport_setDport_self s.m n 0 _
  exact answers_effect (f := Mod.proofReceive n) rfl (decide_eq_true hn) hh rfl
    ⟨congrArg DiePort.recs hport, htake.slot, htake.outside, htake.wr, htake.gddr, htake.outs, htake.regs⟩

/-! ### The record of a partner (R237) -/

theorem memRead_take (mem : List Host.Cell) : ∀ (k n a : Nat), k ≤ n → (memRead mem a n).take k = memRead mem a k
  | 0, _, _, _ => rfl
  | k + 1, n + 1, a, h => congrArg (memByte mem a :: ·) (memRead_take mem k n (a + 1) (Nat.le_of_succ_le_succ h))

theorem memRead_prefix {mem : List Host.Cell} {k n a : Nat} {bs : List Byte} (hk : k ≤ n) (h : memRead mem a n = bs) :
    memRead mem a k = bs.take k := by
  rw [← h, memRead_take mem k n a hk]

/-- A record of the partner's port `n` as the mirror ring holds it. -/
def mirrorRec (n : Nat) (r : List Byte) : List Byte :=
  r.take 16 ++ leBytes 1 (n + 32 + 64 * (byteAt r 16 / 64)) ++ r.drop 17

theorem length_mirrorRec {n : Nat} {r : List Byte} (h : r.length = 64) : (mirrorRec n r).length = 64 := by
  simp only [mirrorRec, List.length_append, List.length_take, List.length_drop, length_leBytes, h]
  omega

theorem take_mirrorRec {n : Nat} {r : List Byte} (h : r.length = 64) : (mirrorRec n r).take 16 = r.take 16 := by
  have hl : (r.take 16).length = 16 := by rw [List.length_take, h]; rfl
  rw [mirrorRec, List.append_assoc, List.take_append_of_le_length hl.ge, List.take_of_length_le hl.le]

theorem ringTakes_captureReturn {n : Nat} {r : List Byte} {m : Mod} (hr : recType r ≠ 5) (hu : m.ringUsed (16 + n) < 1024)
    (hg : (m.ring (16 + n)).gap = 0) : RingTakes (16 + n) (mirrorRec n r) m (m.captureReturn n r) := by
  rw [Mod.captureReturn, countGap_other _ _ hr, ← mirrorRec, ringPut_room _ hu hg]
  exact ringTakes_ringWrite _ _ _

theorem answers_captureReturnRecord (s : State) (n : Nat) (r : List Byte) (hh : s.m.flt.halted = false)
    (hw : Wf.captureReturnRecord n r = true) (hl : r.length = 64) (hr : recType r ≠ 5) (hu : s.m.ringUsed (16 + n) < 1024)
    (hg : (s.m.ring (16 + n)).gap = 0) : Answers (.captureReturnRecord n r) s (fun t =>
      memRead t.sram (ringSlot (16 + n) (s.m.ringWr (16 + n))) 16 = r.take 16 ∧
      SameOutside (ringSlot (16 + n) (s.m.ringWr (16 + n))) (ringSlot (16 + n) (s.m.ringWr (16 + n)) + 64) s.m.sram t.sram ∧
      t.reg (Reg.SEQ_PRF_WR (16 + n)) = BitVec.ofNat 32 (s.m.ringWr (16 + n) + 1) ∧ t.gddr = s.m.gddr ∧
      t.outs = s.m.outs ∧ SameRegs [Reg.SEQ_PRF_WR (16 + n)] s.m t) := by
  obtain ⟨hslot, hout, hwr, hgddr, houts, -, hregs⟩ := ringTakes_captureReturn hr hu hg
  rw [length_mirrorRec hl] at hslot hout
  have hhead := (memRead_prefix (by decide : 16 ≤ 64) hslot).trans (take_mirrorRec hl)
  exact answers_effect (f := Mod.captureReturn n r) rfl hw hh rfl ⟨hhead, hout, hwr, hgddr, houts, hregs⟩

/-! ### The token (R220) -/

/-- The token of one die of a port on both: the END record waits for the other's. -/
theorem burstToken_first {n d : Nat} {m : Mod} (hd : d < 2) (hch : (m.dport n d).chans ≠ [])
    (hcounted : (m.dport n d).counted = true) (hrecs : (m.dport n d).recs = []) (htok : (m.dport n d).token = false)
    (htr : m.traceOwed n d = false) (hcnts : (m.dport n d).cnts = []) (hdrop : (m.dport n d).dropped = 0)
    (hst : (m.seq n).stopped.isSome = true) (ha : m.pairActive = false) (hch' : (m.dport n (1 - d)).chans ≠ [])
    (htok' : (m.dport n (1 - d)).token = false) :
    m.burstToken n d = m.setDport n d { m.dport n d with token := true } := by
  have hpresent : (m.dport n d).chans.isEmpty = false := List.isEmpty_eq_false_iff.mpr hch
  have hpresent' : (m.dport n (1 - d)).chans.isEmpty = false := List.isEmpty_eq_false_iff.mpr hch'
  have hnone : (m.seq n).stopped.isNone = false := Option.isNone_eq_false_iff.mpr hst
  have hother (x : DiePort) : (m.setDport n d x).dport n (1 - d) = m.dport n (1 - d) := dport_setDport_ne x m (by omega)
  have hwaits (x : DiePort) : ([0, 1].all fun k => ((m.setDport n d x).dport n k).chans.isEmpty ||
      ((m.setDport n d x).dport n k).token) = false := by
    refine List.all_eq_false.mpr ⟨1 - d, ?_, ?_⟩
    · have h01 : 1 - d = 0 ∨ 1 - d = 1 := by omega
      simpa using h01
    · rw [hother, hpresent', htok']
      exact Bool.false_ne_true
  unfold Mod.burstToken
  dsimp only
  rw [ha, Mod.when_false, hwaits, hpresent, hpresent', hcounted, hrecs, htok, htr, hcnts, hdrop, hnone]
  rfl

theorem answers_burstToken (s : State) (n d : Nat) (hh : s.m.flt.halted = false) (hw : Wf.burstToken n d = true)
    (hch : (s.m.dport n d).chans ≠ []) (hcounted : (s.m.dport n d).counted = true) (hrecs : (s.m.dport n d).recs = [])
    (htok : (s.m.dport n d).token = false) (htr : s.m.traceOwed n d = false) (hcnts : (s.m.dport n d).cnts = [])
    (hdrop : (s.m.dport n d).dropped = 0) (hst : (s.m.seq n).stopped.isSome = true) (ha : s.m.pairActive = false)
    (hch' : (s.m.dport n (1 - d)).chans ≠ []) (htok' : (s.m.dport n (1 - d)).token = false) :
    Answers (.burstToken n d) s (fun t => (t.dport n d).token = true ∧ t.ring n = s.m.ring n ∧ t.outs = s.m.outs ∧
      SameMemory s.m t ∧ SameRegs [] s.m t) := by
  have hd : d < 2 := by
    simp only [Wf.burstToken, Bool.and_eq_true, decide_eq_true_eq] at hw
    exact hw.2
  have ht := burstToken_first hd hch hcounted hrecs htok htr hcnts hdrop hst ha hch' htok'
  have hport : (s.m.burstToken n d).dport n d = { s.m.dport n d with token := true } := by
    rw [ht, Mod.dport_setDport_self]
  have hring : (s.m.burstToken n d).ring n = s.m.ring n := by
    rw [ht]
    rfl
  have hk : Silent s.m (s.m.burstToken n d) := by
    rw [ht]
    exact silent_setDport n d _ s.m
  exact answers_effect (f := Mod.burstToken n d) rfl hw hh rfl
    ⟨congrArg DiePort.token hport, hring, hk.outs, hk.memory, .of_eq hk.regs⟩

/-! ### Spill and trace header (R228, R233) -/

/-- Where no journal runs, a count consumed is told to nobody. -/
theorem journalConsumed_off {n : Nat} {m : Mod} (h : m.journalOn = false) : m.journalConsumed n = m := by
  have hj (body : List Byte) : m.journal 8 n noSite 0 0xFFFF 0xFFFF body = m := by
    unfold Mod.journal
    rw [h]
    rfl
  unfold Mod.journalConsumed Mod.when
  split
  · exact hj _
  · rfl

/-- A module whose ring has given up its oldest record to the spill region. -/
def Mod.ringSpilled (n rd swr : Nat) (m : Mod) : Mod :=
  (m.setReg (Reg.SEQ_PRF_SWR n) (BitVec.ofNat 32 swr)).setReg (Reg.SEQ_PRF_RD n) (BitVec.ofNat 32 rd)

theorem sameRegs_ringSpilled (n rd swr : Nat) (m : Mod) :
    SameRegs [Reg.SEQ_PRF_RD n, Reg.SEQ_PRF_SWR n] m (m.ringSpilled n rd swr) := by
  intro o ho
  simp only [List.mem_cons, List.not_mem_nil, or_false, not_or] at ho
  rw [Mod.ringSpilled, Mod.reg_setReg_ne _ _ _ _ ho.1, Mod.reg_setReg_ne _ _ _ _ ho.2]

theorem journalOn_ringSpilled {n : Nat} (hn : n < 32) (rd swr : Nat) (m : Mod) : 
    (m.ringSpilled n rd swr).journalOn = m.journalOn := by
  rw [Mod.ringSpilled, Mod.journalOn_setReg _ _ _ (by unfold Reg.SEQ_PRF_RD Reg.SL_STATUS; omega),
    Mod.journalOn_setReg _ _ _ (by unfold Reg.SEQ_PRF_SWR Reg.SL_STATUS; omega)]

theorem swr_ringSpilled (n rd swr : Nat) (m : Mod) : 
    (m.ringSpilled n rd swr).reg (Reg.SEQ_PRF_SWR n) = BitVec.ofNat 32 swr := by
  have hne : Reg.SEQ_PRF_SWR n ≠ Reg.SEQ_PRF_RD n := by unfold Reg.SEQ_PRF_SWR Reg.SEQ_PRF_RD; omega
  rw [Mod.ringSpilled, Mod.reg_setReg_ne _ _ _ _ hne, Mod.reg_setReg_self]

theorem answers_spillCopy (s : State) (n : Nat) (m1 : Mod) (hh : s.m.flt.halted = false) (hn : n < 32)
    (hm : (s.m.ring n).mode = 2) (hu : s.m.ringUsed n ≠ 0)
    (hf : ((s.m.reg (Reg.SEQ_PRF_SWR n)).toNat + 0x100000000 - (s.m.reg (Reg.SEQ_PRF_SRD n)).toNat) % 0x100000000 ≠
      s.m.spillCap n) (hb : s.m.slotBad n (s.m.ringRd n) = false)
    (hput : s.m.devPut 24 (s.m.ring n).ctx (s.m.rd64 (Reg.SEQ_PRF_SPILL_BASE_LO n) +
      64 * ((s.m.reg (Reg.SEQ_PRF_SWR n)).toNat % s.m.spillCap n))
      (memRead s.m.sram (ringSlot n (s.m.ringRd n)) 64) = .ok m1) (hj : m1.journalOn = false) :
    Answers (.spillCopy n) s (fun t => t.gddr = m1.gddr ∧ t.sram = m1.sram ∧ t.outs = m1.outs ∧
      t.reg (Reg.SEQ_PRF_RD n) = BitVec.ofNat 32 (s.m.ringRd n + 1) ∧
      t.reg (Reg.SEQ_PRF_SWR n) = BitVec.ofNat 32 ((s.m.reg (Reg.SEQ_PRF_SWR n)).toNat + 1) ∧
      SameRegs [Reg.SEQ_PRF_RD n, Reg.SEQ_PRF_SWR n] m1 t) := by
  have ht : s.m.spillCopy n = m1.ringSpilled n (s.m.ringRd n + 1) ((s.m.reg (Reg.SEQ_PRF_SWR n)).toNat + 1) := by
    have hmode : ¬ ((s.m.ring n).mode ≠ 2 ∨ s.m.ringUsed n = 0) := fun h => h.elim (· hm) hu
    unfold Mod.spillCopy
    dsimp only
    rw [if_neg hmode, if_neg hf, hb, if_neg Bool.false_ne_true, hput]
    exact journalConsumed_off ((journalOn_ringSpilled hn _ _ m1).trans hj)
  have hrd : (m1.ringSpilled n (s.m.ringRd n + 1) ((s.m.reg (Reg.SEQ_PRF_SWR n)).toNat + 1)).reg (Reg.SEQ_PRF_RD n) =
      BitVec.ofNat 32 (s.m.ringRd n + 1) := Mod.reg_setReg_self _ _ _
  exact answers_effect (f := Mod.spillCopy n) rfl (decide_eq_true hn) hh ht
    ⟨rfl, rfl, rfl, hrd, swr_ringSpilled _ _ _ _, sameRegs_ringSpilled _ _ _ _⟩

theorem answers_traceHeaderWrite (s : State) (n d : Nat) (m1 : Mod) (hh : s.m.flt.halted = false)
    (hw : Wf.traceHeaderWrite n d = true) (hch : (s.m.dport n d).chans ≠ []) (hdone : (s.m.dport n d).done = true)
    (htr : s.m.traceOwed n d = true) (hbits : (s.m.dport n d).trBits = [])
    (hput : (s.m.setDport n d { (s.m.dport n d) with trDue := false, trBits := [] }).devPut 24 (s.m.seq n).img.ctx
      (s.m.traceBase n d) ((s.m.dport n d).traceHdr n d) = .ok m1) : Answers (.traceHeaderWrite n d) s (fun t =>
      (t.dport n d).trDue = (m1.dport n d).trDue ∧ t.gddr = m1.gddr ∧ t.sram = m1.sram ∧ t.outs = m1.outs ∧
      t.regs = m1.regs) := by
  have hempty (ctx va : Nat) (m : Mod) : m.devPut 24 ctx va [] = .ok m := rfl
  have hpresent : (s.m.dport n d).chans.isEmpty = false := List.isEmpty_eq_false_iff.mpr hch
  have hgo : ¬ ((!s.m.traceOwed n d ||
      !(if (s.m.dport n d).chans.isEmpty then (s.m.dport n (1 - d)).done else (s.m.dport n d).done)) = true) := by
    rw [htr, hpresent, if_neg Bool.false_ne_true, hdone]
    exact Bool.false_ne_true
  have ht : s.m.traceHeader n d = m1 := by
    unfold Mod.traceHeader
    dsimp only
    rw [if_neg hgo, hbits, List.isEmpty_nil, if_pos rfl, hempty]
    dsimp only
    rw [hput]
  exact answers_effect (f := Mod.traceHeader n d) rfl hw hh ht ⟨rfl, rfl, rfl, rfl, rfl⟩

end Sys2Proof.Machine
end

section
/-!
PROOF. The end of a burst (R190, R191).
-/

namespace Sys2Proof.Machine

/-! ### A sequencer is left (R181, R188) -/

/-- `b` is `a` but for registers of SEQ_GRPg_RESV, here or at the partner. -/
def ResvOnly (a b : Mod) : Prop :=
  (∃ r p, b = { a with regs := r, pair := p }) ∧ ∀ o, o < 0x420000 ∨ 0x420100 ≤ o → b.reg o = a.reg o

theorem resvOnly_putUsed (g v : Nat) (m : Mod) : ResvOnly m (m.putUsed g v) := by
  unfold Mod.putUsed
  split
  · exact ⟨⟨_, _, rfl⟩, fun o ho => Mod.reg_wr_ne _ _ _ _ _ (by unfold Reg.SEQ_GRP_RESV; omega)⟩
  · exact ⟨⟨_, _, rfl⟩, fun _ _ => rfl⟩

/-- The entry of a sequencer that has been left. -/
def Seq.left (x : Seq) : Seq := { Seq.fresh with pc := x.pc, mirror := x.mirror, tset := x.tset }

/-- A port's part of the dies is cleared, and its sequencer idle. -/
def Mod.portsCleared (n : Nat) (m : Mod) : Mod :=
  ((m.setDport n 0 DiePort.fresh).setDport n 1 DiePort.fresh).setSeqState n 0

/-- A sequencer outside a machine check is left idle: its charge is released, and its ports at the dies are cleared. -/
theorem leaveSeq_eq {n : Nat} {m : Mod} (h : m.seqState n ≠ 6) : ∃ m1, ResvOnly m m1 ∧ m.leaveSeq n =
    (m1.putSeq n (m.seq n).left).portsCleared n := by
  have hidle : (m.seqState n != 6) = true := bne_iff_ne.mpr h
  unfold Mod.leaveSeq
  dsimp only
  rw [hidle]
  refine ⟨_, ?_, rfl⟩
  unfold Mod.when
  split
  · exact resvOnly_putUsed _ _ m
  · exact ⟨⟨m.regs, m.pair, rfl⟩, fun _ _ => rfl⟩

/-- `b` is `a` with sequencer `n` left, in what the end of a burst shows. -/
structure SeqLeft (n : Nat) (a b : Mod) : Prop where
  seq : b.seq n = (a.seq n).left
  idle : b.seqState n = 0
  last : b.reg (Reg.SEQ_LAST n) = a.reg (Reg.SEQ_LAST n)
  outs : b.outs = a.outs
  gddr : b.gddr = a.gddr
  sram : b.sram = a.sram
  hat : b.hat = a.hat
  sys : b.sys = a.sys
  pairActive : b.pairActive = a.pairActive

theorem seqLeft_portsCleared {n : Nat} {a b c : Mod} (hn : n < 32) (hresv : ResvOnly a b) (hput : SeqOnly n (seqShows n) b c)
    (hseq : c.seq n = (a.seq n).left) : SeqLeft n a (c.portsCleared n) := by
  obtain ⟨⟨r, p, hb⟩, hregs⟩ := hresv
  have hstatus : Reg.SEQ_STATUS n ∈ seqShows n := by simp [seqShows]
  have hreg (o : Nat) (ho : o ∉ seqShows n) (hr : o < 0x420000 ∨ 0x420100 ≤ o) : (c.portsCleared n).reg o = a.reg o :=
    (Mod.reg_wr_ne _ _ _ _ _ fun e => ho (by rw [e]; exact hstatus)).trans ((hput.regs o ho).trans (hregs o hr))
  have hlast : Reg.SEQ_LAST n ∉ seqShows n := by
    simp only [seqShows, Reg.SEQ_LAST, Reg.SEQ_STATUS, Reg.SEQ_PF_STATUS, Reg.SEQ_PC, List.mem_cons, List.not_mem_nil,
      or_false]
    omega
  have hlink : Reg.SL_STATUS ∉ seqShows n := fun hmem => notMem_seqFlagShows hn (by decide) (seqShows_subset n hmem)
  have hrest : c = { a with regs := c.regs, seqs := c.seqs, pair := c.pair } := by rw [hput.rest, hb]
  refine ⟨hseq, seqState_setSeqState n _ 0 (by decide), hreg _ hlast (.inl (by unfold Reg.SEQ_LAST; omega)), ?_, ?_,
    ?_, ?_, ?_, congrArg (fun w => fget Fields.SL_STATUS.STATE w == 4) (hreg _ hlink (.inr (by decide)))⟩
  · exact (congrArg Mod.outs hrest :)
  · exact (congrArg Mod.gddr hrest :)
  · exact (congrArg Mod.sram hrest :)
  · exact (congrArg Mod.hat hrest :)
  · exact (congrArg Mod.sys hrest :)

theorem seqLeft_leaveSeq {n : Nat} {m : Mod} (hn : n < 32) (h : m.seqState n ≠ 6) : SeqLeft n m (m.leaveSeq n) := by
  obtain ⟨m1, hresv, hleave⟩ := leaveSeq_eq h
  rw [hleave]
  exact seqLeft_portsCleared hn hresv (seqOnly_putSeq n _ m1) (seq_putSeq n _ m1)

/-! ### The report (R190, R191) -/

/-- Outside a working pair a report goes to Hatch alone. -/
theorem report_alone {j : Job} {i : Nat} {m : Mod} (hj : j.inst = some i) (ha : m.pairActive = false) (st : Nat) (v : DWord)
    (fail : Bool) (stretch : Nat) (ran : Bool) : m.report j st v fail stretch ran =
      { m with hat := { m.hat with reports := m.hat.reports ++ [⟨i, j.node, st, v, fail, stretch, ran⟩] } } := by
  unfold Mod.report
  rw [hj]
  dsimp only
  rw [ha, Bool.false_and, Mod.when_false]

/-- SEQn_LAST of a burst that completes. -/
def Mod.lastShown (n code : Nat) (stretched fail : Bool) (m : Mod) : Mod :=
  ((m.wr (Reg.SEQ_LAST n) Fields.SEQ_LAST.STATUS code).wr (Reg.SEQ_LAST n) Fields.SEQ_LAST.STRETCHED (b2n stretched)).wr
    (Reg.SEQ_LAST n) Fields.SEQ_LAST.FAIL (b2n fail)

theorem seqOnly_lastShown (n code : Nat) (stretched fail : Bool) (m : Mod) :
    SeqOnly n [Reg.SEQ_LAST n] m (m.lastShown n code stretched fail) :=
  (((SeqOnly.refl _ _ m).wr _ _ _ List.mem_cons_self).wr _ _ _ List.mem_cons_self).wr _ _ _ List.mem_cons_self

theorem status_lastShown (n code : Nat) (stretched fail : Bool) (m : Mod) :
    (m.lastShown n code stretched fail).rd (Reg.SEQ_LAST n) Fields.SEQ_LAST.STATUS = code % 256 := by
  rw [Mod.lastShown, Mod.rd_wr_field _ _ _ _ _ (by decide), Mod.rd_wr_field _ _ _ _ _ (by decide),
    Mod.rd_wr_self _ _ _ _ (by decide)]
  rfl

/-- A burst whose END record stands shows its end, leaves its sequencer and reports. -/
theorem burstComplete_ends {n c : Nat} {j : Job} {m : Mod} (hf : (m.seq n).failAt = []) (hj : (m.seq n).job = some j)
    (hst : (m.seq n).stopped = some c) (he : (m.ring n).endDue = false) (hm : (m.seq n).mirrored = false) :
    m.burstComplete n = ((m.lastShown n (m.seq n).code (m.rd64 (Reg.SEQ_STRETCH_LO n) != 0) (m.tokenFail n)).leaveSeq
      n).report j (m.seq n).code (m.burstWord n) (m.tokenFail n) (m.rd64 (Reg.SEQ_STRETCH_LO n)) true := by
  have hseen (p q r : Bool) : ((m.seq n).stopped.isSome && (m.ring n).endDue && p && q && r) = false := by
    rw [he, Bool.and_false, Bool.false_and, Bool.false_and, Bool.false_and]
  have hquiet : (!(m.seq n).failAt.isEmpty) = false := by rw [hf]; rfl
  have hopen : ¬ (((m.ring n).endDue || (m.seq n).mirrored) = true) := by rw [he, hm]; exact Bool.false_ne_true
  unfold Mod.burstComplete
  dsimp only
  rw [hseen, Mod.when_false, hquiet, Mod.when_false, hj, hst]
  dsimp only
  rw [if_neg hopen]
  rfl

theorem answers_burstComplete (s : State) (n i c : Nat) (j : Job) (hh : s.m.flt.halted = false) (hn : n < 32)
    (ho : s.m.sys.orderly = PowerDown.none) (hf : (s.m.seq n).failAt = []) (hj : (s.m.seq n).job = some j)
    (hi : j.inst = some i) (hst : (s.m.seq n).stopped = some c) (he : (s.m.ring n).endDue = false)
    (hm : (s.m.seq n).mirrored = false) (ha : s.m.pairActive = false) (h5 : s.m.seqState n = 5) :
    Answers (.burstComplete n) s (fun t => (t.seq n).job = none ∧ t.seqState n = 0 ∧ (t.seq n).pc = (s.m.seq n).pc ∧
      t.rd (Reg.SEQ_LAST n) Fields.SEQ_LAST.STATUS = (s.m.seq n).code % 256 ∧
      t.hat.reports = s.m.hat.reports ++ [⟨i, j.node, (s.m.seq n).code, s.m.burstWord n, s.m.tokenFail n,
        s.m.rd64 (Reg.SEQ_STRETCH_LO n), true⟩] ∧ t.outs = s.m.outs ∧ SameMemory s.m t) := by
  have hend := burstComplete_ends hf hj hst he hm
  have hshown := seqOnly_lastShown n (s.m.seq n).code (s.m.rd64 (Reg.SEQ_STRETCH_LO n) != 0) (s.m.tokenFail n) s.m
  have hstatus := status_lastShown n (s.m.seq n).code (s.m.rd64 (Reg.SEQ_STRETCH_LO n) != 0) (s.m.tokenFail n) s.m
  have hentry : (s.m.lastShown n (s.m.seq n).code (s.m.rd64 (Reg.SEQ_STRETCH_LO n) != 0) (s.m.tokenFail n)).seq n =
    s.m.seq n := rfl
  generalize s.m.lastShown n (s.m.seq n).code (s.m.rd64 (Reg.SEQ_STRETCH_LO n) != 0) (s.m.tokenFail n) = m1 at *
  have hstate : m1.seqState n ≠ 6 := by
    have hsame : m1.seqState n = s.m.seqState n := hshown.rd (by
      simp only [Reg.SEQ_LAST, Reg.SEQ_STATUS, List.mem_cons, List.not_mem_nil, or_false]; omega) _
    rw [hsame, h5]
    decide
  have hlink : m1.pairActive = false := by
    have hsame : m1.pairActive = s.m.pairActive := congrArg (· == 4) (hshown.rd (by
      simp only [Reg.SEQ_LAST, Reg.SL_STATUS, List.mem_cons, List.not_mem_nil, or_false]; omega) Fields.SL_STATUS.STATE)
    exact hsame.trans ha
  obtain ⟨hseq, hidle, hlast, houts, hgddr, hsram, hhat, hsys, hpair⟩ := seqLeft_leaveSeq hn hstate
  generalize m1.leaveSeq n = m2 at *
  rw [report_alone hi (hpair.trans hlink)] at hend
  have hready : (s.m.burstComplete n).offReady = s.m.burstComplete n := by
    have hnone : (s.m.burstComplete n).sys.orderly = PowerDown.none := by
      rw [hend]
      exact (congrArg Sys.orderly (hsys.trans (congrArg Mod.sys hshown.rest))).trans ho
    unfold Mod.offReady
    rw [hnone]
  rw [hentry] at hseq
  have hjob : (m2.seq n).job = none ∧ (m2.seq n).pc = (s.m.seq n).pc := by
    rw [hseq]
    exact ⟨rfl, rfl⟩
  obtain ⟨hjob, hpc⟩ := hjob
  have hrd : m2.rd (Reg.SEQ_LAST n) Fields.SEQ_LAST.STATUS = (s.m.seq n).code % 256 := by
    rw [Mod.rd, hlast]
    exact hstatus
  have hreports : m2.hat.reports = s.m.hat.reports := by
    rw [hhat, hshown.rest]
  have hmem : SameMemory s.m m2 := .of_eq (hgddr.trans hshown.gddr) (hsram.trans hshown.sram)
  exact answers_effect (f := fun m => (m.burstComplete n).offReady) rfl (decide_eq_true hn) hh (hready.trans hend)
    ⟨hjob, hidle, hpc, hrd, congrArg (· ++ _) hreports, houts.trans hshown.outs, hmem⟩

end Sys2Proof.Machine
end

section
/-!
PROOF. Judgement at a pin die and the playing of a vector (R196, R213, R220), and O34.
-/

namespace Sys2Proof.Machine

/-! ### A strobe is judged (R213, R216) -/

/-- A die whose oldest verdict still waits for strobes, before its burst has ended there, finishes nothing. -/
theorem dieWork_waits {n d : Nat} {m : Mod} {v : Verdict} {rest : List Verdict} (hv : (m.dport n d).verdicts = v :: rest)
    (hl : v.left ≠ 0) (hd : (m.dport n d).done = false) : m.dieWork n d = m := by
  have hfinish : m.finishVerdicts n d (m.dport n d).verdicts.length = m := by
    rw [hv, List.length_cons, Mod.finishVerdicts]
    rw [hv]
    dsimp only
    rw [if_neg hl]
  rw [Mod.dieWork, hfinish, Mod.sendCounts, hd]
  rfl

/-- A verdict outside MATCH bodies takes the judgement of an unmasked pin. -/
theorem judge_eq {n ch vec : Nat} {m : Mod} {v : Verdict} (pass second : Bool)
    (hv : (m.dport n (ch / 128)).verdicts = [v]) (hvec : v.vec = vec) (hi : v.iter = []) (hf : v.fails = [])
    (hm : m.masked ch = false) : ∃ w, m.judge n ch vec pass second false =
        m.setDport n (ch / 128) { m.dport n (ch / 128) with verdicts := [w] } ∧ w.vec = v.vec ∧ w.left = v.left - 1 ∧
      w.fails = if pass then [] else [(m.dport n (ch / 128)).indexOf ch] := by
  unfold Mod.judge Mod.onVerdict
  dsimp only
  rw [hv, List.map_singleton, if_pos hvec, hi, hm, List.isEmpty_nil, Bool.not_true, if_neg Bool.false_ne_true, Bool.or_false]
  refine ⟨_, rfl, ?_⟩
  cases pass
  · rw [if_neg Bool.false_ne_true, hf]
    exact ⟨rfl, rfl, rfl⟩
  · exact ⟨rfl, rfl, hf⟩

/-- An edge strobe of a pin, against the thresholds in force. -/
theorem strobeJudgement_edge {n ch : Nat} {obs : List (Int × Nat)} {m : Mod} {k : Strobe} {rest : List Strobe}
    (hch : ch < 256) (hp : (m.pin ch).placed = k :: rest) (hn : m.playOwner ch = some n) (hk : k.close = none)
    (h8 : k.code ≠ 8) (hl : m.isLost (17 + ch / 128) = false) : ∀ a,
    a = pinState ((m.lv ch).thresholds (2048 * (m.dport n (ch / 128)).t0 + k.t)) (obs.headD (0, 0)).1 →
    m.strobeJudgement ch obs = ((m.setPin ch { m.pin ch with placed := rest, seen := some a }).judge n ch k.vec
      (edgePasses k.code a (m.pin ch).seen) k.second false).dieWork n (ch / 128) := by
  rintro a rfl
  have hcomp : m.comparator ch = ((m.lv ch).thresholds, (m.lv ch).hist.map (fun e => 125 * e.1)) := if_pos hch
  unfold Mod.strobeJudgement
  dsimp only
  rw [hp, if_pos hch, hn]
  dsimp only
  rw [hl, if_neg Bool.false_ne_true, hcomp]
  dsimp only
  rw [if_neg h8, hk]
  rfl

theorem answers_strobeJudgement (s : State) (ch n a : Nat) (obs : List (Int × Nat)) (k : Strobe) (rest : List Strobe)
    (v : Verdict) (hw : Wf.strobeJudgement ch obs = true) (hch : ch < 256) (hp : (s.m.pin ch).placed = k :: rest)
    (hn : s.m.playOwner ch = some n) (hk : k.close = none) (h8 : k.code ≠ 8)
    (ha : a = pinState ((s.m.lv ch).thresholds (2048 * (s.m.dport n (ch / 128)).t0 + k.t)) (obs.headD (0, 0)).1)
    (hl : s.m.isLost (17 + ch / 128) = false) (hm : s.m.masked ch = false) (hd : (s.m.dport n (ch / 128)).done = false)
    (hv : (s.m.dport n (ch / 128)).verdicts = [v]) (hvec : v.vec = k.vec) (hi : v.iter = []) (hleft : 2 ≤ v.left)
    (hf : v.fails = []) : Answers (.strobeJudgement ch obs) s (fun t => (t.pin ch).placed = rest ∧
      (t.pin ch).seen = some a ∧ (t.dport n (ch / 128)).verdicts.map (fun w => (w.vec, w.left, w.fails)) =
        [(v.vec, v.left - 1, if edgePasses k.code a (s.m.pin ch).seen then [] else [(s.m.dport n (ch / 128)).indexOf ch])] ∧
      t.outs = s.m.outs ∧ SameMemory s.m t ∧ SameRegs [] s.m t) := by
  obtain ⟨w, hjudge, hwvec, hwleft, hwfails⟩ :=
    judge_eq (m := s.m.setPin ch { s.m.pin ch with placed := rest, seen := some a }) (edgePasses k.code a (s.m.pin ch).seen)
      k.second hv hvec hi hf hm
  have hpin : (s.m.setPin ch { s.m.pin ch with placed := rest, seen := some a }).pin ch =
    { s.m.pin ch with placed := rest, seen := some a } := Mod.pin_setPin_self s.m ch _
  have hsilent : Silent s.m (s.m.setPin ch { s.m.pin ch with placed := rest, seen := some a }) := ⟨rfl, rfl, rfl, rfl⟩
  have hstrobe := strobeJudgement_edge (obs := obs) hch hp hn hk h8 hl a ha
  have hdone : ((s.m.setPin ch { s.m.pin ch with placed := rest, seen := some a }).dport n (ch / 128)).done = false := hd
  have hindex : ((s.m.setPin ch { s.m.pin ch with placed := rest, seen := some a }).dport n (ch / 128)).indexOf ch =
    (s.m.dport n (ch / 128)).indexOf ch := rfl
  rw [hjudge] at hstrobe
  rw [hindex] at hwfails
  generalize s.m.setPin ch { s.m.pin ch with placed := rest, seen := some a } = m1 at *
  have hport := Mod.dport_setDport_self m1 n (ch / 128) { m1.dport n (ch / 128) with verdicts := [w] }
  have hplaced : m1.setDport n (ch / 128) { m1.dport n (ch / 128) with verdicts := [w] } = s.m.strobeJudgement ch obs := by
    rw [hstrobe, dieWork_waits (congrArg DiePort.verdicts hport) (by omega) ((congrArg DiePort.done hport).trans hdone)]
  have hverdicts := congrArg (fun x => x.verdicts.map (fun w => (w.vec, w.left, w.fails))) hport
  simp only [List.map_singleton, hwvec, hwleft, hwfails] at hverdicts
  have hafter := hsilent.trans (silent_setDport n (ch / 128) { m1.dport n (ch / 128) with verdicts := [w] } m1)
  exact answers_effect_always (f := Mod.strobeJudgement ch obs) rfl hw hplaced.symm
    ⟨congrArg Pin.placed hpin, congrArg Pin.seen hpin, hverdicts, hafter.outs, hafter.memory, .of_eq hafter.regs⟩

/-! ### What the playing of a vector leaves (R196 to R206) -/

/-- `y` is `x` in what stands of a die's port until the die plays or ends: the vectors it has, those it has played, its grid,
the end of the burst and the channels it traces. -/
structure PortStands (x y : DiePort) : Prop where
  play : y.play = x.play
  played : y.played = x.played
  et : y.et = x.et
  last : y.last = x.last
  done : y.done = x.done
  traced : y.traced = x.traced

theorem PortStands.refl (x : DiePort) : PortStands x x := ⟨rfl, rfl, rfl, rfl, rfl, rfl⟩

theorem PortStands.trans {x y z : DiePort} (h : PortStands x y) (k : PortStands y z) : PortStands x z :=
  ⟨k.play.trans h.play, k.played.trans h.played, k.et.trans h.et, k.last.trans h.last, k.done.trans h.done,
    k.traced.trans h.traced⟩

/-- `b` is `a` in both memories and in what stands of every port at the dies. -/
structure PortsStand (a b : Mod) : Prop where
  gddr : b.gddr = a.gddr
  sram : b.sram = a.sram
  ports : ∀ k e, PortStands (a.dport k e) (b.dport k e)

section
variable {a b c : Mod}

theorem PortsStand.refl (a : Mod) : PortsStand a a := ⟨rfl, rfl, fun _ _ => .refl _⟩

theorem PortsStand.trans (h : PortsStand a b) (k : PortsStand b c) : PortsStand a c :=
  ⟨k.gddr.trans h.gddr, k.sram.trans h.sram, fun n d => (h.ports n d).trans (k.ports n d)⟩

/-- A change that reaches neither memory nor the ports at the dies. -/
theorem PortsStand.same (hg : b.gddr = a.gddr) (hs : b.sram = a.sram) (hd : b.dports = a.dports) : PortsStand a b :=
  ⟨hg, hs, fun k e => by rw [Mod.dport, Mod.dport, hd]; exact .refl _⟩

theorem PortsStand.when (p : Bool) (f : Mod → Mod) (h : PortsStand a (f a)) : PortsStand a (a.when p f) := by
  cases p
  · exact .refl a
  · exact h

theorem PortsStand.each (l : List Nat) (f : Nat → Mod → Mod) (m : Mod) (h : ∀ k x, PortsStand x (f k x)) :
    PortsStand m (m.each l f) :=
  Mod.each_keeps m (PortsStand m) l f (fun k _ _ hx => hx.trans (h k _)) (.refl m)

/-- A fold that counts beside the module keeps what each of its steps keeps. -/
theorem PortsStand.foldl_count {α : Type} (g : α → Mod → Nat × Mod) (h : ∀ x m, PortsStand m (g x m).2) :
    ∀ (l : List α) (k : Nat) (m : Mod), PortsStand m (l.foldl (fun a x => (a.1 + (g x a.2).1, (g x a.2).2)) (k, m)).2
  | [], _, m => .refl m
  | x :: l, _, m => (h x m).trans (foldl_count g h l _ (g x m).2)

end

section
variable (n d ch : Nat) (m : Mod)

/-- A port at a die is set to one that stands as it did. -/
theorem portsStand_setDport {x : DiePort}
    (h : PortStands (m.dport n d) x := by exact ⟨rfl, rfl, rfl, rfl, rfl, rfl⟩) : PortsStand m (m.setDport n d x) := by
  refine ⟨rfl, rfl, fun k e => ?_⟩
  by_cases he : 2 * k + e = 2 * n + d
  · have ha : m.dport k e = m.dport n d := congrArg (SMap.get (fun _ => DiePort.fresh) m.dports) he
    have hb : (m.setDport n d x).dport k e = (m.setDport n d x).dport n d :=
      congrArg (SMap.get (fun _ => DiePort.fresh) (m.setDport n d x).dports) he
    rw [ha, hb, Mod.dport_setDport_self]
    exact h
  · rw [dport_setDport_ne x m he]
    exact .refl _

theorem portsStand_setPin (p : Pin) : PortsStand m (m.setPin ch p) := .same rfl rfl rfl
theorem portsStand_setSeq (x : Seq) : PortsStand m (m.setSeq n x) := .same rfl rfl rfl
theorem portsStand_wr (off : Nat) (f : Fld) (v : Nat) : PortsStand m (m.wr off f v) := .same rfl rfl rfl
theorem portsStand_wr64 (off v : Nat) : PortsStand m (m.wr64 off v) := .same rfl rfl rfl
theorem portsStand_emit (o : Output) : PortsStand m (m.emit o) := .same rfl rfl rfl

theorem portsStand_post (c s i k t r a : Nat) : PortsStand m (m.post c s i k t r a) := by
  have h := (onlyPosts_post c s i k t r a m).1
  exact .same (by rw [h]) (by rw [h]) (by rw [h])

theorem portsStand_tflag (s : Nat) (f : Fld) : PortsStand m (m.tflag ch s f) := by
  have hwr : PortsStand m ((m.wr (chReg Reg.CH_TSTAT ch) f 1).wr (chReg Reg.CH_TSTAT ch) Fields.CH_TSTAT.LAST_SET s) :=
    (portsStand_wr m _ _ _).trans (portsStand_wr _ _ _ _)
  unfold Mod.tflag
  dsimp only
  split
  · exact (hwr.trans (portsStand_wr _ _ _ _)).trans (portsStand_post _ _ _ _ _ _ _ _)
  · exact hwr

theorem portsStand_pinEvent (vec : Nat) (drv : Bool) (t : Int) (what : Nat) : PortsStand m (m.pinEvent ch vec drv t what) :=
  portsStand_emit m _

theorem portsStand_noteBurst (code : Nat) : PortsStand m (m.noteBurst n code) := by
  unfold Mod.noteBurst
  dsimp only
  split
  · exact portsStand_setSeq n m _
  · exact .refl m

theorem portsStand_onVerdict (k : Nat) (f : Verdict → Verdict) : PortsStand m (m.onVerdict n d k f) :=
  portsStand_setDport n d m

theorem portsStand_judge (vec : Nat) (pass second winc : Bool) : PortsStand m (m.judge n ch vec pass second winc) :=
  portsStand_onVerdict n _ m _ _

theorem portsStand_dropStrobe (vec : Nat) : PortsStand m (m.dropStrobe n ch vec) := portsStand_onVerdict n _ m _ _

theorem portsStand_placeDrive (e : DriveEv) : PortsStand m (m.placeDrive ch e) := by
  unfold Mod.placeDrive
  split
  · exact .refl m
  · dsimp only
    split
    · exact portsStand_setPin ch m _
    · exact ((portsStand_setPin ch m _).trans (.when _ _ (portsStand_tflag ch _ _ _))).trans (portsStand_pinEvent ch _ _ _ _ _)

theorem portsStand_placeStrobe (s : Strobe) : PortsStand m (m.placeStrobe n ch s) := by
  have hpin (p : Pin) : PortsStand m (m.setPin ch p) := portsStand_setPin ch m p
  unfold Mod.placeStrobe
  dsimp only
  split
  · exact portsStand_dropStrobe n ch m _
  · split
    · exact ((hpin _).trans (.when _ _ (portsStand_tflag ch _ _ _))).trans (portsStand_pinEvent ch _ _ _ _ _)
    · split
      · exact ((hpin _).trans (portsStand_tflag ch _ _ _)).trans (portsStand_judge n ch _ _ _ _ _)
      · exact ((hpin _).trans (portsStand_pinEvent ch _ _ _ _ _)).trans (portsStand_pinEvent ch _ _ _ _ _)

theorem portsStand_settleDrives (j c : Nat) : ∀ (l : List DriveEv) (m : Mod), PortsStand m (m.settleDrives ch j c l)
  | [], m => .refl m
  | e :: t, m => by
    unfold Mod.settleDrives
    split
    · exact (portsStand_tflag ch m _ _).trans (portsStand_settleDrives j c t _)
    · split
      · exact (portsStand_placeDrive ch m e).trans (portsStand_settleDrives j c t _)
      · exact (portsStand_setPin ch m _).trans (portsStand_settleDrives j c t _)

theorem portsStand_settleStrobes (j c : Nat) : ∀ (held : Bool) (l : List Strobe) (m : Mod),
    PortsStand m (m.settleStrobes n ch j c held l)
  | _, [], m => .refl m
  | held, e :: t, m => by
    unfold Mod.settleStrobes
    dsimp only
    split
    · exact ((portsStand_tflag ch m _ _).trans (portsStand_dropStrobe n ch _ _)).trans (portsStand_settleStrobes j c held t _)
    · split
      · exact (portsStand_placeStrobe n ch m e).trans (portsStand_settleStrobes j c false t _)
      · exact (portsStand_setPin ch m _).trans (portsStand_settleStrobes j c _ t _)

theorem portsStand_settle (j c : Nat) : PortsStand m (m.settle n ch j c) :=
  ((portsStand_setPin ch m _).trans (portsStand_settleDrives ch j c _ _)).trans (portsStand_settleStrobes n ch j c _ _ _)

/-! ### The pins play (R198 to R202, R263) -/

theorem portsStand_queueEvents (et : Nat) (v : Vec) (code period : Nat) :
    PortsStand m (m.queueEvents ch et v code period).2 :=
  (portsStand_setPin ch m _).trans (.when _ _ (portsStand_tflag ch _ _ _))

theorem portsStand_hvPlay (h et : Nat) (v : Vec) (raw period : Nat) (mute : Bool) :
    PortsStand m (m.hvPlay h et v raw period mute).2 := by
  have hset (y : HvLive) : PortsStand m (m.setHv h y) := .same rfl rfl rfl
  unfold Mod.hvPlay
  dsimp only
  split
  · exact (hset _).trans (.when _ _ (portsStand_wr _ _ _ _))
  · have hdrive (y : HvLive) (p : Bool) (o : Output) : PortsStand m ((m.setHv h y).when p (Mod.emit o)) :=
      (hset y).trans (.when _ _ (portsStand_emit _ _))
    split
    · exact ((hdrive _ _ _).trans (portsStand_setPin _ _ _)).trans (portsStand_emit _ _)
    · exact hdrive _ _ _

theorem portsStand_playPin (x : DiePort) (v : Vec) (period : Nat) (e : Nat × Nat) :
    PortsStand m (m.playPin n x v period e).2 := by
  have hnote (p : Bool) : PortsStand m (m.when p (Mod.noteBurst n stBAD_CODE)) := .when _ _ (portsStand_noteBurst n m _)
  unfold Mod.playPin
  dsimp only
  split
  · exact (hnote _).trans (portsStand_queueEvents _ _ _ _ _ _)
  · exact (hnote _).trans (PortsStand.foldl_count (fun h s => s.hvPlay h x.et v _ period _)
      (fun h s => portsStand_hvPlay s h _ _ _ _ _) _ 0 _)

theorem portsStand_playPins (x : DiePort) (v : Vec) (period : Nat) : PortsStand m (m.playPins n x v period).2 :=
  PortsStand.foldl_count (fun e s => s.playPin n x v period e) (fun e s => portsStand_playPin n s x v period e) x.chans 0 m

/-! ### Verdicts are finished (R216 to R223) -/

theorem portsStand_prfErr (f : Fld) : PortsStand m (m.prfErr n f) :=
  (PortsStand.when _ _ (portsStand_wr m _ _ _)).trans (portsStand_wr _ _ _ _)

theorem portsStand_gapRec : PortsStand m (m.gapRec n d) := by
  unfold Mod.gapRec
  dsimp only
  split
  · exact .refl m
  · exact portsStand_setDport n d m

theorem portsStand_sendRec (r : List Byte) : PortsStand m (m.sendRec n d r) := by
  unfold Mod.sendRec
  dsimp only
  split
  · exact ((portsStand_gapRec n d m).trans (portsStand_setDport n d _)).trans (portsStand_prfErr n _ _)
  · exact (portsStand_gapRec n d m).trans (portsStand_setDport n d _)

theorem portsStand_countFail (vec : Nat) : PortsStand m (m.countFail vec ch) := by
  unfold Mod.countFail
  dsimp only
  split
  · exact (portsStand_wr m _ _ _).trans (portsStand_wr64 _ _ _)
  · exact portsStand_wr m _ _ _

theorem portsStand_portFail (vec res : Nat) : PortsStand m (m.portFail n d vec res) := by
  have hset : PortsStand m (m.setDport n d { m.dport n d with failAny := true }) := portsStand_setDport n d m
  unfold Mod.portFail
  dsimp only
  split
  · exact hset.trans (portsStand_setSeq n _ _)
  · exact ((hset.trans (portsStand_wr _ _ _ _)).trans (portsStand_setSeq n _ _)).trans (.when _ _ (portsStand_setSeq n _ _))

theorem portsStand_finishVerdict (v : Verdict) : PortsStand m (m.finishVerdict n d v) := by
  have hcount (l : List Nat) : PortsStand m (m.each l (fun ch s => s.countFail v.vec ch)) :=
    .each _ _ _ fun ch x => portsStand_countFail ch x _
  unfold Mod.finishVerdict
  dsimp only
  split
  · exact portsStand_setSeq n m _
  · have hfail (l : List Nat) (p : Bool) (r : List Byte) : PortsStand m (if p then
          m.each l (fun ch s => s.countFail v.vec ch)
        else ((m.each l (fun ch s => s.countFail v.vec ch)).portFail n d v.vec v.res).sendRec n d r) := by
      split
      · exact hcount l
      · exact ((hcount l).trans (portsStand_portFail n d _ _ _)).trans (portsStand_sendRec n d _ _)
    split
    · exact hfail _ _ _
    · exact (hfail _ _ _).trans (portsStand_sendRec n d _ _)

theorem portsStand_finishVerdicts : ∀ (k : Nat) (m : Mod), PortsStand m (m.finishVerdicts n d k)
  | 0, m => .refl m
  | k + 1, m => by
    unfold Mod.finishVerdicts
    dsimp only
    split
    · split
      · exact ((portsStand_setDport n d m).trans (portsStand_finishVerdict n d _ _)).trans
          (portsStand_finishVerdicts k _)
      · exact .refl m
    · exact .refl m

/-- A die that has not ended its burst finishes verdicts alone. -/
theorem portsStand_dieWork (h : (m.dport n d).done = false) : PortsStand m (m.dieWork n d) := by
  have hfinish := portsStand_finishVerdicts n d (m.dport n d).verdicts.length m
  have hdone : ((m.finishVerdicts n d (m.dport n d).verdicts.length).dport n d).done = false :=
    (hfinish.ports n d).done.trans h
  rw [Mod.dieWork, Mod.sendCounts, hdone]
  exact hfinish

end

/-! ### A vector is played (R196) -/

/-- A die's port that has played the vector at its head. -/
def DiePort.stepped (rest : List Vec) (period : Nat) (x : DiePort) : DiePort :=
  { x with play := rest, played := x.played + 1, et := x.et + period }

/-- A die that traces no channel takes no sample. -/
theorem traceVec_none {n d : Nat} {m : Mod} (h : (m.dport n d).traced = []) (et : Nat) (v : Vec) (samples : List Int) :
    m.traceVec n d et v samples = m := by
  have hskip (p q r s : Bool) : (p || q || (m.dport n d).traced.isEmpty || r || s) = true := by
    rw [h, List.isEmpty_nil, Bool.or_true, Bool.true_or, Bool.true_or]
  unfold Mod.traceVec
  dsimp only
  rw [if_pos (hskip _ _ _ _)]

/-- A burst whose last block a die has not chosen goes on there. -/
theorem dieEnd_before {n d : Nat} {m : Mod} (h : (m.dport n d).last = false) : m.dieEnd n d = m := by
  unfold Mod.dieEnd
  dsimp only
  rw [h]
  rfl

/-- The samples, the count and the end of a vector, on a die that traces nothing before its last block. -/
theorem portsStand_vectorEnd {n d : Nat} {a b : Mod} (h : PortsStand a b) (hl : (a.dport n d).last = false)
    (ht : (a.dport n d).traced = []) (et : Nat) (v : Vec) (samples : List Int) (first : Bool) :
    PortsStand a (((b.traceVec n d et v samples).when first (fun s =>
      s.wr64 (Reg.SEQ_VCOUNT_LO n) (s.rd64 (Reg.SEQ_VCOUNT_LO n) + 1))).dieEnd n d) := by
  rw [traceVec_none ((h.ports n d).traced.trans ht)]
  have hcount := h.trans (PortsStand.when first (fun s => s.wr64 (Reg.SEQ_VCOUNT_LO n) (s.rd64 (Reg.SEQ_VCOUNT_LO n) + 1))
    (portsStand_wr64 b _ _))
  rw [dieEnd_before ((hcount.ports n d).last.trans hl)]
  exact hcount

/-- A die plays a vector without control words before the last block of its burst, and traces nothing. -/
theorem portsStand_vectorPlay {n d : Nat} {samples : List Int} {m : Mod} {v : Vec} {rest : List Vec}
    (hp : (m.dport n d).play = v :: rest) (hctl : v.ctl = []) (hl : (m.dport n d).last = false)
    (ht : (m.dport n d).traced = []) :
    PortsStand (m.setDport n d ((m.dport n d).stepped rest ((m.dport n d).tper.getD (v.tset % 64) 2048)))
      (m.vectorPlay n d samples) := by
  unfold Mod.vectorPlay
  dsimp only
  rw [hp]
  dsimp only
  rw [hctl, List.foldl_nil, ← DiePort.stepped]
  have hport := Mod.dport_setDport_self m n d ((m.dport n d).stepped rest ((m.dport n d).tper.getD (v.tset % 64) 2048))
  exact portsStand_vectorEnd (((portsStand_playPins n _ _ _ _).trans (portsStand_setDport n d _)).trans
      (.each _ _ _ fun ch x => portsStand_settle n ch x _ _)) ((congrArg DiePort.last hport).trans hl)
    ((congrArg DiePort.traced hport).trans ht) _ _ _ _

theorem answers_vectorPlay (s : State) (n d : Nat) (samples : List Int) (v : Vec) (rest : List Vec)
    (hw : Wf.vectorPlay n d = true) (hp : (s.m.dport n d).play = v :: rest) (hctl : v.ctl = [])
    (hl : (s.m.dport n d).last = false) (hd : (s.m.dport n d).done = false) (ht : (s.m.dport n d).traced = [])
    (_hv : (s.m.dport n d).verdicts = []) : Answers (.vectorPlay n d samples) s (fun t => (t.dport n d).play = rest ∧
      (t.dport n d).played = (s.m.dport n d).played + 1 ∧
      (t.dport n d).et = (s.m.dport n d).et + (s.m.dport n d).tper.getD (v.tset % 64) 2048 ∧ SameMemory s.m t) := by
  have hplay := portsStand_vectorPlay (samples := samples) hp hctl hl ht
  have hdone : ((s.m.vectorPlay n d samples).dport n d).done = false := by
    rw [(hplay.ports n d).done, Mod.dport_setDport_self]
    exact hd
  have hafter := hplay.trans (portsStand_dieWork n d _ hdone)
  have hport := hafter.ports n d
  rw [Mod.dport_setDport_self] at hport
  exact answers_effect_always (f := fun m => (m.vectorPlay n d samples).dieWork n d) rfl hw rfl
    ⟨hport.play, hport.played, hport.et, .of_eq hafter.gddr hafter.sram⟩

/-- Settles O34: a die plays and judges, Proof takes its records, spills and traces them, and a burst completes. -/
theorem playoutAndProof : Obligations.PlayoutAndProof :=
  ⟨answers_vectorPlay, answers_strobeJudgement, answers_gap, answers_proofRecordReceive, answers_burstToken,
    answers_spillCopy, answers_traceHeaderWrite, answers_captureReturnRecord, answers_burstComplete⟩

end Sys2Proof.Machine
end

section
/-!
PROOF. PAUSE cleared on a burst that was paused in a wait (R167, R187): why O53 fails.
-/

namespace Sys2Proof.Machine

/-- The row of SEQn_CTRL in the register table (Table 7.12). -/
def seqCtrlDesc : RegDesc := ⟨.SEQ_CTRL, 0x400000, [(0x1000, 32)], 0#32, 0x1#32, 0#32, 0x6#32, 0#32⟩

/-- Where no journal runs, no pair works. -/
theorem pairActive_of_journalOff {m : Mod} (h : m.journalOn = false) : m.pairActive = false := by
  simp only [Mod.journalOn, Bool.or_eq_false_iff] at h
  exact h.2

/-- A burst that goes back to the wait in which it was paused. -/
def Mod.waitsAgain (n : Nat) (m : Mod) : Mod :=
  (((m.regPut seqCtrlDesc (Reg.SEQ_CTRL n) 0#32).wr (Reg.SEQ_STATUS n) Fields.SEQ_STATUS.PAUSE_PENDING 0).setSeq n
    { m.seq n with paused := false }).setSeqState n 4

theorem seqOnly_waitsAgain (n : Nat) (m : Mod) : SeqOnly n [Reg.SEQ_CTRL n, Reg.SEQ_STATUS n] m (m.waitsAgain n) := by
  have hput : SeqOnly n [Reg.SEQ_CTRL n, Reg.SEQ_STATUS n] m (m.regPut seqCtrlDesc (Reg.SEQ_CTRL n) 0#32) :=
    ⟨rfl, fun _ _ => rfl, (sameRegs_regPut _ _ _ m).mono (by simp)⟩
  exact ((hput.wr _ _ _ (by simp)).setSeq _).wr _ _ _ (by simp)

theorem journalOn_waitsAgain {n : Nat} (hn : n < 32) (m : Mod) : (m.waitsAgain n).journalOn = m.journalOn := by
  have hout : Reg.SL_STATUS ∉ [Reg.SEQ_CTRL n, Reg.SEQ_STATUS n] := by
    simp only [Reg.SL_STATUS, Reg.SEQ_CTRL, Reg.SEQ_STATUS, List.mem_cons, List.not_mem_nil, or_false]
    omega
  rw [Mod.journalOn, Mod.journalOn, (seqOnly_waitsAgain n m).rd hout]

/-- SEQn_CTRL written 0 takes a burst that was paused in a wait back to its wait. -/
theorem seqCtrl_waitsAgain {n : Nat} {i : Init} {m : Mod} (hp : (m.seq n).paused = true) (hnum : 0 < (m.seq n).num)
    (hw : (m.seq n).wait.isSome = true) (hn : n < 32) (hj : m.journalOn = false) :
    Wr.seqCtrl ⟨i, Reg.SEQ_CTRL n, seqCtrlDesc, [n], 0#32⟩ m = m.waitsAgain n := by
  have halone : (m.waitsAgain n).pairActive = false := pairActive_of_journalOff ((journalOn_waitsAgain hn m).trans hj)
  have hback : (m.regPut seqCtrlDesc (Reg.SEQ_CTRL n) 0#32).unpause n = m.waitsAgain n := by
    have hx : (m.regPut seqCtrlDesc (Reg.SEQ_CTRL n) 0#32).seq n = m.seq n := rfl
    unfold Mod.unpause
    dsimp only
    rw [hx, hp, Bool.not_true, if_neg Bool.false_ne_true, if_neg hnum.ne', if_pos hw]
    exact sendDec_alone halone _ _ _ _
  have hzero (f : Fld) : Wr.b ⟨i, Reg.SEQ_CTRL n, seqCtrlDesc, [n], 0#32⟩ f = false := by simp [Wr.b, Wr.g, fget]
  unfold Wr.seqCtrl
  dsimp only
  rw [hzero, hzero, hzero, if_neg Bool.false_ne_true, Mod.when_false, Mod.when_false]
  exact hback

/-- PAUSE cleared on a burst that was paused in a wait leaves it WAITING. -/
theorem answers_pauseClear_waiting (s : State) (init : Init) (n : Nat) (hs : s.m.serving = true)
    (hj : s.m.journalOn = false) (hi : init.wf = true) (hn : n < 32) (hpair : s.m.pairProfile = false)
    (hp : (s.m.seq n).paused = true) (hnum : 0 < (s.m.seq n).num) (hw : (s.m.seq n).wait.isSome = true) :
    Answers (.pauseClear init n) s (fun t => t.seqState n = 4) := by
  have hb : Reg.SEQ_CTRL n / 0x100000 = 4 := by unfold Reg.SEQ_CTRL; omega
  have hl : pairLows.contains RegName.SEQ_CTRL = false := by decide
  have hm : Wr.ofMirror ⟨init, Reg.SEQ_CTRL n, seqCtrlDesc, [n], 0#32⟩ s.m = false := by simp [Wr.ofMirror, hpair]
  have hact : Wr.act ⟨init, Reg.SEQ_CTRL n, seqCtrlDesc, [n], 0#32⟩ s.m = .ok (s.m.waitsAgain n) := by
    rw [← seqCtrl_waitsAgain (i := init) hp hnum hw hn hj, Wr.act, Wr.seqs, hm]
    simp only [seqCtrlDesc, hl, hb, Bool.false_eq_true, if_false]
  have ht : s.m.busWrite init (Reg.SEQ_CTRL n) 0#32 = s.m.waitsAgain n :=
    Mod.busWrite_accepted hs (by unfold Reg.SEQ_CTRL; omega) (by unfold Reg.SEQ_CTRL; omega) (regAt_SEQ_CTRL n hn) hact
      ((journalOn_waitsAgain hn s.m).trans hj)
  have hstate : (s.m.waitsAgain n).seqState n = 4 := seqState_setSeqState n _ 4 (by decide)
  exact answers_effect (f := fun m => m.busWrite init (Reg.SEQ_CTRL n) 0#32) rfl (by simp [Wf.pauseClear, hi, hn])
    (s.m.serving_iff.mp hs).1 ht hstate

/-- A burst on sequencer 0 that has emitted a vector and was paused in the result wait of a JCC. -/
def pausedInWait : Seq :=
  { Seq.fresh with job := some ⟨some 0, 0, 0, 0⟩, hold := some (0, [], 0), num := 1, wait := some .jcc, paused := true }

/-- The module after reset, READY, with that burst PAUSED and PAUSE set. -/
def readyPausedInWait : State :=
  ⟨[], (((Mod.reset.wr Reg.GLB_START_STATE Fields.GLB_START_STATE.STATE 6).wr (Reg.SEQ_CTRL 0) Fields.SEQ_CTRL.PAUSE
    1).setSeq 0 pausedInWait).setSeqState 0 3⟩

/-- Refutes O53 by its clause on PAUSE cleared on a paused burst, which has the burst run on with d at the clear. R187
pauses at a commit point, and each cycle of a wait is one: a burst that was paused in a wait (assumption 45) goes back to
WAITING, and the end of its wait gives d (R167). -/
theorem not_sequencerCommands : ¬ Obligations.SequencerCommands := by
  intro h
  obtain ⟨-, -, -, hResume, -⟩ := h
  have hruns := hResume readyPausedInWait .host 0 (by decide) (by decide) (by decide) (by decide) (by decide) (by decide)
    (by decide)
  have hwaits := answers_pauseClear_waiting readyPausedInWait .host 0 (by decide) (by decide) (by decide) (by decide)
    (by decide) (by decide) (by decide) (by decide)
  obtain ⟨t, -, -, ⟨hrunning, -⟩, hwaiting⟩ := hruns.and hwaits
  rw [hrunning] at hwaiting
  exact absurd hwaiting (by decide)

end Sys2Proof.Machine
end

section
/-!
PROOF. Journal records of the partner as they arrive (R237, R389, R390, R395, R396), and O45.
-/

namespace Sys2Proof.Machine

/-! ### What is known of the partner -/

section
variable (m : Mod)

theorem silent_setPair (p : Pair) : Silent m (m.setPair p) := ⟨rfl, rfl, rfl, rfl⟩
theorem silent_setPeerInst (slot : Nat) (x : Option PeerInst) : Silent m (m.setPeerInst slot x) := silent_setPair m _
theorem silent_setPeerQueue (q : Nat) (y : PeerQueue) : Silent m (m.setPeerQueue q y) := silent_setPair m _

@[simp] theorem Mod.peerInst_setPeerInst_self (slot : Nat) (x : Option PeerInst) :
    (m.setPeerInst slot x).peerInst slot = x := SMap.get_set_self _ _ _ _

@[simp] theorem Mod.peerQueue_setPeerQueue_self (q : Nat) (y : PeerQueue) : (m.setPeerQueue q y).peerQueue q = y :=
  SMap.get_set_self _ _ _ _

theorem peerQueue_setPair {p : Pair} (q : Nat) (h : p.queues = m.pair.queues) :
    (m.setPair p).peerQueue q = m.peerQueue q := congrArg (SMap.get _ · q) h

end

/-- A record names the graph already known in its slot, whatever its site and group. -/
theorem peerOf_known {m : Mod} {slot : Nat} {x : PeerInst} (h : m.peerInst slot = some x) (site group : Nat) :
    m.peerOf slot site group = (some x, m) := by
  rw [Mod.peerOf, h]

/-- It changes that graph in place. -/
theorem onPeer_known {m : Mod} {slot : Nat} {x : PeerInst} (h : m.peerInst slot = some x) (site group : Nat)
    (f : PeerInst → PeerInst) : m.onPeer slot site group f = m.setPeerInst slot (some (f x)) := by
  rw [Mod.onPeer, peerOf_known h]

/-! ### Records and their acknowledgement (R396) -/

/-- While the journal runs a record has its effect and is acknowledged. -/
theorem answers_record {s : State} {c : Instr} {wf : Bool} {j : Nat} {f : Mod → Mod} {t : Mod} {P : Mod → Prop}
    (hc : exec c s = run wf (Mod.record j f) s) (hw : wf = true) (hh : s.m.flt.halted = false) (hj : s.m.journalOn = true)
    (ht : f s.m = t) (hmem : SameMemory s.m t) (houts : t.outs = s.m.outs) (hp : P t)
    (hkeeps : ∀ t o k, P t → P { t.emit o with cmds := k }) :
    Answers c s (fun t => P t ∧ t.outs = .siteLink 3 [j] :: s.m.outs ∧ SameMemory s.m t) := by
  have he : Mod.record j f s.m = t.emit (.siteLink 3 [j]) := by rw [Mod.record, if_pos hj, ht]
  exact answers_command hc hw hh he ⟨hkeeps _ _ _ hp, congrArg _ houts, hmem⟩

/-- A record that changes only the registers listed. -/
theorem answers_record_regs {s : State} {c : Instr} {wf : Bool} {j : Nat} {f : Mod → Mod} {t : Mod} {P : Mod → Prop}
    {l : List Nat} (hc : exec c s = run wf (Mod.record j f) s) (hw : wf = true) (hh : s.m.flt.halted = false)
    (hj : s.m.journalOn = true) (ht : f s.m = t) (hmem : SameMemory s.m t) (houts : t.outs = s.m.outs)
    (hregs : SameRegs l s.m t) (hp : P t)
    (hkeeps : ∀ t o k, P t → P { t.emit o with cmds := k }) :
    Answers c s (fun t => P t ∧ t.outs = .siteLink 3 [j] :: s.m.outs ∧ SameMemory s.m t ∧ SameRegs l s.m t) :=
  (answers_record (P := fun t => P t ∧ SameRegs l s.m t) hc hw hh hj ht hmem houts ⟨hp, hregs⟩
    fun _ _ _ ⟨h, hr⟩ => ⟨hkeeps _ _ _ h, hr⟩).mono fun _ ⟨⟨h, hr⟩, ho, hm⟩ => ⟨h, ho, hm, hr⟩

/-- A record that only tells something of the partner keeps memory and every register. -/
theorem answers_record_silent {s : State} {c : Instr} {wf : Bool} {j : Nat} {f : Mod → Mod} {t : Mod} {P : Mod → Prop}
    (hc : exec c s = run wf (Mod.record j f) s) (hw : wf = true) (hh : s.m.flt.halted = false) (hj : s.m.journalOn = true)
    (ht : f s.m = t) (hk : Silent s.m t) (hp : P t)
    (hkeeps : ∀ t o k, P t → P { t.emit o with cmds := k }) :
    Answers c s (fun t => P t ∧ t.outs = .siteLink 3 [j] :: s.m.outs ∧ SameMemory s.m t ∧ SameRegs [] s.m t) :=
  answers_record_regs hc hw hh hj ht hk.memory hk.outs (.of_eq hk.regs) hp hkeeps

/-- A record about a known graph changes that graph alone. -/
theorem answers_record_inst {s : State} {c : Instr} {wf : Bool} {j slot site group : Nat} {f : PeerInst → PeerInst}
    {x y : PeerInst} (hc : exec c s = run wf (Mod.record j (Mod.onPeer slot site group f)) s) (hw : wf = true)
    (hh : s.m.flt.halted = false) (hj : s.m.journalOn = true) (hx : s.m.peerInst slot = some x) (hy : f x = y) :
    Answers c s (fun t => t.peerInst slot = some y ∧ t.outs = .siteLink 3 [j] :: s.m.outs ∧ SameMemory s.m t ∧
      SameRegs [] s.m t) :=
  answers_record_silent hc hw hh hj (hy ▸ onPeer_known hx site group f) (silent_setPeerInst _ _ _)
    (Mod.peerInst_setPeerInst_self _ _ _) fun _ _ _ h => h

/-! ### DECISION (R390) -/

/-- The PCC of vector 0 of the next burst of port n is known. -/
def Mod.startKnown (n pcc : Nat) (m : Mod) : Mod :=
  m.setPair { m.pair with starts := SMap.set (fun _ => none) m.pair.starts n (some pcc) }

theorem get_startKnown_self (n pcc : Nat) (m : Mod) :
    SMap.get (fun _ => none) (m.startKnown n pcc).pair.starts n = some pcc :=
  SMap.get_set_self (fun _ => none) m.pair.starts n (some pcc)

theorem silent_startKnown (n pcc : Nat) (m : Mod) : Silent m (m.startKnown n pcc) := silent_setPair m _

theorem answers_decisionStart (s : State) (n outcome vec : Nat) (hh : s.m.flt.halted = false) (hn : n < 16)
    (hj : s.m.journalOn = true) : Answers (.decisionRecord n 0 outcome vec) s (fun t =>
      SMap.get (fun _ => none) t.pair.starts n = some outcome ∧ t.pair.decs = s.m.pair.decs ∧ t.outs = s.m.outs ∧
      SameMemory s.m t ∧ SameRegs [] s.m t) := by
  have he : s.m.decision n 0 outcome vec = s.m.startKnown n outcome := by simp [Mod.decision, hj, Mod.startKnown]
  exact answers_command rfl (decide_eq_true hn) hh he
    ⟨get_startKnown_self n outcome s.m, rfl, (silent_startKnown n outcome s.m).frame _⟩

theorem answers_decisionKept (s : State) (n kind outcome vec : Nat) (hh : s.m.flt.halted = false) (hn : n < 16)
    (hj : s.m.journalOn = true) (hk : kind ≠ 0) : Answers (.decisionRecord n kind outcome vec) s (fun t => t.pair =
      { s.m.pair with decs := s.m.pair.decs ++ [⟨n, kind, outcome, vec⟩] } ∧ t.outs = s.m.outs ∧ SameMemory s.m t ∧
      SameRegs [] s.m t) := by
  have he : s.m.decision n kind outcome vec =
      s.m.setPair { s.m.pair with decs := s.m.pair.decs ++ [⟨n, kind, outcome, vec⟩] } := by
    simp [Mod.decision, hj, hk]
  exact answers_command rfl (decide_eq_true hn) hh he ⟨rfl, (silent_setPair _ _).frame _⟩

/-! ### Instances and queues of the partner (R395, R396) -/

theorem answers_nodeDispatch (s : State) (j slot site group node cls unit : Nat) (x : PeerInst)
    (hh : s.m.flt.halted = false) (hg : group < 64) (hj : s.m.journalOn = true) (hx : s.m.peerInst slot = some x) :
    Answers (.nodeDispatch j slot site group node cls unit) s (fun t => t.peerInst slot =
      some { x with running := (node, (cls, unit)) :: x.running.filter (fun e => e.1 != node) } ∧
      t.outs = .siteLink 3 [j] :: s.m.outs ∧ SameMemory s.m t ∧ SameRegs [] s.m t) :=
  answers_record_inst rfl (decide_eq_true hg) hh hj hx rfl

theorem answers_nodeEnd (s : State) (j slot site group node status stretch : Nat) (value : DWord) (fail : Bool)
    (x : PeerInst) (hh : s.m.flt.halted = false) (hg : group < 64) (hs : status < 256) (hj : s.m.journalOn = true)
    (hx : s.m.peerInst slot = some x) :
    Answers (.nodeEnd j false slot site group node status value fail stretch) s (fun t => t.peerInst slot = some
      { x with running := x.running.filter (fun e => e.1 != node), ends := x.ends ++ [(node, (status, ⟨value, fail, false⟩, stretch))] }
      ∧ t.outs = .siteLink 3 [j] :: s.m.outs ∧ SameMemory s.m t ∧ SameRegs [] s.m t) :=
  answers_record_inst rfl (by simp [Wf.nodeEnd, hg, hs]) hh hj hx rfl

theorem answers_tokenRecord (s : State) (j slot site group edge : Nat) (value : DWord) (fail skip : Bool) (x : PeerInst)
    (hh : s.m.flt.halted = false) (hg : group < 64) (hj : s.m.journalOn = true) (hx : s.m.peerInst slot = some x) :
    Answers (.tokenRecord j slot site group edge value fail skip) s (fun t => t.peerInst slot =
      some { x with tokens := x.tokens ++ [(edge, ⟨value, fail, skip⟩)] } ∧ t.outs = .siteLink 3 [j] :: s.m.outs ∧
      SameMemory s.m t ∧ SameRegs [] s.m t) :=
  answers_record_inst rfl (decide_eq_true hg) hh hj hx rfl

theorem answers_instEnd (s : State) (j slot : Nat) (bs : List Byte) (x : PeerInst) (hh : s.m.flt.halted = false)
    (hl : bs.length = 16) (hj : s.m.journalOn = true) (hx : s.m.peerInst slot = some x) :
    Answers (.instEnd j slot bs) s (fun t => t.peerInst slot =
      some { x with queue := fieldAt bs 4 2, site := byteAt bs 12, running := [], comp := some (compOf bs) } ∧
      t.outs = .siteLink 3 [j] :: s.m.outs ∧ SameMemory s.m t ∧ SameRegs [] s.m t) := by
  have he : s.m.peerInstEnd slot bs = s.m.setPeerInst slot
      (some { x with queue := fieldAt bs 4 2, site := byteAt bs 12, running := [], comp := some (compOf bs) }) := by
    rw [Mod.peerInstEnd, peerOf_known hx]
    rfl
  exact answers_record_silent rfl (decide_eq_true hl) hh hj he (silent_setPeerInst _ _ _)
    (Mod.peerInst_setPeerInst_self _ _ _) fun _ _ _ h => h

/-- DESC_A: with fewer than four descriptors on chip none gives way to the new one. -/
theorem answers_descA (s : State) (j q slot : Nat) (bs : List Byte) (hh : s.m.flt.halted = false) (hq : q < 4096)
    (hl : bs.length = 40) (hj : s.m.journalOn = true) (hd : (s.m.peerQueue q).descs.length < 4) :
    Answers (.descADescB j q slot false bs) s (fun t => t.peerQueue q =
      { s.m.peerQueue q with descs := (s.m.peerQueue q).descs.filter (fun d => d.1 != slot) ++ [(slot, bs)] } ∧
      t.outs = .siteLink 3 [j] :: s.m.outs ∧ SameMemory s.m t ∧ SameRegs [] s.m t) := by
  have he : s.m.peerDesc q slot false bs = s.m.setPeerQueue q
      { s.m.peerQueue q with descs := (s.m.peerQueue q).descs.filter (fun d => d.1 != slot) ++ [(slot, bs)] } := by
    have hroom : ((s.m.peerQueue q).descs.filter (fun d => d.1 != slot) ++ [(slot, bs)]).length - 4 = 0 := by
      have hfew := List.length_filter_le (fun d : Nat × List Byte => d.1 != slot) (s.m.peerQueue q).descs
      rw [List.length_append, List.length_singleton]
      omega
    unfold Mod.peerDesc
    dsimp only
    rw [if_neg Bool.false_ne_true, hroom, List.drop_zero]
  exact answers_record_silent rfl (by simp [Wf.descADescB, hq, hl]) hh hj he (silent_setPeerQueue _ _ _)
    (Mod.peerQueue_setPeerQueue_self _ _ _) fun _ _ _ h => h

theorem answers_descB (s : State) (j q slot : Nat) (bs : List Byte) (hh : s.m.flt.halted = false) (hq : q < 4096)
    (hl : bs.length = 24) (hj : s.m.journalOn = true) : Answers (.descADescB j q slot true bs) s (fun t => t.peerQueue q =
      { s.m.peerQueue q with descs := (s.m.peerQueue q).descs.map (fun d => if d.1 = slot ∧ d.2.length = 40 then (slot, d.2 ++ bs) else d) } ∧
      t.outs = .siteLink 3 [j] :: s.m.outs ∧ SameMemory s.m t ∧ SameRegs [] s.m t) :=
  answers_record_silent rfl (by simp [Wf.descADescB, hq, hl]) hh hj rfl (silent_setPeerQueue _ _ _)
    (Mod.peerQueue_setPeerQueue_self _ _ _) fun _ _ _ h => h

/-- QUEUE sets the queue's state; which completions are forgotten does not touch it. -/
theorem peerQueue_peerQueueSet (q head tail size cq base : Nat) (m : Mod) :
    (m.peerQueueSet q head tail true size cq base).peerQueue q =
      { m.peerQueue q with bound := true, base := base, sizeLog2 := size, cq := cq, head := head, tail := tail } := by
  unfold Mod.peerQueueSet
  dsimp only
  rw [peerQueue_setPair, Mod.peerQueue_setPeerQueue_self, if_pos rfl]
  rfl

theorem silent_peerQueueSet (q head tail size cq base : Nat) (m : Mod) :
    Silent m (m.peerQueueSet q head tail true size cq base) :=
  (silent_setPeerQueue m q _).trans (silent_setPair _ _)

theorem answers_queueRecord (s : State) (j q head tail size cq base : Nat) (hh : s.m.flt.halted = false) (hq : q < 4096)
    (hc : cq < 64) (hj : s.m.journalOn = true) : Answers (.queueRecord j q head tail true size cq base) s (fun t =>
      t.peerQueue q =
        { s.m.peerQueue q with bound := true, base := base, sizeLog2 := size, cq := cq, head := head, tail := tail } ∧
      t.outs = .siteLink 3 [j] :: s.m.outs ∧ SameMemory s.m t ∧ SameRegs [] s.m t) :=
  answers_record_silent rfl (by simp [Wf.queueRecord, hq, hc]) hh hj rfl (silent_peerQueueSet ..)
    (peerQueue_peerQueueSet ..) fun _ _ _ h => h

/-! ### Registers of the partner (R237, R389, R395) -/

theorem answers_consumed (s : State) (j n rd srd : Nat) (hh : s.m.flt.halted = false) (hn : n < 16)
    (hj : s.m.journalOn = true) : Answers (.consumed j n rd srd) s (fun t =>
      t.reg (Reg.SEQ_PRF_RD (16 + n)) = BitVec.ofNat 32 rd ∧ t.reg (Reg.SEQ_PRF_SRD (16 + n)) = BitVec.ofNat 32 srd ∧
      t.outs = .siteLink 3 [j] :: s.m.outs ∧ SameMemory s.m t ∧
      SameRegs [Reg.SEQ_PRF_RD (16 + n), Reg.SEQ_PRF_SRD (16 + n)] s.m t) := by
  have hapart : Reg.SEQ_PRF_RD (16 + n) ≠ Reg.SEQ_PRF_SRD (16 + n) := by
    unfold Reg.SEQ_PRF_RD Reg.SEQ_PRF_SRD
    omega
  have hrd := (Mod.reg_setReg_ne _ _ _ (BitVec.ofNat 32 srd) hapart).trans
    (Mod.reg_setReg_self s.m (Reg.SEQ_PRF_RD (16 + n)) (BitVec.ofNat 32 rd))
  have hregs : SameRegs [Reg.SEQ_PRF_RD (16 + n), Reg.SEQ_PRF_SRD (16 + n)] s.m (s.m.peerConsumed n rd srd) :=
    ((SameRegs.refl _ s.m).setReg _ _ (by simp)).setReg _ _ (by simp)
  exact (answers_record_regs (P := fun t => t.reg (Reg.SEQ_PRF_RD (16 + n)) = BitVec.ofNat 32 rd ∧
    t.reg (Reg.SEQ_PRF_SRD (16 + n)) = BitVec.ofNat 32 srd) rfl (decide_eq_true hn) hh hj rfl (.of_eq rfl rfl) rfl hregs
    ⟨hrd, Mod.reg_setReg_self _ _ _⟩ fun _ _ _ h => h).mono
    fun _ ⟨⟨hrd, hsrd⟩, hframe⟩ => ⟨hrd, hsrd, hframe⟩

/-- A word of the partner's registers is known. -/
def Mod.peerKnows (off : Nat) (v : Word) (m : Mod) : Mod :=
  m.setPair { m.pair with regs := SMap.set resetOf m.pair.regs off v }

theorem silent_peerKnows (off : Nat) (v : Word) (m : Mod) : Silent m (m.peerKnows off v) := silent_setPair m _

theorem get_peerKnows_self (off : Nat) (v : Word) (m : Mod) : SMap.get resetOf (m.peerKnows off v).pair.regs off = v :=
  SMap.get_set_self _ _ _ _

/-- Below the sequencers CONFIG only tells the word. -/
theorem peerConfig_low {off : Nat} (v : Word) (m : Mod) (ho : off < 0x400000)
    (hr : (regAt off).map (fun e => e.1.name) ≠ some .SEQ_GRP_RESV) : m.peerConfig off v = m.peerKnows off v := by
  unfold Mod.peerConfig
  cases h : regAt off with
  | none => simp [Mod.peerKnows, show ¬ 0x400000 ≤ off by omega, show ¬ 0x421000 ≤ off by omega]
  | some e =>
    have hname : e.1.name ≠ .SEQ_GRP_RESV := by simpa [h] using hr
    simp [Mod.peerKnows, hname, show ¬ 0x400000 ≤ off by omega, show ¬ 0x421000 ≤ off by omega]

/-- CONFIG of a register of the partner's sequencer n, but for its FLAGS, sets that of the mirror's SEQ(16 + n). -/
theorem peerConfig_seq {off : Nat} {e : RegDesc × List Nat} (v : Word) (m : Mod) (hlo : 0x400000 ≤ off)
    (hhi : off < 0x410000) (he : regAt off = some e) (hr : e.1.name ≠ .SEQ_GRP_RESV) (hf : e.1.name ≠ .SEQ_FLAGS) :
    m.peerConfig off v = (m.peerKnows off v).setReg (off + 0x10000) v := by
  unfold Mod.peerConfig
  simp [he, hr, hf, hlo, hhi, Mod.peerKnows]

theorem answers_configRecord (s : State) (j off : Nat) (v : Word) (hh : s.m.flt.halted = false) (ho : off < 0x400000)
    (hr : (regAt off).map (fun e => e.1.name) ≠ some .SEQ_GRP_RESV) (hj : s.m.journalOn = true) :
    Answers (.configRecord j off v) s (fun t => SMap.get resetOf t.pair.regs off = v ∧
      t.outs = .siteLink 3 [j] :: s.m.outs ∧ SameMemory s.m t ∧ SameRegs [] s.m t) :=
  answers_record_silent rfl (decide_eq_true (by omega)) hh hj (peerConfig_low v s.m ho hr) (silent_peerKnows _ _ _)
    (get_peerKnows_self _ _ _) fun _ _ _ h => h

theorem regAt_SEQ_PORT : ∀ n < 16, ∀ k < 8, regAt (Reg.SEQ_PORT n k) = some (⟨.SEQ_PORT, 0x400040,
    [(0x1000, 32), (0x4, 8)], 0x00000000#32, 0xFFFFFFFF#32, 0x00000000#32, 0x00000000#32, 0x00000000#32⟩, [n, k]) := by
  decide

theorem answers_configPort (s : State) (j n k : Nat) (v : Word) (hh : s.m.flt.halted = false) (hn : n < 16) (hk : k < 8)
    (hj : s.m.journalOn = true) : Answers (.configRecord j (Reg.SEQ_PORT n k) v) s (fun t =>
      SMap.get resetOf t.pair.regs (Reg.SEQ_PORT n k) = v ∧ t.reg (Reg.SEQ_PORT (16 + n) k) = v ∧
      t.outs = .siteLink 3 [j] :: s.m.outs ∧ SameMemory s.m t ∧ SameRegs [Reg.SEQ_PORT (16 + n) k] s.m t) := by
  have hlo : 0x400000 ≤ Reg.SEQ_PORT n k := by unfold Reg.SEQ_PORT; omega
  have hhi : Reg.SEQ_PORT n k < 0x410000 := by unfold Reg.SEQ_PORT; omega
  have hmirror : Reg.SEQ_PORT n k + 0x10000 = Reg.SEQ_PORT (16 + n) k := by unfold Reg.SEQ_PORT; omega
  have he : s.m.peerConfig (Reg.SEQ_PORT n k) v =
      (s.m.peerKnows (Reg.SEQ_PORT n k) v).setReg (Reg.SEQ_PORT (16 + n) k) v := by
    rw [← hmirror]
    exact peerConfig_seq v s.m hlo hhi (regAt_SEQ_PORT n hn k hk) (by simp) (by simp)
  have hregs : SameRegs [Reg.SEQ_PORT (16 + n) k] s.m
      ((s.m.peerKnows (Reg.SEQ_PORT n k) v).setReg (Reg.SEQ_PORT (16 + n) k) v) :=
    (SameRegs.of_eq (silent_peerKnows _ _ _).regs).setReg _ _ (by simp)
  exact (answers_record_regs (P := fun t => SMap.get resetOf t.pair.regs (Reg.SEQ_PORT n k) = v ∧
    t.reg (Reg.SEQ_PORT (16 + n) k) = v) rfl (decide_eq_true (by omega)) hh hj he (.of_eq rfl rfl) rfl hregs
    ⟨get_peerKnows_self _ _ _, Mod.reg_setReg_self _ _ _⟩ fun _ _ _ h => h).mono
    fun _ ⟨⟨hknown, hport⟩, hframe⟩ => ⟨hknown, hport, hframe⟩

theorem answers_calRecord (s : State) (j off : Nat) (v : Word) (hh : s.m.flt.halted = false) (hj : s.m.journalOn = true) :
    Answers (.calRecord j off v) s (fun t => SMap.get resetOf t.pair.cals off = v ∧
      t.outs = .siteLink 3 [j] :: s.m.outs ∧ SameMemory s.m t ∧ SameRegs [] s.m t) :=
  answers_record_silent rfl rfl hh hj rfl (silent_setPair _ _) (SMap.get_set_self _ _ _ _)
    fun _ _ _ h => h

/-! ### BURST_START (R389) -/

/-- USED of a peer group's reservation is no register of this module. -/
theorem silent_putUsed_peer (group v : Nat) (m : Mod) : Silent m (m.putUsed (64 + group) v) := by
  rw [Mod.putUsed, if_neg (by omega)]
  exact ⟨rfl, rfl, rfl, rfl⟩

@[simp] theorem seq_showTset (n k tset : Nat) (m : Mod) : (m.showTset n tset).seq k = m.seq k := rfl

theorem seqOnly_showTset (n tset : Nat) (m : Mod) : SeqOnly n (seqShows n) m (m.showTset n tset) :=
  ((SeqOnly.refl _ _ m).wr _ _ _ (by simp [seqShows])).wr _ _ _ (by simp [seqShows])

/-- The entry `x` of a sequencer holds the burst of a peer group's job. -/
structure Seq.Mirrors (j : Job) (img : Image) (charge pc pp tset : Nat) (x : Seq) : Prop where
  job : x.job = some j
  mirror : x.mirror = true
  img : x.img = img
  charge : x.charge = charge
  pc : x.pc = pc
  pp : x.pp = pp
  tset : x.tset = tset

/-- A burst of a peer group is loaded with no record of its own: the mirror is not the primary. -/
theorem loadBurst_peer {j : Job} (hg : 64 ≤ j.group) (n : Nat) (img : Image) (charge pc pp tset : Nat) (m : Mod) :
    ∃ (b : Mod) (x : Seq), m.loadBurst n j img charge pc pp tset = ((b.putSeq n x).showTset n tset).setSeqState n 1 ∧
      x.Mirrors j img charge pc pp tset ∧ b.gddr = m.gddr ∧ b.sram = m.sram ∧ b.outs = m.outs := by
  have hmirror : ((m.seq n).mirror || decide (64 ≤ j.group)) = true := by simp [hg]
  unfold Mod.loadBurst
  dsimp only
  rw [hmirror, Bool.not_true, Mod.when_false]
  obtain ⟨i, p, k, l, hx⟩ := requestBlocks_eq _ n 260 _
  rw [hx]
  exact ⟨_, _, rfl, ⟨rfl, rfl, rfl, rfl, rfl, rfl, rfl⟩, rfl, rfl, rfl⟩

/-- From `a` to `b` sequencer `n` has begun to load a burst of a peer group, and memory and outputs stand. -/
structure PeerBurst (n : Nat) (j : Job) (img : Image) (charge pc pp tset : Nat) (a b : Mod) : Prop where
  seq : (b.seq n).Mirrors j img charge pc pp tset
  loading : b.seqState n = 1
  memory : SameMemory a b
  outs : b.outs = a.outs

theorem peerBurst_loadBurst {n : Nat} {j : Job} (hg : 64 ≤ j.group) (img : Image) (charge pc pp tset : Nat) (m : Mod) :
    PeerBurst n j img charge pc pp tset m (m.loadBurst n j img charge pc pp tset) := by
  obtain ⟨b, x, he, hx, hgddr, hsram, houts⟩ := loadBurst_peer hg n img charge pc pp tset m
  have hseq : (((b.putSeq n x).showTset n tset).setSeqState n 1).seq n = x := by
    rw [seq_setSeqState, seq_showTset, seq_putSeq]
  have hshown : SeqOnly n (seqShows n) b (((b.putSeq n x).showTset n tset).setSeqState n 1) :=
    ((seqOnly_putSeq n x b).trans (seqOnly_showTset n tset _)).trans (seqOnly_setSeqState n _ 1)
  rw [he]
  exact ⟨hseq.symm ▸ hx, seqState_setSeqState n _ 1 (by decide),
    .of_eq (hshown.gddr.trans hgddr) (hshown.sram.trans hsram), hshown.outs.trans houts⟩

/-- Setting BURST_SEQ does not touch the burst. -/
theorem PeerBurst.burstSeq {n : Nat} {j : Job} {img : Image} {charge pc pp tset : Nat} {a b : Mod} (hn : n < 32)
    (h : PeerBurst n j img charge pc pp tset a b) (seq : Nat) : PeerBurst n j img charge pc pp tset a
      (b.wr (Reg.SEQ_PRF_STATUS n) Fields.SEQ_PRF_STATUS.BURST_SEQ seq) := by
  have hne : Reg.SEQ_STATUS n ≠ Reg.SEQ_PRF_STATUS n := by unfold Reg.SEQ_STATUS Reg.SEQ_PRF_STATUS; omega
  exact ⟨h.seq, (Mod.rd_wr_ne _ _ _ _ _ _ hne).trans h.loading, h.memory, h.outs⟩

/-- The checks of R389 passed, the burst is loaded. What is written before, the decisions kept for the port, the charge for
the header and USED of the peer group, nothing outside sees. -/
theorem mirrorStart_loads {m m0 : Mod} {port group c : Nat} {a h : List Byte} {host : List Host.Cell} (site node seq : Nat)
    (h0 : m0 = m.setPair { m.pair with
      starts := SMap.set (fun _ => none) m.pair.starts port none
      decs := m.pair.decs.filter (fun d => d.port != port)
      switched := m.pair.switched.filter (fun k => k != port) })
    (hjob : (m.seq (16 + port)).job = none) (hread : m0.devRecord (64 + group) host (pbAddr a) 64 = .ok h)
    (hcheck : m0.burstChecks (16 + port) (64 + group) a h = .inr c) :
    ∃ u, Silent m u ∧ m.mirrorStart port site group node seq a host =
      (u.loadBurst (16 + port) ⟨none, node, 64 + group, site⟩ (imageOf (64 + group) a h) c (pbEntry a) (pbPentry a)
        (pbTset a)).wr (Reg.SEQ_PRF_STATUS (16 + port)) Fields.SEQ_PRF_STATUS.BURST_SEQ seq := by
  have hfree : (m0.seq (16 + port)).job.isSome = false := by
    rw [h0]
    exact congrArg Option.isSome hjob
  have hsilent : Silent m m0 := h0 ▸ silent_setPair m _
  unfold Mod.mirrorStart
  dsimp only
  rw [← h0, hfree, if_neg Bool.false_ne_true, hread]
  dsimp only
  rw [hcheck]
  exact ⟨_, (hsilent.trans (onlyCharges_charged _ _ _ _).silent).trans (silent_putUsed_peer _ _ _), rfl⟩

theorem answers_burstStart (s : State) (j port site group node seq c : Nat) (args h : List Byte) (host : List Host.Cell)
    (m0 : Mod) (hh : s.m.flt.halted = false) (hw : Wf.burstStart port site group args = true) (hj : s.m.journalOn = true)
    (h0 : m0 = s.m.setPair { s.m.pair with
      starts := SMap.set (fun _ => none) s.m.pair.starts port none
      decs := s.m.pair.decs.filter (fun d => d.port != port)
      switched := s.m.pair.switched.filter (fun k => k != port) })
    (hjob : (s.m.seq (16 + port)).job = none) (hread : m0.devRecord (64 + group) host (pbAddr args) 64 = .ok h)
    (hcheck : m0.burstChecks (16 + port) (64 + group) args h = .inr c) :
    Answers (.burstStart j port site group node seq args host) s (fun t =>
      (t.seq (16 + port)).job = some ⟨none, node, 64 + group, site⟩ ∧ (t.seq (16 + port)).mirror = true ∧
      (t.seq (16 + port)).img = imageOf (64 + group) args h ∧ (t.seq (16 + port)).pc = pbEntry args ∧
      (t.seq (16 + port)).pp = pbPentry args ∧ (t.seq (16 + port)).tset = pbTset args ∧
      (t.seq (16 + port)).charge = c ∧ t.seqState (16 + port) = 1 ∧
      t.rd (Reg.SEQ_PRF_STATUS (16 + port)) Fields.SEQ_PRF_STATUS.BURST_SEQ =
        seq % 2 ^ Fields.SEQ_PRF_STATUS.BURST_SEQ.width ∧
      t.outs = .siteLink 3 [j] :: s.m.outs ∧ SameMemory s.m t) := by
  have hport : 16 + port < 32 := by
    have hw' := hw
    simp only [Wf.burstStart, Bool.and_eq_true, decide_eq_true_eq] at hw'
    omega
  obtain ⟨u, hbefore, hstart⟩ := mirrorStart_loads site node seq h0 hjob hread hcheck
  have hburst := (peerBurst_loadBurst (n := 16 + port) (j := ⟨none, node, 64 + group, site⟩) (Nat.le_add_right 64 group)
    (imageOf (64 + group) args h) c (pbEntry args) (pbPentry args) (pbTset args) u).burstSeq hport seq
  refine (answers_record (P := fun t => ((t.seq (16 + port)).Mirrors ⟨none, node, 64 + group, site⟩
    (imageOf (64 + group) args h) c (pbEntry args) (pbPentry args) (pbTset args) ∧ t.seqState (16 + port) = 1) ∧
    t.rd (Reg.SEQ_PRF_STATUS (16 + port)) Fields.SEQ_PRF_STATUS.BURST_SEQ =
      seq % 2 ^ Fields.SEQ_PRF_STATUS.BURST_SEQ.width) rfl hw hh hj hstart (hbefore.memory.trans hburst.memory)
    (hburst.outs.trans hbefore.outs) ⟨⟨hburst.seq, hburst.loading⟩, Mod.rd_wr_self _ _ _ seq (by decide)⟩
    fun _ _ _ h => h).mono ?_
  rintro t ⟨⟨⟨hx, hloading⟩, hseq⟩, hframe⟩
  exact ⟨hx.job, hx.mirror, hx.img, hx.pc, hx.pp, hx.tset, hx.charge, hloading, hseq, hframe⟩

/-! ### JOURNAL_ACK (R396) -/

/-- Record `j` is acknowledged, where it was the last of which an end waited. -/
def Mod.acknowledged (j : Nat) (m : Mod) : Mod :=
  (m.setPair { m.pair with
    acked := (j + 1) % 0x100000000
    ends := []
    comps := [] }).setReg Reg.SL_JACK (BitVec.ofNat 32 j)

/-- An acknowledgement that covers the one end waiting lets it count. -/
theorem journalAck_one {m : Mod} {j k : Nat} {r : Report} (hon : m.journalOn = true)
    (hopen : (j + 0x100000000 - m.pair.acked) % 0x100000000 < m.journalOpen) (hcomps : m.pair.comps = [])
    (hends : m.pair.ends = [(k, r)])
    (hcovers : (k + 0x100000000 - m.pair.acked) % 0x100000000 ≤ (j + 0x100000000 - m.pair.acked) % 0x100000000) :
    m.journalAck j = (m.acknowledged j).commitNode r := by
  unfold Mod.journalAck Mod.acknowledged
  dsimp only
  rw [hon, decide_eq_false (Nat.not_le.mpr hopen), hcomps, hends, List.filter_singleton, List.filter_singleton,
    decide_eq_true hcovers]
  rfl

theorem answers_journalAck (s : State) (j k : Nat) (r : Report) (x : Inst) (hh : s.m.flt.halted = false) (hw : j < 2 ^ 32)
    (hj : s.m.journalOn = true) (hopen : (j + 2 ^ 32 - s.m.pair.acked) % 2 ^ 32 < s.m.journalOpen)
    (hcomps : s.m.pair.comps = []) (hends : s.m.pair.ends = [(k, r)])
    (hcovers : (k + 2 ^ 32 - s.m.pair.acked) % 2 ^ 32 ≤ (j + 2 ^ 32 - s.m.pair.acked) % 2 ^ 32)
    (hi : s.m.inst r.inst = some x) (hq : x.quitStatus = none) (hs : r.status = 0) (hn : (x.node r.node).settle ≠ 0) :
    Answers (.journalAck j) s (fun t => t.pair.acked = (j + 1) % 2 ^ 32 ∧ t.pair.ends = [] ∧
      t.reg Reg.SL_JACK = BitVec.ofNat 32 j ∧ t.inst r.inst = some
        ({ x with stretch := x.stretch + r.stretch, ran := x.ran + b2n r.ran }.setSt r.node
          (.settling ⟨r.value, r.fail, false⟩)) ∧
      t.outs = s.m.outs ∧ SameMemory s.m t ∧ SameRegs [Reg.SL_JACK] s.m t) := by
  have he : s.m.journalAck j = (s.m.acknowledged j).nodeSettles r x :=
    (journalAck_one hj hopen hcomps hends hcovers).trans (commitNode_settles hi hq hs hn)
  have hregs : SameRegs [Reg.SL_JACK] s.m (s.m.acknowledged j) :=
    (SameRegs.of_eq (silent_setPair s.m _).regs).setReg _ _ (by simp)
  exact answers_effect rfl (decide_eq_true hw) hh he
    ⟨rfl, rfl, Mod.reg_setReg_self _ _ _, Mod.inst_setInst_self _ _ _, rfl, .of_eq rfl rfl, hregs⟩ fun _ _ h => h

/-- Settles O45, one lemma for each record of the journal, for CONFIG of the partner's ports, and for the partner's
acknowledgement. -/
theorem journalRecords : Obligations.JournalRecords :=
  ⟨answers_burstStart, answers_decisionStart, answers_decisionKept, answers_nodeDispatch, answers_nodeEnd, answers_descA,
    answers_descB, answers_queueRecord, answers_instEnd, answers_consumed, answers_configRecord, answers_configPort,
    answers_calRecord, answers_tokenRecord, answers_journalAck⟩

end Sys2Proof.Machine
end

section
/-!
SUPPORT. What a change of levels leaves as it was: words of the register file that alone are shown, channels apart, and
events that are raised (Chapters 10 and 11).
-/

namespace Sys2Proof.Machine

/-! ### Changes that show in listed registers alone -/

/-- `b` is `a` in both memories, in what has left the module and in every word of the register file but those listed. -/
structure WordsOnly (but : List Nat) (a b : Mod) : Prop where
  outs : b.outs = a.outs
  gddr : b.gddr = a.gddr
  sram : b.sram = a.sram
  regs : SameRegs but a b

section
variable {l l' : List Nat} {a b c : Mod}

theorem Silent.wordsOnly (h : Silent a b) : WordsOnly l a b := ⟨h.outs, h.gddr, h.sram, .of_eq h.regs⟩

theorem WordsOnly.refl (l : List Nat) (a : Mod) : WordsOnly l a a := (Silent.refl a).wordsOnly

theorem WordsOnly.trans (h : WordsOnly l a b) (k : WordsOnly l b c) : WordsOnly l a c :=
  ⟨k.outs.trans h.outs, k.gddr.trans h.gddr, k.sram.trans h.sram, h.regs.trans k.regs⟩

theorem WordsOnly.mono (h : WordsOnly l a b) (hl : ∀ o ∈ l, o ∈ l') : WordsOnly l' a b :=
  ⟨h.outs, h.gddr, h.sram, h.regs.mono hl⟩

theorem WordsOnly.silent (h : WordsOnly l a b) (k : Silent b c) : WordsOnly l a c := h.trans k.wordsOnly

theorem WordsOnly.wr (h : WordsOnly l a b) (off : Nat) (f : Fld) (v : Nat) (ho : off ∈ l) :
    WordsOnly l a (b.wr off f v) := ⟨h.outs, h.gddr, h.sram, h.regs.wr off f v ho⟩

theorem WordsOnly.each (k : List Nat) (f : Nat → Mod → Mod) (m : Mod) (h : ∀ i ∈ k, ∀ x, WordsOnly l x (f i x)) :
    WordsOnly l m (m.each k f) :=
  Mod.each_keeps m (WordsOnly l m) k f (fun i hi _ hx => hx.trans (h i hi _)) (.refl l m)

theorem WordsOnly.memory (h : WordsOnly l a b) : SameMemory a b := .of_eq h.gddr h.sram

theorem WordsOnly.rd (h : WordsOnly l a b) {o : Nat} (ho : o ∉ l) (f : Fld) : b.rd o f = a.rd o f := by
  rw [Mod.rd, h.regs o ho, Mod.rd]

theorem WordsOnly.flag (h : WordsOnly l a b) {o : Nat} (ho : o ∉ l) (f : Fld) : b.flag o f = a.flag o f := by
  rw [Mod.flag, h.rd ho, Mod.flag]

theorem WordsOnly.journalOn (h : WordsOnly l a b) (ho : Reg.SL_STATUS ∉ l) : b.journalOn = a.journalOn := by
  rw [Mod.journalOn, h.rd ho, Mod.journalOn]

/-- What a statement says of a command that shows in registers alone. -/
theorem WordsOnly.frame (h : WordsOnly l a b) : b.outs = a.outs ∧ SameMemory a b ∧ SameRegs l a b :=
  ⟨h.outs, h.memory, h.regs⟩

end

section
variable (m : Mod)

theorem silent_setLq (q : Nat) (x : Lq) : Silent m (m.setLq q x) := ⟨rfl, rfl, rfl, rfl⟩
theorem silent_setLv (ch : Nat) (x : LvLive) : Silent m (m.setLv ch x) := ⟨rfl, rfl, rfl, rfl⟩
theorem silent_setHv (h : Nat) (x : HvLive) : Silent m (m.setHv h x) := ⟨rfl, rfl, rfl, rfl⟩
theorem silent_setAsl (n : Nat) (x : AsLive) : Silent m (m.setAsl n x) := ⟨rfl, rfl, rfl, rfl⟩

theorem Mod.lv_setLv_ne (ch j : Nat) (x : LvLive) (h : j ≠ ch) : (m.setLv ch x).lv j = m.lv j :=
  SMap.get_set_ne _ _ _ _ _ h

theorem Mod.hv_setHv_ne (h j : Nat) (x : HvLive) (hj : j ≠ h) : (m.setHv h x).hv j = m.hv j :=
  SMap.get_set_ne _ _ _ _ _ hj

/-- CLAMP_SUM alone follows the sum. -/
theorem wordsOnly_sumClamps : WordsOnly [Reg.PWR_HV_MON] m m.sumClamps :=
  (WordsOnly.refl _ m).wr _ _ _ List.mem_cons_self

/-- COUNT alone follows the entries of a queue. -/
theorem wordsOnly_putLq (q : Nat) (x : Lq) : WordsOnly [lqReg q] m (m.putLq q x) :=
  ((silent_setLq m q x).wordsOnly).wr _ _ _ List.mem_cons_self

theorem lq_putLq_self (q : Nat) (x : Lq) : (m.putLq q x).lq q = x := Mod.lq_setLq_self m q x

end

/-! ### Where the words of levels lie (Table 19.1) -/

/-- The words of channels, level queues, HV channels and AS outputs are none that posting writes. -/
theorem postWord_levels {o : Nat} (h : 0x500000 ≤ o) (h' : o < 0xD00000) : postWord o = false := by
  simp only [postWord, Bool.or_eq_false_iff, Bool.and_eq_false_iff, decide_eq_false_iff_not]
  omega

theorem chLstat_range {ch : Nat} (h : ch < 256) :
    0x500000 ≤ chReg Reg.CH_LSTAT ch ∧ chReg Reg.CH_LSTAT ch < 0x700000 := by
  unfold chReg Reg.CH_LSTAT
  omega

/-! ### Events that are raised (R420) -/

/-- `b` is `a` with event `f` of register `reg` raised and posted. -/
structure Raised (reg : Nat) (f : Fld) (a b : Mod) : Prop where
  flag : b.flag reg f = true
  posts : OnlyPosts [reg] a b
  apart : ∀ g : Fld, g.lo + g.width ≤ f.lo ∨ f.lo + f.width ≤ g.lo → b.rd reg g = a.rd reg g

theorem raised_raise (c s i t x reg : Nat) (f : Fld) (m : Mod) (hp : postWord reg = false) (hf : f.lo < 32)
    (hw : f.width = 1) : Raised reg f m (m.raise c s i t x reg f) := by
  have hseq : reg ≠ Reg.ERR_SEQ := by rintro rfl; exact absurd hp (by decide)
  have hlost : reg ≠ Reg.ERR_LOST := by rintro rfl; exact absurd hp (by decide)
  refine ⟨flag_raise c s i t x reg f m hf hw hseq hlost, onlyPosts_raise c s i t x reg f m, fun g hg => ?_⟩
  unfold Mod.raise
  split
  · rfl
  · rw [Mod.rd, reg_post_ne _ _ _ _ _ _ _ _ _ hseq hlost]
    exact Mod.rd_wr_field m reg g f 1 hg

/-! ### Bits of a map of lines (Table 10.13) -/

theorem mapBit_setMapBit_self (lo i : Nat) (b : Bool) (m : Mod) : (m.setMapBit lo i b).mapBit lo i = b := by
  rw [Mod.mapBit, Mod.setMapBit, Mod.wr, Mod.reg_setReg_self, getLsbD_fput]
  have hlt : i % 32 < 32 := Nat.mod_lt _ (by decide)
  cases b <;> simp [hlt, b2n]

theorem mapBit_setMapBit_ne (lo hi i j : Nat) (b : Bool) (m : Mod) (h : hi + 4 * (j / 32) ≠ lo + 4 * (i / 32)) :
    (m.setMapBit lo i b).mapBit hi j = m.mapBit hi j := by
  rw [Mod.mapBit, Mod.setMapBit, Mod.reg_wr_ne _ _ _ _ _ h, Mod.mapBit]

/-! ### Outputs switched off (R258 to R261, R286 to R289) -/

theorem hvSwitch_off_eq (h : Nat) (m : Mod) :
    m.hvSwitch h false = ((m.wr (Reg.HV_CTRL h) Fields.HV_CTRL.EN 0).rcFinish h).sumClamps := rfl

theorem hvEnabled_hvSwitch_off (h : Nat) (m : Mod) : (m.hvSwitch h false).hvEnabled h = false := by
  have hk := (kept_rcFinish (P := (· = Reg.HV_CTRL h)) h (m.wr (Reg.HV_CTRL h) Fields.HV_CTRL.EN 0)
    (hvState_ne_hvCtrl h h)).trans (kept_sumClamps _ _)
  rw [hvSwitch_off_eq]
  exact (hk.flag rfl (hvCtrl_ne_hvMon h) _).trans (Mod.flag_wr_zero m _ _ (by decide))

/-- The words of AS output `n` as it is switched off: in a range change it takes its new range. -/
def Mod.asDown (n : Nat) (m : Mod) : Mod :=
  let m1 := m.wr (Reg.AS_STATE n) Fields.AS_STATE.EN 0
  match (m.asl n).rc with
  | some v => (m1.wr (Reg.AS_STATE n) Fields.AS_STATE.VRANGE v).wr (Reg.AS_STATE n) Fields.AS_STATE.RC_ACTIVE 0
  | none => m1

theorem asSwitch_off_eq (n : Nat) (m : Mod) :
    ∃ x, Silent (m.asDown n) x ∧ m.asSwitch n false = x.sumClamps := by
  unfold Mod.asSwitch Mod.asDown
  rw [Bool.false_and, if_neg Bool.false_ne_true]
  dsimp only
  cases (m.asl n).rc with
  | none => exact ⟨_, silent_setAsl _ _ _, rfl⟩
  | some v => refine ⟨_, ?_, rfl⟩; exact ⟨rfl, rfl, rfl, rfl⟩

theorem asState_ne_hvMon (n : Nat) : Reg.AS_STATE n ≠ Reg.PWR_HV_MON := by unfold Reg.AS_STATE Reg.PWR_HV_MON; omega

theorem wordsOnly_asDown (n : Nat) (m : Mod) : WordsOnly [Reg.AS_STATE n] m (m.asDown n) := by
  have hw (x : Mod) (f : Fld) (v : Nat) : WordsOnly [Reg.AS_STATE n] x (x.wr (Reg.AS_STATE n) f v) :=
    (WordsOnly.refl _ x).wr _ _ _ List.mem_cons_self
  unfold Mod.asDown
  cases (m.asl n).rc with
  | none => exact hw _ _ _
  | some v => exact ((hw _ _ _).trans (hw _ _ _)).trans (hw _ _ _)

theorem wordsOnly_asSwitch_off (n : Nat) (m : Mod) :
    WordsOnly [Reg.AS_STATE n, Reg.PWR_HV_MON] m (m.asSwitch n false) := by
  obtain ⟨x, hlive, he⟩ := asSwitch_off_eq n m
  have hdown : WordsOnly [Reg.AS_STATE n, Reg.PWR_HV_MON] m (m.asDown n) := (wordsOnly_asDown n m).mono (by simp)
  rw [he]
  exact (hdown.silent hlive).trans ((wordsOnly_sumClamps _).mono (by simp))

/-- A word of ASn_STATE passes the clamp sum. -/
theorem rd_asSwitch_off (n : Nat) (f : Fld) (m : Mod) :
    (m.asSwitch n false).rd (Reg.AS_STATE n) f = (m.asDown n).rd (Reg.AS_STATE n) f := by
  obtain ⟨x, hlive, he⟩ := asSwitch_off_eq n m
  rw [he]
  exact ((wordsOnly_sumClamps x).rd (by simpa using asState_ne_hvMon n) f).trans (rd_of_regs hlive.regs _ f)

theorem asEnabled_asSwitch_off (n : Nat) (m : Mod) : (m.asSwitch n false).asEnabled n = false := by
  have hen := Mod.rd_wr_self m (Reg.AS_STATE n) Fields.AS_STATE.EN 0 (by decide)
  rw [Mod.asEnabled, Mod.flag, rd_asSwitch_off, Mod.asDown]
  cases (m.asl n).rc with
  | none => dsimp only; rw [hen]; rfl
  | some v =>
    dsimp only
    rw [Mod.rd_wr_field _ _ _ _ _ (by decide), Mod.rd_wr_field _ _ _ _ _ (by decide), hen]
    rfl

/-- The event bits of an output stand as it is switched off. -/
theorem rd_asSwitch_off_events (n : Nat) (f : Fld) (m : Mod) (hf : 3 ≤ f.lo) :
    (m.asSwitch n false).rd (Reg.AS_STATE n) f = m.rd (Reg.AS_STATE n) f := by
  have hne (x : Mod) (g : Fld) (v : Nat) (hg : g.lo + g.width ≤ 3) :
      (x.wr (Reg.AS_STATE n) g v).rd (Reg.AS_STATE n) f = x.rd (Reg.AS_STATE n) f :=
    Mod.rd_wr_field _ _ _ _ _ (.inr (hg.trans hf))
  rw [rd_asSwitch_off, Mod.asDown]
  cases (m.asl n).rc with
  | none => exact hne _ _ _ (by decide)
  | some v => exact ((hne _ _ _ (by decide)).trans (hne _ _ _ (by decide))).trans (hne _ _ _ (by decide))

end Sys2Proof.Machine
end

section
/-!
PROOF. Limits, trips and deviations (R243, R252, R258, R265, R288, R289), and O36.
-/

namespace Sys2Proof.Machine

/-! ### Channels of the pin dies, and relay lines -/

theorem answers_lim (s : State) (ch us : Nat) (hc : ch < 256) (hu : 1 ≤ us) :
    Answers (.lim ch us) s (fun t => t.flag (chReg Reg.CH_LSTAT ch) Fields.CH_LSTAT.LIM = true ∧ SameMemory s.m t ∧
      SameRegsPost [chReg Reg.CH_LSTAT ch] s.m t) := by
  obtain ⟨hlow, hhigh⟩ := chLstat_range hc
  have hr := raised_raise 1 srcCH ch noSite 0 (chReg Reg.CH_LSTAT ch) Fields.CH_LSTAT.LIM s.m
    (postWord_levels hlow (by omega)) (by decide) rfl
  have ht : s.m.lim ch us = s.m.raise 1 srcCH ch noSite 0 (chReg Reg.CH_LSTAT ch) Fields.CH_LSTAT.LIM := by
    rw [Mod.lim, decide_eq_true hu, Mod.when_true]
  exact answers_effect_always rfl (decide_eq_true hc) ht ⟨hr.flag, hr.posts.memory, hr.posts.2⟩

theorem answers_pmuLim (s : State) (ch us : Nat) (hc : ch < 256) (hu : 1 ≤ us) (hp : (s.m.lv ch).pmu.isSome = true) :
    Answers (.pmuLim ch us) s (fun t => t.flag (chReg Reg.CH_LSTAT ch) Fields.CH_LSTAT.PMU_LIM = true ∧
      t.outs = s.m.outs ∧ SameMemory s.m t ∧ SameRegs [chReg Reg.CH_LSTAT ch] s.m t) := by
  have ht : s.m.pmuLim ch us = s.m.mark (chReg Reg.CH_LSTAT ch) Fields.CH_LSTAT.PMU_LIM := by
    rw [Mod.pmuLim, decide_eq_true hu, hp, Bool.and_true, Mod.when_true]
  exact answers_effect_always rfl (decide_eq_true hc) ht
    ⟨Mod.flag_mark_self _ _ _ (by decide) rfl, ((WordsOnly.refl _ s.m).wr _ _ _ List.mem_cons_self).frame⟩

theorem answers_relayOvercurrent (s : State) (i us : Nat) (hi : i < 64) (hon : s.m.mapBit Reg.RLY_STATE_LO i = true)
    (hu : 10 ≤ us) :
    Answers (.relayOvercurrent i us) s (fun t => t.mapBit Reg.RLY_FLT_LO i = true ∧
      t.mapBit Reg.RLY_STATE_LO i = true ∧ t.outs = s.m.outs ∧ SameMemory s.m t ∧
      SameRegs [Reg.RLY_FLT_LO + 4 * (i / 32)] s.m t) := by
  have hne : Reg.RLY_STATE_LO + 4 * (i / 32) ≠ Reg.RLY_FLT_LO + 4 * (i / 32) := by
    unfold Reg.RLY_STATE_LO Reg.RLY_FLT_LO
    omega
  have ht : s.m.relayOvercurrent i us = s.m.setMapBit Reg.RLY_FLT_LO i true := by
    rw [Mod.relayOvercurrent, hon, decide_eq_true hu, Bool.and_true, Mod.when_true]
  exact answers_effect_always rfl (decide_eq_true hi) ht
    ⟨mapBit_setMapBit_self _ _ _ _, (mapBit_setMapBit_ne _ _ _ _ _ _ hne).trans hon,
      ((WordsOnly.refl _ s.m).wr _ _ _ List.mem_cons_self).frame⟩

/-! ### HV channels -/

theorem postWord_hvState {h : Nat} (hh : h < 32) : postWord (Reg.HV_STATE h) = false :=
  postWord_levels (by unfold Reg.HV_STATE; omega) (by unfold Reg.HV_STATE; omega)

theorem postWord_hvCtrl {h : Nat} (hh : h < 32) : postWord (Reg.HV_CTRL h) = false :=
  postWord_levels (by unfold Reg.HV_CTRL; omega) (by unfold Reg.HV_CTRL; omega)

/-- What is posted about an HV channel leaves it switched as it was. -/
theorem hvEnabled_raised {h : Nat} {f : Fld} {a b : Mod} (hh : h < 32) (hr : Raised (Reg.HV_STATE h) f a b) :
    b.hvEnabled h = a.hvEnabled h :=
  hr.posts.flag _ (by simpa using (hvState_ne_hvCtrl h h).symm) (postWord_hvCtrl hh)

theorem answers_ilim (s : State) (h us : Nat) (hh : h < 32) (hon : s.m.hvEnabled h = true)
    (hu : 1 ≤ us ∨ hvMode (s.m.hv h).w0 = 1 ∨ hvMode (s.m.hv h).w0 = 3) :
    Answers (.ilim h us) s (fun t => t.flag (Reg.HV_STATE h) Fields.HV_STATE.ILIM = true ∧ t.hvEnabled h = true ∧
      SameMemory s.m t ∧ SameRegsPost [Reg.HV_STATE h] s.m t) := by
  have hr := raised_raise 1 srcHV h noSite 0 (Reg.HV_STATE h) Fields.HV_STATE.ILIM s.m (postWord_hvState hh) (by decide) rfl
  have hlimited : (s.m.hvEnabled h && (decide (1 ≤ us) || hvMode (s.m.hv h).w0 == 1 || hvMode (s.m.hv h).w0 == 3)) =
      true := by
    simpa [hon, or_assoc] using hu
  have ht : s.m.ilim h us = s.m.raise 1 srcHV h noSite 0 (Reg.HV_STATE h) Fields.HV_STATE.ILIM := by
    rw [Mod.ilim, hlimited, Mod.when_true]
  exact answers_effect_always rfl (decide_eq_true hh) ht
    ⟨hr.flag, (hvEnabled_raised hh hr).trans hon, hr.posts.memory, hr.posts.2⟩

theorem answers_limoffTrip (s : State) (h us : Nat) (hh : h < 32) (hon : s.m.hvEnabled h = true)
    (hoff : s.m.flag (Reg.HV_CTRL h) Fields.HV_CTRL.LIMIT_OFF = true) (hu : 10000 ≤ us) :
    Answers (.limoffTrip h us) s (fun t => t.hvEnabled h = false ∧
      t.flag (Reg.HV_STATE h) Fields.HV_STATE.LIMOFF_TRIP = true ∧ SameMemory s.m t ∧
      SameRegsPost [Reg.HV_CTRL h, Reg.HV_STATE h, Reg.PWR_HV_MON] s.m t) := by
  have hdown := hvEnabled_hvSwitch_off h s.m
  have hk := kept_hvSwitch (P := (· ∉ [Reg.HV_CTRL h, Reg.HV_STATE h, Reg.PWR_HV_MON])) h false s.m (by simp) (by simp)
  have ht : s.m.limoffTrip h us =
      (s.m.hvSwitch h false).raise 1 srcHV h noSite 0 (Reg.HV_STATE h) Fields.HV_STATE.LIMOFF_TRIP := by
    rw [Mod.limoffTrip, hon, hoff, decide_eq_true hu]
    rfl
  generalize s.m.hvSwitch h false = m1 at hdown hk ht
  have hr := raised_raise 1 srcHV h noSite 0 (Reg.HV_STATE h) Fields.HV_STATE.LIMOFF_TRIP m1 (postWord_hvState hh)
    (by decide) rfl
  have hregs : SameRegs [Reg.HV_CTRL h, Reg.HV_STATE h, Reg.PWR_HV_MON] s.m m1 := fun o ho =>
    hk.regs o ho (fun e => ho (by simp [e]))
  exact answers_effect_always rfl (decide_eq_true hh) ht ⟨(hvEnabled_raised hh hr).trans hdown, hr.flag,
    (SameMemory.of_eq hk.gddr hk.sram).trans hr.posts.memory, hregs.post.trans (hr.posts.2.mono (by simp))⟩

/-! ### AS outputs -/

theorem postWord_asState {n : Nat} (hn : n < 8) : postWord (Reg.AS_STATE n) = false :=
  postWord_levels (by unfold Reg.AS_STATE; omega) (by unfold Reg.AS_STATE; omega)

/-- An event of an AS output leaves it switched as it was. -/
theorem asEnabled_raised {n : Nat} {f : Fld} {a b : Mod} (hf : 1 ≤ f.lo) (hr : Raised (Reg.AS_STATE n) f a b) :
    b.asEnabled n = a.asEnabled n := by
  rw [Mod.asEnabled, Mod.flag, hr.apart Fields.AS_STATE.EN (.inl hf)]
  rfl

theorem answers_clim (s : State) (n us : Nat) (hn : n < 8) (hon : s.m.asEnabled n = true) (hu : 1 ≤ us) :
    Answers (.clim n us) s (fun t => t.flag (Reg.AS_STATE n) Fields.AS_STATE.CLIM = true ∧ t.asEnabled n = true ∧
      SameMemory s.m t ∧ SameRegsPost [Reg.AS_STATE n] s.m t) := by
  have hr := raised_raise 1 srcWAVE n noSite 0 (Reg.AS_STATE n) Fields.AS_STATE.CLIM s.m (postWord_asState hn) (by decide)
    rfl
  have ht : s.m.clim n us = s.m.raise 1 srcWAVE n noSite 0 (Reg.AS_STATE n) Fields.AS_STATE.CLIM := by
    rw [Mod.clim, hon, decide_eq_true hu, Bool.and_true, Mod.when_true]
  exact answers_effect_always rfl (decide_eq_true hn) ht
    ⟨hr.flag, (asEnabled_raised (by decide) hr).trans hon, hr.posts.memory, hr.posts.2⟩

theorem answers_climoffTrip (s : State) (n us : Nat) (hn : n < 8) (hon : s.m.asEnabled n = true)
    (hoff : s.m.flag (Reg.AS_CFG n) Fields.AS_CFG.CLIM_OFF = true) (hu : 10000 ≤ us) :
    Answers (.climoffTrip n us) s (fun t => t.asEnabled n = false ∧
      t.flag (Reg.AS_STATE n) Fields.AS_STATE.CLIMOFF_TRIP = true ∧ t.outs = s.m.outs ∧ SameMemory s.m t ∧
      SameRegs [Reg.AS_STATE n, Reg.PWR_HV_MON] s.m t) := by
  have ht : s.m.climoffTrip n us = (s.m.asSwitch n false).mark (Reg.AS_STATE n) Fields.AS_STATE.CLIMOFF_TRIP := by
    rw [Mod.climoffTrip, hon, hoff, decide_eq_true hu, Bool.and_true, Bool.and_true, Mod.when_true]
  have hen : ((s.m.asSwitch n false).mark (Reg.AS_STATE n) Fields.AS_STATE.CLIMOFF_TRIP).asEnabled n =
      (s.m.asSwitch n false).asEnabled n := congrArg (· != 0) (Mod.rd_wr_field _ _ _ _ _ (by decide))
  exact answers_effect_always rfl (decide_eq_true hn) ht ⟨hen.trans (asEnabled_asSwitch_off n s.m),
    Mod.flag_mark_self _ _ _ (by decide) rfl, ((wordsOnly_asSwitch_off n s.m).wr _ _ _ List.mem_cons_self).frame⟩

/-- A deviation that has lasted, outside a range change and once the output has settled, is raised; with DEV_OFF it
disables the output (R289). -/
theorem dev_eq {n mv us : Nat} {m : Mod} (hon : m.asEnabled n = true)
    (hset : m.rd (Reg.AS_CFG n) Fields.AS_CFG.DEV_MV ≠ 0) (hmv : 10 * m.rd (Reg.AS_CFG n) Fields.AS_CFG.DEV_MV < mv)
    (hus : max 1 (m.rd (Reg.AS_CFG n) Fields.AS_CFG.DEV_US) ≤ us) (hrc : (m.asl n).rc = none)
    (hat : (m.asl n).onAt + 5000 ≤ m.ttime) :
    m.dev n mv us = (m.raise 1 srcWAVE n noSite 0 (Reg.AS_STATE n) Fields.AS_STATE.DEV).when
      (m.flag (Reg.AS_CFG n) Fields.AS_CFG.DEV_OFF) (Mod.asSwitch n false) := by
  have hset' : (m.rd (Reg.AS_CFG n) Fields.AS_CFG.DEV_MV != 0) = true := bne_iff_ne.mpr hset
  unfold Mod.dev
  dsimp only
  rw [hon, hset', decide_eq_true hmv, decide_eq_true hus, hrc, decide_eq_true hat]
  rfl

theorem answers_dev (s : State) (n mv us : Nat) (hn : n < 8) (hon : s.m.asEnabled n = true)
    (hset : s.m.rd (Reg.AS_CFG n) Fields.AS_CFG.DEV_MV ≠ 0)
    (hmv : 10 * s.m.rd (Reg.AS_CFG n) Fields.AS_CFG.DEV_MV < mv)
    (hus : max 1 (s.m.rd (Reg.AS_CFG n) Fields.AS_CFG.DEV_US) ≤ us) (hrc : (s.m.asl n).rc = none)
    (hat : (s.m.asl n).onAt + 5000 ≤ s.m.ttime) :
    Answers (.dev n mv us) s (fun t => t.flag (Reg.AS_STATE n) Fields.AS_STATE.DEV = true ∧
      t.asEnabled n = !s.m.flag (Reg.AS_CFG n) Fields.AS_CFG.DEV_OFF ∧ SameMemory s.m t ∧
      SameRegsPost [Reg.AS_STATE n, Reg.PWR_HV_MON] s.m t) := by
  have ht := dev_eq hon hset hmv hus hrc hat
  have hr := raised_raise 1 srcWAVE n noSite 0 (Reg.AS_STATE n) Fields.AS_STATE.DEV s.m (postWord_asState hn) (by decide)
    rfl
  generalize s.m.raise 1 srcWAVE n noSite 0 (Reg.AS_STATE n) Fields.AS_STATE.DEV = m1 at ht hr
  have hregs : SameRegsPost [Reg.AS_STATE n, Reg.PWR_HV_MON] s.m m1 := hr.posts.2.mono (by simp)
  cases hoff : s.m.flag (Reg.AS_CFG n) Fields.AS_CFG.DEV_OFF with
  | false =>
    rw [hoff, Mod.when_false] at ht
    exact answers_effect_always rfl (decide_eq_true hn) ht
      ⟨hr.flag, (asEnabled_raised (by decide) hr).trans hon, hr.posts.memory, hregs⟩
  | true =>
    rw [hoff, Mod.when_true] at ht
    have hk := wordsOnly_asSwitch_off n m1
    have hdev : (m1.asSwitch n false).flag (Reg.AS_STATE n) Fields.AS_STATE.DEV = true := by
      rw [Mod.flag, rd_asSwitch_off_events n _ m1 (by decide)]
      exact hr.flag
    exact answers_effect_always rfl (decide_eq_true hn) ht
      ⟨hdev, asEnabled_asSwitch_off n m1, hr.posts.memory.trans hk.memory, hregs.trans hk.regs.post⟩

/-- Settles O36, one lemma for each limit, trip and deviation. -/
theorem limitsAndTrips : Obligations.LimitsAndTrips :=
  ⟨answers_lim, answers_pmuLim, answers_ilim, answers_limoffTrip, answers_relayOvercurrent, answers_clim,
    answers_climoffTrip, answers_dev⟩

end Sys2Proof.Machine
end

section
/-!
PROOF. Commands to level queues, pin switches and HV outputs by register (R244, R248, R250, R256, R259, R260), and O54.
-/

namespace Sys2Proof.Machine

/-! ### Words that a write leaves as they are -/

/-- A field put as it reads leaves the word. -/
theorem fput_fget (f : Fld) (w : Word) : fput f (fget f w) w = w := by
  apply BitVec.eq_of_getLsbD_eq
  intro k hk
  rw [getLsbD_fput, decide_eq_true hk, Bool.true_and]
  split
  · rename_i hf
    rw [testBit_fget, decide_eq_true (by omega), Bool.true_and, show f.lo + (k - f.lo) = k by omega]
  · rfl

/-- A word written as it reads shows nowhere. -/
theorem wordsOnly_setReg_same {m : Mod} {off : Nat} {v : Word} (h : v = m.reg off) : WordsOnly [] m (m.setReg off v) := by
  refine ⟨rfl, rfl, rfl, fun o _ => ?_⟩
  rw [Mod.reg_setReg]
  split
  · rename_i ho
    rw [h, ho]
  · rfl

section
variable {m t : Mod} {i : Init} {v : Word}

/-! ### Level queues (R248, R250) -/

/-- A write to a register of a pin die that is no word of a pair. -/
theorem act_pinDie {w : Wr} (hp : pairLows.contains w.d.name = false)
    (hb : w.off / 0x100000 = 5 ∨ w.off / 0x100000 = 6) : w.act m = w.pinDie m := by
  obtain hb | hb := hb <;> simp only [Wr.act, hp, hb, Bool.false_eq_true, if_false]

/-- A write to a register of H0. -/
theorem act_h0 {w : Wr} (hp : pairLows.contains w.d.name = false) (hb : w.off / 0x100000 = 7) : w.act m = w.h0 m := by
  simp only [Wr.act, hp, hb, Bool.false_eq_true, if_false]

theorem lqReg_ne_slStatus {q : Nat} (hq : q < 21) : Reg.SL_STATUS ∉ [lqReg q] := by
  simp only [List.mem_singleton, lqReg, Reg.SL_STATUS, Reg.CH_LQ_STATUS, Reg.HV_LQ_STATUS]
  split <;> omega

theorem dueSample_eq (m : Mod) : m.dueSample = (m.ttime + 1499) / 1000 := by rw [Mod.dueSample, Nat.add_assoc]

theorem wordsOnly_lqEnter (q : Nat) (e : LqEntry) (m : Mod) : WordsOnly [lqReg q] m (m.lqEnter q e) :=
  wordsOnly_putLq m q _

theorem entries_lqEnter (q : Nat) (e : LqEntry) (m : Mod) : ((m.lqEnter q e).lq q).entries = (m.lq q).entries ++ [e] := by
  rw [Mod.lqEnter, lq_putLq_self]

theorem wordsOnly_mark (reg : Nat) (f : Fld) (m : Mod) : WordsOnly [reg] m (m.mark reg f) :=
  (WordsOnly.refl _ m).wr _ _ _ List.mem_cons_self

/-- CH_LQCMD asks for an entry in a queue of its die. -/
theorem chLqcmdWrite_eq {d : Nat} (hs : m.serving = true) (hd : d < 2) (ht : m.lqCmdCh i d v = t)
    (hj : t.journalOn = false) : m.busWrite i (Reg.CH_LQCMD d) v = t := by
  refine Mod.busWrite_accepted hs (by unfold Reg.CH_LQCMD; omega) (by unfold Reg.CH_LQCMD; omega) (regAt_CH_LQCMD d hd) ?_ hj
  rw [act_pinDie (show pairLows.contains RegName.CH_LQCMD = false by decide) (by unfold Reg.CH_LQCMD; dsimp only; omega)]
  exact congrArg Except.ok ht

/-- HV_LQCMD asks for an entry in a queue of H0. -/
theorem hvLqcmdWrite_eq (hs : m.serving = true) (ht : m.lqCmdHv i v = t) (hj : t.journalOn = false) :
    m.busWrite i Reg.HV_LQCMD v = t := by
  refine Mod.busWrite_accepted hs (by decide) (by decide) regAt_HV_LQCMD ?_ hj
  rw [act_h0 (show pairLows.contains RegName.HV_LQCMD = false by decide) (show Reg.HV_LQCMD / 0x100000 = 7 by decide)]
  exact congrArg Except.ok ht

end

/-- A command that enters an entry answers with the queue longer by it, and COUNT alone shows it. -/
theorem answers_lqEnter {c : Instr} {s : State} {wf : Bool} {f : Mod → Mod} {q : Nat} {e : LqEntry}
    (hc : exec c s = run wf f s) (hw : wf = true) (hh : s.m.flt.halted = false) (ht : f s.m = s.m.lqEnter q e) :
    Answers c s (fun t => (t.lq q).entries = (s.m.lq q).entries ++ [e] ∧ t.outs = s.m.outs ∧ SameMemory s.m t ∧
      SameRegs [lqReg q] s.m t) :=
  answers_effect hc hw hh ht ⟨entries_lqEnter q e s.m, (wordsOnly_lqEnter q e s.m).frame⟩

theorem answers_chLqcmd (s : State) (init : Init) (d : Nat) (v : Word) (q : Nat) (hs : s.m.serving = true)
    (hj : s.m.journalOn = false) (hi : init.wf = true) (hd : d < 2) (hq : q = 8 * d + fget Fields.CH_LQCMD.BANK v)
    (hl : s.m.isLost (1 + d) = false) (hroom : (s.m.lq q).entries.length < 16) :
    Answers (.chLqcmd init d v) s (fun t => (t.lq q).entries = (s.m.lq q).entries ++ [⟨.lv (fget Fields.CH_LQCMD.SET v)
      (fget Fields.CH_LQCMD.MASK v), (s.m.ttime + 1499) / 1000, false, none, none⟩] ∧ t.outs = s.m.outs ∧
      SameMemory s.m t ∧ SameRegs [lqReg q] s.m t) := by
  have hlt : q < 21 := by have : fget Fields.CH_LQCMD.BANK v < 8 := fget_lt _ v; omega
  have hcmd : s.m.lqCmdCh init d v = s.m.lqEnter q ⟨.lv (fget Fields.CH_LQCMD.SET v) (fget Fields.CH_LQCMD.MASK v),
      (s.m.ttime + 1499) / 1000, false, none, none⟩ := by
    rw [← dueSample_eq, Mod.lqCmdCh, ← hq, hl, if_neg Bool.false_ne_true, if_neg (Nat.not_le.mpr hroom)]
  exact answers_lqEnter rfl (by simp [Wf.chLqcmd, hi, hd]) (s.m.serving_iff.mp hs).1
    (chLqcmdWrite_eq hs hd hcmd (((wordsOnly_lqEnter q _ s.m).journalOn (lqReg_ne_slStatus hlt)).trans hj))

theorem answers_chLqcmd_full (s : State) (init : Init) (d : Nat) (v : Word) (q : Nat) (hs : s.m.serving = true)
    (hj : s.m.journalOn = false) (hi : init.wf = true) (hd : d < 2) (hq : q = 8 * d + fget Fields.CH_LQCMD.BANK v)
    (hl : s.m.isLost (1 + d) = false) (hfull : 16 ≤ (s.m.lq q).entries.length) :
    Answers (.chLqcmd init d v) s (fun t => t.flag (lqReg q) Fields.CH_LQ_STATUS.CMD_FULL = true ∧ t.lqs = s.m.lqs ∧
      t.outs = s.m.outs ∧ SameMemory s.m t ∧ SameRegs [lqReg q] s.m t) := by
  have hlt : q < 21 := by have : fget Fields.CH_LQCMD.BANK v < 8 := fget_lt _ v; omega
  have hk := wordsOnly_mark (lqReg q) Fields.CH_LQ_STATUS.CMD_FULL s.m
  have hcmd : s.m.lqCmdCh init d v = s.m.mark (lqReg q) Fields.CH_LQ_STATUS.CMD_FULL := by
    rw [Mod.lqCmdCh, ← hq, hl, if_neg Bool.false_ne_true, if_pos hfull]
  exact answers_effect rfl (by simp [Wf.chLqcmd, hi, hd]) (s.m.serving_iff.mp hs).1
    (chLqcmdWrite_eq hs hd hcmd ((hk.journalOn (lqReg_ne_slStatus hlt)).trans hj))
    ⟨Mod.flag_mark_self _ _ _ (by decide) rfl, rfl, hk.frame⟩

theorem answers_hvLqcmd (s : State) (init : Init) (v : Word) (q : Nat) (hs : s.m.serving = true)
    (hj : s.m.journalOn = false) (hi : init.wf = true) (hq : q = 16 + fget Fields.HV_LQCMD.QUEUE v)
    (hup : s.m.h0Up = true) (hl : s.m.isLost 3 = false) (hroom : (s.m.lq q).entries.length < 16) :
    Answers (.hvLqcmd init v) s (fun t => (t.lq q).entries = (s.m.lq q).entries ++ [⟨.hv (fget Fields.HV_LQCMD.SET v)
      (fget Fields.HV_LQCMD.MASK v), (s.m.ttime + 1499) / 1000, false, none, none⟩] ∧ t.outs = s.m.outs ∧
      SameMemory s.m t ∧ SameRegs [lqReg q] s.m t) := by
  have hlt : q < 21 := by have : fget Fields.HV_LQCMD.QUEUE v < 4 := fget_lt _ v; omega
  have hrelay : fget Fields.HV_LQCMD.RELAY (fput Fields.HV_LQCMD.RELAY 0 v) = 0 := fget_fput _ _ _ (by decide)
  have hother (f : Fld) (hf : f.lo + f.width ≤ 10 ∨ 11 ≤ f.lo) : fget f (fput Fields.HV_LQCMD.RELAY 0 v) = fget f v :=
    fget_fput_ne _ _ _ _ hf
  have hcmd : s.m.lqCmdHv init (fput Fields.HV_LQCMD.RELAY 0 v) = s.m.lqEnter q ⟨.hv (fget Fields.HV_LQCMD.SET v)
      (fget Fields.HV_LQCMD.MASK v), (s.m.ttime + 1499) / 1000, false, none, none⟩ := by
    rw [← dueSample_eq, Mod.lqCmdHv, hrelay, hother Fields.HV_LQCMD.QUEUE (by decide), hother Fields.HV_LQCMD.SET (by decide),
      hother Fields.HV_LQCMD.MASK (by decide), ← hq, hup, hl]
    exact if_neg (Nat.not_le.mpr hroom)
  exact answers_lqEnter rfl hi (s.m.serving_iff.mp hs).1
    (hvLqcmdWrite_eq hs hcmd (((wordsOnly_lqEnter q _ s.m).journalOn (lqReg_ne_slStatus hlt)).trans hj))

theorem answers_relayLqcmd (s : State) (init : Init) (v : Word) (hs : s.m.serving = true) (hj : s.m.journalOn = false)
    (hi : init.wf = true) (hup : s.m.h0Up = true) (hl : s.m.isLost 3 = false) (hroom : (s.m.lq 20).entries.length < 16) :
    Answers (.relayLqcmd init v) s (fun t => (t.lq 20).entries = (s.m.lq 20).entries ++
      [⟨.relay (fget Fields.HV_LQCMD.SET v), (s.m.ttime + 1499) / 1000, false, none, none⟩] ∧ t.outs = s.m.outs ∧
      SameMemory s.m t ∧ SameRegs [lqReg 20] s.m t) := by
  have hrelay : fget Fields.HV_LQCMD.RELAY (fput Fields.HV_LQCMD.RELAY 1 v) = 1 := fget_fput _ _ _ (by decide)
  have hset : fget Fields.HV_LQCMD.SET (fput Fields.HV_LQCMD.RELAY 1 v) = fget Fields.HV_LQCMD.SET v :=
    fget_fput_ne _ _ _ _ (by decide)
  have hcmd : s.m.lqCmdHv init (fput Fields.HV_LQCMD.RELAY 1 v) = s.m.lqEnter 20 ⟨.relay (fget Fields.HV_LQCMD.SET v),
      (s.m.ttime + 1499) / 1000, false, none, none⟩ := by
    rw [← dueSample_eq, Mod.lqCmdHv, hrelay, hset, hup, hl]
    exact if_neg (Nat.not_le.mpr hroom)
  exact answers_lqEnter rfl hi (s.m.serving_iff.mp hs).1
    (hvLqcmdWrite_eq hs hcmd (((wordsOnly_lqEnter 20 _ s.m).journalOn (lqReg_ne_slStatus (by decide))).trans hj))

/-! ### CHn_LCTRL (R244, R256) -/

/-- The row of CHn_LCTRL in the register table (Table 10.10). -/
def chLctrlDesc : RegDesc := ⟨.CH_LCTRL, 0x500000, [(0x100000, 2), (0x100, 128)], 0#32, 3#32, 0#32, 4#32, 0#32⟩

theorem regAt_CH_LCTRL {ch : Nat} (h : ch < 256) :
    regAt (chReg Reg.CH_LCTRL ch) = some (chLctrlDesc, [ch / 128, ch % 128]) := by
  have hmod : ch % 128 < 128 := Nat.mod_lt _ (by decide)
  obtain hd | hd : ch / 128 = 0 ∨ ch / 128 = 1 := by omega
  · rw [chReg, hd]
    exact regAt_CH_LCTRL_P0 _ hmod
  · rw [chReg, hd]
    exact regAt_CH_LCTRL_P1 _ hmod

theorem chLctrl_range {ch : Nat} (h : ch < 256) :
    chReg Reg.CH_LCTRL ch < 0x700000 ∧ chReg Reg.CH_LCTRL ch % 4 = 0 ∧
      (chReg Reg.CH_LCTRL ch / 0x100000 = 5 ∨ chReg Reg.CH_LCTRL ch / 0x100000 = 6) := by
  unfold chReg Reg.CH_LCTRL
  omega

/-- A write of CHn_LCTRL that nothing refuses: CONN and CLAMP_EN are stored, and PMU_OFF acts. -/
theorem lctrlWrite_eq {m t : Mod} {i : Init} {v : Word} {ch : Nat} (hc : ch < 256) (hs : m.serving = true)
    (hconn : fget Fields.CH_LCTRL.CONN v ≠ m.rd (chReg Reg.CH_LCTRL ch) Fields.CH_LCTRL.CONN →
      m.ownerRuns ch = false ∧ (fget Fields.CH_LCTRL.CONN v ≠ 0 → m.shadowers ch = []))
    (hoff : fget Fields.CH_LCTRL.PMU_OFF v ≠ 0 → m.measOn ch = false) (hcal : m.calScoped (ch / 128) = false)
    (ht : (m.regPut chLctrlDesc (chReg Reg.CH_LCTRL ch) v).when (fget Fields.CH_LCTRL.PMU_OFF v != 0) (Mod.pmuOff ch) = t)
    (hj : t.journalOn = false) : m.busWrite i (chReg Reg.CH_LCTRL ch) v = t := by
  obtain ⟨hlow, halign, hblock⟩ := chLctrl_range hc
  refine Mod.busWrite_accepted hs (by omega) halign (regAt_CH_LCTRL hc) ?_ hj
  rw [act_pinDie (show pairLows.contains RegName.CH_LCTRL = false by decide) hblock]
  have hch : 128 * (ch / 128) + ch % 128 = ch := Nat.div_add_mod ch 128
  have hnext : fget Fields.CH_LCTRL.CONN (chLctrlDesc.after (m.reg (chReg Reg.CH_LCTRL ch)) v) =
    fget Fields.CH_LCTRL.CONN v := fget_after _ _ _ _ rfl (by decide)
  have hgo : Wr.pinDie ⟨i, chReg Reg.CH_LCTRL ch, chLctrlDesc, [ch / 128, ch % 128], v⟩ m =
    Wr.lctrl ⟨i, chReg Reg.CH_LCTRL ch, chLctrlDesc, [ch / 128, ch % 128], v⟩ m := rfl
  rw [hgo]
  simp only [Wr.lctrl, Wr.i, Wr.j, Wr.b, Wr.g, Wr.moves, Wr.next, List.getD_cons_zero, List.getD_cons_succ, hch, hcal,
    hnext, Bool.or_false]
  rw [if_neg]
  · exact congrArg Except.ok ht
  · simp only [Bool.or_eq_true, Bool.and_eq_true, bne_iff_ne, Bool.not_eq_true', List.isEmpty_eq_false_iff]
    rintro ((⟨hne, hrun⟩ | ⟨⟨hne, hup⟩, hshadow⟩) | ⟨hne, hmeas⟩)
    · exact Bool.false_ne_true ((hconn hne).1.symm.trans hrun)
    · exact hshadow ((hconn hne).2 hup)
    · exact Bool.false_ne_true ((hoff hne).symm.trans hmeas)

theorem chLctrl_ne_slStatus {ch : Nat} (h : ch < 256) : chReg Reg.CH_LCTRL ch ≠ Reg.SL_STATUS := by
  obtain ⟨hlow, -, -⟩ := chLctrl_range h
  unfold Reg.SL_STATUS
  omega

theorem answers_connWrite (s : State) (init : Init) (ch : Nat) (on : Bool) (hs : s.m.serving = true)
    (hj : s.m.journalOn = false) (hi : init.wf = true) (hc : ch < 256) (ho : s.m.ownerRuns ch = false)
    (hcal : s.m.calScoped (ch / 128) = false) (hsh : on = true → s.m.shadowers ch = []) :
    Answers (.connWrite init ch on) s (fun t =>
      t.flag (Reg.CH_LCTRL (ch / 128) (ch % 128)) Fields.CH_LCTRL.CONN = on ∧
      t.flag (Reg.CH_LCTRL (ch / 128) (ch % 128)) Fields.CH_LCTRL.CLAMP_EN =
        s.m.flag (Reg.CH_LCTRL (ch / 128) (ch % 128)) Fields.CH_LCTRL.CLAMP_EN ∧
      t.lvs = s.m.lvs ∧ t.outs = s.m.outs ∧ SameMemory s.m t ∧ SameRegs [Reg.CH_LCTRL (ch / 128) (ch % 128)] s.m t) := by
  have hconn : fget Fields.CH_LCTRL.CONN (fput Fields.CH_LCTRL.CONN (b2n on)
      (s.m.reg (chReg Reg.CH_LCTRL ch) &&& chLctrlDesc.rw)) = b2n on := by
    rw [fget_fput _ _ _ (by decide)]
    cases on <;> rfl
  have hclamp : fget Fields.CH_LCTRL.CLAMP_EN (fput Fields.CH_LCTRL.CONN (b2n on)
      (s.m.reg (chReg Reg.CH_LCTRL ch) &&& chLctrlDesc.rw)) = s.m.rd (chReg Reg.CH_LCTRL ch) Fields.CH_LCTRL.CLAMP_EN := by
    rw [fget_fput_ne _ _ _ _ (by decide), fget_and_rw _ _ _ (by decide)]
    rfl
  have hoff : fget Fields.CH_LCTRL.PMU_OFF (fput Fields.CH_LCTRL.CONN (b2n on)
      (s.m.reg (chReg Reg.CH_LCTRL ch) &&& chLctrlDesc.rw)) = 0 := by
    rw [fget_fput_ne _ _ _ _ (by decide), fget_and_apart _ _ _ (by decide)]
  have hfield := s.m.fieldWrite_eq init _ Fields.CH_LCTRL.CONN (b2n on) _ _ (regAt_CH_LCTRL hc)
  generalize fput Fields.CH_LCTRL.CONN (b2n on) (s.m.reg (chReg Reg.CH_LCTRL ch) &&& chLctrlDesc.rw) = v at *
  have hflag := flag_regPut chLctrlDesc (chReg Reg.CH_LCTRL ch) v s.m
  have hw : s.m.busWrite init (chReg Reg.CH_LCTRL ch) v = s.m.regPut chLctrlDesc (chReg Reg.CH_LCTRL ch) v := by
    refine lctrlWrite_eq hc hs (fun _ => ⟨ho, fun hne => hsh ?_⟩) (fun hne => absurd hoff hne) hcal ?_
      ((journalOn_regPut _ _ _ s.m (chLctrl_ne_slStatus hc)).trans hj)
    · rw [hconn] at hne
      cases on with
      | false => exact absurd rfl hne
      | true => rfl
    · rw [hoff]
      rfl
  refine answers_effect rfl (by simp [Wf.connWrite, hi, hc]) (s.m.serving_iff.mp hs).1 (hfield.trans hw)
    ⟨(hflag _ rfl (by decide)).trans ?_, (hflag _ rfl (by decide)).trans ?_, rfl, rfl, .of_eq rfl rfl,
      sameRegs_regPut _ _ v s.m⟩
  · rw [hconn]
    cases on <;> rfl
  · rw [hclamp]
    rfl

theorem wordsOnly_pmuOff (ch : Nat) (m : Mod) : WordsOnly [chReg Reg.CH_LSTAT ch] m (m.pmuOff ch) :=
  ((silent_setLv m ch _).wordsOnly).wr _ _ _ List.mem_cons_self

/-- PMU_OFF is no RW bit. -/
theorem pmuOff_apart (k : Nat) (hlo : Fields.CH_LCTRL.PMU_OFF.lo ≤ k)
    (hhi : k < Fields.CH_LCTRL.PMU_OFF.lo + Fields.CH_LCTRL.PMU_OFF.width) : chLctrlDesc.rw.getLsbD k = false := by
  simp only [Fields.CH_LCTRL.PMU_OFF] at hlo hhi
  obtain rfl : k = 2 := by omega
  rfl

theorem answers_pmuOff (s : State) (init : Init) (ch : Nat) (hs : s.m.serving = true) (hj : s.m.journalOn = false)
    (hi : init.wf = true) (hc : ch < 256) (hm : s.m.measOn ch = false) (hcal : s.m.calScoped (ch / 128) = false) :
    Answers (.pmuOff init ch) s (fun t => (t.lv ch).pmu = none ∧
      t.flag (Reg.CH_LSTAT (ch / 128) (ch % 128)) Fields.CH_LSTAT.PMU_ON = false ∧ t.outs = s.m.outs ∧ SameMemory s.m t ∧
      SameRegs [Reg.CH_LSTAT (ch / 128) (ch % 128)] s.m t) := by
  have hconn : fget Fields.CH_LCTRL.CONN (fput Fields.CH_LCTRL.PMU_OFF 1
      (s.m.reg (chReg Reg.CH_LCTRL ch) &&& chLctrlDesc.rw)) = s.m.rd (chReg Reg.CH_LCTRL ch) Fields.CH_LCTRL.CONN := by
    rw [fget_fput_ne _ _ _ _ (by decide), fget_and_rw _ _ _ (by decide)]
    rfl
  have hoff : fget Fields.CH_LCTRL.PMU_OFF (fput Fields.CH_LCTRL.PMU_OFF 1
      (s.m.reg (chReg Reg.CH_LCTRL ch) &&& chLctrlDesc.rw)) = 1 := fget_fput _ _ _ (by decide)
  have hkept : chLctrlDesc.after (s.m.reg (chReg Reg.CH_LCTRL ch)) (fput Fields.CH_LCTRL.PMU_OFF 1
      (s.m.reg (chReg Reg.CH_LCTRL ch) &&& chLctrlDesc.rw)) = s.m.reg (chReg Reg.CH_LCTRL ch) :=
    RegDesc.after_kept _ _ _ rfl (fput_and_apart _ _ _ _ pmuOff_apart)
  have hfield := s.m.fieldWrite_eq init _ Fields.CH_LCTRL.PMU_OFF 1 _ _ (regAt_CH_LCTRL hc)
  generalize fput Fields.CH_LCTRL.PMU_OFF 1 (s.m.reg (chReg Reg.CH_LCTRL ch) &&& chLctrlDesc.rw) = v at *
  have hput : WordsOnly [chReg Reg.CH_LSTAT ch] s.m (s.m.regPut chLctrlDesc (chReg Reg.CH_LCTRL ch) v) :=
    (wordsOnly_setReg_same hkept).mono (by simp)
  have hk := hput.trans (wordsOnly_pmuOff ch _)
  have hsl : Reg.SL_STATUS ∉ [chReg Reg.CH_LSTAT ch] := by
    obtain ⟨-, hhigh⟩ := chLstat_range hc
    simp only [List.mem_singleton, Reg.SL_STATUS]
    omega
  have hw := lctrlWrite_eq (i := init) (v := v) hc hs (fun hne => absurd hconn hne) (fun _ => hm) hcal
    (show _ = (s.m.regPut chLctrlDesc (chReg Reg.CH_LCTRL ch) v).pmuOff ch by rw [hoff]; rfl) ((hk.journalOn hsl).trans hj)
  have hlv : (((s.m.regPut chLctrlDesc (chReg Reg.CH_LCTRL ch) v).pmuOff ch).lv ch).pmu = none :=
    congrArg LvLive.pmu (Mod.lv_setLv_self _ ch _)
  exact answers_effect rfl (by simp [Wf.pmuOff, hi, hc]) (s.m.serving_iff.mp hs).1 (hfield.trans hw)
    ⟨hlv, Mod.flag_wr_zero _ _ _ (by decide), hk.frame⟩

/-! ### HVn_CTRL (R259, R260) -/

/-- The row of HVn_CTRL in the register table (Table 10.13). -/
def hvCtrlDesc : RegDesc := ⟨.HV_CTRL, 0x700000, [(0x20, 32)], 0#32, 3#32, 0#32, 0#32, 0#32⟩

/-- LIMIT_OFF is written as it stands. -/
def Mod.limitOffKept (h : Nat) (m : Mod) : Mod :=
  m.wr (Reg.HV_CTRL h) Fields.HV_CTRL.LIMIT_OFF (m.rd (Reg.HV_CTRL h) Fields.HV_CTRL.LIMIT_OFF)

theorem wordsOnly_limitOffKept (h : Nat) (m : Mod) : WordsOnly [] m (m.limitOffKept h) :=
  wordsOnly_setReg_same (fput_fget _ _)

/-- The sum of clamps follows registers, HV channels and the calibration run alone. -/
theorem clampSum_congr {a b : Mod} (hr : ∀ o, b.reg o = a.reg o) (hhv : b.hvs = a.hvs) (hcal : b.cal = a.cal)
    (h n : Nat) : b.clampSum h n = a.clampSum h n := by
  have hrd (o : Nat) (f : Fld) : b.rd o f = a.rd o f := by rw [Mod.rd, hr, Mod.rd]
  have hcharge : b.hvCharge = a.hvCharge := by
    funext k
    rw [Mod.hvCharge, Mod.hvCharge, Mod.hvEnabled, Mod.hvEnabled, Mod.flag, Mod.flag, hrd, Mod.hv, Mod.hv, hhv]
  have has : b.asCharge = a.asCharge := by
    funext k
    rw [Mod.asCharge, Mod.asCharge, Mod.asEnabled, Mod.asEnabled, Mod.flag, Mod.flag, hrd, hrd]
  rw [Mod.clampSum, Mod.clampSum, hcharge, has, Mod.calCharge, Mod.calCharge, hcal, hrd]

theorem clampSum_limitOffKept (k h n : Nat) (m : Mod) : (m.limitOffKept k).clampSum h n = m.clampSum h n :=
  clampSum_congr (fun o => (wordsOnly_limitOffKept k m).regs o List.not_mem_nil) rfl rfl h n

theorem hvEnabled_limitOffKept (h : Nat) (m : Mod) : (m.limitOffKept h).hvEnabled h = m.hvEnabled h :=
  (wordsOnly_limitOffKept h m).flag List.not_mem_nil _

section
variable {m t : Mod} {i : Init} {h : Nat} {on : Bool}

/-- EN written with LIMIT_OFF as it stands, outside a calibration of H0. -/
theorem hvEnableWrite_eq (hh : h < 32) (hs : m.serving = true) (hcal : m.calScoped 2 = false)
    (ht : (m.limitOffKept h).hvEnable h on = t) (hj : t.journalOn = false) :
    m.fieldWrite i (Reg.HV_CTRL h) Fields.HV_CTRL.EN (b2n on) = t := by
  have hen : fget Fields.HV_CTRL.EN (fput Fields.HV_CTRL.EN (b2n on) (m.reg (Reg.HV_CTRL h) &&& hvCtrlDesc.rw)) = b2n on := by
    rw [fget_fput _ _ _ (by decide)]
    cases on <;> rfl
  have hon : (b2n on != 0) = on := by cases on <;> rfl
  have hlim : fget Fields.HV_CTRL.LIMIT_OFF (fput Fields.HV_CTRL.EN (b2n on) (m.reg (Reg.HV_CTRL h) &&& hvCtrlDesc.rw)) =
      m.rd (Reg.HV_CTRL h) Fields.HV_CTRL.LIMIT_OFF := by
    rw [fget_fput_ne _ _ _ _ (by decide), fget_and_rw _ _ _ (by decide)]
    rfl
  rw [m.fieldWrite_eq i _ _ _ hvCtrlDesc _ (regAt_HV_CTRL h hh)]
  refine Mod.busWrite_accepted hs (by unfold Reg.HV_CTRL; omega) (by unfold Reg.HV_CTRL; omega) (regAt_HV_CTRL h hh) ?_ hj
  rw [act_h0 (show pairLows.contains RegName.HV_CTRL = false by decide) (by unfold Reg.HV_CTRL; dsimp only; omega)]
  have hgo (w : Wr) (hw : w.d.name = .HV_CTRL) : w.h0 m = w.hvCtrl m := by simp only [Wr.h0, hw]
  rw [hgo _ rfl, Wr.hvCtrl, hcal, if_neg Bool.false_ne_true]
  simp only [Wr.b, Wr.g, Wr.i, List.getD_cons_zero, hen, hlim, hon]
  exact congrArg Except.ok ht

/-- An output within the budget switches on, where H0 lets outputs connect. -/
theorem hvEnable_fits (hoff : m.hvEnabled h = false) (hready : m.outputsReady = true)
    (hfit : m.clampSum h 8 + hvIclamp (m.hv h).w1 ≤ 800) :
    m.hvEnable h true = (m.wr (Reg.HV_CTRL h) Fields.HV_CTRL.EN 1).sumClamps := by
  rw [Mod.hvEnable, hoff, Mod.hvSwitch, hready]
  exact if_neg (Nat.not_lt.mpr hfit)

/-- One beyond the budget stays off. -/
theorem hvEnable_over (hoff : m.hvEnabled h = false) (hover : 800 < m.clampSum h 8 + hvIclamp (m.hv h).w1) :
    m.hvEnable h true = m.budgetEvent := by
  rw [Mod.hvEnable, hoff]
  exact if_pos hover

theorem hvEnable_off (hrc : (m.hv h).rc = none) :
    m.hvEnable h false = (m.wr (Reg.HV_CTRL h) Fields.HV_CTRL.EN 0).sumClamps := by
  have hstay : (m.wr (Reg.HV_CTRL h) Fields.HV_CTRL.EN 0).rcFinish h = m.wr (Reg.HV_CTRL h) Fields.HV_CTRL.EN 0 := by
    have hrc' : ((m.wr (Reg.HV_CTRL h) Fields.HV_CTRL.EN 0).hv h).rc = none := hrc
    rw [Mod.rcFinish, hrc']
  have hsw : m.hvEnable h false = m.hvSwitch h false := rfl
  rw [hsw, hvSwitch_off_eq, hstay]

/-- The words that EN and the sum of clamps show in. -/
theorem wordsOnly_enSummed (h v : Nat) (m : Mod) : WordsOnly [Reg.HV_CTRL h, Reg.PWR_HV_MON] m
    ((m.limitOffKept h).wr (Reg.HV_CTRL h) Fields.HV_CTRL.EN v).sumClamps :=
  ((((wordsOnly_limitOffKept h m).mono (by simp)).wr _ _ _ (by simp)).trans ((wordsOnly_sumClamps _).mono (by simp)))

theorem hvEnabled_sumClamps (h : Nat) (m : Mod) : m.sumClamps.hvEnabled h = m.hvEnabled h :=
  (wordsOnly_sumClamps m).flag (by simpa using hvCtrl_ne_hvMon h) _

theorem slStatus_notMem_hvCtrl (hh : h < 32) : Reg.SL_STATUS ∉ [Reg.HV_CTRL h, Reg.PWR_HV_MON] := by
  simp only [List.mem_cons, List.not_mem_nil, or_false, Reg.SL_STATUS, Reg.HV_CTRL, Reg.PWR_HV_MON]
  omega

end

theorem answers_hvEnableWrite_on (s : State) (init : Init) (h : Nat) (hs : s.m.serving = true) (hj : s.m.journalOn = false)
    (hi : init.wf = true) (hh : h < 32) (hcal : s.m.calScoped 2 = false) (hready : s.m.outputsReady = true)
    (hoff : s.m.hvEnabled h = false) (hfit : s.m.clampSum h 8 + hvIclamp (s.m.hv h).w1 ≤ 800) :
    Answers (.hvEnableWrite init h true) s (fun t => t.hvEnabled h = true ∧ t.hvs = s.m.hvs ∧ t.outs = s.m.outs ∧
      SameMemory s.m t ∧ SameRegs [Reg.HV_CTRL h, Reg.PWR_HV_MON] s.m t) := by
  have hk := wordsOnly_enSummed h 1 s.m
  have ht := hvEnable_fits (m := s.m.limitOffKept h) ((hvEnabled_limitOffKept h s.m).trans hoff) hready
    (by rw [clampSum_limitOffKept]; exact hfit)
  exact answers_effect rfl (by simp [Wf.hvEnableWrite, hi, hh]) (s.m.serving_iff.mp hs).1
    (hvEnableWrite_eq hh hs hcal ht ((hk.journalOn (slStatus_notMem_hvCtrl hh)).trans hj))
    ⟨(hvEnabled_sumClamps h _).trans (Mod.flag_wr_one _ _ _ (by decide) rfl), rfl, hk.frame⟩

/-- HV_BUDGET is set, and else only posted. -/
theorem flag_budgetEvent (m : Mod) : m.budgetEvent.flag Reg.PWR_EVENT Fields.PWR_EVENT.HV_BUDGET = true := by
  unfold Mod.budgetEvent Mod.pwrEvent
  split
  · assumption
  · rw [(onlyPosts_dueAt _ _ _ (by decide)).flag _ List.not_mem_nil (by decide)]
    exact flag_raise _ _ _ _ _ _ _ _ (by decide) rfl (by decide) (by decide)

theorem answers_hvEnableWrite_over (s : State) (init : Init) (h : Nat) (hs : s.m.serving = true)
    (hj : s.m.journalOn = false) (hi : init.wf = true) (hh : h < 32) (hcal : s.m.calScoped 2 = false)
    (_ : s.m.outputsReady = true) (hoff : s.m.hvEnabled h = false)
    (hover : 800 < s.m.clampSum h 8 + hvIclamp (s.m.hv h).w1) :
    Answers (.hvEnableWrite init h true) s (fun t => t.hvEnabled h = false ∧
      t.flag Reg.PWR_EVENT Fields.PWR_EVENT.HV_BUDGET = true ∧ t.hvs = s.m.hvs ∧ SameMemory s.m t ∧
      SameRegsPost [Reg.PWR_EVENT] s.m t) := by
  have hkept := wordsOnly_limitOffKept h s.m
  have hoff' := (hvEnabled_limitOffKept h s.m).trans hoff
  have hw := hvEnableWrite_eq (i := init) hh hs hcal (hvEnable_over hoff' (by rw [clampSum_limitOffKept]; exact hover))
  have hposts : OnlyPosts [Reg.PWR_EVENT] (s.m.limitOffKept h) (s.m.limitOffKept h).budgetEvent := onlyPosts_pwrEvent _ _ _
  have hflag := flag_budgetEvent (s.m.limitOffKept h)
  have hjournal : (s.m.limitOffKept h).journalOn = false := (hkept.journalOn List.not_mem_nil).trans hj
  have hhvs : (s.m.limitOffKept h).hvs = s.m.hvs := rfl
  generalize s.m.limitOffKept h = m1 at *
  have hne : Reg.HV_CTRL h ∉ [Reg.PWR_EVENT] := by
    simp only [List.mem_singleton, Reg.HV_CTRL, Reg.PWR_EVENT]
    omega
  have hquiet : m1.budgetEvent.journalOn = false := by
    rw [← hjournal, Mod.journalOn, hposts.rd _ (by decide) (by decide), Mod.journalOn]
  have hhvs' : m1.budgetEvent.hvs = s.m.hvs := by rw [hposts.1]; exact hhvs
  have hregs : SameRegsPost [Reg.PWR_EVENT] s.m m1 := (hkept.regs.mono (by simp)).post
  exact answers_effect rfl (by simp [Wf.hvEnableWrite, hi, hh]) (s.m.serving_iff.mp hs).1
    (hw hquiet)
    ⟨(hposts.flag _ hne (postWord_hvCtrl hh)).trans hoff', hflag, hhvs', hkept.memory.trans hposts.memory,
      hregs.trans hposts.2⟩

theorem answers_hvEnableWrite_off (s : State) (init : Init) (h : Nat) (hs : s.m.serving = true) (hj : s.m.journalOn = false)
    (hi : init.wf = true) (hh : h < 32) (hcal : s.m.calScoped 2 = false) (hrc : (s.m.hv h).rc = none) :
    Answers (.hvEnableWrite init h false) s (fun t => t.hvEnabled h = false ∧ t.hvs = s.m.hvs ∧ t.outs = s.m.outs ∧
      SameMemory s.m t ∧ SameRegs [Reg.HV_CTRL h, Reg.PWR_HV_MON] s.m t) := by
  have hk := wordsOnly_enSummed h 0 s.m
  exact answers_effect rfl (by simp [Wf.hvEnableWrite, hi, hh]) (s.m.serving_iff.mp hs).1
    (hvEnableWrite_eq hh hs hcal (hvEnable_off hrc) ((hk.journalOn (slStatus_notMem_hvCtrl hh)).trans hj))
    ⟨(hvEnabled_sumClamps h _).trans (Mod.flag_wr_zero _ _ _ (by decide)), rfl, hk.frame⟩

/-- Settles O54, one lemma for each command and what its register makes of it. -/
theorem levelCommands : Obligations.LevelCommands :=
  ⟨answers_chLqcmd, answers_chLqcmd_full, answers_hvLqcmd, answers_relayLqcmd, answers_connWrite, answers_pmuOff,
    answers_hvEnableWrite_on, answers_hvEnableWrite_over, answers_hvEnableWrite_off⟩

end Sys2Proof.Machine
end

section
/-!
PROOF. Due entries of level queues, range changes and measurements (R241, R249, R254, R255, R257, R261, R287), and O35.
-/

namespace Sys2Proof.Machine

/-! ### A sample edge at a level queue (R246, R249) -/

/-- Queue `q` has seen the sample edge of this instant. -/
def Mod.edgeSeen (q : Nat) (m : Mod) : Mod := m.setLq q { m.lq q with lastEdge := m.ttime / 1000 }

/-- Its one entry is taken out at that edge. -/
def Mod.entryTaken (q : Nat) (m : Mod) : Mod := (m.edgeSeen q).putLq q ⟨[], m.ttime / 1000⟩

section
variable {m : Mod} {q : Nat}

theorem lq_edgeSeen (q : Nat) (m : Mod) : (m.edgeSeen q).lq q = { m.lq q with lastEdge := m.ttime / 1000 } :=
  Mod.lq_setLq_self m q _

theorem lq_entryTaken (q : Nat) (m : Mod) : (m.entryTaken q).lq q = ⟨[], m.ttime / 1000⟩ := lq_putLq_self _ q _

theorem wordsOnly_entryTaken (q : Nat) (m : Mod) : WordsOnly [lqReg q] m (m.entryTaken q) :=
  ((silent_setLq m q _).wordsOnly).trans (wordsOnly_putLq _ q _)

/-- A queue is held by the range changes of its channels alone (R261). -/
theorem lqHeld_eq_false_iff (hq : 16 ≤ q) (hlt : q < 20) :
    m.lqHeld q = false ↔ ∀ i < 8, (m.hv (8 * (q - 16) + i)).rc = none := by
  rw [Mod.lqHeld, decide_eq_true hq, decide_eq_true hlt, Bool.true_and, Bool.true_and, List.any_eq_false]
  simp

/-- The queues of the pin dies and of the relays are never held. -/
theorem lqHeld_outside (h : ¬ (16 ≤ q ∧ q < 20)) : m.lqHeld q = false := by
  have hno : (decide (16 ≤ q) && decide (q < 20)) = false := by simpa using h
  rw [Mod.lqHeld, hno, Bool.false_and]

/-- Where no range change holds the queue, none ends at its edge. -/
theorem rcsDue_notHeld (hheld : m.lqHeld q = false) : m.rcsDue q = m := by
  unfold Mod.rcsDue
  by_cases hhv : 16 ≤ q ∧ q < 20
  · obtain ⟨hq, hlt⟩ := hhv
    rw [decide_eq_true hq, decide_eq_true hlt, Bool.and_true, Mod.when_true]
    refine Mod.each_keeps m (· = m) _ _ (fun k hk x hx => ?_) rfl
    obtain ⟨i, hi, rfl⟩ := List.mem_map.mp hk
    subst hx
    rw [(lqHeld_eq_false_iff hq hlt).mp hheld i (List.mem_range.mp hi), Option.isSome_none, Bool.false_and, Mod.when_false]
  · have hno : (decide (16 ≤ q) && decide (q < 20)) = false := by simpa using hhv
    rw [hno, Mod.when_false]

/-- A queue without entries applies none. -/
theorem applyDue_empty (edge n : Nat) (he : (m.lq q).entries = []) : m.applyDue q edge n = m := by
  cases n with
  | zero => rfl
  | succ n =>
    rw [Mod.applyDue]
    dsimp only
    rw [he]
    exact ite_self _

theorem markHeld_notHeld (edge : Nat) (hheld : m.lqHeld q = false) : m.markHeld q edge = m := by
  rw [Mod.markHeld, hheld]
  rfl

/-- At a sample edge a queue whose range changes are over, with one due entry, applies it. -/
theorem lqApply_one {e : LqEntry} {t : Mod} (h0 : m.ttime ≠ 0) (h1 : m.ttime % 1000 = 0)
    (hlast : (m.lq q).lastEdge ≠ m.ttime / 1000) (hl : m.isLost (lqDie q) = false) (hheld : m.lqHeld q = false)
    (hone : (m.lq q).entries = [e]) (hdue : e.due ≤ m.ttime / 1000)
    (ht : (m.entryTaken q).applyEntry q (m.ttime / 1000) e = t) (hempty : (t.lq q).entries = [])
    (hfree : t.lqHeld q = false) : m.lqApply q = t := by
  have hgo : ¬ (m.ttime = 0 ∨ m.ttime % 1000 ≠ 0 ∨ (m.lq q).lastEdge = m.ttime / 1000 ∨ m.isLost (lqDie q) = true) := by
    simp [h0, h1, hlast, hl]
  have hseen : (m.edgeSeen q).lqHeld q = false := hheld
  have hfirst : (m.edgeSeen q).applyDue q (m.ttime / 1000) 4 = t.applyDue q (m.ttime / 1000) 3 := by
    rw [Mod.applyDue, hseen, if_neg Bool.false_ne_true, lq_edgeSeen]
    dsimp only
    rw [hone, List.find?_cons, decide_eq_true hdue]
    dsimp only
    rw [List.erase_cons_head, ← ht, Mod.entryTaken]
  have happly : m.lqApply q = (((m.edgeSeen q).rcsDue q).applyDue q (m.ttime / 1000) 4).markHeld q (m.ttime / 1000) := by
    rw [Mod.lqApply]
    exact if_neg hgo
  rw [happly, rcsDue_notHeld hseen, hfirst, applyDue_empty _ _ hempty, markHeld_notHeld _ hfree]

/-- A queue without entries or range changes at most sees the edge. -/
theorem lqApply_empty (hheld : m.lqHeld q = false) (he : (m.lq q).entries = []) :
    Silent m (m.lqApply q) ∧ (m.lqApply q).hvs = m.hvs := by
  have hseen : (m.edgeSeen q).lqHeld q = false := hheld
  have hnone : ((m.edgeSeen q).lq q).entries = [] := by rw [lq_edgeSeen]; exact he
  have hrest : (((m.edgeSeen q).rcsDue q).applyDue q (m.ttime / 1000) 4).markHeld q (m.ttime / 1000) = m.edgeSeen q := by
    rw [rcsDue_notHeld hseen, applyDue_empty _ _ hnone, markHeld_notHeld _ hseen]
  unfold Mod.lqApply
  dsimp only
  split
  · exact ⟨.refl m, rfl⟩
  · exact hrest ▸ ⟨silent_setLq m q _, rfl⟩

end

/-- What every other step of a repetition leaves alone comes from the one step of `n`. -/
theorem Mod.each_own_mem {α : Type} (own : Mod → α) (f : Nat → Mod → Mod) {l : List Nat} {n : Nat}
    (hother : ∀ k ∈ l, n ≠ k → ∀ x, own (f k x) = own x) (hd : l.Nodup) (hn : n ∈ l) (m : Mod) :
    ∃ x, own x = own m ∧ own (m.each l f) = own (f n x) := by
  obtain ⟨before, after, rfl⟩ := List.append_of_mem hn
  have hnot : n ∉ before ++ after := (List.nodup_cons.mp (List.nodup_middle.mp hd)).1
  refine ⟨m.each before f, ?_, ?_⟩
  · refine Mod.each_keeps m (fun x => own x = own m) before f (fun k hk x hx => ?_) rfl
    exact (hother k (by simp [hk]) (fun e => hnot (by simp [e, hk])) x).trans hx
  · rw [Mod.each, List.foldl_append]
    refine Mod.each_keeps _ (fun x => own x = own (f n (m.each before f))) after f (fun k hk x hx => ?_) rfl
    exact (hother k (by simp [hk]) (fun e => hnot (by simp [e, hk])) x).trans hx

/-! ### Level sets of channels of the pin dies (R240, R241) -/

/-- The codes that a level set loads into the six DACs of a channel, corrected (R241, R338). -/
def Mod.levelCodes (ch set : Nat) (m : Mod) : List Int :=
  (List.range 6).map (fun k => levelCorr (m.reg (Reg.CH_LCAL (ch / 128) (ch % 128) k)) 0x8000 0x300 0xFD00
    (lvCode (nbits (m.reg (lvOff ch set (k / 2))).toNat (16 * (k % 2)) 16)))

/-- Words of status are neither set words nor corrections of levels. -/
theorem levelCodes_wordsOnly {l : List Nat} {a b : Mod} (h : WordsOnly l a b)
    (hl : ∀ o ∈ l, o < 0x4000000 ∧ o % 0x100 < 0x80) (ch set : Nat) : b.levelCodes ch set = a.levelCodes ch set := by
  refine List.map_congr_left fun k hk => ?_
  have hk6 : k < 6 := List.mem_range.mp hk
  have hcal : Reg.CH_LCAL (ch / 128) (ch % 128) k ∉ l := fun hm => by
    have hlow := (hl _ hm).2
    unfold Reg.CH_LCAL at hlow
    omega
  have hset : lvOff ch set (k / 2) ∉ l := fun hm => by
    have hhigh := (hl _ hm).1
    unfold lvOff at hhigh
    omega
  rw [h.regs _ hcal, h.regs _ hset]

theorem lqReg_status {q : Nat} (hq : q < 21) : lqReg q < 0x4000000 ∧ lqReg q % 0x100 < 0x80 := by
  unfold lqReg Reg.CH_LQ_STATUS Reg.HV_LQ_STATUS
  split <;> omega

theorem chLstat_status {ch : Nat} (h : ch < 256) :
    chReg Reg.CH_LSTAT ch < 0x4000000 ∧ chReg Reg.CH_LSTAT ch % 0x100 < 0x80 := by
  unfold chReg Reg.CH_LSTAT
  omega

theorem chLstat_injective {j k : Nat} (h : chReg Reg.CH_LSTAT j = chReg Reg.CH_LSTAT k) : j = k := by
  unfold chReg Reg.CH_LSTAT at h
  omega

section
variable (ch set edge : Nat) (m : Mod)

theorem wordsOnly_applyLv : WordsOnly [chReg Reg.CH_LSTAT ch] m (m.applyLv ch set edge) :=
  (((silent_setLv m ch _).wordsOnly).wr _ _ _ List.mem_cons_self).wr _ _ _ List.mem_cons_self

theorem codes_applyLv : ((m.applyLv ch set edge).lv ch).codes = m.levelCodes ch set :=
  congrArg LvLive.codes (Mod.lv_setLv_self m ch _)

theorem lv_applyLv_ne {j : Nat} (hj : j ≠ ch) : (m.applyLv ch set edge).lv j = m.lv j := Mod.lv_setLv_ne m ch j _ hj

theorem set_applyLv : (m.applyLv ch set edge).rd (chReg Reg.CH_LSTAT ch) Fields.CH_LSTAT.SET = set % 256 :=
  (Mod.rd_wr_field _ _ _ _ _ (by decide)).trans (Mod.rd_wr_self _ _ _ _ (by decide))

theorem applied_applyLv : (m.applyLv ch set edge).flag (chReg Reg.CH_LSTAT ch) Fields.CH_LSTAT.APPLIED = true :=
  Mod.flag_wr_one _ _ _ (by decide) rfl

end

/-- Level set `set` is applied at the channels of queue `q` that `mask` names. -/
def Mod.applyLvs (q set mask edge : Nat) (m : Mod) : Mod :=
  m.each (allBelow 16 (fun i => nbit mask i)) (fun i s => s.applyLv (16 * q + i) set edge)

/-- An entry of a pin die's queue that is not late applies its set at its channels. -/
theorem applyEntry_lv (q set mask edge : Nat) (port : Option Nat) (m : Mod) :
    m.applyEntry q edge ⟨.lv set mask, edge, false, none, port⟩ = m.applyLvs q set mask edge := by
  have hlate : (decide (edge < edge) || false) = false := by simp
  unfold Mod.applyEntry
  dsimp only
  rw [hlate]
  rfl

section
variable {q set mask edge : Nat}

theorem mem_masked {i : Nat} (hi : i < 16) (hm : nbit mask i = true) : i ∈ allBelow 16 (fun i => nbit mask i) :=
  List.mem_filter.mpr ⟨List.mem_range.mpr hi, hm⟩

theorem lt_of_masked {i : Nat} (h : i ∈ allBelow 16 (fun i => nbit mask i)) : i < 16 :=
  List.mem_range.mp (List.mem_filter.mp h).1

theorem wordsOnly_applyLvs (m : Mod) : WordsOnly ((List.range 16).map (fun i => chReg Reg.CH_LSTAT (16 * q + i))) m
    (m.applyLvs q set mask edge) :=
  .each _ _ m fun i hi x => (wordsOnly_applyLv (16 * q + i) set edge x).mono fun o ho => by
    rw [List.mem_singleton.mp ho]
    exact List.mem_map.mpr ⟨i, List.mem_range.mpr (lt_of_masked hi), rfl⟩

theorem lqs_applyLvs (m : Mod) : (m.applyLvs q set mask edge).lqs = m.lqs :=
  Mod.each_keeps m (fun x => x.lqs = m.lqs) _ _ (fun _ _ _ hx => hx) rfl

/-- A channel that the mask leaves out keeps its levels. -/
theorem lv_applyLvs_unmasked {i : Nat} (m : Mod) (hi : nbit mask i = false) :
    (m.applyLvs q set mask edge).lv (16 * q + i) = m.lv (16 * q + i) := by
  refine Mod.each_keeps m (fun x => x.lv (16 * q + i) = m.lv (16 * q + i)) _ _ (fun k hk x hx => ?_) rfl
  have hne : 16 * q + i ≠ 16 * q + k := fun he => by
    obtain rfl : i = k := by omega
    exact Bool.false_ne_true (hi.symm.trans (List.mem_filter.mp hk).2)
  exact (lv_applyLv_ne _ set edge x hne).trans hx

/-- What the application of a set at a channel reads and writes. -/
def Mod.levelSide (ch set : Nat) (m : Mod) : LvLive × Word × List Int :=
  (m.lv ch, m.reg (chReg Reg.CH_LSTAT ch), m.levelCodes ch set)

theorem levelSide_applyLv_ne {ch j : Nat} (m : Mod) (hc : ch < 256) (hne : j ≠ ch) :
    (m.applyLv ch set edge).levelSide j set = m.levelSide j set := by
  have hk := wordsOnly_applyLv ch set edge m
  have hreg : chReg Reg.CH_LSTAT j ∉ [chReg Reg.CH_LSTAT ch] := fun hm =>
    hne (chLstat_injective (List.mem_singleton.mp hm))
  have hcodes := levelCodes_wordsOnly hk (fun o ho => by rw [List.mem_singleton.mp ho]; exact chLstat_status hc) j set
  rw [Mod.levelSide, lv_applyLv_ne ch set edge m hne, hk.regs _ hreg, hcodes, Mod.levelSide]

/-- A channel that the mask names shows the set and converts its codes. -/
theorem applied_applyLvs {i : Nat} (m : Mod) (hq : q < 16) (hi : i < 16) (hm : nbit mask i = true) :
    (m.applyLvs q set mask edge).rd (chReg Reg.CH_LSTAT (16 * q + i)) Fields.CH_LSTAT.SET = set % 256 ∧
    (m.applyLvs q set mask edge).flag (chReg Reg.CH_LSTAT (16 * q + i)) Fields.CH_LSTAT.APPLIED = true ∧
    ((m.applyLvs q set mask edge).lv (16 * q + i)).codes = m.levelCodes (16 * q + i) set := by
  obtain ⟨x, hx, hside⟩ := Mod.each_own_mem (Mod.levelSide (16 * q + i) set) (fun i s => s.applyLv (16 * q + i) set edge)
    (fun k hk hne y => levelSide_applyLv_ne y (by have := lt_of_masked hk; omega) (by omega))
    (List.nodup_range.filter _) (mem_masked hi hm) m
  have hlive : (m.applyLvs q set mask edge).lv (16 * q + i) = (x.applyLv (16 * q + i) set edge).lv (16 * q + i) :=
    congrArg Prod.fst hside
  have hword : (m.applyLvs q set mask edge).reg (chReg Reg.CH_LSTAT (16 * q + i)) =
    (x.applyLv (16 * q + i) set edge).reg (chReg Reg.CH_LSTAT (16 * q + i)) := congrArg (·.2.1) hside
  have hcodes : x.levelCodes (16 * q + i) set = m.levelCodes (16 * q + i) set := congrArg (·.2.2) hx
  refine ⟨?_, ?_, ?_⟩
  · rw [Mod.rd, hword]
    exact set_applyLv _ set edge x
  · rw [Mod.flag, Mod.rd, hword]
    exact applied_applyLv _ set edge x
  · rw [hlive, codes_applyLv, hcodes]

end

theorem answers_levelQueueApply_lv (s : State) (q set mask due : Nat) (port : Option Nat) (hq : q < 16) (hset : set < 256)
    (h0 : s.m.ttime ≠ 0) (h1 : s.m.ttime % 1000 = 0) (hlast : (s.m.lq q).lastEdge ≠ s.m.ttime / 1000)
    (hl : s.m.isLost (lqDie q) = false) (hone : (s.m.lq q).entries = [⟨.lv set mask, due, false, none, port⟩])
    (hdue : due = s.m.ttime / 1000) :
    Answers (.levelQueueApply q) s (fun t => (t.lq q).entries = [] ∧ (t.lq q).lastEdge = s.m.ttime / 1000 ∧
      (∀ i : Nat, i < 16 → nbit mask i = true → t.rd (chReg Reg.CH_LSTAT (16 * q + i)) Fields.CH_LSTAT.SET = set ∧
        t.flag (chReg Reg.CH_LSTAT (16 * q + i)) Fields.CH_LSTAT.APPLIED = true ∧
        (t.lv (16 * q + i)).codes = (List.range 6).map (fun k => levelCorr (s.m.reg (Reg.CH_LCAL ((16 * q + i) / 128)
          ((16 * q + i) % 128) k)) 0x8000 0x300 0xFD00 (lvCode (nbits (s.m.reg (lvOff (16 * q + i) set (k / 2))).toNat
          (16 * (k % 2)) 16)))) ∧
      (∀ i : Nat, i < 16 → nbit mask i = false → t.lv (16 * q + i) = s.m.lv (16 * q + i)) ∧ t.outs = s.m.outs ∧
      SameMemory s.m t ∧ SameRegs (lqReg q :: (List.range 16).map (fun i => chReg Reg.CH_LSTAT (16 * q + i))) s.m t) := by
  subst hdue
  have hlq : ((s.m.entryTaken q).applyLvs q set mask (s.m.ttime / 1000)).lq q = ⟨[], s.m.ttime / 1000⟩ := by
    rw [Mod.lq, lqs_applyLvs]
    exact lq_entryTaken q s.m
  have ht := lqApply_one h0 h1 hlast hl (lqHeld_outside (by omega)) hone (Nat.le_refl _)
    (applyEntry_lv q set mask (s.m.ttime / 1000) port (s.m.entryTaken q)) (by rw [hlq]) (lqHeld_outside (by omega))
  have htaken := wordsOnly_entryTaken q s.m
  have hcodes (i : Nat) : (s.m.entryTaken q).levelCodes (16 * q + i) set = s.m.levelCodes (16 * q + i) set :=
    levelCodes_wordsOnly htaken (fun o ho => by rw [List.mem_singleton.mp ho]; exact lqReg_status (by omega)) _ set
  have hframe : WordsOnly (lqReg q :: (List.range 16).map (fun i => chReg Reg.CH_LSTAT (16 * q + i))) s.m
      ((s.m.entryTaken q).applyLvs q set mask (s.m.ttime / 1000)) :=
    (htaken.mono (by simp)).trans ((wordsOnly_applyLvs _).mono fun _ ho => List.mem_cons_of_mem _ ho)
  refine answers_effect_always rfl (decide_eq_true (by omega)) ht ⟨by rw [hlq], by rw [hlq], fun i hi hm => ?_,
    fun i _ hm => lv_applyLvs_unmasked _ hm, hframe.frame⟩
  obtain ⟨hshow, happlied, hconv⟩ := applied_applyLvs (edge := s.m.ttime / 1000) (set := set) (s.m.entryTaken q) hq hi hm
  exact ⟨hshow.trans (Nat.mod_eq_of_lt hset), happlied, hconv.trans (hcodes i)⟩

/-! ### HV sets (R257, R259 to R261) -/

/-- HVn_STATE shows MODE, ranges and clamp of the live words (R257). -/
structure HvShown (h : Nat) (x : HvLive) (t : Mod) : Prop where
  mode : t.rd (Reg.HV_STATE h) Fields.HV_STATE.MODE = hvMode x.w0
  vrange : t.rd (Reg.HV_STATE h) Fields.HV_STATE.VRANGE = hvVrange x.w0
  irange : t.rd (Reg.HV_STATE h) Fields.HV_STATE.IRANGE = hvIrange x.w0
  iclamp : t.rd (Reg.HV_STATE h) Fields.HV_STATE.ICLAMP = hvIclamp x.w1

theorem hvMode_lt (w : Word) : hvMode w < 8 := by
  have hlt : fget Fields.HV_SETDATA0.MODE w < 8 := fget_lt _ w
  unfold hvMode
  dsimp only
  split <;> omega

theorem hvVrange_lt (w : Word) : hvVrange w < 4 := by unfold hvVrange; omega
theorem hvIrange_lt (w : Word) : hvIrange w < 8 := by unfold hvIrange; omega
theorem hvIclamp_lt (w : Word) : hvIclamp w < 256 := by unfold hvIclamp; omega

section
variable (h : Nat) (m : Mod)

theorem hvShown_showHv : HvShown h (m.hv h) (m.showHv h true) := by
  refine ⟨?_, ?_, ?_, ?_⟩
  · exact (Mod.rd_wr_field _ _ _ _ _ (by decide)).trans <| (Mod.rd_wr_field _ _ _ _ _ (by decide)).trans <|
      (Mod.rd_wr_field _ _ _ _ _ (by decide)).trans <| (Mod.rd_wr_self _ _ _ _ (by decide)).trans <|
      Nat.mod_eq_of_lt (hvMode_lt _)
  · exact (Mod.rd_wr_field _ _ _ _ _ (by decide)).trans <| (Mod.rd_wr_self _ _ _ _ (by decide)).trans <|
      Nat.mod_eq_of_lt (hvVrange_lt _)
  · exact (Mod.rd_wr_self _ _ _ _ (by decide)).trans (Nat.mod_eq_of_lt (hvIrange_lt _))
  · exact (Mod.rd_wr_field _ _ _ _ _ (by decide)).trans <| (Mod.rd_wr_field _ _ _ _ _ (by decide)).trans <|
      (Mod.rd_wr_self _ _ _ _ (by decide)).trans <| Nat.mod_eq_of_lt (hvIclamp_lt _)

/-- SET, APPLIED and the event bits of HVn_STATE lie between those fields. -/
theorem rd_showHv_apart (f : Fld) (hlo : 8 ≤ f.lo) (hhi : f.lo + f.width ≤ 24) :
    (m.showHv h true).rd (Reg.HV_STATE h) f = m.rd (Reg.HV_STATE h) f := by
  have hlow (x : Mod) (g : Fld) (v : Nat) (hg : g.lo + g.width ≤ 8) :
      (x.wr (Reg.HV_STATE h) g v).rd (Reg.HV_STATE h) f = x.rd (Reg.HV_STATE h) f :=
    Mod.rd_wr_field _ _ _ _ _ (.inr (hg.trans hlo))
  exact (hlow _ Fields.HV_STATE.IRANGE _ (by decide)).trans <| (hlow _ Fields.HV_STATE.VRANGE _ (by decide)).trans <|
    (Mod.rd_wr_field _ _ _ Fields.HV_STATE.ICLAMP _ (.inl hhi)).trans (hlow _ Fields.HV_STATE.MODE _ (by decide))

theorem wordsOnly_showHv : WordsOnly [Reg.HV_STATE h] m (m.showHv h true) := by
  have hw (x : Mod) (f : Fld) (v : Nat) : WordsOnly [Reg.HV_STATE h] x (x.wr (Reg.HV_STATE h) f v) :=
    (WordsOnly.refl _ x).wr _ _ _ List.mem_cons_self
  exact (((hw _ _ _).trans (hw _ _ _)).trans (hw _ _ _)).trans (hw _ _ _)

theorem hvState_ne_hvMon : Reg.HV_STATE h ≠ Reg.PWR_HV_MON := by unfold Reg.HV_STATE Reg.PWR_HV_MON; omega

end

/-- HVn_STATE names the set that came. -/
def Mod.hvNoted (h set : Nat) (m : Mod) : Mod :=
  (m.wr (Reg.HV_STATE h) Fields.HV_STATE.SET set).wr (Reg.HV_STATE h) Fields.HV_STATE.APPLIED 1

/-- A set is live at a channel that stays as it is switched, with the channel's status and the sum of clamps (R257). -/
def Mod.hvTakes (h set : Nat) (a b c d : Word) (m : Mod) : Mod :=
  (((m.hvNoted h set).setHv h { m.hv h with
    w0 := a, w1 := b, w2 := c, w3 := d, rc := none, dac := (m.hvNoted h set).hvDac h a b }).showHv h true).sumClamps

section
variable {h set : Nat} {a b c d : Word} {m : Mod}

/-- A set without OUT reaches a channel that is disabled (R259). -/
theorem applyHv_disabled (edge : Nat) (hout : fget Fields.HV_SETDATA1.OUT b = 0) (hoff : m.hvEnabled h = false) :
    m.applyHv h edge (a, b, c, d) (some set) none = (false, false, m.hvTakes h set a b c d) := by
  unfold Mod.applyHv
  dsimp only
  rw [hout, hoff]
  rfl

theorem hv_shown (j : Nat) (x : Mod) : (x.showHv h true).sumClamps.hv j = x.hv j := rfl

theorem lq_shown (q : Nat) (x : Mod) : (x.showHv h true).sumClamps.lq q = x.lq q := rfl

theorem lq_hvTakes (q : Nat) : (m.hvTakes h set a b c d).lq q = m.lq q := by
  rw [Mod.hvTakes, lq_shown]
  rfl

theorem hv_hvTakes_self : (m.hvTakes h set a b c d).hv h = { m.hv h with
    w0 := a, w1 := b, w2 := c, w3 := d, rc := none, dac := (m.hvNoted h set).hvDac h a b } := by
  rw [Mod.hvTakes, hv_shown, Mod.hv_setHv_self]

theorem hv_hvTakes_ne {j : Nat} (hj : j ≠ h) : (m.hvTakes h set a b c d).hv j = m.hv j := by
  rw [Mod.hvTakes, hv_shown, Mod.hv_setHv_ne _ _ _ _ hj]
  rfl

theorem wordsOnly_hvTakes : WordsOnly [Reg.HV_STATE h, Reg.PWR_HV_MON] m (m.hvTakes h set a b c d) := by
  have hset : WordsOnly [Reg.HV_STATE h, Reg.PWR_HV_MON] m (m.hvNoted h set) :=
    ((WordsOnly.refl _ m).wr _ _ _ (by simp)).wr _ _ _ (by simp)
  exact ((hset.silent (silent_setHv _ h _)).trans ((wordsOnly_showHv h _).mono (by simp))).trans
    ((wordsOnly_sumClamps _).mono (by simp))

/-- The sum of clamps is no part of HVn_STATE. -/
theorem rd_hvState_sumClamps (f : Fld) : m.sumClamps.rd (Reg.HV_STATE h) f = m.rd (Reg.HV_STATE h) f :=
  (wordsOnly_sumClamps m).rd (by simpa using hvState_ne_hvMon h) f

theorem hvShown_hvTakes : HvShown h ((m.hvTakes h set a b c d).hv h) (m.hvTakes h set a b c d) := by
  rw [Mod.hvTakes, hv_shown]
  obtain ⟨hmode, hv, hi, hc⟩ := hvShown_showHv h ((m.hvNoted h set).setHv h { m.hv h with
    w0 := a, w1 := b, w2 := c, w3 := d, rc := none, dac := (m.hvNoted h set).hvDac h a b })
  exact ⟨(rd_hvState_sumClamps _).trans hmode, (rd_hvState_sumClamps _).trans hv, (rd_hvState_sumClamps _).trans hi,
    (rd_hvState_sumClamps _).trans hc⟩

theorem set_hvTakes : (m.hvTakes h set a b c d).rd (Reg.HV_STATE h) Fields.HV_STATE.SET = set % 256 :=
  (rd_hvState_sumClamps _).trans <| (rd_showHv_apart h _ _ (by decide) (by decide)).trans <|
    (Mod.rd_wr_field _ _ _ _ _ (by decide)).trans (Mod.rd_wr_self _ _ _ _ (by decide))

theorem applied_hvTakes : (m.hvTakes h set a b c d).flag (Reg.HV_STATE h) Fields.HV_STATE.APPLIED = true := by
  have hone : (m.hvTakes h set a b c d).rd (Reg.HV_STATE h) Fields.HV_STATE.APPLIED = 1 :=
    (rd_hvState_sumClamps _).trans <| (rd_showHv_apart h _ _ (by decide) (by decide)).trans
      (Mod.rd_wr_self _ _ _ _ (by decide))
  rw [Mod.flag, hone]
  rfl

theorem hvEnabled_hvTakes : (m.hvTakes h set a b c d).hvEnabled h = m.hvEnabled h :=
  wordsOnly_hvTakes.flag (by simp [hvCtrl_ne_hvMon, (hvState_ne_hvCtrl h h).symm]) _

/-- The range change that held the channel, if any, is over, so its queue is as free as the other channels leave it. -/
theorem lqHeld_hvTakes {q : Nat} (hq : 16 ≤ q) (hlt : q < 20) (hheld : m.lqHeld q = false) :
    (m.hvTakes h set a b c d).lqHeld q = false := by
  refine (lqHeld_eq_false_iff hq hlt).mpr fun i hi => ?_
  by_cases he : 8 * (q - 16) + i = h
  · rw [he, hv_hvTakes_self]
  · rw [hv_hvTakes_ne he]
    exact (lqHeld_eq_false_iff hq hlt).mp hheld i hi

end

/-! ### An entry of a queue of H0 that names one channel -/

/-- LATE of queue `q` is set where its entry is late (R249). -/
def Mod.lateMarked (q : Nat) (late : Bool) (m : Mod) : Mod := m.when late (Mod.mark (lqReg q) Fields.CH_LQ_STATUS.LATE)

/-- Queue `q` as its one entry, due at `due`, is applied. -/
def Mod.lateTaken (q due : Nat) (m : Mod) : Mod := (m.entryTaken q).lateMarked q (decide (due < m.ttime / 1000))

section
variable {q h set due edge : Nat} {m : Mod}

theorem wordsOnly_lateMarked (late : Bool) : WordsOnly [lqReg q] m (m.lateMarked q late) := by
  cases late with
  | false => exact .refl _ m
  | true => exact wordsOnly_mark _ _ m

theorem lq_lateMarked (late : Bool) : (m.lateMarked q late).lq q = m.lq q := by cases late <;> rfl

theorem lqHeld_lateMarked (late : Bool) : (m.lateMarked q late).lqHeld q = m.lqHeld q := by cases late <;> rfl

theorem wordsOnly_lateTaken : WordsOnly [lqReg q] m (m.lateTaken q due) :=
  (wordsOnly_entryTaken q m).trans (wordsOnly_lateMarked _)

theorem lq_lateTaken : (m.lateTaken q due).lq q = ⟨[], m.ttime / 1000⟩ := by
  rw [Mod.lateTaken, lq_lateMarked, lq_entryTaken]

theorem lqHeld_lateTaken : (m.lateTaken q due).lqHeld q = m.lqHeld q := lqHeld_lateMarked _

theorem allBelow_bit : ∀ i < 8, allBelow 8 (fun k => nbit (2 ^ i) k) = [i] := by decide

/-- An entry for channel `h` alone is applied there. -/
theorem applyEntry_hv (hh : h / 8 = q - 16) :
    m.applyEntry q edge ⟨.hv set (2 ^ (h % 8)), due, false, none, none⟩ =
      ((m.lateMarked q (decide (due < edge))).applyHv h edge ((m.lateMarked q (decide (due < edge))).hvSet h set)
        (some set) none).2.2 := by
  have hchan : 8 * (q - 16) + h % 8 = h := by omega
  unfold Mod.applyEntry
  dsimp only
  rw [allBelow_bit _ (Nat.mod_lt h (by decide)), Bool.or_false, Mod.each, List.foldl_cons, List.foldl_nil, hchan]
  rfl

theorem hvOff_notStatus {k : Nat} (hq : q < 21) : hvOff h set k ∉ [lqReg q] := fun hm => by
  have hlow := (lqReg_status hq).1
  rw [← List.mem_singleton.mp hm] at hlow
  unfold hvOff at hlow
  omega

theorem hvSet_wordsOnly {t : Mod} (hq : q < 21) (hk : WordsOnly [lqReg q] m t) : t.hvSet h set = m.hvSet h set := by
  simp only [Mod.hvSet, hk.regs _ (hvOff_notStatus hq)]

theorem hvCtrl_notStatus (hh : h < 32) (hq : 16 ≤ q) : Reg.HV_CTRL h ∉ [lqReg q] := by
  rw [List.mem_singleton]
  unfold lqReg Reg.HV_CTRL Reg.HV_LQ_STATUS
  rw [if_neg (by omega)]
  omega

end

theorem answers_levelQueueApply_hv (s : State) (q h set due : Nat) (hq : 16 ≤ q) (hlt : q < 20) (hset : set < 256)
    (h0 : s.m.ttime ≠ 0) (h1 : s.m.ttime % 1000 = 0) (hlast : (s.m.lq q).lastEdge ≠ s.m.ttime / 1000)
    (hl : s.m.isLost 3 = false) (hheld : s.m.lqHeld q = false) (hh : h / 8 = q - 16) (hlt32 : h < 32)
    (hone : (s.m.lq q).entries = [⟨.hv set (2 ^ (h % 8)), due, false, none, none⟩]) (hdue : due ≤ s.m.ttime / 1000)
    (hout : fget Fields.HV_SETDATA1.OUT (s.m.reg (hvOff h set 1)) = 0) (hoff : s.m.hvEnabled h = false) :
    Answers (.levelQueueApply q) s (fun t => (t.lq q).entries = [] ∧ (t.hv h).w0 = s.m.reg (hvOff h set 0) ∧
      (t.hv h).w1 = s.m.reg (hvOff h set 1) ∧ (t.hv h).w2 = s.m.reg (hvOff h set 2) ∧
      (t.hv h).w3 = s.m.reg (hvOff h set 3) ∧ (t.hv h).rc = none ∧ t.rd (Reg.HV_STATE h) Fields.HV_STATE.SET = set ∧
      t.flag (Reg.HV_STATE h) Fields.HV_STATE.APPLIED = true ∧
      t.rd (Reg.HV_STATE h) Fields.HV_STATE.MODE = hvMode (s.m.reg (hvOff h set 0)) ∧
      t.rd (Reg.HV_STATE h) Fields.HV_STATE.VRANGE = hvVrange (s.m.reg (hvOff h set 0)) ∧
      t.rd (Reg.HV_STATE h) Fields.HV_STATE.IRANGE = hvIrange (s.m.reg (hvOff h set 0)) ∧
      t.rd (Reg.HV_STATE h) Fields.HV_STATE.ICLAMP = hvIclamp (s.m.reg (hvOff h set 1)) ∧ t.hvEnabled h = false ∧
      t.outs = s.m.outs ∧ SameMemory s.m t ∧ SameRegs [lqReg q, Reg.HV_STATE h, Reg.PWR_HV_MON] s.m t) := by
  have hdie : lqDie q = 3 := by rw [lqDie, if_neg (by omega), if_neg (by omega)]
  have hk := wordsOnly_lateTaken (q := q) (due := due) (m := s.m)
  have hstill : (s.m.lateTaken q due).hvEnabled h = false := (hk.flag (hvCtrl_notStatus hlt32 hq) _).trans hoff
  have happly : (s.m.entryTaken q).applyEntry q (s.m.ttime / 1000) ⟨.hv set (2 ^ (h % 8)), due, false, none, none⟩ =
      (s.m.lateTaken q due).hvTakes h set (s.m.reg (hvOff h set 0)) (s.m.reg (hvOff h set 1)) (s.m.reg (hvOff h set 2))
        (s.m.reg (hvOff h set 3)) := by
    rw [applyEntry_hv hh, ← Mod.lateTaken, hvSet_wordsOnly (by omega) hk]
    exact congrArg (·.2.2) (applyHv_disabled _ hout hstill)
  have hempty : (((s.m.lateTaken q due).hvTakes h set (s.m.reg (hvOff h set 0)) (s.m.reg (hvOff h set 1))
      (s.m.reg (hvOff h set 2)) (s.m.reg (hvOff h set 3))).lq q).entries = [] := by rw [lq_hvTakes, lq_lateTaken]
  have ht := lqApply_one h0 h1 hlast (hdie ▸ hl) hheld hone hdue happly hempty
    (lqHeld_hvTakes hq hlt (lqHeld_lateTaken.trans hheld))
  obtain ⟨hmode, hv, hi, hc⟩ := hvShown_hvTakes (h := h) (set := set) (m := s.m.lateTaken q due)
    (a := s.m.reg (hvOff h set 0))
    (b := s.m.reg (hvOff h set 1)) (c := s.m.reg (hvOff h set 2)) (d := s.m.reg (hvOff h set 3))
  rw [hv_hvTakes_self] at hmode hv hi hc
  refine answers_effect_always rfl (decide_eq_true (by omega)) ht ⟨hempty, ?_, ?_, ?_, ?_, ?_,
    set_hvTakes.trans (Nat.mod_eq_of_lt hset), applied_hvTakes, hmode, hv, hi, hc,
    hvEnabled_hvTakes.trans hstill,
    ((hk.mono (by simp)).trans (wordsOnly_hvTakes.mono (by simp))).frame⟩
  all_goals rw [hv_hvTakes_self]

/-! ### Range changes that end (R261, R287) -/

/-- The new range of an HV channel engages with the entry's words. -/
def Mod.rcEngaged (h : Nat) (a b c d : Word) (m : Mod) : Mod :=
  ((m.setHv h { m.hv h with w0 := a, w1 := b, w2 := c, w3 := d, rc := none, rcReq := none, dac := m.hvDac h a b }).wr
    (Reg.HV_STATE h) Fields.HV_STATE.RC_ACTIVE 0).showHv h true

section
variable {h : Nat} {a b c d : Word} {m : Mod}

/-- A range change that no request waits for engages, and nothing follows from it. -/
theorem rcFinish_alone (hrc : (m.hv h).rc = some (a, b, c, d)) (hreq : (m.hv h).rcReq = none) :
    m.rcFinish h = m.rcEngaged h a b c d := by
  unfold Mod.rcFinish
  dsimp only
  rw [hrc, hreq]
  rfl

theorem hv_showHv (j : Nat) (x : Mod) : (x.showHv h true).hv j = x.hv j := rfl

theorem hv_rcEngaged_self : (m.rcEngaged h a b c d).hv h =
    { m.hv h with w0 := a, w1 := b, w2 := c, w3 := d, rc := none, rcReq := none, dac := m.hvDac h a b } :=
  Mod.hv_setHv_self m h _

theorem hv_rcEngaged_ne {j : Nat} (hj : j ≠ h) : (m.rcEngaged h a b c d).hv j = m.hv j := Mod.hv_setHv_ne m h j _ hj

theorem wordsOnly_rcEngaged : WordsOnly [Reg.HV_STATE h] m (m.rcEngaged h a b c d) :=
  (((silent_setHv m h _).wordsOnly).wr _ _ _ List.mem_cons_self).trans (wordsOnly_showHv h _)

theorem rcActive_rcEngaged : (m.rcEngaged h a b c d).flag (Reg.HV_STATE h) Fields.HV_STATE.RC_ACTIVE = false := by
  have hzero : (m.rcEngaged h a b c d).rd (Reg.HV_STATE h) Fields.HV_STATE.RC_ACTIVE = 0 :=
    (rd_showHv_apart h _ _ (by decide) (by decide)).trans (Mod.rd_wr_self _ _ _ _ (by decide))
  rw [Mod.flag, hzero]
  rfl

theorem hvShown_rcEngaged : HvShown h ((m.rcEngaged h a b c d).hv h) (m.rcEngaged h a b c d) := by
  rw [Mod.rcEngaged, hv_showHv]
  exact hvShown_showHv h _

/-- The other channels of its queue being over with theirs, the queue is free again. -/
theorem lqHeld_rcEngaged (hh : h < 32) (hrest : ∀ k : Nat, k < 8 → 8 * (h / 8) + k ≠ h → (m.hv (8 * (h / 8) + k)).rc = none) :
    (m.rcEngaged h a b c d).lqHeld (16 + h / 8) = false := by
  refine (lqHeld_eq_false_iff (by omega) (by omega)).mpr fun i hi => ?_
  rw [Nat.add_sub_cancel_left]
  by_cases he : 8 * (h / 8) + i = h
  · rw [he, hv_rcEngaged_self]
  · rw [hv_rcEngaged_ne he]
    exact hrest i hi he

end

/-- A unit below 32 is an HV channel. -/
theorem exec_rangeChangeEnd_hv {h : Nat} (hh : h < 32) (s : State) :
    exec (.rangeChangeEnd h) s = runAlways (Wf.rangeChangeEnd h) (Mod.rangeChangeEnd h) s :=
  congrArg (fun f => runAlways (Wf.rangeChangeEnd h) f s) (funext fun _ => if_pos hh)

/-- The units from 32 on are the AS outputs. -/
theorem exec_rangeChangeEnd_as (n : Nat) (s : State) :
    exec (.rangeChangeEnd (32 + n)) s = runAlways (Wf.rangeChangeEnd (32 + n)) (Mod.asRangeEnd n) s := by
  have hunit (m : Mod) : (if 32 + n < 32 then m.rangeChangeEnd (32 + n) else m.asRangeEnd (32 + n - 32)) = m.asRangeEnd n := by
    rw [if_neg (by omega), Nat.add_sub_cancel_left]
  exact congrArg (fun f => runAlways (Wf.rangeChangeEnd (32 + n)) f s) (funext hunit)

theorem answers_rangeChangeEnd_hv (s : State) (h : Nat) (a b c d : Word) (hh : h < 32)
    (hrc : (s.m.hv h).rc = some (a, b, c, d)) (hreq : (s.m.hv h).rcReq = none) (hover : 1000 * (s.m.hv h).rcEnd ≤ s.m.ttime)
    (hrest : ∀ k : Nat, k < 8 → 8 * (h / 8) + k ≠ h → (s.m.hv (8 * (h / 8) + k)).rc = none)
    (hempty : (s.m.lq (16 + h / 8)).entries = []) :
    Answers (.rangeChangeEnd h) s (fun t => (t.hv h).rc = none ∧ (t.hv h).w0 = a ∧ (t.hv h).w1 = b ∧ (t.hv h).w2 = c ∧
      (t.hv h).w3 = d ∧ t.flag (Reg.HV_STATE h) Fields.HV_STATE.RC_ACTIVE = false ∧
      t.rd (Reg.HV_STATE h) Fields.HV_STATE.VRANGE = hvVrange a ∧
      t.rd (Reg.HV_STATE h) Fields.HV_STATE.IRANGE = hvIrange a ∧ t.outs = s.m.outs ∧ SameMemory s.m t ∧
      SameRegs [Reg.HV_STATE h] s.m t) := by
  have hgo : ((s.m.hv h).rc.isNone || decide (s.m.ttime < 1000 * (s.m.hv h).rcEnd)) = false := by
    simp [hrc, Nat.not_lt.mpr hover]
  have ht : s.m.rangeChangeEnd h = (s.m.rcEngaged h a b c d).lqApply (16 + h / 8) := by
    rw [← rcFinish_alone hrc hreq, Mod.rangeChangeEnd, hgo, if_neg Bool.false_ne_true]
  obtain ⟨hlive, hhvs⟩ := lqApply_empty (lqHeld_rcEngaged (a := a) (b := b) (c := c) (d := d) hh hrest) hempty
  have hhv : ((s.m.rcEngaged h a b c d).lqApply (16 + h / 8)).hv h = { s.m.hv h with
      w0 := a, w1 := b, w2 := c, w3 := d, rc := none, rcReq := none, dac := s.m.hvDac h a b } := by
    rw [Mod.hv, hhvs]
    exact hv_rcEngaged_self
  obtain ⟨-, hv, hi, -⟩ := hvShown_rcEngaged (h := h) (a := a) (b := b) (c := c) (d := d) (m := s.m)
  rw [hv_rcEngaged_self] at hv hi
  refine answers_effect_always (exec_rangeChangeEnd_hv hh s) (decide_eq_true (by omega)) ht ⟨?_, ?_, ?_, ?_, ?_,
    (flag_of_regs hlive.regs _ _).trans rcActive_rcEngaged, (rd_of_regs hlive.regs _ _).trans hv,
    (rd_of_regs hlive.regs _ _).trans hi, (wordsOnly_rcEngaged.silent hlive).frame⟩
  all_goals rw [hhv]

/-- The new range `v` of AS output `n` engages and the output resumes. -/
def Mod.asEngaged (n v : Nat) (m : Mod) : Mod :=
  (((m.wr (Reg.AS_STATE n) Fields.AS_STATE.VRANGE v).wr (Reg.AS_STATE n) Fields.AS_STATE.RC_ACTIVE 0).setAsl n
    { m.asl n with rc := none }).asOut n (m.asl n).code

section
variable {n v : Nat} {m : Mod}

theorem asl_asOut (y : Int) : (m.asOut n y).asl n =
    { m.asl n with code := y, dac := if (m.asl n).rc.isSome then (m.asl n).dac else m.asDac n y } :=
  Mod.asl_setAsl_self m n _

theorem wordsOnly_asEngaged : WordsOnly [Reg.AS_STATE n] m (m.asEngaged n v) :=
  ((((WordsOnly.refl _ m).wr _ _ _ List.mem_cons_self).wr _ _ _ List.mem_cons_self).silent (silent_setAsl _ n _)).silent
    (silent_setAsl _ n _)

theorem rc_asEngaged : ((m.asEngaged n v).asl n).rc = none := by
  rw [Mod.asEngaged, asl_asOut, Mod.asl_setAsl_self]

theorem queue_asEngaged : ((m.asEngaged n v).asl n).queue = (m.asl n).queue := by
  rw [Mod.asEngaged, asl_asOut, Mod.asl_setAsl_self]

theorem vrange_asEngaged (hv : v < 2) : (m.asEngaged n v).rd (Reg.AS_STATE n) Fields.AS_STATE.VRANGE = v :=
  (Mod.rd_wr_field _ _ _ _ _ (by decide)).trans <| (Mod.rd_wr_self _ _ _ _ (by decide)).trans (Nat.mod_eq_of_lt hv)

theorem rcActive_asEngaged : (m.asEngaged n v).flag (Reg.AS_STATE n) Fields.AS_STATE.RC_ACTIVE = false :=
  Mod.flag_wr_zero _ _ _ (by decide)

theorem asApply_empty (h : (m.asl n).queue = []) : m.asApply n = m := by
  unfold Mod.asApply
  dsimp only
  rw [h]

/-- The range change of an output with nothing held back and nothing to play ends. -/
theorem asRangeEnd_alone (hrc : (m.asl n).rc = some v) (hplay : (m.asl n).rcPlay = false)
    (hover : 1000 * (m.asl n).rcEnd ≤ m.ttime) (hempty : (m.asl n).queue = []) : m.asRangeEnd n = m.asEngaged n v := by
  have hheld (f : AsEntry → AsEntry) : (m.asl n).queue.map f = (m.asl n).queue := by rw [hempty, List.map_nil]
  have hsilent : (m.asEngaged n v).when (m.asl n).rcPlay (Mod.playBound n (1000 * (m.asl n).rcEnd)) = m.asEngaged n v := by
    rw [hplay, Mod.when_false]
  unfold Mod.asRangeEnd
  dsimp only
  rw [hrc]
  dsimp only
  rw [if_neg (Nat.not_lt.mpr hover), hheld]
  exact (congrArg (Mod.asApply n) hsilent).trans (asApply_empty (queue_asEngaged.trans hempty))

end

theorem answers_rangeChangeEnd_as (s : State) (n v : Nat) (hn : n < 8) (hv : v < 2) (hrc : (s.m.asl n).rc = some v)
    (hplay : (s.m.asl n).rcPlay = false) (hover : 1000 * (s.m.asl n).rcEnd ≤ s.m.ttime)
    (hempty : (s.m.asl n).queue = []) :
    Answers (.rangeChangeEnd (32 + n)) s (fun t => (t.asl n).rc = none ∧
      t.rd (Reg.AS_STATE n) Fields.AS_STATE.VRANGE = v ∧ t.flag (Reg.AS_STATE n) Fields.AS_STATE.RC_ACTIVE = false ∧
      t.outs = s.m.outs ∧ SameMemory s.m t ∧ SameRegs [Reg.AS_STATE n] s.m t) :=
  answers_effect_always (exec_rangeChangeEnd_as n s) (decide_eq_true (by omega)) (asRangeEnd_alone hrc hplay hover hempty)
    ⟨rc_asEngaged, vrange_asEngaged hv, rcActive_asEngaged, wordsOnly_asEngaged.frame⟩

/-! ### Measurements that end (R254, R255) -/

/-- The value of a measurement in its unit: the mean of its corrected conversions (R255). -/
def Mod.measValue (c : Nat) (x : Meas) (raws : List Int) (lsb : Nat) (m : Mod) : Int :=
  (raws.map (fun r => measCorr (m.measWord c x) r * (lsb : Int))).sum / ((2 ^ x.avg : Nat) : Int)

/-- The result word of a measurement with value `v` (Table 10.7). -/
def measResult (x : Meas) (limit ovr : Bool) (v : Int) : DWord :=
  BitVec.ofNat 64 (unsign 56 v + 2 ^ 56 * b2n limit + 2 ^ 57 * b2n ovr + 2 ^ 58 * b2n (measVolt x.chan x.mode))

/-- Whether a measurement with value `v` fails its limits. -/
def Meas.fails (x : Meas) (v : Int) : Bool := x.limitEn && (decide (v < x.lo) || decide (x.hi < v))

/-- RELEASE turns the channel's PMU off as its measurement ends. -/
def Mod.measReleased (x : Meas) (m : Mod) : Mod := if x.chan < 256 && x.release then m.pmuOff x.chan else m

section
variable {m : Mod} {c lsb b : Nat} {x : Meas} {raws : List Int}

/-- A measurement whose conversions are all there reports its word. -/
theorem measComplete_eq (limit ovr : Bool) (hx : m.meas c = some x) (hb : x.begin_ = some b) (hlen : raws.length = 2 ^ x.avg)
    (hover : b + 1000 * (x.settle + 2 ^ x.avg + 1) ≤ m.ttime) : m.measComplete c raws lsb limit ovr =
      ((m.setMeas c none).report x.job stOK (measResult x limit ovr (m.measValue c x raws lsb))
        (x.fails (m.measValue c x raws lsb)) 0 true).measReleased x := by
  have hdone : ¬ (raws.length ≠ 2 ^ x.avg ∨ m.ttime < b + 1000 * (x.settle + 2 ^ x.avg + 1)) := by
    simp [hlen, Nat.not_lt.mpr hover]
  unfold Mod.measComplete
  rw [hx]
  dsimp only
  rw [hb]
  exact if_neg hdone

theorem wordsOnly_measReleased : WordsOnly [chReg Reg.CH_LSTAT x.chan] m (m.measReleased x) := by
  unfold Mod.measReleased
  split
  · exact wordsOnly_pmuOff x.chan m
  · exact .refl _ m

theorem measReleased_hat : (m.measReleased x).hat = m.hat := by
  unfold Mod.measReleased
  split <;> rfl

theorem measReleased_meas : (m.measReleased x).meas c = m.meas c := by
  unfold Mod.measReleased
  split <;> rfl

theorem measReleased_pmu (hc : x.chan < 256) (hr : x.release = true) : ((m.measReleased x).lv x.chan).pmu = none ∧
    (m.measReleased x).flag (chReg Reg.CH_LSTAT x.chan) Fields.CH_LSTAT.PMU_ON = false := by
  have hoff : m.measReleased x = m.pmuOff x.chan := if_pos (by simp [hc, hr])
  rw [hoff]
  exact ⟨congrArg LvLive.pmu (Mod.lv_setLv_self m x.chan _), Mod.flag_wr_zero _ _ _ (by decide)⟩

end

theorem answers_pmuMeasComplete (s : State) (c i b lsb : Nat) (x : Meas) (raws : List Int) (limit ovr : Bool) (v : Int)
    (hc : c < 40) (hlsb : 1 ≤ lsb) (hx : s.m.meas c = some x) (hb : x.begin_ = some b) (hlen : raws.length = 2 ^ x.avg)
    (hover : b + 1000 * (x.settle + 2 ^ x.avg + 1) ≤ s.m.ttime) (hj : x.job.inst = some i) (ha : s.m.pairActive = false)
    (hv : v = (raws.map (fun r => measCorr (s.m.measWord c x) r * (lsb : Int))).sum / ((2 ^ x.avg : Nat) : Int)) :
    Answers (.pmuMeasComplete c raws lsb limit ovr) s (fun t => t.meas c = none ∧ t.hat.reports = s.m.hat.reports ++
      [⟨i, x.job.node, 0, BitVec.ofNat 64 (unsign 56 v + 2 ^ 56 * b2n limit + 2 ^ 57 * b2n ovr + 2 ^ 58 * b2n (measVolt
        x.chan x.mode)), x.limitEn && (decide (v < x.lo) || decide (x.hi < v)), 0, true⟩] ∧
      (x.chan < 256 → x.release = true → (t.lv x.chan).pmu = none ∧
        t.flag (chReg Reg.CH_LSTAT x.chan) Fields.CH_LSTAT.PMU_ON = false) ∧ t.outs = s.m.outs ∧ SameMemory s.m t ∧
      SameRegs [chReg Reg.CH_LSTAT x.chan] s.m t) := by
  have hsome : raws.isEmpty = false := by
    rw [List.isEmpty_eq_false_iff_exists_mem]
    exact List.exists_mem_of_length_pos (hlen ▸ Nat.two_pow_pos x.avg)
  have hwf : Wf.pmuMeasComplete c raws lsb = true := by simp [Wf.pmuMeasComplete, hc, hsome, hlsb]
  have ht := measComplete_eq (lsb := lsb) limit ovr hx hb hlen hover
  rw [show s.m.measValue c x raws lsb = v from hv.symm, report_alone (m := s.m.setMeas c none) hj ha] at ht
  refine answers_effect_always rfl hwf ht ⟨?_, ?_, measReleased_pmu,
    ((Silent.wordsOnly ⟨rfl, rfl, rfl, rfl⟩).trans wordsOnly_measReleased).frame⟩
  · rw [measReleased_meas]
    exact Mod.meas_setMeas_self s.m c none
  · rw [measReleased_hat]
    rfl

/-- Settles O35: a queue with one due entry applies it and no more, at the channels it names; a range change that ends
alone engages its words; a measurement that ends reports its word. -/
theorem levelQueuesAndMeasurements : Obligations.LevelQueuesAndMeasurements :=
  ⟨answers_levelQueueApply_lv, answers_levelQueueApply_hv, answers_rangeChangeEnd_hv, answers_rangeChangeEnd_as,
    answers_pmuMeasComplete⟩

end Sys2Proof.Machine
end
